-- ==== Sys2Proof/Word.lean ====
section
/-! DEFINITION.  The word types of the part and the plain data that commands carry. -/

namespace Sys2Proof

/-- A byte of memory or of a frame. -/
abbrev Byte := BitVec 8

/-- A 32-bit word: a register-page word or a word-core register. -/
abbrev Word := BitVec 32

/-- A 64-bit word: a bit-store word, a Stacks word, a double-precision register. -/
abbrev DWord := BitVec 64

/-- Sparse data by key: pairs of a key and a value, keys strictly rising, no entry equal to what an
unlisted key reads as (`Machine/SMap.lean` keeps that form). -/
abbrev SMap (α : Type) := List (Nat × α)

/-- Who performs a page access (R55, R62): `code` is (die << 5) + master index, `user` says that the
master is a word core in U mode. -/
structure Who where
  code : Nat
  user : Bool
  deriving DecidableEq, Repr

/-- How a message of the Partner link arrives (R298): whether its CRC is good, and FRAME and MSEQ of its header. -/
structure LinkHead where
  good : Bool
  frame : Nat
  seq : Nat
  deriving DecidableEq, Repr

/-- Measurements that a status frame of the Field die carries (R379): FV24 in mV, junction temperature in degrees
Celsius (9-bit two's complement), DO currents in mA, AO currents in units of 0.5 uA, trim pin levels (R406). -/
structure FieldReport where
  mv : Nat
  temp : Nat
  currents : List Nat
  loops : List Nat
  pins : Nat
  deriving DecidableEq, Repr

end Sys2Proof
end

