-- ==== Sys2Proof/Syntax.lean ====
section
/-! DEFINITION.  The commands of the block, one constructor per row of the opcode table.  The table gives no operands;
those here are what the row's rule names: dies, addresses, values, the content of a frame. -/

namespace Sys2Proof

/-- A command: one event of the opcode table (rule in brackets). -/
inductive Instr where
  /-- REGISTER_WRITE (R10). A write to a register that has no row of its own is applied, clamped, refused or slipped by its access code and Range. -/
  | registerWrite (w : Who) (die code off word : Nat)
  /-- RC_READ (R10). A read of an RC field returns its value and resets the field or pops the head entry. -/
  | rcRead (w : Who) (die code off : Nat)
  /-- KEY_WORD_WRITE (R56). A word written to KEYSEQ.KEY arms the page after the two correct words, or is slipped KEY. -/
  | keyWordWrite (w : Who) (die code word : Nat)
  /-- ARMING_EXPIRY (R56). A page arming expires 64 cycles after it was given. -/
  | armingExpiry (die code : Nat)
  /-- LOCK_GROUP_SET (R58). A 1 written to a LOCKS.GROUP bit locks the RWL fields of that group until power-on reset. -/
  | lockGroupSet (w : Who) (die code word : Nat)
  /-- SOFT_RESET (R53). A 1 written to PCTL.SRST starts a block soft reset, or is refused on the pages of R54. -/
  | softReset (w : Who) (die code : Nat) (en : Bool)
  /-- SOFT_RESET_END (R53). A block soft reset ends and PSTAT.READY returns to 1. -/
  | softResetEnd (die code : Nat)
  /-- IRQ_CLEAR (R52). A write to IRQ_CLR clears the named IRQ_RAW bits unless an event holds them set. -/
  | irqClear (w : Who) (die code word events : Nat)
  /-- IRQ_SET (R52). A write to IRQ_SET sets the named IRQ_RAW bits. -/
  | irqSet (w : Who) (die code word : Nat)
  /-- CLAMP_ZERO (R61). A 1 written to CLAMP.CTL.ZERO clears CLAMPS.COUNT of every page on the die and CLAMP.TOTAL. -/
  | clampZero (w : Who) (die word : Nat)
  /-- FIELD_PROXY_WRITE (R64). A write to a Field page is checked, applied to the proxy and queued for the control coupler. -/
  | fieldProxyWrite (w : Who) (code off word : Nat)
  /-- CONTROL_FRAME (R379). Every 25 us Keeper hardware sends a control frame to the Field die with pending proxy writes. -/
  | controlFrame
  /-- STATUS_FRAME (R379). A status frame from the Field die arrives with diagnostics, FV24 state, trim pins and confirmations. -/
  | statusFrame (good : Bool) (r : FieldReport)
  /-- FIELD_ABSENT (R380). After four consecutive missing status frames the Keeper declares the Field die absent. -/
  | fieldAbsent
  /-- FIELD_POWERUP (R380). The Field die reports a power-up of its own and the Keeper starts the push of the whole proxy. -/
  | fieldPowerup (mv : Nat)
  /-- PROXY_PUSH_END (R380). The push of the proxy to the Field die ends and PSTAT.STALE clears. -/
  | proxyPushEnd
  /-- PROXY_PULL_END (R380). The pull of the Field die's configuration into the proxy after a Keeper reset ends. -/
  | proxyPullEnd
  /-- TICK (R66). Tick n falls at TICK.EPOCH plus n times TICK.PERIOD and starts frame n on every die. -/
  | tick
  /-- CUT_COPY_END (R71). The Cut copy ends and input frames held in K-LINE are written into the receive image. -/
  | cutCopyEnd
  /-- SPREAD_END (R72). The Spread of snapshot n to a LIVE die ends and SPREAD_DONE is raised. -/
  | spreadEnd (die : Nat)
  /-- SPREAD_BY_DEADLINE (R73). At Tn + SPREAD_BY a die whose Spread has not ended withholds commit-ready. -/
  | spreadByDeadline
  /-- PTP_MASTER_LOST (R67). Loss of the PTP master sets TICK.STAT.HOLDOVER and ticks continue on the reference clock. -/
  | ptpMasterLost
  /-- PTP_MASTER_FOUND (R67). A PTP master found again ends holdover and the offset is removed by slewing. -/
  | ptpMasterFound
  /-- ROW_START (R84). A selected Timetable row starts START cycles after the die's tick, raising its fence and loading its budget counter. -/
  | rowStart (die row : Nat)
  /-- BUDGET_EXPIRY (R87). A row's budget counter reaches zero before its work is done and the engine is cut off. -/
  | budgetExpiry (die engine : Nat)
  /-- COMMIT_SAMPLE (R76). At Tn + COMMIT_AT the Frame watch samples commit-ready and the Commit, Hold or Safe path begins by mode. -/
  | commitSample
  /-- COMMIT_END (R76). The Commit gather ends and output image n replaces output image n-1 in one step. -/
  | commitEnd
  /-- SAFE_COPY_END (R178). The copy of the Safe image into the commit buffer ends and the buffers are exchanged. -/
  | safeCopyEnd
  /-- RELEASE_BUILD_END (R78). The build of the output frames of frame n into K-LINE ends. -/
  | releaseBuildEnd
  /-- RELEASE (R78). At Tn+1 + RELEASE_AT the release of frame n starts and Field outputs are sent over the couplers. -/
  | release
  /-- OUTPUT_FRAME_START (R271). At its fixed offset a Line port starts a station's OUTPUT frame, or drops it without the Tablet. -/
  | outputFrameStart (port : Nat)
  /-- MARGIN_CLEAR (R100). A 1 written to FWATCH.CTL.MARGIN_CLR sets FWATCH.MARGIN to its maximum. -/
  | marginClear (w : Who) (word : Nat)
  /-- TTBL_ROW_WRITE (R101). A write to TTBL.ROW_W3 stores the staged words into the selected shadow row, or is refused for the active bank. -/
  | ttblRowWrite (w : Who) (die word : Nat)
  /-- TTBL_POINTS (R95). A 1 written to TTBL.CTL.POINTS starts the check of the shadow bank. -/
  | ttblPoints (w : Who) (die word : Nat)
  /-- TTBL_CANCEL (R95). A 1 written to TTBL.CTL.CANCEL abandons a check or cancels a pending swap. -/
  | ttblCancel (w : Who) (die : Nat)
  /-- POINTS_CHECK_END (R83). The shadow-bank check ends, setting PENDING on success or reporting the failing row. -/
  | pointsCheckEnd (die : Nat)
  /-- TICK_POINTS_GO (R96). A 1 written to TICK.POINTS.GO gives points set together to every named die. -/
  | tickPointsGo (w : Who) (dies : Nat)
  /-- LOGIC (R112). The LOGIC lever writes the truth-table result of its operands, merged under the mask, to DST. -/
  | logicLever (die : Nat)
  /-- EDGE (R113). The EDGE lever replaces operand A by the edge word of snapshots n and n-1 and proceeds as LOGIC. -/
  | edgeLever (die : Nat)
  /-- MOVE (R114). The MOVE lever copies AUX+1 consecutive masked words in ascending order. -/
  | moveLever (die : Nat)
  /-- PACK (R115). The PACK lever gathers masked bits of A into consecutive lanes of an X word. -/
  | pack (die : Nat)
  /-- UNPACK (R115). The UNPACK lever spreads consecutive lanes of an X word to the masked lanes of DST. -/
  | unpack (die : Nat)
  /-- SKIPZ (R116). The SKIPZ lever skips the next AUX levers when its masked result is zero. -/
  | skipz (die : Nat)
  /-- SKIPNZ (R116). The SKIPNZ lever skips the next AUX levers when its masked result is not zero. -/
  | skipnz (die : Nat)
  /-- TSTART (R117). The TSTART lever calls a group of timers with IN from its result in the masked lanes. -/
  | tstart (die : Nat)
  /-- TRESET (R117). The TRESET lever resets masked timers or counters of a group. -/
  | treset (die : Nat)
  /-- CUP (R130). The CUP lever calls the count-up input of a group of counters. -/
  | cup (die : Nat)
  /-- CDN (R130). The CDN lever calls the count-down input of a group of counters. -/
  | cdn (die : Nat)
  /-- SYNC (R118). The SYNC lever waits until its masked operand meets its condition. -/
  | syncLever (die : Nat)
  /-- SYNC_TIMEOUT (R118). A SYNC wait reaches its maximum, raises lever fault SYNC_TIMEOUT and the program continues. -/
  | syncTimeout (die : Nat)
  /-- NOP (R119). The NOP lever does nothing for one cycle. -/
  | nopLever (die : Nat)
  /-- END (R119). The END lever counts a network, or with AUX[0] = 1 ends the slot's program. -/
  | endLever (die : Nat)
  /-- ILLEGAL_OP (R111). A lever with a reserved OP code raises lever fault ILLEGAL_OP and acts as NOP. -/
  | illegalOp (die : Nat)
  /-- ADVANCE_PASS_END (R131). A Timer rack advance pass over its set of timer groups ends. -/
  | advancePassEnd (die stalls : Nat)
  /-- MASK_LOW_WRITE (R120). A write to the low word of a mask entry is staged with its entry number. -/
  | maskLowWrite (w : Who) (die entry word : Nat)
  /-- MASK_HIGH_WRITE (R120). A write to the high word of a mask entry stores both words, held while a Signal Box row runs. -/
  | maskHighWrite (w : Who) (die entry word : Nat)
  /-- MASK_STORE (R121). A held mask store takes effect in the cycle after the Signal Box row ends. -/
  | maskStore (die : Nat)
  /-- SBOX_FAULT_CLEAR (R137). A 1 written to SBOX.CLR.FAULT clears SBOX.FAULT. -/
  | sboxFaultClear (w : Who) (die word : Nat)
  /-- TIMR_CLEAR (R139). A 1 written to TIMR.CTL.CLEAR resets every timer and counter, keeping presets and types. -/
  | timrClear (w : Who) (die word : Nat)
  /-- TIMR_CONFIG_APPLY (R139). A TIMR write held during a Signal Box or Timer rack row takes effect after the row ends. -/
  | timrConfigApply (die : Nat)
  /-- WATCH_CLEAR (R170). A 1 written to DBG.WATCH.CLR clears WATCH_HIT. -/
  | watchClear (w : Who) (die word : Nat)
  /-- RISCV_INSTRUCTION (R140). A standard RV32 instruction of the supported set retires with its fixed cycle count. -/
  | riscvInstruction (die core : Nat)
  /-- TRAP_ENTRY (R152). An exception, ECALL or EBREAK enters the trap handler in 12 cycles. -/
  | trapEntry (die core : Nat)
  /-- MRET (R155). MRET returns from a trap, re-executing SLOTEND for an idle core. -/
  | mret (die core : Nat)
  /-- INTERRUPT_TAKEN (R166). A deliverable router source is taken at an instruction boundary as a machine external interrupt. -/
  | interruptTaken (die core : Nat)
  /-- BEXT (R160). BEXT loads one bit of the bit store into rd. -/
  | bext (die core : Nat)
  /-- BDEP (R160). BDEP stores rs2[0] into one bit of the bit store. -/
  | bdep (die core : Nat)
  /-- BSETM (R160). BSETM ORs a mask into a half of a bit-store word atomically and returns the old half. -/
  | bsetm (die core : Nat)
  /-- BCLRM (R160). BCLRM clears masked bits of a half of a bit-store word atomically and returns the old half. -/
  | bclrm (die core : Nat)
  /-- BRISE (R160). BRISE returns the rising edge of a bit against P or an edge memory. -/
  | brise (die core : Nat)
  /-- BFALL (R160). BFALL returns the falling edge of a bit against P or an edge memory. -/
  | bfall (die core : Nat)
  /-- BEDGE (R160). BEDGE returns either edge of a bit against P or an edge memory. -/
  | bedge (die core : Nat)
  /-- BUDGET_RD (R160). BUDGET.RD returns the budget counter of the core's row. -/
  | budgetRd (die core : Nat)
  /-- SLOTEND (R154). SLOTEND declares the slot's work done and resumes a saved context or idles the core. -/
  | slotend (die core : Nat)
  /-- QPUT (R162). QPUT sends one queue entry against a credit and returns its status. -/
  | qput (die core : Nat)
  /-- QGET (R162). QGET pops the head of an own-die queue. -/
  | qget (die core : Nat)
  /-- TOKEN_ACQ (R163). TOKEN.ACQ tries once to take a Token and returns a status code. -/
  | tokenAcq (die core : Nat)
  /-- TOKEN_REL (R163). TOKEN.REL releases a Token and returns a status code. -/
  | tokenRel (die core : Nat)
  /-- SADD (R160). SADD forms a signed saturated sum. -/
  | sadd (die core : Nat)
  /-- SSUB (R160). SSUB forms a signed saturated difference. -/
  | ssub (die core : Nat)
  /-- SADDU (R160). SADDU forms an unsigned saturated sum. -/
  | saddu (die core : Nat)
  /-- SSUBU (R160). SSUBU forms an unsigned saturated difference. -/
  | ssubu (die core : Nat)
  /-- SCALE_S (R161). SCALE.S clamps a raw value and scales it to binary32 from a parameter block. -/
  | scaleS (die core : Nat)
  /-- LIMIT_W (R160). LIMIT.W limits a signed integer between two bounds. -/
  | limitW (die core : Nat)
  /-- LIMIT_S (R160). LIMIT.S limits a single-precision value between two bounds. -/
  | limitS (die core : Nat)
  /-- LIMIT_D (R160). LIMIT.D limits a double-precision value between two bounds. -/
  | limitD (die core : Nat)
  /-- CORE_START (R144). Clearing COREn.CTL.HOLD starts the core at BOOT in M mode. -/
  | coreStart (w : Who) (die core word : Nat)
  /-- SOFT_SET (R168). A 1 written to COREn.SOFT.SET sets router source 38 + n in every core's latch. -/
  | softSet (w : Who) (die core word : Nat)
  /-- ROUTER_CLEAR (R165). A write to COREn.RTR_CLR clears core n's edge latches. -/
  | routerClear (w : Who) (die core : Nat) (hi : Bool) (word : Nat)
  /-- DEBUG_HALT (R169). The debug module halts an allowed hart. -/
  | debugHalt (hart : Nat)
  /-- DEBUG_SYSTEM_BUS_ACCESS (R169). A debugger's system bus access is performed as Keeper master 7 or refused with sberror 4. -/
  | debugSystemBusAccess (write : Bool) (addr size value : Nat)
  /-- JUNCTION_REQUEST_COMPLETE (R38). A Junction request completes at its target and its reply returns to the requester. -/
  | junctionRequestComplete (w : Who) (write : Bool) (addr size value : Nat)
  /-- JUNCTION_TIMEOUT (R327). A request not completed 2,048 cycles after issue fails with ABORTED and is reported. -/
  | junctionTimeout (w : Who) (addr : Nat)
  /-- MODE_STOP (R191). A STOP request written to MODE.REQ is accepted or refused. -/
  | modeStop (w : Who)
  /-- MODE_RUN (R191). A RUN request written to MODE.REQ is checked under R193 or takes effect from Hold. -/
  | modeRun (w : Who) (start : Nat)
  /-- MODE_HOLD (R191). A HOLD request written to MODE.REQ is accepted or refused. -/
  | modeHold (w : Who) (start : Nat)
  /-- MODE_STEP (R191). A STEP request written to MODE.REQ makes the next frame a Step frame or is refused. -/
  | modeStep (w : Who)
  /-- START_PREPARATION_END (R193). Start preparation ends and the first Run or Hold frame is fixed. -/
  | startPreparationEnd
  /-- POWERUP_RUN_REQUEST (R192). Once the Safe image first becomes valid, Keeper firmware requests RUN with the POWERUP start kind. -/
  | powerupRunRequest
  /-- POWER_FAIL (R203). POWER_FAIL_N asserts and the part stops new work, cuts late rows and begins the hold-up sequence. -/
  | powerFail
  /-- RETAINED_SAVE_END (R203). The retained save into the Stacks copy ends and the run counters save starts. -/
  | retainedSaveEnd
  /-- RUN_COUNTER_SAVE_END (R463). The save of twin 35 ends and the Archive flush starts. -/
  | runCounterSaveEnd
  /-- POWER_RETURN (R463). POWER_FAIL_N deasserted for 10 ms after the hold-up ends performs a power-on reset with cause POWER. -/
  | powerReturn
  /-- SAFE_IMAGE_LOAD (R204). An accepted SAFE_IMAGE_LOAD command stages and checks a new Safe image. -/
  | safeImageLoad (image : List Byte)
  /-- SAFE_IMAGE_LOADED (R204). A staged Safe image is copied into K-IMAGE between two Commit samples and SAFE_VALID is set. -/
  | safeImageLoaded
  /-- PROGRAM_IMAGE_LOAD (R213). Keeper firmware checks and places a program image in Stop. -/
  | programImageLoad (directory image safe : List Byte)
  /-- CHANGE_LOAD (R219). An entry with tag 0xC001 in Q13 starts loading a change image. -/
  | changeLoad
  /-- CHANGE_LOAD_END (R220). A change load ends as LOADED or refused with its code. -/
  | changeLoadEnd (image : List Byte)
  /-- CHANGE_DISCARD (R219). An entry with tag 0xC002 in Q13 discards a LOADED change. -/
  | changeDiscard
  /-- CHANGE_COMMIT (R226). An accepted CHANGE_COMMIT command starts the pre-switch checks. -/
  | changeCommit
  /-- PRE_SWITCH_CHECK_END (R227). The pre-switch checks end, arming the change for frame s or returning it to LOADED. -/
  | preSwitchCheckEnd (result : List Byte) (partner : Nat)
  /-- POINTS_INSTANT (R228). At instant G the part gives points set to every die with a TTBL section. -/
  | pointsInstant
  /-- CARRY_START (R229). At the carry start the part decides to proceed and starts the carry-over and the task and retained updates. -/
  | carryStart
  /-- CARRY_END (R224). A die's DMA ends its carry-over entries. -/
  | carryEnd (die : Nat)
  /-- CARRY_DEADLINE (R225). A carry not ended 1 us before the switch tick is stopped and its remaining entries count as faults. -/
  | carryDeadline
  /-- CHANGE_REVERT (R233). An accepted CHANGE_REVERT returns an ARMED change to LOADED or switches back from SWITCHED. -/
  | changeRevert
  /-- RETAINED_RECORD_WRITE (R232). After a switch the part writes a record of the new retained list within 20 ms. -/
  | retainedRecordWrite
  /-- XSPI_GO (R238). A 1 written to XSPI.XCMD.GO starts one xSPI operation. -/
  | xspiGo (w : Who) (word : Nat)
  /-- XSPI_DONE (R238). An xSPI operation ends and DONE or ERROR is raised. -/
  | xspiDone (data : List Byte)
  /-- XSPI_DQS_TIMEOUT (R238). A read whose XSPI_DQS does not toggle within 1 us ends with STAT.ERROR. -/
  | xspiDqsTimeout
  /-- LINE_FRAME_RECEIVE (R242). A frame that passes the MAC checks on a Line port is sorted by EtherType. -/
  | lineFrameReceive (port stamp : Nat) (frame : List Byte) (fcs : Bool)
  /-- INPUT_FRAME (R253). A Slasel INPUT copy is checked and, when accepted, replaces the station's reference SEQ. -/
  | inputFrame
  /-- BINDING_WRITE (R269). The bindings of an accepted copy are written into the receive image in arrival order. -/
  | bindingWrite
  /-- SERVICE_UP_FRAME (R254). A SERVICE_UP frame is placed in K-LINE and posted to Q8 + n, or dropped. -/
  | serviceUpFrame
  /-- SERVICE_DOWN_SEND (R254). Keeper firmware sends a SERVICE_DOWN frame in traffic class 4. -/
  | serviceDownSend (ports station tag : Nat) (payload : List Byte)
  /-- PTP_MESSAGE (R243). A PTP message received on a Line port is timestamped and handled by the Porter. -/
  | ptpMessage
  /-- PTP_TIME_READ (R278). A read of PTP.TIME_LO returns global time and latches TIME_HI. -/
  | ptpTimeRead (w : Who)
  /-- LINE_LINK_CHANGE (R280). A Line port's link goes down or up, updating LINK and raising the LINK interrupt. -/
  | lineLinkChange (port : Nat) (up : Bool)
  /-- TSN_CHANGE (R248). A 1 written to TSN.CTL.CHANGE requests the administrative list to become operating. -/
  | tsnChange (w : Who)
  /-- GATE_ENTRY_EXPIRY (R247). A gate control list entry's interval ends and the next entry's gate states apply. -/
  | gateEntryExpiry (port : Nat)
  /-- STATION_ENTRY_WRITE (R257). A write to STN.ENT_W3 stores the staged words into the shadow Station Table entry. -/
  | stationEntryWrite (w : Who) (word : Nat)
  /-- CATALOGUE_ENTRY_WRITE (R264). A write to CAT.ENT_W2 stores the staged words into the shadow Catalogue entry. -/
  | catalogueEntryWrite (w : Who) (word : Nat)
  /-- CATALOGUE_SWAP (R268). A 1 written to CAT.CTL.SWAP starts the check of both shadow tables. -/
  | catalogueSwap (w : Who) (copy : Bool)
  /-- CATALOGUE_CHECK_END (R267). The Catalogue check ends, reporting a failure or scheduling the swap at the next tick. -/
  | catalogueCheckEnd
  /-- CATALOGUE_COPY (R268). A 1 written to CAT.CTL.COPY copies both active tables into their shadows. -/
  | catalogueCopy (w : Who)
  /-- SHUNT (R285). An accepted SHUNT command starts a Shunting of a LIVE die or is refused. -/
  | shunt
  /-- SHUNT_ABANDON (R319). A 1 written to SHUNT.REQ.ABANDON abandons a Shunting before its final delta. -/
  | shuntAbandon (w : Who)
  /-- PRECOPY_PASS_END (R289). A pre-copy pass ends, making the state READY after the first pass. -/
  | precopyPassEnd
  /-- DELTA_END (R291). The final delta and core state reach the target and the source raises commit-ready. -/
  | deltaEnd
  /-- HANDOVER_ACCEPT (R294). A Q13 entry with tag 0xA001 accepts the handover record. -/
  | handoverAccept
  /-- HANDOVER_REFUSE (R294). A Q13 entry with tag 0xA002 refuses the handover record and abandons the Shunting. -/
  | handoverRefuse
  /-- DIE_RETIRE (R281). An accepted DIE_RETIRE makes an OUT or SPARE die RETIRED and powers it off. -/
  | dieRetire
  /-- DIE_RETURN (R281). An accepted DIE_RETURN starts a destructive test of an OUT die. -/
  | dieReturn
  /-- RETURN_TEST_END (R281). The destructive test of a returning die ends and the die becomes SPARE or stays OUT. -/
  | returnTestEnd (die : Nat) (good : Bool)
  /-- PART_APPLY (R281). PART.REQ with OP APPLY in Stop applies the roles of PART.CFG.ROLES. -/
  | partApply (w : Who)
  /-- PART_REPLACE (R284). PART.REQ with OP REPLACE in Stop moves a die's workload to a SPARE die and reloads it. -/
  | partReplace (w : Who) (die dest : Nat) (image : List Byte)
  /-- SCAN_RAIL_LOSS (R20). VDD_Sn disappears from a Scan die, which is fenced, shown absent and archived. -/
  | scanRailLoss (die : Nat)
  /-- SCAN_RAIL_RETURN (R469). VDD_Sn returns to a Scan die, which stays off until the next power-on reset. -/
  | scanRailReturn (die : Nat)
  /-- HEADER_SWITCH (R21). A write to PWR.SW opens or closes the header switches of a non-LIVE Scan die. -/
  | headerSwitch (w : Who) (word : Nat)
  /-- HEARTBEAT (R300). A Partner-link HEARTBEAT message arrives with the partner's state and settings digest. -/
  | heartbeat (m : LinkHead) (payload : List Byte)
  /-- HEARTBEAT_MISSING (R299). A heartbeat not arrived by Tj + 10 us is missing and enough of them make the link silent. -/
  | heartbeatMissing
  /-- LANE_ALIGNMENT_LOSS (R299). Loss of Partner-link lane alignment makes the link silent. -/
  | laneAlignmentLoss
  /-- SNAP (R302). A SNAP message delivers snapshot bytes into the mirror staging. -/
  | snapMessage (m : LinkHead) (offset : Nat) (data : List Byte)
  /-- SIDE (R301). A SIDE message delivers the side record of a mirrored frame. -/
  | sideMessage (m : LinkHead) (payload : List Byte)
  /-- DELTA (R302). A DELTA message delivers committed output words into a K-DEPOT delta slot. -/
  | deltaMessage (m : LinkHead) (payload : List Byte)
  /-- END_MESSAGE (R303). An END message closes a mirrored frame with its digest, which decides completeness. -/
  | endMessage (m : LinkHead) (digest : List Byte) (crc count : Nat)
  /-- ABORT (R304). An ABORT message discards the present mirrored frame and ends synchronisation. -/
  | abortMessage (m : LinkHead)
  /-- MIRROR_APPLY_DEADLINE (R302). At Tn+1 + 1 us a standby applies mirrored frame n if complete, or runs nothing. -/
  | mirrorApplyDeadline
  /-- BULK (R305). A BULK message delivers one 4 KiB region to the standby. -/
  | bulkMessage (m : LinkHead) (name region : Nat) (data : List Byte)
  /-- BULK_KEEPER (R305). A BULK_KEEPER message delivers Keeper tables to the standby. -/
  | bulkKeeper (m : LinkHead) (object offset : Nat) (data : List Byte)
  /-- PAIR_SYNC_REQUEST (R305). A 1 written to PAIR.REQ.SYNC requests a bulk synchronisation. -/
  | pairSyncRequest (w : Who)
  /-- ARM (R235). An ARM notice from the active part arms the same change on the standby. -/
  | armNotice (m : LinkHead) (identity frame : Nat) (revert : Bool)
  /-- GO (R235). A GO marker lets the standby switch its change at Ts. -/
  | goMarker (m : LinkHead) (identity frame : Nat)
  /-- YIELD (R314). A YIELD from the active part lets a synchronised standby take over. -/
  | yieldMessage (m : LinkHead) (named : Nat)
  /-- TABLET_WANT (R306). A write to TABLET.CTL.WANT seeks or releases the Tablet. -/
  | tabletWant (w : Who) (word : Nat)
  /-- TABLET_SEEN_CHANGE (R306). The partner's claim line changes and the Tablet state machine reacts. -/
  | tabletSeenChange (asserted : Bool)
  /-- CLAIM_HOLD_EXPIRY (R306). After 10 us of claim with the partner's line deasserted the part enters HELD. -/
  | claimHoldExpiry
  /-- BACKOFF_EXPIRY (R306). After 20 us in BACKOFF the Tablet state returns to IDLE. -/
  | backoffExpiry
  /-- VERDICT (R313). An authentic witness VERDICT is accepted and the part leaves ACTIVE or takes over. -/
  | verdict (data : List Byte)
  /-- WITNESS_HEARTBEAT_SEND (R308). At its 2 ms slot the part sends its CAN-A witness HEARTBEAT. -/
  | witnessHeartbeatSend
  /-- WITNESS_LOSS (R313). No authentic verdict within T_LOSS x 2 ms clears PAIR.STAT.WITNESS and raises WITNESS. -/
  | witnessLoss
  /-- TAKEOVER (R316). A standby decides to take over, sets WANT and enters TAKING. -/
  | takeover
  /-- SILENT_EXPIRY (R314). A SILENT standby not in TAKING within SILENT_MS becomes ISOLATED. -/
  | silentExpiry
  /-- STARTING_TIMEOUT (R314). A STARTING part with a silent link and deasserted claim for 1 s becomes ACTIVE. -/
  | startingTimeout
  /-- PAIR_SWITCH (R315). An accepted PAIR_SWITCH makes the active part yield to a SYNCED standby. -/
  | pairSwitch
  /-- FAB_FENCE (R329). A write to FAB.FENCE raises a port fence on a Scan die's spoke. -/
  | fabFence (w : Who) (word : Nat)
  /-- FAB_UNFENCE (R329). A write to FAB.UNFENCE lifts a die's fence after its queued requests have failed. -/
  | fabUnfence (w : Who) (word : Nat)
  /-- QUEUE_ENABLE (R331). Writing QUE.Qq_CFG.EN = 1 enables a queue and sends its allotments as credits. -/
  | queueEnable (w : Who) (die q word : Nat)
  /-- QUEUE_DISABLE (R334). Writing QUE.Qq_CFG.EN = 0 empties the ring and recalls its credits. -/
  | queueDisable (w : Who) (die q word : Nat)
  /-- QUEUE_PUSH (R331). A write to QUE.PUSH sends an entry against a credit. -/
  | queuePush (w : Who) (die word : Nat)
  /-- QUEUE_ENTRY_ARRIVAL (R333). A queue entry arrives at its destination port and enters the ring. -/
  | queueEntryArrival (sender die queue : Nat)
  /-- QUEUE_POP (R334). A 1 written to QUE.Qq_POP pops the head and returns its credit. -/
  | queuePop (w : Who) (die q word : Nat)
  /-- CREDIT_RETURN (R332). A returned credit reaches the sender's port. -/
  | creditReturn (src die queue : Nat)
  /-- TOKEN_PAGE_ACQ (R350). A Keeper master's write to TOKEN.ACQ tries once to take a Token. -/
  | tokenPageAcq (w : Who) (word : Nat)
  /-- TOKEN_PAGE_REL (R350). A Keeper master's write to TOKEN.REL releases a Token. -/
  | tokenPageRel (w : Who) (word : Nat)
  /-- BANK_POWER_SET (R338). A write to MEM.PWR moves a bank to On, Retention or Off. -/
  | bankPowerSet (w : Who) (die word : Nat)
  /-- BANK_WAKE_DONE (R338). A waking bank returns to On and WAKE_DONE is raised. -/
  | bankWakeDone (die bank : Nat)
  /-- SCRUB_READ (R340). The scrubber reads the next word of a bank and rewrites a corrected single-bit error. -/
  | scrubRead (die : Nat)
  /-- DMA_GO (R537). A write to MEM.DMA_GO starts a DMA chain outside any row, or is ignored while one runs. -/
  | dmaGo (w : Who) (die word : Nat)
  /-- DMA_CHAIN_END (R341). A DMA chain ends at its LAST descriptor or stops at a faulting descriptor. -/
  | dmaChainEnd (die : Nat)
  /-- MARCH_START (R342). A 1 written to MARCH.CTL.START starts a March test of a bank. -/
  | marchStart (w : Who) (die word : Nat)
  /-- MARCH_STOP (R342). A 1 written to MARCH.CTL.STOP restores any Loan and stops the test. -/
  | marchStop (w : Who) (die word : Nat)
  /-- LOAN_END (R344). A Loan is tested and restored and the engine moves to the next Loan. -/
  | loanEnd (die : Nat) (fault : Bool) (word bit : Nat) (lost : Bool)
  /-- LOAN_ABORT (R345). An access to an open Loan restores the word and aborts the Loan for a later retry. -/
  | loanAbort (die : Nat)
  /-- MARCH_DONE (R346). A March test ends as DONE or FAILED. -/
  | marchDone (die : Nat) (fault : Bool) (word bit : Nat)
  /-- MARCH_REPAIR (R349). A 1 written to MARCH.REPAIR.GO starts an in-service row or column repair or refuses it. -/
  | marchRepair (w : Who) (die word : Nat)
  /-- REPAIR_DONE (R349). A repair switches the map, rewrites the repair map and raises REPAIRED. -/
  | repairDone (die : Nat) (written : Bool)
  /-- CAN_ENABLE (R358). A write of CANx.CTL.EN checks the bit timing and starts integration or returns to INIT. -/
  | canEnable (w : Who) (ch word : Nat)
  /-- CAN_INTEGRATED (R358). After 11 recessive bits the controller becomes ERROR_ACTIVE. -/
  | canIntegrated (ch : Nat)
  /-- CAN_TX_REQUEST (R360). A bit of CANx.TXCMD.REQ makes a transmit buffer PENDING. -/
  | canTxRequest (w : Who) (ch buffers : Nat)
  /-- CAN_TX_ABORT (R363). A bit of CANx.TXCMD.ABORT aborts a buffer or marks its abort pending. -/
  | canTxAbort (w : Who) (ch buffers : Nat)
  /-- CAN_ARBITRATION_LOST (R361). A buffer that loses arbitration stays PENDING or becomes ABORTED under a pending abort. -/
  | canArbitrationLost (ch : Nat)
  /-- CAN_TX_END (R362). A transmitted frame completes with a final buffer state, TX_DONE and a controller entry. -/
  | canTxEnd (ch : Nat)
  /-- CAN_FRAME_RECEIVE (R364). A valid CAN frame meets the filters and enters the FIFO or is dropped. -/
  | canFrameReceive (ch : Nat) (ide : Bool) (id dlc : Nat) (fdf brs rtr esi : Bool) (data : List Byte) (sof : Nat)
  /-- CAN_ERROR (R368). A detected bus error updates the error counters and state. -/
  | canError (ch lec : Nat) (dataPhase transmitting : Bool) (step : Nat)
  /-- CAN_RECOVER (R369). A keyed write of CANx.CTL.RECOVER in BUS_OFF starts recovery. -/
  | canRecover (w : Who) (ch : Nat)
  /-- CAN_RECOVERY_END (R369). After 128 recessive sequences the controller becomes ERROR_ACTIVE with zero counters. -/
  | canRecoveryEnd (ch : Nat)
  /-- BUS_OFF_DELAY_EXPIRY (R369). BO_DELAY x 10 ms after bus-off Keeper firmware writes RECOVER. -/
  | busOffDelayExpiry (ch : Nat)
  /-- CAN_RX_FLUSH (R366). A 1 written to CANx.CTL.RX_FLUSH empties the FIFO and clears the lock. -/
  | canRxFlush (w : Who) (ch : Nat)
  /-- CAN_RX_LOCK (R366). A read of word 0 of the head entry locks the head to the reading master. -/
  | canRxLock (w : Who) (ch : Nat)
  /-- CAN_RX_POP (R366). The lock holder's read of the last word pops the head entry. -/
  | canRxPop (w : Who) (ch : Nat)
  /-- CAN_FORWARD (R372). The Porter forwards a frame accepted by a forwarding filter to a Scan-die queue. -/
  | canForward (ch : Nat)
  /-- CAN_TX_SERVICE (R373). The Porter loads a complete transmit request from its queue into TXB1 or TXB2. -/
  | canTxService (ch : Nat)
  /-- DI_SAMPLE (R384). Every whole microsecond the Keeper samples each DI coupler and counts the debounce run. -/
  | diSample (levels : Nat)
  /-- EDGE_POP (R386). A read of F/FDI.EDGE_HI returns and pops the head edge. -/
  | edgePop (w : Who)
  /-- DO_TRIP (R387). An overcurrent for 100 us or an overheat turns a DO off and sets SHORT or THERMAL. -/
  | doTrip (k : Nat) (thermal : Bool)
  /-- DO_RETRY (R387). Every 100 ms a tripped DO with RETRY set tries again. -/
  | doRetry (k : Nat)
  /-- DO_CLEAR_SHORT (R387). A 1 written to F/FDO.CLR.SHORT clears a latched trip. -/
  | doClearShort (w : Who) (word : Nat)
  /-- OPEN_LOAD (R388). An output on with under 5 mA for 100 ms sets OPEN, or the bit clears after 100 ms at 5 mA. -/
  | openLoad (k : Nat) (open' : Bool)
  /-- LOOP_FAULT (R390). A loop reading off by more than 0.2 mA for 50 ms sets LOOP_FAULT. -/
  | loopFault (k : Nat) (fault : Bool)
  /-- COUPLER_FAULT (R378). A DO or AO coupler carrier missing for 100 us is a coupler fault for its channel. -/
  | couplerFault (ch : Nat) (fault : Bool)
  /-- FSK_TX_WRITE (R407). A write to F/FSK.TXk queues one character, or is counted as dropped. -/
  | fskTxWrite (w : Who) (k word : Nat)
  /-- FSK_CHARACTER_SENT (R392). The modem sends one character and turns its carrier off after the last. -/
  | fskCharacterSent (k : Nat)
  /-- FSK_CHARACTER_RECEIVE (R391). A received FSK character enters the receive FIFO. -/
  | fskCharacterReceive (k char : Nat) (parityErr framingErr : Bool)
  /-- FSK_RX_POP (R407). A read of F/FSK.RXk returns and pops the head character. -/
  | fskRxPop (w : Who) (k : Nat)
  /-- SILENCE_EXPIRY (R395). The Field die's silence timer expires and it applies the safe or hold response. -/
  | silenceExpiry
  /-- FPX_MUTE (R395). A keyed 1 written to FPX.CTL.MUTE stops the control frames. -/
  | fpxMute (w : Who) (word : Nat)
  /-- MUTE_END (R402). After 300 ms hardware writes FPX.CTL.MUTE back to 0. -/
  | muteEnd
  /-- FIELD_ARM (R394). A 1 written to F/FSAFE.CTL.ARM arms the outputs from the next release. -/
  | fieldArm (w : Who)
  /-- FIELD_DISARM (R394). A 1 written to F/FSAFE.CTL.DISARM disarms the outputs at once. -/
  | fieldDisarm (w : Who)
  /-- FV24_CROSSING (R398). A FV24 measurement crosses a level threshold, which is stamped, counted and archived. -/
  | fv24Crossing (mv : Nat)
  /-- TRIM_STEP (R399). A write to F/FAO.TRIM.STEP drives the ZERO or SPAN code or ends the command trim. -/
  | trimStep (w : Who) (word : Nat)
  /-- TRIM_PIN_PRESS (R400). A press of a trim button steps Z or S by 2 units. -/
  | trimPinPress (up : Bool)
  /-- TRIM_PIN_HOLD (R400). Both trim pins low for 3 s advance the pin trim state. -/
  | trimPinHold (sel : Bool)
  /-- TRIM_TIMEOUT (R400). 60 s without a press abandons the pin trim and restores Z and S. -/
  | trimTimeout
  /-- TRIM_COMMIT (R401). An accepted TRIM_COMMIT writes the trim of both channels to twin 1. -/
  | trimCommit
  /-- NVC_WORD_QUEUE (R414). A write to NVC.DATA_HI queues a Stacks word and advances NVC.ADDR. -/
  | nvcWordQueue (w : Who) (word : Nat)
  /-- STACKS_WORD_WRITE_END (R410). The write engine finishes writing one Stacks word. -/
  | stacksWordWriteEnd
  /-- STACKS_READ (R413). A read through the Stacks window returns a corrected word or faults on a poisoned one. -/
  | stacksRead (w : Who) (off n : Nat)
  /-- NVC_CLEAR_POISON (R436). A 1 written to NVC.CLR.POISON clears STAT.POISON. -/
  | nvcClearPoison (w : Who) (word : Nat)
  /-- REFRESH_PAGE (R419). Every INTERVAL x 10 ms the refresh engine rewrites the next page. -/
  | refreshPage
  /-- ARCHIVE_RECORD (R429). A complete record run assembled from Q12 is admitted to the reading room or dropped. -/
  | archiveRecord
  /-- BUDGET_REFILL (R432). Every 20 s the Archive endurance bucket refills. -/
  | budgetRefill
  /-- ARCHIVE_FLUSH (R433). A 1 written to ARCH.CTL.FLUSH starts a flush. -/
  | archiveFlush (w : Who)
  /-- RECORD_AGE_FLUSH (R433). An unflushed record 60 s old starts a flush. -/
  | recordAgeFlush
  /-- FLUSH_END (R433). A flush ends and DURABLE advances. -/
  | flushEnd (failing : List Nat)
  /-- ARCHIVE_ANNOUNCE (R435). Every 60 s a failed Archive repeats its CAN-A announcement. -/
  | archiveAnnounce
  /-- TALLY_UPDATE (R427). A write to ARCH.TALLY_GO applies the staged value to a tally or clears it. -/
  | tallyUpdate (w : Who) (word : Nat)
  /-- TALLY_DEFINE (R426). A write to ARCH.TALLY_DEF defines and clears a tally or undefines it. -/
  | tallyDefine (w : Who) (word : Nat)
  /-- BIN_EDGE_WRITE (R438). A write to ARCH.EDGEk sets an edge and raises every later edge below it. -/
  | binEdgeWrite (w : Who) (k word : Nat)
  /-- TALLY_SNAPSHOT (R428). A 1 written to ARCH.CTL.SNAP snapshots every changed tally. -/
  | tallySnapshot (w : Who)
  /-- TALLY_SNAPSHOT_PERIOD (R428). Every SNAP_MIN minutes changed tallies are snapshotted. -/
  | tallySnapshotPeriod
  /-- TALLY_SNAPSHOT_END (R433). A tally snapshot ends. -/
  | tallySnapshotEnd (failing : List Nat)
  /-- SUPPLY_CHANGEOVER_VBAT (R441). VDD_IO below 1.62 V switches the always-on rail to VBAT. -/
  | supplyChangeoverVbat
  /-- SUPPLY_CHANGEOVER_MAIN (R441). VDD_IO qualified for 100 us switches the always-on rail back and the continuity latch is checked. -/
  | supplyChangeoverMain
  /-- CONTINUITY_LOSS (R442). A dip of the always-on rail below 1.2 V clears the continuity latch. -/
  | continuityLoss
  /-- ALWAYS_ON_RESET (R458). The always-on rail rises through 0.9 V and resets the always-on domain. -/
  | alwaysOnReset
  /-- VBAT_MEASURE (R443). Once a second the VBAT monitor measures the cell and may set VBAT_LOW. -/
  | vbatMeasure (mv : Nat)
  /-- RTC_SECOND (R444). The RTC subsecond count rolls over and S advances by one second. -/
  | rtcSecond
  /-- XTAL_FAIL (R445). No crystal edge for 2 ms switches the always-on domain to the RC oscillator. -/
  | xtalFail
  /-- XTAL_RETURN (R445). 64 good crystal edges return the always-on domain to the crystal. -/
  | xtalReturn
  /-- RTC_LOAD (R447). A 1 written to RTC.CTL.LOAD loads the staged value at the next roll-over. -/
  | rtcLoad (w : Who)
  /-- RTC_SYNC (R447). A 1 written to RTC.CTL.SYNC loads the staged value at the next whole second of global time. -/
  | rtcSync (w : Who)
  /-- RTC_MEASURE_START (R449). A 1 written to RTC.MEAS_CFG.START starts a rate measurement window. -/
  | rtcMeasureStart (w : Who) (word : Nat)
  /-- RTC_MEASURE_END (R449). A measurement window ends, reporting MEAS.PPM and applying it to TRIM with AUTO. -/
  | rtcMeasureEnd (ppm : Int)
  /-- MAINS_LOSS (R449). No mains crossing for 100 ms abandons a mains-referenced measurement. -/
  | mainsLoss
  /-- COMPARATOR_EDGE (R451). A filtered comparator edge of the selected kind sets its flag and may wake the part. -/
  | comparatorEdge (n : Nat) (rising : Bool)
  /-- GUARD_SERVICE (R452). A Stationmaster write to GUARD.SERVICE restarts the Guard count. -/
  | guardService (w : Who) (word : Nat)
  /-- GUARD_WARN (R452). At 75 % of the count the Guard raises WARN. -/
  | guardWarn
  /-- GUARD_EXPIRY (R454). The Guard expires, latching its slip and resetting the part or waking it. -/
  | guardExpiry
  /-- GUARD_KEY (R455). A write to GUARD.KEY advances or voids the disable sequence. -/
  | guardKey (w : Who) (word : Nat)
  /-- GUARD_ENABLE (R455). A 1 written to GUARD.CTL.EN re-enables the Guard and restarts its count. -/
  | guardEnable (w : Who)
  /-- GUARD_LOCK (R455). A 1 written to GUARD.CTL.LOCK bars the key sequence until power-on reset. -/
  | guardLock (w : Who) (word : Nat)
  /-- GUARD_DISABLE (R455). An accepted GUARD_DISABLE makes Keeper firmware perform the key sequence. -/
  | guardDisable
  /-- REFCLK_FAIL (R457). The active reference stops being good and the part changes over or treats both lost as power loss. -/
  | refclkFail (r : Nat)
  /-- REFCLK_REVERT (R457). The preferred reference good for 10 ms is taken back with REVERT set. -/
  | refclkRevert (r : Nat)
  /-- POWER_ON_RESET (R458). A rail, RESET_N, Guard, software, reference or JTAG cause asserts power-on reset. -/
  | powerOnReset (cause : Nat)
  /-- RESET_RELEASE (R459). All reset conditions clear and the release sequence starts the Keeper and the self-test. -/
  | resetRelease (aGood bGood senior : Bool)
  /-- SELFTEST_END (R460). The start-up self-test ends, repairing faults or failing dies. -/
  | selftestEnd (keeperFault : Bool) (failed : Nat) (repairs : List (Nat × Nat × Nat × Nat × Nat))
  /-- BOOT (R492). The boot ROM selects, checks and starts a Keeper firmware image. -/
  | boot
  /-- PART_RESET (R470). A keyed 1 written to RST.CTL.PART starts a power-on reset with cause SOFTWARE. -/
  | partReset (w : Who)
  /-- DIE_RESET (R470). A bit written to RST.DIE_RESET resets a non-LIVE Scan die. -/
  | dieReset (w : Who) (word : Nat)
  /-- DIE_RETAIN (R466). A write to PWR.RETAIN holds a Scan die in Retention or resumes it. -/
  | dieRetain (w : Who) (word : Nat)
  /-- SLEEP_REQUEST (R464). A Q13 entry with tag 0xC010 enters Quiescent sleep when allowed. -/
  | sleepRequest (blocks tallies : List Nat)
  /-- WAKE (R465). An enabled wake event restarts the PLLs and resumes the Stationmaster. -/
  | wake (mspi : Bool)
  /-- MODE_SET (R485). An accepted MODE_SET command writes MODE.REQ. -/
  | modeSet
  /-- UPDATE_OPEN (R493). An accepted UPDATE_OPEN opens an update session for a level. -/
  | updateOpen
  /-- UPDATE_CLOSE (R493). UPDATE_OPEN of level 0 closes the open session. -/
  | updateClose
  /-- SESSION_DATA (R494). A session data frame is written into the slot when its offset matches, and answered. -/
  | sessionData
  /-- SESSION_TIMEOUT (R493). 60 s without a data frame closes the session with TIMEOUT. -/
  | sessionTimeout
  /-- SESSION_VERIFY_END (R495). The digest and signature check of a received image ends as VERIFIED or FAILED. -/
  | sessionVerifyEnd
  /-- UPDATE_ACTIVATE (R496). An accepted UPDATE_ACTIVATE arms a Keeper activation or starts an Executive rotation. -/
  | updateActivate
  /-- PARTNER_DONE_DEADLINE (R497). Without the partner's DONE 100 ms before Ta a paired part disarms its activation. -/
  | partnerDoneDeadline
  /-- FIRMWARE_COPY_END (R498). The new Keeper image copy into K-CORE ends and the cores start at ENTRY. -/
  | firmwareCopyEnd (good : Bool)
  /-- UPD_RESUME (R498). A 1 written to UPD.CTL.RESUME ends the outage from the next tick. -/
  | updResume (w : Who)
  /-- RESUME_DEADLINE (R498). No RESUME by Ta + 7.5 ms triggers a fallback to the old image. -/
  | resumeDeadline
  /-- ROTATION_STEP (R502). The next die of an Executive rotation is shunted in HANDOVER mode or reloaded. -/
  | rotationStep
  /-- UPD_HEALTHY (R504). A 1 written to UPD.CTL.HEALTHY gives the Keeper health mark. -/
  | updHealthy (w : Who)
  /-- EXECUTIVE_HEALTH_MARK (R504). A Q13 entry with tag 0xA010 gives a die's Executive health mark. -/
  | executiveHealthMark
  /-- UPDATE_CONFIRM (R505). An accepted UPDATE_CONFIRM ends a trial and raises the SVN floor. -/
  | updateConfirm
  /-- TRIAL_DEADLINE (R506). At DEADLINE a trial becomes STABLE or falls back with cause HEALTH. -/
  | trialDeadline
  /-- SETTINGS_READ (R508). A Q13 entry with tag 0xA020 reads an Executive settings twin into a bank D buffer. -/
  | settingsRead
  /-- SETTINGS_WRITE (R508). A Q13 entry with tag 0xA021 writes an Executive settings twin or its migration record. -/
  | settingsWrite
  /-- NV_PROTECT (R417). An accepted NV_PROTECT writes NVP.BP and twin 0. -/
  | nvProtect
  /-- KEY_ROTATE (R487). An accepted KEY_ROTATE rewrites a key slot, the owner public key or the vendor floor. -/
  | keyRotate
  /-- TIME_SET (R450). An accepted TIME_SET in Stop steps global time and loads the RTC at the next second. -/
  | timeSet
  /-- BUS_RECOVER (R485). An accepted BUS_RECOVER writes CANx.CTL.RECOVER under its key. -/
  | busRecover
  /-- MSPI_STATUS (R481). The MSPI STATUS command returns IN_BUSY and OUT_READY. -/
  | mspiStatus
  /-- MSPI_WRITE_IN (R481). The MSPI WRITE_IN command places a frame in the inbound mailbox. -/
  | mspiWriteIn (length : Nat) (frame : List Byte)
  /-- MSPI_READ_OUT (R481). The MSPI READ_OUT command returns the reply and empties the outbound mailbox. -/
  | mspiReadOut
  /-- MSPI_UNKNOWN_COMMAND (R511). An unlisted MSPI command byte is ignored, counted and raises ERROR. -/
  | mspiUnknownCommand
  /-- AUTH_COUNTER_READ (R509). A read of AUTH.CTR_LO or CEIL_LO latches the high word. -/
  | authCounterRead (w : Who) (ceil : Bool)
  /-- FSUP_LAST_READ (R408). A read of F/FSUP.LAST_LO latches LAST_HI. -/
  | fsupLastRead (w : Who)
  /-- UPD_DEADLINE_READ (R510). A read of UPD.DEADLINE_LO latches DEADLINE_HI. -/
  | updDeadlineRead (w : Who)
  /-- PARTNER_LINK_ALIGNED (R298). Both Partner-link lanes become aligned and the link comes up, letting a NOSYNC or ISOLATED standby request a bulk synchronisation. -/
  | partnerLinkAligned
  /-- FSK_CARRIER_CHANGE (R407). The FSK modem detects the appearance or loss of a carrier on the loop, updating STAT.CARRIER and raising CARRIER. -/
  | fskCarrierChange (k : Nat) (on : Bool)
  /-- PTP_MESSAGE_INTERVAL (R243). At each configured log interval the Porter sends Sync with Follow_Up, Announce or Pdelay_Req on the PTP ports. -/
  | ptpMessageInterval (port kind : Nat)
  /-- RTC_SYNC_LOAD (R447). At the first RTC edge at or after a whole second of global time a pending SYNC load (or TIME_SET step) takes effect. -/
  | rtcSyncLoad
  /-- RTC_RESYNC_PERIOD (R450). Every 3,600 s while a PTP slave outside holdover, Keeper firmware loads the RTC from global time with SYNC. -/
  | rtcResyncPeriod
  /-- DEBUG_RESUME (R169). The debug module resumes a halted hart, clearing its halted status. -/
  | debugResume (hart : Nat)
  /-- AUTHORITY_REPLY (R497). An AUTHORITY message carrying the partner's reply arrives over the Partner link, arming a level-1 activation or being sent back on the original transport. -/
  | authorityReply (m : LinkHead) (frame : List Byte)
  /-- TEMPERATURE_SAMPLE (R532). Once a second Keeper firmware reads the on-die temperature sensors and accrues the hottest die's seconds into the bands of twin 35. -/
  | temperatureSample (temps : List Int)
  deriving DecidableEq, Repr

end Sys2Proof
end

