-- ==== Sys2Proof/Decode.lean ====
section
/-! DEFINITION.  The commands that words of the opcode table spell.  No row of the table gives bits: commands come to the block
as bus accesses, messages, frames, pins and instants, so that no word spells one. -/

namespace Sys2Proof

/-- The command of a table word: none, for the table gives no row any bits. -/
def decodeTableWord (_nbits _w : Nat) : Option Instr := none

end Sys2Proof
end

