-- ==== Sys2Proof/Config.lean ====
section
/-! DEFINITION.  What an implementation fixes and what the spec leaves open: opaque constants, so that no proof
can see their values.  The log entry of each is named. -/

namespace Sys2Proof.Config

/-- A value the spec leaves open, by the number drawn from `State.freeCtr` (log entry 2). -/
opaque freeValue : Nat → Nat

/-- `PREV` of a page: the block revision fixed by the silicon step, by die and page code (R51). -/
opaque blockRevision : Nat → Nat → Nat

/-- `SYS.PART.STEP` (R467). -/
opaque siliconStep : Nat

/-- The fused identity of a die (R467), by die. -/
opaque uid : Nat → Nat

/-- The fused tick-line compensation of a Scan die (R25, R468). -/
opaque tickComp : Nat → Nat

/-- The fused 256-bit device key (R475; log entry 23). -/
opaque deviceKey : List Byte

/-- The key that a slot holds whose wrapped key fails the check of RFC 3394: R475 asks only the copy's MAGIC, SLOT and CRC of
a valid copy (log entry 23). -/
opaque unwrapFailed : List Byte → List Byte

/-- The fused SHA-256 of vendor public key 0 or 1 (R476; log entry 23). -/
opaque vendorHash : Nat → List Byte

/-- offsetScaledLogVariance of the part's PTP default data set (R243). -/
opaque ptpVariance : Nat

/-- Bit FAILED of the heartbeats, by the global time of sending: the spec names the bit and what the witness does on it, not what sets
it (R300, R310, R312; log entry 50). -/
opaque partFailed : Nat → Bool

/-- The 4,096 bytes in which a BULK message carries what the mask table, the rack, the configuration block or the core
state block of a die holds, from the numbers it holds (R288, R298, R305: no layout given; log entry 64). -/
opaque packBlock : List Nat → List Byte
/-- The numbers that such a block carries. -/
opaque unpackBlock : List Byte → List Nat

/-- Whether mtval of an illegal-instruction exception holds the instruction's bits, and mtval of a breakpoint its
address; zero otherwise (log entry 22). -/
opaque illegalTval : Bool
/-- See `illegalTval`. -/
opaque breakTval : Bool

/-- Whether the current of R390 is rounded up when it lies halfway between two units (log entry 70). -/
opaque aoTie : Int → Bool

end Sys2Proof.Config
end

