-- ==== Sys2Proof/Machine/Bits.lean ====
section
/-! DEFINITION.  Bit fields of numbers, two's complement, saturation and byte order. -/

namespace Sys2Proof.Bits

/-- The `n` bits of `w` from bit `lo` up. -/
def field (w lo n : Nat) : Nat := (w >>> lo) % 2 ^ n

/-- `w` with its `n` bits from `lo` up replaced by `v`. -/
def setField (w lo n v : Nat) : Nat := w - ((field w lo n) <<< lo) + ((v % 2 ^ n) <<< lo)

/-- Bit `i` of `w`. -/
def bit (w i : Nat) : Bool := (w >>> i) % 2 == 1

/-- `w` with bit `i` set to `b`. -/
def setBit (w i : Nat) (b : Bool) : Nat := setField w i 1 (if b then 1 else 0)

/-- One or zero. -/
def ofBool (b : Bool) : Nat := if b then 1 else 0

/-- The bits of `a` that are not in `b`, over `n` bits. -/
def minus (n a b : Nat) : Nat := a &&& ((2 ^ n - 1) ^^^ (b % 2 ^ n))

/-- The two's complement value of the low `n` bits of `w`. -/
def toInt (n w : Nat) : Int :=
  if w % 2 ^ n < 2 ^ (n - 1) then ((w % 2 ^ n : Nat) : Int) else ((w % 2 ^ n : Nat) : Int) - (2 ^ n : Nat)

/-- The low `n` bits of an integer in two's complement. -/
def ofInt (n : Nat) (i : Int) : Nat := (i % ((2 ^ n : Nat) : Int)).toNat

/-- A sum that stops at the top of `n` bits. -/
def satAdd (n a b : Nat) : Nat := min (a + b) (2 ^ n - 1)

/-- The integer limited to `[lo, hi]`. -/
def clampInt (lo hi x : Int) : Int := if x < lo then lo else if hi < x then hi else x

/-- The bytes of `v`, least significant first (R9: memory). -/
def toLE : Nat → Nat → List Byte
  | 0, _ => []
  | n + 1, v => BitVec.ofNat 8 v :: toLE n (v / 256)

/-- The number that bytes, least significant first, spell. -/
def ofLE : List Byte → Nat
  | [] => 0
  | b :: bs => b.toNat + 256 * ofLE bs

/-- The bytes of `v`, most significant first (R9: frames). -/
def toBE (n v : Nat) : List Byte := (toLE n v).reverse

/-- The number that bytes, most significant first, spell. -/
def ofBE (bs : List Byte) : Nat := ofLE bs.reverse

/-- The numbers of the set bits of `w` among bits 0 to `n - 1`, rising. -/
def members (n w : Nat) : List Nat := (List.range n).filter (fun i => bit w i)

/-- The mask with the named bits set. -/
def maskOf (l : List Nat) : Nat := l.foldl (fun m i => m ||| (1 <<< i)) 0

/-- The number of set bits among the low `n`. -/
def count (n w : Nat) : Nat := (members n w).length

end Sys2Proof.Bits
end

