-- ==== Sys2Proof/Machine/Crypto.lean ====
section
/-! DEFINITION.  The published algorithms that the spec names and does not repeat: AES-256 (FIPS 197), its CMAC (SP 800-38B, R479),
the AES key wrap of RFC 3394 (R475, R487) and the check of an ECDSA P-256 signature (FIPS 186, R489).  PRESUMED from
those standards, not from the spec (log entry 23). -/

namespace Sys2Proof.Machine.Crypto

open Sys2Proof.Bits

/-! ### AES-256 -/

/-- A product in the field of 2^8 elements of FIPS 197. -/
def gmul (a b : Nat) : Nat :=
  ((List.range 8).foldl (fun (acc : Nat × Nat) i =>
    (if bit b i then acc.1 ^^^ acc.2 else acc.1, if bit acc.2 7 then (2 * acc.2) % 256 ^^^ 0x1B else 2 * acc.2)) (0, a)).1

/-- The inverse in that field, 0 for 0: the power 254. -/
def ginv (a : Nat) : Nat :=
  (List.range 7).foldl (fun acc i => gmul acc ((List.range (i + 1)).foldl (fun b _ => gmul b b) a)) 1

/-- Rotates a byte left. -/
def rotl8 (a n : Nat) : Nat := (a <<< n) % 256 ||| a >>> (8 - n)

/-- SubBytes of one byte. -/
def sbox (a : Nat) : Nat :=
  let b := ginv a
  [1, 2, 3, 4].foldl (fun x n => x ^^^ rotl8 b n) (b ^^^ 0x63)

/-- The inverse of SubBytes of one byte. -/
def sboxInv (a : Nat) : Nat := ginv ([3, 6].foldl (fun x n => x ^^^ rotl8 a n) (rotl8 a 1 ^^^ 0x05))

/-- Byte `i` of a list. -/
def at_ (l : List Nat) (i : Nat) : Nat := (l[i]?).getD 0

/-- The bitwise sum of two blocks. -/
def xors (a b : List Nat) : List Nat := List.zipWith (· ^^^ ·) a b

/-- Word `i` of the key schedule, from the words before it, latest first. -/
def nextKeyWord (i : Nat) (r : List (List Nat)) : List Nat :=
  let last := (r[0]?).getD []
  let t :=
    if i % 8 = 0 then xors ((last.drop 1 ++ last.take 1).map sbox) [1 <<< (i / 8 - 1), 0, 0, 0]
    else if i % 8 = 4 then last.map sbox
    else last
  xors ((r[7]?).getD []) t

/-- The 15 round keys of a 32-byte key. -/
def roundKeys (key : List Nat) : List (List Nat) :=
  let first := (List.range 8).map fun i => (key.drop (4 * i)).take 4
  let words := ((List.range 52).foldl (fun r k => nextKeyWord (k + 8) r :: r) first.reverse).reverse
  (List.range 15).map fun k => ((words.drop (4 * k)).take 4).flatten

/-- ShiftRows of a block, byte `4c + r` standing in row `r` and column `c`; `back` undoes it. -/
def shiftRows (back : Bool) (b : List Nat) : List Nat :=
  (List.range 16).map fun i => at_ b ((if back then i + 16 - 4 * (i % 4) else i + 4 * (i % 4)) % 16)

/-- MixColumns of a block with the coefficients of its first row. -/
def mixColumns (co : List Nat) (b : List Nat) : List Nat :=
  (List.range 16).map fun i =>
    (List.range 4).foldl (fun x j => x ^^^ gmul (at_ co ((j + 4 - i % 4) % 4)) (at_ b (i / 4 * 4 + j))) 0

/-- AES-256 of one block. -/
def encrypt (key block : List Nat) : List Nat :=
  let ks := roundKeys key
  let start := xors block ((ks[0]?).getD [])
  let rounds := ((ks.drop 1).take 13).foldl (fun b k => xors (mixColumns [2, 3, 1, 1] (shiftRows false (b.map sbox))) k) start
  xors (shiftRows false (rounds.map sbox)) ((ks[14]?).getD [])

/-- The inverse of `encrypt`. -/
def decrypt (key block : List Nat) : List Nat :=
  let ks := roundKeys key
  let start := xors block ((ks[14]?).getD [])
  let rounds := ((ks.drop 1).take 13).reverse.foldl
    (fun b k => mixColumns [14, 11, 13, 9] (xors ((shiftRows true b).map sboxInv) k)) start
  xors ((shiftRows true rounds).map sboxInv) ((ks[0]?).getD [])

/-- Bytes as numbers. -/
def nats (bs : List Byte) : List Nat := bs.map BitVec.toNat

/-- Numbers as bytes. -/
def bytes (ns : List Nat) : List Byte := ns.map (BitVec.ofNat 8)

/-- AES-256 of 16 bytes. -/
def aes (key : List Byte) (block : List Byte) : List Byte := bytes (encrypt (nats key) (nats block))

/-- The inverse of `aes`. -/
def aesInv (key : List Byte) (block : List Byte) : List Byte := bytes (decrypt (nats key) (nats block))

/-! ### CMAC (SP 800-38B) -/

/-- Doubles in the field of 2^128 elements. -/
def double (x : Nat) : Nat := if bit x 127 then (2 * x) % 2 ^ 128 ^^^ 0x87 else 2 * x

/-- The last block of a message under the two subkeys. -/
def lastBlock (k1 k2 : Nat) (tail : List Byte) : Nat :=
  if tail.length = 16 then k1 ^^^ ofBE tail
  else k2 ^^^ ofBE (tail ++ [0x80] ++ List.replicate (15 - tail.length) 0)

/-- The 16 bytes of the AES-256-CMAC of a message. -/
def cmac (key msg : List Byte) : List Byte :=
  let k1 := double (ofBE (aes key (List.replicate 16 0)))
  let n := (msg.length - 1) / 16
  let chain := (List.range n).foldl (fun x i => ofBE (aes key (toBE 16 (x ^^^ ofBE ((msg.drop (16 * i)).take 16))))) 0
  toBE 16 (ofBE (aes key (toBE 16 (chain ^^^ lastBlock k1 (double k1) (msg.drop (16 * n))))))

/-! ### Key wrap (RFC 3394) -/

/-- The integrity value. -/
def wrapIv : Nat := 0xA6A6A6A6A6A6A6A6

/-- The 64-bit blocks of bytes, `n` of them. -/
def octets (n : Nat) (bs : List Byte) : List Nat := (List.range n).map fun i => ofBE ((bs.drop (8 * i)).take 8)

/-- One step of the wrap: the register and the block number `t - 1 mod n`. -/
def wrapStep (key : List Byte) (n : Nat) (v : Nat × List Nat) (t : Nat) : Nat × List Nat :=
  let b := aes key (toBE 8 v.1 ++ toBE 8 (at_ v.2 ((t - 1) % n)))
  (ofBE (b.take 8) ^^^ t, v.2.set ((t - 1) % n) (ofBE (b.drop 8)))

/-- One step of the unwrap. -/
def unwrapStep (key : List Byte) (n : Nat) (v : Nat × List Nat) (t : Nat) : Nat × List Nat :=
  let b := aesInv key (toBE 8 (v.1 ^^^ t) ++ toBE 8 (at_ v.2 ((t - 1) % n)))
  (ofBE (b.take 8), v.2.set ((t - 1) % n) (ofBE (b.drop 8)))

/-- The key wrap of whole 64-bit blocks. -/
def keyWrap (key plain : List Byte) : List Byte :=
  let n := plain.length / 8
  let v := ((List.range (6 * n)).map (· + 1)).foldl (wrapStep key n) (wrapIv, octets n plain)
  (v.1 :: v.2).flatMap (toBE 8)

/-- The key wrap undone; `none` where the integrity check fails. -/
def keyUnwrap (key wrapped : List Byte) : Option (List Byte) :=
  let n := wrapped.length / 8 - 1
  let v := ((List.range (6 * n)).map (· + 1)).reverse.foldl (unwrapStep key n) (ofBE (wrapped.take 8), octets n (wrapped.drop 8))
  if v.1 = wrapIv then some (v.2.flatMap (toBE 8)) else none

/-! ### ECDSA over P-256 -/

/-- The prime of P-256. -/
def prime : Nat := 0xFFFFFFFF00000001000000000000000000000000FFFFFFFFFFFFFFFFFFFFFFFF
/-- The order of its base point. -/
def order : Nat := 0xFFFFFFFF00000000FFFFFFFFFFFFFFFFBCE6FAADA7179E84F3B9CAC2FC632551
/-- The coefficient b; a is -3. -/
def curveB : Nat := 0x5AC635D8AA3A93E7B3EBBD55769886BC651D06B0CC53B0F63BCE3C3E27D2604B
/-- The base point. -/
def base : Nat × Nat :=
  (0x6B17D1F2E12C4247F8BCE6E563A440F277037D812DEB33A0F4A13945D898C296,
    0x4FE342E2FE1A7F9B8EE7EB4A7C0F9E162BCE33576B315ECECBB6406837BF51F5)

/-- A power modulo `m`, over `n` bits of the exponent. -/
def powMod (m : Nat) : Nat → Nat → Nat → Nat
  | 0, _, _ => 1
  | n + 1, b, e =>
    let h := powMod m n (b * b % m) (e / 2)
    if e % 2 = 1 then b * h % m else h

/-- The inverse modulo a prime. -/
def inverse (m a : Nat) : Nat := powMod m 256 (a % m) (m - 2)

/-- Whether numbers are a point of the curve. -/
def onCurve (q : Nat × Nat) : Bool :=
  decide (q.1 < prime) && decide (q.2 < prime) && q.2 * q.2 % prime == (q.1 * q.1 * q.1 + (prime - 3) * q.1 + curveB) % prime

/-- The third point on a line of slope `m` through two points, mirrored. -/
def chord (m : Nat) (p q : Nat × Nat) : Nat × Nat :=
  let x := (m * m + 2 * prime - p.1 - q.1) % prime
  (x, (m * (p.1 + prime - x) + prime - p.2) % prime)

/-- The sum of two points; `none` is the point at infinity. -/
def addPoints : Option (Nat × Nat) → Option (Nat × Nat) → Option (Nat × Nat)
  | none, q => q
  | p, none => p
  | some p, some q =>
    if p.1 = q.1 then
      if (p.2 + q.2) % prime = 0 then none
      else some (chord ((3 * p.1 * p.1 + (prime - 3)) * inverse prime (2 * p.2) % prime) p q)
    else some (chord ((q.2 + prime - p.2) * inverse prime (q.1 + prime - p.1) % prime) p q)

/-- A multiple of a point, over `n` bits of the factor. -/
def times : Nat → Nat → Option (Nat × Nat) → Option (Nat × Nat)
  | 0, _, _ => none
  | n + 1, k, p =>
    let h := times n (k / 2) (addPoints p p)
    if k % 2 = 1 then addPoints p h else h

/-- Whether `signature`, r then s, signs `digest` under the public key X then Y, each most significant byte first. -/
def ecdsaVerify (key digest signature : List Byte) : Bool :=
  let q := (ofBE (key.take 32), ofBE (key.drop 32))
  let r := ofBE (signature.take 32)
  let s := ofBE (signature.drop 32)
  let w := inverse order s
  let sum := addPoints (times 256 (ofBE digest * w % order) (some base)) (times 256 (r * w % order) (some q))
  onCurve q && decide (0 < r) && decide (r < order) && decide (0 < s) && decide (s < order) &&
    match sum with
    | some p => p.1 % order == r
    | none => false

end Sys2Proof.Machine.Crypto
end

