-- ==== Sys2Proof/Machine/Dyn.lean ====
section
/-! DEFINITION.  The fields whose Range depends on other state (R59), by the name of the field. -/

namespace Sys2Proof

/-- Names of the Ranges that `Machine/Ranges.lean` computes. -/
inductive Dyn where
  | static
  | TICK_RELEASE_AT_US | FWATCH_SPREAD_BY_US | FWATCH_COMMIT_AT_US | TTBL_ROW_W0_START
  | TIMR_SEL_INDEX | TIMR_CFG_TYPE | TIMR_PRESET_VALUE | TIMR_SETs_LAST
  | TIMR_SETs_WORD | COREn_CTL_HOLD | COREn_BOOT_ADDR | COREn_CUTVEC_ADDR
  | TASK_CFG_TYPE | TASK_CFG_PRIO | TASK_CFG_PERIOD | TASK_CFG_DIES
  | TASK_TRIG_KIND | TASK_TRIG_SRC | TASK_TRIG_EDGE | TASK_ERR_CAUSES
  | IMG_RET_CFG_PF_GRACE | IMG_RETi_W0_START | IMG_RETi_W1_LENGTH | XSPI_ADDR_ADDR
  | XSPI_LEN_BYTES | XSPI_XCMD_DMA | XSPI_XCMD_GO | STN_ENT_W0_KIND
  | STN_ENT_W0_DROP | STN_ENT_W0_RING_A | STN_ENT_W0_RING_B | STN_ENT_W0_MAC_HI
  | STN_ENT_W2_IN_LEN | STN_ENT_W2_OUT_LEN | STN_ENT_W3_CAT_COUNT | CAT_ENT_W0_FORMAT
  | CAT_ENT_W0_POLICY | CAT_ENT_W1_OFFSET | CAT_ENT_W1_LENGTH | CAT_ENT_W2_IMAGE
  | CAT_CTL_SWAP | STN_CFG_ETYPE | STN_GROUP_HI_ADDR | LINEn_MAC_HI_ADDR
  | SHUNT_CFG_RATE | SHUNT_CFG_TRIES | SHUNT_CFG_DELTA_MAX | PART_REQ_OP
  | PART_CFG_ROLES | PAIR_MAP_DIES | FAB_UNFENCE_DIES | QUE_Qq_CFG_DEPTH
  | QUE_Qq_ALLOT_LO_SRCs | QUE_Qq_ALLOT_HI_SRCs | MEM_PWR_BANKb | MARCH_CTL_MODE
  | MARCH_CTL_BANK | MARCH_REPAIR_INDEX | MARCH_EXEMPTi_W0_FIRST | MARCH_EXEMPTi_W1_LAST
  | CANx_CTL_FD_EN | CANx_CTL_LISTEN | CANx_CTL_TXORDER | CANx_CTL_PXHD
  | CANx_CTL_RECOVER | CANx_NBT_BRP | CANx_NBT_TSEG1 | CANx_NBT_TSEG2
  | CANx_NBT_SJW | CANx_DBT_BRP | CANx_DBT_TSEG1 | CANx_DBT_TSEG2
  | CANx_DBT_SJW | CANx_DBT_TDC_EN | CANx_DBT_TDCO | CANx_TXBb_W0_IDE
  | CANx_TXBb_W0_ID | CANx_TXBb_W1_DLC | CANx_TXBb_W1_FDF | CANx_TXBb_W1_BRS
  | CANx_TXBb_W1_RTR | CANx_TXBb_Dk_DATA | CANx_FLTi_W0_ID | CANx_FLTi_W1_MASK
  | CANx_FLTi_W2_FWD_EN | F_FAO_CFGk_MODE | F_FAO_TRIM_STEP | F_FSAFE_CTL_ARM
  | ARCH_EDGEk_VALUE | PWR_SW_DIES | RST_DIE_RESET_DIES | GUARD_CTL_EN
  | RTC_STAGE_HI_SEC | RTC_STAGE_LO_SEC | RTC_CTL_LOAD | RTC_CTL_SYNC
  | AUTH_CFG_ETYPE | UPD_CFG_CONFIRM_WINDOW | UPD_CTL_HEALTHY | UPD_CTL_RESUME
  deriving DecidableEq, Repr

/-- Names of the fields that show state held elsewhere (`Machine/Live.lean`). -/
inductive Live where
  | stored
  | BUDGET_ENGe_LEFT_CYCLES | TIMR_VALUE_VALUE | TIMR_STATE_IN | TIMR_STATE_RUN
  | TIMR_STATE_Q | TIMR_STATE_QD | TIMR_STATE_SAT | COREn_STAT_STATE
  | COREn_STAT_PRIV | COREn_STAT_BG_VALID | COREn_STAT_HALTED | COREn_STAT_FROZEN
  | COREn_PC_ADDR | COREn_RTR_PEND0_SRC | COREn_RTR_PEND1_SRC | COREn_RTR_CLR0_SRC
  | COREn_RTR_CLR1_SRC | DBG_STAT_SCAN_HALTED | S_DBG_STAT_HALTED | S_DBG_STAT_ALLOWED
  | TASK_PENDING0_TASKS | TASK_PENDING1_TASKS | TASK_LATCHED0_TASKS | TASK_LATCHED1_TASKS
  | IMG_STAT_SAVING | IMG_STAT_RET_VALID_A | IMG_STAT_RET_VALID_B | IMG_STAT_RET_NEWEST | IMG_RET_SIZE_BYTES
  | IMG_RET_SEQ_SEQ | IMG_RET_FRAME_N | IMG_RET_TORN_LO_TASKS | IMG_RET_TORN_HI_TASKS
  | FAB_FENCE_DIES | FAB_UNFENCE_DIES | QUE_Qq_STAT_COUNT | QUE_Qq_HEAD_LO_DATA
  | QUE_Qq_HEAD_HI_DATA | TOKEN_OWNER_HELD | TOKEN_OWNER_BROKEN | CANx_RX_Wj_DATA
  | SYS_INV_PRESENT | SYS_INV_LIVE | SYS_INV_SPARE | SYS_NAME_ROLE | SYS_NAME_NAME | SHUNT_DIRTY_REGIONS
  | AUTH_STAT_OWNER_PK | AUTH_STAT_VENDOR_FLOOR | AUTH_ROLES_LO_ROLES | AUTH_ROLES_HI_ROLES
  | AUTH_CTR_LO_N | AUTH_CEIL_LO_N | UPD_KSVN_SVN | UPD_ESVN_SVN
  | RTC_SUB_COUNT | GUARD_STAT_LEFT_MS | UPD_DEADLINE_LO_NS
  | XCHG_STAT_RELEASE | SYS_PART_STEP | SYS_UID_LO_ID | SYS_UID_HI_ID | CLK_TICK_COMP_CYCLES
  deriving DecidableEq, Repr

end Sys2Proof
end

