-- ==== Sys2Proof/Machine/RegDef.lean ====
section
/-! DEFINITION.  What a row of a register table says of a field (spec/00 R10 to R13, spec/02 R51 to R59). -/

namespace Sys2Proof

/-- The access codes of R10. -/
inductive Acc where
  | rw | ro | rc | wo | w1c | w1s | rwk | rwl
  deriving DecidableEq, Repr

/-- Registers that show one entry of a table at a time: what selects the entry. -/
inductive Win where
  | none        -- an ordinary register
  | ttblRow     -- `TTBL.ROWSEL`
  | timer       -- `TIMR.SEL`
  | task        -- `TASK.SEL`
  | stnEntry    -- `STN.SEL` station and bank
  | station     -- `STN.SEL` station
  | catEntry    -- `CAT.SEL`
  | tsnPort     -- `TSN.SEL.PORT`
  | tsnEntry    -- `TSN.SEL` port and entry
  | credit      -- `QUE.SEL`
  | master      -- the accessing master
  | token       -- `TOKEN.SEL`
  | binSet      -- `ARCH.BIN_SEL`
  | tally       -- `ARCH.TALLY_SEL`
  | slot        -- `AUTH.SEL`
  | mask        -- entries of the mask table: written words are staged
  deriving DecidableEq, Repr

/-- A field of a register page.  `on`: the kinds of die that have it (1 Keeper, 2 Field, 4 Scan, added);
`code`: page code; `off`: offset of the register (of element 0 of an array); `dims`: count and stride of
each array dimension; `lanes`: count and stride of fields repeated inside the register; `rk`: how the
reset value depends on the place (`resetAt`); `wix`: the table entry a windowed field is taken of. -/
structure FieldDef where
  on : Nat
  code : Nat
  off : Nat
  lsb : Nat
  width : Nat
  acc : Acc
  reset : Nat := 0
  rk : Nat := 0
  dims : List (Nat × Nat) := []
  lanes : Nat × Nat := (1, 0)
  sgn : Bool := false
  frz : Bool := false
  dyn : Dyn := .static
  live : Live := .stored
  win : Win := .none
  segs : List (Int × Int × Int) := []
  wix : Nat := 0
  deriving DecidableEq, Repr

namespace FieldDef

/-- Stride of array dimension `n`. -/
def stride (f : FieldDef) (n : Nat) : Nat := ((f.dims[n]?).getD (0, 0)).2

/-- Element `i` of an array of registers. -/
def i (f : FieldDef) (k : Nat) : FieldDef := { f with off := f.off + k * f.stride 0 }

/-- Element `k` of the second array dimension. -/
def i2 (f : FieldDef) (k : Nat) : FieldDef := { f with off := f.off + k * f.stride 1 }

/-- Lane `k` of a field repeated inside its register. -/
def j (f : FieldDef) (k : Nat) : FieldDef := { f with lsb := f.lsb + k * f.lanes.2 }

/-- The field on the page of instance `n` (LINEn, CANx, COREn). -/
def p (f : FieldDef) (n : Nat) : FieldDef := { f with code := f.code + n }

/-- The field of entry `k` of its table. -/
def w (f : FieldDef) (k : Nat) : FieldDef := { f with wix := k }

/-- The key a field is stored under on die `die`: table entry, die, page, offset and lowest bit, each in its own digits. -/
def key (f : FieldDef) (die : Nat) : Nat :=
  (((f.wix * 8 + die % 8) * 64 + f.code % 64) * 4096 + f.off % 4096) * 32 + f.lsb % 32

/-- The reset value on die `die` (R13); the codes `rk` are `COREn.BOOT`, `LINEn.STAT.RING`,
`FAB.STAT.FENCED` and `SYS.NAME.NAME`. -/
def resetAt (f : FieldDef) (die : Nat) : Nat :=
  match f.rk with
  | 0 => f.reset
  | 1 => 0x100000 * (f.code - 0x0E)
  | 2 => (f.code - 0x1D) / 2
  | 3 => if die = 0 then 0x3F else 0x01
  | _ => die

/-- The field's bits of a register word. -/
def get (f : FieldDef) (word : Nat) : Nat := (word >>> f.lsb) % 2 ^ f.width

end FieldDef

end Sys2Proof
end

