-- ==== Sys2Proof/Machine/Regs.lean ====
section
/-! DEFINITION.  The register fields of the part, one constant per row of the register tables of
spec/02 to spec/15: page code, offset, bits, access code, reset value and Range.  `dyn` marks a Range
that depends on other state (`Machine/Ranges.lean`); `frz` one whose legal value in Run and Hold is
the present value. -/

namespace Sys2Proof.Reg

/-! ### CLAMP (02_register_pages.md R61) -/

def CLAMP_CTL_ARCHIVE : FieldDef := { on := 7, code := 0x4, off := 0x100, lsb := 0, width := 1, acc := .rw, reset := 1 }
def CLAMP_CTL_ZERO : FieldDef := { on := 7, code := 0x4, off := 0x100, lsb := 1, width := 1, acc := .wo }
def CLAMP_STAT_NEXT : FieldDef := { on := 7, code := 0x4, off := 0x104, lsb := 0, width := 5, acc := .ro }
def CLAMP_SEQ_NEXT : FieldDef := { on := 7, code := 0x4, off := 0x108, lsb := 0, width := 32, acc := .ro }
def CLAMP_TOTAL_COUNT : FieldDef := { on := 7, code := 0x4, off := 0x10C, lsb := 0, width := 32, acc := .ro }
def CLAMP_RINGi_Ww : FieldDef := { on := 7, code := 0x4, off := 0x400, lsb := 0, width := 32, acc := .ro, dims := [(32, 32), (8, 4)] }
/-! ### TICK (03_tick_frame_timetable.md R99) -/

def TICK_PERIOD_US : FieldDef := { on := 1, code := 0xA, off := 0x100, lsb := 0, width := 17, acc := .rw, reset := 1000, frz := true, segs := [(250, 100000, 1)] }
def TICK_MAJOR_FRAMES : FieldDef := { on := 1, code := 0xA, off := 0x104, lsb := 0, width := 7, acc := .rw, reset := 1, frz := true, segs := [(1, 64, 1)] }
def TICK_RELEASE_AT_US : FieldDef := { on := 1, code := 0xA, off := 0x108, lsb := 0, width := 17, acc := .rw, reset := 20, frz := true, dyn := .TICK_RELEASE_AT_US }
def TICK_EPOCH_LO_NS : FieldDef := { on := 1, code := 0xA, off := 0x10C, lsb := 0, width := 32, acc := .rw, frz := true }
def TICK_EPOCH_HI_NS : FieldDef := { on := 1, code := 0xA, off := 0x110, lsb := 0, width := 32, acc := .rw, frz := true }
def TICK_POINTS_DIES : FieldDef := { on := 1, code := 0xA, off := 0x114, lsb := 0, width := 6, acc := .rw }
def TICK_POINTS_GO : FieldDef := { on := 1, code := 0xA, off := 0x114, lsb := 8, width := 1, acc := .wo }
def TICK_FRAME_LO_N : FieldDef := { on := 1, code := 0xA, off := 0x118, lsb := 0, width := 32, acc := .ro }
def TICK_FRAME_HI_N : FieldDef := { on := 1, code := 0xA, off := 0x11C, lsb := 0, width := 16, acc := .ro }
def TICK_STAT_MINOR : FieldDef := { on := 1, code := 0xA, off := 0x120, lsb := 0, width := 6, acc := .ro }
def TICK_STAT_HOLDOVER : FieldDef := { on := 1, code := 0xA, off := 0x120, lsb := 6, width := 1, acc := .ro }
def TICK_STAT_SLEWING : FieldDef := { on := 1, code := 0xA, off := 0x120, lsb := 7, width := 1, acc := .ro }
def TICK_STAT_POINTS_PENDING : FieldDef := { on := 1, code := 0xA, off := 0x120, lsb := 8, width := 1, acc := .ro }
def TICK_STAT_POINTS_FAIL : FieldDef := { on := 1, code := 0xA, off := 0x120, lsb := 9, width := 1, acc := .ro }
def TICK_STAT_FAIL_DIE : FieldDef := { on := 1, code := 0xA, off := 0x120, lsb := 10, width := 3, acc := .ro }
def TICK_LAST_LEN_CYCLES : FieldDef := { on := 1, code := 0xA, off := 0x124, lsb := 0, width := 25, acc := .ro }
/-! ### FWATCH (03_tick_frame_timetable.md R100) -/

def FWATCH_SPREAD_BY_US : FieldDef := { on := 1, code := 0xB, off := 0x100, lsb := 0, width := 17, acc := .rw, reset := 60, frz := true, dyn := .FWATCH_SPREAD_BY_US }
def FWATCH_COMMIT_AT_US : FieldDef := { on := 1, code := 0xB, off := 0x104, lsb := 0, width := 17, acc := .rw, reset := 800, frz := true, dyn := .FWATCH_COMMIT_AT_US }
def FWATCH_CTL_MARGIN_CLR : FieldDef := { on := 1, code := 0xB, off := 0x108, lsb := 0, width := 1, acc := .wo }
def FWATCH_CAUSE_CODE : FieldDef := { on := 1, code := 0xB, off := 0x10C, lsb := 0, width := 3, acc := .ro }
def FWATCH_CAUSE_DIES : FieldDef := { on := 1, code := 0xB, off := 0x10C, lsb := 8, width := 6, acc := .ro }
def FWATCH_FRAME_LO_N : FieldDef := { on := 1, code := 0xB, off := 0x110, lsb := 0, width := 32, acc := .ro }
def FWATCH_FRAME_HI_N : FieldDef := { on := 1, code := 0xB, off := 0x114, lsb := 0, width := 16, acc := .ro }
def FWATCH_OVERRUNS_COUNT : FieldDef := { on := 1, code := 0xB, off := 0x118, lsb := 0, width := 32, acc := .ro }
def FWATCH_MIRROR_LATE_COUNT : FieldDef := { on := 1, code := 0xB, off := 0x11C, lsb := 0, width := 32, acc := .ro }
def FWATCH_MARGIN_CYCLES : FieldDef := { on := 1, code := 0xB, off := 0x120, lsb := 0, width := 25, acc := .ro, reset := 0x1ffffff }
/-! ### TTBL (03_tick_frame_timetable.md R101) -/

def TTBL_CTL_POINTS : FieldDef := { on := 4, code := 0x9, off := 0x100, lsb := 0, width := 1, acc := .wo }
def TTBL_CTL_CANCEL : FieldDef := { on := 4, code := 0x9, off := 0x100, lsb := 1, width := 1, acc := .wo }
def TTBL_ROWSEL_ROW : FieldDef := { on := 4, code := 0x9, off := 0x104, lsb := 0, width := 9, acc := .rw }
def TTBL_ROWSEL_BANK : FieldDef := { on := 4, code := 0x9, off := 0x104, lsb := 9, width := 1, acc := .rw }
def TTBL_ROWSEL_AUTOINC : FieldDef := { on := 4, code := 0x9, off := 0x104, lsb := 10, width := 1, acc := .rw }
def TTBL_ROW_W0_START : FieldDef := { on := 4, code := 0x9, off := 0x108, lsb := 0, width := 25, acc := .rw, dyn := .TTBL_ROW_W0_START, win := .ttblRow }
def TTBL_ROW_W0_ENGINE : FieldDef := { on := 4, code := 0x9, off := 0x108, lsb := 25, width := 3, acc := .rw, win := .ttblRow, segs := [(0, 6, 1)] }
def TTBL_ROW_W1_LENGTH : FieldDef := { on := 4, code := 0x9, off := 0x10C, lsb := 0, width := 25, acc := .rw, reset := 1, win := .ttblRow, segs := [(1, 20000000, 1)] }
def TTBL_ROW_W1_TASK : FieldDef := { on := 4, code := 0x9, off := 0x10C, lsb := 25, width := 6, acc := .rw, win := .ttblRow }
def TTBL_ROW_W2_ENTRY : FieldDef := { on := 4, code := 0x9, off := 0x110, lsb := 0, width := 32, acc := .rw, win := .ttblRow }
def TTBL_ROW_W3_FENCE : FieldDef := { on := 4, code := 0x9, off := 0x114, lsb := 0, width := 8, acc := .rw, win := .ttblRow }
def TTBL_ROW_W3_ESSENTIAL : FieldDef := { on := 4, code := 0x9, off := 0x114, lsb := 8, width := 1, acc := .rw, win := .ttblRow }
def TTBL_ROW_W3_EVENT : FieldDef := { on := 4, code := 0x9, off := 0x114, lsb := 9, width := 1, acc := .rw, win := .ttblRow }
def TTBL_ROW_W3_SHUNT : FieldDef := { on := 4, code := 0x9, off := 0x114, lsb := 10, width := 1, acc := .rw, win := .ttblRow }
def TTBL_ROW_W3_VALID : FieldDef := { on := 4, code := 0x9, off := 0x114, lsb := 11, width := 1, acc := .rw, win := .ttblRow }
def TTBL_ROW_W3_EVERY : FieldDef := { on := 4, code := 0x9, off := 0x114, lsb := 12, width := 7, acc := .rw, reset := 1, win := .ttblRow, segs := [(1, 64, 1)] }
def TTBL_ROW_W3_PHASE : FieldDef := { on := 4, code := 0x9, off := 0x114, lsb := 19, width := 6, acc := .rw, win := .ttblRow }
def TTBL_STAT_ACTIVE : FieldDef := { on := 4, code := 0x9, off := 0x118, lsb := 0, width := 1, acc := .ro }
def TTBL_STAT_PENDING : FieldDef := { on := 4, code := 0x9, off := 0x118, lsb := 1, width := 1, acc := .ro }
def TTBL_STAT_CHECK_FAIL : FieldDef := { on := 4, code := 0x9, off := 0x118, lsb := 2, width := 1, acc := .ro }
def TTBL_STAT_FAIL_ROW : FieldDef := { on := 4, code := 0x9, off := 0x118, lsb := 3, width := 9, acc := .ro }
def TTBL_STAT_FAIL_REASON : FieldDef := { on := 4, code := 0x9, off := 0x118, lsb := 12, width := 4, acc := .ro }
def TTBL_STAT_CHECKING : FieldDef := { on := 4, code := 0x9, off := 0x118, lsb := 16, width := 1, acc := .ro }
def TTBL_SWAPS_COUNT : FieldDef := { on := 4, code := 0x9, off := 0x11C, lsb := 0, width := 32, acc := .ro }
/-! ### BUDGET (03_tick_frame_timetable.md R102) -/

def BUDGET_ENGe_ROW_ROW : FieldDef := { on := 4, code := 0xA, off := 0x100, lsb := 0, width := 9, acc := .ro, dims := [(7, 8)] }
def BUDGET_ENGe_ROW_RUNNING : FieldDef := { on := 4, code := 0xA, off := 0x100, lsb := 9, width := 1, acc := .ro, dims := [(7, 8)] }
def BUDGET_ENGe_LEFT_CYCLES : FieldDef := { on := 4, code := 0xA, off := 0x104, lsb := 0, width := 25, acc := .ro, dims := [(7, 8)], live := .BUDGET_ENGe_LEFT_CYCLES }
def BUDGET_OVR_ROW : FieldDef := { on := 4, code := 0xA, off := 0x140, lsb := 0, width := 9, acc := .ro }
def BUDGET_OVR_ENGINE : FieldDef := { on := 4, code := 0xA, off := 0x140, lsb := 9, width := 3, acc := .ro }
def BUDGET_OVR_VALID : FieldDef := { on := 4, code := 0xA, off := 0x140, lsb := 12, width := 1, acc := .ro }
def BUDGET_OVR_FRAME_N : FieldDef := { on := 4, code := 0xA, off := 0x144, lsb := 0, width := 32, acc := .ro }
def BUDGET_STALLS_COUNT : FieldDef := { on := 4, code := 0xA, off := 0x148, lsb := 0, width := 32, acc := .rc }
def BUDGET_MINLEFTe_CYCLES : FieldDef := { on := 4, code := 0xA, off := 0x160, lsb := 0, width := 25, acc := .rc, reset := 0x1ffffff, dims := [(7, 4)] }
def BUDGET_SKIPt_COUNT : FieldDef := { on := 4, code := 0xA, off := 0x200, lsb := 0, width := 16, acc := .rc, dims := [(64, 4)] }
/-! ### SBOX (04_signal_box.md R137) -/

def SBOX_CTL_FAULT_CUT : FieldDef := { on := 4, code := 0xB, off := 0x100, lsb := 0, width := 1, acc := .rw }
def SBOX_STAT_LEVER : FieldDef := { on := 4, code := 0xB, off := 0x104, lsb := 0, width := 17, acc := .ro }
def SBOX_STAT_RUNNING : FieldDef := { on := 4, code := 0xB, off := 0x104, lsb := 17, width := 1, acc := .ro }
def SBOX_STAT_SYNC_WAIT : FieldDef := { on := 4, code := 0xB, off := 0x104, lsb := 18, width := 1, acc := .ro }
def SBOX_NET_COUNT : FieldDef := { on := 4, code := 0xB, off := 0x108, lsb := 0, width := 17, acc := .ro }
def SBOX_FAULT_KIND : FieldDef := { on := 4, code := 0xB, off := 0x10C, lsb := 0, width := 4, acc := .ro }
def SBOX_FAULT_VALID : FieldDef := { on := 4, code := 0xB, off := 0x10C, lsb := 4, width := 1, acc := .ro }
def SBOX_FAULT_LEVER : FieldDef := { on := 4, code := 0xB, off := 0x10C, lsb := 5, width := 17, acc := .ro }
def SBOX_FAULT_TASK : FieldDef := { on := 4, code := 0xB, off := 0x10C, lsb := 22, width := 6, acc := .ro }
def SBOX_FAULT_NET_NET : FieldDef := { on := 4, code := 0xB, off := 0x110, lsb := 0, width := 17, acc := .ro }
def SBOX_FAULT_FRAME_N : FieldDef := { on := 4, code := 0xB, off := 0x114, lsb := 0, width := 32, acc := .ro }
def SBOX_FAULTS_COUNT : FieldDef := { on := 4, code := 0xB, off := 0x118, lsb := 0, width := 32, acc := .rc }
def SBOX_CLR_FAULT : FieldDef := { on := 4, code := 0xB, off := 0x11C, lsb := 0, width := 1, acc := .wo }
def SBOX_RETIRED_COUNT : FieldDef := { on := 4, code := 0xB, off := 0x120, lsb := 0, width := 32, acc := .rc }
def SBOX_SQUASHED_COUNT : FieldDef := { on := 4, code := 0xB, off := 0x124, lsb := 0, width := 32, acc := .rc }
def SBOX_SYNC_CYCLES_COUNT : FieldDef := { on := 4, code := 0xB, off := 0x128, lsb := 0, width := 32, acc := .rc }
def SBOX_SYNC_MAX_CYCLES : FieldDef := { on := 4, code := 0xB, off := 0x12C, lsb := 0, width := 10, acc := .rc }
def SBOX_MASK0_LO_BITS : FieldDef := { on := 4, code := 0xB, off := 0x800, lsb := 0, width := 32, acc := .ro, reset := 0xffffffff }
def SBOX_MASK0_HI_BITS : FieldDef := { on := 4, code := 0xB, off := 0x804, lsb := 0, width := 32, acc := .ro, reset := 0xffffffff }
def SBOX_MASKi_LO_BITS : FieldDef := { on := 4, code := 0xB, off := 0x800, lsb := 0, width := 32, acc := .rw, dims := [(256, 8)], win := .mask }
def SBOX_MASKi_HI_BITS : FieldDef := { on := 4, code := 0xB, off := 0x804, lsb := 0, width := 32, acc := .rw, dims := [(256, 8)], win := .mask }
/-! ### TIMR (04_signal_box.md R139) -/

def TIMR_CTL_CLEAR : FieldDef := { on := 4, code := 0xC, off := 0x100, lsb := 0, width := 1, acc := .wo }
def TIMR_SEL_KIND : FieldDef := { on := 4, code := 0xC, off := 0x104, lsb := 0, width := 1, acc := .rw }
def TIMR_SEL_INDEX : FieldDef := { on := 4, code := 0xC, off := 0x104, lsb := 1, width := 13, acc := .rw, dyn := .TIMR_SEL_INDEX }
def TIMR_CFG_TYPE : FieldDef := { on := 4, code := 0xC, off := 0x108, lsb := 0, width := 2, acc := .rw, dyn := .TIMR_CFG_TYPE, win := .timer, segs := [(0, 2, 1)] }
def TIMR_PRESET_VALUE : FieldDef := { on := 4, code := 0xC, off := 0x10C, lsb := 0, width := 32, acc := .rw, sgn := true, dyn := .TIMR_PRESET_VALUE, win := .timer }
def TIMR_VALUE_VALUE : FieldDef := { on := 4, code := 0xC, off := 0x110, lsb := 0, width := 32, acc := .ro, live := .TIMR_VALUE_VALUE, win := .timer }
def TIMR_STATE_IN : FieldDef := { on := 4, code := 0xC, off := 0x114, lsb := 0, width := 1, acc := .ro, live := .TIMR_STATE_IN, win := .timer }
def TIMR_STATE_RUN : FieldDef := { on := 4, code := 0xC, off := 0x114, lsb := 1, width := 1, acc := .ro, live := .TIMR_STATE_RUN, win := .timer }
def TIMR_STATE_Q : FieldDef := { on := 4, code := 0xC, off := 0x114, lsb := 2, width := 1, acc := .ro, live := .TIMR_STATE_Q, win := .timer }
def TIMR_STATE_QD : FieldDef := { on := 4, code := 0xC, off := 0x114, lsb := 3, width := 1, acc := .ro, live := .TIMR_STATE_QD, win := .timer }
def TIMR_STATE_SAT : FieldDef := { on := 4, code := 0xC, off := 0x114, lsb := 4, width := 1, acc := .ro, live := .TIMR_STATE_SAT, win := .timer }
def TIMR_TIME_T : FieldDef := { on := 4, code := 0xC, off := 0x118, lsb := 0, width := 32, acc := .ro }
def TIMR_STALLS_COUNT : FieldDef := { on := 4, code := 0xC, off := 0x11C, lsb := 0, width := 32, acc := .rc }
def TIMR_PASS_SET : FieldDef := { on := 4, code := 0xC, off := 0x120, lsb := 0, width := 4, acc := .ro }
def TIMR_PASS_RUNNING : FieldDef := { on := 4, code := 0xC, off := 0x120, lsb := 4, width := 1, acc := .ro }
def TIMR_SETs_FIRST : FieldDef := { on := 4, code := 0xC, off := 0x140, lsb := 0, width := 7, acc := .rw, dims := [(16, 4)] }
def TIMR_SETs_LAST : FieldDef := { on := 4, code := 0xC, off := 0x140, lsb := 7, width := 7, acc := .rw, dims := [(16, 4)], dyn := .TIMR_SETs_LAST }
def TIMR_SETs_SPACE : FieldDef := { on := 4, code := 0xC, off := 0x140, lsb := 14, width := 3, acc := .rw, reset := 5, dims := [(16, 4)] }
def TIMR_SETs_WORD : FieldDef := { on := 4, code := 0xC, off := 0x140, lsb := 17, width := 14, acc := .rw, dims := [(16, 4)], dyn := .TIMR_SETs_WORD }
/-! ### COREn (05_word_cores.md R168) -/

def COREn_CTL_HOLD : FieldDef := { on := 4, code := 0xE, off := 0x100, lsb := 0, width := 1, acc := .rw, reset := 1, dyn := .COREn_CTL_HOLD }
def COREn_BOOT_ADDR : FieldDef := { on := 4, code := 0xE, off := 0x104, lsb := 0, width := 32, acc := .rw, rk := 1, dyn := .COREn_BOOT_ADDR }
def COREn_CUTVEC_ADDR : FieldDef := { on := 4, code := 0xE, off := 0x108, lsb := 0, width := 32, acc := .rw, dyn := .COREn_CUTVEC_ADDR }
def COREn_SLOTCFG_THR : FieldDef := { on := 4, code := 0xE, off := 0x10C, lsb := 0, width := 4, acc := .rw, reset := 8, segs := [(0, 8, 1)] }
def COREn_SLOTCFG_USLOT : FieldDef := { on := 4, code := 0xE, off := 0x10C, lsb := 4, width := 1, acc := .rw }
def COREn_SLOTCFG_UTOKEN : FieldDef := { on := 4, code := 0xE, off := 0x10C, lsb := 5, width := 1, acc := .rw }
def COREn_QPERM_GET : FieldDef := { on := 4, code := 0xE, off := 0x110, lsb := 0, width := 16, acc := .rw }
def COREn_QPERM_PUT : FieldDef := { on := 4, code := 0xE, off := 0x110, lsb := 16, width := 16, acc := .rw }
def COREn_SOFT_SET : FieldDef := { on := 4, code := 0xE, off := 0x114, lsb := 0, width := 1, acc := .w1s }
def COREn_STAT_STATE : FieldDef := { on := 4, code := 0xE, off := 0x118, lsb := 0, width := 2, acc := .ro, live := .COREn_STAT_STATE }
def COREn_STAT_PRIV : FieldDef := { on := 4, code := 0xE, off := 0x118, lsb := 2, width := 1, acc := .ro, reset := 1, live := .COREn_STAT_PRIV }
def COREn_STAT_BG_VALID : FieldDef := { on := 4, code := 0xE, off := 0x118, lsb := 3, width := 1, acc := .ro, live := .COREn_STAT_BG_VALID }
def COREn_STAT_HALTED : FieldDef := { on := 4, code := 0xE, off := 0x118, lsb := 4, width := 1, acc := .ro, live := .COREn_STAT_HALTED }
def COREn_STAT_FROZEN : FieldDef := { on := 4, code := 0xE, off := 0x118, lsb := 5, width := 1, acc := .ro, live := .COREn_STAT_FROZEN }
def COREn_PC_ADDR : FieldDef := { on := 4, code := 0xE, off := 0x11C, lsb := 0, width := 32, acc := .ro, live := .COREn_PC_ADDR }
def COREn_CUTPC_ADDR : FieldDef := { on := 4, code := 0xE, off := 0x120, lsb := 0, width := 32, acc := .ro }
def COREn_PREEMPTS_COUNT : FieldDef := { on := 4, code := 0xE, off := 0x124, lsb := 0, width := 32, acc := .rc }
def COREn_LOST_COUNT : FieldDef := { on := 4, code := 0xE, off := 0x128, lsb := 0, width := 32, acc := .rc }
def COREn_TRAPS_COUNT : FieldDef := { on := 4, code := 0xE, off := 0x12C, lsb := 0, width := 32, acc := .rc }
def COREn_RTR_EN0_SRC : FieldDef := { on := 4, code := 0xE, off := 0x130, lsb := 0, width := 32, acc := .rw }
def COREn_RTR_EN1_SRC : FieldDef := { on := 4, code := 0xE, off := 0x134, lsb := 0, width := 12, acc := .rw }
def COREn_RTR_PEND0_SRC : FieldDef := { on := 4, code := 0xE, off := 0x138, lsb := 0, width := 32, acc := .ro, live := .COREn_RTR_PEND0_SRC }
def COREn_RTR_PEND1_SRC : FieldDef := { on := 4, code := 0xE, off := 0x13C, lsb := 0, width := 12, acc := .ro, live := .COREn_RTR_PEND1_SRC }
def COREn_RTR_CLR0_SRC : FieldDef := { on := 4, code := 0xE, off := 0x140, lsb := 0, width := 32, acc := .w1c, live := .COREn_RTR_CLR0_SRC }
def COREn_RTR_CLR1_SRC : FieldDef := { on := 4, code := 0xE, off := 0x144, lsb := 0, width := 12, acc := .w1c, live := .COREn_RTR_CLR1_SRC }
def COREn_RTR_LVLk_SRCj : FieldDef := { on := 4, code := 0xE, off := 0x160, lsb := 0, width := 3, acc := .rw, dims := [(8, 4)], lanes := (8, 4) }
/-! ### DBG (05_word_cores.md R169) -/

def DBG_CTL_JTAG_EN : FieldDef := { on := 1, code := 0x26, off := 0x100, lsb := 0, width := 1, acc := .rwl, reset := 1 }
def DBG_CTL_KEEPER_EN : FieldDef := { on := 1, code := 0x26, off := 0x100, lsb := 1, width := 1, acc := .rwl, reset := 1 }
def DBG_CTL_SCAN_EN : FieldDef := { on := 1, code := 0x26, off := 0x100, lsb := 2, width := 6, acc := .rwl, reset := 63 }
def DBG_CTL_SBA_EN : FieldDef := { on := 1, code := 0x26, off := 0x100, lsb := 8, width := 1, acc := .rwl, reset := 1 }
def DBG_STAT_ACTIVE : FieldDef := { on := 1, code := 0x26, off := 0x104, lsb := 0, width := 1, acc := .ro }
def DBG_STAT_KEEPER_HALTED : FieldDef := { on := 1, code := 0x26, off := 0x104, lsb := 1, width := 2, acc := .ro }
def DBG_STAT_SCAN_HALTED : FieldDef := { on := 1, code := 0x26, off := 0x104, lsb := 3, width := 6, acc := .ro, live := .DBG_STAT_SCAN_HALTED }
def DBG_HALTS_COUNT : FieldDef := { on := 1, code := 0x26, off := 0x108, lsb := 0, width := 32, acc := .rc }
/-! ### Sn/DBG (05_word_cores.md R170) -/

def S_DBG_STAT_HALTED : FieldDef := { on := 4, code := 0x12, off := 0x100, lsb := 0, width := 4, acc := .ro, live := .S_DBG_STAT_HALTED }
def S_DBG_STAT_ALLOWED : FieldDef := { on := 4, code := 0x12, off := 0x100, lsb := 4, width := 1, acc := .ro, live := .S_DBG_STAT_ALLOWED }
def S_DBG_STAT_WATCH_HIT : FieldDef := { on := 4, code := 0x12, off := 0x100, lsb := 5, width := 1, acc := .ro }
def S_DBG_WATCH_LEVER : FieldDef := { on := 4, code := 0x12, off := 0x104, lsb := 0, width := 17, acc := .rw }
def S_DBG_WATCH_EN : FieldDef := { on := 4, code := 0x12, off := 0x104, lsb := 17, width := 1, acc := .rw }
def S_DBG_WATCH_CLR : FieldDef := { on := 4, code := 0x12, off := 0x104, lsb := 18, width := 1, acc := .wo }
def S_DBG_WATCH_FRAME_N : FieldDef := { on := 4, code := 0x12, off := 0x108, lsb := 0, width := 32, acc := .ro }
def S_DBG_HALTS_COUNT : FieldDef := { on := 4, code := 0x12, off := 0x10C, lsb := 0, width := 32, acc := .rc }
/-! ### MODE (06_image_tasks_modes.md R206) -/

def MODE_REQ_CMD : FieldDef := { on := 1, code := 0x27, off := 0x100, lsb := 0, width := 3, acc := .wo, segs := [(0, 4, 1)] }
def MODE_REQ_START : FieldDef := { on := 1, code := 0x27, off := 0x100, lsb := 3, width := 2, acc := .wo, segs := [(0, 2, 1)] }
def MODE_CFG_POWERUP : FieldDef := { on := 1, code := 0x27, off := 0x104, lsb := 0, width := 2, acc := .rwl, segs := [(0, 2, 1)] }
def MODE_CFG_NO_HOLD : FieldDef := { on := 1, code := 0x27, off := 0x104, lsb := 2, width := 1, acc := .rwl }
def MODE_STAT_MODE : FieldDef := { on := 1, code := 0x27, off := 0x108, lsb := 0, width := 2, acc := .ro }
def MODE_STAT_START : FieldDef := { on := 1, code := 0x27, off := 0x108, lsb := 2, width := 2, acc := .ro, reset := 3 }
def MODE_STAT_PENDING : FieldDef := { on := 1, code := 0x27, off := 0x108, lsb := 4, width := 1, acc := .ro }
def MODE_STAT_PENDING_CMD : FieldDef := { on := 1, code := 0x27, off := 0x108, lsb := 5, width := 3, acc := .ro }
def MODE_STAT_HOT_OK : FieldDef := { on := 1, code := 0x27, off := 0x108, lsb := 8, width := 1, acc := .ro }
def MODE_STAT_PREPARING : FieldDef := { on := 1, code := 0x27, off := 0x108, lsb := 9, width := 1, acc := .ro }
def MODE_REASON_STOP_CAUSE : FieldDef := { on := 1, code := 0x27, off := 0x10C, lsb := 0, width := 4, acc := .ro, reset := 4 }
def MODE_REASON_REFUSE : FieldDef := { on := 1, code := 0x27, off := 0x10C, lsb := 8, width := 4, acc := .ro }
def MODE_REASON_REFUSED_CMD : FieldDef := { on := 1, code := 0x27, off := 0x10C, lsb := 12, width := 3, acc := .ro }
def MODE_FIRST_N : FieldDef := { on := 1, code := 0x27, off := 0x110, lsb := 0, width := 32, acc := .ro }
def MODE_CHANGES_COUNT : FieldDef := { on := 1, code := 0x27, off := 0x114, lsb := 0, width := 32, acc := .ro }
def MODE_STEPS_COUNT : FieldDef := { on := 1, code := 0x27, off := 0x118, lsb := 0, width := 32, acc := .rc }
def MODE_REFUSALS_COUNT : FieldDef := { on := 1, code := 0x27, off := 0x11C, lsb := 0, width := 32, acc := .rc }
/-! ### TASK (06_image_tasks_modes.md R207) -/

def TASK_SEL_TASK : FieldDef := { on := 1, code := 0x28, off := 0x100, lsb := 0, width := 6, acc := .rw }
def TASK_CFG_TYPE : FieldDef := { on := 1, code := 0x28, off := 0x104, lsb := 0, width := 2, acc := .rw, dyn := .TASK_CFG_TYPE, win := .task }
def TASK_CFG_PRIO : FieldDef := { on := 1, code := 0x28, off := 0x104, lsb := 2, width := 5, acc := .rw, dyn := .TASK_CFG_PRIO, win := .task }
def TASK_CFG_PERIOD : FieldDef := { on := 1, code := 0x28, off := 0x104, lsb := 7, width := 7, acc := .rw, reset := 1, dyn := .TASK_CFG_PERIOD, win := .task, segs := [(1, 64, 1)] }
def TASK_CFG_DIES : FieldDef := { on := 1, code := 0x28, off := 0x104, lsb := 14, width := 6, acc := .rw, dyn := .TASK_CFG_DIES, win := .task }
def TASK_TRIG_KIND : FieldDef := { on := 1, code := 0x28, off := 0x108, lsb := 0, width := 3, acc := .rw, dyn := .TASK_TRIG_KIND, win := .task, segs := [(0, 4, 1)] }
def TASK_TRIG_SRC : FieldDef := { on := 1, code := 0x28, off := 0x108, lsb := 3, width := 10, acc := .rw, dyn := .TASK_TRIG_SRC, win := .task }
def TASK_TRIG_EDGE : FieldDef := { on := 1, code := 0x28, off := 0x108, lsb := 13, width := 2, acc := .rw, dyn := .TASK_TRIG_EDGE, win := .task, segs := [(0, 2, 1)] }
def TASK_ERR_CAUSES : FieldDef := { on := 1, code := 0x28, off := 0x10C, lsb := 0, width := 8, acc := .rw, dyn := .TASK_ERR_CAUSES, win := .task }
def TASK_STAT_PENDING : FieldDef := { on := 1, code := 0x28, off := 0x110, lsb := 0, width := 1, acc := .ro, win := .task }
def TASK_STAT_LATCHED : FieldDef := { on := 1, code := 0x28, off := 0x110, lsb := 1, width := 1, acc := .ro, win := .task }
def TASK_STAT_SKIPPED : FieldDef := { on := 1, code := 0x28, off := 0x110, lsb := 2, width := 1, acc := .ro, win := .task }
def TASK_STAT_TORN : FieldDef := { on := 1, code := 0x28, off := 0x110, lsb := 3, width := 1, acc := .ro, win := .task }
def TASK_STAT_PEND_COUNT : FieldDef := { on := 1, code := 0x28, off := 0x110, lsb := 8, width := 8, acc := .ro, win := .task }
def TASK_STAT_LATCH_COUNT : FieldDef := { on := 1, code := 0x28, off := 0x110, lsb := 16, width := 8, acc := .ro, win := .task }
def TASK_RUNS_COUNT : FieldDef := { on := 1, code := 0x28, off := 0x114, lsb := 0, width := 32, acc := .rc, win := .task }
def TASK_LAST_N : FieldDef := { on := 1, code := 0x28, off := 0x118, lsb := 0, width := 32, acc := .ro, win := .task }
def TASK_ECAUSE_CAUSES : FieldDef := { on := 1, code := 0x28, off := 0x11C, lsb := 0, width := 8, acc := .ro, win := .task }
def TASK_ECAUSE_STATION : FieldDef := { on := 1, code := 0x28, off := 0x11C, lsb := 8, width := 10, acc := .ro, win := .task }
def TASK_PENDING0_TASKS : FieldDef := { on := 1, code := 0x28, off := 0x120, lsb := 0, width := 32, acc := .ro, live := .TASK_PENDING0_TASKS }
def TASK_PENDING1_TASKS : FieldDef := { on := 1, code := 0x28, off := 0x124, lsb := 0, width := 32, acc := .ro, live := .TASK_PENDING1_TASKS }
def TASK_LATCHED0_TASKS : FieldDef := { on := 1, code := 0x28, off := 0x128, lsb := 0, width := 32, acc := .ro, live := .TASK_LATCHED0_TASKS }
def TASK_LATCHED1_TASKS : FieldDef := { on := 1, code := 0x28, off := 0x12C, lsb := 0, width := 32, acc := .ro, live := .TASK_LATCHED1_TASKS }
/-! ### IMG (06_image_tasks_modes.md R208) -/

def IMG_STAT_OUT_BUF : FieldDef := { on := 1, code := 0x29, off := 0x100, lsb := 0, width := 1, acc := .ro }
def IMG_STAT_SAFE_VALID : FieldDef := { on := 1, code := 0x29, off := 0x100, lsb := 1, width := 1, acc := .ro }
def IMG_STAT_SAFE_LOADING : FieldDef := { on := 1, code := 0x29, off := 0x100, lsb := 2, width := 1, acc := .ro }
def IMG_STAT_RET_VALID_A : FieldDef := { on := 1, code := 0x29, off := 0x100, lsb := 3, width := 1, acc := .ro, live := .IMG_STAT_RET_VALID_A }
def IMG_STAT_RET_VALID_B : FieldDef := { on := 1, code := 0x29, off := 0x100, lsb := 4, width := 1, acc := .ro, live := .IMG_STAT_RET_VALID_B }
def IMG_STAT_RET_NEWEST : FieldDef := { on := 1, code := 0x29, off := 0x100, lsb := 5, width := 1, acc := .ro, live := .IMG_STAT_RET_NEWEST }
def IMG_STAT_RET_SRC : FieldDef := { on := 1, code := 0x29, off := 0x100, lsb := 6, width := 1, acc := .ro }
def IMG_STAT_SAVING : FieldDef := { on := 1, code := 0x29, off := 0x100, lsb := 7, width := 1, acc := .ro, live := .IMG_STAT_SAVING }
def IMG_SAFE_CRC_CRC : FieldDef := { on := 1, code := 0x29, off := 0x104, lsb := 0, width := 32, acc := .ro }
def IMG_RET_CFG_ENTRIES : FieldDef := { on := 1, code := 0x29, off := 0x108, lsb := 0, width := 7, acc := .rw, frz := true, segs := [(0, 64, 1)] }
def IMG_RET_CFG_PF_GRACE : FieldDef := { on := 1, code := 0x29, off := 0x108, lsb := 8, width := 10, acc := .rw, frz := true, dyn := .IMG_RET_CFG_PF_GRACE }
def IMG_RET_SIZE_BYTES : FieldDef := { on := 1, code := 0x29, off := 0x10C, lsb := 0, width := 19, acc := .ro, reset := 64, live := .IMG_RET_SIZE_BYTES }
def IMG_RET_SEQ_SEQ : FieldDef := { on := 1, code := 0x29, off := 0x110, lsb := 0, width := 32, acc := .ro, live := .IMG_RET_SEQ_SEQ }
def IMG_RET_FRAME_N : FieldDef := { on := 1, code := 0x29, off := 0x114, lsb := 0, width := 32, acc := .ro, live := .IMG_RET_FRAME_N }
def IMG_RET_TORN_LO_TASKS : FieldDef := { on := 1, code := 0x29, off := 0x118, lsb := 0, width := 32, acc := .ro, live := .IMG_RET_TORN_LO_TASKS }
def IMG_RET_TORN_HI_TASKS : FieldDef := { on := 1, code := 0x29, off := 0x11C, lsb := 0, width := 32, acc := .ro, live := .IMG_RET_TORN_HI_TASKS }
def IMG_SAVES_COUNT : FieldDef := { on := 1, code := 0x29, off := 0x120, lsb := 0, width := 32, acc := .ro }
def IMG_SAVE_TIME_US : FieldDef := { on := 1, code := 0x29, off := 0x124, lsb := 0, width := 10, acc := .ro }
def IMG_RETi_W0_KIND : FieldDef := { on := 1, code := 0x29, off := 0x400, lsb := 0, width := 2, acc := .rw, dims := [(64, 8)], frz := true }
def IMG_RETi_W0_DIE : FieldDef := { on := 1, code := 0x29, off := 0x400, lsb := 2, width := 3, acc := .rw, reset := 2, dims := [(64, 8)], frz := true, segs := [(2, 7, 1)] }
def IMG_RETi_W0_START : FieldDef := { on := 1, code := 0x29, off := 0x400, lsb := 8, width := 24, acc := .rw, dims := [(64, 8)], frz := true, dyn := .IMG_RETi_W0_START }
def IMG_RETi_W1_LENGTH : FieldDef := { on := 1, code := 0x29, off := 0x404, lsb := 0, width := 19, acc := .rw, dims := [(64, 8)], frz := true, dyn := .IMG_RETi_W1_LENGTH }
/-! ### PLAT (06_image_tasks_modes.md R209) -/

def PLAT_CFG_SNAP_RO : FieldDef := { on := 4, code := 0xD, off := 0x100, lsb := 0, width := 1, acc := .rwl, reset := 1 }
def PLAT_CFG_RET_MONLY : FieldDef := { on := 4, code := 0xD, off := 0x100, lsb := 1, width := 1, acc := .rwl }
def PLAT_STAT_SPREAD_DONE : FieldDef := { on := 4, code := 0xD, off := 0x104, lsb := 0, width := 1, acc := .ro }
def PLAT_STAT_READY : FieldDef := { on := 4, code := 0xD, off := 0x104, lsb := 1, width := 1, acc := .ro }
def PLAT_SPREAD_LAST_BEATS : FieldDef := { on := 4, code := 0xD, off := 0x108, lsb := 0, width := 16, acc := .ro }
def PLAT_SPREAD_END_CYCLES : FieldDef := { on := 4, code := 0xD, off := 0x10C, lsb := 0, width := 16, acc := .ro }
def PLAT_SUB_D_WORDS : FieldDef := { on := 4, code := 0xD, off := 0x110, lsb := 0, width := 13, acc := .ro }
def PLAT_SUB_A_POINTS : FieldDef := { on := 4, code := 0xD, off := 0x114, lsb := 0, width := 16, acc := .ro }
def PLAT_OWN_D_WORDS : FieldDef := { on := 4, code := 0xD, off := 0x118, lsb := 0, width := 13, acc := .ro }
def PLAT_OWN_A_POINTS : FieldDef := { on := 4, code := 0xD, off := 0x11C, lsb := 0, width := 16, acc := .ro }
def PLAT_SNAP_FAULTS_COUNT : FieldDef := { on := 4, code := 0xD, off := 0x120, lsb := 0, width := 32, acc := .rc }
/-! ### XSPI (07_online_change.md R238) -/

def XSPI_CFG_EN : FieldDef := { on := 1, code := 0x23, off := 0x100, lsb := 0, width := 1, acc := .rw }
def XSPI_CFG_RESET : FieldDef := { on := 1, code := 0x23, off := 0x100, lsb := 1, width := 1, acc := .rw, reset := 1 }
def XSPI_CFG_CLKDIV : FieldDef := { on := 1, code := 0x23, off := 0x100, lsb := 2, width := 2, acc := .rw, reset := 3 }
def XSPI_CFG_OCTAL : FieldDef := { on := 1, code := 0x23, off := 0x100, lsb := 4, width := 1, acc := .rw }
def XSPI_CFG_SIZE : FieldDef := { on := 1, code := 0x23, off := 0x100, lsb := 5, width := 5, acc := .rw, reset := 28, segs := [(20, 28, 1)] }
def XSPI_ADDR_ADDR : FieldDef := { on := 1, code := 0x23, off := 0x104, lsb := 0, width := 32, acc := .rw, dyn := .XSPI_ADDR_ADDR }
def XSPI_LEN_BYTES : FieldDef := { on := 1, code := 0x23, off := 0x108, lsb := 0, width := 25, acc := .rw, reset := 1, dyn := .XSPI_LEN_BYTES, segs := [(1, 16777216, 1)] }
def XSPI_XCMD_OP : FieldDef := { on := 1, code := 0x23, off := 0x10C, lsb := 0, width := 16, acc := .rw }
def XSPI_XCMD_DIR : FieldDef := { on := 1, code := 0x23, off := 0x10C, lsb := 16, width := 1, acc := .rw }
def XSPI_XCMD_ADDR_EN : FieldDef := { on := 1, code := 0x23, off := 0x10C, lsb := 17, width := 1, acc := .rw }
def XSPI_XCMD_DUMMY : FieldDef := { on := 1, code := 0x23, off := 0x10C, lsb := 18, width := 5, acc := .rw }
def XSPI_XCMD_DMA : FieldDef := { on := 1, code := 0x23, off := 0x10C, lsb := 23, width := 1, acc := .rw, dyn := .XSPI_XCMD_DMA }
def XSPI_XCMD_GO : FieldDef := { on := 1, code := 0x23, off := 0x10C, lsb := 24, width := 1, acc := .wo, dyn := .XSPI_XCMD_GO }
def XSPI_DMA_DST_ADDR : FieldDef := { on := 1, code := 0x23, off := 0x110, lsb := 0, width := 32, acc := .rw, segs := [(0, 4194296, 8)] }
def XSPI_STAT_BUSY : FieldDef := { on := 1, code := 0x23, off := 0x114, lsb := 0, width := 1, acc := .ro }
def XSPI_STAT_ERROR : FieldDef := { on := 1, code := 0x23, off := 0x114, lsb := 1, width := 1, acc := .ro }
def XSPI_STAT_RANGE : FieldDef := { on := 1, code := 0x23, off := 0x114, lsb := 2, width := 1, acc := .ro }
def XSPI_DONE_BYTES : FieldDef := { on := 1, code := 0x23, off := 0x118, lsb := 0, width := 25, acc := .ro }
def XSPI_ERRORS_COUNT : FieldDef := { on := 1, code := 0x23, off := 0x11C, lsb := 0, width := 32, acc := .rc }
def XSPI_BUFw_DATA : FieldDef := { on := 1, code := 0x23, off := 0x400, lsb := 0, width := 32, acc := .rw, dims := [(64, 4)] }
/-! ### STN (08_stations_and_line_ports.md R257) -/

def STN_ENT_W0_VALID : FieldDef := { on := 1, code := 0x1A, off := 0x110, lsb := 0, width := 1, acc := .rw, win := .stnEntry }
def STN_ENT_W0_KIND : FieldDef := { on := 1, code := 0x1A, off := 0x110, lsb := 1, width := 2, acc := .rw, dyn := .STN_ENT_W0_KIND, win := .stnEntry, segs := [(0, 2, 1)] }
def STN_ENT_W0_DROP : FieldDef := { on := 1, code := 0x1A, off := 0x110, lsb := 3, width := 4, acc := .rw, reset := 3, dyn := .STN_ENT_W0_DROP, win := .stnEntry, segs := [(1, 15, 1)] }
def STN_ENT_W0_ERR_TASK : FieldDef := { on := 1, code := 0x1A, off := 0x110, lsb := 7, width := 6, acc := .rw, win := .stnEntry }
def STN_ENT_W0_ERR_EN : FieldDef := { on := 1, code := 0x1A, off := 0x110, lsb := 13, width := 1, acc := .rw, win := .stnEntry }
def STN_ENT_W0_RING_A : FieldDef := { on := 1, code := 0x1A, off := 0x110, lsb := 14, width := 1, acc := .rw, dyn := .STN_ENT_W0_RING_A, win := .stnEntry }
def STN_ENT_W0_RING_B : FieldDef := { on := 1, code := 0x1A, off := 0x110, lsb := 15, width := 1, acc := .rw, dyn := .STN_ENT_W0_RING_B, win := .stnEntry }
def STN_ENT_W0_MAC_HI : FieldDef := { on := 1, code := 0x1A, off := 0x110, lsb := 16, width := 16, acc := .rw, dyn := .STN_ENT_W0_MAC_HI, win := .stnEntry }
def STN_ENT_W1_MAC_LO : FieldDef := { on := 1, code := 0x1A, off := 0x114, lsb := 0, width := 32, acc := .rw, win := .stnEntry }
def STN_ENT_W2_IN_LEN : FieldDef := { on := 1, code := 0x1A, off := 0x118, lsb := 0, width := 11, acc := .rw, dyn := .STN_ENT_W2_IN_LEN, win := .stnEntry, segs := [(0, 1440, 1)] }
def STN_ENT_W2_OUT_LEN : FieldDef := { on := 1, code := 0x1A, off := 0x118, lsb := 11, width := 11, acc := .rw, dyn := .STN_ENT_W2_OUT_LEN, win := .stnEntry, segs := [(0, 1440, 1)] }
def STN_ENT_W2_LEAD : FieldDef := { on := 1, code := 0x1A, off := 0x118, lsb := 22, width := 8, acc := .rw, win := .stnEntry }
def STN_ENT_W3_CAT_FIRST : FieldDef := { on := 1, code := 0x1A, off := 0x11C, lsb := 0, width := 15, acc := .rw, win := .stnEntry, segs := [(0, 24575, 1)] }
def STN_ENT_W3_CAT_COUNT : FieldDef := { on := 1, code := 0x1A, off := 0x11C, lsb := 15, width := 15, acc := .rw, dyn := .STN_ENT_W3_CAT_COUNT, win := .stnEntry, segs := [(0, 24576, 1)] }
/-! ### CAT (08_stations_and_line_ports.md R264) -/

def CAT_ENT_W0_VALID : FieldDef := { on := 1, code := 0x19, off := 0x108, lsb := 0, width := 1, acc := .rw, win := .catEntry }
def CAT_ENT_W0_DIR : FieldDef := { on := 1, code := 0x19, off := 0x108, lsb := 1, width := 1, acc := .rw, win := .catEntry }
def CAT_ENT_W0_KIND : FieldDef := { on := 1, code := 0x19, off := 0x108, lsb := 2, width := 1, acc := .rw, win := .catEntry }
def CAT_ENT_W0_FORMAT : FieldDef := { on := 1, code := 0x19, off := 0x108, lsb := 3, width := 2, acc := .rw, dyn := .CAT_ENT_W0_FORMAT, win := .catEntry, segs := [(0, 2, 1)] }
def CAT_ENT_W0_POLICY : FieldDef := { on := 1, code := 0x19, off := 0x108, lsb := 5, width := 2, acc := .rw, dyn := .CAT_ENT_W0_POLICY, win := .catEntry, segs := [(0, 2, 1)] }
def CAT_ENT_W0_DIES : FieldDef := { on := 1, code := 0x19, off := 0x108, lsb := 7, width := 6, acc := .rw, win := .catEntry }
def CAT_ENT_W0_STATION : FieldDef := { on := 1, code := 0x19, off := 0x108, lsb := 13, width := 10, acc := .rw, win := .catEntry }
def CAT_ENT_W1_OFFSET : FieldDef := { on := 1, code := 0x19, off := 0x10C, lsb := 0, width := 14, acc := .rw, dyn := .CAT_ENT_W1_OFFSET, win := .catEntry, segs := [(0, 11519, 1)] }
def CAT_ENT_W1_LENGTH : FieldDef := { on := 1, code := 0x19, off := 0x10C, lsb := 14, width := 14, acc := .rw, reset := 1, dyn := .CAT_ENT_W1_LENGTH, win := .catEntry, segs := [(1, 11520, 1)] }
def CAT_ENT_W2_IMAGE : FieldDef := { on := 1, code := 0x19, off := 0x110, lsb := 0, width := 18, acc := .rw, dyn := .CAT_ENT_W2_IMAGE, win := .catEntry }
def CAT_ENT_W2_SUBIDX : FieldDef := { on := 1, code := 0x19, off := 0x110, lsb := 18, width := 13, acc := .rw, win := .catEntry }
/-! ### XCHG (08_stations_and_line_ports.md R275) -/

def XCHG_STAT_CUT : FieldDef := { on := 1, code := 0x18, off := 0x100, lsb := 0, width := 1, acc := .ro }
def XCHG_STAT_BUILD : FieldDef := { on := 1, code := 0x18, off := 0x100, lsb := 1, width := 1, acc := .ro }
def XCHG_STAT_RELEASE : FieldDef := { on := 1, code := 0x18, off := 0x100, lsb := 2, width := 1, acc := .ro, live := .XCHG_STAT_RELEASE }
def XCHG_CUT_LAST_CYCLES : FieldDef := { on := 1, code := 0x18, off := 0x104, lsb := 0, width := 13, acc := .ro }
def XCHG_BUILD_LAST_CYCLES : FieldDef := { on := 1, code := 0x18, off := 0x108, lsb := 0, width := 13, acc := .ro }
def XCHG_HELD_COUNT : FieldDef := { on := 1, code := 0x18, off := 0x10C, lsb := 0, width := 32, acc := .rc }
def XCHG_SAT_COUNT : FieldDef := { on := 1, code := 0x18, off := 0x110, lsb := 0, width := 32, acc := .rc }
def XCHG_ALARM_HEAD : FieldDef := { on := 1, code := 0x18, off := 0x114, lsb := 0, width := 10, acc := .ro }
def XCHG_ALARM_SEQ_N : FieldDef := { on := 1, code := 0x18, off := 0x118, lsb := 0, width := 32, acc := .ro }
def XCHG_DROPPED_COUNT : FieldDef := { on := 1, code := 0x18, off := 0x11C, lsb := 0, width := 11, acc := .ro }
/-! ### CAT (08_stations_and_line_ports.md R276) -/

def CAT_CTL_SWAP : FieldDef := { on := 1, code := 0x19, off := 0x100, lsb := 0, width := 1, acc := .wo, dyn := .CAT_CTL_SWAP }
def CAT_CTL_COPY : FieldDef := { on := 1, code := 0x19, off := 0x100, lsb := 1, width := 1, acc := .wo }
def CAT_SEL_INDEX : FieldDef := { on := 1, code := 0x19, off := 0x104, lsb := 0, width := 15, acc := .rw, segs := [(0, 24575, 1)] }
def CAT_SEL_BANK : FieldDef := { on := 1, code := 0x19, off := 0x104, lsb := 15, width := 1, acc := .rw }
def CAT_SEL_AUTOINC : FieldDef := { on := 1, code := 0x19, off := 0x104, lsb := 16, width := 1, acc := .rw }
def CAT_STAT_CHECKING : FieldDef := { on := 1, code := 0x19, off := 0x114, lsb := 0, width := 1, acc := .ro }
def CAT_STAT_CHECK_FAIL : FieldDef := { on := 1, code := 0x19, off := 0x114, lsb := 1, width := 1, acc := .ro }
def CAT_STAT_FAIL_CODE : FieldDef := { on := 1, code := 0x19, off := 0x114, lsb := 2, width := 4, acc := .ro }
def CAT_STAT_FAIL_INDEX : FieldDef := { on := 1, code := 0x19, off := 0x114, lsb := 6, width := 15, acc := .ro }
def CAT_STAT_FAIL_PORT : FieldDef := { on := 1, code := 0x19, off := 0x114, lsb := 21, width := 2, acc := .ro }
def CAT_SWAPS_COUNT : FieldDef := { on := 1, code := 0x19, off := 0x118, lsb := 0, width := 32, acc := .ro }
/-! ### STN (08_stations_and_line_ports.md R277) -/

def STN_CFG_ETYPE : FieldDef := { on := 1, code := 0x1A, off := 0x100, lsb := 0, width := 16, acc := .rw, reset := 0x88b5, frz := true, dyn := .STN_CFG_ETYPE, segs := [(1536, 35062, 1), (35064, 65535, 1)] }
def STN_GROUP_LO_ADDR : FieldDef := { on := 1, code := 0x1A, off := 0x104, lsb := 0, width := 32, acc := .rw, reset := 0xffffffff }
def STN_GROUP_HI_ADDR : FieldDef := { on := 1, code := 0x1A, off := 0x108, lsb := 0, width := 16, acc := .rw, reset := 0xffff, dyn := .STN_GROUP_HI_ADDR, segs := [(256, 65535, 1)] }
def STN_SEL_STATION : FieldDef := { on := 1, code := 0x1A, off := 0x10C, lsb := 0, width := 10, acc := .rw }
def STN_SEL_BANK : FieldDef := { on := 1, code := 0x1A, off := 0x10C, lsb := 10, width := 1, acc := .rw }
def STN_SEL_AUTOINC : FieldDef := { on := 1, code := 0x1A, off := 0x10C, lsb := 11, width := 1, acc := .rw }
def STN_SSTAT_QUALITY : FieldDef := { on := 1, code := 0x1A, off := 0x120, lsb := 0, width := 1, acc := .ro, win := .station }
def STN_SSTAT_DROPPED : FieldDef := { on := 1, code := 0x1A, off := 0x120, lsb := 1, width := 1, acc := .ro, win := .station }
def STN_SSTAT_MISS : FieldDef := { on := 1, code := 0x1A, off := 0x120, lsb := 2, width := 4, acc := .ro, win := .station }
def STN_SSTAT_PATH_A : FieldDef := { on := 1, code := 0x1A, off := 0x120, lsb := 6, width := 1, acc := .ro, win := .station }
def STN_SSTAT_PATH_B : FieldDef := { on := 1, code := 0x1A, off := 0x120, lsb := 7, width := 1, acc := .ro, win := .station }
def STN_ERRS_LATE : FieldDef := { on := 1, code := 0x1A, off := 0x124, lsb := 0, width := 16, acc := .rc, win := .station }
def STN_ERRS_STALE : FieldDef := { on := 1, code := 0x1A, off := 0x124, lsb := 16, width := 16, acc := .rc, win := .station }
def STN_DROPS_DROPOUTS : FieldDef := { on := 1, code := 0x1A, off := 0x128, lsb := 0, width := 16, acc := .rc, win := .station }
def STN_DROPS_PATHLOSS : FieldDef := { on := 1, code := 0x1A, off := 0x128, lsb := 16, width := 16, acc := .rc, win := .station }
def STN_LAST_SEQ : FieldDef := { on := 1, code := 0x1A, off := 0x12C, lsb := 0, width := 16, acc := .ro, win := .station }
def STN_LAST_ALARM_SEQ : FieldDef := { on := 1, code := 0x1A, off := 0x12C, lsb := 16, width := 16, acc := .ro, win := .station }
def STN_SAMPLE_NS : FieldDef := { on := 1, code := 0x1A, off := 0x130, lsb := 0, width := 32, acc := .ro, win := .station }
def STN_LOAD_A_BYTES : FieldDef := { on := 1, code := 0x1A, off := 0x134, lsb := 0, width := 20, acc := .ro }
def STN_LOAD_B_BYTES : FieldDef := { on := 1, code := 0x1A, off := 0x138, lsb := 0, width := 20, acc := .ro }
def STN_DROPPEDi_STATIONS : FieldDef := { on := 1, code := 0x1A, off := 0x180, lsb := 0, width := 32, acc := .ro, dims := [(32, 4)] }
/-! ### PTP (08_stations_and_line_ports.md R278) -/

def PTP_CFG_DOMAIN : FieldDef := { on := 1, code := 0x1B, off := 0x100, lsb := 0, width := 7, acc := .rw, frz := true }
def PTP_CFG_ROLE : FieldDef := { on := 1, code := 0x1B, off := 0x100, lsb := 7, width := 2, acc := .rw, frz := true, segs := [(0, 2, 1)] }
def PTP_CFG_PORTS : FieldDef := { on := 1, code := 0x1B, off := 0x100, lsb := 9, width := 4, acc := .rw, reset := 15 }
def PTP_PRIO_PRIO1 : FieldDef := { on := 1, code := 0x1B, off := 0x104, lsb := 0, width := 8, acc := .rw, reset := 128 }
def PTP_PRIO_PRIO2 : FieldDef := { on := 1, code := 0x1B, off := 0x104, lsb := 8, width := 8, acc := .rw, reset := 128 }
def PTP_PRIO_CLASS : FieldDef := { on := 1, code := 0x1B, off := 0x104, lsb := 16, width := 8, acc := .rw, reset := 248 }
def PTP_PRIO_ACCURACY : FieldDef := { on := 1, code := 0x1B, off := 0x104, lsb := 24, width := 8, acc := .rw, reset := 254 }
def PTP_INTERVALS_SYNC : FieldDef := { on := 1, code := 0x1B, off := 0x108, lsb := 0, width := 4, acc := .rw, reset := 13, sgn := true, segs := [((-7), 0, 1)] }
def PTP_INTERVALS_ANNOUNCE : FieldDef := { on := 1, code := 0x1B, off := 0x108, lsb := 4, width := 4, acc := .rw, reset := 1, segs := [(0, 4, 1)] }
def PTP_INTERVALS_PDELAY : FieldDef := { on := 1, code := 0x1B, off := 0x108, lsb := 8, width := 4, acc := .rw, sgn := true, segs := [((-3), 3, 1)] }
def PTP_INTERVALS_TIMEOUT : FieldDef := { on := 1, code := 0x1B, off := 0x108, lsb := 12, width := 4, acc := .rw, reset := 3, segs := [(2, 10, 1)] }
def PTP_STAT_STATES : FieldDef := { on := 1, code := 0x1B, off := 0x10C, lsb := 0, width := 16, acc := .ro, reset := 0x1111 }
def PTP_STAT_SLAVE_PORT : FieldDef := { on := 1, code := 0x1B, off := 0x10C, lsb := 16, width := 2, acc := .ro }
def PTP_STAT_SLAVE : FieldDef := { on := 1, code := 0x1B, off := 0x10C, lsb := 18, width := 1, acc := .ro }
def PTP_STAT_GM_SELF : FieldDef := { on := 1, code := 0x1B, off := 0x10C, lsb := 19, width := 1, acc := .ro }
def PTP_GM_HI_ID : FieldDef := { on := 1, code := 0x1B, off := 0x110, lsb := 0, width := 32, acc := .ro }
def PTP_GM_LO_ID : FieldDef := { on := 1, code := 0x1B, off := 0x114, lsb := 0, width := 32, acc := .ro }
def PTP_OFFSET_NS : FieldDef := { on := 1, code := 0x1B, off := 0x118, lsb := 0, width := 32, acc := .ro }
def PTP_PDELAYn_NS : FieldDef := { on := 1, code := 0x1B, off := 0x11C, lsb := 0, width := 24, acc := .ro, dims := [(4, 4)] }
def PTP_TIME_LO_NS : FieldDef := { on := 1, code := 0x1B, off := 0x12C, lsb := 0, width := 32, acc := .ro }
def PTP_TIME_HI_NS : FieldDef := { on := 1, code := 0x1B, off := 0x130, lsb := 0, width := 32, acc := .ro }
/-! ### TSN (08_stations_and_line_ports.md R279) -/

def TSN_SEL_PORT : FieldDef := { on := 1, code := 0x1C, off := 0x100, lsb := 0, width := 2, acc := .rw }
def TSN_SEL_ENTRY : FieldDef := { on := 1, code := 0x1C, off := 0x100, lsb := 2, width := 8, acc := .rw }
def TSN_SEL_AUTOINC : FieldDef := { on := 1, code := 0x1C, off := 0x100, lsb := 10, width := 1, acc := .rw }
def TSN_CYCLE_NS : FieldDef := { on := 1, code := 0x1C, off := 0x104, lsb := 0, width := 27, acc := .rw, reset := 0xf4240, win := .tsnPort, segs := [(1000, 100000000, 1)] }
def TSN_ADMIN_LEN_ENTRIES : FieldDef := { on := 1, code := 0x1C, off := 0x108, lsb := 0, width := 9, acc := .rw, win := .tsnPort, segs := [(0, 256, 1)] }
def TSN_GCL_W0_GATES : FieldDef := { on := 1, code := 0x1C, off := 0x10C, lsb := 0, width := 7, acc := .rw, reset := 127, win := .tsnEntry }
def TSN_GCL_W1_NS : FieldDef := { on := 1, code := 0x1C, off := 0x110, lsb := 0, width := 27, acc := .rw, reset := 0xf4240, win := .tsnEntry, segs := [(32, 100000000, 1)] }
def TSN_CTL_CHANGE : FieldDef := { on := 1, code := 0x1C, off := 0x114, lsb := 0, width := 1, acc := .wo, win := .tsnPort }
def TSN_STAT_OPER_LEN : FieldDef := { on := 1, code := 0x1C, off := 0x118, lsb := 0, width := 9, acc := .ro, win := .tsnPort }
def TSN_STAT_PENDING : FieldDef := { on := 1, code := 0x1C, off := 0x118, lsb := 9, width := 1, acc := .ro, win := .tsnPort }
def TSN_STAT_CHANGE_FAIL : FieldDef := { on := 1, code := 0x1C, off := 0x118, lsb := 10, width := 1, acc := .ro, win := .tsnPort }
def TSN_GUARD_COUNT : FieldDef := { on := 1, code := 0x1C, off := 0x11C, lsb := 0, width := 32, acc := .rc, win := .tsnPort }
/-! ### LINEn (08_stations_and_line_ports.md R280) -/

def LINEn_CFG_MODE : FieldDef := { on := 1, code := 0x1D, off := 0x100, lsb := 0, width := 1, acc := .rw, frz := true }
def LINEn_MAC_LO_ADDR : FieldDef := { on := 1, code := 0x1D, off := 0x104, lsb := 0, width := 32, acc := .rw }
def LINEn_MAC_HI_ADDR : FieldDef := { on := 1, code := 0x1D, off := 0x108, lsb := 0, width := 16, acc := .rw, dyn := .LINEn_MAC_HI_ADDR }
def LINEn_STAT_LINK : FieldDef := { on := 1, code := 0x1D, off := 0x10C, lsb := 0, width := 1, acc := .ro }
def LINEn_STAT_OVERSPAN : FieldDef := { on := 1, code := 0x1D, off := 0x10C, lsb := 1, width := 1, acc := .ro }
def LINEn_STAT_RING : FieldDef := { on := 1, code := 0x1D, off := 0x10C, lsb := 2, width := 1, acc := .ro, rk := 2 }
def LINEn_SPAN_NS : FieldDef := { on := 1, code := 0x1D, off := 0x110, lsb := 0, width := 27, acc := .ro }
def LINEn_SENT_LAST_COUNT : FieldDef := { on := 1, code := 0x1D, off := 0x114, lsb := 0, width := 11, acc := .ro }
def LINEn_RX_OK_COUNT : FieldDef := { on := 1, code := 0x1D, off := 0x118, lsb := 0, width := 32, acc := .rc }
def LINEn_RX_FCS_COUNT : FieldDef := { on := 1, code := 0x1D, off := 0x11C, lsb := 0, width := 32, acc := .rc }
def LINEn_RX_FORMAT_COUNT : FieldDef := { on := 1, code := 0x1D, off := 0x120, lsb := 0, width := 32, acc := .rc }
def LINEn_RX_DUP_COUNT : FieldDef := { on := 1, code := 0x1D, off := 0x124, lsb := 0, width := 32, acc := .rc }
def LINEn_RX_STALE_COUNT : FieldDef := { on := 1, code := 0x1D, off := 0x128, lsb := 0, width := 32, acc := .rc }
def LINEn_RX_RETURN_COUNT : FieldDef := { on := 1, code := 0x1D, off := 0x12C, lsb := 0, width := 32, acc := .rc }
def LINEn_RX_SVC_DROP_COUNT : FieldDef := { on := 1, code := 0x1D, off := 0x130, lsb := 0, width := 32, acc := .rc }
def LINEn_TX_OUT_COUNT : FieldDef := { on := 1, code := 0x1D, off := 0x134, lsb := 0, width := 32, acc := .rc }
def LINEn_TX_TABLET_COUNT : FieldDef := { on := 1, code := 0x1D, off := 0x138, lsb := 0, width := 32, acc := .rc }
def LINEn_TX_OVERSPAN_COUNT : FieldDef := { on := 1, code := 0x1D, off := 0x13C, lsb := 0, width := 32, acc := .rc }
/-! ### SHUNT (09_sidings_and_partners.md R319) -/

def SHUNT_REQ_START : FieldDef := { on := 1, code := 0x14, off := 0x100, lsb := 0, width := 1, acc := .wo }
def SHUNT_REQ_ABANDON : FieldDef := { on := 1, code := 0x14, off := 0x100, lsb := 1, width := 1, acc := .wo }
def SHUNT_REQ_SOURCE : FieldDef := { on := 1, code := 0x14, off := 0x100, lsb := 2, width := 3, acc := .wo, segs := [(2, 7, 1)] }
def SHUNT_REQ_TARGET : FieldDef := { on := 1, code := 0x14, off := 0x100, lsb := 5, width := 3, acc := .wo, segs := [(0, 0, 1), (2, 7, 1)] }
def SHUNT_REQ_MODE : FieldDef := { on := 1, code := 0x14, off := 0x100, lsb := 8, width := 1, acc := .wo }
def SHUNT_CFG_RATE : FieldDef := { on := 1, code := 0x14, off := 0x104, lsb := 0, width := 7, acc := .rw, reset := 64, dyn := .SHUNT_CFG_RATE, segs := [(1, 127, 1)] }
def SHUNT_CFG_TRIES : FieldDef := { on := 1, code := 0x14, off := 0x104, lsb := 7, width := 7, acc := .rw, reset := 10, dyn := .SHUNT_CFG_TRIES, segs := [(1, 100, 1)] }
def SHUNT_CFG_DELTA_MAX : FieldDef := { on := 1, code := 0x14, off := 0x104, lsb := 14, width := 7, acc := .rw, reset := 64, dyn := .SHUNT_CFG_DELTA_MAX, segs := [(2, 64, 1)] }
def SHUNT_STAT_STATE : FieldDef := { on := 1, code := 0x14, off := 0x108, lsb := 0, width := 3, acc := .ro }
def SHUNT_STAT_SOURCE : FieldDef := { on := 1, code := 0x14, off := 0x108, lsb := 3, width := 3, acc := .ro }
def SHUNT_STAT_TARGET : FieldDef := { on := 1, code := 0x14, off := 0x108, lsb := 6, width := 3, acc := .ro }
def SHUNT_STAT_MODE : FieldDef := { on := 1, code := 0x14, off := 0x108, lsb := 9, width := 1, acc := .ro }
def SHUNT_STAT_CODE : FieldDef := { on := 1, code := 0x14, off := 0x108, lsb := 10, width := 4, acc := .ro }
def SHUNT_STAT_ACCEPTED : FieldDef := { on := 1, code := 0x14, off := 0x108, lsb := 14, width := 1, acc := .ro }
def SHUNT_DIRTY_REGIONS : FieldDef := { on := 1, code := 0x14, off := 0x10C, lsb := 0, width := 12, acc := .ro, live := .SHUNT_DIRTY_REGIONS }
def SHUNT_PASSES_COUNT : FieldDef := { on := 1, code := 0x14, off := 0x110, lsb := 0, width := 32, acc := .ro }
def SHUNT_TRIES_LEFT : FieldDef := { on := 1, code := 0x14, off := 0x114, lsb := 0, width := 7, acc := .ro }
def SHUNT_LAST_DELTA_BYTES : FieldDef := { on := 1, code := 0x14, off := 0x118, lsb := 0, width := 19, acc := .ro }
def SHUNT_LAST_TIME_CYCLES : FieldDef := { on := 1, code := 0x14, off := 0x11C, lsb := 0, width := 15, acc := .ro }
/-! ### PART (09_sidings_and_partners.md R320) -/

def PART_REQ_OP : FieldDef := { on := 1, code := 0x17, off := 0x100, lsb := 0, width := 3, acc := .wo, dyn := .PART_REQ_OP, segs := [(0, 4, 1)] }
def PART_REQ_DIE : FieldDef := { on := 1, code := 0x17, off := 0x100, lsb := 3, width := 3, acc := .wo, segs := [(2, 7, 1)] }
def PART_REQ_TO : FieldDef := { on := 1, code := 0x17, off := 0x100, lsb := 6, width := 3, acc := .wo, segs := [(2, 7, 1)] }
def PART_CFG_ROLES : FieldDef := { on := 1, code := 0x17, off := 0x104, lsb := 0, width := 12, acc := .rw, frz := true, dyn := .PART_CFG_ROLES }
def PART_ROLES_ROLES : FieldDef := { on := 1, code := 0x17, off := 0x108, lsb := 0, width := 12, acc := .ro }
def PART_ALIAS_DIES : FieldDef := { on := 1, code := 0x17, off := 0x10C, lsb := 0, width := 18, acc := .ro, reset := 0x3eb1a }
def PART_STAT_PRESENT : FieldDef := { on := 1, code := 0x17, off := 0x110, lsb := 0, width := 6, acc := .ro }
def PART_STAT_FAILED : FieldDef := { on := 1, code := 0x17, off := 0x110, lsb := 6, width := 6, acc := .ro }
def PART_STAT_REFUSE : FieldDef := { on := 1, code := 0x17, off := 0x110, lsb := 12, width := 4, acc := .ro }
def PART_CUTOVERS_COUNT : FieldDef := { on := 1, code := 0x17, off := 0x114, lsb := 0, width := 32, acc := .ro }
/-! ### PAIR (09_sidings_and_partners.md R321) -/

def PAIR_CFG_EN : FieldDef := { on := 1, code := 0x15, off := 0x100, lsb := 0, width := 1, acc := .rw, frz := true }
def PAIR_CFG_HB_MISS : FieldDef := { on := 1, code := 0x15, off := 0x100, lsb := 1, width := 4, acc := .rw, reset := 3, frz := true, segs := [(1, 15, 1)] }
def PAIR_CFG_SILENT_MS : FieldDef := { on := 1, code := 0x15, off := 0x100, lsb := 5, width := 7, acc := .rw, reset := 20, segs := [(5, 100, 1)] }
def PAIR_CFG_YIELD_CAUSES : FieldDef := { on := 1, code := 0x15, off := 0x100, lsb := 12, width := 4, acc := .rw, reset := 12 }
def PAIR_CFG_YIELD_ON_PF : FieldDef := { on := 1, code := 0x15, off := 0x100, lsb := 16, width := 1, acc := .rw, reset := 1 }
def PAIR_CFG_MANUAL : FieldDef := { on := 1, code := 0x15, off := 0x100, lsb := 17, width := 1, acc := .rw }
def PAIR_ID_ID : FieldDef := { on := 1, code := 0x15, off := 0x104, lsb := 0, width := 16, acc := .rw, frz := true }
def PAIR_WIT_BASE_ID : FieldDef := { on := 1, code := 0x15, off := 0x108, lsb := 0, width := 11, acc := .rw, reset := 64, segs := [(0, 2044, 1)] }
def PAIR_WIT_T_LOSS : FieldDef := { on := 1, code := 0x15, off := 0x108, lsb := 11, width := 4, acc := .rw, reset := 3, segs := [(2, 8, 1)] }
def PAIR_WIT_ENABLE : FieldDef := { on := 1, code := 0x15, off := 0x108, lsb := 15, width := 1, acc := .rw, reset := 1 }
def PAIR_WIT_KEY : FieldDef := { on := 1, code := 0x15, off := 0x108, lsb := 16, width := 4, acc := .rw }
def PAIR_STAT_STATE : FieldDef := { on := 1, code := 0x15, off := 0x10C, lsb := 0, width := 4, acc := .ro }
def PAIR_STAT_LINK : FieldDef := { on := 1, code := 0x15, off := 0x10C, lsb := 4, width := 1, acc := .ro }
def PAIR_STAT_WITNESS : FieldDef := { on := 1, code := 0x15, off := 0x10C, lsb := 5, width := 1, acc := .ro }
def PAIR_STAT_SENIOR : FieldDef := { on := 1, code := 0x15, off := 0x10C, lsb := 6, width := 1, acc := .ro }
def PAIR_STAT_VERDICT : FieldDef := { on := 1, code := 0x15, off := 0x10C, lsb := 7, width := 2, acc := .ro }
def PAIR_STAT_DIVERGED : FieldDef := { on := 1, code := 0x15, off := 0x10C, lsb := 9, width := 1, acc := .ro }
def PAIR_STAT_CAUSE : FieldDef := { on := 1, code := 0x15, off := 0x10C, lsb := 10, width := 4, acc := .ro }
def PAIR_APPLIED_N : FieldDef := { on := 1, code := 0x15, off := 0x110, lsb := 0, width := 32, acc := .ro }
def PAIR_VERDICT_N_N : FieldDef := { on := 1, code := 0x15, off := 0x114, lsb := 0, width := 32, acc := .ro }
def PAIR_MIRROR_BYTES : FieldDef := { on := 1, code := 0x15, off := 0x118, lsb := 0, width := 22, acc := .ro }
def PAIR_DISCARDS_COUNT : FieldDef := { on := 1, code := 0x15, off := 0x11C, lsb := 0, width := 32, acc := .rc }
def PAIR_DIVERGE_WORD : FieldDef := { on := 1, code := 0x15, off := 0x120, lsb := 0, width := 15, acc := .ro }
def PAIR_LINKERR_COUNT : FieldDef := { on := 1, code := 0x15, off := 0x124, lsb := 0, width := 32, acc := .rc }
def PAIR_MAP_DIES : FieldDef := { on := 1, code := 0x15, off := 0x128, lsb := 0, width := 18, acc := .rw, reset := 0x3eb1a, dyn := .PAIR_MAP_DIES }
def PAIR_REQ_SYNC : FieldDef := { on := 1, code := 0x15, off := 0x12C, lsb := 0, width := 1, acc := .wo }
/-! ### TABLET (09_sidings_and_partners.md R322) -/

def TABLET_CTL_WANT : FieldDef := { on := 1, code := 0x16, off := 0x100, lsb := 0, width := 1, acc := .rw }
def TABLET_STAT_STATE : FieldDef := { on := 1, code := 0x16, off := 0x104, lsb := 0, width := 2, acc := .ro }
def TABLET_STAT_CLAIM : FieldDef := { on := 1, code := 0x16, off := 0x104, lsb := 2, width := 1, acc := .ro }
def TABLET_STAT_SEEN : FieldDef := { on := 1, code := 0x16, off := 0x104, lsb := 3, width := 1, acc := .ro }
def TABLET_STAT_SENIOR : FieldDef := { on := 1, code := 0x16, off := 0x104, lsb := 4, width := 1, acc := .ro }
def TABLET_GAINED_LO_NS : FieldDef := { on := 1, code := 0x16, off := 0x108, lsb := 0, width := 32, acc := .ro }
def TABLET_GAINED_HI_NS : FieldDef := { on := 1, code := 0x16, off := 0x10C, lsb := 0, width := 32, acc := .ro }
def TABLET_LOST_LO_NS : FieldDef := { on := 1, code := 0x16, off := 0x110, lsb := 0, width := 32, acc := .ro }
def TABLET_LOST_HI_NS : FieldDef := { on := 1, code := 0x16, off := 0x114, lsb := 0, width := 32, acc := .ro }
def TABLET_COUNTS_GAINS : FieldDef := { on := 1, code := 0x16, off := 0x118, lsb := 0, width := 16, acc := .rc }
def TABLET_COUNTS_COLLISIONS : FieldDef := { on := 1, code := 0x16, off := 0x118, lsb := 16, width := 16, acc := .rc }
/-! ### FAB (10_junction_memory_tokens.md R352) -/

def FAB_BURST_LIMIT_BEATS : FieldDef := { on := 5, code := 0x5, off := 0x100, lsb := 0, width := 7, acc := .rw, reset := 64, segs := [(1, 64, 1)] }
def FAB_FENCE_DIES : FieldDef := { on := 1, code := 0x5, off := 0x104, lsb := 0, width := 6, acc := .w1s, live := .FAB_FENCE_DIES }
def FAB_UNFENCE_DIES : FieldDef := { on := 1, code := 0x5, off := 0x108, lsb := 0, width := 6, acc := .w1c, dyn := .FAB_UNFENCE_DIES, live := .FAB_UNFENCE_DIES }
def FAB_STAT_FENCED : FieldDef := { on := 5, code := 0x5, off := 0x10C, lsb := 0, width := 6, acc := .ro, rk := 3 }
def FAB_STAT_HELD : FieldDef := { on := 4, code := 0x5, off := 0x10C, lsb := 6, width := 4, acc := .ro }
def FAB_ABSENT_COUNT : FieldDef := { on := 5, code := 0x5, off := 0x110, lsb := 0, width := 32, acc := .rc }
def FAB_ABORTED_COUNT : FieldDef := { on := 5, code := 0x5, off := 0x114, lsb := 0, width := 32, acc := .rc }
def FAB_LOST_COUNT : FieldDef := { on := 5, code := 0x5, off := 0x118, lsb := 0, width := 32, acc := .rc }
def FAB_TIMEOUTS_COUNT : FieldDef := { on := 5, code := 0x5, off := 0x11C, lsb := 0, width := 32, acc := .rc }
def FAB_MAXWAIT_BEATS : FieldDef := { on := 5, code := 0x5, off := 0x120, lsb := 0, width := 12, acc := .rc }
def FAB_MAXLAT_CYCLES : FieldDef := { on := 5, code := 0x5, off := 0x124, lsb := 0, width := 12, acc := .rc }
def FAB_HOLD_MAX_ENTRIES : FieldDef := { on := 4, code := 0x5, off := 0x128, lsb := 0, width := 7, acc := .rc }
/-! ### QUE (10_junction_memory_tokens.md R353) -/

def QUE_SEL_QUEUE : FieldDef := { on := 5, code := 0x6, off := 0x100, lsb := 0, width := 4, acc := .rw }
def QUE_SEL_DIE : FieldDef := { on := 5, code := 0x6, off := 0x100, lsb := 4, width := 3, acc := .rw, segs := [(0, 0, 1), (2, 7, 1)] }
def QUE_CREDIT_COUNT : FieldDef := { on := 5, code := 0x6, off := 0x104, lsb := 0, width := 11, acc := .ro, win := .credit }
def QUE_PUSH_LO_DATA : FieldDef := { on := 5, code := 0x6, off := 0x108, lsb := 0, width := 32, acc := .rw }
def QUE_PUSH_QUEUE : FieldDef := { on := 5, code := 0x6, off := 0x10C, lsb := 0, width := 4, acc := .wo }
def QUE_PUSH_DIE : FieldDef := { on := 5, code := 0x6, off := 0x10C, lsb := 4, width := 3, acc := .wo, segs := [(0, 0, 1), (2, 7, 1)] }
def QUE_PUSH_TAG : FieldDef := { on := 5, code := 0x6, off := 0x10C, lsb := 16, width := 16, acc := .wo }
def QUE_PUSH_STAT_STATUS : FieldDef := { on := 5, code := 0x6, off := 0x110, lsb := 0, width := 2, acc := .ro, win := .master }
def QUE_Qq_CFG_EN : FieldDef := { on := 5, code := 0x6, off := 0x200, lsb := 0, width := 1, acc := .rw, dims := [(16, 32)] }
def QUE_Qq_CFG_DEPTH : FieldDef := { on := 5, code := 0x6, off := 0x200, lsb := 1, width := 3, acc := .rw, dims := [(16, 32)], dyn := .QUE_Qq_CFG_DEPTH, segs := [(0, 6, 1)] }
def QUE_Qq_ALLOT_LO_SRCs : FieldDef := { on := 5, code := 0x6, off := 0x204, lsb := 0, width := 8, acc := .rw, dims := [(16, 32)], lanes := (4, 8), dyn := .QUE_Qq_ALLOT_LO_SRCs }
def QUE_Qq_ALLOT_HI_SRCs : FieldDef := { on := 5, code := 0x6, off := 0x208, lsb := 0, width := 8, acc := .rw, dims := [(16, 32)], lanes := (4, 8), dyn := .QUE_Qq_ALLOT_HI_SRCs }
def QUE_Qq_POP_POP : FieldDef := { on := 5, code := 0x6, off := 0x20C, lsb := 0, width := 1, acc := .wo, dims := [(16, 32)] }
def QUE_Qq_STAT_COUNT : FieldDef := { on := 5, code := 0x6, off := 0x210, lsb := 0, width := 11, acc := .ro, dims := [(16, 32)], live := .QUE_Qq_STAT_COUNT }
def QUE_Qq_STAT_DROPS : FieldDef := { on := 5, code := 0x6, off := 0x210, lsb := 11, width := 10, acc := .ro, dims := [(16, 32)] }
def QUE_Qq_STAT_DISCARDS : FieldDef := { on := 5, code := 0x6, off := 0x210, lsb := 21, width := 10, acc := .ro, dims := [(16, 32)] }
def QUE_Qq_HEAD_LO_DATA : FieldDef := { on := 5, code := 0x6, off := 0x214, lsb := 0, width := 32, acc := .ro, dims := [(16, 32)], live := .QUE_Qq_HEAD_LO_DATA }
def QUE_Qq_HEAD_HI_DATA : FieldDef := { on := 5, code := 0x6, off := 0x218, lsb := 0, width := 32, acc := .ro, dims := [(16, 32)], live := .QUE_Qq_HEAD_HI_DATA }
/-! ### MEM (10_junction_memory_tokens.md R354) -/

def MEM_PWR_BANKb : FieldDef := { on := 5, code := 0x7, off := 0x100, lsb := 0, width := 2, acc := .rw, lanes := (8, 2), dyn := .MEM_PWR_BANKb, segs := [(0, 2, 1)] }
def MEM_PWR_STAT_BANKb : FieldDef := { on := 5, code := 0x7, off := 0x104, lsb := 0, width := 2, acc := .ro, lanes := (8, 2) }
def MEM_ECC_CTL_SCRUB_EN : FieldDef := { on := 5, code := 0x7, off := 0x108, lsb := 0, width := 1, acc := .rw, reset := 1 }
def MEM_ECC_CTL_SCRUB_RATE : FieldDef := { on := 5, code := 0x7, off := 0x108, lsb := 1, width := 4, acc := .rw, reset := 8 }
def MEM_CE_COUNT : FieldDef := { on := 5, code := 0x7, off := 0x10C, lsb := 0, width := 32, acc := .rc }
def MEM_DE_COUNT : FieldDef := { on := 5, code := 0x7, off := 0x110, lsb := 0, width := 32, acc := .rc }
def MEM_LAST_ERR_ADDR : FieldDef := { on := 5, code := 0x7, off := 0x114, lsb := 0, width := 32, acc := .ro }
def MEM_LAST_ERR_INFO_DOUBLE : FieldDef := { on := 5, code := 0x7, off := 0x118, lsb := 0, width := 1, acc := .ro }
def MEM_LAST_ERR_INFO_BANK : FieldDef := { on := 5, code := 0x7, off := 0x118, lsb := 1, width := 3, acc := .ro }
def MEM_LAST_ERR_INFO_MASTER : FieldDef := { on := 5, code := 0x7, off := 0x118, lsb := 16, width := 8, acc := .ro }
def MEM_SWEEPS_COUNT : FieldDef := { on := 5, code := 0x7, off := 0x11C, lsb := 0, width := 32, acc := .ro }
def MEM_DMA_GO_ADDR : FieldDef := { on := 4, code := 0x7, off := 0x120, lsb := 0, width := 32, acc := .wo, segs := [(7340032, 8388600, 8)] }
def MEM_DMA_STAT_ADDR : FieldDef := { on := 4, code := 0x7, off := 0x124, lsb := 0, width := 32, acc := .ro }
def MEM_DMA_CODE_CODE : FieldDef := { on := 4, code := 0x7, off := 0x128, lsb := 0, width := 3, acc := .ro }
/-! ### MARCH (10_junction_memory_tokens.md R355) -/

def MARCH_CTL_MODE : FieldDef := { on := 5, code := 0x8, off := 0x100, lsb := 0, width := 2, acc := .rw, dyn := .MARCH_CTL_MODE, segs := [(0, 2, 1)] }
def MARCH_CTL_BANK : FieldDef := { on := 5, code := 0x8, off := 0x100, lsb := 2, width := 3, acc := .rw, dyn := .MARCH_CTL_BANK }
def MARCH_CTL_LOOP : FieldDef := { on := 5, code := 0x8, off := 0x100, lsb := 5, width := 1, acc := .rw }
def MARCH_CTL_START : FieldDef := { on := 5, code := 0x8, off := 0x100, lsb := 6, width := 1, acc := .wo }
def MARCH_CTL_STOP : FieldDef := { on := 5, code := 0x8, off := 0x100, lsb := 7, width := 1, acc := .wo }
def MARCH_CFG_LOAN_WORDS : FieldDef := { on := 5, code := 0x8, off := 0x104, lsb := 0, width := 7, acc := .rw, reset := 64, segs := [(1, 64, 1)] }
def MARCH_CFG_RETRIES : FieldDef := { on := 5, code := 0x8, off := 0x104, lsb := 7, width := 4, acc := .rw, reset := 4, segs := [(1, 15, 1)] }
def MARCH_STAT_STATE : FieldDef := { on := 5, code := 0x8, off := 0x108, lsb := 0, width := 2, acc := .ro }
def MARCH_STAT_BANK : FieldDef := { on := 5, code := 0x8, off := 0x108, lsb := 2, width := 3, acc := .ro }
def MARCH_STAT_WORD : FieldDef := { on := 5, code := 0x8, off := 0x108, lsb := 5, width := 18, acc := .ro }
def MARCH_LOANS_COUNT : FieldDef := { on := 5, code := 0x8, off := 0x10C, lsb := 0, width := 32, acc := .ro }
def MARCH_ABORTS_COUNT : FieldDef := { on := 5, code := 0x8, off := 0x110, lsb := 0, width := 32, acc := .rc }
def MARCH_SKIPPED_COUNT : FieldDef := { on := 5, code := 0x8, off := 0x114, lsb := 0, width := 32, acc := .rc }
def MARCH_FAULT_BANK : FieldDef := { on := 5, code := 0x8, off := 0x118, lsb := 0, width := 3, acc := .ro }
def MARCH_FAULT_SUBARRAY : FieldDef := { on := 5, code := 0x8, off := 0x118, lsb := 3, width := 4, acc := .ro }
def MARCH_FAULT_ROW : FieldDef := { on := 5, code := 0x8, off := 0x118, lsb := 7, width := 9, acc := .ro }
def MARCH_FAULT_COLUMN : FieldDef := { on := 5, code := 0x8, off := 0x118, lsb := 16, width := 7, acc := .ro }
def MARCH_FAULT_BIT : FieldDef := { on := 5, code := 0x8, off := 0x118, lsb := 23, width := 7, acc := .ro }
def MARCH_FAULT_DATA_LOST : FieldDef := { on := 5, code := 0x8, off := 0x118, lsb := 30, width := 1, acc := .ro }
def MARCH_FAULT_VALID : FieldDef := { on := 5, code := 0x8, off := 0x118, lsb := 31, width := 1, acc := .ro }
def MARCH_FAULTS_COUNT : FieldDef := { on := 5, code := 0x8, off := 0x11C, lsb := 0, width := 32, acc := .rc }
def MARCH_REPAIR_BANK : FieldDef := { on := 5, code := 0x8, off := 0x120, lsb := 0, width := 3, acc := .wo }
def MARCH_REPAIR_SUBARRAY : FieldDef := { on := 5, code := 0x8, off := 0x120, lsb := 3, width := 4, acc := .wo }
def MARCH_REPAIR_KIND : FieldDef := { on := 5, code := 0x8, off := 0x120, lsb := 7, width := 1, acc := .wo }
def MARCH_REPAIR_INDEX : FieldDef := { on := 5, code := 0x8, off := 0x120, lsb := 8, width := 9, acc := .wo, dyn := .MARCH_REPAIR_INDEX }
def MARCH_REPAIR_GO : FieldDef := { on := 5, code := 0x8, off := 0x120, lsb := 17, width := 1, acc := .wo }
def MARCH_REPAIR_STAT_STATE : FieldDef := { on := 5, code := 0x8, off := 0x124, lsb := 0, width := 2, acc := .ro }
def MARCH_REPAIR_STAT_CODE : FieldDef := { on := 5, code := 0x8, off := 0x124, lsb := 2, width := 3, acc := .ro }
def MARCH_REPAIR_STAT_ROWS_LEFT : FieldDef := { on := 5, code := 0x8, off := 0x124, lsb := 5, width := 3, acc := .ro }
def MARCH_REPAIR_STAT_COLS_LEFT : FieldDef := { on := 5, code := 0x8, off := 0x124, lsb := 8, width := 2, acc := .ro }
def MARCH_EXEMPTi_W0_VALID : FieldDef := { on := 5, code := 0x8, off := 0x140, lsb := 0, width := 1, acc := .rw, dims := [(32, 8)] }
def MARCH_EXEMPTi_W0_FIRST : FieldDef := { on := 5, code := 0x8, off := 0x140, lsb := 1, width := 18, acc := .rw, dims := [(32, 8)], dyn := .MARCH_EXEMPTi_W0_FIRST }
def MARCH_EXEMPTi_W1_LAST : FieldDef := { on := 5, code := 0x8, off := 0x144, lsb := 0, width := 18, acc := .rw, dims := [(32, 8)], dyn := .MARCH_EXEMPTi_W1_LAST }
/-! ### TOKEN (10_junction_memory_tokens.md R356) -/

def TOKEN_ACQ_TOKEN : FieldDef := { on := 1, code := 0x9, off := 0x100, lsb := 0, width := 6, acc := .wo }
def TOKEN_REL_TOKEN : FieldDef := { on := 1, code := 0x9, off := 0x104, lsb := 0, width := 6, acc := .wo }
def TOKEN_RESULT_CODE : FieldDef := { on := 1, code := 0x9, off := 0x108, lsb := 0, width := 3, acc := .ro, win := .master }
def TOKEN_HELD_LO_TOKENS : FieldDef := { on := 1, code := 0x9, off := 0x10C, lsb := 0, width := 32, acc := .ro }
def TOKEN_HELD_HI_TOKENS : FieldDef := { on := 1, code := 0x9, off := 0x110, lsb := 0, width := 32, acc := .ro }
def TOKEN_BROKEN_LO_TOKENS : FieldDef := { on := 1, code := 0x9, off := 0x114, lsb := 0, width := 32, acc := .ro }
def TOKEN_BROKEN_HI_TOKENS : FieldDef := { on := 1, code := 0x9, off := 0x118, lsb := 0, width := 32, acc := .ro }
def TOKEN_HELDOVER_LO_TOKENS : FieldDef := { on := 1, code := 0x9, off := 0x11C, lsb := 0, width := 32, acc := .ro }
def TOKEN_HELDOVER_HI_TOKENS : FieldDef := { on := 1, code := 0x9, off := 0x120, lsb := 0, width := 32, acc := .ro }
def TOKEN_SEL_TOKEN : FieldDef := { on := 1, code := 0x9, off := 0x124, lsb := 0, width := 6, acc := .rw }
def TOKEN_OWNER_MASTER : FieldDef := { on := 1, code := 0x9, off := 0x128, lsb := 0, width := 8, acc := .ro, win := .token }
def TOKEN_OWNER_HELD : FieldDef := { on := 1, code := 0x9, off := 0x128, lsb := 8, width := 1, acc := .ro, live := .TOKEN_OWNER_HELD, win := .token }
def TOKEN_OWNER_BROKEN : FieldDef := { on := 1, code := 0x9, off := 0x128, lsb := 9, width := 1, acc := .ro, live := .TOKEN_OWNER_BROKEN, win := .token }
def TOKEN_RETURNS_COUNT : FieldDef := { on := 1, code := 0x9, off := 0x12C, lsb := 0, width := 32, acc := .ro }
/-! ### CANx (11_can_fd.md R376) -/

def CANx_CTL_EN : FieldDef := { on := 1, code := 0x21, off := 0x100, lsb := 0, width := 1, acc := .rw }
def CANx_CTL_FD_EN : FieldDef := { on := 1, code := 0x21, off := 0x100, lsb := 1, width := 1, acc := .rw, reset := 1, dyn := .CANx_CTL_FD_EN }
def CANx_CTL_LISTEN : FieldDef := { on := 1, code := 0x21, off := 0x100, lsb := 2, width := 1, acc := .rw, dyn := .CANx_CTL_LISTEN }
def CANx_CTL_TXORDER : FieldDef := { on := 1, code := 0x21, off := 0x100, lsb := 3, width := 1, acc := .rw, dyn := .CANx_CTL_TXORDER }
def CANx_CTL_PXHD : FieldDef := { on := 1, code := 0x21, off := 0x100, lsb := 4, width := 1, acc := .rw, dyn := .CANx_CTL_PXHD }
def CANx_CTL_NO_RETX : FieldDef := { on := 1, code := 0x21, off := 0x100, lsb := 5, width := 1, acc := .rw }
def CANx_CTL_RX_FLUSH : FieldDef := { on := 1, code := 0x21, off := 0x100, lsb := 6, width := 1, acc := .wo }
def CANx_CTL_RECOVER : FieldDef := { on := 1, code := 0x21, off := 0x100, lsb := 7, width := 1, acc := .rwk, dyn := .CANx_CTL_RECOVER }
def CANx_NBT_BRP : FieldDef := { on := 1, code := 0x21, off := 0x104, lsb := 0, width := 6, acc := .rw, reset := 5, dyn := .CANx_NBT_BRP, segs := [(1, 32, 1)] }
def CANx_NBT_TSEG1 : FieldDef := { on := 1, code := 0x21, off := 0x104, lsb := 6, width := 9, acc := .rw, reset := 63, dyn := .CANx_NBT_TSEG1, segs := [(2, 256, 1)] }
def CANx_NBT_TSEG2 : FieldDef := { on := 1, code := 0x21, off := 0x104, lsb := 15, width := 8, acc := .rw, reset := 16, dyn := .CANx_NBT_TSEG2, segs := [(1, 128, 1)] }
def CANx_NBT_SJW : FieldDef := { on := 1, code := 0x21, off := 0x104, lsb := 23, width := 8, acc := .rw, reset := 16, dyn := .CANx_NBT_SJW }
def CANx_DBT_BRP : FieldDef := { on := 1, code := 0x21, off := 0x108, lsb := 0, width := 6, acc := .rw, reset := 5, dyn := .CANx_DBT_BRP, segs := [(1, 32, 1)] }
def CANx_DBT_TSEG1 : FieldDef := { on := 1, code := 0x21, off := 0x108, lsb := 6, width := 6, acc := .rw, reset := 15, dyn := .CANx_DBT_TSEG1, segs := [(1, 32, 1)] }
def CANx_DBT_TSEG2 : FieldDef := { on := 1, code := 0x21, off := 0x108, lsb := 12, width := 5, acc := .rw, reset := 4, dyn := .CANx_DBT_TSEG2, segs := [(1, 16, 1)] }
def CANx_DBT_SJW : FieldDef := { on := 1, code := 0x21, off := 0x108, lsb := 17, width := 5, acc := .rw, reset := 4, dyn := .CANx_DBT_SJW }
def CANx_DBT_TDC_EN : FieldDef := { on := 1, code := 0x21, off := 0x108, lsb := 22, width := 1, acc := .rw, reset := 1, dyn := .CANx_DBT_TDC_EN }
def CANx_DBT_TDCO : FieldDef := { on := 1, code := 0x21, off := 0x108, lsb := 23, width := 8, acc := .rw, reset := 80, dyn := .CANx_DBT_TDCO }
def CANx_STAT_STATE : FieldDef := { on := 1, code := 0x21, off := 0x10C, lsb := 0, width := 3, acc := .ro }
def CANx_STAT_CFG_ERR : FieldDef := { on := 1, code := 0x21, off := 0x10C, lsb := 3, width := 1, acc := .ro }
def CANx_STAT_TX_BUSY : FieldDef := { on := 1, code := 0x21, off := 0x10C, lsb := 4, width := 1, acc := .ro }
def CANx_STAT_RX_BUSY : FieldDef := { on := 1, code := 0x21, off := 0x10C, lsb := 5, width := 1, acc := .ro }
def CANx_STAT_TDCV : FieldDef := { on := 1, code := 0x21, off := 0x10C, lsb := 6, width := 8, acc := .ro }
def CANx_ERR_TEC : FieldDef := { on := 1, code := 0x21, off := 0x110, lsb := 0, width := 8, acc := .ro }
def CANx_ERR_REC : FieldDef := { on := 1, code := 0x21, off := 0x110, lsb := 8, width := 8, acc := .ro }
def CANx_ERR_LEC : FieldDef := { on := 1, code := 0x21, off := 0x110, lsb := 16, width := 3, acc := .ro }
def CANx_ERR_LEC_DATA : FieldDef := { on := 1, code := 0x21, off := 0x110, lsb := 19, width := 1, acc := .ro }
def CANx_EVENTS_BUS_OFFS : FieldDef := { on := 1, code := 0x21, off := 0x114, lsb := 0, width := 16, acc := .rc }
def CANx_EVENTS_ERRORS : FieldDef := { on := 1, code := 0x21, off := 0x114, lsb := 16, width := 16, acc := .rc }
def CANx_TXCMD_REQ : FieldDef := { on := 1, code := 0x21, off := 0x118, lsb := 0, width := 3, acc := .wo }
def CANx_TXCMD_ABORT : FieldDef := { on := 1, code := 0x21, off := 0x118, lsb := 3, width := 3, acc := .wo }
def CANx_TXSTAT_STb : FieldDef := { on := 1, code := 0x21, off := 0x11C, lsb := 0, width := 4, acc := .ro, lanes := (3, 4) }
def CANx_TXSTAT_ABORT_PEND : FieldDef := { on := 1, code := 0x21, off := 0x11C, lsb := 12, width := 3, acc := .ro }
def CANx_RXSTAT_COUNT : FieldDef := { on := 1, code := 0x21, off := 0x120, lsb := 0, width := 6, acc := .ro }
def CANx_RXSTAT_LOCKED : FieldDef := { on := 1, code := 0x21, off := 0x120, lsb := 6, width := 1, acc := .ro }
def CANx_RXSTAT_LOCK_MASTER : FieldDef := { on := 1, code := 0x21, off := 0x120, lsb := 7, width := 8, acc := .ro }
def CANx_RXOVF_COUNT : FieldDef := { on := 1, code := 0x21, off := 0x124, lsb := 0, width := 32, acc := .rc }
def CANx_SVC_TXQ_EN : FieldDef := { on := 1, code := 0x21, off := 0x128, lsb := 0, width := 1, acc := .rw }
def CANx_SVC_TXQ_DIE : FieldDef := { on := 1, code := 0x21, off := 0x128, lsb := 1, width := 3, acc := .rw, reset := 2, segs := [(2, 7, 1)] }
def CANx_SVC_TXQ_Q : FieldDef := { on := 1, code := 0x21, off := 0x128, lsb := 4, width := 4, acc := .rw, reset := 2, segs := [(2, 15, 1)] }
def CANx_SVC_DONE_Q : FieldDef := { on := 1, code := 0x21, off := 0x128, lsb := 8, width := 4, acc := .rw, segs := [(0, 0, 1), (2, 15, 1)] }
def CANx_SVC_BO_DELAY : FieldDef := { on := 1, code := 0x21, off := 0x128, lsb := 12, width := 8, acc := .rw, reset := 10 }
def CANx_SVC_STAT_FWD_DROPS : FieldDef := { on := 1, code := 0x21, off := 0x12C, lsb := 0, width := 16, acc := .rc }
def CANx_SVC_STAT_TX_DISCARDS : FieldDef := { on := 1, code := 0x21, off := 0x12C, lsb := 16, width := 16, acc := .rc }
def CANx_TXBb_W0_IDE : FieldDef := { on := 1, code := 0x21, off := 0x200, lsb := 0, width := 1, acc := .rw, dims := [(3, 128)], dyn := .CANx_TXBb_W0_IDE }
def CANx_TXBb_W0_ID : FieldDef := { on := 1, code := 0x21, off := 0x200, lsb := 1, width := 29, acc := .rw, dims := [(3, 128)], dyn := .CANx_TXBb_W0_ID }
def CANx_TXBb_W1_DLC : FieldDef := { on := 1, code := 0x21, off := 0x204, lsb := 0, width := 4, acc := .rw, dims := [(3, 128)], dyn := .CANx_TXBb_W1_DLC }
def CANx_TXBb_W1_FDF : FieldDef := { on := 1, code := 0x21, off := 0x204, lsb := 4, width := 1, acc := .rw, dims := [(3, 128)], dyn := .CANx_TXBb_W1_FDF }
def CANx_TXBb_W1_BRS : FieldDef := { on := 1, code := 0x21, off := 0x204, lsb := 5, width := 1, acc := .rw, dims := [(3, 128)], dyn := .CANx_TXBb_W1_BRS }
def CANx_TXBb_W1_RTR : FieldDef := { on := 1, code := 0x21, off := 0x204, lsb := 6, width := 1, acc := .rw, dims := [(3, 128)], dyn := .CANx_TXBb_W1_RTR }
def CANx_TXBb_Dk_DATA : FieldDef := { on := 1, code := 0x21, off := 0x208, lsb := 0, width := 32, acc := .rw, dims := [(3, 128), (16, 4)], dyn := .CANx_TXBb_Dk_DATA }
def CANx_RX_Wj_DATA : FieldDef := { on := 1, code := 0x21, off := 0x400, lsb := 0, width := 32, acc := .ro, dims := [(20, 4)], live := .CANx_RX_Wj_DATA }
def CANx_FLTi_W0_IDE : FieldDef := { on := 1, code := 0x21, off := 0x600, lsb := 0, width := 1, acc := .rw, dims := [(32, 16)] }
def CANx_FLTi_W0_ID : FieldDef := { on := 1, code := 0x21, off := 0x600, lsb := 1, width := 29, acc := .rw, dims := [(32, 16)], dyn := .CANx_FLTi_W0_ID }
def CANx_FLTi_W1_MASK : FieldDef := { on := 1, code := 0x21, off := 0x604, lsb := 0, width := 29, acc := .rw, dims := [(32, 16)], dyn := .CANx_FLTi_W1_MASK }
def CANx_FLTi_W2_EN : FieldDef := { on := 1, code := 0x21, off := 0x608, lsb := 0, width := 1, acc := .rw, dims := [(32, 16)] }
def CANx_FLTi_W2_REJECT : FieldDef := { on := 1, code := 0x21, off := 0x608, lsb := 1, width := 1, acc := .rw, dims := [(32, 16)] }
def CANx_FLTi_W2_FWD_EN : FieldDef := { on := 1, code := 0x21, off := 0x608, lsb := 2, width := 1, acc := .rw, dims := [(32, 16)], dyn := .CANx_FLTi_W2_FWD_EN }
def CANx_FLTi_W2_FWD_DIE : FieldDef := { on := 1, code := 0x21, off := 0x608, lsb := 3, width := 3, acc := .rw, reset := 2, dims := [(32, 16)], segs := [(2, 7, 1)] }
def CANx_FLTi_W2_FWD_Q : FieldDef := { on := 1, code := 0x21, off := 0x608, lsb := 6, width := 4, acc := .rw, reset := 2, dims := [(32, 16)], segs := [(2, 15, 1)] }
/-! ### FPX (12_field_die.md R402) -/

def FPX_CTL_MUTE : FieldDef := { on := 1, code := 0x25, off := 0x100, lsb := 0, width := 1, acc := .rwk }
def FPX_STAT_PRESENT : FieldDef := { on := 1, code := 0x25, off := 0x104, lsb := 0, width := 1, acc := .ro }
def FPX_STAT_PUSHING : FieldDef := { on := 1, code := 0x25, off := 0x104, lsb := 1, width := 1, acc := .ro }
def FPX_STAT_PULLING : FieldDef := { on := 1, code := 0x25, off := 0x104, lsb := 2, width := 1, acc := .ro }
def FPX_LINKERR_COUNT : FieldDef := { on := 1, code := 0x25, off := 0x108, lsb := 0, width := 32, acc := .rc }
def FPX_POWERUPS_COUNT : FieldDef := { on := 1, code := 0x25, off := 0x10C, lsb := 0, width := 32, acc := .ro }
def FPX_CONFIRM_MAX_US : FieldDef := { on := 1, code := 0x25, off := 0x110, lsb := 0, width := 8, acc := .rc }
/-! ### F/SYS (12_field_die.md R403) -/

def F_SYS_STAT_RUNNING : FieldDef := { on := 2, code := 0x0, off := 0x100, lsb := 0, width := 1, acc := .ro }
def F_SYS_STAT_FRESH : FieldDef := { on := 2, code := 0x0, off := 0x100, lsb := 1, width := 1, acc := .ro }
def F_SYS_TEMP_DEGC : FieldDef := { on := 2, code := 0x0, off := 0x104, lsb := 0, width := 9, acc := .ro }
def F_SYS_POWERUP_LO_NS : FieldDef := { on := 2, code := 0x0, off := 0x108, lsb := 0, width := 32, acc := .ro }
def F_SYS_POWERUP_HI_NS : FieldDef := { on := 2, code := 0x0, off := 0x10C, lsb := 0, width := 32, acc := .ro }
/-! ### F/FDI (12_field_die.md R404) -/

def F_FDI_CHc_DEBOUNCE : FieldDef := { on := 2, code := 0x1, off := 0x100, lsb := 0, width := 16, acc := .rw, reset := 1000, dims := [(16, 4)], segs := [(1, 65535, 1)] }
def F_FDI_CHc_EDGE_EN : FieldDef := { on := 2, code := 0x1, off := 0x100, lsb := 16, width := 1, acc := .rw, reset := 1, dims := [(16, 4)] }
def F_FDI_LEVELS_RAW : FieldDef := { on := 2, code := 0x1, off := 0x140, lsb := 0, width := 16, acc := .ro }
def F_FDI_LEVELS_STABLE : FieldDef := { on := 2, code := 0x1, off := 0x140, lsb := 16, width := 16, acc := .ro }
def F_FDI_EDGE_LO_US : FieldDef := { on := 2, code := 0x1, off := 0x144, lsb := 0, width := 32, acc := .ro }
def F_FDI_EDGE_HI_TIME : FieldDef := { on := 2, code := 0x1, off := 0x148, lsb := 0, width := 16, acc := .rc }
def F_FDI_EDGE_HI_CHANNEL : FieldDef := { on := 2, code := 0x1, off := 0x148, lsb := 16, width := 4, acc := .rc }
def F_FDI_EDGE_HI_LEVEL : FieldDef := { on := 2, code := 0x1, off := 0x148, lsb := 20, width := 1, acc := .rc }
def F_FDI_EDGE_HI_LOSS : FieldDef := { on := 2, code := 0x1, off := 0x148, lsb := 21, width := 1, acc := .rc }
def F_FDI_EDGE_HI_VALID : FieldDef := { on := 2, code := 0x1, off := 0x148, lsb := 22, width := 1, acc := .rc }
def F_FDI_PENDING_CHANNELS : FieldDef := { on := 2, code := 0x1, off := 0x14C, lsb := 0, width := 16, acc := .ro }
def F_FDI_LOST_CHANNELS : FieldDef := { on := 2, code := 0x1, off := 0x150, lsb := 0, width := 16, acc := .rc }
def F_FDI_EDGES_COUNT : FieldDef := { on := 2, code := 0x1, off := 0x154, lsb := 0, width := 32, acc := .rc }
/-! ### F/FDO (12_field_die.md R405) -/

def F_FDO_CFG_RETRY : FieldDef := { on := 2, code := 0x2, off := 0x100, lsb := 0, width := 8, acc := .rw }
def F_FDO_CFG_OPEN_DET : FieldDef := { on := 2, code := 0x2, off := 0x100, lsb := 8, width := 8, acc := .rw, reset := 255 }
def F_FDO_CLR_SHORT : FieldDef := { on := 2, code := 0x2, off := 0x104, lsb := 0, width := 8, acc := .wo }
def F_FDO_STAT_ON : FieldDef := { on := 2, code := 0x2, off := 0x108, lsb := 0, width := 8, acc := .ro }
def F_FDO_STAT_SHORT : FieldDef := { on := 2, code := 0x2, off := 0x108, lsb := 8, width := 8, acc := .ro }
def F_FDO_STAT_OPEN : FieldDef := { on := 2, code := 0x2, off := 0x108, lsb := 16, width := 8, acc := .ro }
def F_FDO_STAT_THERMAL : FieldDef := { on := 2, code := 0x2, off := 0x108, lsb := 24, width := 8, acc := .ro }
def F_FDO_CURk_MA : FieldDef := { on := 2, code := 0x2, off := 0x10C, lsb := 0, width := 10, acc := .ro, dims := [(8, 4)] }
def F_FDO_TRIPS_COUNT : FieldDef := { on := 2, code := 0x2, off := 0x12C, lsb := 0, width := 32, acc := .rc }
/-! ### F/FAO (12_field_die.md R406) -/

def F_FAO_CFGk_MODE : FieldDef := { on := 2, code := 0x3, off := 0x100, lsb := 0, width := 1, acc := .rw, dims := [(2, 32)], dyn := .F_FAO_CFGk_MODE }
def F_FAO_CFGk_FAULT_HIGH : FieldDef := { on := 2, code := 0x3, off := 0x100, lsb := 1, width := 1, acc := .rw, dims := [(2, 32)] }
def F_FAO_ZEROk_UNITS : FieldDef := { on := 2, code := 0x3, off := 0x104, lsb := 0, width := 12, acc := .rw, dims := [(2, 32)], sgn := true, segs := [((-1000), 1000, 1)] }
def F_FAO_SPANk_UNITS : FieldDef := { on := 2, code := 0x3, off := 0x108, lsb := 0, width := 12, acc := .rw, dims := [(2, 32)], sgn := true, segs := [((-1000), 1000, 1)] }
def F_FAO_READk_UNITS : FieldDef := { on := 2, code := 0x3, off := 0x10C, lsb := 0, width := 16, acc := .ro, dims := [(2, 32)] }
def F_FAO_READk_LOOP_FAULT : FieldDef := { on := 2, code := 0x3, off := 0x10C, lsb := 16, width := 1, acc := .ro, dims := [(2, 32)] }
def F_FAO_READk_FAULT_CURRENT : FieldDef := { on := 2, code := 0x3, off := 0x10C, lsb := 17, width := 1, acc := .ro, dims := [(2, 32)] }
def F_FAO_CLAMPSk_COUNT : FieldDef := { on := 2, code := 0x3, off := 0x110, lsb := 0, width := 32, acc := .rc, dims := [(2, 32)] }
def F_FAO_TRIM_CHANNEL : FieldDef := { on := 2, code := 0x3, off := 0x140, lsb := 0, width := 1, acc := .rw }
def F_FAO_TRIM_STEP : FieldDef := { on := 2, code := 0x3, off := 0x140, lsb := 1, width := 2, acc := .rw, dyn := .F_FAO_TRIM_STEP, segs := [(0, 2, 1)] }
def F_FAO_TRIM_PIN_EN : FieldDef := { on := 2, code := 0x3, off := 0x140, lsb := 3, width := 1, acc := .rw }
def F_FAO_TRIM_STAT_STATE : FieldDef := { on := 2, code := 0x3, off := 0x144, lsb := 0, width := 2, acc := .ro }
def F_FAO_TRIM_STAT_PINS : FieldDef := { on := 2, code := 0x3, off := 0x144, lsb := 2, width := 1, acc := .ro }
def F_FAO_TRIM_STAT_CHANNEL : FieldDef := { on := 2, code := 0x3, off := 0x144, lsb := 3, width := 1, acc := .ro }
def F_FAO_TRIM_STAT_PIN_LEVELS : FieldDef := { on := 2, code := 0x3, off := 0x144, lsb := 4, width := 3, acc := .ro }
/-! ### F/FSK (12_field_die.md R407) -/

def F_FSK_CTLk_EN : FieldDef := { on := 2, code := 0x4, off := 0x100, lsb := 0, width := 1, acc := .rw, dims := [(2, 32)] }
def F_FSK_CTLk_RTS : FieldDef := { on := 2, code := 0x4, off := 0x100, lsb := 1, width := 1, acc := .rw, dims := [(2, 32)] }
def F_FSK_TXk_DATA : FieldDef := { on := 2, code := 0x4, off := 0x104, lsb := 0, width := 8, acc := .wo, dims := [(2, 32)] }
def F_FSK_RXk_DATA : FieldDef := { on := 2, code := 0x4, off := 0x108, lsb := 0, width := 8, acc := .rc, dims := [(2, 32)] }
def F_FSK_RXk_PARITY_ERR : FieldDef := { on := 2, code := 0x4, off := 0x108, lsb := 8, width := 1, acc := .rc, dims := [(2, 32)] }
def F_FSK_RXk_FRAMING_ERR : FieldDef := { on := 2, code := 0x4, off := 0x108, lsb := 9, width := 1, acc := .rc, dims := [(2, 32)] }
def F_FSK_RXk_VALID : FieldDef := { on := 2, code := 0x4, off := 0x108, lsb := 10, width := 1, acc := .rc, dims := [(2, 32)] }
def F_FSK_STATk_TX_COUNT : FieldDef := { on := 2, code := 0x4, off := 0x10C, lsb := 0, width := 7, acc := .ro, dims := [(2, 32)] }
def F_FSK_STATk_RX_COUNT : FieldDef := { on := 2, code := 0x4, off := 0x10C, lsb := 7, width := 7, acc := .ro, dims := [(2, 32)] }
def F_FSK_STATk_CARRIER : FieldDef := { on := 2, code := 0x4, off := 0x10C, lsb := 14, width := 1, acc := .ro, dims := [(2, 32)] }
def F_FSK_STATk_SENDING : FieldDef := { on := 2, code := 0x4, off := 0x10C, lsb := 15, width := 1, acc := .ro, dims := [(2, 32)] }
def F_FSK_ERRSk_RX_OVF : FieldDef := { on := 2, code := 0x4, off := 0x110, lsb := 0, width := 16, acc := .rc, dims := [(2, 32)] }
def F_FSK_ERRSk_TX_DROPS : FieldDef := { on := 2, code := 0x4, off := 0x110, lsb := 16, width := 16, acc := .rc, dims := [(2, 32)] }
/-! ### F/FSUP (12_field_die.md R408) -/

def F_FSUP_STAT_MV : FieldDef := { on := 2, code := 0x5, off := 0x100, lsb := 0, width := 16, acc := .ro }
def F_FSUP_STAT_LEVEL : FieldDef := { on := 2, code := 0x5, off := 0x100, lsb := 16, width := 3, acc := .ro, reset := 4 }
def F_FSUP_LAST_LO_US : FieldDef := { on := 2, code := 0x5, off := 0x104, lsb := 0, width := 32, acc := .ro }
def F_FSUP_LAST_HI_TIME : FieldDef := { on := 2, code := 0x5, off := 0x108, lsb := 0, width := 16, acc := .ro }
def F_FSUP_LAST_HI_FROM : FieldDef := { on := 2, code := 0x5, off := 0x108, lsb := 16, width := 3, acc := .ro }
def F_FSUP_LAST_HI_TO : FieldDef := { on := 2, code := 0x5, off := 0x108, lsb := 19, width := 3, acc := .ro }
def F_FSUP_CROSSINGS_COUNT : FieldDef := { on := 2, code := 0x5, off := 0x10C, lsb := 0, width := 32, acc := .rc }
def F_FSUP_MIN_MV : FieldDef := { on := 2, code := 0x5, off := 0x110, lsb := 0, width := 16, acc := .rc, reset := 0xffff }
/-! ### F/FSAFE (12_field_die.md R409) -/

def F_FSAFE_CTL_ARM : FieldDef := { on := 2, code := 0x6, off := 0x100, lsb := 0, width := 1, acc := .wo, dyn := .F_FSAFE_CTL_ARM }
def F_FSAFE_CTL_DISARM : FieldDef := { on := 2, code := 0x6, off := 0x100, lsb := 1, width := 1, acc := .wo }
def F_FSAFE_MODE_SAFE : FieldDef := { on := 2, code := 0x6, off := 0x104, lsb := 0, width := 1, acc := .rw, reset := 1 }
def F_FSAFE_TIMEOUT_MS : FieldDef := { on := 2, code := 0x6, off := 0x108, lsb := 0, width := 8, acc := .rw, reset := 100, segs := [(1, 255, 1)] }
def F_FSAFE_SAFE_DO_VAL : FieldDef := { on := 2, code := 0x6, off := 0x10C, lsb := 0, width := 8, acc := .rw }
def F_FSAFE_STBY_DO_VAL : FieldDef := { on := 2, code := 0x6, off := 0x110, lsb := 0, width := 8, acc := .rw }
def F_FSAFE_STBY_DO_HOLD : FieldDef := { on := 2, code := 0x6, off := 0x110, lsb := 8, width := 8, acc := .rw }
def F_FSAFE_SAFE_AOk_CODE : FieldDef := { on := 2, code := 0x6, off := 0x114, lsb := 0, width := 16, acc := .rw, reset := 0x1f40, dims := [(2, 4)], segs := [(7600, 41000, 1)] }
def F_FSAFE_SAFE_AOk_KIND : FieldDef := { on := 2, code := 0x6, off := 0x114, lsb := 16, width := 2, acc := .rw, reset := 2, dims := [(2, 4)], segs := [(0, 2, 1)] }
def F_FSAFE_STBY_AOk_CODE : FieldDef := { on := 2, code := 0x6, off := 0x11C, lsb := 0, width := 16, acc := .rw, reset := 0x1f40, dims := [(2, 4)], segs := [(7600, 41000, 1)] }
def F_FSAFE_STBY_AOk_KIND : FieldDef := { on := 2, code := 0x6, off := 0x11C, lsb := 16, width := 2, acc := .rw, dims := [(2, 4)] }
def F_FSAFE_STAT_ARMED : FieldDef := { on := 2, code := 0x6, off := 0x124, lsb := 0, width := 1, acc := .ro }
def F_FSAFE_STAT_SILENT : FieldDef := { on := 2, code := 0x6, off := 0x124, lsb := 1, width := 1, acc := .ro }
def F_FSAFE_STAT_STANDBY : FieldDef := { on := 2, code := 0x6, off := 0x124, lsb := 2, width := 1, acc := .ro }
def F_FSAFE_STAT_UVLO_OFF : FieldDef := { on := 2, code := 0x6, off := 0x124, lsb := 3, width := 1, acc := .ro }
def F_FSAFE_SILENCES_COUNT : FieldDef := { on := 2, code := 0x6, off := 0x128, lsb := 0, width := 32, acc := .ro }
/-! ### NVC (13_stacks_and_archive.md R436) -/

def NVC_CTL_PAGE_MODE : FieldDef := { on := 1, code := 0xF, off := 0x100, lsb := 0, width := 1, acc := .rw }
def NVC_CTL_REFRESH_EN : FieldDef := { on := 1, code := 0xF, off := 0x100, lsb := 1, width := 1, acc := .rw, reset := 1 }
def NVC_ADDR_ADDR : FieldDef := { on := 1, code := 0xF, off := 0x104, lsb := 0, width := 23, acc := .rw, segs := [(0, 8388600, 8)] }
def NVC_DATA_LO_DATA : FieldDef := { on := 1, code := 0xF, off := 0x108, lsb := 0, width := 32, acc := .rw }
def NVC_DATA_HI_DATA : FieldDef := { on := 1, code := 0xF, off := 0x10C, lsb := 0, width := 32, acc := .rw }
def NVC_REFRESH_INTERVAL : FieldDef := { on := 1, code := 0xF, off := 0x110, lsb := 0, width := 8, acc := .rw, reset := 200, segs := [(1, 255, 1)] }
def NVC_CLR_POISON : FieldDef := { on := 1, code := 0xF, off := 0x114, lsb := 0, width := 1, acc := .wo }
def NVC_STAT_POISON : FieldDef := { on := 1, code := 0xF, off := 0x118, lsb := 0, width := 1, acc := .ro }
def NVC_STAT_BUSY : FieldDef := { on := 1, code := 0xF, off := 0x118, lsb := 1, width := 1, acc := .ro }
def NVC_STAT_QUEUED : FieldDef := { on := 1, code := 0xF, off := 0x118, lsb := 2, width := 4, acc := .ro }
def NVC_STAT_REFUSED : FieldDef := { on := 1, code := 0xF, off := 0x118, lsb := 6, width := 1, acc := .ro }
def NVC_POISON_ADDR_ADDR : FieldDef := { on := 1, code := 0xF, off := 0x11C, lsb := 0, width := 23, acc := .ro }
def NVC_CE_COUNT : FieldDef := { on := 1, code := 0xF, off := 0x120, lsb := 0, width := 32, acc := .rc }
def NVC_DE_COUNT : FieldDef := { on := 1, code := 0xF, off := 0x124, lsb := 0, width := 32, acc := .rc }
def NVC_SWEEP_POS_PAGE : FieldDef := { on := 1, code := 0xF, off := 0x128, lsb := 0, width := 17, acc := .ro }
def NVC_SWEEPS_COUNT : FieldDef := { on := 1, code := 0xF, off := 0x12C, lsb := 0, width := 32, acc := .ro }
def NVC_WRITES_COUNT : FieldDef := { on := 1, code := 0xF, off := 0x130, lsb := 0, width := 32, acc := .ro }
/-! ### NVP (13_stacks_and_archive.md R437) -/

def NVP_BP_BP : FieldDef := { on := 1, code := 0x10, off := 0x100, lsb := 0, width := 2, acc := .rwk, reset := 2 }
def NVP_REFUSED_COUNT : FieldDef := { on := 1, code := 0x10, off := 0x104, lsb := 0, width := 32, acc := .rc }
def NVP_LAST_ADDR : FieldDef := { on := 1, code := 0x10, off := 0x108, lsb := 0, width := 23, acc := .ro }
def NVP_LAST_MASTER : FieldDef := { on := 1, code := 0x10, off := 0x108, lsb := 23, width := 8, acc := .ro }
/-! ### ARCH (13_stacks_and_archive.md R438) -/

def ARCH_CTL_FLUSH : FieldDef := { on := 1, code := 0x11, off := 0x100, lsb := 0, width := 1, acc := .wo }
def ARCH_CTL_SNAP : FieldDef := { on := 1, code := 0x11, off := 0x100, lsb := 1, width := 1, acc := .wo }
def ARCH_CFG_SNAP_MIN : FieldDef := { on := 1, code := 0x11, off := 0x104, lsb := 0, width := 8, acc := .rwl, reset := 60 }
def ARCH_CFG_ALARM_ID : FieldDef := { on := 1, code := 0x11, off := 0x104, lsb := 8, width := 11, acc := .rwl, reset := 80 }
def ARCH_STAT_FLUSHING : FieldDef := { on := 1, code := 0x11, off := 0x108, lsb := 0, width := 1, acc := .ro }
def ARCH_STAT_FAILED : FieldDef := { on := 1, code := 0x11, off := 0x108, lsb := 1, width := 1, acc := .ro }
def ARCH_STAT_FOUNDING_FULL : FieldDef := { on := 1, code := 0x11, off := 0x108, lsb := 2, width := 1, acc := .ro }
def ARCH_STAT_WRAPPED : FieldDef := { on := 1, code := 0x11, off := 0x108, lsb := 3, width := 1, acc := .ro }
def ARCH_STAT_FILL : FieldDef := { on := 1, code := 0x11, off := 0x108, lsb := 4, width := 18, acc := .ro }
def ARCH_RSEQ_NEXT : FieldDef := { on := 1, code := 0x11, off := 0x10C, lsb := 0, width := 32, acc := .ro }
def ARCH_DURABLE_RSEQ : FieldDef := { on := 1, code := 0x11, off := 0x110, lsb := 0, width := 32, acc := .ro }
def ARCH_OLDEST_RSEQ : FieldDef := { on := 1, code := 0x11, off := 0x114, lsb := 0, width := 32, acc := .ro }
def ARCH_FOUND_END_OFFSET : FieldDef := { on := 1, code := 0x11, off := 0x118, lsb := 0, width := 19, acc := .ro }
def ARCH_ROLL_HEAD_BLOCK : FieldDef := { on := 1, code := 0x11, off := 0x11C, lsb := 0, width := 9, acc := .ro }
def ARCH_ROLL_HEAD_OFFSET : FieldDef := { on := 1, code := 0x11, off := 0x11C, lsb := 9, width := 13, acc := .ro }
def ARCH_RR_HEAD_OFFSET : FieldDef := { on := 1, code := 0x11, off := 0x120, lsb := 0, width := 17, acc := .ro }
def ARCH_RR_TAIL_OFFSET : FieldDef := { on := 1, code := 0x11, off := 0x124, lsb := 0, width := 17, acc := .ro }
def ARCH_DROPS_COUNT : FieldDef := { on := 1, code := 0x11, off := 0x128, lsb := 0, width := 32, acc := .rc }
def ARCH_BUDGET_DROPS_COUNT : FieldDef := { on := 1, code := 0x11, off := 0x12C, lsb := 0, width := 32, acc := .rc }
def ARCH_LOST_COUNT : FieldDef := { on := 1, code := 0x11, off := 0x130, lsb := 0, width := 32, acc := .rc }
def ARCH_BAD_BLOCKS : FieldDef := { on := 1, code := 0x11, off := 0x134, lsb := 0, width := 5, acc := .ro }
def ARCH_BUDGET_BYTES : FieldDef := { on := 1, code := 0x11, off := 0x138, lsb := 0, width := 23, acc := .ro, reset := 0x480000 }
def ARCH_TALLY_VAL_VALUE : FieldDef := { on := 1, code := 0x11, off := 0x140, lsb := 0, width := 32, acc := .rw, sgn := true, win := .master }
def ARCH_TALLY_GO_TALLY : FieldDef := { on := 1, code := 0x11, off := 0x144, lsb := 0, width := 10, acc := .wo }
def ARCH_TALLY_GO_CLEAR : FieldDef := { on := 1, code := 0x11, off := 0x144, lsb := 10, width := 1, acc := .wo }
def ARCH_TALLY_DEF_TALLY : FieldDef := { on := 1, code := 0x11, off := 0x148, lsb := 0, width := 10, acc := .wo }
def ARCH_TALLY_DEF_BINSET : FieldDef := { on := 1, code := 0x11, off := 0x148, lsb := 10, width := 6, acc := .wo }
def ARCH_TALLY_DEF_DEFINE : FieldDef := { on := 1, code := 0x11, off := 0x148, lsb := 16, width := 1, acc := .wo }
def ARCH_TALLY_SEL_TALLY : FieldDef := { on := 1, code := 0x11, off := 0x14C, lsb := 0, width := 10, acc := .rw }
def ARCH_BIN_SEL_SET : FieldDef := { on := 1, code := 0x11, off := 0x150, lsb := 0, width := 6, acc := .rw }
def ARCH_EDGEk_VALUE : FieldDef := { on := 1, code := 0x11, off := 0x180, lsb := 0, width := 32, acc := .rw, dims := [(15, 4)], sgn := true, dyn := .ARCH_EDGEk_VALUE, win := .binSet }
def ARCH_TALLY_Wj_DATA : FieldDef := { on := 1, code := 0x11, off := 0x400, lsb := 0, width := 32, acc := .ro, dims := [(32, 4)], win := .tally }
/-! ### SYS (14_time_guard_power.md R467) -/

def SYS_PART_CODE : FieldDef := { on := 5, code := 0x0, off := 0x100, lsb := 0, width := 16, acc := .ro, reset := 2176 }
def SYS_PART_STEP : FieldDef := { on := 5, code := 0x0, off := 0x100, lsb := 16, width := 8, acc := .ro, live := .SYS_PART_STEP }
def SYS_UID_LO_ID : FieldDef := { on := 5, code := 0x0, off := 0x104, lsb := 0, width := 32, acc := .ro, live := .SYS_UID_LO_ID }
def SYS_UID_HI_ID : FieldDef := { on := 5, code := 0x0, off := 0x108, lsb := 0, width := 32, acc := .ro, live := .SYS_UID_HI_ID }
def SYS_INV_PRESENT : FieldDef := { on := 1, code := 0x0, off := 0x10C, lsb := 0, width := 6, acc := .ro, live := .SYS_INV_PRESENT }
def SYS_INV_LIVE : FieldDef := { on := 1, code := 0x0, off := 0x10C, lsb := 6, width := 6, acc := .ro, live := .SYS_INV_LIVE }
def SYS_INV_SPARE : FieldDef := { on := 1, code := 0x0, off := 0x10C, lsb := 12, width := 6, acc := .ro, live := .SYS_INV_SPARE }
def SYS_NAME_NAME : FieldDef := { on := 4, code := 0x0, off := 0x110, lsb := 0, width := 3, acc := .ro, rk := 4, live := .SYS_NAME_NAME }
def SYS_NAME_ROLE : FieldDef := { on := 4, code := 0x0, off := 0x110, lsb := 3, width := 2, acc := .ro, live := .SYS_NAME_ROLE }
/-! ### CLK (14_time_guard_power.md R468) -/

def CLK_CFG_PREF : FieldDef := { on := 1, code := 0x1, off := 0x100, lsb := 0, width := 1, acc := .rw }
def CLK_CFG_REVERT : FieldDef := { on := 1, code := 0x1, off := 0x100, lsb := 1, width := 1, acc := .rw }
def CLK_STAT_ACTIVE : FieldDef := { on := 1, code := 0x1, off := 0x104, lsb := 0, width := 1, acc := .ro }
def CLK_STAT_A_OK : FieldDef := { on := 1, code := 0x1, off := 0x104, lsb := 1, width := 1, acc := .ro }
def CLK_STAT_B_OK : FieldDef := { on := 1, code := 0x1, off := 0x104, lsb := 2, width := 1, acc := .ro }
def CLK_STAT_PLL_LOCK : FieldDef := { on := 5, code := 0x1, off := 0x104, lsb := 3, width := 1, acc := .ro }
def CLK_STAT_SERDES_LOCK : FieldDef := { on := 1, code := 0x1, off := 0x104, lsb := 4, width := 1, acc := .ro }
def CLK_SWITCHES_COUNT : FieldDef := { on := 1, code := 0x1, off := 0x108, lsb := 0, width := 32, acc := .rc }
def CLK_LAST_LO_NS : FieldDef := { on := 1, code := 0x1, off := 0x10C, lsb := 0, width := 32, acc := .ro }
def CLK_LAST_HI_NS : FieldDef := { on := 1, code := 0x1, off := 0x110, lsb := 0, width := 32, acc := .ro }
def CLK_TICK_COMP_CYCLES : FieldDef := { on := 4, code := 0x1, off := 0x114, lsb := 0, width := 8, acc := .ro, live := .CLK_TICK_COMP_CYCLES }
/-! ### PWR (14_time_guard_power.md R469) -/

def PWR_SW_DIES : FieldDef := { on := 1, code := 0x2, off := 0x100, lsb := 0, width := 6, acc := .rw, dyn := .PWR_SW_DIES }
def PWR_RETAIN_DIES : FieldDef := { on := 1, code := 0x2, off := 0x104, lsb := 0, width := 6, acc := .rw }
def PWR_STAT_VDD_K : FieldDef := { on := 1, code := 0x2, off := 0x108, lsb := 0, width := 1, acc := .ro }
def PWR_STAT_VDD_SER : FieldDef := { on := 1, code := 0x2, off := 0x108, lsb := 1, width := 1, acc := .ro }
def PWR_STAT_VDD_IO : FieldDef := { on := 1, code := 0x2, off := 0x108, lsb := 2, width := 1, acc := .ro }
def PWR_STAT_PF : FieldDef := { on := 1, code := 0x2, off := 0x108, lsb := 3, width := 1, acc := .ro }
def PWR_STAT_RAILS : FieldDef := { on := 1, code := 0x2, off := 0x108, lsb := 4, width := 6, acc := .ro }
def PWR_STAT_ON : FieldDef := { on := 1, code := 0x2, off := 0x108, lsb := 10, width := 6, acc := .ro }
def PWR_STAT_RETAINED : FieldDef := { on := 1, code := 0x2, off := 0x108, lsb := 16, width := 6, acc := .ro }
def PWR_CFG_SLEEP_EN : FieldDef := { on := 1, code := 0x2, off := 0x10C, lsb := 0, width := 1, acc := .rwl }
def PWR_CFG_WAKE_EN : FieldDef := { on := 1, code := 0x2, off := 0x10C, lsb := 1, width := 6, acc := .rw }
def PWR_WAKE_CAUSE : FieldDef := { on := 1, code := 0x2, off := 0x110, lsb := 0, width := 4, acc := .ro }
def PWR_HOLDUP_US : FieldDef := { on := 1, code := 0x2, off := 0x114, lsb := 0, width := 12, acc := .ro }
def PWR_DIE_ON : FieldDef := { on := 4, code := 0x2, off := 0x118, lsb := 0, width := 1, acc := .ro, reset := 1 }
def PWR_DIE_RETAINED : FieldDef := { on := 4, code := 0x2, off := 0x118, lsb := 1, width := 1, acc := .ro }
/-! ### RST (14_time_guard_power.md R470) -/

def RST_CTL_PART : FieldDef := { on := 1, code := 0x3, off := 0x100, lsb := 0, width := 1, acc := .rwk }
def RST_DIE_RESET_DIES : FieldDef := { on := 1, code := 0x3, off := 0x104, lsb := 0, width := 6, acc := .w1s, dyn := .RST_DIE_RESET_DIES }
def RST_CAUSE_CAUSE : FieldDef := { on := 1, code := 0x3, off := 0x108, lsb := 0, width := 4, acc := .ro }
def RST_CAUSE_BOOT : FieldDef := { on := 1, code := 0x3, off := 0x108, lsb := 4, width := 4, acc := .ro }
def RST_COUNT_N : FieldDef := { on := 1, code := 0x3, off := 0x10C, lsb := 0, width := 32, acc := .ro }
def RST_SELFTEST_TESTED : FieldDef := { on := 1, code := 0x3, off := 0x110, lsb := 0, width := 6, acc := .ro }
def RST_SELFTEST_FAILED : FieldDef := { on := 1, code := 0x3, off := 0x110, lsb := 6, width := 6, acc := .ro }
def RST_SELFTEST_KEEPER_REPAIRED : FieldDef := { on := 1, code := 0x3, off := 0x110, lsb := 12, width := 1, acc := .ro }
def RST_BOOT_MS_MS : FieldDef := { on := 1, code := 0x3, off := 0x114, lsb := 0, width := 16, acc := .ro }
def RST_DIE_CAUSE_CAUSE : FieldDef := { on := 4, code := 0x3, off := 0x118, lsb := 0, width := 2, acc := .ro }
/-! ### GUARD (14_time_guard_power.md R471) -/

def GUARD_SERVICE_ANY : FieldDef := { on := 1, code := 0xC, off := 0x100, lsb := 0, width := 32, acc := .wo }
def GUARD_KEY_KEY : FieldDef := { on := 1, code := 0xC, off := 0x104, lsb := 0, width := 16, acc := .wo }
def GUARD_CTL_EN : FieldDef := { on := 1, code := 0xC, off := 0x108, lsb := 0, width := 1, acc := .rw, reset := 1, dyn := .GUARD_CTL_EN }
def GUARD_CTL_LOCK : FieldDef := { on := 1, code := 0xC, off := 0x108, lsb := 1, width := 1, acc := .w1s }
def GUARD_TIMEOUT_MS : FieldDef := { on := 1, code := 0xC, off := 0x10C, lsb := 0, width := 17, acc := .rw, reset := 2000, segs := [(1, 64000, 1)] }
def GUARD_STAT_LEFT_MS : FieldDef := { on := 1, code := 0xC, off := 0x110, lsb := 0, width := 17, acc := .ro, live := .GUARD_STAT_LEFT_MS }
def GUARD_STAT_WARNED : FieldDef := { on := 1, code := 0xC, off := 0x110, lsb := 17, width := 1, acc := .ro }
def GUARD_EXPIRIES_COUNT : FieldDef := { on := 1, code := 0xC, off := 0x114, lsb := 0, width := 16, acc := .ro }
def GUARD_REFUSED_COUNT : FieldDef := { on := 1, code := 0xC, off := 0x114, lsb := 16, width := 16, acc := .rc }
/-! ### AON (14_time_guard_power.md R472) -/

def AON_STAT_MAIN : FieldDef := { on := 1, code := 0xD, off := 0x100, lsb := 0, width := 1, acc := .ro }
def AON_STAT_CONTINUITY : FieldDef := { on := 1, code := 0xD, off := 0x100, lsb := 1, width := 1, acc := .ro }
def AON_STAT_XTAL_FAIL : FieldDef := { on := 1, code := 0xD, off := 0x100, lsb := 2, width := 1, acc := .ro }
def AON_STAT_CMP : FieldDef := { on := 1, code := 0xD, off := 0x100, lsb := 3, width := 4, acc := .ro }
def AON_FLAGS_VBAT_LOW : FieldDef := { on := 1, code := 0xD, off := 0x104, lsb := 0, width := 1, acc := .w1c }
def AON_FLAGS_BACKUP : FieldDef := { on := 1, code := 0xD, off := 0x104, lsb := 1, width := 1, acc := .w1c }
def AON_FLAGS_XTAL_FAILED : FieldDef := { on := 1, code := 0xD, off := 0x104, lsb := 2, width := 1, acc := .w1c }
def AON_FLAGS_CMP : FieldDef := { on := 1, code := 0xD, off := 0x104, lsb := 3, width := 4, acc := .w1c }
def AON_VBAT_MV : FieldDef := { on := 1, code := 0xD, off := 0x108, lsb := 0, width := 12, acc := .ro }
def AON_BKUP_FIRST_LO_SEC : FieldDef := { on := 1, code := 0xD, off := 0x10C, lsb := 0, width := 32, acc := .ro }
def AON_BKUP_FIRST_HI_SEC : FieldDef := { on := 1, code := 0xD, off := 0x110, lsb := 0, width := 2, acc := .ro }
def AON_BKUP_COUNT_COUNT : FieldDef := { on := 1, code := 0xD, off := 0x114, lsb := 0, width := 16, acc := .ro }
def AON_CMPn_THR : FieldDef := { on := 1, code := 0xD, off := 0x118, lsb := 0, width := 8, acc := .rw, reset := 20, dims := [(4, 4)], segs := [(20, 160, 1)] }
def AON_CMPn_EDGE : FieldDef := { on := 1, code := 0xD, off := 0x118, lsb := 8, width := 2, acc := .rw, dims := [(4, 4)] }
def AON_CMP_TIME_LO_SEC : FieldDef := { on := 1, code := 0xD, off := 0x128, lsb := 0, width := 32, acc := .ro }
def AON_CMP_TIME_HI_SEC : FieldDef := { on := 1, code := 0xD, off := 0x12C, lsb := 0, width := 2, acc := .ro }
def AON_SLIPs_Ww : FieldDef := { on := 1, code := 0xD, off := 0x400, lsb := 0, width := 32, acc := .rw, dims := [(4, 32), (8, 4)] }
/-! ### RTC (14_time_guard_power.md R473) -/

def RTC_SEC_LO_SEC : FieldDef := { on := 1, code := 0xE, off := 0x100, lsb := 0, width := 32, acc := .ro }
def RTC_SEC_HI_SEC : FieldDef := { on := 1, code := 0xE, off := 0x104, lsb := 0, width := 2, acc := .ro }
def RTC_SUB_COUNT : FieldDef := { on := 1, code := 0xE, off := 0x108, lsb := 0, width := 15, acc := .ro, live := .RTC_SUB_COUNT }
def RTC_CAL_DATE_YEAR : FieldDef := { on := 1, code := 0xE, off := 0x10C, lsb := 0, width := 16, acc := .ro }
def RTC_CAL_DATE_MONTH : FieldDef := { on := 1, code := 0xE, off := 0x10C, lsb := 16, width := 4, acc := .ro }
def RTC_CAL_DATE_DAY : FieldDef := { on := 1, code := 0xE, off := 0x10C, lsb := 20, width := 5, acc := .ro }
def RTC_CAL_DATE_WEEKDAY : FieldDef := { on := 1, code := 0xE, off := 0x10C, lsb := 25, width := 3, acc := .ro }
def RTC_CAL_TIME_HOUR : FieldDef := { on := 1, code := 0xE, off := 0x110, lsb := 0, width := 5, acc := .ro }
def RTC_CAL_TIME_MIN : FieldDef := { on := 1, code := 0xE, off := 0x110, lsb := 5, width := 6, acc := .ro }
def RTC_CAL_TIME_SEC : FieldDef := { on := 1, code := 0xE, off := 0x110, lsb := 11, width := 6, acc := .ro }
def RTC_STAGE_HI_SEC : FieldDef := { on := 1, code := 0xE, off := 0x114, lsb := 0, width := 2, acc := .rw, dyn := .RTC_STAGE_HI_SEC, segs := [(0, 2, 1)] }
def RTC_STAGE_LO_SEC : FieldDef := { on := 1, code := 0xE, off := 0x118, lsb := 0, width := 32, acc := .rw, dyn := .RTC_STAGE_LO_SEC }
def RTC_CTL_LOAD : FieldDef := { on := 1, code := 0xE, off := 0x11C, lsb := 0, width := 1, acc := .wo, dyn := .RTC_CTL_LOAD }
def RTC_CTL_SYNC : FieldDef := { on := 1, code := 0xE, off := 0x11C, lsb := 1, width := 1, acc := .wo, dyn := .RTC_CTL_SYNC }
def RTC_STAT_LOAD_PENDING : FieldDef := { on := 1, code := 0xE, off := 0x120, lsb := 0, width := 1, acc := .ro }
def RTC_STAT_TIME_LOST : FieldDef := { on := 1, code := 0xE, off := 0x120, lsb := 1, width := 1, acc := .ro, reset := 1 }
def RTC_STAT_OVERRANGE : FieldDef := { on := 1, code := 0xE, off := 0x120, lsb := 2, width := 1, acc := .ro }
def RTC_TRIM_PPM : FieldDef := { on := 1, code := 0xE, off := 0x124, lsb := 0, width := 14, acc := .rw, sgn := true, segs := [((-5000), 5000, 1)] }
def RTC_MEAS_CFG_REF : FieldDef := { on := 1, code := 0xE, off := 0x128, lsb := 0, width := 2, acc := .rw, segs := [(0, 2, 1)] }
def RTC_MEAS_CFG_WINDOW : FieldDef := { on := 1, code := 0xE, off := 0x128, lsb := 2, width := 16, acc := .rw, reset := 3600, segs := [(60, 65535, 1)] }
def RTC_MEAS_CFG_AUTO : FieldDef := { on := 1, code := 0xE, off := 0x128, lsb := 18, width := 1, acc := .rw }
def RTC_MEAS_CFG_START : FieldDef := { on := 1, code := 0xE, off := 0x128, lsb := 19, width := 1, acc := .wo }
def RTC_MEAS_PPM : FieldDef := { on := 1, code := 0xE, off := 0x12C, lsb := 0, width := 14, acc := .ro }
def RTC_MEAS_VALID : FieldDef := { on := 1, code := 0xE, off := 0x12C, lsb := 14, width := 1, acc := .ro }
def RTC_MEAS_RUNNING : FieldDef := { on := 1, code := 0xE, off := 0x12C, lsb := 15, width := 1, acc := .ro }
def RTC_ALARM_LO_SEC : FieldDef := { on := 1, code := 0xE, off := 0x130, lsb := 0, width := 32, acc := .rw }
def RTC_ALARM_HI_SEC : FieldDef := { on := 1, code := 0xE, off := 0x134, lsb := 0, width := 2, acc := .rw, segs := [(0, 2, 1)] }
def RTC_ALARM_HI_EN : FieldDef := { on := 1, code := 0xE, off := 0x134, lsb := 2, width := 1, acc := .rw }
/-! ### AUTH (15_authority_and_update.md R509) -/

def AUTH_CFG_ETYPE : FieldDef := { on := 1, code := 0x12, off := 0x100, lsb := 0, width := 16, acc := .rwl, reset := 0x88b6, dyn := .AUTH_CFG_ETYPE }
def AUTH_CFG_CAN_ID : FieldDef := { on := 1, code := 0x12, off := 0x100, lsb := 16, width := 11, acc := .rwl, reset := 72, segs := [(0, 2045, 1)] }
def AUTH_CFG_LINE_EN : FieldDef := { on := 1, code := 0x12, off := 0x100, lsb := 27, width := 1, acc := .rwl, reset := 1 }
def AUTH_CFG_CAN_EN : FieldDef := { on := 1, code := 0x12, off := 0x100, lsb := 28, width := 1, acc := .rwl, reset := 1 }
def AUTH_CFG_MSPI_EN : FieldDef := { on := 1, code := 0x12, off := 0x100, lsb := 29, width := 1, acc := .rwl, reset := 1 }
def AUTH_STAT_RESULT : FieldDef := { on := 1, code := 0x12, off := 0x104, lsb := 0, width := 3, acc := .ro }
def AUTH_STAT_OP : FieldDef := { on := 1, code := 0x12, off := 0x104, lsb := 3, width := 8, acc := .ro }
def AUTH_STAT_SLOT : FieldDef := { on := 1, code := 0x12, off := 0x104, lsb := 11, width := 4, acc := .ro }
def AUTH_STAT_SOURCE : FieldDef := { on := 1, code := 0x12, off := 0x104, lsb := 15, width := 3, acc := .ro }
def AUTH_STAT_OWNER_PK : FieldDef := { on := 1, code := 0x12, off := 0x104, lsb := 18, width := 1, acc := .ro, live := .AUTH_STAT_OWNER_PK }
def AUTH_STAT_VENDOR_FLOOR : FieldDef := { on := 1, code := 0x12, off := 0x104, lsb := 19, width := 1, acc := .ro, live := .AUTH_STAT_VENDOR_FLOOR }
def AUTH_STAT_CODE : FieldDef := { on := 1, code := 0x12, off := 0x104, lsb := 20, width := 3, acc := .ro }
def AUTH_ACCEPTED_COUNT : FieldDef := { on := 1, code := 0x12, off := 0x108, lsb := 0, width := 32, acc := .rc }
def AUTH_BADTAG_COUNT : FieldDef := { on := 1, code := 0x12, off := 0x10C, lsb := 0, width := 32, acc := .rc }
def AUTH_REPLAY_COUNT : FieldDef := { on := 1, code := 0x12, off := 0x110, lsb := 0, width := 32, acc := .rc }
def AUTH_DUPLICATES_COUNT : FieldDef := { on := 1, code := 0x12, off := 0x114, lsb := 0, width := 32, acc := .rc }
def AUTH_FORMAT_COUNT : FieldDef := { on := 1, code := 0x12, off := 0x118, lsb := 0, width := 32, acc := .rc }
def AUTH_ROLES_LO_ROLES : FieldDef := { on := 1, code := 0x12, off := 0x11C, lsb := 0, width := 30, acc := .ro, live := .AUTH_ROLES_LO_ROLES }
def AUTH_ROLES_HI_ROLES : FieldDef := { on := 1, code := 0x12, off := 0x120, lsb := 0, width := 18, acc := .ro, live := .AUTH_ROLES_HI_ROLES }
def AUTH_SEL_SLOT : FieldDef := { on := 1, code := 0x12, off := 0x124, lsb := 0, width := 4, acc := .rw }
def AUTH_CTR_LO_N : FieldDef := { on := 1, code := 0x12, off := 0x128, lsb := 0, width := 32, acc := .ro, live := .AUTH_CTR_LO_N, win := .slot }
def AUTH_CTR_HI_N : FieldDef := { on := 1, code := 0x12, off := 0x12C, lsb := 0, width := 32, acc := .ro, win := .slot }
def AUTH_CEIL_LO_N : FieldDef := { on := 1, code := 0x12, off := 0x130, lsb := 0, width := 32, acc := .ro, live := .AUTH_CEIL_LO_N, win := .slot }
def AUTH_CEIL_HI_N : FieldDef := { on := 1, code := 0x12, off := 0x134, lsb := 0, width := 32, acc := .ro, win := .slot }
/-! ### UPD (15_authority_and_update.md R510) -/

def UPD_CFG_CONFIRM_WINDOW : FieldDef := { on := 1, code := 0x13, off := 0x100, lsb := 0, width := 16, acc := .rw, reset := 600, dyn := .UPD_CFG_CONFIRM_WINDOW, segs := [(60, 65535, 1)] }
def UPD_CTL_HEALTHY : FieldDef := { on := 1, code := 0x13, off := 0x104, lsb := 0, width := 1, acc := .wo, dyn := .UPD_CTL_HEALTHY }
def UPD_CTL_RESUME : FieldDef := { on := 1, code := 0x13, off := 0x104, lsb := 1, width := 1, acc := .wo, dyn := .UPD_CTL_RESUME }
def UPD_SESSION_ID : FieldDef := { on := 1, code := 0x13, off := 0x108, lsb := 0, width := 32, acc := .ro }
def UPD_SESS_STATE : FieldDef := { on := 1, code := 0x13, off := 0x10C, lsb := 0, width := 3, acc := .ro }
def UPD_SESS_LEVEL : FieldDef := { on := 1, code := 0x13, off := 0x10C, lsb := 3, width := 2, acc := .ro }
def UPD_SESS_SOURCE : FieldDef := { on := 1, code := 0x13, off := 0x10C, lsb := 5, width := 3, acc := .ro }
def UPD_SESS_CODE : FieldDef := { on := 1, code := 0x13, off := 0x10C, lsb := 8, width := 4, acc := .ro }
def UPD_RECEIVED_BYTES : FieldDef := { on := 1, code := 0x13, off := 0x110, lsb := 0, width := 21, acc := .ro }
def UPD_KSTAT_ACTIVE : FieldDef := { on := 1, code := 0x13, off := 0x114, lsb := 0, width := 1, acc := .ro }
def UPD_KSTAT_STATE : FieldDef := { on := 1, code := 0x13, off := 0x114, lsb := 1, width := 2, acc := .ro }
def UPD_KSTAT_HEALTHY : FieldDef := { on := 1, code := 0x13, off := 0x114, lsb := 3, width := 1, acc := .ro }
def UPD_KSTAT_CAUSE : FieldDef := { on := 1, code := 0x13, off := 0x114, lsb := 4, width := 4, acc := .ro }
def UPD_ESTAT_ACTIVE : FieldDef := { on := 1, code := 0x13, off := 0x118, lsb := 0, width := 1, acc := .ro }
def UPD_ESTAT_STATE : FieldDef := { on := 1, code := 0x13, off := 0x118, lsb := 1, width := 2, acc := .ro }
def UPD_ESTAT_HEALTHY : FieldDef := { on := 1, code := 0x13, off := 0x118, lsb := 3, width := 1, acc := .ro }
def UPD_ESTAT_CAUSE : FieldDef := { on := 1, code := 0x13, off := 0x118, lsb := 4, width := 4, acc := .ro }
def UPD_ESTAT_NEXT : FieldDef := { on := 1, code := 0x13, off := 0x118, lsb := 8, width := 3, acc := .ro }
def UPD_KSVN_SVN : FieldDef := { on := 1, code := 0x13, off := 0x11C, lsb := 0, width := 32, acc := .ro, live := .UPD_KSVN_SVN }
def UPD_ESVN_SVN : FieldDef := { on := 1, code := 0x13, off := 0x120, lsb := 0, width := 32, acc := .ro, live := .UPD_ESVN_SVN }
def UPD_DEADLINE_LO_NS : FieldDef := { on := 1, code := 0x13, off := 0x124, lsb := 0, width := 32, acc := .ro, live := .UPD_DEADLINE_LO_NS }
def UPD_DEADLINE_HI_NS : FieldDef := { on := 1, code := 0x13, off := 0x128, lsb := 0, width := 32, acc := .ro }
def UPD_OUTAGE_US : FieldDef := { on := 1, code := 0x13, off := 0x12C, lsb := 0, width := 14, acc := .ro }
/-! ### MSPI (15_authority_and_update.md R511) -/

def MSPI_STAT_IN_BUSY : FieldDef := { on := 1, code := 0x24, off := 0x100, lsb := 0, width := 1, acc := .ro }
def MSPI_STAT_OUT_READY : FieldDef := { on := 1, code := 0x24, off := 0x100, lsb := 1, width := 1, acc := .ro }
def MSPI_STAT_IN_LEN : FieldDef := { on := 1, code := 0x24, off := 0x100, lsb := 2, width := 11, acc := .ro }
def MSPI_STAT_OUT_LEN : FieldDef := { on := 1, code := 0x24, off := 0x100, lsb := 13, width := 11, acc := .ro }
def MSPI_FRAMES_IN_COUNT : FieldDef := { on := 1, code := 0x24, off := 0x104, lsb := 0, width := 32, acc := .rc }
def MSPI_FRAMES_OUT_COUNT : FieldDef := { on := 1, code := 0x24, off := 0x108, lsb := 0, width := 32, acc := .rc }
def MSPI_ERRORS_UNKNOWN : FieldDef := { on := 1, code := 0x24, off := 0x10C, lsb := 0, width := 16, acc := .rc }
def MSPI_ERRORS_LENGTH : FieldDef := { on := 1, code := 0x24, off := 0x10C, lsb := 16, width := 16, acc := .rc }
def MSPI_OVERWRITTEN_COUNT : FieldDef := { on := 1, code := 0x24, off := 0x110, lsb := 0, width := 32, acc := .rc }

/-- The block register fields of page CLAMP. -/
def pageCLAMP : List FieldDef :=
  [CLAMP_CTL_ARCHIVE, CLAMP_CTL_ZERO, CLAMP_STAT_NEXT, CLAMP_SEQ_NEXT, CLAMP_TOTAL_COUNT, CLAMP_RINGi_Ww]
/-- The block register fields of page TICK. -/
def pageTICK : List FieldDef :=
  [TICK_PERIOD_US, TICK_MAJOR_FRAMES, TICK_RELEASE_AT_US, TICK_EPOCH_LO_NS, TICK_EPOCH_HI_NS, TICK_POINTS_DIES, TICK_POINTS_GO, TICK_FRAME_LO_N, TICK_FRAME_HI_N, TICK_STAT_MINOR, TICK_STAT_HOLDOVER, TICK_STAT_SLEWING, TICK_STAT_POINTS_PENDING, TICK_STAT_POINTS_FAIL, TICK_STAT_FAIL_DIE, TICK_LAST_LEN_CYCLES]
/-- The block register fields of page FWATCH. -/
def pageFWATCH : List FieldDef :=
  [FWATCH_SPREAD_BY_US, FWATCH_COMMIT_AT_US, FWATCH_CTL_MARGIN_CLR, FWATCH_CAUSE_CODE, FWATCH_CAUSE_DIES, FWATCH_FRAME_LO_N, FWATCH_FRAME_HI_N, FWATCH_OVERRUNS_COUNT, FWATCH_MIRROR_LATE_COUNT, FWATCH_MARGIN_CYCLES]
/-- The block register fields of page TTBL. -/
def pageTTBL : List FieldDef :=
  [TTBL_CTL_POINTS, TTBL_CTL_CANCEL, TTBL_ROWSEL_ROW, TTBL_ROWSEL_BANK, TTBL_ROWSEL_AUTOINC, TTBL_ROW_W0_START, TTBL_ROW_W0_ENGINE, TTBL_ROW_W1_LENGTH, TTBL_ROW_W1_TASK, TTBL_ROW_W2_ENTRY, TTBL_ROW_W3_FENCE, TTBL_ROW_W3_ESSENTIAL, TTBL_ROW_W3_EVENT, TTBL_ROW_W3_SHUNT, TTBL_ROW_W3_VALID, TTBL_ROW_W3_EVERY, TTBL_ROW_W3_PHASE, TTBL_STAT_ACTIVE, TTBL_STAT_PENDING, TTBL_STAT_CHECK_FAIL, TTBL_STAT_FAIL_ROW, TTBL_STAT_FAIL_REASON, TTBL_STAT_CHECKING, TTBL_SWAPS_COUNT]
/-- The block register fields of page BUDGET. -/
def pageBUDGET : List FieldDef :=
  [BUDGET_ENGe_ROW_ROW, BUDGET_ENGe_ROW_RUNNING, BUDGET_ENGe_LEFT_CYCLES, BUDGET_OVR_ROW, BUDGET_OVR_ENGINE, BUDGET_OVR_VALID, BUDGET_OVR_FRAME_N, BUDGET_STALLS_COUNT, BUDGET_MINLEFTe_CYCLES, BUDGET_SKIPt_COUNT]
/-- The block register fields of page SBOX. -/
def pageSBOX : List FieldDef :=
  [SBOX_CTL_FAULT_CUT, SBOX_STAT_LEVER, SBOX_STAT_RUNNING, SBOX_STAT_SYNC_WAIT, SBOX_NET_COUNT, SBOX_FAULT_KIND, SBOX_FAULT_VALID, SBOX_FAULT_LEVER, SBOX_FAULT_TASK, SBOX_FAULT_NET_NET, SBOX_FAULT_FRAME_N, SBOX_FAULTS_COUNT, SBOX_CLR_FAULT, SBOX_RETIRED_COUNT, SBOX_SQUASHED_COUNT, SBOX_SYNC_CYCLES_COUNT, SBOX_SYNC_MAX_CYCLES, SBOX_MASK0_LO_BITS, SBOX_MASK0_HI_BITS, SBOX_MASKi_LO_BITS, SBOX_MASKi_HI_BITS]
/-- The block register fields of page TIMR. -/
def pageTIMR : List FieldDef :=
  [TIMR_CTL_CLEAR, TIMR_SEL_KIND, TIMR_SEL_INDEX, TIMR_CFG_TYPE, TIMR_PRESET_VALUE, TIMR_VALUE_VALUE, TIMR_STATE_IN, TIMR_STATE_RUN, TIMR_STATE_Q, TIMR_STATE_QD, TIMR_STATE_SAT, TIMR_TIME_T, TIMR_STALLS_COUNT, TIMR_PASS_SET, TIMR_PASS_RUNNING, TIMR_SETs_FIRST, TIMR_SETs_LAST, TIMR_SETs_SPACE, TIMR_SETs_WORD]
/-- The block register fields of page COREn. -/
def pageCOREn : List FieldDef :=
  [COREn_CTL_HOLD, COREn_BOOT_ADDR, COREn_CUTVEC_ADDR, COREn_SLOTCFG_THR, COREn_SLOTCFG_USLOT, COREn_SLOTCFG_UTOKEN, COREn_QPERM_GET, COREn_QPERM_PUT, COREn_SOFT_SET, COREn_STAT_STATE, COREn_STAT_PRIV, COREn_STAT_BG_VALID, COREn_STAT_HALTED, COREn_STAT_FROZEN, COREn_PC_ADDR, COREn_CUTPC_ADDR, COREn_PREEMPTS_COUNT, COREn_LOST_COUNT, COREn_TRAPS_COUNT, COREn_RTR_EN0_SRC, COREn_RTR_EN1_SRC, COREn_RTR_PEND0_SRC, COREn_RTR_PEND1_SRC, COREn_RTR_CLR0_SRC] ++
  [COREn_RTR_CLR1_SRC, COREn_RTR_LVLk_SRCj]
/-- The block register fields of page DBG. -/
def pageDBG : List FieldDef :=
  [DBG_CTL_JTAG_EN, DBG_CTL_KEEPER_EN, DBG_CTL_SCAN_EN, DBG_CTL_SBA_EN, DBG_STAT_ACTIVE, DBG_STAT_KEEPER_HALTED, DBG_STAT_SCAN_HALTED, DBG_HALTS_COUNT]
/-- The block register fields of page Sn/DBG. -/
def pageScanDBG : List FieldDef :=
  [S_DBG_STAT_HALTED, S_DBG_STAT_ALLOWED, S_DBG_STAT_WATCH_HIT, S_DBG_WATCH_LEVER, S_DBG_WATCH_EN, S_DBG_WATCH_CLR, S_DBG_WATCH_FRAME_N, S_DBG_HALTS_COUNT]
/-- The block register fields of page MODE. -/
def pageMODE : List FieldDef :=
  [ MODE_REQ_CMD, MODE_REQ_START, MODE_CFG_POWERUP, MODE_CFG_NO_HOLD, MODE_STAT_MODE, MODE_STAT_START, MODE_STAT_PENDING, MODE_STAT_PENDING_CMD, MODE_STAT_HOT_OK, MODE_STAT_PREPARING, MODE_REASON_STOP_CAUSE, MODE_REASON_REFUSE, MODE_REASON_REFUSED_CMD, MODE_FIRST_N, MODE_CHANGES_COUNT, MODE_STEPS_COUNT, MODE_REFUSALS_COUNT]
/-- The block register fields of page TASK. -/
def pageTASK : List FieldDef :=
  [TASK_SEL_TASK, TASK_CFG_TYPE, TASK_CFG_PRIO, TASK_CFG_PERIOD, TASK_CFG_DIES, TASK_TRIG_KIND, TASK_TRIG_SRC, TASK_TRIG_EDGE, TASK_ERR_CAUSES, TASK_STAT_PENDING, TASK_STAT_LATCHED, TASK_STAT_SKIPPED, TASK_STAT_TORN, TASK_STAT_PEND_COUNT, TASK_STAT_LATCH_COUNT, TASK_RUNS_COUNT, TASK_LAST_N, TASK_ECAUSE_CAUSES, TASK_ECAUSE_STATION, TASK_PENDING0_TASKS, TASK_PENDING1_TASKS, TASK_LATCHED0_TASKS, TASK_LATCHED1_TASKS]
/-- The block register fields of page IMG. -/
def pageIMG : List FieldDef :=
  [IMG_STAT_OUT_BUF, IMG_STAT_SAFE_VALID, IMG_STAT_SAFE_LOADING, IMG_STAT_RET_VALID_A, IMG_STAT_RET_VALID_B, IMG_STAT_RET_NEWEST, IMG_STAT_RET_SRC, IMG_STAT_SAVING, IMG_SAFE_CRC_CRC, IMG_RET_CFG_ENTRIES, IMG_RET_CFG_PF_GRACE, IMG_RET_SIZE_BYTES, IMG_RET_SEQ_SEQ, IMG_RET_FRAME_N, IMG_RET_TORN_LO_TASKS, IMG_RET_TORN_HI_TASKS, IMG_SAVES_COUNT, IMG_SAVE_TIME_US, IMG_RETi_W0_KIND, IMG_RETi_W0_DIE, IMG_RETi_W0_START, IMG_RETi_W1_LENGTH]
/-- The block register fields of page PLAT. -/
def pagePLAT : List FieldDef :=
  [PLAT_CFG_SNAP_RO, PLAT_CFG_RET_MONLY, PLAT_STAT_SPREAD_DONE, PLAT_STAT_READY, PLAT_SPREAD_LAST_BEATS, PLAT_SPREAD_END_CYCLES, PLAT_SUB_D_WORDS, PLAT_SUB_A_POINTS, PLAT_OWN_D_WORDS, PLAT_OWN_A_POINTS, PLAT_SNAP_FAULTS_COUNT]
/-- The block register fields of page XSPI. -/
def pageXSPI : List FieldDef :=
  [XSPI_CFG_EN, XSPI_CFG_RESET, XSPI_CFG_CLKDIV, XSPI_CFG_OCTAL, XSPI_CFG_SIZE, XSPI_ADDR_ADDR, XSPI_LEN_BYTES, XSPI_XCMD_OP, XSPI_XCMD_DIR, XSPI_XCMD_ADDR_EN, XSPI_XCMD_DUMMY, XSPI_XCMD_DMA, XSPI_XCMD_GO, XSPI_DMA_DST_ADDR, XSPI_STAT_BUSY, XSPI_STAT_ERROR, XSPI_STAT_RANGE, XSPI_DONE_BYTES, XSPI_ERRORS_COUNT, XSPI_BUFw_DATA]
/-- The block register fields of page STN. -/
def pageSTN : List FieldDef :=
  [STN_ENT_W0_VALID, STN_ENT_W0_KIND, STN_ENT_W0_DROP, STN_ENT_W0_ERR_TASK, STN_ENT_W0_ERR_EN, STN_ENT_W0_RING_A, STN_ENT_W0_RING_B, STN_ENT_W0_MAC_HI, STN_ENT_W1_MAC_LO, STN_ENT_W2_IN_LEN, STN_ENT_W2_OUT_LEN, STN_ENT_W2_LEAD, STN_ENT_W3_CAT_FIRST, STN_ENT_W3_CAT_COUNT, STN_CFG_ETYPE, STN_GROUP_LO_ADDR, STN_GROUP_HI_ADDR, STN_SEL_STATION, STN_SEL_BANK, STN_SEL_AUTOINC, STN_SSTAT_QUALITY, STN_SSTAT_DROPPED, STN_SSTAT_MISS, STN_SSTAT_PATH_A] ++
  [STN_SSTAT_PATH_B, STN_ERRS_LATE, STN_ERRS_STALE, STN_DROPS_DROPOUTS, STN_DROPS_PATHLOSS, STN_LAST_SEQ, STN_LAST_ALARM_SEQ, STN_SAMPLE_NS, STN_LOAD_A_BYTES, STN_LOAD_B_BYTES, STN_DROPPEDi_STATIONS]
/-- The block register fields of page CAT. -/
def pageCAT : List FieldDef :=
  [CAT_ENT_W0_VALID, CAT_ENT_W0_DIR, CAT_ENT_W0_KIND, CAT_ENT_W0_FORMAT, CAT_ENT_W0_POLICY, CAT_ENT_W0_DIES, CAT_ENT_W0_STATION, CAT_ENT_W1_OFFSET, CAT_ENT_W1_LENGTH, CAT_ENT_W2_IMAGE, CAT_ENT_W2_SUBIDX, CAT_CTL_SWAP, CAT_CTL_COPY, CAT_SEL_INDEX, CAT_SEL_BANK, CAT_SEL_AUTOINC, CAT_STAT_CHECKING, CAT_STAT_CHECK_FAIL, CAT_STAT_FAIL_CODE, CAT_STAT_FAIL_INDEX, CAT_STAT_FAIL_PORT, CAT_SWAPS_COUNT]
/-- The block register fields of page XCHG. -/
def pageXCHG : List FieldDef :=
  [XCHG_STAT_CUT, XCHG_STAT_BUILD, XCHG_STAT_RELEASE, XCHG_CUT_LAST_CYCLES, XCHG_BUILD_LAST_CYCLES, XCHG_HELD_COUNT, XCHG_SAT_COUNT, XCHG_ALARM_HEAD, XCHG_ALARM_SEQ_N, XCHG_DROPPED_COUNT]
/-- The block register fields of page PTP. -/
def pagePTP : List FieldDef :=
  [PTP_CFG_DOMAIN, PTP_CFG_ROLE, PTP_CFG_PORTS, PTP_PRIO_PRIO1, PTP_PRIO_PRIO2, PTP_PRIO_CLASS, PTP_PRIO_ACCURACY, PTP_INTERVALS_SYNC, PTP_INTERVALS_ANNOUNCE, PTP_INTERVALS_PDELAY, PTP_INTERVALS_TIMEOUT, PTP_STAT_STATES, PTP_STAT_SLAVE_PORT, PTP_STAT_SLAVE, PTP_STAT_GM_SELF, PTP_GM_HI_ID, PTP_GM_LO_ID, PTP_OFFSET_NS, PTP_PDELAYn_NS, PTP_TIME_LO_NS, PTP_TIME_HI_NS]
/-- The block register fields of page TSN. -/
def pageTSN : List FieldDef :=
  [TSN_SEL_PORT, TSN_SEL_ENTRY, TSN_SEL_AUTOINC, TSN_CYCLE_NS, TSN_ADMIN_LEN_ENTRIES, TSN_GCL_W0_GATES, TSN_GCL_W1_NS, TSN_CTL_CHANGE, TSN_STAT_OPER_LEN, TSN_STAT_PENDING, TSN_STAT_CHANGE_FAIL, TSN_GUARD_COUNT]
/-- The block register fields of page LINEn. -/
def pageLINEn : List FieldDef :=
  [LINEn_CFG_MODE, LINEn_MAC_LO_ADDR, LINEn_MAC_HI_ADDR, LINEn_STAT_LINK, LINEn_STAT_OVERSPAN, LINEn_STAT_RING, LINEn_SPAN_NS, LINEn_SENT_LAST_COUNT, LINEn_RX_OK_COUNT, LINEn_RX_FCS_COUNT, LINEn_RX_FORMAT_COUNT, LINEn_RX_DUP_COUNT, LINEn_RX_STALE_COUNT, LINEn_RX_RETURN_COUNT, LINEn_RX_SVC_DROP_COUNT, LINEn_TX_OUT_COUNT, LINEn_TX_TABLET_COUNT, LINEn_TX_OVERSPAN_COUNT]
/-- The block register fields of page SHUNT. -/
def pageSHUNT : List FieldDef :=
  [SHUNT_REQ_START, SHUNT_REQ_ABANDON, SHUNT_REQ_SOURCE, SHUNT_REQ_TARGET, SHUNT_REQ_MODE, SHUNT_CFG_RATE, SHUNT_CFG_TRIES, SHUNT_CFG_DELTA_MAX, SHUNT_STAT_STATE, SHUNT_STAT_SOURCE, SHUNT_STAT_TARGET, SHUNT_STAT_MODE, SHUNT_STAT_CODE, SHUNT_STAT_ACCEPTED, SHUNT_DIRTY_REGIONS, SHUNT_PASSES_COUNT, SHUNT_TRIES_LEFT, SHUNT_LAST_DELTA_BYTES, SHUNT_LAST_TIME_CYCLES]
/-- The block register fields of page PART. -/
def pagePART : List FieldDef :=
  [PART_REQ_OP, PART_REQ_DIE, PART_REQ_TO, PART_CFG_ROLES, PART_ROLES_ROLES, PART_ALIAS_DIES, PART_STAT_PRESENT, PART_STAT_FAILED, PART_STAT_REFUSE, PART_CUTOVERS_COUNT]
/-- The block register fields of page PAIR. -/
def pagePAIR : List FieldDef :=
  [PAIR_CFG_EN, PAIR_CFG_HB_MISS, PAIR_CFG_SILENT_MS, PAIR_CFG_YIELD_CAUSES, PAIR_CFG_YIELD_ON_PF, PAIR_CFG_MANUAL, PAIR_ID_ID, PAIR_WIT_BASE_ID, PAIR_WIT_T_LOSS, PAIR_WIT_ENABLE, PAIR_WIT_KEY, PAIR_STAT_STATE, PAIR_STAT_LINK, PAIR_STAT_WITNESS, PAIR_STAT_SENIOR, PAIR_STAT_VERDICT, PAIR_STAT_DIVERGED, PAIR_STAT_CAUSE, PAIR_APPLIED_N, PAIR_VERDICT_N_N, PAIR_MIRROR_BYTES, PAIR_DISCARDS_COUNT, PAIR_DIVERGE_WORD, PAIR_LINKERR_COUNT] ++
  [PAIR_MAP_DIES, PAIR_REQ_SYNC]
/-- The block register fields of page TABLET. -/
def pageTABLET : List FieldDef :=
  [TABLET_CTL_WANT, TABLET_STAT_STATE, TABLET_STAT_CLAIM, TABLET_STAT_SEEN, TABLET_STAT_SENIOR, TABLET_GAINED_LO_NS, TABLET_GAINED_HI_NS, TABLET_LOST_LO_NS, TABLET_LOST_HI_NS, TABLET_COUNTS_GAINS, TABLET_COUNTS_COLLISIONS]
/-- The block register fields of page FAB. -/
def pageFAB : List FieldDef :=
  [FAB_BURST_LIMIT_BEATS, FAB_FENCE_DIES, FAB_UNFENCE_DIES, FAB_STAT_FENCED, FAB_STAT_HELD, FAB_ABSENT_COUNT, FAB_ABORTED_COUNT, FAB_LOST_COUNT, FAB_TIMEOUTS_COUNT, FAB_MAXWAIT_BEATS, FAB_MAXLAT_CYCLES, FAB_HOLD_MAX_ENTRIES]
/-- The block register fields of page QUE. -/
def pageQUE : List FieldDef :=
  [QUE_SEL_QUEUE, QUE_SEL_DIE, QUE_CREDIT_COUNT, QUE_PUSH_LO_DATA, QUE_PUSH_QUEUE, QUE_PUSH_DIE, QUE_PUSH_TAG, QUE_PUSH_STAT_STATUS, QUE_Qq_CFG_EN, QUE_Qq_CFG_DEPTH, QUE_Qq_ALLOT_LO_SRCs, QUE_Qq_ALLOT_HI_SRCs, QUE_Qq_POP_POP, QUE_Qq_STAT_COUNT, QUE_Qq_STAT_DROPS, QUE_Qq_STAT_DISCARDS, QUE_Qq_HEAD_LO_DATA, QUE_Qq_HEAD_HI_DATA]
/-- The block register fields of page MEM. -/
def pageMEM : List FieldDef :=
  [MEM_PWR_BANKb, MEM_PWR_STAT_BANKb, MEM_ECC_CTL_SCRUB_EN, MEM_ECC_CTL_SCRUB_RATE, MEM_CE_COUNT, MEM_DE_COUNT, MEM_LAST_ERR_ADDR, MEM_LAST_ERR_INFO_DOUBLE, MEM_LAST_ERR_INFO_BANK, MEM_LAST_ERR_INFO_MASTER, MEM_SWEEPS_COUNT, MEM_DMA_GO_ADDR, MEM_DMA_STAT_ADDR, MEM_DMA_CODE_CODE]
/-- The block register fields of page MARCH. -/
def pageMARCH : List FieldDef :=
  [MARCH_CTL_MODE, MARCH_CTL_BANK, MARCH_CTL_LOOP, MARCH_CTL_START, MARCH_CTL_STOP, MARCH_CFG_LOAN_WORDS, MARCH_CFG_RETRIES, MARCH_STAT_STATE, MARCH_STAT_BANK, MARCH_STAT_WORD, MARCH_LOANS_COUNT, MARCH_ABORTS_COUNT, MARCH_SKIPPED_COUNT, MARCH_FAULT_BANK, MARCH_FAULT_SUBARRAY, MARCH_FAULT_ROW, MARCH_FAULT_COLUMN, MARCH_FAULT_BIT, MARCH_FAULT_DATA_LOST, MARCH_FAULT_VALID, MARCH_FAULTS_COUNT, MARCH_REPAIR_BANK, MARCH_REPAIR_SUBARRAY, MARCH_REPAIR_KIND] ++
  [MARCH_REPAIR_INDEX, MARCH_REPAIR_GO, MARCH_REPAIR_STAT_STATE, MARCH_REPAIR_STAT_CODE, MARCH_REPAIR_STAT_ROWS_LEFT, MARCH_REPAIR_STAT_COLS_LEFT, MARCH_EXEMPTi_W0_VALID, MARCH_EXEMPTi_W0_FIRST, MARCH_EXEMPTi_W1_LAST]
/-- The block register fields of page TOKEN. -/
def pageTOKEN : List FieldDef :=
  [TOKEN_ACQ_TOKEN, TOKEN_REL_TOKEN, TOKEN_RESULT_CODE, TOKEN_HELD_LO_TOKENS, TOKEN_HELD_HI_TOKENS, TOKEN_BROKEN_LO_TOKENS, TOKEN_BROKEN_HI_TOKENS, TOKEN_HELDOVER_LO_TOKENS, TOKEN_HELDOVER_HI_TOKENS, TOKEN_SEL_TOKEN, TOKEN_OWNER_MASTER, TOKEN_OWNER_HELD, TOKEN_OWNER_BROKEN, TOKEN_RETURNS_COUNT]
/-- The block register fields of page CANx. -/
def pageCANx : List FieldDef :=
  [CANx_CTL_EN, CANx_CTL_FD_EN, CANx_CTL_LISTEN, CANx_CTL_TXORDER, CANx_CTL_PXHD, CANx_CTL_NO_RETX, CANx_CTL_RX_FLUSH, CANx_CTL_RECOVER, CANx_NBT_BRP, CANx_NBT_TSEG1, CANx_NBT_TSEG2, CANx_NBT_SJW, CANx_DBT_BRP, CANx_DBT_TSEG1, CANx_DBT_TSEG2, CANx_DBT_SJW, CANx_DBT_TDC_EN, CANx_DBT_TDCO, CANx_STAT_STATE, CANx_STAT_CFG_ERR, CANx_STAT_TX_BUSY, CANx_STAT_RX_BUSY, CANx_STAT_TDCV, CANx_ERR_TEC] ++
  [CANx_ERR_REC, CANx_ERR_LEC, CANx_ERR_LEC_DATA, CANx_EVENTS_BUS_OFFS, CANx_EVENTS_ERRORS, CANx_TXCMD_REQ, CANx_TXCMD_ABORT, CANx_TXSTAT_STb, CANx_TXSTAT_ABORT_PEND, CANx_RXSTAT_COUNT, CANx_RXSTAT_LOCKED, CANx_RXSTAT_LOCK_MASTER, CANx_RXOVF_COUNT, CANx_SVC_TXQ_EN, CANx_SVC_TXQ_DIE, CANx_SVC_TXQ_Q, CANx_SVC_DONE_Q, CANx_SVC_BO_DELAY, CANx_SVC_STAT_FWD_DROPS, CANx_SVC_STAT_TX_DISCARDS, CANx_TXBb_W0_IDE, CANx_TXBb_W0_ID, CANx_TXBb_W1_DLC, CANx_TXBb_W1_FDF] ++
  [CANx_TXBb_W1_BRS, CANx_TXBb_W1_RTR, CANx_TXBb_Dk_DATA, CANx_RX_Wj_DATA, CANx_FLTi_W0_IDE, CANx_FLTi_W0_ID, CANx_FLTi_W1_MASK, CANx_FLTi_W2_EN, CANx_FLTi_W2_REJECT, CANx_FLTi_W2_FWD_EN, CANx_FLTi_W2_FWD_DIE, CANx_FLTi_W2_FWD_Q]
/-- The block register fields of page FPX. -/
def pageFPX : List FieldDef :=
  [FPX_CTL_MUTE, FPX_STAT_PRESENT, FPX_STAT_PUSHING, FPX_STAT_PULLING, FPX_LINKERR_COUNT, FPX_POWERUPS_COUNT, FPX_CONFIRM_MAX_US]
/-- The block register fields of page F/SYS. -/
def pageFieldSYS : List FieldDef :=
  [F_SYS_STAT_RUNNING, F_SYS_STAT_FRESH, F_SYS_TEMP_DEGC, F_SYS_POWERUP_LO_NS, F_SYS_POWERUP_HI_NS]
/-- The block register fields of page F/FDI. -/
def pageFieldFDI : List FieldDef :=
  [F_FDI_CHc_DEBOUNCE, F_FDI_CHc_EDGE_EN, F_FDI_LEVELS_RAW, F_FDI_LEVELS_STABLE, F_FDI_EDGE_LO_US, F_FDI_EDGE_HI_TIME, F_FDI_EDGE_HI_CHANNEL, F_FDI_EDGE_HI_LEVEL, F_FDI_EDGE_HI_LOSS, F_FDI_EDGE_HI_VALID, F_FDI_PENDING_CHANNELS, F_FDI_LOST_CHANNELS, F_FDI_EDGES_COUNT]
/-- The block register fields of page F/FDO. -/
def pageFieldFDO : List FieldDef :=
  [F_FDO_CFG_RETRY, F_FDO_CFG_OPEN_DET, F_FDO_CLR_SHORT, F_FDO_STAT_ON, F_FDO_STAT_SHORT, F_FDO_STAT_OPEN, F_FDO_STAT_THERMAL, F_FDO_CURk_MA, F_FDO_TRIPS_COUNT]
/-- The block register fields of page F/FAO. -/
def pageFieldFAO : List FieldDef :=
  [F_FAO_CFGk_MODE, F_FAO_CFGk_FAULT_HIGH, F_FAO_ZEROk_UNITS, F_FAO_SPANk_UNITS, F_FAO_READk_UNITS, F_FAO_READk_LOOP_FAULT, F_FAO_READk_FAULT_CURRENT, F_FAO_CLAMPSk_COUNT, F_FAO_TRIM_CHANNEL, F_FAO_TRIM_STEP, F_FAO_TRIM_PIN_EN, F_FAO_TRIM_STAT_STATE, F_FAO_TRIM_STAT_PINS, F_FAO_TRIM_STAT_CHANNEL, F_FAO_TRIM_STAT_PIN_LEVELS]
/-- The block register fields of page F/FSK. -/
def pageFieldFSK : List FieldDef :=
  [F_FSK_CTLk_EN, F_FSK_CTLk_RTS, F_FSK_TXk_DATA, F_FSK_RXk_DATA, F_FSK_RXk_PARITY_ERR, F_FSK_RXk_FRAMING_ERR, F_FSK_RXk_VALID, F_FSK_STATk_TX_COUNT, F_FSK_STATk_RX_COUNT, F_FSK_STATk_CARRIER, F_FSK_STATk_SENDING, F_FSK_ERRSk_RX_OVF, F_FSK_ERRSk_TX_DROPS]
/-- The block register fields of page F/FSUP. -/
def pageFieldFSUP : List FieldDef :=
  [F_FSUP_STAT_MV, F_FSUP_STAT_LEVEL, F_FSUP_LAST_LO_US, F_FSUP_LAST_HI_TIME, F_FSUP_LAST_HI_FROM, F_FSUP_LAST_HI_TO, F_FSUP_CROSSINGS_COUNT, F_FSUP_MIN_MV]
/-- The block register fields of page F/FSAFE. -/
def pageFieldFSAFE : List FieldDef :=
  [F_FSAFE_CTL_ARM, F_FSAFE_CTL_DISARM, F_FSAFE_MODE_SAFE, F_FSAFE_TIMEOUT_MS, F_FSAFE_SAFE_DO_VAL, F_FSAFE_STBY_DO_VAL, F_FSAFE_STBY_DO_HOLD, F_FSAFE_SAFE_AOk_CODE, F_FSAFE_SAFE_AOk_KIND, F_FSAFE_STBY_AOk_CODE, F_FSAFE_STBY_AOk_KIND, F_FSAFE_STAT_ARMED, F_FSAFE_STAT_SILENT, F_FSAFE_STAT_STANDBY, F_FSAFE_STAT_UVLO_OFF, F_FSAFE_SILENCES_COUNT]
/-- The block register fields of page NVC. -/
def pageNVC : List FieldDef :=
  [NVC_CTL_PAGE_MODE, NVC_CTL_REFRESH_EN, NVC_ADDR_ADDR, NVC_DATA_LO_DATA, NVC_DATA_HI_DATA, NVC_REFRESH_INTERVAL, NVC_CLR_POISON, NVC_STAT_POISON, NVC_STAT_BUSY, NVC_STAT_QUEUED, NVC_STAT_REFUSED, NVC_POISON_ADDR_ADDR, NVC_CE_COUNT, NVC_DE_COUNT, NVC_SWEEP_POS_PAGE, NVC_SWEEPS_COUNT, NVC_WRITES_COUNT]
/-- The block register fields of page NVP. -/
def pageNVP : List FieldDef :=
  [NVP_BP_BP, NVP_REFUSED_COUNT, NVP_LAST_ADDR, NVP_LAST_MASTER]
/-- The block register fields of page ARCH. -/
def pageARCH : List FieldDef :=
  [ARCH_CTL_FLUSH, ARCH_CTL_SNAP, ARCH_CFG_SNAP_MIN, ARCH_CFG_ALARM_ID, ARCH_STAT_FLUSHING, ARCH_STAT_FAILED, ARCH_STAT_FOUNDING_FULL, ARCH_STAT_WRAPPED, ARCH_STAT_FILL, ARCH_RSEQ_NEXT, ARCH_DURABLE_RSEQ, ARCH_OLDEST_RSEQ, ARCH_FOUND_END_OFFSET, ARCH_ROLL_HEAD_BLOCK, ARCH_ROLL_HEAD_OFFSET, ARCH_RR_HEAD_OFFSET, ARCH_RR_TAIL_OFFSET, ARCH_DROPS_COUNT, ARCH_BUDGET_DROPS_COUNT, ARCH_LOST_COUNT, ARCH_BAD_BLOCKS, ARCH_BUDGET_BYTES, ARCH_TALLY_VAL_VALUE, ARCH_TALLY_GO_TALLY] ++
  [ARCH_TALLY_GO_CLEAR, ARCH_TALLY_DEF_TALLY, ARCH_TALLY_DEF_BINSET, ARCH_TALLY_DEF_DEFINE, ARCH_TALLY_SEL_TALLY, ARCH_BIN_SEL_SET, ARCH_EDGEk_VALUE, ARCH_TALLY_Wj_DATA]
/-- The block register fields of page SYS. -/
def pageSYS : List FieldDef :=
  [SYS_PART_CODE, SYS_PART_STEP, SYS_UID_LO_ID, SYS_UID_HI_ID, SYS_INV_PRESENT, SYS_INV_LIVE, SYS_INV_SPARE, SYS_NAME_NAME, SYS_NAME_ROLE]
/-- The block register fields of page CLK. -/
def pageCLK : List FieldDef :=
  [CLK_CFG_PREF, CLK_CFG_REVERT, CLK_STAT_ACTIVE, CLK_STAT_A_OK, CLK_STAT_B_OK, CLK_STAT_PLL_LOCK, CLK_STAT_SERDES_LOCK, CLK_SWITCHES_COUNT, CLK_LAST_LO_NS, CLK_LAST_HI_NS, CLK_TICK_COMP_CYCLES]
/-- The block register fields of page PWR. -/
def pagePWR : List FieldDef :=
  [PWR_SW_DIES, PWR_RETAIN_DIES, PWR_STAT_VDD_K, PWR_STAT_VDD_SER, PWR_STAT_VDD_IO, PWR_STAT_PF, PWR_STAT_RAILS, PWR_STAT_ON, PWR_STAT_RETAINED, PWR_CFG_SLEEP_EN, PWR_CFG_WAKE_EN, PWR_WAKE_CAUSE, PWR_HOLDUP_US, PWR_DIE_ON, PWR_DIE_RETAINED]
/-- The block register fields of page RST. -/
def pageRST : List FieldDef :=
  [RST_CTL_PART, RST_DIE_RESET_DIES, RST_CAUSE_CAUSE, RST_CAUSE_BOOT, RST_COUNT_N, RST_SELFTEST_TESTED, RST_SELFTEST_FAILED, RST_SELFTEST_KEEPER_REPAIRED, RST_BOOT_MS_MS, RST_DIE_CAUSE_CAUSE]
/-- The block register fields of page GUARD. -/
def pageGUARD : List FieldDef :=
  [GUARD_SERVICE_ANY, GUARD_KEY_KEY, GUARD_CTL_EN, GUARD_CTL_LOCK, GUARD_TIMEOUT_MS, GUARD_STAT_LEFT_MS, GUARD_STAT_WARNED, GUARD_EXPIRIES_COUNT, GUARD_REFUSED_COUNT]
/-- The block register fields of page AON. -/
def pageAON : List FieldDef :=
  [AON_STAT_MAIN, AON_STAT_CONTINUITY, AON_STAT_XTAL_FAIL, AON_STAT_CMP, AON_FLAGS_VBAT_LOW, AON_FLAGS_BACKUP, AON_FLAGS_XTAL_FAILED, AON_FLAGS_CMP, AON_VBAT_MV, AON_BKUP_FIRST_LO_SEC, AON_BKUP_FIRST_HI_SEC, AON_BKUP_COUNT_COUNT, AON_CMPn_THR, AON_CMPn_EDGE, AON_CMP_TIME_LO_SEC, AON_CMP_TIME_HI_SEC, AON_SLIPs_Ww]
/-- The block register fields of page RTC. -/
def pageRTC : List FieldDef :=
  [RTC_SEC_LO_SEC, RTC_SEC_HI_SEC, RTC_SUB_COUNT, RTC_CAL_DATE_YEAR, RTC_CAL_DATE_MONTH, RTC_CAL_DATE_DAY, RTC_CAL_DATE_WEEKDAY, RTC_CAL_TIME_HOUR, RTC_CAL_TIME_MIN, RTC_CAL_TIME_SEC, RTC_STAGE_HI_SEC, RTC_STAGE_LO_SEC, RTC_CTL_LOAD, RTC_CTL_SYNC, RTC_STAT_LOAD_PENDING, RTC_STAT_TIME_LOST, RTC_STAT_OVERRANGE, RTC_TRIM_PPM, RTC_MEAS_CFG_REF, RTC_MEAS_CFG_WINDOW, RTC_MEAS_CFG_AUTO, RTC_MEAS_CFG_START, RTC_MEAS_PPM, RTC_MEAS_VALID] ++
  [RTC_MEAS_RUNNING, RTC_ALARM_LO_SEC, RTC_ALARM_HI_SEC, RTC_ALARM_HI_EN]
/-- The block register fields of page AUTH. -/
def pageAUTH : List FieldDef :=
  [AUTH_CFG_ETYPE, AUTH_CFG_CAN_ID, AUTH_CFG_LINE_EN, AUTH_CFG_CAN_EN, AUTH_CFG_MSPI_EN, AUTH_STAT_RESULT, AUTH_STAT_OP, AUTH_STAT_SLOT, AUTH_STAT_SOURCE, AUTH_STAT_OWNER_PK, AUTH_STAT_VENDOR_FLOOR, AUTH_STAT_CODE, AUTH_ACCEPTED_COUNT, AUTH_BADTAG_COUNT, AUTH_REPLAY_COUNT, AUTH_DUPLICATES_COUNT, AUTH_FORMAT_COUNT, AUTH_ROLES_LO_ROLES, AUTH_ROLES_HI_ROLES, AUTH_SEL_SLOT, AUTH_CTR_LO_N, AUTH_CTR_HI_N, AUTH_CEIL_LO_N, AUTH_CEIL_HI_N]
/-- The block register fields of page UPD. -/
def pageUPD : List FieldDef :=
  [UPD_CFG_CONFIRM_WINDOW, UPD_CTL_HEALTHY, UPD_CTL_RESUME, UPD_SESSION_ID, UPD_SESS_STATE, UPD_SESS_LEVEL, UPD_SESS_SOURCE, UPD_SESS_CODE, UPD_RECEIVED_BYTES, UPD_KSTAT_ACTIVE, UPD_KSTAT_STATE, UPD_KSTAT_HEALTHY, UPD_KSTAT_CAUSE, UPD_ESTAT_ACTIVE, UPD_ESTAT_STATE, UPD_ESTAT_HEALTHY, UPD_ESTAT_CAUSE, UPD_ESTAT_NEXT, UPD_KSVN_SVN, UPD_ESVN_SVN, UPD_DEADLINE_LO_NS, UPD_DEADLINE_HI_NS, UPD_OUTAGE_US]
/-- The block register fields of page MSPI. -/
def pageMSPI : List FieldDef :=
  [MSPI_STAT_IN_BUSY, MSPI_STAT_OUT_READY, MSPI_STAT_IN_LEN, MSPI_STAT_OUT_LEN, MSPI_FRAMES_IN_COUNT, MSPI_FRAMES_OUT_COUNT, MSPI_ERRORS_UNKNOWN, MSPI_ERRORS_LENGTH, MSPI_OVERWRITTEN_COUNT]

end Sys2Proof.Reg
end

