-- ==== Sys2Proof/Machine/SMap.lean ====
section
/-! DEFINITION.  Sparse maps in one canonical form: strictly rising keys, no entry that equals what an
unlisted key reads as.  Register fields, memory bytes, timers and queues are all held so. -/

namespace Sys2Proof.SMap

/-- The value listed for a key. -/
def find? {α : Type} : SMap α → Nat → Option α
  | [], _ => none
  | (k', v) :: rest, k => if k' = k then some v else if k < k' then none else find? rest k

/-- The value a key reads as: the listed one, or `d`. -/
def get {α : Type} (d : α) (m : SMap α) (k : Nat) : α := (find? m k).getD d

/-- Removes the entry of a key. -/
def erase {α : Type} : SMap α → Nat → SMap α
  | [], _ => []
  | (k', v) :: rest, k =>
    if k' = k then rest else if k < k' then (k', v) :: rest else (k', v) :: erase rest k

/-- Lists a value under a key. -/
def insert {α : Type} : SMap α → Nat → α → SMap α
  | [], k, v => [(k, v)]
  | (k', v') :: rest, k, v =>
    if k' = k then (k, v) :: rest
    else if k < k' then (k, v) :: (k', v') :: rest else (k', v') :: insert rest k v

/-- Writes a value: a value equal to what the unlisted key reads as removes the entry. -/
def put {α : Type} [DecidableEq α] (d : α) (m : SMap α) (k : Nat) (v : α) : SMap α :=
  if v = d then erase m k else insert m k v

/-- Writes what `f` makes of the present value. -/
def modify {α : Type} [DecidableEq α] (d : α) (m : SMap α) (k : Nat) (f : α → α) : SMap α :=
  put d m k (f (get d m k))

/-- Every key of the map is above `k`. -/
def above {α : Type} (k : Nat) : SMap α → Bool
  | [] => true
  | (k', _) :: _ => decide (k < k')

/-- Keys strictly rising. -/
def sorted {α : Type} : SMap α → Bool
  | [] => true
  | (k, _) :: rest => above k rest && sorted rest

/-- The canonical form for maps whose unlisted keys read as `d`. -/
def canonical {α : Type} [DecidableEq α] (d : α) (m : SMap α) : Bool :=
  sorted m && m.all (fun e => decide (e.2 ≠ d))

/-- Keeps the entries whose key satisfies `p`. -/
def keep {α : Type} (p : Nat → Bool) (m : SMap α) : SMap α := m.filter (fun e => p e.1)

/-- The entries with keys from `lo` up to, not including, `hi`. -/
def slice {α : Type} (m : SMap α) (lo hi : Nat) : SMap α :=
  m.filter (fun e => decide (lo ≤ e.1) && decide (e.1 < hi))

/-- The map with the entries of `[lo, hi)` replaced by those of `m'`, which all lie there. -/
def splice {α : Type} (m : SMap α) (lo hi : Nat) (m' : SMap α) : SMap α :=
  m.filter (fun e => decide (e.1 < lo)) ++ m' ++ m.filter (fun e => decide (hi ≤ e.1))

/-- Copies the `n` keys from `src` on to `dst` on: afterwards key `dst + i` reads as `src + i` read. -/
def copy {α : Type} (m : SMap α) (src dst n : Nat) : SMap α :=
  splice m dst (dst + n) ((slice m src (src + n)).map (fun e => (e.1 - src + dst, e.2)))

/-- Every key of `[lo, lo + n)` reads as unlisted afterwards. -/
def clear {α : Type} (m : SMap α) (lo n : Nat) : SMap α := splice m lo (lo + n) []

end Sys2Proof.SMap
end

