-- ==== Sys2Proof/Machine/State.lean ====
section
/-! DEFINITION.  The state of the part, as plain data.  Every field of a register page lives in `regs`; the
structures below hold what the spec gives the part beside its pages. -/

namespace Sys2Proof.Machine

/-- Why a step stops with a fault.  The spec has no behaviour that stops the block, so no meaning raises one. -/
inductive Fault where
  deriving DecidableEq, Repr

/-- Why a command is refused. -/
inductive Refusal where
  /-- Raised by an arm of `exec` whose command has no meaning yet (safe: nothing is claimed of it). -/
  | notModelled (mnemonic : String)
  deriving DecidableEq, Repr

/-! ### Register pages (spec/02) -/

/-- A key sequence of a master on a page (R56): the master, whether both key words were taken, so that the page is armed, and
the cycle the arming ends. -/
structure Arming where
  master : Nat
  armed : Bool
  untilCycle : Nat
  deriving DecidableEq, Repr

/-- The last completion of a master's page or memory access. -/
structure Reply where
  data : Nat
  fault : Bool
  deriving DecidableEq, Repr

/-! ### Queues (spec/10) -/

/-- A queue entry: low word, high word (sender, tag), global time of arrival, and its place in the queue's ring (R330). -/
structure QEntry where
  lo : Nat
  hi : Nat
  time : Nat
  slot : Nat := 0
  deriving DecidableEq, Repr

/-- A queue entry on its way to its destination port; `recalled`: its queue has been disabled since it was sent (R334). -/
structure Flight where
  die : Nat
  queue : Nat
  lo : Nat
  hi : Nat
  recalled : Bool := false
  deriving DecidableEq, Repr

/-- A credit on its way back to the port of `src` (1: the hardware producers of `dst`). -/
structure CreditDue where
  src : Nat
  dst : Nat
  queue : Nat
  deriving DecidableEq, Repr

/-! ### Word cores (spec/05) -/

/-- A word core: its registers, its CSRs and where it stands. -/
structure Core where
  /-- x1 to x31, f0 to f31 (64 bits, NaN-boxed singles), pmpcfg bytes and pmpaddr words by number. -/
  x : SMap Nat
  f : SMap Nat
  pmpcfg : SMap Nat
  pmpaddr : SMap Nat
  /-- Address of the next instruction, and of the last retired one. -/
  pc : Nat
  lastPc : Nat
  /-- M mode. -/
  mmode : Bool
  /-- Idle since a SLOTEND at `idlePc`, run in M mode when `idleM`. -/
  idle : Bool
  idlePc : Nat
  idleM : Bool
  halted : Bool
  /-- mstatus. -/
  mie : Bool
  mpie : Bool
  mppM : Bool
  mprv : Bool
  fs : Nat
  mieReg : Nat
  mtvec : Nat
  mscratch : Nat
  mepc : Nat
  mcause : Nat
  mtval : Nat
  mcounteren : Nat
  fflags : Nat
  frm : Nat
  /-- Reservation of LR.W: the word address. -/
  reserved : Option Nat
  yxstat : Nat
  yqtag : Nat
  yirqthr : Nat
  yspc : Nat
  ysValid : Bool
  ysPrivM : Bool
  ysMie : Bool
  /-- yslot. -/
  inSlot : Bool
  slotTask : Nat
  slotRow : Nat
  cut : Bool
  eventRow : Bool
  /-- Cycle in which the last instruction retired; what mcycle and minstret add to their sources. -/
  clock : Nat
  cycleOff : Nat
  instret : Nat
  deriving DecidableEq, Repr

/-- A word core after reset (R142, R164; the values the spec does not give are log entry 21's). -/
def Core.start : Core :=
  { x := [], f := [], pmpcfg := [], pmpaddr := [], pc := 0, lastPc := 0, mmode := true, idle := false, idlePc := 0
    idleM := true, halted := false, mie := false, mpie := false, mppM := false, mprv := false, fs := 0, mieReg := 0
    mtvec := 0, mscratch := 0, mepc := 0, mcause := 0, mtval := 0, mcounteren := 0, fflags := 0, frm := 0
    reserved := none, yxstat := 0, yqtag := 0, yirqthr := 0, yspc := 0, ysValid := false, ysPrivM := false
    ysMie := false, inSlot := false, slotTask := 0, slotRow := 0, cut := false, eventRow := false, clock := 0
    cycleOff := 0, instret := 0 }

/-! ### The Signal Box and the Timer rack (spec/04) -/

/-- A timer (R129): start stamp, state bits, elapsed time, and whether a TOF input has fallen since its reset. -/
structure Timer where
  start : Nat
  inp : Bool
  run : Bool
  q : Bool
  et : Nat
  fell : Bool
  deriving DecidableEq, Repr

/-- A counter (R130). -/
structure Counter where
  cv : Int
  cu : Bool
  cd : Bool
  qu : Bool
  qd : Bool
  sat : Bool
  deriving DecidableEq, Repr

/-- A timer after a reset. -/
def Timer.idle : Timer := ⟨0, false, false, false, 0, false⟩

/-- A counter after power-on reset. -/
def Counter.idle : Counter := ⟨0, false, false, false, false, false⟩

/-- Where a Signal Box stands in its slot: the next lever, MOVE words already copied, SYNC cycles waited. -/
structure Sbox where
  next : Nat
  moved : Nat
  waited : Nat
  deriving DecidableEq, Repr

/-- The staged low word of the mask table (R120): entry and word. -/
structure MaskStage where
  entry : Nat
  word : Nat
  deriving DecidableEq, Repr

/-- A page write held while a row runs, with its response (R121, R139): offset, or entry of the mask table; window, or the
staged low mask word and one, 0 for none; word; the master. -/
structure HeldWrite where
  off : Nat
  win : Nat
  word : Nat
  who : Nat
  deriving DecidableEq, Repr

/-- A Junction request that is issued and waits: at a bank fence in the inbound holding buffer of its target die (R90), or, at
the address of a register, for the effect of a page write that is held (R50).  `failed`: the hub has failed it and its master
has not yet met the access fault (R327, R329). -/
structure HeldReq where
  die : Nat
  who : Nat
  user : Bool
  write : Bool
  addr : Nat
  size : Nat
  value : Nat
  failed : Bool := false
  deriving DecidableEq, Repr

/-! ### Tasks (spec/06) -/

/-- The error causes of a pending trigger (R189) and the lowest station among its dropouts (1,024: none). -/
structure Causes where
  mask : Nat
  station : Nat
  deriving DecidableEq, Repr

/-! ### Frames and slots (spec/03) -/

/-- The slot of an engine: the row that runs or ran last on it (R84, R102).  `idle`: the row stands without
its engine working (R87, R89). -/
structure Slot where
  row : Nat
  task : Nat
  fence : Nat
  start : Nat
  length : Nat
  essential : Bool
  event : Bool
  shunt : Bool
  running : Bool
  idle : Bool
  /-- The row is a core row that performs no slot entry, so its core is frozen (R157). -/
  frozen : Bool
  /-- Cycles of the slot the engine has used so far. -/
  used : Nat
  deriving DecidableEq, Repr

/-- A part-wide points set that stands (R96): the dies named and those that have passed. -/
structure PartPoints where
  standing : Bool
  named : Nat
  passed : Nat
  deriving DecidableEq, Repr

/-- The Keeper's record of the present frame (R70 to R79, R97). -/
structure Frame where
  /-- Global time and cycle of the last tick. -/
  tickTime : Nat
  tickCycle : Nat
  /-- Whether a tick has fallen since power-on reset. -/
  ticked : Bool
  /-- Scan dies (six-bit masks): Spread ended, commit-ready raised, essential row overrun, Spread late, lost. -/
  spreadDone : Nat
  ready : Nat
  overrun : Nat
  late : Nat
  lost : Nat
  /-- Cycle of the latest commit-ready of the frame. -/
  readyCycle : Nat
  /-- The Cut copy runs; the Commit gather runs; the Safe copy runs; the release build runs. -/
  cutCopy : Bool
  gather : Bool
  safeCopy : Bool
  build : Bool
  /-- Cycle in which the release build started. -/
  buildAt : Nat
  /-- The output image is ready to be released at the next release instant, and the frame it belongs to. -/
  built : Bool
  releaseFrame : Nat
  /-- The output payload of station 1,023 as built (R382); words 16 and 17 of space S as they stood at the Cut (R383). -/
  fieldOut : List Byte
  fieldWords : Nat × Nat
  /-- The sample of this frame has been taken. -/
  sampled : Bool
  /-- Part status word of the frame (R183), and the flag of its OUTPUT frames: 0x80 RUN, 0x40 SAFE, 0x20 HOLD (R251). -/
  status : Nat
  flag : Nat
  deriving DecidableEq, Repr

/-- The controller mode beside `MODE.STAT` (R190 to R198). -/
structure Prog where
  /-- Cycle at which the pending request was accepted. -/
  accept : Nat
  /-- Start kind of the start under preparation, and the cycle at which its preparation ended. -/
  kind : Nat
  prepEnd : Option Nat
  /-- The request of R192 has been made since power-on reset. -/
  askedPowerup : Bool
  /-- The last program-image load failed (R193 code 13). -/
  failed : Bool
  /-- A start has taken place and no Run or Step frame since; the present frame is the first such frame. -/
  fresh : Bool
  first : Bool
  /-- The present frame is the first after an online change switch (R183). -/
  changed : Bool
  /-- Mode of the present frame, coded as `MODE.STAT.MODE`. -/
  frameMode : Nat
  deriving DecidableEq, Repr

/-- What a CAN controller holds beside its page (spec/11). -/
structure CanCtl where
  /-- Receive FIFO, head first: entries of 20 words (R365). -/
  fifo : List (List Nat)
  /-- The transmit buffer on the bus, where it is known. -/
  onBus : Option Nat
  /-- Sequence number of forwarded frames (R372). -/
  seq : Nat
  /-- Cycle of the last entry to BUS_OFF. -/
  busOffAt : Nat
  /-- Transmit requests of the forwarding service in TXB1 and TXB2: die, queue and tag of the completion (R373). -/
  service : SMap (Nat × Nat × Nat)
  /-- Firmware frames waiting for TXB0: identifier and data (R371). -/
  waiting : List (Nat × List Byte)
  deriving DecidableEq, Repr

/-- A CAN controller after reset. -/
def CanCtl.idle : CanCtl := ⟨[], none, 0, 0, [], []⟩

/-- An authority or session data frame that waits for the Authority engine (R480, R482): its transport (0 MSPI,
1 Partner link, 2 CAN-A, 3 to 6 Line ports), the source address of a Line port's frame, the bytes. -/
structure AuthFrame where
  source : Nat
  sender : Nat
  bytes : List Byte
  deriving DecidableEq, Repr

/-- The Authority engine (spec/15). -/
structure Auth where
  /-- Frames in order of arrival. -/
  inbox : List AuthFrame
  /-- Last accepted counter by slot (R484). -/
  counters : SMap Nat
  /-- Last accepted frame and its reply, by slot (R482). -/
  lastFrame : SMap (List Byte)
  lastReply : SMap (List Byte)
  /-- The outbound mailbox of MSPI (R481). -/
  mspiOut : List Byte
  /-- The transport and sender of the last frame relayed to the partner (R480). -/
  relayed : Option (Nat × Nat)
  deriving DecidableEq, Repr

/-! ### Stations and Line ports (spec/08) -/

/-- A frame received on a Line port: the port, the global time of its last bit, its bytes without the check sequence. -/
structure WireFrame where
  port : Nat
  stamp : Nat
  bytes : List Byte
  deriving DecidableEq, Repr

/-- An accepted input copy whose bindings are still to be written (R269). -/
structure Copy where
  port : Nat
  station : Nat
  stamp : Nat
  payload : List Byte
  slot : Nat
  deriving DecidableEq, Repr

/-- What the part holds of a station beside the STN page (R259 to R263). -/
structure Stn where
  /-- Reference SEQ and ALARM_SEQ are held. -/
  ref : Bool
  alarmRef : Bool
  /-- A copy has been accepted since the station started fresh, and since the last Cut. -/
  known : Bool
  got : Bool
  /-- Rings on which a counted copy arrived since the last Cut, path counts, lost paths (bit 0: A, bit 1: B). -/
  seen : Nat
  countA : Nat
  countB : Nat
  lost : Nat
  /-- Frame number of the declaration of the present dropout. -/
  since : Nat
  deriving DecidableEq, Repr

/-- The fresh state of a station (R259). -/
def Stn.fresh : Stn := ⟨false, false, false, false, 0, 0, 0, 0, 0⟩

/-- An OUTPUT frame in a transmit set: station, offset in K-LINE, bytes without the check sequence, rings (bit 0 A,
bit 1 B), OUT_LEN, and its start on the present port after the release instant in tenths of a nanosecond (R271). -/
structure TxFrame where
  station : Nat
  slot : Nat
  size : Nat
  rings : Nat
  len : Nat
  start : Nat
  deriving DecidableEq, Repr

/-- The gates of a Line port (R247, R248): the operating list, the entry in force and when it ends; a pending list and
the first instant at which it may apply; frames of classes 0 to 6 that wait, oldest first, each with whether
`TSN.GUARD` has counted it. -/
structure Gate where
  list : List (Nat × Nat)
  entry : Nat
  entryEnd : Nat
  next : Option (Nat × List (Nat × Nat))
  waiting : List (Nat × Bool × List Byte)
  /-- Global time at which the frame on the wire and its gap end. -/
  busyUntil : Nat
  deriving DecidableEq, Repr

/-- A Line port's gates after reset. -/
def Gate.idle : Gate := ⟨[], 0, 0, none, [], 0⟩

/-- A PTP port (R243): the last qualified Announce body and its time; a peer delay exchange under way (T1, sequence,
the responder's T2 and correction when they came, T4); the last two-step Sync; sequence numbers sent. -/
structure PtpPort where
  announce : Option (List Byte)
  announceAt : Nat
  reqAt : Nat
  reqSeq : Nat
  respAt : Nat
  respT2 : Nat
  respCorr : Int
  respOpen : Bool
  syncAt : Nat
  syncSeq : Nat
  syncCorr : Int
  syncOpen : Bool
  sentSync : Nat
  sentAnnounce : Nat
  deriving DecidableEq, Repr

/-- A PTP port after reset. -/
def PtpPort.idle : PtpPort := ⟨none, 0, 0, 0, 0, 0, 0, false, 0, 0, 0, false, 0, 0⟩

/-- A write to the STN and CAT pages held under R268; `owed`: its response is held with it (R50). -/
structure HeldTable where
  who : Nat
  code : Nat
  off : Nat
  word : Nat
  owed : Bool
  deriving DecidableEq, Repr

/-- The Exchange engine and the Line ports beside their pages. -/
structure Exch where
  /-- Slasel frames received and not yet checked, by time stamp, then port (R253). -/
  slasel : List WireFrame
  /-- PTP messages received and not yet handled. -/
  ptpIn : List WireFrame
  /-- Accepted copies whose bindings are not yet written. -/
  copies : List Copy
  stations : SMap Stn
  /-- OUTPUT frames built for the next release, and those still to start of the present one, by port. -/
  txBuilt : List TxFrame
  txPorts : SMap (List TxFrame)
  /-- Global time of the last release instant, the end of its window (R272), and whether a port archived an overspan
  since the last swap or configuration change. -/
  releaseAt : Nat
  releaseEnd : Nat
  overspanNoted : Nat
  /-- The last frame each port put on the wire, without its check sequence. -/
  lineOut : SMap (List Byte)
  gates : SMap Gate
  ptp : SMap PtpPort
  /-- Links that the board holds up, a bit per port (R280). -/
  phy : Nat
  /-- Correction of global time still to be slewed, in ns (R67). -/
  slew : Int
  /-- The check of the shadow tables has succeeded and the swap is due at the next tick (R268). -/
  swapDue : Bool
  heldTables : List HeldTable
  /-- Global time at which the last OUTPUT frame on a wire ends (R275). -/
  outUntil : Nat
  deriving DecidableEq, Repr

/-- The Exchange engine after reset. -/
def Exch.idle : Exch := ⟨[], [], [], [], [], [], 0, 0, 0, [], [], [], 0, 0, false, [], 0⟩

/-! ### Online change (spec/07) -/

/-- A section of a change or program image (R211). -/
structure Section where
  kind : Nat
  die : Nat
  target : Nat
  data : List Byte
  deriving DecidableEq, Repr

/-- A range of a footprint (R216); kinds as the section kinds 1 to 4. -/
structure FootRange where
  die : Nat
  kind : Nat
  first : Nat
  last : Nat
  deriving DecidableEq, Repr

/-- What the part saves at a switch (R233): the task words, the retained list words, the stored fields of the Station
Table and Catalogue, the footprint, the digest and the program record. -/
structure Saved where
  tasks : List (Nat × Nat × Nat)
  retained : List Nat
  tables : SMap Nat
  footprint : List FootRange
  running : List Byte
  record : List Byte
  deriving DecidableEq, Repr

/-- The change and the running program (R210 to R237). -/
structure Change where
  /-- STATE, CODE and PLACED of the status block, and its SEQ. -/
  state : Nat
  code : Nat
  placed : Nat
  seq : Nat
  identity : Nat
  /-- Repository address of the load; SHA-256 of the change image; header fields. -/
  loadAt : Nat
  digest : List Byte
  result : List Byte
  resultAt : Nat
  resultLen : Nat
  allowance : Nat
  sections : List Section
  switchFrame : Nat
  carryFaults : Nat
  carryNs : Nat
  /-- Pre-switch checks run for this identity and digest; for a revert. -/
  checking : Option (Nat × List Byte)
  reverting : Bool
  /-- Since the arming: points given; a Stop with a cause other than COMMAND; the go marker has arrived (R229, R235). -/
  points : Bool
  stopped : Bool
  go : Bool
  carryAt : Nat
  carryDone : Nat
  /-- Tasks whose words the carry start has changed: their pending triggers are discarded at Ts (R230). -/
  discard : List Nat
  saved : Option Saved
  /-- A retained record of the new list is due (R232). -/
  recordDue : Bool
  /-- Digest and footprint of the running program; ranges the running Executive declares. -/
  running : List Byte
  footprint : List FootRange
  execRanges : List FootRange
  deriving DecidableEq, Repr

/-- The change after reset. -/
def Change.none : Change :=
  { state := 0, code := 0, placed := 0, seq := 0, identity := 0, loadAt := 0, digest := [], result := [], resultAt := 0
    resultLen := 0, allowance := 0, sections := [], switchFrame := 0, carryFaults := 0, carryNs := 0
    checking := Option.none, reverting := false, points := false, stopped := false, go := false, carryAt := 0
    carryDone := 0, discard := [], saved := Option.none, recordDue := false, running := List.replicate 32 0, footprint := []
    execRanges := [] }

/-! ### Memory engines (spec/10) -/

/-- The DMA and March engines of a die beside its pages: the descriptor that a `MEM.DMA_GO` chain is at, if one runs;
the scrubber's bank in turn and its next word of each bank; whether a March test runs, whether it has found a fault,
aborts of the present Loan; rows and columns that tests have recorded since power-on reset (bank, sub-array, row,
column); the repair that runs (bank, sub-array, kind, index); repairs whose map could not be written; the mode of the
running test; whether a Loan of it is left. -/
structure MemEngine where
  dmaGo : Option Nat
  scrubBank : Nat
  scrubWord : SMap Nat
  testing : Bool
  faulty : Bool
  tries : Nat
  faults : List (Nat × Nat × Nat × Nat)
  repairing : Option (Nat × Nat × Nat × Nat)
  unsaved : List (Nat × Nat × Nat)
  testMode : Nat
  loanLeft : Bool
  deriving DecidableEq, Repr

/-- The engines after reset. -/
def MemEngine.idle : MemEngine := ⟨none, 0, [], false, false, 0, [], none, [], 0, false⟩

/-! ### Shunting (spec/09) -/

/-- A Shunting beside the SHUNT page (R289 to R292): the next region of the pass that runs; whether it is the first
pass; whether the final delta has ended; own-die ranges (first, end) that a HANDOVER of a rotation leaves out (R502); the
dies whose cores stand still till the next tick (six-bit mask); the OUT dies under the test of a DIE_RETURN (six-bit
mask). -/
structure Shunt where
  pos : Nat
  first : Bool
  delivered : Bool
  excluded : List (Nat × Nat)
  still : Nat
  returning : Nat
  /-- A Shunting was abandoned with code FAULT, TARGET_LOST or SOURCE_LOST since the last START (R319). -/
  fault : Bool
  deriving DecidableEq, Repr

/-- No Shunting. -/
def Shunt.idle : Shunt := ⟨0, false, false, [], 0, 0, false⟩

/-! ### Partner link (spec/09) -/

/-- A message of the Partner link (R298): TYPE, FLAGS, FRAME, MSEQ, payload. -/
structure PairMsg where
  type : Nat
  flags : Nat
  frame : Nat
  seq : Nat
  payload : List Byte
  deriving DecidableEq, Repr

/-- The sending side of the Partner link: the messages sent since the last tick, oldest first, and the next MSEQ. -/
structure LinkOut where
  sent : List PairMsg
  seq : Nat
  deriving DecidableEq, Repr

/-- A mirrored frame under receipt (R301 to R303): its number, whether every message so far was good and consecutive,
messages, the payloads joined, the side record, the DELTA payloads, and for a complete frame the CRC of the active part's
output image. -/
structure MirrorRx where
  frame : Nat
  good : Bool
  count : Nat
  data : List Byte
  side : List Byte
  deltas : List (List Byte)
  crc : Nat
  deriving DecidableEq, Repr

/-- The Partner link, the mirror, the Tablet's timers and the witness beside their pages. -/
structure Pair where
  /-- Both lanes are aligned; consecutive missing heartbeats; the heartbeat of the present frame has come or is missing. -/
  aligned : Bool
  missed : Nat
  heard : Bool
  /-- Global time of the last good heartbeat, of the link's last fall, of the partner's claim's last fall. -/
  goodAt : Nat
  silentAt : Nat
  clearAt : Nat
  /-- Payload of the last heartbeat since the link came up. -/
  beat : List Byte
  /-- MSEQ of the next message. -/
  rxSeq : Option Nat
  rx : Option MirrorRx
  done : Option MirrorRx
  /-- The mirrored frame that the standby executes in the present frame; frames since an incomplete one (R304). -/
  apply : Option MirrorRx
  broken : Option Nat
  /-- Last frame applied by the standby, last frame whose Mirror the active part has completed. -/
  applied : Nat
  mirrored : Nat
  /-- The Mirror of the present frame: whether it is open, its payloads joined, its messages. -/
  txOpen : Bool
  txData : List Byte
  txCount : Nat
  /-- The active part serves a bulk synchronisation: next region by die, dies still in their first pass, the tables sent,
  whether the final step runs and whether it has ended; names whose core state block the standby has received. -/
  bulk : Bool
  bulkPos : SMap Nat
  bulkFirst : Nat
  bulkTables : List Byte
  bulkFinal : Bool
  bulkDone : Bool
  bulkGot : Nat
  /-- A yield stands (R315); the frame after whose END, and the frame after whose release, a PAIR_SWITCH acts. -/
  yielding : Bool
  yieldAfter : Option Nat
  dropAfter : Option Nat
  /-- Decision instant of the takeover under way (R314). -/
  decidedAt : Nat
  /-- Global time of the entry to STARTING and of the last verdict; cycles of the Tablet's claim and back-off. -/
  startAt : Nat
  verdictAt : Nat
  claimAt : Nat
  backoffAt : Nat
  /-- Last counter accepted of a VERDICT; epoch and frames sent of the part's own witness frames (R309). -/
  verdictCtr : Option Nat
  epoch : Nat
  sentCount : Nat
  /-- The strap conflict of the partner's heartbeat has been archived. -/
  strapNoted : Bool
  /-- The side record of the present frame as it stood at the Cut (R301). -/
  txSide : List Byte
  /-- Frame of the final step of the bulk synchronisation received (R305). -/
  bulkFrame : Nat
  /-- Witness frames discarded for their tag or counter (R309; no register shows the count). -/
  witnessDrops : Nat
  deriving DecidableEq, Repr

/-- The pair after reset. -/
def Pair.idle : Pair :=
  { aligned := false, missed := 0, heard := false, goodAt := 0, silentAt := 0, clearAt := 0, beat := [], rxSeq := none
    rx := none, done := none, apply := none, broken := none, applied := 0, mirrored := 0, txOpen := false, txData := []
    txCount := 0, bulk := false, bulkPos := [], bulkFirst := 0, bulkTables := [], bulkFinal := false, bulkDone := false
    bulkGot := 0, yielding := false, yieldAfter := none, dropAfter := none, decidedAt := 0, startAt := 0, verdictAt := 0
    claimAt := 0, backoffAt := 0, verdictCtr := none, epoch := 0, sentCount := 0, strapNoted := false
    txSide := [], bulkFrame := 0, witnessDrops := 0 }

/-- A proxy write on its way to the Field die (R379): page, offset, applied word, instant; offset 0x00C stands for a soft
reset of the page. -/
structure ProxyWrite where
  page : Nat
  off : Nat
  word : Nat
  at' : Nat
  deriving DecidableEq, Repr

/-- The debounce run of a DI channel (R385): its level, its samples, the instant of the first. -/
structure DiRun where
  level : Bool
  count : Nat
  first : Nat
  deriving DecidableEq, Repr

/-- An accepted edge (R386). -/
structure DiEdge where
  channel : Nat
  level : Bool
  loss : Bool
  stamp : Nat
  deriving DecidableEq, Repr

/-- What an analogue output drives: nothing, or a code, whether it is a fault current, and the current after the trim in
units of 0.5 uA (R389, R390). -/
structure AoDrive where
  on : Bool
  code : Nat
  fault : Bool
  units : Nat
  deriving DecidableEq, Repr

/-- The Field die, and what the Keeper holds of it beside the proxy pages. -/
structure FieldIO where
  /-- The proxy has been reset since its last reconciliation, so that a pull is due (R380). -/
  pullDue : Bool
  /-- Proxy writes that wait for a control frame, and those sent and not yet confirmed, in order (R379). -/
  waiting : List ProxyWrite
  sent : List ProxyWrite
  /-- Global time of the last good status frame, and of the last MUTE. -/
  goodAt : Nat
  muteAt : Nat
  /-- Digital inputs: number of the last sample, runs by channel, channels that have a reference level, the merged queue,
  channels whose next stored edge carries LOSS, channels that lost an edge since the last Cut. -/
  sampleNo : Nat
  runs : SMap DiRun
  known : Nat
  edges : List DiEdge
  lossDue : Nat
  lostCut : Nat
  /-- `LAST_HI` before a read of `LAST_LO` latches it (R408): high bits of the stamp, level left, level entered. -/
  last : Nat × Nat × Nat
  /-- FSK FIFOs by channel (R391). -/
  fskTx : SMap (List Nat)
  fskRx : SMap (List Nat)
  /-- Trim steps in force by AO, channels whose step ends at the next release, Z and S before the trim (R399, R400). -/
  trim : SMap Nat
  trimEnds : Nat
  trimOld : Nat × Nat
  /-- Global time of the last press or start of a pin trim. -/
  pressAt : Nat
  /-- Coupler faults last reported: DO in bits 0 to 7, AO in bits 8 and 9. -/
  couplersSeen : Nat
  /-- The Field die's own configuration fields, by `FieldDef.key`. -/
  own : SMap Nat
  /-- Outputs armed; arming confirmed and due at the next release; disarmed by a silence expiry, so that the safe values
  stand (R395); such an expiry stands since the last arming (R409). -/
  armed : Bool
  armDue : Bool
  safeHeld : Bool
  safeExpired : Bool
  /-- Silence expired; control frames have come since; global time of the last one; expiries since power-up. -/
  silent : Bool
  flow : Bool
  lastControl : Nat
  silences : Nat
  /-- The last release: DO values, AO values, standby marker. -/
  relDo : Nat
  relAo : SMap AoDrive
  standby : Bool
  /-- What the outputs are driven to: DO before protection, AO. -/
  doOut : Nat
  ao : SMap AoDrive
  /-- Protection and diagnostics: trips since the last report, latched bits, couplers as above. -/
  trips : Nat
  shorts : Nat
  opens : Nat
  thermals : Nat
  loopFaults : Nat
  couplers : Nat
  /-- FV24: level (R397), lowest voltage since the last report, crossings to report (left, entered, stamp in us). -/
  level : Nat
  minMv : Nat
  crossings : List (Nat × Nat × Nat)
  deriving DecidableEq, Repr

/-- The Field die unpowered, and nothing known of it. -/
def FieldIO.idle : FieldIO :=
  { pullDue := true, waiting := [], sent := [], goodAt := 0, muteAt := 0, sampleNo := 0, runs := [], known := 0, edges := []
    lossDue := 0, lostCut := 0, last := (0, 0, 0), fskTx := [], fskRx := [], trim := [], trimEnds := 0, trimOld := (0, 0), pressAt := 0
    couplersSeen := 0, own := [], armed := false, armDue := false, safeHeld := false, safeExpired := false, silent := false
    flow := false, lastControl := 0, silences := 0, relDo := 0, relAo := [], standby := false, doOut := 0, ao := []
    trips := 0, shorts := 0, opens := 0, thermals := 0, loopFaults := 0, couplers := 0, level := 3, minMv := 65535
    crossings := [] }

/-- A record in the reading room (R433): offset, size, unused bytes before it, RSEQ, TIME. -/
structure RoomRecord where
  off : Nat
  size : Nat
  gap : Nat
  rseq : Nat
  time : Nat
  deriving DecidableEq, Repr

/-- The Archive, and the NVC window, beside their pages. -/
structure Archive where
  /-- Runs being assembled, by sender byte; an empty run is one whose rest is discarded (R429). -/
  runs : SMap (List QEntry)
  /-- Records of the reading room, oldest first; how many of them the running flush writes; another flush is due. -/
  room : List RoomRecord
  flushing : Nat
  again : Bool
  /-- Highest BSEQ given; bad blocks, founding shelf 0 to 63, rolling shelf 64 to 351; slot writes that failed in a row. -/
  bseq : Nat
  bad : List Nat
  slotFails : Nat
  /-- Cause of the failure, tallies changed since their snapshots (bit mask), a snapshot runs, no more admission (R433). -/
  cause : Nat
  changed : Nat
  snapping : Bool
  stopped : Bool
  /-- Global time of the last announcement, refill, periodic snapshot and page refresh. -/
  announcedAt : Nat
  refilledAt : Nat
  snappedAt : Nat
  refreshedAt : Nat
  /-- Window words queued for the Stacks: address and word (R414); page of the last refused word (R417). -/
  window : List (Nat × Nat)
  refusedPage : Option Nat
  deriving DecidableEq, Repr

/-- The Archive after power-on reset. -/
def Archive.idle : Archive :=
  { runs := [], room := [], flushing := 0, again := false, bseq := 0, bad := [], slotFails := 0, cause := 0, changed := 0
    snapping := false, stopped := false, announcedAt := 0, refilledAt := 0, snappedAt := 0, refreshedAt := 0, window := []
    refusedPage := none }

/-- The always-on domain beside its pages, and what power keeps. -/
structure Aon where
  /-- Global time of the last roll-over of `RTC.SUB`. -/
  secondAt : Int
  /-- A pending load: 1 LOAD, 2 SYNC, 3 TIME_SET, and the instant of the command (R447); global seconds of a TIME_SET. -/
  load : Option (Nat × Nat)
  setTo : Nat
  /-- Global time of the last periodic SYNC, of the crystal's failure. -/
  resyncAt : Nat
  xtalAt : Nat
  /-- The Guard: restart of its count and the timeout in force, in ns and ms; words 1 to 6 of the slip as latched at WARN. -/
  guardAt : Int
  guardMs : Nat
  guardSlip : List Nat
  /-- Cycle of the first key word of a disable sequence (R455). -/
  keyAt : Option Nat
  /-- Quiescent sleep; wake events that wait, as a mask by `PWR.WAKE.CAUSE` code (R465). -/
  asleep : Bool
  wakes : Nat
  /-- Hold-up: 0 none, 1 rows end, 2 the retained save runs after a tick, 3 run counters, 4 flush, 5 snapshot, 6 ended
  (R463); the instant of `POWER_FAIL_N` and its frame; the cycle in which the last row ended since; the torn mask; whether
  the loss of both references caused it. -/
  holdup : Nat
  failAt : Nat
  failFrame : Nat
  stillAt : Nat
  torn : Nat
  refsLost : Bool
  /-- Powered seconds, and seconds in the temperature bands of R533 (R463). -/
  seconds : Nat
  bands : List Nat
  /-- Power-on reset: its cause while it is held (R459); the self-test has ended; Keeper firmware has been started. -/
  held : Option Nat
  tested : Bool
  releasedAt : Nat
  deriving DecidableEq, Repr

/-- The always-on domain after its own reset. -/
def Aon.idle : Aon :=
  { secondAt := 0, load := none, setTo := 0, resyncAt := 0, xtalAt := 0, guardAt := 0, guardMs := 2000
    guardSlip := [0, 0, 0, 0, 0, 0], keyAt := none, asleep := false, wakes := 0, holdup := 0, failAt := 0, failFrame := 0, stillAt := 0
    torn := 0, refsLost := false, seconds := 0, bands := [0, 0, 0, 0, 0, 0], held := none, tested := false, releasedAt := 0 }

/-- The Update engine and Keeper firmware's share in updates, beside the UPD page (spec/15 R493 to R508). -/
structure Update where
  /-- The session: slot, LENGTH, DIGEST, source address on a Line port, global time of its opening or last data frame. -/
  slot : Nat
  length : Nat
  digest : List Byte
  sender : Nat
  dataAt : Nat
  /-- The armed activation: INSTANT, key slot and counter of its command, whether the partner's DONE is awaited; cause of
  the fallback it is, 0 for none; the own reply is still to be sent to the partner. -/
  goAt : Nat
  command : Nat × Nat
  waiting : Bool
  falling : Nat
  tell : Bool
  /-- Slot and counter of the partner's last DONE to an UPDATE_ACTIVATE; the identity the partner last reported. -/
  done : Option (Nat × Nat)
  partner : Option Nat
  /-- The outage: its tick, the firmware copy runs, no further fallback is left, the cycle of RESUME. -/
  outAt : Nat
  copying : Bool
  restored : Bool
  resumed : Option Nat
  /-- Scan dies whose Executive has given its health mark (six-bit mask). -/
  marks : Nat
  /-- The Executive rotation: 0 none, 1 a SPARE die is to be loaded, 2 the next die is to be shunted, 3 it is being
  shunted, 4 the vacated die is to be returned, 5 its test runs; the slot it loads; names left and moved; the die that runs
  the new Executive; the vacated die. -/
  stage : Nat
  toSlot : Nat
  left : List Nat
  moved : List Nat
  ready : Nat
  vacated : Nat
  deriving DecidableEq, Repr

/-- No update. -/
def Update.idle : Update :=
  { slot := 0, length := 0, digest := [], sender := 0, dataAt := 0, goAt := 0, command := (0, 0), waiting := false, falling := 0
    tell := false, done := none, partner := none, outAt := 0, copying := false, restored := false, resumed := none, marks := 0
    stage := 0, toSlot := 0, left := [], moved := [], ready := 0, vacated := 0 }

/-- The machine. -/
structure State where
  /-- Global time in ns (R8). -/
  time : Nat
  /-- 200 MHz cycles since power-on reset (R7, R24). -/
  cycle : Nat
  /-- The model's own: how many free values have been drawn. -/
  freeCtr : Nat
  /-- ECC errors standing in SRAM words, by physical address of the word: 1 single-bit, 2 double-bit (R339). -/
  ecc : SMap Nat
  /-- Register fields by `FieldDef.key`; an unlisted field holds its reset value. -/
  regs : SMap Nat
  /-- Bytes by physical address; an unlisted byte reads zero. -/
  mem : List Host.Cell
  /-- The arming in force of a page by die * 64 + code, and the masters that have written the first key word by `keyStep`
  (R56). -/
  arming : SMap Arming
  /-- Soft resets under way, by die * 64 + code (R53); the power-up of a Scan die stands at its SYS page, which takes no soft
  reset (R51, R54). -/
  softReset : SMap Nat
  /-- Last replies by master code. -/
  replies : SMap Reply
  /-- Queue rings by die * 16 + queue (R331). -/
  queues : SMap (List QEntry)
  /-- Entries and credits on their way (R332, R333). -/
  flights : List Flight
  creditsDue : List CreditDue
  /-- Requests that wait, oldest first (R50, R90). -/
  holding : List HeldReq
  /-- Word cores by die * 4 + index, their edge latches likewise (R165). -/
  cores : SMap Core
  latches : SMap Nat
  /-- sbcs.sberror of the debug module (R169). -/
  sberror : Nat
  /-- The present frame. -/
  frame : Frame
  /-- Slots by die * 8 + engine. -/
  slots : SMap Slot
  /-- Rows that have ended in the present frame, by die. -/
  rowsEnded : SMap (List Nat)
  /-- Rows that have started, and rows that have finished their work, in the present frame, by die (R203). -/
  rowsStarted : SMap (List Nat)
  rowsDone : SMap (List Nat)
  /-- The controller mode. -/
  prog : Prog
  /-- Tasks cut off in the present frame, 64-bit mask by die (R87). -/
  skipped : SMap Nat
  /-- Die flags gathered for word 33 of space S (R106), by die. -/
  dieFlags : SMap Nat
  /-- Cycle at which the check of a die's shadow bank succeeded, while its swap is pending. -/
  checkPassed : SMap Nat
  /-- Timers by die * 8192 + index, counters by die * 4096 + index (R129, R130). -/
  timers : SMap Timer
  counters : SMap Counter
  /-- Signal Boxes by die. -/
  sboxes : SMap Sbox
  /-- Staged low mask words by die (R120). -/
  maskStages : SMap MaskStage
  /-- Mask stores held to the end of the row, by die (R121); TIMR writes held likewise (R139). -/
  heldMasks : SMap (List HeldWrite)
  heldTimr : SMap (List HeldWrite)
  /-- Causes of pending error triggers, by task (R189). -/
  causes : SMap Causes
  /-- The part-wide points set. -/
  points : PartPoints
  /-- Which half of the Station Table and Catalogue is active (R268). -/
  catActive : Nat
  /-- A forced Stop stands since the last entry to Run (R100). -/
  forcedStop : Bool
  /-- Keeper firmware runs: from BOOT on, but for the outage of an activation and Quiescent sleep. -/
  firmware : Bool
  /-- CAN controllers by number. -/
  cans : SMap CanCtl
  /-- The Authority engine. -/
  auth : Auth
  /-- The Exchange engine and the Line ports. -/
  exch : Exch
  /-- The sending side of the Partner link. -/
  linkOut : LinkOut
  /-- The change and the running program. -/
  change : Change
  /-- DMA and March engines by die. -/
  engines : SMap MemEngine
  /-- Scan dies under dirty tracking, and their dirty regions by die * 4096 + region (R288). -/
  tracked : Nat
  dirty : SMap Nat
  /-- The Shunting. -/
  shunt : Shunt
  /-- The partner part. -/
  pair : Pair
  /-- A fallback stands since the last confirmation (R510). -/
  fellBack : Bool
  /-- A silence expiry with SAFE = 1 stands since the last arming (R409). -/
  silenceFault : Bool
  /-- Field pages with writes not yet confirmed (R64), by page code. -/
  fieldStale : Nat
  /-- The Field die. -/
  fld : FieldIO
  /-- The Archive. -/
  arch : Archive
  /-- The always-on domain, and power. -/
  aon : Aon
  /-- Firmware updates. -/
  upd : Update
  /-- Commands waiting, first in first out. -/
  pending : List Instr
  deriving DecidableEq, Repr

/-! ### Reset -/

/-- Fields whose value right after power-on is not the reset value that the register tables give: board inputs (rails,
references) within their limits, the source of the always-on rail, the cause of the reset, the calendar at the RTC's origin
(R444), and an empty rolling shelf (R435). -/
def resetFields : List (FieldDef × Nat) :=
  [(Reg.CLK_STAT_A_OK, 1), (Reg.CLK_STAT_B_OK, 1), (Reg.PWR_STAT_VDD_K, 1), (Reg.PWR_STAT_VDD_SER, 1),
   (Reg.PWR_STAT_VDD_IO, 1), (Reg.PWR_STAT_RAILS, 0x3F), (Reg.RST_CAUSE_CAUSE, 1), (Reg.AON_STAT_MAIN, 1),
   (Reg.RTC_CAL_DATE_YEAR, 2000), (Reg.RTC_CAL_DATE_MONTH, 1), (Reg.RTC_CAL_DATE_DAY, 1),
   (Reg.RTC_CAL_DATE_WEEKDAY, 5), (Reg.ARCH_ROLL_HEAD_BLOCK, 287), (Reg.ARCH_ROLL_HEAD_OFFSET, 4096)]

/-- The machine right after power-on reset, held till the conditions of R459 clear: every register at its reset value, the
Stacks and the other memory empty. -/
def State.reset : State :=
  { time := 0, cycle := 0, freeCtr := 0, ecc := []
    regs := resetFields.foldl (fun m e => SMap.insert m (e.1.key 0) e.2) []
    mem := [], arming := [], softReset := [], replies := [], queues := [], flights := [], creditsDue := [], holding := [], cores := []
    latches := [], sberror := 0
    frame := { tickTime := 0, tickCycle := 0, ticked := false, spreadDone := 0, ready := 0, overrun := 0, late := 0, lost := 0
               readyCycle := 0, cutCopy := false, gather := false, safeCopy := false, build := false, buildAt := 0
               built := false, releaseFrame := 0, fieldOut := [], fieldWords := (0, 0), sampled := false, status := 0, flag := 0 }
    slots := [], rowsEnded := [], rowsStarted := [], rowsDone := []
    prog := { accept := 0, kind := 0, prepEnd := none, askedPowerup := false, failed := false, fresh := false, first := false
              changed := false, frameMode := 0 }
    skipped := [], dieFlags := [], checkPassed := [], timers := [], counters := [], sboxes := [], maskStages := []
    heldMasks := [], heldTimr := [], causes := [], points := ⟨false, 0, 0⟩, catActive := 0, forcedStop := false
    firmware := false, cans := []
    auth := { inbox := [], counters := [], lastFrame := [], lastReply := [], mspiOut := [], relayed := none }
    exch := Exch.idle, linkOut := ⟨[], 0⟩, change := Change.none, engines := [], tracked := 0, dirty := []
    shunt := Shunt.idle, pair := Pair.idle, fellBack := false, silenceFault := false, fieldStale := 0, fld := FieldIO.idle
    arch := Archive.idle, aon := { Aon.idle with held := some 1 }, upd := Update.idle, pending := [] }

end Sys2Proof.Machine
end

