-- ==== Sys2Proof/Machine/Ops.lean ====
section
/-! DEFINITION.  The named operations over register fields, memory, queues and the Archive's ingress that
every command's meaning is written with. -/

namespace Sys2Proof.Machine

open Sys2Proof.Bits

/-- The one outcome of a command whose effect the spec gives. -/
abbrev Result := Host.Outcome State Fault Refusal

/-- The bytes from offset `o`, `n` of them. -/
def cut (bs : List Byte) (o n : Nat) : List Byte := (bs.drop o).take n

/-- The 16 bytes of an AES-256-CMAC tag (R479). -/
def cmacTag (key msg : List Byte) : List Byte := Crypto.cmac key msg

/-- The key that a wrapped key of the key store holds (R475): RFC 3394 undone under the device key, free where its check
fails. -/
def deviceUnwrap (wrapped : List Byte) : List Byte :=
  (Crypto.keyUnwrap Config.deviceKey wrapped).getD (Config.unwrapFailed wrapped)

/-- Byte `o` of a frame. -/
def byteAt (bs : List Byte) (o : Nat) : Nat := ((bs[o]?).getD 0).toNat

/-! ### Dirty regions (R288) -/

/-- The region of an own-die address of a Scan die (R288): 1,024 of C0 to C3, 512 of L, 256 of P, 192 of D, then the
bit store, packed by space (the order within the 64 is the model's own). -/
def memRegion (own : Nat) : Option Nat :=
  if own < 0x700000 then some (own / 4096)
  else if own < 0x7C0000 then some (1792 + (own - 0x700000) / 4096)
  else if own < 0x800000 then none
  else
    let base := match (own - 0x800000) / 0x20000 with
      | 0 => 0 | 1 => 8 | 2 => 16 | 3 => 48 | 4 => 56 | 5 => 57 | 6 => 59 | _ => 60
    some (1984 + base + (own - 0x800000) % 0x20000 / 4096)

/-- The region of a page field of a Scan die (R287, R288): Timetable rows, the mask table, and the RW and RWL fields of
TTBL, BUDGET, SBOX, TIMR, PLAT and the cores. -/
def fieldRegion (f : FieldDef) : Option Nat :=
  if f.acc ≠ .rw ∧ f.acc ≠ .rwl then none
  else if f.code = 0x0B ∧ 0x800 ≤ f.off then some 2046
  else if f.code = 0x0C ∧ f.win = .timer then some (2048 + f.wix / 256)
  else if f.code = 0x09 ∧ f.win = .ttblRow then some (2096 + min 3 (f.wix / 256))
  else if 0x09 ≤ f.code ∧ f.code ≤ 0x0D then some 2100
  else if 0x0E ≤ f.code ∧ f.code ≤ 0x11 then some 2101
  else none

namespace State

/-- The dirty regions with one more, when the die is tracked. -/
def markDirty (s : State) (die : Nat) : Option Nat → SMap Nat
  | none => s.dirty
  | some r => if 2 ≤ die ∧ s.tracked.testBit (die - 2) then SMap.insert s.dirty (die * 4096 + r) 1 else s.dirty

/-- The dirty regions after a write to the bytes from physical address `a`, `n` of them. -/
def markBytes (s : State) (a n : Nat) : SMap Nat :=
  if s.tracked = 0 ∨ n = 0 ∨ a < 0x10000000 ∨ 0x18000000 ≤ a then s.dirty
  else
    let die := (a - 0x10000000) / 0x1000000
    let first := a / 4096
    ((List.range ((a + n - 1) / 4096 + 1 - first)).foldl
      (fun (t : State) i => { t with dirty := t.markDirty die (memRegion ((first + i) * 4096 % 0x1000000)) }) s).dirty

/-- Dirty regions of a die. -/
def dirtyCount (s : State) (die : Nat) : Nat := (SMap.slice s.dirty (die * 4096) (die * 4096 + 4096)).length

/-! ### Register fields -/

/-- The value a field holds on a die. -/
def rd (s : State) (die : Nat) (f : FieldDef) : Nat := SMap.get (f.resetAt die) s.regs (f.key die)

/-- Stores a value, cut to the field's width. -/
def wr (s : State) (die : Nat) (f : FieldDef) (v : Nat) : State :=
  { s with regs := SMap.put (f.resetAt die) s.regs (f.key die) (v % 2 ^ f.width)
           dirty := if s.tracked = 0 then s.dirty else s.markDirty die (fieldRegion f) }

/-- A one-bit field as a Boolean. -/
def on (s : State) (die : Nat) (f : FieldDef) : Bool := s.rd die f == 1

/-- Writes a one-bit field. -/
def wrB (s : State) (die : Nat) (f : FieldDef) (b : Bool) : State := s.wr die f (ofBool b)

/-- A saturating counter goes up by `n`. -/
def add (s : State) (die : Nat) (f : FieldDef) (n : Nat) : State :=
  s.wr die f (satAdd f.width (s.rd die f) n)

/-- A saturating counter goes up by one. -/
def inc (s : State) (die : Nat) (f : FieldDef) : State := s.add die f 1

/-- A counter that wraps goes up by one. -/
def incWrap (s : State) (die : Nat) (f : FieldDef) : State := s.wr die f (s.rd die f + 1)

/-- Keeps the larger of the field's value and `v`. -/
def wrMax (s : State) (die : Nat) (f : FieldDef) (v : Nat) : State := s.wr die f (max (s.rd die f) v)

/-- Keeps the smaller of the field's value and `v`. -/
def wrMin (s : State) (die : Nat) (f : FieldDef) (v : Nat) : State := s.wr die f (min (s.rd die f) v)

/-- Sets the bits of `m` in a field. -/
def setBits (s : State) (die : Nat) (f : FieldDef) (m : Nat) : State := s.wr die f (s.rd die f ||| m)

/-- Clears the bits of `m` in a field. -/
def clearBits (s : State) (die : Nat) (f : FieldDef) (m : Nat) : State :=
  s.wr die f (minus f.width (s.rd die f) m)

/-- Stores the low and the high word of `v` into two fields. -/
def wr2 (s : State) (die : Nat) (lo hi : FieldDef) (v : Nat) : State :=
  (s.wr die lo (v % 2 ^ 32)).wr die hi (v / 2 ^ 32)

/-- The number two fields hold together. -/
def rd2 (s : State) (die : Nat) (lo hi : FieldDef) : Nat := s.rd die lo + s.rd die hi * 2 ^ 32

/-- The entries of a table for which a windowed field holds a value other than its reset value 0, rising. -/
def listed (s : State) (die : Nat) (f : FieldDef) : List Nat :=
  s.regs.filterMap fun e => if e.1 % 2 ^ 26 = (f.w 0).key die then some (e.1 / 2 ^ 26) else none

/-- Returns a field to its reset value (R10, RC). -/
def resetField (s : State) (die : Nat) (f : FieldDef) : State := s.wr die f (f.resetAt die)

end State

/-! ### The page header (R51) -/

/-- A header field of page `code`. -/
def hdr (code off lsb width : Nat) (acc : Acc) (reset : Nat := 0) : FieldDef :=
  { on := 7, code := code, off := off, lsb := lsb, width := width, acc := acc, reset := reset }

/-- `PCTL.EN` of a page. -/
def PCTL_EN (code : Nat) : FieldDef := hdr code 0x00C 0 1 .rw 1
/-- `PCTL.SRST` of a page. -/
def PCTL_SRST (code : Nat) : FieldDef := hdr code 0x00C 1 1 .wo
/-- `CLAMPS.COUNT` of a page. -/
def CLAMPS_COUNT (code : Nat) : FieldDef := hdr code 0x010 0 16 .ro
/-- `KEYSEQ.KEY` of a page. -/
def KEYSEQ_KEY (code : Nat) : FieldDef := hdr code 0x014 0 16 .wo
/-- `LOCKS.GROUP` of a page. -/
def LOCKS_GROUP (code : Nat) : FieldDef := hdr code 0x018 0 8 .w1s
/-- The latched part of `IRQ_RAW.SRC` of a page; level sources are added on reads (`irqRaw`). -/
def IRQ_RAW_SRC (code : Nat) : FieldDef := hdr code 0x020 0 32 .ro
/-- `IRQ_EN.SRC` of a page. -/
def IRQ_EN_SRC (code : Nat) : FieldDef := hdr code 0x024 0 32 .rw

namespace State

/-- Sets `PCTL.EN` aside: the block of a page is enabled. -/
def enabled (s : State) (die code : Nat) : Bool := s.on die (PCTL_EN code)

/-- An interrupt source of a page is raised (R52). -/
def irq (s : State) (die code n : Nat) : State := s.setBits die (IRQ_RAW_SRC code) (1 <<< n)

/-! ### Memory -/

/-- One byte at a physical address. -/
def loadByte (s : State) (a : Nat) : Byte := SMap.get 0 s.mem a

/-- Stores one byte; the word it lies in takes fresh check bits (R340). -/
def storeByte (s : State) (a : Nat) (b : Byte) : State :=
  { s with mem := SMap.put 0 s.mem a b, ecc := SMap.erase s.ecc (a / 8 * 8), dirty := s.markBytes a 1 }

/-- The ECC state of the word at a physical address: 0 clean, 1 single, 2 double (R339). -/
def eccAt (s : State) (a : Nat) : Nat := SMap.get 0 s.ecc (a / 8 * 8)

/-- `n` bytes from a physical address up. -/
def loadBytes (s : State) (a : Nat) : Nat → List Byte
  | 0 => []
  | n + 1 => s.loadByte a :: s.loadBytes (a + 1) n

/-- Stores bytes from a physical address up. -/
def storeBytes (s : State) (a : Nat) : List Byte → State
  | [] => s
  | b :: bs => (s.storeByte a b).storeBytes (a + 1) bs

/-- The little-endian number of `n` bytes (R9). -/
def load (s : State) (a n : Nat) : Nat := ofLE (s.loadBytes a n)

/-- Stores the low `n` bytes of `v`, least significant first (R9). -/
def store (s : State) (a n v : Nat) : State := s.storeBytes a (toLE n v)

/-- Copies `n` bytes. -/
def copyMem (s : State) (src dst n : Nat) : State :=
  { s with mem := SMap.copy s.mem src dst n, ecc := SMap.clear s.ecc dst n, dirty := s.markBytes dst n }

/-- Zeroes `n` bytes. -/
def clearMem (s : State) (a n : Nat) : State :=
  { s with mem := SMap.clear s.mem a n, ecc := SMap.clear s.ecc a n, dirty := s.markBytes a n }

/-- Stores a number without a dirty mark: the Spread to space S and to the analogue snapshot (R288); words 33 to 35 of space
S, which the die writes at its tick (R106), do mark. -/
def storeQuiet (s : State) (a n v : Nat) : State := { s.store a n v with dirty := s.dirty }

/-- The clock moves to a cycle, 5 ns each (R7); it never moves back. -/
def advanceTo (s : State) (c : Nat) : State :=
  { s with cycle := max s.cycle c, time := s.time + 5 * (c - s.cycle) }

/-- Global time is stepped; what counts the crystal's cycles, and what waits for a time to pass, counts on (R67, R445,
R450). -/
def stepTime (s : State) (t : Nat) : State :=
  let shift (x : Nat) : Nat := x + t - s.time
  { s with
    time := t
    aon := { s.aon with
      secondAt := s.aon.secondAt + t - s.time, guardAt := s.aon.guardAt + t - s.time, resyncAt := shift s.aon.resyncAt }
    arch := { s.arch with
      announcedAt := shift s.arch.announcedAt, refilledAt := shift s.arch.refilledAt, snappedAt := shift s.arch.snappedAt
      refreshedAt := shift s.arch.refreshedAt }
    fld := { s.fld with
      goodAt := shift s.fld.goodAt, muteAt := shift s.fld.muteAt, pressAt := shift s.fld.pressAt
      lastControl := shift s.fld.lastControl, sampleNo := 0 }
    pair := { s.pair with
      goodAt := shift s.pair.goodAt, silentAt := shift s.pair.silentAt, clearAt := shift s.pair.clearAt
      startAt := shift s.pair.startAt, verdictAt := shift s.pair.verdictAt }
    upd := { s.upd with dataAt := shift s.upd.dataAt }
    exch := { s.exch with gates := s.exch.gates.map fun e => (e.1, { e.2 with busyUntil := shift e.2.busyUntil }) } }

/-- The clock moves to a global time. -/
def advanceTime (s : State) (t : Nat) : State := s.advanceTo (s.cycle + (t - s.time + 4) / 5)

end State

/-- The physical address of an own-die address (R45: the remote window of the die). -/
def phys (die a : Nat) : Nat := 0x10000000 + die * 0x1000000 + a

/-- Keeper banks by own-die address (R46). -/
def K_CORE : Nat := phys 0 0x000000
/-- K-IMAGE. -/
def K_IMAGE : Nat := phys 0 0x100000
/-- K-LINE. -/
def K_LINE : Nat := phys 0 0x200000
/-- K-DEPOT. -/
def K_DEPOT : Nat := phys 0 0x300000
/-- The Stacks (R45). -/
def STACKS : Nat := 0x20000000
/-- Scan-die bank Cn. -/
def bankC (die n : Nat) : Nat := phys die (n * 0x100000)
/-- Scan-die bank L. -/
def bankL (die : Nat) : Nat := phys die 0x400000
/-- Scan-die bank P. -/
def bankP (die : Nat) : Nat := phys die 0x600000
/-- Scan-die bank D. -/
def bankD (die : Nat) : Nat := phys die 0x700000

/-- The Scan dies. -/
def scanDies : List Nat := [2, 3, 4, 5, 6, 7]

/-- Whether `d` is a Scan die. -/
def isScan (d : Nat) : Bool := decide (2 ≤ d) && decide (d ≤ 7)

/-- The bit of a Scan die in a six-bit die mask. -/
def dieBit (d : Nat) : Nat := 1 <<< (d - 2)

/-- Whether a six-bit die mask names die `d`. -/
def inDies (mask d : Nat) : Bool := isScan d && bit mask (d - 2)

/-- The die of a master code. -/
def whoDie (c : Nat) : Nat := c / 32 % 8

/-- The index of a master code. -/
def whoIx (c : Nat) : Nat := c % 32

/-- Whether an access is of the Junction class for its master (R148): its own memories are not. -/
def viaJunction (a : Nat) : Bool := !decide (a < 0x1000000)

/-- The bus address of a register (R45). -/
def regAddr (die code off : Nat) : Nat := 0xF0000000 + die * 0x100000 + code * 0x1000 + off

namespace State

/-- The reply that ends a request of a master. -/
def reply (s : State) (who data : Nat) (fault : Bool) : State :=
  { s with replies := SMap.insert s.replies who ⟨data, fault⟩ }

/-! ### Queues -/

/-- The ring of queue `q` of a die. -/
def ring (s : State) (die q : Nat) : List QEntry := SMap.get [] s.queues (die * 16 + q)

/-- Replaces a ring. -/
def setRing (s : State) (die q : Nat) (l : List QEntry) : State :=
  { s with queues := SMap.put [] s.queues (die * 16 + q) l }

/-- The own-die address of slot `k` of the ring of queue `q` (R330). -/
def ringOwn (die q k : Nat) : Nat := if die = 0 then 0x348000 + 0x1000 * q + 8 * k else 0x700000 + 0x2000 * q + 8 * k

/-- Depth of a queue: 16 × 2^DEPTH (R353). -/
def qDepth (s : State) (die q : Nat) : Nat := 16 * 2 ^ s.rd die (Reg.QUE_Qq_CFG_DEPTH.i q)

/-- Whether a queue is enabled. -/
def qEnabled (s : State) (die q : Nat) : Bool := s.on die (Reg.QUE_Qq_CFG_EN.i q)

/-- The slot that the next entry of a queue takes: the one behind the last entry (log entry 9). -/
def nextSlot (s : State) (die q : Nat) : Nat :=
  match (s.ring die q).getLast? with
  | some e => (e.slot + 1) % s.qDepth die q
  | none => 0

/-- The dirty regions after a write to a slot of a ring (R288). -/
def markSlot (s : State) (die q k : Nat) : SMap Nat :=
  if s.tracked = 0 then s.dirty else s.markDirty die (memRegion (ringOwn die q k))

/-- An entry enters its ring (R330, R333). -/
def enterRing (s : State) (die q lo hi : Nat) : State :=
  { s.setRing die q (s.ring die q ++ [⟨lo, hi, s.time, s.nextSlot die q⟩]) with dirty := s.markSlot die q (s.nextSlot die q) }

/-- Credits the port of `src` holds toward queue `q` of `dst` (R331). -/
def credits (s : State) (src dst q : Nat) : Nat := s.rd src (Reg.QUE_CREDIT_COUNT.w (dst * 16 + q))

/-- Sets a credit count. -/
def setCredits (s : State) (src dst q n : Nat) : State := s.wr src (Reg.QUE_CREDIT_COUNT.w (dst * 16 + q)) n

/-! ### Free values -/

/-- The number of the next free value, and the state after drawing it. -/
def drawFree (s : State) : Nat × State := (s.freeCtr, { s with freeCtr := s.freeCtr + 1 })

/-! ### Slots, timers and counters -/

/-- The slot of an engine. -/
def slot? (s : State) (die e : Nat) : Option Slot := SMap.find? s.slots (die * 8 + e)

/-- Replaces a slot. -/
def setSlot (s : State) (die e : Nat) (x : Slot) : State := { s with slots := SMap.insert s.slots (die * 8 + e) x }

/-- Whether a row runs on an engine. -/
def rowRunning (s : State) (die e : Nat) : Bool := ((s.slot? die e).map Slot.running).getD false

/-- Whether an engine works for a running row. -/
def working (s : State) (die e : Nat) : Bool := ((s.slot? die e).map fun x => x.running && !x.idle).getD false

/-- Cycles left in the budget counter of an engine (R84, R102).  After a row that ended early with its work done the rule is
silent; it reads 0 (DESIGN CHOICE, log entry 38). -/
def budgetLeft (s : State) (die e : Nat) : Nat :=
  match s.slot? die e with
  | some x => if x.running then x.length - max x.used (s.cycle - x.start) else 0
  | none => 0

/-- A timer of a die. -/
def timer (s : State) (die i : Nat) : Timer := SMap.get Timer.idle s.timers (die * 8192 + i)

/-- A counter of a die. -/
def counter (s : State) (die i : Nat) : Counter := SMap.get Counter.idle s.counters (die * 4096 + i)

/-- Replaces a timer. -/
def setTimer (s : State) (die i : Nat) (t : Timer) : State :=
  { s with timers := SMap.put Timer.idle s.timers (die * 8192 + i) t
           dirty := if s.tracked = 0 then s.dirty else s.markDirty die (some (2048 + i / 256)) }

/-- Replaces a counter. -/
def setCounter (s : State) (die i : Nat) (c : Counter) : State :=
  { s with counters := SMap.put Counter.idle s.counters (die * 4096 + i) c
           dirty := if s.tracked = 0 then s.dirty else s.markDirty die (some (2080 + i / 256)) }

end State

/-! ### The Archive's ingress (R429 to R431) -/

/-- The payload entries of a record run: low word and tag, the last with LAST. -/
def payloadEntries : List Nat → List (Nat × Nat)
  | [] => []
  | [w] => [(w, 0x8000 + 0x2000)]
  | w :: ws => (w, 0x8000) :: payloadEntries ws

/-- The entries of a record run: CODE and LEN with FIRST, then the payload words. -/
def recordEntries (code : Nat) (payload : List Nat) : List (Nat × Nat) :=
  (code + (4 * payload.length) * 65536, if payload.length = 0 then 0xE000 else 0xC000)
    :: payloadEntries payload

/-- Severities of records (R431). -/
inductive Severity where
  | info | warning | fault | alarm
  deriving DecidableEq, Repr

/-- The two-bit code of a severity. -/
def Severity.code : Severity → Nat
  | .info => 0 | .warning => 1 | .fault => 2 | .alarm => 3

/-- CODE of one of the part's own records (R431). -/
def ownCode (sev : Severity) (page event : Nat) : Nat := sev.code * 8192 + page * 128 + event

/-- The sender byte under which the part's own records enter Q12. -/
def archiveSender : Nat := 5

namespace State

/-- The part posts a record of its own: its run goes to Keeper queue Q12 when Q12 is enabled and the port
holds credits for the whole run; otherwise the record is dropped and counted (R429, R435). -/
def archive (s : State) (page event : Nat) (sev : Severity) (payload : List Nat) : State :=
  let run := recordEntries (ownCode sev page event) payload
  if s.qEnabled 0 12 && decide (run.length ≤ s.credits 0 0 12) then
    run.foldl (fun s e => s.enterRing 0 12 e.1 (archiveSender * 2 ^ 24 + 2 ^ 23 + e.2))
      (s.setCredits 0 0 12 (s.credits 0 0 12 - run.length))
  else (s.inc 0 Reg.ARCH_DROPS_COUNT).irq 0 0x11 1

/-- The global time as the two payload words of a record. -/
def timeWords (s : State) : List Nat := [s.time % 2 ^ 32, s.time / 2 ^ 32]

end State

end Sys2Proof.Machine
end

