-- ==== Sys2Proof/Machine/Ranges.lean ====
section
/-! DEFINITION.  The legal values of a field and the clamp (R12, R59): the static Range of the table row, the
"present value in Run and Hold" rows, and the Ranges that depend on other state. -/

namespace Sys2Proof.Machine

open Sys2Proof.Bits

/-- A run of legal values: lowest, highest, step. -/
abbrev Seg := Int × Int × Int

/-- What a field may hold: runs of values, or per-element bounds of a packed field (lowest element first). -/
inductive Legal where
  | segs (l : List Seg)
  | elems (bits : Nat) (bounds : List (Nat × Nat))
  deriving DecidableEq, Repr

/-- The values of a run that can be nearest to `x`. -/
def segCandidates (x : Int) (g : Seg) : List Int :=
  let (lo, hi, st) := g
  if x ≤ lo then [lo]
  else if hi ≤ x then [lo + (hi - lo) / st * st]
  else
    let d := lo + (x - lo) / st * st
    if d + st ≤ hi then [d, d + st] else [d]

/-- The better of two candidates: the nearer, and of two equally near the lower (R59). -/
def nearer (x a b : Int) : Int :=
  let da := (a - x).natAbs
  let db := (b - x).natAbs
  if da < db then a else if db < da then b else min a b

/-- The nearest legal value (R59). -/
def nearest (l : List Seg) (x : Int) : Int :=
  match l.flatMap (segCandidates x) with
  | [] => x
  | c :: cs => cs.foldl (nearer x) c

/-- Each element of a packed field brought into its own bounds. -/
def clampElems (bits : Nat) : List (Nat × Nat) → Nat → Nat
  | [], _ => 0
  | (lo, hi) :: rest, x => min hi (max lo (x % 2 ^ bits)) + 2 ^ bits * clampElems bits rest (x / 2 ^ bits)

/-- The clamp of a written value to the legal ones. -/
def clampTo (l : Legal) (sgn : Bool) (width v : Nat) : Nat :=
  match l with
  | .segs gs => if sgn then ofInt width (nearest gs (toInt width v)) else (nearest gs (v : Int)).toNat
  | .elems bits bs => clampElems bits bs v

/-- One value only. -/
def only (v : Int) : List Seg := [(v, v, 1)]

/-- From `lo` to `hi`. -/
def upto (lo hi : Int) : List Seg := [(lo, hi, 1)]

namespace State

/-- Role of a Scan die (R17): 0 LIVE, 1 SPARE, 2 OUT, 3 RETIRED. -/
def role (s : State) (d : Nat) : Nat := field (s.rd 0 Reg.PART_ROLES_ROLES) (2 * (d - 2)) 2

/-- Whether a die is LIVE. -/
def live (s : State) (d : Nat) : Bool := isScan d && s.role d == 0

/-- The LIVE dies as a mask. -/
def liveMask (s : State) : Nat := maskOf ((scanDies.filter s.live).map (· - 2))

/-- Controller mode (R190): 0 Stop, 1 Run, 2 Hold, 3 Step. -/
def mode (s : State) : Nat := s.rd 0 Reg.MODE_STAT_MODE

/-- Run, Hold or a Step frame, as R535 reads "Run and Hold". -/
def inRunHold (s : State) : Bool := s.mode != 0

/-- A Scan die's port is fenced (R329). -/
def fenced (s : State) (d : Nat) : Bool := inDies (s.rd 0 Reg.FAB_STAT_FENCED) d

/-- A Scan die is powered: its rail is present and its header switches are closed. -/
def powered (s : State) (d : Nat) : Bool := inDies (s.rd 0 Reg.PWR_STAT_ON) d

/-- The Timetable row fields of a die's active bank: `row` of bank `STAT.ACTIVE`. -/
def rowField (s : State) (die bank row : Nat) (f : FieldDef) : Nat := s.rd die (f.w (bank * 512 + row))

/-- Active Timetable bank. -/
def activeBank (s : State) (die : Nat) : Nat := s.rd die Reg.TTBL_STAT_ACTIVE

/-- Whether a task has a valid row in an active bank (R207). -/
def taskHasRow (s : State) (t : Nat) : Bool :=
  scanDies.any fun d => (s.listed d Reg.TTBL_ROW_W3_VALID).any fun k =>
    k / 512 == s.activeBank d && s.rd d (Reg.TTBL_ROW_W1_TASK.w k) == t

end State

/-- A block is not ready (R51): a soft reset of its page is under way (R53), or its Scan die powers up, which stands at the SYS
page of the die (log entry 29). -/
def State.notReady (s : State) (die code : Nat) : Bool :=
  (SMap.find? s.softReset (die * 64 + code)).isSome || (isScan die && (SMap.find? s.softReset (die * 64)).isSome)

/-- Populated words of a bit-store space (R103). -/
def spaceWords (sp : Nat) : Nat :=
  match sp with
  | 0 | 1 | 3 => 4096
  | 2 => 16384
  | 4 => 512
  | 5 | 7 => 1024
  | 6 => 256
  | _ => 0

/-- 64-bit words of a bank (R46, R336). -/
def bankWords (die bank : Nat) : Nat :=
  if die = 0 then 131072 else match bank with | 4 => 262144 | 7 => 32768 | _ => 131072

/-- The window a staged table word is kept in until its entry is stored (R101, R257, R264). -/
def staged : Nat := 2 ^ 20

/-- The Range of R79 for `FWATCH.COMMIT_AT`, in µs. -/
def commitAtMax (s : State) : Int :=
  let p := s.rd 0 Reg.TICK_PERIOD_US
  ((p * 5000 - 80 * 5000 - p : Int)) / 5000

/-- Gross size of a retained record (R200). -/
def State.retSize (s : State) : Nat :=
  let n := s.rd 0 Reg.IMG_RET_CFG_ENTRIES
  (List.range n).foldl (fun a i =>
    let len := s.rd 0 (Reg.IMG_RETi_W1_LENGTH.i i)
    a + match s.rd 0 (Reg.IMG_RETi_W0_KIND.i i) with
      | 1 => len
      | 2 => 8 * len
      | 3 => 280 * len
      | _ => 0) (64 + 16 * n)

/-- The Range of the fields whose row in the register tables depends on other state; `below`: what the same write has applied
to the lower fields of the register (R59). -/
def dynRange (s : State) (die : Nat) (f : FieldDef) (below : Nat) : Legal :=
  let present : Legal := .segs (only (if f.sgn then toInt f.width (s.rd die f) else (s.rd die f : Int)))
  let base : Legal := .segs f.segs
  let full : Legal := .segs (upto 0 (2 ^ f.width - 1))
  let can := f.code - 0x21
  match f.dyn with
  | .static => if f.segs = [] then full else base
  | .TICK_RELEASE_AT_US => .segs (upto 0 (s.rd 0 Reg.TICK_PERIOD_US / 2 : Nat))
  | .FWATCH_SPREAD_BY_US => .segs (upto 5 ((s.rd 0 Reg.FWATCH_COMMIT_AT_US : Int) - 1))
  | .FWATCH_COMMIT_AT_US => .segs (upto (s.rd 0 Reg.FWATCH_SPREAD_BY_US + 1 : Nat) (commitAtMax s))
  | .TTBL_ROW_W0_START => .segs (upto 0 ((s.rd 0 Reg.TICK_PERIOD_US * 200 : Nat) - 1))
  | .TIMR_SEL_INDEX => .segs (upto 0 (if s.rd die Reg.TIMR_SEL_KIND = 0 then 8191 else 4095))
  | .TIMR_CFG_TYPE => .segs (upto 0 (if s.rd die Reg.TIMR_SEL_KIND = 0 then 2 else 0))
  | .TIMR_PRESET_VALUE =>
    .segs (if s.rd die Reg.TIMR_SEL_KIND = 0 then upto 0 0x7FFFFFFF else upto (-0x80000000) 0x7FFFFFFF)
  | .TIMR_SETs_LAST => .segs (upto (s.rd die { Reg.TIMR_SETs_FIRST with off := f.off } : Nat) 127)
  | .TIMR_SETs_WORD =>
    let first := s.rd die { Reg.TIMR_SETs_FIRST with off := f.off }
    let last := s.rd die { Reg.TIMR_SETs_LAST with off := f.off }
    let sp := s.rd die { Reg.TIMR_SETs_SPACE with off := f.off }
    .segs (upto 0 ((spaceWords sp : Int) - ((last : Int) - first + 1)))
  | .COREn_CTL_HOLD => if s.live die then present else full
  | .COREn_BOOT_ADDR =>
    let b : Int := 0x100000 * ((f.code : Int) - 0x0E)
    .segs [(b, b + 0xFFFFC, 4)]
  | .COREn_CUTVEC_ADDR =>
    let b : Int := 0x100000 * ((f.code : Int) - 0x0E)
    .segs [(0, 0, 1), (b, b + 0xFFFFC, 4)]
  | .TASK_CFG_TYPE | .TASK_CFG_PRIO | .TASK_CFG_PERIOD | .TASK_CFG_DIES | .TASK_TRIG_KIND | .TASK_ERR_CAUSES =>
    if s.inRunHold && s.taskHasRow f.wix then present else if f.segs = [] then full else base
  | .TASK_TRIG_SRC =>
    if s.inRunHold && s.taskHasRow f.wix then present
    else match s.rd die (Reg.TASK_TRIG_KIND.w f.wix) with
      | 1 => .segs (upto 0 15)
      | 2 => .segs (upto 0 1023)
      | 3 => .segs (upto 0 63)
      | 4 => .segs ((List.range 6).map fun d => (((d + 2) * 16 + 2 : Nat), ((d + 2) * 16 + 15 : Nat), 1))
      | _ => .segs (only 0)
  | .TASK_TRIG_EDGE =>
    if s.inRunHold && s.taskHasRow f.wix then present
    else .segs (upto 0 (if s.rd die (Reg.TASK_TRIG_KIND.w f.wix) = 1 then 2 else 0))
  | .IMG_RET_CFG_PF_GRACE =>
    if s.inRunHold then present
    else .segs (upto 0 ((990 * 8000 - (s.retSize : Int) * 25) / 8000))
  | .IMG_RETi_W0_START =>
    if s.inRunHold then present
    else match s.rd die { Reg.IMG_RETi_W0_KIND with off := f.off } with
      | 1 => .segs [(0, 0x3FFF8, 8)]
      | 2 => .segs (upto 0 16383)
      | 3 => .segs (upto 0 63)
      | _ => .segs (only 0)
  | .IMG_RETi_W1_LENGTH =>
    if s.inRunHold then present
    else
      let start : Int := s.rd die { Reg.IMG_RETi_W0_START with off := f.off - 4 }
      match s.rd die { Reg.IMG_RETi_W0_KIND with off := f.off - 4 } with
      | 1 => .segs [(8, 0x40000 - start, 8)]
      | 2 => .segs (upto 1 (16384 - start))
      | 3 => .segs (upto 1 (64 - start))
      | _ => .segs (only 0)
  | .XSPI_ADDR_ADDR => .segs (upto 0 (2 ^ s.rd 0 Reg.XSPI_CFG_SIZE - 1))
  | .XSPI_LEN_BYTES => .segs (upto 1 (if s.on 0 Reg.XSPI_XCMD_DMA then 16777216 else 256))
  | .XSPI_XCMD_DMA => .segs (upto 0 (if s.on 0 Reg.XSPI_XCMD_DIR then 0 else 1))
  | .XSPI_XCMD_GO => .segs (upto 0 (if s.on 0 Reg.XSPI_STAT_BUSY then 0 else 1))
  | .STN_CFG_ETYPE => base
  | .STN_GROUP_HI_ADDR => .segs ((List.range 128).map fun k => ((k * 512 + 256 : Nat), (k * 512 + 511 : Nat), 1))
  | .LINEn_MAC_HI_ADDR => .segs ((List.range 128).map fun k => ((k * 512 : Nat), (k * 512 + 255 : Nat), 1))
  | .STN_ENT_W0_KIND =>
    if s.rd die Reg.STN_SEL_STATION = 1023 then .segs (only 1) else .segs [(0, 0, 1), (2, 2, 1)]
  | .STN_ENT_W0_DROP => .segs (upto 1 (if s.rd die (Reg.STN_ENT_W0_KIND.w staged) = 1 then 1 else 15))
  | .STN_ENT_W0_RING_A | .STN_ENT_W0_RING_B =>
    .segs (upto 0 (if s.rd die (Reg.STN_ENT_W0_KIND.w staged) = 0 then 1 else 0))
  | .STN_ENT_W0_MAC_HI => .segs ((List.range 128).map fun k => ((k * 512 : Nat), (k * 512 + 255 : Nat), 1))
  | .STN_ENT_W2_IN_LEN =>
    if s.rd die (Reg.STN_ENT_W0_KIND.w staged) = 1 then .segs (only 16) else base
  | .STN_ENT_W2_OUT_LEN =>
    match s.rd die (Reg.STN_ENT_W0_KIND.w staged) with
    | 1 => .segs (only 16)
    | 2 => .segs (only (s.rd die (Reg.STN_ENT_W2_IN_LEN.w staged)))
    | _ => base
  | .STN_ENT_W3_CAT_COUNT => .segs (upto 0 (24576 - (s.rd die (Reg.STN_ENT_W3_CAT_FIRST.w staged) : Int)))
  | .CAT_ENT_W0_FORMAT => .segs (upto 0 (if s.on die (Reg.CAT_ENT_W0_KIND.w staged) then 2 else 0))
  | .CAT_ENT_W0_POLICY => .segs (upto 0 (if s.on die (Reg.CAT_ENT_W0_DIR.w staged) then 0 else 2))
  | .CAT_ENT_W1_OFFSET => .segs (upto 0 (if s.on die (Reg.CAT_ENT_W0_KIND.w staged) then 1438 else 11519))
  | .CAT_ENT_W1_LENGTH => .segs (upto 1 (if s.on die (Reg.CAT_ENT_W0_KIND.w staged) then 360 else 11520))
  | .CAT_ENT_W2_IMAGE => .segs (upto 0 (if s.on die (Reg.CAT_ENT_W0_KIND.w staged) then 32767 else 262143))
  | .CAT_CTL_SWAP => .segs (upto 0 (if s.inRunHold then 0 else 1))
  | .SHUNT_CFG_RATE | .SHUNT_CFG_TRIES | .SHUNT_CFG_DELTA_MAX =>
    if 1 ≤ s.rd 0 Reg.SHUNT_STAT_STATE ∧ s.rd 0 Reg.SHUNT_STAT_STATE ≤ 3 then present else base
  | .PART_REQ_OP => if s.inRunHold then .segs [(0, 0, 1), (3, 4, 1)] else base
  | .PART_CFG_ROLES => if s.inRunHold then present else .elems 2 (List.replicate 6 (0, 2))
  | .PAIR_MAP_DIES =>
    if s.rd 0 Reg.PAIR_STAT_STATE = 5 then .elems 3 (List.replicate 6 (2, 7)) else present
  | .FAB_UNFENCE_DIES => .elems 1 (scanDies.map fun d => (0, ofBool (s.powered d && !s.notReady d 0)))
  | .QUE_Qq_CFG_DEPTH =>
    if s.on die { Reg.QUE_Qq_CFG_EN with off := f.off } then present
    else .segs (upto 0 (if die = 0 then 5 else 6))
  | .QUE_Qq_ALLOT_LO_SRCs =>
    let q := (f.off - 0x200) / 0x20
    if s.qEnabled die q then present
    else
      let src := f.lsb / 8
      let below := (List.range src).foldl (fun n k => n + s.rd die ((Reg.QUE_Qq_ALLOT_LO_SRCs.i q).j k)) 0
      if q ≤ 1 ∧ 2 ≤ src then .segs (only 0)
      else .segs (upto 0 (min 255 ((s.qDepth die q : Int) - below)))
  | .QUE_Qq_ALLOT_HI_SRCs =>
    let q := (f.off - 0x200) / 0x20
    if s.qEnabled die q then present
    else
      let src := f.lsb / 8
      let lows := (List.range 4).foldl (fun n k => n + s.rd die ((Reg.QUE_Qq_ALLOT_LO_SRCs.i q).j k)) 0
      let below := (List.range src).foldl (fun n k => n + s.rd die ((Reg.QUE_Qq_ALLOT_HI_SRCs.i q).j k)) lows
      if q ≤ 1 then .segs (only 0) else .segs (upto 0 (min 255 ((s.qDepth die q : Int) - below)))
  | .MEM_PWR_BANKb =>
    if die = 0 ∨ s.live die ∨ f.lsb = 14 then .segs (only 0) else base
  | .MARCH_CTL_MODE => .segs (upto 0 (if die ≠ 0 ∧ (¬ s.live die ∨ s.fenced die) then 2 else 1))
  | .MARCH_CTL_BANK => .segs (upto 0 (if die = 0 then 3 else 7))
  | .MARCH_REPAIR_INDEX => .segs (upto 0 (if bit below 7 then 31 else 511))
  | .MARCH_EXEMPTi_W0_FIRST => .segs (upto 0 ((bankWords die ((f.off - 0x140) / 32) : Int) - 1))
  | .MARCH_EXEMPTi_W1_LAST =>
    .segs (upto (s.rd die { Reg.MARCH_EXEMPTi_W0_FIRST with off := f.off - 4 } : Nat)
      ((bankWords die ((f.off - 0x144) / 32) : Int) - 1))
  | .CANx_CTL_FD_EN =>
    if s.on 0 (Reg.CANx_CTL_EN.p can) then present
    else .segs (upto (if can = 0 ∧ s.on 0 Reg.PAIR_WIT_ENABLE then 1 else 0) 1)
  | .CANx_CTL_LISTEN =>
    if s.on 0 (Reg.CANx_CTL_EN.p can) then present
    else .segs (upto 0 (if can = 0 ∧ s.on 0 Reg.PAIR_WIT_ENABLE then 0 else 1))
  | .CANx_CTL_TXORDER => .segs (upto 0 (if can = 0 ∧ s.on 0 Reg.PAIR_WIT_ENABLE then 0 else 1))
  | .CANx_CTL_PXHD => if s.on 0 (Reg.CANx_CTL_EN.p can) then present else full
  | .CANx_CTL_RECOVER => .segs (only (if s.rd 0 (Reg.CANx_STAT_STATE.p can) = 4 then 1 else 0))
  | .CANx_NBT_BRP | .CANx_NBT_TSEG1 | .CANx_NBT_TSEG2 | .CANx_DBT_BRP | .CANx_DBT_TSEG1 | .CANx_DBT_TSEG2
  | .CANx_DBT_TDC_EN | .CANx_DBT_TDCO =>
    if s.on 0 (Reg.CANx_CTL_EN.p can) then present else if f.segs = [] then full else base
  | .CANx_NBT_SJW =>
    if s.on 0 (Reg.CANx_CTL_EN.p can) then present
    else .segs (upto 1 (s.rd 0 (Reg.CANx_NBT_TSEG2.p can) : Nat))
  | .CANx_DBT_SJW =>
    if s.on 0 (Reg.CANx_CTL_EN.p can) then present
    else .segs (upto 1 (s.rd 0 (Reg.CANx_DBT_TSEG2.p can) : Nat))
  | .CANx_TXBb_W0_IDE | .CANx_TXBb_W0_ID | .CANx_TXBb_W1_DLC | .CANx_TXBb_W1_FDF | .CANx_TXBb_W1_BRS
  | .CANx_TXBb_W1_RTR | .CANx_TXBb_Dk_DATA =>
    let b := (f.off - 0x200) / 0x80
    if s.rd 0 ((Reg.CANx_TXSTAT_STb.p can).j b) = 1 then present
    else match f.dyn with
      | .CANx_TXBb_W0_ID =>
        .segs (upto 0 (if s.on 0 ((Reg.CANx_TXBb_W0_IDE.p can).i b) then 0x1FFFFFFF else 0x7FF))
      | .CANx_TXBb_W1_FDF => .segs (upto 0 (if s.on 0 (Reg.CANx_CTL_FD_EN.p can) then 1 else 0))
      | .CANx_TXBb_W1_BRS => .segs (upto 0 (if s.on 0 ((Reg.CANx_TXBb_W1_FDF.p can).i b) then 1 else 0))
      | .CANx_TXBb_W1_RTR => .segs (upto 0 (if s.on 0 ((Reg.CANx_TXBb_W1_FDF.p can).i b) then 0 else 1))
      | _ => full
  | .CANx_FLTi_W0_ID =>
    .segs (upto 0 (if s.on 0 { Reg.CANx_FLTi_W0_IDE with code := f.code, off := f.off } then 0x1FFFFFFF else 0x7FF))
  | .CANx_FLTi_W1_MASK =>
    .segs (upto 0 (if s.on 0 { Reg.CANx_FLTi_W0_IDE with code := f.code, off := f.off - 4 } then 0x1FFFFFFF else 0x7FF))
  | .CANx_FLTi_W2_FWD_EN => .segs (upto 0 (if (f.off - 0x608) / 0x10 ≤ 1 then 0 else 1))
  | .F_FAO_CFGk_MODE => if s.on 1 Reg.F_FSAFE_STAT_ARMED then present else full
  | .F_FAO_TRIM_STEP =>
    .segs (upto 0 (if s.on 1 Reg.F_FSAFE_STAT_ARMED ∧ s.rd 0 Reg.TABLET_STAT_STATE = 2 ∧
      ¬ ((s.rd 1 Reg.F_FAO_TRIM_STAT_STATE = 1 ∨ s.rd 1 Reg.F_FAO_TRIM_STAT_STATE = 2) ∧ s.on 1 Reg.F_FAO_TRIM_STAT_PINS) then 2 else 0))
  | .F_FSAFE_CTL_ARM =>
    .segs (upto 0 (if s.on 0 Reg.FPX_STAT_PRESENT ∧ s.rd 1 Reg.F_FSUP_STAT_LEVEL < 3 ∧
      s.on 0 Reg.IMG_STAT_SAFE_VALID then 1 else 0))
  | .ARCH_EDGEk_VALUE =>
    if f.off = 0x180 then .segs (upto (-0x80000000) 0x7FFFFFFF)
    else .segs (upto (toInt 32 (s.rd 0 { f with off := f.off - 4 })) 0x7FFFFFFF)
  | .PWR_SW_DIES => .elems 1 (scanDies.map fun d => (ofBool (s.live d), 1))
  | .RST_DIE_RESET_DIES => .elems 1 (scanDies.map fun d => (0, ofBool (!s.live d)))
  | .GUARD_CTL_EN => .segs (only 1)
  | .RTC_STAGE_HI_SEC => if s.on 0 Reg.RTC_STAT_LOAD_PENDING then present else base
  | .RTC_STAGE_LO_SEC =>
    if s.on 0 Reg.RTC_STAT_LOAD_PENDING then present
    else .segs (upto 0 (if s.rd 0 Reg.RTC_STAGE_HI_SEC = 2 then 4032846207 else 0xFFFFFFFF))
  | .RTC_CTL_LOAD | .RTC_CTL_SYNC => .segs (upto 0 (if s.on 0 Reg.RTC_STAT_LOAD_PENDING then 0 else 1))
  | .AUTH_CFG_ETYPE =>
    .segs ([(0x0600, 0xFFFF, 1)].flatMap fun (a, b, _) =>
      let x : Int := min 0x88F7 (s.rd 0 Reg.STN_CFG_ETYPE)
      let y : Int := max 0x88F7 (s.rd 0 Reg.STN_CFG_ETYPE)
      ([(a, x - 1, 1), (x + 1, y - 1, 1), (y + 1, b, 1)] : List Seg).filter fun g => decide (g.1 ≤ g.2.1))
  | .UPD_CTL_HEALTHY => .segs (upto 0 (if s.rd 0 Reg.UPD_KSTAT_STATE = 3 then 1 else 0))
  | .UPD_CTL_RESUME => .segs (upto 0 (if s.rd 0 Reg.UPD_KSTAT_STATE = 2 then 1 else 0))
  | .UPD_CFG_CONFIRM_WINDOW =>
    if s.rd 0 Reg.UPD_KSTAT_STATE = 3 ∨ s.rd 0 Reg.UPD_ESTAT_STATE = 2 then present else base

/-- The legal values of a field (R12, R59). -/
def legal (s : State) (die : Nat) (f : FieldDef) (below : Nat) : Legal :=
  if f.frz && s.inRunHold then .segs (only (s.rd die f)) else dynRange s die f below

/-- The value a write applies to a field (R59). -/
def clamp (s : State) (die : Nat) (f : FieldDef) (v : Nat) (below : Nat := 0) : Nat :=
  clampTo (legal s die f below) f.sgn f.width v

end Sys2Proof.Machine
end

