-- ==== Sys2Proof/Machine/Digest.lean ====
section
/-! DEFINITION.  SHA-256, with which the spec names list digests, image digests and frame digests. -/

namespace Sys2Proof.Machine.Sha

open Sys2Proof.Bits

/-- The round constants. -/
def roundConstants : List Nat :=
  [0x428A2F98, 0x71374491, 0xB5C0FBCF, 0xE9B5DBA5, 0x3956C25B, 0x59F111F1, 0x923F82A4, 0xAB1C5ED5] ++
  [0xD807AA98, 0x12835B01, 0x243185BE, 0x550C7DC3, 0x72BE5D74, 0x80DEB1FE, 0x9BDC06A7, 0xC19BF174] ++
  [0xE49B69C1, 0xEFBE4786, 0x0FC19DC6, 0x240CA1CC, 0x2DE92C6F, 0x4A7484AA, 0x5CB0A9DC, 0x76F988DA] ++
  [0x983E5152, 0xA831C66D, 0xB00327C8, 0xBF597FC7, 0xC6E00BF3, 0xD5A79147, 0x06CA6351, 0x14292967] ++
  [0x27B70A85, 0x2E1B2138, 0x4D2C6DFC, 0x53380D13, 0x650A7354, 0x766A0ABB, 0x81C2C92E, 0x92722C85] ++
  [0xA2BFE8A1, 0xA81A664B, 0xC24B8B70, 0xC76C51A3, 0xD192E819, 0xD6990624, 0xF40E3585, 0x106AA070] ++
  [0x19A4C116, 0x1E376C08, 0x2748774C, 0x34B0BCB5, 0x391C0CB3, 0x4ED8AA4A, 0x5B9CCA4F, 0x682E6FF3] ++
  [0x748F82EE, 0x78A5636F, 0x84C87814, 0x8CC70208, 0x90BEFFFA, 0xA4506CEB, 0xBEF9A3F7, 0xC67178F2]

/-- The initial hash value. -/
def initial : List Nat := [0x6A09E667, 0xBB67AE85, 0x3C6EF372, 0xA54FF53A, 0x510E527F, 0x9B05688C, 0x1F83D9AB, 0x5BE0CD19]

/-- Rotates a 32-bit word right. -/
def rotr (x n : Nat) : Nat := x >>> n ||| (x <<< (32 - n)) % 2 ^ 32

/-- Element `i` of a list of words. -/
def at_ (l : List Nat) (i : Nat) : Nat := (l[i]?).getD 0

/-- The next word of the message schedule, from the last sixteen, latest first. -/
def schedNext (r : List Nat) : Nat :=
  let w2 := at_ r 1
  let w15 := at_ r 14
  let s0 := (rotr w15 7 ^^^ rotr w15 18) ^^^ w15 >>> 3
  let s1 := (rotr w2 17 ^^^ rotr w2 19) ^^^ w2 >>> 10
  (at_ r 15 + s0 + at_ r 6 + s1) % 2 ^ 32

/-- Extends a schedule, latest word first, by `n` words. -/
def schedule : Nat → List Nat → List Nat
  | 0, r => r
  | n + 1, r => schedule n (schedNext r :: r)

/-- One round. -/
def round (v : List Nat) (kw : Nat × Nat) : List Nat :=
  match v with
  | [a, b, c, d, e, f, g, h] =>
    let s1 := (rotr e 6 ^^^ rotr e 11) ^^^ rotr e 25
    let ch := (e &&& f) ^^^ ((2 ^ 32 - 1 - e) &&& g)
    let t1 := h + s1 + ch + kw.1 + kw.2
    let s0 := (rotr a 2 ^^^ rotr a 13) ^^^ rotr a 22
    let maj := ((a &&& b) ^^^ (a &&& c)) ^^^ (b &&& c)
    [(t1 + s0 + maj) % 2 ^ 32, a, b, c, (d + t1) % 2 ^ 32, e, f, g]
  | _ => v

/-- Takes one block of sixteen words. -/
def block (h ws : List Nat) : List Nat :=
  let sched := (schedule 48 ws.reverse).reverse
  let v := (roundConstants.zip sched).foldl round h
  (h.zip v).map fun p => (p.1 + p.2) % 2 ^ 32

/-- The bytes as big-endian words. -/
def wordsOf : List Byte → List Nat
  | a :: b :: c :: d :: rest => ofBE [a, b, c, d] :: wordsOf rest
  | _ => []

/-- Takes `n` blocks. -/
def blocks : Nat → List Nat → List Nat → List Nat
  | 0, h, _ => h
  | n + 1, h, ws => blocks n (block h (ws.take 16)) (ws.drop 16)

/-- The message padded to whole blocks. -/
def padded (m : List Byte) : List Byte :=
  let n := m.length
  m ++ [0x80] ++ List.replicate ((119 - n % 64) % 64) 0 ++ toBE 8 (8 * n)

/-- SHA-256. -/
def sha256 (m : List Byte) : List Byte :=
  let p := padded m
  (blocks (p.length / 64) initial (wordsOf p)).flatMap (toBE 4)

end Sys2Proof.Machine.Sha
end

