-- ==== Sys2Proof/Machine/Stacks.lean ====
section
/-! DEFINITION.  The Stacks as data (spec/13 R410 to R424): poisoned words, the read window, CRC-32C, twin records and
monotonic cells. -/

namespace Sys2Proof.Machine

open Sys2Proof.Bits

/-! ### CRC-32C -/

/-- One bit of the CRC-32C division (reflected polynomial 0x82F63B78). -/
def crcStep (c : Nat) : Nat := if c % 2 = 1 then (c / 2) ^^^ 0x82F63B78 else c / 2

/-- Takes one byte into the CRC register. -/
def crcByte (c : Nat) (b : Byte) : Nat :=
  crcStep (crcStep (crcStep (crcStep (crcStep (crcStep (crcStep (crcStep (c ^^^ b.toNat))))))))

/-- CRC-32C of bytes. -/
def crc32c (bs : List Byte) : Nat := (bs.foldl crcByte 0xFFFFFFFF) ^^^ 0xFFFFFFFF

/-! ### Twins and cells -/

/-- Stacks address of copy `b` (0 A, 1 B) of the body of twin `t` (R412); 65 and 66 are the update descriptors of
the two levels (R491). -/
def twinBodyAt (t b : Nat) : Nat :=
  if t < 32 then 0x4000 * t + 0x2000 * b
  else match t with
    | 32 => 0x080000 + 0x40000 * b
    | 33 => 0x110000 + 0x8000 * b
    | 34 => 0x11F000 + 0x800 * b
    | 65 | 66 => 0x510020 + 0x400 * (t - 65) + 0x200 * b
    | _ => 0x101000 + 0x7000 * b

/-- Largest body of twin `t` (R420). -/
def twinMax (t : Nat) : Nat :=
  if t < 32 then 8192 else match t with | 32 => 262144 | 33 => 28672 | 34 => 2048 | 65 | 66 => 480 | _ => 28672

/-- Stacks address of the header of copy `b` of twin `t` (R420). -/
def twinHeadAt (t b : Nat) : Nat :=
  if 64 ≤ t then 0x510000 + 0x400 * (t - 65) + 0x200 * b else 0x10F000 + 64 * t + 32 * b

/-- Stacks address of the migration record of twin `t` (R507). -/
def migrationAt (t : Nat) : Nat := 0x520000 + 0x8000 * (t - 4)

/-- Stacks address of a monotonic cell (R424). -/
def cellAt (c : Nat) : Nat := 0x100000 + 32 * c

namespace State

/-- A word of the Stacks is poisoned (R413). -/
def poisoned (s : State) (off : Nat) : Bool := s.eccAt (STACKS + off) == 2

/-- The number of `n` bytes of the Stacks. -/
def stk (s : State) (off n : Nat) : Nat := s.load (STACKS + off) n

/-- Any poisoned word among `n` bytes from `off`. -/
def anyPoison (s : State) (off n : Nat) : Bool :=
  (SMap.slice s.ecc (STACKS + off / 8 * 8) (STACKS + off + n)).any fun e => e.2 == 2

/-- The header fields of a twin copy. -/
def twinSeq (s : State) (t b : Nat) : Nat := s.stk (twinHeadAt t b + 4) 4
/-- LENGTH of a twin copy. -/
def twinLen (s : State) (t b : Nat) : Nat := s.stk (twinHeadAt t b + 8) 4
/-- The body of a twin copy. -/
def twinBody (s : State) (t b : Nat) : List Byte := s.loadBytes (STACKS + twinBodyAt t b) (s.twinLen t b)

/-- Whether a record of twin `t` with its header at `h` and its body at `a` is valid (R423). -/
def recordValid (s : State) (t h a : Nat) : Bool :=
  let len := s.stk (h + 8) 4
  s.stk h 4 == 0x5457494E && s.stk (h + 28) 4 == crc32c (s.loadBytes (STACKS + h) 28) && s.stk (h + 16) 2 == t &&
    decide (len ≤ twinMax t) && s.stk (h + 12) 4 == crc32c (s.loadBytes (STACKS + a) len) &&
    !s.anyPoison h 32 && !s.anyPoison a len

/-- Whether a copy is valid (R423). -/
def twinValid (s : State) (t b : Nat) : Bool := s.recordValid t (twinHeadAt t b) (twinBodyAt t b)

/-- The selected copy among the copies that satisfy `ok` (R423). -/
def twinPick (s : State) (t : Nat) (ok : Nat → Bool) : Option Nat :=
  if ok 0 && ok 1 then some (if s.twinSeq t 0 < s.twinSeq t 1 then 1 else 0)
  else if ok 0 then some 0 else if ok 1 then some 1 else none

/-- The selected copy of a twin. -/
def twinSelected (s : State) (t : Nat) : Option Nat := s.twinPick t (s.twinValid t)

/-- The bytes of a twin header (R421). -/
def twinHeader (t seq version : Nat) (body : List Byte) : List Byte :=
  let h := toLE 4 0x5457494E ++ toLE 4 seq ++ toLE 4 body.length ++ toLE 4 (crc32c body) ++ toLE 2 t ++
    toLE 2 version ++ toLE 8 0
  h ++ toLE 4 (crc32c h)

/-- Writes a twin record beside the copy `sel`: body, then header (R422). -/
def twinWriteBeside (s : State) (sel : Option Nat) (t : Nat) (body : List Byte) : State :=
  let b := match sel with | some 0 => 1 | _ => 0
  let seq := match sel with | some c => s.twinSeq t c + 1 | none => 1
  let s := s.storeBytes (STACKS + twinBodyAt t b) body
  let s := s.storeBytes (STACKS + twinHeadAt t b) (twinHeader t seq 0 body)
  s.wr 0 Reg.NVC_WRITES_COUNT (s.rd 0 Reg.NVC_WRITES_COUNT + (body.length + 7) / 8 + 4)

/-- Writes a twin record (R422). -/
def twinWrite (s : State) (t : Nat) (body : List Byte) : State := s.twinWriteBeside (s.twinSelected t) t body

/-- The body of the selected copy of a twin, if any. -/
def twinData? (s : State) (t : Nat) : Option (List Byte) := (s.twinSelected t).map (s.twinBody t)

/-- Cause of the last role change of a Scan die in the inventory (R282): 2 failure. -/
def dieCause (s : State) (d : Nat) : Nat := match s.twinData? 34 with | some b => ofLE (cut b (16 * (d - 2) + 1) 1) | none => 0

/-- The list digest of the present retained list (R201). -/
def listDigest (s : State) : List Byte :=
  (Sha.sha256 ((List.range (s.rd 0 Reg.IMG_RET_CFG_ENTRIES)).flatMap fun i =>
    toLE 4 (s.rd 0 (Reg.IMG_RETi_W0_KIND.i i) + 4 * s.rd 0 (Reg.IMG_RETi_W0_DIE.i i) +
      256 * s.rd 0 (Reg.IMG_RETi_W0_START.i i)) ++ toLE 4 (s.rd 0 (Reg.IMG_RETi_W1_LENGTH.i i)))).take 8

/-- Whether copy `b` of twin 32 is valid for the present list (R201, R423). -/
def retValid (s : State) (b : Nat) : Bool :=
  s.twinValid 32 b && s.loadBytes (STACKS + twinBodyAt 32 b + 16) 8 == s.listDigest

/-- The newest valid retained record of the present list. -/
def retNewest (s : State) : Option Nat := s.twinPick 32 s.retValid

/-- A number of `n` bytes of the newest valid record. -/
def retWord (s : State) (off n : Nat) : Nat :=
  match s.retNewest with
  | some b => s.stk (twinBodyAt 32 b + off) n
  | none => 0

/-- One half of a monotonic cell: its value when valid (R424). -/
def cellHalf (s : State) (c h : Nat) : Option Nat :=
  let a := cellAt c + 16 * h
  let v := s.stk a 8
  if s.stk (a + 8) 8 = 2 ^ 64 - 1 - v ∧ s.anyPoison a 16 = false then some v else none

/-- The value of a monotonic cell (R424). -/
def cell (s : State) (c : Nat) : Nat := max ((s.cellHalf c 0).getD 0) ((s.cellHalf c 1).getD 0)

/-- Writes a monotonic cell; a value not above the present one is refused (R424). -/
def setCell (s : State) (c v : Nat) : State :=
  if v ≤ s.cell c then s
  else
    let h := if s.cellHalf c 0 = some (s.cell c) then 1 else 0
    let a := STACKS + cellAt c + 16 * h
    (s.store a 8 v).store (a + 8) 8 (2 ^ 64 - 1 - v)

/-! ### The key store (R475, R476) -/

/-- Address of copy `b` of key slot `k`; slot 16 is the owner public key (R475, R476). -/
def keyAt (k b : Nat) : Nat := if k = 16 then 0x501000 + 0x80 * b else 0x500000 + 0x100 * k + 0x80 * b

/-- MAGIC of a key copy. -/
def keyMagic (k : Nat) : Nat := if k = 16 then 0x4F504B31 else 0x4B455953

/-- Whether a key copy is valid (R475). -/
def keyValid (s : State) (k b : Nat) : Bool :=
  let a := keyAt k b
  s.stk a 4 == keyMagic k && (k == 16 || s.stk (a + 9) 1 == k) &&
    s.stk (a + 124) 4 == crc32c (s.loadBytes (STACKS + a) 124) && !s.anyPoison a 128

/-- The selected copy of a key slot (R475). -/
def keySelected (s : State) (k : Nat) : Option Nat :=
  let gen (b : Nat) : Nat := s.stk (keyAt k b + 4) 4
  if s.keyValid k 0 && s.keyValid k 1 then some (if gen 0 < gen 1 then 1 else 0)
  else if s.keyValid k 0 then some 0 else if s.keyValid k 1 then some 1 else none

/-- The role of a key slot (R474): EMPTY where no copy is valid. -/
def keyRole (s : State) (k : Nat) : Nat :=
  match s.keySelected k with
  | some b => s.stk (keyAt k b + 8) 1
  | none => 0

/-- The wrapped key of a slot. -/
def keyWrapped (s : State) (k : Nat) : List Byte :=
  match s.keySelected k with
  | some b => s.loadBytes (STACKS + keyAt k b + 16) 40
  | none => []

/-- Writes a key copy beside the selected one (R475, R476): `payload` from offset 16 on, zeros behind it. -/
def keyWrite (s : State) (k role : Nat) (payload : List Byte) : State :=
  let sel := s.keySelected k
  let b := match sel with | some 0 => 1 | _ => 0
  let gen := match sel with | some c => s.stk (keyAt k c + 4) 4 + 1 | none => 1
  let head := toLE 4 (keyMagic k) ++ toLE 4 gen ++ toLE 1 role ++ toLE 1 (if k = 16 then 0 else k) ++ List.replicate 6 0
  let body := head ++ payload ++ List.replicate (108 - payload.length) 0
  s.storeBytes (STACKS + keyAt k b) (body ++ toLE 4 (crc32c body))

/-- A read of the Stacks window (R413, R477): the reserved range and the key store read zero; `none` is an error
response. -/
def stacksRead (s : State) (off n : Nat) : State × Option Nat :=
  if (0x380000 ≤ off ∧ off < 0x400000) ∨ (0x500000 ≤ off ∧ off < 0x510000) then (s, some 0)
  else if s.poisoned off then
    let s := ((s.wr 0 Reg.NVC_STAT_POISON 1).wr 0 Reg.NVC_POISON_ADDR_ADDR (off / 8 * 8)).inc 0 Reg.NVC_DE_COUNT
    ((s.irq 0 0x0F 0).archive 0x0F 67 .fault [off / 8 * 8], none)
  else if s.eccAt (STACKS + off) = 1 then (s.inc 0 Reg.NVC_CE_COUNT, some (s.stk off n))
  else (s, some (s.stk off n))

end State

end Sys2Proof.Machine
end

