-- ==== Sys2Proof/Machine/Live.lean ====
section
/-! DEFINITION.  What a read of a page field shows: stored fields, fields that show state held elsewhere, the
page header, the level interrupt sources and the fault summaries. -/

namespace Sys2Proof.Machine

open Sys2Proof.Bits

namespace State

/-- The entry of its table that a windowed field shows to a reader (R101, R139, R207, R257, R264, R277, R279,
R350, R353, R427, R438, R509). -/
def winIx (s : State) (who die : Nat) (w : Win) : Nat :=
  match w with
  | .none => 0
  | .ttblRow => s.rd die Reg.TTBL_ROWSEL_BANK * 512 + s.rd die Reg.TTBL_ROWSEL_ROW
  | .timer => s.rd die Reg.TIMR_SEL_KIND * 8192 + s.rd die Reg.TIMR_SEL_INDEX
  | .task => s.rd die Reg.TASK_SEL_TASK
  | .stnEntry =>
    (s.rd die Reg.STN_SEL_BANK + s.catActive) % 2 * 1024 + s.rd die Reg.STN_SEL_STATION
  | .station => s.rd die Reg.STN_SEL_STATION
  | .catEntry =>
    (s.rd die Reg.CAT_SEL_BANK + s.catActive) % 2 * 24576 + s.rd die Reg.CAT_SEL_INDEX
  | .tsnPort => s.rd die Reg.TSN_SEL_PORT
  | .tsnEntry => s.rd die Reg.TSN_SEL_PORT * 256 + s.rd die Reg.TSN_SEL_ENTRY
  | .credit => s.rd die Reg.QUE_SEL_DIE * 16 + s.rd die Reg.QUE_SEL_QUEUE
  | .master => who
  | .token => s.rd die Reg.TOKEN_SEL_TOKEN
  | .binSet => s.rd die Reg.ARCH_BIN_SEL_SET
  | .tally => s.rd die Reg.ARCH_TALLY_SEL_TALLY
  | .slot => s.rd die Reg.AUTH_SEL_SLOT
  | .mask => 0

/-- Where a write to a windowed field goes: staged words for the entry tables, else as a read. -/
def winWr (s : State) (who die : Nat) (w : Win) : Nat :=
  match w with
  | .ttblRow | .stnEntry | .catEntry | .tsnEntry | .mask => staged
  | w => s.winIx who die w

/-- A word core. -/
def core (s : State) (die n : Nat) : Core := SMap.get Core.start s.cores (die * 4 + n)

/-- Replaces a word core. -/
def setCore (s : State) (die n : Nat) (c : Core) : State :=
  { s with cores := SMap.put Core.start s.cores (die * 4 + n) c }

/-- A word core held in reset (R168). -/
def coreHeld (s : State) (die n : Nat) : Bool := s.on die (Reg.COREn_CTL_HOLD.p n)

/-- A word core frozen by a row without slot entry (R157). -/
def coreFrozen (s : State) (die n : Nat) : Bool := ((s.slot? die (n + 1)).map fun x => x.running && x.frozen).getD false

/-- A word core in an untriggered event row (R157, R168): what `STAT.FROZEN` shows. -/
def coreUntriggered (s : State) (die n : Nat) : Bool :=
  ((s.slot? die (n + 1)).map fun x => x.running && x.frozen && x.event && !s.on 0 (Reg.TASK_STAT_LATCHED.w x.task)).getD false

/-- A word core that issues nothing: frozen, quiesced for a final delta (R292), or on a die in Retention (R466). -/
def coreStill (s : State) (die n : Nat) : Bool :=
  s.coreFrozen die n || inDies s.shunt.still die || inDies (s.rd 0 Reg.PWR_STAT_RETAINED) die

/-- A CAN controller: 0 CAN-A, 1 CAN-B. -/
def can (s : State) (ch : Nat) : CanCtl := SMap.get CanCtl.idle s.cans ch

/-- Replaces what a CAN controller holds beside its page. -/
def setCan (s : State) (ch : Nat) (c : CanCtl) : State := { s with cans := SMap.put CanCtl.idle s.cans ch c }

/-- Last accepted counter of a key slot (R484). -/
def authCounter (s : State) (k : Nat) : Nat := SMap.get 0 s.auth.counters k

/-- The tasks from `lo` up to `lo + 31` for which a one-bit field is set, as a mask. -/
def taskBits (s : State) (f : FieldDef) (lo : Nat) : Nat :=
  maskOf ((List.range 32).filter fun t => s.on 0 (f.w (lo + t)))

/-- The level sources of a die's interrupt router that are pending (R165): page lines and non-empty queues. -/
def routerLevels (s : State) (die : Nat) (line : Nat → Bool) : Nat :=
  maskOf ((List.range 19).filter line) +
    maskOf (((List.range 16).filter fun q => !(s.ring die q).isEmpty).map (22 + ·))

/-- DEADLINE of the level in TRIAL, 0 with none (R491, R510). -/
def trialDeadline (s : State) : Nat :=
  let at' (t : Nat) : Nat := match s.twinData? t with | some b => ofLE ((b.drop 8).take 8) | none => 0
  if s.rd 0 Reg.UPD_KSTAT_STATE = 3 then at' 65 else if s.rd 0 Reg.UPD_ESTAT_STATE = 2 then at' 66 else 0

/-- The value of a field that shows state held elsewhere; `line` gives the interrupt line of a page of the die. -/
def liveField (s : State) (die : Nat) (f : FieldDef) (line : Nat → Bool) : Nat :=
  let pend (n : Nat) : Nat := s.routerLevels die line ||| SMap.get 0 s.latches (die * 4 + n)
  match f.live with
  | .stored => s.rd die f
  | .QUE_Qq_STAT_COUNT => (s.ring die ((f.off - 0x210) / 0x20)).length
  | .QUE_Qq_HEAD_LO_DATA => ((s.ring die ((f.off - 0x214) / 0x20)).head?.map QEntry.lo).getD 0
  | .QUE_Qq_HEAD_HI_DATA => ((s.ring die ((f.off - 0x218) / 0x20)).head?.map QEntry.hi).getD 0
  | .SYS_INV_PRESENT => s.rd 0 Reg.PART_STAT_PRESENT
  | .SYS_INV_LIVE => s.liveMask
  | .SYS_INV_SPARE => maskOf ((scanDies.filter fun d => s.role d == 1).map (· - 2))
  | .SYS_NAME_ROLE => s.role die
  | .SYS_NAME_NAME => (scanDies.find? fun n => field (s.rd 0 Reg.PART_ALIAS_DIES) (3 * (n - 2)) 3 == die).getD die
  | .SHUNT_DIRTY_REGIONS => s.dirtyCount (s.rd 0 Reg.SHUNT_STAT_SOURCE)
  | .TIMR_VALUE_VALUE =>
    if f.wix < 8192 then (s.timer die f.wix).et else ofInt 32 (s.counter die (f.wix - 8192)).cv
  | .TIMR_STATE_IN =>
    ofBool (if f.wix < 8192 then (s.timer die f.wix).inp else (s.counter die (f.wix - 8192)).cu)
  | .TIMR_STATE_RUN =>
    ofBool (if f.wix < 8192 then (s.timer die f.wix).run else (s.counter die (f.wix - 8192)).cd)
  | .TIMR_STATE_Q =>
    ofBool (if f.wix < 8192 then (s.timer die f.wix).q else (s.counter die (f.wix - 8192)).qu)
  | .TIMR_STATE_QD => ofBool (decide (8192 ≤ f.wix) && (s.counter die (f.wix - 8192)).qd)
  | .TIMR_STATE_SAT => ofBool (decide (8192 ≤ f.wix) && (s.counter die (f.wix - 8192)).sat)
  | .XCHG_STAT_RELEASE => ofBool (!s.exch.txPorts.isEmpty || decide (s.time < s.exch.outUntil))
  | .BUDGET_ENGe_LEFT_CYCLES => s.budgetLeft die ((f.off - 0x104) / 8)
  | .FAB_FENCE_DIES | .FAB_UNFENCE_DIES => s.rd 0 Reg.FAB_STAT_FENCED
  | .TOKEN_OWNER_HELD => ofBool (bit (s.rd2 0 Reg.TOKEN_HELD_LO_TOKENS Reg.TOKEN_HELD_HI_TOKENS) f.wix)
  | .TOKEN_OWNER_BROKEN => ofBool (bit (s.rd2 0 Reg.TOKEN_BROKEN_LO_TOKENS Reg.TOKEN_BROKEN_HI_TOKENS) f.wix)
  | .COREn_STAT_STATE =>
    let c := s.core die (f.code - 0x0E)
    if s.coreHeld die (f.code - 0x0E) then 0 else if c.inSlot then 3 else if c.idle then 1 else 2
  | .COREn_STAT_PRIV => ofBool (s.core die (f.code - 0x0E)).mmode
  | .COREn_STAT_BG_VALID => ofBool (s.core die (f.code - 0x0E)).ysValid
  | .COREn_STAT_HALTED => ofBool (s.core die (f.code - 0x0E)).halted
  | .COREn_STAT_FROZEN => ofBool (s.coreUntriggered die (f.code - 0x0E))
  | .COREn_PC_ADDR => (s.core die (f.code - 0x0E)).lastPc
  | .COREn_RTR_PEND0_SRC | .COREn_RTR_CLR0_SRC => pend (f.code - 0x0E) % 2 ^ 32
  | .COREn_RTR_PEND1_SRC | .COREn_RTR_CLR1_SRC => pend (f.code - 0x0E) / 2 ^ 32 % 2 ^ 12
  | .S_DBG_STAT_ALLOWED => ofBool (inDies (s.rd 0 Reg.DBG_CTL_SCAN_EN) die)
  | .S_DBG_STAT_HALTED => maskOf ((List.range 4).filter fun n => (s.core die n).halted)
  | .DBG_STAT_SCAN_HALTED =>
    maskOf ((scanDies.filter fun d => (List.range 4).any fun n => (s.core d n).halted).map (· - 2))
  | .TASK_PENDING0_TASKS => s.taskBits Reg.TASK_STAT_PENDING 0
  | .TASK_PENDING1_TASKS => s.taskBits Reg.TASK_STAT_PENDING 32
  | .TASK_LATCHED0_TASKS => s.taskBits Reg.TASK_STAT_LATCHED 0
  | .TASK_LATCHED1_TASKS => s.taskBits Reg.TASK_STAT_LATCHED 32
  | .IMG_RET_SIZE_BYTES => s.retSize
  | .IMG_STAT_SAVING => ofBool (s.aon.holdup == 2 || (s.aon.holdup == 1 && s.slots.all fun e => !e.2.running))
  | .IMG_STAT_RET_VALID_A => ofBool (s.retValid 0)
  | .IMG_STAT_RET_VALID_B => ofBool (s.retValid 1)
  | .IMG_STAT_RET_NEWEST => s.retNewest.getD 0
  | .IMG_RET_SEQ_SEQ => (s.retNewest.map (s.twinSeq 32)).getD 0
  | .IMG_RET_FRAME_N => s.retWord 0 4
  | .IMG_RET_TORN_LO_TASKS => s.retWord 8 4
  | .IMG_RET_TORN_HI_TASKS => s.retWord 12 4
  | .CANx_RX_Wj_DATA =>
    ((((s.can (f.code - 0x21)).fifo.head?).getD [])[(f.off - 0x400) / 4]?).getD 0
  | .AUTH_STAT_OWNER_PK => ofBool (s.keySelected 16).isSome
  | .AUTH_STAT_VENDOR_FLOOR => s.cell 22
  | .AUTH_ROLES_LO_ROLES => (List.range 10).foldl (fun w k => w + s.keyRole k % 8 * 8 ^ k) 0
  | .AUTH_ROLES_HI_ROLES => (List.range 6).foldl (fun w k => w + s.keyRole (10 + k) % 8 * 8 ^ k) 0
  | .AUTH_CTR_LO_N => s.authCounter f.wix % 2 ^ 32
  | .AUTH_CEIL_LO_N => s.cell f.wix % 2 ^ 32
  | .UPD_KSVN_SVN => s.cell 20
  | .UPD_ESVN_SVN => s.cell 21
  | .RTC_SUB_COUNT => min 32767 (((s.time : Int) - s.aon.secondAt).toNat * 32768 / 1000000000)
  | .GUARD_STAT_LEFT_MS =>
    if s.on 0 Reg.GUARD_CTL_EN then ((s.aon.guardMs * 1000000 : Nat) + s.aon.guardAt - s.time).toNat / 1000000 else 0
  | .UPD_DEADLINE_LO_NS => s.trialDeadline % 2 ^ 32
  | .SYS_PART_STEP => Config.siliconStep
  | .SYS_UID_LO_ID => Config.uid die
  | .SYS_UID_HI_ID => Config.uid die / 2 ^ 32
  | .CLK_TICK_COMP_CYCLES => Config.tickComp die

end State

/-! ### Page tables (R65) -/

/-- Fields of the block registers of a page; `none` when the die has no such page. -/
def pageFields (die code : Nat) : Option (List FieldDef) :=
  if die = 0 then
    match code with
    | 0x00 => some Reg.pageSYS | 0x01 => some Reg.pageCLK | 0x02 => some Reg.pagePWR | 0x03 => some Reg.pageRST
    | 0x04 => some Reg.pageCLAMP | 0x05 => some Reg.pageFAB | 0x06 => some Reg.pageQUE | 0x07 => some Reg.pageMEM
    | 0x08 => some Reg.pageMARCH | 0x09 => some Reg.pageTOKEN | 0x0A => some Reg.pageTICK
    | 0x0B => some Reg.pageFWATCH | 0x0C => some Reg.pageGUARD | 0x0D => some Reg.pageAON
    | 0x0E => some Reg.pageRTC | 0x0F => some Reg.pageNVC | 0x10 => some Reg.pageNVP | 0x11 => some Reg.pageARCH
    | 0x12 => some Reg.pageAUTH | 0x13 => some Reg.pageUPD | 0x14 => some Reg.pageSHUNT
    | 0x15 => some Reg.pagePAIR | 0x16 => some Reg.pageTABLET | 0x17 => some Reg.pagePART
    | 0x18 => some Reg.pageXCHG | 0x19 => some Reg.pageCAT | 0x1A => some Reg.pageSTN | 0x1B => some Reg.pagePTP
    | 0x1C => some Reg.pageTSN
    | 0x1D | 0x1E | 0x1F | 0x20 => some (Reg.pageLINEn.map (FieldDef.p · (code - 0x1D)))
    | 0x21 | 0x22 => some (Reg.pageCANx.map (FieldDef.p · (code - 0x21)))
    | 0x23 => some Reg.pageXSPI | 0x24 => some Reg.pageMSPI | 0x25 => some Reg.pageFPX | 0x26 => some Reg.pageDBG
    | 0x27 => some Reg.pageMODE | 0x28 => some Reg.pageTASK | 0x29 => some Reg.pageIMG
    | _ => none
  else if die = 1 then
    match code with
    | 0 => some Reg.pageFieldSYS | 1 => some Reg.pageFieldFDI | 2 => some Reg.pageFieldFDO
    | 3 => some Reg.pageFieldFAO | 4 => some Reg.pageFieldFSK | 5 => some Reg.pageFieldFSUP
    | 6 => some Reg.pageFieldFSAFE | 7 => some (Reg.pageCLAMP.map (FieldDef.p · 3))
    | _ => none
  else if isScan die then
    match code with
    | 0x00 => some Reg.pageSYS | 0x01 => some Reg.pageCLK | 0x02 => some Reg.pagePWR | 0x03 => some Reg.pageRST
    | 0x04 => some Reg.pageCLAMP | 0x05 => some Reg.pageFAB | 0x06 => some Reg.pageQUE | 0x07 => some Reg.pageMEM
    | 0x08 => some Reg.pageMARCH | 0x09 => some Reg.pageTTBL | 0x0A => some Reg.pageBUDGET
    | 0x0B => some Reg.pageSBOX | 0x0C => some Reg.pageTIMR | 0x0D => some Reg.pagePLAT
    | 0x0E | 0x0F | 0x10 | 0x11 => some (Reg.pageCOREn.map (FieldDef.p · (code - 0x0E)))
    | 0x12 => some Reg.pageScanDBG
    | _ => none
  else none

/-- The kind bit of a die as `FieldDef.on` counts it. -/
def dieKind (die : Nat) : Nat := if die = 0 then 1 else if die = 1 then 2 else 4

/-- The elements of a field row that lie in the register at `off`. -/
def placeAt (off : Nat) (f : FieldDef) : List FieldDef :=
  let here : Option FieldDef :=
    match f.dims with
    | [] => if f.off = off then some f else none
    | [(n, st)] =>
      if f.off ≤ off ∧ (off - f.off) % st = 0 ∧ (off - f.off) / st < n then some { f with off := off } else none
    | (n, st) :: (m, st') :: _ =>
      if f.off ≤ off ∧ (off - f.off) / st < n ∧ (off - f.off) % st % st' = 0 ∧ (off - f.off) % st / st' < m
      then some { f with off := off } else none
  match here with
  | none => []
  | some g => (List.range f.lanes.1).map g.j

/-- Drops a field whose lowest bit an earlier one has (entry 0 of the mask table, R137). -/
def firstOfEach : List FieldDef → List FieldDef
  | [] => []
  | f :: fs => f :: (firstOfEach fs).filter (fun g => decide (g.lsb ≠ f.lsb))

/-- The fields of the block register at an offset of a page, lowest bit first. -/
def regFields (die code off : Nat) : List FieldDef :=
  (firstOfEach
    ((((pageFields die code).getD []).filter fun f => bit f.on (dieKind die / 2)).flatMap (placeAt off))).map
    fun f => { f with code := code }

/-! ### Interrupt sources and locks -/

/-- The sources a page has (R52 and the page rules), as a mask. -/
def irqSources (die code : Nat) : Nat :=
  if die = 0 then
    match code with
    | 0x01 => 0x3 | 0x02 => 0x7 | 0x04 => 0x3 | 0x05 => 0xF | 0x06 => 0x3FFFF | 0x07 => 0xF | 0x08 => 0xF
    | 0x09 => 0x3 | 0x0A => 0x1F | 0x0B => 0x7 | 0x0C => 0x1 | 0x0D => 0x7F | 0x0E => 0xF | 0x0F => 0x3
    | 0x10 => 0x1 | 0x11 => 0xF | 0x12 => 0x7 | 0x13 => 0xF | 0x14 => 0x7 | 0x15 => 0x1F | 0x16 => 0xF
    | 0x17 => 0x3 | 0x18 => 0xF | 0x19 => 0x3 | 0x1A => 0x3 | 0x1B => 0x7 | 0x1C => 0x3
    | 0x1D | 0x1E | 0x1F | 0x20 => 0xF | 0x21 | 0x22 => 0x7F | 0x23 => 0x3 | 0x24 => 0x7 | 0x25 => 0x3
    | 0x26 => 0x3 | 0x27 => 0x7 | 0x28 => 0x3 | 0x29 => 0x7 | _ => 0
  else if die = 1 then
    match code with
    | 1 => 0x3 | 2 => 0x7 | 3 => 0x3 | 4 => 0x1F | 5 => 0x1 | 6 => 0x3 | 7 => 0x3 | _ => 0
  else
    match code with
    | 0x04 => 0x3 | 0x05 => 0xF | 0x06 => 0x3FFFF | 0x07 => 0xF | 0x08 => 0xF | 0x09 => 0x3 | 0x0A => 0x3
    | 0x0B => 0x7 | 0x0C => 0x3 | 0x0D => 0x3 | 0x0E | 0x0F | 0x10 | 0x11 => 0x7 | 0x12 => 0x3 | _ => 0

/-- Lock groups of a page (R58): group 0 on the pages that have RWL fields. -/
def lockGroups (die code : Nat) : Nat :=
  if (((pageFields die code).getD []).filter fun f => bit f.on (dieKind die / 2)).any (fun f => f.acc == .rwl)
  then 1 else 0

namespace State

/-- The level sources whose condition holds (R353, R376, R404, R407). -/
def irqLevel (s : State) (die code : Nat) : Nat :=
  if die ≠ 1 ∧ code = 0x06 then
    maskOf ((List.range 16).filter fun q => !(s.ring die q).isEmpty)
  else if die = 0 ∧ (code = 0x21 ∨ code = 0x22) then
    ofBool (s.rd 0 (Reg.CANx_RXSTAT_COUNT.p (code - 0x21)) != 0)
  else if die = 1 ∧ code = 1 then ofBool (s.rd 1 Reg.F_FDI_PENDING_CHANNELS != 0)
  else if die = 1 ∧ code = 4 then
    ofBool (s.rd 1 (Reg.F_FSK_STATk_RX_COUNT.i 0) != 0) + 2 * ofBool (s.rd 1 (Reg.F_FSK_STATk_RX_COUNT.i 1) != 0)
  else 0

/-- `IRQ_RAW` as read: latched sources and levels. -/
def irqRaw (s : State) (die code : Nat) : Nat := s.rd die (IRQ_RAW_SRC code) ||| s.irqLevel die code

/-- The interrupt line of a page (R52): the OR of `IRQ_STAT`. -/
def irqLine (s : State) (die code : Nat) : Bool := (s.irqRaw die code &&& s.rd die (IRQ_EN_SRC code)) != 0

/-- `PSTAT.FAULT` as the page's chapter defines it. -/
def pageFault (s : State) (die code : Nat) : Bool :=
  if die = 0 then
    match code with
    | 0x01 => !(s.on 0 Reg.CLK_STAT_A_OK && s.on 0 Reg.CLK_STAT_B_OK)
    | 0x02 => scanDies.any fun d => s.live d && !inDies (s.rd 0 Reg.PWR_STAT_RAILS) d
    | 0x03 => s.rd 0 Reg.RST_CAUSE_BOOT != 0
    | 0x05 => s.rd 0 Reg.FAB_TIMEOUTS_COUNT != 0
    | 0x07 => s.rd 0 Reg.MEM_DE_COUNT != 0
    | 0x08 => s.rd 0 Reg.MARCH_STAT_STATE == 3
    | 0x09 => s.rd2 0 Reg.TOKEN_HELDOVER_LO_TOKENS Reg.TOKEN_HELDOVER_HI_TOKENS != 0
    | 0x0B => s.forcedStop
    | 0x0C => !s.on 0 Reg.GUARD_CTL_EN
    | 0x0D => !s.on 0 Reg.AON_STAT_CONTINUITY
    | 0x0E => s.on 0 Reg.RTC_STAT_TIME_LOST
    | 0x0F => s.on 0 Reg.NVC_STAT_POISON
    | 0x11 => s.on 0 Reg.ARCH_STAT_FAILED
    | 0x12 => !(List.range 16).any fun k => s.keyRole k == 3
    | 0x13 => s.fellBack
    | 0x14 => s.shunt.fault
    | 0x15 => ((s.rd 0 Reg.PAIR_STAT_STATE == 5 || s.rd 0 Reg.PAIR_STAT_STATE == 6) ||
        s.rd 0 Reg.PAIR_STAT_STATE == 7) || (!s.on 0 Reg.PAIR_STAT_WITNESS && s.on 0 Reg.PAIR_WIT_ENABLE)
    | 0x16 => bit (s.rd 0 (IRQ_RAW_SRC 0x16)) 2
    | 0x17 => scanDies.any fun d => s.role d == 2 && s.dieCause d == 2
    | 0x18 => s.rd 0 Reg.XCHG_DROPPED_COUNT != 0
    | 0x19 => s.on 0 Reg.CAT_STAT_CHECK_FAIL
    | 0x1B => s.on 0 Reg.TICK_STAT_HOLDOVER
    | 0x1D | 0x1E | 0x1F | 0x20 =>
      (s.enabled 0 code && !s.on 0 (Reg.LINEn_STAT_LINK.p (code - 0x1D))) ||
        s.on 0 (Reg.LINEn_STAT_OVERSPAN.p (code - 0x1D))
    | 0x21 | 0x22 =>
      s.rd 0 (Reg.CANx_STAT_STATE.p (code - 0x21)) == 4 || s.on 0 (Reg.CANx_STAT_CFG_ERR.p (code - 0x21))
    | 0x23 => s.on 0 Reg.XSPI_STAT_ERROR
    | 0x25 => !s.on 0 Reg.FPX_STAT_PRESENT
    | 0x26 => s.rd 0 Reg.DBG_STAT_KEEPER_HALTED != 0
    | 0x27 => s.mode == 0 && s.rd 0 Reg.MODE_REASON_STOP_CAUSE != 1 && s.rd 0 Reg.MODE_REASON_STOP_CAUSE != 4
    | 0x29 => !s.on 0 Reg.IMG_STAT_SAFE_VALID
    | _ => false
  else if die = 1 then
    match code with
    | 0 => !s.on 0 Reg.FPX_STAT_PRESENT
    | 2 => (s.rd 1 Reg.F_FDO_STAT_SHORT != 0 || s.rd 1 Reg.F_FDO_STAT_OPEN != 0) || s.rd 1 Reg.F_FDO_STAT_THERMAL != 0
    | 3 => s.on 1 (Reg.F_FAO_READk_LOOP_FAULT.i 0) || s.on 1 (Reg.F_FAO_READk_LOOP_FAULT.i 1)
    | 5 => decide (2 ≤ s.rd 1 Reg.F_FSUP_STAT_LEVEL)
    | 6 => s.silenceFault
    | _ => false
  else
    match code with
    | 0x01 => !s.on die Reg.CLK_STAT_PLL_LOCK
    | 0x05 => s.rd die Reg.FAB_TIMEOUTS_COUNT != 0
    | 0x07 => s.rd die Reg.MEM_DE_COUNT != 0
    | 0x08 => s.rd die Reg.MARCH_STAT_STATE == 3
    | 0x09 => s.on die Reg.TTBL_STAT_CHECK_FAIL
    | 0x0A => s.on die Reg.BUDGET_OVR_VALID
    | 0x0B => s.on die Reg.SBOX_FAULT_VALID
    | 0x0E | 0x0F | 0x10 | 0x11 => s.rd die (Reg.COREn_LOST_COUNT.p (code - 0x0E)) != 0
    | 0x12 => (List.range 4).any fun n => (s.core die n).halted
    | _ => false

/-- Whether a key arming is in force on the page (R56). -/
def isArmed (s : State) (die code : Nat) : Bool :=
  match SMap.find? s.arming (die * 64 + code) with
  | some a => a.armed && decide (s.cycle < a.untilCycle)
  | none => false

/-- The header word at an offset below 0x100 (R51); a block that is not ready shows reset values (R53). -/
def headerWord (s : State) (die code off : Nat) : Nat :=
  match off with
  | 0x000 =>
    code + die * 256 + (if die = 0 then 0 else if die = 1 then 1 else 2) * 2048 +
      (if die = 0 ∧ 0x1D ≤ code ∧ code ≤ 0x20 then code - 0x1D else if die = 0 ∧ code = 0x22 then 1
        else if isScan die ∧ 0x0E ≤ code ∧ code ≤ 0x11 then code - 0x0E else 0) * 8192 + 1 * 32768
  | 0x004 => Config.blockRevision die code % 65536
  | 0x008 =>
    if s.notReady die code then 8 * ofBool (s.pageFault die code) else
    1 + 2 * ofBool (s.rd die (CLAMPS_COUNT code) != 0) +
      4 * ofBool (s.rd die (LOCKS_GROUP code) != 0) + 8 * ofBool (s.pageFault die code) +
      16 * ofBool (s.isArmed die code) +
      32 * ofBool (die == 1 && (bit s.fieldStale code || !s.on 0 Reg.FPX_STAT_PRESENT))
  | 0x00C => if s.notReady die code then 1 else ofBool (s.enabled die code)
  | off =>
    if s.notReady die code then 0
    else match off with
      | 0x010 => s.rd die (CLAMPS_COUNT code)
      | 0x018 => s.rd die (LOCKS_GROUP code)
      | 0x020 | 0x02C | 0x030 => s.irqRaw die code
      | 0x024 => s.rd die (IRQ_EN_SRC code)
      | 0x028 => s.irqRaw die code &&& s.rd die (IRQ_EN_SRC code)
      | _ => 0

/-- A field as a reader sees it (R10, R53): WO reads zero, a soft reset shows reset values. -/
def readField (s : State) (who die : Nat) (f : FieldDef) : Nat :=
  let g := f.w (s.winIx who die f.win)
  if f.acc = .wo then 0
  else if s.notReady die f.code then g.resetAt die
  else s.liveField die g (s.irqLine die) % 2 ^ f.width

/-- The word a register shows. -/
def readWord (s : State) (who die code off : Nat) : Nat :=
  if off < 0x100 then s.headerWord die code off
  else (regFields die code off).foldl (fun w f => w + s.readField who die f * 2 ^ f.lsb) 0

end State

end Sys2Proof.Machine
end

