-- ==== Sys2Proof/Machine/Ports.lean ====
section
/-! DEFINITION.  The ports of the Junction (spec/10 R323 to R335): fabric error entries, requests that fail, requests that
wait, and the latency of a request. -/

namespace Sys2Proof.Machine

open Sys2Proof.Bits

/-- Kinds of fabric error entries (R335). -/
inductive FabKind where
  | absent | aborted | timeout | unmapped | ecc | lostEntry | heldover | drop
  deriving DecidableEq, Repr

/-- The code of a kind (R335). -/
def FabKind.code : FabKind → Nat
  | .absent => 1 | .aborted => 2 | .timeout => 3 | .unmapped => 4 | .ecc => 5 | .lostEntry => 6 | .heldover => 7
  | .drop => 8

/-- The high word of an entry (R162). -/
def entryHi (sender tag : Nat) : Nat := sender * 2 ^ 24 + 2 ^ 23 + tag % 2 ^ 16

namespace State

/-- A die that the Junction reports as absent (R329): fenced or powered off. -/
def absentDie (s : State) (d : Nat) : Bool := isScan d && (!s.powered d || s.fenced d)

/-- Whether a hardware producer of a die holds a credit for a queue of that die (R331, R332). -/
def hwCredit (s : State) (die q : Nat) : Bool := s.qEnabled die q && decide (0 < s.credits 1 die q)

/-- A hardware producer of a die puts an entry into a queue of that die against a credit. -/
def hwEnter (s : State) (die q lo tag : Nat) : State :=
  (s.setCredits 1 die q (s.credits 1 die q - 1)).enterRing die q lo (entryHi (die * 32 + 31) tag)

/-- A hardware producer without credit drops its entry (R332). -/
def hwDrop (s : State) (die q : Nat) : State := (s.inc die (Reg.QUE_Qq_STAT_DROPS.i q)).irq die 0x06 16

/-- A fabric error entry goes to Q1 of the die of the affected master (R335); one that is dropped counts in `FAB.LOST`. -/
def fabricError (s : State) (kind : FabKind) (who addr : Nat) : State :=
  let die := whoDie who
  if s.hwCredit die 1 then s.hwEnter die 1 addr (who % 256 + kind.code * 256)
  else (s.hwDrop die 1).inc die Reg.FAB_LOST_COUNT

/-- A hardware producer of a die posts to a queue of that die other than Q1 (R331, R332): without credit the entry is dropped
and counted, with a fabric error entry of kind DROP that names the producer (R335; that this event posts it: log entry 27);
the result says whether it was posted. -/
def hwPost (s : State) (die q lo tag : Nat) : State × Bool :=
  if s.hwCredit die q then (s.hwEnter die q lo tag, true)
  else ((s.hwDrop die q).fabricError .drop (die * 32 + 31) 0, false)

/-- A request of `who` completes with TARGET_ABSENT (R47, R329). -/
def noteAbsent (s : State) (who addr : Nat) : State :=
  ((s.inc (whoDie who) Reg.FAB_ABSENT_COUNT).irq (whoDie who) 0x05 0).fabricError .absent who addr

/-- A request of `who` fails with ABORTED (R329). -/
def noteAborted (s : State) (who addr : Nat) : State :=
  ((s.inc (whoDie who) Reg.FAB_ABORTED_COUNT).irq (whoDie who) 0x05 1).fabricError .aborted who addr

/-- The end of a request of `who` to a die at an address, over the Junction or not, that cannot reach its target (R47,
R329): one of a fenced die's own masters fails with ABORTED, one to a fenced or unpowered die completes with TARGET_ABSENT.
-/
def barred (s : State) (who a target : Nat) (via : Bool) : Option State :=
  if via && isScan (whoDie who) && s.fenced (whoDie who) then some (s.noteAborted who a)
  else if (via || target != whoDie who) && s.absentDie target then some (s.noteAbsent who a)
  else none

/-- A Junction access finds nothing at its address (R45, R335). -/
def noteUnmapped (s : State) (who a : Nat) : State := if viaJunction a then s.fabricError .unmapped who a else s

/-! ### Latency (R38, R325) -/

/-- The longest grant wait of an arbiter with `n` requesters, in beats (R38). -/
def grantBound (s : State) (die n : Nat) : Nat := (n - 1) * s.rd die Reg.FAB_BURST_LIMIT_BEATS + n

/-- The cycles that the traversals of ports and hub add to a request and its reply (R325): the port of the master, the hub and
the port of a Scan target, 4 cycles each, both ways. -/
def traversal (target : Nat) : Nat := if isScan target then 24 else 16

/-- A request of `who` has completed in `cycles` cycles; its grant waits at the arbiter of its port (N = 6, or 8 on the Keeper)
and at the hub (N = 7) lie within the bounds of R38 and are else open (R352 MAXLAT, MAXWAIT; log entry 2). -/
def noteLatency (s : State) (who cycles : Nat) : State :=
  let (v, s) := s.drawFree
  let (u, s) := s.drawFree
  let port := Config.freeValue v % (s.grantBound (whoDie who) (if isScan (whoDie who) then 6 else 8) + 1)
  let hub := Config.freeValue u % (s.grantBound 0 7 + 1)
  ((s.wrMax (whoDie who) Reg.FAB_MAXLAT_CYCLES cycles).wrMax (whoDie who) Reg.FAB_MAXWAIT_BEATS port).wrMax 0
    Reg.FAB_MAXWAIT_BEATS hub

/-- Notes a request of `who` to a die, whose completion time is free between its traversals (R325) and 2,048 cycles (R38). -/
def noteRequest (s : State) (who target : Nat) : State :=
  let (v, s) := s.drawFree
  s.noteLatency who (traversal target + Config.freeValue v % (2049 - traversal target))

/-! ### Requests that wait (R50, R90, R91, R328) -/

/-- A held request is one at a bank fence; the others wait for the effect of a page write. -/
def atPage (r : HeldReq) : Bool := decide (0xF0000000 ≤ r.addr)

/-- Outstanding requests of a master that wait. -/
def outstanding (s : State) (who : Nat) : Nat := (s.holding.filter fun q => q.who == who && !q.failed).length

/-- Requests in the inbound holding buffer of a Scan die (R90). -/
def inbound (s : State) (die : Nat) : Nat := (s.holding.filter fun q => q.die == die && !q.failed && !atPage q).length

/-- A request, over the Junction or not, is stalled: in its master, which has 8 outstanding (R328), or at the hub, which
grants nothing to the spoke of a die whose holding buffer is full (R90).  One that waits already is not. -/
def stalled (s : State) (who target : Nat) (via waits : Bool) : Bool :=
  via && !waits && (decide (8 ≤ s.outstanding who) || (isScan target && decide (64 ≤ s.inbound target)))

/-- `FAB.STAT.HELD` of the die of `who`: the highest count of outstanding requests of any of its masters (R352). -/
def showHeld (s : State) (who : Nat) : State :=
  if isScan (whoDie who) then
    s.wr (whoDie who) Reg.FAB_STAT_HELD ((s.holding.filter fun r => whoDie r.who == whoDie who).foldl
      (fun m r => max m (s.outstanding r.who)) 0)
  else s

/-- A request begins to wait. -/
def holdRequest (s : State) (r : HeldReq) : State :=
  if s.holding.contains r then s
  else
    let s : State := { s with holding := s.holding ++ [r] }
    (if atPage r then s else s.wrMax r.die Reg.FAB_HOLD_MAX_ENTRIES (s.inbound r.die)).showHeld r.who

/-- A request waits no longer. -/
def unholdRequest (s : State) (r : HeldReq) : State :=
  if s.holding.contains r then ({ s with holding := s.holding.erase r } : State).showHeld r.who else s

/-- Whether a core or the DMA engine of a Scan die issued a request: it meets the access fault when it asks again. -/
def asksAgain (who : Nat) : Bool := isScan (whoDie who) && decide (whoIx who < 6)

/-- A waiting request fails: its master receives an access fault. -/
def failRequest (s : State) (r : HeldReq) : State :=
  let s := (s.unholdRequest r).reply r.who 0 true
  if asksAgain r.who then { s with holding := s.holding ++ [{ r with failed := true }] } else s

/-- The access fault that a master asking for `r` still has to meet; a master that asks for anything else has moved on. -/
def takeFailed (s : State) (r : HeldReq) : Bool × State :=
  (s.holding.contains { r with failed := true }, { s with holding := s.holding.filter fun q => !(q.failed && q.who == r.who) })

/-- The request of a page write whose response is held (R50). -/
def pageReq (w : Who) (die code off word : Nat) : HeldReq := ⟨die, w.code, w.user, true, regAddr die code off, 4, word, false⟩

/-- A page write is held (R50): its request waits, and `keep` notes what it will do. -/
def heldPage (s : State) (w : Who) (die code off word : Nat) (keep : State → State) : State :=
  let r := pageReq w die code off word
  if s.stalled w.code die true (s.holding.contains r) then s else keep (s.holdRequest r)

/-- A page write is held that will be done again from its request. -/
def holdPage (s : State) (w : Who) (die code off word : Nat) : State := s.heldPage w die code off word id

/-- The oldest request that waits for a write to a register. -/
def pageWaits (s : State) (die code off : Nat) : Option HeldReq :=
  s.holding.find? fun r => !r.failed && r.addr == regAddr die code off

/-- A page write takes effect whose response was held: the first such request of the master ends (R50). -/
def answerPage (s : State) (who die code off : Nat) : State :=
  match s.holding.find? fun r => r.who == who && !r.failed && r.addr == regAddr die code off with
  | some r => (s.unholdRequest r).reply who 0 false
  | none => s

/-- A read of a master with its effect `act`: one that cannot reach its target fails (R47, R329), one that is stalled waits in
its master or at the hub (R90, R328). -/
def reading (s : State) (w : Who) (a target : Nat) (act : State → State) : State :=
  match s.barred w.code a target true with
  | some t => t.reply w.code 0 true
  | none => if s.stalled w.code target true false then s else act s

end State

/-- The master of a waiting request. -/
def HeldReq.by (r : HeldReq) : Who := ⟨r.who, r.user⟩

end Sys2Proof.Machine
end

