-- ==== Sys2Proof/Machine/Pages.lean ====
section
/-! DEFINITION.  Page writes (spec/02): the checks, the clamps, the slips and the key sequence that every write to
a page passes, and the commands of the page header. -/

namespace Sys2Proof.Machine

open Sys2Proof.Bits

/-- Slip kinds (R60). -/
inductive SlipKind where
  | clamp | reserved | readOnly | key | locked | access | width | notReady | activeBank | srstRefused
  deriving DecidableEq, Repr

/-- The code of a slip kind (R60). -/
def SlipKind.code : SlipKind → Nat
  | .clamp => 1 | .reserved => 2 | .readOnly => 3 | .key => 4 | .locked => 5 | .access => 6 | .width => 7
  | .notReady => 8 | .activeBank => 9 | .srstRefused => 10

/-- Page code of the CLAMP page of a die (R65). -/
def clampPage (die : Nat) : Nat := if die = 1 then 7 else 4

/-- A field of the CLAMP page of a die. -/
def clampF (die : Nat) (f : FieldDef) : FieldDef := f.p (clampPage die - 4)

namespace State

/-- Logs one slip (R61 to R63): the ring entry, the counts, the interrupts and the Archive's copy. -/
def slip (s : State) (die code off lsb width : Nat) (kind : SlipKind) (who written applied : Nat) : State :=
  let ring := (clampF die Reg.CLAMP_RINGi_Ww).i (s.rd die (clampF die Reg.CLAMP_STAT_NEXT))
  let seq := s.rd die (clampF die Reg.CLAMP_SEQ_NEXT)
  let words := [regAddr die code off, lsb + width * 32 + kind.code * 2048 + who * 65536, written, applied,
    s.time % 2 ^ 32, s.time / 2 ^ 32, seq, 0]
  let s := (words.zipIdx).foldl (fun s wi => s.wr die (ring.i2 wi.2) wi.1) s
  let s := s.incWrap die (clampF die Reg.CLAMP_STAT_NEXT)
  let s := s.incWrap die (clampF die Reg.CLAMP_SEQ_NEXT)
  let s := (s.inc die (clampF die Reg.CLAMP_TOTAL_COUNT)).inc die (CLAMPS_COUNT code)
  let s := s.irq die (clampPage die) 0
  let s := if s.rd die (CLAMPS_COUNT code) = 65535 ∨ s.rd die (clampF die Reg.CLAMP_TOTAL_COUNT) = 2 ^ 32 - 1
    then s.irq die (clampPage die) 1 else s
  if s.on die (clampF die Reg.CLAMP_CTL_ARCHIVE) then s.archive code 64 .warning words else s

/-- A slip that is archived whatever `CLAMP.CTL.ARCHIVE` holds (R453, R455). -/
def slipKept (s : State) (die code off lsb width : Nat) (kind : SlipKind) (who written applied : Nat) : State :=
  let at' := s.rd die (clampF die Reg.CLAMP_STAT_NEXT)
  let s := s.slip die code off lsb width kind who written applied
  if s.on die (clampF die Reg.CLAMP_CTL_ARCHIVE) then s
  else s.archive code 64 .warning ((List.range 8).map fun w => s.rd die (((clampF die Reg.CLAMP_RINGi_Ww).i at').i2 w))

end State

/-- A slip still to be logged by a write: lowest bit, width, kind, written, applied. -/
structure PendingSlip where
  lsb : Nat
  width : Nat
  kind : SlipKind
  written : Nat
  applied : Nat
  deriving DecidableEq, Repr

/-- A write under way: the state, the word applied so far (WO bits included), the slips to come. -/
structure Writing where
  st : State
  applied : Nat
  slips : List PendingSlip

/-- What a page write came to: the state, and the word applied unless the write was refused as a whole. -/
structure Written where
  st : State
  applied : Option Nat

/-- Whether a W1C or W1S field holds its own bits; the others act on state held elsewhere. -/
def storesW1 (f : FieldDef) : Bool := f.code == 0x0C || f.code == 0x0D

/-- One field of a write (R10, R12, R59). -/
def writeField (who die word : Nat) (armed : Bool) (w : Writing) (f0 : FieldDef) : Writing :=
  let s := w.st
  let f := f0.w (s.winWr who die f0.win)
  let v := f.get word
  let cur := s.rd die f
  let v' := clamp s die f v w.applied
  let clampSlip : List PendingSlip := if v' = v then [] else [⟨f.lsb, f.width, .clamp, v, v'⟩]
  let took (s : State) : Writing := { st := s, applied := w.applied + v' * 2 ^ f.lsb, slips := w.slips ++ clampSlip }
  let refusedBy (k : SlipKind) : Writing :=
    { w with applied := w.applied + cur * 2 ^ f.lsb,
             slips := w.slips ++ if v = cur then [] else [⟨f.lsb, f.width, k, v, cur⟩] }
  match f.acc with
  | .rw => took (if f.win = .mask then s else s.wr die f v')
  | .rwl => if s.rd die (LOCKS_GROUP f.code) % 2 = 1 then refusedBy .locked else took (s.wr die f v')
  | .rwk => if armed then took (s.wr die f v') else refusedBy .key
  | .w1c => took (if storesW1 f then s.clearBits die f v' else s)
  | .w1s => took (if storesW1 f then s.setBits die f v' else s)
  | .wo => took s
  | .ro | .rc => w

/-- The bits of a register that belong to fields. -/
def fieldMask (fs : List FieldDef) : Nat := fs.foldl (fun m f => m ||| ((2 ^ f.width - 1) <<< f.lsb)) 0

/-- Inserts a slip behind those of the same or a lower bit (R63). -/
def insertSlip (p : PendingSlip) : List PendingSlip → List PendingSlip
  | [] => [p]
  | q :: qs => if p.lsb < q.lsb then p :: q :: qs else q :: insertSlip p qs

/-- Logs the slips of one write, lower LSB first (R63). -/
def logSlips (s : State) (die code off who : Nat) (l : List PendingSlip) : State :=
  (l.foldl (fun acc p => insertSlip p acc) []).foldl
    (fun s p => s.slip die code off p.lsb p.width p.kind who p.written p.applied) s

/-- Whether a master may write a page (R55, R60, R453). -/
def mayWrite (die code : Nat) (w : Who) : Bool :=
  let d := whoDie w.code
  if w.user then false
  else if die = 0 then
    if code = 0x0C then w.code == 0
    else if code = 0x06 ∨ code = 0x09 ∨ code = 0x11 then true else d == 0
  else if die = 1 then d == 0
  else d == 0 || (d == die && decide (whoIx w.code < 4))

/-- Whether a page refuses a soft reset now (R54). -/
def srstRefused (s : State) (die code : Nat) : Bool :=
  if die = 0 then
    [0x00, 0x01, 0x02, 0x03, 0x04, 0x0C, 0x0D, 0x0E, 0x16, 0x17].contains code ||
      (s.inRunHold && [0x0A, 0x0B, 0x18, 0x19, 0x1A, 0x15, 0x1D, 0x1E, 0x1F, 0x20].contains code)
  else if die = 1 then [0, 7, 6].contains code
  else [0x00, 0x01, 0x02, 0x03, 0x04].contains code ||
    (s.live die && [0x09, 0x0A, 0x0B, 0x0C, 0x0D, 0x0E, 0x0F, 0x10, 0x11].contains code)

/-- Where `State.arming` holds that a master has written the first key word of a page (R56). -/
def keyStep (die code who : Nat) : Nat := 512 + (die * 64 + code) * 256 + who

/-- Whether a master has written the first key word of a page and nothing else to the page since (R56). -/
def firstKey (s : State) (die code who : Nat) : Bool := (SMap.find? s.arming (keyStep die code who)).isSome

/-- The arming a write by `who` finds, and the state with the arming consumed or cancelled and the master's own key sequence
broken off (R56, R57). -/
def takeArming (s : State) (die code who : Nat) : Bool × State :=
  let k := die * 64 + code
  ((match SMap.find? s.arming k with
    | none => false
    | some a => a.armed && a.master == who && decide (s.cycle < a.untilCycle)),
   { s with arming := SMap.erase (SMap.erase s.arming k) (keyStep die code who) })

/-- A key word (R56): the first, the second after it (`first`), or a wrong one, which leaves the page unarmed. -/
def keyWord (s : State) (first : Bool) (die code who word : Nat) : State :=
  let v := word % 65536
  let s' :=
    if first && v == 0xA500 + code then
      { s with arming := SMap.insert s.arming (die * 64 + code) ⟨who, true, s.cycle + 64⟩ }
    else if !first && v == 0xC35A then { s with arming := SMap.insert s.arming (keyStep die code who) ⟨who, false, 0⟩ }
    else s.slip die code 0x014 0 16 .key who v 0
  if word / 65536 = 0 then s' else s'.slip die code 0x014 0 32 .reserved who word 0

/-- A write to a header register whose bits are sources or groups (R52, R58): bits of no source are slipped. -/
def writeBits (s : State) (die code off who word mask : Nat) (f : State → Nat → State) : Written :=
  let v := word &&& mask
  let s := f s v
  let s := if minus 32 word mask = 0 then s
    else s.slip die code off 0 32 .reserved who word (s.headerWord die code off)
  ⟨s, some v⟩

/-- A write that reaches its page: every check of R48 to R60 but the effect the register's chapter gives it. -/
def pageTake (s : State) (w : Who) (die code off word : Nat) : Written :=
  let who := w.code
  let present := s.readWord who die code off
  let first := firstKey s die code who
  let (armed, s) := takeArming s die code who
  if !mayWrite die code w then
    if die = 0 ∧ code = 0x0C then
      ⟨(s.slipKept die code off 0 32 .access who word present).inc 0 Reg.GUARD_REFUSED_COUNT, none⟩
    else ⟨s.slip die code off 0 32 .access who word present, none⟩
  else if s.notReady die code then
    ⟨s.slip die code off 0 32 .notReady who word present, none⟩
  else if off < 0x100 then
    match off with
    | 0x000 | 0x004 | 0x008 | 0x010 | 0x020 | 0x028 => ⟨s.slip die code off 0 32 .readOnly who word present, none⟩
    | 0x00C =>
      if bit word 1 && srstRefused s die code then ⟨s.slip die code off 0 32 .srstRefused who word present, none⟩
      else
        let s := s.wr die (PCTL_EN code) (word % 2)
        ⟨if word / 4 = 0 then s else s.slip die code off 0 32 .reserved who word (word % 2), some (word % 4)⟩
    | 0x014 => ⟨keyWord s first die code who word, some (word % 65536)⟩
    | 0x018 => writeBits s die code off who word (lockGroups die code) fun s v => s.setBits die (LOCKS_GROUP code) v
    | 0x024 => writeBits s die code off who word (irqSources die code) fun s v => s.wr die (IRQ_EN_SRC code) v
    | 0x02C => writeBits s die code off who word (irqSources die code) fun s v => s.clearBits die (IRQ_RAW_SRC code) v
    | 0x030 => writeBits s die code off who word (irqSources die code) fun s v => s.setBits die (IRQ_RAW_SRC code) v
    | _ => ⟨if word = 0 then s else s.slip die code off 0 32 .reserved who word 0, none⟩
  else
    let fs := regFields die code off
    if fs.isEmpty then ⟨if word = 0 then s else s.slip die code off 0 32 .reserved who word 0, none⟩
    else if fs.all (fun f => f.acc == .ro || f.acc == .rc) then
      ⟨s.slip die code off 0 32 .readOnly who word present, none⟩
    else if die ≠ 0 ∧ code = 0x09 ∧ off = 0x114 ∧ s.rd die Reg.TTBL_ROWSEL_BANK = s.activeBank die ∧ isScan die then
      ⟨s.slip die code off 0 32 .activeBank who word present, none⟩
    else
      let r := fs.foldl (writeField who die word armed) { st := s, applied := 0, slips := [] }
      let extra : List PendingSlip := if minus 32 word (fieldMask fs) = 0 then []
        else [⟨0, 32, .reserved, word, r.st.readWord who die code off⟩]
      ⟨logSlips r.st die code off who (r.slips ++ extra), some r.applied⟩

/-- A write to one register.  A request that cannot reach the die of the page fails without an effect (R47, R329), and one that
is stalled waits in its master or at the hub (R90, R328).  A write that several kinds refuse is slipped with the first that
applies in the order ACCESS, NOT_READY, READONLY or SRST_REFUSED, ACTIVE_BANK: the specification gives no order among them
(DESIGN CHOICE, log entry 25). -/
def pageWrite (s : State) (w : Who) (die code off word : Nat) : Written :=
  match s.barred w.code (regAddr die code off) die true with
  | some t => ⟨t.reply w.code 0 true, none⟩
  | none =>
    if s.stalled w.code die true false then ⟨s, none⟩ else pageTake s w die code off word

/-- Whether a soft reset clears the stored field under a key of the register store: RW and RWK fields of the
page and its `IRQ_RAW` and `IRQ_EN` (R53). -/
def softResetClears (die code key : Nat) : Bool :=
  let lsb := key % 32
  let off := key / 32 % 4096
  decide (key / 131072 % 64 = code) && decide (key / 8388608 % 8 = die) &&
    (if off < 0x100 then off == 0x00C || off == 0x020 || off == 0x024
     else (regFields die code off).any fun f => f.lsb == lsb && (f.acc == .rw || f.acc == .rwk))

/-- Keys of the task table's words and of the retained list, whose change loses `HOT_OK` (R199). -/
def hotKey (key : Nat) : Bool :=
  let off := key / 32 % 4096
  key / 8388608 % 8 == 0 &&
    ((key / 131072 % 64 == 0x28 && decide (0x104 ≤ off) && decide (off ≤ 0x10C)) ||
      (key / 131072 % 64 == 0x29 && ((off == 0x108 && key % 32 == 0) || (decide (0x400 ≤ off) && decide (off < 0x600)))))

/-- `MODE.STAT.HOT_OK` falls where the task table or the retained list has changed since `pre` (R199). -/
def hotChange (pre s : State) : State :=
  if pre.regs.filter (fun e => hotKey e.1) == s.regs.filter (fun e => hotKey e.1) then s else s.wr 0 Reg.MODE_STAT_HOT_OK 0

/-- A block soft reset starts (R53). -/
def softResetPage (s : State) (die code : Nat) : State :=
  hotChange s { s with
    regs := SMap.keep (fun k => !softResetClears die code k) s.regs
    arming := SMap.keep (fun k => k != die * 64 + code && !(decide (512 ≤ k) && (k - 512) / 256 == die * 64 + code)) s.arming
    softReset := SMap.insert s.softReset (die * 64 + code) (s.cycle + 256) }

/-! ### Commands of the page header -/

/-- The meaning of a write whose only effect is the store and its slips. -/
def plainWrite (w : Who) (die code off word : Nat) (s : State) : State := (pageWrite s w die code off word).st

/-- A write with an effect of its own, given the applied word. -/
def writeThen (w : Who) (die code off word : Nat) (s : State) (effect : State → Nat → State) : State :=
  let r := pageWrite s w die code off word
  match r.applied with
  | some v => effect r.st v
  | none => r.st

/-- KEY_WORD_WRITE (R56, R57). -/
def execKeyWordWrite (w : Who) (die code word : Nat) (s : State) : Result :=
  .next (if (pageFields die code).isSome then plainWrite w die code 0x014 word s else s)

/-- ARMING_EXPIRY (R56): the arming ends; before its 64 cycles are over nothing has happened, so the clock moves. -/
def execArmingExpiry (die code : Nat) (s : State) : Result :=
  .next (match SMap.find? s.arming (die * 64 + code) with
    | some _ => { s with arming := SMap.erase s.arming (die * 64 + code) }
    | none => s)

/-- LOCK_GROUP_SET (R58). -/
def execLockGroupSet (w : Who) (die code word : Nat) (s : State) : Result :=
  .next (if (pageFields die code).isSome then plainWrite w die code 0x018 word s else s)

/-- SOFT_RESET_END (R53): `PSTAT.READY` returns to 1; of the SYS page of a Scan die, its power-up has ended (R51). -/
def execSoftResetEnd (die code : Nat) (s : State) : Result :=
  .next { s with softReset := SMap.erase s.softReset (die * 64 + code) }

/-- IRQ_CLEAR (R52).  `events` names the sources whose event falls in the same cycle: the event wins. -/
def execIrqClear (w : Who) (die code word events : Nat) (s : State) : Result :=
  .next (if (pageFields die code).isSome then
    writeThen w die code 0x02C word s fun s _ => s.setBits die (IRQ_RAW_SRC code) (events &&& irqSources die code)
  else s)

/-- IRQ_SET (R52). -/
def execIrqSet (w : Who) (die code word : Nat) (s : State) : Result :=
  .next (if (pageFields die code).isSome then plainWrite w die code 0x030 word s else s)

/-- Clears the slip counts of every page of a die and the total; the ring is kept (R61). -/
def clampZero (s : State) (die : Nat) : State :=
  (List.range 0x2A).foldl (fun s c => s.wr die (CLAMPS_COUNT c) 0) (s.wr die (clampF die Reg.CLAMP_TOTAL_COUNT) 0)

/-- CLAMP_ZERO (R61): a write to `CLAMP.CTL`. -/
def execClampZero (w : Who) (die word : Nat) (s : State) : Result :=
  .next (if (pageFields die (clampPage die)).isSome then
    writeThen w die (clampPage die) 0x100 word s fun s v => if bit v 1 then clampZero s die else s
  else s)

end Sys2Proof.Machine
end

