-- ==== Sys2Proof/Machine/Triggers.lean ====
section
/-! DEFINITION.  Triggers of event and error tasks (spec/06 R187 to R189). -/

namespace Sys2Proof.Machine

open Sys2Proof.Bits

namespace State

/-- TYPE of a task (R184): 0 unused, 1 periodic, 2 event, 3 error. -/
def taskType (s : State) (t : Nat) : Nat := s.rd 0 (Reg.TASK_CFG_TYPE.w t)

/-- One occurrence of a task's source or cause (R188, R207). -/
def occur (s : State) (t : Nat) : State :=
  let s := if s.on 0 (Reg.TASK_STAT_PENDING.w t) then s.irq 0 0x28 0 else s.wr 0 (Reg.TASK_STAT_PENDING.w t) 1
  s.inc 0 (Reg.TASK_STAT_PEND_COUNT.w t)

/-- An occurrence of an error cause for one task (R189); `station` is the dropped station, 1,024 for none. -/
def occurCause (s : State) (t cause station : Nat) : State :=
  let c := SMap.get ⟨0, 1024⟩ s.causes t
  ({ s with causes := SMap.put ⟨0, 1024⟩ s.causes t ⟨c.mask ||| (1 <<< cause), min c.station station⟩ }).occur t

/-- An error cause arises: every error task that serves it gets an occurrence (R189). -/
def raiseCause (s : State) (cause : Nat) : State :=
  ((List.range 64).filter fun t => s.taskType t == 3 && bit (s.rd 0 (Reg.TASK_ERR_CAUSES.w t)) cause).foldl
    (fun s t => s.occurCause t cause 1024) s

/-- A source of KIND `k` with SRC `src` occurs (R187); `edge` passes the EDGE test of a KIND 1 source. -/
def sourceOccurs (s : State) (k src : Nat) (edge : Nat → Bool) : State :=
  ((List.range 64).filter fun t => s.taskType t == 2 && s.rd 0 (Reg.TASK_TRIG_KIND.w t) == k &&
      s.rd 0 (Reg.TASK_TRIG_SRC.w t) == src && edge (s.rd 0 (Reg.TASK_TRIG_EDGE.w t))).foldl occur s

end State

end Sys2Proof.Machine
end

