-- ==== Sys2Proof/Machine/Timetable.lean ====
section
/-! DEFINITION.  The Timetable (spec/03 R80 to R96, R101, R102): rows, points set, slots and their ends. -/

namespace Sys2Proof.Machine

open Sys2Proof.Bits

namespace State

/-! ### Names and dies -/

/-- The physical die that serves a name (R283, `PART.ALIAS`). -/
def dieOf (s : State) (name : Nat) : Nat := field (s.rd 0 Reg.PART_ALIAS_DIES) (3 * (name - 2)) 3

/-- The name that a physical die serves, if any. -/
def nameOf? (s : State) (die : Nat) : Option Nat := scanDies.find? fun n => s.dieOf n == die

/-- Whether a mask of names (bit k for Sk) names the die. -/
def named (s : State) (mask die : Nat) : Bool :=
  match s.nameOf? die with
  | some n => inDies mask n
  | none => false

/-! ### Rows -/

/-- Frame number (R66). -/
def frameNo (s : State) : Nat := s.rd2 0 Reg.TICK_FRAME_LO_N Reg.TICK_FRAME_HI_N

/-- Minor frame of the present frame (R68). -/
def minor (s : State) : Nat := s.rd 0 Reg.TICK_STAT_MINOR

/-- Minor frame of the rows that run: that of the mirrored frame which a standby executes (R302). -/
def rowMinor (s : State) : Nat :=
  match s.pair.apply with
  | some x => x.frame % s.rd 0 Reg.TICK_MAJOR_FRAMES
  | none => s.minor

/-- Whether row `r` of a bank is valid. -/
def rowValid (s : State) (die bank r : Nat) : Bool := s.rowField die bank r Reg.TTBL_ROW_W3_VALID == 1

/-- The valid rows of a bank, rising. -/
def validRows (s : State) (die bank : Nat) : List Nat :=
  (s.listed die Reg.TTBL_ROW_W3_VALID).filterMap fun k => if k / 512 = bank then some (k % 512) else none

/-- Whether a valid row runs in minor frame `m` (R82). -/
def rowSelected (s : State) (die bank r m : Nat) : Bool :=
  s.rowValid die bank r &&
    m % s.rowField die bank r Reg.TTBL_ROW_W3_EVERY == s.rowField die bank r Reg.TTBL_ROW_W3_PHASE

/-- The rows of the active bank selected for minor frame `m` (R74). -/
def selectedRows (s : State) (die m : Nat) : List Nat :=
  (s.validRows die (s.activeBank die)).filter fun r => s.rowSelected die (s.activeBank die) r m

/-! ### The check of R83 -/

/-- Whether two valid rows meet in a minor frame of the major cycle in which both run. -/
def rowsMeet (s : State) (die bank a b : Nat) : Bool :=
  (List.range (s.rd 0 Reg.TICK_MAJOR_FRAMES)).any fun m => s.rowSelected die bank a m && s.rowSelected die bank b m

/-- Whether the spans of two rows overlap. -/
def spansOverlap (s : State) (die bank a b : Nat) : Bool :=
  let sa := s.rowField die bank a Reg.TTBL_ROW_W0_START
  let sb := s.rowField die bank b Reg.TTBL_ROW_W0_START
  decide (sa < sb + s.rowField die bank b Reg.TTBL_ROW_W1_LENGTH) &&
    decide (sb < sa + s.rowField die bank a Reg.TTBL_ROW_W1_LENGTH)

/-- Whether `ENTRY` is in the range that R81 gives for the engine. -/
def entryLegal (eng entry : Nat) : Bool :=
  match eng with
  | 0 => decide (entry < 131072)
  | 1 | 2 | 3 | 4 =>
    decide ((eng - 1) * 0x100000 ≤ entry) && decide (entry < eng * 0x100000) && entry % 4 == 0
  | 5 => decide (entry < 16)
  | 6 => decide (0x700000 ≤ entry) && decide (entry < 0x800000) && entry % 8 == 0
  | _ => false

/-- The reasons for which row `r` fails against itself and the valid rows below it, lowest first. -/
def rowReasons (s : State) (die bank r : Nat) : List Nat :=
  let f := s.rowField die bank r
  let below := (s.validRows die bank).filter (· < r)
  let eng := f Reg.TTBL_ROW_W0_ENGINE
  let fence := f Reg.TTBL_ROW_W3_FENCE
  let every := f Reg.TTBL_ROW_W3_EVERY
  let task := f Reg.TTBL_ROW_W1_TASK
  let tests : List (Nat × Bool) :=
    [(1, below.any fun b => s.rowField die bank b Reg.TTBL_ROW_W0_ENGINE == eng &&
        s.rowsMeet die bank b r && s.spansOverlap die bank b r),
     (2, decide ((s.rd 0 Reg.FWATCH_COMMIT_AT_US - 1) * 200 <
        f Reg.TTBL_ROW_W0_START + f Reg.TTBL_ROW_W1_LENGTH)),
     (3, (eng == 0 || eng == 5 || bit fence 5 || bit fence 7) &&
        decide (f Reg.TTBL_ROW_W0_START < s.rd 0 Reg.FWATCH_SPREAD_BY_US * 200)),
     (4, s.rd 0 Reg.TICK_MAJOR_FRAMES % every != 0 || decide (every ≤ f Reg.TTBL_ROW_W3_PHASE)),
     (5, !entryLegal eng (f Reg.TTBL_ROW_W2_ENTRY)),
     (6, f Reg.TTBL_ROW_W3_SHUNT == 1 && (eng != 6 ||
        below.any fun b => s.rowField die bank b Reg.TTBL_ROW_W3_SHUNT == 1 && s.rowsMeet die bank b r)),
     (7, s.rd 0 (Reg.TASK_CFG_TYPE.w task) == 0 || !inDies (s.rd 0 (Reg.TASK_CFG_DIES.w task)) die)]
  (tests.filter (·.2)).map (·.1)

/-- The first failing row of a bank and its lowest reason (R83). -/
def checkBank (s : State) (die bank : Nat) : Option (Nat × Nat) :=
  (s.validRows die bank).findSome? fun r =>
    (s.rowReasons die bank r).head?.map fun k => (r, k)

/-! ### Points set -/

/-- Abandons a check and cancels a pending swap of one die. -/
def dropPoints (s : State) (die : Nat) : State :=
  { (s.wr die Reg.TTBL_STAT_CHECKING 0).wr die Reg.TTBL_STAT_PENDING 0 with
    checkPassed := SMap.erase s.checkPassed die }

/-- Ends a part-wide points set as failed, naming a die (R96). -/
def failPart (s : State) (die : Nat) : State :=
  let s := (scanDies.filter (inDies s.points.named)).foldl dropPoints s
  let s := { s with points := ⟨false, 0, 0⟩ }
  (((s.wr 0 Reg.TICK_STAT_POINTS_PENDING 0).wr 0 Reg.TICK_STAT_POINTS_FAIL 1).wr 0 Reg.TICK_STAT_FAIL_DIE die).irq
    0 0x0A 4

/-- A die's own POINTS, CANCEL or shadow write ends a part-wide set that names it (R96). -/
def disturbPart (s : State) (die : Nat) : State :=
  if s.points.standing && inDies s.points.named die then s.failPart die else s

/-- A check of the shadow bank starts (R95): a pending swap is cancelled, a running check begins anew.  `CHECK_FAIL` falls;
whether `FAIL_ROW` and `FAIL_REASON` fall with it R101 does not say: they keep the last failure (DESIGN CHOICE, log entry
37). -/
def startCheck (s : State) (die : Nat) : State :=
  ((s.dropPoints die).wr die Reg.TTBL_STAT_CHECK_FAIL 0).wr die Reg.TTBL_STAT_CHECKING 1

/-- A die that cannot be checked (R96): off, its rail absent, fenced, OUT or RETIRED. -/
def uncheckable (s : State) (die : Nat) : Bool :=
  !s.powered die || !inDies (s.rd 0 Reg.PART_STAT_PRESENT) die || s.fenced die || decide (2 ≤ s.role die)

/-- Points set to several dies together (R96). -/
def pointsGo (s : State) (mask : Nat) : State :=
  let s := if s.points.standing then (scanDies.filter (inDies s.points.named)).foldl dropPoints s else s
  let s := (s.wr 0 Reg.TICK_STAT_POINTS_FAIL 0).wr 0 Reg.TICK_STAT_POINTS_PENDING 0
  if mask = 0 then { s with points := ⟨false, 0, 0⟩ }
  else
    let s := { s with points := ⟨true, mask, 0⟩ }
    let dies := scanDies.filter (inDies mask)
    let s := dies.foldl startCheck s
    match dies.find? s.uncheckable with
    | some d => s.failPart d
    | none => s

/-- The end of a die's check (R83, R95, R96).  TICK source 3 POINTS_DONE, whose instant R99 does not give, is raised when
the last named die has passed, not at the swap (DESIGN CHOICE, log entry 37). -/
def endCheck (s : State) (die : Nat) : State :=
  let s := s.wr die Reg.TTBL_STAT_CHECKING 0
  let inPart := s.points.standing && inDies s.points.named die
  match s.checkBank die (1 - s.activeBank die) with
  | some (r, k) =>
    let s := ((s.wr die Reg.TTBL_STAT_CHECK_FAIL 1).wr die Reg.TTBL_STAT_FAIL_ROW r).wr die Reg.TTBL_STAT_FAIL_REASON k
    let s := s.irq die 0x09 1
    if inPart then s.failPart die else s
  | none =>
    let s := { s.wr die Reg.TTBL_STAT_PENDING 1 with checkPassed := SMap.insert s.checkPassed die s.cycle }
    if inPart then
      let p := s.points.passed ||| dieBit die
      let s := { s with points := { s.points with passed := p } }
      if p = s.points.named then (s.wr 0 Reg.TICK_STAT_POINTS_PENDING 1).irq 0 0x0A 3 else s
    else s

/-- Swaps the banks of one die (R95). -/
def swapBanks (s : State) (die : Nat) : State :=
  let s := s.wr die Reg.TTBL_STAT_ACTIVE (1 - s.activeBank die)
  let s := ((s.incWrap die Reg.TTBL_SWAPS_COUNT).wr die Reg.TTBL_STAT_PENDING 0).irq die 0x09 0
  { s with checkPassed := SMap.erase s.checkPassed die }

/-- Whether a die's check succeeded at least 256 cycles ago (R95). -/
def swapDue (s : State) (die : Nat) : Bool :=
  match SMap.find? s.checkPassed die with
  | some c => s.on die Reg.TTBL_STAT_PENDING && decide (c + 256 ≤ s.cycle)
  | none => false

/-- The swaps of a major-cycle boundary (R95, R96). -/
def boundarySwaps (s : State) : State :=
  let partDies := if s.points.standing then scanDies.filter (inDies s.points.named) else []
  let alone := scanDies.filter fun d => s.swapDue d && !partDies.contains d
  let s := alone.foldl swapBanks s
  if !partDies.isEmpty && partDies.all s.swapDue then
    { (partDies.foldl swapBanks s).wr 0 Reg.TICK_STAT_POINTS_PENDING 0 with points := ⟨false, 0, 0⟩ }
  else s

/-! ### Slots -/

/-- A Keeper firmware activation suspends the frames (R498). -/
def outage (s : State) : Bool := s.rd 0 Reg.UPD_KSTAT_STATE == 2

/-- A Scan die whose clocks run (R466). -/
def clocked (s : State) (d : Nat) : Bool := isScan d && s.powered d && !inDies (s.rd 0 Reg.PWR_STAT_RETAINED) d

/-- Whether the part is the standby of a pair (R297): BULK to TAKING. -/
def standby (s : State) : Bool :=
  decide (3 ≤ s.rd 0 Reg.PAIR_STAT_STATE) && decide (s.rd 0 Reg.PAIR_STAT_STATE ≤ 8)

/-- The banks fenced by the running rows of a die, those of engine `but` aside. -/
def fenceBut (s : State) (die but : Nat) : Nat :=
  (List.range 7).foldl (fun m e => match s.slot? die e with
    | some x => if x.running && e != but then m ||| x.fence else m
    | none => m) 0

/-- The banks fenced by the running rows of a die (R90). -/
def fenceMask (s : State) (die : Nat) : Nat := s.fenceBut die 7

/-- Cycle of the Commit sample of the present frame (R76). -/
def sampleCycle (s : State) : Nat := s.frame.tickCycle + 200 * s.rd 0 Reg.FWATCH_COMMIT_AT_US

/-- Commit-ready of a die (R75), raised in cycle `c`: in a frame that runs rows, once every row selected for the frame has
ended, the Spread has ended (R73) and no essential row has overrun (R88).  One that comes in the sampling cycle or after it
is too late for the Frame watch ("When commit-ready reaches the Frame watch in the sampling cycle"). -/
def raiseReady (s : State) (die c : Nat) : State :=
  let ended := SMap.get [] s.rowsEnded die
  if s.frame.ticked && (s.prog.frameMode == 1 || s.prog.frameMode == 3) && s.live die &&
      inDies s.frame.spreadDone die && !inDies s.frame.overrun die && !inDies s.frame.late die &&
      !s.on die Reg.PLAT_STAT_READY && (s.selectedRows die s.rowMinor).all (ended.contains ·) then
    let s := s.wrB die Reg.PLAT_STAT_READY true
    if c < s.sampleCycle then
      { s with frame := { s.frame with ready := s.frame.ready ||| dieBit die, readyCycle := max s.frame.readyCycle c } }
    else s
  else s

/-- A Signal Box row ends (R137): it no longer runs, and the cycles of a SYNC that still waits are counted. -/
def endSboxRow (s : State) (die : Nat) : State :=
  let w := (SMap.get ⟨0, 0, 0⟩ s.sboxes die).waited
  let s := if s.on die Reg.SBOX_STAT_SYNC_WAIT then
      (s.add die Reg.SBOX_SYNC_CYCLES_COUNT w).wrMax die Reg.SBOX_SYNC_MAX_CYCLES w else s
  (s.wr die Reg.SBOX_STAT_RUNNING 0).wr die Reg.SBOX_STAT_SYNC_WAIT 0

/-- The row of an engine ends (R84): its fence lifts, the die may raise commit-ready. -/
def endRow (s : State) (die e : Nat) : State :=
  match s.slot? die e with
  | some x =>
    if x.running then
      let s := if e = 0 then s.endSboxRow die else s
      let s := (s.setSlot die e { x with running := false }).wr die (Reg.BUDGET_ENGe_ROW_RUNNING.i e) 0
      let c := max s.cycle (x.start + x.used)
      let s : State := { s with
        rowsEnded := SMap.put [] s.rowsEnded die (SMap.get [] s.rowsEnded die ++ [x.row])
        aon := { s.aon with stillAt := max s.aon.stillAt c } }
      s.raiseReady die c
    else s
  | none => s

/-- The work of the engine's row is done (R84, R85): `BUDGET.MINLEFT` keeps the least counter value. -/
def workDone (s : State) (die e : Nat) : State :=
  if s.working die e then
    let row := ((s.slot? die e).map Slot.row).getD 0
    let s := { s with rowsDone := SMap.put [] s.rowsDone die (SMap.get [] s.rowsDone die ++ [row]) }
    (s.wrMin die (Reg.BUDGET_MINLEFTe_CYCLES.i e) (s.budgetLeft die e)).endRow die e
  else s

/-- The engine's row is cut off, or stopped without its work done (R84, R87, R88). -/
def cutOff (s : State) (die e : Nat) : State :=
  match s.slot? die e with
  | some x =>
    if x.running && !x.idle then
      let s := { s with skipped := SMap.put 0 s.skipped die (SMap.get 0 s.skipped die ||| (1 <<< x.task)) }
      let s := ((s.inc die (Reg.BUDGET_SKIPt_COUNT.i x.task)).wr die (Reg.BUDGET_MINLEFTe_CYCLES.i e) 0).irq die 0x0A 0
      let s := s.wr 0 (Reg.TASK_STAT_SKIPPED.w x.task) 1
      let s := if s.live die then s.raiseCause 1 else s
      let s := s.archive 0x0A 0 .info [x.task, s.rd 0 (Reg.TASK_CFG_PRIO.w x.task), x.row, s.frameNo % 2 ^ 32]
      let s := if x.essential then
          let s := ((s.wr die Reg.BUDGET_OVR_ROW x.row).wr die Reg.BUDGET_OVR_ENGINE e).wr die Reg.BUDGET_OVR_VALID 1
          let s := (s.wr die Reg.BUDGET_OVR_FRAME_N s.frameNo).irq die 0x0A 1
          { s with frame := { s.frame with overrun := s.frame.overrun ||| dieBit die } }
        else s
      s.endRow die e
    else s.endRow die e
  | none => s

end State

/-! ### Commands -/

/-- The fields of a Timetable row. -/
def rowFields : List FieldDef :=
  [Reg.TTBL_ROW_W0_START, Reg.TTBL_ROW_W0_ENGINE, Reg.TTBL_ROW_W1_LENGTH, Reg.TTBL_ROW_W1_TASK,
   Reg.TTBL_ROW_W2_ENTRY, Reg.TTBL_ROW_W3_FENCE, Reg.TTBL_ROW_W3_ESSENTIAL, Reg.TTBL_ROW_W3_EVENT,
   Reg.TTBL_ROW_W3_SHUNT, Reg.TTBL_ROW_W3_VALID, Reg.TTBL_ROW_W3_EVERY, Reg.TTBL_ROW_W3_PHASE]

/-- Copies the fields of one table entry on to another. -/
def copyEntry (s : State) (die : Nat) (fs : List FieldDef) (src dst : Nat) : State :=
  fs.foldl (fun s f => s.wr die (f.w dst) (s.rd die (f.w src))) s

/-- What a stored `ROW_W3` write does: the row, AUTOINC, and the end of points set (R96, R101). -/
def rowStored (die : Nat) (s : State) (_ : Nat) : State :=
  let bank := s.rd die Reg.TTBL_ROWSEL_BANK
  let row := s.rd die Reg.TTBL_ROWSEL_ROW
  let s := copyEntry s die rowFields staged (bank * 512 + row)
  let s := if s.on die Reg.TTBL_ROWSEL_AUTOINC then s.wr die Reg.TTBL_ROWSEL_ROW (row + 1) else s
  if s.points.standing && inDies s.points.named die then s.failPart die
  else if s.on die Reg.TTBL_STAT_CHECKING || s.on die Reg.TTBL_STAT_PENDING then s.dropPoints die else s

/-- TTBL_ROW_WRITE (R94, R96, R101): a write to `TTBL.ROW_W3`. -/
def execTtblRowWrite (w : Who) (die word : Nat) (s : State) : Result :=
  .next (if isScan die then writeThen w die 0x09 0x114 word s (rowStored die) else s)

/-- What a write to `TTBL.CTL` does: CANCEL first, then POINTS (R95, R96). -/
def ttblCtl (die : Nat) (s : State) (v : Nat) : State :=
  let s := if bit v 0 || bit v 1 then s.disturbPart die else s
  let s := if bit v 1 then s.dropPoints die else s
  if bit v 0 then s.startCheck die else s

/-- TTBL_POINTS (R95): a write to `TTBL.CTL` with POINTS set. -/
def execTtblPoints (w : Who) (die word : Nat) (s : State) : Result :=
  .next (if isScan die then writeThen w die 0x09 0x100 (word ||| 1) s (ttblCtl die) else s)

/-- TTBL_CANCEL (R95): a write to `TTBL.CTL` with CANCEL set and POINTS clear. -/
def execTtblCancel (w : Who) (die : Nat) (s : State) : Result :=
  .next (if isScan die then writeThen w die 0x09 0x100 2 s (ttblCtl die) else s)

/-- POINTS_CHECK_END (R83): the check of a die ends; nothing when none runs. -/
def execPointsCheckEnd (die : Nat) (s : State) : Result :=
  .next (if isScan die && s.on die Reg.TTBL_STAT_CHECKING then s.endCheck die else s)

/-- What a write to `TICK.POINTS` does (R96). -/
def tickPoints (s : State) (v : Nat) : State :=
  if bit v 8 then s.pointsGo (s.rd 0 Reg.TICK_POINTS_DIES) else s

/-- TICK_POINTS_GO (R96): a write to `TICK.POINTS` with GO set. -/
def execTickPointsGo (w : Who) (dies : Nat) (s : State) : Result :=
  .next (writeThen w 0 0x0A 0x114 (0x100 ||| dies) s tickPoints)

/-- What a write to `FWATCH.CTL` does (R100). -/
def fwatchCtl (s : State) (v : Nat) : State :=
  if bit v 0 then s.resetField 0 Reg.FWATCH_MARGIN_CYCLES else s

/-- MARGIN_CLEAR (R100). -/
def execMarginClear (w : Who) (word : Nat) (s : State) : Result :=
  .next (writeThen w 0 0x0B 0x108 word s fwatchCtl)

end Sys2Proof.Machine
end

