-- ==== Sys2Proof/Machine/BitStore.lean ====
section
/-! DEFINITION.  The bit store (spec/04 R103 to R106), the Timer rack's status view, ECC reporting (R339), and the
Timer rack's calls (R128 to R132). -/

namespace Sys2Proof.Machine

open Sys2Proof.Bits

/-- Address of word `w` of bit-store space `sp` of a die (R46). -/
def bitAddr (die sp w : Nat) : Nat := phys die (0x800000 + sp * 0x20000 + w * 8)

/-- The bank of an own-die address (R46, R336). -/
def bankOf (die a : Nat) : Nat :=
  if die = 0 then a / 0x100000
  else if a < 0x400000 then a / 0x100000 else if a < 0x600000 then 4 else if a < 0x700000 then 5
  else if a < 0x800000 then 6 else 7

namespace State

/-- Records an ECC error met by a reader (R339). -/
def noteEcc (s : State) (die a who : Nat) : State :=
  let own := a / 8 * 8
  let e := s.eccAt (phys die own)
  if e = 0 then s
  else
    let s := ((s.wr die Reg.MEM_LAST_ERR_ADDR own).wr die Reg.MEM_LAST_ERR_INFO_DOUBLE (e - 1)).wr die
      Reg.MEM_LAST_ERR_INFO_BANK (bankOf die own)
    let s := s.wr die Reg.MEM_LAST_ERR_INFO_MASTER who
    if e = 1 then (s.inc die Reg.MEM_CE_COUNT).irq die 0x07 0
    else ((s.inc die Reg.MEM_DE_COUNT).irq die 0x07 1).archive 0x07 1 .fault [die, own, who]

end State

/-- The 64-bit word whose lane k is `f k`. -/
def lanes (f : Nat → Bool) : DWord := BitVec.ofNat 64 (maskOf ((List.range 64).filter f))

/-- Word `w` of space T: the rack's status bits (R105). -/
def rackWord (s : State) (die w : Nat) : DWord :=
  if w < 128 then lanes fun k => (s.timer die (64 * w + k)).q
  else if w < 256 then lanes fun k => (s.timer die (64 * (w - 128) + k)).run
  else if w < 320 then lanes fun k => (s.counter die (64 * (w - 256) + k)).qu
  else if w < 384 then lanes fun k => (s.counter die (64 * (w - 320) + k)).qd
  else if w < 448 then lanes fun k => (s.counter die (64 * (w - 384) + k)).sat
  else 0

/-- The value of a populated bit-store word (R103 to R106). -/
def bitWord (s : State) (die sp w : Nat) : DWord :=
  if sp = 4 then rackWord s die w
  else if sp = 6 ∧ w = 0 then 0
  else if sp = 6 ∧ w = 1 then BitVec.allOnes 64
  else if sp = 7 ∧ (36 ≤ w ∨ (18 ≤ w ∧ w ≤ 31)) then 0
  else BitVec.ofNat 64 (s.load (bitAddr die sp w) 8)

/-- Stores a bit-store word; words 0 and 1 of space K take nothing (R104). -/
def setBitWord (s : State) (die sp w : Nat) (v : DWord) : State :=
  if sp = 6 ∧ w < 2 then s else s.store (bitAddr die sp w) 8 v.toNat

/-! ### Timer and counter calls -/

/-- A timer call with input `x` at rack time `t` (R129); `ty` 0 TON, 1 TOF, 2 TP. -/
def Timer.call (tm : Timer) (ty pt t : Nat) (x : Bool) : Timer :=
  let el (start : Nat) : Nat := (t + 2 ^ 32 - start) % 2 ^ 32
  match ty with
  | 0 =>
    if x then
      let tm := if tm.inp then tm else { tm with run := true, start := t }
      let e := el tm.start
      let tm := if tm.run && decide (pt ≤ e) then { tm with run := false, q := true } else tm
      { tm with et := if tm.q then pt else e, inp := true }
    else { tm with run := false, q := false, et := 0, inp := false }
  | 1 =>
    if x then { tm with run := false, q := true, et := 0, inp := true }
    else
      let tm := if tm.inp then { tm with run := true, start := t, fell := true } else tm
      let e := el tm.start
      let tm := if tm.run && decide (pt ≤ e) then { tm with run := false, q := false } else tm
      { tm with et := if tm.run then e else if tm.fell then pt else 0, inp := false }
  | _ =>
    let tm := if x && !tm.inp && !tm.run then { tm with run := true, q := true, start := t } else tm
    let e := el tm.start
    let tm :=
      if tm.run && decide (pt ≤ e) then { tm with run := false, q := false, et := pt }
      else if tm.run then { tm with et := e }
      else if !x then { tm with et := 0 } else tm
    { tm with inp := x }

/-- A timer after TRESET (R117). -/
def Timer.reset (tm : Timer) : Timer := { tm with run := false, q := false, inp := false, et := 0, fell := false }

/-- QU and QD after a call or a TRESET (R130). -/
def Counter.settle (c : Counter) (pv : Int) : Counter := { c with qu := decide (pv ≤ c.cv), qd := decide (c.cv ≤ 0) }

/-- The count-up input (R130): the counter, and whether it saturated. -/
def Counter.up (c : Counter) (pv : Int) (x : Bool) : Counter × Bool :=
  let edge := x && !c.cu
  let full := edge && c.cv == 2147483647
  (({ c with cv := if edge && !full then c.cv + 1 else c.cv, sat := c.sat || full, cu := x }).settle pv, full)

/-- The count-down input (R130): the counter, and whether it saturated. -/
def Counter.down (c : Counter) (pv : Int) (x : Bool) : Counter × Bool :=
  let edge := x && !c.cd
  let full := edge && c.cv == -2147483648
  (({ c with cv := if edge && !full then c.cv - 1 else c.cv, sat := c.sat || full, cd := x }).settle pv, full)

/-- A counter after TRESET (R117): CV becomes 0 or PV. -/
def Counter.reset (c : Counter) (pv : Int) (load : Bool) : Counter :=
  ({ c with cv := if load then pv else 0, sat := false, cu := false, cd := false }).settle pv

namespace State

/-- Rack time of the present frame (R128). -/
def rackTime (s : State) (die : Nat) : Nat := s.rd die Reg.TIMR_TIME_T

/-- Calls timer `i` with input `x`. -/
def callTimer (s : State) (die i : Nat) (x : Bool) : State :=
  s.setTimer die i
    ((s.timer die i).call (s.rd die (Reg.TIMR_CFG_TYPE.w i)) (s.rd die (Reg.TIMR_PRESET_VALUE.w i)) (s.rackTime die) x)

/-- Preset of counter `i`. -/
def counterPv (s : State) (die i : Nat) : Int := toInt 32 (s.rd die (Reg.TIMR_PRESET_VALUE.w (8192 + i)))

/-- A saturation of a counter is reported (R130). -/
def noteSat (s : State) (die : Nat) (full : Bool) : State :=
  if full then
    { s.irq die 0x0C 1 with dieFlags := SMap.put 0 s.dieFlags die (SMap.get 0 s.dieFlags die ||| 4) }
  else s

/-- A call of a counter's count-up or count-down input. -/
def callCounter (s : State) (die i : Nat) (down x : Bool) : State :=
  let r := if down then (s.counter die i).down (s.counterPv die i) x else (s.counter die i).up (s.counterPv die i) x
  (s.setCounter die i r.1).noteSat die r.2

/-- Applies `f` to the lanes of a mask. -/
def eachLane (s : State) (m : DWord) (f : State → Nat → State) : State :=
  ((List.range 64).filter fun k => m.getLsbD k).foldl f s

end State

end Sys2Proof.Machine
end

