-- ==== Sys2Proof/Machine/Fabric.lean ====
section
/-! DEFINITION.  The Junction's port fences, fabric error entries, hardware queues and Tokens (spec/10 R323 to R335,
R350 to R353, R356), and the commands of the FAB, QUE and TOKEN pages. -/

namespace Sys2Proof.Machine

open Sys2Proof.Bits

/-- A page write whose effect also depends on the state before it. -/
def writeWith (w : Who) (die code off word : Nat) (s : State) (effect : State → State → Nat → State) : State :=
  let r := pageWrite s w die code off word
  match r.applied with
  | some v => effect s r.st v
  | none => r.st

/-! ### Queues -/

/-- The source of an entry by its sender byte: the port whose credit it took (R332). -/
def entrySource (hi : Nat) : Nat := if hi / 2 ^ 24 % 32 = 31 then 1 else hi / 2 ^ 29 % 8

namespace State

/-- Pops the head of a queue: its entry, and the credit on its way back (R332, R334). -/
def popQueue (s : State) (die q : Nat) : State × Option QEntry :=
  match s.ring die q with
  | [] => (s, none)
  | e :: rest =>
    ({ s.setRing die q rest with
       creditsDue := s.creditsDue ++ [⟨entrySource e.hi, die, q⟩], dirty := s.markSlot die q e.slot }, some e)

/-- The status of QPUT and `QUE.PUSH` (R162): 0 SENT, 1 NO_CREDIT, 2 ABSENT, 3 BAD_DEST. -/
def putStatus (s : State) (port die q : Nat) : Nat :=
  if die = 1 ∨ 7 < die then 3 else if s.absentDie die then 2 else if s.credits port die q = 0 then 1 else 0

/-- Sends an entry against a credit (R162, R331).  A request of a fenced die's own master fails with ABORTED (R329): nothing is
sent, with status ABSENT (R162 gives no other for it: log entry 28). -/
def putEntry (s : State) (who die q tag lo : Nat) : State × Nat :=
  let st := s.putStatus (whoDie who) die q
  if isScan (whoDie who) && s.fenced (whoDie who) then (s.noteAborted who 0, 2)
  else if st = 0 then
    let s := s.setCredits (whoDie who) die q (s.credits (whoDie who) die q - 1)
    ({ s with flights := s.flights ++ [⟨die, q, lo % 2 ^ 32, entryHi who tag, false⟩] }, 0)
  else (s, st)

/-- The destination die of a master's queue operation: cores and debug of Scan dies use names (R283). -/
def destDie (s : State) (who name : Nat) : Nat :=
  if isScan (whoDie who) && isScan name then s.dieOf name else name

/-- Grants a queue's allotments as credits (R331). -/
def grantCredits (s : State) (die q : Nat) : State :=
  (List.range 8).foldl (fun s src =>
    let f := if src < 4 then (Reg.QUE_Qq_ALLOT_LO_SRCs.i q).j src else (Reg.QUE_Qq_ALLOT_HI_SRCs.i q).j (src - 4)
    s.setCredits src die q (s.rd die f)) s

/-- Recalls every credit of a queue and empties its ring; entries still in flight will be discarded (R334). -/
def emptyQueue (s : State) (die q : Nat) : State :=
  let s := (List.range 8).foldl (fun s src => s.setCredits src die q 0) (s.setRing die q [])
  { s with
    creditsDue := s.creditsDue.filter fun c => !(c.dst == die && c.queue == q)
    flights := s.flights.map fun f => if f.die = die ∧ f.queue = q then { f with recalled := true } else f }

/-- What a write to `QUE.Qq_CFG` does (R331, R334, R353). -/
def queueCfg (die q : Nat) (pre s : State) (v : Nat) : State :=
  if bit v 0 then
    let s := (s.wr die (Reg.QUE_Qq_STAT_DROPS.i q) 0).wr die (Reg.QUE_Qq_STAT_DISCARDS.i q) 0
    if pre.qEnabled die q then s else s.grantCredits die q
  else s.emptyQueue die q

/-! ### Tokens -/

/-- A token mask over its two registers, with bit `t` set to `b`. -/
def setTokenBit (s : State) (lo hi : FieldDef) (t : Nat) (b : Bool) : State :=
  s.wr2 0 lo hi (setBit (s.rd2 0 lo hi) t b)

/-- Whether a Token is held. -/
def tokenHeld (s : State) (t : Nat) : Bool := bit (s.rd2 0 Reg.TOKEN_HELD_LO_TOKENS Reg.TOKEN_HELD_HI_TOKENS) t

/-- Whether the next grant of a Token carries BROKEN. -/
def tokenBroken (s : State) (t : Nat) : Bool :=
  bit (s.rd2 0 Reg.TOKEN_BROKEN_LO_TOKENS Reg.TOKEN_BROKEN_HI_TOKENS) t

/-- The owner of a Token, the last one when it is not held. -/
def tokenOwner (s : State) (t : Nat) : Nat := s.rd 0 (Reg.TOKEN_OWNER_MASTER.w t)

/-- Sets HELD. -/
def setHeld (s : State) (t : Nat) (b : Bool) : State :=
  s.setTokenBit Reg.TOKEN_HELD_LO_TOKENS Reg.TOKEN_HELD_HI_TOKENS t b

/-- Sets BROKEN. -/
def setBroken (s : State) (t : Nat) (b : Bool) : State :=
  s.setTokenBit Reg.TOKEN_BROKEN_LO_TOKENS Reg.TOKEN_BROKEN_HI_TOKENS t b

/-- Sets a HELDOVER bit. -/
def setHeldover (s : State) (t : Nat) (b : Bool) : State :=
  s.setTokenBit Reg.TOKEN_HELDOVER_LO_TOKENS Reg.TOKEN_HELDOVER_HI_TOKENS t b

/-- One try to take a Token (R163, R350, R351): the code. -/
def acquireToken (s : State) (who t : Nat) : State × Nat :=
  if s.tokenHeld t then (s, if s.tokenOwner t = who then 3 else 2)
  else
    let code := if s.tokenBroken t then 1 else 0
    (((s.setHeld t true).setBroken t false).wr 0 (Reg.TOKEN_OWNER_MASTER.w t) who, code)

/-- The release of a Token (R163). -/
def releaseToken (s : State) (who t : Nat) : State × Nat :=
  if s.tokenHeld t && s.tokenOwner t == who then ((s.setHeld t false).setHeldover t false, 0) else (s, 4)

/-- The hardware returns a Token whose owner is lost (R351). -/
def returnToken (s : State) (t : Nat) : State :=
  let s' := ((s.setHeld t false).setBroken t true).setHeldover t false
  ((s'.irq 0 0x09 0).inc 0 Reg.TOKEN_RETURNS_COUNT).archive 0x09 0 .info [t, s.tokenOwner t]

/-- Returns every Token whose owner satisfies `p` (R351). -/
def returnTokens (s : State) (p : Nat → Bool) : State :=
  (List.range 64).foldl (fun s t => if s.tokenHeld t && p (s.tokenOwner t) then s.returnToken t else s) s

/-- Flags the Tokens held at a major-cycle boundary (R351). -/
def heldOverTokens (s : State) : State :=
  (List.range 64).foldl (fun s t =>
    if s.tokenHeld t then
      let o := s.tokenOwner t
      (((s.setHeldover t true).fabricError .heldover o 0).irq 0 0x09 1).archive 0x09 1 .fault [t, o]
    else s) s

/-! ### Port fences -/

/-- Sets the fence of a die on the Keeper's and the die's own FAB page, with the FENCE interrupts (R329, R352). -/
def setFence (s : State) (d : Nat) (b : Bool) : State :=
  let s := if b then s.setBits 0 Reg.FAB_STAT_FENCED (dieBit d) else s.clearBits 0 Reg.FAB_STAT_FENCED (dieBit d)
  ((s.wr d Reg.FAB_STAT_FENCED (ofBool b)).irq 0 0x05 2).irq d 0x05 2

/-- A waiting request meets the fence of die `d` (R329): of its own masters it fails with ABORTED, of others it completes with
TARGET_ABSENT. -/
def fenceRequest (d : Nat) (s : State) (r : HeldReq) : State :=
  (if whoDie r.who = d then s.noteAborted r.who r.addr else s.noteAbsent r.who r.addr).failRequest r

/-- The hub raises a port fence (R329): the requests that wait at the die and those of its masters fail, and the Tokens of its
masters return (R351). -/
def raiseFence (s : State) (d : Nat) : State :=
  if s.fenced d then s
  else
    let gone := s.holding.filter fun r => !r.failed && (r.die == d || whoDie r.who == d)
    (gone.foldl (fenceRequest d) (s.setFence d true)).returnTokens fun o => whoDie o == d

/-- What a write to `FAB.FENCE` does. -/
def fabFence (s : State) (v : Nat) : State := (scanDies.filter (inDies v)).foldl raiseFence s

/-- What a write to `FAB.UNFENCE` does: bits out of its Range were clamped away (R329, R352). -/
def fabUnfence (s : State) (v : Nat) : State :=
  (scanDies.filter fun d => inDies v d && s.fenced d).foldl (fun s d => s.setFence d false) s

end State

/-! ### Commands -/

/-- FAB_FENCE (R329): a write to `FAB.FENCE`. -/
def execFabFence (w : Who) (word : Nat) (s : State) : Result :=
  .next (writeThen w 0 0x05 0x104 word s State.fabFence)

/-- FAB_UNFENCE (R329): a write to `FAB.UNFENCE`. -/
def execFabUnfence (w : Who) (word : Nat) (s : State) : Result :=
  .next (writeThen w 0 0x05 0x108 word s State.fabUnfence)

/-- Whether a die has a QUE page. -/
def hasQueues (die : Nat) : Bool := die == 0 || isScan die

/-- QUEUE_ENABLE (R331): a write to `QUE.Qq_CFG` with EN set. -/
def execQueueEnable (w : Who) (die q word : Nat) (s : State) : Result :=
  .next (if hasQueues die && decide (q < 16) then
    writeWith w die 0x06 (0x200 + 0x20 * q) (word ||| 1) s (State.queueCfg die q) else s)

/-- QUEUE_DISABLE (R334): a write to `QUE.Qq_CFG` with EN clear. -/
def execQueueDisable (w : Who) (die q word : Nat) (s : State) : Result :=
  .next (if hasQueues die && decide (q < 16) then
    writeWith w die 0x06 (0x200 + 0x20 * q) (word / 2 * 2) s (State.queueCfg die q) else s)

/-- What a write to `QUE.PUSH` does (R162, R331). -/
def quePush (w : Who) (die : Nat) (s : State) (v : Nat) : State :=
  let r := s.putEntry w.code (s.destDie w.code (field v 4 3)) (field v 0 4) (field v 16 16)
    (s.rd die Reg.QUE_PUSH_LO_DATA)
  r.1.wr die (Reg.QUE_PUSH_STAT_STATUS.w w.code) r.2

/-- QUEUE_PUSH (R331): a write to `QUE.PUSH`. -/
def execQueuePush (w : Who) (die word : Nat) (s : State) : Result :=
  .next (if hasQueues die then writeThen w die 0x06 0x10C word s (quePush w die) else s)

/-- What a write to `QUE.Qq_POP` does (R334). -/
def quePop (die q : Nat) (s : State) (v : Nat) : State := if bit v 0 then (s.popQueue die q).1 else s

/-- QUEUE_POP (R334): a write to `QUE.Qq_POP`. -/
def execQueuePop (w : Who) (die q word : Nat) (s : State) : Result :=
  .next (if hasQueues die && decide (q < 16) then
    writeThen w die 0x06 (0x20C + 0x20 * q) word s (quePop die q) else s)

/-- Removes the first element that satisfies `p`. -/
def takeFirst {α : Type} (p : α → Bool) : List α → Option (α × List α)
  | [] => none
  | a :: as => if p a then some (a, as) else (takeFirst p as).map fun r => (r.1, a :: r.2)

/-- QUEUE_ENTRY_ARRIVAL (R333, R334, R329): the oldest entry of a sender to a queue arrives at its port: it enters the
ring, or is discarded where the queue is disabled or the die is fenced or off. -/
def execQueueEntryArrival (sender die queue : Nat) (s : State) : Result :=
  .next (match takeFirst (fun f : Flight => f.hi / 2 ^ 24 == sender && f.die == die && f.queue == queue) s.flights with
    | none => s
    | some (f, rest) =>
      let s : State := { s with flights := rest }
      if s.absentDie die then
        let due : CreditDue := ⟨entrySource f.hi, die, queue⟩
        let s := { s with creditsDue := s.creditsDue ++ [due] }
        (s.inc 0 Reg.FAB_LOST_COUNT).fabricError .lostEntry sender 0
      else if s.qEnabled die queue && !f.recalled then s.enterRing die queue f.lo f.hi
      else (s.inc die (Reg.QUE_Qq_STAT_DISCARDS.i queue)).irq die 0x06 17)

/-- CREDIT_RETURN (R332): a returned credit reaches the sender's port. -/
def execCreditReturn (src die queue : Nat) (s : State) : Result :=
  .next (match takeFirst (fun c : CreditDue => c.src == src && c.dst == die && c.queue == queue) s.creditsDue with
    | none => s
    | some (_, rest) =>
      { s.setCredits src die queue (s.credits src die queue + 1) with creditsDue := rest })

/-- What a write to `TOKEN.ACQ` does (R350). -/
def tokenAcqWrite (w : Who) (s : State) (v : Nat) : State :=
  let r := s.acquireToken w.code (v % 64)
  r.1.wr 0 (Reg.TOKEN_RESULT_CODE.w w.code) r.2

/-- What a write to `TOKEN.REL` does (R350). -/
def tokenRelWrite (w : Who) (s : State) (v : Nat) : State :=
  let r := s.releaseToken w.code (v % 64)
  r.1.wr 0 (Reg.TOKEN_RESULT_CODE.w w.code) r.2

/-- TOKEN_PAGE_ACQ (R350): a write to `TOKEN.ACQ`. -/
def execTokenPageAcq (w : Who) (word : Nat) (s : State) : Result :=
  .next (writeThen w 0 0x09 0x100 word s (tokenAcqWrite w))

/-- TOKEN_PAGE_REL (R350): a write to `TOKEN.REL`. -/
def execTokenPageRel (w : Who) (word : Nat) (s : State) : Result :=
  .next (writeThen w 0 0x09 0x104 word s (tokenRelWrite w))

/-- Whether a waiting request is held at the fence of a running row: it does not count as issued before the fence lifts
(R91). -/
def heldAtFence (s : State) (r : HeldReq) : Bool :=
  isScan r.die && !State.atPage r && bit (s.fenceMask r.die) (bankOf r.die (r.addr % 0x1000000))

/-- The outstanding request of a master at an address that R327 times. -/
def timedRequest (s : State) (who addr : Nat) : Option HeldReq :=
  s.holding.find? fun r => r.who == who && r.addr == addr && !r.failed && !heldAtFence s r

/-- JUNCTION_TIMEOUT (R327, R335): an outstanding request of a master has not completed in 2,048 cycles from its issue, and
fails with ABORTED. -/
def execJunctionTimeout (w : Who) (addr : Nat) (s : State) : Result :=
  .next (match timedRequest s w.code addr with
    | none => s
    | some r =>
      let s := (s.inc 0 Reg.FAB_TIMEOUTS_COUNT).irq 0 0x05 3
      let s := (s.inc (whoDie w.code) Reg.FAB_ABORTED_COUNT).irq (whoDie w.code) 0x05 1
      let s := (s.fabricError .timeout w.code addr).archive 0x05 3 .fault [addr, w.code]
      s.failRequest r)

end Sys2Proof.Machine
end

