-- ==== Sys2Proof/Machine/Can.lean ====
section
/-! DEFINITION.  CAN-A and CAN-B (spec/11 R357 to R376): states, transmit buffers, error confinement, the receive FIFO
and the Porter's forwarding service.  Reception is in `Machine/Auth.lean`. -/

namespace Sys2Proof.Machine

open Sys2Proof.Bits

/-- Data length of a frame by its DLC (R365). -/
def dlcBytes (dlc : Nat) (fdf rtr : Bool) : Nat :=
  if rtr then 0
  else if !fdf then min dlc 8
  else match dlc with
    | 9 => 12 | 10 => 16 | 11 => 20 | 12 => 24 | 13 => 32 | 14 => 48 | 15 => 64 | n => n

/-- The smallest DLC that holds `n` bytes. -/
def dlcFor (n : Nat) : Nat := ((List.range 16).find? fun d => decide (n ≤ dlcBytes d true false)).getD 15

/-- The 32-bit words of bytes, the last padded with zeros. -/
def wordsOf : Nat → List Byte → List Nat
  | 0, _ => []
  | n + 1, bs => ofLE (bs.take 4) :: wordsOf n (bs.drop 4)

namespace State

/-- The part holds the Tablet (R306: HELD). -/
def tabletHeld (s : State) : Bool := s.rd 0 Reg.TABLET_STAT_STATE == 2

/-- State of a transmit buffer (R362). -/
def txState (s : State) (ch b : Nat) : Nat := s.rd 0 ((Reg.CANx_TXSTAT_STb.p ch).j b)

/-- Controller state (R376). -/
def canState (s : State) (ch : Nat) : Nat := s.rd 0 (Reg.CANx_STAT_STATE.p ch)

/-- `EN` of the controller together with `PCTL.EN` (R376). -/
def canEnabled (s : State) (ch : Nat) : Bool := s.enabled 0 (0x21 + ch) && s.on 0 (Reg.CANx_CTL_EN.p ch)

/-- A controller entry (R370). -/
def canEntry (s : State) (ch tag : Nat) : State := (s.hwPost 0 (6 + ch) (s.time % 2 ^ 32) tag).1

/-- The controller changes state (R368). -/
def setCanState (s : State) (ch st : Nat) : State :=
  if s.canState ch = st then s
  else ((s.wr 0 (Reg.CANx_STAT_STATE.p ch) st).irq 0 (0x21 + ch) 2).canEntry ch (3 + st * 512)

/-- The completion entry of the transmit service (R373). -/
def serviceDone (s : State) (ch b st : Nat) : State :=
  match SMap.find? (s.can ch).service b with
  | none => s
  | some (die, q, tag) =>
    let s := s.setCan ch { s.can ch with service := SMap.erase (s.can ch).service b }
    if q = 0 then s else (s.putEntry 1 die q tag st).1

/-- A buffer reaches a final state (R362). -/
def txFinal (s : State) (ch b st : Nat) : State :=
  let s := (s.wr 0 ((Reg.CANx_TXSTAT_STb.p ch).j b) st).clearBits 0 (Reg.CANx_TXSTAT_ABORT_PEND.p ch) (1 <<< b)
  let s := (s.irq 0 (0x21 + ch) 1).canEntry ch (2 + b * 16 + st * 64)
  let s := if (s.can ch).onBus = some b then s.setCan ch { s.can ch with onBus := none } else s
  (s.wrB 0 (Reg.CANx_STAT_TX_BUSY.p ch) (s.can ch).onBus.isSome).serviceDone ch b st

/-- Cancels every PENDING buffer (R362). -/
def cancelAll (s : State) (ch : Nat) : State :=
  (List.range 3).foldl (fun s b => if s.txState ch b = 1 then s.txFinal ch b 6 else s) s

/-- The order of arbitration of a buffer's frame (R361). -/
def busKey (s : State) (ch b : Nat) : Nat :=
  let ide := s.rd 0 ((Reg.CANx_TXBb_W0_IDE.p ch).i b)
  let id := s.rd 0 ((Reg.CANx_TXBb_W0_ID.p ch).i b)
  let rtr := s.rd 0 ((Reg.CANx_TXBb_W1_RTR.p ch).i b)
  (if ide = 0 then id % 2048 * 2 ^ 20 else id / 2 ^ 18 % 2048 * 2 ^ 20 + 2 ^ 19 + id % 2 ^ 18 * 2) + rtr

/-- The buffer that starts at the next opportunity (R361). -/
def txPick (s : State) (ch : Nat) : Option Nat :=
  ((List.range 3).filter fun b => s.txState ch b == 1).foldl (fun p b => match p with
    | none => some b
    | some a => if s.on 0 (Reg.CANx_CTL_TXORDER.p ch) || decide (s.busKey ch a ≤ s.busKey ch b) then some a else some b)
    none

/-- The buffer whose frame is on the bus when a bus event of a transmission falls. -/
def txOnBus (s : State) (ch : Nat) : Option Nat := ((s.can ch).onBus <|> s.txPick ch)

/-- Whether the frame that starts next has its start of frame behind it, where no event on the bus has yet said so: a free value
(R361, R363; log entry 2).  A frame that is on the bus keeps it. -/
def mayBegin (s : State) (ch : Nat) : State :=
  match (s.can ch).onBus, s.txPick ch with
  | none, some a =>
    if s.canState ch = 2 ∨ s.canState ch = 3 then
      let (n, s) := s.drawFree
      if Config.freeValue n % 2 = 1 then
        (s.setCan ch { s.can ch with onBus := some a }).wr 0 (Reg.CANx_STAT_TX_BUSY.p ch) 1
      else s
    else s
  | _, _ => s

/-- A request of a buffer (R360, R362, R367).  One that comes behind a start of frame waits for the next opportunity (R361). -/
def txRequest (s : State) (ch b : Nat) : State :=
  if s.txState ch b = 1 then s
  else if s.on 0 (Reg.CANx_CTL_LISTEN.p ch) || !s.canEnabled ch then s.txFinal ch b 6
  else (s.mayBegin ch).wr 0 ((Reg.CANx_TXSTAT_STb.p ch).j b) 1

/-- An abort of a buffer (R363): the frame on the bus is only marked. -/
def txAbort (s : State) (ch b : Nat) : State :=
  if s.txState ch b ≠ 1 then s
  else
    let s := if s.txPick ch = some b then s.mayBegin ch else s
    if (s.can ch).onBus = some b then s.setBits 0 (Reg.CANx_TXSTAT_ABORT_PEND.p ch) (1 <<< b) else s.txFinal ch b 4

/-- Loads TXB0 with a firmware frame and requests it (R371). -/
def loadTxb0 (s : State) (ch id : Nat) (data : List Byte) : State :=
  let dlc := dlcFor data.length
  let s := (s.wr 0 (Reg.CANx_TXBb_W0_IDE.p ch) 0).wr 0 (Reg.CANx_TXBb_W0_ID.p ch) id
  let s := ((s.wr 0 (Reg.CANx_TXBb_W1_DLC.p ch) dlc).wr 0 (Reg.CANx_TXBb_W1_FDF.p ch) 1).wr 0 (Reg.CANx_TXBb_W1_BRS.p ch) 1
  let s := s.wr 0 (Reg.CANx_TXBb_W1_RTR.p ch) 0
  let s := (wordsOf 16 data).zipIdx.foldl (fun s w => s.wr 0 ((Reg.CANx_TXBb_Dk_DATA.p ch).i2 w.2) w.1) s
  s.txRequest ch 0

/-- Moves waiting firmware frames into TXB0 while it is free. -/
def loadWaiting (s : State) (ch : Nat) : State :=
  let frames := (s.can ch).waiting
  let s := s.setCan ch { s.can ch with waiting := [] }
  frames.foldl (fun s f =>
    if s.txState ch 0 = 1 then s.setCan ch { s.can ch with waiting := (s.can ch).waiting ++ [f] }
    else s.loadTxb0 ch f.1 f.2) s

/-- Keeper firmware sends a CAN FD frame from TXB0 (R371). -/
def canSend (s : State) (ch id : Nat) (data : List Byte) : State :=
  (s.setCan ch { s.can ch with waiting := (s.can ch).waiting ++ [(id, data)] }).loadWaiting ch

/-- A buffer reaches a final state on the bus; TXB0 takes the next firmware frame. -/
def txEnds (s : State) (ch b st : Nat) : State := (s.txFinal ch b st).loadWaiting ch

/-- The bit timing of R358. -/
def timingOk (s : State) (ch : Nat) : Bool :=
  let n := s.rd 0 (Reg.CANx_NBT_BRP.p ch) * (1 + s.rd 0 (Reg.CANx_NBT_TSEG1.p ch) + s.rd 0 (Reg.CANx_NBT_TSEG2.p ch))
  let d := s.rd 0 (Reg.CANx_DBT_BRP.p ch) * (1 + s.rd 0 (Reg.CANx_DBT_TSEG1.p ch) + s.rd 0 (Reg.CANx_DBT_TSEG2.p ch))
  decide (200 ≤ n) && (!s.on 0 (Reg.CANx_CTL_FD_EN.p ch) || (decide (25 ≤ d) && decide (d ≤ n)))

/-- The enable of a controller takes effect (R358, R376). -/
def canApply (s : State) (ch : Nat) : State :=
  if s.canEnabled ch then
    if s.canState ch ≠ 0 then s
    else if s.timingOk ch then (s.wr 0 (Reg.CANx_STAT_CFG_ERR.p ch) 0).setCanState ch 1
    else (s.wr 0 (Reg.CANx_STAT_CFG_ERR.p ch) 1).irq 0 (0x21 + ch) 6
  else (s.setCanState ch 0).cancelAll ch

/-- Shows the FIFO's fill. -/
def showFifo (s : State) (ch : Nat) : State := s.wr 0 (Reg.CANx_RXSTAT_COUNT.p ch) (s.can ch).fifo.length

/-- Clears the head lock. -/
def unlockRx (s : State) (ch : Nat) : State :=
  (s.wr 0 (Reg.CANx_RXSTAT_LOCKED.p ch) 0).wr 0 (Reg.CANx_RXSTAT_LOCK_MASTER.p ch) 0

/-- Empties the FIFO (R366). -/
def flushRx (s : State) (ch : Nat) : State := ((s.setCan ch { s.can ch with fifo := [] }).showFifo ch).unlockRx ch

/-- Pops the head entry. -/
def popRx (s : State) (ch : Nat) : State :=
  ((s.setCan ch { s.can ch with fifo := (s.can ch).fifo.drop 1 }).showFifo ch).unlockRx ch

/-- Words of an entry up to its last (R365). -/
def entryWords (e : List Nat) : Nat :=
  let w := (e[1]?).getD 0
  4 + (dlcBytes (w % 16) (bit w 4) (bit w 6) + 3) / 4

/-- The side effect of a read of RX word `j` (R366). -/
def rxRead (s : State) (who ch j : Nat) : State :=
  match (s.can ch).fifo with
  | [] => s
  | e :: _ =>
    if s.on 0 (Reg.CANx_RXSTAT_LOCKED.p ch) then
      if s.rd 0 (Reg.CANx_RXSTAT_LOCK_MASTER.p ch) = who % 256 ∧ j + 1 = entryWords e then s.popRx ch else s
    else if j = 0 then
      (s.wr 0 (Reg.CANx_RXSTAT_LOCKED.p ch) 1).wr 0 (Reg.CANx_RXSTAT_LOCK_MASTER.p ch) who
    else s

/-- Error-active, error-passive or bus-off by the counters (R368). -/
def confine (s : State) (ch tec rec : Nat) : State :=
  let s := (s.wr 0 (Reg.CANx_ERR_TEC.p ch) (min tec 255)).wr 0 (Reg.CANx_ERR_REC.p ch) (min rec 255)
  if 255 < tec then
    let s := ((s.setCanState ch 4).irq 0 (0x21 + ch) 3).inc 0 (Reg.CANx_EVENTS_BUS_OFFS.p ch)
    let s := s.setCan ch { s.can ch with busOffAt := s.cycle, onBus := none }
    (s.cancelAll ch).archive (0x21 + ch) 3 .fault [ch]
  else s.setCanState ch (if 128 ≤ tec ∨ 128 ≤ rec then 3 else 2)

/-- The receive error counter after a good reception (ISO 11898-1, R368); above 127 it becomes a free value from 119 to
127 (log entry 2). -/
def goodReceive (s : State) (ch : Nat) : State :=
  let rec' := s.rd 0 (Reg.CANx_ERR_REC.p ch)
  let (n, s') := s.drawFree
  if s.on 0 (Reg.CANx_CTL_LISTEN.p ch) ∨ rec' = 0 then s
  else if 127 < rec' then s'.confine ch (s.rd 0 (Reg.CANx_ERR_TEC.p ch)) (119 + Config.freeValue n % 9)
  else s.confine ch (s.rd 0 (Reg.CANx_ERR_TEC.p ch)) (rec' - 1)

/-- Whether the controller takes part in traffic. -/
def onTheBus (s : State) (ch : Nat) : Bool := s.canState ch == 2 || s.canState ch == 3

end State

/-! ### Register effects -/

/-- What a write to `CANx.CTL` does (R358, R366, R369). -/
def canCtl (ch : Nat) (pre s : State) (v : Nat) : State :=
  let s := if bit v 6 then s.flushRx ch else s
  let s := if s.on 0 (Reg.CANx_CTL_RECOVER.p ch) && !pre.on 0 (Reg.CANx_CTL_RECOVER.p ch) && s.canState ch == 4 then
      s.setCanState ch 5 else s
  s.canApply ch

/-- What a write to `CANx.TXCMD` does: REQ first, then ABORT (R363). -/
def canTxcmd (ch : Nat) (s : State) (v : Nat) : State :=
  let fresh := (List.range 3).filter fun b => bit v b && bit v (3 + b) && s.txState ch b != 1
  let s := ((List.range 3).filter (bit v)).foldl (fun s b => s.txRequest ch b) s
  ((List.range 3).filter fun b => bit v (3 + b)).foldl (fun s b =>
    if fresh.contains b && s.txState ch b == 1 then s.txFinal ch b 4 else s.txAbort ch b) s

/-- What a soft reset does to a controller (R376). -/
def canSoftReset (s : State) (ch : Nat) : State := ((s.cancelAll ch).flushRx ch).setCanState ch 0

/-! ### Commands -/

/-- CAN_ENABLE (R358): a write to `CANx.CTL`. -/
def execCanEnable (w : Who) (ch word : Nat) (s : State) : Result :=
  .next (if ch < 2 then writeWith w 0 (0x21 + ch) 0x100 word s (canCtl ch) else s)

/-- CAN_INTEGRATED (R358): after 11 recessive bits; the counters start at zero (ISO 11898-1). -/
def execCanIntegrated (ch : Nat) (s : State) : Result :=
  .next (if ch < 2 ∧ s.canState ch = 1 then s.confine ch 0 0 else s)

/-- CAN_TX_REQUEST (R360): a write to `CANx.TXCMD` that requests buffers. -/
def execCanTxRequest (w : Who) (ch buffers : Nat) (s : State) : Result :=
  .next (if ch < 2 then writeThen w 0 (0x21 + ch) 0x118 (buffers % 8) s (canTxcmd ch) else s)

/-- CAN_TX_ABORT (R363): a write to `CANx.TXCMD` that aborts buffers. -/
def execCanTxAbort (w : Who) (ch buffers : Nat) (s : State) : Result :=
  .next (if ch < 2 then writeThen w 0 (0x21 + ch) 0x118 (buffers % 8 * 8) s (canTxcmd ch) else s)

/-- CAN_ARBITRATION_LOST (R361, R363): the frame on the bus loses. -/
def execCanArbitrationLost (ch : Nat) (s : State) : Result :=
  .next (match (if ch < 2 ∧ s.onTheBus ch then s.txOnBus ch else none) with
    | none => s
    | some b =>
      if bit (s.rd 0 (Reg.CANx_TXSTAT_ABORT_PEND.p ch)) b then s.txEnds ch b 4
      else (s.setCan ch { s.can ch with onBus := none }).wr 0 (Reg.CANx_STAT_TX_BUSY.p ch) 0)

/-- The controller measures its loop delay at the edge after FDF of an FD frame that it sends with BRS (R359); the delay
itself is the transceiver's.  A delay above 255 cycles is a bit error, which comes as `CAN_ERROR`; no larger one is shown. -/
def State.measureDelay (s : State) (ch b : Nat) : State :=
  if s.on 0 (Reg.CANx_DBT_TDC_EN.p ch) && s.on 0 ((Reg.CANx_TXBb_W1_FDF.p ch).i b) && s.on 0 ((Reg.CANx_TXBb_W1_BRS.p ch).i b) then
    let (v, s) := s.drawFree
    s.wr 0 (Reg.CANx_STAT_TDCV.p ch) (Config.freeValue v % 256)
  else s

/-- CAN_TX_END (R362): the frame on the bus completes without error. -/
def execCanTxEnd (ch : Nat) (s : State) : Result :=
  .next (match (if ch < 2 ∧ s.onTheBus ch then s.txOnBus ch else none) with
    | none => s
    | some b =>
      let late := bit (s.rd 0 (Reg.CANx_TXSTAT_ABORT_PEND.p ch)) b
      let s := (s.measureDelay ch b).confine ch (s.rd 0 (Reg.CANx_ERR_TEC.p ch) - 1) (s.rd 0 (Reg.CANx_ERR_REC.p ch))
      s.txEnds ch b (if late then 3 else 2))

/-- An error of a frame that the controller sends: whether the edge after FDF lies behind it is known in the data phase and
at the acknowledgement, and otherwise a free value (R359; log entry 2). -/
def State.delayAtError (s : State) (ch b lec : Nat) (dataPhase : Bool) : State :=
  if dataPhase || lec == 3 then s.measureDelay ch b
  else
    let (v, s) := s.drawFree
    if Config.freeValue v % 2 = 1 then s.measureDelay ch b else s

/-- An error of a frame on the bus (R367, R368). -/
def State.busError (s : State) (ch lec : Nat) (dataPhase transmitting : Bool) (step : Nat) : State :=
  let s := (s.wr 0 (Reg.CANx_ERR_LEC.p ch) lec).wrB 0 (Reg.CANx_ERR_LEC_DATA.p ch) dataPhase
  let s := s.inc 0 (Reg.CANx_EVENTS_ERRORS.p ch)
  let s := match (if transmitting then s.txOnBus ch else none) with
    | some b =>
      let s := s.delayAtError ch b lec dataPhase
      if bit (s.rd 0 (Reg.CANx_TXSTAT_ABORT_PEND.p ch)) b then s.txEnds ch b 4
      else if s.on 0 (Reg.CANx_CTL_NO_RETX.p ch) then s.txEnds ch b 5
      else (s.setCan ch { s.can ch with onBus := none }).wr 0 (Reg.CANx_STAT_TX_BUSY.p ch) 0
    | none => s
  if s.on 0 (Reg.CANx_CTL_LISTEN.p ch) then s
  else
    let tec := s.rd 0 (Reg.CANx_ERR_TEC.p ch)
    let rec' := s.rd 0 (Reg.CANx_ERR_REC.p ch)
    let k := min step 8
    if transmitting then s.confine ch (tec + k) rec' else s.confine ch tec (rec' + k)

/-- A recessive res bit in a frame that the controller receives, or a recessive FDF bit where FD is not enabled (R357, R376): a
protocol exception, or with `PXHD` a form error of a receiver, which ISO 11898-1 counts with 1. -/
def State.protocolException (s : State) (ch : Nat) : State :=
  if s.on 0 (Reg.CANx_CTL_PXHD.p ch) then s.busError ch 2 false false 1 else s.irq 0 (0x21 + ch) 5

/-- CAN_ERROR (R367, R368): an error of kind `lec` (1 stuff to 6 CRC), in the data phase or not, met while transmitting or
receiving.  `step` is what ISO 11898-1 adds to the counter of that role: 0, 1 or 8.  `lec` 7 stands for a recessive res bit
of a frame received (R357; DESIGN CHOICE, log entry 51). -/
def execCanError (ch lec : Nat) (dataPhase transmitting : Bool) (step : Nat) (s : State) : Result :=
  .next (if ch < 2 ∧ s.onTheBus ch then
    if lec = 7 then s.protocolException ch else s.busError ch lec dataPhase transmitting step
  else s)

/-- CAN_RECOVER (R369): a write of `CANx.CTL` that sets RECOVER, the rest as it reads; the page must be armed. -/
def execCanRecover (w : Who) (ch : Nat) (s : State) : Result :=
  .next (if ch < 2 then
    writeWith w 0 (0x21 + ch) 0x100 (s.readWord w.code 0 (0x21 + ch) 0x100 ||| 0x80) s (canCtl ch) else s)

/-- CAN_RECOVERY_END (R369): 128 recessive sequences have passed. -/
def execCanRecoveryEnd (ch : Nat) (s : State) : Result :=
  .next (if ch < 2 ∧ s.canState ch = 5 then (s.wr 0 (Reg.CANx_CTL_RECOVER.p ch) 0).confine ch 0 0 else s)

/-- BUS_OFF_DELAY_EXPIRY (R369): Keeper firmware writes RECOVER `BO_DELAY` × 10 ms after the entry to BUS_OFF. -/
def execBusOffDelayExpiry (ch : Nat) (s : State) : Result :=
  let d := s.rd 0 (Reg.CANx_SVC_BO_DELAY.p ch)
  .next (if s.firmware ∧ ch < 2 ∧ s.canState ch = 4 ∧ 0 < d then
    let s := s.advanceTo ((s.can ch).busOffAt + d * 2000000)
    (s.wr 0 (Reg.CANx_CTL_RECOVER.p ch) 1).setCanState ch 5
  else s)

/-- CAN_RX_FLUSH (R366): a write of `CANx.CTL` that sets RX_FLUSH, the rest as it reads. -/
def execCanRxFlush (w : Who) (ch : Nat) (s : State) : Result :=
  .next (if ch < 2 then
    writeWith w 0 (0x21 + ch) 0x100 (s.readWord w.code 0 (0x21 + ch) 0x100 ||| 0x40) s (canCtl ch) else s)

/-- CAN_RX_LOCK (R366): a read of word 0 of the head entry. -/
def execCanRxLock (w : Who) (ch : Nat) (s : State) : Result :=
  .next (if ch < 2 then
    s.reading w (regAddr 0 (0x21 + ch) 0x400) 0 fun s =>
      (s.rxRead w.code ch 0).reply w.code (s.readWord w.code 0 (0x21 + ch) 0x400) false
  else s)

/-- CAN_RX_POP (R366): a read of the last word of the head entry. -/
def execCanRxPop (w : Who) (ch : Nat) (s : State) : Result :=
  .next (match (if ch < 2 then (s.can ch).fifo else []) with
    | [] => s
    | e :: _ =>
      let j := State.entryWords e - 1
      s.reading w (regAddr 0 (0x21 + ch) (0x400 + 4 * j)) 0 fun s => (s.rxRead w.code ch j).reply w.code ((e[j]?).getD 0) false)

/-- The entries of a run with the tags of R372: FIRST on the first, LAST on the last. -/
def runEntries (base : Nat) (ws : List Nat) : List (Nat × Nat) :=
  ws.zipIdx.map fun w =>
    (w.1, 0x8000 + (if w.2 = 0 then 0x4000 else 0) + (if w.2 + 1 = ws.length then 0x2000 else 0) + base)

/-- CAN_FORWARD (R372): the Porter takes the head entry and forwards it where its filter says so.  A head locked by
another master stays. -/
def execCanForward (ch : Nat) (s : State) : Result :=
  .next (match (if s.firmware ∧ ch < 2 ∧ (s.on 0 (Reg.CANx_RXSTAT_LOCKED.p ch) = false ∨ s.rd 0 (Reg.CANx_RXSTAT_LOCK_MASTER.p ch) = 1)
      then (s.can ch).fifo else []) with
    | [] => s
    | e :: _ =>
      let i := field ((e[1]?).getD 0) 8 5
      let s := s.popRx ch
      if s.on 0 ((Reg.CANx_FLTi_W2_FWD_EN.p ch).i i) then
        let die := s.dieOf (s.rd 0 ((Reg.CANx_FLTi_W2_FWD_DIE.p ch).i i))
        let q := s.rd 0 ((Reg.CANx_FLTi_W2_FWD_Q.p ch).i i)
        let n := State.entryWords e
        let ws := e.take 3 ++ (e.take n).drop 4
        let seq := (s.can ch).seq
        let s := s.setCan ch { s.can ch with seq := (seq + 1) % 4096 }
        if s.putStatus 0 die q = 0 ∧ ws.length ≤ s.credits 0 die q then
          (runEntries (ch * 4096 + seq) ws).foldl (fun s w => (s.putEntry 1 die q w.2 w.1).1) s
        else s.inc 0 (Reg.CANx_SVC_STAT_FWD_DROPS.p ch)
      else s)

/-- The length of the leading run of a request queue (R373): entries up to the one with LAST, when complete. -/
def leadingRun (l : List QEntry) : Option Nat := (l.findIdx? fun e => bit e.hi 13).map (· + 1)

/-- Whether a complete run has the form of a transmit request (R373): FIRST on the first entry only, two frame words
and the data words the frame's length asks for. -/
def runWellFormed (run : List QEntry) : Bool :=
  match run with
  | a :: b :: rest =>
    bit a.hi 14 && !bit b.hi 14 && rest.all (fun e => !bit e.hi 14) &&
      rest.length == (dlcBytes (b.lo % 16) (bit b.lo 4) (bit b.lo 6) + 3) / 4
  | _ => false

/-- Pops `n` entries of a queue. -/
def popMany (die q : Nat) : Nat → State → State
  | 0, s => s
  | n + 1, s => popMany die q n (s.popQueue die q).1

/-- Loads a transmit request into a buffer and requests it (R373); the Porter's writes are clamped as any. -/
def loadRequest (ch b : Nat) (run : List QEntry) (s : State) : State :=
  let off := 0x200 + 0x80 * b
  let s := run.zipIdx.foldl (fun s e => plainWrite ⟨1, false⟩ 0 (0x21 + ch) (off + 4 * e.2) e.1.lo s) s
  s.txRequest ch b

/-- CAN_TX_SERVICE (R373): the Porter takes the next request of its queue. -/
def execCanTxService (ch : Nat) (s : State) : Result :=
  let die := s.dieOf (s.rd 0 (Reg.CANx_SVC_TXQ_DIE.p ch))
  let q := s.rd 0 (Reg.CANx_SVC_TXQ_Q.p ch)
  let l := s.ring die q
  .next (if s.firmware ∧ ch < 2 ∧ s.on 0 (Reg.CANx_SVC_TXQ_EN.p ch) ∧ !l.isEmpty then
    if !((l.head?.map fun e => bit e.hi 14).getD false) then
      (popMany die q ((l.findIdx? fun e => bit e.hi 14).getD l.length) s).inc 0 (Reg.CANx_SVC_STAT_TX_DISCARDS.p ch)
    else match leadingRun l with
      | none => s
      | some n =>
        let run := l.take n
        if !runWellFormed run then
          let bad := 1 + ((l.drop 1).findIdx? fun e => bit e.hi 14).getD (l.length - 1)
          (popMany die q bad s).inc 0 (Reg.CANx_SVC_STAT_TX_DISCARDS.p ch)
        else
          let doneQ := s.rd 0 (Reg.CANx_SVC_DONE_Q.p ch)
          let tag := (run.head?.map fun e => e.hi % 4096).getD 0
          if !s.tabletHeld then
            let s := popMany die q n s
            if doneQ = 0 then s else (s.putEntry 1 die doneQ tag 7).1
          else match [1, 2].find? fun b => s.txState ch b != 1 with
            | none => s
            | some b =>
              let s := popMany die q n s
              let s := s.setCan ch { s.can ch with service := SMap.insert (s.can ch).service b (die, doneQ, tag) }
              loadRequest ch b run s
  else s)

end Sys2Proof.Machine
end

