-- ==== Sys2Proof/Machine/Access.lean ====
section
/-! DEFINITION.  The address map (spec/02 R45 to R47) and what an access of a master to a memory does: the bit-store
spaces (R103, R104, R146), the guards of bank P (R209), bank power states (R338), ECC (R339), absent dies (R47, R329)
and the K-IMAGE image window (R173).  Page accesses are in `Machine/Bus.lean`. -/

namespace Sys2Proof.Machine

open Sys2Proof.Bits

/-- Where an address leads. -/
inductive Place where
  /-- Nothing is there. -/
  | none
  /-- An own-die address of a die's memories. -/
  | mem (die own : Nat)
  /-- The Stacks read window. -/
  | stacks (off : Nat)
  /-- The K-IMAGE image window. -/
  | imageAlias (off : Nat)
  /-- A register page. -/
  | page (die code off : Nat)
  deriving DecidableEq, Repr

/-- Whether an own-die address holds something (R46). -/
def ownExists (die own : Nat) : Bool :=
  if die = 0 then decide (own < 0x400000)
  else isScan die && (decide (own < 0x800000) ||
    (decide (own < 0x900000) && decide (field own 3 14 < spaceWords (field own 17 3))))

/-- Where an address leads for a master (R45 to R47; names in remote windows, R283). -/
def locate (s : State) (who a : Nat) : Place :=
  let d := whoDie who
  if a < 0x1000000 then (if ownExists d a then .mem d a else .none)
  else if 0x10000000 ≤ a ∧ a < 0x18000000 then
    let die := s.destDie who (field a 24 3)
    if ownExists die (a % 0x1000000) then .mem die (a % 0x1000000) else .none
  else if 0x20000000 ≤ a ∧ a < 0x20800000 then .stacks (a - 0x20000000)
  else if 0x30000000 ≤ a ∧ a < 0x30100000 then .imageAlias (a - 0x30000000)
  else if 0xF0000000 ≤ a ∧ a < 0xF0800000 then
    let die := field a 20 3
    let code := field a 12 8
    if (pageFields die code).isSome then .page die code (a % 0x1000) else .none
  else .none

/-- How an access ends. -/
inductive Ended where
  | ok (data : Nat)
  | fault
  /-- The access waits at a bank fence (R90). -/
  | held
  deriving DecidableEq, Repr

/-- The die an access goes to. -/
def Place.die : Place → Nat
  | .mem d _ | .page d _ _ => d
  | _ => 0

namespace State

/-- The physical buffer that holds the output image, and the other (R172). -/
def outBuffer (s : State) : Nat := K_IMAGE + (if s.on 0 Reg.IMG_STAT_OUT_BUF then 0xA0000 else 0x50000)

/-- The commit buffer (R172). -/
def commitBuffer (s : State) : Nat := K_IMAGE + (if s.on 0 Reg.IMG_STAT_OUT_BUF then 0x50000 else 0xA0000)

/-- The own-die address that a window offset shows (R173). -/
def aliasOwn (s : State) (off : Nat) : Nat :=
  let b := if 0x50000 ≤ off ∧ off < 0x78000 then s.outBuffer - K_IMAGE + (off - 0x50000)
    else if 0xA0000 ≤ off ∧ off < 0xC8000 then s.commitBuffer - K_IMAGE + (off - 0xA0000) else off
  0x100000 + b

/-- Whether the bank of an own-die address is On (R338). -/
def bankOn (s : State) (die own : Nat) : Bool := s.rd die (Reg.MEM_PWR_STAT_BANKb.j (bankOf die own)) == 0

/-- Whether a Junction access waits at a fence of a running row (R90). -/
def atFence (s : State) (die own : Nat) : Bool := isScan die && bit (s.fenceMask die) (bankOf die own)

/-- The queue and slot whose ring holds an own-die address (R330, R336). -/
def ringPlace (die own : Nat) : Option (Nat × Nat) :=
  if die = 0 then
    if 0x348000 ≤ own ∧ own < 0x358000 then some ((own - 0x348000) / 0x1000, own % 0x1000 / 8) else none
  else if 0x700000 ≤ own ∧ own < 0x720000 then some ((own - 0x700000) / 0x2000, own % 0x2000 / 8)
  else none

/-- The queue entry that stands at an own-die address. -/
def ringEntry (s : State) (die own : Nat) : Option QEntry :=
  (ringPlace die own).bind fun p => (s.ring die p.1).find? fun e => e.slot == p.2

/-- A store to the ring of a queue changes the entry that stands there (R330). -/
def ringStore (s : State) (die own n v : Nat) : State :=
  match ringPlace die own with
  | none => s
  | some (q, k) =>
    s.setRing die q ((s.ring die q).map fun e =>
      if e.slot = k then
        let x := setField (e.lo + e.hi * 2 ^ 32) (own % 8 * 8) (8 * n) v
        { e with lo := x % 2 ^ 32, hi := x / 2 ^ 32 % 2 ^ 32 }
      else e)

/-- The frame of Keeper firmware that stands at an own-die address of the Keeper: those that wait at the ports lie in K-LINE
from 0xC_0000 on (R273), 2,048 bytes each in the order of the ports (DESIGN CHOICE: log entry 35). -/
def lineFrame (s : State) (die own : Nat) : Option (List Byte) :=
  if die = 0 ∧ 0x2C0000 ≤ own ∧ own < 0x2FC000 then
    (((List.range 4).flatMap fun p => (SMap.get Gate.idle s.exch.gates p).waiting)[(own - 0x2C0000) / 2048]?).bind fun f =>
      if own % 2048 < f.2.2.length then some f.2.2 else none
  else none

/-- The bytes of memory as a reader sees them, `n` bytes within one 64-bit word. -/
def peek (s : State) (die own n : Nat) : Nat :=
  match s.ringEntry die own, s.lineFrame die own with
  | some e, _ => field (e.lo + e.hi * 2 ^ 32) (own % 8 * 8) (8 * n)
  | none, some f => ofLE (cut f (own % 2048) n)
  | none, none =>
    if isScan die && decide (0x800000 ≤ own) then
      field (bitWord s die (field own 17 3) (field own 3 14)).toNat (own % 8 * 8) (8 * n)
    else s.load (phys die own) n

/-- Reads `n` bytes of one word for a reader: power state, ECC (R338, R339). -/
def readOwn (s : State) (who die own n : Nat) (remote : Bool) : State × Ended :=
  if !s.bankOn die own then (s, .fault)
  else
    let e := s.eccAt (phys die own)
    let s' := s.noteEcc die own who
    if e = 2 then (if remote then s'.fabricError .ecc who own else s', .fault)
    else (s', .ok (s'.peek die own n))

/-- Whether bank P's guards refuse a store of a core or of the DMA (R209). -/
def platRefuses (s : State) (w : Who) (die own : Nat) : Bool :=
  let d := whoDie w.code
  isScan die && isScan d && (decide (whoIx w.code < 4) || whoIx w.code == 5) && decide (0x600000 ≤ own) &&
    decide (own < 0x700000) &&
    ((s.on die Reg.PLAT_CFG_SNAP_RO && decide (own < 0x620000)) ||
      (s.on die Reg.PLAT_CFG_RET_MONLY && w.user && decide (0x6C0000 ≤ own)))

/-- Whether a store of one of a die's own engines meets space Q or the output staging after the die's commit-ready: no
engine writes there until the next tick (R75), so that such a store has no effect. -/
def afterReady (s : State) (w : Who) (die own : Nat) : Bool :=
  isScan die && whoDie w.code == die && s.on die Reg.PLAT_STAT_READY &&
    ((decide (0x620000 ≤ own) && decide (own < 0x640000)) || (decide (0x820000 ≤ own) && decide (own < 0x840000)))

/-- Whether a store to a bit-store word is allowed (R103, R104, R146): `some false` is ignored without fault. -/
def bitStoreAllows (w : Who) (die own : Nat) : Option Bool :=
  let d := whoDie w.code
  match field own 17 3 with
  | 1 | 2 | 5 => some true
  | 6 =>
    if field own 3 14 < 2 then some false
    else if d = 0 ∨ (d = die ∧ whoIx w.code < 4 ∧ w.user = false) then some true else none
  | _ => none

/-- A store breaks the reservations of other cores on its bytes (R140: LR.W and SC.W). -/
def breakReservations (s : State) (who die own n : Nat) : State :=
  if isScan die && decide (own < 0x400000) then
    let core := own / 0x100000
    let c := s.core die core
    match c.reserved with
    | some a =>
      if who ≠ die * 32 + core ∧ own < a + 4 ∧ a < own + n then s.setCore die core { c with reserved := none } else s
    | none => s
  else s

/-- Stores `n` bytes of one word for a master; the change area refuses all but Keeper masters (R237). -/
def writeOwn (s : State) (w : Who) (die own n v : Nat) : State × Ended :=
  if !s.bankOn die own then (s, .fault)
  else if s.platRefuses w die own then ((s.inc die Reg.PLAT_SNAP_FAULTS_COUNT).irq die 0x0D 1, .fault)
  else if s.afterReady w die own then (s, .ok 0)
  else if isScan die && decide (0x800000 ≤ own) then
    match bitStoreAllows w die own with
    | some true => (s.store (phys die own) n v, .ok 0)
    | some false => (s, .ok 0)
    | none => (s, .fault)
  else if die = 0 ∧ 0x3C0000 ≤ own ∧ whoDie w.code ≠ 0 then (s, .fault)
  else (((s.store (phys die own) n v).ringStore die own n v).breakReservations w.code die own n, .ok 0)

/-- The end of a Junction access that cannot reach its target (R47, R329). -/
def unreachable (s : State) (who a : Nat) (p : Place) : Option State :=
  s.barred who a p.die (viaJunction a)

/-- Whether the die's own DMA engine is held off a bank: a running row of another engine fences it (R90). -/
def dmaHeldOff (s : State) (w a : Nat) : Bool :=
  isScan (whoDie w) && whoIx w == 5 && !viaJunction a && bit (s.fenceBut (whoDie w) 6) (bankOf (whoDie w) a)

/-- Reads `n` bytes at an address of a memory for a master.  Register pages are not reached here. -/
def memRead (s : State) (who a n : Nat) : State × Ended :=
  let p := locate s who a
  let r : HeldReq := ⟨p.die, who, false, false, a, n, 0, false⟩
  let (failed, s) := s.takeFailed r
  if failed then (s, .fault)
  else match s.unreachable who a p with
  | some t => (t.unholdRequest r, .fault)
  | none =>
    if s.stalled who p.die (viaJunction a) (s.holding.contains r) then (s, .held)
    else match p with
    | .mem die own =>
      if viaJunction a && s.atFence die own then (s.holdRequest r, .held)
      else if s.dmaHeldOff who a then (s, .held)
      else (s.unholdRequest r).readOwn who die own n (viaJunction a)
    | .imageAlias off => s.readOwn who 0 (s.aliasOwn off) n true
    | .stacks off =>
      match s.stacksRead off n with
      | (s, some v) => (s, .ok v)
      | (s, none) => (s, .fault)
    | .none => (s.noteUnmapped who a, .fault)
    | .page _ _ _ => (s, .fault)

/-- Stores `n` bytes at an address of a memory for a master. -/
def memWrite (s : State) (w : Who) (a n v : Nat) : State × Ended :=
  let p := locate s w.code a
  let r : HeldReq := ⟨p.die, w.code, w.user, true, a, n, v, false⟩
  let (failed, s) := s.takeFailed r
  if failed then (s, .fault)
  else match s.unreachable w.code a p with
  | some t => (t.unholdRequest r, .fault)
  | none =>
    if s.stalled w.code p.die (viaJunction a) (s.holding.contains r) then (s, .held)
    else match p with
    | .mem die own =>
      if viaJunction a && s.atFence die own then (s.holdRequest r, .held)
      else if s.dmaHeldOff w.code a then (s, .held)
      else (s.unholdRequest r).writeOwn w die own n v
    | .imageAlias off =>
      if isScan (whoDie w.code) then (s, .fault)
      else if (0xC8000 ≤ off ∧ off < 0xC8A00) ∨ 0xD8000 ≤ off then (s, .ok 0)
      else s.writeOwn w 0 (s.aliasOwn off) n v
    | .none => (s.noteUnmapped w.code a, .fault)
    | .stacks _ | .page _ _ _ => (s, .fault)

end State

end Sys2Proof.Machine
end

