-- ==== Sys2Proof/Machine/CoreState.lean ====
section
/-! DEFINITION.  A word core beside its instructions (spec/05): slot entry, SLOTEND, cut-off, trap and interrupt entry,
the interrupt router, start and reset, and the debug module's halts. -/

namespace Sys2Proof.Machine

open Sys2Proof.Bits

/-- Router sources that are edges (R165). -/
def edgeSources : Nat := maskOf [19, 20, 21, 38, 39, 40, 41, 42, 43]

namespace State

/-- Sets an edge source in every core's latch of a die (R165). -/
def routerEdge (s : State) (die src : Nat) : State :=
  (List.range 4).foldl (fun s n =>
    { s with latches := SMap.put 0 s.latches (die * 4 + n) (SMap.get 0 s.latches (die * 4 + n) ||| (1 <<< src)) }) s

/-- Sets an edge source on every powered Scan die. -/
def routerEdges (s : State) (src : Nat) : State := (scanDies.filter s.powered).foldl (fun s d => s.routerEdge d src) s

/-- Pending sources of a core: live levels and latched edges (R165). -/
def routerPending (s : State) (die n : Nat) : Nat :=
  s.routerLevels die (s.irqLine die) ||| SMap.get 0 s.latches (die * 4 + n)

/-- Whether the core runs in a slot. -/
def coreInSlot (s : State) (die n : Nat) : Bool := (s.core die n).inSlot && s.working die (n + 1)

/-- The effective threshold (R166). -/
def coreThreshold (s : State) (die n : Nat) : Nat :=
  let c := s.core die n
  if s.coreInSlot die n then max c.yirqthr (s.rd die (Reg.COREn_SLOTCFG_THR.p n)) else c.yirqthr

/-- Sources that are pending and enabled with a level of at least the threshold. -/
def routerReady (s : State) (die n : Nat) : List Nat :=
  let en := s.rd die (Reg.COREn_RTR_EN0_SRC.p n) + s.rd die (Reg.COREn_RTR_EN1_SRC.p n) * 2 ^ 32
  (List.range 44).filter fun k =>
    bit (s.routerPending die n &&& en) k &&
      decide (s.coreThreshold die n ≤ s.rd die (((Reg.COREn_RTR_LVLk_SRCj.p n).i (k / 8)).j (k % 8)))

/-- Level of a source at a core. -/
def routerLevel (s : State) (die n k : Nat) : Nat := s.rd die (((Reg.COREn_RTR_LVLk_SRCj.p n).i (k / 8)).j (k % 8))

/-- The highest-level ready source, the lowest number first among equals (R164). -/
def routerBest (s : State) (die n : Nat) : Option Nat :=
  (s.routerReady die n).foldl (fun b k => match b with
    | none => some k
    | some j => if s.routerLevel die n j < s.routerLevel die n k then some k else some j) none

/-- Whether the core's state takes an interrupt (R166): idle, in U mode, or in M mode with MIE. -/
def coreTakes (s : State) (die n : Nat) : Bool :=
  let c := s.core die n
  c.idle || !c.mmode || c.mie

/-! ### Time of a core -/

/-- The cycle a core stands at: in a slot the slot's own count, otherwise the later of the part's clock and the
retirement of its last instruction. -/
def coreClock (s : State) (die n : Nat) : Nat :=
  if s.coreInSlot die n then match s.slot? die (n + 1) with
    | some x => x.start + x.used
    | none => s.cycle
  else max s.cycle (s.core die n).clock

/-- Whether work of `k` cycles ends within the core's slot (R85); outside a slot it always does. -/
def coreFits (s : State) (die n k : Nat) : Bool :=
  if s.coreInSlot die n then match s.slot? die (n + 1) with
    | some x => decide (x.used + k ≤ x.length)
    | none => true
  else true

/-- The core spends `k` cycles. -/
def coreSpend (s : State) (die n k : Nat) : State :=
  let t := s.coreClock die n + k
  let s := if s.coreInSlot die n then match s.slot? die (n + 1) with
    | some x => s.setSlot die (n + 1) { x with used := x.used + k }
    | none => s
    else s
  s.setCore die n { s.core die n with clock := t }

/-! ### Slots -/

/-- Counts a lost saved context (R156, R157). -/
def countLost (s : State) (die n : Nat) : State :=
  (s.inc die (Reg.COREn_LOST_COUNT.p n)).irq die (0x0E + n) 2

/-- Slot entry (R153). -/
def slotEntry (s : State) (die n entry task row : Nat) (event : Bool) : State :=
  let c := s.core die n
  let s := if c.idle then s else
    let s := if c.ysValid then s.countLost die n else s
    s.inc die (Reg.COREn_PREEMPTS_COUNT.p n)
  let c := if c.idle then c else { c with yspc := c.pc, ysPrivM := c.mmode, ysMie := c.mie, ysValid := true }
  s.setCore die n { c with mie := false, mmode := true, pc := entry, idle := false, inSlot := true, cut := false
                           slotTask := task, slotRow := row, eventRow := event }

/-- SLOTEND at the core's pc (R154): the slot's work is done, and the saved context resumes or the core idles. -/
def slotEnd (s : State) (die n : Nat) : State :=
  let s := if s.coreInSlot die n then s.workDone die (n + 1) else s
  let c := { s.core die n with inSlot := false }
  if c.ysValid then
    s.setCore die n { c with ysValid := false, pc := c.yspc, mmode := c.ysPrivM, mie := c.ysMie, idle := false
                             clock := max s.cycle c.clock + 4 }
  else s.setCore die n { c with idle := true, idlePc := c.pc, idleM := c.mmode }

/-- The core's part of a cut-off (R156). -/
def coreCut (s : State) (die n : Nat) : State :=
  let c := s.core die n
  let s := (s.wr die (Reg.COREn_CUTPC_ADDR.p n) c.pc).irq die (0x0E + n) 1
  let c := { c with cut := true, inSlot := false }
  let vec := s.rd die (Reg.COREn_CUTVEC_ADDR.p n)
  if vec = 0 then
    let (v, s) := s.drawFree
    let s := if c.ysValid then s.countLost die n else s
    s.setCore die n { c with idle := true, ysValid := false, idlePc := Config.freeValue v / 2 % 2 ^ 32
                             idleM := Config.freeValue v % 2 == 1 }
  else
    s.setCore die n { c with mmode := true, mie := false, pc := vec, idle := false, clock := max s.cycle c.clock + 12 }

/-- The engine of a row is cut off; a word core that worked in its slot takes its own part of it (R87, R156). -/
def cutEngine (s : State) (die e : Nat) : State :=
  if decide (1 ≤ e) && decide (e ≤ 4) && s.coreInSlot die (e - 1) then (s.cutOff die e).coreCut die (e - 1)
  else s.cutOff die e

/-! ### Traps -/

/-- Counts a trap taken inside a slot (R168, R189). -/
def countTrap (s : State) (die n : Nat) : State :=
  if s.coreInSlot die n then
    let s := (s.inc die (Reg.COREn_TRAPS_COUNT.p n)).irq die (0x0E + n) 0
    if s.live die then s.raiseCause 3 else s
  else s

/-- Trap entry (R152): the pc is saved in mepc, mode and MIE in mstatus, and mtvec is entered. -/
def enterTrap (s : State) (die n cause tval epc : Nat) (fromM : Bool) : State :=
  let s := (s.coreSpend die n 12).countTrap die n
  let c := s.core die n
  let base := c.mtvec / 4 * 4
  let pc := if c.mtvec % 2 = 1 ∧ 2 ^ 31 ≤ cause then base + 4 * (cause % 2 ^ 31) else base
  s.setCore die n { c with mepc := epc / 4 * 4, mcause := cause, mtval := tval, mppM := fromM, mpie := c.mie
                           mie := false, mmode := true, pc := pc % 2 ^ 32, idle := false }

/-! ### Start and reset -/

/-- The core is put into reset (R168): its Tokens return (R351), its counters go on. -/
def resetCore (s : State) (die n : Nat) : State :=
  let c := s.core die n
  let s := s.setCore die n { Core.start with cycleOff := c.cycleOff, instret := c.instret, clock := c.clock }
  s.returnTokens fun o => o == die * 32 + n

/-- What a write to `COREn.CTL` does (R144, R168). -/
def coreCtl (die n : Nat) (pre s : State) (_ : Nat) : State :=
  match pre.coreHeld die n, s.coreHeld die n with
  | true, false =>
    let c := s.core die n
    s.setCore die n { Core.start with cycleOff := c.cycleOff, instret := c.instret, clock := max s.cycle c.clock
                                      pc := s.rd die (Reg.COREn_BOOT_ADDR.p n) }
  | false, true => s.resetCore die n
  | _, _ => s

/-- What a write to `COREn.SOFT` does (R168). -/
def coreSoft (die n : Nat) (s : State) (v : Nat) : State := if bit v 0 then s.routerEdge die (38 + n) else s

/-- What a write to `COREn.RTR_CLR0` (`hi` = 0) or `RTR_CLR1` does (R165, R168). -/
def routerClr (die n hi : Nat) (s : State) (v : Nat) : State :=
  let m := (v <<< (32 * hi)) &&& edgeSources
  { s with latches := SMap.put 0 s.latches (die * 4 + n) (minus 64 (SMap.get 0 s.latches (die * 4 + n)) m) }

/-! ### Debug -/

/-- Whether the debug module can reach a hart (R169, R454). -/
def hartAllowed (s : State) (hart : Nat) : Bool :=
  s.on 0 Reg.DBG_CTL_JTAG_EN &&
    (if hart < 2 then s.on 0 Reg.DBG_CTL_KEEPER_EN && (hart == 1 || !s.on 0 Reg.GUARD_CTL_EN)
     else isScan (hart / 4) && inDies (s.rd 0 Reg.DBG_CTL_SCAN_EN) (hart / 4) && s.powered (hart / 4) &&
       !s.coreHeld (hart / 4) (hart % 4))

/-- The module becomes active (R169). -/
def debugActive (s : State) : State :=
  if s.on 0 Reg.DBG_STAT_ACTIVE then s else (s.wr 0 Reg.DBG_STAT_ACTIVE 1).irq 0 0x26 1

/-- sbcs.sbasize as the module reports it (R169): the width of an address, 0 while system bus access is barred. -/
def sbasize (s : State) : Nat := if s.on 0 Reg.DBG_CTL_SBA_EN then 32 else 0

/-- The sbcs.sbaccess bits as the module reports them (R169): accesses of 8, 16 and 32 bits, none while system bus access is
barred (PRESUMED: the manual leaves the sizes of an allowed access to External Debug Support 0.13.2, log entry 32). -/
def sbaccess (s : State) : Nat := if s.on 0 Reg.DBG_CTL_SBA_EN then 0b111 else 0

/-- Whether the module reports accesses of `size` bytes. -/
def sbaTakes (s : State) (size : Nat) : Bool := (List.range 5).any fun k => size == 2 ^ k && bit s.sbaccess k

/-- Whether a hart is halted. -/
def hartHalted (s : State) (hart : Nat) : Bool :=
  if hart < 2 then bit (s.rd 0 Reg.DBG_STAT_KEEPER_HALTED) hart else (s.core (hart / 4) (hart % 4)).halted

end State

/-! ### Commands -/

/-- INTERRUPT_TAKEN (R155, R166): the best deliverable source of a core is taken at an instruction boundary. -/
def execInterruptTaken (die core : Nat) (s : State) : Result :=
  let c := s.core die core
  .next (if isScan die && decide (core < 4) && s.powered die && !s.coreHeld die core && !c.halted &&
      !s.coreStill die core && s.coreTakes die core && (s.routerBest die core).isSome &&
      decide (s.coreThreshold die core < 8) && s.coreFits die core 12 then
    s.enterTrap die core 0x8000000B 0 (if c.idle then c.idlePc else c.pc) (if c.idle then c.idleM else c.mmode)
  else s)

/-- CORE_START (R144): a write to `COREn.CTL` that clears HOLD. -/
def execCoreStart (w : Who) (die core word : Nat) (s : State) : Result :=
  .next (if isScan die && decide (core < 4) then
    writeWith w die (0x0E + core) 0x100 (word / 2 * 2) s (State.coreCtl die core) else s)

/-- SOFT_SET (R168): a write to `COREn.SOFT`. -/
def execSoftSet (w : Who) (die core word : Nat) (s : State) : Result :=
  .next (if isScan die && decide (core < 4) then
    writeThen w die (0x0E + core) 0x114 word s (State.coreSoft die core) else s)

/-- ROUTER_CLEAR (R165): a write to `COREn.RTR_CLR0` or, with `hi`, to `RTR_CLR1`. -/
def execRouterClear (w : Who) (die core : Nat) (hi : Bool) (word : Nat) (s : State) : Result :=
  .next (if isScan die && decide (core < 4) then
    writeThen w die (0x0E + core) (if hi then 0x144 else 0x140) word s (State.routerClr die core (ofBool hi)) else s)

/-- DEBUG_HALT (R169, R170): the module halts a hart that `DBG.CTL` allows; any other is not honoured. -/
def execDebugHalt (hart : Nat) (s : State) : Result :=
  .next (if s.hartAllowed hart && !s.hartHalted hart then
    let s := ((s.debugActive).inc 0 Reg.DBG_HALTS_COUNT).irq 0 0x26 0
    if hart < 2 then s.setBits 0 Reg.DBG_STAT_KEEPER_HALTED (1 <<< hart)
    else
      let die := hart / 4
      let s := s.setCore die (hart % 4) { s.core die (hart % 4) with halted := true }
      (s.inc die Reg.S_DBG_HALTS_COUNT).irq die 0x12 0
  else s)

/-- DEBUG_RESUME (R169): the module resumes a halted hart. -/
def execDebugResume (hart : Nat) (s : State) : Result :=
  .next (if s.hartAllowed hart && s.hartHalted hart then
    if hart < 2 then s.clearBits 0 Reg.DBG_STAT_KEEPER_HALTED (1 <<< hart)
    else s.setCore (hart / 4) (hart % 4) { s.core (hart / 4) (hart % 4) with halted := false }
  else s)

end Sys2Proof.Machine
end

