-- ==== Sys2Proof/Machine/Exchange.lean ====
section
/-! DEFINITION.  The Station Table, the Binding Catalogue and the image runs they bind (spec/06 R171 to R183, spec/08
R257 to R266): payloads in and out, substitutes, loopback, the Spread and the Commit gather. -/

namespace Sys2Proof.Machine

open Sys2Proof.Bits

/-- A Station Table entry (R257). -/
structure StnEntry where
  valid : Bool
  kind : Nat
  drop : Nat
  errTask : Nat
  errEn : Bool
  ringA : Bool
  ringB : Bool
  mac : Nat
  inLen : Nat
  outLen : Nat
  lead : Nat
  catFirst : Nat
  catCount : Nat
  deriving DecidableEq, Repr

/-- A Catalogue entry (R264). -/
structure CatEntry where
  index : Nat
  out : Bool
  analogue : Bool
  format : Nat
  policy : Nat
  dies : Nat
  station : Nat
  offset : Nat
  length : Nat
  image : Nat
  subidx : Nat
  deriving DecidableEq, Repr

/-- Bytes of one payload element of an analogue run (R265). -/
def CatEntry.size (e : CatEntry) : Nat := if e.format = 0 then 4 else 2

/-- Whether two Station Table entries agree on the ring of port `p` (R240). -/
def StnEntry.onPort (e : StnEntry) (p : Nat) : Bool := if p < 2 then e.ringA else e.ringB

/-- Image word of a point. -/
def pointWord (analogue : Bool) (p : Nat) : Nat := if analogue then 4096 + p / 2 else p / 64

/-- The image words of a run, rising. -/
def CatEntry.words (e : CatEntry) : List Nat :=
  let lo := pointWord e.analogue e.image
  (List.range (pointWord e.analogue (e.image + e.length - 1) + 1 - lo)).map (lo + ·)

/-- Address of an image point in the copy at `base` (R171): the byte of a digital point, the word of an analogue one. -/
def pointAddr (base : Nat) (analogue : Bool) (p : Nat) : Nat := if analogue then base + 0x8000 + 4 * p else base + p / 8

/-- Address of the receive image. -/
def recvImage : Nat := K_IMAGE
/-- Address of the snapshot. -/
def snapImage : Nat := K_IMAGE + 0x28000
/-- Address of the Safe image. -/
def safeImage : Nat := K_IMAGE + 0x78000
/-- Address of the Commit delta map. -/
def deltaMap : Nat := K_IMAGE + 0xC8000

namespace State

/-- Entry `n` of one half of the Station Table. -/
def stnEntry (s : State) (half n : Nat) : StnEntry :=
  let r (f : FieldDef) : Nat := s.rd 0 (f.w (half * 1024 + n))
  { valid := r Reg.STN_ENT_W0_VALID == 1, kind := r Reg.STN_ENT_W0_KIND, drop := r Reg.STN_ENT_W0_DROP
    errTask := r Reg.STN_ENT_W0_ERR_TASK, errEn := r Reg.STN_ENT_W0_ERR_EN == 1
    ringA := r Reg.STN_ENT_W0_RING_A == 1, ringB := r Reg.STN_ENT_W0_RING_B == 1
    mac := r Reg.STN_ENT_W0_MAC_HI * 2 ^ 32 + r Reg.STN_ENT_W1_MAC_LO, inLen := r Reg.STN_ENT_W2_IN_LEN
    outLen := r Reg.STN_ENT_W2_OUT_LEN, lead := r Reg.STN_ENT_W2_LEAD, catFirst := r Reg.STN_ENT_W3_CAT_FIRST
    catCount := r Reg.STN_ENT_W3_CAT_COUNT }

/-- The active entry of a station. -/
def station (s : State) (n : Nat) : StnEntry := s.stnEntry s.catActive n

/-- The valid stations of one half, rising. -/
def validStations (s : State) (half : Nat) : List Nat :=
  (s.listed 0 Reg.STN_ENT_W0_VALID).filterMap fun k => if k / 1024 = half then some (k % 1024) else none

/-- The valid stations of the active table. -/
def activeStations (s : State) : List Nat := s.validStations s.catActive

/-- Entry `n` of one half of the Catalogue. -/
def catEntry (s : State) (half n : Nat) : CatEntry :=
  let r (f : FieldDef) : Nat := s.rd 0 (f.w (half * 24576 + n))
  { index := n, out := r Reg.CAT_ENT_W0_DIR == 1, analogue := r Reg.CAT_ENT_W0_KIND == 1
    format := r Reg.CAT_ENT_W0_FORMAT, policy := r Reg.CAT_ENT_W0_POLICY, dies := r Reg.CAT_ENT_W0_DIES
    station := r Reg.CAT_ENT_W0_STATION, offset := r Reg.CAT_ENT_W1_OFFSET, length := r Reg.CAT_ENT_W1_LENGTH
    image := r Reg.CAT_ENT_W2_IMAGE, subidx := r Reg.CAT_ENT_W2_SUBIDX }

/-- The valid Catalogue entries of one half, by rising index. -/
def catEntries (s : State) (half : Nat) : List CatEntry :=
  (s.listed 0 Reg.CAT_ENT_W0_VALID).filterMap fun k =>
    if k / 24576 = half then some (s.catEntry half (k % 24576)) else none

/-- The entries of one station and direction in the active Catalogue. -/
def runsOf (s : State) (n : Nat) (out : Bool) : List CatEntry :=
  (s.catEntries s.catActive).filter fun e => e.station == n && e.out == out

/-! ### Points -/

/-- The value of an image point. -/
def point (s : State) (base : Nat) (analogue : Bool) (p : Nat) : Nat :=
  if analogue then s.load (pointAddr base true p) 4
  else field (s.loadByte (pointAddr base false p)).toNat (p % 8) 1

/-- Sets an image point. -/
def setPoint (s : State) (base : Nat) (analogue : Bool) (p v : Nat) : State :=
  if analogue then s.store (pointAddr base true p) 4 v
  else
    let a := pointAddr base false p
    s.storeByte a (BitVec.ofNat 8 (setField (s.loadByte a).toNat (p % 8) 1 v))

/-- Writes a run into an image, element by element. -/
def putRun (s : State) (base : Nat) (e : CatEntry) (v : Nat → Nat) : State :=
  (List.range e.length).foldl (fun s i => s.setPoint base e.analogue (e.image + i) (v i)) s

end State

/-- Element `i` of an input run in a payload, as the image holds it (R265). -/
def inElement (e : CatEntry) (pay : List Byte) (i : Nat) : Nat :=
  if e.analogue then
    let raw := ofBE (cut pay (e.offset + e.size * i) e.size)
    if e.format = 1 then ofInt 32 (toInt 16 raw) else raw
  else field (byteAt pay ((e.offset + i) / 8)) ((e.offset + i) % 8) 1

/-- An output value as the format holds it, and whether it saturated (R265). -/
def outValue (format v : Nat) : Nat × Bool :=
  let x := toInt 32 v
  let sat (lo hi : Int) : Nat × Bool := (ofInt 16 (clampInt lo hi x), clampInt lo hi x != x)
  match format with
  | 1 => sat (-32768) 32767
  | 2 => sat 0 65535
  | _ => (v, false)

namespace State

/-- Writes the bindings of a copy into the image at `base` (R265, R269). -/
def bindInputs (s : State) (base n : Nat) (pay : List Byte) : State :=
  (s.runsOf n false).foldl (fun s e => s.putRun base e (inElement e pay)) s

/-- A substitute entry (R180). -/
def subst (s : State) (j : Nat) : Nat := s.load (K_IMAGE + 0xD0000 + 4 * j) 4

/-- Writes the substitutes of a station into the receive image (R180). -/
def substitute (s : State) (n : Nat) : State :=
  (s.runsOf n false).foldl (fun t e =>
    match e.policy with
    | 1 => t.putRun recvImage e fun i =>
        if e.analogue then s.subst (e.subidx + i) else field (s.subst (e.subidx + i / 32)) (i % 32) 1
    | 2 => t.putRun recvImage e fun _ => 0
    | _ => t) s

/-- The output payload of a station from the image at `base`, and how many values saturated (R265): bits that no
entry writes are zero. -/
def outPayload (s : State) (base n : Nat) : List Byte × Nat :=
  let elements := (s.runsOf n true).flatMap fun e => (List.range e.length).map fun i =>
    let v := s.point base e.analogue (e.image + i)
    if e.analogue then
      let o := outValue e.format v
      (ofLE (toBE e.size o.1) * 2 ^ (8 * (e.offset + e.size * i)), o.2)
    else (v * 2 ^ (e.offset + i), false)
  (toLE (s.station n).outLen (elements.foldl (fun w x => w ||| x.1) 0), (elements.filter (·.2)).length)

/-- The loopback payloads enter the receive image (R179, R270). -/
def loopbacks (s : State) : State :=
  (s.activeStations.filter fun n => (s.station n).kind == 2).foldl (fun s n =>
    let p := s.outPayload s.outBuffer n
    (s.add 0 Reg.XCHG_SAT_COUNT p.2).bindInputs recvImage n p.1) s

/-! ### Spread -/

/-- The image words a die subscribes to, rising (R72, R266). -/
def subscribed (s : State) (die : Nat) : List Nat :=
  (((s.catEntries s.catActive).filter fun e => !e.out && inDies e.dies die).foldl (fun m e =>
    e.words.foldl (fun m w => SMap.insert m w ()) m) ([] : SMap Unit)).map (·.1)

/-- Bursts of the transfers of a list of rising words (R72). -/
def transfers (limit : Nat) : List Nat → Nat → Nat → Nat
  | [], _, run => if run = 0 then 0 else (run + limit - 1) / limit
  | w :: ws, prev, run =>
    if run = 0 then transfers limit ws w 1
    else if w = prev + 1 then transfers limit ws w (run + 1)
    else (run + limit - 1) / limit + transfers limit ws w 1

/-- Half-nanosecond units (2.5 ns each is 5) that the Spread of a list of words takes. -/
def beatTime (s : State) (words : List Nat) : Nat :=
  5 * (words.length + transfers (max 1 (s.rd 0 Reg.FAB_BURST_LIMIT_BEATS)) words 0 0)

/-- One word of the Spread reaches its die (R72, R174): the present I word moves to P.  A word with a double-bit error is
sent as zero (R339). -/
def spreadWord (s : State) (die w : Nat) : State :=
  let v := if s.eccAt (snapImage + 8 * w) = 2 then 0 else s.load (snapImage + 8 * w) 8
  let s := s.noteEcc 0 (snapImage + 8 * w - phys 0 0) 2
  if w < 4096 then (s.store (bitAddr die 3 w) 8 (bitWord s die 0 w).toNat).store (bitAddr die 0 w) 8 v
  else s.storeQuiet (bankP die + 8 * (w - 4096)) 8 v

/-- Quality bits of stations 64w to 64w + 63 (R106, R180). -/
def qualityWord (s : State) (w : Nat) : Nat :=
  maskOf ((List.range 64).filter fun k => s.on 0 (Reg.STN_SSTAT_QUALITY.w (64 * w + k)))

/-! ### Commit -/

/-- Owned units of a die: image words of digital runs and points of analogue runs (R176). -/
def ownedRuns (s : State) (die : Nat) : List CatEntry :=
  (s.catEntries s.catActive).filter fun e => e.out && inDies e.dies die

/-- Copies one owned unit of a word with a clean read; a double-bit error leaves the Safe image's unit (R177, R339). -/
def gatherUnit (s : State) (die own dst n : Nat) : State :=
  let s' := s.noteEcc die own 2
  if s.eccAt (phys die own) = 2 then s' else s'.store dst n (s.load (phys die own) n)

/-- The gather of one die into the commit buffer at `dst` (R177). -/
def gatherDie (s : State) (dst die : Nat) : State :=
  if s.absentDie die then s
  else
    (s.ownedRuns die).foldl (fun s e =>
      if e.analogue then
        (List.range e.length).foldl (fun s i =>
          s.gatherUnit die (0x620000 + 4 * (e.image + i)) (pointAddr dst true (e.image + i)) 4) s
      else e.words.foldl (fun s w => s.gatherUnit die (0x820000 + 8 * w) (dst + 8 * w) 8) s) s

/-- The Commit gather (R177): unowned and undelivered units are those of the Safe image. -/
def gatherAll (s : State) : State :=
  let dst := s.commitBuffer
  scanDies.foldl (fun s d => s.gatherDie dst d) (s.copyMem safeImage dst 163840)

/-- Image words in which the two buffers differ, rising (R172). -/
def changedWords (s : State) (a b : Nat) : List Nat :=
  let keys (base : Nat) : List Nat := (SMap.slice s.mem base (base + 163840)).map fun e => (e.1 - base) / 8
  let words := ((keys a ++ keys b).foldl (fun m w => SMap.insert m w ()) ([] : SMap Unit)).map (·.1)
  words.filter fun w => s.load (a + 8 * w) 8 != s.load (b + 8 * w) 8

/-- Writes the Commit delta map (R172). -/
def fillDelta (s : State) (words : List Nat) : State :=
  words.foldl (fun s w =>
    let a := deltaMap + w / 8
    s.storeByte a (s.loadByte a ||| BitVec.ofNat 8 (1 <<< (w % 8)))) (s.clearMem deltaMap 2560)

/-- The exchange of the buffers (R76): output image n replaces image n - 1 in one step, and the delta map is filled. -/
def exchangeBuffers (s : State) : State :=
  let s := s.fillDelta (s.changedWords s.outBuffer s.commitBuffer)
  s.wrB 0 Reg.IMG_STAT_OUT_BUF (!s.on 0 Reg.IMG_STAT_OUT_BUF)

end State

end Sys2Proof.Machine
end

