-- ==== Sys2Proof/Machine/SignalBox.lean ====
section
/-! DEFINITION.  The Signal Box (spec/04 R108 to R127, R536), the mask table (R120, R121), the advance passes of the
Timer rack (R131) and the SBOX and TIMR pages. -/

namespace Sys2Proof.Machine

open Sys2Proof.Bits

/-! ### Levers -/

/-- A bit-store operand of a lever (R108). -/
structure LeverSrc where
  space : Nat
  word : Nat
  rot : Nat
  deriving DecidableEq, Repr

/-- A lever, decoded (R108). -/
structure Lever where
  op : Nat
  tt : Nat
  a : LeverSrc
  b : LeverSrc
  c : LeverSrc
  dst : LeverSrc
  mask : Nat
  aux : Nat
  deriving DecidableEq, Repr

/-- A 23-bit source field (R108). -/
def leverSrc (x : Nat) : LeverSrc := ⟨field x 20 3, field x 6 14, field x 0 6⟩

/-- Decodes the 128 bits of a lever (R108). -/
def decodeLever (x : Nat) : Lever :=
  { op := field x 122 6, tt := field x 106 16
    a := leverSrc (field x 83 23), b := leverSrc (field x 60 23), c := leverSrc (field x 37 23)
    dst := ⟨field x 34 3, field x 20 14, 0⟩, mask := field x 12 8, aux := field x 0 12 }

/-- Lever `i` of bank L of a die (R109). -/
def leverAt (s : State) (die i : Nat) : Lever := decodeLever (s.load (bankL die + 16 * i) 16)

/-- Whether the fetch of a lever fails: a double-bit error (R124), or bank L not On (R338; DEDUCED, log entry 49). -/
def leverBad (s : State) (die i : Nat) : Bool :=
  s.eccAt (bankL die + 16 * i) == 2 || s.eccAt (bankL die + 16 * i + 8) == 2 ||
    s.rd die (Reg.MEM_PWR_STAT_BANKb.j (bankOf die 0x400000)) != 0

/-- Counts the ECC errors of both words of a fetched lever (R124, R339). -/
def noteLever (s : State) (die i : Nat) : State :=
  (s.noteEcc die (0x400000 + 16 * i) (die * 32 + 4)).noteEcc die (0x400000 + 16 * i + 8) (die * 32 + 4)

/-- Entry `i` of the mask table (R120). -/
def maskEntry (s : State) (die i : Nat) : DWord :=
  if i = 0 then BitVec.allOnes 64
  else BitVec.ofNat 64 (s.rd die (Reg.SBOX_MASKi_LO_BITS.i i) + s.rd die (Reg.SBOX_MASKi_HI_BITS.i i) * 2 ^ 32)

/-- The lever faults (R125). -/
inductive LeverFault where
  | unpopRead | writeDenied | illegalOp | badAux | badSpace | syncTimeout | range | ecc
  deriving DecidableEq, Repr

/-- The kind code of a lever fault (R125). -/
def LeverFault.code : LeverFault → Nat
  | .unpopRead => 1 | .writeDenied => 2 | .illegalOp => 3 | .badAux => 4 | .badSpace => 5 | .syncTimeout => 6
  | .range => 7 | .ecc => 8

/-- An operand read: zero with a fault when the word is not populated or uncorrectable (R125). -/
def operand (s : State) (die sp w : Nat) : DWord × Option LeverFault :=
  if spaceWords sp ≤ w then (0, some .unpopRead)
  else if s.eccAt (bitAddr die sp w) = 2 then (0, some .ecc)
  else (bitWord s die sp w, none)

/-- An operand rotated as its source field says (R110). -/
def source (s : State) (die : Nat) (x : LeverSrc) : DWord × Option LeverFault :=
  let r := operand s die x.space x.word
  (r.1.rotateRight x.rot, r.2)

/-- The first fault of several in the order of R536: operand ECC before an unpopulated read. -/
def firstFault (l : List (Option LeverFault)) : Option LeverFault :=
  if l.contains (some .ecc) then some .ecc else if l.contains (some .unpopRead) then some .unpopRead else none

/-- The operands that a lever reads (R111). -/
def leverReads (l : Lever) : List LeverSrc :=
  match l.op with
  | 0x01 | 0x08 | 0x09 | 0x10 | 0x11 | 0x12 | 0x13 => [l.a, l.b, l.c, l.dst]
  | 0x02 => [l.a, { l.a with space := 3 }, l.b, l.c, l.dst]
  | 0x03 | 0x04 | 0x05 => [l.a, l.dst]
  | 0x20 => [l.a]
  | _ => []

/-- Counts the ECC error of an operand the Signal Box reads (R339). -/
def noteOperand (die : Nat) (s : State) (x : LeverSrc) : State :=
  if x.word < spaceWords x.space then s.noteEcc die (0x800000 + x.space * 0x20000 + x.word * 8) (die * 32 + 4) else s

/-- The truth table of R110, all lanes at once: the OR of its minterms. -/
def truth (tt : Nat) (a b c d : DWord) : DWord :=
  (List.range 16).foldl (fun r i =>
    if bit tt i then
      r ||| ((if bit i 0 then a else ~~~a) &&& (if bit i 1 then b else ~~~b) &&&
        (if bit i 2 then c else ~~~c) &&& (if bit i 3 then d else ~~~d))
    else r) 0

/-- Under a mask, `new` in the selected lanes and `old` in the others (R110). -/
def merge (m new old : DWord) : DWord := (new &&& m) ||| (old &&& ~~~m)

/-- Whether a lever may write a word (R103, R125). -/
def leverMayWrite (sp w : Nat) : Bool := (sp == 1 || sp == 2 || sp == 5) && decide (w < spaceWords sp)

/-- What a lever did: the state, its fault if any, whether the slot's program ends with it, how many levers it skips. -/
structure LeverDone where
  st : State
  fault : Option LeverFault := none
  ends : Bool := false
  skip : Nat := 0

/-- The result word of R110 and the faults of its operands. -/
def leverResult (s : State) (die : Nat) (l : Lever) (a : DWord × Option LeverFault) :
    DWord × DWord × Option LeverFault :=
  let b := source s die l.b
  let c := source s die l.c
  let d := operand s die l.dst.space l.dst.word
  (truth l.tt a.1 b.1 c.1 d.1, d.1, firstFault [a.2, b.2, c.2, d.2])

/-- Writes a lever's destination, or denies it (R125). -/
def leverWrite (s : State) (die : Nat) (l : Lever) (v : DWord) (fault : Option LeverFault) : LeverDone :=
  if leverMayWrite l.dst.space l.dst.word then
    { st := setBitWord s die l.dst.space l.dst.word v, fault := fault }
  else { st := s, fault := some .writeDenied }

/-- LOGIC with operand A given (R112). -/
def doLogic (s : State) (die : Nat) (l : Lever) (a : DWord × Option LeverFault) : LeverDone :=
  let (res, d, f) := leverResult s die l a
  leverWrite s die l (merge (maskEntry s die l.mask) res d) f

/-- The edge word of R113. -/
def edgeWord (sel : Nat) (e p : DWord) : DWord :=
  match sel with
  | 0 => e &&& ~~~p
  | 1 => ~~~e &&& p
  | _ => e ^^^ p

/-- EDGE (R113). -/
def doEdge (s : State) (die : Nat) (l : Lever) : LeverDone :=
  if l.a.space ≠ 0 then { st := s, fault := some .badSpace }
  else if l.aux % 4 = 3 then { st := s, fault := some .badAux }
  else
    let e := source s die l.a
    let p := source s die { l.a with space := 3 }
    doLogic s die l (edgeWord (l.aux % 4) e.1 p.1, firstFault [e.2, p.2])

/-- Word `i` of a MOVE (R114). -/
def doMoveWord (s : State) (die : Nat) (l : Lever) (i : Nat) : LeverDone :=
  let a := source s die { l.a with word := l.a.word + i }
  let d := operand s die l.dst.space (l.dst.word + i)
  leverWrite s die { l with dst := { l.dst with word := l.dst.word + i } }
    (merge (maskEntry s die l.mask) a.1 d.1) (firstFault [a.2, d.2])

/-- The selected lanes of a mask, rising. -/
def maskLanes (m : DWord) : List Nat := (List.range 64).filter fun k => m.getLsbD k

/-- PACK (R115). -/
def doPack (s : State) (die : Nat) (l : Lever) : LeverDone :=
  let ks := maskLanes (maskEntry s die l.mask)
  let o := l.aux % 64
  if l.dst.space ≠ 5 then { st := s, fault := some .badSpace }
  else if 64 < o + ks.length then { st := s, fault := some .badAux }
  else
    let a := source s die l.a
    let d := operand s die l.dst.space l.dst.word
    let new := lanes fun j => if o ≤ j ∧ j < o + ks.length then a.1.getLsbD ((ks[j - o]?).getD 0) else d.1.getLsbD j
    leverWrite s die l new (firstFault [a.2, d.2])

/-- UNPACK (R115). -/
def doUnpack (s : State) (die : Nat) (l : Lever) : LeverDone :=
  let ks := maskLanes (maskEntry s die l.mask)
  let o := l.aux % 64
  if l.a.space ≠ 5 then { st := s, fault := some .badSpace }
  else if 64 < o + ks.length then { st := s, fault := some .badAux }
  else
    let a := source s die l.a
    let d := operand s die l.dst.space l.dst.word
    let new := lanes fun k => match ks.idxOf? k with
      | some j => a.1.getLsbD (o + j)
      | none => d.1.getLsbD k
    leverWrite s die l new (firstFault [a.2, d.2])

/-- SKIPZ and SKIPNZ (R116, R124): `idx` is the lever's index. -/
def doSkip (s : State) (die idx : Nat) (l : Lever) (onZero : Bool) : LeverDone :=
  let (res, _, f) := leverResult s die l (source s die l.a)
  let zero := (res &&& maskEntry s die l.mask) == 0
  if zero == onZero then
    if 131071 < idx + 1 + l.aux then { st := s, fault := some .range }
    else { st := s, fault := f, skip := l.aux }
  else { st := s, fault := f }

/-- TSTART (R117).  Bits of AUX above the group field are ignored, here and in CUP, CDN and TRESET: R117 does not say
whether they put the group out of range, and no BAD_AUX is raised (DESIGN CHOICE, log entry 39). -/
def doTstart (s : State) (die : Nat) (l : Lever) : LeverDone :=
  let (res, _, f) := leverResult s die l (source s die l.a)
  let g := field l.aux 0 7
  { st := s.eachLane (maskEntry s die l.mask) fun s k => s.callTimer die (64 * g + k) (res.getLsbD k), fault := f }

/-- TRESET (R117). -/
def doTreset (s : State) (die : Nat) (l : Lever) : LeverDone :=
  let ctr := bit l.aux 11
  let g := if ctr then field l.aux 0 6 else field l.aux 0 7
  let (res, _, f) := leverResult s die l (source s die l.a)
  { st := s.eachLane (maskEntry s die l.mask) fun s k =>
      if res.getLsbD k then
        if ctr then
          s.setCounter die (64 * g + k)
            ((s.counter die (64 * g + k)).reset (s.counterPv die (64 * g + k)) (bit l.aux 10))
        else s.setTimer die (64 * g + k) (s.timer die (64 * g + k)).reset
      else s
    fault := f }

/-- CUP and CDN (R117, R130). -/
def doCount (s : State) (die : Nat) (l : Lever) (down : Bool) : LeverDone :=
  let (res, _, f) := leverResult s die l (source s die l.a)
  let g := field l.aux 0 6
  { st := s.eachLane (maskEntry s die l.mask) fun s k => s.callCounter die (64 * g + k) down (res.getLsbD k)
    fault := f }

/-! ### Issue and retirement -/

namespace State

/-- Where a Signal Box stands. -/
def sbox (s : State) (die : Nat) : Sbox := SMap.get ⟨0, 0, 0⟩ s.sboxes die

/-- Replaces it. -/
def setSbox (s : State) (die : Nat) (b : Sbox) : State := { s with sboxes := SMap.put ⟨0, 0, 0⟩ s.sboxes die b }

/-- Cycles in which levers may still issue (R86). -/
def issueLeft (s : State) (die : Nat) : Nat :=
  match s.slot? die 0 with
  | some x => if x.running && !x.idle && s.enabled die 0x0B then x.length - 4 - x.used else 0
  | none => 0

/-- The engine's slot uses `n` more cycles. -/
def useCycles (s : State) (die e n : Nat) : State :=
  match s.slot? die e with
  | some x => s.setSlot die e { x with used := x.used + n }
  | none => s

/-- Records a lever fault (R126). -/
def leverFault (s : State) (die idx : Nat) (k : LeverFault) : State :=
  let task := ((s.slot? die 0).map Slot.task).getD 0
  let s := if s.on die Reg.SBOX_FAULT_VALID then s else
    let s := ((s.wr die Reg.SBOX_FAULT_KIND k.code).wr die Reg.SBOX_FAULT_VALID 1).wr die Reg.SBOX_FAULT_LEVER idx
    ((s.wr die Reg.SBOX_FAULT_TASK task).wr die Reg.SBOX_FAULT_NET_NET (s.rd die Reg.SBOX_NET_COUNT)).wr die
      Reg.SBOX_FAULT_FRAME_N s.frameNo
  let s := (s.inc die Reg.SBOX_FAULTS_COUNT).irq die 0x0B 0
  let s := if k = .syncTimeout then s.irq die 0x0B 1 else s
  let s := if s.live die then (if k = .syncTimeout then (s.raiseCause 2).raiseCause 4 else s.raiseCause 2) else s
  let flag := if k = .syncTimeout then 3 else 1
  let s := { s with dieFlags := SMap.put 0 s.dieFlags die (SMap.get 0 s.dieFlags die ||| flag) }
  s.archive 0x0B 0 .fault [k.code, idx, task, s.frameNo % 2 ^ 32]

/-- The lever watch of the debug module (R170). -/
def watchLever (s : State) (die idx : Nat) : State :=
  if s.on die Reg.S_DBG_WATCH_EN && s.rd die Reg.S_DBG_WATCH_LEVER == idx && !s.on die Reg.S_DBG_STAT_WATCH_HIT then
    ((s.wr die Reg.S_DBG_STAT_WATCH_HIT 1).wr die Reg.S_DBG_WATCH_FRAME_N s.frameNo).irq die 0x12 1
  else s

/-- The Signal Box's slot stops without its work done (R127). -/
def stopSbox (s : State) (die : Nat) : State :=
  s.cutOff die 0

/-- Whether a lever fault ends the slot (R127). -/
def faultStops (s : State) (die : Nat) (k : LeverFault) : Bool :=
  k == .range || k == .ecc || s.on die Reg.SBOX_CTL_FAULT_CUT

/-- Retires a lever: fault, watch, counts, the next lever, the end of the slot (R119, R125 to R127). -/
def retire (die idx : Nat) (d : LeverDone) : State :=
  let f := if !d.ends && idx == 131071 then some .range else d.fault
  let t := (d.st.watchLever die idx).inc die Reg.SBOX_RETIRED_COUNT
  let s := match f with
    | some k => t.leverFault die idx k
    | none => t
  if (f.map (s.faultStops die)).getD false then s.stopSbox die
  else if d.ends then
    ((s.useCycles die 0 4).workDone die 0).irq die 0x0B 2
  else
    let s := (s.useCycles die 0 d.skip).add die Reg.SBOX_SQUASHED_COUNT d.skip
    s.setSbox die ⟨idx + 1 + d.skip, 0, 0⟩

/-- Issues the present lever when its operation is one of `ops`, and lets `run` act (R111).  A lever whose fetch
meets a double-bit error acts as NOP with fault ECC whatever its operation (R124). -/
def issue (s : State) (die : Nat) (ops : Nat → Bool) (run : State → Nat → Lever → LeverDone) : State :=
  let idx := (s.sbox die).next
  if isScan die && decide (0 < s.issueLeft die) && decide (idx ≤ 131071) then
    let l := leverAt s die idx
    if leverBad s die idx then
      let s := ((noteLever s die idx).useCycles die 0 1).wr die Reg.SBOX_STAT_LEVER idx
      retire die idx { st := s, fault := some .ecc }
    else if ops l.op then
      let s := ((noteLever s die idx).useCycles die 0 1).wr die Reg.SBOX_STAT_LEVER idx
      retire die idx (run ((leverReads l).foldl (noteOperand die) s) idx l)
    else s
  else s

end State

/-- The reserved operation codes (R111). -/
def reservedOp (op : Nat) : Bool :=
  !([0x01, 0x02, 0x03, 0x04, 0x05, 0x08, 0x09, 0x10, 0x11, 0x12, 0x13, 0x20, 0x3E, 0x3F].contains op)

/-- LOGIC (R112). -/
def execLogicLever (die : Nat) (s : State) : Result :=
  .next (s.issue die (· == 0x01) fun s _ l => doLogic s die l (source s die l.a))

/-- EDGE (R113). -/
def execEdgeLever (die : Nat) (s : State) : Result :=
  .next (s.issue die (· == 0x02) fun s _ l => doEdge s die l)

/-- The words of a MOVE still to copy, as many as the slot's issue cycles allow; a word whose fault stops the slot is
the last (R114, R127). -/
def moveWords (die idx : Nat) (l : Lever) (total : Nat) : Nat → State → State
  | 0, s => s
  | n + 1, s =>
    let b := s.sbox die
    let s := if b.moved = 0 then noteLever s die idx else s
    let s := [{ l.a with word := l.a.word + b.moved }, { l.dst with word := l.dst.word + b.moved }].foldl (noteOperand die) s
    let d := doMoveWord s die l b.moved
    let s := ((d.st.useCycles die 0 1).wr die Reg.SBOX_STAT_LEVER idx)
    if b.moved + 1 = total then State.retire die idx { st := s, fault := d.fault }
    else
      let s := s.inc die Reg.SBOX_RETIRED_COUNT
      let s := match d.fault with
        | some k => s.leverFault die idx k
        | none => s
      if (d.fault.map (s.faultStops die)).getD false then s.stopSbox die
      else moveWords die idx l total n (s.setSbox die { b with moved := b.moved + 1 })

/-- MOVE (R114, and R86 for the end of the budget during it). -/
def execMoveLever (die : Nat) (s : State) : Result :=
  let b := s.sbox die
  let l := leverAt s die b.next
  let total := l.aux % 64 + 1
  .next (if isScan die && decide (0 < s.issueLeft die) && decide (b.next ≤ 131071) then
    if leverBad s die b.next then s.issue die (fun _ => false) fun s _ _ => { st := s }
    else if l.op = 0x03 then moveWords die b.next l total (min (total - b.moved) (s.issueLeft die)) s
    else s
  else s)

/-- PACK (R115). -/
def execPack (die : Nat) (s : State) : Result :=
  .next (s.issue die (· == 0x04) fun s _ l => doPack s die l)

/-- UNPACK (R115). -/
def execUnpack (die : Nat) (s : State) : Result :=
  .next (s.issue die (· == 0x05) fun s _ l => doUnpack s die l)

/-- SKIPZ (R116). -/
def execSkipz (die : Nat) (s : State) : Result :=
  .next (s.issue die (· == 0x08) fun s idx l => doSkip s die idx l true)

/-- SKIPNZ (R116). -/
def execSkipnz (die : Nat) (s : State) : Result :=
  .next (s.issue die (· == 0x09) fun s idx l => doSkip s die idx l false)

/-- TSTART (R117). -/
def execTstart (die : Nat) (s : State) : Result :=
  .next (s.issue die (· == 0x10) fun s _ l => doTstart s die l)

/-- TRESET (R117). -/
def execTreset (die : Nat) (s : State) : Result :=
  .next (s.issue die (· == 0x11) fun s _ l => doTreset s die l)

/-- CUP (R130). -/
def execCup (die : Nat) (s : State) : Result :=
  .next (s.issue die (· == 0x12) fun s _ l => doCount s die l false)

/-- CDN (R130). -/
def execCdn (die : Nat) (s : State) : Result :=
  .next (s.issue die (· == 0x13) fun s _ l => doCount s die l true)

/-- Whether the condition of a SYNC holds on the present value of its operand (R118). -/
def syncTrue (s : State) (die : Nat) (l : Lever) : Bool :=
  let z := ((source s die l.a).1 &&& maskEntry s die l.mask) == 0
  if bit l.aux 10 then z else !z

/-- A SYNC ends: its wait is counted (R137). -/
def endSync (s : State) (die waited : Nat) : State :=
  ((s.add die Reg.SBOX_SYNC_CYCLES_COUNT waited).wrMax die Reg.SBOX_SYNC_MAX_CYCLES waited).wr die
    Reg.SBOX_STAT_SYNC_WAIT 0

/-- What the present SYNC does when its wait has reached the maximum: lever fault SYNC_TIMEOUT, whatever its operand then
holds (R118). -/
def syncOut (s : State) (die waited : Nat) (l : Lever) : LeverDone :=
  { st := endSync s die waited, fault := some (((source s die l.a).2).getD .syncTimeout) }

/-- SYNC (R118): one cycle's test of the present lever. -/
def execSyncLever (die : Nat) (s : State) : Result :=
  let b := s.sbox die
  let l := leverAt s die b.next
  .next (if isScan die && decide (0 < s.issueLeft die) && decide (b.next ≤ 131071) && !leverBad s die b.next &&
      l.op == 0x20 && decide (b.waited < l.aux % 1024) && !syncTrue s die l then
    ((s.useCycles die 0 1).wr die Reg.SBOX_STAT_LEVER b.next |>.wr die Reg.SBOX_STAT_SYNC_WAIT 1).setSbox die
      { b with waited := b.waited + 1 }
  else s.issue die (· == 0x20) fun s _ l =>
    if l.aux % 1024 = 0 then { st := s, fault := some .badAux }
    else if l.aux % 1024 ≤ b.waited then syncOut s die b.waited l
    else { st := endSync s die b.waited, fault := (source s die l.a).2 })

/-- SYNC_TIMEOUT (R118): the wait has reached its maximum. -/
def execSyncTimeout (die : Nat) (s : State) : Result :=
  let b := s.sbox die
  .next (s.issue die (fun op => op == 0x20 && decide (0 < b.waited) &&
      b.waited == (leverAt s die b.next).aux % 1024) fun s _ l => syncOut s die b.waited l)

/-- NOP (R119). -/
def execNopLever (die : Nat) (s : State) : Result :=
  .next (s.issue die (· == 0x3E) fun s _ _ => { st := s })

/-- END (R119). -/
def execEndLever (die : Nat) (s : State) : Result :=
  .next (s.issue die (· == 0x3F) fun s _ l =>
    if bit l.aux 0 then { st := s, ends := true } else { st := s.incWrap die Reg.SBOX_NET_COUNT })

/-- ILLEGAL_OP (R111, R125): a reserved operation code. -/
def execIllegalOp (die : Nat) (s : State) : Result :=
  .next (s.issue die reservedOp fun s _ _ => { st := s, fault := some .illegalOp })

/-! ### The Timer rack's passes -/

/-- Calls the 64 timers of group `g` with the lanes of a word. -/
def passGroup (die space word first : Nat) (s : State) (g : Nat) : State :=
  let w := (operand s die space (word + g - first)).1
  (List.range 64).foldl (fun s k => s.callTimer die (64 * g + k) (w.getLsbD k)) s

/-- A pass that its budget cuts off (R87, R131): the groups it has reached stand.  How many conflicts with levers have held
it up is a free value. -/
def State.cutPass (s : State) (die : Nat) (x : Slot) : State :=
  let (k, s) := s.drawFree
  let stalls := Config.freeValue k % (x.length + 1)
  let set := s.rd die Reg.TIMR_PASS_SET
  let first := s.rd die (Reg.TIMR_SETs_FIRST.i set)
  let n := min (s.rd die (Reg.TIMR_SETs_LAST.i set) + 1 - first) ((x.length - 4 - stalls) / 2)
  let s := ((List.range n).map (first + ·)).foldl
    (passGroup die (s.rd die (Reg.TIMR_SETs_SPACE.i set)) (s.rd die (Reg.TIMR_SETs_WORD.i set)) first) s
  (s.add die Reg.TIMR_STALLS_COUNT stalls).wr die Reg.TIMR_PASS_RUNNING 0

/-- ADVANCE_PASS_END (R131): the pass of the running Timer rack row has called its set of groups.  `stalls` is the
number of conflicts with levers that updated the rack in the same cycles. -/
def execAdvancePassEnd (die stalls : Nat) (s : State) : Result :=
  .next (match s.slot? die 5 with
    | some x =>
      if isScan die && x.running && !x.idle then
        let set := s.rd die Reg.TIMR_PASS_SET
        let first := s.rd die (Reg.TIMR_SETs_FIRST.i set)
        let n := s.rd die (Reg.TIMR_SETs_LAST.i set) + 1 - first
        let cost := 4 + 2 * n + stalls
        if cost ≤ x.length then
          let s := ((List.range n).map (first + ·)).foldl
            (passGroup die (s.rd die (Reg.TIMR_SETs_SPACE.i set)) (s.rd die (Reg.TIMR_SETs_WORD.i set)) first) s
          let s := (s.add die Reg.TIMR_STALLS_COUNT stalls).useCycles die 5 cost
          ((s.workDone die 5).wr die Reg.TIMR_PASS_RUNNING 0).irq die 0x0C 0
        else s
      else s
    | none => s)

/-! ### The SBOX and TIMR pages -/

/-- Stores both words of mask entry `i` (R120). -/
def storeMask (s : State) (die i low high : Nat) : State :=
  (s.wr die (Reg.SBOX_MASKi_LO_BITS.i i) low).wr die (Reg.SBOX_MASKi_HI_BITS.i i) high

/-- What a write to a low mask word does (R120). -/
def maskLow (die i : Nat) (s : State) (v : Nat) : State :=
  { s with maskStages := SMap.insert s.maskStages die ⟨i, v⟩ }

/-- The low word stored with a high one: the staged word, or what the entry holds at the store (R120). -/
def maskLowOf (s : State) (die i staged : Nat) : Nat :=
  if staged = 0 then s.rd die (Reg.SBOX_MASKi_LO_BITS.i i) else staged - 1

/-- Notes a mask store that is held to the end of the Signal Box row (R121). -/
def holdMask (die : Nat) (h : HeldWrite) (s : State) : State :=
  { s with heldMasks := SMap.put [] s.heldMasks die (SMap.get [] s.heldMasks die ++ [h]) }

/-- What a write to a high mask word does: both words, at once, or with its response after the Signal Box row (R120, R121). -/
def maskHigh (w : Who) (die i : Nat) (s : State) (v : Nat) : State :=
  let staged := (((SMap.find? s.maskStages die).filter fun m => m.entry == i).map fun m => m.word + 1).getD 0
  let s := if staged = 0 then s else { s with maskStages := SMap.erase s.maskStages die }
  if s.rowRunning die 0 then s.heldPage w die 0x0B (0x804 + 8 * i) v (holdMask die ⟨i, staged, v, w.code⟩)
  else storeMask s die i (maskLowOf s die i staged) v

/-- A held mask store takes effect, and its response returns (R50, R121). -/
def releaseMask (die : Nat) (s : State) (h : HeldWrite) : State :=
  (storeMask s die h.off (maskLowOf s die h.off h.win) h.word).answerPage h.who die 0x0B (0x804 + 8 * h.off)

/-- MASK_LOW_WRITE (R120): a write to `SBOX.MASKi_LO`. -/
def execMaskLowWrite (w : Who) (die entry word : Nat) (s : State) : Result :=
  .next (if isScan die && decide (1 ≤ entry) && decide (entry < 256) then
    writeThen w die 0x0B (0x800 + 8 * entry) word s (maskLow die entry) else s)

/-- MASK_HIGH_WRITE (R120, R121): a write to `SBOX.MASKi_HI`. -/
def execMaskHighWrite (w : Who) (die entry word : Nat) (s : State) : Result :=
  .next (if isScan die && decide (1 ≤ entry) && decide (entry < 256) then
    writeThen w die 0x0B (0x804 + 8 * entry) word s (maskHigh w die entry) else s)

/-- MASK_STORE (R121): held mask stores take effect in the cycle after the Signal Box row ends. -/
def execMaskStore (die : Nat) (s : State) : Result :=
  .next (if s.rowRunning die 0 then s
    else
      let s' := (SMap.get [] s.heldMasks die).foldl (releaseMask die) s
      { s' with heldMasks := SMap.erase s.heldMasks die })

/-- What a write to `SBOX.CLR` does (R137). -/
def sboxClr (die : Nat) (s : State) (v : Nat) : State :=
  if bit v 0 then
    [Reg.SBOX_FAULT_KIND, Reg.SBOX_FAULT_VALID, Reg.SBOX_FAULT_LEVER, Reg.SBOX_FAULT_TASK].foldl
      (fun s f => s.resetField die f) s
  else s

/-- SBOX_FAULT_CLEAR (R137). -/
def execSboxFaultClear (w : Who) (die word : Nat) (s : State) : Result :=
  .next (if isScan die then writeThen w die 0x0B 0x11C word s (sboxClr die) else s)

/-- Resets every timer and counter of a die, presets and types kept (R139). -/
def clearRack (s : State) (die : Nat) : State :=
  let s := { s with
    timers := SMap.clear s.timers (die * 8192) 8192
    dirty := ((List.range 32).foldl (fun (t : State) i => { t with dirty := t.markDirty die (some (2048 + i)) }) s).dirty }
  (List.range 4096).foldl (fun s i => s.setCounter die i ((Counter.idle).settle (s.counterPv die i))) s

/-- Whether TIMR writes are held on a die now (R139). -/
def timrHeld (s : State) (die : Nat) : Bool := s.rowRunning die 0 || s.rowRunning die 5

/-- The fields of a TIMR register, in their window. -/
def timrFields (die off win : Nat) : List FieldDef :=
  (regFields die 0x0C off).map fun f => if f.win = .timer then f.w win else f

/-- Notes a TIMR write that is held to the end of the row (R139). -/
def holdTimr (die : Nat) (h : HeldWrite) (s : State) : State :=
  { s with heldTimr := SMap.put [] s.heldTimr die (SMap.get [] s.heldTimr die ++ [h]) }

/-- A write to `TIMR.CTL`, `CFG`, `PRESET` or `SETs`: at once, or held to the end of the row with its response (R139).  A
held write is checked and slipped at once; its fields keep their values until `TIMR_CONFIG_APPLY`. -/
def timrWrite (w : Who) (die off word : Nat) (s : State) : State :=
  let r := pageWrite s w die 0x0C off word
  match r.applied with
  | none => r.st
  | some v =>
    if timrHeld s die then
      let win := s.winIx w.code die .timer
      let back := (timrFields die off win).foldl (fun st f => if f.acc = .rw then st.wr die f (s.rd die f) else st) r.st
      back.heldPage w die 0x0C off word (holdTimr die ⟨off, win, v, w.code⟩)
    else if off = 0x100 ∧ bit v 0 = true then clearRack r.st die else r.st

/-- TIMR_CLEAR (R139): a write to `TIMR.CTL`. -/
def execTimrClear (w : Who) (die word : Nat) (s : State) : Result :=
  .next (if isScan die then timrWrite w die 0x100 word s else s)

/-- Applies one held TIMR write, and its response returns (R50, R139). -/
def applyTimr (die : Nat) (s : State) (h : HeldWrite) : State :=
  (if h.off = 0x100 then (if bit h.word 0 then clearRack s die else s)
   else (timrFields die h.off h.win).foldl (fun st f => st.wr die f (f.get h.word)) s).answerPage h.who die 0x0C h.off

/-- TIMR_CONFIG_APPLY (R139): held TIMR writes take effect in the cycle after the row ends. -/
def execTimrConfigApply (die : Nat) (s : State) : Result :=
  .next (if timrHeld s die then s
    else
      let s' := (SMap.get [] s.heldTimr die).foldl (applyTimr die) s
      { s' with heldTimr := SMap.erase s.heldTimr die })

/-- What a write to `Sn/DBG.WATCH` does (R170). -/
def dbgWatch (die : Nat) (s : State) (v : Nat) : State :=
  if bit v 18 then s.wr die Reg.S_DBG_STAT_WATCH_HIT 0 else s

/-- WATCH_CLEAR (R170). -/
def execWatchClear (w : Who) (die word : Nat) (s : State) : Result :=
  .next (if isScan die then writeThen w die 0x12 0x104 word s (dbgWatch die) else s)

end Sys2Proof.Machine
end

