-- ==== Sys2Proof/Machine/Modes.lean ====
section
/-! DEFINITION.  Controller modes, starts and retained data (spec/06 R190 to R204). -/

namespace Sys2Proof.Machine

open Sys2Proof.Bits

/-- Bytes of one image copy (R172). -/
def imageBytes : Nat := 163840

namespace State

/-! ### Entering modes -/

/-- The mode changes (R206). -/
def enterMode (s : State) (m : Nat) : State :=
  ((s.wr 0 Reg.MODE_STAT_MODE m).inc 0 Reg.MODE_CHANGES_COUNT).irq 0 0x27 0

/-- A pending request is gone. -/
def clearRequest (s : State) : State :=
  { ((s.wr 0 Reg.MODE_STAT_PENDING 0).wr 0 Reg.MODE_STAT_PENDING_CMD 0).wr 0 Reg.MODE_STAT_PREPARING 0 with
    prog := { s.prog with prepEnd := none } }

/-- The part enters Stop (R191, R206, R165): 1 COMMAND, 2 FRAME_WATCH, 3 POWER_FAIL, 4 RESET, 5 PAIR.  A pending
request is dropped. -/
def enterStop (s : State) (cause : Nat) : State :=
  let s := s.clearRequest.wr 0 Reg.MODE_REASON_STOP_CAUSE cause
  let s := if cause = 1 then s else { s with change := { s.change with stopped := true } }
  if s.mode = 0 then s else (((s.enterMode 0).irq 0 0x27 2).routerEdges 43)

/-- What every entry to Run ends (R100, R102). -/
def enterRun (s : State) : State :=
  { scanDies.foldl (fun s d => s.wr d Reg.BUDGET_OVR_VALID 0) s with forcedStop := false }

/-- `MODE.STAT.HOT_OK` is lost (R199). -/
def hotLost (s : State) : State := s.wr 0 Reg.MODE_STAT_HOT_OK 0

/-! ### The checks of a request (R191, R193) -/

/-- Entries of one half of the Catalogue that bind, rising. -/
def catValid (s : State) (half : Nat) : List Nat :=
  (s.listed 0 Reg.CAT_ENT_W0_VALID).filter fun k => k / 24576 == half

/-- R79: the four instants within their Ranges. -/
def frameConfigOk (s : State) : Bool :=
  let p := s.rd 0 Reg.TICK_PERIOD_US
  let sb := s.rd 0 Reg.FWATCH_SPREAD_BY_US
  let ca := s.rd 0 Reg.FWATCH_COMMIT_AT_US
  decide (250 ≤ p) && decide (p ≤ 100000) && decide (s.rd 0 Reg.TICK_RELEASE_AT_US ≤ p / 2) && decide (5 ≤ sb) &&
    decide (sb < ca) && decide ((ca : Int) ≤ commitAtMax s)

/-- A LIVE die whose rail is present (R193 code 3). -/
def usable (s : State) (d : Nat) : Bool := s.live d && inDies (s.rd 0 Reg.PART_STAT_PRESENT) d

/-- The tasks of the table that are in use. -/
def usedTasks (s : State) : List Nat := (s.listed 0 Reg.TASK_CFG_TYPE).filter (· < 64)

/-- R193 code 3. -/
def diesOk (s : State) : Bool :=
  (s.usedTasks.all fun t => scanDies.all fun d => !inDies (s.rd 0 (Reg.TASK_CFG_DIES.w t)) d || s.usable d) &&
    scanDies.any s.usable

/-- Rows of a task in the active banks: die and row. -/
def rowsOfTask (s : State) (t : Nat) : List (Nat × Nat) :=
  scanDies.flatMap fun d => ((s.validRows d (s.activeBank d)).filter fun r =>
    s.rowField d (s.activeBank d) r Reg.TTBL_ROW_W1_TASK == t).map fun r => (d, r)

/-- R193 code 5. -/
def tasksOk (s : State) : Bool :=
  s.usedTasks.all fun t =>
    match s.taskType t with
    | 1 =>
      let p := s.rd 0 (Reg.TASK_CFG_PERIOD.w t)
      s.rd 0 Reg.TICK_MAJOR_FRAMES % p == 0 &&
        (s.rowsOfTask t).all fun r => s.rowField r.1 (s.activeBank r.1) r.2 Reg.TTBL_ROW_W3_EVERY == p
    | 2 => s.rd 0 (Reg.TASK_TRIG_KIND.w t) != 0
    | 3 => s.rd 0 (Reg.TASK_ERR_CAUSES.w t) != 0
    | _ => true

/-- R193 code 6: every owner of an owned unit is LIVE. -/
def ownersOk (s : State) : Bool :=
  (s.catValid s.catActive).all fun k =>
    s.rd 0 (Reg.CAT_ENT_W0_DIR.w k) == 0 ||
      scanDies.all fun d => !inDies (s.rd 0 (Reg.CAT_ENT_W0_DIES.w k)) d || s.live d

/-- The largest `PF_GRACE` for the present list in µs (R202). -/
def graceMax (s : State) : Int := (990 * 8000 - (s.retSize : Int) * 25) / 8000

/-- The first failing check of R193 for a start of kind `k`; `none` when all pass. -/
def startRefusal (s : State) (k : Nat) : Option Nat :=
  let tests : List (Nat × Bool) :=
    [(13, s.prog.failed), (2, !s.frameConfigOk), (3, !s.diesOk),
     (4, scanDies.any fun d => s.live d && (s.checkBank d (s.activeBank d)).isSome), (5, !s.tasksOk), (6, !s.ownersOk),
     (7, !s.on 0 Reg.IMG_STAT_SAFE_VALID),
     (8, k == 1 && s.rd 0 Reg.IMG_RET_CFG_ENTRIES != 0 && !s.retValid 0 && !s.retValid 1),
     (9, decide (262144 < s.retSize) || decide (s.graceMax < (s.rd 0 Reg.IMG_RET_CFG_PF_GRACE : Int))),
     (10, k == 2 && !s.on 0 Reg.MODE_STAT_HOT_OK), (11, s.standby)]
  (tests.find? (·.2)).map (·.1)

/-- Whether R191 allows a request in a mode: 1 STOP, 2 RUN, 3 HOLD, 4 STEP. -/
def requestLegal (mode cmd : Nat) : Bool :=
  match mode, cmd with
  | 0, 2 | 0, 3 | 1, 1 | 1, 3 | 2, 2 | 2, 4 | 2, 1 => true
  | _, _ => false

/-- The refusal of a request, or `none` (R191, R193; a standby's requests, R485). -/
def refusal (s : State) (cmd kind : Nat) : Option Nat :=
  if s.on 0 Reg.MODE_STAT_PENDING || !requestLegal s.mode cmd then some 1
  else if (cmd = 3 ∨ cmd = 4) ∧ s.on 0 Reg.MODE_CFG_NO_HOLD then some 12
  else if s.mode = 0 then s.startRefusal kind else if s.standby then some 11 else none

/-- A request written to `MODE.REQ` (R191, R193). -/
def modeRequest (s : State) (cmd kind : Nat) : State :=
  if cmd = 0 then s
  else
    match s.refusal cmd kind with
    | some c =>
      ((((s.wr 0 Reg.MODE_REASON_REFUSE c).wr 0 Reg.MODE_REASON_REFUSED_CMD cmd).inc 0 Reg.MODE_REFUSALS_COUNT).irq
        0 0x27 1)
    | none =>
      let starting := s.mode == 0
      let s := ((s.wr 0 Reg.MODE_STAT_PENDING 1).wr 0 Reg.MODE_STAT_PENDING_CMD cmd).wrB 0 Reg.MODE_STAT_PREPARING starting
      { s with prog := { s.prog with accept := s.cycle, prepEnd := none
                                     kind := if starting then kind else s.prog.kind } }

/-- Whether the pending request was accepted at least 256 cycles ago (R191). -/
def requestDue (s : State) : Bool :=
  s.on 0 Reg.MODE_STAT_PENDING && decide (s.prog.accept + 256 ≤ s.cycle)

/-- `MODE.STAT.HOT_OK` at a tick: in a frame in which the program is in Run or Hold it last ran now, so what has been
written or swapped before no longer counts (R199; DEDUCED, log entry 42). -/
def hotAtTick (s : State) : State :=
  if s.mode ≠ 0 ∧ s.aon.holdup = 0 then s.wr 0 Reg.MODE_STAT_HOT_OK 1 else s

/-- The transitions of a tick (R191): the end of a Step frame, the first Run or Hold frame of a start, Hold to Run or
Step.  The frame number and minor frame are those of the new frame. -/
def modeAtTick (s : State) : State :=
  let cmd := s.rd 0 Reg.MODE_STAT_PENDING_CMD
  if s.mode = 3 then s.enterMode 2
  else if s.mode = 0 then
    match s.prog.prepEnd with
    | some e =>
      if s.on 0 Reg.MODE_STAT_PENDING && s.minor == 0 && decide (e + 256 ≤ s.cycle) then
        let s := s.clearRequest
        let s := (s.wr 0 Reg.MODE_STAT_START s.prog.kind).wr 0 Reg.MODE_FIRST_N s.frameNo
        let s := { s with prog := { s.prog with fresh := true } }
        if cmd = 2 then s.enterRun.enterMode 1 else s.enterMode 2
      else s
    | none => s
  else if s.mode = 2 ∧ s.requestDue then
    match cmd with
    | 2 => (s.clearRequest.enterRun).enterMode 1
    | 4 => (s.inc 0 Reg.MODE_STEPS_COUNT).enterMode 3
    | _ => s
  else s

/-! ### Retained data (R200 to R203) -/

/-- One entry of the retained list: kind, die, start, length. -/
def retEntry (s : State) (i : Nat) : Nat × Nat × Nat × Nat :=
  (s.rd 0 (Reg.IMG_RETi_W0_KIND.i i), s.rd 0 (Reg.IMG_RETi_W0_DIE.i i), s.rd 0 (Reg.IMG_RETi_W0_START.i i),
    s.rd 0 (Reg.IMG_RETi_W1_LENGTH.i i))

/-- The word of one bit of the 64 counters of a group. -/
def groupWord (s : State) (die g : Nat) (f : Counter → Bool) : Nat :=
  maskOf ((List.range 64).filter fun k => f (s.counter die (64 * g + k)))

/-- The bytes of one counter group (R200). -/
def groupBytes (s : State) (die g : Nat) : List Byte :=
  ((List.range 64).flatMap fun k => toLE 4 (ofInt 32 (s.counter die (64 * g + k)).cv)) ++
    toLE 8 (s.groupWord die g Counter.cu) ++ toLE 8 (s.groupWord die g Counter.cd) ++
    toLE 8 (s.groupWord die g Counter.sat)

/-- The bytes of a region (R200). -/
def regionBytes (s : State) (e : Nat × Nat × Nat × Nat) : List Byte :=
  let (kind, die, start, len) := e
  match kind with
  | 1 => s.loadBytes (bankP die + 0xC0000 + start) len
  | 2 => s.loadBytes (bitAddr die 2 start) (8 * len)
  | 3 => (List.range len).flatMap fun g => s.groupBytes die (start + g)
  | _ => []

/-- A retained record of the present list (R201). -/
def retRecord (s : State) (torn : Nat) : List Byte :=
  let ents := (List.range (s.rd 0 Reg.IMG_RET_CFG_ENTRIES)).map s.retEntry
  toLE 8 s.frameNo ++ toLE 8 torn ++ s.listDigest ++ toLE 4 ents.length ++ toLE 4 (s.rd 0 Reg.MODE_STAT_START) ++
    List.replicate 32 0 ++
    (ents.flatMap fun e => toLE 4 (e.1 + 4 * e.2.1 + 256 * e.2.2.1) ++ toLE 4 e.2.2.2 ++ List.replicate 8 0) ++
    ents.flatMap s.regionBytes

/-- Bytes a region takes in a record (R200). -/
def regionSize (e : Nat × Nat × Nat × Nat) : Nat :=
  match e.1 with
  | 1 => e.2.2.2
  | 2 => 8 * e.2.2.2
  | 3 => 280 * e.2.2.2
  | _ => 0

/-- Restores one counter group from a Stacks address. -/
def restoreGroup (s : State) (die g a : Nat) : State :=
  (List.range 64).foldl (fun s k =>
    let i := 64 * g + k
    let b := fun o => bit (s.load (a + 256 + 8 * o) 8) k
    s.setCounter die i
      ({ s.counter die i with cv := toInt 32 (s.load (a + 4 * k) 4), cu := b 0, cd := b 1, sat := b 2 }.settle
        (s.counterPv die i))) s

/-- Restores a region from a record, whatever the role of its die (R198); a die without power holds nothing. -/
def restoreRegion (s : State) (e : Nat × Nat × Nat × Nat) (a : Nat) : State :=
  let (kind, die, start, len) := e
  if !s.powered die then s
  else match kind with
    | 1 => s.copyMem a (bankP die + 0xC0000 + start) len
    | 2 => s.copyMem a (bitAddr die 2 start) (8 * len)
    | 3 => (List.range len).foldl (fun s i => s.restoreGroup die (start + i) (a + 280 * i)) s
    | _ => s

/-- Restores every region from the record of copy `b` of twin 32. -/
def restoreRecord (s : State) (b : Nat) : State :=
  let ents := (List.range (s.rd 0 Reg.IMG_RET_CFG_ENTRIES)).map s.retEntry
  (ents.foldl (fun (p : State × Nat) e => (p.1.restoreRegion e p.2, p.2 + regionSize e))
    (s, STACKS + twinBodyAt 32 b + 64 + 16 * ents.length)).1

/-- Zeroes `n` bytes from `a` but for the ranges that the list keeps (start and length, both relative to `a`), which stay as
they are (R198). -/
def clearBut (s : State) (a n : Nat) (kept : List (Nat × Nat)) : State :=
  let s' := s.clearMem a n
  kept.foldl (fun t r => { t with
    mem := SMap.splice t.mem (a + r.1) (a + r.1 + r.2) (SMap.slice s.mem (a + r.1) (a + r.1 + r.2))
    ecc := SMap.splice t.ecc (a + r.1) (a + r.1 + r.2) (SMap.slice s.ecc (a + r.1) (a + r.1 + r.2)) }) s'

/-- The regions of the list of one kind on one die, in bytes of `unit` each. -/
def keptRegions (s : State) (kind die unit : Nat) : List (Nat × Nat) :=
  (List.range (s.rd 0 Reg.IMG_RET_CFG_ENTRIES)).filterMap fun i =>
    let e := s.retEntry i
    if e.1 = kind ∧ e.2.1 = die then some (unit * e.2.2.1, unit * e.2.2.2) else none

/-- Prepares one die for a cold (0) or warm (1) start (R197); `ram`: the retained words and regions stay. -/
def prepareDie (s : State) (die : Nat) (cold ram : Bool) : State :=
  let clearSpace (s : State) (sp : Nat) : State := s.clearMem (bitAddr die sp 0) (8 * spaceWords sp)
  let s := clearSpace (clearSpace s 1) 5
  let s := s.clearBut (bitAddr die 2 0) (8 * spaceWords 2) (if ram then s.keptRegions 2 die 8 else [])
  let s := s.clearMem (bankP die + 0x20000) 0x20000
  let s := s.clearBut (bankP die + 0xC0000) 0x40000 (if ram then s.keptRegions 1 die 1 else [])
  let s := if cold then clearRack s die else s
  (List.range 64).foldl (fun s t => s.wr die (Reg.BUDGET_SKIPt_COUNT.i t) 0) s

/-- Discards pending triggers and latch counts (R197). -/
def discardTriggers (s : State) : State :=
  { (List.range 64).foldl (fun s t =>
      ((s.wr 0 (Reg.TASK_STAT_PENDING.w t) 0).wr 0 (Reg.TASK_STAT_PEND_COUNT.w t) 0).wr 0 (Reg.TASK_STAT_LATCH_COUNT.w t) 0) s
    with causes := [] }

/-- Writes `TASK.STAT.TORN` of every task from a mask. -/
def setTorn (s : State) (m : Nat) : State :=
  (List.range 64).foldl (fun s t => s.wrB 0 (Reg.TASK_STAT_TORN.w t) (bit m t)) s

/-- Start preparation (R197, R198): 0 cold, 1 warm, 2 hot. -/
def prepare (s : State) (kind : Nat) : State :=
  let s := (s.discardTriggers).setTorn 0
  let s := if kind = 0 then s else
    (((s.wr2 0 Reg.TOKEN_HELD_LO_TOKENS Reg.TOKEN_HELD_HI_TOKENS 0).wr2 0 Reg.TOKEN_BROKEN_LO_TOKENS
      Reg.TOKEN_BROKEN_HI_TOKENS 0).wr2 0 Reg.TOKEN_HELDOVER_LO_TOKENS Reg.TOKEN_HELDOVER_HI_TOKENS 0)
  if kind = 2 then s
  else
    let ram := kind == 1 && s.on 0 Reg.MODE_STAT_HOT_OK
    let s := (scanDies.filter s.live).foldl (fun s d => s.prepareDie d (kind == 0) ram) s
    let s := (List.range 64).foldl (fun s t => s.wr 0 (Reg.TASK_RUNS_COUNT.w t) 0) s
    if kind = 0 then s
    else
      let s := if ram then s.wr 0 Reg.IMG_STAT_RET_SRC 0 else
        let s := s.wr 0 Reg.IMG_STAT_RET_SRC 1
        match s.retNewest with
        | some b => (s.restoreRecord b).setTorn (s.stk (twinBodyAt 32 b + 8) 8)
        | none => s
      s.irq 0 0x29 2

end State

/-! ### Commands -/

/-- What a write to `MODE.REQ` does (R191). -/
def modeReq (s : State) (v : Nat) : State := s.modeRequest (v % 8) (v / 8 % 4)

/-- MODE_STOP (R191): a STOP request written to `MODE.REQ`. -/
def execModeStop (w : Who) (s : State) : Result := .next (writeThen w 0 0x27 0x100 1 s modeReq)

/-- MODE_RUN (R191, R193): a RUN request with a start kind. -/
def execModeRun (w : Who) (start : Nat) (s : State) : Result :=
  .next (writeThen w 0 0x27 0x100 (2 + 8 * (start % 4)) s modeReq)

/-- MODE_HOLD (R191): a HOLD request with a start kind. -/
def execModeHold (w : Who) (start : Nat) (s : State) : Result :=
  .next (writeThen w 0 0x27 0x100 (3 + 8 * (start % 4)) s modeReq)

/-- MODE_STEP (R191): a STEP request. -/
def execModeStep (w : Who) (s : State) : Result := .next (writeThen w 0 0x27 0x100 4 s modeReq)

/-- START_PREPARATION_END (R193, R197, R198): the preparation of the pending start ends. -/
def execStartPreparationEnd (s : State) : Result :=
  .next (if s.on 0 Reg.MODE_STAT_PREPARING then
    let s := (s.prepare s.prog.kind).wr 0 Reg.MODE_STAT_PREPARING 0
    { s with prog := { s.prog with prepEnd := some s.cycle } }
  else s)

/-- POWERUP_RUN_REQUEST (R192): once after power-on reset, when the Safe image is valid; a refusal under R193 is
archived. -/
def execPowerupRunRequest (s : State) : Result :=
  let p := s.rd 0 Reg.MODE_CFG_POWERUP
  .next (if s.firmware && s.on 0 Reg.IMG_STAT_SAFE_VALID && !s.prog.askedPowerup then
    let s := { s with prog := { s.prog with askedPowerup := true } }
    if p = 0 then s
    else
      let kind := if p = 1 then 1 else 0
      match s.refusal 2 kind with
      | some c => (s.modeRequest 2 kind).archive 0x27 1 .info [c, 2]
      | none => s.modeRequest 2 kind
  else s)

/-- Offset in K-DEPOT at which a Safe image is staged (R204; the model's own, log entry 40). -/
def safeStage : Nat := 0x20000

/-- SAFE_IMAGE_LOADED (R204): the staged image becomes the Safe image in one step. -/
def execSafeImageLoaded (s : State) : Result :=
  .next (if s.on 0 Reg.IMG_STAT_SAFE_LOADING then
    let s := s.copyMem (K_DEPOT + safeStage) (K_IMAGE + 0x78000) imageBytes
    let s := (s.wr 0 Reg.IMG_STAT_SAFE_LOADING 0).wr 0 Reg.IMG_STAT_SAFE_VALID 1
    (s.wr 0 Reg.IMG_SAFE_CRC_CRC (crc32c (s.loadBytes (K_IMAGE + 0x78000) imageBytes))).irq 0 0x29 1
  else s)

end Sys2Proof.Machine
end

