-- ==== Sys2Proof/Machine/Tables.lean ====
section
/-! DEFINITION.  Writing, checking and swapping the Station Table and the Binding Catalogue (spec/08 R257 to R259,
R264, R267, R268, R271 to R273). -/

namespace Sys2Proof.Machine

open Sys2Proof.Bits

/-- Wire bytes of a Slasel frame with a payload of `n` bytes (R249). -/
def wireBytes (n : Nat) : Nat := 54 + max n 30

/-- Byte time of a Line port in tenths of a nanosecond (R239). -/
def byteTime (s : State) (p : Nat) : Nat := if s.on 0 (Reg.LINEn_CFG_MODE.p p) then 80 else 32

/-- Bytes a station takes in a transmit set (R273). -/
def slotBytes (outLen : Nat) : Nat := 32 + 32 * ((max outLen 30 + 31) / 32)

/-- The fields of a Station Table entry. -/
def stnFields : List FieldDef :=
  [Reg.STN_ENT_W0_VALID, Reg.STN_ENT_W0_KIND, Reg.STN_ENT_W0_DROP, Reg.STN_ENT_W0_ERR_TASK, Reg.STN_ENT_W0_ERR_EN,
   Reg.STN_ENT_W0_RING_A, Reg.STN_ENT_W0_RING_B, Reg.STN_ENT_W0_MAC_HI, Reg.STN_ENT_W1_MAC_LO, Reg.STN_ENT_W2_IN_LEN,
   Reg.STN_ENT_W2_OUT_LEN, Reg.STN_ENT_W2_LEAD, Reg.STN_ENT_W3_CAT_FIRST, Reg.STN_ENT_W3_CAT_COUNT]

/-- The fields of a Catalogue entry. -/
def catFields : List FieldDef :=
  [Reg.CAT_ENT_W0_VALID, Reg.CAT_ENT_W0_DIR, Reg.CAT_ENT_W0_KIND, Reg.CAT_ENT_W0_FORMAT, Reg.CAT_ENT_W0_POLICY,
   Reg.CAT_ENT_W0_DIES, Reg.CAT_ENT_W0_STATION, Reg.CAT_ENT_W1_OFFSET, Reg.CAT_ENT_W1_LENGTH, Reg.CAT_ENT_W2_IMAGE,
   Reg.CAT_ENT_W2_SUBIDX]

/-! ### The check of R267 -/

/-- Whether two half-open ranges meet. -/
def rangesMeet (a n b m : Nat) : Bool := decide (a < b + m) && decide (b < a + n)

/-- First payload bit of a run, and its bits. -/
def CatEntry.payloadBits (e : CatEntry) : Nat × Nat :=
  if e.analogue then (8 * e.offset, 8 * e.size * e.length) else (e.offset, e.length)

/-- Whether two output runs name a unit in common (R176). -/
def CatEntry.shareUnit (a b : CatEntry) : Bool :=
  a.analogue == b.analogue &&
    (if a.analogue then rangesMeet a.image a.length b.image b.length
     else decide (a.image / 64 ≤ (b.image + b.length - 1) / 64) && decide (b.image / 64 ≤ (a.image + a.length - 1) / 64))

/-- Last substitute entry of a SUBST run (R180). -/
def CatEntry.lastSubst (e : CatEntry) : Nat := e.subidx + if e.analogue then e.length - 1 else (e.length - 1) / 32

namespace State

/-- The codes 1 and 3 to 7 that entry `e` fails against its station and the valid entries below it (R267). -/
def entryCodes (s : State) (half : Nat) (below : List CatEntry) (e : CatEntry) : List Nat :=
  let t := s.stnEntry half e.station
  let len := if e.out then t.outLen else t.inLen
  let bits := e.payloadBits
  let tests : List (Nat × Bool) :=
    [(1, !t.valid || decide (e.index < t.catFirst) || decide (t.catFirst + t.catCount ≤ e.index)),
     (3, decide (8 * len < bits.1 + bits.2) || (e.analogue && e.offset % e.size != 0) ||
        (e.out && below.any fun b => b.out && b.station == e.station &&
          rangesMeet b.payloadBits.1 b.payloadBits.2 bits.1 bits.2)),
     (4, decide ((if e.analogue then 32768 else 262144) < e.image + e.length)),
     (5, !e.out && below.any fun b => !b.out && b.analogue == e.analogue && rangesMeet b.image b.length e.image e.length),
     (6, e.out && (count 6 e.dies != 1 || below.any fun b => b.out && b.dies != e.dies && b.shareUnit e)),
     (7, !e.out && e.policy == 1 && decide (8191 < e.lastSubst))]
  (tests.filter (·.2)).map (·.1)

/-- The lowest entry that lies in the Catalogue ranges of two valid stations (R267 code 2). -/
def rangeClash (s : State) (half : Nat) : Option Nat :=
  let rs := ((s.validStations half).map fun n => ((s.stnEntry half n).catFirst, (s.stnEntry half n).catCount)).filter
    fun r => r.2 != 0
  let clashes := (rs.zipIdx).flatMap fun a => (rs.zipIdx).filterMap fun b =>
    if a.2 < b.2 ∧ rangesMeet a.1.1 a.1.2 b.1.1 b.1.2 = true then some (max a.1.1 b.1.1) else none
  clashes.foldl (fun m x => match m with | none => some x | some y => some (min x y)) none

/-- The first entry failure: index and code. -/
def entryFailure (s : State) (half : Nat) : Option (Nat × Nat) :=
  let es := s.catEntries half
  let own := es.findSome? fun e =>
    (s.entryCodes half (es.filter fun b => decide (b.index < e.index)) e).head?.map fun c => (e.index, c)
  match own, s.rangeClash half with
  | none, none => none
  | some f, none => some f
  | none, some r => some (r, 2)
  | some f, some r => if r < f.1 ∨ (r = f.1 ∧ 2 < f.2) then some (r, 2) else some f

/-- Network stations of a half on the ring of port `p`, rising. -/
def ringStations (s : State) (half p : Nat) : List Nat :=
  (s.validStations half).filter fun n => (s.stnEntry half n).kind == 0 && (s.stnEntry half n).onPort p

/-- Code 8: a station with more valid entries than its payload allows. -/
def entriesFailure (s : State) (half : Nat) : Option Nat :=
  (s.validStations half).find? fun n =>
    let t := s.stnEntry half n
    let es := (s.catEntries half).filter fun e => e.station == n
    decide (4 + (t.inLen + 7) / 8 < (es.filter fun e => !e.out).length) ||
      decide (4 + (t.outLen + 7) / 8 < (es.filter (·.out)).length)

/-- The first station of a list at which a running sum passes the limit or `bad` holds. -/
def sumFailure (limit : Nat) (size : Nat → Nat) (bad : Nat → Bool) : List Nat → Nat → Option Nat
  | [], _ => none
  | n :: ns, acc =>
    if limit < acc + size n ∨ bad n = true then some n else sumFailure limit size bad ns (acc + size n)

/-- Code 9: the station and the port that break the span limit (R272). -/
def spanFailure (s : State) (half : Nat) : Option (Nat × Nat) :=
  (List.range 4).findSome? fun p =>
    (sumFailure ((s.rd 0 Reg.TICK_PERIOD_US - 20) * 10000) (fun n => byteTime s p * wireBytes (s.stnEntry half n).outLen)
      (fun n => s.on 0 (Reg.LINEn_CFG_MODE.p p) && decide (583 < (s.stnEntry half n).outLen))
      (s.ringStations half p) 0).map fun n => (n, p)

/-- Code 10: the station at which the transmit set overflows (R273). -/
def bufferFailure (s : State) (half : Nat) : Option Nat :=
  sumFailure 262144 (fun n => slotBytes (s.stnEntry half n).outLen) (fun _ => false)
    ((s.validStations half).filter fun n => (s.stnEntry half n).kind == 0) 0

/-- The first failure of the check of R267 over one half of both tables: code, index, port. -/
def tableFailure (s : State) (half : Nat) : Option (Nat × Nat × Nat) :=
  match s.entryFailure half with
  | some (i, c) => some (c, i, 0)
  | none =>
    match s.entriesFailure half with
    | some n => some (8, n, 0)
    | none =>
      match s.spanFailure half with
      | some (n, p) => some (9, n, p)
      | none => (s.bufferFailure half).map fun n => (10, n, 0)

/-! ### The swap -/

/-- Span of a port of the active table in ns (R271, R280). -/
def spanOf (s : State) (p : Nat) : Nat :=
  byteTime s p * ((s.ringStations s.catActive p).map fun n => wireBytes (s.station n).outLen).sum / 10

/-- Shows what the pages tell of the active tables (R209, R277, R280). -/
def showTables (s : State) : State :=
  let s := (List.range 4).foldl (fun s p => s.wr 0 (Reg.LINEn_SPAN_NS.p p) (s.spanOf p)) s
  let load (s : State) (p : Nat) : Nat :=
    ((s.ringStations s.catActive p).map fun n => wireBytes (s.station n).inLen).sum
  let s := (s.wr 0 Reg.STN_LOAD_A_BYTES (load s 0)).wr 0 Reg.STN_LOAD_B_BYTES (load s 2)
  scanDies.foldl (fun s d =>
    let sub := s.subscribed d
    let pts (out : Bool) : Nat := ((((s.catEntries s.catActive).filter fun e =>
      e.analogue && e.out == out && inDies e.dies d).foldl (fun m e =>
        (List.range e.length).foldl (fun m i => SMap.insert m (e.image + i) ()) m) ([] : SMap Unit))).length
    let own := ((((s.ownedRuns d).filter fun e => !e.analogue).foldl (fun m e =>
      e.words.foldl (fun m w => SMap.insert m w ()) m) ([] : SMap Unit))).length
    (((s.wr d Reg.PLAT_SUB_D_WORDS (sub.filter (· < 4096)).length).wr d Reg.PLAT_SUB_A_POINTS (pts false)).wr d
      Reg.PLAT_OWN_D_WORDS own).wr d Reg.PLAT_OWN_A_POINTS (pts true)) s

/-- Shows the dropped stations (R275, R277). -/
def showDropped (s : State) : State :=
  let s := (List.range 32).foldl (fun s i => s.wr 0 (Reg.STN_DROPPEDi_STATIONS.i i)
    (maskOf ((List.range 32).filter fun k => s.on 0 (Reg.STN_SSTAT_DROPPED.w (32 * i + k))))) s
  s.wr 0 Reg.XCHG_DROPPED_COUNT ((List.range 1024).filter fun n => s.on 0 (Reg.STN_SSTAT_DROPPED.w n)).length

/-- What the part holds of a station. -/
def stn (s : State) (n : Nat) : Stn := SMap.get Stn.fresh s.exch.stations n

/-- Replaces what the part holds of a station. -/
def setStn (s : State) (n : Nat) (x : Stn) : State :=
  { s with exch := { s.exch with stations := SMap.put Stn.fresh s.exch.stations n x } }

/-- A station restarts fresh (R259). -/
def freshStation (s : State) (n : Nat) : State :=
  let s := [Reg.STN_SSTAT_QUALITY, Reg.STN_SSTAT_DROPPED, Reg.STN_SSTAT_MISS, Reg.STN_SSTAT_PATH_A, Reg.STN_SSTAT_PATH_B,
    Reg.STN_LAST_SEQ, Reg.STN_LAST_ALARM_SEQ].foldl (fun s f => s.wr 0 (f.w n) 0) s
  s.setStn n Stn.fresh

/-- Both tables swap (R259, R268, R276). -/
def swapTables (s : State) : State :=
  let old := s.catActive
  let touched := (s.validStations 0 ++ s.validStations 1).filter fun n =>
    !(s.stnEntry (1 - old) n).valid || decide (s.stnEntry 0 n ≠ s.stnEntry 1 n)
  let s := { s with catActive := 1 - old, exch := { s.exch with swapDue := false, overspanNoted := 0 } }
  let s := (touched.foldl freshStation s).showDropped
  let s := (List.range 4).foldl (fun s p => s.wr 0 (Reg.LINEn_STAT_OVERSPAN.p p) 0) s
  ((s.incWrap 0 Reg.CAT_SWAPS_COUNT).irq 0 0x19 0).hotLost.showTables

/-- Copies both active tables into their shadows (R268). -/
def copyTables (s : State) : State :=
  let a := s.catActive
  let copyAll (s : State) (fs : List FieldDef) (size : Nat) : State :=
    fs.foldl (fun s f =>
      let entries (h : Nat) : List Nat := (s.listed 0 f).filter fun k => k / size == h
      let s' := (entries (1 - a)).foldl (fun s k => s.resetField 0 (f.w k)) s
      (entries a).foldl (fun t k => t.wr 0 (f.w ((1 - a) * size + k % size)) (s.rd 0 (f.w k))) s') s
  copyAll (copyAll s stnFields 1024) catFields 24576

/-- Whether writes to the tables are held (R268). -/
def tablesHeld (s : State) : Bool := s.on 0 Reg.CAT_STAT_CHECKING || s.exch.swapDue

/-- Holds a table write. -/
def holdTable (who code off word : Nat) (owed : Bool) (s : State) : State :=
  { s with exch := { s.exch with heldTables := s.exch.heldTables ++ [⟨who, code, off, word, owed⟩] } }

end State

/-- What a stored write to `STN.ENT_W3` does (R257). -/
def stnStored (s : State) (_ : Nat) : State :=
  let n := s.rd 0 Reg.STN_SEL_STATION
  let s := copyEntry s 0 stnFields staged ((1 - s.catActive) * 1024 + n)
  if s.on 0 Reg.STN_SEL_AUTOINC then s.wr 0 Reg.STN_SEL_STATION (n + 1) else s

/-- What a stored write to `CAT.ENT_W2` does (R264). -/
def catStored (s : State) (_ : Nat) : State :=
  let n := s.rd 0 Reg.CAT_SEL_INDEX
  let s := copyEntry s 0 catFields staged ((1 - s.catActive) * 24576 + n)
  if s.on 0 Reg.CAT_SEL_AUTOINC then s.wr 0 Reg.CAT_SEL_INDEX (if n = 24575 then 0 else n + 1) else s

/-- What a write to `CAT.CTL` does (R268): with both bits, SWAP acts first and COPY is held. -/
def catCtl (who : Nat) (s : State) (v : Nat) : State :=
  if bit v 0 then
    let s := ((s.wr 0 Reg.CAT_STAT_CHECKING 1).wr 0 Reg.CAT_STAT_CHECK_FAIL 0).wr 0 Reg.CAT_STAT_FAIL_CODE 0
    if bit v 1 then State.holdTable who 0x19 0x100 2 false s else s
  else if bit v 1 then s.copyTables else s

/-- A write to `CAT.CTL`, `STN.ENT_W3` or `CAT.ENT_W2`: held, with its response, while a check runs or a swap is due (R50,
R268). -/
def tableWrite (w : Who) (code off word : Nat) (s : State) : State :=
  if s.tablesHeld && (off != 0x100 || word % 4 != 0) && mayWrite 0 code w && !s.notReady 0 code then
    s.heldPage w 0 code off word (State.holdTable w.code code off word true)
  else writeThen w 0 code off word s
    (if code = 0x1A then stnStored else if off = 0x110 then catStored else catCtl w.code)

/-- A held write takes effect, and its response returns unless it is held again (R50). -/
def releaseTable (s : State) (h : HeldTable) : State :=
  match (if h.owed then s.pageWaits 0 h.code h.off else none) with
  | some r =>
    let s := tableWrite r.by h.code h.off h.word (s.unholdRequest r)
    if s.holding.contains r then s else s.reply r.who 0 false
  | none => tableWrite ⟨h.who, false⟩ h.code h.off h.word s

/-- The held writes take effect in order; a SWAP among them holds the ones behind it again. -/
def releaseTables (s : State) : State :=
  s.exch.heldTables.foldl releaseTable { s with exch := { s.exch with heldTables := [] } }

/-- A swap that is due takes place at a tick (R268). -/
def tablesAtTick (s : State) : State := if s.exch.swapDue then releaseTables s.swapTables else s

/-! ### Commands -/

/-- STATION_ENTRY_WRITE (R257): a write to `STN.ENT_W3`. -/
def execStationEntryWrite (w : Who) (word : Nat) (s : State) : Result := .next (tableWrite w 0x1A 0x11C word s)

/-- CATALOGUE_ENTRY_WRITE (R264): a write to `CAT.ENT_W2`. -/
def execCatalogueEntryWrite (w : Who) (word : Nat) (s : State) : Result := .next (tableWrite w 0x19 0x110 word s)

/-- CATALOGUE_SWAP (R268): a write to `CAT.CTL` with SWAP set; `copy`: COPY is set as well. -/
def execCatalogueSwap (w : Who) (copy : Bool) (s : State) : Result :=
  .next (tableWrite w 0x19 0x100 (1 + 2 * ofBool copy) s)

/-- CATALOGUE_COPY (R268): a write to `CAT.CTL` with COPY set. -/
def execCatalogueCopy (w : Who) (s : State) : Result := .next (tableWrite w 0x19 0x100 2 s)

/-- CATALOGUE_CHECK_END (R267, R268): the check ends with its first failure, or schedules the swap. -/
def execCatalogueCheckEnd (s : State) : Result :=
  .next (if s.on 0 Reg.CAT_STAT_CHECKING then
    let r := s.tableFailure (1 - s.catActive)
    let s := s.wr 0 Reg.CAT_STAT_CHECKING 0
    match r with
    | some (c, i, p) =>
      let s := ((s.wr 0 Reg.CAT_STAT_CHECK_FAIL 1).wr 0 Reg.CAT_STAT_FAIL_CODE c).wr 0 Reg.CAT_STAT_FAIL_INDEX i
      releaseTables ((s.wr 0 Reg.CAT_STAT_FAIL_PORT p).irq 0 0x19 1)
    | none => { s with exch := { s.exch with swapDue := true } }
  else s)

end Sys2Proof.Machine
end

