-- ==== Sys2Proof/Machine/PtpState.lean ====
section
/-! DEFINITION.  The PTP ports (spec/08 R243, R278): what they hold, the messages of IEEE 1588-2019 and best master
selection. -/

namespace Sys2Proof.Machine

open Sys2Proof.Bits

/-- A MAC address as bytes. -/
def macBytes (m : Nat) : List Byte := toBE 6 m

namespace State

/-- MAC address of a Line port (R280). -/
def lineMac (s : State) (p : Nat) : Nat :=
  s.rd 0 (Reg.LINEn_MAC_HI_ADDR.p p) * 2 ^ 32 + s.rd 0 (Reg.LINEn_MAC_LO_ADDR.p p)

/-- Whether a port has a link. -/
def lineUp (s : State) (p : Nat) : Bool := s.on 0 (Reg.LINEn_STAT_LINK.p p)

end State

namespace State

/-- What a PTP port holds. -/
def ptpPort (s : State) (p : Nat) : PtpPort := SMap.get PtpPort.idle s.exch.ptp p

/-- Replaces what a PTP port holds. -/
def setPtpPort (s : State) (p : Nat) (x : PtpPort) : State :=
  { s with exch := { s.exch with ptp := SMap.put PtpPort.idle s.exch.ptp p x } }

/-- clockIdentity (R243): the MAC address of Line port 0 with 0xFFFE after its third byte. -/
def clockId (s : State) : List Byte :=
  let m := macBytes (s.lineMac 0)
  m.take 3 ++ [0xFF, 0xFE] ++ m.drop 3

/-- Identity of a PTP port: clockIdentity and port number from 1. -/
def ptpPortId (s : State) (p : Nat) : List Byte := s.clockId ++ toBE 2 (p + 1)

/-- portState of a Line port (R278). -/
def ptpState (s : State) (p : Nat) : Nat := field (s.rd 0 Reg.PTP_STAT_STATES) (4 * p) 4

/-- Sets portState; a change raises STATE. -/
def setPtpState (s : State) (p v : Nat) : State :=
  if s.ptpState p = v then s
  else (s.wr 0 Reg.PTP_STAT_STATES (setField (s.rd 0 Reg.PTP_STAT_STATES) (4 * p) 4 v)).irq 0 0x1B 0

/-- Whether PTP runs on a port. -/
def ptpOn (s : State) (p : Nat) : Bool := s.enabled 0 0x1B && bit (s.rd 0 Reg.PTP_CFG_PORTS) p && s.lineUp p

end State

/-! ### Messages -/

/-- A PTP timestamp (48-bit seconds, 32-bit nanoseconds) in ns. -/
def ptpStamp (bs : List Byte) (o : Nat) : Nat := ofBE (cut bs o 6) * 1000000000 + ofBE (cut bs (o + 6) 4)

/-- A time as a PTP timestamp. -/
def stampBytes (t : Nat) : List Byte := toBE 6 (t / 1000000000) ++ toBE 4 (t % 1000000000)

/-- correctionField of a message in ns. -/
def ptpCorrection (m : List Byte) : Int := toInt 64 (ofBE (cut m 8 8)) / 65536

/-- A PTP message: type, flags, sequence, logMessageInterval, body. -/
def ptpMessage (s : State) (p type flags seq : Nat) (log : Nat) (body : List Byte) : List Byte :=
  toBE 1 type ++ toBE 1 2 ++ toBE 2 (34 + body.length) ++ toBE 1 (s.rd 0 Reg.PTP_CFG_DOMAIN) ++ toBE 1 0 ++ toBE 2 flags ++
    List.replicate 12 0 ++ s.ptpPortId p ++ toBE 2 seq ++ toBE 1 0 ++ toBE 1 log ++ body

/-- Destination of PTP messages: of peer delay messages and of all others. -/
def ptpDest (peer : Bool) : Nat := if peer then 0x0180C200000E else 0x011B19000000

/-! ### Best master selection -/

/-- A data set for comparison, most significant part first. -/
abbrev DataSet := List Nat

/-- The part's own data set. -/
def ownSet (s : State) : DataSet :=
  [s.rd 0 Reg.PTP_PRIO_PRIO1, s.rd 0 Reg.PTP_PRIO_CLASS, s.rd 0 Reg.PTP_PRIO_ACCURACY, Config.ptpVariance,
   s.rd 0 Reg.PTP_PRIO_PRIO2, ofBE s.clockId]

/-- The grandmaster part of an Announce message. -/
def announceSet (m : List Byte) : DataSet :=
  [byteAt m 47, byteAt m 48, byteAt m 49, ofBE (cut m 50 2), byteAt m 52, ofBE (cut m 53 8)]

/-- Comparison of data sets: whether `a` is better than `b`. -/
def better : DataSet → DataSet → Bool
  | a :: as, b :: bs => decide (a < b) || (a == b && better as bs)
  | _, _ => false

/-- The data set of an Announce message with its topology: steps, sender, receiving port. -/
def fullSet (p : Nat) (m : List Byte) : DataSet := announceSet m ++ [ofBE (cut m 61 2), ofBE (cut m 20 10), p]

/-- Time in ns for which an Announce message stands (R278): TIMEOUT announce intervals. -/
def announceTime (s : State) : Nat := s.rd 0 Reg.PTP_INTERVALS_TIMEOUT * 2 ^ s.rd 0 Reg.PTP_INTERVALS_ANNOUNCE * 1000000000

/-- The Announce message that stands for a port, if any. -/
def portBest (s : State) (p : Nat) : Option (List Byte) := if s.ptpOn p then (s.ptpPort p).announce else none

/-- The best Announce over all ports: port and message. -/
def bestAnnounce (s : State) : Option (Nat × List Byte) :=
  (List.range 4).foldl (fun b p =>
    match portBest s p, b with
    | none, _ => b
    | some m, none => some (p, m)
    | some m, some c => if better (fullSet p m) (fullSet c.1 c.2) then some (p, m) else b) none

/-- The state decision of one enabled port (R243): 4 LISTENING, 6 MASTER, 7 PASSIVE, 9 SLAVE.  A port that has just come up
takes its decision at once (DESIGN CHOICE: the waits of the standard's LISTENING and PRE_MASTER states are over at once, log
entry 34). -/
def portDecision (s : State) (p : Nat) : Nat :=
  let role := s.rd 0 Reg.PTP_CFG_ROLE
  let own := ownSet s
  let cls := s.rd 0 Reg.PTP_PRIO_CLASS
  let best := bestAnnounce s
  let isBest : Bool := match best with | some b => b.1 == p | none => false
  if role = 1 then 6
  else if role = 2 then (if isBest then 9 else 4)
  else if 1 ≤ cls ∧ cls ≤ 127 then
    match portBest s p with
    | some m => if better (announceSet m) own then 7 else 6
    | none => 6
  else
    match best with
    | none => 6
    | some b =>
      if !better (announceSet b.2) own then 6
      else if isBest then 9
      else match portBest s p with
        | some m => if announceSet m = announceSet b.2 then 7 else 6
        | none => 6

/-- Shows the grandmaster (R278). -/
def showGrandmaster (s : State) : State :=
  let slave := (List.range 4).find? fun p => s.ptpState p == 9
  let id := match slave.bind fun p => (s.ptpPort p).announce with
    | some m => ofBE (cut m 53 8)
    | none => ofBE s.clockId
  let old := s.rd 0 Reg.PTP_GM_HI_ID * 2 ^ 32 + s.rd 0 Reg.PTP_GM_LO_ID
  let s := (s.wrB 0 Reg.PTP_STAT_SLAVE slave.isSome).wr 0 Reg.PTP_STAT_SLAVE_PORT (slave.getD 0)
  let s := s.wrB 0 Reg.PTP_STAT_GM_SELF (slave.isNone && (List.range 4).any fun p => s.ptpState p == 6)
  let s := (s.wr 0 Reg.PTP_GM_HI_ID (id / 2 ^ 32)).wr 0 Reg.PTP_GM_LO_ID id
  if id = old then s else s.irq 0 0x1B 1

/-- The state decision of every port. -/
def ptpDecide (s : State) : State :=
  let new := (List.range 4).map fun p =>
    if !s.enabled 0 0x1B || !bit (s.rd 0 Reg.PTP_CFG_PORTS) p then 3 else if !s.lineUp p then 1 else portDecision s p
  showGrandmaster ((new.zipIdx).foldl (fun s x => s.setPtpState x.2 x.1) s)

/-- The announcements of the ports that no port follows time out, and the ports decide again (R243, R278); that of the master
in use is an event of its own. -/
def ptpExpire (s : State) : State :=
  let old (p : Nat) : Bool := s.ptpState p != 9 && (s.ptpPort p).announce.isSome &&
    decide ((s.ptpPort p).announceAt + announceTime s ≤ s.time)
  let gone := (List.range 4).filter old
  if gone.isEmpty then s
  else ptpDecide (gone.foldl (fun s p => s.setPtpPort p { s.ptpPort p with announce := none }) s)

/-- A soft reset of the PTP or TSN page restarts PTP on every port (R278, R280): every port is INITIALIZING, and decides. -/
def ptpRestart (s : State) : State :=
  ptpDecide ((List.range 4).foldl (fun s p => s.setPtpState p 1) { s with exch := { s.exch with ptp := [], slew := 0 } })

end Sys2Proof.Machine
end

