-- ==== Sys2Proof/Machine/Tsn.lean ====
section
/-! DEFINITION.  Scheduled traffic of the Line ports (spec/08 R245 to R248, R279): gate control lists, the guard band,
and frames of the classes 0 to 6. -/

namespace Sys2Proof.Machine

open Sys2Proof.Bits

namespace State

/-- The gates of a port. -/
def gate (s : State) (p : Nat) : Gate := SMap.get Gate.idle s.exch.gates p

/-- Replaces the gates of a port. -/
def setGate (s : State) (p : Nat) (g : Gate) : State :=
  { s with exch := { s.exch with gates := SMap.put Gate.idle s.exch.gates p g } }

/-- Wire time in ns, rounded up, of a frame without its check sequence, gap included (R239, R249). -/
def wireTime (s : State) (p n : Nat) : Nat := (byteTime s p * (max n 60 + 24) + 9) / 10

/-- Whether the class-7 gate of a port is open (R245): OUTPUT frames of the release are still to start. -/
def class7Open (s : State) (p : Nat) : Bool := !(SMap.get [] s.exch.txPorts p).isEmpty

/-- The next instant at which the class-7 gate opens (R245). -/
def nextRelease (s : State) : Option Nat :=
  if !s.frame.ticked then none
  else
    let r := s.frame.tickTime + 1000 * s.rd 0 Reg.TICK_RELEASE_AT_US
    some (if s.time ≤ r then r else r + 1000 * s.rd 0 Reg.TICK_PERIOD_US)

/-- The next tick instant (R66). -/
def nextTick (s : State) : Option Nat :=
  if s.frame.ticked then some (s.frame.tickTime + 1000 * s.rd 0 Reg.TICK_PERIOD_US) else none

/-- A frame waits at a port until it can start. -/
def queueFrame (s : State) (p c : Nat) (bytes : List Byte) : State :=
  s.setGate p { s.gate p with waiting := (s.gate p).waiting ++ [(c, false, bytes)] }

/-- The end of the SFD of a frame that starts at instant `t` (R243). -/
def sfdSent (s : State) (p t : Nat) : Nat := t + (8 * byteTime s p + 9) / 10

/-- A PTP event message leaves a port, stamped at the end of its SFD (R243): its follow-up carries the stamp of a Sync or a
Pdelay_Resp, and a Pdelay_Req starts its exchange. -/
def ptpSent (s : State) (p stamp : Nat) (bytes : List Byte) : State :=
  let m := bytes.drop 14
  let follow (type : Nat) (body : List Byte) : State :=
    s.queueFrame p 6 (cut bytes 0 14 ++ ptpMessage s p type 0 (ofBE (cut m 30 2)) (byteAt m 33) (stampBytes stamp ++ body))
  if ofBE (cut bytes 12 2) ≠ 0x88F7 then s
  else match byteAt m 0 % 16 with
    | 0 => follow 8 []
    | 2 => s.setPtpPort p { s.ptpPort p with reqAt := stamp }
    | 3 => follow 10 (cut m 44 10)
    | _ => s

/-- Frames now on the wire of a port (R246). -/
def onWire (s : State) (p : Nat) (bytes : List Byte) : State :=
  let start := max s.time (s.gate p).busyUntil
  let s := { s with exch := { s.exch with lineOut := SMap.insert s.exch.lineOut p bytes } }
  (s.setGate p { s.gate p with busyUntil := start + s.wireTime p bytes.length }).ptpSent p (s.sfdSent p start) bytes

end State

/-- Whether class `c` is open in an entry. -/
def gateBit (e : Nat × Nat) (c : Nat) : Bool := bit e.1 c

/-- Whether the gate of a class is open now (R247). -/
def Gate.isOpen (g : Gate) (c : Nat) : Bool :=
  match g.list[g.entry]? with
  | some e => gateBit e c
  | none => true

/-- Time from the end of the present entry to the closing of the gate of class `c`, over the entries that follow;
`none` when it stays open through the whole list. -/
def closesIn (c : Nat) : List (Nat × Nat) → Option Nat
  | [] => none
  | e :: es => if gateBit e c then (closesIn c es).map (e.2 + ·) else some 0

/-- The instant at which the gate of class `c`, now open, closes if its list runs on. -/
def Gate.listCloses (g : Gate) (c : Nat) : Option Nat :=
  if g.list.isEmpty then none
  else (closesIn c (g.list.drop (g.entry + 1) ++ g.list.take (g.entry + 1))).map (g.entryEnd + ·)

/-- The list that a port operates from the tick at instant `t` on (R248). -/
def Gate.listAt (g : Gate) (t : Nat) : List (Nat × Nat) :=
  match g.next with
  | some (at', l) => if at' ≤ t then l else g.list
  | none => g.list

/-- The instant at which the gate of class `c`, now open, closes (R247): before the tick `t` in the present cycle, else from
entry 0 of the list that starts at that tick. -/
def Gate.closeAt (g : Gate) (c : Nat) (tick : Option Nat) : Option Nat :=
  match g.listCloses c, tick with
  | l, none => l
  | some x, some t => if x ≤ t then some x else (closesIn c (g.listAt t)).map (t + ·)
  | none, some t => (closesIn c (g.listAt t)).map (t + ·)

/-- Whether an instant lies at or before a limit that may be absent. -/
def within (t : Nat) : Option Nat → Bool
  | none => true
  | some l => decide (t ≤ l)

/-- What becomes of a frame now. -/
inductive Start where
  | go | wait | guarded
  deriving DecidableEq, Repr

namespace State

/-- Whether a frame of class `c` with `n` bytes can start on a port now (R246). -/
def mayStart (s : State) (p c n : Nat) : Start :=
  let g := s.gate p
  if s.class7Open p || decide (s.time < g.busyUntil) || !g.isOpen c then .wait
  else
    let e := s.time + s.wireTime p n
    if within e (g.closeAt c s.nextTick) && within e s.nextRelease then .go else .guarded

/-- The first waiting frame of a port that strict priority selects among those that may start. -/
def pickWaiting (s : State) (p : Nat) : Option (Nat × Bool × List Byte) :=
  ((List.range 7).reverse).findSome? fun c =>
    ((s.gate p).waiting.find? (·.1 == c)).bind fun f => if s.mayStart p c f.2.2.length = .go then some f else none

/-- Waiting frames of a port start where they can. -/
def startWaiting : Nat → State → Nat → State
  | 0, s, _ => s
  | n + 1, s, p =>
    match s.pickWaiting p with
    | some f =>
      let g := s.gate p
      startWaiting n ((s.setGate p { g with waiting := g.waiting.erase f }).onWire p f.2.2) p
    | none => s

/-- `TSN.GUARD` counts the waiting frames that the guard band holds back for the first time (R246). -/
def countGuarded (s : State) (p : Nat) : State :=
  let held := fun (f : Nat × Bool × List Byte) => !f.2.1 && s.mayStart p f.1 f.2.2.length == .guarded
  let w := (s.gate p).waiting
  (s.add 0 (Reg.TSN_GUARD_COUNT.w p) (w.filter held).length).setGate p
    { s.gate p with waiting := w.map fun f => (f.1, f.2.1 || held f, f.2.2) }

/-- Waiting frames of a port start where they can (R246). -/
def kick (s : State) (p : Nat) : State := (startWaiting (s.gate p).waiting.length s p).countGuarded p

/-- Keeper firmware or hardware hands a frame of class 0 to 6 to a port (R245, R246): it starts, or waits. -/
def lineSend (s : State) (p c : Nat) (bytes : List Byte) : State :=
  if !s.lineUp p then s else (s.queueFrame p c bytes).kick p

/-- A port enters entry `i` of its list at instant `t`. -/
def enterEntry (s : State) (p i t : Nat) : State :=
  let g := s.gate p
  match g.list[i]? with
  | some e => s.setGate p { g with entry := i, entryEnd := t + e.2 }
  | none => s

/-- A pending list of a port becomes operating when its instant has come (R248). -/
def changeList (s : State) (p : Nat) : State :=
  match (s.gate p).next with
  | some (at', l) =>
    if at' ≤ s.time then
      let s := s.setGate p { s.gate p with list := l, next := none }
      ((s.wr 0 (Reg.TSN_STAT_OPER_LEN.w p) l.length).wr 0 (Reg.TSN_STAT_PENDING.w p) 0).irq 0 0x1C 0
    else s
  | none => s

/-- Every list starts at entry 0 at every tick (R247, R248). -/
def gatesAtTick (s : State) : State :=
  (List.range 4).foldl (fun s p => ((s.changeList p).enterEntry p 0 s.time).kick p) s

end State

/-- The administrative list of a port (R248). -/
def adminList (s : State) (p : Nat) : List (Nat × Nat) :=
  (List.range (s.rd 0 (Reg.TSN_ADMIN_LEN_ENTRIES.w p))).map fun i =>
    (s.rd 0 (Reg.TSN_GCL_W0_GATES.w (p * 256 + i)), s.rd 0 (Reg.TSN_GCL_W1_NS.w (p * 256 + i)))

/-- What a write to `TSN.CTL` does (R248). -/
def tsnCtl (s : State) (v : Nat) : State :=
  if !bit v 0 then s
  else
    let p := s.rd 0 Reg.TSN_SEL_PORT
    let l := adminList s p
    if (l.map (·.2)).sum = s.rd 0 (Reg.TSN_CYCLE_NS.w p) then
      ((s.wr 0 (Reg.TSN_STAT_PENDING.w p) 1).wr 0 (Reg.TSN_STAT_CHANGE_FAIL.w p) 0).setGate p
        { s.gate p with next := some (s.time + 100000, l) }
    else (s.wr 0 (Reg.TSN_STAT_CHANGE_FAIL.w p) 1).irq 0 0x1C 1

/-- What a write to `TSN.GCL_W1` does (R279): the entry is stored with the staged GATES, and ENTRY advances with AUTOINC. -/
def tsnEntry (s : State) (_ : Nat) : State :=
  let s := copyEntry s 0 [Reg.TSN_GCL_W0_GATES, Reg.TSN_GCL_W1_NS] staged (s.rd 0 Reg.TSN_SEL_PORT * 256 + s.rd 0 Reg.TSN_SEL_ENTRY)
  if s.on 0 Reg.TSN_SEL_AUTOINC then s.wr 0 Reg.TSN_SEL_ENTRY (s.rd 0 Reg.TSN_SEL_ENTRY + 1) else s

/-- TSN_CHANGE (R248): a write to `TSN.CTL` with CHANGE set. -/
def execTsnChange (w : Who) (s : State) : Result := .next (writeThen w 0 0x1C 0x114 1 s tsnCtl)

/-- GATE_ENTRY_EXPIRY (R247): the interval of a port's entry ends and the next entry applies. -/
def execGateEntryExpiry (port : Nat) (s : State) : Result :=
  .next (
    let g := s.gate port
    if 4 ≤ port ∨ g.list.isEmpty then s
    else
      let i := if g.entry + 1 < g.list.length then g.entry + 1 else 0
      ((s.advanceTime g.entryEnd).enterEntry port i g.entryEnd).kick port)

/-! ### Messages to the partner -/

/-- Sends a message on the Partner link when it is up (R298). -/
def State.partnerSend (s : State) (type flags frame : Nat) (payload : List Byte) : State :=
  if s.on 0 Reg.PAIR_CFG_EN && s.pair.aligned then
    let o := s.linkOut
    { s with linkOut := ⟨o.sent ++ [⟨type, flags, frame, o.seq, payload⟩], (o.seq + 1) % 2 ^ 32⟩ }
  else s

/-! ### Slasel service frames -/

/-- A Slasel frame without its check sequence (R249, R250). -/
def slaselFrame (dst src etype : Nat) (kind flags station seq : Nat) (word8 last : List Byte) (pay : List Byte) :
    List Byte :=
  macBytes dst ++ macBytes src ++ toBE 2 etype ++ toBE 1 (16 + kind) ++ toBE 1 flags ++ toBE 2 station ++ toBE 2 seq ++
    toBE 2 pay.length ++ word8 ++ last ++ pay ++ List.replicate (30 - pay.length) 0

/-- SERVICE_DOWN_SEND (R254): Keeper firmware sends a SERVICE_DOWN frame in class 4 to the ports of a mask. -/
def execServiceDownSend (ports station tag : Nat) (payload : List Byte) (s : State) : Result :=
  .next (if s.firmware && decide (payload.length ≤ 1440) then
    (List.range 4).foldl (fun s p =>
      if bit ports p then
        s.lineSend p 4 (slaselFrame (s.station (station % 1024)).mac (s.lineMac p) (s.rd 0 Reg.STN_CFG_ETYPE) 4 0
          (station % 1024) 0 (toBE 4 tag) (toBE 4 0) payload)
      else s) s
  else s)

end Sys2Proof.Machine
end

