-- ==== Sys2Proof/Machine/Auth.lean ====
section
/-! DEFINITION.  Authority frames (spec/15 R479 to R485): their steps, the reply, the transports, and the critical
commands that act on the mode, the keys and the CAN controllers. -/

namespace Sys2Proof.Machine

open Sys2Proof.Bits

/-- The identity of the part (R479). -/
def partId : Nat := Config.uid 0

/-- PLEN of a frame. -/
def framePlen (bs : List Byte) : Nat := ofBE (cut bs 20 2)

/-- Bytes in which a transport carries a frame of `n` bytes (R480): Line ports pad to 46, CAN to the next DLC. -/
def carried (source n : Nat) : Nat :=
  if 3 ≤ source then max 46 n else if source = 2 then dlcBytes (dlcFor n) true false else n

/-- Step 1 of R482. -/
def frameWellFormed (f : AuthFrame) : Bool :=
  decide (24 ≤ f.bytes.length) && byteAt f.bytes 0 == 1 && decide (framePlen f.bytes ≤ 200) &&
    f.bytes.length == carried f.source (40 + framePlen f.bytes)

/-- TARGET of an authority frame or of a data frame: both hold it at offset 4 (R479, R494). -/
def frameTarget (f : AuthFrame) : Nat := ofBE (cut f.bytes 4 8)

/-- Whether a frame addresses this part (step 2). -/
def forUs (f : AuthFrame) : Bool := frameTarget f == partId || frameTarget f == 2 ^ 64 - 1

/-- OP of a frame. -/
def frameOp (f : AuthFrame) : Nat := byteAt f.bytes 1

/-- The frame without the padding of its transport. -/
def frameBytes (f : AuthFrame) : List Byte := f.bytes.take (40 + framePlen f.bytes)

/-- COUNTER of a frame. -/
def frameCounter (f : AuthFrame) : Nat := ofBE (cut (frameBytes f) 12 8)

/-- The parameters of a frame. -/
def frameParams (f : AuthFrame) : List Byte := cut (frameBytes f) 24 (framePlen f.bytes)

/-- Results of R483. -/
inductive AuthResult where
  | done | started | refused | busy | replay | role | format | store
  deriving DecidableEq, Repr

/-- The code of a result (R483). -/
def AuthResult.code : AuthResult → Nat
  | .done => 0 | .started => 1 | .refused => 2 | .busy => 3 | .replay => 4 | .role => 5 | .format => 6 | .store => 7

/-- What a command came to: the state, RESULT and DETAIL. -/
structure AuthDone where
  st : State
  result : AuthResult
  detail : Nat

namespace State

/-- The key of a slot. -/
def slotKey (s : State) (k : Nat) : List Byte := deviceUnwrap (s.keyWrapped k)

/-- A reply leaves on the transport of its request (R480). -/
def sendReply (s : State) (source sender : Nat) (bytes : List Byte) : State :=
  match source with
  | 0 =>
    let s := if s.auth.mspiOut.isEmpty then s else s.inc 0 Reg.MSPI_OVERWRITTEN_COUNT
    ({ s with auth := { s.auth with mspiOut := bytes } }.wr 0 Reg.MSPI_STAT_OUT_READY 1).wr 0 Reg.MSPI_STAT_OUT_LEN
      bytes.length
  | 1 => s.partnerSend 0x0C 0 s.frameNo bytes
  | 2 => s.canSend 0 (s.rd 0 Reg.AUTH_CFG_CAN_ID + (if s.on 0 Reg.PAIR_STAT_SENIOR then 1 else 2)) bytes
  | _ =>
    let p := source - 3
    s.lineSend p 5 (macBytes sender ++ macBytes (s.lineMac p) ++ toBE 2 (s.rd 0 Reg.AUTH_CFG_ETYPE) ++ bytes ++
      List.replicate (46 - bytes.length) 0)

/-- The reply to a frame (R483), tagged with `key`. -/
def replyBytes (s : State) (f : AuthFrame) (r : AuthResult) (detail : Nat) (key : List Byte) : List Byte :=
  let words := [s.readWord 0 0 0x27 0x108, s.readWord 0 0 0x13 0x114, s.readWord 0 0 0x13 0x118, s.readWord 0 0 0x15 0x10C]
  let b := toLE 1 1 ++ toLE 1 (frameOp f + 128) ++ toLE 1 (byteAt f.bytes 2) ++ toLE 1 r.code ++ toBE 8 partId ++
    cut f.bytes 12 8 ++ toBE 2 24 ++ toBE 2 0 ++ toBE 8 detail ++ words.flatMap (toBE 4)
  b ++ cmacTag key b

/-- Sends a reply and shows it in `AUTH.STAT` (R509). -/
def answer (s : State) (f : AuthFrame) (r : AuthResult) (detail : Nat) (key : List Byte) : State × List Byte :=
  let bytes := s.replyBytes f r detail key
  let s := ((s.wr 0 Reg.AUTH_STAT_RESULT r.code).wr 0 Reg.AUTH_STAT_OP (frameOp f)).wr 0 Reg.AUTH_STAT_SLOT (byteAt f.bytes 2)
  ((s.wr 0 Reg.AUTH_STAT_SOURCE f.source).sendReply f.source f.sender bytes, bytes)

/-- Takes the head frame off the inbox; the inbound mailbox of MSPI is free again. -/
def takeFrame (s : State) (f : AuthFrame) (rest : List AuthFrame) : State :=
  let s := { s with auth := { s.auth with inbox := rest } }
  if f.source = 0 then (s.wr 0 Reg.MSPI_STAT_IN_BUSY 0).wr 0 Reg.MSPI_STAT_IN_LEN 0 else s

/-- Role of the key that a frame names. -/
def frameRole (s : State) (f : AuthFrame) : Nat := if byteAt f.bytes 2 < 16 then s.keyRole (byteAt f.bytes 2) else 0

/-- The counter of an accepted frame is stored, its cell kept above it (R482 step 6, R484). -/
def acceptFrame (s : State) (f : AuthFrame) : State :=
  let slot := byteAt f.bytes 2
  let counter := frameCounter f
  let s := if s.cell slot ≤ counter then s.setCell slot (counter + 4096) else s
  let s : State := { s with auth := { s.auth with counters := SMap.put 0 s.auth.counters slot counter } }
  (s.inc 0 Reg.AUTH_ACCEPTED_COUNT).irq 0 0x12 0

/-- Sends the reply of an accepted frame and keeps both for a duplicate (R482). -/
def finishFrame (s : State) (f : AuthFrame) (r : AuthResult) (detail : Nat) (key : List Byte) : State :=
  let slot := byteAt f.bytes 2
  let r := s.answer f r detail key
  { r.1 with auth := { r.1.auth with lastFrame := SMap.insert r.1.auth.lastFrame slot (frameBytes f)
                                     lastReply := SMap.insert r.1.auth.lastReply slot r.2 } }

/-- Steps 3 to 10 of R482 for a frame already taken.  `roles`: who may issue the command; `format`: its parameters;
`act`: steps 9 and 10. -/
def authorise (s : State) (f : AuthFrame) (roles : Nat → List Byte → Bool) (format : List Byte → Bool)
    (act : State → AuthFrame → List Byte → AuthDone) : State :=
  let slot := byteAt f.bytes 2
  let role := s.frameRole f
  let bytes := frameBytes f
  let params := frameParams f
  let key := s.slotKey slot
  let counter := frameCounter f
  let bad : State := (s.inc 0 Reg.AUTH_BADTAG_COUNT).irq 0 0x12 1
  if role = 0 ∨ role = 5 ∨ (role = 6 ∧ f.source ≠ 1) then bad
  else if cmacTag key (bytes.take (24 + framePlen f.bytes)) ≠ cut bytes (24 + framePlen f.bytes) 16 then bad
  else if counter ≤ s.authCounter slot then
    if SMap.get [] s.auth.lastFrame slot = bytes then
      (s.inc 0 Reg.AUTH_DUPLICATES_COUNT).sendReply f.source f.sender (SMap.get [] s.auth.lastReply slot)
    else ((s.inc 0 Reg.AUTH_REPLAY_COUNT).answer f .replay (s.authCounter slot + 1) key).1
  else if s.cell slot ≤ counter ∧ 2 ^ 64 ≤ counter + 4096 then (s.answer f .store 0 key).1
  else
    let s := s.acceptFrame f
    let d : AuthDone :=
      if !roles role params then ⟨s, .role, 0⟩
      else if !format params then ⟨s, .format, 0⟩
      else act s f params
    d.st.finishFrame f d.result d.detail key

/-- Whether the part has a command for an OP byte (R485, R494). -/
def knownOp (op : Nat) : Bool := (decide (1 ≤ op) && decide (op ≤ 17)) || op == 0x40

/-- Handles a frame that no command row takes: malformed, addressed elsewhere, or with an unknown OP (R480, R482). -/
def oddFrame (s : State) (f : AuthFrame) : State :=
  if frameOp f ≠ 0x40 ∧ !frameWellFormed f then s.inc 0 Reg.AUTH_FORMAT_COUNT
  else if frameOp f = 0x40 ∧ f.source = 2 then s.inc 0 Reg.AUTH_FORMAT_COUNT
  else if !forUs f then
    if s.on 0 Reg.PAIR_CFG_EN ∧ s.on 0 Reg.PAIR_STAT_LINK ∧ f.source ≠ 1 then
      { s.partnerSend 0x0C 0 s.frameNo (if frameOp f = 0x40 then f.bytes else frameBytes f) with auth := { s.auth with relayed := some (f.source, f.sender) } }
    else s
  else s.authorise f (fun _ _ => true) (fun _ => false) (fun s _ _ => ⟨s, .format, 0⟩)

/-- Whether a frame waits for the row of its command. -/
def hasRow (f : AuthFrame) : Bool :=
  forUs f && knownOp (frameOp f) && (if frameOp f = 0x40 then f.source != 2 else frameWellFormed f)

/-- Frames at the head of the inbox that no row takes are handled; without Keeper firmware the boot ROM serves only
UPDATE_OPEN, UPDATE_ACTIVATE and session data from MSPI (R492). -/
def flushOdd : Nat → State → State
  | 0, s => s
  | n + 1, s =>
    match s.auth.inbox with
    | [] => s
    | f :: rest =>
      let served := s.firmware || (f.source == 0 && (frameOp f == 4 || frameOp f == 5 || frameOp f == 0x40))
      if hasRow f && served then s
      else if served then flushOdd n ((s.takeFrame f rest).oddFrame f)
      else flushOdd n (s.takeFrame f rest)

/-- A frame reaches the Authority engine (R480, R482). -/
def deliver (s : State) (f : AuthFrame) : State :=
  let s := { s with auth := { s.auth with inbox := s.auth.inbox ++ [f] } }
  flushOdd s.auth.inbox.length s

/-- Runs the command of the head frame when its OP byte is `op`; then handles the odd frames behind it. -/
def authCommand (s : State) (op : Nat) (roles : Nat → List Byte → Bool) (format : List Byte → Bool)
    (act : State → AuthFrame → List Byte → AuthDone) : State :=
  match s.auth.inbox with
  | [] => s
  | f :: rest =>
    if hasRow f && frameOp f == op then
      let s := (s.takeFrame f rest).authorise f roles format act
      flushOdd s.auth.inbox.length s
    else s

end State

/-- Roles by letter (R485). -/
def rolesOEW (r : Nat) (_ : List Byte) : Bool := r == 1 || r == 2 || r == 3
/-- ENGINEER and OWNER. -/
def rolesEW (r : Nat) (_ : List Byte) : Bool := r == 2 || r == 3
/-- OWNER and VENDOR. -/
def rolesWV (r : Nat) (_ : List Byte) : Bool := r == 3 || r == 4
/-- OWNER. -/
def rolesW (r : Nat) (_ : List Byte) : Bool := r == 3

/-- Whether the bytes from `o` on, `n` of them, are zero. -/
def zeroAt (bs : List Byte) (o n : Nat) : Bool := (cut bs o n).all (· == 0)

/-! ### Mailboxes of MSPI (R481, R511) -/

/-- MSPI_STATUS (R481): the master reads IN_BUSY and OUT_READY; nothing changes but its reply. -/
def execMspiStatus (s : State) : Result :=
  let v := ofBool (s.on 0 Reg.MSPI_STAT_IN_BUSY) + 2 * ofBool (s.on 0 Reg.MSPI_STAT_OUT_READY)
  .next (if s.enabled 0 0x24 then { s with replies := SMap.insert s.replies 512 ⟨v, false⟩ } else s)

/-- MSPI_WRITE_IN (R481, R511): a frame with its declared length. -/
def execMspiWriteIn (length : Nat) (frame : List Byte) (s : State) : Result :=
  .next (if !s.enabled 0 0x24 then s
  else if length = 0 ∨ 1100 < length then (s.inc 0 Reg.MSPI_ERRORS_LENGTH).irq 0 0x24 2
  else if s.on 0 Reg.MSPI_STAT_IN_BUSY then s
  else
    let s := (s.inc 0 Reg.MSPI_FRAMES_IN_COUNT).irq 0 0x24 0
    if s.on 0 Reg.AUTH_CFG_MSPI_EN then
      ((s.wr 0 Reg.MSPI_STAT_IN_BUSY 1).wr 0 Reg.MSPI_STAT_IN_LEN length).deliver ⟨0, 0, frame.take length⟩
    else s)

/-- MSPI_READ_OUT (R481): the reply leaves the outbound mailbox. -/
def execMspiReadOut (s : State) : Result :=
  .next (if s.enabled 0 0x24 && s.on 0 Reg.MSPI_STAT_OUT_READY then
    let s := { s with auth := { s.auth with mspiOut := [] } }
    let s := (s.wr 0 Reg.MSPI_STAT_OUT_READY 0).wr 0 Reg.MSPI_STAT_OUT_LEN 0
    (s.inc 0 Reg.MSPI_FRAMES_OUT_COUNT).irq 0 0x24 1
  else s)

/-- MSPI_UNKNOWN_COMMAND (R511). -/
def execMspiUnknownCommand (s : State) : Result :=
  .next (if s.enabled 0 0x24 then (s.inc 0 Reg.MSPI_ERRORS_UNKNOWN).irq 0 0x24 2 else s)

/-! ### Reception on CAN -/

/-- Whether filter `i` of a controller matches an identifier (R364). -/
def filterMatches (s : State) (ch i : Nat) (ide : Bool) (id : Nat) : Bool :=
  s.on 0 ((Reg.CANx_FLTi_W2_EN.p ch).i i) && s.on 0 ((Reg.CANx_FLTi_W0_IDE.p ch).i i) == ide &&
    ((id ^^^ s.rd 0 ((Reg.CANx_FLTi_W0_ID.p ch).i i)) &&& s.rd 0 ((Reg.CANx_FLTi_W1_MASK.p ch).i i)) == 0

/-- A CAN frame on the bus. -/
def canEntryOf (ide : Bool) (id dlc : Nat) (fdf brs rtr esi : Bool) (filter sof : Nat) (data : List Byte) : List Nat :=
  let n := dlcBytes dlc fdf rtr
  [ofBool ide + 2 * id, dlc + 16 * ofBool fdf + 32 * ofBool brs + 64 * ofBool rtr + 128 * ofBool esi + 256 * filter,
    sof % 2 ^ 32, sof / 2 ^ 32] ++ wordsOf 16 (data.take n)

/-- CAN_FRAME_RECEIVE (R364 to R366, R187, R480): a valid frame whose start of frame was sampled at global time `sof`; an FD
frame where FD is not enabled is a protocol exception (R357). -/
def execCanFrameReceive (ch : Nat) (ide : Bool) (id dlc : Nat) (fdf brs rtr esi : Bool) (data : List Byte) (sof : Nat)
    (s : State) : Result :=
  .next (if ch < 2 ∧ s.onTheBus ch then
    if fdf && !s.on 0 (Reg.CANx_CTL_FD_EN.p ch) then s.protocolException ch else
    let s := s.goodReceive ch
    match (List.range 32).find? fun i => filterMatches s ch i ide id with
    | none => s
    | some i =>
      if s.on 0 ((Reg.CANx_FLTi_W2_REJECT.p ch).i i) then s
      else if 32 ≤ (s.can ch).fifo.length then
        ((s.inc 0 (Reg.CANx_RXOVF_COUNT.p ch)).irq 0 (0x21 + ch) 4).canEntry ch 4
      else
        let c := s.can ch
        let e := canEntryOf ide id (dlc % 16) fdf brs rtr esi i sof data
        let s := (s.setCan ch { c with fifo := c.fifo ++ [e] }).showFifo ch
        let s := s.canEntry ch (1 + 16 * i)
        let s := s.sourceOccurs 3 (32 * ch + i) (fun _ => true)
        if ch = 0 ∧ i = 1 ∧ fdf ∧ ide = false ∧ id = s.rd 0 Reg.AUTH_CFG_CAN_ID ∧ s.on 0 Reg.AUTH_CFG_CAN_EN then
          s.deliver ⟨2, 0, data.take (dlcBytes (dlc % 16) fdf rtr)⟩
        else s
  else s)

/-! ### Commands of the mode, the controllers and the keys -/

/-- MODE_SET (R190, R485): the waiting frame with OP 0x01. -/
def execModeSet (s : State) : Result :=
  .next (s.authCommand 0x01 rolesOEW
    (fun p => p.length == 4 && decide (1 ≤ byteAt p 0) && decide (byteAt p 0 ≤ 4) && decide (byteAt p 1 ≤ 2) && zeroAt p 2 2)
    fun s _ p =>
      match s.refusal (byteAt p 0) (byteAt p 1) with
      | some c => ⟨s.modeRequest (byteAt p 0) (byteAt p 1), .refused, c⟩
      | none => ⟨s.modeRequest (byteAt p 0) (byteAt p 1), .done, 0⟩)

/-- BUS_RECOVER (R369, R485): the waiting frame with OP 0x11. -/
def execBusRecover (s : State) : Result :=
  .next (s.authCommand 0x11 rolesOEW (fun p => p.length == 4 && decide (byteAt p 0 ≤ 1) && zeroAt p 1 3)
    fun s _ p =>
      let ch := byteAt p 0
      if s.canState ch = 4 then ⟨(s.wr 0 (Reg.CANx_CTL_RECOVER.p ch) 1).setCanState ch 5, .done, 0⟩
      else ⟨s, .refused, 0⟩)

/-- Whether a role may rotate a target to a role (R487). -/
def mayRotate (s : State) (issuer target role : Nat) : Bool :=
  match issuer with
  | 2 => decide (target < 16) && decide (s.keyRole target ≤ 1) && decide (role ≤ 1)
  | 3 => target == 16 || (decide (target < 16) && s.keyRole target != 4 && role != 4)
  | 4 => target == 17 || (decide (target < 16) && (s.keyRole target == 4 || s.keyRole target == 0) && (role == 4 || role == 0))
  | _ => false

/-- Length of the parameters of KEY_ROTATE (R487). -/
def rotateLength (target role : Nat) : Nat :=
  if target < 16 then (if role = 0 then 4 else 44) else if target = 16 then 68 else 4

/-- KEY_ROTATE (R487): the waiting frame with OP 0x0D. -/
def execKeyRotate (s : State) : Result :=
  .next (s.authCommand 0x0D (fun r _ => r == 2 || r == 3 || r == 4)
    (fun p => decide (byteAt p 0 ≤ 17) && decide (byteAt p 1 ≤ 6) && zeroAt p 2 2 &&
      p.length == rotateLength (byteAt p 0) (byteAt p 1))
    fun s f p =>
      let issuer := s.keyRole (byteAt f.bytes 2)
      let target := byteAt p 0
      let role := byteAt p 1
      let changed (s : State) : AuthDone := ⟨s.irq 0 0x12 2, .done, 0⟩
      if !mayRotate s issuer target role then ⟨s, .role, 0⟩
      else if target = 17 then changed (s.setCell 22 1)
      else if target = 16 then changed (s.keyWrite 16 0 (p.drop 4))
      else if s.keyRole target = 3 ∧ role ≠ 3 ∧ !((List.range 16).any fun k => k != target && s.keyRole k == 3) then
        ⟨s.wr 0 Reg.AUTH_STAT_CODE 1, .refused, 1⟩
      else if role = 0 then changed (s.keyWrite target 0 (List.replicate 40 0))
      else match Crypto.keyUnwrap (s.slotKey (byteAt f.bytes 2)) (p.drop 4) with
        | some k => changed (s.keyWrite target role ((Crypto.keyWrap Config.deviceKey k).take 40))
        | none => ⟨s, .format, 0⟩)

/-- A read of `AUTH.CTR_LO`, or of `AUTH.CEIL_LO` with `ceil`, latches the high word (R509). -/
def counterLatch (s : State) (ceil : Bool) : State :=
  let k := s.rd 0 Reg.AUTH_SEL_SLOT
  if ceil then (List.range 16).foldl (fun s j => s.wr 0 (Reg.AUTH_CEIL_HI_N.w j) (s.cell k / 2 ^ 32)) s
  else (List.range 16).foldl (fun s j => s.wr 0 (Reg.AUTH_CTR_HI_N.w j) (s.authCounter k / 2 ^ 32)) s

/-- AUTH_COUNTER_READ (R509): a master reads `AUTH.CTR_LO`, or `AUTH.CEIL_LO` with `ceil`. -/
def execAuthCounterRead (w : Who) (ceil : Bool) (s : State) : Result :=
  let off := if ceil then 0x130 else 0x128
  .next (s.reading w (regAddr 0 0x12 off) 0 fun s => (counterLatch s ceil).reply w.code (s.readWord w.code 0 0x12 off) false)

end Sys2Proof.Machine
end

