-- ==== Sys2Proof/Machine/Image.lean ====
section
/-! DEFINITION.  Change and program images (spec/07 R210 to R218, R220, R222, R223): their headers, sections and
footprints, and how a section is placed and read back. -/

namespace Sys2Proof.Machine

open Sys2Proof.Bits

/-- A little-endian number in an image (R9). -/
def leAt (bs : List Byte) (o n : Nat) : Nat := ofLE (cut bs o n)

/-- Bytes cut into pieces of `n`. -/
def pieces (n : Nat) (bs : List Byte) : List (List Byte) := (List.range (bs.length / n)).map fun i => cut bs (n * i) n

/-- What the section table says of a section, and its CRC (R211). -/
def sectionAt (image : List Byte) (i : Nat) : Section × Nat :=
  let e := cut image (128 + 32 * i) 32
  (⟨leAt e 0 1, leAt e 1 1, leAt e 4 4, cut image (leAt e 12 4) (leAt e 8 4)⟩, leAt e 16 4)

/-- The sections of an image, each with its CRC. -/
def sectionsOf (image : List Byte) : List (Section × Nat) := (List.range (leAt image 6 2)).map (sectionAt image)

/-- Bytes per element of a section kind's data: what its SIZE is a multiple of (R211, R212, R257, R264). -/
def elementBytes (kind : Nat) : Nat :=
  match kind with
  | 1 | 2 | 3 | 4 => 8
  | 5 => 32
  | 6 | 7 | 10 | 11 | 12 => 16
  | 8 => 20
  | 9 => 4
  | 13 => 163840
  | 14 => 32
  | _ => 1

/-- Whether the die of a section belongs to its kind (R211). -/
def sectionDieOk (k : Section) : Bool :=
  if 1 ≤ k.kind ∧ k.kind ≤ 5 then isScan k.die else k.die == 0

/-- The checks of FORMAT (R210 to R212, R236): magic, version, length, section table and kinds. -/
def formatOk (magic : Nat) (kinds : Nat → Bool) (image : List Byte) : Bool :=
  let n := leAt image 6 2
  leAt image 0 4 == magic && leAt image 4 2 == 1 && decide (1 ≤ n) && decide (n ≤ 4096) &&
    leAt image 8 4 == image.length && decide (128 + 32 * n ≤ image.length) &&
    (List.range n).all fun i =>
      let e := cut image (128 + 32 * i) 32
      let k := (sectionAt image i).1
      kinds k.kind && sectionDieOk k && decide (leAt e 12 4 + leAt e 8 4 ≤ image.length) &&
        leAt e 8 4 % elementBytes k.kind == 0 && (k.kind != 14 || leAt e 8 4 == 32) &&
        (k.kind != 13 || leAt e 8 4 == 163840) && (k.kind != 9 || decide (4 ≤ leAt e 8 4))

/-- Whether every section matches its CRC. -/
def crcsOk (l : List (Section × Nat)) : Bool := l.all fun k => crc32c k.1.data == k.2

/-! ### Footprints -/

/-- The ranges of a FOOTPRINT section (R216): DIE, KIND and then first and last, in 16 bytes.  The byte offsets and the
codes of KIND, which the rule does not give, are the model's choice: DIE at 0, KIND at 1, coded as the section kinds, first
at 4, last at 8 (DESIGN CHOICE, log entry 43). -/
def footRanges (data : List Byte) : List FootRange :=
  ((pieces 16 data).take 1024).map fun e => ⟨leAt e 0 1, leAt e 1 1, leAt e 4 4, leAt e 8 4⟩

/-- What a section of kind 1 to 4 touches. -/
def Section.range (k : Section) : FootRange :=
  let n := if k.kind = 1 then k.data.length else k.data.length / 8
  ⟨k.die, k.kind, k.target, k.target + n - 1⟩

/-- Whether two ranges meet. -/
def FootRange.meets (a b : FootRange) : Bool :=
  a.die == b.die && a.kind == b.kind && decide (a.first ≤ b.last) && decide (b.first ≤ a.last)

/-- Whether the target of a section of kind 1 to 4 lies in the area of R211. -/
def sectionRoom (k : Section) : Bool :=
  let r := k.range
  match k.kind with
  | 1 => r.first % 8 == 0 && (decide (r.last < 0x600000) || (decide (0x640000 ≤ r.first) && decide (r.last < 0x6C0000)) ||
      (decide (0x700000 ≤ r.first) && decide (r.last < 0x800000)))
  | 2 => decide (1 ≤ r.first) && decide (r.last ≤ 255)
  | 3 => decide (2 ≤ r.first) && decide (r.last ≤ 255)
  | 4 => if bit k.target 31 then decide (r.last < 2 ^ 31 + 4096) else decide (r.last < 8192)
  | _ => true

/-! ### Carry-over lists (R222, R223) -/

/-- An entry of a carry-over list. -/
structure Carry where
  kind : Nat
  src : Nat
  dst : Nat
  from' : Nat
  to' : Nat
  len : Nat
  deriving DecidableEq, Repr

/-- The entries of a carry-over section. -/
def carryList (data : List Byte) : List Carry :=
  (pieces 16 data).map fun e => ⟨leAt e 0 1, leAt e 1 1, leAt e 2 1, leAt e 4 4, leAt e 8 4, leAt e 12 4⟩

/-- Whether `n` bytes from an own-die address of a Scan die are populated.  The DMA moves words of 8 bytes on multiples of
8, so an address that is no multiple of 8 breaks the list (DEDUCED from R341, log entry 44); LEN is a multiple of 8 (R222).
-/
def populated (a n : Nat) : Bool :=
  a % 8 == 0 && n % 8 == 0 &&
    (n == 0 || decide (a + n ≤ 0x800000) ||
      (decide (0x800000 ≤ a) && decide (a + n ≤ 0x900000) && a / 0x20000 == (a + n - 1) / 0x20000 &&
        decide (a % 0x20000 + n ≤ 8 * spaceWords (field a 17 3))))

/-- Whether a MEM or FILL destination is allowed (R223): not space I, P, T, S, K or Q, the output staging or bank L. -/
def carryDest (a n : Nat) : Bool :=
  populated a n &&
    (if 0x800000 ≤ a then field a 17 3 == 2 || field a 17 3 == 5
     else !(decide (a < 0x600000) && decide (0x400000 < a + n)) && !(decide (a < 0x640000) && decide (0x620000 < a + n)))

/-- Elements of the rack behind element number `e`, whose bit 31 selects the counters. -/
def rackRoom (e n : Nat) : Bool := if bit e 31 then decide (e % 2 ^ 31 + n ≤ 4096) else decide (e + n ≤ 8192)

/-- The checks of R223 on one entry of a list. -/
def carryOk (l : List Carry) (e : Carry) : Bool :=
  isScan e.src && isScan e.dst &&
    (match e.kind with
     | 1 => populated e.from' e.len && carryDest e.to' e.len &&
        !(l.any fun b => b.dst != e.dst && b.dst == e.src && decide (b.kind ≤ 2) && decide (e.from' < b.to' + b.len) &&
          decide (b.to' < e.from' + e.len))
     | 2 => carryDest e.to' e.len
     | 3 => e.src == e.dst && decide (e.from' + e.len ≤ 8192) && decide (e.to' + e.len ≤ 8192)
     | 4 => e.src == e.dst && decide (e.from' + e.len ≤ 4096) && decide (e.to' + e.len ≤ 4096)
     | 5 => rackRoom e.to' e.len && populated e.from' (8 * e.len) && decide (0x700000 ≤ e.from') &&
        decide (e.from' + 8 * e.len ≤ 0x800000)
     | _ => false)

/-- Whether a carry-over list, its sections joined, is legal (R222, R223). -/
def carrySectionOk (data : List Byte) : Bool :=
  decide (data.length ≤ 16384) && (carryList data).all (carryOk (carryList data))

/-- Bound of an entry in cycles (R224); `bl` is `FAB.BURST_LIMIT`. -/
def Carry.bound (bl : Nat) (e : Carry) : Nat :=
  match e.kind with
  | 1 => 24 + (e.len + 7) / 8 +
      (if e.src = e.dst then 0 else (e.len + 8 * bl - 1) / (8 * bl) * ((6 * bl + 7 + 1) / 2))
  | 2 => 24 + (e.len + 7) / 8
  | _ => 24 + 4 * e.len

/-- Carry time of a die in cycles (R224). -/
def carryTime (bl : Nat) (l : List Carry) (die : Nat) : Nat :=
  40 + ((l.filter fun e => e.dst == die).map (Carry.bound bl)).sum

/-! ### Placing sections -/

/-- The window of a rack element, as TARGET spells it (R211). -/
def rackWin (e : Nat) : Nat := if bit e 31 then 8192 + e % 8192 else e % 8192

/-- The registers of a section kind's element words: fields by word, and the bytes before the words. -/
def wordFields (code off : Nat) (fs : List FieldDef) : List FieldDef := fs.filter fun f => f.code == code && f.off == off

namespace State

/-- Stores a word into the fields `fs` at window `k`, each brought into its Range (R59). -/
def putWord (s : State) (die k : Nat) (fs : List FieldDef) (word : Nat) : State :=
  fs.foldl (fun s f => s.wr die (f.w k) (clamp s die (f.w k) (f.get word))) s

/-- The word that the fields `fs` at window `k` hold. -/
def getWord (s : State) (die k : Nat) (fs : List FieldDef) : Nat :=
  fs.foldl (fun w f => w + (s.rd die (f.w k)) * 2 ^ f.lsb) 0

/-- Places an entry of a table whose words are staged first, and then stored at `k`. -/
def putEntryWords (s : State) (die k code first : Nat) (fs : List FieldDef) (words : List Nat) : State :=
  let s := (words.zipIdx).foldl (fun s w => s.putWord die staged (wordFields code (first + 4 * w.2) fs) w.1) s
  fs.foldl (fun s f => s.wr die (f.w k) (s.rd die (f.w staged))) s

/-- The words of an entry at `k`. -/
def tableWords (s : State) (die k code first n : Nat) (fs : List FieldDef) : List Nat :=
  (List.range n).map fun i => s.getWord die k (wordFields code (first + 4 * i) fs)

end State

/-- The words of a piece of section data from byte `o` on, `n` of them. -/
def leWords (bs : List Byte) (o n : Nat) : List Nat := (List.range n).map fun i => leAt bs (o + 4 * i) 4

/-- Places one row of a TTBL section into a bank (R211). -/
def placeRow (die bank : Nat) (s : State) (e : List Byte) : State :=
  s.putEntryWords die (bank * 512 + leAt e 0 2 % 512) 0x09 0x108 rowFields (leWords e 16 4)

namespace State

/-- Marks every row of a bank invalid. -/
def invalidateBank (s : State) (die bank : Nat) : State :=
  (s.validRows die bank).foldl (fun s r => s.wr die (Reg.TTBL_ROW_W3_VALID.w (bank * 512 + r)) 0) s

/-- Places one section of kind 1 to 5, 7 or 8 on die `die` (R211, R220). -/
def placeSection (s : State) (k : Section) (die : Nat) : State :=
  match k.kind with
  | 1 => s.storeBytes (phys die k.target) k.data
  | 2 => ((pieces 8 k.data).zipIdx).foldl (fun s e =>
      (s.wr die (Reg.SBOX_MASKi_LO_BITS.i (k.target + e.2)) (leAt e.1 0 4)).wr die
        (Reg.SBOX_MASKi_HI_BITS.i (k.target + e.2)) (leAt e.1 4 4)) s
  | 3 => ((pieces 8 k.data).zipIdx).foldl (fun s e => setBitWord s die 6 (k.target + e.2) (BitVec.ofNat 64 (leAt e.1 0 8))) s
  | 4 => ((pieces 8 k.data).zipIdx).foldl (fun s e =>
      let w := rackWin (k.target + e.2)
      (s.wr die (Reg.TIMR_CFG_TYPE.w w) (leAt e.1 0 4)).wr die (Reg.TIMR_PRESET_VALUE.w w) (leAt e.1 4 4)) s
  | 5 =>
    let bank := 1 - s.activeBank die
    (pieces 32 k.data).foldl (placeRow die bank) (s.invalidateBank die bank)
  | 7 => (pieces 16 k.data).foldl (fun s e =>
      s.putEntryWords 0 ((1 - s.catActive) * 24576 + leAt e 0 4 % 24576) 0x19 0x108 catFields (leWords e 4 3)) s
  | 8 =>
    let sel := s.rd 0 Reg.STN_SEL_STATION
    ((pieces 20 k.data).foldl (fun s e =>
      (s.wr 0 Reg.STN_SEL_STATION (leAt e 0 4)).putEntryWords 0 ((1 - s.catActive) * 1024 + leAt e 0 4 % 1024) 0x1A 0x110
        stnFields (leWords e 4 4)) s).wr 0 Reg.STN_SEL_STATION sel
  | _ => s

/-- Whether a placed section still holds its data (R220, R226 INTACT). -/
def sectionHolds (s : State) (k : Section) (die : Nat) : Bool :=
  match k.kind with
  | 1 => s.loadBytes (phys die k.target) k.data.length == k.data
  | 2 => ((pieces 8 k.data).zipIdx).all fun e =>
      s.rd die (Reg.SBOX_MASKi_LO_BITS.i (k.target + e.2)) == leAt e.1 0 4 &&
        s.rd die (Reg.SBOX_MASKi_HI_BITS.i (k.target + e.2)) == leAt e.1 4 4
  | 3 => ((pieces 8 k.data).zipIdx).all fun e => (bitWord s die 6 (k.target + e.2)).toNat == leAt e.1 0 8
  | 4 => ((pieces 8 k.data).zipIdx).all fun e =>
      let w := rackWin (k.target + e.2)
      s.rd die (Reg.TIMR_CFG_TYPE.w w) == leAt e.1 0 4 && s.rd die (Reg.TIMR_PRESET_VALUE.w w) == leAt e.1 4 4
  | 5 =>
    let bank := 1 - s.activeBank die
    (pieces 32 k.data).all fun e => decide (leAt e 0 2 < 512) &&
      s.tableWords die (bank * 512 + leAt e 0 2 % 512) 0x09 0x108 4 rowFields == leWords e 16 4
  | 7 => (pieces 16 k.data).all fun e => decide (leAt e 0 4 < 24576) &&
      s.tableWords 0 ((1 - s.catActive) * 24576 + leAt e 0 4 % 24576) 0x19 0x108 3 catFields == leWords e 4 3
  | 8 => (pieces 20 k.data).all fun e => decide (leAt e 0 4 < 1024) &&
      s.tableWords 0 ((1 - s.catActive) * 1024 + leAt e 0 4 % 1024) 0x1A 0x110 4 stnFields == leWords e 4 4
  | _ => true

/-- Whether every valid shadow row of a die is among the rows of its TTBL sections (R211, R226). -/
def rowsHeld (s : State) (l : List Section) (die : Nat) : Bool :=
  let rows := (l.filter fun k => k.kind == 5 && k.die == die).flatMap fun k => (pieces 32 k.data).map fun e => leAt e 0 2
  (s.validRows die (1 - s.activeBank die)).all (rows.contains ·)

end State

/-- The dies of the TTBL sections as a six-bit mask. -/
def namedDies (l : List Section) : Nat :=
  maskOf (((l.filter fun k => k.kind == 5).map fun k => k.die - 2).eraseDups)

/-- The data of the sections of one kind, joined. -/
def dataOf (l : List Section) (kind : Nat) : List Byte := (l.filter fun k => k.kind == kind).flatMap Section.data

/-! ### Task table and retained list -/

/-- The fields of the words CFG, TRIG and ERR of a task (R207). -/
def taskFields : List FieldDef :=
  [Reg.TASK_CFG_TYPE, Reg.TASK_CFG_PRIO, Reg.TASK_CFG_PERIOD, Reg.TASK_CFG_DIES, Reg.TASK_TRIG_KIND, Reg.TASK_TRIG_SRC,
   Reg.TASK_TRIG_EDGE, Reg.TASK_ERR_CAUSES]

/-- The fields of the retained list. -/
def retFields (i : Nat) : List FieldDef :=
  [Reg.IMG_RETi_W0_KIND.i i, Reg.IMG_RETi_W0_DIE.i i, Reg.IMG_RETi_W0_START.i i, Reg.IMG_RETi_W1_LENGTH.i i]

/-- The entries of a TASKS section: task and its three words. -/
def taskEntries (data : List Byte) : List (Nat × List Nat) :=
  (pieces 16 data).map fun e => (leAt e 0 4 % 64, leWords e 4 3)

namespace State

/-- Stores a word into fields without a check of their Ranges. -/
def putRaw (s : State) (die k : Nat) (fs : List FieldDef) (word : Nat) : State :=
  fs.foldl (fun s f => s.wr die (f.w k) (f.get word)) s

/-- The three words of a task. -/
def taskWords (s : State) (t : Nat) : List Nat := s.tableWords 0 t 0x28 0x104 3 taskFields

/-- Sets the three words of a task. -/
def setTaskWords (s : State) (t : Nat) (words : List Nat) : State :=
  (words.zipIdx).foldl (fun s w => s.putRaw 0 t (wordFields 0x28 (0x104 + 4 * w.2) taskFields) w.1) s

/-- The words of the retained list: `IMG.RET_CFG`, then two words of every entry (R208, R211). -/
def retWords (s : State) : List Nat :=
  (s.rd 0 Reg.IMG_RET_CFG_ENTRIES + 256 * s.rd 0 Reg.IMG_RET_CFG_PF_GRACE) ::
    (List.range 64).flatMap fun i =>
      [s.rd 0 (Reg.IMG_RETi_W0_KIND.i i) + 4 * s.rd 0 (Reg.IMG_RETi_W0_DIE.i i) + 256 * s.rd 0 (Reg.IMG_RETi_W0_START.i i),
       s.rd 0 (Reg.IMG_RETi_W1_LENGTH.i i)]

/-- Sets the retained list from its words. -/
def setRetWords (s : State) (words : List Nat) : State :=
  match words with
  | [] => s
  | cfg :: rest =>
    let s := s.putRaw 0 0 [Reg.IMG_RET_CFG_ENTRIES, Reg.IMG_RET_CFG_PF_GRACE] cfg
    (List.range (rest.length / 2)).foldl (fun s i =>
      let w (n : Nat) : Nat := (rest[n]?).getD 0
      if 64 ≤ i then s
      else (s.putRaw 0 0 [Reg.IMG_RETi_W0_KIND.i i, Reg.IMG_RETi_W0_DIE.i i, Reg.IMG_RETi_W0_START.i i] (w (2 * i))).putRaw 0 0
        [Reg.IMG_RETi_W1_LENGTH.i i] (w (2 * i + 1))) s

end State

/-! ### The status block (R237) -/

/-- Offset of the status block in K-DEPOT. -/
def statusBlock : Nat := 0xFF000

namespace State

/-- Rewrites the status block; SEQ counts before and after (R237). -/
def showChange (s : State) : State :=
  let s := { s with change := { s.change with seq := (s.change.seq + 2) % 2 ^ 32 } }
  let c := s.change
  s.storeBytes (K_DEPOT + statusBlock)
    (toLE 4 c.seq ++ toLE 4 (c.state + 16 * c.code + 256 * (c.placed % 4096)) ++ toLE 8 c.identity ++ toLE 8 c.switchFrame ++
      toLE 4 c.carryFaults ++ toLE 4 c.carryNs ++ c.running)

/-- Rewrites the change area in front of the status block: the staged TASKS and RETAINED sections, both carry-over lists and the
values saved at the switch, one behind the other (R237; the layout is the model's own, log entry 47). -/
def stageArea (s : State) : State :=
  let saved := match s.change.saved with
    | some v => (v.tasks.flatMap fun t => toLE 4 t.1 ++ toLE 8 t.2.1 ++ toLE 4 t.2.2) ++ v.retained.flatMap (toLE 4) ++ v.running ++
        v.record
    | none => []
  s.storeBytes (K_DEPOT + 0xC0000) (([6, 9, 10, 11].flatMap (dataOf s.change.sections) ++ saved).take 0x3F000)

/-- A transition of the change: status block and archive record (R236). -/
def changeTo (s : State) (state code : Nat) : State :=
  let old := s.change.state
  (({ s with change := { s.change with state := state, code := code } }.showChange).archive 0x23 77 .info
    [old, state, code, s.change.identity % 2 ^ 32, s.change.identity / 2 ^ 32])

/-- A request or command that is not legal in the present state (R236): code 1, nothing else changes. -/
def changeCode (s : State) (code : Nat) : State :=
  { s with change := { s.change with code := code } }.showChange

/-- A Keeper activation is armed or running (R486). -/
def activating (s : State) : Bool := s.rd 0 Reg.UPD_KSTAT_STATE == 1 || s.rd 0 Reg.UPD_KSTAT_STATE == 2

/-- A Shunting is in progress. -/
def shunting (s : State) : Bool := decide (1 ≤ s.rd 0 Reg.SHUNT_STAT_STATE) && decide (s.rd 0 Reg.SHUNT_STAT_STATE ≤ 3)

/-- A settling event ends a SWITCHED change (R234), with the checks of a revert that run. -/
def settle (s : State) : State :=
  if s.change.state = 5 then
    { s with change := { s.change with sections := [], saved := none, identity := 0, placed := 0, checking := none
                                       reverting := false } }.changeTo 0 0
  else s

/-! ### The program record (R214) -/

/-- The selected body of twin 2, or zeros with the identity die map. -/
def programRecord (s : State) : List Byte :=
  match s.twinData? 2 with
  | some b => b
  | none => List.replicate 80 0 ++ [2, 3, 4, 5, 6, 7] ++ List.replicate 42 0

/-- A program record with the program at `prog` (PROG_AT, PROG_LEN, digest), the list digest and the change identity. -/
def recordWith (s : State) (prog : List Byte) (change : Nat) : List Byte :=
  let b := s.programRecord
  prog ++ cut b 40 48 ++ s.listDigest ++ toLE 8 change ++ cut b 104 24

/-- The physical die that carries an image die (R214). -/
def mapDie (s : State) (d : Nat) : Nat := byteAt s.programRecord (80 + (d - 2))

/-- The program record of the program that runs now (R214): the list digest of the present list, and the identity of a
change that is SWITCHED. -/
def recordNow (s : State) : List Byte :=
  s.recordWith (cut s.programRecord 0 40) (if s.change.state = 5 ∨ s.change.state = 6 then s.change.identity else 0)

/-- Rewrites the die map of twin 2 (R214): where it names `a`, it names `b`. -/
def remapRecord (s : State) (a b : Nat) : State :=
  match s.twinData? 2 with
  | some _ =>
    let r := s.recordNow
    s.twinWrite 2 (r.take 80 ++ (cut r 80 6).map (fun x => if x.toNat = a then BitVec.ofNat 8 b else x) ++ r.drop 86)
  | none => s

end State

end Sys2Proof.Machine
end

