-- ==== Sys2Proof/Machine/Archive.lean ====
section
/-! DEFINITION.  The window of the Stacks, the retention refresh, and the Archive with its tallies, its reading room and
its shelves (spec/13 R414 to R438). -/

namespace Sys2Proof.Machine

open Sys2Proof.Bits

/-! ### The window (R414 to R417) -/

/-- Whether an address lies in a copy or a directory header of the settings twins `lo` to `hi` (R507). -/
def inSettings (lo hi a : Nat) : Bool :=
  (decide (0x4000 * lo ≤ a) && decide (a < 0x4000 * (hi + 1))) ||
    (decide (0x10F000 + 64 * lo ≤ a) && decide (a < 0x10F000 + 64 * (hi + 1)))

/-- Whether the window may not write an address: the reserved range and block protect (R412, R417), the key store (R477),
the settings twins of a level in TRIAL (R507). -/
def windowBars (s : State) (a : Nat) : Bool :=
  (decide (0x380000 ≤ a) && decide (a < 0x400000)) || (decide (0x500000 ≤ a) && decide (a < 0x510000)) ||
    (s.rd 0 Reg.UPD_KSTAT_STATE == 3 && inSettings 4 15 a) || (s.rd 0 Reg.UPD_ESTAT_STATE == 2 && inSettings 16 31 a) ||
    (match s.rd 0 Reg.NVP_BP_BP with
     | 0 => false
     | 1 => decide (0x600000 ≤ a)
     | 2 => decide (0x400000 ≤ a)
     | _ => true)

/-- The address after a window word (R415). -/
def windowNext (s : State) (a : Nat) : Nat :=
  if s.on 0 Reg.NVC_CTL_PAGE_MODE then (a + 8) % 0x800000 else a / 64 * 64 + (a + 8) % 64

/-- Whether the window queue is full, so that a `DATA_HI` write is held (R414). -/
def State.windowFull (s : State) : Bool := decide (8 ≤ s.arch.window.length)

/-- What `NVC.STAT` shows of the window. -/
def windowShow (s : State) : State :=
  (s.wr 0 Reg.NVC_STAT_QUEUED s.arch.window.length).wrB 0 Reg.NVC_STAT_BUSY (!s.arch.window.isEmpty)

/-- What a write to `NVC.DATA_HI` does. -/
def nvcData (w : Who) (s : State) (v : Nat) : State :=
  let a := s.rd 0 Reg.NVC_ADDR_ADDR / 8 * 8
  let word := s.rd 0 Reg.NVC_DATA_LO_DATA + v * 2 ^ 32
  let s := s.wr 0 Reg.NVC_ADDR_ADDR (windowNext s a)
  if windowBars s a then
    let s := ((s.wr 0 Reg.NVC_STAT_REFUSED 1).inc 0 Reg.NVP_REFUSED_COUNT).irq 0 0x10 0
    let s := (s.wr 0 Reg.NVP_LAST_ADDR a).wr 0 Reg.NVP_LAST_MASTER w.code
    let s := if s.arch.refusedPage = some (a / 64) then s else s.archive 0x10 0 .info [a]
    { s with arch := { s.arch with refusedPage := some (a / 64) } }
  else
    let s := s.wr 0 Reg.NVC_STAT_REFUSED 0
    windowShow { s with arch := { s.arch with window := s.arch.window ++ [(a, word)], refusedPage := none } }

/-- A write to `NVC.DATA_HI`; a full queue holds one that the page takes till a word has left it (R50, R414). -/
def nvcWrite (w : Who) (word : Nat) (s : State) : State :=
  if s.windowFull && mayWrite 0 0x0F w && !s.notReady 0 0x0F then s.holdPage w 0 0x0F 0x10C word
  else writeThen w 0 0x0F 0x10C word s (nvcData w)

/-- The oldest write that a full window queue holds takes effect, and its response returns (R50, R414). -/
def releaseWindow (s : State) : State :=
  if s.windowFull then s
  else match s.pageWaits 0 0x0F 0x10C with
    | some r => (nvcWrite r.by r.value (s.unholdRequest r)).reply r.who 0 false
    | none => s

/-- NVC_WORD_QUEUE (R414): a write to `NVC.DATA_HI`. -/
def execNvcWordQueue (w : Who) (word : Nat) (s : State) : Result := .next (nvcWrite w word s)

/-- STACKS_WORD_WRITE_END (R410, R414): the word at the head of the window queue is in the array. -/
def execStacksWordWriteEnd (s : State) : Result :=
  .next (match s.arch.window with
    | e :: rest =>
      let s := (s.store (STACKS + e.1) 8 e.2).incWrap 0 Reg.NVC_WRITES_COUNT
      releaseWindow (windowShow { s with arch := { s.arch with window := rest } })
    | [] => s)

/-- STACKS_READ (R413): a master reads `n` bytes of the Stacks window. -/
def execStacksRead (w : Who) (off n : Nat) (s : State) : Result :=
  .next (if off < 0x800000 ∧ (n = 1 ∨ n = 2 ∨ n = 4 ∨ n = 8) ∧ off % n = 0 then
    s.reading w (STACKS + off) 0 fun s =>
      let r := s.stacksRead off n
      r.1.reply w.code (r.2.getD 0) r.2.isNone
  else s)

/-- NVC_CLEAR_POISON (R436): a write to `NVC.CLR`. -/
def nvcClr (s : State) (v : Nat) : State := if bit v 0 then s.wr 0 Reg.NVC_STAT_POISON 0 else s

/-- NVC_CLEAR_POISON (R436): a write to `NVC.CLR`. -/
def execNvcClearPoison (w : Who) (word : Nat) (s : State) : Result := .next (writeThen w 0 0x0F 0x114 word s nvcClr)

/-- REFRESH_PAGE (R419): the next page is rewritten; every 1,024 pages the position is saved in cell 19. -/
def execRefreshPage (s : State) : Result :=
  .next (if s.on 0 Reg.NVC_CTL_REFRESH_EN then
    let s := s.advanceTime (s.arch.refreshedAt + 10000000 * s.rd 0 Reg.NVC_REFRESH_INTERVAL)
    let p := s.rd 0 Reg.NVC_SWEEP_POS_PAGE
    let words := (List.range 8).filter fun i => !s.poisoned (64 * p + 8 * i)
    let s := words.foldl (fun s i => s.store (STACKS + 64 * p + 8 * i) 8 (s.stk (64 * p + 8 * i) 8)) s
    let s := s.wr 0 Reg.NVC_WRITES_COUNT (s.rd 0 Reg.NVC_WRITES_COUNT + words.length)
    let s := if p = 131071 then ((s.wr 0 Reg.NVC_SWEEP_POS_PAGE 0).inc 0 Reg.NVC_SWEEPS_COUNT).irq 0 0x0F 1
      else s.wr 0 Reg.NVC_SWEEP_POS_PAGE (p + 1)
    let q := s.rd 0 Reg.NVC_SWEEP_POS_PAGE
    let s := if q % 1024 = 0 then s.setCell 19 (s.rd 0 Reg.NVC_SWEEPS_COUNT * 131072 + q) else s
    { s with arch := { s.arch with refreshedAt := s.time } }
  else s)

/-! ### Tallies (R426 to R428) -/

/-- A tally (R428); MIN, MAX and SUM in two's complement. -/
structure Tally where
  seq : Nat
  binset : Nat
  defined : Bool
  restarted : Bool
  count : Nat
  sum : Nat
  min : Nat
  max : Nat
  minT : Nat
  maxT : Nat
  bins : List Nat
  firstT : Nat
  deriving DecidableEq, Repr

/-- A tally with nothing counted. -/
def Tally.zero (seq binset now : Nat) (defined restarted : Bool) : Tally :=
  ⟨seq, binset, defined, restarted, 0, 0, 0, 0, 0, 0, List.replicate 16 0, now⟩

/-- The 128 bytes of a tally's image (R428). -/
def Tally.bytes (x : Tally) (t : Nat) : List Byte :=
  let b := toLE 4 x.seq ++ toLE 2 t ++ toLE 1 x.binset ++ toLE 1 (ofBool x.defined + 2 * ofBool x.restarted) ++
    toLE 8 x.count ++ toLE 8 x.sum ++ toLE 4 x.min ++ toLE 4 x.max ++ toLE 8 x.minT ++ toLE 8 x.maxT ++
    x.bins.flatMap (toLE 4) ++ toLE 8 x.firstT ++ toLE 4 0
  b ++ toLE 4 (crc32c b)

/-- The tally that 128 bytes hold. -/
def Tally.ofBytes (b : List Byte) : Tally :=
  ⟨leAt b 0 4, leAt b 6 1, bit (leAt b 7 1) 0, bit (leAt b 7 1) 1, leAt b 8 8, leAt b 16 8, leAt b 24 4, leAt b 28 4,
    leAt b 32 8, leAt b 40 8, (List.range 16).map fun i => leAt b (48 + 4 * i) 4, leAt b 112 8⟩

/-- Counts one value (R427). -/
def Tally.update (x : Tally) (v : Int) (edges : List Int) (now : Nat) : Tally :=
  let count := satAdd 64 x.count 1
  let sum := ofInt 64 (clampInt (-(2 ^ 63 : Int)) (2 ^ 63 - 1) (toInt 64 x.sum + v))
  let low := decide (count = 1) || decide (v < toInt 32 x.min)
  let high := decide (count = 1) || decide (toInt 32 x.max < v)
  let bin := (edges.filter fun e => decide (e ≤ v)).length
  { x with
    count := count, sum := sum
    min := if low then ofInt 32 v else x.min, minT := if low then now else x.minT
    max := if high then ofInt 32 v else x.max, maxT := if high then now else x.maxT
    bins := x.bins.modify bin fun n => satAdd 32 n 1 }

/-! ### Records, runs and blocks as data (R412, R429, R430) -/

/-- A record as the reading room holds it (R430). -/
def recordBytes (sender code rseq time : Nat) (payload : List Byte) : List Byte :=
  let padded := payload ++ List.replicate ((8 - payload.length % 8) % 8) 0
  let head := toLE 1 payload.length ++ toLE 1 sender ++ toLE 2 code ++ toLE 4 rseq ++ toLE 8 time
  head ++ toLE 4 (crc32c (head ++ padded)) ++ toLE 4 0 ++ padded

/-- Stacks address of a shelf block: 0 to 63 founding, 64 to 351 rolling (R412). -/
def blockAt (b : Nat) : Nat := if b < 64 then 0x200000 + 4096 * b else 0x260000 + 4096 * (b - 64)

/-- What becomes of an entry: the run stays open, is broken, or is complete. -/
inductive RunEnd where
  | open' | broken | whole (run : List QEntry)
  deriving DecidableEq, Repr

/-- Size in the reading room of the record that a run carries (R430). -/
def runSize (run : List QEntry) : Nat :=
  24 + 8 * ((field ((run[0]?).map QEntry.lo |>.getD 0) 16 8 + 7) / 8)

/-- One entry of a sender's run (R429); a FIRST begins afresh. -/
def runStep (present : Option (List QEntry)) (e : QEntry) : Option (List QEntry) × RunEnd :=
  let tag := e.hi % 2 ^ 16
  let first := bit tag 14
  let last := bit tag 13
  let broken := (some ([] : List QEntry), RunEnd.broken)
  if first then
    let len := field e.lo 16 8
    let formed := bit tag 15 && tag % 2 ^ 13 == 0 && decide (len ≤ 248) && decide (e.lo < 2 ^ 24) && (last == (len == 0))
    if !formed then broken else if last then (none, .whole [e]) else (some [e], .open')
  else match present with
    | some [] => (some [], .open')
    | none => broken
    | some run =>
      let need := 1 + (field ((run[0]?).map QEntry.lo |>.getD 0) 16 8 + 3) / 4
      let run := run ++ [e]
      let formed := bit tag 15 && tag % 2 ^ 13 == 0 && (last == (run.length == need))
      if !formed then broken else if last then (none, .whole run) else (some run, .open')

namespace State

/-- The image of a tally, as `ARCH.TALLY_Wj` shows it. -/
def tallyBytes (s : State) (t : Nat) : List Byte :=
  (List.range 32).flatMap fun j => toLE 4 (s.rd 0 ((Reg.ARCH_TALLY_Wj_DATA.i j).w t))

/-- A tally. -/
def tally (s : State) (t : Nat) : Tally := Tally.ofBytes (s.tallyBytes t)

/-- Replaces a tally. -/
def setTally (s : State) (t : Nat) (x : Tally) : State :=
  (x.bytes t |> (leWords · 0 32)).zipIdx.foldl (fun s w => s.wr 0 ((Reg.ARCH_TALLY_Wj_DATA.i w.2).w t) w.1) s

/-- Marks a tally as changed since its snapshot. -/
def tallyChanged (s : State) (t : Nat) : State := { s with arch := { s.arch with changed := s.arch.changed ||| (1 <<< t) } }

/-- The edges of a bin set. -/
def binEdges (s : State) (b : Nat) : List Int := (List.range 15).map fun k => toInt 32 (s.rd 0 ((Reg.ARCH_EDGEk_VALUE.i k).w b))

/-- Body of twin 3 (R420, R426; its layout is the model's, log entry 74): 64 sets of 15 edges, 1,024 definitions as
DEFINED in bit 7 and the bin set below, the number of bad blocks and their list. -/
def archConfig (s : State) : List Byte :=
  ((List.range 64).flatMap fun b => (List.range 15).flatMap fun k => toLE 4 (s.rd 0 ((Reg.ARCH_EDGEk_VALUE.i k).w b))) ++
    ((List.range 1024).flatMap fun t =>
      let w := s.rd 0 ((Reg.ARCH_TALLY_Wj_DATA.i 1).w t)
      toLE 1 (field w 16 6 + 128 * field w 24 1)) ++
    toLE 2 s.arch.bad.length ++ s.arch.bad.flatMap (toLE 2)

/-- Keeper firmware saves the Archive's configuration (R426). -/
def saveArch (s : State) : State := if s.firmware then s.twinWrite 3 s.archConfig else s

/-- What a write to `ARCH.TALLY_GO` does (R427). -/
def tallyGo (w : Who) (s : State) (v : Nat) : State :=
  let t := field v 0 10
  let x := s.tally t
  if !x.defined then s
  else if bit v 10 then (s.setTally t (Tally.zero x.seq x.binset s.time true false)).tallyChanged t
  else
    let val := toInt 32 (s.rd 0 (Reg.ARCH_TALLY_VAL_VALUE.w w.code))
    (s.setTally t (x.update val (s.binEdges x.binset) s.time)).tallyChanged t

/-- What a write to `ARCH.TALLY_DEF` does (R426). -/
def tallyDef (s : State) (v : Nat) : State :=
  let t := field v 0 10
  let seq := (s.tally t).seq
  let s := s.setTally t (if bit v 16 then Tally.zero seq (field v 10 6) s.time true false else Tally.zero seq 0 0 false false)
  (s.tallyChanged t).saveArch

/-- What a write to `ARCH.EDGEk` does (R438): later edges below the value rise to it. -/
def binEdge (s : State) (k : Nat) : State :=
  let b := s.rd 0 Reg.ARCH_BIN_SEL_SET
  let f (j : Nat) : FieldDef := (Reg.ARCH_EDGEk_VALUE.i j).w b
  let v := s.rd 0 (f k)
  let s := ((List.range 15).filter (k < ·)).foldl (fun s j =>
    if toInt 32 (s.rd 0 (f j)) < toInt 32 v then s.wr 0 (f j) v else s) s
  s.saveArch

/-! ### Failure (R435) -/

/-- The announcement on CAN-A (R435). -/
def announce (s : State) : State :=
  let s := s.canSend 0 (s.rd 0 Reg.ARCH_CFG_ALARM_ID)
    (toBE 1 0x41 ++ toBE 1 s.arch.cause ++ toBE 2 (s.rd 0 Reg.PAIR_ID_ID) ++ toBE 4 (s.rd 0 Reg.ARCH_DURABLE_RSEQ))
  { s with arch := { s.arch with announcedAt := s.time } }

/-- Words written to the Stacks by the Archive. -/
def stkStore (s : State) (off : Nat) (bytes : List Byte) : State :=
  (s.storeBytes (STACKS + off) bytes).wr 0 Reg.NVC_WRITES_COUNT (s.rd 0 Reg.NVC_WRITES_COUNT + bytes.length / 8)

/-- The bytes that a record leaves unused at the end of the ring, when it does not fit there. -/
def roomGap (s : State) (size : Nat) : Nat :=
  let t := s.rd 0 Reg.ARCH_RR_TAIL_OFFSET
  if t + size ≤ 0x20000 then 0 else 0x20000 - t

/-- Whether the reading room can hold a record. -/
def roomFits (s : State) (size : Nat) : Bool := decide (s.rd 0 Reg.ARCH_STAT_FILL + s.roomGap size + size ≤ 0x20000)

/-- A flush starts, or is due after the one that runs (R433). -/
def startFlush (s : State) : State :=
  if s.on 0 Reg.ARCH_STAT_FLUSHING then { s with arch := { s.arch with again := true } }
  else if s.on 0 Reg.ARCH_STAT_FAILED then s
  else { s.wr 0 Reg.ARCH_STAT_FLUSHING 1 with arch := { s.arch with flushing := s.arch.room.length, again := false } }

/-- A record enters the reading room with the next RSEQ (R432, R434), and starts a flush where R433 says so. -/
def takeRecord (s : State) (sender code time : Nat) (payload : List Byte) : State :=
  let rseq := s.rd 0 Reg.ARCH_RSEQ_NEXT
  let s := if s.cell 17 ≤ rseq then s.setCell 17 (s.cell 17 + 4096) else s
  let b := recordBytes sender code rseq time payload
  let gap := s.roomGap b.length
  let tail := s.rd 0 Reg.ARCH_RR_TAIL_OFFSET
  let s := if gap = 0 then s else s.storeByte (K_DEPOT + tail) 0xFF
  let off := if gap = 0 then tail else 0
  let s := s.storeBytes (K_DEPOT + off) b
  let s := (s.wr 0 Reg.ARCH_RR_TAIL_OFFSET ((off + b.length) % 0x20000)).wr 0 Reg.ARCH_RSEQ_NEXT (rseq + 1)
  let s := s.wr 0 Reg.ARCH_STAT_FILL (s.rd 0 Reg.ARCH_STAT_FILL + gap + b.length)
  let s : State := { s with arch := { s.arch with room := s.arch.room ++ [⟨off, b.length, gap, rseq, time⟩] } }
  if 2 ≤ field code 13 2 ∨ 98304 ≤ s.rd 0 Reg.ARCH_STAT_FILL then s.startFlush else s

/-- The Archive's memory fails (R435); `addr` is the Stacks address of the last failed write. -/
def archiveFails (s : State) (cause addr : Nat) : State :=
  if s.on 0 Reg.ARCH_STAT_FAILED then s
  else
    let s := (s.wr 0 Reg.ARCH_STAT_FAILED 1).wr 0 Reg.ARCH_STAT_FLUSHING 0
    let words := [0x5AF1 + cause * 2 ^ 16, s.time % 2 ^ 32, s.time / 2 ^ 32, addr, s.arch.bad.length,
      s.rd 0 Reg.ARCH_DURABLE_RSEQ, s.rd 0 Reg.ARCH_DROPS_COUNT]
    let words := words ++ [crc32c (words.flatMap (toLE 4))]
    let s := words.zipIdx.foldl (fun s w => s.wr 0 (Reg.AON_SLIPs_Ww.i2 w.2) w.1) s
    let s : State := { s.irq 0 0x11 2 with arch := { s.arch with cause := cause, flushing := 0, again := false } }
    let code := ownCode .alarm 0x11 71
    let s := if s.roomFits 24 then s.takeRecord archiveSender code s.time [] else s.inc 0 Reg.ARCH_LOST_COUNT
    s.announce

/-! ### The shelves (R433 to R435) -/

/-- Whether a block has a valid header. -/
def blockValid (s : State) (b : Nat) : Bool :=
  let a := blockAt b
  s.stk a 4 == 0x53484C46 && s.stk (a + 28) 4 == crc32c (s.loadBytes (STACKS + a) 28) && !s.anyPoison a 32

/-- BSEQ and FIRST_RSEQ of a block. -/
def blockSeq (s : State) (b : Nat) : Nat := s.stk (blockAt b + 8) 8
/-- FIRST_RSEQ of a block. -/
def blockFirst (s : State) (b : Nat) : Nat := s.stk (blockAt b + 16) 4

/-- The valid rolling blocks, lowest BSEQ first among equals of the least. -/
def oldestRolling (s : State) (but : Nat) : Option Nat :=
  let l := ((List.range 288).map (· + 64)).filter fun b => b != but && s.blockValid b
  l.foldl (fun o b => match o with
    | none => some b
    | some c => if s.blockSeq b < s.blockSeq c then some b else some c) none

/-- The present block and the offset after its last record: founding shelf first. -/
def shelfPlace (s : State) : Option (Nat × Nat) :=
  if s.on 0 Reg.ARCH_STAT_FOUNDING_FULL then
    let o := s.rd 0 Reg.ARCH_ROLL_HEAD_OFFSET
    if o = 0 then none else some (64 + s.rd 0 Reg.ARCH_ROLL_HEAD_BLOCK, o)
  else
    let e := s.rd 0 Reg.ARCH_FOUND_END_OFFSET
    if e = 0 then none else some ((e - 1) / 4096, (e - 1) % 4096 + 1)

/-- Notes the offset after the last record of a block. -/
def setPlace (s : State) (b o : Nat) : State :=
  if b < 64 then s.wr 0 Reg.ARCH_FOUND_END_OFFSET (4096 * b + o)
  else (s.wr 0 Reg.ARCH_ROLL_HEAD_BLOCK (b - 64)).wr 0 Reg.ARCH_ROLL_HEAD_OFFSET o

/-- The block after the present one that is not bad; a founding shelf that has none is full. -/
def nextBlock (s : State) : State × Nat :=
  let ok (b : Nat) : Bool := !s.arch.bad.contains b
  let here := s.shelfPlace
  let founding := if s.on 0 Reg.ARCH_STAT_FOUNDING_FULL then none
    else (List.range 64).find? fun b => ok b && (match here with | some p => decide (p.1 < b) | none => true)
  match founding with
  | some b => (s, b)
  | none =>
    let s := if s.on 0 Reg.ARCH_STAT_FOUNDING_FULL then s else (s.wr 0 Reg.ARCH_STAT_FOUNDING_FULL 1).irq 0 0x11 3
    let from' := match s.shelfPlace with | some p => p.1 - 64 + 1 | none => 0
    (s, (((List.range 288).map fun i => 64 + (from' + i) % 288).find? ok).getD 64)

/-- Opens a block for records from RSEQ `first` on (R434). -/
def openBlock (s : State) (first : Nat) : State × Nat :=
  let (s, b) := s.nextBlock
  let s := if b < 64 then s
    else
      let s := if s.blockValid b then s.wr 0 Reg.ARCH_STAT_WRAPPED 1 else s
      s.wr 0 Reg.ARCH_OLDEST_RSEQ ((s.oldestRolling b).elim first s.blockFirst)
  let seq := s.arch.bseq + 1
  let head := toLE 4 0x53484C46 ++ toLE 4 0 ++ toLE 8 seq ++ toLE 4 first ++ List.replicate 8 0
  let s := s.stkStore (blockAt b) (head ++ toLE 4 (crc32c head))
  ({ s with arch := { s.arch with bseq := seq } }.setPlace b 32, b)

/-- A block fails its read-back: it is bad, and its records go to the next block (R435). -/
def retireBlock (s : State) (b o : Nat) : State :=
  let old := s.loadBytes (STACKS + blockAt b + 32) (o - 32)
  let first := s.blockFirst b
  let s : State := { s with arch := { s.arch with bad := s.arch.bad ++ [b] } }
  let s := (s.wr 0 Reg.ARCH_BAD_BLOCKS s.arch.bad.length).archive 0x11 70 .info [b]
  let s := s.saveArch
  if 16 < s.arch.bad.length then s.archiveFails 1 (blockAt b)
  else
    let (s, n) := s.openBlock first
    (s.stkStore (blockAt n + 32) old).setPlace n o

/-- Writes one record onto a shelf; `failing` names the blocks whose read-back fails. -/
def shelve (failing : List Nat) (bytes : List Byte) (rseq : Nat) : Nat → State → State
  | 0, s => s
  | n + 1, s =>
    if s.on 0 Reg.ARCH_STAT_FAILED then s
    else
      let (s, p) : State × (Nat × Nat) := match s.shelfPlace with
        | some p => if p.2 + bytes.length ≤ 4096 then (s, p) else ((s.openBlock rseq).1, ((s.openBlock rseq).2, 32))
        | none => ((s.openBlock rseq).1, ((s.openBlock rseq).2, 32))
      if failing.contains p.1 && !s.arch.bad.contains p.1 then shelve failing bytes rseq n (s.retireBlock p.1 p.2)
      else (s.stkStore (blockAt p.1 + p.2) bytes).setPlace p.1 (p.2 + bytes.length)

/-- The oldest record of the reading room goes onto a shelf and leaves it (R433). -/
def flushOne (failing : List Nat) (s : State) : State :=
  match s.arch.room with
  | r :: rest =>
    let s := shelve failing (s.loadBytes (K_DEPOT + r.off) r.size) r.rseq 353 s
    if s.on 0 Reg.ARCH_STAT_FAILED then s
    else
      let s := (s.wr 0 Reg.ARCH_DURABLE_RSEQ r.rseq).wr 0 Reg.ARCH_STAT_FILL (s.rd 0 Reg.ARCH_STAT_FILL - r.size - r.gap)
      let s := s.wr 0 Reg.ARCH_RR_HEAD_OFFSET (match rest with | q :: _ => q.off | [] => s.rd 0 Reg.ARCH_RR_TAIL_OFFSET)
      { s with arch := { s.arch with room := rest } }
  | [] => s

/-- A flush ends: every record admitted before it began is on the shelves. -/
def flushEnds (s : State) (failing : List Nat) : State :=
  let s := (List.range s.arch.flushing).foldl (fun s _ => s.flushOne failing) s
  if s.on 0 Reg.ARCH_STAT_FAILED then s
  else
    let again := s.arch.again || decide (98304 ≤ s.rd 0 Reg.ARCH_STAT_FILL)
    let s : State := { (s.wr 0 Reg.ARCH_STAT_FLUSHING 0).irq 0 0x11 0 with arch := { s.arch with flushing := 0, again := false } }
    if again then s.startFlush else s

/-! ### Ingress (R429 to R432) -/

/-- A complete run is admitted, or dropped (R431, R432). -/
def takeRun (s : State) (sender : Nat) (run : List QEntry) : State :=
  let head := (run[0]?).getD ⟨0, 0, 0, 0⟩
  let code := field head.lo 0 16
  let code := if whoDie sender = 0 then code else setField code 15 1 1
  let payload := ((run.drop 1).flatMap fun e => toLE 4 e.lo).take (field head.lo 16 8)
  let size := runSize run
  if s.on 0 Reg.ARCH_STAT_FAILED then s.inc 0 Reg.ARCH_LOST_COUNT
  else if s.rd 0 Reg.ARCH_BUDGET_BYTES < size then (s.inc 0 Reg.ARCH_BUDGET_DROPS_COUNT).irq 0 0x11 1
  else (s.wr 0 Reg.ARCH_BUDGET_BYTES (s.rd 0 Reg.ARCH_BUDGET_BYTES - size)).takeRecord sender code head.time payload

/-- The Archive pops Q12 until one record is admitted or dropped; while the reading room cannot hold the next it pops
nothing. -/
def assemble : Nat → State → State
  | 0, s => s
  | n + 1, s =>
    match s.ring 0 12 with
    | [] => s
    | e :: _ =>
      let sender := e.hi / 2 ^ 24 % 256
      let present := SMap.find? s.arch.runs sender
      let r := runStep present e
      let cut := bit e.hi 14 && present.any fun r => !r.isEmpty
      let put (s : State) : State :=
        let s := if cut then (s.inc 0 Reg.ARCH_DROPS_COUNT).irq 0 0x11 1 else s
        { s with arch := { s.arch with runs := match r.1 with
          | some l => SMap.insert s.arch.runs sender l
          | none => SMap.erase s.arch.runs sender } }
      match r.2 with
      | .open' => assemble n (put (s.popQueue 0 12).1)
      | .broken => ((put (s.popQueue 0 12).1).inc 0 Reg.ARCH_DROPS_COUNT).irq 0 0x11 1
      | .whole run =>
        if s.on 0 Reg.ARCH_STAT_FAILED = false ∧ runSize run ≤ s.rd 0 Reg.ARCH_BUDGET_BYTES ∧ s.roomFits (runSize run) = false then s
        else (put (s.popQueue 0 12).1).takeRun sender run

/-- Admits every complete record that waits in Q12. -/
def assembleAll (s : State) : State := (List.range (s.ring 0 12).length).foldl (fun s _ => assemble (s.ring 0 12).length s) s

/-! ### Snapshots (R428) -/

/-- Writes the slot of one tally; a failed read-back leaves it changed. -/
def snapTally (failing : List Nat) (s : State) (t : Nat) : State :=
  let x := s.tally t
  let s := s.setTally t { x with seq := (x.seq + 1) % 2 ^ 32 }
  let at' := 0x240000 + 128 * t
  if failing.contains t then
    let s : State := { s with arch := { s.arch with slotFails := s.arch.slotFails + 1 } }
    if 4 ≤ s.arch.slotFails then s.archiveFails 2 at' else s
  else
    let s := s.stkStore at' (s.tallyBytes t)
    { s with arch := { s.arch with slotFails := 0, changed := minus 1024 s.arch.changed (1 <<< t) } }

/-- Writes the slots of the tallies changed since their last snapshot; with FAILED the tallies stay in RAM (R435). -/
def snapTallies (s : State) (failing : List Nat) : State :=
  if s.on 0 Reg.ARCH_STAT_FAILED then s
  else (members 1024 s.arch.changed).foldl (fun s t => if s.on 0 Reg.ARCH_STAT_FAILED then s else s.snapTally failing t) s

/-- A snapshot starts. -/
def startSnapshot (s : State) : State := { s with arch := { s.arch with snapping := true } }

/-- What a write to `ARCH.CTL` does (R438). -/
def archCtl (s : State) (v : Nat) : State :=
  let s := if bit v 0 then s.startFlush else s
  if bit v 1 then s.startSnapshot else s

/-! ### Power-on reset (R428, R435) -/

/-- The records of a block that its scan accepts: the last RSEQ and the offset behind them. -/
def scanBlock (s : State) (b : Nat) : Nat → Nat → Nat → Option Nat × Nat
  | 0, _, o => (none, o)
  | n + 1, expect, o =>
    let a := blockAt b + o
    let len := s.stk a 1
    let size := 24 + 8 * ((len + 7) / 8)
    if 248 < len ∨ 4096 < o + size ∨ s.anyPoison a size = true ∨ s.stk (a + 4) 4 ≠ expect ∨
        s.stk (a + 16) 4 ≠ crc32c (s.loadBytes (STACKS + a) 16 ++ s.loadBytes (STACKS + a + 24) (size - 24)) then (none, o)
    else match scanBlock s b n (expect + 1) (o + size) with
      | (some l, e) => (some l, e)
      | (none, e) => (some expect, e)

/-- The valid block of highest BSEQ among some blocks. -/
def lastBlock (s : State) (l : List Nat) : Option Nat :=
  (l.filter s.blockValid).foldl (fun o b => match o with
    | none => some b
    | some c => if s.blockSeq c < s.blockSeq b then some b else some c) none

/-- The Archive reads its shelves at power-on reset (R435). -/
def archiveScan (s : State) : State :=
  let founding := s.lastBlock (List.range 64)
  let rollings := (List.range 288).map (· + 64)
  let rolling := s.lastBlock rollings
  let scan (b : Nat) : Option Nat × Nat := s.scanBlock b 170 (s.blockFirst b) 32
  let last := (((founding.toList ++ rolling.toList).filterMap fun b => (scan b).1).map (· + 1)).foldl max 0
  let next := max last (s.cell 17)
  let s := match founding with
    | some b => s.wr 0 Reg.ARCH_FOUND_END_OFFSET (4096 * b + (scan b).2)
    | none => s.wr 0 Reg.ARCH_FOUND_END_OFFSET 0
  let s := match rolling with
    | some b =>
      let valid := rollings.filter fun x => s.blockValid x || s.arch.bad.contains x
      let s := ((s.wr 0 Reg.ARCH_ROLL_HEAD_BLOCK (b - 64)).wr 0 Reg.ARCH_ROLL_HEAD_OFFSET (scan b).2).wr 0 Reg.ARCH_STAT_FOUNDING_FULL 1
      let s := s.wr 0 Reg.ARCH_OLDEST_RSEQ ((s.oldestRolling 0).elim 0 s.blockFirst)
      s.wrB 0 Reg.ARCH_STAT_WRAPPED (decide (valid.length = 288) && (s.oldestRolling 0) != some 64)
    | none =>
      let s := ((s.wr 0 Reg.ARCH_ROLL_HEAD_BLOCK 287).wr 0 Reg.ARCH_ROLL_HEAD_OFFSET 4096).wr 0 Reg.ARCH_STAT_FOUNDING_FULL 0
      (s.wr 0 Reg.ARCH_OLDEST_RSEQ 0).wr 0 Reg.ARCH_STAT_WRAPPED 0
  let s := (s.wr 0 Reg.ARCH_RSEQ_NEXT next).wr 0 Reg.ARCH_DURABLE_RSEQ (last - 1)
  let s : State := { s with arch := { s.arch with
    bseq := ((founding.toList ++ rolling.toList).map s.blockSeq).foldl max 0 } }
  if last < next then s.archive 0x11 69 .info [last - 1, next] else s

/-- The Archive's configuration is loaded from twin 3, and the tallies that it defines from their slots (R428). -/
def archiveLoad (s : State) : State :=
  match s.twinData? 3 with
  | none => s
  | some b =>
    let s := (List.range 64).foldl (fun s k => (List.range 15).foldl (fun s j =>
      s.wr 0 ((Reg.ARCH_EDGEk_VALUE.i j).w k) (leAt b (60 * k + 4 * j) 4)) s) s
    let n := leAt b 4864 2
    let s : State := { s with arch := { s.arch with bad := (List.range n).map fun i => leAt b (4866 + 2 * i) 2 } }
    let s := s.wr 0 Reg.ARCH_BAD_BLOCKS n
    (List.range 1024).foldl (fun s t =>
      let d := leAt b (3840 + t) 1
      if d < 128 then s
      else
        let at' := 0x240000 + 128 * t
        let slot := s.loadBytes (STACKS + at') 128
        if leAt slot 124 4 = crc32c (slot.take 124) ∧ leAt slot 4 2 = t ∧ s.anyPoison at' 128 = false then
          s.setTally t { Tally.ofBytes slot with defined := true, binset := d % 64 }
        else (s.setTally t (Tally.zero 0 (d % 64) s.time true true)).archive 0x11 68 .info [t]) s

end State

/-! ### Commands -/

/-- ARCHIVE_RECORD (R429 to R432): a complete record run from Q12 is admitted or dropped. -/
def execArchiveRecord (s : State) : Result :=
  .next (if s.arch.stopped then s else State.assemble (s.ring 0 12).length s)

/-- BUDGET_REFILL (R432): every 20 s. -/
def execBudgetRefill (s : State) : Result :=
  let s := s.advanceTime (s.arch.refilledAt + 20000000000)
  .next { s.wr 0 Reg.ARCH_BUDGET_BYTES (min 4718592 (s.rd 0 Reg.ARCH_BUDGET_BYTES + 1179648)) with
    arch := { s.arch with refilledAt := s.time } }

/-- ARCHIVE_FLUSH (R433, R438): a write to `ARCH.CTL` with FLUSH set. -/
def execArchiveFlush (w : Who) (s : State) : Result := .next (writeThen w 0 0x11 0x100 1 s State.archCtl)

/-- RECORD_AGE_FLUSH (R433): the oldest unflushed record is 60 s old. -/
def execRecordAgeFlush (s : State) : Result :=
  .next (match s.arch.room with
    | r :: _ => (s.advanceTime (r.time + 60000000000)).startFlush
    | [] => s)

/-- ARCHIVE_ANNOUNCE (R435): every 60 s while the Archive has failed. -/
def execArchiveAnnounce (s : State) : Result :=
  .next (if s.on 0 Reg.ARCH_STAT_FAILED then (s.advanceTime (s.arch.announcedAt + 60000000000)).announce else s)

/-- TALLY_UPDATE (R427): a write to `ARCH.TALLY_GO`. -/
def execTallyUpdate (w : Who) (word : Nat) (s : State) : Result := .next (writeThen w 0 0x11 0x144 word s (State.tallyGo w))

/-- TALLY_DEFINE (R426): a write to `ARCH.TALLY_DEF`. -/
def execTallyDefine (w : Who) (word : Nat) (s : State) : Result := .next (writeThen w 0 0x11 0x148 word s State.tallyDef)

/-- BIN_EDGE_WRITE (R438): a write to `ARCH.EDGEk`. -/
def execBinEdgeWrite (w : Who) (k word : Nat) (s : State) : Result :=
  .next (if k < 15 then writeThen w 0 0x11 (0x180 + 4 * k) word s fun s _ => s.binEdge k else s)

/-- TALLY_SNAPSHOT (R428): a write to `ARCH.CTL` with SNAP set. -/
def execTallySnapshot (w : Who) (s : State) : Result := .next (writeThen w 0 0x11 0x100 2 s State.archCtl)

/-- TALLY_SNAPSHOT_PERIOD (R428): every `SNAP_MIN` minutes. -/
def execTallySnapshotPeriod (s : State) : Result :=
  let m := s.rd 0 Reg.ARCH_CFG_SNAP_MIN
  .next (if m = 0 then s
  else
    let s := s.advanceTime (s.arch.snappedAt + 60000000000 * m)
    { s with arch := { s.arch with snapping := true, snappedAt := s.time } })

end Sys2Proof.Machine
end

