-- ==== Sys2Proof/Machine/Field.lean ====
section
/-! DEFINITION.  The Field die and its proxy (spec/12 R378 to R409): control and status frames, digital inputs, outputs
and what they drive, the FSK modem, silence, FV24 and the trim. -/

namespace Sys2Proof.Machine

open Sys2Proof.Bits

/-- An analogue output that drives nothing. -/
def AoDrive.off : AoDrive := ⟨false, 0, false, 0⟩

/-- A run of no samples. -/
def DiRun.none : DiRun := ⟨false, 0, 0⟩

/-- FV24 level for a measurement, from the present level (R397): thresholds in mV, falling and rising. -/
def fv24Level (present mv : Nat) : Nat :=
  let falling : List Nat := [19200, 16000, 12000]
  let rising : List Nat := [19600, 16400, 13000]
  let from' := min present 3
  let stays := ((List.range 3).filter fun k => decide (k < from' ∧ mv ≤ (rising[k]?).getD 0)).map (· + 1)
  let enters := ((List.range 3).filter fun k => decide (mv < (falling[k]?).getD 0)).map (· + 1)
  (stays ++ enters).foldl max 0

namespace State

/-- A configuration field as the Field die holds it. -/
def fd (s : State) (f : FieldDef) : Nat := SMap.get (f.resetAt 1) s.fld.own (f.key 1)

/-- Whether the Field die is present (R380). -/
def fieldPresent (s : State) : Bool := s.on 0 Reg.FPX_STAT_PRESENT

/-! ### What the outputs drive (R389, R390, R393) -/

/-- The current of AO `k` for a code, after the trim. -/
def aoUnits (s : State) (k code : Nat) : Nat :=
  let z := toInt 12 (s.fd (Reg.F_FAO_ZEROk_UNITS.i k))
  let x := ((code : Int) - 8000) * toInt 12 (s.fd (Reg.F_FAO_SPANk_UNITS.i k))
  let q := x / 32000
  let r := x % 32000
  let up := if r = 16000 then Config.aoTie x else decide (16000 < r)
  ((code : Int) + z + q + (if up then 1 else 0)).toNat

/-- AO `k` driven at a code. -/
def aoAt (s : State) (k code : Nat) (fault : Bool) : AoDrive := ⟨true, code, fault, s.aoUnits k code⟩

/-- The fault current of AO `k` (R389). -/
def aoFault (s : State) (k : Nat) : AoDrive := s.aoAt k (if s.fd (Reg.F_FAO_CFGk_FAULT_HIGH.i k) = 1 then 42000 else 7200) true

/-- What AO `k` drives under a KIND and CODE pair of `F/FSAFE`. -/
def aoKind (s : State) (k kind code : Nat) : AoDrive :=
  match kind with
  | 0 => .off
  | 1 => s.aoAt k code false
  | 2 => s.aoFault k
  | _ => SMap.get .off s.fld.ao k

/-- Rows 1 and 2 of R393: the outputs are off.  After a silence expiry in SAFE mode the safe values stand (R395). -/
def outputsOff (s : State) : Bool := decide (3 ≤ s.fld.level) || !(s.fld.armed || s.fld.safeHeld)

/-- What DO `k` is driven to: the first row of R393 that applies. -/
def driveDo (s : State) (k : Nat) : Bool :=
  let f := s.fld
  if s.outputsOff then false
  else if (f.silent || f.safeHeld) || bit f.couplers k then
    if s.fd Reg.F_FSAFE_MODE_SAFE = 1 ∨ f.safeHeld then bit (s.fd Reg.F_FSAFE_SAFE_DO_VAL) k else bit f.doOut k
  else bit f.relDo k

/-- What AO `k` drives: the first row of R393 that applies. -/
def driveAo (s : State) (k : Nat) : AoDrive :=
  let f := s.fld
  if s.outputsOff then .off
  else if (f.silent || f.safeHeld) || bit f.couplers (8 + k) then
    if s.fd Reg.F_FSAFE_MODE_SAFE = 1 ∨ f.safeHeld then
      s.aoKind k (s.fd (Reg.F_FSAFE_SAFE_AOk_KIND.i k)) (s.fd (Reg.F_FSAFE_SAFE_AOk_CODE.i k))
    else SMap.get .off f.ao k
  else match SMap.find? f.trim k with
    | some code => s.aoAt k code false
    | none =>
      let r := SMap.get AoDrive.off f.relAo k
      if r.on then s.aoAt k r.code r.fault else r

/-- Whether AO `k` is driven under row 6 or row 8 of R393. -/
def aoLive (s : State) (k : Nat) : Bool :=
  let f := s.fld
  !s.outputsOff && f.armed && !f.silent && !f.safeHeld && !bit f.couplers (8 + k) && ((SMap.find? f.trim k).isSome || !f.standby)

/-- Whether the FSK modem of AO `k` may send (R392). -/
def fskMaySend (s : State) (k : Nat) : Bool := s.aoLive k && s.tabletHeld

/-- What `F/FSK` shows of channel `k`. -/
def fskShow (s : State) (k : Nat) : State :=
  let tx := SMap.get [] s.fld.fskTx k
  let rx := SMap.get [] s.fld.fskRx k
  let s := (s.wr 1 (Reg.F_FSK_STATk_TX_COUNT.i k) tx.length).wr 1 (Reg.F_FSK_STATk_RX_COUNT.i k) rx.length
  let s := s.wrB 1 (Reg.F_FSK_STATk_SENDING.i k)
    (s.on 1 (Reg.F_FSK_CTLk_EN.i k) && s.on 1 (Reg.F_FSK_CTLk_RTS.i k) && !tx.isEmpty && s.fskMaySend k)
  let c := (rx.head?).getD 0
  let s := (s.wr 1 (Reg.F_FSK_RXk_DATA.i k) (c % 256)).wr 1 (Reg.F_FSK_RXk_PARITY_ERR.i k) (field c 8 1)
  (s.wr 1 (Reg.F_FSK_RXk_FRAMING_ERR.i k) (field c 9 1)).wrB 1 (Reg.F_FSK_RXk_VALID.i k) (!rx.isEmpty)

/-- Outputs that are switched on: driven on and not tripped (R387). -/
def doOn (s : State) : Nat := minus 8 s.fld.doOut (s.fld.shorts ||| s.fld.thermals)

/-- The outputs take what their rows give.  Open load clears on an output that is off, unless FV24 is LOW (R388, R397). -/
def drive (s : State) : State :=
  let s : State := { s with fld := { s.fld with
    doOut := maskOf ((List.range 8).filter s.driveDo)
    ao := SMap.put .off (SMap.put .off s.fld.ao 0 (s.driveAo 0)) 1 (s.driveAo 1) } }
  let s : State := if s.fld.level < 2 then { s with fld := { s.fld with opens := s.fld.opens &&& s.doOn } } else s
  (s.fskShow 0).fskShow 1

/-- The outputs are disarmed (R394). -/
def disarm (s : State) : State :=
  ({ s with fld := { s.fld with armed := false, armDue := false, safeHeld := false, trim := [], trimEnds := 0 } } : State).drive

/-! ### Writes to the Field pages (R64, R379) -/

/-- The fields of one written register enter a configuration. -/
def applyWrite (own : SMap Nat) (w : ProxyWrite) : SMap Nat :=
  if w.off = 0x00C then
    let own := if bit w.word 1 then own.filter fun e => e.1 / 2 ^ 17 % 64 != w.page else own
    SMap.put 1 own ((PCTL_EN w.page).key 1) (w.word % 2)
  else ((regFields 1 w.page w.off).filter fun f => f.acc == .rw).foldl (fun m f =>
    SMap.put (f.resetAt 1) m (f.key 1) (f.get w.word)) own

/-- A write joins those that wait for a control frame; without the Field die the whole proxy is sent at its return. -/
def queueWrite (s : State) (page off word : Nat) : State :=
  if s.fieldPresent then
    { s with
      fieldStale := s.fieldStale ||| (1 <<< page)
      fld := { s.fld with waiting := s.fld.waiting ++ [⟨page, off, word, s.time⟩] } }
  else s

/-- Keeper hardware writes a Field register itself: the proxy, and the write to the Field die. -/
def proxySet (s : State) (f : FieldDef) (v : Nat) : State :=
  let s := s.wr 1 f v
  s.queueWrite f.code f.off ((regFields 1 f.code f.off).foldl (fun w g => w + s.rd 1 g * 2 ^ g.lsb) 0)

/-- The pages with writes on their way. -/
def pendingPages (s : State) : Nat := maskOf ((s.fld.waiting ++ s.fld.sent).map (·.page))

/-- Whether control frames reach the Field die. -/
def controlFlows (s : State) : Bool := s.fieldPresent && !s.on 0 Reg.FPX_CTL_MUTE

/-! ### Trim (R399, R400) -/

/-- `TRIM_STAT.STATE` takes a value. -/
def setTrim (s : State) (st : Nat) : State :=
  if s.rd 1 Reg.F_FAO_TRIM_STAT_STATE = st then s else (s.wr 1 Reg.F_FAO_TRIM_STAT_STATE st).irq 1 3 1

/-- Whether a trim step is in force. -/
def trimming (s : State) : Bool :=
  s.rd 1 Reg.F_FAO_TRIM_STAT_STATE == 1 || s.rd 1 Reg.F_FAO_TRIM_STAT_STATE == 2

/-- A trim starts on channel `k`: Z and S are remembered. -/
def trimStart (s : State) (k pins : Nat) : State :=
  let s := (s.wr 1 Reg.F_FAO_TRIM_STAT_PINS pins).wr 1 Reg.F_FAO_TRIM_STAT_CHANNEL k
  { s with fld := { s.fld with
    trimOld := (s.rd 1 (Reg.F_FAO_ZEROk_UNITS.i k), s.rd 1 (Reg.F_FAO_SPANk_UNITS.i k)), pressAt := s.time } }

/-- Channel `k` drives the code of a step: 1 ZERO, 2 SPAN. -/
def trimDrive (s : State) (k step : Nat) : State :=
  let other := (s.fld.trim.map (·.1)).filter (· != k)
  ({ s with fld := { s.fld with
    trim := SMap.insert s.fld.trim k (if step = 1 then 8000 else 40000)
    trimEnds := minus 2 (s.fld.trimEnds ||| maskOf other) (1 <<< k) } } : State).drive

/-- A trim that stands is abandoned: Z and S are restored. -/
def trimAbandon (s : State) : State :=
  if s.trimming then
    let k := s.rd 1 Reg.F_FAO_TRIM_STAT_CHANNEL
    let s := (s.proxySet (Reg.F_FAO_ZEROk_UNITS.i k) s.fld.trimOld.1).proxySet (Reg.F_FAO_SPANk_UNITS.i k) s.fld.trimOld.2
    let s := if s.rd 1 Reg.F_FAO_TRIM_STEP = 0 then s else s.proxySet Reg.F_FAO_TRIM_STEP 0
    ({ s with fld := { s.fld with trimEnds := s.fld.trimEnds ||| (1 <<< k) } } : State).setTrim 0
  else s

/-- What a write to `F/FAO.TRIM` does (R399). -/
def trimWrite (s : State) (v : Nat) : State :=
  let step := field v 1 2
  let k := field v 0 1
  let commanded := s.trimming && s.rd 1 Reg.F_FAO_TRIM_STAT_PINS == 0
  if step = 0 then
    if commanded then
      let c := s.rd 1 Reg.F_FAO_TRIM_STAT_CHANNEL
      ({ s with fld := { s.fld with trimEnds := s.fld.trimEnds ||| (1 <<< c) } } : State).setTrim 3
    else s
  else
    let s := if commanded && s.rd 1 Reg.F_FAO_TRIM_STAT_CHANNEL == k then s else s.trimStart k 0
    (s.setTrim step).trimDrive k step

/-! ### FSK (R391, R392, R407) -/

/-- What a write to `F/FSK.TXk` does. -/
def fskTx (s : State) (k v : Nat) : State :=
  let tx := SMap.get [] s.fld.fskTx k
  if !s.fskMaySend k || decide (64 ≤ tx.length) then s.inc 1 (Reg.F_FSK_ERRSk_TX_DROPS.i k)
  else ({ s with fld := { s.fld with fskTx := SMap.insert s.fld.fskTx k (tx ++ [v % 256]) } } : State).fskShow k

/-- A read of `F/FSK.RXk` pops the head character. -/
def fskPop (s : State) (k : Nat) : State :=
  ({ s with fld := { s.fld with fskRx := SMap.put [] s.fld.fskRx k (SMap.get [] s.fld.fskRx k).tail } } : State).fskShow k

end State

/-- What a write to a Field register does in the Keeper beyond the proxy (the rules of each page). -/
def fieldEffect (code off : Nat) (s : State) (v : Nat) : State :=
  match code, off with
  | 3, 0x140 => s.trimWrite v
  | 4, 0x100 | 4, 0x120 => s.fskShow ((off - 0x100) / 0x20)
  | 4, 0x104 | 4, 0x124 => s.fskTx ((off - 0x104) / 0x20) v
  | 6, 0x100 => if bit v 1 && s.controlFlows then s.disarm else s
  | 7, 0x100 => if bit v 1 then clampZero s 1 else s
  | _, _ => s

/-- Whether a write to a Field page finds 64 writes waiting (R50, R379). -/
def State.fieldFull (s : State) : Bool := decide (64 ≤ s.fld.waiting.length)

/-- A write to a Field page that finds a place among those that wait: with its effects in the Keeper, and on its way to the
Field die (R64). -/
def fieldTake (w : Who) (code off word : Nat) (s : State) : State :=
  writeThen w 1 code off word s fun s v =>
    let s := if off = 0x00C ∧ bit v 1 then softResetPage s 1 code else s
    fieldEffect code off (s.queueWrite code off v) v

/-- A write to a Field page; one that the page takes is held while 64 writes wait (R50, R64, R379). -/
def fieldWrite (w : Who) (code off word : Nat) (s : State) : State :=
  if s.fieldFull && mayWrite 1 code w && !s.notReady 1 code then s.holdPage w 1 code off word else fieldTake w code off word s

/-- A held write to a Field page takes effect when a place is free, and its response returns (R50, R379). -/
def releaseFieldWrite (s : State) (r : HeldReq) : State :=
  if s.fieldFull then s
  else (fieldTake r.by (field r.addr 12 8) (r.addr % 4096) r.value (s.unholdRequest r)).reply r.who 0 false

/-- The held writes to Field pages take effect in order while there is room. -/
def releaseField (s : State) : State :=
  (s.holding.filter fun r => !r.failed && State.atPage r && r.die == 1).foldl releaseFieldWrite s

/-! ### Edges (R386) -/

namespace State

/-- The FDI page shows the head of the merged queue. -/
def edgeShow (s : State) : State :=
  let s := s.wr 1 Reg.F_FDI_PENDING_CHANNELS (maskOf (s.fld.edges.map DiEdge.channel))
  match s.fld.edges with
  | e :: _ =>
    let s := (s.wr 1 Reg.F_FDI_EDGE_LO_US (e.stamp % 2 ^ 32)).wr 1 Reg.F_FDI_EDGE_HI_TIME (e.stamp / 2 ^ 32)
    let s := (s.wr 1 Reg.F_FDI_EDGE_HI_CHANNEL e.channel).wrB 1 Reg.F_FDI_EDGE_HI_LEVEL e.level
    (s.wrB 1 Reg.F_FDI_EDGE_HI_LOSS e.loss).wr 1 Reg.F_FDI_EDGE_HI_VALID 1
  | [] =>
    let s := (s.wr 1 Reg.F_FDI_EDGE_LO_US 0).wr 1 Reg.F_FDI_EDGE_HI_TIME 0
    let s := (s.wr 1 Reg.F_FDI_EDGE_HI_CHANNEL 0).wr 1 Reg.F_FDI_EDGE_HI_LEVEL 0
    (s.wr 1 Reg.F_FDI_EDGE_HI_LOSS 0).wr 1 Reg.F_FDI_EDGE_HI_VALID 0

/-- A read of `F/FDI.EDGE_HI` pops the head. -/
def edgePop (s : State) : State := ({ s with fld := { s.fld with edges := s.fld.edges.tail } } : State).edgeShow

/-- An edge is stored for its channel, or lost on a full FIFO. -/
def edgeStore (s : State) (c : Nat) (level : Bool) (stamp : Nat) : State :=
  let f := s.fld
  if s.fd (Reg.F_FDI_CHc_EDGE_EN.i c) = 0 then s
  else if 8 ≤ (f.edges.filter fun e => e.channel == c).length then
    let s : State := { s with fld := { f with lossDue := f.lossDue ||| (1 <<< c), lostCut := f.lostCut ||| (1 <<< c) } }
    (s.setBits 1 Reg.F_FDI_LOST_CHANNELS (1 <<< c)).irq 1 1 1
  else
    ({ s with fld := { f with
      edges := f.edges ++ [⟨c, level, bit f.lossDue c, stamp⟩], lossDue := minus 16 f.lossDue (1 <<< c) } } : State).edgeShow

/-- A level of channel `c` is accepted (R385): the reference after an absence gives no edge. -/
def acceptLevel (s : State) (c : Nat) (level : Bool) (first : Nat) : State :=
  let was := bit (s.rd 1 Reg.F_FDI_LEVELS_STABLE) c
  let known := bit s.fld.known c
  let s := s.wr 1 Reg.F_FDI_LEVELS_STABLE (setBit (s.rd 1 Reg.F_FDI_LEVELS_STABLE) c level)
  let s : State := { s with fld := { s.fld with known := s.fld.known ||| (1 <<< c), runs := SMap.erase s.fld.runs c } }
  if known && was != level then
    let s := (s.inc 1 Reg.F_FDI_EDGES_COUNT).edgeStore c level ((first - 1200) / 1000)
    s.sourceOccurs 1 c fun e => e == 2 || (e == 0 && level) || (e == 1 && !level)
  else s

/-- One sample of channel `c`. -/
def sampleChannel (s : State) (c : Nat) (level : Bool) : State :=
  let stable := bit (s.rd 1 Reg.F_FDI_LEVELS_STABLE) c
  if bit s.fld.known c && level == stable then { s with fld := { s.fld with runs := SMap.erase s.fld.runs c } }
  else
    let r := SMap.get DiRun.none s.fld.runs c
    let r : DiRun := if r.count ≠ 0 ∧ r.level = level then { r with count := r.count + 1 } else ⟨level, 1, s.time⟩
    if s.fd (Reg.F_FDI_CHc_DEBOUNCE.i c) ≤ r.count then s.acceptLevel c level r.first
    else { s with fld := { s.fld with runs := SMap.insert s.fld.runs c r } }

/-! ### Reports of the Field die (R379, R388, R390, R398) -/

/-- A crossing of FV24 is reported (R398). -/
def reportCrossing (s : State) (x : Nat × Nat × Nat) : State :=
  let s := (s.wr 1 Reg.F_FSUP_LAST_LO_US (x.2.2 % 2 ^ 32)).wr 1 Reg.F_FSUP_STAT_LEVEL x.2.1
  let s : State := { s with fld := { s.fld with last := (x.2.2 / 2 ^ 32, x.1, x.2.1) } }
  (((s.inc 1 Reg.F_FSUP_CROSSINGS_COUNT).irq 1 5 0).raiseCause 5).archive 5 0 (if 2 ≤ x.2.1 then .fault else .info) []

/-- A diagnostic of an output changes: source `n` of page `code`; a new fault is an error cause (R189). -/
def reportOutput (s : State) (code n : Nat) (f : FieldDef) (v : Nat) : State :=
  if s.rd 1 f = v then s
  else
    let sev : Severity := if minus 8 v (s.rd 1 f) = 0 then .info else .fault
    let s := (s.wr 1 f v).irq 1 code n
    (if sev = .fault then s.raiseCause 5 else s).archive code n sev []

/-- What the Field die does on a measurement of FV24: levels, crossings, and the entry to UVLO (R397, R398).  The stamp
lies within 30 us of the crossing (log entry 71). -/
def measureFv24 (s : State) (mv : Nat) : State :=
  let s : State := { s with fld := { s.fld with minMv := min s.fld.minMv mv } }
  let l := fv24Level s.fld.level mv
  if l = s.fld.level then s
  else
    let (n, s) := s.drawFree
    let stamp := s.time / 1000 + Config.freeValue n % 61 - 30
    let s : State := { s with fld := { s.fld with level := l, crossings := s.fld.crossings ++ [(s.fld.level, l, stamp)] } }
    if l = 3 then s.disarm else s.drive

/-- A status frame brings what the Field die holds into the proxy. -/
def report (s : State) (r : FieldReport) : State :=
  let f := s.fld
  let was := s.rd 1 Reg.F_FSUP_STAT_LEVEL
  let s := if f.crossings.isEmpty && was != f.level then s.reportCrossing (was, f.level, s.time / 1000) else s
  let s := f.crossings.foldl reportCrossing s
  let s := (s.wr 1 Reg.F_FSUP_STAT_MV r.mv).wrMin 1 Reg.F_FSUP_MIN_MV f.minMv
  let s := s.wr 1 Reg.F_SYS_TEMP_DEGC r.temp
  let s := (List.range 8).foldl (fun s k => s.wr 1 (Reg.F_FDO_CURk_MA.i k) ((r.currents[k]?).getD 0)) s
  let s := (s.wr 1 Reg.F_FDO_STAT_ON s.doOn).add 1 Reg.F_FDO_TRIPS_COUNT f.trips
  let s := s.reportOutput 2 0 Reg.F_FDO_STAT_SHORT f.shorts
  let s := s.reportOutput 2 1 Reg.F_FDO_STAT_OPEN f.opens
  let s := s.reportOutput 2 2 Reg.F_FDO_STAT_THERMAL f.thermals
  let s := (List.range 2).foldl (fun s k =>
    let s := s.wr 1 (Reg.F_FAO_READk_UNITS.i k) ((r.loops[k]?).getD 0)
    let d := SMap.get AoDrive.off f.ao k
    let s := s.wrB 1 (Reg.F_FAO_READk_FAULT_CURRENT.i k) (d.on && d.fault)
    s.reportOutput 3 0 (Reg.F_FAO_READk_LOOP_FAULT.i k) (field f.loopFaults k 1)) s
  let s := s.wr 1 Reg.F_FAO_TRIM_STAT_PIN_LEVELS r.pins
  let s := if s.on 1 Reg.F_FSAFE_STAT_ARMED && !f.armed then (s.irq 1 6 1).trimAbandon else s
  let s := if f.silent && !s.on 1 Reg.F_FSAFE_STAT_SILENT then s.irq 1 6 0 else s
  let s := (s.wrB 1 Reg.F_FSAFE_STAT_ARMED f.armed).wrB 1 Reg.F_FSAFE_STAT_SILENT f.silent
  let s := s.wrB 1 Reg.F_FSAFE_STAT_STANDBY (f.standby && f.armed && !f.silent && decide (f.level < 3))
  let s := (s.wrB 1 Reg.F_FSAFE_STAT_UVLO_OFF (decide (3 ≤ f.level))).wr 1 Reg.F_FSAFE_SILENCES_COUNT f.silences
  { s with
    silenceFault := f.safeExpired
    fld := { s.fld with trips := 0, crossings := [], minMv := 65535, couplersSeen := f.couplers } }

/-- The writes that the last control frames carried are confirmed (R379). -/
def confirm (s : State) : State :=
  let sent := s.fld.sent
  let s := sent.foldl (fun s w => s.wrMax 0 Reg.FPX_CONFIRM_MAX_US (min 255 ((s.time - w.at' + 999) / 1000))) s
  let arm := sent.any fun w => w.page == 6 && w.off == 0x100 && bit w.word 0
  let s : State := { s with fld := { s.fld with
    own := sent.foldl applyWrite s.fld.own, sent := [], armDue := s.fld.armDue || arm } }
  { s.drive with fieldStale := if s.on 0 Reg.FPX_STAT_PUSHING || s.on 0 Reg.FPX_STAT_PULLING then 0xFF else s.pendingPages }

/-- The Field die becomes present (R64, R380): after a reset of the Keeper alone the proxy is pulled, else pushed. -/
def fieldReturns (s : State) : State :=
  if s.fieldPresent then s
  else
    let s := ((s.wr 0 Reg.FPX_STAT_PRESENT 1).irq 0 0x25 0).wr 1 Reg.F_SYS_STAT_RUNNING 1
    let s := if s.fld.pullDue then s.wr 0 Reg.FPX_STAT_PULLING 1 else s.wr 0 Reg.FPX_STAT_PUSHING 1
    { s with fieldStale := 0xFF, fld := { s.fld with waiting := [], sent := [] } }

/-- The configuration fields of the Field pages that the proxy holds. -/
def proxyFields (s : State) : SMap Nat :=
  s.regs.filter fun e => e.1 / 2 ^ 23 % 8 == 1 && decide (0x100 ≤ e.1 / 32 % 4096) && e.1 / 2 ^ 17 % 64 != 7 &&
    ((regFields 1 (e.1 / 2 ^ 17 % 64) (e.1 / 32 % 4096)).any fun f => f.lsb == e.1 % 32 && f.acc == .rw)

/-! ### Releases and payloads (R381 to R383, R396) -/

/-- A release reaches the Field die: the values of the output payload, or the standby marker. -/
def fieldRelease (s : State) (payload : List Byte) (tablet : Bool) : State :=
  let f := s.fld
  let ao (s : State) (k : Nat) : State × AoDrive :=
    if tablet then
      if bit (byteAt payload 6) k then (s, s.aoFault k)
      else
        let c := ofBE (cut payload (2 + 2 * k) 2)
        let c' := max 7600 (min 41000 c)
        ((if c' = c then s else s.inc 1 (Reg.F_FAO_CLAMPSk_COUNT.i k)), s.aoAt k c' false)
    else (s, s.aoKind k (s.fd (Reg.F_FSAFE_STBY_AOk_KIND.i k)) (s.fd (Reg.F_FSAFE_STBY_AOk_CODE.i k)))
  let hold := s.fd Reg.F_FSAFE_STBY_DO_HOLD
  let relDo := if tablet then byteAt payload 0 else (f.doOut &&& hold) ||| minus 8 (s.fd Reg.F_FSAFE_STBY_DO_VAL) hold
  let (s, a0) := ao s 0
  let (s, a1) := ao s 1
  let armed := f.armed || f.armDue
  let safeHeld := f.safeHeld && !f.armDue
  ({ s with fld := { s.fld with
    relDo := relDo, relAo := SMap.put .off (SMap.put .off f.relAo 0 a0) 1 a1, standby := !tablet, armed := armed
    armDue := false, safeHeld := safeHeld, safeExpired := f.safeExpired && !f.armDue
    silent := f.silent && !(f.flow && (armed || !safeHeld))
    trim := f.trim.filter fun e => !bit f.trimEnds e.1, trimEnds := 0 } } : State).drive

/-- The input payload of station 1,023, formed from the Keeper's view (R381). -/
def fieldInput (s : State) : List Byte :=
  let ao (k : Nat) : List Byte := toBE 2 (s.rd 1 (Reg.F_FAO_READk_UNITS.i k))
  let b (f : FieldDef) : Nat := s.rd 1 f
  toLE 2 (b Reg.F_FDI_LEVELS_STABLE) ++ toLE 1 (b Reg.F_FDO_STAT_ON) ++
    toLE 1 ((b Reg.F_FDO_STAT_SHORT ||| b Reg.F_FDO_STAT_OPEN) ||| b Reg.F_FDO_STAT_THERMAL) ++ ao 0 ++ ao 1 ++
    toBE 2 (b Reg.F_FSUP_STAT_MV) ++
    toLE 1 (b (Reg.F_FAO_READk_LOOP_FAULT.i 0) + 2 * b (Reg.F_FAO_READk_LOOP_FAULT.i 1) +
      4 * b (Reg.F_FAO_READk_FAULT_CURRENT.i 0) + 8 * b (Reg.F_FAO_READk_FAULT_CURRENT.i 1) +
      16 * b (Reg.F_FSK_STATk_CARRIER.i 0) + 32 * b (Reg.F_FSK_STATk_CARRIER.i 1) + 64 * b Reg.F_FSAFE_STAT_ARMED +
      128 * b Reg.F_FSAFE_STAT_STANDBY) ++
    toLE 1 (b Reg.F_FSUP_STAT_LEVEL + 8 * b Reg.F_FSAFE_STAT_SILENT) ++ List.replicate 4 0

/-- Word 16 of space S at a Cut (R383). -/
def fieldWord16 (s : State) : Nat :=
  let b (f : FieldDef) : Nat := s.rd 1 f
  let stale := (List.range 8).any fun c => bit s.fieldStale c || !s.fieldPresent
  b Reg.F_FDO_STAT_SHORT + b Reg.F_FDO_STAT_OPEN * 2 ^ 8 + b Reg.F_FDO_STAT_THERMAL * 2 ^ 16 +
    b (Reg.F_FAO_READk_LOOP_FAULT.i 0) * 2 ^ 24 + b (Reg.F_FAO_READk_LOOP_FAULT.i 1) * 2 ^ 25 +
    b (Reg.F_FAO_READk_FAULT_CURRENT.i 0) * 2 ^ 26 + b (Reg.F_FAO_READk_FAULT_CURRENT.i 1) * 2 ^ 27 +
    b (Reg.F_FSK_STATk_CARRIER.i 0) * 2 ^ 28 + b (Reg.F_FSK_STATk_CARRIER.i 1) * 2 ^ 29 +
    b Reg.F_FSAFE_STAT_ARMED * 2 ^ 30 + b Reg.F_FSAFE_STAT_STANDBY * 2 ^ 31 + b Reg.F_FSAFE_STAT_SILENT * 2 ^ 32 +
    b Reg.F_FSUP_STAT_LEVEL * 2 ^ 33 + ofBool s.trimming * 2 ^ 36 + ofBool stale * 2 ^ 37 + s.fld.couplersSeen * 2 ^ 38

/-- Word 17 of space S at a Cut (R383). -/
def fieldWord17 (s : State) : Nat := s.rd 1 Reg.F_FDI_PENDING_CHANNELS + s.fld.lostCut * 2 ^ 16

end State

/-! ### Commands -/

/-- FIELD_PROXY_WRITE (R64): a write to a Field page. -/
def execFieldProxyWrite (w : Who) (code off word : Nat) (s : State) : Result :=
  .next (if (pageFields 1 code).isSome ∧ off < 4096 ∧ off % 4 = 0 then fieldWrite w code off word s else s)

/-- CONTROL_FRAME (R379, R395): the writes that wait are sent; the silence timer restarts. -/
def execControlFrame (s : State) : Result :=
  .next (if s.controlFlows then
    let f := s.fld
    let clr := f.waiting.foldl (fun m w => if w.page = 2 ∧ w.off = 0x104 then m ||| w.word % 256 else m) 0
    let off := f.waiting.any fun w => w.page == 6 && w.off == 0x100 && bit w.word 1
    let s : State := { s with fld := { f with
      sent := f.sent ++ f.waiting, waiting := [], flow := true, lastControl := s.time
      shorts := minus 8 f.shorts clr, thermals := minus 8 f.thermals clr } }
    releaseField (if off then s.disarm else s.drive)
  else if s.on 0 Reg.FPX_CTL_MUTE then s
  else { s with fld := { s.fld with flow := true, lastControl := s.time } })

/-- STATUS_FRAME (R379, R380): diagnostics and confirmations, or a frame with a bad check. -/
def execStatusFrame (good : Bool) (r : FieldReport) (s : State) : Result :=
  .next (if !good then (s.inc 0 Reg.FPX_LINKERR_COUNT).irq 0 0x25 1
  else
    let s := (s.fieldReturns.measureFv24 r.mv).confirm
    let s : State := { s with fld := { s.fld with goodAt := s.time } }
    releaseField (s.report r))

/-- FIELD_ABSENT (R380, R398): four consecutive status frames are missing. -/
def execFieldAbsent (s : State) : Result :=
  .next (if s.fieldPresent then
    let s := ((s.wr 0 Reg.FPX_STAT_PRESENT 0).irq 0 0x25 0).wr 1 Reg.F_SYS_STAT_RUNNING 0
    let s := (s.wr 0 Reg.FPX_STAT_PUSHING 0).wr 0 Reg.FPX_STAT_PULLING 0
    let s : State := { s with fieldStale := 0xFF, fld := { s.fld with waiting := [], sent := [], known := 0, runs := [] } }
    releaseField (s.reportCrossing (s.rd 1 Reg.F_FSUP_STAT_LEVEL, 4, s.fld.goodAt / 1000))
  else s)

/-- FIELD_POWERUP (R64, R380, R394): the Field die reports a power-up of its own, with its first measurement of FV24. -/
def execFieldPowerup (mv : Nat) (s : State) : Result :=
  .next (
    let s : State := { s with fld := { s.fld with
      pullDue := false, own := [], armed := false, armDue := false, safeHeld := false, safeExpired := false, silent := false
      flow := false, silences := 0, relDo := 0, relAo := [], standby := false, trim := [], trimEnds := 0, shorts := 0, opens := 0
      thermals := 0, loopFaults := 0, trips := 0, level := fv24Level 3 mv, minMv := mv, crossings := [], goodAt := s.time } }
    let s := s.fieldReturns
    let s := ((s.wr 0 Reg.FPX_STAT_PULLING 0).wr 0 Reg.FPX_STAT_PUSHING 1).inc 0 Reg.FPX_POWERUPS_COUNT
    let s := (s.wr2 1 Reg.F_SYS_POWERUP_LO_NS Reg.F_SYS_POWERUP_HI_NS s.time).wr 1 Reg.F_SYS_STAT_FRESH 1
    releaseField ({ s with fieldStale := 0xFF, fld := { s.fld with waiting := [], sent := [] } } : State).drive)

/-- PROXY_PUSH_END (R380): the Field die holds the whole proxy. -/
def execProxyPushEnd (s : State) : Result :=
  .next (if s.on 0 Reg.FPX_STAT_PUSHING then
    let s := (s.wr 0 Reg.FPX_STAT_PUSHING 0).wr 1 Reg.F_SYS_STAT_FRESH 0
    let s : State := { s with fieldStale := s.pendingPages, fld := { s.fld with own := s.proxyFields } }
    s.drive
  else s)

/-- PROXY_PULL_END (R380): the proxy holds the Field die's configuration, and the writes made since. -/
def execProxyPullEnd (s : State) : Result :=
  .next (if s.on 0 Reg.FPX_STAT_PULLING then
    let s := s.wr 0 Reg.FPX_STAT_PULLING 0
    let held := (s.fld.sent ++ s.fld.waiting).foldl State.applyWrite s.fld.own
    let mine := s.proxyFields
    let regs := (s.regs.filter fun e => !mine.contains e)
    { s with
      regs := held.foldl (fun m e => SMap.insert m e.1 e.2) regs
      fieldStale := s.pendingPages, fld := { s.fld with pullDue := false } }
  else s)

/-- DI_SAMPLE (R384, R385): the 16 raw levels at the next whole microsecond of global time. -/
def execDiSample (levels : Nat) (s : State) : Result :=
  let n := max ((s.time + 999) / 1000) (s.fld.sampleNo + 1)
  let s := s.advanceTime (1000 * n)
  let s : State := { s with fld := { s.fld with sampleNo := n } }
  .next (if s.fieldPresent then
    (List.range 16).foldl (fun s c => s.sampleChannel c (bit levels c)) (s.wr 1 Reg.F_FDI_LEVELS_RAW levels)
  else s)

/-- EDGE_POP (R386): a master reads `F/FDI.EDGE_HI`. -/
def execEdgePop (w : Who) (s : State) : Result :=
  .next (s.reading w (regAddr 1 1 0x148) 0 fun s => s.edgePop.reply w.code (s.readWord w.code 1 1 0x148) false)

/-- DO_TRIP (R387): a current above the limit for 100 us, or an overheated switch, turns DO `k` off. -/
def execDoTrip (k : Nat) (thermal : Bool) (s : State) : Result :=
  .next (if k < 8 ∧ bit s.doOn k then
    let f := s.fld
    ({ s with fld := { f with
      trips := f.trips + 1, shorts := if thermal then f.shorts else f.shorts ||| (1 <<< k)
      thermals := if thermal then f.thermals ||| (1 <<< k) else f.thermals } } : State).drive
  else s)

/-- DO_RETRY (R387): a tripped output with RETRY set that is commanded on tries again. -/
def execDoRetry (k : Nat) (s : State) : Result :=
  .next (if k < 8 ∧ bit s.fld.doOut k ∧ bit (s.fd Reg.F_FDO_CFG_RETRY) k then
    ({ s with fld := { s.fld with shorts := minus 8 s.fld.shorts (1 <<< k), thermals := minus 8 s.fld.thermals (1 <<< k) } } : State).drive
  else s)

/-- DO_CLEAR_SHORT (R387, R405): a write to `F/FDO.CLR`; the next control frame carries it. -/
def execDoClearShort (w : Who) (word : Nat) (s : State) : Result := .next (fieldWrite w 2 0x104 word s)

/-- OPEN_LOAD (R388, R397): an output on with less than 5 mA for 100 ms, or with 5 mA or more for 100 ms. -/
def execOpenLoad (k : Nat) (open' : Bool) (s : State) : Result :=
  .next (if k < 8 ∧ s.fld.level < 2 ∧ bit s.doOn k ∧ (open' = false ∨ bit (s.fd Reg.F_FDO_CFG_OPEN_DET) k) then
    { s with fld := { s.fld with opens := setBit s.fld.opens k open' } }
  else s)

/-- LOOP_FAULT (R390, R397): a reading off by more than 400 units for 50 ms, or its end. -/
def execLoopFault (k : Nat) (fault : Bool) (s : State) : Result :=
  .next (if k < 2 ∧ s.fld.level < 2 then { s with fld := { s.fld with loopFaults := setBit s.fld.loopFaults k fault } } else s)

/-- COUPLER_FAULT (R378, R393): the carrier of a DO (0 to 7) or AO (8, 9) coupler is missing for 100 us, or returns. -/
def execCouplerFault (ch : Nat) (fault : Bool) (s : State) : Result :=
  .next (if ch < 10 then
    ({ s with fld := { s.fld with couplers := setBit s.fld.couplers ch fault } } : State).drive
  else s)

/-- FSK_TX_WRITE (R392, R407). -/
def execFskTxWrite (w : Who) (k word : Nat) (s : State) : Result :=
  .next (if k < 2 then fieldWrite w 4 (0x104 + 0x20 * k) word s else s)

/-- FSK_CHARACTER_SENT (R392): the character at the head has been sent; after the last the carrier goes off. -/
def execFskCharacterSent (k : Nat) (s : State) : Result :=
  .next (if k < 2 ∧ s.on 1 (Reg.F_FSK_STATk_SENDING.i k) then
    let tx := (SMap.get [] s.fld.fskTx k).tail
    let s := ({ s with fld := { s.fld with fskTx := SMap.put [] s.fld.fskTx k tx } } : State).fskShow k
    if tx.isEmpty then s.irq 1 4 (2 + k) else s
  else s)

/-- FSK_CHARACTER_RECEIVE (R391, R407): a character with its parity and framing errors. -/
def execFskCharacterReceive (k char : Nat) (parityErr framingErr : Bool) (s : State) : Result :=
  .next (if k < 2 ∧ s.on 1 (Reg.F_FSK_CTLk_EN.i k) ∧ !s.on 1 (Reg.F_FSK_STATk_SENDING.i k) then
    let rx := SMap.get [] s.fld.fskRx k
    if 64 ≤ rx.length then s.inc 1 (Reg.F_FSK_ERRSk_RX_OVF.i k)
    else
      let c := char % 256 + 256 * ofBool parityErr + 512 * ofBool framingErr
      ({ s with fld := { s.fld with fskRx := SMap.insert s.fld.fskRx k (rx ++ [c]) } } : State).fskShow k
  else s)

/-- FSK_RX_POP (R407): a master reads `F/FSK.RXk`. -/
def execFskRxPop (w : Who) (k : Nat) (s : State) : Result :=
  .next (if k < 2 then
    s.reading w (regAddr 1 4 (0x108 + 0x20 * k)) 0 fun s =>
      (s.fskPop k).reply w.code (s.readWord w.code 1 4 (0x108 + 0x20 * k)) false
  else s)

/-- FSK_CARRIER_CHANGE (R407). -/
def execFskCarrierChange (k : Nat) (on : Bool) (s : State) : Result :=
  .next (if k < 2 ∧ s.on 1 (Reg.F_FSK_CTLk_EN.i k) ∧ s.on 1 (Reg.F_FSK_STATk_CARRIER.i k) ≠ on then
    (s.wrB 1 (Reg.F_FSK_STATk_CARRIER.i k) on).irq 1 4 4
  else s)

/-- SILENCE_EXPIRY (R395): `TIMEOUT` without a valid control frame, by the Field die's own oscillator: at the earliest
0.5 % before. -/
def execSilenceExpiry (s : State) : Result :=
  .next (if s.fld.flow then
    let s := s.advanceTime (s.fld.lastControl + s.fd Reg.F_FSAFE_TIMEOUT_MS * 995000)
    let f := s.fld
    let safe := s.fd Reg.F_FSAFE_MODE_SAFE = 1
    let s : State := { s with fld := { f with
      silent := true, flow := false, silences := satAdd 32 f.silences 1
      armed := if safe then false else f.armed, armDue := if safe then false else f.armDue
      safeHeld := f.safeHeld || (decide safe && f.armed), safeExpired := f.safeExpired || decide safe
      trim := if safe then [] else f.trim } }
    s.drive
  else s)

/-- FPX_MUTE (R395, R402): a write to `FPX.CTL`. -/
def fpxCtl (s : State) (v : Nat) : State := if bit v 0 then { s with fld := { s.fld with muteAt := s.time } } else s

/-- FPX_MUTE (R395, R402): a write to `FPX.CTL`. -/
def execFpxMute (w : Who) (word : Nat) (s : State) : Result := .next (writeThen w 0 0x25 0x100 word s fpxCtl)

/-- MUTE_END (R402): 300 ms after the write hardware writes the bit back to 0. -/
def execMuteEnd (s : State) : Result :=
  .next (if s.on 0 Reg.FPX_CTL_MUTE then (s.advanceTime (s.fld.muteAt + 300000000)).wr 0 Reg.FPX_CTL_MUTE 0 else s)

/-- FIELD_ARM (R394, R409): a write to `F/FSAFE.CTL` with ARM set. -/
def execFieldArm (w : Who) (s : State) : Result := .next (fieldWrite w 6 0x100 1 s)

/-- FIELD_DISARM (R394, R409): a write to `F/FSAFE.CTL` with DISARM set. -/
def execFieldDisarm (w : Who) (s : State) : Result := .next (fieldWrite w 6 0x100 2 s)

/-- FV24_CROSSING (R397, R398): a measurement of FV24 that may change the level. -/
def execFv24Crossing (mv : Nat) (s : State) : Result := .next (s.measureFv24 mv)

/-- TRIM_STEP (R399): a write to `F/FAO.TRIM`. -/
def execTrimStep (w : Who) (word : Nat) (s : State) : Result := .next (fieldWrite w 3 0x140 word s)

/-- TRIM_PIN_PRESS (R400): a press of `TRIM_ZERO_N` (`up`) or `TRIM_SPAN_N`, or a repeat of a pin held low: Z, or S, moves
by 2 units. -/
def execTrimPinPress (up : Bool) (s : State) : Result :=
  .next (if s.trimming ∧ s.on 1 Reg.F_FAO_TRIM_STAT_PINS ∧ s.on 1 Reg.F_FAO_TRIM_PIN_EN then
    let k := s.rd 1 Reg.F_FAO_TRIM_STAT_CHANNEL
    let f := if s.rd 1 Reg.F_FAO_TRIM_STAT_STATE = 1 then Reg.F_FAO_ZEROk_UNITS.i k else Reg.F_FAO_SPANk_UNITS.i k
    let v := clampInt (-1000) 1000 (toInt 12 (s.rd 1 f) + if up then 2 else -2)
    let s := s.proxySet f (ofInt 12 v)
    { s with fld := { s.fld with pressAt := s.time } }
  else s)

/-- TRIM_PIN_HOLD (R400): both pins have been low for 3 s; `sel` is `TRIM_SEL` as they went low. -/
def execTrimPinHold (sel : Bool) (s : State) : Result :=
  .next (if s.fieldPresent ∧ s.on 1 Reg.F_FAO_TRIM_PIN_EN then
    let k := s.rd 1 Reg.F_FAO_TRIM_STAT_CHANNEL
    let stamp (s : State) : State := { s with fld := { s.fld with pressAt := s.time } }
    if !s.trimming then
      if s.on 1 Reg.F_FSAFE_STAT_ARMED && s.tabletHeld then ((s.trimStart (ofBool sel) 1).setTrim 1).trimDrive (ofBool sel) 1 else s
    else if !s.on 1 Reg.F_FAO_TRIM_STAT_PINS then s
    else if s.rd 1 Reg.F_FAO_TRIM_STAT_STATE = 1 then stamp ((s.setTrim 2).trimDrive k 2)
    else ({ s with fld := { s.fld with trimEnds := s.fld.trimEnds ||| (1 <<< k) } } : State).setTrim 3
  else s)

/-- TRIM_TIMEOUT (R400): 60 s without a press abandon a pin trim. -/
def execTrimTimeout (s : State) : Result :=
  .next (if s.trimming ∧ s.on 1 Reg.F_FAO_TRIM_STAT_PINS then (s.advanceTime (s.fld.pressAt + 60000000000)).trimAbandon else s)

/-- TRIM_COMMIT (R401, R485): ZERO and SPAN of both channels go to twin 1. -/
def execTrimCommit (s : State) : Result :=
  .next (s.authCommand 0x0F rolesOEW List.isEmpty fun s _ _ =>
    if s.trimming then ⟨s, .refused, 0⟩
    else
      let v (f : FieldDef) : List Byte := toLE 4 (ofInt 32 (toInt 12 (s.rd 1 f)))
      let s := s.twinWrite 1 (v (Reg.F_FAO_ZEROk_UNITS.i 0) ++ v (Reg.F_FAO_SPANk_UNITS.i 0) ++
        v (Reg.F_FAO_ZEROk_UNITS.i 1) ++ v (Reg.F_FAO_SPANk_UNITS.i 1))
      ⟨s.setTrim 0, .done, 0⟩)

/-- A read of `F/FSUP.LAST_LO` latches `LAST_HI` (R408). -/
def fsupLatch (s : State) : State :=
  let x := s.fld.last
  ((s.wr 1 Reg.F_FSUP_LAST_HI_TIME x.1).wr 1 Reg.F_FSUP_LAST_HI_FROM x.2.1).wr 1 Reg.F_FSUP_LAST_HI_TO x.2.2

/-- FSUP_LAST_READ (R408): a master reads `F/FSUP.LAST_LO`. -/
def execFsupLastRead (w : Who) (s : State) : Result :=
  .next (s.reading w (regAddr 1 5 0x104) 0 fun s => (fsupLatch s).reply w.code (s.readWord w.code 1 5 0x104) false)

end Sys2Proof.Machine
end

