-- ==== Sys2Proof/Machine/Lines.lean ====
section
/-! DEFINITION.  The Line ports and the Exchange engine's traffic with stations (spec/08 R239 to R242, R249 to R263,
R269 to R273, R280). -/

namespace Sys2Proof.Machine

open Sys2Proof.Bits

/-! ### Frames and instants -/

/-- Global time of tick `n` (R66). -/
def tickAt (s : State) (n : Nat) : Nat :=
  s.rd2 0 Reg.TICK_EPOCH_LO_NS Reg.TICK_EPOCH_HI_NS + n * (1000 * s.rd 0 Reg.TICK_PERIOD_US)

/-- The frame whose Cut takes a copy stamped `t` (R71): the first tick after `t`. -/
def frameOfStamp (s : State) (t : Nat) : Nat :=
  let e := s.rd2 0 Reg.TICK_EPOCH_LO_NS Reg.TICK_EPOCH_HI_NS
  if t < e then 0 else (t - e) / (1000 * s.rd 0 Reg.TICK_PERIOD_US) + 1

/-- Whether `q` is newer than `r` (R252): 0 duplicate, 1 newer, 2 stale. -/
def seqOrder (q r : Nat) : Nat :=
  let d := (q + 65536 - r) % 65536
  if d = 0 then 0 else if d < 32768 then 1 else 2

namespace State

/-- A count of a LINE page (R280): FCS and format errors raise RX_ERROR. -/
def lineCount (s : State) (p : Nat) (f : FieldDef) : State := s.inc 0 (f.p p)

/-- Counts a frame in `RX_FORMAT` (R242, R253). -/
def rxFormat (s : State) (p : Nat) : State := (s.lineCount p Reg.LINEn_RX_FORMAT_COUNT).irq 0 (0x1D + p) 3

/-! ### Frames for Keeper firmware -/

/-- A slot of the receive holding area that no entry of Q8 to Q11 names (R254, R273): 128 slots of 2,048 bytes. -/
def freeHolding (s : State) : Option Nat :=
  let used := ([8, 9, 10, 11].flatMap fun q => (s.ring 0 q).map QEntry.lo) ++ s.exch.copies.map Copy.slot
  (List.range 128).find? fun k => !used.contains (0x280000 + 2048 * k)

/-- Places a frame in K-LINE and posts it to Q8 + n; the result says whether it was posted (R242, R254). -/
def toFirmware (s : State) (f : WireFrame) : State × Bool :=
  match s.freeHolding with
  | none => (s, false)
  | some k =>
    let a := 0x280000 + 2048 * k
    let r := s.hwPost 0 (8 + f.port) a f.bytes.length
    if r.2 then (r.1.storeBytes (phys 0 a) f.bytes, true) else r

/-! ### Acceptance of an input copy -/

/-- A path of a station returns (R261). -/
def pathSeen (s : State) (n ring : Nat) : State :=
  let x := s.stn n
  let s := s.wr 0 ((if ring = 0 then Reg.STN_SSTAT_PATH_A else Reg.STN_SSTAT_PATH_B).w n) 1
  let s := s.setStn n { x with seen := setBit x.seen ring true, lost := setBit x.lost ring false }
  if bit x.lost ring then (s.irq 0 0x18 3).archive 0x18 3 .info [n, ring, s.frameNo % 2 ^ 32] else s

/-- Writes an alarm record into the alarm ring (R263). -/
def alarmRecord (s : State) (n seq code frame : Nat) : State :=
  let h := s.rd 0 Reg.XCHG_ALARM_HEAD
  let a := K_LINE + 0xFC000 + 16 * h
  let s := s.storeBytes a (toLE 4 (n + seq * 65536) ++ toLE 4 code ++ toLE 4 frame ++ toLE 4 (s.rd 0 Reg.XCHG_ALARM_SEQ_N))
  (((s.wr 0 Reg.XCHG_ALARM_HEAD (h + 1)).incWrap 0 Reg.XCHG_ALARM_SEQ_N).irq 0 0x18 0).sourceOccurs 2 n (fun _ => true)

/-- The alarm of an accepted copy (R263). -/
def noteAlarm (s : State) (n seq code frame : Nat) : State :=
  let x := s.stn n
  let old := s.rd 0 (Reg.STN_LAST_ALARM_SEQ.w n)
  let s := (s.wr 0 (Reg.STN_LAST_ALARM_SEQ.w n) seq).setStn n { x with alarmRef := true }
  if x.alarmRef && old != seq then s.alarmRecord n seq code frame else s

/-- Takes a copy that has passed every check (R253, R262, R263); one that completes during the Cut copy is held in K-LINE (R71,
R273; in which of the free places is open: DESIGN CHOICE, log entry 35). -/
def acceptCopy (s : State) (f : WireFrame) (n : Nat) (hdr pay : List Byte) : State :=
  let q := ofBE (cut hdr 4 2)
  let k := frameOfStamp s f.stamp
  let s := (s.lineCount f.port Reg.LINEn_RX_OK_COUNT).wr 0 (Reg.STN_LAST_SEQ.w n) q
  let s := s.setStn n { s.stn n with ref := true, known := true, got := true }
  let s := s.wr 0 (Reg.STN_SAMPLE_NS.w n) (ofBE (cut hdr 8 4))
  let s := if q = k % 65536 then s else (s.inc 0 (Reg.STN_ERRS_LATE.w n)).irq 0 0x1A 0
  let s := s.noteAlarm n (ofBE (cut hdr 12 2)) (ofBE (cut hdr 14 2)) k
  let held := s.on 0 Reg.XCHG_STAT_CUT && decide (s.frame.tickTime ≤ f.stamp)
  let slot := if held then (s.freeHolding.map fun k => 0x280000 + 2048 * k).getD 0 else 0
  let s := if held then s.inc 0 Reg.XCHG_HELD_COUNT else s
  let s := if slot = 0 then s else s.storeBytes (phys 0 slot) f.bytes
  { s with exch := { s.exch with copies := s.exch.copies ++ [⟨f.port, n, f.stamp, pay, slot⟩] } }

/-- Whether a frame is addressed to the stations' group or to the port (R253, R254). -/
def addressed (s : State) (f : WireFrame) : Bool :=
  let d := ofBE (cut f.bytes 0 6)
  d == s.rd 0 Reg.STN_GROUP_HI_ADDR * 2 ^ 32 + s.rd 0 Reg.STN_GROUP_LO_ADDR || d == s.lineMac f.port

/-- Whether a Slasel frame goes to the service path (R253, R254): addressed, VERSION 1, TYPE 3. -/
def serviceUp (s : State) (f : WireFrame) : Bool := s.addressed f && byteAt f.bytes 14 == 0x13

/-- The checks of R253 in order.  An OUTPUT frame (TYPE 1) that returns bears its station's address, and counts in RX_RETURN
all the same (R241). -/
def checkCopy (s : State) (f : WireFrame) : State :=
  let p := f.port
  let ring := p / 2
  let hdr := cut f.bytes 14 16
  let n := ofBE (cut hdr 2 2)
  let e := s.station (n % 1024)
  let len := ofBE (cut hdr 6 2)
  if byteAt hdr 0 = 0x11 then s.lineCount p Reg.LINEn_RX_RETURN_COUNT
  else if !s.addressed f || byteAt hdr 0 / 16 != 1 then s.rxFormat p
  else if byteAt hdr 0 % 16 ≠ 2 then s.rxFormat p
  else if 1024 ≤ n ∨ e.valid = false ∨ e.kind ≠ 0 ∨ e.onPort p = false then s.rxFormat p
  else if ofBE (cut f.bytes 6 6) ≠ e.mac then s.rxFormat p
  else if len ≠ e.inLen ∨ f.bytes.length < 30 + len ∨ byteAt hdr 1 / 128 = 0 then s.rxFormat p
  else
    let s := s.pathSeen n ring
    let order := if (s.stn n).ref then seqOrder (ofBE (cut hdr 4 2)) (s.rd 0 (Reg.STN_LAST_SEQ.w n)) else 1
    if order = 0 then s.lineCount p Reg.LINEn_RX_DUP_COUNT
    else if order = 2 then
      ((s.lineCount p Reg.LINEn_RX_STALE_COUNT).inc 0 (Reg.STN_ERRS_STALE.w n)).irq 0 0x1A 1
    else s.acceptCopy f n hdr (cut f.bytes 30 len)

/-- The service path (R254): a frame without a valid station is counted as a format error. -/
def takeService (s : State) (f : WireFrame) : State :=
  let n := ofBE (cut f.bytes 16 2)
  if 1024 ≤ n ∨ (s.station (n % 1024)).valid = false then s.rxFormat f.port
  else
    let r := s.toFirmware f
    if r.2 then r.1 else r.1.lineCount f.port Reg.LINEn_RX_SVC_DROP_COUNT

/-- Writes the bindings of a copy (R269): into the snapshot as well when the copy belongs to it. -/
def writeCopy (s : State) (c : Copy) : State :=
  let s' := s.bindInputs recvImage c.station c.payload
  if s.frame.ticked && decide (c.stamp < s.frame.tickTime) then s'.bindInputs snapImage c.station c.payload else s'

/-- Slasel frames stamped before `t` are checked (R71, R253). -/
def drainSlasel (s : State) (t : Nat) : State :=
  let due := s.exch.slasel.filter fun f => decide (f.stamp < t)
  due.foldl (fun s f => if s.serviceUp f then s.takeService f else s.checkCopy f)
    { s with exch := { s.exch with slasel := s.exch.slasel.filter fun f => !decide (f.stamp < t) } }

/-- Bindings of the copies stamped before `t` are written into the receive image. -/
def drainCopies (s : State) (t : Nat) : State :=
  let due := s.exch.copies.filter fun c => decide (c.stamp < t)
  due.foldl (fun s c => s.bindInputs recvImage c.station c.payload)
    { s with exch := { s.exch with copies := s.exch.copies.filter fun c => !decide (c.stamp < t) } }

/-! ### Stations at the Cut -/

/-- A station is declared dropped (R180, R181, R259, R260). -/
def declareDropped (s : State) (n : Nat) (e : StnEntry) : State :=
  let x := s.stn n
  let s := if x.known then s.substitute n else s
  let s := (s.wr 0 (Reg.STN_SSTAT_DROPPED.w n) 1).wr 0 (Reg.STN_SSTAT_QUALITY.w n) 0
  let s := ((s.inc 0 (Reg.STN_DROPS_DROPOUTS.w n)).irq 0 0x18 1).setStn n { x with since := s.frameNo }
  let s := s.archive 0x18 1 .fault [n, s.frameNo % 2 ^ 32]
  if e.errEn && s.taskType e.errTask == 3 && bit (s.rd 0 (Reg.TASK_ERR_CAUSES.w e.errTask)) 0 then
    s.occurCause e.errTask 0 n else s

/-- Updates the path count of one ring (R261). -/
def countPath (s : State) (n : Nat) (e : StnEntry) (ring : Nat) : State :=
  let x := s.stn n
  let c := if ring = 0 then x.countA else x.countB
  let c' := if bit x.seen ring then 0 else if x.seen = 0 then c else c + 1
  let x := if ring = 0 then { x with countA := c' } else { x with countB := c' }
  if c' = e.drop ∧ c' ≠ c ∧ bit x.lost ring = false then
    let s := s.setStn n { x with lost := setBit x.lost ring true }
    let s := s.wr 0 ((if ring = 0 then Reg.STN_SSTAT_PATH_A else Reg.STN_SSTAT_PATH_B).w n) 0
    ((s.inc 0 (Reg.STN_DROPS_PATHLOSS.w n)).irq 0 0x18 3).archive 0x18 3 .info [n, ring, s.frameNo % 2 ^ 32]
  else s.setStn n x

/-- The Cut of one station (R180 to R182, R258, R260). -/
def cutStation (s : State) (n : Nat) : State :=
  let e := s.station n
  if e.kind = 2 then s.wr 0 (Reg.STN_SSTAT_QUALITY.w n) 1
  else
    let s := if e.kind = 0 && e.ringA then s.countPath n e 0 else s
    let s := if e.kind = 0 && e.ringB then s.countPath n e 1 else s
    let x := s.stn n
    let dropped := s.on 0 (Reg.STN_SSTAT_DROPPED.w n)
    let s := s.setStn n { x with got := false, seen := 0 }
    if x.got then
      let s := (s.wr 0 (Reg.STN_SSTAT_MISS.w n) 0).wr 0 (Reg.STN_SSTAT_QUALITY.w n) 1
      if dropped then
        ((s.wr 0 (Reg.STN_SSTAT_DROPPED.w n) 0).irq 0 0x18 2).archive 0x18 2 .info [n, (s.frameNo - x.since) % 2 ^ 32]
      else s
    else if dropped then s
    else
      let m := min 15 (s.rd 0 (Reg.STN_SSTAT_MISS.w n) + 1)
      let s := s.wr 0 (Reg.STN_SSTAT_MISS.w n) m
      if (if e.kind = 1 then 1 else e.drop) ≤ m then s.declareDropped n e else s

/-- The Cut of every valid station (R260). -/
def cutStations (s : State) : State := (s.activeStations.foldl cutStation s).showDropped

/-! ### The release -/

/-- The OUTPUT frame of a station for frame `n`, with its port bits and source address still zero (R249 to R251). -/
def outputFrame (s : State) (n flag : Nat) (k : Nat) (pay : List Byte) : List Byte :=
  let e := s.station k
  slaselFrame e.mac 0 (s.rd 0 Reg.STN_CFG_ETYPE) 1 flag k (n % 65536) (toBE 4 (tickAt s (n + 2) % 2 ^ 32))
    (toBE 3 (s.rd 0 Reg.TICK_PERIOD_US) ++ toBE 1 e.lead) pay

/-- Builds the OUTPUT frames of frame `n` into transmit set n mod 2 (R78, R271, R273). -/
def buildOutputs (s : State) (n flag : Nat) : State :=
  let base := n % 2 * 0x40000
  let nets := s.activeStations.filter fun k => (s.station k).kind == 0
  let r := nets.foldl (fun (a : State × List TxFrame × Nat) k =>
    let e := s.station k
    let p := a.1.outPayload s.outBuffer k
    let f := s.outputFrame n flag k p.1
    let t := a.1.add 0 Reg.XCHG_SAT_COUNT p.2
    let t := (t.storeBytes (K_LINE + a.2.2) (f.take 30)).storeBytes (K_LINE + a.2.2 + 32) (f.drop 30)
    (t, a.2.1 ++ [⟨k, a.2.2, f.length, ofBool e.ringA + 2 * ofBool e.ringB, e.outLen, 0⟩], a.2.2 + slotBytes e.outLen))
    (s, [], base)
  { r.1 with exch := { r.1.exch with txBuilt := r.2.1 } }

/-- The frames of one port, each with its start (R271). -/
def schedulePort (t : Nat) : List TxFrame → Nat → List TxFrame
  | [], _ => []
  | f :: fs, at' => { f with start := at' } :: schedulePort t fs (at' + t * wireBytes f.len)

/-- The release starts (R78, R271): every port takes its frames in ascending station number. -/
def startOutputs (s : State) : State :=
  let ports := (List.range 4).map fun p =>
    (p, schedulePort (byteTime s p) (s.exch.txBuilt.filter fun f => bit f.rings (p / 2)) 0)
  let s := { s with exch := { s.exch with
    txPorts := ports.foldl (fun m (q : Nat × List TxFrame) => SMap.put [] m q.1 q.2) [], releaseAt := s.time
    releaseEnd := s.time + 1000 * (s.rd 0 Reg.TICK_PERIOD_US - 20) } }
  (List.range 4).foldl (fun s p => s.wr 0 (Reg.LINEn_SENT_LAST_COUNT.p p) 0) s

/-- An OUTPUT frame as a port sends it (R250, R251): ring and port bits, the port's address. -/
def wireFrame (s : State) (p : Nat) (f : TxFrame) : List Byte :=
  let a := K_LINE + f.slot
  let head := s.loadBytes a 30
  let flags := byteAt head 15 + 16 * (p / 2) + 8 * (p % 2)
  cut head 0 6 ++ macBytes (s.lineMac p) ++ cut head 12 3 ++ toBE 1 flags ++ head.drop 16 ++ s.loadBytes (a + 32) (f.size - 30)

/-- One OUTPUT frame at its start (R78, R271, R272). -/
def sendOutput (s : State) (p : Nat) (f : TxFrame) : State :=
  let ends := s.exch.releaseAt * 10 + f.start + byteTime s p * (wireBytes f.len - 12)
  if !s.lineUp p then s
  else if s.exch.releaseEnd * 10 < ends ∨ (s.on 0 (Reg.LINEn_CFG_MODE.p p) = true ∧ 583 < f.len) then
    let s := (s.lineCount p Reg.LINEn_TX_OVERSPAN_COUNT).wr 0 (Reg.LINEn_STAT_OVERSPAN.p p) 1
    let s := s.irq 0 (0x1D + p) 1
    if bit s.exch.overspanNoted p then s
    else { s.archive (0x1D + p) 1 .fault [p, f.station, s.frameNo % 2 ^ 32] with
      exch := { s.exch with overspanNoted := setBit s.exch.overspanNoted p true } }
  else if !s.tabletHeld then (s.lineCount p Reg.LINEn_TX_TABLET_COUNT).irq 0 (0x1D + p) 2
  else
    let s := ((s.lineCount p Reg.LINEn_TX_OUT_COUNT).inc 0 (Reg.LINEn_SENT_LAST_COUNT.p p)).onWire p (s.wireFrame p f)
    { s with exch := { s.exch with outUntil := max s.exch.outUntil ((ends + 9) / 10) } }

/-- A port's link changes (R280), and its PTP port decides (R243). -/
def setLink (s : State) (p : Nat) (up : Bool) : State :=
  if s.lineUp p = up then s else ptpDecide ((s.wrB 0 (Reg.LINEn_STAT_LINK.p p) up).irq 0 (0x1D + p) 0)

/-- The link of a port follows the board and `PCTL.EN` (R272, R280); a port comes up only once Keeper firmware runs, which loads
its MAC address before it enables the port (R280). -/
def showLink (s : State) (p : Nat) : State :=
  let up := bit s.exch.phy p && s.enabled 0 (0x1D + p) && (s.lineUp p || s.firmware)
  let lost := s.lineUp p && !up
  let s := s.setLink p up
  if lost then s.archive (0x1D + p) 0 .fault [p] else s

end State

/-- What a write to `TICK.PERIOD` does (R272): after a change the next overspan is archived again. -/
def periodSet (pre s : State) : State :=
  if pre.rd 0 Reg.TICK_PERIOD_US = s.rd 0 Reg.TICK_PERIOD_US then s else { s with exch := { s.exch with overspanNoted := 0 } }

/-- What a write to `LINEn.CFG` does (R272, R280): the span is that of the present mode; a change clears OVERSPAN. -/
def lineCfg (p : Nat) (pre s : State) : State :=
  if pre.on 0 (Reg.LINEn_CFG_MODE.p p) = s.on 0 (Reg.LINEn_CFG_MODE.p p) then s
  else
    let s := (s.wr 0 (Reg.LINEn_STAT_OVERSPAN.p p) 0).showTables
    { s with exch := { s.exch with overspanNoted := setBit s.exch.overspanNoted p false } }

/-! ### Commands -/

/-- Inserts a frame behind those with the same or an earlier stamp; of one stamp the lower port comes first (R253). -/
def insertFrame (f : WireFrame) : List WireFrame → List WireFrame
  | [] => [f]
  | g :: gs =>
    if f.stamp < g.stamp ∨ (f.stamp = g.stamp ∧ f.port < g.port) then f :: g :: gs else g :: insertFrame f gs

/-- The end of the SFD of a frame of `n` bytes without its check sequence whose last bit came at `stamp` (R243). -/
def sfdReceived (s : State) (p stamp n : Nat) : Nat := stamp - (byteTime s p * (n + 4) + 5) / 10

/-- LINE_FRAME_RECEIVE (R239, R242, R243, R480): a frame whose last bit is stamped at global time `stamp`; `frame` is
without its check sequence, which is good when `fcs`. -/
def execLineFrameReceive (port stamp : Nat) (frame : List Byte) (fcs : Bool) (s : State) : Result :=
  .next (
    let s := s.advanceTime stamp
    let etype := ofBE (cut frame 12 2)
    let f : WireFrame := ⟨port, stamp, frame⟩
    if 4 ≤ port ∨ s.lineUp port = false then s
    else if frame.length < 60 ∨ 1518 < frame.length ∨ fcs = false then
      (s.lineCount port Reg.LINEn_RX_FCS_COUNT).irq 0 (0x1D + port) 3
    else if etype = 0x8100 then s.rxFormat port
    else if etype = 0x8808 then s
    else if etype = s.rd 0 Reg.STN_CFG_ETYPE then
      { s with exch := { s.exch with slasel := insertFrame f s.exch.slasel } }
    else if etype = 0x88F7 then
      { s with exch := { s.exch with ptpIn := s.exch.ptpIn ++ [{ f with stamp := sfdReceived s port stamp frame.length }] } }
    else if etype = s.rd 0 Reg.AUTH_CFG_ETYPE then
      let d := ofBE (cut frame 0 6)
      if s.on 0 Reg.AUTH_CFG_LINE_EN && (d == s.lineMac port || d == 2 ^ 48 - 1) then
        s.deliver ⟨3 + port, ofBE (cut frame 6 6), frame.drop 14⟩
      else s
    else (s.toFirmware f).1)

/-- INPUT_FRAME (R253): the oldest Slasel frame, unless it goes to the service path, is checked. -/
def execInputFrame (s : State) : Result :=
  .next (match s.exch.slasel with
    | [] => s
    | f :: rest =>
      if s.serviceUp f then s else { s with exch := { s.exch with slasel := rest } }.checkCopy f)

/-- SERVICE_UP_FRAME (R254): the oldest Slasel frame, when it is a SERVICE_UP frame. -/
def execServiceUpFrame (s : State) : Result :=
  .next (match s.exch.slasel with
    | [] => s
    | f :: rest =>
      if s.serviceUp f then { s with exch := { s.exch with slasel := rest } }.takeService f else s)

/-- BINDING_WRITE (R269, R71): the bindings of the oldest accepted copy are written; a copy that completed during the
Cut copy waits for its end. -/
def execBindingWrite (s : State) : Result :=
  .next (match s.exch.copies with
    | [] => s
    | c :: rest =>
      if s.on 0 Reg.XCHG_STAT_CUT && decide (s.frame.tickTime ≤ c.stamp) then s
      else { s with exch := { s.exch with copies := rest } }.writeCopy c)

/-- LINE_LINK_CHANGE (R280): the PHY of a port comes up or goes down on the board. -/
def execLineLinkChange (port : Nat) (up : Bool) (s : State) : Result :=
  .next (if port < 4 then
    { s with exch := { s.exch with phy := setBit s.exch.phy port up } }.showLink port else s)

end Sys2Proof.Machine
end

