-- ==== Sys2Proof/Machine/Ptp.lean ====
section
/-! DEFINITION.  The PTP instance on the Porter core (spec/08 R243, R278; spec/03 R67): messages of IEEE 1588-2019,
best master selection, the offset from the master and the link delays. -/

namespace Sys2Proof.Machine

open Sys2Proof.Bits

/-- Sends a PTP message in class 6 (R245). -/
def ptpSend (s : State) (p : Nat) (peer : Bool) (m : List Byte) : State :=
  s.lineSend p 6 (macBytes (ptpDest peer) ++ macBytes (s.lineMac p) ++ toBE 2 0x88F7 ++ m)

/-! ### Offset and servo -/

/-- A measurement of the RTC's rate ends without a result (R449). -/
def State.measAbandon (s : State) : State := (s.wr 0 Reg.RTC_MEAS_VALID 0).wr 0 Reg.RTC_MEAS_RUNNING 0

/-- A new offset from the master (R67, R243, R278): slewed in Run, Step and Hold, stepped in Stop. -/
def ptpOffset (s : State) (off : Int) : State :=
  let s := s.wr 0 Reg.PTP_OFFSET_NS (ofInt 32 (clampInt (-2147483648) 2147483647 off))
  let s := if 1000 < off.natAbs then s.irq 0 0x1B 2 else s
  if s.mode = 0 then
    let t := s.stepTime ((s.time : Int) - off).toNat
    { t with exch := { t.exch with slew := 0 } }.wr 0 Reg.TICK_STAT_SLEWING 0
  else
    let s : State := { s with exch := { s.exch with slew := -off } }
    s.wrB 0 Reg.TICK_STAT_SLEWING (decide (1000 < off.natAbs))

/-- A Sync, with its follow-up when two-step, gives the offset. -/
def syncOffset (s : State) (p : Nat) (origin at' : Nat) (corr : Int) : State :=
  ptpOffset s ((at' : Int) - origin - (s.rd 0 (Reg.PTP_PDELAYn_NS.i p) : Int) - corr)

/-- A finished peer delay exchange. -/
def setPdelay (s : State) (p : Nat) (d : Int) : State :=
  s.wr 0 (Reg.PTP_PDELAYn_NS.i p) (clampInt 0 16777215 d).toNat

/-- Whether a message comes from the port that the slave port `p` follows. -/
def fromParent (s : State) (p : Nat) (m : List Byte) : Bool :=
  s.ptpState p == 9 && (match (s.ptpPort p).announce with
    | some a => cut a 20 10 == cut m 20 10
    | none => false)

/-- Whether an AUTHENTICATION TLV stands among the TLVs of a message (R243), whose type is 0x8009 (PRESUMED: IEEE 1588-2019, log
entry 34). -/
def tlvAuth : Nat → List Byte → Bool
  | 0, _ => false
  | n + 1, bs =>
    if bs.length < 4 then false else ofBE (cut bs 0 2) == 0x8009 || tlvAuth n (bs.drop (4 + ofBE (cut bs 2 2)))

/-- Whether a message carries an AUTHENTICATION TLV behind its body. -/
def authTlv (m : List Byte) : Bool :=
  let body := match byteAt m 0 % 16 with | 2 | 3 | 10 => 54 | 11 => 64 | _ => 44
  tlvAuth m.length ((m.take (ofBE (cut m 2 2))).drop body)

/-- One PTP message on a port (R243): messages of other kinds, and those with authentication TLVs, are ignored. -/
def ptpHandle (s : State) (p stamp : Nat) (m : List Byte) : State :=
  let seq := ofBE (cut m 30 2)
  let two := bit (byteAt m 6) 1
  let x := s.ptpPort p
  let mine := cut m 44 10 == s.ptpPortId p && seq == x.reqSeq
  if byteAt m 1 % 16 ≠ 2 ∨ byteAt m 4 ≠ s.rd 0 Reg.PTP_CFG_DOMAIN ∨ m.length < 44 ∨ authTlv m = true then s
  else match byteAt m 0 % 16 with
  | 0 =>
    if !fromParent s p m then s
    else if two then
      s.setPtpPort p { x with syncAt := stamp, syncSeq := seq, syncCorr := ptpCorrection m, syncOpen := true }
    else syncOffset s p (ptpStamp m 34) stamp (ptpCorrection m)
  | 8 =>
    if fromParent s p m && x.syncOpen && seq == x.syncSeq then
      syncOffset (s.setPtpPort p { x with syncOpen := false }) p (ptpStamp m 34) x.syncAt (x.syncCorr + ptpCorrection m)
    else s
  | 2 =>
    ptpSend s p true (ptpMessage s p 3 0x0200 seq 0x7F (stampBytes stamp ++ cut m 20 10))
  | 3 =>
    if !mine then s
    else if two then
      s.setPtpPort p { x with respAt := stamp, respT2 := ptpStamp m 34, respCorr := ptpCorrection m, respOpen := true }
    else setPdelay s p (((stamp : Int) - x.reqAt - ptpCorrection m) / 2)
  | 10 =>
    if mine && x.respOpen then
      setPdelay (s.setPtpPort p { x with respOpen := false }) p
        (((x.respAt : Int) - x.reqAt - ((ptpStamp m 34 : Int) - x.respT2) - x.respCorr - ptpCorrection m) / 2)
    else s
  | 11 =>
    if s.rd 0 Reg.PTP_CFG_ROLE = 1 ∨ cut m 20 8 = s.clockId ∨ 255 ≤ ofBE (cut m 61 2) ∨ m.length < 64 then s
    else ptpDecide (s.setPtpPort p { x with announce := some m, announceAt := s.time })
  | _ => s

/-- What a read of `PTP.TIME_LO` does (R278): TIME_HI is latched. -/
def ptpTimeRead (s : State) : State :=
  (s.wr 0 Reg.PTP_TIME_LO_NS s.time).wr 0 Reg.PTP_TIME_HI_NS (s.time / 2 ^ 32)

/-! ### Commands -/

/-- PTP_MESSAGE (R243): the Porter handles the oldest PTP message received. -/
def execPtpMessage (s : State) : Result :=
  .next (match s.exch.ptpIn with
    | [] => s
    | f :: rest =>
      let s : State := { s with exch := { s.exch with ptpIn := rest } }
      if s.firmware && s.ptpOn f.port then ptpHandle (ptpExpire s) f.port f.stamp (f.bytes.drop 14) else s)

/-- PTP_MESSAGE_INTERVAL (R243): a port's interval of Sync (0), Announce (1) or Pdelay_Req (2) is over. -/
def execPtpMessageInterval (port kind : Nat) (s : State) : Result :=
  .next (
    let s := if s.firmware then ptpExpire s else s
    let x := s.ptpPort port
    let log (v : Nat) : Nat := ofInt 8 (toInt 4 v)
    if 4 ≤ port ∨ s.firmware = false ∨ s.ptpOn port = false then s
    else match kind with
    | 0 =>
      if s.ptpState port = 6 then
        let l := log (s.rd 0 Reg.PTP_INTERVALS_SYNC)
        let s := s.setPtpPort port { x with sentSync := (x.sentSync + 1) % 65536 }
        ptpSend s port false (ptpMessage s port 0 0x0200 x.sentSync l (stampBytes 0))
      else s
    | 1 =>
      if s.ptpState port = 6 then
        let s := s.setPtpPort port { x with sentAnnounce := (x.sentAnnounce + 1) % 65536 }
        let gm : List Byte := match bestAnnounce s with
          | some b =>
            if s.on 0 Reg.PTP_STAT_SLAVE then cut b.2 47 14 ++ toBE 2 (ofBE (cut b.2 61 2) + 1) ++ cut b.2 63 1 else []
          | none => []
        let gm := if gm.isEmpty then
            toBE 1 (s.rd 0 Reg.PTP_PRIO_PRIO1) ++ toBE 1 (s.rd 0 Reg.PTP_PRIO_CLASS) ++
              toBE 1 (s.rd 0 Reg.PTP_PRIO_ACCURACY) ++ toBE 2 Config.ptpVariance ++ toBE 1 (s.rd 0 Reg.PTP_PRIO_PRIO2) ++
              s.clockId ++ toBE 2 0 ++ toBE 1 0xA0
          else gm
        ptpSend s port false (ptpMessage s port 11 0 x.sentAnnounce (s.rd 0 Reg.PTP_INTERVALS_ANNOUNCE)
          (stampBytes 0 ++ toBE 2 0 ++ toBE 1 0 ++ gm))
      else s
    | _ =>
      let q := (x.reqSeq + 1) % 65536
      let s := s.setPtpPort port { x with reqSeq := q, respOpen := false }
      ptpSend s port true (ptpMessage s port 2 0 q (log (s.rd 0 Reg.PTP_INTERVALS_PDELAY))
        (List.replicate 20 0)))

/-- PTP_TIME_READ (R278): a master reads `PTP.TIME_LO`. -/
def execPtpTimeRead (w : Who) (s : State) : Result :=
  .next (s.reading w (regAddr 0 0x1B 0x12C) 0 fun s =>
    (ptpTimeRead s).reply w.code ((ptpTimeRead s).readWord w.code 0 0x1B 0x12C) false)

/-- PTP_MASTER_LOST (R67, R189): the announcements of the master time out. -/
def execPtpMasterLost (s : State) : Result :=
  .next (if s.on 0 Reg.PTP_STAT_SLAVE then
    let p := s.rd 0 Reg.PTP_STAT_SLAVE_PORT
    let s := ptpDecide (s.setPtpPort p { s.ptpPort p with announce := none })
    let s := ((s.wr 0 Reg.TICK_STAT_HOLDOVER 1).irq 0 0x0A 2).archive 0x0A 2 .info [1]
    let s := if s.rd 0 Reg.RTC_MEAS_CFG_REF = 0 ∧ s.on 0 Reg.RTC_MEAS_RUNNING = true then s.measAbandon else s
    s.raiseCause 6
  else s)

/-- PTP_MASTER_FOUND (R67): a master is found again. -/
def execPtpMasterFound (s : State) : Result :=
  .next (if s.on 0 Reg.TICK_STAT_HOLDOVER then
    ((ptpDecide (s.wr 0 Reg.TICK_STAT_HOLDOVER 0)).irq 0 0x0A 2).archive 0x0A 2 .info [0]
  else s)

end Sys2Proof.Machine
end

