-- ==== Sys2Proof/Machine/Clock.lean ====
section
/-! DEFINITION.  The always-on domain: supply selector, RTC, comparators and Guard; the reference clocks (spec/14 R439 to
R457, R467 to R473). -/

namespace Sys2Proof.Machine

open Sys2Proof.Bits

/-! ### The calendar (R444) -/

/-- Leap years of the Gregorian rule. -/
def leapYear (y : Nat) : Bool := (y % 4 == 0 && y % 100 != 0) || y % 400 == 0

/-- Days of a month. -/
def monthDays (y m : Nat) : Nat :=
  if m = 2 then (if leapYear y then 29 else 28) else if m = 4 ∨ m = 6 ∨ m = 9 ∨ m = 11 then 30 else 31

/-- Year and day of the year, from a year and days since its start. -/
def yearOf : Nat → Nat → Nat → Nat × Nat
  | 0, y, d => (y, d)
  | n + 1, y, d =>
    let len := if leapYear y then 366 else 365
    if d < len then (y, d) else yearOf n (y + 1) (d - len)

/-- Month and day of the month. -/
def monthOf : Nat → Nat → Nat → Nat → Nat × Nat
  | 0, _, m, d => (m, d + 1)
  | n + 1, y, m, d => if d < monthDays y m then (m, d + 1) else monthOf n y (m + 1) (d - monthDays y m)

/-- The last second of the RTC's range. -/
def lastSecond : Nat := 12622780799

/-- Seconds of the PTP timescale at the RTC's origin. -/
def rtcOrigin : Nat := 946684800

namespace State

/-- Seconds S of the RTC. -/
def rtcSec (s : State) : Nat := s.rd2 0 Reg.RTC_SEC_LO_SEC Reg.RTC_SEC_HI_SEC

/-- S takes a value, and the calendar shows it. -/
def setRtc (s : State) (v : Nat) : State :=
  let s := s.wr2 0 Reg.RTC_SEC_LO_SEC Reg.RTC_SEC_HI_SEC v
  let days := v / 86400
  let yd := yearOf 400 2000 days
  let md := monthOf 12 yd.1 1 yd.2
  let s := ((s.wr 0 Reg.RTC_CAL_DATE_YEAR yd.1).wr 0 Reg.RTC_CAL_DATE_MONTH md.1).wr 0 Reg.RTC_CAL_DATE_DAY md.2
  let s := (s.wr 0 Reg.RTC_CAL_DATE_WEEKDAY ((5 + days) % 7)).wr 0 Reg.RTC_CAL_TIME_HOUR (v % 86400 / 3600)
  (s.wr 0 Reg.RTC_CAL_TIME_MIN (v % 3600 / 60)).wr 0 Reg.RTC_CAL_TIME_SEC (v % 60)

/-- An event that may wake the part from Quiescent sleep, by its `PWR.WAKE.CAUSE` code (R465). -/
def wakeEvent (s : State) (code : Nat) : State :=
  if s.aon.asleep then { s with aon := { s.aon with wakes := s.aon.wakes ||| (1 <<< code) } } else s

/-- RTC_ALARM (R473): S reaches ALARM while it is armed. -/
def rtcAlarm (s : State) : State :=
  if s.on 0 Reg.RTC_ALARM_HI_EN && s.rtcSec == s.rd2 0 Reg.RTC_ALARM_LO_SEC Reg.RTC_ALARM_HI_SEC then
    let s := (s.wr 0 Reg.RTC_ALARM_HI_EN 0).irq 0 0x0E 1
    if bit (s.rd 0 Reg.PWR_CFG_WAKE_EN) 4 then s.wakeEvent 5 else s
  else s

/-- A load takes effect: S, the continuity latch, SECOND (R442, R447). -/
def rtcLoaded (s : State) (v : Nat) : State :=
  let s := (s.setRtc v).wr 0 Reg.AON_STAT_CONTINUITY 1
  let s := ((s.wr 0 Reg.RTC_STAT_TIME_LOST 0).wr 0 Reg.RTC_STAT_OVERRANGE 0).wr 0 Reg.RTC_STAT_LOAD_PENDING 0
  let s : State := { s.irq 0 0x0E 0 with aon := { s.aon with load := none, secondAt := s.time } }
  s.rtcAlarm

/-- The staged seconds. -/
def rtcStaged (s : State) : Nat := s.rd2 0 Reg.RTC_STAGE_LO_SEC Reg.RTC_STAGE_HI_SEC

/-- Stages seconds, inside the RTC's range. -/
def rtcStage (s : State) (v : Nat) : State := s.wr2 0 Reg.RTC_STAGE_LO_SEC Reg.RTC_STAGE_HI_SEC (min lastSecond v)

/-- A load is commanded: 1 LOAD, 2 SYNC, 3 TIME_SET. -/
def rtcPend (s : State) (kind : Nat) : State :=
  { s.wr 0 Reg.RTC_STAT_LOAD_PENDING 1 with aon := { s.aon with load := some (kind, s.time) } }

/-- What a write to `RTC.CTL` does (R447). -/
def rtcCtl (s : State) (v : Nat) : State :=
  if bit v 1 then s.rtcPend 2 else if bit v 0 then s.rtcPend 1 else s

/-- The part looks at the continuity latch (R442): a clear one makes the time lost. -/
def checkContinuity (s : State) : State :=
  if s.on 0 Reg.AON_STAT_CONTINUITY then s
  else ((s.wr 0 Reg.RTC_STAT_TIME_LOST 1).irq 0 0x0E 3).archive 0x0E 3 .fault []

/-- The first whole second of global time after an instant. -/
def nextSecond (t : Nat) : Nat := (t / 1000000000 + 1) * 1000000000

/-- What a write to `RTC.MEAS_CFG` does (R449). -/
def rtcMeas (s : State) (v : Nat) : State :=
  if bit v 19 then
    let s := s.wr 0 Reg.RTC_MEAS_RUNNING 1
    if s.rd 0 Reg.RTC_MEAS_CFG_REF = 0 ∧ s.on 0 Reg.TICK_STAT_HOLDOVER then s.measAbandon else s
  else s

/-- What a write to `AON.FLAGS` does (R472): clearing BACKUP zeroes `BKUP_COUNT`. -/
def aonFlags (s : State) (v : Nat) : State := if bit v 1 then s.wr 0 Reg.AON_BKUP_COUNT_COUNT 0 else s

/-! ### The Guard (R452 to R456) -/

/-- RTC cycles of a timeout in ms (R452): the ceiling of 32.768 cycles a millisecond. -/
def guardCycles (ms : Nat) : Nat := (ms * 32768 + 999) / 1000

/-- The instant `n` RTC cycles after the count's restart. -/
def guardInstant (s : State) (n : Nat) : Nat := (s.aon.guardAt + (n * 1000000000 / 32768 : Nat)).toNat

/-- The next RTC edge, in RTC cycles from the restart: the count's edges are those of the RTC (R452). -/
def guardEdge (s : State) : Nat :=
  if (s.time : Int) < s.aon.guardAt then 0 else ((s.time : Int) - s.aon.guardAt).toNat * 32768 / 1000000000 + 1

/-- The next RTC edge is the one at which the enabled Guard expires: what is latched now takes effect there, too late ("When a
service and an expiry fall at the same RTC edge", "When the key sequence meets an expiry"). -/
def guardTooLate (s : State) : Bool := s.on 0 Reg.GUARD_CTL_EN && decide (guardCycles s.aon.guardMs ≤ s.guardEdge)

/-- The count restarts, with the timeout now written. -/
def guardRestart (s : State) : State :=
  { s.wr 0 Reg.GUARD_STAT_WARNED 0 with aon := { s.aon with guardAt := s.time, guardMs := s.rd 0 Reg.GUARD_TIMEOUT_MS } }

/-- A write to GUARD other than `KEY` voids a disable sequence under way (R455). -/
def guardVoid (s : State) : State :=
  match s.aon.keyAt with
  | some _ =>
    ({ s with aon := { s.aon with keyAt := none } } : State).slipKept 0 0x0C 0x104 0 16 .key 0 0 0
  | none => s

/-- What a write to `GUARD.SERVICE` does: the count restarts at the next RTC edge (R452), unless the Guard expires there. -/
def guardService (s : State) (_ : Nat) : State :=
  if s.guardTooLate then s.guardVoid
  else
    let t := s.guardVoid.guardRestart
    { t with aon := { t.aon with guardAt := s.guardInstant s.guardEdge } }

/-- What a write to `GUARD.KEY` does (R455). -/
def guardKey (s : State) (v : Nat) : State :=
  let v := v % 2 ^ 16
  match s.aon.keyAt with
  | none => if v = 0xA5C3 then { s with aon := { s.aon with keyAt := some s.cycle } } else s
  | some c =>
    let s : State := { s with aon := { s.aon with keyAt := none } }
    if v = 0x3C5A ∧ s.cycle ≤ c + 64 then
      if s.on 0 Reg.GUARD_CTL_LOCK then s.slipKept 0 0x0C 0x104 0 16 .locked 0 v 0
      else if s.guardTooLate then s else s.wr 0 Reg.GUARD_CTL_EN 0
    else s.slipKept 0 0x0C 0x104 0 16 .key 0 v 0

/-- What a write to `GUARD.CTL` does: EN, which can only be written 1, enables and restarts. -/
def guardCtl (s : State) (v : Nat) : State :=
  let s := s.guardVoid
  if bit v 0 then s.guardRestart else s

/-- WARN (R452, R456): the slip's values are latched. -/
def guardWarned (s : State) : State :=
  let s := (s.wr 0 Reg.GUARD_STAT_WARNED 1).irq 0 0x0C 0
  { s with aon := { s.aon with guardSlip := [s.time % 2 ^ 32, s.time / 2 ^ 32, (s.core 0 0).pc, (s.core 0 1).pc,
      s.readWord 0 0 0x27 0x104, s.rd 0 Reg.TICK_FRAME_LO_N] } }

/-- The Guard slip is latched (R456). -/
def guardLatch (s : State) : State :=
  let words := (0x5AF2 + s.rd 0 Reg.GUARD_EXPIRIES_COUNT % 256 * 2 ^ 16) :: s.aon.guardSlip
  let words := words ++ [crc32c (words.flatMap (toLE 4))]
  words.zipIdx.foldl (fun s w => s.wr 0 ((Reg.AON_SLIPs_Ww.i 1).i2 w.2) w.1) s

/-! ### Reference clocks (R457) -/

/-- The part changes over to a reference; global time moves by at most 20 ns, by how much is open (log entry 2). -/
def changeRef (s : State) (r : Nat) : State :=
  let (n, s) := s.drawFree
  let s : State := { s with time := s.time + Config.freeValue n % 41 - 20 }
  let s := ((s.wr 0 Reg.CLK_STAT_ACTIVE r).inc 0 Reg.CLK_SWITCHES_COUNT).wr2 0 Reg.CLK_LAST_LO_NS Reg.CLK_LAST_HI_NS s.time
  (s.irq 0 0x01 0).archive 0x01 0 .info []

/-- Whether a reference is good. -/
def refGood (s : State) (r : Nat) : Bool := if r = 0 then s.on 0 Reg.CLK_STAT_A_OK else s.on 0 Reg.CLK_STAT_B_OK

/-- Notes whether a reference is good. -/
def setRef (s : State) (r : Nat) (b : Bool) : State :=
  if r = 0 then s.wrB 0 Reg.CLK_STAT_A_OK b else s.wrB 0 Reg.CLK_STAT_B_OK b

/-- What a write to `CLK.CFG` does: a newly preferred reference that is good is taken. -/
def clkCfg (pre s : State) (_ : Nat) : State :=
  let p := s.rd 0 Reg.CLK_CFG_PREF
  if pre.rd 0 Reg.CLK_CFG_PREF ≠ p ∧ s.rd 0 Reg.CLK_STAT_ACTIVE ≠ p ∧ s.refGood p = true then s.changeRef p else s

end State

/-! ### Commands: supply and crystal -/

/-- SUPPLY_CHANGEOVER_VBAT (R441, R443). -/
def execSupplyChangeoverVbat (s : State) : Result :=
  .next (if s.on 0 Reg.AON_STAT_MAIN then
    let s := ((s.wr 0 Reg.AON_STAT_MAIN 0).inc 0 Reg.AON_BKUP_COUNT_COUNT).irq 0 0x0D 1
    if s.on 0 Reg.AON_FLAGS_BACKUP then s
    else (s.wr 0 Reg.AON_FLAGS_BACKUP 1).wr2 0 Reg.AON_BKUP_FIRST_LO_SEC Reg.AON_BKUP_FIRST_HI_SEC s.rtcSec
  else s)

/-- SUPPLY_CHANGEOVER_MAIN (R441, R442). -/
def execSupplyChangeoverMain (s : State) : Result :=
  .next (if s.on 0 Reg.AON_STAT_MAIN then s else (s.wr 0 Reg.AON_STAT_MAIN 1).checkContinuity)

/-- CONTINUITY_LOSS (R442). -/
def execContinuityLoss (s : State) : Result := .next (s.wr 0 Reg.AON_STAT_CONTINUITY 0)

/-- ALWAYS_ON_RESET (R442, R458): RTC, AON and GUARD take their reset values, `EXPIRIES` and the slips too. -/
def execAlwaysOnReset (s : State) : Result :=
  let main := s.rd 0 Reg.AON_STAT_MAIN
  let keep (k : Nat) : Bool := !(k / 2 ^ 23 % 8 == 0 && [0x0C, 0x0D, 0x0E].contains (k / 2 ^ 17 % 64))
  let s : State := { s with regs := SMap.keep keep s.regs }
  let s := (s.wr 0 Reg.AON_STAT_MAIN main).setRtc 0
  .next { s with aon := { s.aon with
    secondAt := s.time, load := none, guardAt := s.time, guardMs := 2000, guardSlip := [0, 0, 0, 0, 0, 0], keyAt := none } }

/-- VBAT_MEASURE (R443): the cell's voltage in mV. -/
def execVbatMeasure (mv : Nat) (s : State) : Result :=
  let s := s.wr 0 Reg.AON_VBAT_MV (min 4095 mv)
  .next (if mv < 2200 then (s.wr 0 Reg.AON_FLAGS_VBAT_LOW 1).irq 0 0x0D 0 else s)

/-- XTAL_FAIL (R445). -/
def execXtalFail (s : State) : Result :=
  .next (if s.on 0 Reg.AON_STAT_XTAL_FAIL then s
  else
    let s := ((s.wr 0 Reg.AON_STAT_XTAL_FAIL 1).wr 0 Reg.AON_FLAGS_XTAL_FAILED 1).irq 0 0x0D 6
    { s with aon := { s.aon with xtalAt := s.time } })

/-- XTAL_RETURN (R445): the crystal is taken back, and Keeper firmware archives the interval. -/
def execXtalReturn (s : State) : Result :=
  .next (if s.on 0 Reg.AON_STAT_XTAL_FAIL then
    let s := s.wr 0 Reg.AON_STAT_XTAL_FAIL 0
    if s.firmware then
      s.archive 0x0D 72 .info ([s.aon.xtalAt % 2 ^ 32, s.aon.xtalAt / 2 ^ 32] ++ s.timeWords)
    else s
  else s)

/-! ### Commands: the RTC -/

/-- RTC_SECOND (R444, R447): `SUB` rolls over.  A LOAD commanded in the RTC cycle that ends waits for the next roll-over. -/
def execRtcSecond (s : State) : Result :=
  .next (match s.aon.load with
    | some (1, t) =>
      if t + 30518 ≤ s.time then s.rtcLoaded s.rtcStaged else State.rtcAlarm { (s.setRtc (min lastSecond (s.rtcSec + 1))).irq 0 0x0E 0 with
        aon := { s.aon with secondAt := s.time } }
    | _ =>
      if s.rtcSec = lastSecond then s.wr 0 Reg.RTC_STAT_OVERRANGE 1
      else State.rtcAlarm { (s.setRtc (s.rtcSec + 1)).irq 0 0x0E 0 with aon := { s.aon with secondAt := s.time } })

/-- RTC_LOAD (R447): a write to `RTC.CTL` with LOAD set. -/
def execRtcLoad (w : Who) (s : State) : Result := .next (writeThen w 0 0x0E 0x11C 1 s State.rtcCtl)

/-- RTC_SYNC (R447): a write to `RTC.CTL` with SYNC set. -/
def execRtcSync (w : Who) (s : State) : Result := .next (writeThen w 0 0x0E 0x11C 2 s State.rtcCtl)

/-- RTC_SYNC_LOAD (R447, R450): the next whole second of global time; a TIME_SET steps global time at the same instant, if the
part is still in Stop: in Run and Hold the Keeper never steps it (R67), and the RTC alone takes the value (DESIGN CHOICE: log
entry 36). -/
def execRtcSyncLoad (s : State) : Result :=
  .next (match s.aon.load with
    | some (2, t) => (s.advanceTime (State.nextSecond t)).rtcLoaded s.rtcStaged
    | some (3, t) =>
      let v := s.aon.setTo
      let s := s.advanceTime (State.nextSecond t)
      (if s.mode = 0 then s.stepTime (v * 1000000000) else s).rtcLoaded s.rtcStaged
    | _ => s)

/-- RTC_RESYNC_PERIOD (R450): every 3,600 s as a PTP slave outside holdover. -/
def execRtcResyncPeriod (s : State) : Result :=
  .next (if s.firmware && s.on 0 Reg.PTP_STAT_SLAVE && !s.on 0 Reg.TICK_STAT_HOLDOVER && s.aon.load.isNone then
    let s := s.advanceTime (s.aon.resyncAt + 3600000000000)
    let s := (s.rtcStage (State.nextSecond s.time / 1000000000 - rtcOrigin)).rtcPend 2
    { s with aon := { s.aon with resyncAt := s.time } }
  else s)

/-- TIME_SET (R450, R485): legal only in Stop. -/
def execTimeSet (s : State) : Result :=
  .next (s.authCommand 0x0E rolesEW (fun p => p.length == 8) fun s _ p =>
    let v := ofBE p
    if s.mode ≠ 0 ∨ s.aon.load.isSome = true then ⟨s, .refused, 0⟩
    else
      let s := (s.rtcStage (v - rtcOrigin)).rtcPend 3
      ⟨{ s with aon := { s.aon with setTo := v } }, .done, 0⟩)

/-- RTC_MEASURE_START (R449): a write to `RTC.MEAS_CFG` with START set. -/
def execRtcMeasureStart (w : Who) (word : Nat) (s : State) : Result :=
  .next (writeThen w 0 0x0E 0x128 (setField word 19 1 1) s State.rtcMeas)

/-- RTC_MEASURE_END (R449): the rate error found over the window, in 0.1 ppm. -/
def execRtcMeasureEnd (ppm : Int) (s : State) : Result :=
  .next (if s.on 0 Reg.RTC_MEAS_RUNNING then
    let p := clampInt (-8192) 8191 ppm
    let s := ((s.wr 0 Reg.RTC_MEAS_PPM (ofInt 14 p)).wr 0 Reg.RTC_MEAS_VALID 1).irq 0 0x0E 2
    let auto := s.on 0 Reg.RTC_MEAS_CFG_AUTO
    let s := s.wrB 0 Reg.RTC_MEAS_RUNNING auto
    if auto then s.wr 0 Reg.RTC_TRIM_PPM (ofInt 14 (clampInt (-5000) 5000 (toInt 14 (s.rd 0 Reg.RTC_TRIM_PPM) - p))) else s
  else s)

/-- MAINS_LOSS (R449): no zero crossing for 100 ms. -/
def execMainsLoss (s : State) : Result :=
  .next (if s.on 0 Reg.RTC_MEAS_RUNNING ∧ s.rd 0 Reg.RTC_MEAS_CFG_REF ≠ 0 then s.measAbandon else s)

/-- COMPARATOR_EDGE (R451): a filtered edge of `AON_CMPn`. -/
def execComparatorEdge (n : Nat) (rising : Bool) (s : State) : Result :=
  .next (if n < 4 then
    let s := s.wr 0 Reg.AON_STAT_CMP (setBit (s.rd 0 Reg.AON_STAT_CMP) n rising)
    let e := s.rd 0 (Reg.AON_CMPn_EDGE.i n)
    if e = 3 ∨ (e = 1 ∧ rising) ∨ (e = 2 ∧ !rising) then
      let s := if s.rd 0 Reg.AON_FLAGS_CMP = 0 then s.wr2 0 Reg.AON_CMP_TIME_LO_SEC Reg.AON_CMP_TIME_HI_SEC s.rtcSec else s
      let s := (s.setBits 0 Reg.AON_FLAGS_CMP (1 <<< n)).irq 0 0x0D (2 + n)
      if bit (s.rd 0 Reg.PWR_CFG_WAKE_EN) n then s.wakeEvent (1 + n) else s
    else s
  else s)

/-! ### Commands: the Guard -/

/-- GUARD_SERVICE (R452, R453): a write to `GUARD.SERVICE`. -/
def execGuardService (w : Who) (word : Nat) (s : State) : Result := .next (writeThen w 0 0x0C 0x100 word s State.guardService)

/-- GUARD_WARN (R452): 75 % of the count. -/
def execGuardWarn (s : State) : Result :=
  .next (if s.on 0 Reg.GUARD_CTL_EN && !s.on 0 Reg.GUARD_STAT_WARNED then
    (s.advanceTime (s.guardInstant (State.guardCycles s.aon.guardMs * 3 / 4))).guardWarned
  else s)

/-- GUARD_KEY (R455): a write to `GUARD.KEY`. -/
def execGuardKey (w : Who) (word : Nat) (s : State) : Result := .next (writeThen w 0 0x0C 0x104 word s State.guardKey)

/-- GUARD_ENABLE (R455): a 1 written to `GUARD.CTL.EN`. -/
def execGuardEnable (w : Who) (s : State) : Result := .next (writeThen w 0 0x0C 0x108 1 s State.guardCtl)

/-- GUARD_LOCK (R455): a 1 written to `GUARD.CTL.LOCK`, with EN as it must be written. -/
def execGuardLock (w : Who) (word : Nat) (s : State) : Result :=
  .next (writeThen w 0 0x0C 0x108 (setField word 1 1 1) s State.guardCtl)

/-- GUARD_DISABLE (R455, R485): Keeper firmware writes both key words. -/
def execGuardDisable (s : State) : Result :=
  .next (s.authCommand 0x0B rolesWV List.isEmpty fun s _ _ =>
    if s.on 0 Reg.GUARD_CTL_LOCK then ⟨s, .refused, 0⟩
    else ⟨((s.guardVoid).guardKey 0xA5C3).guardKey 0x3C5A, .done, 0⟩)

/-! ### Commands: references -/

/-- REFCLK_REVERT (R457): a reference has been good for 10 ms; the preferred one is taken back with REVERT set. -/
def execRefclkRevert (r : Nat) (s : State) : Result :=
  .next (if r < 2 then
    let s := s.setRef r true
    if s.on 0 Reg.CLK_CFG_REVERT ∧ r = s.rd 0 Reg.CLK_CFG_PREF ∧ r ≠ s.rd 0 Reg.CLK_STAT_ACTIVE then s.changeRef r else s
  else s)

end Sys2Proof.Machine
end

