-- ==== Sys2Proof/Machine/Mem.lean ====
section
/-! DEFINITION.  Memory banks (spec/10 R336 to R349, R354, R355, R537): power states, the scrubber, DMA chains, the March
engine and repairs. -/

namespace Sys2Proof.Machine

open Sys2Proof.Bits

namespace State

/-- The DMA and March engines of a die. -/
def eng (s : State) (die : Nat) : MemEngine := SMap.get MemEngine.idle s.engines die

/-- Replaces them. -/
def setEng (s : State) (die : Nat) (e : MemEngine) : State := { s with engines := SMap.put MemEngine.idle s.engines die e }

/-- Writes `n` bytes from a physical address, the 64-bit word `v` repeated. -/
def fillMem (s : State) (a n v : Nat) : State :=
  let bytes := (List.range n).filterMap fun i =>
    let b := BitVec.ofNat 8 (field v (8 * (i % 8)) 8)
    if b = 0 then none else some (a + i, b)
  { s with mem := SMap.splice s.mem a (a + n) bytes, ecc := SMap.clear s.ecc a n, dirty := s.markBytes a n }

/-- The entries of the queues whose rings lie in bank `b` read what the bank now holds (R330). -/
def rereadRings (s : State) (die b : Nat) : State :=
  if b = (if die = 0 then 3 else 6) then
    (List.range 16).foldl (fun (s : State) q => s.setRing die q ((s.ring die q).map fun e =>
      let a := phys die (ringOwn die q e.slot)
      { e with lo := s.load a 4, hi := s.load (a + 4) 4 })) s
  else s

end State

/-- Populated words of the bit store of a die, space by space, then the mask table (R336). -/
def bitStoreBase (sp : Nat) : Nat :=
  match sp with
  | 0 => 0 | 1 => 4096 | 2 => 8192 | 3 => 24576 | 4 => 28672 | 5 => 29184 | 6 => 30208 | _ => 30464

/-- The physical address of word `w` of a bank; `none` where nothing with an ECC word of its own is there. -/
def bankWord (die bank w : Nat) : Option Nat :=
  if die = 0 then some (phys 0 (bank * 0x100000 + 8 * w))
  else match bank with
    | 0 | 1 | 2 | 3 | 4 => some (phys die (bank * 0x100000 + 8 * w))
    | 5 => some (phys die (0x600000 + 8 * w))
    | 6 => some (phys die (0x700000 + 8 * w))
    | _ => ((List.range 8).find? fun sp => decide (bitStoreBase sp ≤ w) && decide (w < bitStoreBase sp + spaceWords sp)).map
        fun sp => bitAddr die sp (w - bitStoreBase sp)

/-- Physical range of a bank: first byte and bytes. -/
def bankRange (die bank : Nat) : Nat × Nat :=
  if die = 0 then (phys 0 (bank * 0x100000), 0x100000)
  else match bank with
    | 4 => (bankL die, 0x200000)
    | 5 => (bankP die, 0x100000)
    | 6 => (bankD die, 0x100000)
    | 7 => (phys die 0x800000, 0x100000)
    | n => (bankC die n, 0x100000)

/-- The banks of a die. -/
def banksOf (die : Nat) : List Nat := List.range (if die = 0 then 4 else 8)

/-! ### Power states (R338) -/

/-- What a write to `MEM.PWR` does. -/
def memPower (die : Nat) (s : State) (_ : Nat) : State :=
  (banksOf die).foldl (fun s b =>
    let want := s.rd die (Reg.MEM_PWR_BANKb.j b)
    let f := Reg.MEM_PWR_STAT_BANKb.j b
    let now := s.rd die f
    match want with
    | 0 => if now = 0 ∨ now = 3 then s else s.wr die f 3
    | 1 => if now = 1 then s else s.wr die f 1
    | 2 => if now = 2 then s else ((s.clearMem (bankRange die b).1 (bankRange die b).2).rereadRings die b).wr die f 2
    | _ => s) s

/-- BANK_POWER_SET (R338): a write to `MEM.PWR`. -/
def execBankPowerSet (w : Who) (die word : Nat) (s : State) : Result :=
  .next (if isScan die || die == 0 then writeThen w die 0x07 0x100 word s (memPower die) else s)

/-- BANK_WAKE_DONE (R338): a waking bank is On. -/
def execBankWakeDone (die bank : Nat) (s : State) : Result :=
  .next (if (isScan die || die == 0) && (banksOf die).contains bank && s.rd die (Reg.MEM_PWR_STAT_BANKb.j bank) == 3 then
    (s.wr die (Reg.MEM_PWR_STAT_BANKb.j bank) 0).irq die 0x07 2 else s)

/-! ### The scrubber (R340) -/

namespace State

/-- The banks that are On. -/
def banksOn (s : State) (die : Nat) : List Nat := (banksOf die).filter fun b => s.rd die (Reg.MEM_PWR_STAT_BANKb.j b) == 0

/-- Reads one word for the scrubber; a single-bit error is rewritten (R339, R340). -/
def scrubWordAt (s : State) (die a : Nat) : State :=
  let e := s.eccAt a
  let s := s.noteEcc die (a % 0x1000000) 0xFF
  if e = 1 then { s with ecc := SMap.erase s.ecc (a / 8 * 8) } else s

/-- The next word of the next On bank in turn whose sweep has not ended. -/
def scrubNext (s : State) (die : Nat) : State :=
  let g := s.eng die
  let at' (b : Nat) : Nat := SMap.get 0 g.scrubWord b
  let todo := (s.banksOn die).filter fun b => decide (at' b < bankWords die b)
  match (todo.find? fun b => decide (g.scrubBank ≤ b)) <|> todo.head? with
  | none => s
  | some b =>
    let s := match bankWord die b (at' b) with
      | some a => s.scrubWordAt die a
      | none => s
    let words := SMap.put 0 g.scrubWord b (at' b + 1)
    let s := s.setEng die { g with scrubBank := (b + 1) % 8, scrubWord := words }
    if (s.banksOn die).all fun b => decide (bankWords die b ≤ SMap.get 0 words b) then
      (s.setEng die { s.eng die with scrubWord := [], scrubBank := 0 }).incWrap die Reg.MEM_SWEEPS_COUNT
    else s

end State

/-- SCRUB_READ (R340): the March engine of a powered die reads the next word. -/
def execScrubRead (die : Nat) (s : State) : Result :=
  .next (if (die == 0 || (isScan die && s.powered die)) && s.on die Reg.MEM_ECC_CTL_SCRUB_EN then s.scrubNext die else s)

/-! ### DMA chains (R341, R537) -/

/-- How a chain came to its end: it is done, it stopped with a code at a descriptor, or an access of it waits. -/
inductive ChainEnd where
  | done
  | stopped (code desc : Nat)
  | waits (held : Option HeldReq)
  deriving DecidableEq, Repr

/-- The DMA master of a die. -/
def dmaWho (die : Nat) : Who := ⟨die * 32 + 5, false⟩

/-- The entry of a Junction request in the holding buffer of its target; an access of its own die takes none. -/
def heldOf (s : State) (w : Who) (write : Bool) (a n v : Nat) : Option HeldReq :=
  if viaJunction a then some ⟨(locate s w.code a).die, w.code, w.user, write, a, n, v, false⟩ else none

/-- Moves the words of one descriptor, `n` of them; `b` words may still be moved in all. -/
def dmaWords (die desc : Nat) (fill : Bool) (src dst : Nat) : Nat → Nat → Nat → State → State × Option ChainEnd × Nat
  | 0, _, b, s => (s, none, b)
  | n + 1, i, b, s =>
    match b with
    | 0 => (s, some (.waits none), 0)
    | b' + 1 =>
      let r : State × Ended := if fill then (s, .ok (src + 2 ^ 32 * src)) else s.memRead (die * 32 + 5) (src + 8 * i) 8
      match r.2 with
      | .held => (s, some (.waits (heldOf s (dmaWho die) false (src + 8 * i) 8 0)), b)
      | .fault =>
        let ecc : Bool := match locate s (die * 32 + 5) (src + 8 * i) with
          | .mem d own => s.eccAt (phys d own) == 2
          | _ => false
        (r.1, some (.stopped (cond ecc 4 3) desc), b)
      | .ok v =>
        let r1 := if !fill && viaJunction (src + 8 * i) then
            r.1.noteRequest (die * 32 + 5) (locate r.1 (die * 32 + 5) (src + 8 * i)).die else r.1
        let w := r1.memWrite (dmaWho die) (dst + 8 * i) 8 v
        match w.2 with
        | .held => (s, some (.waits (heldOf s (dmaWho die) true (dst + 8 * i) 8 v)), b)
        | .fault => (w.1, some (.stopped 3 desc), b)
        | .ok _ => dmaWords die desc fill src dst n (i + 1) b'
            (if viaJunction (dst + 8 * i) then
              w.1.noteRequest (die * 32 + 5) (locate w.1 (die * 32 + 5) (dst + 8 * i)).die else w.1)

/-- The engine reads the four words of a descriptor: their errors are noted, and the result says whether one is a double error
(R339). -/
def dmaFetch (s : State) (die d : Nat) : State × Bool :=
  ([0, 8, 16, 24].foldl (fun (s : State) k => s.noteEcc die (d + k) (die * 32 + 5)) s,
   [0, 8, 16, 24].any fun k => s.eccAt (phys die (d + k)) == 2)

/-- Runs a chain from descriptor `d`, `fuel` descriptors and `b` words at most.  A descriptor in a bank that is not On is an
access fault (R338). -/
def dmaChain (die : Nat) : Nat → Nat → Nat → State → State × ChainEnd
  | 0, _, _, s => (s, .waits none)
  | fuel + 1, d, b, s =>
    let w (k : Nat) : Nat := s.peek die (d + 4 * k) 4
    let n := w 3 % 2 ^ 20
    let fill := bit (w 0) 1
    let got := dmaFetch s die d
    if d % 8 ≠ 0 then (s, .stopped 1 d)
    else if d < 0x700000 ∨ 0x800000 < d + 32 then (s, .stopped 2 d)
    else if s.dmaHeldOff (die * 32 + 5) d then (s, .waits none)
    else if !s.bankOn die d then (s, .stopped 3 d)
    else if got.2 then (got.1, .stopped 4 d)
    else if n % 8 ≠ 0 ∨ n < 8 ∨ 1048568 < n ∨ w 2 % 8 ≠ 0 ∨ (fill = false ∧ w 1 % 8 ≠ 0) then (got.1, .stopped 1 d)
    else
      let r := dmaWords die d fill (w 1) (w 2) (n / 8) 0 b got.1
      match r.2.1 with
      | some e => (r.1, e)
      | none => if bit (w 0) 0 then (r.1, .done) else dmaChain die fuel (w 4) r.2.2 r.1

/-- Descriptors that bank D can hold: what bounds a chain that ends. -/
def dmaFuel : Nat := 32768

namespace State

/-- The chain of a row starts: the engine is the row's from its start (R341, R537). -/
def dmaRowStart (s : State) (die entry : Nat) : State := (s.wr die Reg.MEM_DMA_STAT_ADDR entry).wr die Reg.MEM_DMA_CODE_CODE 5

/-- The engine after a row: a suspended chain resumes (R537). -/
def dmaResume (s : State) (die : Nat) (code desc : Nat) : State :=
  match (s.eng die).dmaGo with
  | some d => (s.wr die Reg.MEM_DMA_STAT_ADDR d).wr die Reg.MEM_DMA_CODE_CODE 5
  | none => (s.wr die Reg.MEM_DMA_STAT_ADDR desc).wr die Reg.MEM_DMA_CODE_CODE code

/-- A chain stops at a descriptor (R341): recorded and raised. -/
def dmaStopped (s : State) (die code desc : Nat) : State := (s.dmaResume die code desc).irq die 0x07 3

/-- The chain of the running DMA row ends (R84, R341). -/
def endDmaRow (s : State) (die entry : Nat) : State :=
  let r := dmaChain die dmaFuel entry (2 ^ 40) s
  match r.2 with
  | .done => (r.1.workDone die 6).dmaResume die 0 entry
  | .stopped c d => (r.1.cutOff die 6).dmaStopped die c d
  | .waits (some q) => s.holdRequest q
  | .waits none => s

/-- A chain started through `MEM.DMA_GO` ends. -/
def endDmaGo (s : State) (die d : Nat) : State :=
  let r := dmaChain die dmaFuel d (2 ^ 40) s
  let off (s : State) : State := s.setEng die { s.eng die with dmaGo := none }
  match r.2 with
  | .done => (off r.1).dmaResume die 0 d
  | .stopped c e => (off r.1).dmaStopped die c e
  | .waits (some q) => s.holdRequest q
  | .waits none => s

/-- A DMA row is cut off (R87): the words moved by then stand; how many they are is open. -/
def cutDmaRow (s : State) (die entry : Nat) : State :=
  let (v, s) := s.drawFree
  let r := dmaChain die dmaFuel entry (Config.freeValue v) s
  (r.1.cutOff die 6).dmaResume die 0 entry

end State

/-- What a write to `MEM.DMA_GO` does (R537). -/
def dmaGoWrite (die : Nat) (s : State) (v : Nat) : State :=
  if s.rd die Reg.MEM_DMA_CODE_CODE = 5 then s
  else ((s.wr die Reg.MEM_DMA_STAT_ADDR v).wr die Reg.MEM_DMA_CODE_CODE 5).setEng die { s.eng die with dmaGo := some v }

/-- DMA_GO (R537): a write to `MEM.DMA_GO`. -/
def execDmaGo (w : Who) (die word : Nat) (s : State) : Result :=
  .next (if isScan die then writeThen w die 0x07 0x120 word s (dmaGoWrite die) else s)

/-- DMA_CHAIN_END (R341): the chain that the engine runs ends; a chain that waits at a fence, or never ends, does not. -/
def execDmaChainEnd (die : Nat) (s : State) : Result :=
  .next (match s.slot? die 6 with
    | some x =>
      if x.running then
        if x.idle || x.shunt then s
        else s.endDmaRow die (s.rowField die (s.activeBank die) x.row Reg.TTBL_ROW_W2_ENTRY)
      else match (s.eng die).dmaGo with
        | some d => s.endDmaGo die d
        | none => s
    | none => match (s.eng die).dmaGo with
      | some d => s.endDmaGo die d
      | none => s)

/-! ### The March engine (R342 to R346) -/

/-- Sub-array, row and column of a word of a bank (R347). -/
def wordPlace (die bank w : Nat) : Nat × Nat × Nat :=
  if isScan die && bank == 7 then (w / 16384, w % 16384 / 128, w % 128) else (w / 16384, w % 16384 / 32, w % 32)

namespace State

/-- The Loan-exempt ranges of a bank. -/
def exempts (s : State) (die bank : Nat) : List (Nat × Nat) :=
  (List.range 4).filterMap fun r =>
    let i := 4 * bank + r
    if s.on die (Reg.MARCH_EXEMPTi_W0_VALID.i i) then
      some (s.rd die (Reg.MARCH_EXEMPTi_W0_FIRST.i i), s.rd die (Reg.MARCH_EXEMPTi_W1_LAST.i i)) else none

/-- Whether `n` words from `w` meet an exempt range. -/
def meetsExempt (s : State) (die bank w n : Nat) : Bool :=
  (s.exempts die bank).any fun e => decide (w ≤ e.2) && decide (e.1 < w + n)

/-- The Spread of the frame runs (R72). -/
def spreading (s : State) : Bool :=
  s.frame.ticked && !s.outage && (!s.standby || s.pair.apply.isSome) &&
    scanDies.any fun d => s.live d && s.clocked d && !s.absentDie d && !inDies s.frame.spreadDone d

/-- No Loan is held or taken in a bank while a running row fences it (R92), nor in K-IMAGE or K-LINE during the Cut copy, the
Spread, the Commit gather and the release build (R344). -/
def loanBarred (s : State) (die bank : Nat) : Bool :=
  if die = 0 then (bank == 1 || bank == 2) && (s.frame.cutCopy || s.spreading || s.frame.gather || s.frame.build)
  else bit (s.fenceMask die) bank

/-- The first Loan at or after word `w` that meets no exempt range; `none` past the end of the bank (R344). -/
def nextLoan (s : State) (die bank : Nat) : Nat → Nat → Option Nat
  | 0, _ => none
  | fuel + 1, w =>
    let n := s.rd die Reg.MARCH_CFG_LOAN_WORDS
    if bankWords die bank ≤ w then none
    else if s.meetsExempt die bank w (min n (bankWords die bank - w)) then nextLoan s die bank fuel (w + n) else some w

/-- The engine moves to the first Loan from word `w` on; past the end it waits for the end of the test. -/
def openLoan (s : State) (die w : Nat) : State :=
  let bank := s.rd die Reg.MARCH_STAT_BANK
  let next := s.nextLoan die bank (bankWords die bank + 1) w
  let s := s.setEng die { s.eng die with tries := 0, loanLeft := next.isSome }
  s.wr die Reg.MARCH_STAT_WORD (next.getD (bankWords die bank - 1))

/-- The contents of a bank are lost (R343): each word holds a free value. -/
def loseBank (s : State) (die bank : Nat) : State :=
  let n := bankWords die bank
  let at' (s : State) (w : Nat) : State := match bankWord die bank w with
    | some a => (s.drawFree.2).fillMem a 8 (Config.freeValue s.freeCtr % 2 ^ 64)
    | none => s
  ((List.range n).foldl at' s).rereadRings die bank

/-- The engine begins the test of a bank anew; with the mode DESTRUCTIVE its contents are lost (R343). -/
def beginMarch (s : State) (die mode : Nat) : State :=
  let bank := s.rd die Reg.MARCH_CTL_BANK
  let s := s.wr die Reg.MARCH_STAT_BANK bank
  let s := (s.setEng die { s.eng die with testing := true, testMode := mode }).openLoan die 0
  if mode = 2 then s.loseBank die bank else s

/-- A test starts (R343, R344). -/
def startMarch (s : State) (die : Nat) : State :=
  let s := (s.wr die Reg.MARCH_STAT_STATE 1).setEng die { s.eng die with faulty := false }
  s.beginMarch die (s.rd die Reg.MARCH_CTL_MODE)

/-- The engine restores an open Loan and stops (R342, R355); a destructive test that stops leaves its backgrounds (R343). -/
def stopMarch (s : State) (die : Nat) : State :=
  if (s.eng die).testing then
    let s := if (s.eng die).testMode = 2 then s.loseBank die (s.rd die Reg.MARCH_STAT_BANK) else s
    let s := s.setEng die { s.eng die with testing := false, tries := 0 }
    if s.rd die Reg.MARCH_STAT_STATE = 1 then s.wr die Reg.MARCH_STAT_STATE 0 else s
  else s

/-- The words of a Loan are read, corrected and restored (R339, R344): a single-bit error is gone, a double one stays. -/
def restoreLoan (s : State) (die bank w n : Nat) : State :=
  (List.range n).foldl (fun (s : State) k => match bankWord die bank (w + k) with
    | some a =>
      let e := s.eccAt a
      let s := s.noteEcc die (a % 0x1000000) (die * 32 + 6)
      if e = 1 then { s with ecc := SMap.erase s.ecc (a / 8 * 8) } else s
    | none => s) s

/-- A word fails the test (R346). -/
def marchFault (s : State) (die bank word bit : Nat) (lost : Bool) : State :=
  let (sub, row, col) := wordPlace die bank word
  let s := ((s.wr die Reg.MARCH_FAULT_BANK bank).wr die Reg.MARCH_FAULT_SUBARRAY sub).wr die Reg.MARCH_FAULT_ROW row
  let s := ((s.wr die Reg.MARCH_FAULT_COLUMN col).wr die Reg.MARCH_FAULT_BIT bit).wrB die Reg.MARCH_FAULT_DATA_LOST lost
  let s := ((s.wr die Reg.MARCH_FAULT_VALID 1).inc die Reg.MARCH_FAULTS_COUNT).irq die 0x08 1
  let s := (s.archive 0x08 1 .fault [die, bank, word, bit, ofBool lost]).wr die Reg.MARCH_STAT_STATE 3
  let g := s.eng die
  let s := s.setEng die { g with faulty := true, faults := g.faults ++ [(bank, sub, row, col)] }
  match lost, bankWord die bank word with
  | true, some a =>
    { s with ecc := SMap.insert s.ecc a 2 }.noteEcc die (a % 0x1000000) (die * 32 + 6)
  | _, _ => s

end State

/-- Whether a die has a March page that works now. -/
def hasMarch (s : State) (die : Nat) : Bool := die == 0 || (isScan die && s.powered die)

/-- What a write to `MARCH.CTL` does (R342, R355): STOP acts before START. -/
def marchCtl (die : Nat) (s : State) (v : Nat) : State :=
  let s := if bit v 7 then s.stopMarch die else s
  if bit v 6 && s.rd die Reg.MARCH_CTL_MODE != 0 then s.startMarch die else s

/-- MARCH_START (R342): a write to `MARCH.CTL` with START set. -/
def execMarchStart (w : Who) (die word : Nat) (s : State) : Result :=
  .next (if hasMarch s die then writeThen w die 0x08 0x100 (word ||| 0x40) s (marchCtl die) else s)

/-- MARCH_STOP (R342): a write to `MARCH.CTL` with STOP set and START clear. -/
def execMarchStop (w : Who) (die word : Nat) (s : State) : Result :=
  .next (if hasMarch s die then
    writeThen w die 0x08 0x100 (setField (word ||| 0x80) 6 1 0) s (marchCtl die) else s)

/-- Whether a preserving test has a Loan open: it is restored before a row that fences its bank starts and taken again, from its
first element, when that fence lifts (R92, R344). -/
def loanOpen (s : State) (die : Nat) : Bool :=
  (s.eng die).testing && (s.eng die).testMode == 1 && (s.eng die).loanLeft &&
    !s.loanBarred die (s.rd die Reg.MARCH_STAT_BANK)

/-- The words of the present Loan: the last one of a bank ends with it. -/
def loanWords (s : State) (die : Nat) : Nat :=
  min (s.rd die Reg.MARCH_CFG_LOAN_WORDS) (bankWords die (s.rd die Reg.MARCH_STAT_BANK) - s.rd die Reg.MARCH_STAT_WORD)

/-- Whether the running test tests a word now: it lies in the open Loan, or in the bank of a destructive test. -/
def testsWord (s : State) (die word : Nat) : Bool :=
  if (s.eng die).testMode = 2 then (s.eng die).testing && decide (word < bankWords die (s.rd die Reg.MARCH_STAT_BANK))
  else loanOpen s die && decide (s.rd die Reg.MARCH_STAT_WORD ≤ word) &&
    decide (word < s.rd die Reg.MARCH_STAT_WORD + loanWords s die)

/-- LOAN_END (R344, R346): the present Loan is tested and restored and the engine moves to the next.  With `fault`, word `word`
under test fails in bit `bit`, and cannot be read back when `lost`; the test goes on with the words behind it (DESIGN CHOICE:
how the failing words of one Loan reach the model, log entry 30). -/
def execLoanEnd (die : Nat) (fault : Bool) (word bit : Nat) (lost : Bool) (s : State) : Result :=
  .next (if !hasMarch s die then s
  else if fault then
    if testsWord s die word then s.marchFault die (s.rd die Reg.MARCH_STAT_BANK) word (bit % 72) lost else s
  else if loanOpen s die then
    let w := s.rd die Reg.MARCH_STAT_WORD
    let n := s.rd die Reg.MARCH_CFG_LOAN_WORDS
    ((s.restoreLoan die (s.rd die Reg.MARCH_STAT_BANK) w (loanWords s die)).incWrap die Reg.MARCH_LOANS_COUNT).openLoan die (w + n)
  else s)

/-- LOAN_ABORT (R345): an access to the open Loan; it is retried later, or skipped. -/
def execLoanAbort (die : Nat) (s : State) : Result :=
  .next (if hasMarch s die && loanOpen s die then
    let s := s.inc die Reg.MARCH_ABORTS_COUNT
    let t := (s.eng die).tries + 1
    if s.rd die Reg.MARCH_CFG_RETRIES ≤ t then
      (s.inc die Reg.MARCH_SKIPPED_COUNT).openLoan die (s.rd die Reg.MARCH_STAT_WORD + s.rd die Reg.MARCH_CFG_LOAN_WORDS)
    else s.setEng die { s.eng die with tries := t }
  else s)

/-- A destructive test ends: every word holds the last background, which one is open; with `fault`, a word of it failed, and
whether its read-back decodes is open (R342, R343, R346; log entry 2). -/
def endDestructive (s : State) (die : Nat) (fault : Bool) (word bit : Nat) : State :=
  let bank := s.rd die Reg.MARCH_STAT_BANK
  let (v, s) := s.drawFree
  let s := (s.fillMem (bankRange die bank).1 (bankRange die bank).2 (Config.freeValue v % 2 ^ 64)).rereadRings die bank
  if fault then
    let (u, s) := s.drawFree
    s.marchFault die bank (word % bankWords die bank) (bit % 72) (Config.freeValue u % 2 == 1)
  else s

/-- MARCH_DONE (R342, R343, R346): the test ends.  With LOOP it restarts, and a FAILED stays until the next START. -/
def execMarchDone (die : Nat) (fault : Bool) (word bit : Nat) (s : State) : Result :=
  .next (if hasMarch s die && (s.eng die).testing then
    let s := if (s.eng die).testMode = 2 then endDestructive s die fault word bit else s
    let bad := (s.eng die).faulty
    let s := (s.wr die Reg.MARCH_STAT_STATE (if bad then 3 else 2)).irq die 0x08 0
    let s := s.setEng die { s.eng die with testing := false, tries := 0 }
    if s.on die Reg.MARCH_CTL_LOOP && s.rd die Reg.MARCH_CTL_MODE != 0 then
      (s.wr die Reg.MARCH_STAT_STATE (if bad then 3 else 1)).beginMarch die (s.rd die Reg.MARCH_CTL_MODE)
    else s
  else s)

/-! ### Repair (R347 to R349) -/

/-- Index of a sub-array in the repair map (R348). -/
def mapIndex (die bank sub : Nat) : Nat :=
  if die = 0 then 8 * bank + sub % 8
  else 32 + 66 * (die - 2) + (match bank with
    | 4 => 32 + sub % 16
    | 5 => 48 + sub % 8
    | 6 => 56 + sub % 8
    | 7 => 64 + sub % 2
    | n => 8 * n + sub % 8)

namespace State

/-- The 16 bytes of a sub-array in the repair map. -/
def repairEntry (s : State) (i : Nat) : List Byte :=
  match s.twinData? 33 with
  | some b => cut b (16 * i) 16 ++ List.replicate (16 - (cut b (16 * i) 16).length) 0
  | none => List.replicate 16 0

/-- Slots of an entry that hold a repair, among the `n` two-byte slots from byte `o`. -/
def repairUsed (s : State) (i o n : Nat) : Nat :=
  ((List.range n).filter fun k => bit (ofLE (cut (s.repairEntry i) (o + 2 * k) 2)) 15).length

/-- Spare rows (kind 0) or columns (kind 1) left in a sub-array. -/
def sparesLeft (s : State) (die bank sub kind : Nat) : Nat :=
  let i := mapIndex die bank sub
  let lost := ((s.eng die).unsaved.filter fun u => u.1 == i && u.2.1 == kind).length
  if kind = 0 then 4 - s.repairUsed i 0 4 - lost
  else if isScan die && bank == 7 then 0 else 2 - s.repairUsed i 8 2 - lost

/-- The words of a row or column of a sub-array meet an exempt range (R349). -/
def repairExempt (s : State) (die bank sub kind index : Nat) : Bool :=
  let cols := if isScan die && bank == 7 then 128 else 32
  (s.exempts die bank).any fun e =>
    if kind = 0 then decide (16384 * sub + cols * index ≤ e.2) && decide (e.1 < 16384 * sub + cols * (index + 1))
    else (List.range (16384 / cols)).any fun r =>
      decide (e.1 ≤ 16384 * sub + cols * r + index) && decide (16384 * sub + cols * r + index ≤ e.2)

/-- The first reason that refuses a repair (R349). -/
def repairRefusal (s : State) (die bank sub kind index : Nat) : Nat :=
  let g := s.eng die
  let known := g.faults.any fun f => f.1 == bank && f.2.1 == sub && (if kind = 0 then f.2.2.1 == index else f.2.2.2 == index)
  let tests : List (Nat × Bool) :=
    [(1, !known), (2, s.sparesLeft die bank sub kind == 0), (3, s.repairExempt die bank sub kind index),
     (4, isScan die && bank == 7 && s.live die), (5, g.testing || g.repairing.isSome)]
  ((tests.find? (·.2)).map (·.1)).getD 0

/-- Shows the spares left of a sub-array. -/
def showSpares (s : State) (die bank sub : Nat) : State :=
  (s.wr die Reg.MARCH_REPAIR_STAT_ROWS_LEFT (s.sparesLeft die bank sub 0)).wr die Reg.MARCH_REPAIR_STAT_COLS_LEFT
    (s.sparesLeft die bank sub 1)

/-- The repair map with one more repair in the first free slot of its kind. -/
def mapWith (s : State) (i kind index : Nat) : List Byte :=
  let body := (s.twinData? 33).getD []
  let body := body ++ List.replicate (16 * 428 - body.length) 0
  let o := if kind = 0 then 0 else 8
  let n := if kind = 0 then 4 else 2
  match (List.range n).find? fun k => !bit (ofLE (cut body (16 * i + o + 2 * k) 2)) 15 with
  | some k =>
    let a := 16 * i + o + 2 * k
    body.take a ++ toLE 2 (0x8000 + index) ++ body.drop (a + 2)
  | none => body

end State

/-- What a write to `MARCH.REPAIR` does (R349). -/
def marchRepair (die : Nat) (s : State) (v : Nat) : State :=
  if !bit v 17 then s
  else
    let bank := field v 0 3
    let sub := field v 3 4
    let s := s.showSpares die bank sub
    match s.repairRefusal die bank sub (field v 7 1) (field v 8 9) with
    | 0 =>
      ((s.wr die Reg.MARCH_REPAIR_STAT_STATE 1).wr die Reg.MARCH_REPAIR_STAT_CODE 0).setEng die
        { s.eng die with repairing := some (bank, sub, field v 7 1, field v 8 9) }
    | c => ((s.wr die Reg.MARCH_REPAIR_STAT_STATE 3).wr die Reg.MARCH_REPAIR_STAT_CODE c).irq die 0x08 3

/-- MARCH_REPAIR (R349): a write to `MARCH.REPAIR` with GO set. -/
def execMarchRepair (w : Who) (die word : Nat) (s : State) : Result :=
  .next (if hasMarch s die then writeThen w die 0x08 0x120 (word ||| 2 ^ 17) s (marchRepair die) else s)

/-- REPAIR_DONE (R349): the map of the sub-array has switched and is rewritten, unless its write failed. -/
def execRepairDone (die : Nat) (written : Bool) (s : State) : Result :=
  .next (match (s.eng die).repairing with
    | some (bank, sub, kind, index) =>
      let i := mapIndex die bank sub
      let g := { s.eng die with repairing := none }
      let s := (s.setEng die g).wr die Reg.MARCH_REPAIR_STAT_STATE 2
      let s := if written then s.twinWrite 33 (s.mapWith i kind index)
        else (s.setEng die { g with unsaved := g.unsaved ++ [(i, kind, index)] }).wr die Reg.MARCH_REPAIR_STAT_CODE 6
      (s.showSpares die bank sub).irq die 0x08 2
    | none => s)

end Sys2Proof.Machine
end

