-- ==== Sys2Proof/Machine/PairState.lean ====
section
/-! DEFINITION.  The state of a pair that other chapters act on (spec/09 R297, R304, R321): its changes and the entry
to NOSYNC. -/

namespace Sys2Proof.Machine

open Sys2Proof.Bits

namespace State

/-- `PAIR.STAT.STATE` (R297). -/
def pairState (s : State) : Nat := s.rd 0 Reg.PAIR_STAT_STATE

/-- The pair state changes; entry to SYNCED clears DIVERGED (R321), and a synchronised standby (SYNCED or SILENT) that becomes
not-synchronised is error cause 7 (R189). -/
def setPair (s : State) (n : Nat) : State :=
  if s.pairState = n then s
  else
    let s := if (s.pairState = 4 ∨ s.pairState = 6) ∧ (n = 5 ∨ n = 7) then s.raiseCause 7 else s
    let s := (s.wr 0 Reg.PAIR_STAT_STATE n).irq 0 0x15 0
    if n = 4 then s.wr 0 Reg.PAIR_STAT_DIVERGED 0 else s

/-- The part stands by without a usable state: it runs no frames, so it enters Stop with cause PAIR (R206, R302). -/
def standDown (s : State) : State :=
  let s := { s with pair := { s.pair with broken := none, done := none } }
  if s.mode = 0 then s else s.enterStop 5

/-- Synchronisation ends (R304): 1 ABORT, 2 DIVERGED, 3 MODE, 4 INCOMPLETE, 5 CONFIG, 6 LINK; 0 for an entry to NOSYNC
that ends none. -/
def noSync (s : State) (cause : Nat) : State :=
  if s.pairState = 5 then s else ((s.wr 0 Reg.PAIR_STAT_CAUSE cause).setPair 5).standDown

/-- The frame whose program the part executes: a standby runs a mirrored frame one frame late (R302). -/
def workFrame (s : State) : Nat := (s.pair.apply.map MirrorRx.frame).getD s.frameNo

/-- A bulk synchronisation is in progress: this part is in BULK, or serves one as the active part (R305). -/
def bulkRuns (s : State) : Bool := s.pairState == 3 || s.pair.bulk

/-- The partner part can be reached: the link is up and not silent. -/
def partnerReachable (s : State) : Bool := s.on 0 Reg.PAIR_CFG_EN && s.on 0 Reg.PAIR_STAT_LINK

end State

end Sys2Proof.Machine
end

