-- ==== Sys2Proof/Machine/Change.lean ====
section
/-! DEFINITION.  Online change (spec/07 R219 to R237): loading, the pre-switch checks, the carry-over, the switch, the
revert, and the change notices between partners. -/

namespace Sys2Proof.Machine

open Sys2Proof.Bits

namespace State

/-! ### Loading (R219 to R221) -/

/-- The first code that refuses the image of a load before its sections are placed (R220). -/
def loadCode (s : State) (image : List Byte) : Nat :=
  let secs := sectionsOf image
  let ranges := (secs.filter fun k => k.1.kind ≤ 4).map fun k => k.1.range
  if !formatOk 0x47484359 (fun k => decide (1 ≤ k) && decide (k ≤ 12)) image then 2
  else if cut image 24 32 ≠ s.change.running then 3
  else if !crcsOk secs then 4
  else if (secs.any fun k => decide (k.1.kind ≤ 4) && !sectionRoom k.1) ∨
      ranges.any (fun r => (s.change.footprint ++ s.change.execRanges).any r.meets) then 5
  else if !carrySectionOk (dataOf (secs.map (·.1)) 10) || !carrySectionOk (dataOf (secs.map (·.1)) 11) then 6
  else 0

/-- Whether a write of the loader is held: to a bank or the bit store that a running row fences (R90), to the masks while a
Signal Box row runs (R121), to the rack while a Signal Box or Timer rack row runs (R139).  The load then goes on when the
row has ended. -/
def placeHeld (s : State) (image : List Byte) : Bool :=
  s.loadCode image == 0 && (sectionsOf image).any fun k =>
    match k.1.kind with
    | 1 => bit (s.fenceMask k.1.die) (bankOf k.1.die k.1.target)
    | 2 => s.rowRunning k.1.die 0
    | 3 => bit (s.fenceMask k.1.die) 7
    | 4 => timrHeld s k.1.die
    | _ => false

/-- The carry-over list of the change, or of its revert. -/
def changeCarry (s : State) : List Carry :=
  carryList (dataOf s.change.sections (if s.change.reverting then 11 else 10))

/-- Places the sections of a checked image beside the running program; 0, or the code that refuses it (R220, R268). -/
def placeChange (s : State) (secs : List Section) : State × Nat :=
  let s := secs.foldl (fun s k => s.placeSection k k.die) s.copyTables
  let s := (scanDies.filter (inDies (namedDies secs))).foldl (fun s d => (s.disturbPart d).dropPoints d) s
  let s := (s.wr 0 Reg.CAT_STAT_CHECK_FAIL 0).wr 0 Reg.CAT_STAT_FAIL_CODE 0
  match s.tableFailure (1 - s.catActive) with
  | some (c, i, p) =>
    (((((s.wr 0 Reg.CAT_STAT_CHECK_FAIL 1).wr 0 Reg.CAT_STAT_FAIL_CODE c).wr 0 Reg.CAT_STAT_FAIL_INDEX i).wr 0
      Reg.CAT_STAT_FAIL_PORT p).irq 0 0x19 1, 2)
  | none =>
    (s, if (secs.all fun k => s.sectionHolds k k.die) ∧ (scanDies.filter (inDies (namedDies secs))).all (s.rowsHeld secs)
      then 0 else 4)

/-- The load of an image ends (R220). -/
def endLoad (s : State) (image : List Byte) : State :=
  match s.loadCode image with
  | 0 =>
    let secs := (sectionsOf image).map (·.1)
    let r := s.placeChange secs
    let c := { r.1.change with
      placed := secs.length, identity := leAt image 16 8, digest := Sha.sha256 image, result := cut image 56 32
      resultAt := leAt image 88 4, resultLen := leAt image 92 4, allowance := leAt image 12 4, sections := secs
      checking := none, reverting := false, saved := none }
    if r.2 = 0 then ({ r.1 with change := c }.stageArea).changeTo 2 0 else r.1.changeTo 0 r.2
  | c => s.changeTo 0 c

/-! ### The pre-switch checks (R225 to R227) -/

/-- The carry window W in µs (R225). -/
def carryWindow (s : State) : Int :=
  let p : Int := s.rd 0 Reg.TICK_PERIOD_US
  (p * 5000 - (s.rd 0 Reg.FWATCH_COMMIT_AT_US : Int) * 5000 - 56 * 5000 - p) / 5000

/-- R226 code 9. -/
def allowanceBad (s : State) : Bool :=
  let l := carryList (dataOf s.change.sections 10)
  decide (s.carryWindow < (s.change.allowance : Int)) ||
    scanDies.any fun d => decide (s.change.allowance * 200 < carryTime (max 1 (s.rd 0 Reg.FAB_BURST_LIMIT_BEATS)) l d)

/-- R226 code 10. -/
def frameBad (s : State) : Bool :=
  let p := s.rd 0 Reg.TICK_PERIOD_US
  decide (s.rd 0 Reg.TICK_MAJOR_FRAMES * p + s.rd 0 Reg.FWATCH_COMMIT_AT_US < p + 251)

/-- The values that a switch restores: task words for a revert. -/
def targetTasks (s : State) : List (Nat × List Nat) :=
  if s.change.reverting then ((s.change.saved.map Saved.tasks).getD []).map fun t => (t.1, leWords (toLE 8 t.2.1 ++ toLE 4 t.2.2) 0 3)
  else taskEntries (dataOf s.change.sections 6)

/-- R226 code 13: DIES, and the die of a queue source (R187), of every TASKS entry. -/
def diesBad (s : State) : Bool :=
  (s.targetTasks.any fun t =>
    let dies := field ((t.2[0]?).getD 0) 14 6
    let trig := (t.2[1]?).getD 0
    (scanDies.any fun d => inDies dies d && !s.live d) || (field trig 0 3 == 4 && !s.live (field trig 7 3))) ||
  (s.catEntries (1 - s.catActive)).any fun e => e.out && scanDies.any fun d => inDies e.dies d && !s.live d

/-- The first failing pre-switch check (R226), for a revert without the checks of the image (R233).  `result`: the bytes
at RESULT_AT in the Repository; `partner`: the identity of the change that the partner holds LOADED, 0 for none. -/
def preSwitch (s : State) (result : List Byte) (partner identity : Nat) (digest : List Byte) : Nat :=
  let c := s.change
  let tests : List (Nat × Bool) :=
    [(7, !c.reverting && (identity != c.identity || digest != c.digest)),
     (8, !c.reverting && (!(c.sections.all fun k => s.sectionHolds k k.die) ||
        !((scanDies.filter (inDies (namedDies c.sections))).all (s.rowsHeld c.sections)) ||
        result.length != c.resultLen || Sha.sha256 result != c.result)),
     (9, !c.reverting && s.allowanceBad), (10, s.frameBad), (11, s.partnerReachable && partner != c.identity),
     (12, s.shunting), (13, s.diesBad)]
  ((tests.find? (·.2)).map (·.1)).getD 0

/-- The switch frame of R227: the first frame with m = 0 whose points instant lies after now. -/
def switchFrameNext (s : State) : Nat :=
  let major := s.rd 0 Reg.TICK_MAJOR_FRAMES
  let p := 1000 * s.rd 0 Reg.TICK_PERIOD_US
  let k := major - s.minor
  let g (k : Nat) : Int := (s.frame.tickTime : Int) + (k - 1 : Nat) * p + 1000 * (s.rd 0 Reg.FWATCH_COMMIT_AT_US : Int) - 250000
  s.frameNo + if (s.time : Int) < g k then k else k + major

/-- Arms the change for frame `f`. -/
def armChange (s : State) (f : Nat) : State :=
  { s with change := { s.change with switchFrame := f, checking := none, points := false, stopped := false, go := false
                                     carryAt := 0, carryDone := 0 } }.changeTo (if s.change.reverting then 6 else 3) 0

/-- Payload of an ARM or GO notice: the identity and frame s (R235; the layout is the model's own). -/
def noticeBytes (s : State) : List Byte := toBE 8 s.change.identity ++ toBE 6 s.change.switchFrame

/-- A switch or revert is armed and its carry has not started. -/
def changeArmed (s : State) : Bool := (s.change.state == 3 || s.change.state == 6) && s.change.carryAt == 0

/-- The carry of a switch or revert has started. -/
def changeCarrying (s : State) : Bool := s.change.state == 4 || (s.change.state == 6 && s.change.carryAt != 0)

/-- The dies that the change names with TTBL sections. -/
def changeDies (s : State) : List Nat := scanDies.filter (inDies (namedDies s.change.sections))

/-- Cancels the pending swaps of the named dies (R229, R233, R235). -/
def cancelSwaps (s : State) : State := s.changeDies.foldl (fun s d => (s.disturbPart d).dropPoints d) s

/-- An armed change does not switch: LOADED, or SWITCHED for a revert (R229, R236). -/
def refuseCarry (s : State) (code : Nat) : State :=
  let back := if s.change.reverting then 5 else 2
  let s := s.cancelSwaps
  { s with change := { s.change with reverting := false } }.changeTo back code

/-! ### The carry-over (R222 to R225) -/

/-- Copies a word of a MEM entry; `none` when the source cannot be read (double-bit error, TARGET_ABSENT). -/
def carryWord (s : State) (e : Carry) (i : Nat) : Option State :=
  let a := e.from' + 8 * i
  let b := e.to' + 8 * i
  let put (s : State) (v : Nat) : State :=
    if 0x800000 ≤ b then setBitWord s e.dst (field b 17 3) (field b 3 14) (BitVec.ofNat 64 v) else s.store (phys e.dst b) 8 v
  match e.kind with
  | 2 => some (put s (e.from' + 2 ^ 32 * e.from'))
  | _ =>
    if (e.src ≠ e.dst ∧ s.absentDie e.src) ∨ s.eccAt (phys e.src a) = 2 then none else some (put s (s.peek e.src a 8))

/-- Copies or sets element `i` of a TIMER, COUNTER or PRESET entry. -/
def carryElement (s : State) (e : Carry) (i : Nat) : Option State :=
  let d := e.dst
  let preset (s : State) (src dst : Nat) : State := copyEntry s d [Reg.TIMR_CFG_TYPE, Reg.TIMR_PRESET_VALUE] src dst
  match e.kind with
  | 3 => some ((preset s (e.from' + i) (e.to' + i)).setTimer d (e.to' + i) (s.timer d (e.from' + i)))
  | 4 => some ((preset s (8192 + e.from' + i) (8192 + e.to' + i)).setCounter d (e.to' + i) (s.counter d (e.from' + i)))
  | _ =>
    let a := e.from' + 8 * i
    if s.eccAt (phys d a) = 2 then none
    else
      let w := rackWin (e.to' + i)
      some ((s.wr d (Reg.TIMR_CFG_TYPE.w w) (s.load (phys d a) 4)).wr d (Reg.TIMR_PRESET_VALUE.w w) (s.load (phys d (a + 4)) 4))

/-- Runs the words or elements `i` of an entry, `n` of them; the number that met a fault, if any (R225). -/
def carryRun (step : State → Nat → Option State) : Nat → Nat → State → State × Option Nat
  | 0, _, s => (s, none)
  | n + 1, i, s =>
    match step s i with
    | some s => carryRun step n (i + 1) s
    | none => (s, some i)

/-- Counts and archives a carry fault: entry index, die, word. -/
def carryFault (s : State) (index die word : Nat) : State :=
  { s with change := { s.change with carryFaults := s.change.carryFaults + 1 } }.archive 0x23 74 .info [index, die, word]

/-- Runs one entry with its index in the list (R224, R225). -/
def carryEntry (s : State) (e : Carry × Nat) : State :=
  let r := if e.1.kind ≤ 2 then carryRun (fun s i => s.carryWord e.1 i) (e.1.len / 8) 0 s
    else carryRun (fun s i => s.carryElement e.1 i) e.1.len 0 s
  match r.2 with
  | none => r.1
  | some i => r.1.carryFault e.2 e.1.dst i

/-- The entries of a die with their indices. -/
def carryOf (s : State) (die : Nat) : List (Carry × Nat) := (s.changeCarry.zipIdx).filter fun e => e.1.dst == die

/-- The carry of a die ends (R224). -/
def endCarry (s : State) (die : Nat) : State :=
  let s := (s.carryOf die).foldl carryEntry s
  { s with change := { s.change with carryDone := s.change.carryDone ||| dieBit die
                                     carryNs := max s.change.carryNs (s.time - s.change.carryAt) } }.showChange

/-- Dies whose carry has not ended. -/
def carryOpen (s : State) : List Nat := scanDies.filter fun d => !inDies s.change.carryDone d && !(s.carryOf d).isEmpty

/-- A carry that has not ended is stopped: its entries not yet run count as faults (R225).  How many have run at that
instant the rule leaves open; none is taken as run (DESIGN CHOICE, log entry 45). -/
def stopCarry (s : State) : State :=
  s.carryOpen.foldl (fun s d =>
    let s := (s.carryOf d).foldl (fun s e => s.carryFault e.2 d 0) s
    { s with change := { s.change with carryDone := s.change.carryDone ||| dieBit d
                                       carryNs := max s.change.carryNs (s.time - s.change.carryAt) } }.showChange) s

/-! ### The carry start and the switch (R228 to R232) -/

/-- The stored fields of one half of the Station Table and the Catalogue. -/
def tablesOf (s : State) (half : Nat) : SMap Nat :=
  s.regs.filter fun e =>
    (stnFields.any fun f => e.1 % 2 ^ 26 == (f.w 0).key 0 && e.1 / 2 ^ 26 / 1024 == half) ||
      (catFields.any fun f => e.1 % 2 ^ 26 == (f.w 0).key 0 && e.1 / 2 ^ 26 / 24576 == half)

/-- What a revert restores (R233). -/
def saveNow (s : State) : Saved :=
  { tasks := (List.range 64).map fun t =>
      let w := s.taskWords t
      (t, (w[0]?).getD 0 + 2 ^ 32 * (w[1]?).getD 0, (w[2]?).getD 0)
    retained := s.retWords, tables := s.tablesOf s.catActive, footprint := s.change.footprint
    running := s.change.running, record := s.programRecord }

/-- The task table and the retained list take their new values (R228). -/
def applyTables (s : State) : State :=
  let tasks := s.targetTasks
  let ret := if s.change.reverting then (s.change.saved.map Saved.retained).getD []
    else leWords (dataOf s.change.sections 9) 0 ((dataOf s.change.sections 9).length / 4)
  let s := tasks.foldl (fun s t => s.setTaskWords t.1 t.2) s
  let s := if tasks.isEmpty then s else s.hotLost
  if ret.isEmpty then s else (s.setRetWords ret).hotLost

/-- Tasks whose words the switch has changed (R230). -/
def changedTasks (s : State) (old : Saved) : List Nat :=
  (old.tasks.filter fun t => leWords (toLE 8 t.2.1 ++ toLE 4 t.2.2) 0 3 != s.taskWords t.1).map (·.1)

/-- The second condition of R229. -/
def pointsOk (s : State) : Bool := s.changeDies.isEmpty || (s.change.points && s.on 0 Reg.TICK_STAT_POINTS_PENDING)

/-- Global time of the carry start (R228). -/
def carryInstant (s : State) : Nat := s.frame.tickTime + 1000 * (s.rd 0 Reg.FWATCH_COMMIT_AT_US + 56)

/-- The carry starts (R229): the change cannot fail any more. -/
def startCarry (s : State) : State :=
  let saved := if s.change.reverting then s.change.saved else some s.saveNow
  let before := s.saveNow
  let s := { s with change := { s.change with saved := saved, carryAt := s.time, carryDone := 0, carryFaults := 0, carryNs := 0 } }
  let s := s.applyTables
  let s := { s with change := { s.change with discard := s.changedTasks before } }
  let s := if s.pairState = 2 then s.partnerSend 0x0A 0 s.frameNo s.noticeBytes else s
  if s.change.reverting then s.showChange else s.stageArea.changeTo 4 0

/-- The program record of the program that runs after the present switch (R214, R233). -/
def recordAfter (s : State) : List Byte :=
  if s.change.reverting then
    let r := (s.change.saved.map Saved.record).getD []
    s.recordWith (cut r 0 40) 0
  else s.recordWith (toLE 4 s.change.resultAt ++ toLE 4 s.change.resultLen ++ s.change.result) s.change.identity

/-- The pending trigger of a task is discarded (R230). -/
def discardTrigger (s : State) (t : Nat) : State :=
  { (s.wr 0 (Reg.TASK_STAT_PENDING.w t) 0).wr 0 (Reg.TASK_STAT_PEND_COUNT.w t) 0 with causes := SMap.erase s.causes t }

/-- The Timetables of the named dies swap at Ts, whatever became of the points set since the carry start (R229). -/
def swapNamed (s : State) : State :=
  let s := { s.changeDies.foldl swapBanks s with points := if s.change.points then ⟨false, 0, 0⟩ else s.points }
  if s.change.points then s.wr 0 Reg.TICK_STAT_POINTS_PENDING 0 else s

/-- The key of a table entry, moved to one half of its table. -/
def halfKey (half k : Nat) : Nat :=
  let n := if stnFields.any fun f => k % 2 ^ 26 == (f.w 0).key 0 then 1024 else 24576
  k % 2 ^ 26 + 2 ^ 26 * (half * n + k / 2 ^ 26 % n)

/-- Restores the tables saved at the switch into the shadows (R233), whichever half is now the shadow. -/
def restoreTables (s : State) : State :=
  match s.change.saved with
  | some o =>
    let gone := s.tablesOf (1 - s.catActive)
    let s := { s with regs := SMap.keep (fun k => !(gone.any fun e => e.1 == k)) s.regs }
    { s with regs := o.tables.foldl (fun m e => SMap.insert m (halfKey (1 - s.catActive) e.1) e.2) s.regs }
  | none => s

/-- The switch at Ts (R228, R230, R232, R233, R236). -/
def switchNow (s : State) : State :=
  let s := s.stopCarry
  let rec' := s.recordAfter
  let s := s.swapNamed
  let s := (if s.change.reverting then s.restoreTables else s).swapTables
  let s := s.change.discard.foldl discardTrigger s
  let foot := footRanges (dataOf s.change.sections 12)
  let c := s.change
  let c := if c.reverting then
      { c with footprint := (c.saved.map Saved.footprint).getD [], running := (c.saved.map Saved.running).getD c.running }
    else { c with running := c.result, footprint := if foot.isEmpty then c.footprint else foot }
  let to' := if c.reverting then 2 else 5
  let s := { s with
    change := { c with reverting := false, carryAt := 0, recordDue := true, saved := if c.reverting then none else c.saved }
    prog := { s.prog with changed := true } }
  (s.twinWrite 2 rec').changeTo to' 0

/-- What a tick does to the change (R228 to R230, R235); the frame number is that of the new frame.  A standby whose go
marker has not arrived becomes not-synchronised. -/
def changeAtTick (s : State) : State :=
  if s.frameNo = s.change.switchFrame ∧ s.changeCarrying then s.switchNow
  else if s.change.switchFrame ≤ s.frameNo ∧ s.changeArmed then
    let s := s.refuseCarry (if s.on 0 Reg.TICK_STAT_POINTS_PENDING || s.changeDies.isEmpty then 15 else 14)
    if s.standby then s.noSync 5 else s
  else s

end State

/-! ### Commands -/

/-- CHANGE_LOAD (R219, R221, R236): the entry with tag 0xC001 at the head of Keeper queue Q13. -/
def execChangeLoad (s : State) : Result :=
  .next (match s.ring 0 13 with
    | e :: _ =>
      if s.firmware && decide (e.hi % 2 ^ 16 = 0xC001) then
        let s := (s.popQueue 0 13).1
        if (1 ≤ s.change.state ∧ s.change.state ≤ 4) ∨ s.change.state = 6 then s.changeCode 1
        else
          let s := s.settle
          { s with change := { s.change with loadAt := e.lo * 256, placed := 0, identity := 0, sections := [] } }.changeTo 1 0
      else s
    | [] => s)

/-- CHANGE_LOAD_END (R220, R237): the load of the image that the Repository holds at the requested address ends; not while
one of its writes is held. -/
def execChangeLoadEnd (image : List Byte) (s : State) : Result :=
  .next (if s.change.state = 1 ∧ s.firmware ∧ !s.placeHeld image then s.endLoad image else s)

/-- CHANGE_DISCARD (R219, R236): the entry with tag 0xC002 at the head of Keeper queue Q13. -/
def execChangeDiscard (s : State) : Result :=
  .next (match s.ring 0 13 with
    | e :: _ =>
      if s.firmware && decide (e.hi % 2 ^ 16 = 0xC002) then
        let s := (s.popQueue 0 13).1
        if s.change.state = 2 then
          { s with change := { s.change with sections := [], checking := none } }.changeTo 0 0
        else s.changeCode 1
      else s
    | [] => s)

/-- CHANGE_COMMIT (R226, R485, R486): the waiting frame with OP 0x02. -/
def execChangeCommit (s : State) : Result :=
  .next (s.authCommand 0x02 rolesEW (fun p => p.length == 40) fun s _ p =>
    if s.change.state = 2 ∧ s.change.checking = none ∧ s.on 0 Reg.MODE_STAT_PENDING = false ∧
        s.on 0 Reg.MODE_STAT_PREPARING = false ∧ s.activating = false then
      ⟨{ s with change := { s.change with checking := some (ofBE (cut p 0 8), cut p 8 32), reverting := false } }, .started, 0⟩
    else ⟨s.changeCode 1, .refused, 1⟩)

/-- PRE_SWITCH_CHECK_END (R226, R227, R233, R235): `result` is what the Repository holds at RESULT_AT, `partner` the
identity of the change that the partner holds LOADED. -/
def execPreSwitchCheckEnd (result : List Byte) (partner : Nat) (s : State) : Result :=
  .next (match s.change.checking with
    | some (identity, digest) =>
      let s := { s with change := { s.change with checking := none } }
      match s.preSwitch result partner identity digest with
      | 0 =>
        let s := if s.on 0 Reg.PAIR_CFG_EN && !s.partnerReachable then s.archive 0x23 75 .info [s.frameNo % 2 ^ 32] else s
        let s := s.armChange s.switchFrameNext
        if s.pairState = 2 then s.partnerSend 0x09 (if s.change.reverting then 1 else 0) s.frameNo s.noticeBytes else s
      | c =>
        let s := if c = 11 then s.archive 0x23 76 .info [partner % 2 ^ 32, partner / 2 ^ 32] else s
        { s with change := { s.change with reverting := false } }.changeTo s.change.state c
    | none => s)

/-- POINTS_INSTANT (R228): at G the part gives points set to every die with a TTBL section.  With a Commit sample less than
250 us behind the tick, G lies in frame s - 2. -/
def execPointsInstant (s : State) : Result :=
  .next (let k := s.change.switchFrame - s.frameNo
  if s.changeArmed ∧ (k = 1 ∨ (k = 2 ∧ s.rd 0 Reg.FWATCH_COMMIT_AT_US < 250)) ∧ !s.change.points then
    let s := s.advanceTime
      (s.frame.tickTime + 1000 * ((k - 1) * s.rd 0 Reg.TICK_PERIOD_US + s.rd 0 Reg.FWATCH_COMMIT_AT_US) - 250000)
    if s.changeDies.isEmpty then s
    else
      let s := { s with change := { s.change with points := true } }
      (s.wr 0 Reg.TICK_POINTS_DIES (namedDies s.change.sections)).pointsGo (namedDies s.change.sections)
  else s)

/-- CARRY_START (R228, R229, R235): the part proceeds, or cancels the swaps.  A standby waits for the go marker. -/
def execCarryStart (s : State) : Result :=
  .next (if s.changeArmed ∧ s.change.switchFrame = s.frameNo + 1 then
    let s := s.advanceTime s.carryInstant
    if s.standby then (if s.pointsOk && s.change.go then s.startCarry else s)
    else if s.change.stopped then s.refuseCarry 15
    else if !s.pointsOk then s.refuseCarry 14
    else s.startCarry
  else s)

/-- CARRY_END (R224): the DMA of a die has run its entries. -/
def execCarryEnd (die : Nat) (s : State) : Result :=
  .next (if s.changeCarrying && s.carryOpen.contains die then s.endCarry die else s)

/-- CARRY_DEADLINE (R225): 1 µs before the switch tick a carry that has not ended is stopped. -/
def execCarryDeadline (s : State) : Result :=
  .next (if s.changeCarrying then
    (s.advanceTime (s.frame.tickTime + 1000 * s.rd 0 Reg.TICK_PERIOD_US - 1000)).stopCarry else s)

/-- CHANGE_REVERT (R233, R485, R486): the waiting frame with OP 0x03.  A refusal reports code 1 and, above it, the present
change state (DESIGN CHOICE on its place in DETAIL, log entry 46). -/
def execChangeRevert (s : State) : Result :=
  .next (s.authCommand 0x03 rolesEW (fun p => p.length == 8) fun s _ p =>
    if s.activating ∨ ofBE p ≠ s.change.identity then ⟨s.changeCode 1, .refused, 1 + 256 * s.change.state⟩
    else if s.change.state = 3 then ⟨s.refuseCarry 0, .started, 0⟩
    else if s.change.state = 5 ∧ s.change.checking = none then
      ⟨{ s with change := { s.change with checking := some (s.change.identity, s.change.digest), reverting := true } }, .started, 0⟩
    else ⟨s.changeCode 1, .refused, 1 + 256 * s.change.state⟩)

/-- RETAINED_RECORD_WRITE (R232): a record of the new list goes beside the newest one. -/
def execRetainedRecordWrite (s : State) : Result :=
  .next (if s.change.recordDue && s.firmware then
    { s.twinWrite 32 (s.retRecord 0) with change := { s.change with recordDue := false } } else s)

end Sys2Proof.Machine
end

