-- ==== Sys2Proof/Machine/Program.lean ====
section
/-! DEFINITION.  Program images and the program record (spec/07 R212 to R215), the Safe image load (spec/06 R204), and
the xSPI port of the Repository (R238). -/

namespace Sys2Proof.Machine

open Sys2Proof.Bits

/-! ### The Repository directory (R215) -/

/-- The die map of a directory: the identity, but a die that is not LIVE goes to the lowest SPARE die not yet taken. -/
def bootMap (s : State) : List Nat :=
  (scanDies.foldl (fun (a : List Nat) d =>
    if s.live d then a ++ [d]
    else a ++ [((scanDies.find? fun x => s.role x == 1 && !a.contains x)).getD d]) [])

/-- The program record that an authentic directory gives. -/
def directoryRecord (s : State) (dir : List Byte) : Option (List Byte) :=
  let slot := byteAt dir 84
  if dir.length = 256 ∧ leAt dir 0 4 = 0x59444952 ∧ slot < 16 ∧ (s.keyRole slot = 2 ∨ s.keyRole slot = 3) ∧
      cmacTag (s.slotKey slot) (dir.take 240) = cut dir 240 16 then
    some (cut dir 4 40 ++ cut dir 44 40 ++ (bootMap s).map (BitVec.ofNat 8) ++ List.replicate 42 0)
  else none

/-! ### Loading a program image (R213) -/

/-- Section kinds of a program image (R212). -/
def programKind (k : Nat) : Bool := (decide (1 ≤ k) && decide (k ≤ 9)) || (decide (12 ≤ k) && decide (k ≤ 14))

/-- The checks of a program image against the length and the digest of its record. -/
def programOk (image rec' : List Byte) : Bool :=
  formatOk 0x47485049 programKind image && crcsOk (sectionsOf image) && image.length == leAt rec' 4 4 &&
    Sha.sha256 image == cut rec' 8 32 && ((sectionsOf image).all fun k => sectionRoom k.1)

/-- A six-bit mask of image dies through the die map. -/
def mapMask (s : State) (m : Nat) : Nat := maskOf (((scanDies.filter (inDies m)).map fun d => s.mapDie d - 2).eraseDups)

/-- The words of a task with their image dies mapped: DIES, and the die of a queue source (R187, R213). -/
def mapTask (s : State) (w : List Nat) : List Nat :=
  let cfg := (w[0]?).getD 0
  let trig := (w[1]?).getD 0
  let trig := if field trig 0 3 = 4 then setField trig 7 3 (s.mapDie (field trig 7 3)) else trig
  [setField cfg 14 6 (mapMask s (field cfg 14 6)), trig, (w[2]?).getD 0]

/-- The Safe image of a program record: at SAFE_AT, or in the program image (R214). -/
def safeOf (rec' image safe : List Byte) : Option (List Byte) :=
  if leAt rec' 40 4 = 0 then
    if programOk image rec' then (((sectionsOf image).find? fun k => k.1.kind == 13).map fun k => k.1.data) else none
  else if safe.length = imageBytes ∧ leAt rec' 44 4 = imageBytes ∧ Sha.sha256 safe = cut rec' 48 32 then some safe else none

namespace State

/-- Stages a Safe image that the digest confirms (R204); the copy follows as `SAFE_IMAGE_LOADED`. -/
def stageSafe (s : State) (image : List Byte) : State :=
  (s.storeBytes (K_DEPOT + safeStage) image).wr 0 Reg.IMG_STAT_SAFE_LOADING 1

/-- Every row of both banks of every die invalid, the task table and the Catalogue cleared (R213). -/
def clearProgram (s : State) : State :=
  let s := scanDies.foldl (fun s d => ((s.invalidateBank d 0).invalidateBank d 1).dropPoints d) s
  let s := (List.range 64).foldl (fun s t => taskFields.foldl (fun s f => s.resetField 0 (f.w t)) s) s
  let s := catFields.foldl (fun s f => ((s.listed 0 f).filter (· < 49152)).foldl (fun s k => s.resetField 0 (f.w k)) s) s
  s.showTables.hotLost

/-- Places FRAME (R212, R213). -/
def placeFrame (s : State) (data : List Byte) : State :=
  let w (n : Nat) : Nat := leAt data (4 * n) 4
  [(Reg.TICK_PERIOD_US, w 0), (Reg.TICK_MAJOR_FRAMES, w 1), (Reg.TICK_RELEASE_AT_US, w 2), (Reg.FWATCH_SPREAD_BY_US, w 3),
    (Reg.FWATCH_COMMIT_AT_US, w 4), (Reg.TICK_EPOCH_LO_NS, w 5), (Reg.TICK_EPOCH_HI_NS, w 6)].foldl
      (fun s e => s.wr 0 e.1 e.2) s

/-- The shadow half of the tables empty. -/
def emptyShadow (s : State) : State :=
  let gone := s.tablesOf (1 - s.catActive)
  { s with regs := SMap.keep (fun k => !(gone.any fun e => e.1 == k)) s.regs }

/-- Places the die sections of an image through the die map; `only`: of one image die, on to a die of its own (R213,
R284). -/
def placeDies (s : State) (secs : List Section) (only : Option (Nat × Nat)) : State :=
  let mine := secs.filter fun k => decide (k.kind ≤ 5) && match only with | some o => k.die == o.1 | none => true
  let to' (d : Nat) : Nat := match only with | some o => o.2 | none => s.mapDie d
  let t := mine.foldl (fun t k => t.placeSection k (to' k.die)) s
  let mask := maskOf (((mine.filter fun k => k.kind == 5).map fun k => to' k.die - 2).eraseDups)
  if mask = 0 then t else (t.wr 0 Reg.TICK_POINTS_DIES mask).pointsGo mask

/-- Places every section of a program image (R213). -/
def placeProgram (s : State) (secs : List Section) : State :=
  let s := ((secs.filter fun k => k.kind == 14).map Section.data).foldl placeFrame s
  let s := s.placeDies secs none
  let s := (secs.filter fun k => k.kind == 7 || k.kind == 8).foldl (fun s k => s.placeSection k 0) s.emptyShadow
  let shadow := ((s.listed 0 Reg.CAT_ENT_W0_DIES).filter fun k => k / 24576 == 1 - s.catActive)
  let s := shadow.foldl (fun t k => t.wr 0 (Reg.CAT_ENT_W0_DIES.w k) (mapMask s (s.rd 0 (Reg.CAT_ENT_W0_DIES.w k)))) s
  let s := ((s.wr 0 Reg.CAT_STAT_CHECKING 1).wr 0 Reg.CAT_STAT_CHECK_FAIL 0).wr 0 Reg.CAT_STAT_FAIL_CODE 0
  let s := (List.range 64).foldl (fun s t => taskFields.foldl (fun s f => s.resetField 0 (f.w t)) s) s
  let s := (taskEntries (dataOf secs 6)).foldl (fun t e => t.setTaskWords e.1 (mapTask s e.2)) s
  let ret := leWords (dataOf secs 9) 0 ((dataOf secs 9).length / 4)
  let s := (List.range 64).foldl (fun s i => (retFields i).foldl (fun s f => s.resetField 0 f) s)
    (s.putRaw 0 0 [Reg.IMG_RET_CFG_ENTRIES, Reg.IMG_RET_CFG_PF_GRACE] 0)
  let s := s.setRetWords ret
  let s := (List.range ((ret.length - 1) / 2)).foldl (fun t i =>
    if i < 64 then t.wr 0 (Reg.IMG_RETi_W0_DIE.i i) (s.mapDie (s.rd 0 (Reg.IMG_RETi_W0_DIE.i i))) else t) s
  let foot := (footRanges (dataOf secs 12)).map fun r => { r with die := if isScan r.die then s.mapDie r.die else r.die }
  { s with change := { s.change with footprint := foot } }.hotLost

/-- A program-image load fails (R213). -/
def failProgram (s : State) : State :=
  { s.clearProgram with prog := { s.prog with failed := true } }.archive 0x23 72 .info s.timeWords

/-- Loads the program that the record names (R213, R214). -/
def loadProgram (s : State) (rec' image safe : List Byte) : State :=
  let s := match safeOf rec' image safe with
    | some b => s.stageSafe b
    | none => s
  if programOk image rec' then
    let s := s.placeProgram ((sectionsOf image).map (·.1))
    { s with change := { s.change with running := cut rec' 8 32 }, prog := { s.prog with failed := false } }.showChange
  else s.failProgram

end State

/-! ### Commands -/

/-- PROGRAM_IMAGE_LOAD (R212 to R215): Keeper firmware loads the program of the program record, in Stop.  What it reads from
the Repository: the directory, used while twin 2 is empty, the program image and the Safe image at SAFE_AT.  A record
without a program, which a SAFE_IMAGE_LOAD wrote, still gives its Safe image (R485).  RET_DIGEST of a record that a
directory gives is that of the list that the image places. -/
def execProgramImageLoad (directory image safe : List Byte) (s : State) : Result :=
  .next (if s.firmware ∧ s.mode = 0 then
    match s.twinData? 2 with
    | some r =>
      if leAt r 0 8 = 0 then (match safeOf r [] safe with | some b => s.stageSafe b | none => s) else s.loadProgram r image safe
    | none =>
      match directoryRecord s directory with
      | some r =>
        let list := ((s.twinWrite 2 r).loadProgram r image safe).listDigest
        (s.twinWrite 2 (r.take 88 ++ list ++ r.drop 96)).loadProgram r image safe
      | none => s.archive 0x23 73 .info s.timeWords
  else s)

/-- SAFE_IMAGE_LOAD (R204, R214, R485): the waiting frame with OP 0x10; `image` is what the Repository holds at ADDRESS. -/
def execSafeImageLoad (image : List Byte) (s : State) : Result :=
  .next (s.authCommand 0x10 rolesEW (fun p => p.length == 40 && ofBE (cut p 4 4) == imageBytes) fun s _ p =>
    if s.on 0 Reg.IMG_STAT_SAFE_LOADING then ⟨s, .refused, 1⟩
    else
      let b := s.recordNow
      let s := s.twinWrite 2 (b.take 40 ++ toLE 4 (ofBE (cut p 0 4)) ++ toLE 4 imageBytes ++ cut p 8 32 ++ b.drop 80)
      ⟨if image.length = imageBytes ∧ Sha.sha256 image = cut p 8 32 then s.stageSafe image else s, .started, 0⟩)

/-! ### The XSPI page (R238) -/

/-- What a write to `XSPI.XCMD` does. -/
def xspiCmd (s : State) (v : Nat) : State :=
  if !bit v 24 then s
  else
    let s := (s.wr 0 Reg.XSPI_STAT_ERROR 0).wr 0 Reg.XSPI_DONE_BYTES 0
    if 2 ^ s.rd 0 Reg.XSPI_CFG_SIZE < s.rd 0 Reg.XSPI_ADDR_ADDR + s.rd 0 Reg.XSPI_LEN_BYTES then s.wr 0 Reg.XSPI_STAT_RANGE 1
    else (s.wr 0 Reg.XSPI_STAT_RANGE 0).wr 0 Reg.XSPI_STAT_BUSY 1

/-- A soft reset of the page ends an operation at once. -/
def xspiSoftReset (s : State) : State := s.wr 0 Reg.XSPI_STAT_BUSY 0

/-- XSPI_GO (R238): a write to `XSPI.XCMD` with GO set. -/
def execXspiGo (w : Who) (word : Nat) (s : State) : Result :=
  .next (writeThen w 0 0x23 0x10C (word ||| 2 ^ 24) s xspiCmd)

/-- The data of a read reach the buffer or Keeper memory. -/
def xspiStore (s : State) (data : List Byte) : State :=
  if s.on 0 Reg.XSPI_XCMD_DMA then
    let a := s.rd 0 Reg.XSPI_DMA_DST_ADDR
    s.storeBytes (phys 0 a) (data.take (0x400000 - a))
  else (data.zipIdx).foldl (fun s e =>
    let f := Reg.XSPI_BUFw_DATA.i (e.2 / 4)
    s.wr 0 f (setField (s.rd 0 f) (8 * (e.2 % 4)) 8 e.1.toNat)) s

/-- XSPI_DONE (R238): the operation ends; `data` is what the flash gives for a read. -/
def execXspiDone (data : List Byte) (s : State) : Result :=
  .next (if s.on 0 Reg.XSPI_STAT_BUSY then
    let n := s.rd 0 Reg.XSPI_LEN_BYTES
    if s.on 0 Reg.XSPI_XCMD_DIR then ((s.wr 0 Reg.XSPI_STAT_BUSY 0).wr 0 Reg.XSPI_DONE_BYTES n).irq 0 0x23 0
    else if data.length = n then
      (((xspiStore s data).wr 0 Reg.XSPI_STAT_BUSY 0).wr 0 Reg.XSPI_DONE_BYTES n).irq 0 0x23 0
    else s
  else s)

/-- XSPI_DQS_TIMEOUT (R238): a read without strobes ends with an error. -/
def execXspiDqsTimeout (s : State) : Result :=
  .next (if s.on 0 Reg.XSPI_STAT_BUSY && !s.on 0 Reg.XSPI_XCMD_DIR then
    (((s.wr 0 Reg.XSPI_STAT_BUSY 0).wr 0 Reg.XSPI_STAT_ERROR 1).inc 0 Reg.XSPI_ERRORS_COUNT).irq 0 0x23 1
  else s)

end Sys2Proof.Machine
end

