-- ==== Sys2Proof/Machine/Dies.lean ====
section
/-! DEFINITION.  The Scan dies as a whole: roles and their inventory (spec/09 R281 to R284, R320), power and reset of one
die (spec/01 R20, R21, spec/02 R58, spec/14 R458, R466, R469, R470), and the rewrites by which a die's workload moves to
another (spec/09 R283, R292). -/

namespace Sys2Proof.Machine

open Sys2Proof.Bits

/-! ### Roles -/

/-- What the inventory holds of a die (R282): role, cause of the last change, cutovers, time of the last change. -/
structure DieEntry where
  role : Nat
  cause : Nat
  cutovers : Nat
  time : Nat
  deriving DecidableEq, Repr

/-- The 16 bytes of an inventory entry. -/
def DieEntry.bytes (e : DieEntry) : List Byte := toLE 1 e.role ++ toLE 1 e.cause ++ toLE 2 0 ++ toLE 4 e.cutovers ++ toLE 8 e.time

namespace State

/-- The inventory's entry of a die: that of twin 34, or the present role where the twin holds none. -/
def dieEntry (s : State) (d : Nat) : DieEntry :=
  match s.twinData? 34 with
  | some b => let o := 16 * (d - 2); ⟨leAt b o 1 % 4, leAt b (o + 1) 1, leAt b (o + 4) 4, leAt b (o + 8) 8⟩
  | none => ⟨s.role d, 0, 0, 0⟩

/-- Rewrites the inventory. -/
def writeInventory (s : State) (f : Nat → DieEntry) : State := s.twinWrite 34 (scanDies.flatMap fun d => (f d).bytes)

/-- Changes roles (R282): (die, role, cause) each; `cut` adds a cutover to each entry.  The inventory is rewritten
first; ROLE_CHANGED is raised and `MODE.STAT.HOT_OK` is lost (R199). -/
def setRoles (s : State) (l : List (Nat × Nat × Nat)) (cut : Bool := false) : State :=
  if l.isEmpty then s
  else
    let s := s.writeInventory fun d => match l.find? (·.1 == d) with
      | some (_, r, c) => ⟨r, c, satAdd 32 (s.dieEntry d).cutovers (ofBool cut), s.time⟩
      | none => { s.dieEntry d with role := s.role d }
    let roles := l.foldl (fun m e => setField m (2 * (e.1 - 2)) 2 e.2.1) (s.rd 0 Reg.PART_ROLES_ROLES)
    ((s.wr 0 Reg.PART_ROLES_ROLES roles).irq 0 0x17 0).hotLost

/-- Dies with a role. -/
def diesIn (s : State) (r : Nat) : List Nat := scanDies.filter fun d => s.role d == r

/-- The rail of a die is present in this power-on period (R20, R282). -/
def present (s : State) (d : Nat) : Bool := inDies (s.rd 0 Reg.PART_STAT_PRESENT) d

/-! ### Shunting abandoned (R290, R293, R319) -/

/-- Dirty tracking of a die ends. -/
def untrack (s : State) (d : Nat) : State :=
  { s with tracked := minus 6 s.tracked (dieBit d), dirty := SMap.keep (fun k => k / 4096 != d) s.dirty }

/-- A Shunting is abandoned with its code.  The cores of the source stand still till the next tick if the final delta
had begun. -/
def abandonShunt (s : State) (code : Nat) : State :=
  if s.shunting then
    let s := s.untrack (s.rd 0 Reg.SHUNT_STAT_SOURCE)
    let s := { s with shunt := { s.shunt with
      pos := 0, first := false, delivered := false
      fault := s.shunt.fault || (decide (7 ≤ code) && decide (code ≤ 9)) } }
    ((s.wr 0 Reg.SHUNT_STAT_STATE 5).wr 0 Reg.SHUNT_STAT_CODE code).irq 0 0x14 1
  else s

/-- A die has failed (R281, R320): it is OUT with cause failure. -/
def failDie (s : State) (d : Nat) : State :=
  ((s.setBits 0 Reg.PART_STAT_FAILED (dieBit d)).irq 0 0x17 1).setRoles [(d, 2, 2)]

/-- A die of the running Shunting is lost: the target becomes OUT (R293, "When the target or the source fails"). -/
def shuntLoses (s : State) (d : Nat) : State :=
  if !s.shunting then s
  else if s.rd 0 Reg.SHUNT_STAT_SOURCE = d then s.abandonShunt 9
  else if s.rd 0 Reg.SHUNT_STAT_TARGET = d then
    let s := s.abandonShunt 8
    if s.role d = 1 then s.failDie d else s
  else s

/-! ### Reset and power of one die -/

/-- Everything the part holds of a Scan die returns to its reset value: pages, key sequences, queues with the credits
toward them, word cores, slots, rack, Signal Box, memory engines, banks and bit store (R58, R458). -/
def clearDie (s : State) (d : Nat) : State :=
  let other {α : Type} (n : Nat) (m : SMap α) : SMap α := SMap.keep (fun k => k / n != d) m
  let s := { s with
    regs := SMap.keep (fun k => k / 2 ^ 23 % 8 != d) s.regs
    arming := (other 64 s.arming).filter fun e => decide (e.1 < 512) || (e.1 - 512) / 16384 != d
    softReset := other 64 s.softReset
    holding := s.holding.filter fun r => whoDie r.who != d
    queues := other 16 s.queues
    cores := (List.range 4).foldl (fun m n => SMap.put Core.start m (d * 4 + n) { Core.start with
      cycleOff := (2 ^ 64 - s.cycle % 2 ^ 64) % 2 ^ 64 }) (other 4 s.cores)
    latches := other 4 s.latches
    slots := other 8 s.slots
    rowsEnded := SMap.erase s.rowsEnded d
    rowsStarted := SMap.erase s.rowsStarted d
    rowsDone := SMap.erase s.rowsDone d
    skipped := SMap.erase s.skipped d
    dieFlags := SMap.erase s.dieFlags d
    checkPassed := SMap.erase s.checkPassed d
    timers := other 8192 s.timers
    counters := other 4096 s.counters
    sboxes := SMap.erase s.sboxes d
    maskStages := SMap.erase s.maskStages d
    heldMasks := SMap.erase s.heldMasks d
    heldTimr := SMap.erase s.heldTimr d
    engines := SMap.erase s.engines d
    creditsDue := s.creditsDue.filter fun c => c.dst != d && c.src != d }
  let s := (List.range 8).foldl (fun s src => (List.range 16).foldl (fun s q => s.setCredits src d q 0) s) s
  s.clearMem (phys d 0) 0x1000000

/-- The blocks of a Scan die power up: its SYS page reports READY when that has ended (R51; DESIGN CHOICE, log entry 29). -/
def powerUp (s : State) (d : Nat) : State := { s with softReset := SMap.insert s.softReset (d * 64) (s.cycle + 256) }

/-- A reset of one Scan die: 1 PART, 2 POWER, 3 DIE.  Its spoke is fenced (R329); a part-wide points set that names it
ends (R96). -/
def resetDie (s : State) (d cause : Nat) : State :=
  let s := ((s.raiseFence d).disturbPart d).clearDie d
  (((s.wr d Reg.RST_DIE_CAUSE_CAUSE cause).wr d Reg.CLK_STAT_PLL_LOCK 1).wr d Reg.FAB_STAT_FENCED 1).powerUp d

/-- The header switches of a die open (R20, R21). -/
def dieOff (s : State) (d : Nat) : State :=
  let s := s.clearBits 0 Reg.PWR_SW_DIES (dieBit d)
  if s.powered d then
    let s := ((s.raiseFence d).disturbPart d).clearDie d
    let s := (s.clearBits 0 Reg.PWR_STAT_ON (dieBit d)).clearBits 0 Reg.PWR_STAT_RETAINED (dieBit d)
    (s.wr d Reg.PWR_DIE_ON 0).wr d Reg.FAB_STAT_FENCED 1
  else s

/-- The header switches of a die close: a power-on reset of that die alone (R58).  A die whose rail is absent in this
power-on period stays off (R20), and so does a RETIRED die (R17). -/
def dieOn (s : State) (d : Nat) : State :=
  let s := s.setBits 0 Reg.PWR_SW_DIES (dieBit d)
  if !s.powered d && s.present d && inDies (s.rd 0 Reg.PWR_STAT_RAILS) d && s.role d != 3 then
    (s.resetDie d 2).setBits 0 Reg.PWR_STAT_ON (dieBit d)
  else s

/-- A die goes into Retention or resumes (R466): its banks follow, `MEM.PWR` stays. -/
def retainDie (s : State) (d : Nat) (b : Bool) : State :=
  if !s.powered d || inDies (s.rd 0 Reg.PWR_STAT_RETAINED) d == b then s
  else
    let s := if b then s.setBits 0 Reg.PWR_STAT_RETAINED (dieBit d) else s.clearBits 0 Reg.PWR_STAT_RETAINED (dieBit d)
    let s := (s.wrB d Reg.PWR_DIE_RETAINED b).wrB d Reg.PWR_DIE_ON !b
    (banksOf d).foldl (fun s k =>
      if s.rd d (Reg.MEM_PWR_BANKb.j k) = 2 then s
      else s.wr d (Reg.MEM_PWR_STAT_BANKb.j k) (if b then 1 else s.rd d (Reg.MEM_PWR_BANKb.j k))) s

/-! ### A workload moves to another die (R283, R284, R292) -/

end State

/-- A six-bit mask of dies in which die `b` takes the place of die `a`. -/
def moveBit (m a b : Nat) : Nat := if inDies m a then setBit (setBit m (a - 2) false) (b - 2) true else m

namespace State

/-- The name table exchanges the names that two physical dies serve (R283). -/
def swapAlias (s : State) (a b : Nat) : State :=
  let to' (d : Nat) : Nat := if d = a then b else if d = b then a else d
  s.wr 0 Reg.PART_ALIAS_DIES (scanDies.foldl (fun m n => setField m (3 * (n - 2)) 3 (to' (s.dieOf n))) 0)

/-- The rewrites of a cutover from die `a` to die `b` (R292): names, DIES of the Catalogue in both halves and of the
tasks, the dies of the retained list and of `TICK.POINTS`, the die map of the program record (R214), the footprint; the
Tokens that masters of `a` own return (R351). -/
def moveWorkload (s : State) (a b : Nat) : State :=
  let s := s.swapAlias a b
  let s := ((s.listed 0 Reg.CAT_ENT_W0_DIES).filter (· < 49152)).foldl (fun s k =>
    s.wr 0 (Reg.CAT_ENT_W0_DIES.w k) (moveBit (s.rd 0 (Reg.CAT_ENT_W0_DIES.w k)) a b)) s
  let s := (List.range 64).foldl (fun s t => s.wr 0 (Reg.TASK_CFG_DIES.w t) (moveBit (s.rd 0 (Reg.TASK_CFG_DIES.w t)) a b)) s
  let s := (List.range 64).foldl (fun s i =>
    if s.rd 0 (Reg.IMG_RETi_W0_DIE.i i) = a then s.wr 0 (Reg.IMG_RETi_W0_DIE.i i) b else s) s
  let s := s.wr 0 Reg.TICK_POINTS_DIES (moveBit (s.rd 0 Reg.TICK_POINTS_DIES) a b)
  let s := { s with change := { s.change with
    footprint := s.change.footprint.map fun (r : FootRange) => if r.die = a then { r with die := b } else r } }
  ((s.remapRecord a b).returnTokens fun o => whoDie o == a).showTables

/-! ### Operations of the PART page (R281, R284, R320) -/

/-- An operation is refused: 1 STATE, 2 SIDING, 3 TEST, 4 ROLES. -/
def partRefuse (s : State) (c : Nat) : State := s.wr 0 Reg.PART_STAT_REFUSE c

/-- Why RETIRE of a die is refused, if it is. -/
def retireRefusal (s : State) (d : Nat) : Option Nat := if s.role d = 1 ∨ s.role d = 2 then none else some 1

/-- RETIRE (R281): the die is RETIRED and powered off at once. -/
def retireDie (s : State) (d : Nat) : State := ((s.setRoles [(d, 3, 4)]).shuntLoses d).dieOff d

/-- Why RETURN of a die is refused, if it is (R281, R486). -/
def returnRefusal (s : State) (d : Nat) : Option Nat :=
  if s.role d ≠ 2 ∨ !s.present d ∨ inDies s.shunt.returning d ∨ s.activating then some 1
  else if 2 ≤ (s.diesIn 1).length then some 2 else none

/-- RETURN (R281): the destructive test of an OUT die starts; the die is powered for it. -/
def returnDie (s : State) (d : Nat) : State :=
  let s := s.dieOn d
  { s with shunt := { s.shunt with returning := s.shunt.returning ||| dieBit d } }

/-- APPLY (R281, R320): the roles of `PART.CFG.ROLES`; a RETIRED die stays RETIRED.  A die that becomes LIVE or SPARE is
powered. -/
def applyRoles (s : State) : State :=
  let want (d : Nat) : Nat := if s.role d = 3 then 3 else field (s.rd 0 Reg.PART_CFG_ROLES) (2 * (d - 2)) 2
  let n (r : Nat) : Nat := (scanDies.filter fun d => want d == r).length
  if n 0 = 0 ∨ 2 < n 1 then s.partRefuse 4
  else
    let s' := s.setRoles ((scanDies.filter fun d => want d != s.role d).map fun d => (d, want d, 0))
    (scanDies.filter fun d => decide (want d < 2)).foldl dieOn s'

/-- REPLACE (R284): the workload of an OUT or failed die moves to a SPARE die; Keeper firmware then reloads its share of
the program from the image that the program record names. -/
def replaceDie (s : State) (a b : Nat) (image : List Byte) : State :=
  if (s.role a = 2 ∨ inDies (s.rd 0 Reg.PART_STAT_FAILED) a) ∧ s.role a ≠ 3 ∧ s.role b = 1 ∧ s.powered b ∧ s.present b then
    let mine := scanDies.filter fun d => s.mapDie d == a
    let rec' := s.programRecord
    let s := s.setRoles (if s.role a = 2 then [(b, 0, 0)] else [(a, 2, 0), (b, 0, 0)])
    let s := s.moveWorkload a b
    if programOk image rec' then mine.foldl (fun t d => t.placeDies ((sectionsOf image).map (·.1)) (some (d, b))) s
    else s.failProgram
  else s.partRefuse 1

/-- What a write to `PART.REQ` does (R320); `image` is what the Repository holds of the running program. -/
def partReq (image : List Byte) (s : State) (v : Nat) : State :=
  let d := field v 3 3
  match v % 8 with
  | 1 => s.applyRoles
  | 2 => s.replaceDie d (field v 6 3) image
  | 3 => match s.retireRefusal d with | some c => s.partRefuse c | none => s.retireDie d
  | 4 => match s.returnRefusal d with | some c => s.partRefuse c | none => s.returnDie d
  | _ => s

/-! ### Pages that switch, hold and reset dies -/

/-- What a write to `PWR.SW` does (R21): each die whose bit changed is switched. -/
def pwrSw (pre s : State) (_ : Nat) : State :=
  let old := pre.rd 0 Reg.PWR_SW_DIES
  let new := s.rd 0 Reg.PWR_SW_DIES
  scanDies.foldl (fun s d =>
    if inDies new d then dieOn s d
    else if inDies old d || s.powered d then (s.shuntLoses d).dieOff d else s) s

/-- What a write to `PWR.RETAIN` does (R466). -/
def pwrRetain (s : State) (_ : Nat) : State :=
  scanDies.foldl (fun s d => s.retainDie d (inDies (s.rd 0 Reg.PWR_RETAIN_DIES) d)) s

/-- What a write to `RST.DIE_RESET` does (R458, R470). -/
def dieResets (s : State) (v : Nat) : State :=
  let s := (scanDies.filter fun d => inDies v d && !s.live d && s.powered d).foldl (fun s d => (s.shuntLoses d).resetDie d 3) s
  s.wr 0 Reg.RST_DIE_RESET_DIES 0

end State

/-! ### Commands -/

/-- SCAN_RAIL_LOSS (R20, R281, R329, R469): VDD_Sn disappears from a Scan die.  A LIVE die has failed; any other keeps its
role, but the target of a Shunting becomes OUT. -/
def execScanRailLoss (die : Nat) (s : State) : Result :=
  .next (if isScan die && inDies (s.rd 0 Reg.PWR_STAT_RAILS) die then
    let live := s.live die
    let s := (s.clearBits 0 Reg.PWR_STAT_RAILS (dieBit die)).clearBits 0 Reg.PART_STAT_PRESENT (dieBit die)
    let s := (s.irq 0 0x02 1).archive 0x02 1 (if live then .fault else .info) [die]
    let s := ((s.raiseFence die).shuntLoses die).dieOff die
    let s := { s with shunt := { s.shunt with returning := minus 6 s.shunt.returning (dieBit die) } }
    if live then { s.failDie die with frame := { s.frame with lost := s.frame.lost ||| dieBit die } } else s
  else s)

/-- SCAN_RAIL_RETURN (R20, R469): the rail is back; the die stays off until the next power-on reset. -/
def execScanRailReturn (die : Nat) (s : State) : Result :=
  .next (if isScan die && !inDies (s.rd 0 Reg.PWR_STAT_RAILS) die then
    (s.setBits 0 Reg.PWR_STAT_RAILS (dieBit die)).irq 0 0x02 1
  else s)

/-- HEADER_SWITCH (R21): a write to `PWR.SW`. -/
def execHeaderSwitch (w : Who) (word : Nat) (s : State) : Result := .next (writeWith w 0 0x02 0x100 word s State.pwrSw)

/-- DIE_RETAIN (R466): a write to `PWR.RETAIN`. -/
def execDieRetain (w : Who) (word : Nat) (s : State) : Result := .next (writeThen w 0 0x02 0x104 word s State.pwrRetain)

/-- DIE_RESET (R470): a write to `RST.DIE_RESET`. -/
def execDieReset (w : Who) (word : Nat) (s : State) : Result := .next (writeThen w 0 0x03 0x104 word s State.dieResets)

/-- PART_APPLY (R281): `PART.REQ` with OP APPLY. -/
def execPartApply (w : Who) (s : State) : Result := .next (writeThen w 0 0x17 0x100 (1 + 8 * 2 + 64 * 2) s (State.partReq []))

/-- PART_REPLACE (R284): `PART.REQ` with OP REPLACE; `image` is what the Repository holds of the running program. -/
def execPartReplace (w : Who) (die dest : Nat) (image : List Byte) (s : State) : Result :=
  .next (writeThen w 0 0x17 0x100 (2 + 8 * (die % 8) + 64 * (dest % 8)) s (State.partReq image))

/-- DIE_RETIRE (R281, R485): the waiting frame with OP 0x09. -/
def execDieRetire (s : State) : Result :=
  .next (s.authCommand 0x09 rolesEW (fun p => p.length == 4 && isScan (byteAt p 0) && zeroAt p 1 3) fun s _ p =>
    match s.retireRefusal (byteAt p 0) with
    | some c => ⟨s.partRefuse c, .refused, c⟩
    | none => ⟨s.retireDie (byteAt p 0), .done, 0⟩)

/-- DIE_RETURN (R281, R485, R486): the waiting frame with OP 0x0A. -/
def execDieReturn (s : State) : Result :=
  .next (s.authCommand 0x0A rolesEW (fun p => p.length == 4 && isScan (byteAt p 0) && zeroAt p 1 3) fun s _ p =>
    match s.returnRefusal (byteAt p 0) with
    | some c => ⟨s.partRefuse c, .refused, c⟩
    | none => ⟨s.returnDie (byteAt p 0), .started, 0⟩)

/-- RETURN_TEST_END (R281, R343): the destructive test of a returning die ends; every bank and the bit store then hold the
test's last background, a free value. -/
def execReturnTestEnd (die : Nat) (good : Bool) (s : State) : Result :=
  .next (if isScan die && inDies s.shunt.returning die then
    let s := { s with shunt := { s.shunt with returning := minus 6 s.shunt.returning (dieBit die) } }
    let s : State := (banksOf die).foldl (fun (s : State) b =>
      let (k, s) := s.drawFree
      s.fillMem (bankRange die b).1 (bankRange die b).2 (Config.freeValue k)) s
    if !good || s.role die != 2 then s.partRefuse 3
    else if decide (2 ≤ (s.diesIn 1).length) then s.partRefuse 2
    else s.setRoles [(die, 1, 3)]
  else s)

end Sys2Proof.Machine
end

