-- ==== Sys2Proof/Machine/Shunt.lean ====
section
/-! DEFINITION.  Shunting (spec/09 R285 to R294, R319): its checks, the pre-copy, the decision, the final delta and the
cutover. -/

namespace Sys2Proof.Machine

open Sys2Proof.Bits

/-! ### Regions (R287, R288) -/

/-- Regions of the moved state. -/
def regionCount : Nat := 2102

/-- The own-die address of a region of a bank or of the bit store; `none` for the mask table, the rack and the
configuration block. -/
def regionAddr (r : Nat) : Option Nat :=
  if r < 1792 then some (r * 4096)
  else if r < 1984 then some (0x700000 + (r - 1792) * 4096)
  else
    let at' (sp n : Nat) : Option Nat := some (0x800000 + sp * 0x20000 + n * 4096)
    let k := r - 1984
    if k < 8 then at' 0 k else if k < 16 then at' 1 (k - 8) else if k < 48 then at' 2 (k - 16)
    else if k < 56 then at' 3 (k - 48) else if k = 56 then at' 4 0 else if k < 59 then at' 5 (k - 57)
    else if k = 59 then at' 6 0 else if k = 60 then at' 7 0 else none

/-- The RW or RWL field that a key of the register store stands for: of a block register, or `PCTL.EN` and `IRQ_EN` of the
header. -/
def keyField (die key : Nat) : Option FieldDef :=
  let code := key / 2 ^ 17 % 64
  let off := key / 32 % 4096
  if off = 0x00C ∧ key % 32 = 0 then some (PCTL_EN code)
  else if off = 0x024 then some (IRQ_EN_SRC code)
  else ((regFields die code off).find? fun f => f.lsb == key % 32).map (·.w (key / 2 ^ 26))

/-- The region that a stored register field of a Scan die belongs to (R287). -/
def keyRegion (key : Nat) : Option Nat := (keyField (key / 2 ^ 23 % 8) key).bind fieldRegion

/-- The same field on another die. -/
def keyOn (key die : Nat) : Nat := key / 2 ^ 26 * 2 ^ 26 + die * 2 ^ 23 + key % 2 ^ 23

/-- Bytes of a region that a HANDOVER moves of banks C and D: those that the running footprint names, and the handover
record (R287, R294). -/
def handoverRanges (s : State) (die lo hi : Nat) : List (Nat × Nat) :=
  let mine := s.change.footprint.filter fun r => r.die == die && r.kind == 1
  let foot : List (Nat × Nat) := mine.map fun r => (r.first, r.last + 1)
  let cut (l : List (Nat × Nat)) (x : Nat × Nat) : List (Nat × Nat) :=
    l.flatMap fun (r : Nat × Nat) =>
      ([(r.1, min r.2 x.1), (max r.1 x.2, r.2)] : List (Nat × Nat)).filter fun (q : Nat × Nat) => decide (q.1 < q.2)
  let foot : List (Nat × Nat) := s.shunt.excluded.foldl cut foot
  let all : List (Nat × Nat) := foot ++ [(0x7BF000, 0x7C0000)]
  (all.map fun (r : Nat × Nat) => (max lo r.1, min hi r.2)).filter fun (r : Nat × Nat) => decide (r.1 < r.2)

namespace State

/-- Copies the stored fields of one region. -/
def copyFields (s : State) (src dst r : Nat) : State :=
  let mine (d : Nat) (e : Nat × Nat) : Bool := e.1 / 2 ^ 23 % 8 == d && keyRegion e.1 == some r
  let moved := s.regs.filter (mine src)
  { s with regs := moved.foldl (fun m e => SMap.insert m (keyOn e.1 dst) e.2) (s.regs.filter fun e => !mine dst e) }

/-- Copies the rack elements of one region. -/
def copyRack (s : State) (src dst r : Nat) : State :=
  if 2048 ≤ r ∧ r < 2080 then
    { s with timers := SMap.copy s.timers (src * 8192 + (r - 2048) * 256) (dst * 8192 + (r - 2048) * 256) 256 }
  else if 2080 ≤ r ∧ r < 2096 then
    { s with counters := SMap.copy s.counters (src * 4096 + (r - 2080) * 256) (dst * 4096 + (r - 2080) * 256) 256 }
  else s

/-- Copies a region from die to die; its dirty bit clears. -/
def copyRegion (s : State) (src dst r : Nat) (handover : Bool) : State :=
  let s : State := { s with dirty := SMap.erase s.dirty (src * 4096 + r) }
  match regionAddr r with
  | some a =>
    if handover ∧ (r < 1024 ∨ (1792 ≤ r ∧ r < 1984)) then
      (handoverRanges s src a (a + 4096)).foldl (fun s e => s.copyMem (phys src e.1) (phys dst e.1) (e.2 - e.1)) s
    else s.copyMem (phys src a) (phys dst a) 4096
  | none => (s.copyRack src dst r).copyFields src dst r

/-- Dirty regions of a die, rising. -/
def dirtyRegions (s : State) (d : Nat) : List Nat := (SMap.slice s.dirty (d * 4096) (d * 4096 + 4096)).map fun e => e.1 % 4096

end State

/-! ### Acceptance (R285, R286, R291) -/

/-- The bound of R291 in cycles. -/
def deltaCycles (burst bytes : Nat) : Nat :=
  let beats := bytes / 8
  2100 + (beats + (beats + burst - 1) / burst + 1) / 2

namespace State

/-- The Keeper's burst limit. -/
def burst (s : State) : Nat := s.rd 0 Reg.FAB_BURST_LIMIT_BEATS

/-- Whether a row of the active bank is the shunting row that R286 asks for. -/
def shuntRowOk (s : State) (d r : Nat) : Bool :=
  let bank := s.activeBank d
  let f := s.rowField d bank r
  let major := s.rd 0 Reg.TICK_MAJOR_FRAMES
  let need := deltaCycles s.burst (4096 * s.rd 0 Reg.SHUNT_CFG_DELTA_MAX)
  f Reg.TTBL_ROW_W0_ENGINE == 6 && f Reg.TTBL_ROW_W3_SHUNT == 1 && f Reg.TTBL_ROW_W3_EVERY == major &&
    f Reg.TTBL_ROW_W3_PHASE == major - 1 && f Reg.TTBL_ROW_W3_FENCE == 255 && f Reg.TTBL_ROW_W3_ESSENTIAL == 0 &&
    ((s.selectedRows d (major - 1)).all fun o => o == r ||
      decide (s.rowField d bank o Reg.TTBL_ROW_W0_START + s.rowField d bank o Reg.TTBL_ROW_W1_LENGTH ≤ f Reg.TTBL_ROW_W0_START)) &&
    decide (need ≤ f Reg.TTBL_ROW_W1_LENGTH) && decide (need ≤ 20000)

/-- A SPARE die that can take a workload: powered, and present. -/
def spareReady (s : State) (d : Nat) : Bool := isScan d && s.role d == 1 && s.powered d && s.present d

/-- The target that a SHUNT names or selects. -/
def shuntTarget (s : State) (t : Nat) : Option Nat :=
  if t = 0 then scanDies.find? s.spareReady else if s.spareReady t then some t else none

/-- The first failing check of R285, or `none`; `bulk`: a bulk synchronisation is in progress. -/
def shuntRefusal (s : State) (source target : Nat) : Option Nat :=
  if s.shunting ∨ s.bulkRuns ∨ s.mode ≠ 1 ∨ s.activating then some 1
  else if !(isScan source && s.live source) then some 2
  else if (s.shuntTarget target).isNone then some 3
  else if !((s.validRows source (s.activeBank source)).any (s.shuntRowOk source)) then some 4
  else if s.change.state = 1 ∨ s.change.state = 3 ∨ s.change.state = 4 ∨ s.change.state = 6 ∨
      s.on 0 Reg.MODE_STAT_PENDING = true ∨ s.on 0 Reg.MODE_STAT_PREPARING = true then some 5
  else none

/-- A Shunting is requested: the checks, then the start of the pre-copy. -/
def startShunt (s : State) (source target mode : Nat) : State × Option Nat :=
  match s.shuntRefusal source target with
  | some c => (s.wr 0 Reg.SHUNT_STAT_CODE c, some c)
  | none =>
    let s := (s.wr 0 Reg.SHUNT_STAT_STATE 1).wr 0 Reg.SHUNT_STAT_SOURCE source
    let s := (s.wr 0 Reg.SHUNT_STAT_TARGET ((s.shuntTarget target).getD 0)).wr 0 Reg.SHUNT_STAT_MODE mode
    let s := ((s.wr 0 Reg.SHUNT_STAT_CODE 0).wr 0 Reg.SHUNT_STAT_ACCEPTED 0).incWrap 0 Reg.SHUNT_PASSES_COUNT
    let s := s.untrack source
    ({ s with tracked := s.tracked ||| dieBit source
              shunt := { s.shunt with pos := 0, first := true, delivered := false, fault := false } }, none)

/-- What a write to `SHUNT.REQ` does (R319). -/
def shuntReq (s : State) (v : Nat) : State :=
  let st := s.rd 0 Reg.SHUNT_STAT_STATE
  let s := if bit v 1 && (st == 1 || st == 2) then s.abandonShunt 11 else s
  if bit v 0 then (s.startShunt (field v 2 3) (field v 5 3) (field v 8 1)).1 else s

/-! ### Pre-copy (R289) -/

/-- The next region that the pass copies. -/
def nextRegion (s : State) : Option Nat :=
  if s.shunt.first then (if s.shunt.pos < regionCount then some s.shunt.pos else none)
  else (s.dirtyRegions (s.rd 0 Reg.SHUNT_STAT_SOURCE)).find? fun r => decide (s.shunt.pos ≤ r)

/-- The pre-copy copies one region, if the pass has one left. -/
def precopyOne (s : State) : State :=
  match s.nextRegion with
  | some r =>
    let s := s.copyRegion (s.rd 0 Reg.SHUNT_STAT_SOURCE) (s.rd 0 Reg.SHUNT_STAT_TARGET) r (s.on 0 Reg.SHUNT_STAT_MODE)
    { s with shunt := { s.shunt with pos := r + 1 } }
  | none => s

/-- The pre-copy of one frame: `SHUNT.CFG.RATE` regions.  A target that cannot be reached has failed. -/
def precopy (s : State) : State :=
  let t := s.rd 0 Reg.SHUNT_STAT_TARGET
  if s.absentDie t then s.shuntLoses t else (List.range (s.rd 0 Reg.SHUNT_CFG_RATE)).foldl (fun s _ => s.precopyOne) s

/-! ### Decision and cutover (R290 to R293) -/

/-- The DMA and March engines of a die stop for the quiescing (R292). -/
def quiesce (s : State) (d : Nat) : State :=
  let s := s.stopMarch d
  let s := { s.setEng d { s.eng d with dmaGo := none } with shunt := { s.shunt with still := s.shunt.still ||| dieBit d } }
  s

/-- The decision at the start of the source's shunting row in the last frame of the major cycle (R290); the slot of the DMA
engine has been set idle. -/
def shuntDecision (s : State) (d : Nat) : State :=
  if s.rd 0 Reg.SHUNT_STAT_SOURCE ≠ d ∨ s.rd 0 Reg.SHUNT_STAT_STATE ≠ 2 ∨ s.minor + 1 ≠ s.rd 0 Reg.TICK_MAJOR_FRAMES then s
  else if s.dirtyCount d + 1 ≤ s.rd 0 Reg.SHUNT_CFG_DELTA_MAX ∧ s.mode = 1 ∧
      (s.on 0 Reg.SHUNT_STAT_MODE = false ∨ s.on 0 Reg.SHUNT_STAT_ACCEPTED = true) then
    let s := (s.wr 0 Reg.SHUNT_STAT_STATE 3).quiesce d
    match s.slot? d 6 with
    | some x => s.setSlot d 6 { x with idle := false }
    | none => s
  else
    let s := s.wr 0 Reg.SHUNT_TRIES_LEFT (s.rd 0 Reg.SHUNT_TRIES_LEFT - 1)
    if s.rd 0 Reg.SHUNT_TRIES_LEFT = 0 then s.abandonShunt 6 else s

/-- The final delta fails: the Shunting is abandoned with code FAULT and the row ends without a skip count. -/
def deltaFault (s : State) : State :=
  let d := s.rd 0 Reg.SHUNT_STAT_SOURCE
  (s.abandonShunt 7).endRow d 6

/-- Whether a dirty region of the source holds a double-bit error. -/
def deltaPoisoned (s : State) (d : Nat) : Bool :=
  (s.dirtyRegions d).any fun r => match regionAddr r with
    | some a => (SMap.slice s.ecc (phys d a) (phys d a + 4096)).any fun e => e.2 == 2
    | none => false

/-- The final delta reaches the target: its work is done (R291, R292). -/
def deltaDone (s : State) : State :=
  let d := s.rd 0 Reg.SHUNT_STAT_SOURCE
  let t := s.rd 0 Reg.SHUNT_STAT_TARGET
  let dirty := s.dirtyRegions d
  let start := ((s.slot? d 6).map Slot.start).getD s.cycle
  let s := dirty.foldl (fun s r => s.copyRegion d t r (s.on 0 Reg.SHUNT_STAT_MODE)) s
  let s := (s.wr 0 Reg.SHUNT_LAST_DELTA_BYTES (4096 * (dirty.length + 1))).wr 0 Reg.SHUNT_LAST_TIME_CYCLES (s.cycle - start)
  { s with shunt := { s.shunt with delivered := true } }.workDone d 6

end State

/-- A word core of the target in CARRY mode: the frozen context of the source's core of the same index; `cycle`,
`instret` and what R287 does not name stay the target's own. -/
def Core.carried (src dst : Core) : Core :=
  { src with cycleOff := dst.cycleOff, instret := dst.instret, clock := dst.clock
             yqtag := dst.yqtag, reserved := none, halted := dst.halted, inSlot := false }

/-- A word core of the target in HANDOVER mode starts idle. -/
def Core.handedOver (c : Core) : Core := if c.idle then c else { c with idle := true, idlePc := c.pc, idleM := c.mmode }

namespace State

/-- The queues of a die in CARRY mode: rings, the QUE page and the credits of its port, and the credits of the other
ports toward them; entries and credits under way follow. -/
def carryQueues (s : State) (a b : Nat) : State :=
  let s := (List.range 16).foldl (fun s q => s.setRing b q (s.ring a q)) s
  let que (d : Nat) (k : Nat) : Bool := k / 2 ^ 23 % 8 == d && k / 2 ^ 17 % 64 == 6 && decide (0x100 ≤ k / 32 % 4096)
  let mine := s.regs.filter fun e => que a e.1
  let s := { s with regs := mine.foldl (fun (m : SMap Nat) (e : Nat × Nat) => SMap.insert m (keyOn e.1 b) e.2) (s.regs.filter fun (e : Nat × Nat) => !que b e.1) }
  let s := (List.range 8).foldl (fun s p => (List.range 16).foldl (fun s q =>
    (s.setCredits p b q (s.credits p a q)).setCredits p a q 0) s) s
  let s := (List.range 16).foldl (fun s q => (s.setCredits b b q (s.credits a a q)).setCredits a a q 0) s
  let to' (d : Nat) : Nat := if d = a then b else d
  { s with creditsDue := s.creditsDue.map fun (c : CreditDue) => { c with src := to' c.src, dst := to' c.dst } }

/-- The cutover at Ts (R292, R293): target LIVE, source OUT, rewrites, queue entries under way, core state; the source is
fenced and its cores are held. -/
def cutover (s : State) : State :=
  let a := s.rd 0 Reg.SHUNT_STAT_SOURCE
  let b := s.rd 0 Reg.SHUNT_STAT_TARGET
  let hand := s.on 0 Reg.SHUNT_STAT_MODE
  let s := s.untrack a
  let s := s.setRoles [(a, 2, 1), (b, 0, 1)] true
  let s := if s.change.state = 2 then
      { s with change := { s.change with sections := [], checking := none } }.changeTo 0 0
    else s.settle
  let s := (s.wr b Reg.TTBL_STAT_ACTIVE (s.activeBank a)).wr b Reg.TTBL_SWAPS_COUNT (s.rd a Reg.TTBL_SWAPS_COUNT)
  let s := if hand then s else s.carryQueues a b
  let s := (List.range 4).foldl (fun s n =>
    let c := if hand then (s.core b n).handedOver else (s.core a n).carried (s.core b n)
    { s.setCore b n c with latches := SMap.put 0 s.latches (b * 4 + n) (SMap.get 0 s.latches (a * 4 + n)) }) s
  let s := { s with flights := s.flights.map fun (f : Flight) => if f.die = a then { f with die := b } else f }
  let s := (s.moveWorkload a b).raiseFence a
  let s := (List.range 4).foldl (fun s n => (s.wr a (Reg.COREn_CTL_HOLD.p n) 1).resetCore a n) s
  let s := ((s.wr 0 Reg.SHUNT_STAT_STATE 4).inc 0 Reg.PART_CUTOVERS_COUNT).irq 0 0x14 0
  { s with shunt := { s.shunt with pos := 0, first := false, delivered := false } }

/-- What a tick does to the Shunting: the cutover after a final delta; else, outside Run, its end; else the pre-copy of
the frame.  Cores that stood still for a delta resume. -/
def shuntAtTick (s : State) : State :=
  let s := { s with shunt := { s.shunt with still := 0 } }
  let st := s.rd 0 Reg.SHUNT_STAT_STATE
  if st = 3 then (if s.shunt.delivered then s.cutover else s.abandonShunt 7)
  else if st = 1 ∨ st = 2 then (if s.mode = 1 then s.precopy else s.abandonShunt 12)
  else s

/-- A Q13 entry about the handover record: `tag` of the head entry, from the target's own masters (R294). -/
def handoverEntry (s : State) (tag : Nat) (act : State → QEntry → State) : State :=
  match s.ring 0 13 with
  | e :: _ =>
    if s.firmware ∧ e.hi % 2 ^ 16 = tag then
      let s := (s.popQueue 0 13).1
      let st := s.rd 0 Reg.SHUNT_STAT_STATE
      if (st = 1 ∨ st = 2) ∧ s.on 0 Reg.SHUNT_STAT_MODE = true ∧ e.hi / 2 ^ 29 % 8 = s.rd 0 Reg.SHUNT_STAT_TARGET then act s e else s
    else s
  | [] => s

end State

/-! ### Commands -/

/-- SHUNT (R285, R485): the waiting frame with OP 0x08; a refusal carries `SHUNT.STAT`. -/
def execShunt (s : State) : Result :=
  let ok (p : List Byte) : Bool := p.length == 4 && isScan (byteAt p 0) && (byteAt p 1 == 0 || isScan (byteAt p 1)) &&
    decide (byteAt p 2 ≤ 1) && byteAt p 3 == 0
  .next (s.authCommand 0x08 rolesEW ok fun s _ p =>
    match s.startShunt (byteAt p 0) (byteAt p 1) (byteAt p 2) with
    | (s, some _) => ⟨s, .refused, s.readWord 0 0 0x14 0x108⟩
    | (s, none) => ⟨s, .started, 0⟩)

/-- SHUNT_ABANDON (R319): a write to `SHUNT.REQ` with ABANDON set. -/
def execShuntAbandon (w : Who) (s : State) : Result := .next (writeThen w 0 0x14 0x100 10 s State.shuntReq)

/-- PRECOPY_PASS_END (R289, R290): a pass ends; after the first the state is READY and the tries are loaded.  The next
pass starts. -/
def execPrecopyPassEnd (s : State) : Result :=
  let st := s.rd 0 Reg.SHUNT_STAT_STATE
  .next (if (st = 1 ∨ st = 2) ∧ s.nextRegion.isNone then
    let s := { s with shunt := { s.shunt with pos := 0, first := false } }
    let s := s.incWrap 0 Reg.SHUNT_PASSES_COUNT
    if st = 1 then
      ((s.wr 0 Reg.SHUNT_STAT_STATE 2).wr 0 Reg.SHUNT_TRIES_LEFT (s.rd 0 Reg.SHUNT_CFG_TRIES)).irq 0 0x14 2
    else s
  else s)

/-- HANDOVER_ACCEPT (R294): the target Executive's entry with tag 0xA001, whose low word is the CRC-32C of the record. -/
def execHandoverAccept (s : State) : Result :=
  .next (s.handoverEntry 0xA001 fun s e =>
    if e.lo = crc32c (s.loadBytes (phys (s.rd 0 Reg.SHUNT_STAT_SOURCE) 0x7BF000) 4096) then
      s.wr 0 Reg.SHUNT_STAT_ACCEPTED 1
    else s)

/-- HANDOVER_REFUSE (R294): the target Executive's entry with tag 0xA002. -/
def execHandoverRefuse (s : State) : Result := .next (s.handoverEntry 0xA002 fun s _ => s.abandonShunt 10)

end Sys2Proof.Machine
end

