-- ==== Sys2Proof/Machine/Firmware.lean ====
section
/-! DEFINITION.  Firmware images and their two levels (spec/15 R488 to R492, R507): headers and validity, the update
descriptors, how an image is loaded and started, and what Keeper firmware does as it starts (spec/14 R450, R456, R458). -/

namespace Sys2Proof.Machine

open Sys2Proof.Bits

/-! ### Images (R488 to R490) -/

/-- Stacks offset of a slot of a level. -/
def slotAt (level slot : Nat) : Nat := if level = 1 then 0x600000 + 0x100000 * slot else 0x400000 + 0x80000 * slot

/-- Bytes of a slot of a level. -/
def slotSize (level : Nat) : Nat := if level = 1 then 0x100000 else 0x80000

/-- A segment of an image: first own-die byte, size, image offset of its bytes. -/
structure FwSegment where
  base : Nat
  size : Nat
  src : Nat
  deriving DecidableEq, Repr

/-- Own-die range of the bank that a segment names, if it names one. -/
def fwBank (level bank : Nat) : Option (Nat × Nat) :=
  if level = 1 then (if bank = 0 then some (0, 0x100000) else none)
  else if bank ≤ 3 then some (bank * 0x100000, 0x100000) else if bank = 6 then some (0x700000, 0x100000) else none

/-- Entry `i` of the segment table: its segment, if it lies inside its bank. -/
def fwSegment? (level : Nat) (image : List Byte) (i : Nat) : Option FwSegment :=
  let o := 256 + 16 * i
  (fwBank level (leAt image o 1)).bind fun b =>
    if leAt image (o + 4) 4 + leAt image (o + 8) 4 ≤ b.2 then
      some ⟨b.1 + leAt image (o + 4) 4, leAt image (o + 8) 4, leAt image (o + 12) 4⟩
    else none

/-- The segments of an image. -/
def fwSegments (level : Nat) (image : List Byte) : List FwSegment :=
  (List.range (leAt image 28 2)).filterMap (fwSegment? level image)

/-- The ranges that an image declares, with DIE as the image gives it. -/
def fwRanges (image : List Byte) : List FootRange :=
  footRanges (cut image (256 + 16 * leAt image 28 2) (16 * leAt image 30 2))

/-- The declared ranges of an image on every Scan die. -/
def fwFootprint (image : List Byte) : List FootRange :=
  (fwRanges image).flatMap fun r => scanDies.map fun d => { r with die := d }

/-- Whether a declared range lies inside its bank or table. -/
def fwRangeOk (r : FootRange) : Bool :=
  r.die == 0 && decide (r.first ≤ r.last) &&
    match r.kind with
    | 1 => decide (r.last < 0x800000) && bankOf 2 r.first == bankOf 2 r.last
    | 2 | 3 => decide (r.last ≤ 255)
    | 4 => if bit r.first 31 then decide (r.last < 2 ^ 31 + 4096) else decide (r.last < 8192)
    | _ => false

/-- What is left of half-open ranges without another. -/
def cutRange (l : List (Nat × Nat)) (x : Nat × Nat) : List (Nat × Nat) :=
  l.flatMap fun r =>
    ([(r.1, min r.2 x.1), (max r.1 x.2, r.2)] : List (Nat × Nat)).filter fun q => decide (q.1 < q.2)

/-- What is left of a range without the ranges of a list. -/
def FootRange.without (r : FootRange) (l : List FootRange) : List FootRange :=
  let same := (l.filter fun x => x.die == r.die && x.kind == r.kind).map fun x => (x.first, x.last + 1)
  (same.foldl cutRange [(r.first, r.last + 1)]).map fun q => { r with first := q.1, last := q.2 - 1 }

/-- Whether two segments meet. -/
def FwSegment.meets (a b : FwSegment) : Bool := decide (a.base < b.base + b.size) && decide (b.base < a.base + a.size)

/-- The checks of R490 on the form of an image. -/
def fwFormatOk (level : Nat) (image : List Byte) : Bool :=
  let n := leAt image 28 2
  let segs := fwSegments level image
  leAt image 0 4 == (if level = 1 then 0x4B465731 else 0x45465731) && leAt image 4 1 == level && leAt image 96 2 == 0x0880 &&
    decide (leAt image 8 4 ≤ slotSize level) && decide (1 ≤ n) && decide (n ≤ 16) && decide (leAt image 30 2 ≤ 64) &&
    (level != 1 || leAt image 30 2 == 0) && segs.length == n && (fwRanges image).all fwRangeOk &&
    ((List.range n).all fun i => (List.range i).all fun j =>
      !(match segs[i]?, segs[j]? with | some a, some b => a.meets b | _, _ => false)) &&
    (level == 1 || segs.all fun g => g.size == 0 || (FootRange.without ⟨0, 1, g.base, g.base + g.size - 1⟩ (fwRanges image)).isEmpty)

/-- What a descriptor holds of its level (R491). -/
structure Level where
  active : Nat
  trial : Bool
  cause : Nat
  svn : Nat
  deadline : Nat
  digest : List Byte
  deriving DecidableEq, Repr

/-- The 32 bytes of a descriptor. -/
def Level.bytes (d : Level) : List Byte :=
  toLE 1 d.active ++ toLE 1 (ofBool d.trial) ++ toLE 1 d.cause ++ toLE 1 0 ++ toLE 4 d.svn ++ toLE 8 d.deadline ++ d.digest.take 16

namespace State

/-- The image that a slot holds, as long as its header says. -/
def slotImage (s : State) (level slot : Nat) : List Byte :=
  s.loadBytes (STACKS + slotAt level slot) (min (s.stk (slotAt level slot + 8) 4) (slotSize level))

/-- The owner public key, if one is present (R476). -/
def ownerKey (s : State) : Option (List Byte) :=
  (s.keySelected 16).map fun b => s.loadBytes (STACKS + keyAt 16 b + 16) 64

/-- Whether the signature of an image verifies under a key that R490 allows. -/
def fwSigned (s : State) (level : Nat) (image : List Byte) : Bool :=
  let body := image.take (image.length - 64)
  let ok (key : List Byte) : Bool := Crypto.ecdsaVerify key (Sha.sha256 body) (image.drop (image.length - 64))
  if level = 1 then
    let k := leAt image 5 1
    decide (k ≤ 1) && decide (s.cell 22 ≤ k) && Sha.sha256 (cut image 32 64) == Config.vendorHash k && ok (cut image 32 64)
  else match s.ownerKey with
    | some key => ok key
    | none => false

/-- Why an image is not valid for its level, as `UPD.SESS.CODE` numbers it (R490, R495): 5 FORMAT, 6 SIGNATURE,
7 ROLLBACK, 0 when it is valid. -/
def fwCode (s : State) (level : Nat) (image : List Byte) : Nat :=
  if !fwFormatOk level image then 5
  else if !s.fwSigned level image then 6
  else if leAt image 12 4 < s.cell (19 + level) then 7
  else 0

/-- Whether a slot holds a valid image (R490); a poisoned word of it does not read. -/
def slotValid (s : State) (level slot : Nat) : Bool :=
  s.fwCode level (s.slotImage level slot) == 0 && !s.anyPoison (slotAt level slot) (s.slotImage level slot).length

/-! ### Descriptors (R491) -/

/-- The descriptor of a level; STABLE in slot A where it has none. -/
def level (s : State) (l : Nat) : Level :=
  match s.twinData? (64 + l) with
  | some b => ⟨leAt b 0 1 % 2, leAt b 1 1 == 1, leAt b 2 1 % 16, leAt b 4 4, leAt b 8 8, cut b 16 16⟩
  | none => ⟨0, false, 0, 0, 0, List.replicate 16 0⟩

/-- Writes the descriptor of a level, with the SVN and the digest of the image in ACTIVE. -/
def writeLevel (s : State) (l active : Nat) (trial : Bool) (cause deadline : Nat) : State :=
  let image := s.slotImage l active
  let s := s.twinWrite (64 + l) (Level.bytes ⟨active, trial, cause, leAt image 12 4, deadline, (Sha.sha256 image).take 16⟩)
  if l = 1 then (s.wr 0 Reg.UPD_KSTAT_ACTIVE active).wr 0 Reg.UPD_KSTAT_CAUSE cause
  else (s.wr 0 Reg.UPD_ESTAT_ACTIVE active).wr 0 Reg.UPD_ESTAT_CAUSE cause

/-- A level falls back (R510): FAULT until the next confirmation, FALLBACK, the archive record with its cause. -/
def noteFallback (s : State) (cause : Nat) : State :=
  ({ s with fellBack := true }.irq 0 0x13 3).archive 0x13 3 .fault [cause]

/-! ### Settings twins (R507) -/

/-- The settings twins of a level. -/
def levelTwins (l : Nat) : List Nat := if l = 1 then (List.range 12).map (· + 4) else (List.range 16).map (· + 16)

/-- Clears the migration headers of a level. -/
def clearMigrations (s : State) (l : Nat) : State := (levelTwins l).foldl (fun s t => s.clearMem (STACKS + migrationAt t) 32) s

/-- Copies every valid migration record of a level into its twin, in twin order, and clears the headers. -/
def migrate (s : State) (l : Nat) : State :=
  let s := (levelTwins l).foldl (fun s t =>
    let h := migrationAt t
    if s.recordValid t h (h + 32) then s.twinWrite t (s.loadBytes (STACKS + h + 32) (s.stk (h + 8) 4)) else s) s
  s.clearMigrations l

/-! ### Loading and starting -/

/-- The Keeper's cores start the image in a slot, whose segment is copied into K-CORE (R492, R498). -/
def startKeeper (s : State) (slot : Nat) : State :=
  let image := s.slotImage 1 slot
  let s := (fwSegments 1 image).foldl (fun s g => s.copyMem (STACKS + slotAt 1 slot + g.src) (K_CORE + g.base) g.size) s
  let s := [0, 1].foldl (fun s n =>
    let s := s.resetCore 0 n
    s.setCore 0 n { s.core 0 n with pc := leAt image 24 4 }) s
  { s with firmware := true }

/-- Keeper firmware loads an Executive into a Scan die, sets the BOOT addresses and releases its cores (R502). -/
def loadExecutive (s : State) (d slot : Nat) : State :=
  let image := s.slotImage 2 slot
  let s := (fwSegments 2 image).foldl (fun s g => s.copyMem (STACKS + slotAt 2 slot + g.src) (phys d g.base) g.size) s
  (List.range 4).foldl (fun s n =>
    let f := Reg.COREn_BOOT_ADDR.p n
    let t := s.wr d f (clamp s d f (leAt image (100 + 4 * n) 4))
    coreCtl d n t (t.wr d (Reg.COREn_CTL_HOLD.p n) 0) 0) s

/-- The running Executive is that of a slot: the ranges it declares (R216). -/
def runExecutive (s : State) (slot : Nat) : State :=
  { s with change := { s.change with execRanges := fwFootprint (s.slotImage 2 slot) } }

/-! ### Keeper firmware starts -/

/-- What the part archives of a twin when it is read (R423, "When both copies are valid with the same sequence number",
"When neither copy is valid"). -/
def noteTwin (s : State) (t : Nat) : State :=
  if s.twinValid t 0 && s.twinValid t 1 then
    if s.twinSeq t 0 == s.twinSeq t 1 && s.twinBody t 0 != s.twinBody t 1 then
      s.archive 0x0F 65 .info [t, crc32c (s.twinBody t 0), crc32c (s.twinBody t 1)]
    else s
  else if s.twinValid t 0 || s.twinValid t 1 then s
  else s.archive 0x0F 66 .info [t]

/-- The failure slips: the non-empty ones are archived, then emptied (R456). -/
def readSlips (s : State) : State :=
  (List.range 4).foldl (fun s k =>
    let w (j : Nat) : FieldDef := (Reg.AON_SLIPs_Ww.i k).i2 j
    if s.rd 0 (w 0) % 2 ^ 16 = 0 then s
    else (s.archive 0x0D 73 .info ((List.range 8).map fun j => s.rd 0 (w j))).wr 0 (w 0) 0) s

/-- Global time from the RTC (R450). -/
def timeFromRtc (s : State) : State :=
  if s.on 0 Reg.RTC_STAT_TIME_LOST then (s.stepTime 0).archive 0x0E 3 .fault []
  else
    s.stepTime ((s.rtcSec + rtcOrigin) * 1000000000 + s.readWord 0 0 0x0E 0x108 % 32768 * 1000000000 / 32768)

/-- Body of twin 0 (R420; the layout is the model's, log entry 75): the MAC addresses of the Line ports, most significant
byte first, `PAIR.ID`, `NVP.BP`. -/
def identityBytes (s : State) : List Byte :=
  ((List.range 4).flatMap fun p => toLE 6 (s.lineMac p)) ++ toLE 2 (s.rd 0 Reg.PAIR_ID_ID) ++ toLE 1 (s.rd 0 Reg.NVP_BP_BP) ++ toLE 5 0

/-- The part identity is loaded from twin 0 (R417, R420). -/
def loadIdentity (s : State) : State :=
  match s.twinData? 0 with
  | some b =>
    let s := (List.range 4).foldl (fun s p =>
      (s.wr 0 (Reg.LINEn_MAC_HI_ADDR.p p) (leAt b (6 * p + 4) 2)).wr 0 (Reg.LINEn_MAC_LO_ADDR.p p) (leAt b (6 * p) 4)) s
    (s.wr 0 Reg.PAIR_ID_ID (leAt b 24 2)).wr 0 Reg.NVP_BP_BP (byteAt b 26)
  | none => s

/-- The committed trim goes into the proxy (R401). -/
def loadTrim (s : State) : State :=
  match s.twinData? 1 with
  | some b => (List.range 2).foldl (fun s k =>
      (s.wr 1 (Reg.F_FAO_ZEROk_UNITS.i k) (leAt b (8 * k) 4)).wr 1 (Reg.F_FAO_SPANk_UNITS.i k) (leAt b (8 * k + 4) 4)) s
  | none => s

/-- Body of twin 35 (R463; the layout is the model's, log entry 76): powered seconds, the seconds of the six bands of R533
as 64-bit numbers, duration of the last hold-up sequence in us. -/
def runBytes (s : State) : List Byte :=
  toLE 8 s.aon.seconds ++ (List.range 6).flatMap (fun k => toLE 8 ((s.aon.bands[k]?).getD 0)) ++ toLE 4 (s.rd 0 Reg.PWR_HOLDUP_US) ++ toLE 4 0

/-- The run counters are loaded from twin 35. -/
def loadRun (s : State) : State :=
  match s.twinData? 35 with
  | some b =>
    let s := s.wr 0 Reg.PWR_HOLDUP_US (leAt b 56 4)
    { s with aon := { s.aon with seconds := leAt b 0 8, bands := (List.range 6).map fun k => leAt b (8 + 8 * k) 8 } }
  | none => s

/-- The Executive is loaded into the powered LIVE and SPARE dies (R492): TRIAL returns to the other slot with cause RESET,
and an image that is not valid gives way to the other. -/
def bootExecutive (s : State) : State :=
  let d := s.level 2
  let slot := if d.trial then 1 - d.active else d.active
  let s := if d.trial then (s.writeLevel 2 slot false 2 d.deadline).noteFallback 2 else s
  let s := (s.wr 0 Reg.UPD_ESTAT_ACTIVE slot).wr 0 Reg.UPD_ESTAT_CAUSE (s.level 2).cause
  let load (s : State) (slot : Nat) : State :=
    ((scanDies.filter fun d => decide (s.role d ≤ 1) && s.powered d).foldl (fun s d => s.loadExecutive d slot)
      (s.wr 0 Reg.UPD_ESTAT_ACTIVE slot)).runExecutive slot
  let s := if d.trial then s.clearMigrations 2 else s
  if s.slotValid 2 slot then load s slot else if s.slotValid 2 (1 - slot) then load s (1 - slot) else s

/-- Keeper firmware starts after a power-on reset: `fell` when the boot ROM has returned from a trial (R492).  It writes and
archives the change's return to NONE (R236; from NONE, since the state before is lost: log entry 47). -/
def firmwareStarts (s : State) (fell : Bool) : State :=
  let s := ((s.wr 0 Reg.RST_CAUSE_BOOT 0).wr 0 Reg.RST_BOOT_MS_MS (min 65535 ((s.cycle - s.aon.releasedAt) / 200000))).setCell 18 (s.cell 18 + 1)
  let s := s.wr 0 Reg.RST_COUNT_N (s.cell 18)
  let s := s.timeFromRtc.archiveLoad.archiveScan
  let s := if 16 < s.arch.bad.length then s.archiveFails 1 0 else s
  let s := [0, 1, 2, 3, 32, 33, 34, 35, 65, 66].foldl noteTwin s
  let s := (((s.loadIdentity).loadTrim).loadRun).readSlips
  let s := if fell then (s.clearMigrations 1).noteFallback 2 else s
  let s := (List.range 4).foldl showLink s
  (s.changeTo 0 0).bootExecutive

end State

end Sys2Proof.Machine
end

