-- ==== Sys2Proof/Machine/Tablet.lean ====
section
/-! DEFINITION.  The Tablet, the witness and the switch-over (spec/09 R306 to R316, R322). -/

namespace Sys2Proof.Machine

open Sys2Proof.Bits

namespace State

/-! ### The Tablet (R306, R307, R322) -/

/-- State of the Tablet and the part's own claim. -/
def setTablet (s : State) (st : Nat) (claim : Bool) : State := (s.wr 0 Reg.TABLET_STAT_STATE st).wrB 0 Reg.TABLET_STAT_CLAIM claim

/-- The partner's claim is seen. -/
def claimSeen (s : State) : Bool := s.on 0 Reg.TABLET_STAT_SEEN

/-- The part is strapped SENIOR. -/
def senior (s : State) : Bool := s.on 0 Reg.TABLET_STAT_SENIOR

/-- The part leaves HELD. -/
def tabletLeave (s : State) : State :=
  ((s.setTablet 0 false).wr2 0 Reg.TABLET_LOST_LO_NS Reg.TABLET_LOST_HI_NS s.time).irq 0 0x16 1

/-- The transitions of IDLE, CLAIMING and HELD that `WANT` and the partner's line give. -/
def tabletStep (s : State) : State :=
  match s.rd 0 Reg.TABLET_STAT_STATE with
  | 0 => if s.on 0 Reg.TABLET_CTL_WANT && !s.claimSeen then
      { s.setTablet 1 true with pair := { s.pair with claimAt := s.cycle } } else s
  | 1 => if s.on 0 Reg.TABLET_CTL_WANT then s else s.setTablet 0 false
  | 2 => if s.on 0 Reg.TABLET_CTL_WANT then s else s.tabletLeave
  | _ => s

/-- Seeks or releases the Tablet. -/
def want (s : State) (b : Bool) : State := (s.wrB 0 Reg.TABLET_CTL_WANT b).tabletStep

/-- The partner's line changes. -/
def seenChange (s : State) (b : Bool) : State :=
  let s := s.wrB 0 Reg.TABLET_STAT_SEEN b
  let s := if b then s else { s with pair := { s.pair with clearAt := s.time } }
  match s.rd 0 Reg.TABLET_STAT_STATE, b with
  | 1, true =>
    let s := (s.inc 0 Reg.TABLET_COUNTS_COLLISIONS).irq 0 0x16 3
    if s.senior then s else { s.setTablet 3 false with pair := { s.pair with backoffAt := s.cycle } }
  | 1, false => { s with pair := { s.pair with claimAt := s.cycle } }
  | 2, true => (s.tabletLeave.wr 0 Reg.TABLET_CTL_WANT 0).irq 0 0x16 2
  | _, _ => s.tabletStep

/-! ### Becoming and ceasing to be active (R313 to R316) -/

/-- The part becomes ACTIVE: it seeks the Tablet (R314). -/
def becomeActive (s : State) : State := (s.setPair 2).want true

/-- The part leaves ACTIVE (R313). -/
def leaveActive (s : State) : State :=
  let s := (s.want false).noSync 0
  { s with pair := { s.pair with yielding := false, txOpen := false, bulk := false } }

/-- A standby decides to take over (R314). -/
def takeOver (s : State) : State :=
  if s.pairState = 4 ∨ s.pairState = 6 then
    { (s.setPair 8).want true with pair := { (s.want true).pair with decidedAt := s.time, broken := none } }
  else s

/-- The ground of a dead partner: its claim deasserted and the link silent, the two within HB_MISS frames (R314). -/
def partnerDead (s : State) : Bool :=
  let near := 1000 * s.rd 0 Reg.TICK_PERIOD_US * s.rd 0 Reg.PAIR_CFG_HB_MISS
  !s.claimSeen && !s.on 0 Reg.PAIR_STAT_LINK && decide (s.pair.clearAt ≤ s.pair.silentAt + near) &&
    decide (s.pair.silentAt ≤ s.pair.clearAt + near)

/-- YIELD on the Partner link, naming a frame (R298, R315). -/
def sendYield (s : State) (n : Nat) : State :=
  { s.partnerSend 0x0B 0 s.frameNo (toBE 6 n) with pair := { (s.partnerSend 0x0B 0 s.frameNo (toBE 6 n)).pair with yielding := true } }

/-- The active part yields at once (R315): on a forced Stop or a power failure. -/
def yieldNow (s : State) : State :=
  if s.pairState = 2 then
    let s := (s.want false).sendYield s.pair.mirrored
    { s.partnerSend 0x06 0 s.frameNo [] with pair := { s.pair with txOpen := false } }
  else s

/-- The active part yields for a forced Stop with Frame watch cause `c` when the configuration says so (R315). -/
def yieldOn (s : State) (c : Nat) : State := if bit (s.rd 0 Reg.PAIR_CFG_YIELD_CAUSES) (c - 1) then s.yieldNow else s

/-- The Tablet is given up once the release of the frame that a PAIR_SWITCH named has ended (R315). -/
def afterRelease (s : State) : State :=
  match s.pair.dropAfter with
  | some n =>
    if s.frame.releaseFrame = n ∧ s.exch.txPorts.all (·.2.isEmpty) = true then
      { s.want false with pair := { (s.want false).pair with dropAfter := none } }
    else s
  | none => s

end State

/-! ### Commands of the Tablet -/

/-- TABLET_WANT (R306): a write to `TABLET.CTL`. -/
def execTabletWant (w : Who) (word : Nat) (s : State) : Result :=
  .next (writeThen w 0 0x16 0x100 word s fun s _ => s.tabletStep)

/-- TABLET_SEEN_CHANGE (R306, R37): the partner's line is asserted or deasserted. -/
def execTabletSeenChange (asserted : Bool) (s : State) : Result :=
  .next (if s.claimSeen == asserted then s else s.seenChange asserted)

/-- CLAIM_HOLD_EXPIRY (R306): 10 us of claim with the partner's line deasserted throughout. -/
def execClaimHoldExpiry (s : State) : Result :=
  .next (if s.rd 0 Reg.TABLET_STAT_STATE = 1 ∧ s.claimSeen = false then
    let s := s.advanceTo (s.pair.claimAt + 2000)
    let s := (s.setTablet 2 true).wr2 0 Reg.TABLET_GAINED_LO_NS Reg.TABLET_GAINED_HI_NS s.time
    (s.inc 0 Reg.TABLET_COUNTS_GAINS).irq 0 0x16 0
  else s)

/-- BACKOFF_EXPIRY (R306): 20 us in BACKOFF. -/
def execBackoffExpiry (s : State) : Result :=
  .next (if s.rd 0 Reg.TABLET_STAT_STATE = 3 then ((s.advanceTo (s.pair.backoffAt + 4000)).setTablet 0 false).tabletStep else s)

/-! ### The witness (R308 to R313) -/

/-- The tag of a witness frame (R309). -/
def witnessTag (key : List Byte) (id : Nat) (data : List Byte) : List Byte := cmacTag key (toBE 2 id ++ toBE 2 0 ++ data.take 32)

namespace State

/-- The witness key (R296, R309). -/
def witnessKey (s : State) : List Byte := s.slotKey (s.rd 0 Reg.PAIR_WIT_KEY)

/-- An accepted VERDICT (R311, R313, R314, R318). -/
def verdict (s : State) (active reason : Nat) : State :=
  let me := if s.senior then 1 else 2
  let st := s.pairState
  if active = me then
    if st = 1 then s.becomeActive else s.takeOver
  else if active = 0 then s
  else
    match st with
    | 2 => s.leaveActive
    | 1 => s.noSync 0
    | 6 => if reason = 1 then (s.setPair 7).standDown else s
    | _ => s

/-- Byte 5 of the witness heartbeat (R310). -/
def witnessFlags (s : State) : Nat :=
  128 * ofBool s.senior + 64 * ofBool s.tabletHeld + 32 * ofBool s.claimSeen + 16 * ofBool (s.on 0 Reg.PAIR_STAT_LINK) +
    8 * ofBool (s.pairState == 4 || s.pairState == 6) + 4 * ofBool s.pair.yielding + 2 * ofBool (Config.partFailed s.time)

/-- The part's witness frame with its counter (R309, R310). -/
def witnessFrame (s : State) (id : Nat) : List Byte :=
  let b := toBE 1 1 ++ toBE 1 1 ++ toBE 2 (s.rd 0 Reg.PAIR_ID_ID) ++ toBE 1 s.pairState ++ toBE 1 s.witnessFlags ++
    toBE 1 s.mode ++ toBE 1 0 ++ toBE 6 s.pair.applied ++ toBE 4 (s.rd 0 Reg.PAIR_VERDICT_N_N) ++ toBE 6 0 ++
    toBE 4 s.pair.epoch ++ toBE 4 s.pair.sentCount
  b ++ witnessTag s.witnessKey id b

end State

/-- VERDICT (R309, R311, R313): a frame with the witness identifier is received on CAN-A: 48 bytes.  One whose tag or
counter fails is discarded and counted. -/
def execVerdict (data : List Byte) (s : State) : Result :=
  let id := s.rd 0 Reg.PAIR_WIT_BASE_ID
  let ctr := ofBE (cut data 24 8)
  let fresh := match s.pair.verdictCtr with | some c => decide (c < ctr) | none => true
  .next (if !(s.firmware && s.on 0 Reg.PAIR_WIT_ENABLE && data.length == 48) then s
  else if s.keyRole (s.rd 0 Reg.PAIR_WIT_KEY) == 5 && witnessTag s.witnessKey id data == cut data 32 16 && fresh then
    let s := { s with pair := { s.pair with verdictCtr := some ctr } }
    if byteAt data 0 = 2 ∧ byteAt data 1 = 1 ∧ ofBE (cut data 2 2) = s.rd 0 Reg.PAIR_ID_ID ∧ byteAt data 4 ≤ 2 then
      let s := (s.wr 0 Reg.PAIR_STAT_VERDICT (byteAt data 4)).wr 0 Reg.PAIR_VERDICT_N_N (ofBE (cut data 8 4))
      let s := s.wr 0 Reg.PAIR_STAT_WITNESS 1
      { s with pair := { s.pair with verdictAt := s.time } }.verdict (byteAt data 4) (byteAt data 5)
    else s
  else { s with pair := { s.pair with witnessDrops := s.pair.witnessDrops + 1 } })

/-- WITNESS_HEARTBEAT_SEND (R308 to R310): the part's 2 ms slot.  The epoch is checkpointed before its first frame. -/
def execWitnessHeartbeatSend (s : State) : Result :=
  .next (if s.firmware && s.on 0 Reg.PAIR_CFG_EN && s.on 0 Reg.PAIR_WIT_ENABLE then
    let at' := if s.senior then 0 else 1000000
    let s := s.advanceTime ((s.time + 1999999 + (2000000 - at')) / 2000000 * 2000000 - (2000000 - at'))
    let s := if s.pair.epoch = 0 ∨ s.pair.sentCount = 2 ^ 32 - 1 then
        let e := s.cell 16 + 1
        let s := s.setCell 16 e
        { s with pair := { s.pair with epoch := e, sentCount := 0 } }
      else s
    let s := { s with pair := { s.pair with sentCount := s.pair.sentCount + 1 } }
    let id := s.rd 0 Reg.PAIR_WIT_BASE_ID + (if s.senior then 1 else 2)
    s.canSend 0 id (s.witnessFrame id)
  else s)

/-- WITNESS_LOSS (R313): no authentic verdict for T_LOSS x 2 ms; not counted in an outage (R500). -/
def execWitnessLoss (s : State) : Result :=
  .next (if s.on 0 Reg.PAIR_STAT_WITNESS && s.rd 0 Reg.UPD_KSTAT_STATE != 2 then
    let s := s.advanceTime (s.pair.verdictAt + 2000000 * s.rd 0 Reg.PAIR_WIT_T_LOSS)
    ((s.wr 0 Reg.PAIR_STAT_WITNESS 0).irq 0 0x15 2).archive 0x15 2 .fault []
  else s)

/-! ### Switch-over (R314, R315) -/

/-- TAKEOVER (R314, R316): a synchronised standby takes over from a dead partner. -/
def execTakeover (s : State) : Result := .next (if s.on 0 Reg.PAIR_CFG_EN && s.partnerDead then s.takeOver else s)

/-- SILENT_EXPIRY (R314): SILENT_MS after its last good heartbeat a SILENT standby becomes ISOLATED. -/
def execSilentExpiry (s : State) : Result :=
  .next (if s.pairState = 6 then
    ((s.advanceTime (s.pair.goodAt + 1000000 * s.rd 0 Reg.PAIR_CFG_SILENT_MS)).setPair 7).standDown
  else s)

/-- STARTING_TIMEOUT (R314): the partner's claim deasserted and the link silent for 1 s. -/
def execStartingTimeout (s : State) : Result :=
  .next (if s.pairState = 1 ∧ s.claimSeen = false ∧ s.on 0 Reg.PAIR_STAT_LINK = false then
    (s.advanceTime (max s.pair.startAt (max s.pair.silentAt s.pair.clearAt) + 1000000000)).becomeActive
  else s)

/-- PAIR_SWITCH (R315, R485): the waiting frame with OP 0x07; legal on the active part with a SYNCED standby. -/
def execPairSwitch (s : State) : Result :=
  .next (s.authCommand 0x07 rolesOEW (fun p => p.isEmpty) fun s _ _ =>
    if s.pairState = 2 ∧ s.partnerReachable = true ∧ byteAt s.pair.beat 0 = 4 then
      ⟨{ s with pair := { s.pair with yieldAfter := some s.frameNo } }, .done, 0⟩
    else ⟨s, .refused, 0⟩)

end Sys2Proof.Machine
end

