-- ==== Sys2Proof/Machine/Pair.lean ====
section
/-! DEFINITION.  The Partner link, the Mirror and the bulk synchronisation (spec/09 R295 to R305, R321; spec/03 R77). -/

namespace Sys2Proof.Machine

open Sys2Proof.Bits

/-! ### Settings and heartbeats (R296, R299, R300) -/

/-- Mirror staging in K-IMAGE (R172). -/
def mirrorStage : Nat := K_IMAGE + 0xD8000

/-- Base of the K-DEPOT slot for the delta of frame `n` (R302). -/
def deltaSlot (n : Nat) : Nat := K_DEPOT + (if n % 2 = 0 then 0x68000 else 0x94000)

namespace State

/-- First bytes of the running Executive's digest: those of its descriptor (R491, R503). -/
def execDigest (s : State) : List Byte := match s.twinData? 66 with | some b => cut b 16 16 | none => List.replicate 16 0

/-- First 8 bytes of the SHA-256 over the settings of R296, in the order named, most significant byte first. -/
def settingsDigest (s : State) : List Byte :=
  (Sha.sha256 (toBE 4 (s.rd 0 Reg.TICK_PERIOD_US) ++ toBE 4 (s.rd 0 Reg.TICK_MAJOR_FRAMES) ++
    toBE 8 (s.rd2 0 Reg.TICK_EPOCH_LO_NS Reg.TICK_EPOCH_HI_NS) ++ toBE 4 (s.rd 0 Reg.FWATCH_SPREAD_BY_US) ++
    toBE 4 (s.rd 0 Reg.FWATCH_COMMIT_AT_US) ++ toBE 4 (s.rd 0 Reg.TICK_RELEASE_AT_US) ++ toBE 2 (s.rd 0 Reg.PAIR_ID_ID) ++
    s.execDigest ++ toBE 1 (s.keyRole (s.rd 0 Reg.PAIR_WIT_KEY)))).take 8

/-- The heartbeat payload (R300). -/
def heartbeat (s : State) : List Byte :=
  toBE 1 s.pairState ++
    toBE 1 (128 * ofBool s.senior + 64 * ofBool s.tabletHeld + 32 * ofBool s.claimSeen + 16 * ofBool s.pair.yielding +
      8 * ofBool (Config.partFailed s.time)) ++
    toBE 1 s.mode ++ toBE 1 0 ++ toBE 6 s.pair.applied ++ toBE 4 (s.rd 0 Reg.PAIR_VERDICT_N_N) ++
    toBE 2 (s.rd 0 Reg.PAIR_ID_ID) ++ s.change.running.take 8 ++ s.settingsDigest

/-- State that the partner last reported. -/
def partnerState (s : State) : Nat := byteAt s.pair.beat 0

/-- Whether the partner's settings are the part's own (R296). -/
def settingsMatch (s : State) : Bool :=
  ofBE (cut s.pair.beat 14 2) == s.rd 0 Reg.PAIR_ID_ID && cut s.pair.beat 24 8 == s.settingsDigest

/-! ### Bulk synchronisation: tables (R305) -/

/-- Translates a six-bit mask of dies. -/
def mapDies (f : Nat → Nat) (m : Nat) : Nat := maskOf (((scanDies.filter (inDies m)).map fun d => f d - 2).eraseDups)

/-- A physical die as its name, for the tables that go to the partner. -/
def asName (s : State) (d : Nat) : Nat := (s.nameOf? d).getD d

/-- The standby die that receives a name (R305, `PAIR.MAP`). -/
def mapName (s : State) (n : Nat) : Nat := field (s.rd 0 Reg.PAIR_MAP_DIES) (3 * (n - 2)) 3

/-- The words of a task, its dies through `f`. -/
def taskWordsFor (s : State) (f : Nat → Nat) (t : Nat) : List Nat :=
  let w := s.taskWords t
  let cfg := (w[0]?).getD 0
  let trig := (w[1]?).getD 0
  [setField cfg 14 6 (mapDies f (field cfg 14 6)),
   if field trig 0 3 = 4 then setField trig 7 3 (f (field trig 7 3)) else trig, (w[2]?).getD 0]

/-- Words of a table as bytes (R9). -/
def wordBytes (ws : List Nat) : List Byte := ws.flatMap (toLE 4)

/-- The windows at which a list of table fields holds something. -/
def windowsOf (s : State) (fs : List FieldDef) (limit : Nat) : List Nat :=
  ((fs.foldl (fun m f => ((s.listed 0 f).filter (· < limit)).foldl (fun m k => SMap.insert m k ()) m) ([] : SMap Unit))).map (·.1)

/-- The objects that a bulk synchronisation sends, as (object code, offset, data): 0 starts afresh, 1 task table,
2 Catalogue and 3 Station Table in both halves, 4 retained list, 5 footprint, 6 Safe image (R305; the codes and layouts
are the model's, log entry 65).  Dies are names. -/
def keeperTables (s : State) : List (Nat × Nat × List Byte) :=
  let tasks := (List.range 64).map fun t => (1, 12 * t, wordBytes (s.taskWordsFor s.asName t))
  let cats := (s.windowsOf catFields 49152).map fun k =>
    let w := s.tableWords 0 k 0x19 0x108 3 catFields
    let w0 := (s.rd 0 (Reg.CAT_ENT_W0_DIES.w k))
    (2, 16 * k, wordBytes (w ++ [mapDies s.asName w0]))
  let stns := (s.windowsOf stnFields 2048).map fun k => (3, 16 * k, wordBytes (s.tableWords 0 k 0x1A 0x110 4 stnFields))
  let rets := ((List.range 64).foldl (fun t i => t.wr 0 (Reg.IMG_RETi_W0_DIE.i i) (s.asName (s.rd 0 (Reg.IMG_RETi_W0_DIE.i i)))) s).retWords
  let foot := s.change.footprint.zipIdx.map fun r =>
    (5, 16 * r.2, toLE 1 (s.asName r.1.die) ++ toLE 1 r.1.kind ++ toLE 2 0 ++ toLE 4 r.1.first ++ toLE 4 r.1.last ++ toLE 4 0)
  let safe := (List.range 41).map fun i => (6, 4088 * i, s.loadBytes (K_IMAGE + 0x78000 + 4088 * i) (min 4088 (imageBytes - 4088 * i)))
  (0, 0, []) :: tasks ++ cats ++ stns ++ [(4, 0, wordBytes rets)] ++ foot ++ safe

/-- Those objects as one list of bytes, to see a write to any of them. -/
def tablesDigest (s : State) : List Byte := s.keeperTables.flatMap fun o => toLE 1 o.1 ++ toLE 4 o.2.1 ++ o.2.2

/-- The active part starts, or starts again, to serve a bulk synchronisation (R305): tables, then dirty tracking of every
LIVE die. -/
def startBulk (s : State) : State :=
  let s := s.keeperTables.foldl (fun s o => s.partnerSend 0x08 0 s.frameNo (toBE 4 o.1 ++ toBE 4 o.2.1 ++ o.2.2)) s
  { s with
    tracked := s.liveMask, dirty := []
    pair := { s.pair with bulk := true, bulkPos := [], bulkFirst := s.liveMask, bulkTables := s.tablesDigest,
                          bulkFinal := false, bulkDone := false } }

/-- The active part serves no bulk synchronisation any longer. -/
def endBulk (s : State) : State :=
  if s.pair.bulk then
    { s with tracked := 0, dirty := [], pair := { s.pair with bulk := false, bulkFinal := false, bulkDone := false, bulkTables := [] } }
  else s

/-- Whether this part may take part in a bulk synchronisation (R305, R486). -/
def bulkLegal (s : State) : Bool := !s.shunting && s.change.state == 0 && !s.activating

/-- A standby requests a bulk synchronisation (R305): it enters BULK, which its heartbeat shows. -/
def requestBulk (s : State) : State :=
  if (s.pairState = 5 ∨ s.pairState = 7) ∧ s.partnerReachable = true ∧ s.partnerState = 2 ∧ byteAt s.pair.beat 2 = 1 ∧
      s.settingsMatch = true ∧ cut s.pair.beat 16 8 = s.change.running.take 8 ∧ s.bulkLegal = true then
    { s with pair := { s.pair with bulkGot := 0, rx := none, done := none } }.setPair 3
  else s

/-! ### What a heartbeat shows (R299 to R305, R314) -/

/-- What the part does on the partner's heartbeat; `old` is the one before.  With the link back, an ISOLATED standby
resynchronises (R318), and a SILENT one loses its synchronisation as a SYNCED one does (R304). -/
def partnerShows (s : State) (old : List Byte) : State :=
  let ps := s.partnerState
  let pm := byteAt s.pair.beat 2
  let s := if bit (byteAt s.pair.beat 1) 7 == s.senior && !s.pair.strapNoted then
      { s.archive 0x15 72 .info [] with pair := { s.pair with strapNoted := true } } else s
  match s.pairState with
  | 1 => if ps = 1 ∧ s.senior = true then s.becomeActive else if ps = 2 then s.noSync 0 else s
  | 2 =>
    if s.pair.yielding ∧ ps = 2 then s.leaveActive
    else
      let s := if (byteAt old 0 == 4 || byteAt old 0 == 6) && decide (ps < 4 ∨ ps = 5 ∨ ps = 7) then s.raiseCause 7 else s
      if ps = 3 ∧ s.pair.bulk = false ∧ s.mode = 1 ∧ s.bulkLegal = true then s.startBulk
      else if ps ≠ 3 then s.endBulk else s
  | 5 => if !s.settingsMatch then s.wr 0 Reg.PAIR_STAT_CAUSE 5 else if s.on 0 Reg.PAIR_CFG_MANUAL then s else s.requestBulk
  | 3 => if !s.settingsMatch then s.noSync 5 else s
  | 4 | 6 =>
    if !s.settingsMatch then s.noSync 5
    else if pm = 2 ∨ pm = 3 ∨ (pm = 1 ∧ old ≠ [] ∧ byteAt old 2 = 0) then s.noSync 3 else s
  | 7 =>
    if s.on 0 Reg.PAIR_STAT_LINK then
      let s := s.noSync 6
      if s.on 0 Reg.PAIR_CFG_MANUAL then s else s.requestBulk
    else s
  | _ => s

/-- The link becomes silent (R299): a standby that was synchronised is SILENT at its last applied frame (R304). -/
def linkSilent (s : State) : State :=
  if s.on 0 Reg.PAIR_STAT_LINK then
    let s := (s.wr 0 Reg.PAIR_STAT_LINK 0).irq 0 0x15 1
    let s := { s with pair := { s.pair with silentAt := s.time, missed := 0, beat := [] } }
    let s := if s.pairState = 0 then s else s.raiseCause 7
    match s.pairState with
    | 4 => { s with pair := { s.pair with broken := none } }.setPair 6
    | 3 => s.noSync 6
    | 2 => s.endBulk
    | _ => s
  else s

/-- A message arrives (R298): a bad CRC discards it, a gap in MSEQ marks the mirrored frame it touches. -/
def linkTake (s : State) (m : LinkHead) (act : State → State) : State :=
  if !(s.on 0 Reg.PAIR_CFG_EN && s.pair.aligned) then s
  else if !m.good then s.inc 0 Reg.PAIR_LINKERR_COUNT
  else
    let gap := match s.pair.rxSeq with | some e => e != m.seq | none => false
    let s := if gap then s.inc 0 Reg.PAIR_LINKERR_COUNT else s
    act { s with pair := { s.pair with
      rxSeq := some ((m.seq + 1) % 2 ^ 32), rx := if gap then s.pair.rx.map fun x => { x with good := false } else s.pair.rx } }

/-! ### The Mirror, sending side (R77, R301) -/

/-- Whether the active part mirrors the present frame: the partner is BULK, SYNCED or SILENT, and the part is in Run or
Stop (R195, R301). -/
def mirrors (s : State) : Bool :=
  s.pairState == 2 && s.partnerReachable && (s.partnerState == 3 || s.partnerState == 4 || s.partnerState == 6) &&
    decide (s.prog.frameMode ≤ 1)

/-- Sends one message of the Mirror whose payload counts in the END digest. -/
def mirrorSend (s : State) (type : Nat) (payload : List Byte) : State :=
  let s := s.partnerSend type 0 s.frameNo payload
  { s with pair := { s.pair with txData := s.pair.txData ++ payload, txCount := s.pair.txCount + 1 } }

/-- The Mirror of a frame opens at the end of the Cut copy: the whole snapshot (R301). -/
def mirrorOpen (s : State) : State :=
  if s.mirrors then
    let s := { s with pair := { s.pair with txOpen := true, txData := [], txCount := 0 } }
    (List.range 41).foldl (fun s i =>
      s.mirrorSend 0x02 (toBE 4 (4092 * i) ++ s.loadBytes (snapImage + 4092 * i) (min 4092 (imageBytes - 4092 * i)))) s
  else s

/-- Tasks whose trigger is latched for the present frame. -/
def latchedMask (s : State) : Nat := maskOf ((List.range 64).filter fun t => s.on 0 (Reg.TASK_STAT_LATCHED.w t))

/-- The side record (R301; its layout is the model's, log entry 66): S word 32, latched bits, latch counts, then for each
queue of a KIND 4 source whose trigger latched: die name, queue, entries (low word, high word, time). -/
def sideRecord (s : State) : List Byte :=
  let queues := (((List.range 64).filter fun t =>
    bit s.latchedMask t && s.rd 0 (Reg.TASK_TRIG_KIND.w t) == 4).map fun t => s.rd 0 (Reg.TASK_TRIG_SRC.w t)).eraseDups
  toBE 8 s.frame.status ++ toBE 8 s.latchedMask ++ ((List.range 64).flatMap fun t => toBE 1 (s.rd 0 (Reg.TASK_STAT_LATCH_COUNT.w t))) ++
    queues.flatMap fun q =>
      let ents := (s.ring (field q 4 3) (q % 16)).take 64
      toBE 1 (s.asName (field q 4 3)) ++ toBE 1 (q % 16) ++ toBE 2 ents.length ++
        ents.flatMap fun e => toBE 4 e.lo ++ toBE 4 e.hi ++ toBE 8 e.time

/-- Words that the Commit delta map marks, rising. -/
def deltaWords (s : State) : List Nat :=
  (List.range 20480).filter fun w => bit (s.loadByte (deltaMap + w / 8)).toNat (w % 8)

/-- Rising words as runs of at most `n` consecutive ones: first word and length. -/
def runsOfWords (n : Nat) : List Nat → List (Nat × Nat) → List (Nat × Nat)
  | [], l => l.reverse
  | w :: ws, (f, k) :: l => if w = f + k ∧ k < n then runsOfWords n ws ((f, k + 1) :: l) else runsOfWords n ws ((w, 1) :: (f, k) :: l)
  | w :: ws, [] => runsOfWords n ws [(w, 1)]

/-- The side record of an active part is taken at the Cut (R301). -/
def noteSide (s : State) : State :=
  if s.pairState = 2 then { s with pair := { s.pair with txSide := s.sideRecord } } else s

/-- The Mirror of a frame closes from commit_end (R301, R303): side record (in SIDE messages of at most 4,096 bytes, R298),
delta, END.  An END that could not leave before the next tick is not sent (R77). -/
def mirrorClose (s : State) : State :=
  if !s.pair.txOpen then s
  else
    let side := s.pair.txSide
    let s := ((List.range ((side.length + 4095) / 4096)).map fun i => cut side (4096 * i) 4096).foldl (fun s b => s.mirrorSend 0x03 b) s
    let s := (runsOfWords 511 s.deltaWords []).foldl (fun s r =>
      s.mirrorSend 0x04 (toBE 4 r.1 ++ ((List.range r.2).flatMap fun i => toBE 8 (s.load (s.outBuffer + 8 * (r.1 + i)) 8)))) s
    let d := 8 * s.deltaWords.length
    let bytes := d + 20 * ((d + 4095) / 4096) + side.length + 20
    let snapEnd := s.frame.tickTime + 25600 + (imageBytes + 20 * 41) * 2 / 5
    let endAt := max s.time snapEnd + (bytes * 2 + 4) / 5 + 500
    if endAt < s.frame.tickTime + 1000 * s.rd 0 Reg.TICK_PERIOD_US then
      let p := s.pair
      let s := s.partnerSend 0x05 0 s.frameNo
        (Sha.sha256 p.txData ++ toBE 4 (crc32c (s.loadBytes s.outBuffer imageBytes)) ++ toBE 4 p.txCount)
      let s := s.wr 0 Reg.PAIR_MIRROR_BYTES (min (2 ^ 22 - 1) p.txData.length)
      let s := { s with pair := { s.pair with txOpen := false, txData := [], txCount := 0, mirrored := s.frameNo } }
      match p.yieldAfter with
      | some _ =>
        let s := s.sendYield s.frameNo
        { s with pair := { s.pair with yieldAfter := none, dropAfter := some s.frameNo } }
      | none => s
    else s

/-- At the next tick a Mirror that has not ended is abandoned (R77); `frame` is the frame that ends. -/
def mirrorAbandon (s : State) (frame : Nat) : State :=
  if s.pair.txOpen then
    let s := ((s.partnerSend 0x06 0 frame []).inc 0 Reg.FWATCH_MIRROR_LATE_COUNT).irq 0 0x0B 2
    { s with pair := { s.pair with txOpen := false, txData := [], txCount := 0 } }
  else s

/-! ### The Mirror, receiving side (R302, R303) -/

/-- The frame under receipt for a message of frame `n`. -/
def rxOf (s : State) (n : Nat) : MirrorRx :=
  match s.pair.rx with
  | some x => if x.frame = n then x else ⟨n, true, 0, [], [], [], 0⟩
  | none => ⟨n, true, 0, [], [], [], 0⟩

/-- One message of a mirrored frame is taken. -/
def rxTake (s : State) (n : Nat) (payload : List Byte) (f : MirrorRx → MirrorRx) : State :=
  let x := s.rxOf n
  { s with pair := { s.pair with rx := some (f { x with count := x.count + 1, data := x.data ++ payload }) } }

/-- Whether the part receives mirrored frames: as a standby. -/
def mirrorTo (s : State) : Bool := s.standby && s.pairState != 5 && s.pairState != 7

/-! ### Applying a mirrored frame (R302) -/

/-- The queues of a side record: die name, queue, entries. -/
def sideQueues : Nat → List Byte → List (Nat × Nat × List QEntry)
  | 0, _ => []
  | n + 1, bs =>
    if bs.length < 4 then []
    else
      let k := ofBE (cut bs 2 2)
      (byteAt bs 0, byteAt bs 1, (List.range k).map fun i =>
        let o := 4 + 16 * i
        ⟨ofBE (cut bs o 4), ofBE (cut bs (o + 4) 4), ofBE (cut bs (o + 8) 8), i⟩) :: sideQueues n (bs.drop (4 + 16 * k))

/-- Word 35 of space S (R106): the event flags of the tasks that each die carries; written by the die at its tick (R188). -/
def eventFlags (s : State) : State :=
  let latched := (List.range 64).filter fun t => s.on 0 (Reg.TASK_STAT_LATCHED.w t)
  (scanDies.filter fun d => s.powered d && !inDies (s.rd 0 Reg.PWR_STAT_RETAINED) d).foldl (fun s d =>
    s.store (bitAddr d 7 35) 8 (maskOf (latched.filter fun t => inDies (s.rd 0 (Reg.TASK_CFG_DIES.w t)) d))) s

/-- The standby applies a complete frame: mode, S word 32, latching and queue contents are those of the side record. -/
def applyFrame (s : State) (x : MirrorRx) : State :=
  let status := ofBE (cut x.side 0 8)
  let latched := ofBE (cut x.side 8 8)
  let s := { s with
    pair := { s.pair with apply := some x, done := none }
    frame := { s.frame with status := status } }
  let s := match status % 4 with
    | 0 => if s.mode = 1 then s else (s.enterMode 1).wr 0 Reg.MODE_STAT_HOT_OK 1
    | _ => if s.mode = 0 then s else s.enterStop 5
  let s := { s with prog := { s.prog with frameMode := s.mode } }
  let s := (List.range 64).foldl (fun s t =>
    (s.wrB 0 (Reg.TASK_STAT_LATCHED.w t) (bit latched t)).wr 0 (Reg.TASK_STAT_LATCH_COUNT.w t) (byteAt x.side (16 + t))) s
  let s := (sideQueues 64 (x.side.drop 80)).foldl (fun s q => s.setRing (s.dieOf q.1) q.2.1 q.2.2) s.eventFlags
  let back := (s.frameNo - x.frame) * 1000 * s.rd 0 Reg.TICK_PERIOD_US
  (scanDies.filter s.live).foldl (fun s d => s.wr d Reg.TIMR_TIME_T ((s.frame.tickTime - back) / 100000 % 2 ^ 32)) s

/-- The mapped SPARE dies become LIVE at the end of a bulk synchronisation, no other role changes (R281, R305); names follow
`PAIR.MAP`, and the program record's die map with them (R214). -/
def bulkComplete (s : State) : State :=
  let dies := (scanDies.filter fun n => inDies s.pair.bulkGot n).map s.mapName
  let s := s.setRoles ((scanDies.filter fun d => dies.contains d && s.role d == 1).map fun d => (d, 0, 5))
  let s := (s.wr 0 Reg.PART_ALIAS_DIES (s.rd 0 Reg.PAIR_MAP_DIES)).setPair 4
  match s.twinData? 2 with
  | some _ =>
    let r := s.recordNow
    s.twinWrite 2 (r.take 80 ++ (cut r 80 6).map (fun x => BitVec.ofNat 8 (s.mapName x.toNat)) ++ r.drop 86)
  | none => s

/-- A frame that a synchronised standby cannot apply (R302 to R304): it is discarded, counted where it is incomplete (R321),
and unless the link falls silent within HB_MISS frames synchronisation ends. -/
def frameLost (s : State) (complete : Bool) : State :=
  let s := (if complete then s else s.inc 0 Reg.PAIR_DISCARDS_COUNT).irq 0 0x15 3
  match s.pair.broken with
  | none => { s with pair := { s.pair with broken := some 0, rx := none } }
  | some k =>
    if s.rd 0 Reg.PAIR_CFG_HB_MISS ≤ k + 1 then s.noSync 4
    else { s with pair := { s.pair with broken := some (k + 1), rx := none } }

/-- The decision of a standby at the deadline of R302.  At the end of a bulk synchronisation the first frame applied is the
one behind the frame of its final step (R305). -/
def mirrorDeadline (s : State) : State :=
  let due := match s.pair.done with
    | some x => if decide (x.frame < s.frameNo) && decide (s.pair.applied < x.frame) then some x else none
    | none => none
  match s.pairState, due with
  | 4, some x | 6, some x => if s.pair.broken.isNone then s.applyFrame x else s.frameLost true
  | 4, none => s.frameLost false
  | 6, none => if s.on 0 Reg.PAIR_STAT_LINK then s.frameLost false else s
  | 3, some x => if s.pair.bulkGot = 0 ∨ x.frame ≤ s.pair.bulkFrame then s else s.bulkComplete.applyFrame x
  | 8, some x => s.applyFrame x
  | _, _ => s

/-- After its Commit the standby compares its output image with the END value of the frame `x` (R303). -/
def compareImage (s : State) (x : MirrorRx) : State :=
  if crc32c (s.loadBytes s.outBuffer imageBytes) = x.crc then s
  else
    let bad := x.deltas.findSome? fun d =>
      let first := ofBE (d.take 4)
      ((List.range ((d.length - 4) / 8)).find? fun i =>
        s.load (s.outBuffer + 8 * (first + i)) 8 != ofBE (cut d (4 + 8 * i) 8)).map fun i => first + i
    let s := (s.wr 0 Reg.PAIR_STAT_DIVERGED 1).wr 0 Reg.PAIR_DIVERGE_WORD (bad.getD 0)
    ((s.irq 0 0x15 4).archive 0x15 4 .fault [bad.getD 0]).noSync 2

/-! ### Bulk synchronisation: regions and the final step (R305) -/

/-- The numbers of fields of a die as key and value, after their count. -/
def fieldValues (s : State) (d : Nat) (mine : Nat → Bool) : List Nat :=
  let fields := s.regs.filter fun e => e.1 / 2 ^ 23 % 8 == d && mine e.1
  fields.length :: fields.flatMap fun e => [keyOn e.1 0, e.2]

/-- Stores such numbers. -/
def setFields (s : State) (d : Nat) (l : List Nat) (mine : Nat → Bool) : State :=
  let at' (i : Nat) : Nat := (l[i]?).getD 0
  (List.range (at' 0)).foldl (fun (s : State) i =>
    let k := at' (1 + 2 * i)
    match keyField d k with
    | some f => s.wr d f (at' (2 + 2 * i))
    | none => s) { s with regs := s.regs.filter fun e => !(e.1 / 2 ^ 23 % 8 == d && mine e.1) }

/-- The numbers that a region other than memory holds: stored fields as key and value, rack elements by index. -/
def blockValues (s : State) (d r : Nat) : List Nat :=
  let rack := if 2048 ≤ r ∧ r < 2080 then (List.range 256).flatMap fun i =>
        let t := s.timer d ((r - 2048) * 256 + i)
        [t.start, ofBool t.inp, ofBool t.run, ofBool t.q, t.et, ofBool t.fell]
      else if 2080 ≤ r ∧ r < 2096 then (List.range 256).flatMap fun i =>
        let c := s.counter d ((r - 2080) * 256 + i)
        [ofInt 32 c.cv, ofBool c.cu, ofBool c.cd, ofBool c.qu, ofBool c.qd, ofBool c.sat]
      else []
  s.fieldValues d (fun k => keyRegion k == some r) ++ rack

/-- Stores such numbers into a region of a die. -/
def setBlock (s : State) (d r : Nat) (l : List Nat) : State :=
  let at' (i : Nat) : Nat := (l[i]?).getD 0
  let s := s.setFields d l fun k => keyRegion k == some r
  let o := 1 + 2 * at' 0
  if 2048 ≤ r ∧ r < 2080 then (List.range 256).foldl (fun s i =>
    let v (k : Nat) : Nat := at' (o + 6 * i + k)
    s.setTimer d ((r - 2048) * 256 + i) ⟨v 0, v 1 == 1, v 2 == 1, v 3 == 1, v 4, v 5 == 1⟩) s
  else if 2080 ≤ r ∧ r < 2096 then (List.range 256).foldl (fun s i =>
    let v (k : Nat) : Nat := at' (o + 6 * i + k)
    s.setCounter d ((r - 2080) * 256 + i) ⟨toInt 32 (v 0), v 1 == 1, v 2 == 1, v 3 == 1, v 4 == 1, v 5 == 1⟩) s
  else s

/-- The numbers of the core state block of a die (R287). -/
def coreValues (s : State) (d : Nat) : List Nat :=
  (List.range 4).flatMap fun n =>
    let c := s.core d n
    ((List.range 32).map fun i => SMap.get 0 c.x i) ++ ((List.range 32).map fun i => SMap.get 0 c.f i) ++
      ((List.range 16).map fun i => SMap.get 0 c.pmpcfg i) ++ ((List.range 16).map fun i => SMap.get 0 c.pmpaddr i) ++
      [c.pc, ofBool c.mmode, ofBool c.idle, c.idlePc, ofBool c.idleM, ofBool c.mie, ofBool c.mpie, ofBool c.mppM, ofBool c.mprv,
       c.fs, c.mieReg, c.mtvec, c.mscratch, c.mepc, c.mcause, c.mtval, c.fflags, c.frm, c.yxstat, c.yirqthr, c.yspc,
       ofBool c.ysValid, ofBool c.ysPrivM, ofBool c.ysMie, SMap.get 0 s.latches (d * 4 + n), c.mcounteren]

/-- Stores the core state block of a die. -/
def setCores (s : State) (d : Nat) (l : List Nat) : State :=
  (List.range 4).foldl (fun s n =>
    let v (i : Nat) : Nat := (l[122 * n + i]?).getD 0
    let b (i : Nat) : Bool := v i == 1
    let tab (o k : Nat) : SMap Nat := (List.range k).foldl (fun m i => SMap.put 0 m i (v (o + i))) []
    let c := s.core d n
    { s.setCore d n { c with
        x := tab 0 32, f := tab 32 32, pmpcfg := tab 64 16, pmpaddr := tab 80 16, pc := v 96, mmode := b 97, idle := b 98
        idlePc := v 99, idleM := b 100, mie := b 101, mpie := b 102, mppM := b 103, mprv := b 104, fs := v 105, mieReg := v 106
        mtvec := v 107, mscratch := v 108, mepc := v 109, mcause := v 110, mtval := v 111, fflags := v 112, frm := v 113
        yxstat := v 114, yirqthr := v 115, yspc := v 116, ysValid := b 117, ysPrivM := b 118, ysMie := b 119, inSlot := false
        mcounteren := v 121, reserved := none } with
      latches := SMap.put 0 s.latches (d * 4 + n) (v 120) }) s

/-- A master die by its name in the tables that go to the partner; the Keeper and the Field die keep theirs. -/
def portOf (f : Nat → Nat) (p : Nat) : Nat := if p < 2 then p else f p

/-- Keys of the QUE page that belong to queue `q`, with queue 0 those of the whole page. -/
def queueKey (q k : Nat) : Bool :=
  let off := k / 32 % 4096
  k / 2 ^ 17 % 64 == 6 &&
    (if 0x200 ≤ off then (off - 0x200) / 0x20 == q else q == 0 && decide (0x100 ≤ off))

/-- The numbers of queue `q` of a die (R287): its fields, the credits of the ports toward it, its ring. -/
def queueValues (s : State) (d q : Nat) : List Nat :=
  s.fieldValues d (queueKey q) ++ ((List.range 8).map fun p => s.credits (portOf s.dieOf p) d q) ++
    (s.ring d q).flatMap fun e => [e.lo, e.hi, e.time, e.slot]

/-- Stores the numbers of a queue. -/
def setQueue (s : State) (d q : Nat) (l : List Nat) : State :=
  let o := 1 + 2 * (l[0]?).getD 0
  let v (i : Nat) : Nat := (l[o + i]?).getD 0
  let s := s.setFields d l (queueKey q)
  let s := (List.range 8).foldl (fun s p => s.setCredits (portOf s.mapName p) d q (v p)) s
  s.setRing d q ((List.range ((l.length - o - 8) / 4)).map fun i => ⟨v (8 + 4 * i), v (9 + 4 * i), v (10 + 4 * i), v (11 + 4 * i)⟩)

/-- The payload of a BULK message for region `r` of a die (R298, R305): behind the regions of R288 the core state block,
then the 16 queues. -/
def bulkPayload (s : State) (d r : Nat) : List Byte :=
  toBE 1 (s.asName d) ++ toBE 1 0 ++ toBE 2 r ++
    (match regionAddr r with
     | some a => s.loadBytes (phys d a) 4096
     | none => Config.packBlock (if r = regionCount then s.coreValues d
         else if regionCount < r then s.queueValues d (r - regionCount - 1) else s.blockValues d r))

/-- Sends one region of a die, the next of its pass. -/
def bulkOne (s : State) (d : Nat) : State :=
  let pos := SMap.get 0 s.pair.bulkPos d
  let next := if inDies s.pair.bulkFirst d then (if pos < regionCount then some pos else none)
    else ((s.dirtyRegions d).find? fun r => decide (pos ≤ r)) <|> (s.dirtyRegions d).head?
  match next with
  | some r =>
    let s := s.partnerSend 0x07 0 s.frameNo (s.bulkPayload d r)
    { s with dirty := SMap.erase s.dirty (d * 4096 + r), pair := { s.pair with bulkPos := SMap.put 0 s.pair.bulkPos d (r + 1) } }
  | none => { s with pair := { s.pair with bulkFirst := minus 6 s.pair.bulkFirst (dieBit d), bulkPos := SMap.put 0 s.pair.bulkPos d 0 } }

/-- What a tick does to a bulk synchronisation that the active part serves. -/
def bulkAtTick (s : State) : State :=
  if !s.pair.bulk then s
  else if s.pair.bulkDone || s.mode != 1 then s.endBulk
  else if s.tablesDigest ≠ s.pair.bulkTables then s.startBulk
  else
    let s := { s with pair := { s.pair with bulkFinal := false } }
    (scanDies.filter s.live).foldl (fun s d => (List.range (s.rd 0 Reg.SHUNT_CFG_RATE)).foldl (fun s _ => s.bulkOne d) s) s

/-- The shunting row of a die in the present frame: its row number. -/
def shuntRow (s : State) (d : Nat) : Option Nat :=
  (s.selectedRows d s.minor).find? fun r => s.rowField d (s.activeBank d) r Reg.TTBL_ROW_W3_SHUNT == 1

/-- Whether the final step of a bulk synchronisation may run in this frame (R305). -/
def bulkMayEnd (s : State) : Bool :=
  let dies := scanDies.filter s.live
  let sum := (dies.map fun d => 4096 * (s.dirtyCount d + 1)).sum
  let starts := dies.map fun d => (s.shuntRow d).map fun r => s.rowField d (s.activeBank d) r Reg.TTBL_ROW_W0_START
  s.pair.bulk && s.pair.bulkFirst == 0 && s.mode == 1 && s.minor == s.rd 0 Reg.TICK_MAJOR_FRAMES - 1 &&
    (dies.all fun d => decide (s.dirtyCount d + 1 ≤ s.rd 0 Reg.SHUNT_CFG_DELTA_MAX)) &&
    starts.all (fun x => x.isSome && x == (starts[0]?).getD none) &&
    dies.all fun d => match s.shuntRow d with
      | some r => decide (2100 + (sum * 2 + 24) / 25 ≤ s.rowField d (s.activeBank d) r Reg.TTBL_ROW_W1_LENGTH)
      | none => false

/-- The start of a shunting row while a bulk synchronisation runs: the final step begins on this die (R305). -/
def bulkDecision (s : State) (d : Nat) : State :=
  if s.pair.bulkFinal || s.bulkMayEnd then
    let s := { s with pair := { s.pair with bulkFinal := true } }.quiesce d
    match s.slot? d 6 with
    | some x => s.setSlot d 6 { x with idle := false }
    | none => s
  else s

/-- What the start of a shunting row of a die decides (R290, R305). -/
def shuntRowStart (s : State) (d : Nat) : State := (s.shuntDecision d).bulkDecision d

/-- The final step of a bulk synchronisation ends (R305): the dirty regions, the core state and the queues of every LIVE die. -/
def bulkFinish (s : State) : State :=
  let dies := scanDies.filter s.live
  let s := dies.foldl (fun s d =>
    let s := (s.dirtyRegions d).foldl (fun s r => s.partnerSend 0x07 0 s.frameNo (s.bulkPayload d r)) s
    (List.range 17).foldl (fun s i => s.partnerSend 0x07 0 s.frameNo (s.bulkPayload d (regionCount + i))) s) s
  dies.foldl (fun s d => s.workDone d 6) { s with dirty := [], pair := { s.pair with bulkFinal := false, bulkDone := true } }

/-- A shunting row ends by its budget: a final delta has failed (R293); a final step is tried again. -/
def shuntRowExpires (s : State) (d : Nat) : State :=
  if s.pair.bulkFinal then { s with pair := { s.pair with bulkFinal := false } }.endRow d 6 else s.deltaFault

/-- One object of the Keeper tables is stored (R305), its dies through `PAIR.MAP`. -/
def storeTable (s : State) (code off : Nat) (data : List Byte) : State :=
  let w (i : Nat) : Nat := leAt data (4 * i) 4
  match code with
  | 0 =>
    let keep (fs : List FieldDef) (limit : Nat) (s : State) : State :=
      fs.foldl (fun s f => ((s.listed 0 f).filter (· < limit)).foldl (fun s k => s.resetField 0 (f.w k)) s) s
    keep stnFields 2048 (keep catFields 49152 (keep taskFields 64 { s with change := { s.change with footprint := [] } }))
  | 1 =>
    let s := s.setTaskWords (off / 12 % 64) [w 0, w 1, w 2]
    s.setTaskWords (off / 12 % 64) (s.taskWordsFor s.mapName (off / 12 % 64))
  | 2 =>
    let k := off / 16
    let s := (List.range 3).foldl (fun s i => s.putRaw 0 k (wordFields 0x19 (0x108 + 4 * i) catFields) (w i)) s
    s.wr 0 (Reg.CAT_ENT_W0_DIES.w k) (mapDies s.mapName (w 3 % 64))
  | 3 => (List.range 4).foldl (fun s i => s.putRaw 0 (off / 16) (wordFields 0x1A (0x110 + 4 * i) stnFields) (w i)) s
  | 4 =>
    let s := s.setRetWords ((List.range (data.length / 4)).map w)
    (List.range 64).foldl (fun s i =>
      let d := s.rd 0 (Reg.IMG_RETi_W0_DIE.i i)
      if isScan d then s.wr 0 (Reg.IMG_RETi_W0_DIE.i i) (s.mapName d) else s) s
  | 5 =>
    let r := (footRanges data).map fun (r : FootRange) => { r with die := if isScan r.die then s.mapName r.die else r.die }
    { s with change := { s.change with footprint := s.change.footprint ++ r } }
  | 6 =>
    let s := s.storeBytes (K_IMAGE + 0x78000 + off) (data.take (imageBytes - off))
    (s.wr 0 Reg.IMG_STAT_SAFE_VALID 1).wr 0 Reg.IMG_SAFE_CRC_CRC (crc32c (s.loadBytes (K_IMAGE + 0x78000) imageBytes))
  | _ => s

/-- What a write to `PAIR.CFG` does (R297): the part joins or leaves a pair. -/
def pairCfg (s : State) (_ : Nat) : State :=
  if s.on 0 Reg.PAIR_CFG_EN then
    (if s.pairState = 0 then { s with pair := { s.pair with startAt := s.time } }.setPair 1 else s)
  else (s.endBulk).setPair 0

/-- What a write to `PAIR.REQ` does (R305). -/
def pairReq (s : State) (v : Nat) : State := if bit v 0 then s.requestBulk else s

end State

/-! ### Commands -/

/-- HEARTBEAT (R299, R300): the partner's heartbeat arrives; late, it stays missing. -/
def execHeartbeat (m : LinkHead) (payload : List Byte) (s : State) : Result :=
  .next (s.linkTake m fun s =>
    if payload.length ≠ 32 then s
    else
      let old := s.pair.beat
      let onTime := decide (m.frame = s.frameNo) && !s.pair.heard
      let s := { s with pair := { s.pair with beat := payload } }
      let s := if onTime then
          let s := { s with pair := { s.pair with heard := true, missed := 0, goodAt := s.time } }
          if s.on 0 Reg.PAIR_STAT_LINK then s else (s.wr 0 Reg.PAIR_STAT_LINK 1).irq 0 0x15 1
        else s
      s.partnerShows old)

/-- HEARTBEAT_MISSING (R299): the heartbeat of the present frame has not come by its tick + 10 us; not counted in an
outage (R500). -/
def execHeartbeatMissing (s : State) : Result :=
  .next (if s.frame.ticked && !s.pair.heard && s.rd 0 Reg.UPD_KSTAT_STATE != 2 then
    let s := s.advanceTime (s.frame.tickTime + 10000)
    let s := { s with pair := { s.pair with heard := true, missed := s.pair.missed + 1 } }
    if s.rd 0 Reg.PAIR_CFG_HB_MISS ≤ s.pair.missed then s.linkSilent else s
  else s)

/-- LANE_ALIGNMENT_LOSS (R299). -/
def execLaneAlignmentLoss (s : State) : Result :=
  .next (if s.pair.aligned then
    { s.linkSilent with pair := { s.linkSilent.pair with aligned := false, rxSeq := none, rx := none } }
  else s)

/-- PARTNER_LINK_ALIGNED (R298, R305, R318): both lanes are aligned and the link is up, whatever `PAIR.CFG.EN` says (R321). -/
def execPartnerLinkAligned (s : State) : Result :=
  .next (if s.pair.aligned then s
  else
    let s := { s with pair := { s.pair with aligned := true, missed := 0, rxSeq := none, beat := [] } }
    let s := if s.on 0 Reg.PAIR_STAT_LINK then s else (s.wr 0 Reg.PAIR_STAT_LINK 1).irq 0 0x15 1
    let s := if s.pairState = 7 then s.noSync 6 else s
    if s.on 0 Reg.PAIR_CFG_EN = false ∨ s.on 0 Reg.PAIR_CFG_MANUAL = true then s else s.requestBulk)

/-- SNAP (R298, R302): snapshot bytes reach the mirror staging. -/
def execSnapMessage (m : LinkHead) (offset : Nat) (data : List Byte) (s : State) : Result :=
  .next (s.linkTake m fun s =>
    if s.mirrorTo then
      (s.rxTake m.frame (toBE 4 offset ++ data) id).storeBytes (mirrorStage + offset) (data.take (imageBytes - offset))
    else s)

/-- SIDE (R301): the side record, or its next 4,096 bytes. -/
def execSideMessage (m : LinkHead) (payload : List Byte) (s : State) : Result :=
  .next (s.linkTake m fun s => if s.mirrorTo then s.rxTake m.frame payload fun x => { x with side := x.side ++ payload } else s)

/-- DELTA (R302): committed words, stored in the frame's K-DEPOT slot. -/
def execDeltaMessage (m : LinkHead) (payload : List Byte) (s : State) : Result :=
  .next (s.linkTake m fun s =>
    if s.mirrorTo then
      let pos := ((s.rxOf m.frame).deltas.map List.length).sum
      (s.rxTake m.frame payload fun x => { x with deltas := x.deltas ++ [payload] }).storeBytes (deltaSlot m.frame + pos)
        (payload.take (0x2C000 - pos))
    else s)

/-- END (R303): the frame is complete when every message came, good and consecutive, and the digest agrees. -/
def execEndMessage (m : LinkHead) (digest : List Byte) (crc count : Nat) (s : State) : Result :=
  .next (s.linkTake m fun s =>
    match s.pair.rx with
    | some x =>
      let ok := x.frame == m.frame && x.good && Sha.sha256 x.data == digest && x.count == count
      { s with pair := { s.pair with rx := none, done := if ok then some { x with crc := crc } else s.pair.done } }
    | none => s)

/-- ABORT (R304): the present mirrored frame is discarded and synchronisation ends. -/
def execAbortMessage (m : LinkHead) (s : State) : Result :=
  .next (s.linkTake m fun s =>
    let s := { s with pair := { s.pair with rx := none } }
    if s.pairState = 4 ∨ s.pairState = 6 then ((s.inc 0 Reg.PAIR_DISCARDS_COUNT).irq 0 0x15 3).noSync 1 else s)

/-- MIRROR_APPLY_DEADLINE (R302): the tick + 1 us of a standby. -/
def execMirrorApplyDeadline (s : State) : Result :=
  .next (if s.standby ∧ s.frame.ticked = true ∧ s.pair.apply = none ∧ s.rd 0 Reg.UPD_KSTAT_STATE ≠ 2 then
    (s.advanceTime (s.frame.tickTime + 1000)).mirrorDeadline
  else s)

/-- BULK (R305): one 4 KiB region of a die reaches the standby. -/
def execBulkMessage (m : LinkHead) (name region : Nat) (data : List Byte) (s : State) : Result :=
  .next (s.linkTake m fun s =>
    if s.pairState = 3 ∧ isScan name = true ∧ data.length = 4096 then
      let d := s.mapName name
      if region = regionCount then
        let s := s.setCores d (Config.unpackBlock data)
        { s with pair := { s.pair with bulkGot := s.pair.bulkGot ||| dieBit name, bulkFrame := m.frame } }
      else if regionCount < region then (if region ≤ regionCount + 16 then s.setQueue d (region - regionCount - 1) (Config.unpackBlock data) else s)
      else match regionAddr region with
        | some a => s.storeBytes (phys d a) data
        | none => s.setBlock d region (Config.unpackBlock data)
    else s)

/-- BULK_KEEPER (R305): Keeper tables reach the standby. -/
def execBulkKeeper (m : LinkHead) (object offset : Nat) (data : List Byte) (s : State) : Result :=
  .next (s.linkTake m fun s => if s.pairState = 3 then (hotChange s (s.storeTable object offset data)).showTables else s)

/-- PAIR_SYNC_REQUEST (R305): a write to `PAIR.REQ` with SYNC set. -/
def execPairSyncRequest (w : Who) (s : State) : Result := .next (writeThen w 0 0x15 0x12C 1 s State.pairReq)

/-- YIELD (R314): a yield that names a frame which the standby has applied or holds complete. -/
def execYieldMessage (m : LinkHead) (named : Nat) (s : State) : Result :=
  .next (s.linkTake m fun s =>
    if named = s.pair.applied ∨ (s.pair.apply.map MirrorRx.frame) = some named ∨ (s.pair.done.map MirrorRx.frame) = some named then s.takeOver else s)

/-- DELTA_END (R291, R292, R305): the final delta of a Shunting and the core state reach the target, or fail; likewise the
final step of a bulk synchronisation ends. -/
def execDeltaEnd (s : State) : Result :=
  let d := s.rd 0 Reg.SHUNT_STAT_SOURCE
  .next (if s.pair.bulkFinal then s.bulkFinish
  else if s.rd 0 Reg.SHUNT_STAT_STATE = 3 ∧ s.shunt.delivered = false ∧ s.working d 6 = true then
    if s.deltaPoisoned d || s.absentDie (s.rd 0 Reg.SHUNT_STAT_TARGET) then s.deltaFault else s.deltaDone
  else s)

/-- ARM (R235): a notice from the active part; the standby arms the change that it holds. -/
def execArmNotice (m : LinkHead) (identity frame : Nat) (revert : Bool) (s : State) : Result :=
  .next (s.linkTake m fun s =>
    if s.standby ∧ identity = s.change.identity ∧ s.change.state = (if revert then 5 else 2) then
      { s with change := { s.change with reverting := revert } }.armChange frame
    else s)

/-- GO (R235): the go marker; it counts when it arrives before Ts, also behind the carry start, which it then lets begin. -/
def execGoMarker (m : LinkHead) (identity frame : Nat) (s : State) : Result :=
  .next (s.linkTake m fun s =>
    if s.standby ∧ s.changeArmed ∧ identity = s.change.identity ∧ frame = s.change.switchFrame then
      let s := { s with change := { s.change with go := true } }
      if s.change.switchFrame = s.frameNo + 1 ∧ s.carryInstant ≤ s.time ∧ s.pointsOk then s.startCarry else s
    else s)

/-- AUTHORITY_REPLY (R480, R497): an AUTHORITY message arrives.  The reply to a relayed frame goes back on the transport
that brought the request, the partner's DONE to an activation keeps it armed; a frame that is no reply goes to the
Authority engine. -/
def takeAuthority (m : LinkHead) (frame : List Byte) (done : State → List Byte → State) (s : State) : State :=
  s.linkTake m fun s =>
    if byteAt frame 1 < 128 then s.deliver ⟨1, 0, frame⟩
    else
      let s := done s frame
      match s.auth.relayed with
      | some (source, sender) => { s with auth := { s.auth with relayed := none } }.sendReply source sender frame
      | none => s

end Sys2Proof.Machine
end

