-- ==== Sys2Proof/Machine/Update.lean ====
section
/-! DEFINITION.  Firmware updates (spec/15 R493 to R508, R510): sessions, Keeper activations and their outage, Executive
rotations, trials, confirmation and fallback, and the settings service; block protect (spec/13 R417). -/

namespace Sys2Proof.Machine

open Sys2Proof.Bits

namespace State

/-! ### Sessions (R493 to R495) -/

/-- The session changes its state. -/
def sessionTo (s : State) (st : Nat) : State := (s.wr 0 Reg.UPD_SESS_STATE st).irq 0 0x13 0

/-- The last refusal or failure of an update command. -/
def updCode (s : State) (c : Nat) : State := s.wr 0 Reg.UPD_SESS_CODE c

/-- A session is open: its data arrive, or it is being verified. -/
def sessionOpen (s : State) : Bool := s.rd 0 Reg.UPD_SESS_STATE == 1 || s.rd 0 Reg.UPD_SESS_STATE == 2

/-- The slot in which a level runs. -/
def activeSlot (s : State) (level : Nat) : Nat :=
  s.rd 0 (if level = 1 then Reg.UPD_KSTAT_ACTIVE else Reg.UPD_ESTAT_ACTIVE)

/-- A level is in TRIAL, or a fallback or an Executive rotation runs (R493). -/
def updBusy (s : State) : Bool :=
  s.rd 0 Reg.UPD_KSTAT_STATE == 3 || s.rd 0 Reg.UPD_ESTAT_STATE != 0 || s.upd.falling != 0 || s.upd.stage != 0

/-- A refused update command. -/
def updRefuse (s : State) (c : Nat) : AuthDone := ⟨s.updCode c, .refused, c⟩

/-- A soft reset of the page closes an open session (R510). -/
def updSoftReset (s : State) : State := if s.sessionOpen then (s.sessionTo 5).updCode 1 else s

/-- Whether a frame came on the transport of the session. -/
def fromSession (s : State) (f : AuthFrame) : Bool :=
  f.source == s.rd 0 Reg.UPD_SESS_SOURCE && (decide (f.source < 3) || f.sender == s.upd.sender)

/-- LEVEL of the waiting update command. -/
def headLevel (s : State) : Nat := match s.auth.inbox with | f :: _ => byteAt f.bytes 24 | [] => 0

/-- Why a frame of a session's data is not written: 3 wrong session, 6 wrong offset, 0 when it is written (R494). -/
def dataCode (s : State) (f : AuthFrame) : Nat :=
  let at' := s.rd 0 Reg.UPD_RECEIVED_BYTES
  let n := ofBE (cut f.bytes 20 2)
  if s.rd 0 Reg.UPD_SESS_STATE ≠ 1 ∨ ofBE (cut f.bytes 12 4) ≠ s.rd 0 Reg.UPD_SESSION_ID ∨ s.fromSession f = false then 3
  else if ofBE (cut f.bytes 16 4) ≠ at' ∨ byteAt f.bytes 0 ≠ 1 ∨ n < 8 ∨ 1024 < n ∨ f.bytes.length < 24 + n ∨
      s.upd.length < at' + n ∨ (n % 8 ≠ 0 ∧ at' + n ≠ s.upd.length) then 6
  else 0

/-- The Update engine takes a data frame and answers it. -/
def takeData (s : State) (f : AuthFrame) : State :=
  let c := s.dataCode f
  let s := if c = 3 then s else { s with upd := { s.upd with dataAt := s.time } }
  let s := if c = 0 then
      let n := ofBE (cut f.bytes 20 2)
      let at' := s.rd 0 Reg.UPD_RECEIVED_BYTES
      let s := s.storeBytes (STACKS + slotAt (s.rd 0 Reg.UPD_SESS_LEVEL) s.upd.slot + at') (cut f.bytes 24 n)
      let s := s.wr 0 Reg.NVC_WRITES_COUNT (s.rd 0 Reg.NVC_WRITES_COUNT + (n + 7) / 8)
      let s := s.wr 0 Reg.UPD_RECEIVED_BYTES (at' + n)
      if at' + n = s.upd.length then s.sessionTo 2 else s
    else s
  s.sendReply f.source f.sender (toBE 1 1 ++ toBE 1 0xC0 ++ toBE 1 0 ++ toBE 1 c ++ toBE 8 partId ++
    toBE 4 (s.rd 0 Reg.UPD_SESSION_ID) ++ toBE 4 (s.rd 0 Reg.UPD_RECEIVED_BYTES))

end State

/-- Roles that may open a session, or confirm: OWNER and VENDOR for level 1, ENGINEER and OWNER for level 2 (R485). -/
def rolesOpen (r : Nat) (p : List Byte) : Bool :=
  match byteAt p 0 with
  | 1 => r == 3 || r == 4
  | 2 => r == 2 || r == 3
  | _ => r == 2 || r == 3 || r == 4

/-- Form of UPDATE_OPEN. -/
def openForm (p : List Byte) : Bool := p.length == 40 && decide (byteAt p 0 ≤ 2) && zeroAt p 1 3

/-- UPDATE_OPEN (R493): the waiting frame with OP 0x04 and LEVEL 1 or 2. -/
def execUpdateOpen (s : State) : Result :=
  .next (if s.headLevel = 0 then s else s.authCommand 0x04 rolesOpen openForm fun s f p =>
    let level := byteAt p 0
    let n := ofBE (cut p 4 4)
    if s.sessionOpen then ⟨s.updCode 2, .busy, 2⟩
    else if s.updBusy then s.updRefuse 8
    else if slotSize level < n then s.updRefuse 3
    else
      let (k, s) := s.drawFree
      let id := Config.freeValue k % 2 ^ 32
      let slot := 1 - s.activeSlot level
      let s := (s.wr 0 Reg.UPD_SESSION_ID id).wr 0 Reg.UPD_SESS_LEVEL level
      let s := (s.wr 0 Reg.UPD_SESS_SOURCE f.source).wr 0 Reg.UPD_RECEIVED_BYTES 0
      let s := { s with upd := { s.upd with slot := slot, length := n, digest := cut p 8 32, sender := f.sender, dataAt := s.time } }
      ⟨s.sessionTo (if n = 0 then 2 else 1), .done, id * 2 ^ 32 + slot⟩)

/-- UPDATE_CLOSE (R493): the waiting frame with OP 0x04 and LEVEL 0, from the session's own transport. -/
def execUpdateClose (s : State) : Result :=
  .next (if s.headLevel ≠ 0 then s else s.authCommand 0x04 rolesOpen openForm fun s f _ =>
    if s.sessionOpen ∧ s.fromSession f = true then ⟨s.sessionTo 5, .done, 0⟩ else s.updRefuse 1)

/-- SESSION_DATA (R494): the waiting session data frame. -/
def execSessionData (s : State) : Result :=
  .next (match s.auth.inbox with
    | f :: rest =>
      if State.hasRow f && frameOp f == 0x40 then
        let s := (s.takeFrame f rest).takeData f
        State.flushOdd s.auth.inbox.length s
      else s
    | [] => s)

/-- SESSION_TIMEOUT (R493): 60 s without a data frame. -/
def execSessionTimeout (s : State) : Result :=
  .next (if s.rd 0 Reg.UPD_SESS_STATE = 1 then
    ((s.advanceTime (s.upd.dataAt + 60000000000)).sessionTo 5).updCode 15
  else s)

/-- SESSION_VERIFY_END (R495): the checks of a whole image end. -/
def execSessionVerifyEnd (s : State) : Result :=
  .next (if s.rd 0 Reg.UPD_SESS_STATE = 2 then
    let level := s.rd 0 Reg.UPD_SESS_LEVEL
    let c := if Sha.sha256 (s.loadBytes (STACKS + slotAt level s.upd.slot) s.upd.length) ≠ s.upd.digest then 4
      else s.fwCode level (s.slotImage level s.upd.slot)
    if c = 0 then s.sessionTo 3 else (s.sessionTo 4).updCode c
  else s)

/-! ### Keeper activations (R496 to R500) -/

namespace State

/-- The image staged beside ACTIVE is valid and has a digest. -/
def staged (s : State) (level : Nat) (digest : List Byte) : Bool :=
  let slot := 1 - s.activeSlot level
  s.slotValid level slot && Sha.sha256 (s.slotImage level slot) == digest

/-- Keeper level: state. -/
def kState (s : State) (v : Nat) : State := s.wr 0 Reg.UPD_KSTAT_STATE v

end State

/-- Identities that an UPDATE_ACTIVATE names. -/
def namedParts (p : List Byte) : List Nat := (List.range (byteAt p 1)).map fun i => ofBE (cut p (44 + 8 * i) 8)

namespace State

/-- The first failing test of R496. -/
def activateRefusal (s : State) (p : List Byte) : Option Nat :=
  let at' := ofBE (cut p 36 8)
  let tests : List (Nat × Bool) :=
    [(13, !s.staged 1 (cut p 4 32)), (8, s.updBusy || s.activating),
     (12, decide (at' < s.time + 1000000000) || decide (s.time + 86400000000000 < at') || !(namedParts p).contains partId),
     (9, s.on 0 Reg.PAIR_CFG_EN && !(s.upd.partner.any (namedParts p).contains)),
     (1, [3, 4, 6].contains s.change.state || s.shunting || s.bulkRuns)]
  (tests.find? (·.2)).map (·.1)

/-- The partner's DONE to an UPDATE_ACTIVATE reaches the part, or has reached it before (R497). -/
def matchDone (s : State) : State :=
  if s.upd.waiting && s.upd.done == some s.upd.command then { s with upd := { s.upd with waiting := false } } else s

/-- An activation is armed for the first tick at or after INSTANT; `falling`: the cause of the fallback that it is. -/
def armActivation (s : State) (instant : Nat) (command : Nat × Nat) (falling : Nat) : State :=
  let paired := falling == 0 && s.on 0 Reg.PAIR_CFG_EN
  State.matchDone { s.kState 1 with upd := { s.upd with goAt := instant, command := command, waiting := paired, falling := falling, tell := paired } }

/-- A Keeper fallback begins (R506): HEALTH or PARTNER; its activation is armed. -/
def armFallback (s : State) (instant cause : Nat) : State :=
  let s := ((s.clearMigrations 1).noteFallback cause).wr 0 Reg.UPD_KSTAT_CAUSE cause
  s.armActivation instant (16, 0) cause

/-- The armed activation is given up (R497). -/
def disarm' (s : State) : State :=
  let s : State := { s.kState 0 with upd := { s.upd with waiting := false, tell := false } }
  (s.wr 0 Reg.UPD_KSTAT_CAUSE 9).archive 0x13 72 .info [9]

/-- The boot ROM boots a staged image at once (R492). -/
def bootStaged (s : State) : State :=
  let slot := 1 - s.activeSlot 1
  let s := s.writeLevel 1 slot true (s.rd 0 Reg.UPD_KSTAT_CAUSE) (s.time + 1000000000 * s.rd 0 Reg.UPD_CFG_CONFIRM_WINDOW)
  ((s.startKeeper slot).firmwareStarts false).kState 3

end State

/-! ### Executive rotations (R501 to R503) -/

namespace State

/-- Executive level: state. -/
def eState (s : State) (v : Nat) : State := s.wr 0 Reg.UPD_ESTAT_STATE v

/-- Where the rotation stands; `UPD.ESTAT.NEXT` shows the next name. -/
def rotateTo (s : State) (stage : Nat) (left : List Nat) : State :=
  { s.wr 0 Reg.UPD_ESTAT_NEXT ((left.head?).getD 0) with upd := { s.upd with stage := stage, left := left } }

/-- Names of the LIVE dies, rising. -/
def liveNames (s : State) : List Nat := scanDies.filter fun n => s.live (s.dieOf n)

/-- Whether a declared range of the staged Executive meets the running program's footprint, without the ranges of the
running Executive (R501). -/
def rangesOverlap (s : State) : Bool :=
  let new := fwFootprint (s.slotImage 2 (1 - s.activeSlot 2))
  (s.change.footprint.flatMap fun r => r.without s.change.execRanges).any fun r => new.any r.meets

/-- The first failing test of R501. -/
def rotateRefusal (s : State) (digest : List Byte) : Option Nat :=
  let tests : List (Nat × Bool) :=
    [(13, !s.staged 2 digest), (8, s.updBusy || s.activating), (10, !scanDies.any s.spareReady), (11, s.rangesOverlap),
     (1, s.mode != 1 || !([0, 2, 5] : List Nat).contains s.change.state)]
  (tests.find? (·.2)).map (·.1)

/-- A rotation begins (R502). -/
def startRotation (s : State) (slot : Nat) (left : List Nat) : State :=
  let s : State := { s with upd := { s.upd with toSlot := slot, moved := [], ready := 0, vacated := 0 } }
  s.rotateTo 1 left

/-- An Executive fallback begins (R506): a rotation back to `slot` over the names `left`. -/
def fallbackExec (s : State) (cause slot : Nat) (left : List Nat) : State :=
  let s := (((s.clearMigrations 2).noteFallback cause).wr 0 Reg.UPD_ESTAT_CAUSE cause).eState 3
  s.startRotation slot left

/-- The last cutover has taken place, or there was none to make: the descriptor is written (R502, R506). -/
def endRotation (s : State) : State :=
  let slot := s.upd.toSlot
  let s := s.runExecutive slot
  let cause := s.rd 0 Reg.UPD_ESTAT_CAUSE
  if s.rd 0 Reg.UPD_ESTAT_STATE = 1 then
    let s := s.writeLevel 2 slot true cause (s.time + 1000000000 * s.rd 0 Reg.UPD_CFG_CONFIRM_WINDOW)
    let s := ((s.wr 0 Reg.UPD_ESTAT_HEALTHY 0).eState 2).irq 0 0x13 1
    { s with upd := { s.upd with marks := 0 } }
  else (s.writeLevel 2 slot false cause 0).eState 0

/-- The part looks at the Shunting of a rotation: its cutover, or its end without one (R502). -/
def rotationLook (s : State) : State :=
  if s.upd.stage ≠ 3 then s
  else
    let st := s.rd 0 Reg.SHUNT_STAT_STATE
    let free (s : State) : State := { s with shunt := { s.shunt with excluded := [] } }
    match s.upd.left with
    | n :: rest =>
      if st = 4 then
        let s := free { s with upd := { s.upd with moved := s.upd.moved ++ [n], vacated := s.rd 0 Reg.SHUNT_STAT_SOURCE } }
        let s := s.rotateTo 4 rest
        if rest.isEmpty then s.endRotation else s
      else if st = 5 then
        let s := free s
        if s.rd 0 Reg.UPD_ESTAT_STATE = 1 then
          s.fallbackExec (if s.rd 0 Reg.SHUNT_STAT_CODE = 10 then 7 else 6) (s.activeSlot 2) s.upd.moved
        else s.rotateTo 2 (n :: rest)
      else s
    | [] => s

/-- The SPARE die that the next step loads: the one just vacated, else the lowest. -/
def loadTarget (s : State) : Option Nat :=
  if s.spareReady s.upd.vacated then some s.upd.vacated else scanDies.find? s.spareReady

/-- A rotation cannot go on: the new Executive's falls back, a fallback tries again later. -/
def rotationStuck (s : State) (retry : Nat) : State :=
  if s.rd 0 Reg.UPD_ESTAT_STATE = 1 then s.fallbackExec 6 (s.activeSlot 2) s.upd.moved else s.rotateTo retry s.upd.left

/-- The next step of a rotation (R502). -/
def rotationStep (s : State) : State :=
  let s := s.rotationLook
  match s.upd.stage with
  | 1 =>
    match s.loadTarget with
    | some d =>
      let s := s.loadExecutive d s.upd.toSlot
      let s : State := { s with upd := { s.upd with ready := d } }
      if s.upd.left.isEmpty then
        let s := s.rotateTo 0 []
        if s.rd 0 Reg.UPD_ESTAT_STATE = 3 then s.endRotation else s
      else s.rotateTo 2 s.upd.left
    | none =>
      if s.upd.left.isEmpty then
        let s := s.rotateTo 0 []
        if s.rd 0 Reg.UPD_ESTAT_STATE = 3 then s.endRotation else s
      else s.rotationStuck 1
  | 2 =>
    match s.upd.left with
    | n :: _ =>
      let own (slot : Nat) : List (Nat × Nat) :=
        ((fwRanges (s.slotImage 2 slot)).filter fun r => r.kind == 1).map fun r => (r.first, r.last + 1)
      let t : State := { s with shunt := { s.shunt with excluded := own 0 ++ own 1 } }
      match t.startShunt (s.dieOf n) s.upd.ready 1 with
      | (t, none) => t.rotateTo 3 s.upd.left
      | (t, some _) => State.rotationStuck { t with shunt := { t.shunt with excluded := [] } } 1
    | [] => s.rotateTo 0 []
  | 4 =>
    if (s.returnRefusal s.upd.vacated).isNone then (s.returnDie s.upd.vacated).rotateTo 5 s.upd.left
    else s.rotateTo (if s.upd.left.isEmpty then 0 else 1) s.upd.left
  | 5 =>
    if inDies s.shunt.returning s.upd.vacated then s
    else if s.upd.left.isEmpty ∧ s.role s.upd.vacated ≠ 1 then s.rotateTo 0 []
    else s.rotateTo 1 s.upd.left
  | _ => s

end State

/-! ### Activation: commands -/

/-- Roles that may activate (R485). -/
def rolesActivate (r : Nat) (p : List Byte) : Bool := if byteAt p 0 = 1 then r == 3 || r == 4 || r == 6 else r == 2 || r == 3

/-- Form of UPDATE_ACTIVATE (R485, R501). -/
def activateForm (p : List Byte) : Bool :=
  (byteAt p 0 == 1 || (byteAt p 0 == 2 && byteAt p 1 == 0 && zeroAt p 36 8)) && decide (byteAt p 1 ≤ 8) && zeroAt p 2 2 &&
    p.length == 44 + 8 * byteAt p 1

/-- UPDATE_ACTIVATE (R485, R492, R496, R497, R501, R506): the waiting frame with OP 0x05.  A paired part sends its own
reply to the partner. -/
def execUpdateActivate (s : State) : Result :=
  let s := s.authCommand 0x05 rolesActivate activateForm fun s f p =>
    let slot := byteAt f.bytes 2
    if byteAt p 0 = 2 then
      match s.rotateRefusal (cut p 4 32) with
      | some c => s.updRefuse c
      | none => ⟨(s.startRotation (1 - s.activeSlot 2) s.liveNames).eState 1, .started, 0⟩
    else if s.keyRole slot = 6 then
      if s.upd.falling ≠ 0 then s.updRefuse 8 else ⟨s.armFallback (ofBE (cut p 36 8)) 5, .done, 0⟩
    else if !s.firmware && s.rd 0 Reg.RST_CAUSE_BOOT == 2 then
      if s.staged 1 (cut p 4 32) then ⟨s.bootStaged, .done, 0⟩ else s.updRefuse 13
    else match s.activateRefusal p with
      | some c => s.updRefuse c
      | none => ⟨s.armActivation (ofBE (cut p 36 8)) (slot, ofBE (cut f.bytes 12 8)) 0, .done, 0⟩
  .next (if s.upd.tell then
    { s.partnerSend 0x0C 0 s.frameNo (SMap.get [] s.auth.lastReply s.upd.command.1) with upd := { s.upd with tell := false } }
  else s)

namespace State

/-- The instant of the first tick at or after a global time (R66). -/
def firstTick (s : State) (t : Nat) : Nat :=
  let e := s.rd2 0 Reg.TICK_EPOCH_LO_NS Reg.TICK_EPOCH_HI_NS
  let p := 1000 * s.rd 0 Reg.TICK_PERIOD_US
  tickAt s ((t - e + p - 1) / p)

end State

/-- PARTNER_DONE_DEADLINE (R497): 100 ms before Ta without the partner's DONE. -/
def execPartnerDoneDeadline (s : State) : Result :=
  .next (if s.rd 0 Reg.UPD_KSTAT_STATE = 1 ∧ s.upd.waiting = true then
    (s.advanceTime (s.firstTick s.upd.goAt - 100000000)).disarm'
  else s)

/-- AUTHORITY_REPLY (R480, R497): an AUTHORITY message over the Partner link. -/
def execAuthorityReply (m : LinkHead) (frame : List Byte) (s : State) : Result :=
  .next (takeAuthority m frame (fun s b =>
    let s : State := { s with upd := { s.upd with partner := some (ofBE (cut b 4 8)) } }
    if byteAt b 1 = 0x85 ∧ byteAt b 3 = 0 then
      State.matchDone { s with upd := { s.upd with done := some (byteAt b 2, ofBE (cut b 12 8)) } }
    else s) s)

namespace State

/-- The outage begins at Ta (R498): the descriptor, the dies in Retention, the firmware still; a SWITCHED change settles
(R234). -/
def startOutage (s : State) : State :=
  let slot := 1 - s.activeSlot 1
  let f := s.upd.falling
  let s := s.writeLevel 1 slot (f == 0) (if f = 0 then s.rd 0 Reg.UPD_KSTAT_CAUSE else f)
    (s.time + 1000000000 * s.rd 0 Reg.UPD_CFG_CONFIRM_WINDOW)
  let s := (s.settle.kState 2).wr 0 Reg.UPD_KSTAT_HEALTHY 0
  let s := scanDies.foldl (fun s d => s.retainDie d true) s
  { s with firmware := false, upd := { s.upd with outAt := s.time, copying := true, restored := f != 0, resumed := none, waiting := false } }

/-- The outage ends at Tb (R498, R500): the dies resume, the level is in TRIAL unless the old image has returned. -/
def endOutage (s : State) : State :=
  let s := scanDies.foldl (fun s d => s.retainDie d (inDies (s.rd 0 Reg.PWR_RETAIN_DIES) d)) s
  let s := if s.upd.restored then s.kState 0 else (s.kState 3).irq 0 0x13 1
  { s with
    upd := { s.upd with resumed := none, restored := false, falling := 0 }
    pair := { s.pair with verdictAt := s.time + 2000000, goodAt := s.time + 2000000 } }

/-- What a tick does to an armed activation and to an outage (R498). -/
def activationAtTick (s : State) : State :=
  match s.rd 0 Reg.UPD_KSTAT_STATE with
  | 1 => if s.time < s.upd.goAt then s else if s.upd.waiting then s.disarm' else s.startOutage
  | 2 => match s.upd.resumed with
    | some c => if c + 256 ≤ s.cycle then s.endOutage else s
    | none => s
  | _ => s

/-- The activation falls back within its outage ("When the copy fails or RESUME does not come"): COPY or RESUME. -/
def fallbackOutage (s : State) (cause : Nat) : State :=
  let s := (s.writeLevel 1 (1 - s.activeSlot 1) false cause 0).clearMigrations 1
  { s.noteFallback cause with firmware := false, upd := { s.upd with copying := true, restored := true } }

/-- What a write to `UPD.CTL` does (R498, R504). -/
def updCtl (s : State) (v : Nat) : State :=
  let k := s.rd 0 Reg.UPD_KSTAT_STATE
  let s := if bit v 0 && k == 3 then s.wr 0 Reg.UPD_KSTAT_HEALTHY 1 else s
  if bit v 1 && k == 2 && !s.upd.copying && s.upd.resumed.isNone then
    { s.wr 0 Reg.UPD_OUTAGE_US (min 16383 ((s.time - s.upd.outAt) / 1000)) with upd := { s.upd with resumed := some s.cycle } }
  else s

end State

/-- FIRMWARE_COPY_END (R498): the copy into K-CORE ends; `good`: it has the image's digest. -/
def execFirmwareCopyEnd (good : Bool) (s : State) : Result :=
  .next (if s.rd 0 Reg.UPD_KSTAT_STATE = 2 ∧ s.upd.copying = true then
    let s := s.advanceTime (s.upd.outAt + 50000)
    if good then { s.startKeeper (s.activeSlot 1) with upd := { s.upd with copying := false } }
    else if s.upd.restored then s else s.fallbackOutage 3
  else s)

/-- UPD_RESUME (R498, R510): a write to `UPD.CTL` with RESUME set. -/
def execUpdResume (w : Who) (s : State) : Result := .next (writeThen w 0 0x13 0x104 2 s State.updCtl)

/-- RESUME_DEADLINE (R498): no RESUME by Ta + 7.5 ms. -/
def execResumeDeadline (s : State) : Result :=
  .next (if s.rd 0 Reg.UPD_KSTAT_STATE = 2 ∧ s.upd.resumed = none ∧ s.upd.restored = false then
    (s.advanceTime (s.upd.outAt + 7500000)).fallbackOutage 4
  else s)

/-- ROTATION_STEP (R502): Keeper firmware takes the next step of a rotation. -/
def execRotationStep (s : State) : Result := .next (if s.firmware then s.rotationStep else s)

/-! ### Trials (R504 to R506) -/

/-- UPD_HEALTHY (R504, R510): a write to `UPD.CTL` with HEALTHY set. -/
def execUpdHealthy (w : Who) (s : State) : Result := .next (writeThen w 0 0x13 0x104 1 s State.updCtl)

namespace State

/-- Keeper firmware takes the head entry of Q13 when it has a tag. -/
def serviceEntry (s : State) (tag : Nat) (act : State → QEntry → State) : State :=
  match s.ring 0 13 with
  | e :: _ => if s.firmware ∧ e.hi % 2 ^ 16 = tag then act (s.popQueue 0 13).1 e else s
  | [] => s

/-- A level's trial ends well (R505, R507). -/
def confirmLevel (s : State) (l : Nat) (raise : Bool) : State :=
  let d := s.level l
  let s := if raise then s.setCell (19 + l) d.svn else s
  let s := (s.writeLevel l d.active false d.cause d.deadline).migrate l
  let s := if l = 1 then s.kState 0 else s.eState 0
  ({ s with fellBack := false }.irq 0 0x13 2).archive 0x13 2 .info [l]

/-- A level is in TRIAL. -/
def inTrial (s : State) (l : Nat) : Bool := if l = 1 then s.rd 0 Reg.UPD_KSTAT_STATE == 3 else s.rd 0 Reg.UPD_ESTAT_STATE == 2

/-- The health mark of a level is complete. -/
def marked (s : State) (l : Nat) : Bool := s.on 0 (if l = 1 then Reg.UPD_KSTAT_HEALTHY else Reg.UPD_ESTAT_HEALTHY)

/-- A tick at or after DEADLINE has come ("When a confirmation arrives as the deadline falls"). -/
def deadlinePassed (s : State) (l : Nat) : Bool := s.frame.ticked && decide ((s.level l).deadline ≤ s.frame.tickTime)

/-- The slot of the PARTNER key, if one is set. -/
def partnerSlot (s : State) : Option Nat := (List.range 16).find? fun k => s.keyRole k == 6

/-- The partner is sent an UPDATE_ACTIVATE of level 1 from the PARTNER slot (R506).  Its COUNTER is a free value (log
entry 77). -/
def tellPartner (s : State) (instant : Nat) : State :=
  match s.partnerSlot with
  | some k =>
    let (n, s) := s.drawFree
    let p := toBE 1 1 ++ toBE 1 2 ++ toBE 2 0 ++ Sha.sha256 (s.slotImage 1 (1 - s.activeSlot 1)) ++ toBE 8 instant ++ toBE 8 partId ++
      toBE 8 (s.upd.partner.getD 0)
    let b := toBE 1 1 ++ toBE 1 5 ++ toBE 1 k ++ toBE 1 0 ++ toBE 8 (2 ^ 64 - 1) ++ toBE 8 (Config.freeValue n % 2 ^ 64) ++
      toBE 2 p.length ++ toBE 2 0 ++ p
    s.partnerSend 0x0C 0 s.frameNo (b ++ cmacTag (s.slotKey k) b)
  | none => s

/-- What becomes of a level in TRIAL whose DEADLINE has passed (R505, R506). -/
def trialEnds (s : State) (l : Nat) : State :=
  if !(s.inTrial l && s.deadlinePassed l) then s
  else if s.marked l then s.confirmLevel l false
  else if l = 1 then
    let instant := (s.level 1).deadline + 1000000000
    let s := s.armFallback instant 1
    if s.on 0 Reg.PAIR_CFG_EN then s.tellPartner instant else s
  else s.fallbackExec 1 (1 - s.activeSlot 2) s.liveNames

end State

/-- EXECUTIVE_HEALTH_MARK (R504): the entry with tag 0xA010 from a core of a LIVE die, whose low word is the first 4 bytes
of the new image's digest. -/
def execExecutiveHealthMark (s : State) : Result :=
  .next (s.serviceEntry 0xA010 fun s e =>
    let who := e.hi / 2 ^ 24
    let d := whoDie who
    if s.inTrial 2 ∧ isScan d = true ∧ s.live d = true ∧ whoIx who < 4 ∧ e.lo = leAt (s.level 2).digest 0 4 then
      let s : State := { s with upd := { s.upd with marks := s.upd.marks ||| dieBit d } }
      if scanDies.all fun d => !s.live d || inDies s.upd.marks d then s.wr 0 Reg.UPD_ESTAT_HEALTHY 1 else s
    else s)

/-- UPDATE_CONFIRM (R505): the waiting frame with OP 0x06. -/
def execUpdateConfirm (s : State) : Result :=
  let form (p : List Byte) : Bool := p.length == 36 && decide (1 ≤ byteAt p 0) && decide (byteAt p 0 ≤ 2) && zeroAt p 1 3
  .next (s.authCommand 0x06 rolesOpen form fun s _ p =>
    let l := byteAt p 0
    if !s.inTrial l || s.deadlinePassed l then s.updRefuse 1
    else if !s.marked l || Sha.sha256 (s.slotImage l (s.activeSlot l)) != cut p 4 32 then s.updRefuse 14
    else ⟨s.confirmLevel l true, .done, 0⟩)

/-- TRIAL_DEADLINE (R505, R506): the first tick at or after DEADLINE has come. -/
def execTrialDeadline (s : State) : Result := .next ((s.trialEnds 1).trialEnds 2)

/-! ### The settings service (R508) -/

/-- The buffer of a settings request: own-die address in bank D, `none` outside 0x2_0000 to 0xB_EFFF. -/
def settingsBuffer (lo : Nat) : Option Nat :=
  let o := 8 * field lo 5 17
  if lo / 2 ^ 22 = 0 ∧ 0x20000 ≤ o ∧ o + 4 ≤ 0xBF000 then some o else none

namespace State

/-- The answer to a settings request: an entry to Q0 of the requesting die. -/
def settingsAnswer (s : State) (e : QEntry) (v : Nat) : State := (s.putEntry 0 (whoDie (e.hi / 2 ^ 24)) 0 0xA022 v).1

/-- A settings body reaches the buffer. -/
def settingsFill (s : State) (e : QEntry) (o : Nat) (body : List Byte) : State :=
  if 0xBF000 < o + 4 + body.length then s.settingsAnswer e 3
  else (s.storeBytes (bankD (whoDie (e.hi / 2 ^ 24)) + o) (toLE 4 body.length ++ body)).settingsAnswer e 0

end State

/-- SETTINGS_READ (R508): the entry with tag 0xA020. -/
def execSettingsRead (s : State) : Result :=
  .next (s.serviceEntry 0xA020 fun s e =>
    let t := 16 + e.lo % 16
    if !isScan (whoDie (e.hi / 2 ^ 24)) then s
    else match settingsBuffer e.lo with
      | none => s.settingsAnswer e 3
      | some o =>
        if bit e.lo 4 then
          let h := migrationAt t
          if s.recordValid t h (h + 32) then s.settingsFill e o (s.loadBytes (STACKS + h + 32) (s.stk (h + 8) 4))
          else s.settingsAnswer e 1
        else match s.twinData? t with
          | some b => (s.noteTwin t).settingsFill e o b
          | none => (s.noteTwin t).settingsAnswer e 1)

/-- SETTINGS_WRITE (R507, R508): the entry with tag 0xA021; in TRIAL the migration record is written. -/
def execSettingsWrite (s : State) : Result :=
  .next (s.serviceEntry 0xA021 fun s e =>
    let t := 16 + e.lo % 16
    let d := whoDie (e.hi / 2 ^ 24)
    if !isScan d then s
    else match settingsBuffer e.lo with
      | none => s.settingsAnswer e 3
      | some o =>
        let n := s.load (bankD d + o) 4
        if bit e.lo 4 ∨ 8192 < n ∨ 0xBF000 < o + 4 + n then s.settingsAnswer e 3
        else
          let body := s.loadBytes (bankD d + o + 4) n
          if s.inTrial 2 then
            let h := migrationAt t
            let seq := if s.recordValid t h (h + 32) then s.stk (h + 4) 4 + 1 else 1
            let s := s.storeBytes (STACKS + h + 32) body
            (s.storeBytes (STACKS + h) (State.twinHeader t seq 0 body)).settingsAnswer e 2
          else (s.twinWrite t body).settingsAnswer e 0)

/-! ### Block protect and the deadline -/

/-- NV_PROTECT (R417, R485): the waiting frame with OP 0x0C. -/
def execNvProtect (s : State) : Result :=
  .next (s.authCommand 0x0C rolesW (fun p => p.length == 4 && decide (byteAt p 0 ≤ 3) && zeroAt p 1 3) fun s _ p =>
    let s := s.wr 0 Reg.NVP_BP_BP (byteAt p 0)
    ⟨s.twinWrite 0 s.identityBytes, .done, 0⟩)

/-- A read of `UPD.DEADLINE_LO` latches the high word (R510). -/
def deadlineLatch (s : State) : State := s.wr 0 Reg.UPD_DEADLINE_HI_NS (s.trialDeadline / 2 ^ 32)

/-- UPD_DEADLINE_READ (R510): a master reads `UPD.DEADLINE_LO`. -/
def execUpdDeadlineRead (w : Who) (s : State) : Result :=
  .next (s.reading w (regAddr 0 0x13 0x124) 0 fun s => (deadlineLatch s).reply w.code (s.readWord w.code 0 0x13 0x124) false)

end Sys2Proof.Machine
end

