-- ==== Sys2Proof/Machine/Power.lean ====
section
/-! DEFINITION.  Power failure and hold-up (spec/06 R203, spec/14 R462, R463), power-on reset, its release and the boot
(spec/14 R458 to R460, spec/15 R492), Quiescent sleep (spec/14 R464, R465), the Guard's expiry and the loss of references. -/

namespace Sys2Proof.Machine

open Sys2Proof.Bits

namespace State

/-! ### Power-on reset (R458) -/

/-- Keys of the Keeper's fields that a power-on reset leaves: the RTC and AON pages with the slips, `GUARD.EXPIRIES`, and
the board's inputs. -/
def keptField (k : Nat) : Bool :=
  k / 2 ^ 23 == 0 && ([0x0D, 0x0E].contains (k / 2 ^ 17 % 64) ||
    ([Reg.GUARD_EXPIRIES_COUNT, Reg.CLK_STAT_A_OK, Reg.CLK_STAT_B_OK, Reg.PWR_STAT_VDD_K, Reg.PWR_STAT_VDD_SER,
      Reg.PWR_STAT_VDD_IO, Reg.PWR_STAT_PF, Reg.PWR_STAT_RAILS, Reg.TABLET_STAT_SEEN].any fun f => f.key 0 == k))

/-- Window words in progress when power fails, one to a bank (R410, R418). -/
def inProgress : List (Nat × Nat) → List Nat → List (Nat × Nat)
  | [], _ => []
  | e :: rest, banks => let b := e.1 / 8 % 4; if banks.contains b then [] else e :: inProgress rest (b :: banks)

/-- A word in progress reads old, new or poisoned: which is open (R418). -/
def tornWord (s : State) (e : Nat × Nat) : State :=
  let (n, s) := s.drawFree
  match Config.freeValue n % 3 with
  | 0 => s
  | 1 => s.store (STACKS + e.1) 8 e.2
  | _ => { s with ecc := SMap.put 0 s.ecc (STACKS + e.1) 2 }

/-- The Field die's own side goes through a reset of the Keeper untouched (R458, R461). -/
def fieldKept (f : FieldIO) : FieldIO :=
  { FieldIO.idle with
    sampleNo := f.sampleNo, own := f.own, armed := f.armed, armDue := f.armDue, safeHeld := f.safeHeld
    safeExpired := f.safeExpired, silent := f.silent, flow := f.flow, lastControl := f.lastControl, silences := f.silences
    relDo := f.relDo, relAo := f.relAo, standby := f.standby, doOut := f.doOut, ao := f.ao, trips := f.trips
    shorts := f.shorts, opens := f.opens, thermals := f.thermals, loopFaults := f.loopFaults, couplers := f.couplers
    trim := f.trim, trimEnds := f.trimEnds, level := f.level, minMv := f.minMv, crossings := f.crossings }

/-- The copy of twin 32 that a save leaves alone: the newest record of the present list, else the selected one (R201, R203,
R423). -/
def savedBeside (s : State) : Option Nat := match s.retNewest with | some b => some b | none => s.twinSelected 32

/-- A power-on reset while the retained save runs: the copy being written is invalid (R203, R422), the word in progress poisoned
(R418; DESIGN CHOICE, log entry 48). -/
def breakSave (s : State) : State :=
  if (s.aon.holdup = 1 ∨ s.aon.holdup = 2) ∧ (s.slots.all fun e => !e.2.running) = true then
    let b := match s.savedBeside with | some 0 => 1 | _ => 0
    { s with ecc := SMap.put 0 s.ecc (STACKS + twinBodyAt 32 b) 2 }
  else s

/-- Power-on reset is asserted, with its cause: 1 POWER, 2 PIN, 3 GUARD, 4 SOFTWARE, 5 REFCLK, 6 JTAG. -/
def powerOnReset (s : State) (cause : Nat) : State :=
  let s := (inProgress s.arch.window []).foldl tornWord s.breakSave
  let kept : State := { State.reset with
    time := s.time, freeCtr := s.freeCtr
    ecc := s.ecc.filter fun e => decide (STACKS ≤ e.1)
    mem := s.mem.filter fun e => decide (STACKS ≤ e.1)
    regs := SMap.keep keptField s.regs
    fld := fieldKept s.fld
    exch := { Exch.idle with phy := s.exch.phy }
    aon := { s.aon with
      keyAt := none, asleep := false, wakes := 0, holdup := 0, refsLost := false, seconds := 0, bands := [0, 0, 0, 0, 0, 0]
      load := s.aon.load.map fun l => (min l.1 2, l.2), held := some cause, tested := false }
    pending := s.pending }
  let kept := { kept with auth := { kept.auth with
    counters := (List.range 16).filterMap fun k => if kept.cell k ≤ 1 then none else some (k, kept.cell k - 1) } }
  ((kept.wr 0 Reg.RST_CAUSE_CAUSE cause).wr 0 Reg.ARCH_ROLL_HEAD_BLOCK 287).wr 0 Reg.ARCH_ROLL_HEAD_OFFSET 4096

/-- The conditions of R459 clear (R459): the Keeper is released, the straps are sampled, the PLLs lock, the Guard runs at its
reset timeout, the continuity latch is read (R442), roles come from the inventory (R282), and the LIVE and SPARE dies with
their rails present are powered. -/
def releaseReset (s : State) (senior : Bool) : State :=
  let s : State := { s with aon := { s.aon with held := none, releasedAt := s.cycle, guardAt := s.time, guardMs := 2000 } }
  let s := (s.wrB 0 Reg.PAIR_STAT_SENIOR senior).wrB 0 Reg.TABLET_STAT_SENIOR senior
  let s := s.wr 0 Reg.CLK_STAT_ACTIVE (if s.on 0 Reg.CLK_STAT_A_OK then 0 else 1)
  let s := (s.wr 0 Reg.CLK_STAT_PLL_LOCK 1).wr 0 Reg.CLK_STAT_SERDES_LOCK 1
  let s := s.checkContinuity
  let s := s.wr 0 Reg.PART_ROLES_ROLES (scanDies.foldl (fun m d => setField m (2 * (d - 2)) 2 (s.dieEntry d).role) 0)
  let s := s.wr 0 Reg.PART_STAT_PRESENT (s.rd 0 Reg.PWR_STAT_RAILS)
  (scanDies.filter fun d => decide (s.role d ≤ 1)).foldl (fun s d =>
    let s := s.setBits 0 Reg.PWR_SW_DIES (dieBit d)
    if s.present d then
      (((s.setBits 0 Reg.PWR_STAT_ON (dieBit d)).wr d Reg.RST_DIE_CAUSE_CAUSE 1).wr d Reg.CLK_STAT_PLL_LOCK 1).powerUp d
    else s) s

/-- The repair map with every repair of a list: (die, bank, sub-array, 0 row or 1 column, index) each (R348, R460). -/
def mapRepairs (s : State) (l : List (Nat × Nat × Nat × Nat × Nat)) : State :=
  l.foldl (fun s r => s.twinWrite 33 (s.mapWith (mapIndex r.1 r.2.1 r.2.2.1) r.2.2.2.1 r.2.2.2.2)) s

/-- A Scan die fails its start-up self-test: OUT with cause failure, archived, off (R460). -/
def failTest (s : State) (d : Nat) : State := ((s.failDie d).archive 0x17 1 .fault [d]).dieOff d

/-! ### Power failure and hold-up (R203, R463) -/

/-- Whether no row runs. -/
def rowsStill (s : State) : Bool := s.slots.all fun e => !e.2.running

/-- A row is cut off at a power failure, without a skip count (R203). -/
def cutQuiet (s : State) (d e : Nat) : State :=
  match s.slot? d e with
  | some x =>
    if !x.running then s
    else if x.shunt then (if s.rd 0 Reg.SHUNT_STAT_STATE = 3 then s else s.endRow d e)
    else if e = 6 ∧ x.idle = false then
      let (v, s) := s.drawFree
      let entry := s.rowField d (s.activeBank d) x.row Reg.TTBL_ROW_W2_ENTRY
      ((dmaChain d dmaFuel entry (Config.freeValue v) s).1.endRow d 6).dmaResume d 0 entry
    else if decide (1 ≤ e) && decide (e ≤ 4) && s.coreInSlot d (e - 1) then (s.endRow d e).coreCut d (e - 1)
    else s.endRow d e
  | none => s

/-- Whether a running row may end after a power failure `left` cycles into the frame, the grace included (R203). -/
def rowGraced (s : State) (d e left : Nat) : Bool :=
  match s.slot? d e with
  | some x =>
    decide (s.rowField d (s.activeBank d) x.row Reg.TTBL_ROW_W0_START + s.rowField d (s.activeBank d) x.row Reg.TTBL_ROW_W1_LENGTH ≤ left)
  | none => false

/-- Tasks torn in the present frame (R203): a row of the task started, and a row selected for the frame did not finish. -/
def tornTasks (s : State) : Nat :=
  if s.mode = 0 ∨ s.mode = 2 then 0
  else
    let taskOf (d r : Nat) : Nat := s.rowField d (s.activeBank d) r Reg.TTBL_ROW_W1_TASK
    let live := scanDies.filter s.live
    let started := live.flatMap fun d => (SMap.get [] s.rowsStarted d).map (taskOf d)
    let open' := live.flatMap fun d =>
      ((s.selectedRows d s.rowMinor).filter fun r => !(SMap.get [] s.rowsDone d).contains r).map (taskOf d)
    maskOf ((List.range 64).filter fun t => started.contains t && open'.contains t)

/-- `POWER_FAIL_N` asserts, or the second reference fails: steps 1 and 2 of R203; a paired part yields (R315); a Shunting
without a running final delta is abandoned ("When the mode leaves Run, or POWER_FAIL_N asserts"). -/
def startHoldup (s : State) : State :=
  if s.aon.holdup ≠ 0 ∨ s.aon.held.isSome = true then s
  else
    let s := if s.on 0 Reg.PAIR_CFG_YIELD_ON_PF then s.yieldNow else s
    let s := if s.rd 0 Reg.SHUNT_STAT_STATE = 3 then s else s.abandonShunt 13
    let left := s.cycle - s.frame.tickCycle + 200 * s.rd 0 Reg.IMG_RET_CFG_PF_GRACE
    let still := s.mode == 0 || s.mode == 2
    let s := scanDies.foldl (fun s d => (List.range 7).foldl (fun s e =>
      if still || !s.rowGraced d e left then s.cutQuiet d e else s) s) s
    { s with
      frame := { s.frame with gather := false, safeCopy := false, build := false, built := false }
      exch := { s.exch with txPorts := [] }
      aon := { s.aon with holdup := 1, failAt := s.time, failFrame := s.frameNo, stillAt := s.cycle, torn := 0 } }

/-- A tick that comes before the retained save has ended: the torn tasks are those of the frame that the failure cut. -/
def tornAtTick (s : State) : State :=
  if s.aon.holdup = 1 then { s with aon := { s.aon with holdup := 2, torn := s.tornTasks } } else s

/-- Save time of the retained record in ns (R202): 10 us and 3.125 ns a byte of its gross size. -/
def saveTime (s : State) : Nat := 10000 + s.retSize * 25 / 8

/-- The retained save ends (R203): the record, and the program record that names its program ("When power fails around the
switch"). -/
def saveRetained (s : State) : State :=
  let s := if s.aon.holdup = 1 then { s with aon := { s.aon with torn := s.tornTasks } } else s
  let n := s.frameNo
  let at' (s : State) (n : Nat) : State := s.wr2 0 Reg.TICK_FRAME_LO_N Reg.TICK_FRAME_HI_N n
  let record := (at' s s.aon.failFrame).retRecord s.aon.torn
  let s := s.twinWriteBeside s.savedBeside 32 record
  let s := s.twinWrite 2 (if s.changeCarrying then s.recordAfter else s.recordNow)
  let s := ((at' s n).wr 0 Reg.IMG_SAVE_TIME_US (s.saveTime / 1000)).inc 0 Reg.IMG_SAVES_COUNT
  let s := (s.irq 0 0x29 0).hotLost
  { s with aon := { s.aon with holdup := 3 } }

/-- The hold-up sequence has ended (R463): Scan dies off, Stop with cause POWER_FAIL; after the loss of both references, the
power-on reset (R457, "When both references fail"). -/
def endHoldup (s : State) : State :=
  let s := (scanDies.filter s.powered).foldl dieOff s
  let s := (s.enterStop 3).wr 0 Reg.PWR_HOLDUP_US (min 4095 ((s.time - s.aon.failAt) / 1000))
  let s : State := { s with aon := { s.aon with holdup := 6 } }
  if s.aon.refsLost then s.powerOnReset 5 else s

/-- The hold-up sequence goes on from the flush to the snapshot, and from the snapshot to its end. -/
def holdupNext (s : State) : State :=
  let s := if s.aon.holdup = 4 ∧ s.on 0 Reg.ARCH_STAT_FLUSHING = false then
      { s.startSnapshot with aon := { s.aon with holdup := 5 } } else s
  if s.aon.holdup = 5 ∧ (s.arch.snapping = false ∨ s.on 0 Reg.ARCH_STAT_FAILED = true) then s.endHoldup else s

/-! ### Quiescent sleep (R464, R465) -/

/-- Every Keeper bank goes into Retention, or returns. -/
def retainKeeper (s : State) (b : Bool) : State :=
  (banksOf 0).foldl (fun s k => s.wr 0 (Reg.MEM_PWR_STAT_BANKb.j k) (ofBool b)) s

/-- The part enters Quiescent sleep. -/
def fallAsleep (s : State) (blocks tallies : List Nat) : State :=
  let s := s.assembleAll
  let s := if s.on 0 Reg.ARCH_STAT_FAILED then s
    else ({ s.startFlush with arch := { s.startFlush.arch with flushing := s.arch.room.length, again := false } } : State).flushEnds blocks
  let s := (s.snapTallies tallies).want false
  let s := (List.range 4).foldl (fun s p => s.setLink p false) s
  let s := { s with pair := { s.pair with aligned := false } }.linkSilent
  let s := (scanDies.foldl (fun s d => s.retainDie d true) s).retainKeeper true
  let s := (s.wr 0 Reg.CLK_STAT_PLL_LOCK 0).wr 0 Reg.CLK_STAT_SERDES_LOCK 0
  { s with firmware := false, aon := { s.aon with asleep := true, wakes := 0 } }

/-- Whether the part sleeps on request (R464). -/
def maySleep (s : State) : Bool := s.mode == 0 && !s.on 0 Reg.MODE_STAT_PENDING && s.on 0 Reg.PWR_CFG_SLEEP_EN

/-- The part wakes by an event with a `PWR.WAKE.CAUSE` code.  The Stationmaster's wake vector is open. -/
def wakeUp (s : State) (cause : Nat) : State :=
  let s : State := { s with firmware := true, aon := { s.aon with asleep := false, wakes := 0 } }
  let s := (s.wr 0 Reg.CLK_STAT_PLL_LOCK 1).wr 0 Reg.CLK_STAT_SERDES_LOCK 1
  let (n, s) := s.drawFree
  let s := s.setCore 0 0 { s.core 0 0 with pc := Config.freeValue n % 2 ^ 30 * 4, idle := false, mmode := true }
  let s := (s.wr 0 Reg.PWR_WAKE_CAUSE cause).irq 0 0x02 2
  let s := scanDies.foldl (fun s d => s.retainDie d (inDies (s.rd 0 Reg.PWR_RETAIN_DIES) d)) (s.retainKeeper false)
  let s := ((List.range 4).foldl showLink s).timeFromRtc
  if cause = 7 then s.startHoldup else s

end State

/-! ### Commands: power failure -/

/-- POWER_FAIL (R203, R463, R465): `POWER_FAIL_N` asserts. -/
def execPowerFail (s : State) : Result :=
  .next (if s.on 0 Reg.PWR_STAT_PF then s
  else
    let s := (s.wr 0 Reg.PWR_STAT_PF 1).irq 0 0x02 0
    if s.aon.asleep then s.wakeEvent 7 else s.startHoldup)

/-- RETAINED_SAVE_END (R202, R203): the save ends, after the last row that may run has ended. -/
def execRetainedSaveEnd (s : State) : Result :=
  .next (if (s.aon.holdup = 1 ∨ s.aon.holdup = 2) ∧ s.rowsStill = true then
    let s := s.advanceTo s.aon.stillAt
    (s.advanceTime (s.time + s.saveTime)).saveRetained
  else s)

/-- RUN_COUNTER_SAVE_END (R463, R433): twin 35 is written; the Archive admits its power-fail record, admits no more, and
flushes the whole reading room. -/
def execRunCounterSaveEnd (s : State) : Result :=
  .next (if s.aon.holdup = 3 then
    let s := s.twinWrite 35 s.runBytes
    let s := if s.on 0 Reg.ARCH_STAT_FAILED then s.inc 0 Reg.ARCH_LOST_COUNT
      else if s.roomFits 24 then s.takeRecord archiveSender (ownCode .fault 0x02 0) s.time [] else s.inc 0 Reg.ARCH_DROPS_COUNT
    let s : State := { s.startFlush with arch := { s.startFlush.arch with stopped := true }, aon := { s.aon with holdup := 4 } }
    s.holdupNext
  else s)

/-- FLUSH_END (R433, R435): `failing` names the blocks whose read-back fails. -/
def execFlushEnd (failing : List Nat) (s : State) : Result :=
  .next (if s.on 0 Reg.ARCH_STAT_FLUSHING then (s.flushEnds failing).holdupNext else s)

/-- TALLY_SNAPSHOT_END (R428, R435): the slots are written; `failing` names the tallies whose slot fails its read-back. -/
def execTallySnapshotEnd (failing : List Nat) (s : State) : Result :=
  .next (if s.arch.snapping then
    ((({ s with arch := { s.arch with snapping := false } } : State)).snapTallies failing).holdupNext
  else s)

/-- POWER_RETURN (R463): `POWER_FAIL_N` has been deasserted for 10 ms after the sequence has ended. -/
def execPowerReturn (s : State) : Result :=
  .next (if s.aon.holdup = 6 then (s.wr 0 Reg.PWR_STAT_PF 0).powerOnReset 1 else s)

/-- TEMPERATURE_SAMPLE (R532, R463): once a second, the temperatures of the powered dies in degrees; the hottest names the
band of R533. -/
def execTemperatureSample (temps : List Int) (s : State) : Result :=
  .next (if s.firmware then
    match temps with
    | t :: rest =>
      let hot := rest.foldl max t
      let band := min 5 (([100, 105, 110, 115, 120, 125] : List Int).filter fun b => decide (b < hot)).length
      { s with aon := { s.aon with seconds := s.aon.seconds + 1, bands := s.aon.bands.modify band (· + 1) } }
    | [] => s
  else s)

/-! ### Commands: the Guard and the references -/

/-- GUARD_EXPIRY (R452, R454, R456). -/
def execGuardExpiry (s : State) : Result :=
  .next (if s.on 0 Reg.GUARD_CTL_EN && s.aon.held.isNone then
    let s := if s.on 0 Reg.GUARD_STAT_WARNED then s
      else (s.advanceTime (s.guardInstant (State.guardCycles s.aon.guardMs * 3 / 4))).guardWarned
    let s := s.advanceTime (s.guardInstant (State.guardCycles s.aon.guardMs))
    if s.aon.asleep then
      let s := (s.inc 0 Reg.GUARD_EXPIRIES_COUNT).wr 0 Reg.GUARD_STAT_WARNED 0
      { s with aon := { s.aon with guardAt := s.time } }.wakeEvent 6
    else (s.guardLatch.inc 0 Reg.GUARD_EXPIRIES_COUNT).powerOnReset 3
  else s)

/-- REFCLK_FAIL (R457): a reference stops being good. -/
def execRefclkFail (r : Nat) (s : State) : Result :=
  .next (if r < 2 ∧ s.refGood r = true then
    let s := (s.setRef r false).irq 0 0x01 1
    if s.aon.asleep ∨ s.aon.held.isSome = true then s
    else if s.refGood (1 - r) then (if s.rd 0 Reg.CLK_STAT_ACTIVE = r then s.changeRef (1 - r) else s)
    else
      let s := s.startHoldup
      { s with aon := { s.aon with refsLost := true } }
  else s)

/-! ### Commands: reset and boot -/

/-- One or more of VDD_K, VDD_SER and VDD_IO are out of their limits (R459); which is open (log entry 33). -/
def State.railsFall (s : State) : State :=
  let (v, s) := s.drawFree
  let up := Config.freeValue v % 7
  ((s.wrB 0 Reg.PWR_STAT_VDD_K (bit up 0)).wrB 0 Reg.PWR_STAT_VDD_SER (bit up 1)).wrB 0 Reg.PWR_STAT_VDD_IO (bit up 2)

/-- VDD_K, VDD_SER and VDD_IO are within their limits, which holds when the reset is released (R22, R459). -/
def State.railsRise (s : State) : State :=
  ((s.wr 0 Reg.PWR_STAT_VDD_K 1).wr 0 Reg.PWR_STAT_VDD_SER 1).wr 0 Reg.PWR_STAT_VDD_IO 1

/-- POWER_ON_RESET (R458, R459): a rail, `RESET_N`, the Guard, software, the references or JTAG. -/
def execPowerOnReset (cause : Nat) (s : State) : Result :=
  .next (if 1 ≤ cause ∧ cause ≤ 6 then (if cause = 1 then s.railsFall else s).powerOnReset cause else s)

/-- RESET_RELEASE (R22, R459): every condition has cleared, the rails among them; which references are good, and the
`SENIOR` strap. -/
def execResetRelease (aGood bGood senior : Bool) (s : State) : Result :=
  .next (if s.aon.held.isSome ∧ (aGood = true ∨ bGood = true) then
    let s := ((s.setRef 0 aGood).setRef 1 bGood).railsRise
    s.releaseReset senior
  else s)

/-- SELFTEST_END (R460): whether a Keeper bank has a fault that cannot be repaired, the Scan dies that have one (six-bit
mask), and the repairs made: (die, bank, sub-array, 0 row or 1 column, index) each. -/
def execSelftestEnd (keeperFault : Bool) (failed : Nat) (repairs : List (Nat × Nat × Nat × Nat × Nat)) (s : State) : Result :=
  .next (if s.aon.held.isNone && !s.aon.tested then
    let on := s.rd 0 Reg.PWR_STAT_ON
    let s : State := { s.mapRepairs repairs with
      aon := { s.aon with tested := true }
      softReset := SMap.keep (fun k => !(isScan (k / 64) && k % 64 == 0)) s.softReset }
    let bad := scanDies.filter fun d => inDies failed d && inDies on d
    let s := (s.wr 0 Reg.RST_SELFTEST_TESTED on).wr 0 Reg.RST_SELFTEST_FAILED (maskOf (bad.map (· - 2)))
    let s := s.wrB 0 Reg.RST_SELFTEST_KEEPER_REPAIRED (repairs.any fun r => r.1 == 0)
    let s := bad.foldl State.failTest s
    if keeperFault then s.wr 0 Reg.RST_CAUSE_BOOT 1 else s
  else s)

/-- BOOT (R492): the boot ROM selects, checks and starts a Keeper firmware image. -/
def execBoot (s : State) : Result :=
  .next (if s.aon.held.isNone && s.aon.tested && !s.firmware && s.rd 0 Reg.RST_CAUSE_BOOT != 1 && s.rd 0 Reg.UPD_KSTAT_STATE == 0 &&
      !s.aon.asleep then
    let d := s.level 1
    let slot := if d.trial then 1 - d.active else d.active
    let s := if d.trial then s.writeLevel 1 slot false 2 d.deadline else s
    let s := s.wr 0 Reg.UPD_KSTAT_CAUSE (s.level 1).cause
    let run (s : State) (slot : Nat) : State := ((s.wr 0 Reg.UPD_KSTAT_ACTIVE slot).startKeeper slot).firmwareStarts d.trial
    if s.slotValid 1 slot then run s slot
    else if s.slotValid 1 (1 - slot) then run s (1 - slot)
    else (s.wr 0 Reg.UPD_KSTAT_ACTIVE slot).wr 0 Reg.RST_CAUSE_BOOT 2
  else s)

/-- What a write to `RST.CTL` does (R470). -/
def rstCtl (s : State) (v : Nat) : State := if bit v 0 then s.powerOnReset 4 else s

/-- PART_RESET (R458, R470): a keyed write to `RST.CTL.PART`. -/
def execPartReset (w : Who) (s : State) : Result := .next (writeThen w 0 0x03 0x100 1 s rstCtl)

/-! ### Commands: sleep -/

/-- SLEEP_REQUEST (R464): the Q13 entry with tag 0xC010; `blocks` and `tallies` name the shelf blocks and tally slots whose
read-back fails in the flush and the snapshot. -/
def execSleepRequest (blocks tallies : List Nat) (s : State) : Result :=
  .next (s.serviceEntry 0xC010 fun s _ => if s.maySleep then s.fallAsleep blocks tallies else s.archive 0x02 72 .info [])

/-- WAKE (R465): a wake event restarts the part; `mspi`: the chip select of MSPI is low. -/
def execWake (mspi : Bool) (s : State) : Result :=
  .next (if s.aon.asleep ∧ (s.refGood 0 = true ∨ s.refGood 1 = true) then
    let wakes := s.aon.wakes ||| (if mspi ∧ bit (s.rd 0 Reg.PWR_CFG_WAKE_EN) 5 = true then 1 <<< 8 else 0)
    match (List.range 9).find? fun c => bit wakes c with
    | some c => s.wakeUp c
    | none => s
  else s)

end Sys2Proof.Machine
end

