-- ==== Sys2Proof/Machine/Frame.lean ====
section
/-! DEFINITION.  The frame (spec/03 R66 to R79, R84 to R89, R97; spec/06 R178, R183, R188, R191, R205): tick, Cut, Spread,
rows, Commit sample, Commit, release build and release. -/

namespace Sys2Proof.Machine

open Sys2Proof.Bits

namespace State

/-! ### The tick (R66, R67) -/

/-- The clock moves to global time `t`, slewed by at most 100 ppm (R67). -/
def slewTo (s : State) (t : Nat) : State :=
  let d := t - s.time
  let c := clampInt (-((d / 10000 : Nat) : Int)) (d / 10000 : Nat) s.exch.slew
  let s := s.advanceTo (s.cycle + ((d : Int) - c + 4).toNat / 5)
  let s : State := { s with time := t, exch := { s.exch with slew := s.exch.slew - c } }
  if s.exch.slew.natAbs < 1000 then s.wr 0 Reg.TICK_STAT_SLEWING 0 else s

/-- The Keeper's tick counters (R66, R68, R99). -/
def countTick (s : State) (t : Nat) : State :=
  let n := (t - s.rd2 0 Reg.TICK_EPOCH_LO_NS Reg.TICK_EPOCH_HI_NS) / (1000 * s.rd 0 Reg.TICK_PERIOD_US)
  let m := n % s.rd 0 Reg.TICK_MAJOR_FRAMES
  let s := if s.frame.ticked then s.wr 0 Reg.TICK_LAST_LEN_CYCLES (s.cycle - s.frame.tickCycle) else s
  let s := (s.wr2 0 Reg.TICK_FRAME_LO_N Reg.TICK_FRAME_HI_N n).wr 0 Reg.TICK_STAT_MINOR m
  let s := (s.irq 0 0x0A 0).routerEdges 19
  if m = 0 then ((s.irq 0 0x0A 1).routerEdges 20).heldOverTokens else s

/-- What the die's own tick does: rack time (R128), the words of space S for the previous frame (R106), status (R209). -/
def dieTick (s : State) (d : Nat) : State :=
  let s := s.store (bitAddr d 7 33) 8 (SMap.get 0 s.dieFlags d)
  let s := s.store (bitAddr d 7 34) 8 (SMap.get 0 s.skipped d)
  let s := s.wr d Reg.TIMR_TIME_T (s.time / 100000 % 2 ^ 32)
  let s := (s.wr d Reg.PLAT_STAT_SPREAD_DONE 0).wr d Reg.PLAT_STAT_READY 0
  { s with dieFlags := SMap.erase s.dieFlags d, skipped := SMap.erase s.skipped d }

/-- Every die's tick; `TASK.STAT.SKIPPED` keeps the tasks cut off in the last frame (R207). -/
def dieTicks (s : State) : State :=
  let cut := scanDies.foldl (fun m d => m ||| SMap.get 0 s.skipped d) 0
  let s := (List.range 64).foldl (fun s t => s.wrB 0 (Reg.TASK_STAT_SKIPPED.w t) (bit cut t)) s
  let s := (scanDies.filter s.clocked).foldl dieTick s
  { s with
    rowsEnded := [], rowsStarted := [], rowsDone := []
    frame := { s.frame with
      spreadDone := 0, ready := 0, overrun := 0, late := 0, readyCycle := 0, gather := false, safeCopy := false
      sampled := false } }

/-- What a tick does on the Partner link: the Mirror of the ended frame, the heartbeat, and the first frame of a part that
takes over (R77, R299, R316). -/
def linkTick (s : State) (ended : Nat) : State :=
  let s : State := { s with linkOut := { s.linkOut with sent := [] } }
  let s := s.mirrorAbandon ended
  let s : State := { s with pair := { s.pair with heard := false, apply := none } }
  let s := if s.pairState = 8 ∧ s.pair.decidedAt + 1000000 ≤ s.time then s.setPair 2 else s
  if s.on 0 Reg.PAIR_CFG_EN then s.partnerSend 0x01 0 s.frameNo s.heartbeat else s

/-! ### Triggers at the Cut (R187, R188) -/

/-- Whether rows run in the present frame: in Run and in a Step frame (R190), and on a standby that applies one (R302). -/
def rowsRun (s : State) : Bool :=
  s.frame.ticked && s.aon.holdup == 0 && !s.outage && (s.prog.frameMode == 1 || s.prog.frameMode == 3) &&
    (!s.standby || s.pair.apply.isSome)

/-- Whether some LIVE die selects an event row of a task in minor frame `m`. -/
def eventRowOf (s : State) (t m : Nat) : Bool :=
  scanDies.any fun d => s.live d && (s.selectedRows d m).any fun r =>
    s.rowField d (s.activeBank d) r Reg.TTBL_ROW_W3_EVENT == 1 && s.rowField d (s.activeBank d) r Reg.TTBL_ROW_W1_TASK == t

/-- Queues that hold an entry at the Cut (R187 KIND 4). -/
def queueSources (s : State) : State :=
  ((List.range 64).filter fun t => s.taskType t == 2 && s.rd 0 (Reg.TASK_TRIG_KIND.w t) == 4 &&
    !(s.ring (field (s.rd 0 (Reg.TASK_TRIG_SRC.w t)) 4 3) (s.rd 0 (Reg.TASK_TRIG_SRC.w t) % 16)).isEmpty).foldl occur s

/-- The latching of one task's trigger. -/
def latchTask (s : State) (t : Nat) : State :=
  if (s.prog.frameMode = 1 ∨ s.prog.frameMode = 3) ∧ s.on 0 (Reg.TASK_STAT_PENDING.w t) = true ∧ s.eventRowOf t s.minor = true then
    let s := (s.wr 0 (Reg.TASK_STAT_PENDING.w t) 0).wr 0 (Reg.TASK_STAT_LATCHED.w t) 1
    let s := s.wr 0 (Reg.TASK_STAT_LATCH_COUNT.w t) (s.rd 0 (Reg.TASK_STAT_PEND_COUNT.w t))
    let s := s.wr 0 (Reg.TASK_STAT_PEND_COUNT.w t) 0
    if s.taskType t = 3 then
      let c := SMap.get ⟨0, 1024⟩ s.causes t
      let s := (s.wr 0 (Reg.TASK_ECAUSE_CAUSES.w t) c.mask).wr 0 (Reg.TASK_ECAUSE_STATION.w t) (c.station % 1024)
      { s with causes := SMap.erase s.causes t }.irq 0 0x28 1
    else s
  else
    ((s.wr 0 (Reg.TASK_STAT_LATCHED.w t) 0).wr 0 (Reg.TASK_ECAUSE_CAUSES.w t) 0).wr 0 (Reg.TASK_ECAUSE_STATION.w t) 0

/-- The latching at a Cut.  A standby latches from the side record when it applies a frame (R302). -/
def latchTriggers (s : State) : State :=
  let s := if s.standby then (List.range 64).foldl (fun s t => s.wr 0 (Reg.TASK_STAT_LATCHED.w t) 0) s
    else (List.range 64).foldl latchTask s.queueSources
  s.eventFlags

/-! ### The Cut (R71, R183) -/

/-- Part status word of the frame (R183).  FIELD_OK takes the FSUP level OK, left below 19.2 V, as FV24 within its rated
range: the rated range of 18 V to 32 V and the thresholds do not meet (DESIGN CHOICE, log entry 41). -/
def statusWord (s : State) : Nat :=
  (match s.prog.frameMode with | 1 => 0 | 3 => 1 | 2 => 2 | _ => 3) + 4 * s.rd 0 Reg.MODE_STAT_START + 16 * ofBool s.prog.first +
    32 * ofBool ((List.range 64).any fun t => s.on 0 (Reg.TASK_STAT_TORN.w t)) + 64 * ofBool (s.on 0 Reg.PAIR_CFG_EN) +
    128 * ofBool (s.partnerReachable && s.partnerState == 4) + 256 * ofBool s.tabletHeld +
    512 * ofBool (s.on 0 Reg.TICK_STAT_HOLDOVER) + 1024 * ofBool (s.fieldPresent && s.rd 1 Reg.F_FSUP_STAT_LEVEL == 0) +
    2048 * ofBool s.prog.changed + 4096 * ofBool (s.rd 0 Reg.XCHG_DROPPED_COUNT != 0) + 8192 * s.minor +
    2 ^ 32 * (s.frameNo % 2 ^ 32)

/-- Station 1,023: the Field die's input payload while it is present (R381, R258). -/
def fieldCut (s : State) : State :=
  let s : State := { s with frame := { s.frame with fieldWords := (s.fieldWord16, s.fieldWord17) } }
  let s := if (s.station 1023).valid && s.fieldPresent then
      (s.bindInputs recvImage 1023 s.fieldInput).setStn 1023 { s.stn 1023 with got := true, known := true }
    else s
  { s with fld := { s.fld with lostCut := 0 } }

/-- The Cut: the receive image as it stood at the tick becomes the snapshot, in front of it the loopbacks (R179) and the
dropouts (R180, R260).  A standby cuts the mirrored snapshot (R302). -/
def cutFrame (s : State) : State :=
  let s := s.fieldCut.cutStations.loopbacks
  let s := s.copyMem (if s.mirrorTo then mirrorStage else recvImage) snapImage imageBytes
  let s := s.wr 0 Reg.XCHG_STAT_CUT 1
  ({ s with frame := { s.frame with status := s.statusWord, cutCopy := true } } : State).noteSide

/-- The first frame of a start that runs rows (R183 FIRST). -/
def firstFrame (s : State) : State :=
  let runs := s.prog.frameMode == 1 || s.prog.frameMode == 3
  { s with prog := { s.prog with first := s.prog.fresh && runs, fresh := s.prog.fresh && !runs } }

/-- The input frames that completed before the tick are taken under the tables and triggers of the frame that ends (R71, R187,
R230, R263). -/
def drainInputs (s : State) : State := (s.drainSlasel s.frame.tickTime).drainCopies s.frame.tickTime

/-- A frame begins: the inputs of the last one are in, then Shunting, online change, swaps, mode, triggers and Cut take
effect together (R68, R95, R188, R191, R228, R268, R292). -/
def beginFrame (s : State) : State :=
  let s := (s.drainInputs.shuntAtTick.rotationLook).bulkAtTick
  let s := ({ s with prog := { s.prog with changed := false } } : State).changeAtTick
  let s := tablesAtTick (if s.minor = 0 then s.boundarySwaps else s)
  let s := s.modeAtTick.hotAtTick
  let s := ({ s with prog := { s.prog with frameMode := s.mode } } : State).firstFrame
  s.latchTriggers.cutFrame

/-- A tick at global time `t` (R66). -/
def tick (s : State) (t : Nat) : State :=
  let s := s.tornAtTick.slewTo t
  let ended := s.frameNo
  let s := s.countTick t
  let s : State := { s with frame := { s.frame with tickTime := t, tickCycle := s.cycle, ticked := true } }
  let s := (s.linkTick ended).activationAtTick.dieTicks
  (if s.outage then s else s.beginFrame).gatesAtTick

/-! ### The Spread (R72, R73) -/

/-- The Spread to a die ends. -/
def endSpread (s : State) (d : Nat) : State :=
  let words := s.subscribed d
  let s := s.advanceTime (s.frame.tickTime + 2000 + (s.beatTime words + 1) / 2)
  let s := words.foldl (fun s w => s.spreadWord d w) s
  let s := (List.range 16).foldl (fun s w => s.storeQuiet (bitAddr d 7 w) 8 (s.qualityWord w)) s
  let s := (s.storeQuiet (bitAddr d 7 16) 8 s.frame.fieldWords.1).storeQuiet (bitAddr d 7 17) 8 s.frame.fieldWords.2
  let s := s.storeQuiet (bitAddr d 7 32) 8 s.frame.status
  let s := (s.wr d Reg.PLAT_STAT_SPREAD_DONE 1).wr d Reg.PLAT_SPREAD_LAST_BEATS words.length
  let s := s.wr d Reg.PLAT_SPREAD_END_CYCLES (min 65535 (s.cycle - s.frame.tickCycle))
  let s := (s.irq d 0x0D 0).routerEdge d 21
  { s with frame := { s.frame with spreadDone := s.frame.spreadDone ||| dieBit d } }.raiseReady d s.cycle

/-! ### Rows (R74, R84 to R89) -/

/-- Whether a task has been cut off in the present frame on some die (R87). -/
def taskSkipped (s : State) (t : Nat) : Bool := scanDies.any fun d => bit (SMap.get 0 s.skipped d) t

/-- Whether a row of a task has already worked in the present frame. -/
def taskRan (s : State) (t : Nat) : Bool :=
  scanDies.any fun d => (SMap.get [] s.rowsStarted d).any fun r => s.rowField d (s.activeBank d) r Reg.TTBL_ROW_W1_TASK == t

/-- A task runs in the present frame (R207). -/
def noteRun (s : State) (d r t : Nat) : State :=
  let s := if s.taskRan t then s
    else (s.inc 0 (Reg.TASK_RUNS_COUNT.w t)).wr 0 (Reg.TASK_LAST_N.w t) (s.workFrame % 2 ^ 32)
  { s with rowsStarted := SMap.put [] s.rowsStarted d (SMap.get [] s.rowsStarted d ++ [r]) }

/-- The engine of a row begins at `ENTRY` (R81, R84); a core that is held, or whose page has `PCTL.EN` 0 (R168), runs no slot
entry, and its row idles until it is cut off. -/
def startEngine (s : State) (d e entry : Nat) (x : Slot) : State :=
  match e with
  | 0 => (s.setSbox d ⟨entry, 0, 0⟩).wr d Reg.SBOX_NET_COUNT 0
  | 5 => (s.wr d Reg.TIMR_PASS_SET entry).wr d Reg.TIMR_PASS_RUNNING 1
  | 6 => s.dmaRowStart d entry
  | _ =>
    if s.coreHeld d (e - 1) || !s.enabled d (0x0D + e) then s
    else (s.slotEntry d (e - 1) entry x.task x.row x.event).setSlot d e { x with used := 12 }

/-- A row starts on its die (R74, R84): fence and budget counter; an event row without its trigger and a later row of a task
cut off in the frame run idle (R87, R89), and so does a shunting row until a final delta claims it (R286). -/
def startRow (s : State) (d r : Nat) : State :=
  let f := s.rowField d (s.activeBank d) r
  let e := f Reg.TTBL_ROW_W0_ENGINE
  let t := f Reg.TTBL_ROW_W1_TASK
  let event := f Reg.TTBL_ROW_W3_EVENT == 1
  let shunt := f Reg.TTBL_ROW_W3_SHUNT == 1
  let waits := (event && !s.on 0 (Reg.TASK_STAT_LATCHED.w t)) || shunt
  let idle := waits || s.taskSkipped t
  let x : Slot :=
    { row := r, task := t, fence := f Reg.TTBL_ROW_W3_FENCE, start := s.cycle, length := f Reg.TTBL_ROW_W1_LENGTH
      essential := f Reg.TTBL_ROW_W3_ESSENTIAL == 1, event := event, shunt := shunt, running := true, idle := idle
      frozen := idle && decide (1 ≤ e) && decide (e ≤ 4), used := 0 }
  let s := ((s.setSlot d e x).wr d (Reg.BUDGET_ENGe_ROW_ROW.i e) r).wr d (Reg.BUDGET_ENGe_ROW_RUNNING.i e) 1
  let s := if e = 0 then s.wr d Reg.SBOX_STAT_RUNNING 1 else s
  if shunt then s.shuntRowStart d
  else if waits then { s with rowsDone := SMap.put [] s.rowsDone d (SMap.get [] s.rowsDone d ++ [r]) }
  else if idle then s
  else (s.noteRun d r t).startEngine d e (f Reg.TTBL_ROW_W2_ENTRY) x

/-- A row may start now: selected, not yet started, its engine free (R74, R82). -/
def rowMayStart (s : State) (d r : Nat) : Bool :=
  s.rowsRun && s.live d && s.clocked d && !s.fenced d && (s.selectedRows d s.rowMinor).contains r &&
    !(SMap.get [] s.rowsEnded d).contains r &&
    !s.rowRunning d (s.rowField d (s.activeBank d) r Reg.TTBL_ROW_W0_ENGINE)

/-- The budget counter of an engine reaches zero (R84, R87, R88, R89). -/
def expireBudget (s : State) (d e : Nat) (x : Slot) : State :=
  if x.idle then s.endRow d e
  else if x.shunt then s.shuntRowExpires d
  else match e with
    | 0 => s.stopSbox d
    | 5 => (s.cutPass d x).cutOff d 5
    | 6 => cutDmaRow s d (s.rowField d (s.activeBank d) x.row Reg.TTBL_ROW_W2_ENTRY)
    | _ => s.cutEngine d e

/-! ### The Commit sample (R76, R97, R178, R191) -/

/-- The copy of the Safe image into the commit buffer starts; `flag` is that of the OUTPUT frames (R178). -/
def startSafe (s : State) : State := { s with frame := { s.frame with safeCopy := true, flag := 0x40 } }

/-- The release build starts (R78); a standby builds none (R302). -/
def startBuild (s : State) : State :=
  if s.standby then s
  else { s.wr 0 Reg.XCHG_STAT_BUILD 1 with frame := { s.frame with build := true, buildAt := s.cycle } }

/-- The LIVE dies that have not raised commit-ready, and those lost, as a mask. -/
def missing (s : State) : Nat :=
  s.frame.lost ||| maskOf ((scanDies.filter fun d => s.live d && (!inDies s.frame.ready d || s.absentDie d)).map (· - 2))

/-- The code of R97 for the dies that withheld commit-ready: the highest among them. -/
def missingCode (s : State) (m : Nat) : Nat :=
  if s.frame.lost != 0 || scanDies.any (fun d => inDies m d && s.absentDie d) then 4
  else if (m &&& s.frame.late) != 0 then 3
  else if (m &&& s.frame.overrun) != 0 then 2 else 1

/-- The Frame watch forces Stop (R97, R315); a LIVE die that was lost is OUT (R281). -/
def forceStop (s : State) (m : Nat) : State :=
  let c := s.missingCode m
  let s := (s.wr 0 Reg.FWATCH_CAUSE_CODE c).wr 0 Reg.FWATCH_CAUSE_DIES m
  let s := (s.wr2 0 Reg.FWATCH_FRAME_LO_N Reg.FWATCH_FRAME_HI_N s.frameNo).inc 0 Reg.FWATCH_OVERRUNS_COUNT
  let s := (s.irq 0 0x0B 0).archive 0x0B 0 .fault [c, m, s.frameNo % 2 ^ 32]
  let s := if c = 4 then (scanDies.filter fun d => inDies m d && s.live d && s.absentDie d).foldl failDie s else s
  ({ s.enterStop 2 with forcedStop := true }.yieldOn c).startSafe

/-- The sample of a frame that runs rows. -/
def sampleRun (s : State) : State :=
  let m := s.missing
  if m ≠ 0 then s.forceStop m
  else
    let s := s.wrMin 0 Reg.FWATCH_MARGIN_CYCLES (s.cycle - s.frame.readyCycle)
    if s.requestDue ∧ s.rd 0 Reg.MODE_STAT_PENDING_CMD = 1 then (s.enterStop 1).startSafe
    else
      let s := if s.requestDue ∧ s.rd 0 Reg.MODE_STAT_PENDING_CMD = 3 then s.clearRequest.enterMode 2 else s
      { s with frame := { s.frame with gather := true, flag := 0x80 } }

/-- The sample of a Hold frame: no Commit, the last output image is released again. -/
def sampleHold (s : State) : State :=
  if s.requestDue ∧ s.rd 0 Reg.MODE_STAT_PENDING_CMD = 1 then (s.enterStop 1).startSafe
  else ({ s with frame := { s.frame with flag := 0x20 } } : State).startBuild

/-- The sample by the mode of the frame (R178).  A LIVE die lost in Hold, or while a start is pending, stops the first frame
that runs rows (R18, R97; DESIGN CHOICE, log entry 52). -/
def sample (s : State) : State :=
  let s : State := { s with frame := { s.frame with sampled := true } }
  let s := if s.standby && s.pair.apply.isNone then s
    else match s.prog.frameMode with
      | 1 | 3 => s.sampleRun
      | 2 => s.sampleHold
      | _ => s.startSafe
  if s.prog.frameMode = 2 ∨ s.on 0 Reg.MODE_STAT_PENDING = true then s else { s with frame := { s.frame with lost := 0 } }

/-! ### The Commit and the Safe copy (R76, R177, R178, R303) -/

/-- A standby that has committed the frame it applies compares its output image (R303). -/
def standbyDone (s : State) : State :=
  match s.pair.apply with
  | some x =>
    if s.standby then
      s.compareImage x
    else s
  | none => s

/-- What follows an exchange of the buffers: the last frame committed or applied (R300, R321), the release build and the
Mirror of the delta, or the standby's comparison. -/
def afterExchange (s : State) : State :=
  let s : State := { s with pair := { s.pair with applied := s.workFrame } }
  (((s.wr 0 Reg.PAIR_APPLIED_N (s.workFrame % 2 ^ 32)).startBuild).mirrorClose).standbyDone

/-- Global time of the end of the Commit (R76). -/
def commitEnd (s : State) : Nat :=
  let words (d : Nat) : List Nat := (((s.ownedRuns d).flatMap CatEntry.words).foldl (fun m w => SMap.insert m w ()) ([] : SMap Unit)).map (·.1)
  let longest := scanDies.foldl (fun m d => max m (s.beatTime (words d))) 0
  s.frame.tickTime + 1000 * s.rd 0 Reg.FWATCH_COMMIT_AT_US + 2000 + (longest + 1) / 2

/-- The Commit ends (R76, R177): output image n replaces output image n - 1. -/
def endCommit (s : State) : State :=
  let s := (s.gatherAll.exchangeBuffers).routerEdges 42
  let s : State := { s with frame := { s.frame with gather := false } }
  let s := if s.mode = 3 then s.clearRequest else s
  s.afterExchange

/-- The Safe image becomes the output image (R178). -/
def endSafe (s : State) : State :=
  let s := (s.copyMem safeImage s.commitBuffer imageBytes).exchangeBuffers
  ({ s with frame := { s.frame with safeCopy := false } } : State).afterExchange

/-! ### The release (R78, R205, R382) -/

/-- The release build ends. -/
def endBuild (s : State) : State :=
  let s := s.buildOutputs s.frameNo s.frame.flag
  let p := if (s.station 1023).valid then s.outPayload s.outBuffer 1023 else ([], 0)
  let s := (s.add 0 Reg.XCHG_SAT_COUNT p.2).wr 0 Reg.XCHG_STAT_BUILD 0
  let s := s.wr 0 Reg.XCHG_BUILD_LAST_CYCLES 5200
  { s with frame := { s.frame with build := false, built := true, releaseFrame := s.frameNo, fieldOut := p.1 } }

/-- The release starts: with a valid Safe image the ports start their frames and the Field outputs are sent (R205), both as
they were built: a switch at the tick between leaves them (R228). -/
def release (s : State) : State :=
  let s := if s.on 0 Reg.IMG_STAT_SAFE_VALID then
      let s := s.startOutputs
      if s.frame.fieldOut.isEmpty then s else s.fieldRelease s.frame.fieldOut s.tabletHeld
    else s
  ({ s with frame := { s.frame with built := false } } : State).afterRelease

end State

/-! ### Commands -/

/-- Where the next tick is looked for: behind the last one, also after a change of reference has moved global time back by
at most 20 ns (R67, R457). -/
def State.tickFrom (s : State) : Nat :=
  if s.frame.ticked && decide (s.time ≤ s.frame.tickTime) && decide (s.frame.tickTime ≤ s.time + 20) then s.frame.tickTime + 1
  else s.time

/-- TICK (R66): the next tick instant comes. -/
def execTick (s : State) : Result :=
  .next (if s.aon.held.isNone && !s.aon.asleep then s.tick (s.firstTick s.tickFrom) else s)

/-- CUT_COPY_END (R71): the copy takes 25.6 us; the copies held in K-LINE are written, the Mirror of the snapshot starts. -/
def execCutCopyEnd (s : State) : Result :=
  .next (if s.frame.cutCopy then
    let s := s.advanceTo (s.frame.tickCycle + 5120)
    let held := s.exch.copies
    let s : State := { s with exch := { s.exch with copies := [] }, frame := { s.frame with cutCopy := false } }
    let s := (held.foldl State.writeCopy s).wr 0 Reg.XCHG_STAT_CUT 0
    (s.wr 0 Reg.XCHG_CUT_LAST_CYCLES 5120).mirrorOpen
  else s)

/-- SPREAD_END (R72): the Spread of the frame to a LIVE die ends. -/
def execSpreadEnd (die : Nat) (s : State) : Result :=
  .next (if s.frame.ticked && !s.outage && s.live die && s.clocked die && !s.absentDie die && !inDies s.frame.spreadDone die &&
      (!s.standby || s.pair.apply.isSome) then s.endSpread die
  else s)

/-- SPREAD_BY_DEADLINE (R73): a die whose Spread has not ended withholds commit-ready. -/
def execSpreadByDeadline (s : State) : Result :=
  .next (if s.rowsRun then
    let s := s.advanceTime (s.frame.tickTime + 1000 * s.rd 0 Reg.FWATCH_SPREAD_BY_US)
    let late := maskOf ((scanDies.filter fun d => s.live d && !inDies s.frame.spreadDone d).map (· - 2))
    if late = 0 then s
    else { s with frame := { s.frame with late := s.frame.late ||| late } }.irq 0 0x0B 1
  else s)

/-- ROW_START (R84): a selected row starts, `START` cycles after the die's tick. -/
def execRowStart (die row : Nat) (s : State) : Result :=
  .next (if s.rowMayStart die row then
    (s.advanceTo (s.frame.tickCycle + s.rowField die (s.activeBank die) row Reg.TTBL_ROW_W0_START)).startRow die row
  else s)

/-- BUDGET_EXPIRY (R84, R87 to R89): the budget counter of an engine reaches zero. -/
def execBudgetExpiry (die engine : Nat) (s : State) : Result :=
  .next (match s.slot? die engine with
    | some x => if isScan die && x.running then (s.advanceTo (x.start + x.length)).expireBudget die engine x else s
    | none => s)

/-- COMMIT_SAMPLE (R76, R178). -/
def execCommitSample (s : State) : Result :=
  .next (if s.frame.ticked && !s.frame.sampled && !s.outage && s.aon.holdup == 0 then
    (s.advanceTo s.sampleCycle).sample
  else s)

/-- COMMIT_END (R76): the gather ends. -/
def execCommitEnd (s : State) : Result :=
  .next (if s.frame.gather then (s.advanceTime s.commitEnd).endCommit else s)

/-- SAFE_COPY_END (R178): the copy of the Safe image ends, 25.6 us after the sample. -/
def execSafeCopyEnd (s : State) : Result :=
  .next (if s.frame.safeCopy then (s.advanceTo (s.sampleCycle + 5120)).endSafe else s)

/-- RELEASE_BUILD_END (R78): the build ends 26 us after its start. -/
def execReleaseBuildEnd (s : State) : Result :=
  .next (if s.frame.build then (s.advanceTo (s.frame.buildAt + 5200)).endBuild else s)

/-- RELEASE (R78, R205): the release of frame n at the tick of frame n + 1 and `TICK.RELEASE_AT`. -/
def execRelease (s : State) : Result :=
  .next (if s.frame.built && s.aon.holdup == 0 && s.frameNo == s.frame.releaseFrame + 1 then
    (s.advanceTime (s.frame.tickTime + 1000 * s.rd 0 Reg.TICK_RELEASE_AT_US)).release
  else s)

/-- OUTPUT_FRAME_START (R78, R271, R272): the next frame of a port's release starts at its fixed offset; with the last one
the release has ended (R315). -/
def execOutputFrameStart (port : Nat) (s : State) : Result :=
  .next (match SMap.get [] s.exch.txPorts port with
    | [] => s
    | f :: rest =>
      let s := s.advanceTime (s.exch.releaseAt + (f.start + 9) / 10)
      let s := s.sendOutput port f
      let s := { s with exch := { s.exch with txPorts := SMap.put [] s.exch.txPorts port rest } }
      (s.kick port).afterRelease)

/-- What the part does in a step with no command waiting: one cycle passes, and a Line port whose wire has become free
starts its next waiting frame (R7, R246; DESIGN CHOICE, log entry 1). -/
def State.idleCycle (s : State) : State := (List.range 4).foldl (fun s p => s.kick p) (s.advanceTo (s.cycle + 1))

end Sys2Proof.Machine
end

