-- ==== Sys2Proof/Machine/Bus.lean ====
section
/-! DEFINITION.  Every write and read of a register page with the effect its chapter gives it, and the accesses of bus
masters to the whole address map (spec/02 R45 to R48). -/

namespace Sys2Proof.Machine

open Sys2Proof.Bits

/-! ### Writes -/

/-- HOT_OK is lost when a write changes the task table or the retained list (R199). -/
def hotCheck (code off : Nat) (pre s : State) : State :=
  let bits := if code = 0x29 ∧ off = 0x108 then 128 else 2 ^ 32
  if pre.readWord 0 0 code off % bits = s.readWord 0 0 code off % bits then s else s.hotLost

/-- What a stored write to a Keeper register does beyond the store (the chapter of each page). -/
def keeperEffect (w : Who) (code off : Nat) (pre s : State) (v : Nat) : State :=
  match code, off with
  | 0x01, 0x100 => State.clkCfg pre s v
  | 0x02, 0x100 => State.pwrSw pre s v
  | 0x02, 0x104 => State.pwrRetain s v
  | 0x03, 0x100 => rstCtl s v
  | 0x03, 0x104 => State.dieResets s v
  | 0x04, 0x100 => if bit v 1 then clampZero s 0 else s
  | 0x05, 0x104 => State.fabFence s v
  | 0x05, 0x108 => State.fabUnfence s v
  | 0x06, 0x10C => quePush w 0 s v
  | 0x07, 0x100 => memPower 0 s v
  | 0x08, 0x100 => marchCtl 0 s v
  | 0x08, 0x120 => marchRepair 0 s v
  | 0x09, 0x100 => tokenAcqWrite w s v
  | 0x09, 0x104 => tokenRelWrite w s v
  | 0x0A, 0x100 => periodSet pre s
  | 0x0A, 0x114 => tickPoints s v
  | 0x0B, 0x108 => fwatchCtl s v
  | 0x0C, 0x100 => State.guardService s v
  | 0x0C, 0x104 => State.guardKey s v
  | 0x0C, 0x108 => State.guardCtl s v
  | 0x0D, 0x104 => State.aonFlags s v
  | 0x0E, 0x11C => State.rtcCtl s v
  | 0x0E, 0x128 => State.rtcMeas s v
  | 0x0F, 0x114 => nvcClr s v
  | 0x11, 0x100 => State.archCtl s v
  | 0x11, 0x144 => State.tallyGo w s v
  | 0x11, 0x148 => State.tallyDef s v
  | 0x13, 0x104 => State.updCtl s v
  | 0x14, 0x100 => State.shuntReq s v
  | 0x15, 0x100 => State.pairCfg s v
  | 0x15, 0x12C => State.pairReq s v
  | 0x16, 0x100 => s.tabletStep
  | 0x17, 0x100 => State.partReq [] s v
  | 0x1B, 0x100 => ptpDecide s
  | 0x1C, 0x110 => tsnEntry s v
  | 0x1C, 0x114 => tsnCtl s v
  | 0x1D, 0x100 | 0x1E, 0x100 | 0x1F, 0x100 | 0x20, 0x100 => lineCfg (code - 0x1D) pre s
  | 0x21, 0x100 | 0x22, 0x100 => canCtl (code - 0x21) pre s v
  | 0x21, 0x118 | 0x22, 0x118 => canTxcmd (code - 0x21) s v
  | 0x23, 0x10C => xspiCmd s v
  | 0x25, 0x100 => fpxCtl s v
  | 0x27, 0x100 => modeReq s v
  | 0x28, 0x104 | 0x28, 0x108 | 0x28, 0x10C | 0x29, 0x108 => hotCheck code off pre s
  | _, _ =>
    if code = 0x06 ∧ 0x200 ≤ off ∧ off % 0x20 = 0 then State.queueCfg 0 ((off - 0x200) / 0x20) pre s v
    else if code = 0x06 ∧ 0x200 ≤ off ∧ off % 0x20 = 0xC then quePop 0 ((off - 0x200) / 0x20) s v
    else if code = 0x0C then s.guardVoid
    else if code = 0x11 ∧ 0x180 ≤ off ∧ off < 0x1BC then State.binEdge s ((off - 0x180) / 4)
    else if code = 0x29 ∧ 0x400 ≤ off ∧ off < 0x600 then hotCheck code off pre s
    else s

/-- What a stored write to a Scan-die register does beyond the store. -/
def scanEffect (w : Who) (die code off : Nat) (pre s : State) (v : Nat) : State :=
  match code, off with
  | 0x04, 0x100 => if bit v 1 then clampZero s die else s
  | 0x06, 0x10C => quePush w die s v
  | 0x07, 0x100 => memPower die s v
  | 0x07, 0x120 => dmaGoWrite die s v
  | 0x08, 0x100 => marchCtl die s v
  | 0x08, 0x120 => marchRepair die s v
  | 0x09, 0x100 => ttblCtl die s v
  | 0x09, 0x114 => rowStored die s v
  | 0x0B, 0x11C => sboxClr die s v
  | 0x12, 0x104 => dbgWatch die s v
  | _, _ =>
    if code = 0x06 ∧ 0x200 ≤ off ∧ off % 0x20 = 0 then State.queueCfg die ((off - 0x200) / 0x20) pre s v
    else if code = 0x06 ∧ 0x200 ≤ off ∧ off % 0x20 = 0xC then quePop die ((off - 0x200) / 0x20) s v
    else if code = 0x0B ∧ 0x808 ≤ off ∧ off % 8 = 0 then maskLow die ((off - 0x800) / 8) s v
    else if code = 0x0B ∧ 0x808 ≤ off ∧ off % 8 = 4 then maskHigh w die ((off - 0x800) / 8) s v
    else if 0x0E ≤ code ∧ code ≤ 0x11 then
      match off with
      | 0x100 => State.coreCtl die (code - 0x0E) pre s v
      | 0x114 => State.coreSoft die (code - 0x0E) s v
      | 0x140 => State.routerClr die (code - 0x0E) 0 s v
      | 0x144 => State.routerClr die (code - 0x0E) 1 s v
      | _ => s
    else s

/-! ### The block control register (R53) -/

/-- What follows `PCTL.EN` of a page: links and CAN controllers follow it, PTP decides again. -/
def enableFollows (die code : Nat) (s : State) : State :=
  if die ≠ 0 then s
  else match code with
    | 0x1B => ptpDecide s
    | 0x1D | 0x1E | 0x1F | 0x20 => s.showLink (code - 0x1D)
    | 0x21 | 0x22 => s.canApply (code - 0x21)
    | _ => s

/-- What a block does at its soft reset before its page returns to reset values. -/
def blockStops (die code : Nat) (s : State) : State :=
  match code with
  | 0x08 => s.stopMarch die
  | 0x13 => if die = 0 then s.updSoftReset else s
  | 0x14 => if die = 0 then s.abandonShunt 11 else s
  | 0x21 | 0x22 => if die = 0 then canSoftReset s (code - 0x21) else s
  | 0x23 => if die = 0 then xspiSoftReset s else s
  | _ => s

/-- What follows the reset values of a page; `pre` is the state before. -/
def blockRestarts (die code : Nat) (pre s : State) : State :=
  match code with
  | 0x06 => (List.range 16).foldl (fun s q => State.queueCfg die q pre s 0) s
  | 0x07 => memPower die s 0
  | 0x15 => if die = 0 then State.pairCfg s 0 else s
  | 0x19 | 0x1A => if die = 0 then s.showTables else s
  | 0x1B | 0x1C => if die = 0 then ptpRestart s else s
  | 0x0E | 0x0F | 0x10 | 0x11 => if isScan die then State.coreCtl die (code - 0x0E) pre s 0 else s
  | _ => s

/-- A block soft reset with what its chapter adds (R53, R319, R376, R510). -/
def softReset (die code : Nat) (s : State) : State :=
  let r := softResetPage (blockStops die code s) die code
  let r := blockRestarts die code s r
  match code with
  | 0x1D | 0x1E | 0x1F | 0x20 => if die = 0 then lineCfg (code - 0x1D) s r else r
  | _ => r

/-- What a write to `PCTL` does. -/
def pctlWrite (die code : Nat) (s : State) (v : Nat) : State :=
  enableFollows die code (if bit v 1 then softReset die code s else s)

/-! ### All registers -/

/-- A write to a register with all its effects. -/
def regWrite (w : Who) (die code off word : Nat) (s : State) : State :=
  if die = 1 then fieldWrite w code off word s
  else if die = 0 ∧ code = 0x0F ∧ off = 0x10C then nvcWrite w word s
  else if off = 0x00C then writeThen w die code off word s (pctlWrite die code)
  else if off < 0x100 then plainWrite w die code off word s
  else if die = 0 ∧ ((code = 0x19 ∧ (off = 0x100 ∨ off = 0x110)) ∨ (code = 0x1A ∧ off = 0x11C)) then tableWrite w code off word s
  else if isScan die && code == 0x0C && (off == 0x100 || off == 0x108 || off == 0x10C || decide (0x140 ≤ off)) then
    timrWrite w die off word s
  else if die = 0 then writeWith w die code off word s (keeperEffect w code off)
  else writeWith w die code off word s (scanEffect w die code off)

/-- What a read does before its value is taken: a low word that latches its high word. -/
def readLatch (die code off : Nat) (s : State) : State :=
  match die, code, off with
  | 0, 0x1B, 0x12C => ptpTimeRead s
  | 0, 0x12, 0x128 => counterLatch s false
  | 0, 0x12, 0x130 => counterLatch s true
  | 0, 0x13, 0x124 => deadlineLatch s
  | 1, 5, 0x104 => fsupLatch s
  | _, _, _ => s

/-- What a read does after its value is taken: it pops a FIFO, or RC fields return to their reset value (R10). -/
def readTakes (who die code off : Nat) (s : State) : State :=
  if die = 1 ∧ code = 1 ∧ off = 0x148 then s.edgePop
  else if die = 1 ∧ code = 4 ∧ (off = 0x108 ∨ off = 0x128) then s.fskPop ((off - 0x108) / 0x20)
  else if die = 0 ∧ (code = 0x21 ∨ code = 0x22) ∧ 0x400 ≤ off ∧ off < 0x450 then s.rxRead who (code - 0x21) ((off - 0x400) / 4)
  else (regFields die code off).foldl (fun s f =>
    if f.acc = .rc then s.resetField die (f.w (s.winIx who die f.win)) else s) s

/-- A read of a register with all its effects. -/
def regRead (who die code off : Nat) (s : State) : State × Nat :=
  if off < 0x100 ∨ s.notReady die code then (s, s.readWord who die code off)
  else
    let s := readLatch die code off s
    (readTakes who die code off s, s.readWord who die code off)

namespace State

/-- A read of `n` bytes at an address by a master.  A WIDTH slip names the whole register that holds the address, LSB 0 and
WIDTH 32, and a read presents 0 as WRITTEN: R48 and R60 do not say (DESIGN CHOICE, log entry 26). -/
def busRead (s : State) (w : Who) (a n : Nat) : State × Ended :=
  match locate s w.code a with
  | .page die code off =>
    match s.unreachable w.code a (.page die code off) with
    | some t => (t, .fault)
    | none =>
      if s.stalled w.code die (viaJunction a) false then (s, .held)
      else if n = 4 ∧ a % 4 = 0 then
        let r := regRead w.code die code off s
        (r.1, .ok r.2)
      else (s.slip die code off 0 32 .width w.code 0 (s.readWord w.code die code (off / 4 * 4)), .fault)
  | _ => s.memRead w.code a n

/-- A write of `n` bytes at an address by a master. -/
def busWrite (s : State) (w : Who) (a n v : Nat) : State × Ended :=
  match locate s w.code a with
  | .page die code off =>
    match s.unreachable w.code a (.page die code off) with
    | some t => (t, .fault)
    | none =>
      let req := pageReq w die code off v
      let (failed, s) := s.takeFailed req
      if failed then (s, .fault)
      else if s.holding.contains req then (s, .held)
      else if s.stalled w.code die (viaJunction a) false then (s, .held)
      else if n = 4 ∧ a % 4 = 0 then
        let t := regWrite w die code off v s
        (t, if t.holding.contains req then .held else .ok 0)
      else (s.slip die code off 0 32 .width w.code (v % 2 ^ 32) (s.readWord w.code die code (off / 4 * 4)), .fault)
  | _ => s.memWrite w a n v

/-- Stores the reply of a completed request. -/
def setReply (s : State) (who : Nat) (e : Ended) : State :=
  match e with
  | .ok v => s.reply who v false
  | .fault => s.reply who 0 true
  | .held => s

/-- Whether an address lies in a page, for a master. -/
def onPage (s : State) (who a : Nat) : Bool :=
  match locate s who a with
  | .page _ _ _ => true
  | _ => false

/-- A request of a bus master of 1, 2, 4 or 8 bytes to its end.  A page takes a misaligned one as R48 says; a memory ends it
with an access fault and no effect (log entry 20). -/
def busRequest (s : State) (w : Who) (write : Bool) (a n v : Nat) : State :=
  if [1, 2, 4, 8].contains n && (a % n == 0 || s.onPage w.code a) then
    let r := if write then s.busWrite w a n v else s.busRead w a n
    let t := if viaJunction a && r.2 != .held then r.1.noteRequest w.code (locate s w.code a).die else r.1
    t.setReply w.code r.2
  else if [1, 2, 4, 8].contains n then s.setReply w.code .fault
  else s

end State

/-! ### Commands -/

/-- Whether a register address lies in a page that exists. -/
def pageAt (die code off : Nat) : Bool := (pageFields die code).isSome && decide (off < 0x1000) && off % 4 == 0

/-- REGISTER_WRITE (R10, R48 to R60). -/
def execRegisterWrite (w : Who) (die code off word : Nat) (s : State) : Result :=
  .next (if pageAt die code off then regWrite w die code off word s else s)

/-- RC_READ (R10): a read of a register by a master. -/
def execRcRead (w : Who) (die code off : Nat) (s : State) : Result :=
  .next (if pageAt die code off then
    s.reading w (regAddr die code off) die fun s =>
      let r := regRead w.code die code off s
      r.1.reply w.code r.2 false
  else s)

/-- SOFT_RESET (R53, R54): a write to `PCTL` with SRST set; `en` is the bit written to `PCTL.EN`. -/
def execSoftReset (w : Who) (die code : Nat) (en : Bool) (s : State) : Result :=
  .next (if pageAt die code 0x00C then regWrite w die code 0x00C (2 + ofBool en) s else s)

end Sys2Proof.Machine
end

