-- ==== Sys2Proof/Machine/CoreDecode.lean ====
section
/-! DEFINITION.  The instructions of a word core (spec/05 R140, R159) and their decoding: RV32IMAFD, Zicsr, Zifencei,
Zba and Zbb of the specifications that R140 names, and Xyi. -/

namespace Sys2Proof.Machine

open Sys2Proof.Bits

/-- Integer operations of two words. -/
inductive AluOp where
  | add | sub | sll | slt | sltu | xor | srl | sra | or | and
  | mul | mulh | mulhsu | mulhu | div | divu | rem | remu
  | sh1add | sh2add | sh3add
  | andn | orn | xnor | max | maxu | min | minu | rol | ror
  deriving DecidableEq, Repr

/-- Integer operations of one word. -/
inductive UnOp where
  | clz | ctz | cpop | sextb | sexth | zexth | orcb | rev8
  deriving DecidableEq, Repr

/-- Branch conditions. -/
inductive BrOp where
  | eq | ne | lt | ge | ltu | geu
  deriving DecidableEq, Repr

/-- Atomic memory operations. -/
inductive AmoOp where
  | swap | add | xor | and | or | min | max | minu | maxu
  deriving DecidableEq, Repr

/-- Floating operations of two registers with a rounding mode. -/
inductive FpOp where
  | add | sub | mul | div
  deriving DecidableEq, Repr

/-- Floating operations of two registers without one. -/
inductive FsOp where
  | sgnj | sgnjn | sgnjx | min | max
  deriving DecidableEq, Repr

/-- Floating comparisons. -/
inductive FcOp where
  | eq | lt | le
  deriving DecidableEq, Repr

/-- Saturating operations of Xyi. -/
inductive SatOp where
  | sadd | ssub | saddu | ssubu
  deriving DecidableEq, Repr

/-- Edge tests of Xyi. -/
inductive EdgeOp where
  | rise | fall | edge
  deriving DecidableEq, Repr

/-- An instruction of a word core.  Immediates are sign-extended to 32 bits; `d` marks double precision. -/
inductive CoreOp where
  | lui (rd imm : Nat)
  | auipc (rd imm : Nat)
  | jal (rd imm : Nat)
  | jalr (rd rs1 imm : Nat)
  | branch (op : BrOp) (rs1 rs2 imm : Nat)
  | load (size : Nat) (unsigned : Bool) (rd rs1 imm : Nat)
  | store (size rs1 rs2 imm : Nat)
  | aluImm (op : AluOp) (rd rs1 imm : Nat)
  | alu (op : AluOp) (rd rs1 rs2 : Nat)
  | unary (op : UnOp) (rd rs1 : Nat)
  | fence
  | fenceI
  | ecall
  | ebreak
  | wfi
  | mret
  | csr (f3 rd rs1 num : Nat)
  | lr (rd rs1 : Nat)
  | sc (rd rs1 rs2 : Nat)
  | amo (op : AmoOp) (rd rs1 rs2 : Nat)
  | fload (d : Bool) (rd rs1 imm : Nat)
  | fstore (d : Bool) (rs1 rs2 imm : Nat)
  | fma (d negProd negAdd : Bool) (rd rs1 rs2 rs3 rm : Nat)
  | fp (d : Bool) (op : FpOp) (rd rs1 rs2 rm : Nat)
  | fsqrt (d : Bool) (rd rs1 rm : Nat)
  | fs (d : Bool) (op : FsOp) (rd rs1 rs2 : Nat)
  | fcmp (d : Bool) (op : FcOp) (rd rs1 rs2 : Nat)
  | fclass (d : Bool) (rd rs1 : Nat)
  | fcvtToInt (d signed : Bool) (rd rs1 rm : Nat)
  | fcvtFromInt (d signed : Bool) (rd rs1 rm : Nat)
  /-- FCVT.S.D when `toD` is false, FCVT.D.S when it is true. -/
  | fcvtFmt (toD : Bool) (rd rs1 rm : Nat)
  | fmvXW (rd rs1 : Nat)
  | fmvWX (rd rs1 : Nat)
  | bext (rd rs1 imm : Nat)
  | bdep (rs1 rs2 imm : Nat)
  | bmask (clear : Bool) (rd rs1 rs2 : Nat)
  | bedge (op : EdgeOp) (rd rs1 rs2 : Nat)
  | budgetRd (rd : Nat)
  | slotend
  | qput (rd rs1 rs2 : Nat)
  | qget (rd rs1 : Nat)
  | tokenAcq (rd rs1 : Nat)
  | tokenRel (rd rs1 : Nat)
  | sat (op : SatOp) (rd rs1 rs2 : Nat)
  | scaleS (rd rs1 rs2 : Nat)
  | limitW (rd rs1 rs2 rs3 : Nat)
  | limitF (d : Bool) (rd rs1 rs2 rs3 : Nat)
  deriving DecidableEq, Repr

/-! ### Fields of an instruction word -/

/-- Opcode. -/
def opcodeOf (w : Nat) : Nat := field w 0 7
/-- rd. -/
def rdOf (w : Nat) : Nat := field w 7 5
/-- funct3. -/
def f3Of (w : Nat) : Nat := field w 12 3
/-- rs1. -/
def rs1Of (w : Nat) : Nat := field w 15 5
/-- rs2. -/
def rs2Of (w : Nat) : Nat := field w 20 5
/-- funct7. -/
def f7Of (w : Nat) : Nat := field w 25 7
/-- rs3 of the R4 format. -/
def rs3Of (w : Nat) : Nat := field w 27 5

/-- The low `n` bits of a number, sign-extended to 32 bits. -/
def sext (n v : Nat) : Nat := ofInt 32 (toInt n v)

/-- I immediate. -/
def immI (w : Nat) : Nat := sext 12 (field w 20 12)
/-- S immediate. -/
def immS (w : Nat) : Nat := sext 12 (field w 25 7 * 32 + field w 7 5)
/-- B immediate. -/
def immB (w : Nat) : Nat :=
  sext 13 (field w 31 1 * 4096 + field w 7 1 * 2048 + field w 25 6 * 32 + field w 8 4 * 2)
/-- U immediate. -/
def immU (w : Nat) : Nat := w / 4096 * 4096 % 2 ^ 32
/-- J immediate. -/
def immJ (w : Nat) : Nat :=
  sext 21 (field w 31 1 * 1048576 + field w 12 8 * 4096 + field w 20 1 * 2048 + field w 21 10 * 2)

/-! ### Decoding -/

/-- OP by funct7 and funct3. -/
def aluOf (f7 f3 : Nat) : Option AluOp :=
  match f7, f3 with
  | 0x00, 0 => some .add | 0x00, 1 => some .sll | 0x00, 2 => some .slt | 0x00, 3 => some .sltu
  | 0x00, 4 => some .xor | 0x00, 5 => some .srl | 0x00, 6 => some .or | 0x00, 7 => some .and
  | 0x20, 0 => some .sub | 0x20, 5 => some .sra | 0x20, 7 => some .andn | 0x20, 6 => some .orn
  | 0x20, 4 => some .xnor
  | 0x01, 0 => some .mul | 0x01, 1 => some .mulh | 0x01, 2 => some .mulhsu | 0x01, 3 => some .mulhu
  | 0x01, 4 => some .div | 0x01, 5 => some .divu | 0x01, 6 => some .rem | 0x01, 7 => some .remu
  | 0x10, 2 => some .sh1add | 0x10, 4 => some .sh2add | 0x10, 6 => some .sh3add
  | 0x05, 4 => some .min | 0x05, 5 => some .minu | 0x05, 6 => some .max | 0x05, 7 => some .maxu
  | 0x30, 1 => some .rol | 0x30, 5 => some .ror
  | _, _ => none

/-- OP-IMM. -/
def decodeOpImm (w : Nat) : Option CoreOp :=
  let rd := rdOf w
  let rs1 := rs1Of w
  let sh := rs2Of w
  match f3Of w with
  | 0 => some (.aluImm .add rd rs1 (immI w))
  | 2 => some (.aluImm .slt rd rs1 (immI w))
  | 3 => some (.aluImm .sltu rd rs1 (immI w))
  | 4 => some (.aluImm .xor rd rs1 (immI w))
  | 6 => some (.aluImm .or rd rs1 (immI w))
  | 7 => some (.aluImm .and rd rs1 (immI w))
  | 1 =>
    match f7Of w, sh with
    | 0x00, _ => some (.aluImm .sll rd rs1 sh)
    | 0x30, 0 => some (.unary .clz rd rs1)
    | 0x30, 1 => some (.unary .ctz rd rs1)
    | 0x30, 2 => some (.unary .cpop rd rs1)
    | 0x30, 4 => some (.unary .sextb rd rs1)
    | 0x30, 5 => some (.unary .sexth rd rs1)
    | _, _ => none
  | _ =>
    match f7Of w, sh with
    | 0x00, _ => some (.aluImm .srl rd rs1 sh)
    | 0x20, _ => some (.aluImm .sra rd rs1 sh)
    | 0x30, _ => some (.aluImm .ror rd rs1 sh)
    | 0x14, 7 => some (.unary .orcb rd rs1)
    | 0x34, 0x18 => some (.unary .rev8 rd rs1)
    | _, _ => none

/-- OP. -/
def decodeOp (w : Nat) : Option CoreOp :=
  if f7Of w = 0x04 ∧ f3Of w = 4 ∧ rs2Of w = 0 then some (.unary .zexth (rdOf w) (rs1Of w))
  else (aluOf (f7Of w) (f3Of w)).map fun op => .alu op (rdOf w) (rs1Of w) (rs2Of w)

/-- SYSTEM. -/
def decodeSystem (w : Nat) : Option CoreOp :=
  match f3Of w with
  | 0 =>
    match w with
    | 0x00000073 => some .ecall
    | 0x00100073 => some .ebreak
    | 0x10500073 => some .wfi
    | 0x30200073 => some .mret
    | _ => none
  | 4 => none
  | f3 => some (.csr f3 (rdOf w) (rs1Of w) (field w 20 12))

/-- AMO. -/
def decodeAmo (w : Nat) : Option CoreOp :=
  let rd := rdOf w
  let rs1 := rs1Of w
  let rs2 := rs2Of w
  if f3Of w ≠ 2 then none
  else match field w 27 5 with
    | 0x02 => if rs2 = 0 then some (.lr rd rs1) else none
    | 0x03 => some (.sc rd rs1 rs2)
    | 0x01 => some (.amo .swap rd rs1 rs2)
    | 0x00 => some (.amo .add rd rs1 rs2)
    | 0x04 => some (.amo .xor rd rs1 rs2)
    | 0x0C => some (.amo .and rd rs1 rs2)
    | 0x08 => some (.amo .or rd rs1 rs2)
    | 0x10 => some (.amo .min rd rs1 rs2)
    | 0x14 => some (.amo .max rd rs1 rs2)
    | 0x18 => some (.amo .minu rd rs1 rs2)
    | 0x1C => some (.amo .maxu rd rs1 rs2)
    | _ => none

/-- OP-FP. -/
def decodeFp (w : Nat) : Option CoreOp :=
  let rd := rdOf w
  let rs1 := rs1Of w
  let rs2 := rs2Of w
  let f3 := f3Of w
  match field w 25 2 with
  | 0 | 1 =>
    let d := field w 25 2 == 1
    match field w 27 5, f3, rs2 with
    | 0x00, _, _ => some (.fp d .add rd rs1 rs2 f3)
    | 0x01, _, _ => some (.fp d .sub rd rs1 rs2 f3)
    | 0x02, _, _ => some (.fp d .mul rd rs1 rs2 f3)
    | 0x03, _, _ => some (.fp d .div rd rs1 rs2 f3)
    | 0x0B, _, 0 => some (.fsqrt d rd rs1 f3)
    | 0x04, 0, _ => some (.fs d .sgnj rd rs1 rs2)
    | 0x04, 1, _ => some (.fs d .sgnjn rd rs1 rs2)
    | 0x04, 2, _ => some (.fs d .sgnjx rd rs1 rs2)
    | 0x05, 0, _ => some (.fs d .min rd rs1 rs2)
    | 0x05, 1, _ => some (.fs d .max rd rs1 rs2)
    | 0x08, _, 0 => if d then some (.fcvtFmt true rd rs1 f3) else none
    | 0x08, _, 1 => if d then none else some (.fcvtFmt false rd rs1 f3)
    | 0x14, 2, _ => some (.fcmp d .eq rd rs1 rs2)
    | 0x14, 1, _ => some (.fcmp d .lt rd rs1 rs2)
    | 0x14, 0, _ => some (.fcmp d .le rd rs1 rs2)
    | 0x18, _, 0 => some (.fcvtToInt d true rd rs1 f3)
    | 0x18, _, 1 => some (.fcvtToInt d false rd rs1 f3)
    | 0x1A, _, 0 => some (.fcvtFromInt d true rd rs1 f3)
    | 0x1A, _, 1 => some (.fcvtFromInt d false rd rs1 f3)
    | 0x1C, 1, 0 => some (.fclass d rd rs1)
    | 0x1C, 0, 0 => if d then none else some (.fmvXW rd rs1)
    | 0x1E, 0, 0 => if d then none else some (.fmvWX rd rs1)
    | _, _, _ => none
  | _ => none

/-- The fused operations. -/
def decodeFma (w : Nat) (negProd negAdd : Bool) : Option CoreOp :=
  match field w 25 2 with
  | 0 => some (.fma false negProd negAdd (rdOf w) (rs1Of w) (rs2Of w) (rs3Of w) (f3Of w))
  | 1 => some (.fma true negProd negAdd (rdOf w) (rs1Of w) (rs2Of w) (rs3Of w) (f3Of w))
  | _ => none

/-- Xyi, custom-0 (R159). -/
def decodeCustom0 (w : Nat) : Option CoreOp :=
  let rd := rdOf w
  let rs1 := rs1Of w
  let rs2 := rs2Of w
  match f3Of w, f7Of w with
  | 0, _ => some (.bext rd rs1 (immI w))
  | 1, _ => some (.bdep rs1 rs2 (immS w))
  | 2, 0x00 => some (.bmask false rd rs1 rs2)
  | 2, 0x01 => some (.bmask true rd rs1 rs2)
  | 2, 0x02 => some (.bedge .rise rd rs1 rs2)
  | 2, 0x03 => some (.bedge .fall rd rs1 rs2)
  | 2, 0x04 => some (.bedge .edge rd rs1 rs2)
  | 3, 0x00 => if rs1 = 0 ∧ rs2 = 0 then some (.budgetRd rd) else none
  | 3, 0x01 => if rd = 0 ∧ rs1 = 0 ∧ rs2 = 0 then some .slotend else none
  | 3, 0x02 => some (.qput rd rs1 rs2)
  | 3, 0x03 => if rs2 = 0 then some (.qget rd rs1) else none
  | 3, 0x04 => if rs2 = 0 then some (.tokenAcq rd rs1) else none
  | 3, 0x05 => if rs2 = 0 then some (.tokenRel rd rs1) else none
  | _, _ => none

/-- Xyi, custom-1 (R159). -/
def decodeCustom1 (w : Nat) : Option CoreOp :=
  let rd := rdOf w
  let rs1 := rs1Of w
  let rs2 := rs2Of w
  match f3Of w, f7Of w with
  | 0, 0x00 => some (.sat .sadd rd rs1 rs2)
  | 0, 0x01 => some (.sat .ssub rd rs1 rs2)
  | 0, 0x02 => some (.sat .saddu rd rs1 rs2)
  | 0, 0x03 => some (.sat .ssubu rd rs1 rs2)
  | 1, 0x00 => some (.scaleS rd rs1 rs2)
  | 2, _ =>
    match field w 25 2 with
    | 0 => some (.limitW rd rs1 rs2 (rs3Of w))
    | 1 => some (.limitF false rd rs1 rs2 (rs3Of w))
    | 2 => some (.limitF true rd rs1 rs2 (rs3Of w))
    | _ => none
  | _, _ => none

/-- The instruction of a word, `none` for an illegal one (R140, R159). -/
def decodeCore (w : Nat) : Option CoreOp :=
  let rd := rdOf w
  let rs1 := rs1Of w
  let rs2 := rs2Of w
  match opcodeOf w with
  | 0x37 => some (.lui rd (immU w))
  | 0x17 => some (.auipc rd (immU w))
  | 0x6F => some (.jal rd (immJ w))
  | 0x67 => if f3Of w = 0 then some (.jalr rd rs1 (immI w)) else none
  | 0x63 =>
    (match f3Of w with
      | 0 => some BrOp.eq | 1 => some .ne | 4 => some .lt | 5 => some .ge | 6 => some .ltu | 7 => some .geu
      | _ => none).map fun op => .branch op rs1 rs2 (immB w)
  | 0x03 =>
    match f3Of w with
    | 0 => some (.load 1 false rd rs1 (immI w))
    | 1 => some (.load 2 false rd rs1 (immI w))
    | 2 => some (.load 4 false rd rs1 (immI w))
    | 4 => some (.load 1 true rd rs1 (immI w))
    | 5 => some (.load 2 true rd rs1 (immI w))
    | _ => none
  | 0x23 =>
    match f3Of w with
    | 0 => some (.store 1 rs1 rs2 (immS w))
    | 1 => some (.store 2 rs1 rs2 (immS w))
    | 2 => some (.store 4 rs1 rs2 (immS w))
    | _ => none
  | 0x13 => decodeOpImm w
  | 0x33 => decodeOp w
  | 0x0F => match f3Of w with | 0 => some .fence | 1 => some .fenceI | _ => none
  | 0x73 => decodeSystem w
  | 0x2F => decodeAmo w
  | 0x07 => match f3Of w with
    | 2 => some (.fload false rd rs1 (immI w)) | 3 => some (.fload true rd rs1 (immI w)) | _ => none
  | 0x27 => match f3Of w with
    | 2 => some (.fstore false rs1 rs2 (immS w)) | 3 => some (.fstore true rs1 rs2 (immS w)) | _ => none
  | 0x43 => decodeFma w false false
  | 0x47 => decodeFma w false true
  | 0x4B => decodeFma w true false
  | 0x4F => decodeFma w true true
  | 0x53 => decodeFp w
  | 0x0B => decodeCustom0 w
  | 0x2B => decodeCustom1 w
  | _ => none

end Sys2Proof.Machine
end

