-- ==== Sys2Proof/Machine/Float.lean ====
section
/-! DEFINITION.  IEEE 754-2008 binary32 and binary64 arithmetic for the word cores (spec/05 R142): exact results in
integers, rounded once.  NaN results are the canonical NaN and underflow is found after rounding, as the RISC-V
Unprivileged ISA that R140 names gives. -/

namespace Sys2Proof.Machine.Float

open Sys2Proof.Bits

/-- A binary format: exponent bits and stored mantissa bits. -/
structure Fmt where
  ebits : Nat
  mbits : Nat
  deriving DecidableEq, Repr

/-- binary32. -/
def single : Fmt := ⟨8, 23⟩
/-- binary64. -/
def double : Fmt := ⟨11, 52⟩

/-- The format of an instruction's fmt bit. -/
def fmtOf (d : Bool) : Fmt := if d then double else single

namespace Fmt

/-- Width in bits. -/
def width (f : Fmt) : Nat := f.ebits + f.mbits + 1
/-- Exponent bias. -/
def bias (f : Fmt) : Int := 2 ^ (f.ebits - 1) - 1
/-- Exponent of the least subnormal. -/
def emin (f : Fmt) : Int := 1 - f.bias - f.mbits
/-- Precision. -/
def prec (f : Fmt) : Nat := f.mbits + 1
/-- Infinity. -/
def inf (f : Fmt) (neg : Bool) : Nat := (if neg then 2 ^ (f.width - 1) else 0) + (2 ^ f.ebits - 1) * 2 ^ f.mbits
/-- The canonical NaN. -/
def nan (f : Fmt) : Nat := f.inf false + 2 ^ (f.mbits - 1)
/-- Zero. -/
def zero (f : Fmt) (neg : Bool) : Nat := if neg then 2 ^ (f.width - 1) else 0
/-- The largest finite number. -/
def top (f : Fmt) (neg : Bool) : Nat := f.inf neg - 1

end Fmt

/-- A number taken apart; finite numbers are `m * 2 ^ e`. -/
inductive Num where
  | nan (signaling : Bool)
  | inf (neg : Bool)
  | fin (neg : Bool) (m : Nat) (e : Int)
  deriving DecidableEq, Repr

/-- Accrued flags (fflags). -/
def NV : Nat := 16
/-- Divide by zero. -/
def DZ : Nat := 8
/-- Overflow. -/
def OF : Nat := 4
/-- Underflow. -/
def UF : Nat := 2
/-- Inexact. -/
def NX : Nat := 1

/-- Rounding modes. -/
inductive Rm where
  | rne | rtz | rdn | rup | rmm
  deriving DecidableEq, Repr

/-- The mode of an rm field, if legal. -/
def rmOf (n : Nat) : Option Rm :=
  match n with
  | 0 => some .rne | 1 => some .rtz | 2 => some .rdn | 3 => some .rup | 4 => some .rmm | _ => none

/-- Takes a number apart. -/
def unpack (f : Fmt) (w : Nat) : Num :=
  let neg := bit w (f.width - 1)
  let e := field w f.mbits f.ebits
  let m := field w 0 f.mbits
  if e = 2 ^ f.ebits - 1 then (if m = 0 then .inf neg else .nan (!bit m (f.mbits - 1)))
  else if e = 0 then .fin neg m f.emin
  else .fin neg (m + 2 ^ f.mbits) (f.emin + (e - 1 : Int))

/-- Bits of a number: 0 has none. -/
def bits (m : Nat) : Nat := if m = 0 then 0 else Nat.log2 m + 1

/-- `m` rounded at `k` bits up its scale; `sticky` tells of more below.  The second part tells of inexactness. -/
def roundAt (rm : Rm) (neg : Bool) (m : Nat) (k : Int) (sticky : Bool) : Nat × Bool :=
  if k ≤ 0 then (m <<< (-k).toNat, sticky)
  else
    let n := k.toNat
    let q := m >>> n
    let r := m % 2 ^ n
    let half := 2 ^ (n - 1)
    let inexact := r != 0 || sticky
    let up := match rm with
      | .rne => decide (half < r) || (r == half && (sticky || q % 2 == 1))
      | .rtz => false
      | .rdn => neg && inexact
      | .rup => !neg && inexact
      | .rmm => decide (half ≤ r)
    (if up then q + 1 else q, inexact)

/-- Rounds `m * 2 ^ e` into a format: the word and the flags.  A caller with `sticky` gives at least three bits more
than the precision. -/
def pack (f : Fmt) (rm : Rm) (neg : Bool) (m : Nat) (e : Int) (sticky : Bool) : Nat × Nat :=
  if m = 0 && !sticky then (f.zero neg, 0)
  else
    let q := e + bits m - f.prec
    let q' := max q f.emin
    let (k, inexact) := roundAt rm neg m (q' - e) sticky
    let (k, q') := if k = 2 ^ f.prec then (2 ^ f.mbits, q' + 1) else (k, q')
    let tiny := decide (q < f.emin) &&
      !(q == f.emin - 1 && (roundAt rm neg m (q - e) sticky).1 == 2 ^ f.prec)
    let nx := if inexact then NX else 0
    let sign := if neg then 2 ^ (f.width - 1) else 0
    if k < 2 ^ f.mbits then (sign + k, nx + if tiny && inexact then UF else 0)
    else
      let ex := q' - f.emin + 1
      if 2 ^ f.ebits - 1 ≤ ex then
        let toInf := match rm with
          | .rne | .rmm => true
          | .rtz => false
          | .rdn => neg
          | .rup => !neg
        (if toInf then f.inf neg else f.top neg, OF + NX)
      else (sign + ex.toNat * 2 ^ f.mbits + (k - 2 ^ f.mbits), nx + if tiny && inexact then UF else 0)

/-- NV when a number is a signaling NaN. -/
def snan (x : Num) : Nat := if x = .nan true then NV else 0

/-- The signed value `±m` of a finite number scaled to exponent `e0`. -/
def scaled (neg : Bool) (m : Nat) (e e0 : Int) : Int :=
  let v : Int := ((m <<< (e - e0).toNat : Nat) : Int)
  if neg then -v else v

/-- Sum of two numbers, rounded once. -/
def addNum (f : Fmt) (rm : Rm) (x y : Num) : Nat × Nat :=
  match x, y with
  | .nan _, _ | _, .nan _ => (f.nan, snan x ||| snan y)
  | .inf a, .inf b => if a = b then (f.inf a, 0) else (f.nan, NV)
  | .inf a, _ => (f.inf a, 0)
  | _, .inf b => (f.inf b, 0)
  | .fin a m e, .fin b n g =>
    let e0 := min e g
    let v := scaled a m e e0 + scaled b n g e0
    if v = 0 then
      (f.zero (if m = 0 && n = 0 && a == b then a else rm == .rdn), 0)
    else pack f rm (decide (v < 0)) v.natAbs e0 false

/-- The number with its sign turned when `b`. -/
def Num.flip (x : Num) (b : Bool) : Num :=
  match x with
  | .nan q => .nan q
  | .inf a => .inf (a != b)
  | .fin a m e => .fin (a != b) m e

/-- Product of two numbers, exact; `none` for infinity by zero. -/
def mulExact (x y : Num) : Option Num :=
  match x, y with
  | .nan a, .nan b => some (.nan (a || b))
  | .nan a, _ => some (.nan a)
  | _, .nan b => some (.nan b)
  | .inf a, .inf b => some (.inf (a != b))
  | .inf a, .fin b m _ => if m = 0 then none else some (.inf (a != b))
  | .fin a m _, .inf b => if m = 0 then none else some (.inf (a != b))
  | .fin a m e, .fin b n g => some (.fin (a != b) (m * n) (e + g))

/-- Product, rounded once. -/
def mulNum (f : Fmt) (rm : Rm) (x y : Num) : Nat × Nat :=
  match mulExact x y with
  | none => (f.nan, NV)
  | some (.nan _) => (f.nan, snan x ||| snan y)
  | some (.inf a) => (f.inf a, 0)
  | some (.fin a m e) => pack f rm a m e false

/-- Fused product and sum, rounded once. -/
def fmaNum (f : Fmt) (rm : Rm) (x y z : Num) : Nat × Nat :=
  match mulExact x y with
  | none => (f.nan, NV)
  | some (.nan _) => (f.nan, (snan x ||| snan y) ||| snan z)
  | some p => addNum f rm p z

/-- Quotient, rounded once. -/
def divNum (f : Fmt) (rm : Rm) (x y : Num) : Nat × Nat :=
  match x, y with
  | .nan _, _ | _, .nan _ => (f.nan, snan x ||| snan y)
  | .inf _, .inf _ => (f.nan, NV)
  | .inf a, .fin b _ _ => (f.inf (a != b), 0)
  | .fin a _ _, .inf b => (f.zero (a != b), 0)
  | .fin a m e, .fin b n g =>
    if n = 0 then (if m = 0 then (f.nan, NV) else (f.inf (a != b), DZ))
    else if m = 0 then (f.zero (a != b), 0)
    else
      let k := f.prec + 3 + bits n
      let v := m <<< k
      pack f rm (a != b) (v / n) (e - g - k) (v % n != 0)

/-- Integer square root by bits from `n` down. -/
def isqrt : Nat → Nat → Nat → Nat
  | 0, _, r => r
  | n + 1, v, r => isqrt n v (if (r + 2 ^ n) * (r + 2 ^ n) ≤ v then r + 2 ^ n else r)

/-- Square root, rounded once. -/
def sqrtNum (f : Fmt) (rm : Rm) (x : Num) : Nat × Nat :=
  match x with
  | .nan _ => (f.nan, snan x)
  | .inf a => if a then (f.nan, NV) else (f.inf false, 0)
  | .fin a m e =>
    if m = 0 then (f.zero a, 0)
    else if a then (f.nan, NV)
    else
      let (m, e) := if e % 2 = 0 then (m, e) else (2 * m, e - 1)
      let k := f.prec + 3
      let v := m <<< (2 * k)
      let r := isqrt (bits v / 2 + 1) v 0
      pack f rm false r (e / 2 - k) (r * r != v)

/-- Order of two numbers that are not NaN, with -0 equal to +0. -/
def lessNum (x y : Num) : Bool :=
  match x, y with
  | .inf a, .inf b => a && !b
  | .inf a, .fin _ _ _ => a
  | .fin _ _ _, .inf b => !b
  | .fin a m e, .fin b n g =>
    let e0 := min e g
    decide (scaled a m e e0 < scaled b n g e0)
  | _, _ => false

/-- Whether a number is a NaN. -/
def Num.isNan : Num → Bool
  | .nan _ => true
  | _ => false

/-- Equality of two numbers that are not NaN. -/
def eqNum (x y : Num) : Bool := !x.isNan && !y.isNan && !lessNum x y && !lessNum y x

/-- Order with -0 below +0. -/
def below (x y : Num) : Bool :=
  match x, y with
  | .fin a 0 _, .fin b 0 _ => a && !b
  | _, _ => lessNum x y

/-- FMIN (`small`) and FMAX of two words. -/
def minMax (f : Fmt) (small : Bool) (a b : Nat) : Nat × Nat :=
  let x := unpack f a
  let y := unpack f b
  let fl := snan x ||| snan y
  if x.isNan && y.isNan then (f.nan, fl)
  else if x.isNan then (b, fl)
  else if y.isNan then (a, fl)
  else (if below x y == small then a else b, fl)

/-- FCLASS. -/
def fclass (f : Fmt) (w : Nat) : Nat :=
  match unpack f w with
  | .nan q => if q then 0x100 else 0x200
  | .inf a => if a then 0x001 else 0x080
  | .fin a m _ =>
    if m = 0 then (if a then 0x008 else 0x010)
    else if m < 2 ^ f.mbits then (if a then 0x004 else 0x020)
    else if a then 0x002 else 0x040

/-- FCVT to a 32-bit integer, signed or not: the word and the flags. -/
def toIntWord (rm : Rm) (signed : Bool) (x : Num) : Nat × Nat :=
  let lo : Int := if signed then -2147483648 else 0
  let hi : Int := if signed then 2147483647 else 4294967295
  match x with
  | .nan _ => (ofInt 32 hi, NV)
  | .inf a => (ofInt 32 (if a then lo else hi), NV)
  | .fin a m e =>
    let (q, inexact) := roundAt rm a m (-e) false
    let v : Int := if a then -(q : Int) else q
    if v < lo then (ofInt 32 lo, NV) else if hi < v then (ofInt 32 hi, NV)
    else (ofInt 32 v, if inexact then NX else 0)

/-- A number from an integer, exact. -/
def ofInteger (v : Int) : Num := .fin (decide (v < 0)) v.natAbs 0

/-- Rounds a number into a format: FCVT from an integer or from the other format. -/
def convert (f : Fmt) (rm : Rm) (x : Num) : Nat × Nat :=
  match x with
  | .nan _ => (f.nan, snan x)
  | .inf a => (f.inf a, 0)
  | .fin a m e => pack f rm a m e false

/-- A single of a 64-bit register: improper boxing reads as the canonical NaN. -/
def unbox (v : Nat) : Nat := if v / 2 ^ 32 = 2 ^ 32 - 1 then v % 2 ^ 32 else single.nan

/-- NaN-boxing. -/
def box (v : Nat) : Nat := (2 ^ 32 - 1) * 2 ^ 32 + v

/-- LIMIT.S and LIMIT.D (R160) on words whose bounds are not NaN: min(max(a, lo), hi), -0 below +0; a NaN gives `lo`. -/
def limit (f : Fmt) (a lo hi : Nat) : Nat :=
  if (unpack f a).isNan then lo
  else
    let m := if below (unpack f a) (unpack f lo) then lo else a
    if below (unpack f hi) (unpack f m) then hi else m

/-- SCALE.S (R161): offset + gain * d, rounded once to binary32. -/
def scale (rm : Rm) (gain offset : Nat) (d : Int) : Nat × Nat :=
  fmaNum single rm (unpack single gain) (ofInteger d) (unpack single offset)

end Sys2Proof.Machine.Float
end

