-- ==== Sys2Proof/Machine/Cores.lean ====
section
/-! DEFINITION.  What the instructions of a word core do (spec/05 R140 to R164), and the commands of the word cores. -/

namespace Sys2Proof.Machine

open Sys2Proof.Bits Sys2Proof.Machine.Float

/-! ### Integer arithmetic -/

/-- Counts leading zeros of 32 bits. -/
def clz32 (v : Nat) : Nat := 32 - Float.bits v

/-- Counts trailing zeros of 32 bits. -/
def ctz32 (v : Nat) : Nat := ((List.range 32).find? (bit v)).getD 32

/-- The result of an integer operation on two words. -/
def aluResult (op : AluOp) (a b : Nat) : Nat :=
  let sa := toInt 32 a
  let sb := toInt 32 b
  let sh := b % 32
  let m := 2 ^ 32
  match op with
  | .add => (a + b) % m
  | .sub => (a + m - b) % m
  | .sll => (a <<< sh) % m
  | .slt => ofBool (decide (sa < sb))
  | .sltu => ofBool (decide (a < b))
  | .xor => a ^^^ b
  | .srl => a >>> sh
  | .sra => ofInt 32 (sa / (2 ^ sh : Nat))
  | .or => a ||| b
  | .and => a &&& b
  | .mul => (a * b) % m
  | .mulh => ofInt 32 (sa * sb / (m : Nat))
  | .mulhsu => ofInt 32 (sa * (b : Int) / (m : Nat))
  | .mulhu => a * b / m
  | .div => if b = 0 then m - 1 else ofInt 32 (Int.tdiv sa sb)
  | .divu => if b = 0 then m - 1 else a / b
  | .rem => if b = 0 then a else ofInt 32 (Int.tmod sa sb)
  | .remu => if b = 0 then a else a % b
  | .sh1add => (b + 2 * a) % m
  | .sh2add => (b + 4 * a) % m
  | .sh3add => (b + 8 * a) % m
  | .andn => minus 32 a b
  | .orn => a ||| minus 32 (m - 1) b
  | .xnor => minus 32 (m - 1) (a ^^^ b)
  | .max => if sa < sb then b else a
  | .maxu => Nat.max a b
  | .min => if sa < sb then a else b
  | .minu => Nat.min a b
  | .rol => (a <<< sh ||| a >>> (32 - sh)) % m
  | .ror => (a >>> sh ||| a <<< (32 - sh)) % m

/-- The result of an integer operation on one word. -/
def unResult (op : UnOp) (a : Nat) : Nat :=
  match op with
  | .clz => clz32 a
  | .ctz => ctz32 a
  | .cpop => count 32 a
  | .sextb => sext 8 a
  | .sexth => sext 16 a
  | .zexth => a % 65536
  | .orcb => (List.range 4).foldl (fun r i => r + if field a (8 * i) 8 = 0 then 0 else 255 * 2 ^ (8 * i)) 0
  | .rev8 => ofBE (toLE 4 a)

/-- Whether a branch is taken. -/
def brTaken (op : BrOp) (a b : Nat) : Bool :=
  match op with
  | .eq => a == b
  | .ne => a != b
  | .lt => decide (toInt 32 a < toInt 32 b)
  | .ge => !decide (toInt 32 a < toInt 32 b)
  | .ltu => decide (a < b)
  | .geu => !decide (a < b)

/-- The value an AMO stores. -/
def amoResult (op : AmoOp) (old b : Nat) : Nat :=
  match op with
  | .swap => b
  | .add => (old + b) % 2 ^ 32
  | .xor => old ^^^ b
  | .and => old &&& b
  | .or => old ||| b
  | .min => aluResult .min old b
  | .max => aluResult .max old b
  | .minu => aluResult .minu old b
  | .maxu => aluResult .maxu old b

/-- A saturating operation (R160): the result and whether it saturated. -/
def satResult (op : SatOp) (a b : Nat) : Nat × Bool :=
  let fit (lo hi v : Int) : Nat × Bool := (ofInt 32 (clampInt lo hi v), decide (v < lo) || decide (hi < v))
  match op with
  | .sadd => fit (-2147483648) 2147483647 (toInt 32 a + toInt 32 b)
  | .ssub => fit (-2147483648) 2147483647 (toInt 32 a - toInt 32 b)
  | .saddu => fit 0 4294967295 ((a : Int) + b)
  | .ssubu => fit 0 4294967295 ((a : Int) - b)

/-- An edge test (R160). -/
def edgeResult (op : EdgeOp) (now was : Bool) : Bool :=
  match op with
  | .rise => now && !was
  | .fall => !now && was
  | .edge => now != was

/-- The cycle count of an integer operation (R152). -/
def aluCost (op : AluOp) : Nat :=
  match op with
  | .div | .divu | .rem | .remu => 18
  | _ => 1

/-! ### Registers -/

namespace Core

/-- An integer register; x0 reads zero. -/
def getX (c : Core) (r : Nat) : Nat := if r = 0 then 0 else SMap.get 0 c.x r

/-- Writes an integer register; x0 takes nothing. -/
def setX (c : Core) (r v : Nat) : Core := if r = 0 then c else { c with x := SMap.put 0 c.x r (v % 2 ^ 32) }

/-- A floating register's 64 bits. -/
def getF (c : Core) (r : Nat) : Nat := SMap.get 0 c.f r

/-- Writes a floating register; FS becomes Dirty. -/
def setF (c : Core) (r v : Nat) : Core := { c with f := SMap.put 0 c.f r (v % 2 ^ 64), fs := 3 }

/-- A floating operand in its format. -/
def opF (c : Core) (d : Bool) (r : Nat) : Nat := if d then c.getF r else unbox (c.getF r)

/-- A floating result of its format. -/
def resF (c : Core) (d : Bool) (r v : Nat) : Core := c.setF r (if d then v else box v)

/-- Accrues floating flags; FS becomes Dirty when any is set. -/
def flags (c : Core) (fl : Nat) : Core := if fl = 0 then c else { c with fflags := c.fflags ||| fl, fs := 3 }

/-- Sets sticky bits of yxstat (R164). -/
def sticky (c : Core) (bitNo : Nat) (b : Bool) : Core :=
  if b then { c with yxstat := c.yxstat ||| (1 <<< bitNo) } else c

/-- Privilege of data accesses: M mode. -/
def dataM (c : Core) : Bool := if c.mmode && c.mprv then c.mppM else c.mmode

/-- The rounding mode of an rm field, dynamic included. -/
def rounding (c : Core) (rm : Nat) : Option Rm := if rm = 7 then rmOf c.frm else rmOf rm

/-! ### PMP (R145) -/

/-- The bytes a PMP region covers: first and one past the last. -/
def pmpSpan (c : Core) (i : Nat) : Nat × Nat :=
  let a := SMap.get 0 c.pmpaddr i
  match field (SMap.get 0 c.pmpcfg i) 3 2 with
  | 1 => (if i = 0 then 0 else 4 * SMap.get 0 c.pmpaddr (i - 1), 4 * a)
  | 2 => (4 * a, 4 * a + 4)
  | 3 =>
    let t := ((List.range 32).find? fun k => !bit a k).getD 32
    let base := a / 2 ^ (t + 1) * 2 ^ (t + 1)
    (4 * base, 4 * base + 2 ^ (t + 3))
  | _ => (0, 0)

/-- Whether a PMP region matches a byte of an access of `n` bytes; an empty one matches none. -/
def pmpMeets (c : Core) (a n i : Nat) : Bool :=
  decide (max a (c.pmpSpan i).1 < min (a + n) (c.pmpSpan i).2)

/-- Whether the PMP allows an access of `n` bytes; `perm` is the bit of the configuration byte: 0 R, 1 W, 2 X. -/
def pmpAllows (c : Core) (m : Bool) (perm a n : Nat) : Bool :=
  match (List.range 16).find? (c.pmpMeets a n) with
  | none => m
  | some i =>
    let cfg := SMap.get 0 c.pmpcfg i
    decide ((c.pmpSpan i).1 ≤ a) && decide (a + n ≤ (c.pmpSpan i).2) && ((m && !bit cfg 7) || bit cfg perm)

/-- Writes a PMP configuration byte; a locked one stays. -/
def setPmpcfg (c : Core) (i v : Nat) : Core :=
  if bit (SMap.get 0 c.pmpcfg i) 7 then c else { c with pmpcfg := SMap.put 0 c.pmpcfg i (v &&& 0x9F) }

/-- Writes a PMP address; a locked region, or one below a locked TOR region, stays. -/
def setPmpaddr (c : Core) (i v : Nat) : Core :=
  let nxt := SMap.get 0 c.pmpcfg (i + 1)
  if bit (SMap.get 0 c.pmpcfg i) 7 || (bit nxt 7 && field nxt 3 2 == 1) then c
  else { c with pmpaddr := SMap.put 0 c.pmpaddr i v }

end Core

/-! ### CSRs (R141, R143, R164) -/

/-- mstatus as read. -/
def mstatusOf (c : Core) : Nat :=
  8 * ofBool c.mie + 128 * ofBool c.mpie + 0x1800 * ofBool c.mppM + 0x2000 * c.fs + 0x20000 * ofBool c.mprv +
    (if c.fs = 3 then 2 ^ 31 else 0)

/-- Global time at a core's own cycle. -/
def coreTime (s : State) (die n : Nat) : Nat := s.time + 5 * (s.coreClock die n - s.cycle)

/-- A counter CSR below 0xC20 or 0xC9F by its index and half. -/
def counterCsr (s : State) (die n k : Nat) (high : Bool) : Nat :=
  let c := s.core die n
  let v := match k with
    | 0 => (s.coreClock die n + c.cycleOff) % 2 ^ 64
    | 1 => coreTime s die n
    | 2 => c.instret
    | _ => 0
  if high then v / 2 ^ 32 % 2 ^ 32 else v % 2 ^ 32

/-- The value of a CSR, `none` where there is none or the mode may not read it. -/
def csrRead (s : State) (die n num : Nat) : Option Nat :=
  let c := s.core die n
  let m (v : Nat) : Option Nat := if c.mmode then some v else none
  let counter (k : Nat) (high : Bool) : Option Nat :=
    if c.mmode || bit c.mcounteren k then some (counterCsr s die n k high) else none
  if 0xC00 ≤ num ∧ num ≤ 0xC1F then counter (num - 0xC00) false
  else if 0xC80 ≤ num ∧ num ≤ 0xC9F then counter (num - 0xC80) true
  else if 0xB00 ≤ num ∧ num ≤ 0xB1F ∧ num ≠ 0xB01 then m (counterCsr s die n (num - 0xB00) false)
  else if 0xB80 ≤ num ∧ num ≤ 0xB9F ∧ num ≠ 0xB81 then m (counterCsr s die n (num - 0xB80) true)
  else if 0x323 ≤ num ∧ num ≤ 0x33F then m 0
  else if 0x3A0 ≤ num ∧ num ≤ 0x3A3 then
    m ((List.range 4).foldl (fun v i => v + SMap.get 0 c.pmpcfg (4 * (num - 0x3A0) + i) * 2 ^ (8 * i)) 0)
  else if 0x3B0 ≤ num ∧ num ≤ 0x3BF then m (SMap.get 0 c.pmpaddr (num - 0x3B0))
  else match num with
    | 0x001 => if c.fs = 0 then none else some c.fflags
    | 0x002 => if c.fs = 0 then none else some c.frm
    | 0x003 => if c.fs = 0 then none else some (c.fflags + 32 * c.frm)
    | 0x300 => m (mstatusOf c)
    | 0x301 => m 0x40901129
    | 0x304 => m c.mieReg
    | 0x305 => m c.mtvec
    | 0x306 => m c.mcounteren
    | 0x340 => m c.mscratch
    | 0x341 => m c.mepc
    | 0x342 => m c.mcause
    | 0x343 => m c.mtval
    | 0x344 => m (2048 * ofBool (!(s.routerReady die n).isEmpty && decide (s.coreThreshold die n < 8)))
    | 0xF11 | 0xF12 => m 0
    | 0xF13 => m (Config.blockRevision die (0x0E + n) % 65536)
    | 0xF14 => m (die * 4 + n)
    | 0x800 => some c.yxstat
    | 0xCC0 => some (c.slotTask + 64 * c.slotRow + 2 ^ 15 * ofBool (s.coreInSlot die n) + 2 ^ 16 * ofBool c.cut +
        2 ^ 17 * ofBool c.eventRow)
    | 0xCC1 => some (s.frameNo % 2 ^ 32)
    | 0xCC2 => some c.yqtag
    | 0x7C0 => m c.yirqthr
    | 0x7C1 => m c.yspc
    | 0x7C2 => m (ofBool c.ysValid + 2 * ofBool c.ysPrivM + 4 * ofBool c.ysMie)
    | 0xFC0 => m (match s.routerBest die n with
        | some k => if s.coreThreshold die n < 8 && s.coreTakes die n then k + 64 * s.routerLevel die n k + 2 ^ 31 else 0
        | none => 0)
    | _ => none

/-- What a CSR write does to the core; `clock` is the cycle in which the instruction retires. -/
def csrWrite (c : Core) (clock num v : Nat) : Core :=
  let half (old : Nat) (high : Bool) : Nat :=
    if high then old % 2 ^ 32 + v * 2 ^ 32 else old / 2 ^ 32 * 2 ^ 32 + v
  let cyc := (clock + c.cycleOff) % 2 ^ 64
  if 0x3A0 ≤ num ∧ num ≤ 0x3A3 then
    (List.range 4).foldl (fun c i => c.setPmpcfg (4 * (num - 0x3A0) + i) (field v (8 * i) 8)) c
  else if 0x3B0 ≤ num ∧ num ≤ 0x3BF then c.setPmpaddr (num - 0x3B0) v
  else match num with
    | 0x001 => { c with fflags := v % 32, fs := 3 }
    | 0x002 => { c with frm := v % 8, fs := 3 }
    | 0x003 => { c with fflags := v % 32, frm := v / 32 % 8, fs := 3 }
    | 0x300 => { c with mie := bit v 3, mpie := bit v 7, mppM := field v 11 2 == 3, fs := field v 13 2, mprv := bit v 17 }
    | 0x304 => { c with mieReg := v &&& 0x888 }
    | 0x305 => { c with mtvec := minus 32 v 2 }
    | 0x306 => { c with mcounteren := v }
    | 0x340 => { c with mscratch := v }
    | 0x341 => { c with mepc := v / 4 * 4 }
    | 0x342 => { c with mcause := v }
    | 0x343 => { c with mtval := v }
    | 0x800 => { c with yxstat := v % 16 }
    | 0x7C0 => { c with yirqthr := min (v % 16) 8 }
    | 0x7C1 => { c with yspc := v }
    | 0x7C2 => { c with ysValid := bit v 0, ysPrivM := bit v 1, ysMie := bit v 2 }
    | 0xB00 => { c with cycleOff := (half cyc false + 2 ^ 64 - clock % 2 ^ 64) % 2 ^ 64 }
    | 0xB80 => { c with cycleOff := (half cyc true + 2 ^ 64 - clock % 2 ^ 64) % 2 ^ 64 }
    | 0xB02 => { c with instret := (half c.instret false + 2 ^ 64 - 1) % 2 ^ 64 }
    | 0xB82 => { c with instret := (half c.instret true + 2 ^ 64 - 1) % 2 ^ 64 }
    | _ => c

/-! ### How an instruction ends -/

/-- The rows of the opcode table that instructions belong to. -/
inductive CoreRow where
  | standard | mret | bext | bdep | bsetm | bclrm | brise | bfall | bedge | budgetRd | slotend | qput | qget
  | tokenAcq | tokenRel | sadd | ssub | saddu | ssubu | scaleS | limitW | limitS | limitD
  deriving DecidableEq, Repr

/-- The row of an instruction. -/
def CoreOp.row : CoreOp → CoreRow
  | .mret => .mret
  | .bext _ _ _ => .bext
  | .bdep _ _ _ => .bdep
  | .bmask clear _ _ _ => if clear then .bclrm else .bsetm
  | .bedge op _ _ _ => match op with | .rise => .brise | .fall => .bfall | .edge => .bedge
  | .budgetRd _ => .budgetRd
  | .slotend => .slotend
  | .qput _ _ _ => .qput
  | .qget _ _ => .qget
  | .tokenAcq _ _ => .tokenAcq
  | .tokenRel _ _ => .tokenRel
  | .sat op _ _ _ => match op with | .sadd => .sadd | .ssub => .ssub | .saddu => .saddu | .ssubu => .ssubu
  | .scaleS _ _ _ => .scaleS
  | .limitW _ _ _ _ => .limitW
  | .limitF d _ _ _ _ => if d then .limitD else .limitS
  | _ => .standard

/-- How an instruction ends. -/
inductive CoreOut where
  /-- It retires: the state beside the core, its cycle count (`none`: a Junction access, not fixed, R148), and what it
  does to the core, the pc included. -/
  | done (st : State) (cost : Option Nat) (upd : Core → Core)
  /-- It raises an exception. -/
  | trap (st : State) (cause tval : Nat)
  /-- Its access is held at a bank fence (R90). -/
  | wait (st : State)

/-- The next instruction in order. -/
def Core.seq (c : Core) : Core := { c with pc := (c.pc + 4) % 2 ^ 32 }

/-- The class of an access and its count (R148, R152): loads, then stores; `none` for the Junction class. -/
def accessCost (n a : Nat) (isStore : Bool) : Option Nat :=
  if a < 0x1000000 then
    if a < 0x400000 ∧ a / 0x100000 = n then some (if isStore then 1 else 2)
    else if 0x800000 ≤ a then some (if isStore then 1 else 2)
    else some (if isStore then 2 else 4)
  else none

/-- Who a core is on the bus. -/
def coreWho (s : State) (die n : Nat) : Who := ⟨die * 32 + n, !(s.core die n).dataM⟩

/-- A load of a core; `k` takes the data. -/
def coreLoad (s : State) (die n a size : Nat) (k : State → Nat → CoreOut) : CoreOut :=
  let c := s.core die n
  if a % size ≠ 0 then .trap s 4 a
  else if !c.pmpAllows c.dataM 0 a size then .trap s 5 a
  else match s.busRead (coreWho s die n) a size with
    | (t, .ok v) => k t v
    | (t, .fault) => .trap (if viaJunction a then t.noteRequest (die * 32 + n) (locate s (die * 32 + n) a).die else t) 5 a
    | (t, .held) => .wait t

/-- A store of a core. -/
def coreStore (s : State) (die n a size v : Nat) (k : State → CoreOut) : CoreOut :=
  let c := s.core die n
  if a % size ≠ 0 then .trap s 6 a
  else if !c.pmpAllows c.dataM 1 a size then .trap s 7 a
  else match s.busWrite (coreWho s die n) a size v with
    | (t, .ok _) => k t
    | (t, .fault) => .trap (if viaJunction a then t.noteRequest (die * 32 + n) (locate s (die * 32 + n) a).die else t) 7 a
    | (t, .held) => .wait t

/-- An illegal instruction. -/
def coreIllegal (s : State) (word : Nat) : CoreOut := .trap s 2 (if Config.illegalTval then word else 0)

/-! ### Bit references (R158) -/

/-- A bit reference taken apart; `none` where R158 gives an access fault. -/
def refOf (base off : Nat) : Option (Nat × Nat × Nat) :=
  let r := (base + off) % 2 ^ 32
  let sp := field r 20 3
  if r / 2 ^ 23 = 0 ∧ sp = field base 20 3 ∧ field r 6 14 < spaceWords sp then some (sp, field r 6 14, field r 0 6)
  else none

/-- The own-die address of a bit-store word. -/
def bitOwn (sp w : Nat) : Nat := 0x800000 + sp * 0x20000 + w * 8

/-- Reads the word of a reference for a core (R145, R146, R339).  A read-modify-write of the bit store (R150) is checked for the
permission of its store alone (DESIGN CHOICE: R145 does not say which permissions it needs, log entry 31). -/
def coreBits (s : State) (die n cause : Nat) (r : Option (Nat × Nat × Nat))
    (k : State → Nat → Nat → Nat → Nat → CoreOut) : CoreOut :=
  let c := s.core die n
  match r with
  | none => let (v, t) := s.drawFree; .trap t cause (Config.freeValue v % 2 ^ 32)
  | some (sp, w, lane) =>
    let a := bitOwn sp w
    if !c.pmpAllows c.dataM (if cause = 5 then 0 else 1) a 8 then .trap s cause a
    else match s.readOwn (die * 32 + n) die a 8 false with
      | (t, .ok v) => k t sp w lane v
      | (t, _) => .trap t cause a

/-- Writes a word of the bit store for a core. -/
def coreBitsStore (s : State) (die n sp w v : Nat) (k : State → CoreOut) : CoreOut :=
  match s.writeOwn (coreWho s die n) die (bitOwn sp w) 8 v with
  | (t, .ok _) => k t
  | (t, _) => .trap t 7 (bitOwn sp w)

/-! ### Floating point -/

/-- Runs a floating instruction when FS allows it (R142). -/
def whenFs (s : State) (die n word : Nat) (k : State → CoreOut) : CoreOut :=
  if (s.core die n).fs = 0 then coreIllegal s word else k s

/-- Runs a floating instruction with its rounding mode. -/
def withRm (s : State) (die n word rm : Nat) (k : State → Rm → CoreOut) : CoreOut :=
  whenFs s die n word fun s => match (s.core die n).rounding rm with
    | some r => k s r
    | none => coreIllegal s word

/-! ### Instructions -/

/-- A jump: misaligned targets raise the instruction-address-misaligned exception. -/
def coreJump (s : State) (target : Nat) (cost : Nat) (upd : Core → Core) : CoreOut :=
  if target % 4 ≠ 0 then .trap s 0 target else .done s (some cost) fun c => { upd c with pc := target }

/-- A CSR instruction (R164). -/
def coreCsr (s : State) (die n word f3 rd rs1 num : Nat) : CoreOut :=
  let c := s.core die n
  let src := if 4 ≤ f3 then rs1 else c.getX rs1
  let writes := f3 % 4 == 1 || rs1 != 0
  match csrRead s die n num with
  | none => coreIllegal s word
  | some old =>
    if writes && num / 1024 == 3 then coreIllegal s word
    else
      let v := match f3 % 4 with
        | 1 => src
        | 2 => old ||| src
        | _ => minus 32 old src
      let clock := s.coreClock die n + 1
      .done s (some 1) fun c => ((if writes then csrWrite c clock num v else c).setX rd old).seq

/-- An atomic instruction (R140, R152): own bank only, and a store access fault elsewhere; LR.W is a load, the others are
stores. -/
def coreAmo (s : State) (die n a : Nat) (lr : Bool) (k : State → Nat → CoreOut) : CoreOut :=
  if a % 4 ≠ 0 then .trap s (if lr then 4 else 6) a
  else if a / 0x100000 ≠ n then .trap s 7 a
  else match coreLoad s die n a 4 k with
    | .trap t 5 tv => .trap t (if lr then 5 else 7) tv
    | r => r

/-- The instruction's own effect (R152, R160). -/
def coreExec (s : State) (die n word : Nat) (op : CoreOp) : CoreOut :=
  let c := s.core die n
  let x := c.getX
  match op with
  | .lui rd imm => .done s (some 1) fun c => (c.setX rd imm).seq
  | .auipc rd imm => .done s (some 1) fun c => (c.setX rd (c.pc + imm)).seq
  | .jal rd imm => coreJump s ((c.pc + imm) % 2 ^ 32) 2 fun c => c.setX rd (c.pc + 4)
  | .jalr rd rs1 imm => coreJump s ((x rs1 + imm) % 2 ^ 32 / 2 * 2) 2 fun c => c.setX rd (c.pc + 4)
  | .branch op rs1 rs2 imm =>
    if brTaken op (x rs1) (x rs2) then coreJump s ((c.pc + imm) % 2 ^ 32) 2 id else .done s (some 1) Core.seq
  | .load size uns rd rs1 imm =>
    let a := (x rs1 + imm) % 2 ^ 32
    coreLoad s die n a size fun t v => .done t (accessCost n a false) fun c =>
      (c.setX rd (if uns then v else sext (8 * size) v)).seq
  | .store size rs1 rs2 imm =>
    let a := (x rs1 + imm) % 2 ^ 32
    coreStore s die n a size (x rs2 % 2 ^ (8 * size)) fun t => .done t (accessCost n a true) Core.seq
  | .aluImm op rd rs1 imm => .done s (some 1) fun c => (c.setX rd (aluResult op (x rs1) imm)).seq
  | .alu op rd rs1 rs2 => .done s (some (aluCost op)) fun c => (c.setX rd (aluResult op (x rs1) (x rs2))).seq
  | .unary op rd rs1 => .done s (some 1) fun c => (c.setX rd (unResult op (x rs1))).seq
  | .fence => .done s (some 1) Core.seq
  | .fenceI => .done s (some 5) Core.seq
  | .ecall => .trap s (if c.mmode then 11 else 8) 0
  | .ebreak => .trap s 3 (if Config.breakTval then c.pc else 0)
  | .wfi => if c.mmode then .done s (some 1) Core.seq else coreIllegal s word
  | .mret =>
    if c.mmode then .done s (some 4) fun c =>
      { c with pc := c.mepc, mmode := c.mppM, mie := c.mpie, mpie := true, mppM := false
               mprv := c.mprv && c.mppM }
    else coreIllegal s word
  | .csr f3 rd rs1 num => coreCsr s die n word f3 rd rs1 num
  | .lr rd rs1 =>
    coreAmo s die n (x rs1) true fun t v => .done t (some 2) fun c =>
      ({ c with reserved := some (x rs1) }.setX rd v).seq
  | .sc rd rs1 rs2 =>
    coreAmo s die n (x rs1) false fun t _ =>
      if c.reserved = some (x rs1) then coreStore t die n (x rs1) 4 (x rs2) fun t => .done t (some 2) fun c =>
        ({ c with reserved := none }.setX rd 0).seq
      else .done t (some 2) fun c => ({ c with reserved := none }.setX rd 1).seq
  | .amo op rd rs1 rs2 =>
    coreAmo s die n (x rs1) false fun t v =>
      coreStore t die n (x rs1) 4 (amoResult op v (x rs2)) fun t => .done t (some 3) fun c => (c.setX rd v).seq
  | .fload d rd rs1 imm =>
    let a := (x rs1 + imm) % 2 ^ 32
    whenFs s die n word (fun s => coreLoad s die n a (if d then 8 else 4) fun t v =>
      .done t (accessCost n a false) fun c => (c.resF d rd v).seq)
  | .fstore d rs1 rs2 imm =>
    let a := (x rs1 + imm) % 2 ^ 32
    whenFs s die n word (fun s => coreStore s die n a (if d then 8 else 4) (c.getF rs2 % 2 ^ (if d then 64 else 32)) fun t =>
      .done t (accessCost n a true) Core.seq)
  | .fma d np na rd rs1 rs2 rs3 rm =>
    withRm s die n word rm fun s r =>
      let f := fmtOf d
      let y := fmaNum f r ((unpack f (c.opF d rs1)).flip np) (unpack f (c.opF d rs2)) ((unpack f (c.opF d rs3)).flip na)
      .done s (some 4) fun c => ((c.resF d rd y.1).flags y.2).seq
  | .fp d op rd rs1 rs2 rm =>
    withRm s die n word rm fun s r =>
      let f := fmtOf d
      let a := unpack f (c.opF d rs1)
      let b := unpack f (c.opF d rs2)
      let y := match op with
        | .add => addNum f r a b
        | .sub => addNum f r a (b.flip true)
        | .mul => mulNum f r a b
        | .div => divNum f r a b
      .done s (some (if op = .div then (if d then 28 else 16) else 3)) fun c => ((c.resF d rd y.1).flags y.2).seq
  | .fsqrt d rd rs1 rm =>
    withRm s die n word rm fun s r =>
      let y := sqrtNum (fmtOf d) r (unpack (fmtOf d) (c.opF d rs1))
      .done s (some (if d then 28 else 16)) fun c => ((c.resF d rd y.1).flags y.2).seq
  | .fs d op rd rs1 rs2 =>
    let f := fmtOf d
    let a := c.opF d rs1
    let b := c.opF d rs2
    let sgn := 2 ^ (f.width - 1)
    let y : Nat × Nat := match op with
      | .sgnj => (a % sgn + b / sgn * sgn, 0)
      | .sgnjn => (a % sgn + (1 - b / sgn) * sgn, 0)
      | .sgnjx => (a % sgn + (a / sgn + b / sgn) % 2 * sgn, 0)
      | .min => minMax f true a b
      | .max => minMax f false a b
    whenFs s die n word (fun s => .done s (some 1) fun c => ((c.resF d rd y.1).flags y.2).seq)
  | .fcmp d op rd rs1 rs2 =>
    let a := unpack (fmtOf d) (c.opF d rs1)
    let b := unpack (fmtOf d) (c.opF d rs2)
    let v := match op with
      | .eq => eqNum a b
      | .lt => lessNum a b
      | .le => lessNum a b || eqNum a b
    let fl := if op = .eq then snan a ||| snan b else if a.isNan || b.isNan then NV else 0
    whenFs s die n word (fun s => .done s (some 2) fun c => ((c.setX rd (ofBool v)).flags fl).seq)
  | .fclass d rd rs1 =>
    whenFs s die n word (fun s => .done s (some 1) fun c => (c.setX rd (Float.fclass (fmtOf d) (c.opF d rs1))).seq)
  | .fcvtToInt d sg rd rs1 rm =>
    withRm s die n word rm fun s r =>
      let y := toIntWord r sg (unpack (fmtOf d) (c.opF d rs1))
      .done s (some 3) fun c => ((c.setX rd y.1).flags y.2).seq
  | .fcvtFromInt d sg rd rs1 rm =>
    withRm s die n word rm fun s r =>
      let y := convert (fmtOf d) r (ofInteger (if sg then toInt 32 (x rs1) else (x rs1 : Int)))
      .done s (some 3) fun c => ((c.resF d rd y.1).flags y.2).seq
  | .fcvtFmt toD rd rs1 rm =>
    withRm s die n word rm fun s r =>
      let y := convert (fmtOf toD) r (unpack (fmtOf !toD) (c.opF (!toD) rs1))
      .done s (some 3) fun c => ((c.resF toD rd y.1).flags y.2).seq
  | .fmvXW rd rs1 => whenFs s die n word (fun s => .done s (some 1) fun c => (c.setX rd (c.getF rs1)).seq)
  | .fmvWX rd rs1 => whenFs s die n word (fun s => .done s (some 1) fun c => (c.setF rd (box (x rs1))).seq)
  | .bext rd rs1 imm =>
    coreBits s die n 5 (refOf (x rs1) imm) fun t _ _ lane v =>
      .done t (some 2) fun c => (c.setX rd (ofBool (bit v lane))).seq
  | .bdep rs1 rs2 imm =>
    coreBits s die n 7 (refOf (x rs1) imm) fun t sp w lane v =>
      coreBitsStore t die n sp w (setBit v lane (bit (x rs2) 0)) fun t => .done t (some 1) Core.seq
  | .bmask clear rd rs1 rs2 =>
    match refOf (x rs1) 0 with
    | some (sp, w, lane) =>
      if lane % 32 ≠ 0 then .trap s 6 (bitOwn sp w)
      else coreBits s die n 7 (some (sp, w, lane)) fun t sp w lane v =>
        let old := field v lane 32
        let new := if clear then minus 32 old (x rs2) else old ||| x rs2
        coreBitsStore t die n sp w (setField v lane 32 new) fun t => .done t (some 2) fun c => (c.setX rd old).seq
    | none => coreBits s die n 7 none fun t _ _ _ _ => .wait t
  | .bedge op rd rs1 rs2 =>
    coreBits s die n 5 (refOf (x rs1) 0) fun t sp w lane v =>
      let now := bit v lane
      if rs2 = 0 then
        if sp ≠ 0 then .trap t 5 (bitOwn sp w)
        else coreBits t die n 5 (some (3, w, lane)) fun t _ _ _ p =>
          .done t (some 2) fun c => (c.setX rd (ofBool (edgeResult op now (bit p lane)))).seq
      else
        coreBits t die n 7 (refOf (x rs2) 0) fun t sp2 w2 lane2 p =>
          coreBitsStore t die n sp2 w2 (setBit p lane2 now) fun t => .done t (some 2) fun c =>
            (c.setX rd (ofBool (edgeResult op now (bit p lane2)))).seq
  | .budgetRd rd =>
    let left := if s.coreInSlot die n then match s.slot? die (n + 1) with
      | some y => y.length - y.used
      | none => 0
      else 0
    .done s (some 1) fun c => (c.setX rd left).seq
  | .slotend =>
    if c.mmode || s.on die (Reg.COREn_SLOTCFG_USLOT.p n) then .done s (some 1) id else coreIllegal s word
  | .qput rd rs1 rs2 =>
    let q := field (x rs1) 0 4
    if !c.mmode && !bit (s.rd die (Reg.COREn_QPERM_PUT.p n)) q then coreIllegal s word
    else
      let name := field (x rs1) 4 3
      let r := if field (x rs1) 7 9 ≠ 0 ∨ name = 1 then (s, 3)
        else s.putEntry (die * 32 + n) (s.destDie (die * 32 + n) name) q (field (x rs1) 16 16) (x rs2)
      .done r.1 (some 2) fun c => (c.setX rd r.2).seq
  | .qget rd rs1 =>
    let q := field (x rs1) 0 4
    if !c.mmode && !bit (s.rd die (Reg.COREn_QPERM_GET.p n)) q then coreIllegal s word
    else
      let r := s.popQueue die q
      .done r.1 (some 2) fun c =>
        ({ c with yqtag := (r.2.map QEntry.hi).getD 0 }.setX rd ((r.2.map QEntry.lo).getD 0)).seq
  | .tokenAcq rd rs1 =>
    if !c.mmode && !s.on die (Reg.COREn_SLOTCFG_UTOKEN.p n) then coreIllegal s word
    else if x rs1 / 64 ≠ 0 then .done s (some 1) fun c => (c.setX rd 5).seq
    else
      let r := if s.fenced die then (s.noteAborted (die * 32 + n) (regAddr 0 0x09 0x100), 5)
        else s.acquireToken (die * 32 + n) (x rs1)
      .done r.1 none fun c => (c.setX rd r.2).seq
  | .tokenRel rd rs1 =>
    if !c.mmode && !s.on die (Reg.COREn_SLOTCFG_UTOKEN.p n) then coreIllegal s word
    else if x rs1 / 64 ≠ 0 then .done s (some 1) fun c => (c.setX rd 5).seq
    else
      let r := if s.fenced die then (s.noteAborted (die * 32 + n) (regAddr 0 0x09 0x104), 5)
        else s.releaseToken (die * 32 + n) (x rs1)
      .done r.1 none fun c => (c.setX rd r.2).seq
  | .sat op rd rs1 rs2 =>
    let r := satResult op (x rs1) (x rs2)
    .done s (some 1) fun c => ((c.setX rd r.1).sticky 0 r.2).seq
  | .scaleS rd rs1 rs2 =>
    let a := x rs2
    withRm s die n word 7 fun s r =>
      if a % 16 ≠ 0 then .trap s 4 a
      else if a / 0x100000 ≠ n then .trap s 5 a
      else coreLoad s die n a 4 fun t lo => coreLoad t die n (a + 4) 4 fun t hi =>
        coreLoad t die n (a + 8) 4 fun t gain => coreLoad t die n (a + 12) 4 fun t offset =>
          let raw := toInt 32 (x rs1)
          let y := min (max raw (toInt 32 lo)) (toInt 32 hi)
          let v := scale r gain offset (y - toInt 32 lo)
          .done t (some 6) fun c => (((c.resF false rd v.1).flags v.2).sticky 1 (decide (y ≠ raw))).seq
  | .limitW rd rs1 rs2 rs3 =>
    let v := min (max (toInt 32 (x rs1)) (toInt 32 (x rs2))) (toInt 32 (x rs3))
    .done s (some 1) fun c => ((c.setX rd (ofInt 32 v)).sticky 2 (decide (v ≠ toInt 32 (x rs1)))).seq
  | .limitF d rd rs1 rs2 rs3 =>
    let f := fmtOf d
    let a := c.opF d rs1
    let lo := c.opF d rs2
    let hi := c.opF d rs3
    let nan1 := (unpack f a).isNan
    let open_ := !nan1 && ((unpack f lo).isNan || (unpack f hi).isNan)
    whenFs s die n word fun s =>
      let (k, t) := if open_ then s.drawFree else (0, s)
      let v := if open_ then Config.freeValue k % 2 ^ f.width else Float.limit f a lo hi
      .done t (some 2) fun c => (((c.resF d rd v).sticky 2 (v != a)).sticky 3 nan1).seq

/-! ### Running a core -/

/-- Whether a core issues instructions (R157, R166, R168, R169). -/
def coreRuns (s : State) (die n : Nat) : Bool :=
  isScan die && decide (n < 4) && s.powered die && !s.coreHeld die n && !(s.core die n).halted && !(s.core die n).idle &&
    !s.coreStill die n

/-- Fetches and executes the instruction at a core's pc, up to its end; `none` for a word that decodes to nothing. -/
def coreOut (s : State) (die n : Nat) : Option CoreOp × CoreOut :=
  let c := s.core die n
  if !c.pmpAllows c.mmode 2 c.pc 4 then (none, .trap s 1 c.pc)
  else match s.memRead (die * 32 + n) c.pc 4 with
    | (t, .fault) => (none, .trap t 1 c.pc)
    | (t, .held) => (none, .wait t)
    | (t, .ok word) =>
      match decodeCore word with
      | none => (none, coreIllegal t word)
      | some op => (some op, coreExec t die n word op)

/-- The data address of a load or store. -/
def CoreOp.address (c : Core) : CoreOp → Option Nat
  | .load _ _ _ rs1 imm | .fload _ _ rs1 imm | .store _ rs1 _ imm | .fstore _ rs1 _ imm => some ((c.getX rs1 + imm) % 2 ^ 32)
  | _ => none

/-- The die that a Junction access of an instruction goes to; Tokens are on the Keeper. -/
def junctionTarget (s : State) (die n : Nat) (op : CoreOp) : Nat :=
  match op.address (s.core die n) with
  | some a => (locate s (die * 32 + n) a).die
  | none => 0

/-- Whether an instruction is an Xyi write to the bit store. -/
def CoreOp.writesBits : CoreOp → Bool
  | .bdep _ _ _ | .bmask _ _ _ _ => true
  | .bedge _ _ _ rs2 => rs2 != 0
  | _ => false

/-- The cycles of an instruction of `k` cycles with the stall of R93: an Xyi write while a Signal Box row of the die runs may
meet a write of the Signal Box in its cycle; whether it does is open (log entry 24). -/
def coreCollide (s : State) (die k : Nat) (op : CoreOp) : State × Nat :=
  if op.writesBits && s.rowRunning die 0 then
    let (v, s) := s.drawFree
    if Config.freeValue v % 2 = 1 then (s.inc die Reg.BUDGET_STALLS_COUNT, k + 1) else (s, k)
  else (s, k)

/-- Retires an instruction of `k` cycles. -/
def coreRetire (s : State) (die n k : Nat) (slotend : Bool) (upd : Core → Core) : State :=
  let s := s.coreSpend die n k
  let c := s.core die n
  let s := s.setCore die n { upd c with lastPc := c.pc, instret := ((upd c).instret + 1) % 2 ^ 64 }
  if slotend then s.slotEnd die n else s

/-- Ends a core's slot time without retiring: a Junction request has left, and its reply comes too late (R149). -/
def coreLate (s : State) (die n : Nat) : State :=
  match s.slot? die (n + 1) with
  | some x => s.setSlot die (n + 1) { x with used := x.length }
  | none => s

/-- The instruction at a core's pc retires, if it is of a row in `rows` and its cycles fit the slot (R85, R149). -/
def coreInstr (rows : CoreRow) (die n : Nat) (s : State) : State :=
  if coreRuns s die n then
    match coreOut s die n with
    | (some op, .done t cost upd) =>
      if op.row = rows then
        match cost with
        | some k =>
          let (t, k) := coreCollide t die k op
          if s.coreFits die n k then coreRetire t die n k (op == .slotend) upd else s
        | none =>
          let (v, t) := t.drawFree
          let least := State.traversal (junctionTarget s die n op)
          let k := least + Config.freeValue v % (2049 - least)
          let t := t.noteLatency (die * 32 + n) k
          if s.coreFits die n k then coreRetire t die n k false upd else coreLate t die n
      else s
    | (some op, .wait t) => if op.row = rows then t else s
    | (none, .wait t) => if rows = .standard then t else s
    | _ => s
  else s

/-! ### Commands -/

/-- RISCV_INSTRUCTION (R140, R152). -/
def execRiscvInstruction (die core : Nat) (s : State) : Result := .next (coreInstr .standard die core s)

/-- TRAP_ENTRY (R152): the instruction at the core's pc raises an exception. -/
def execTrapEntry (die core : Nat) (s : State) : Result :=
  .next (if coreRuns s die core then
    match coreOut s die core with
    | (_, .trap t cause tval) =>
      if s.coreFits die core 12 then
        t.enterTrap die core cause tval (s.core die core).pc (s.core die core).mmode
      else s
    | _ => s
  else s)

/-- MRET (R155). -/
def execMret (die core : Nat) (s : State) : Result := .next (coreInstr .mret die core s)

/-- BEXT (R160). -/
def execBext (die core : Nat) (s : State) : Result := .next (coreInstr .bext die core s)

/-- BDEP (R160). -/
def execBdep (die core : Nat) (s : State) : Result := .next (coreInstr .bdep die core s)

/-- BSETM (R160). -/
def execBsetm (die core : Nat) (s : State) : Result := .next (coreInstr .bsetm die core s)

/-- BCLRM (R160). -/
def execBclrm (die core : Nat) (s : State) : Result := .next (coreInstr .bclrm die core s)

/-- BRISE (R160). -/
def execBrise (die core : Nat) (s : State) : Result := .next (coreInstr .brise die core s)

/-- BFALL (R160). -/
def execBfall (die core : Nat) (s : State) : Result := .next (coreInstr .bfall die core s)

/-- BEDGE (R160). -/
def execBedge (die core : Nat) (s : State) : Result := .next (coreInstr .bedge die core s)

/-- BUDGET.RD (R160). -/
def execBudgetRd (die core : Nat) (s : State) : Result := .next (coreInstr .budgetRd die core s)

/-- SLOTEND (R154). -/
def execSlotend (die core : Nat) (s : State) : Result := .next (coreInstr .slotend die core s)

/-- QPUT (R162). -/
def execQput (die core : Nat) (s : State) : Result := .next (coreInstr .qput die core s)

/-- QGET (R162). -/
def execQget (die core : Nat) (s : State) : Result := .next (coreInstr .qget die core s)

/-- TOKEN.ACQ (R163). -/
def execTokenAcq (die core : Nat) (s : State) : Result := .next (coreInstr .tokenAcq die core s)

/-- TOKEN.REL (R163). -/
def execTokenRel (die core : Nat) (s : State) : Result := .next (coreInstr .tokenRel die core s)

/-- SADD (R160). -/
def execSadd (die core : Nat) (s : State) : Result := .next (coreInstr .sadd die core s)

/-- SSUB (R160). -/
def execSsub (die core : Nat) (s : State) : Result := .next (coreInstr .ssub die core s)

/-- SADDU (R160). -/
def execSaddu (die core : Nat) (s : State) : Result := .next (coreInstr .saddu die core s)

/-- SSUBU (R160). -/
def execSsubu (die core : Nat) (s : State) : Result := .next (coreInstr .ssubu die core s)

/-- SCALE.S (R161). -/
def execScaleS (die core : Nat) (s : State) : Result := .next (coreInstr .scaleS die core s)

/-- LIMIT.W (R160). -/
def execLimitW (die core : Nat) (s : State) : Result := .next (coreInstr .limitW die core s)

/-- LIMIT.S (R160). -/
def execLimitS (die core : Nat) (s : State) : Result := .next (coreInstr .limitS die core s)

/-- LIMIT.D (R160). -/
def execLimitD (die core : Nat) (s : State) : Result := .next (coreInstr .limitD die core s)

/-- DEBUG_SYSTEM_BUS_ACCESS (R169): as Keeper master 7; one of a size that sbcs does not report is refused at once with
sberror 4. -/
def execDebugSystemBusAccess (write : Bool) (addr size value : Nat) (s : State) : Result :=
  .next (if !s.on 0 Reg.DBG_CTL_JTAG_EN then s
    else
      let s := s.debugActive
      if s.sbaTakes size then { s with sberror := 0 }.busRequest ⟨7, false⟩ write addr size value
      else { s with sberror := 4 })

/-- JUNCTION_REQUEST_COMPLETE (R38): a master's access reaches its target and the reply returns. -/
def execJunctionRequestComplete (w : Who) (write : Bool) (addr size value : Nat) (s : State) : Result :=
  .next (s.busRequest w write addr size value)

end Sys2Proof.Machine
end

