-- ==== Sys2Proof/Machine/Dispatch.lean ====
section
/-! DEFINITION.  One arm per command, each one call of its meaning. -/

namespace Sys2Proof.Machine

def exec (i : Instr) (s : State) : Host.Outcome State Fault Refusal :=
  match i with
  | .registerWrite w die code off word => Sys2Proof.Machine.execRegisterWrite w die code off word s
  | .rcRead w die code off => Sys2Proof.Machine.execRcRead w die code off s
  | .keyWordWrite w die code word => Sys2Proof.Machine.execKeyWordWrite w die code word s
  | .armingExpiry die code => Sys2Proof.Machine.execArmingExpiry die code s
  | .lockGroupSet w die code word => Sys2Proof.Machine.execLockGroupSet w die code word s
  | .softReset w die code en => Sys2Proof.Machine.execSoftReset w die code en s
  | .softResetEnd die code => Sys2Proof.Machine.execSoftResetEnd die code s
  | .irqClear w die code word events => Sys2Proof.Machine.execIrqClear w die code word events s
  | .irqSet w die code word => Sys2Proof.Machine.execIrqSet w die code word s
  | .clampZero w die word => Sys2Proof.Machine.execClampZero w die word s
  | .fieldProxyWrite w code off word => Sys2Proof.Machine.execFieldProxyWrite w code off word s
  | .controlFrame => Sys2Proof.Machine.execControlFrame s
  | .statusFrame good r => Sys2Proof.Machine.execStatusFrame good r s
  | .fieldAbsent => Sys2Proof.Machine.execFieldAbsent s
  | .fieldPowerup mv => Sys2Proof.Machine.execFieldPowerup mv s
  | .proxyPushEnd => Sys2Proof.Machine.execProxyPushEnd s
  | .proxyPullEnd => Sys2Proof.Machine.execProxyPullEnd s
  | .tick => Sys2Proof.Machine.execTick s
  | .cutCopyEnd => Sys2Proof.Machine.execCutCopyEnd s
  | .spreadEnd die => Sys2Proof.Machine.execSpreadEnd die s
  | .spreadByDeadline => Sys2Proof.Machine.execSpreadByDeadline s
  | .ptpMasterLost => Sys2Proof.Machine.execPtpMasterLost s
  | .ptpMasterFound => Sys2Proof.Machine.execPtpMasterFound s
  | .rowStart die row => Sys2Proof.Machine.execRowStart die row s
  | .budgetExpiry die engine => Sys2Proof.Machine.execBudgetExpiry die engine s
  | .commitSample => Sys2Proof.Machine.execCommitSample s
  | .commitEnd => Sys2Proof.Machine.execCommitEnd s
  | .safeCopyEnd => Sys2Proof.Machine.execSafeCopyEnd s
  | .releaseBuildEnd => Sys2Proof.Machine.execReleaseBuildEnd s
  | .release => Sys2Proof.Machine.execRelease s
  | .outputFrameStart port => Sys2Proof.Machine.execOutputFrameStart port s
  | .marginClear w word => Sys2Proof.Machine.execMarginClear w word s
  | .ttblRowWrite w die word => Sys2Proof.Machine.execTtblRowWrite w die word s
  | .ttblPoints w die word => Sys2Proof.Machine.execTtblPoints w die word s
  | .ttblCancel w die => Sys2Proof.Machine.execTtblCancel w die s
  | .pointsCheckEnd die => Sys2Proof.Machine.execPointsCheckEnd die s
  | .tickPointsGo w dies => Sys2Proof.Machine.execTickPointsGo w dies s
  | .logicLever die => Sys2Proof.Machine.execLogicLever die s
  | .edgeLever die => Sys2Proof.Machine.execEdgeLever die s
  | .moveLever die => Sys2Proof.Machine.execMoveLever die s
  | .pack die => Sys2Proof.Machine.execPack die s
  | .unpack die => Sys2Proof.Machine.execUnpack die s
  | .skipz die => Sys2Proof.Machine.execSkipz die s
  | .skipnz die => Sys2Proof.Machine.execSkipnz die s
  | .tstart die => Sys2Proof.Machine.execTstart die s
  | .treset die => Sys2Proof.Machine.execTreset die s
  | .cup die => Sys2Proof.Machine.execCup die s
  | .cdn die => Sys2Proof.Machine.execCdn die s
  | .syncLever die => Sys2Proof.Machine.execSyncLever die s
  | .syncTimeout die => Sys2Proof.Machine.execSyncTimeout die s
  | .nopLever die => Sys2Proof.Machine.execNopLever die s
  | .endLever die => Sys2Proof.Machine.execEndLever die s
  | .illegalOp die => Sys2Proof.Machine.execIllegalOp die s
  | .advancePassEnd die stalls => Sys2Proof.Machine.execAdvancePassEnd die stalls s
  | .maskLowWrite w die entry word => Sys2Proof.Machine.execMaskLowWrite w die entry word s
  | .maskHighWrite w die entry word => Sys2Proof.Machine.execMaskHighWrite w die entry word s
  | .maskStore die => Sys2Proof.Machine.execMaskStore die s
  | .sboxFaultClear w die word => Sys2Proof.Machine.execSboxFaultClear w die word s
  | .timrClear w die word => Sys2Proof.Machine.execTimrClear w die word s
  | .timrConfigApply die => Sys2Proof.Machine.execTimrConfigApply die s
  | .watchClear w die word => Sys2Proof.Machine.execWatchClear w die word s
  | .riscvInstruction die core => Sys2Proof.Machine.execRiscvInstruction die core s
  | .trapEntry die core => Sys2Proof.Machine.execTrapEntry die core s
  | .mret die core => Sys2Proof.Machine.execMret die core s
  | .interruptTaken die core => Sys2Proof.Machine.execInterruptTaken die core s
  | .bext die core => Sys2Proof.Machine.execBext die core s
  | .bdep die core => Sys2Proof.Machine.execBdep die core s
  | .bsetm die core => Sys2Proof.Machine.execBsetm die core s
  | .bclrm die core => Sys2Proof.Machine.execBclrm die core s
  | .brise die core => Sys2Proof.Machine.execBrise die core s
  | .bfall die core => Sys2Proof.Machine.execBfall die core s
  | .bedge die core => Sys2Proof.Machine.execBedge die core s
  | .budgetRd die core => Sys2Proof.Machine.execBudgetRd die core s
  | .slotend die core => Sys2Proof.Machine.execSlotend die core s
  | .qput die core => Sys2Proof.Machine.execQput die core s
  | .qget die core => Sys2Proof.Machine.execQget die core s
  | .tokenAcq die core => Sys2Proof.Machine.execTokenAcq die core s
  | .tokenRel die core => Sys2Proof.Machine.execTokenRel die core s
  | .sadd die core => Sys2Proof.Machine.execSadd die core s
  | .ssub die core => Sys2Proof.Machine.execSsub die core s
  | .saddu die core => Sys2Proof.Machine.execSaddu die core s
  | .ssubu die core => Sys2Proof.Machine.execSsubu die core s
  | .scaleS die core => Sys2Proof.Machine.execScaleS die core s
  | .limitW die core => Sys2Proof.Machine.execLimitW die core s
  | .limitS die core => Sys2Proof.Machine.execLimitS die core s
  | .limitD die core => Sys2Proof.Machine.execLimitD die core s
  | .coreStart w die core word => Sys2Proof.Machine.execCoreStart w die core word s
  | .softSet w die core word => Sys2Proof.Machine.execSoftSet w die core word s
  | .routerClear w die core hi word => Sys2Proof.Machine.execRouterClear w die core hi word s
  | .debugHalt hart => Sys2Proof.Machine.execDebugHalt hart s
  | .debugSystemBusAccess write addr size value => Sys2Proof.Machine.execDebugSystemBusAccess write addr size value s
  | .junctionRequestComplete w write addr size value => Sys2Proof.Machine.execJunctionRequestComplete w write addr size value s
  | .junctionTimeout w addr => Sys2Proof.Machine.execJunctionTimeout w addr s
  | .modeStop w => Sys2Proof.Machine.execModeStop w s
  | .modeRun w start => Sys2Proof.Machine.execModeRun w start s
  | .modeHold w start => Sys2Proof.Machine.execModeHold w start s
  | .modeStep w => Sys2Proof.Machine.execModeStep w s
  | .startPreparationEnd => Sys2Proof.Machine.execStartPreparationEnd s
  | .powerupRunRequest => Sys2Proof.Machine.execPowerupRunRequest s
  | .powerFail => Sys2Proof.Machine.execPowerFail s
  | .retainedSaveEnd => Sys2Proof.Machine.execRetainedSaveEnd s
  | .runCounterSaveEnd => Sys2Proof.Machine.execRunCounterSaveEnd s
  | .powerReturn => Sys2Proof.Machine.execPowerReturn s
  | .safeImageLoad image => Sys2Proof.Machine.execSafeImageLoad image s
  | .safeImageLoaded => Sys2Proof.Machine.execSafeImageLoaded s
  | .programImageLoad directory image safe => Sys2Proof.Machine.execProgramImageLoad directory image safe s
  | .changeLoad => Sys2Proof.Machine.execChangeLoad s
  | .changeLoadEnd image => Sys2Proof.Machine.execChangeLoadEnd image s
  | .changeDiscard => Sys2Proof.Machine.execChangeDiscard s
  | .changeCommit => Sys2Proof.Machine.execChangeCommit s
  | .preSwitchCheckEnd result partner => Sys2Proof.Machine.execPreSwitchCheckEnd result partner s
  | .pointsInstant => Sys2Proof.Machine.execPointsInstant s
  | .carryStart => Sys2Proof.Machine.execCarryStart s
  | .carryEnd die => Sys2Proof.Machine.execCarryEnd die s
  | .carryDeadline => Sys2Proof.Machine.execCarryDeadline s
  | .changeRevert => Sys2Proof.Machine.execChangeRevert s
  | .retainedRecordWrite => Sys2Proof.Machine.execRetainedRecordWrite s
  | .xspiGo w word => Sys2Proof.Machine.execXspiGo w word s
  | .xspiDone data => Sys2Proof.Machine.execXspiDone data s
  | .xspiDqsTimeout => Sys2Proof.Machine.execXspiDqsTimeout s
  | .lineFrameReceive port stamp frame fcs => Sys2Proof.Machine.execLineFrameReceive port stamp frame fcs s
  | .inputFrame => Sys2Proof.Machine.execInputFrame s
  | .bindingWrite => Sys2Proof.Machine.execBindingWrite s
  | .serviceUpFrame => Sys2Proof.Machine.execServiceUpFrame s
  | .serviceDownSend ports station tag payload => Sys2Proof.Machine.execServiceDownSend ports station tag payload s
  | .ptpMessage => Sys2Proof.Machine.execPtpMessage s
  | .ptpTimeRead w => Sys2Proof.Machine.execPtpTimeRead w s
  | .lineLinkChange port up => Sys2Proof.Machine.execLineLinkChange port up s
  | .tsnChange w => Sys2Proof.Machine.execTsnChange w s
  | .gateEntryExpiry port => Sys2Proof.Machine.execGateEntryExpiry port s
  | .stationEntryWrite w word => Sys2Proof.Machine.execStationEntryWrite w word s
  | .catalogueEntryWrite w word => Sys2Proof.Machine.execCatalogueEntryWrite w word s
  | .catalogueSwap w copy => Sys2Proof.Machine.execCatalogueSwap w copy s
  | .catalogueCheckEnd => Sys2Proof.Machine.execCatalogueCheckEnd s
  | .catalogueCopy w => Sys2Proof.Machine.execCatalogueCopy w s
  | .shunt => Sys2Proof.Machine.execShunt s
  | .shuntAbandon w => Sys2Proof.Machine.execShuntAbandon w s
  | .precopyPassEnd => Sys2Proof.Machine.execPrecopyPassEnd s
  | .deltaEnd => Sys2Proof.Machine.execDeltaEnd s
  | .handoverAccept => Sys2Proof.Machine.execHandoverAccept s
  | .handoverRefuse => Sys2Proof.Machine.execHandoverRefuse s
  | .dieRetire => Sys2Proof.Machine.execDieRetire s
  | .dieReturn => Sys2Proof.Machine.execDieReturn s
  | .returnTestEnd die good => Sys2Proof.Machine.execReturnTestEnd die good s
  | .partApply w => Sys2Proof.Machine.execPartApply w s
  | .partReplace w die dest image => Sys2Proof.Machine.execPartReplace w die dest image s
  | .scanRailLoss die => Sys2Proof.Machine.execScanRailLoss die s
  | .scanRailReturn die => Sys2Proof.Machine.execScanRailReturn die s
  | .headerSwitch w word => Sys2Proof.Machine.execHeaderSwitch w word s
  | .heartbeat m payload => Sys2Proof.Machine.execHeartbeat m payload s
  | .heartbeatMissing => Sys2Proof.Machine.execHeartbeatMissing s
  | .laneAlignmentLoss => Sys2Proof.Machine.execLaneAlignmentLoss s
  | .snapMessage m offset data => Sys2Proof.Machine.execSnapMessage m offset data s
  | .sideMessage m payload => Sys2Proof.Machine.execSideMessage m payload s
  | .deltaMessage m payload => Sys2Proof.Machine.execDeltaMessage m payload s
  | .endMessage m digest crc count => Sys2Proof.Machine.execEndMessage m digest crc count s
  | .abortMessage m => Sys2Proof.Machine.execAbortMessage m s
  | .mirrorApplyDeadline => Sys2Proof.Machine.execMirrorApplyDeadline s
  | .bulkMessage m name region data => Sys2Proof.Machine.execBulkMessage m name region data s
  | .bulkKeeper m object offset data => Sys2Proof.Machine.execBulkKeeper m object offset data s
  | .pairSyncRequest w => Sys2Proof.Machine.execPairSyncRequest w s
  | .armNotice m identity frame revert => Sys2Proof.Machine.execArmNotice m identity frame revert s
  | .goMarker m identity frame => Sys2Proof.Machine.execGoMarker m identity frame s
  | .yieldMessage m named => Sys2Proof.Machine.execYieldMessage m named s
  | .tabletWant w word => Sys2Proof.Machine.execTabletWant w word s
  | .tabletSeenChange asserted => Sys2Proof.Machine.execTabletSeenChange asserted s
  | .claimHoldExpiry => Sys2Proof.Machine.execClaimHoldExpiry s
  | .backoffExpiry => Sys2Proof.Machine.execBackoffExpiry s
  | .verdict data => Sys2Proof.Machine.execVerdict data s
  | .witnessHeartbeatSend => Sys2Proof.Machine.execWitnessHeartbeatSend s
  | .witnessLoss => Sys2Proof.Machine.execWitnessLoss s
  | .takeover => Sys2Proof.Machine.execTakeover s
  | .silentExpiry => Sys2Proof.Machine.execSilentExpiry s
  | .startingTimeout => Sys2Proof.Machine.execStartingTimeout s
  | .pairSwitch => Sys2Proof.Machine.execPairSwitch s
  | .fabFence w word => Sys2Proof.Machine.execFabFence w word s
  | .fabUnfence w word => Sys2Proof.Machine.execFabUnfence w word s
  | .queueEnable w die q word => Sys2Proof.Machine.execQueueEnable w die q word s
  | .queueDisable w die q word => Sys2Proof.Machine.execQueueDisable w die q word s
  | .queuePush w die word => Sys2Proof.Machine.execQueuePush w die word s
  | .queueEntryArrival sender die queue => Sys2Proof.Machine.execQueueEntryArrival sender die queue s
  | .queuePop w die q word => Sys2Proof.Machine.execQueuePop w die q word s
  | .creditReturn src die queue => Sys2Proof.Machine.execCreditReturn src die queue s
  | .tokenPageAcq w word => Sys2Proof.Machine.execTokenPageAcq w word s
  | .tokenPageRel w word => Sys2Proof.Machine.execTokenPageRel w word s
  | .bankPowerSet w die word => Sys2Proof.Machine.execBankPowerSet w die word s
  | .bankWakeDone die bank => Sys2Proof.Machine.execBankWakeDone die bank s
  | .scrubRead die => Sys2Proof.Machine.execScrubRead die s
  | .dmaGo w die word => Sys2Proof.Machine.execDmaGo w die word s
  | .dmaChainEnd die => Sys2Proof.Machine.execDmaChainEnd die s
  | .marchStart w die word => Sys2Proof.Machine.execMarchStart w die word s
  | .marchStop w die word => Sys2Proof.Machine.execMarchStop w die word s
  | .loanEnd die fault word bit lost => Sys2Proof.Machine.execLoanEnd die fault word bit lost s
  | .loanAbort die => Sys2Proof.Machine.execLoanAbort die s
  | .marchDone die fault word bit => Sys2Proof.Machine.execMarchDone die fault word bit s
  | .marchRepair w die word => Sys2Proof.Machine.execMarchRepair w die word s
  | .repairDone die written => Sys2Proof.Machine.execRepairDone die written s
  | .canEnable w ch word => Sys2Proof.Machine.execCanEnable w ch word s
  | .canIntegrated ch => Sys2Proof.Machine.execCanIntegrated ch s
  | .canTxRequest w ch buffers => Sys2Proof.Machine.execCanTxRequest w ch buffers s
  | .canTxAbort w ch buffers => Sys2Proof.Machine.execCanTxAbort w ch buffers s
  | .canArbitrationLost ch => Sys2Proof.Machine.execCanArbitrationLost ch s
  | .canTxEnd ch => Sys2Proof.Machine.execCanTxEnd ch s
  | .canFrameReceive ch ide id dlc fdf brs rtr esi data sof => Sys2Proof.Machine.execCanFrameReceive ch ide id dlc fdf brs rtr esi data sof s
  | .canError ch lec dataPhase transmitting step => Sys2Proof.Machine.execCanError ch lec dataPhase transmitting step s
  | .canRecover w ch => Sys2Proof.Machine.execCanRecover w ch s
  | .canRecoveryEnd ch => Sys2Proof.Machine.execCanRecoveryEnd ch s
  | .busOffDelayExpiry ch => Sys2Proof.Machine.execBusOffDelayExpiry ch s
  | .canRxFlush w ch => Sys2Proof.Machine.execCanRxFlush w ch s
  | .canRxLock w ch => Sys2Proof.Machine.execCanRxLock w ch s
  | .canRxPop w ch => Sys2Proof.Machine.execCanRxPop w ch s
  | .canForward ch => Sys2Proof.Machine.execCanForward ch s
  | .canTxService ch => Sys2Proof.Machine.execCanTxService ch s
  | .diSample levels => Sys2Proof.Machine.execDiSample levels s
  | .edgePop w => Sys2Proof.Machine.execEdgePop w s
  | .doTrip k thermal => Sys2Proof.Machine.execDoTrip k thermal s
  | .doRetry k => Sys2Proof.Machine.execDoRetry k s
  | .doClearShort w word => Sys2Proof.Machine.execDoClearShort w word s
  | .openLoad k open' => Sys2Proof.Machine.execOpenLoad k open' s
  | .loopFault k fault => Sys2Proof.Machine.execLoopFault k fault s
  | .couplerFault ch fault => Sys2Proof.Machine.execCouplerFault ch fault s
  | .fskTxWrite w k word => Sys2Proof.Machine.execFskTxWrite w k word s
  | .fskCharacterSent k => Sys2Proof.Machine.execFskCharacterSent k s
  | .fskCharacterReceive k char parityErr framingErr => Sys2Proof.Machine.execFskCharacterReceive k char parityErr framingErr s
  | .fskRxPop w k => Sys2Proof.Machine.execFskRxPop w k s
  | .silenceExpiry => Sys2Proof.Machine.execSilenceExpiry s
  | .fpxMute w word => Sys2Proof.Machine.execFpxMute w word s
  | .muteEnd => Sys2Proof.Machine.execMuteEnd s
  | .fieldArm w => Sys2Proof.Machine.execFieldArm w s
  | .fieldDisarm w => Sys2Proof.Machine.execFieldDisarm w s
  | .fv24Crossing mv => Sys2Proof.Machine.execFv24Crossing mv s
  | .trimStep w word => Sys2Proof.Machine.execTrimStep w word s
  | .trimPinPress up => Sys2Proof.Machine.execTrimPinPress up s
  | .trimPinHold sel => Sys2Proof.Machine.execTrimPinHold sel s
  | .trimTimeout => Sys2Proof.Machine.execTrimTimeout s
  | .trimCommit => Sys2Proof.Machine.execTrimCommit s
  | .nvcWordQueue w word => Sys2Proof.Machine.execNvcWordQueue w word s
  | .stacksWordWriteEnd => Sys2Proof.Machine.execStacksWordWriteEnd s
  | .stacksRead w off n => Sys2Proof.Machine.execStacksRead w off n s
  | .nvcClearPoison w word => Sys2Proof.Machine.execNvcClearPoison w word s
  | .refreshPage => Sys2Proof.Machine.execRefreshPage s
  | .archiveRecord => Sys2Proof.Machine.execArchiveRecord s
  | .budgetRefill => Sys2Proof.Machine.execBudgetRefill s
  | .archiveFlush w => Sys2Proof.Machine.execArchiveFlush w s
  | .recordAgeFlush => Sys2Proof.Machine.execRecordAgeFlush s
  | .flushEnd failing => Sys2Proof.Machine.execFlushEnd failing s
  | .archiveAnnounce => Sys2Proof.Machine.execArchiveAnnounce s
  | .tallyUpdate w word => Sys2Proof.Machine.execTallyUpdate w word s
  | .tallyDefine w word => Sys2Proof.Machine.execTallyDefine w word s
  | .binEdgeWrite w k word => Sys2Proof.Machine.execBinEdgeWrite w k word s
  | .tallySnapshot w => Sys2Proof.Machine.execTallySnapshot w s
  | .tallySnapshotPeriod => Sys2Proof.Machine.execTallySnapshotPeriod s
  | .tallySnapshotEnd failing => Sys2Proof.Machine.execTallySnapshotEnd failing s
  | .supplyChangeoverVbat => Sys2Proof.Machine.execSupplyChangeoverVbat s
  | .supplyChangeoverMain => Sys2Proof.Machine.execSupplyChangeoverMain s
  | .continuityLoss => Sys2Proof.Machine.execContinuityLoss s
  | .alwaysOnReset => Sys2Proof.Machine.execAlwaysOnReset s
  | .vbatMeasure mv => Sys2Proof.Machine.execVbatMeasure mv s
  | .rtcSecond => Sys2Proof.Machine.execRtcSecond s
  | .xtalFail => Sys2Proof.Machine.execXtalFail s
  | .xtalReturn => Sys2Proof.Machine.execXtalReturn s
  | .rtcLoad w => Sys2Proof.Machine.execRtcLoad w s
  | .rtcSync w => Sys2Proof.Machine.execRtcSync w s
  | .rtcMeasureStart w word => Sys2Proof.Machine.execRtcMeasureStart w word s
  | .rtcMeasureEnd ppm => Sys2Proof.Machine.execRtcMeasureEnd ppm s
  | .mainsLoss => Sys2Proof.Machine.execMainsLoss s
  | .comparatorEdge n rising => Sys2Proof.Machine.execComparatorEdge n rising s
  | .guardService w word => Sys2Proof.Machine.execGuardService w word s
  | .guardWarn => Sys2Proof.Machine.execGuardWarn s
  | .guardExpiry => Sys2Proof.Machine.execGuardExpiry s
  | .guardKey w word => Sys2Proof.Machine.execGuardKey w word s
  | .guardEnable w => Sys2Proof.Machine.execGuardEnable w s
  | .guardLock w word => Sys2Proof.Machine.execGuardLock w word s
  | .guardDisable => Sys2Proof.Machine.execGuardDisable s
  | .refclkFail r => Sys2Proof.Machine.execRefclkFail r s
  | .refclkRevert r => Sys2Proof.Machine.execRefclkRevert r s
  | .powerOnReset cause => Sys2Proof.Machine.execPowerOnReset cause s
  | .resetRelease aGood bGood senior => Sys2Proof.Machine.execResetRelease aGood bGood senior s
  | .selftestEnd keeperFault failed repairs => Sys2Proof.Machine.execSelftestEnd keeperFault failed repairs s
  | .boot => Sys2Proof.Machine.execBoot s
  | .partReset w => Sys2Proof.Machine.execPartReset w s
  | .dieReset w word => Sys2Proof.Machine.execDieReset w word s
  | .dieRetain w word => Sys2Proof.Machine.execDieRetain w word s
  | .sleepRequest blocks tallies => Sys2Proof.Machine.execSleepRequest blocks tallies s
  | .wake mspi => Sys2Proof.Machine.execWake mspi s
  | .modeSet => Sys2Proof.Machine.execModeSet s
  | .updateOpen => Sys2Proof.Machine.execUpdateOpen s
  | .updateClose => Sys2Proof.Machine.execUpdateClose s
  | .sessionData => Sys2Proof.Machine.execSessionData s
  | .sessionTimeout => Sys2Proof.Machine.execSessionTimeout s
  | .sessionVerifyEnd => Sys2Proof.Machine.execSessionVerifyEnd s
  | .updateActivate => Sys2Proof.Machine.execUpdateActivate s
  | .partnerDoneDeadline => Sys2Proof.Machine.execPartnerDoneDeadline s
  | .firmwareCopyEnd good => Sys2Proof.Machine.execFirmwareCopyEnd good s
  | .updResume w => Sys2Proof.Machine.execUpdResume w s
  | .resumeDeadline => Sys2Proof.Machine.execResumeDeadline s
  | .rotationStep => Sys2Proof.Machine.execRotationStep s
  | .updHealthy w => Sys2Proof.Machine.execUpdHealthy w s
  | .executiveHealthMark => Sys2Proof.Machine.execExecutiveHealthMark s
  | .updateConfirm => Sys2Proof.Machine.execUpdateConfirm s
  | .trialDeadline => Sys2Proof.Machine.execTrialDeadline s
  | .settingsRead => Sys2Proof.Machine.execSettingsRead s
  | .settingsWrite => Sys2Proof.Machine.execSettingsWrite s
  | .nvProtect => Sys2Proof.Machine.execNvProtect s
  | .keyRotate => Sys2Proof.Machine.execKeyRotate s
  | .timeSet => Sys2Proof.Machine.execTimeSet s
  | .busRecover => Sys2Proof.Machine.execBusRecover s
  | .mspiStatus => Sys2Proof.Machine.execMspiStatus s
  | .mspiWriteIn length frame => Sys2Proof.Machine.execMspiWriteIn length frame s
  | .mspiReadOut => Sys2Proof.Machine.execMspiReadOut s
  | .mspiUnknownCommand => Sys2Proof.Machine.execMspiUnknownCommand s
  | .authCounterRead w ceil => Sys2Proof.Machine.execAuthCounterRead w ceil s
  | .fsupLastRead w => Sys2Proof.Machine.execFsupLastRead w s
  | .updDeadlineRead w => Sys2Proof.Machine.execUpdDeadlineRead w s
  | .partnerLinkAligned => Sys2Proof.Machine.execPartnerLinkAligned s
  | .fskCarrierChange k on => Sys2Proof.Machine.execFskCarrierChange k on s
  | .ptpMessageInterval port kind => Sys2Proof.Machine.execPtpMessageInterval port kind s
  | .rtcSyncLoad => Sys2Proof.Machine.execRtcSyncLoad s
  | .rtcResyncPeriod => Sys2Proof.Machine.execRtcResyncPeriod s
  | .debugResume hart => Sys2Proof.Machine.execDebugResume hart s
  | .authorityReply m frame => Sys2Proof.Machine.execAuthorityReply m frame s
  | .temperatureSample temps => Sys2Proof.Machine.execTemperatureSample temps s

end Sys2Proof.Machine
end

