-- ==== Sys2Proof/Machine/Step.lean ====
section
/-! DEFINITION.  One step: the command at the front of the queue, or an idle cycle. -/

namespace Sys2Proof.Machine

/-- Takes the command at the front of the queue and gives it its effect on the state with the queue's rest; with no command
waiting, the block idles for one cycle. -/
def step (s : State) : Host.Outcome State Fault Refusal :=
  match s.pending with
  | [] => .next s.idleCycle
  | c :: rest => exec c { s with pending := rest }

/-- The state with the command that a table word spells put at the front of its queue; the table's rows give no bits, so that
no word spells a command. -/
def State.withFetchWord (s : State) (nbits w : Nat) : State :=
  match decodeTableWord nbits w with
  | some c => { s with pending := c :: s.pending }
  | none => s

end Sys2Proof.Machine
end

