-- ==== Sys2Proof/Safety.lean ====
section
/-! DEFINITION.  What a safe run of the block is, in the terms that the statements use: the memory keeps its canonical form,
and the parts of the state that a command may change. -/

namespace Sys2Proof.Machine

open Sys2Proof.Bits

/-- The canonical form of the memory: addresses strictly rising, no entry that holds what an unlisted byte reads as. -/
abbrev Memory.wf (m : List Host.Cell) : Bool := SMap.canonical 0 m

/-- The form of the two great maps of the state: the memory is canonical, and the register fields are listed once each, in
rising order. -/
def State.Sane (s : State) : Prop := Memory.wf s.mem = true ∧ SMap.sorted s.regs = true

/-- The parts of the state: one for each field of `State`. -/
inductive Part where
  | time | cycle | freeCtr | ecc | regs | mem | arming | softReset | replies | queues | flights | creditsDue
  | holding | cores | latches | sberror | frame | slots | rowsEnded | rowsStarted | rowsDone | prog | skipped
  | dieFlags | checkPassed | timers | counters | sboxes | maskStages | heldMasks | heldTimr | causes | points
  | catActive | forcedStop | firmware | cans | auth | exch | linkOut | change | engines | tracked | dirty | shunt
  | pair | fellBack | silenceFault | fieldStale | fld | arch | aon | upd | pending
  deriving DecidableEq, Repr

/-- Two states agree on a part. -/
def Part.same (s t : State) : Part → Prop
  | .time => t.time = s.time
  | .cycle => t.cycle = s.cycle
  | .freeCtr => t.freeCtr = s.freeCtr
  | .ecc => t.ecc = s.ecc
  | .regs => t.regs = s.regs
  | .mem => t.mem = s.mem
  | .arming => t.arming = s.arming
  | .softReset => t.softReset = s.softReset
  | .replies => t.replies = s.replies
  | .queues => t.queues = s.queues
  | .flights => t.flights = s.flights
  | .creditsDue => t.creditsDue = s.creditsDue
  | .holding => t.holding = s.holding
  | .cores => t.cores = s.cores
  | .latches => t.latches = s.latches
  | .sberror => t.sberror = s.sberror
  | .frame => t.frame = s.frame
  | .slots => t.slots = s.slots
  | .rowsEnded => t.rowsEnded = s.rowsEnded
  | .rowsStarted => t.rowsStarted = s.rowsStarted
  | .rowsDone => t.rowsDone = s.rowsDone
  | .prog => t.prog = s.prog
  | .skipped => t.skipped = s.skipped
  | .dieFlags => t.dieFlags = s.dieFlags
  | .checkPassed => t.checkPassed = s.checkPassed
  | .timers => t.timers = s.timers
  | .counters => t.counters = s.counters
  | .sboxes => t.sboxes = s.sboxes
  | .maskStages => t.maskStages = s.maskStages
  | .heldMasks => t.heldMasks = s.heldMasks
  | .heldTimr => t.heldTimr = s.heldTimr
  | .causes => t.causes = s.causes
  | .points => t.points = s.points
  | .catActive => t.catActive = s.catActive
  | .forcedStop => t.forcedStop = s.forcedStop
  | .firmware => t.firmware = s.firmware
  | .cans => t.cans = s.cans
  | .auth => t.auth = s.auth
  | .exch => t.exch = s.exch
  | .linkOut => t.linkOut = s.linkOut
  | .change => t.change = s.change
  | .engines => t.engines = s.engines
  | .tracked => t.tracked = s.tracked
  | .dirty => t.dirty = s.dirty
  | .shunt => t.shunt = s.shunt
  | .pair => t.pair = s.pair
  | .fellBack => t.fellBack = s.fellBack
  | .silenceFault => t.silenceFault = s.silenceFault
  | .fieldStale => t.fieldStale = s.fieldStale
  | .fld => t.fld = s.fld
  | .arch => t.arch = s.arch
  | .aon => t.aon = s.aon
  | .upd => t.upd = s.upd
  | .pending => t.pending = s.pending

/-- All the parts. -/
def Part.all : List Part :=
  [.time, .cycle, .freeCtr, .ecc, .regs, .mem, .arming, .softReset, .replies, .queues, .flights, .creditsDue, .holding, .cores, .latches, .sberror, .frame, .slots, .rowsEnded, .rowsStarted, .rowsDone, .prog, .skipped, .dieFlags, .checkPassed, .timers, .counters, .sboxes, .maskStages, .heldMasks, .heldTimr, .causes, .points, .catActive, .forcedStop, .firmware, .cans, .auth, .exch, .linkOut, .change, .engines, .tracked, .dirty, .shunt, .pair, .fellBack, .silenceFault, .fieldStale, .fld, .arch, .aon, .upd, .pending]

/-- `t` differs from `s` at most in the parts listed: the frame of a command. -/
def ChangesOnly (l : List Part) (s t : State) : Prop := ∀ p, l.contains p = false → p.same s t

/-- `t` agrees with `s` on every register of every page whose code is not in the list, on every die. -/
def PagesOnly (l : List Nat) (s t : State) : Prop :=
  ∀ (die : Nat) (f : FieldDef), l.contains (f.code % 64) = false → t.rd die f = s.rd die f

/-- A field whose Range is fixed and holds the value that a word gives it, and that takes writes as RW or WO, or as W1C or
W1S over state of its own. -/
def plainField (word : Nat) (f : FieldDef) : Bool :=
  f.win != .mask && f.dyn == .static && !f.frz &&
    (f.acc == .rw || f.acc == .wo || ((f.acc == .w1c || f.acc == .w1s) && !storesW1 f)) &&
    clampTo (if f.segs = [] then .segs (upto 0 (2 ^ f.width - 1)) else .segs f.segs) f.sgn f.width (f.get word) == f.get word

/-- A word that a register of plain fields takes as it stands: every field in its Range, no reserved bit set (R59, R60). -/
def plainRegister (die code off word : Nat) : Bool :=
  let fs := regFields die code off
  fs.all (plainField word) && !fs.isEmpty && decide (0x100 ≤ off) && minus 32 word (fieldMask fs) == 0 &&
    fs.foldl (fun a f => a + f.get word * 2 ^ f.lsb) 0 == word

/-- A field takes the value that a word gives it: RW or WO, or W1C or W1S over state of its own, within its Range at that
moment. -/
def fieldTakes (s : State) (die word below : Nat) (f : FieldDef) : Bool :=
  f.win != .mask && (f.acc == .rw || f.acc == .wo || ((f.acc == .w1c || f.acc == .w1s) && !storesW1 f)) &&
    clamp s die f (f.get word) below == f.get word

/-- The fields of a register take their parts of a word one after the other, `below` the word of those before (R59). -/
def fieldsTake (who die word : Nat) : List FieldDef → Nat → State → Bool
  | [], _, _ => true
  | f :: fs, below, s => fieldTakes s die word below (f.w (s.winWr who die f.win)) &&
      fieldsTake who die word fs (below + f.get word * 2 ^ f.lsb)
        (if f.acc = .rw then s.wr die (f.w (s.winWr who die f.win)) (f.get word) else s)

/-- A word that a register takes as it stands: every field in its Range (R46), no reserved bit set (R59, R60). -/
def State.fits (s : State) (w : Who) (die code off word : Nat) : Bool :=
  let fs := regFields die code off
  fieldsTake w.code die word fs 0 (takeArming s die code w.code).2 && !fs.isEmpty && decide (0x100 ≤ off) &&
    minus 32 word (fieldMask fs) == 0 && !(fs.all fun f => f.acc == .ro || f.acc == .rc) &&
    fs.foldl (fun a f => a + f.get word * 2 ^ f.lsb) 0 == word

/-- A request of a master for a page reaches it at once: the master's die is not fenced and the page's die is there (R47,
R329), and neither the master nor the hub's buffer of that die is full (R90, R328). -/
def State.reaches (s : State) (w : Who) (die : Nat) : Bool :=
  !(isScan (whoDie w.code) && s.fenced (whoDie w.code)) && !s.absentDie die && !s.stalled w.code die true false

/-- A page takes a write of a master: the request reaches it, the master may write it (R55, R60), and the page is ready: its
die has powered up and no soft reset of it is under way (R51, R53). -/
def State.takes (s : State) (w : Who) (die code : Nat) : Bool :=
  s.reaches w die && mayWrite die code w && !s.notReady die code

/-- Whether a write to a Field page is held (R50, R379). -/
def State.fieldHolds (s : State) : Bool := s.holding.any fun r => !r.failed && State.atPage r && r.die == 1

/-- The lever that the Signal Box of a die fetches next (R109). -/
def State.lever (s : State) (die : Nat) : Lever := leverAt s die (s.sbox die).next

/-- A lever with operation `op` is next in a Signal Box that may issue it in this cycle (R108, R111). -/
def State.leverReady (s : State) (die op : Nat) : Bool :=
  isScan die && decide (0 < s.issueLeft die) && decide ((s.sbox die).next ≤ 131071) && !leverBad s die (s.sbox die).next &&
    (s.lever die).op == op

/-- A core runs and the fetch at its pc, which its protection allows, answers the word of `op`; `t` is the state after the
fetch (R140). -/
def State.fetches (s : State) (die n : Nat) (t : State) (word : Nat) (op : CoreOp) : Prop :=
  coreRuns s die n = true ∧ (s.core die n).pmpAllows (s.core die n).mmode 2 (s.core die n).pc 4 = true ∧
    s.memRead (die * 32 + n) (s.core die n).pc 4 = (t, .ok word) ∧ decodeCore word = some op

/-- The frame at the head of the inbox is the authority command `op` of a key that may issue it, with parameters of its
format, authentic and new: what the Authority engine carries out (R482). -/
def State.accepts (s : State) (f : AuthFrame) (rest : List AuthFrame) (op : Nat) (roles : Nat → List Byte → Bool)
    (format : List Byte → Bool) : Prop :=
  let u := s.takeFrame f rest
  let n := 24 + framePlen f.bytes
  s.auth.inbox = f :: rest ∧ (hasRow f && frameOp f == op) = true ∧
    ¬(u.frameRole f = 0 ∨ u.frameRole f = 5 ∨ (u.frameRole f = 6 ∧ f.source ≠ 1)) ∧
    cmacTag (u.slotKey (byteAt f.bytes 2)) ((frameBytes f).take n) = cut (frameBytes f) n 16 ∧
    u.authCounter (byteAt f.bytes 2) < frameCounter f ∧
    ¬(u.cell (byteAt f.bytes 2) ≤ frameCounter f ∧ 2 ^ 64 ≤ frameCounter f + 4096) ∧
    roles (u.frameRole f) (frameParams f) = true ∧ format (frameParams f) = true

/-- The state in which an accepted command acts: the frame taken, its counter stored (R482). -/
def State.accepted (s : State) (f : AuthFrame) (rest : List AuthFrame) : State := (s.takeFrame f rest).acceptFrame f

/-- A command runs to its end: `exec` answers a next state that satisfies `P`. -/
def Completes (c : Instr) (s : State) (P : State → Prop) : Prop := ∃ t, exec c s = .next t ∧ P t

/-! ### The frame of each command -/

/-- Every part of the state but those listed. -/
def allBut (l : List Part) : List Part := Part.all.filter fun p => !l.contains p

/-- The parts of the state that a command may change: those that the spec has it write, and those that follow from what it
does (a slip, a record of the Archive, an interrupt, a row that ends). -/
def partsOf : Instr → List Part
  | .registerWrite .. | .softReset .. | .riscvInstruction .. | .trapEntry .. | .mret .. | .bext .. | .bdep ..
  | .bsetm .. | .bclrm .. | .brise .. | .bfall .. | .bedge .. | .budgetRd .. | .slotend .. | .qput .. | .qget ..
  | .tokenAcq .. | .tokenRel .. | .sadd .. | .ssub .. | .saddu .. | .ssubu .. | .scaleS .. | .limitW .. | .limitS ..
  | .limitD .. | .debugSystemBusAccess .. | .junctionRequestComplete .. | .guardExpiry .. =>
    allBut [.pending]
  | .rcRead .. =>
    [.regs, .replies, .queues, .cans, .dirty, .fld]
  | .keyWordWrite .. | .lockGroupSet .. | .irqClear .. | .irqSet .. | .clampZero .. | .marginClear ..
  | .sboxFaultClear .. | .watchClear .. | .xspiGo .. | .fabUnfence .. | .tokenPageAcq .. | .tokenPageRel ..
  | .nvcClearPoison .. | .rtcMeasureStart .. | .dieRetain .. =>
    [.regs, .arming, .replies, .queues, .dirty]
  | .armingExpiry .. =>
    [.arming]
  | .softResetEnd .. =>
    [.softReset]
  | .fieldProxyWrite .. | .controlFrame .. | .fieldPowerup .. | .doClearShort .. | .fskTxWrite .. | .fieldArm ..
  | .fieldDisarm .. | .trimStep .. =>
    [.regs, .arming, .softReset, .replies, .queues, .holding, .dirty, .fieldStale, .fld]
  | .statusFrame .. =>
    [.freeCtr, .regs, .arming, .softReset, .replies, .queues, .holding, .causes, .dirty, .silenceFault, .fieldStale, .fld]
  | .fieldAbsent .. =>
    [.regs, .arming, .softReset, .replies, .queues, .holding, .causes, .dirty, .fieldStale, .fld]
  | .proxyPushEnd .. | .proxyPullEnd .. | .trimPinPress .. =>
    [.regs, .dirty, .fieldStale, .fld]
  | .tick .. =>
    allBut [.freeCtr, .softReset, .sberror, .slots, .sboxes, .maskStages, .heldMasks, .heldTimr, .cans, .auth, .engines,
      .silenceFault, .fieldStale, .arch, .pending]
  | .cutCopyEnd .. =>
    [.time, .cycle, .ecc, .regs, .mem, .frame, .exch, .linkOut, .dirty, .pair]
  | .spreadEnd .. =>
    [.time, .cycle, .ecc, .regs, .mem, .queues, .latches, .frame, .dirty]
  | .spreadByDeadline .. =>
    [.time, .cycle, .regs, .frame, .dirty]
  | .ptpMasterLost .. =>
    [.regs, .queues, .causes, .exch, .dirty]
  | .ptpMasterFound .. | .supplyChangeoverMain .. | .xtalReturn .. =>
    [.regs, .queues, .dirty]
  | .rowStart .. =>
    [.time, .cycle, .freeCtr, .ecc, .regs, .mem, .queues, .cores, .slots, .rowsStarted, .rowsDone, .sboxes, .engines,
      .tracked, .dirty, .shunt, .pair]
  | .budgetExpiry .. =>
    [.time, .cycle, .freeCtr, .ecc, .regs, .mem, .queues, .holding, .cores, .frame, .slots, .rowsEnded, .skipped,
      .timers, .causes, .tracked, .dirty, .shunt, .pair, .aon]
  | .commitSample .. =>
    [.time, .cycle, .ecc, .regs, .mem, .queues, .latches, .frame, .prog, .forcedStop, .linkOut, .change, .dirty, .pair]
  | .commitEnd .. | .safeCopyEnd .. =>
    [.time, .cycle, .ecc, .regs, .mem, .queues, .latches, .frame, .prog, .causes, .linkOut, .change, .dirty, .pair]
  | .releaseBuildEnd .. =>
    [.time, .cycle, .ecc, .regs, .mem, .frame, .exch, .dirty]
  | .release .. =>
    [.time, .cycle, .regs, .frame, .exch, .dirty, .pair, .fld]
  | .outputFrameStart .. =>
    [.time, .cycle, .regs, .queues, .exch, .dirty, .pair]
  | .ttblRowWrite .. | .ttblPoints .. | .ttblCancel .. | .tickPointsGo .. =>
    [.regs, .arming, .replies, .queues, .checkPassed, .points, .dirty]
  | .pointsCheckEnd .. =>
    [.regs, .checkPassed, .points, .dirty]
  | .logicLever .. | .edgeLever .. | .moveLever .. | .pack .. | .unpack .. =>
    [.ecc, .regs, .mem, .queues, .frame, .slots, .rowsEnded, .rowsDone, .skipped, .dieFlags, .sboxes, .causes, .dirty, .aon]
  | .skipz .. | .skipnz .. | .syncLever .. | .syncTimeout .. | .nopLever .. | .endLever .. | .illegalOp .. =>
    [.regs, .queues, .frame, .slots, .rowsEnded, .rowsDone, .skipped, .dieFlags, .sboxes, .causes, .dirty, .aon]
  | .tstart .. =>
    [.regs, .queues, .frame, .slots, .rowsEnded, .rowsDone, .skipped, .dieFlags, .timers, .sboxes, .causes, .dirty, .aon]
  | .treset .. =>
    [.regs, .queues, .frame, .slots, .rowsEnded, .rowsDone, .skipped, .dieFlags, .timers, .counters, .sboxes, .causes,
      .dirty, .aon]
  | .cup .. | .cdn .. =>
    [.regs, .queues, .frame, .slots, .rowsEnded, .rowsDone, .skipped, .dieFlags, .counters, .sboxes, .causes, .dirty, .aon]
  | .advancePassEnd .. =>
    [.regs, .frame, .slots, .rowsEnded, .rowsDone, .timers, .dirty, .aon]
  | .maskLowWrite .. =>
    [.regs, .arming, .replies, .queues, .maskStages, .dirty]
  | .maskHighWrite .. =>
    [.regs, .arming, .replies, .queues, .holding, .maskStages, .heldMasks, .dirty]
  | .maskStore .. =>
    [.regs, .replies, .holding, .heldMasks, .dirty]
  | .timrClear .. =>
    [.regs, .arming, .replies, .queues, .holding, .timers, .counters, .heldTimr, .dirty]
  | .timrConfigApply .. =>
    [.regs, .replies, .holding, .timers, .counters, .heldTimr, .dirty]
  | .interruptTaken .. =>
    [.regs, .cores, .slots, .causes, .dirty]
  | .coreStart .. =>
    [.regs, .arming, .replies, .queues, .cores, .dirty]
  | .softSet .. | .routerClear .. =>
    [.regs, .arming, .replies, .queues, .latches, .dirty]
  | .debugHalt .. | .debugResume .. =>
    [.regs, .cores, .dirty]
  | .junctionTimeout .. =>
    [.regs, .replies, .queues, .holding, .dirty]
  | .modeStop .. | .modeRun .. | .modeHold .. | .modeStep .. =>
    [.regs, .arming, .replies, .queues, .prog, .dirty]
  | .startPreparationEnd .. =>
    [.ecc, .regs, .mem, .prog, .timers, .counters, .causes, .dirty]
  | .powerupRunRequest .. =>
    [.regs, .queues, .prog, .dirty]
  | .powerFail .. =>
    [.freeCtr, .ecc, .regs, .mem, .queues, .holding, .cores, .frame, .slots, .rowsEnded, .exch, .linkOut, .tracked,
      .dirty, .shunt, .pair, .aon]
  | .retainedSaveEnd .. =>
    [.time, .cycle, .ecc, .regs, .mem, .dirty, .aon]
  | .runCounterSaveEnd .. | .powerReturn .. | .flushEnd .. | .tallySnapshotEnd .. | .powerOnReset .. | .partReset .. =>
    allBut [.time, .pending]
  | .safeImageLoad .. | .canFrameReceive .. | .trimCommit .. | .updateClose .. | .nvProtect .. | .keyRotate ..
  | .busRecover .. | .mspiWriteIn .. =>
    [.freeCtr, .ecc, .regs, .mem, .queues, .flights, .cans, .auth, .exch, .linkOut, .dirty]
  | .safeImageLoaded .. | .xspiDone .. =>
    [.ecc, .regs, .mem, .dirty]
  | .programImageLoad .. =>
    [.ecc, .regs, .mem, .queues, .prog, .checkPassed, .points, .change, .dirty]
  | .changeLoad .. | .changeDiscard .. =>
    [.ecc, .regs, .mem, .queues, .creditsDue, .change, .dirty]
  | .changeLoadEnd .. =>
    [.ecc, .regs, .mem, .queues, .checkPassed, .points, .change, .dirty]
  | .changeCommit .. =>
    [.freeCtr, .ecc, .regs, .mem, .queues, .flights, .cans, .auth, .exch, .linkOut, .change, .dirty]
  | .preSwitchCheckEnd .. =>
    [.ecc, .regs, .mem, .queues, .linkOut, .change, .dirty]
  | .pointsInstant .. =>
    [.time, .cycle, .regs, .checkPassed, .points, .change, .dirty]
  | .carryStart .. =>
    [.time, .cycle, .ecc, .regs, .mem, .queues, .checkPassed, .points, .linkOut, .change, .dirty]
  | .carryEnd .. =>
    [.ecc, .regs, .mem, .queues, .timers, .counters, .change, .dirty]
  | .carryDeadline .. =>
    [.time, .cycle, .ecc, .regs, .mem, .queues, .change, .dirty]
  | .changeRevert .. =>
    [.freeCtr, .ecc, .regs, .mem, .queues, .flights, .checkPassed, .points, .cans, .auth, .exch, .linkOut, .change, .dirty]
  | .retainedRecordWrite .. =>
    [.ecc, .regs, .mem, .change, .dirty]
  | .xspiDqsTimeout .. | .scanRailReturn .. | .bankWakeDone .. | .supplyChangeoverVbat .. | .continuityLoss ..
  | .vbatMeasure .. | .rtcMeasureEnd .. | .mainsLoss .. | .sessionVerifyEnd .. | .mspiUnknownCommand ..
  | .fskCarrierChange .. =>
    [.regs, .dirty]
  | .lineFrameReceive .. =>
    [.time, .cycle, .freeCtr, .ecc, .regs, .mem, .queues, .flights, .cans, .auth, .exch, .linkOut, .dirty]
  | .inputFrame .. | .serviceUpFrame .. =>
    [.ecc, .regs, .mem, .queues, .exch, .dirty]
  | .bindingWrite .. =>
    [.ecc, .mem, .exch, .dirty]
  | .serviceDownSend .. | .ptpMessageInterval .. =>
    [.regs, .exch, .dirty]
  | .ptpMessage .. =>
    [.time, .regs, .exch, .dirty, .pair, .fld, .arch, .aon, .upd]
  | .ptpTimeRead .. | .stacksRead .. | .authCounterRead .. | .fsupLastRead .. | .updDeadlineRead .. =>
    [.regs, .replies, .queues, .dirty]
  | .lineLinkChange .. =>
    [.regs, .queues, .exch, .dirty]
  | .tsnChange .. =>
    [.regs, .arming, .replies, .queues, .exch, .dirty]
  | .gateEntryExpiry .. =>
    [.time, .cycle, .regs, .exch, .dirty]
  | .stationEntryWrite .. | .catalogueEntryWrite .. | .catalogueSwap .. | .catalogueCheckEnd .. | .catalogueCopy .. =>
    [.regs, .arming, .replies, .queues, .holding, .exch, .dirty]
  | .shunt .. =>
    [.freeCtr, .ecc, .regs, .mem, .queues, .flights, .cans, .auth, .exch, .linkOut, .tracked, .dirty, .shunt]
  | .shuntAbandon .. =>
    [.regs, .arming, .replies, .queues, .tracked, .dirty, .shunt]
  | .precopyPassEnd .. =>
    [.regs, .dirty, .shunt]
  | .deltaEnd .. =>
    [.ecc, .regs, .mem, .frame, .slots, .rowsEnded, .rowsDone, .timers, .counters, .linkOut, .tracked, .dirty, .shunt,
      .pair, .aon]
  | .handoverAccept .. =>
    [.regs, .queues, .creditsDue, .dirty]
  | .handoverRefuse .. =>
    [.regs, .queues, .creditsDue, .tracked, .dirty, .shunt]
  | .dieRetire .. =>
    allBut [.time, .cycle, .sberror, .frame, .prog, .causes, .catActive, .forcedStop, .firmware, .change, .pair,
      .fellBack, .silenceFault, .fieldStale, .fld, .arch, .aon, .upd, .pending]
  | .dieReturn .. =>
    allBut [.time, .cycle, .sberror, .frame, .prog, .causes, .catActive, .forcedStop, .firmware, .change, .tracked,
      .pair, .fellBack, .silenceFault, .fieldStale, .fld, .arch, .aon, .upd, .pending]
  | .returnTestEnd .. =>
    [.freeCtr, .ecc, .regs, .mem, .dirty, .shunt]
  | .partApply .. | .partReplace .. =>
    allBut [.time, .cycle, .freeCtr, .flights, .sberror, .frame, .causes, .catActive, .forcedStop, .firmware, .cans,
      .auth, .exch, .linkOut, .pair, .fellBack, .silenceFault, .fieldStale, .fld, .arch, .aon, .upd, .pending]
  | .scanRailLoss .. =>
    allBut [.time, .cycle, .freeCtr, .flights, .sberror, .prog, .causes, .catActive, .forcedStop, .firmware, .cans,
      .auth, .exch, .linkOut, .change, .pair, .fellBack, .silenceFault, .fieldStale, .fld, .arch, .aon, .upd, .pending]
  | .headerSwitch .. | .dieReset .. =>
    allBut [.time, .cycle, .freeCtr, .flights, .sberror, .frame, .prog, .causes, .catActive, .forcedStop, .firmware,
      .cans, .auth, .exch, .linkOut, .change, .pair, .fellBack, .silenceFault, .fieldStale, .fld, .arch, .aon, .upd,
      .pending]
  | .heartbeat .. =>
    [.regs, .queues, .latches, .prog, .causes, .linkOut, .change, .tracked, .dirty, .pair]
  | .heartbeatMissing .. =>
    [.time, .cycle, .regs, .latches, .prog, .causes, .change, .tracked, .dirty, .pair]
  | .laneAlignmentLoss .. =>
    [.regs, .latches, .prog, .causes, .change, .tracked, .dirty, .pair]
  | .snapMessage .. | .deltaMessage .. =>
    [.ecc, .regs, .mem, .dirty, .pair]
  | .sideMessage .. | .endMessage .. | .tabletSeenChange .. =>
    [.regs, .dirty, .pair]
  | .abortMessage .. | .verdict .. | .partnerLinkAligned .. =>
    [.regs, .latches, .prog, .causes, .change, .dirty, .pair]
  | .mirrorApplyDeadline .. =>
    [.time, .cycle, .ecc, .regs, .mem, .queues, .latches, .frame, .prog, .causes, .change, .dirty, .pair]
  | .bulkMessage .. =>
    [.ecc, .regs, .mem, .queues, .cores, .latches, .timers, .counters, .dirty, .pair]
  | .bulkKeeper .. =>
    [.ecc, .regs, .mem, .change, .dirty, .pair]
  | .pairSyncRequest .. =>
    [.regs, .arming, .replies, .queues, .causes, .dirty, .pair]
  | .armNotice .. =>
    [.ecc, .regs, .mem, .queues, .change, .dirty, .pair]
  | .goMarker .. =>
    [.ecc, .regs, .mem, .queues, .linkOut, .change, .dirty, .pair]
  | .yieldMessage .. | .takeover .. =>
    [.regs, .causes, .dirty, .pair]
  | .tabletWant .. =>
    [.regs, .arming, .replies, .queues, .dirty, .pair]
  | .claimHoldExpiry .. | .muteEnd .. | .sessionTimeout .. =>
    [.time, .cycle, .regs, .dirty]
  | .backoffExpiry .. =>
    [.time, .cycle, .regs, .dirty, .pair]
  | .witnessHeartbeatSend .. =>
    [.time, .cycle, .freeCtr, .ecc, .regs, .mem, .queues, .flights, .cans, .dirty, .pair]
  | .witnessLoss .. | .busOffDelayExpiry .. =>
    [.time, .cycle, .regs, .queues, .dirty]
  | .silentExpiry .. =>
    [.time, .cycle, .regs, .latches, .prog, .causes, .change, .dirty, .pair]
  | .startingTimeout .. =>
    [.time, .cycle, .regs, .causes, .dirty, .pair]
  | .pairSwitch .. =>
    [.freeCtr, .ecc, .regs, .mem, .queues, .flights, .cans, .auth, .exch, .linkOut, .dirty, .pair]
  | .fabFence .. =>
    [.regs, .arming, .replies, .queues, .holding, .dirty]
  | .queueEnable .. | .queueDisable .. =>
    [.regs, .arming, .replies, .queues, .flights, .creditsDue, .dirty]
  | .queuePush .. =>
    [.regs, .arming, .replies, .queues, .flights, .dirty]
  | .queueEntryArrival .. =>
    [.regs, .queues, .flights, .creditsDue, .dirty]
  | .queuePop .. =>
    [.regs, .arming, .replies, .queues, .creditsDue, .dirty]
  | .creditReturn .. =>
    [.regs, .creditsDue, .dirty]
  | .bankPowerSet .. | .binEdgeWrite .. =>
    [.ecc, .regs, .mem, .arming, .replies, .queues, .dirty]
  | .scrubRead .. | .loanEnd .. =>
    [.ecc, .regs, .queues, .engines, .dirty]
  | .dmaGo .. | .marchRepair .. =>
    [.regs, .arming, .replies, .queues, .engines, .dirty]
  | .dmaChainEnd .. =>
    [.freeCtr, .ecc, .regs, .mem, .queues, .holding, .cores, .frame, .slots, .rowsEnded, .rowsDone, .skipped, .causes,
      .engines, .dirty, .aon]
  | .marchStart .. | .marchStop .. =>
    [.freeCtr, .ecc, .regs, .mem, .arming, .replies, .queues, .engines, .dirty]
  | .loanAbort .. =>
    [.regs, .engines, .dirty]
  | .marchDone .. =>
    [.freeCtr, .ecc, .regs, .mem, .queues, .engines, .dirty]
  | .repairDone .. =>
    [.ecc, .regs, .mem, .engines, .dirty]
  | .canEnable .. | .canRecover .. | .canRxFlush .. =>
    [.regs, .arming, .replies, .queues, .flights, .cans, .dirty]
  | .canIntegrated .. | .canRecoveryEnd .. | .canForward .. =>
    [.regs, .queues, .flights, .cans, .dirty]
  | .canTxRequest .. | .canTxAbort .. =>
    [.freeCtr, .regs, .arming, .replies, .queues, .flights, .cans, .dirty]
  | .canArbitrationLost .. | .canTxEnd .. | .canError .. =>
    [.freeCtr, .regs, .queues, .flights, .cans, .dirty]
  | .canRxLock .. | .canRxPop .. =>
    [.regs, .replies, .queues, .cans, .dirty]
  | .canTxService .. =>
    [.freeCtr, .regs, .arming, .replies, .queues, .flights, .creditsDue, .cans, .dirty]
  | .diSample .. | .silenceExpiry .. =>
    [.time, .cycle, .regs, .dirty, .fld]
  | .edgePop .. | .fskRxPop .. =>
    [.regs, .replies, .queues, .dirty, .fld]
  | .doTrip .. | .doRetry .. | .couplerFault .. | .fskCharacterSent .. | .fskCharacterReceive .. | .trimPinHold .. =>
    [.regs, .dirty, .fld]
  | .openLoad .. | .loopFault .. =>
    [.fld]
  | .fpxMute .. =>
    [.regs, .arming, .replies, .queues, .dirty, .fld]
  | .fv24Crossing .. =>
    [.freeCtr, .regs, .dirty, .fld]
  | .trimTimeout .. =>
    [.time, .cycle, .regs, .dirty, .fieldStale, .fld]
  | .nvcWordQueue .. =>
    [.regs, .arming, .replies, .queues, .holding, .dirty, .arch]
  | .stacksWordWriteEnd .. =>
    [.ecc, .regs, .mem, .arming, .replies, .queues, .holding, .dirty, .arch]
  | .refreshPage .. =>
    [.time, .cycle, .ecc, .regs, .mem, .dirty, .arch]
  | .archiveRecord .. =>
    [.ecc, .regs, .mem, .queues, .creditsDue, .dirty, .arch]
  | .budgetRefill .. | .recordAgeFlush .. =>
    [.time, .cycle, .regs, .dirty, .arch]
  | .archiveFlush .. | .tallyUpdate .. | .tallySnapshot .. =>
    [.regs, .arming, .replies, .queues, .dirty, .arch]
  | .archiveAnnounce .. =>
    [.time, .cycle, .freeCtr, .regs, .queues, .flights, .cans, .dirty, .arch]
  | .tallyDefine .. =>
    [.ecc, .regs, .mem, .arming, .replies, .queues, .dirty, .arch]
  | .tallySnapshotPeriod .. =>
    [.time, .cycle, .arch]
  | .alwaysOnReset .. | .rtcSecond .. | .xtalFail .. | .comparatorEdge .. =>
    [.regs, .dirty, .aon]
  | .rtcLoad .. | .rtcSync .. | .guardService .. | .guardKey .. | .guardEnable .. | .guardLock .. =>
    [.regs, .arming, .replies, .queues, .dirty, .aon]
  | .guardWarn .. | .rtcResyncPeriod .. =>
    [.time, .cycle, .regs, .dirty, .aon]
  | .guardDisable .. | .timeSet .. =>
    [.freeCtr, .ecc, .regs, .mem, .queues, .flights, .cans, .auth, .exch, .linkOut, .dirty, .aon]
  | .refclkFail .. =>
    [.time, .freeCtr, .ecc, .regs, .mem, .queues, .holding, .cores, .frame, .slots, .rowsEnded, .exch, .linkOut,
      .tracked, .dirty, .shunt, .pair, .aon]
  | .refclkRevert .. =>
    [.time, .freeCtr, .regs, .queues, .dirty]
  | .resetRelease .. =>
    [.regs, .softReset, .queues, .dirty, .aon]
  | .selftestEnd .. =>
    allBut [.time, .cycle, .freeCtr, .flights, .sberror, .frame, .prog, .causes, .catActive, .forcedStop, .firmware,
      .cans, .auth, .exch, .linkOut, .change, .tracked, .shunt, .pair, .fellBack, .silenceFault, .fieldStale, .fld,
      .arch, .upd, .pending]
  | .boot .. =>
    [.time, .freeCtr, .ecc, .regs, .mem, .queues, .flights, .cores, .firmware, .cans, .exch, .change, .dirty, .pair,
      .fellBack, .fld, .arch, .aon, .upd]
  | .sleepRequest .. =>
    [.freeCtr, .ecc, .regs, .mem, .queues, .flights, .creditsDue, .latches, .prog, .causes, .firmware, .cans, .change,
      .tracked, .dirty, .pair, .arch, .aon]
  | .wake .. =>
    [.time, .freeCtr, .ecc, .regs, .mem, .queues, .holding, .cores, .frame, .slots, .rowsEnded, .firmware, .exch,
      .linkOut, .tracked, .dirty, .shunt, .pair, .fld, .arch, .aon, .upd]
  | .modeSet .. =>
    [.freeCtr, .ecc, .regs, .mem, .queues, .flights, .prog, .cans, .auth, .exch, .linkOut, .dirty]
  | .updateOpen .. | .sessionData .. =>
    [.freeCtr, .ecc, .regs, .mem, .queues, .flights, .cans, .auth, .exch, .linkOut, .dirty, .upd]
  | .updateActivate .. =>
    [.time, .freeCtr, .ecc, .regs, .mem, .queues, .flights, .cores, .firmware, .cans, .auth, .exch, .linkOut, .change,
      .dirty, .pair, .fellBack, .fld, .arch, .aon, .upd]
  | .partnerDoneDeadline .. =>
    [.time, .cycle, .regs, .queues, .dirty, .upd]
  | .firmwareCopyEnd .. =>
    [.time, .cycle, .ecc, .regs, .mem, .queues, .cores, .firmware, .dirty, .fellBack, .upd]
  | .updResume .. | .updHealthy .. =>
    [.regs, .arming, .replies, .queues, .dirty, .upd]
  | .resumeDeadline .. =>
    [.time, .cycle, .ecc, .regs, .mem, .queues, .firmware, .dirty, .fellBack, .upd]
  | .rotationStep .. =>
    allBut [.time, .cycle, .freeCtr, .flights, .sberror, .frame, .prog, .causes, .catActive, .forcedStop, .firmware,
      .cans, .auth, .exch, .linkOut, .pair, .silenceFault, .fieldStale, .fld, .arch, .aon, .pending]
  | .executiveHealthMark .. =>
    [.regs, .queues, .creditsDue, .dirty, .upd]
  | .updateConfirm .. =>
    [.freeCtr, .ecc, .regs, .mem, .queues, .flights, .cans, .auth, .exch, .linkOut, .dirty, .fellBack]
  | .trialDeadline .. =>
    [.freeCtr, .ecc, .regs, .mem, .queues, .linkOut, .dirty, .fellBack, .upd]
  | .settingsRead .. | .settingsWrite .. =>
    [.ecc, .regs, .mem, .queues, .flights, .creditsDue, .dirty]
  | .mspiStatus .. =>
    [.replies]
  | .mspiReadOut .. =>
    [.regs, .auth, .dirty]
  | .rtcSyncLoad .. =>
    [.time, .cycle, .regs, .exch, .dirty, .pair, .fld, .arch, .aon, .upd]
  | .authorityReply .. =>
    [.freeCtr, .ecc, .regs, .mem, .queues, .flights, .cans, .auth, .exch, .linkOut, .dirty, .pair, .upd]
  | .temperatureSample .. =>
    [.aon]

/-- The codes of the pages in which a command may change a register, where they are few. -/
def pagesOf : Instr → Option (List Nat)
  | .keyWordWrite _ _ code _ | .lockGroupSet _ _ code _ | .irqClear _ _ code _ _ | .irqSet _ _ code _ =>
    some (code % 64 :: [0x04, 0x05, 0x06, 0x07, 0x0C, 0x11])
  | .outputFrameStart port =>
    some ((29 + port) % 64 :: [0x06, 0x11, 0x16, 0x1C])
  | .interruptTaken _ core =>
    some ((14 + core) % 64 :: [0x28])
  | .coreStart _ _ core _ =>
    some ((14 + core) % 64 :: [0x04, 0x05, 0x06, 0x07, 0x09, 0x0C, 0x11])
  | .softSet _ _ core _ | .routerClear _ _ core _ _ =>
    some ((14 + core) % 64 :: [0x04, 0x05, 0x06, 0x07, 0x0C, 0x11])
  | .lineFrameReceive port _ _ _ =>
    some ((29 + port) % 64 :: [0x05, 0x06, 0x12, 0x1C, 0x21, 0x24])
  | .lineLinkChange port _ =>
    some ((29 + port) % 64 :: [0x06, 0x11, 0x1B])
  | .canEnable _ ch _ | .canTxRequest _ ch _ | .canTxAbort _ ch _ | .canRecover _ ch | .canRxFlush _ ch
  | .canTxService ch =>
    some ((33 + ch) % 64 :: [0x04, 0x05, 0x06, 0x07, 0x0C, 0x11])
  | .canIntegrated ch | .canTxEnd ch | .canError ch _ _ _ _ | .canRecoveryEnd ch =>
    some ((33 + ch) % 64 :: [0x05, 0x06, 0x11])
  | .canArbitrationLost ch | .busOffDelayExpiry ch | .canRxLock _ ch | .canRxPop _ ch | .canForward ch =>
    some ((33 + ch) % 64 :: [0x05, 0x06])
  | .canFrameReceive ch _ _ _ _ _ _ _ _ _ =>
    some ((33 + ch) % 64 :: [0x05, 0x06, 0x11, 0x12, 0x1C, 0x21, 0x24, 0x28])
  | .armingExpiry .. | .softResetEnd .. | .bindingWrite .. | .openLoad .. | .loopFault .. | .tallySnapshotPeriod ..
  | .mspiStatus .. | .temperatureSample .. =>
    some []
  | .proxyPushEnd .. =>
    some [0x00, 0x04, 0x25]
  | .cutCopyEnd .. | .releaseBuildEnd .. =>
    some [0x18]
  | .spreadEnd .. =>
    some [0x06, 0x07, 0x0D, 0x11]
  | .spreadByDeadline .. =>
    some [0x0B]
  | .ptpMasterLost .. =>
    some [0x06, 0x0A, 0x0E, 0x11, 0x1B, 0x28]
  | .ptpMasterFound .. =>
    some [0x06, 0x0A, 0x11, 0x1B]
  | .commitSample .. =>
    some [0x06, 0x0B, 0x0F, 0x11, 0x16, 0x17, 0x18, 0x27]
  | .commitEnd .. =>
    some [0x06, 0x07, 0x11, 0x15, 0x18, 0x27, 0x28, 0x29]
  | .safeCopyEnd .. =>
    some [0x06, 0x11, 0x15, 0x18, 0x27, 0x28, 0x29]
  | .marginClear .. | .maskLowWrite .. | .maskHighWrite .. =>
    some [0x04, 0x05, 0x06, 0x07, 0x0B, 0x0C, 0x11]
  | .ttblPoints .. | .ttblCancel .. | .tickPointsGo .. =>
    some [0x04, 0x05, 0x06, 0x07, 0x09, 0x0A, 0x0C, 0x11]
  | .pointsCheckEnd .. | .pointsInstant .. =>
    some [0x09, 0x0A]
  | .logicLever .. | .edgeLever .. | .moveLever .. | .pack .. | .unpack .. | .skipz .. | .skipnz .. | .tstart ..
  | .treset .. | .syncLever .. | .syncTimeout .. | .nopLever .. | .endLever .. | .illegalOp .. =>
    some [0x06, 0x07, 0x0A, 0x0B, 0x0D, 0x11, 0x12, 0x28]
  | .cup .. | .cdn .. =>
    some [0x06, 0x07, 0x0A, 0x0B, 0x0C, 0x0D, 0x11, 0x12, 0x28]
  | .advancePassEnd .. =>
    some [0x0A, 0x0B, 0x0C, 0x0D]
  | .maskStore .. =>
    some [0x05, 0x0B]
  | .watchClear .. =>
    some [0x04, 0x05, 0x06, 0x07, 0x0C, 0x11, 0x12]
  | .debugHalt .. =>
    some [0x12, 0x26]
  | .junctionTimeout .. | .settingsRead .. =>
    some [0x05, 0x06, 0x11]
  | .modeStop .. | .modeRun .. | .modeHold .. | .modeStep .. =>
    some [0x04, 0x05, 0x06, 0x07, 0x0C, 0x11, 0x27]
  | .startPreparationEnd .. =>
    some [0x09, 0x0A, 0x27, 0x28, 0x29]
  | .powerupRunRequest .. =>
    some [0x06, 0x11, 0x27]
  | .retainedSaveEnd .. =>
    some [0x0A, 0x0F, 0x27, 0x29]
  | .safeImageLoad .. =>
    some [0x05, 0x06, 0x0F, 0x12, 0x1C, 0x21, 0x24, 0x29]
  | .safeImageLoaded .. =>
    some [0x29]
  | .changeLoad .. | .changeDiscard .. | .preSwitchCheckEnd .. | .carryDeadline .. =>
    some [0x06, 0x11]
  | .changeCommit .. | .pairSwitch .. | .keyRotate .. | .mspiWriteIn .. =>
    some [0x05, 0x06, 0x12, 0x1C, 0x21, 0x24]
  | .changeRevert .. =>
    some [0x05, 0x06, 0x09, 0x0A, 0x11, 0x12, 0x1C, 0x21, 0x24]
  | .retainedRecordWrite .. | .refreshPage .. =>
    some [0x0F]
  | .xspiGo .. =>
    some [0x04, 0x05, 0x06, 0x07, 0x0C, 0x11, 0x23]
  | .xspiDone .. | .xspiDqsTimeout .. =>
    some [0x23]
  | .serviceDownSend .. | .gateEntryExpiry .. =>
    some [0x1C]
  | .ptpMessage .. =>
    some [0x0A, 0x1B, 0x1C]
  | .ptpTimeRead .. =>
    some [0x05, 0x06, 0x1B]
  | .tsnChange .. =>
    some [0x04, 0x05, 0x06, 0x07, 0x0C, 0x11, 0x1C]
  | .shunt .. =>
    some [0x05, 0x06, 0x12, 0x14, 0x1C, 0x21, 0x24]
  | .shuntAbandon .. =>
    some [0x04, 0x05, 0x06, 0x07, 0x0C, 0x11, 0x14]
  | .precopyPassEnd .. | .handoverAccept .. | .handoverRefuse .. =>
    some [0x14]
  | .returnTestEnd .. =>
    some [0x0F, 0x17, 0x27]
  | .scanRailReturn .. =>
    some [0x02]
  | .heartbeat .. =>
    some [0x06, 0x11, 0x15, 0x16, 0x27, 0x28]
  | .heartbeatMissing .. | .laneAlignmentLoss .. | .abortMessage .. | .silentExpiry .. | .partnerLinkAligned .. =>
    some [0x15, 0x27, 0x28]
  | .snapMessage .. | .sideMessage .. | .deltaMessage .. | .endMessage .. =>
    some [0x15]
  | .mirrorApplyDeadline .. =>
    some [0x0C, 0x0F, 0x15, 0x17, 0x27, 0x28]
  | .pairSyncRequest .. =>
    some [0x04, 0x05, 0x06, 0x07, 0x0C, 0x11, 0x15, 0x28]
  | .armNotice .. | .witnessLoss .. =>
    some [0x06, 0x11, 0x15]
  | .yieldMessage .. | .takeover .. | .startingTimeout .. =>
    some [0x15, 0x16, 0x28]
  | .tabletWant .. =>
    some [0x04, 0x05, 0x06, 0x07, 0x0C, 0x11, 0x16]
  | .tabletSeenChange .. | .claimHoldExpiry .. | .backoffExpiry .. =>
    some [0x16]
  | .verdict .. =>
    some [0x15, 0x16, 0x27, 0x28]
  | .witnessHeartbeatSend .. | .archiveAnnounce .. =>
    some [0x05, 0x06, 0x21]
  | .fabUnfence .. | .queueEnable .. | .queueDisable .. | .queuePush .. | .queuePop .. | .bankPowerSet .. | .dmaGo ..
  | .archiveFlush .. | .tallyUpdate .. | .tallySnapshot .. | .guardService .. | .guardKey .. | .guardEnable ..
  | .guardLock .. =>
    some [0x04, 0x05, 0x06, 0x07, 0x0C, 0x11]
  | .queueEntryArrival .. | .fsupLastRead .. =>
    some [0x05, 0x06]
  | .creditReturn .. =>
    some [0x06]
  | .bankWakeDone .. =>
    some [0x07]
  | .scrubRead .. =>
    some [0x06, 0x07, 0x11]
  | .dmaChainEnd .. =>
    some [0x05, 0x06, 0x07, 0x0A, 0x0B, 0x0D, 0x0F, 0x11, 0x28]
  | .marchStart .. | .marchStop .. | .marchRepair .. =>
    some [0x04, 0x05, 0x06, 0x07, 0x08, 0x0C, 0x11]
  | .loanEnd .. | .marchDone .. =>
    some [0x06, 0x07, 0x08, 0x11]
  | .loanAbort .. =>
    some [0x08]
  | .repairDone .. =>
    some [0x08, 0x0F]
  | .diSample .. =>
    some [0x01, 0x28]
  | .edgePop .. =>
    some [0x01, 0x05, 0x06]
  | .doTrip .. | .doRetry .. | .couplerFault .. | .fskCharacterSent .. | .fskCharacterReceive .. | .silenceExpiry ..
  | .fv24Crossing .. | .fskCarrierChange .. =>
    some [0x04]
  | .fskRxPop .. =>
    some [0x04, 0x05, 0x06]
  | .fpxMute .. =>
    some [0x04, 0x05, 0x06, 0x07, 0x0C, 0x11, 0x25]
  | .muteEnd .. =>
    some [0x25]
  | .trimPinHold .. =>
    some [0x03, 0x04]
  | .trimTimeout .. =>
    some [0x03]
  | .trimCommit .. =>
    some [0x03, 0x05, 0x06, 0x0F, 0x12, 0x1C, 0x21, 0x24]
  | .nvcWordQueue .. | .stacksWordWriteEnd .. =>
    some [0x04, 0x05, 0x06, 0x07, 0x0C, 0x0F, 0x10, 0x11]
  | .stacksRead .. =>
    some [0x05, 0x06, 0x0F, 0x11]
  | .nvcClearPoison .. | .tallyDefine .. | .binEdgeWrite .. =>
    some [0x04, 0x05, 0x06, 0x07, 0x0C, 0x0F, 0x11]
  | .archiveRecord .. | .budgetRefill .. | .recordAgeFlush .. =>
    some [0x11]
  | .supplyChangeoverVbat .. | .continuityLoss .. | .vbatMeasure .. | .xtalFail .. | .comparatorEdge .. =>
    some [0x0D]
  | .supplyChangeoverMain .. =>
    some [0x06, 0x0D, 0x0E, 0x11]
  | .rtcSecond .. | .rtcSyncLoad .. =>
    some [0x0D, 0x0E]
  | .xtalReturn .. =>
    some [0x06, 0x0D, 0x11]
  | .rtcLoad .. | .rtcSync .. | .rtcMeasureStart .. =>
    some [0x04, 0x05, 0x06, 0x07, 0x0C, 0x0E, 0x11]
  | .rtcMeasureEnd .. | .mainsLoss .. | .rtcResyncPeriod .. =>
    some [0x0E]
  | .guardWarn .. =>
    some [0x0C]
  | .guardDisable .. =>
    some [0x04, 0x05, 0x06, 0x07, 0x0C, 0x11, 0x12, 0x1C, 0x21, 0x24]
  | .refclkRevert .. =>
    some [0x01, 0x06, 0x11]
  | .resetRelease .. =>
    some [0x01, 0x02, 0x03, 0x06, 0x0E, 0x11, 0x15, 0x16, 0x17]
  | .dieRetain .. =>
    some [0x02, 0x04, 0x05, 0x06, 0x07, 0x0C, 0x11]
  | .modeSet .. =>
    some [0x05, 0x06, 0x12, 0x1C, 0x21, 0x24, 0x27]
  | .updateOpen .. | .updateClose .. =>
    some [0x05, 0x06, 0x12, 0x13, 0x1C, 0x21, 0x24]
  | .sessionData .. =>
    some [0x05, 0x06, 0x0F, 0x12, 0x13, 0x1C, 0x21, 0x24]
  | .sessionTimeout .. | .sessionVerifyEnd .. | .executiveHealthMark .. =>
    some [0x13]
  | .partnerDoneDeadline .. =>
    some [0x06, 0x11, 0x13]
  | .firmwareCopyEnd .. =>
    some [0x06, 0x09, 0x0F, 0x11, 0x13]
  | .updResume .. | .updHealthy .. =>
    some [0x04, 0x05, 0x06, 0x07, 0x0C, 0x11, 0x13]
  | .resumeDeadline .. | .trialDeadline .. =>
    some [0x06, 0x0F, 0x11, 0x13]
  | .updateConfirm .. =>
    some [0x05, 0x06, 0x0F, 0x11, 0x12, 0x13, 0x1C, 0x21, 0x24]
  | .settingsWrite .. =>
    some [0x05, 0x06, 0x0F]
  | .nvProtect .. =>
    some [0x05, 0x06, 0x0F, 0x10, 0x12, 0x1C, 0x21, 0x24]
  | .timeSet .. =>
    some [0x05, 0x06, 0x0E, 0x12, 0x1C, 0x21, 0x24]
  | .mspiReadOut .. | .mspiUnknownCommand .. =>
    some [0x24]
  | .authCounterRead .. =>
    some [0x05, 0x06, 0x12]
  | .updDeadlineRead .. =>
    some [0x05, 0x06, 0x13]
  | .ptpMessageInterval .. =>
    some [0x1B, 0x1C]
  | .debugResume .. =>
    some [0x26]
  | .authorityReply .. =>
    some [0x05, 0x06, 0x12, 0x15, 0x1C, 0x21, 0x24]
  | _ => none

/-- The registers, each by the code of its page and its offset there, that a command which is no write of a page may change,
where its own rules name them one by one; `(code, 0x020)` is the interrupt register of a page. -/
def registersOf : Instr → Option (List (Nat × Nat))
  | .armingExpiry .. | .softResetEnd .. | .bindingWrite .. | .openLoad .. | .loopFault .. | .tallySnapshotPeriod ..
  | .mspiStatus .. | .temperatureSample .. =>
    some []
  | .cutCopyEnd .. =>
    some [(0x18, 0x100), (0x18, 0x104)]
  | .spreadEnd .. =>
    some [(0x06, 0x020), (0x06, 0x104), (0x07, 0x020), (0x07, 0x10C), (0x07, 0x110), (0x07, 0x114), (0x07, 0x118), (0x0D,
      0x020), (0x0D, 0x104), (0x0D, 0x108), (0x0D, 0x10C), (0x11, 0x020), (0x11, 0x128)]
  | .spreadByDeadline .. =>
    some [(0x0B, 0x020)]
  | .ptpMasterLost .. =>
    some [(0x06, 0x020), (0x06, 0x104), (0x0A, 0x020), (0x0A, 0x120), (0x0E, 0x020), (0x0E, 0x12C), (0x11, 0x020), (0x11,
      0x128), (0x1B, 0x020), (0x1B, 0x10C), (0x1B, 0x110), (0x1B, 0x114), (0x28, 0x020), (0x28, 0x110)]
  | .ptpMasterFound .. =>
    some [(0x06, 0x020), (0x06, 0x104), (0x0A, 0x020), (0x0A, 0x120), (0x11, 0x020), (0x11, 0x128), (0x1B, 0x020), (0x1B,
      0x10C), (0x1B, 0x110), (0x1B, 0x114)]
  | .commitSample .. =>
    some [(0x06, 0x020), (0x06, 0x104), (0x0B, 0x020), (0x0B, 0x10C), (0x0B, 0x110), (0x0B, 0x114), (0x0B, 0x118), (0x0B,
      0x120), (0x0F, 0x020), (0x0F, 0x130), (0x11, 0x020), (0x11, 0x128), (0x16, 0x020), (0x16, 0x100), (0x16, 0x104),
      (0x16, 0x110), (0x16, 0x114), (0x17, 0x020), (0x17, 0x108), (0x17, 0x110), (0x18, 0x020), (0x18, 0x100), (0x27,
      0x020), (0x27, 0x108), (0x27, 0x10C), (0x27, 0x114)]
  | .commitEnd .. =>
    some [(0x06, 0x020), (0x06, 0x104), (0x07, 0x020), (0x07, 0x10C), (0x07, 0x110), (0x07, 0x114), (0x07, 0x118), (0x11,
      0x020), (0x11, 0x128), (0x15, 0x020), (0x15, 0x10C), (0x15, 0x110), (0x15, 0x118), (0x15, 0x120), (0x18, 0x020),
      (0x18, 0x100), (0x27, 0x020), (0x27, 0x108), (0x27, 0x10C), (0x27, 0x114), (0x28, 0x020), (0x28, 0x110), (0x29,
      0x020), (0x29, 0x100)]
  | .safeCopyEnd .. =>
    some [(0x06, 0x020), (0x06, 0x104), (0x11, 0x020), (0x11, 0x128), (0x15, 0x020), (0x15, 0x10C), (0x15, 0x110), (0x15,
      0x118), (0x15, 0x120), (0x18, 0x020), (0x18, 0x100), (0x27, 0x020), (0x27, 0x108), (0x27, 0x10C), (0x27, 0x114),
      (0x28, 0x020), (0x28, 0x110), (0x29, 0x020), (0x29, 0x100)]
  | .releaseBuildEnd .. =>
    some [(0x18, 0x100), (0x18, 0x108), (0x18, 0x110)]
  | .pointsCheckEnd .. =>
    some [(0x09, 0x020), (0x09, 0x118), (0x0A, 0x020), (0x0A, 0x120)]
  | .debugHalt .. =>
    some [(0x12, 0x020), (0x12, 0x10C), (0x26, 0x020), (0x26, 0x104), (0x26, 0x108)]
  | .junctionTimeout .. =>
    some [(0x05, 0x020), (0x05, 0x10C), (0x05, 0x114), (0x05, 0x118), (0x05, 0x11C), (0x06, 0x020), (0x06, 0x104), (0x06,
      0x210), (0x06, 0x230), (0x06, 0x250), (0x06, 0x270), (0x06, 0x290), (0x06, 0x2B0), (0x06, 0x2D0), (0x06, 0x2F0),
      (0x06, 0x310), (0x06, 0x330), (0x06, 0x350), (0x06, 0x370), (0x06, 0x390), (0x06, 0x3B0), (0x06, 0x3D0), (0x06,
      0x3F0), (0x11, 0x020), (0x11, 0x128)]
  | .powerupRunRequest .. =>
    some [(0x06, 0x020), (0x06, 0x104), (0x11, 0x020), (0x11, 0x128), (0x27, 0x020), (0x27, 0x108), (0x27, 0x10C), (0x27,
      0x11C)]
  | .retainedSaveEnd .. =>
    some [(0x0A, 0x020), (0x0A, 0x118), (0x0A, 0x11C), (0x0F, 0x020), (0x0F, 0x130), (0x27, 0x020), (0x27, 0x108), (0x29,
      0x020), (0x29, 0x120), (0x29, 0x124)]
  | .safeImageLoaded .. =>
    some [(0x29, 0x020), (0x29, 0x100), (0x29, 0x104)]
  | .changeLoad .. | .changeDiscard .. | .preSwitchCheckEnd .. | .carryDeadline .. =>
    some [(0x06, 0x020), (0x06, 0x104), (0x11, 0x020), (0x11, 0x128)]
  | .pointsInstant .. =>
    some [(0x09, 0x020), (0x09, 0x118), (0x0A, 0x020), (0x0A, 0x114), (0x0A, 0x120)]
  | .retainedRecordWrite .. =>
    some [(0x0F, 0x130)]
  | .xspiDqsTimeout .. =>
    some [(0x23, 0x020), (0x23, 0x114), (0x23, 0x11C)]
  | .serviceDownSend .. | .gateEntryExpiry .. =>
    some [(0x1C, 0x11C)]
  | .ptpTimeRead .. =>
    some [(0x05, 0x020), (0x05, 0x110), (0x05, 0x114), (0x05, 0x118), (0x06, 0x020), (0x06, 0x104), (0x06, 0x210), (0x06,
      0x230), (0x06, 0x250), (0x06, 0x270), (0x06, 0x290), (0x06, 0x2B0), (0x06, 0x2D0), (0x06, 0x2F0), (0x06, 0x310),
      (0x06, 0x330), (0x06, 0x350), (0x06, 0x370), (0x06, 0x390), (0x06, 0x3B0), (0x06, 0x3D0), (0x06, 0x3F0), (0x1B,
      0x020), (0x1B, 0x12C), (0x1B, 0x130)]
  | .precopyPassEnd .. =>
    some [(0x14, 0x020), (0x14, 0x108), (0x14, 0x110), (0x14, 0x114)]
  | .handoverAccept .. =>
    some [(0x14, 0x108)]
  | .scanRailReturn .. =>
    some [(0x02, 0x020), (0x02, 0x108)]
  | .heartbeat .. =>
    some [(0x06, 0x020), (0x06, 0x104), (0x11, 0x020), (0x11, 0x128), (0x15, 0x020), (0x15, 0x10C), (0x15, 0x124), (0x16,
      0x020), (0x16, 0x100), (0x16, 0x104), (0x16, 0x110), (0x16, 0x114), (0x27, 0x020), (0x27, 0x108), (0x27, 0x10C),
      (0x27, 0x114), (0x28, 0x020), (0x28, 0x110)]
  | .heartbeatMissing .. | .laneAlignmentLoss .. | .silentExpiry .. | .partnerLinkAligned .. =>
    some [(0x15, 0x020), (0x15, 0x10C), (0x27, 0x020), (0x27, 0x108), (0x27, 0x10C), (0x27, 0x114), (0x28, 0x020), (0x28,
      0x110)]
  | .snapMessage .. | .sideMessage .. | .deltaMessage .. | .endMessage .. =>
    some [(0x15, 0x124)]
  | .abortMessage .. =>
    some [(0x15, 0x020), (0x15, 0x10C), (0x15, 0x11C), (0x15, 0x124), (0x27, 0x020), (0x27, 0x108), (0x27, 0x10C), (0x27,
      0x114), (0x28, 0x020), (0x28, 0x110)]
  | .mirrorApplyDeadline .. =>
    some [(0x0C, 0x020), (0x0C, 0x118), (0x0F, 0x020), (0x0F, 0x130), (0x15, 0x020), (0x15, 0x10C), (0x15, 0x11C), (0x17,
      0x020), (0x17, 0x108), (0x17, 0x10C), (0x27, 0x020), (0x27, 0x108), (0x27, 0x10C), (0x27, 0x114), (0x28, 0x020),
      (0x28, 0x110)]
  | .armNotice .. =>
    some [(0x06, 0x020), (0x06, 0x104), (0x11, 0x020), (0x11, 0x128), (0x15, 0x020), (0x15, 0x124)]
  | .yieldMessage .. =>
    some [(0x15, 0x020), (0x15, 0x10C), (0x15, 0x124), (0x16, 0x020), (0x16, 0x100), (0x16, 0x104), (0x16, 0x110), (0x16,
      0x114), (0x28, 0x020), (0x28, 0x110)]
  | .tabletSeenChange .. =>
    some [(0x16, 0x020), (0x16, 0x100), (0x16, 0x104), (0x16, 0x110), (0x16, 0x114), (0x16, 0x118)]
  | .claimHoldExpiry .. =>
    some [(0x16, 0x020), (0x16, 0x104), (0x16, 0x108), (0x16, 0x10C), (0x16, 0x118)]
  | .backoffExpiry .. =>
    some [(0x16, 0x020), (0x16, 0x104), (0x16, 0x110), (0x16, 0x114)]
  | .verdict .. =>
    some [(0x15, 0x020), (0x15, 0x10C), (0x15, 0x114), (0x16, 0x020), (0x16, 0x100), (0x16, 0x104), (0x16, 0x110), (0x16,
      0x114), (0x27, 0x020), (0x27, 0x108), (0x27, 0x10C), (0x27, 0x114), (0x28, 0x020), (0x28, 0x110)]
  | .witnessLoss .. =>
    some [(0x06, 0x020), (0x06, 0x104), (0x11, 0x020), (0x11, 0x128), (0x15, 0x020), (0x15, 0x10C)]
  | .takeover .. | .startingTimeout .. =>
    some [(0x15, 0x020), (0x15, 0x10C), (0x16, 0x020), (0x16, 0x100), (0x16, 0x104), (0x16, 0x110), (0x16, 0x114), (0x28,
      0x020), (0x28, 0x110)]
  | .creditReturn .. =>
    some [(0x06, 0x104)]
  | .bankWakeDone .. =>
    some [(0x07, 0x020), (0x07, 0x104)]
  | .scrubRead .. =>
    some [(0x06, 0x020), (0x06, 0x104), (0x07, 0x020), (0x07, 0x10C), (0x07, 0x110), (0x07, 0x114), (0x07, 0x118), (0x07,
      0x11C), (0x11, 0x020), (0x11, 0x128)]
  | .loanEnd .. =>
    some [(0x06, 0x020), (0x06, 0x104), (0x07, 0x020), (0x07, 0x10C), (0x07, 0x110), (0x07, 0x114), (0x07, 0x118), (0x08,
      0x020), (0x08, 0x108), (0x08, 0x10C), (0x08, 0x118), (0x08, 0x11C), (0x11, 0x020), (0x11, 0x128)]
  | .loanAbort .. =>
    some [(0x08, 0x108), (0x08, 0x110), (0x08, 0x114)]
  | .repairDone .. =>
    some [(0x08, 0x020), (0x08, 0x124), (0x0F, 0x020), (0x0F, 0x130)]
  | .edgePop .. =>
    some [(0x01, 0x020), (0x01, 0x144), (0x01, 0x148), (0x01, 0x14C), (0x05, 0x020), (0x05, 0x110), (0x05, 0x114), (0x05,
      0x118), (0x06, 0x020), (0x06, 0x104), (0x06, 0x210), (0x06, 0x230), (0x06, 0x250), (0x06, 0x270), (0x06, 0x290),
      (0x06, 0x2B0), (0x06, 0x2D0), (0x06, 0x2F0), (0x06, 0x310), (0x06, 0x330), (0x06, 0x350), (0x06, 0x370), (0x06,
      0x390), (0x06, 0x3B0), (0x06, 0x3D0), (0x06, 0x3F0)]
  | .muteEnd .. =>
    some [(0x25, 0x100)]
  | .stacksRead .. =>
    some [(0x05, 0x020), (0x05, 0x110), (0x05, 0x114), (0x05, 0x118), (0x06, 0x020), (0x06, 0x104), (0x06, 0x210), (0x06,
      0x230), (0x06, 0x250), (0x06, 0x270), (0x06, 0x290), (0x06, 0x2B0), (0x06, 0x2D0), (0x06, 0x2F0), (0x06, 0x310),
      (0x06, 0x330), (0x06, 0x350), (0x06, 0x370), (0x06, 0x390), (0x06, 0x3B0), (0x06, 0x3D0), (0x06, 0x3F0), (0x0F,
      0x020), (0x0F, 0x118), (0x0F, 0x11C), (0x0F, 0x120), (0x0F, 0x124), (0x11, 0x020), (0x11, 0x128)]
  | .refreshPage .. =>
    some [(0x0F, 0x020), (0x0F, 0x128), (0x0F, 0x12C), (0x0F, 0x130)]
  | .archiveRecord .. =>
    some [(0x11, 0x020), (0x11, 0x108), (0x11, 0x10C), (0x11, 0x124), (0x11, 0x128), (0x11, 0x12C), (0x11, 0x130), (0x11,
      0x138)]
  | .budgetRefill .. =>
    some [(0x11, 0x138)]
  | .recordAgeFlush .. =>
    some [(0x11, 0x108)]
  | .supplyChangeoverVbat .. =>
    some [(0x0D, 0x020), (0x0D, 0x100), (0x0D, 0x104), (0x0D, 0x10C), (0x0D, 0x110), (0x0D, 0x114)]
  | .supplyChangeoverMain .. =>
    some [(0x06, 0x020), (0x06, 0x104), (0x0D, 0x020), (0x0D, 0x100), (0x0E, 0x020), (0x0E, 0x120), (0x11, 0x020), (0x11,
      0x128)]
  | .continuityLoss .. =>
    some [(0x0D, 0x100)]
  | .vbatMeasure .. =>
    some [(0x0D, 0x020), (0x0D, 0x104), (0x0D, 0x108)]
  | .rtcSecond .. | .rtcSyncLoad .. =>
    some [(0x0D, 0x020), (0x0D, 0x100), (0x0E, 0x020), (0x0E, 0x100), (0x0E, 0x104), (0x0E, 0x10C), (0x0E, 0x110), (0x0E,
      0x120), (0x0E, 0x134)]
  | .xtalFail .. =>
    some [(0x0D, 0x020), (0x0D, 0x100), (0x0D, 0x104)]
  | .xtalReturn .. =>
    some [(0x06, 0x020), (0x06, 0x104), (0x0D, 0x020), (0x0D, 0x100), (0x11, 0x020), (0x11, 0x128)]
  | .rtcMeasureEnd .. =>
    some [(0x0E, 0x020), (0x0E, 0x124), (0x0E, 0x12C)]
  | .mainsLoss .. =>
    some [(0x0E, 0x12C)]
  | .comparatorEdge .. =>
    some [(0x0D, 0x020), (0x0D, 0x100), (0x0D, 0x104), (0x0D, 0x128), (0x0D, 0x12C)]
  | .guardWarn .. =>
    some [(0x0C, 0x020), (0x0C, 0x110)]
  | .refclkRevert .. =>
    some [(0x01, 0x020), (0x01, 0x104), (0x01, 0x108), (0x01, 0x10C), (0x01, 0x110), (0x06, 0x020), (0x06, 0x104), (0x11,
      0x020), (0x11, 0x128)]
  | .resetRelease .. =>
    some [(0x01, 0x020), (0x01, 0x104), (0x02, 0x020), (0x02, 0x100), (0x02, 0x108), (0x03, 0x020), (0x03, 0x118), (0x06,
      0x020), (0x06, 0x104), (0x0E, 0x020), (0x0E, 0x120), (0x11, 0x020), (0x11, 0x128), (0x15, 0x020), (0x15, 0x10C),
      (0x16, 0x020), (0x16, 0x104), (0x17, 0x020), (0x17, 0x108), (0x17, 0x110)]
  | .sessionTimeout .. | .sessionVerifyEnd .. =>
    some [(0x13, 0x020), (0x13, 0x10C)]
  | .partnerDoneDeadline .. =>
    some [(0x06, 0x020), (0x06, 0x104), (0x11, 0x020), (0x11, 0x128), (0x13, 0x020), (0x13, 0x114)]
  | .firmwareCopyEnd .. =>
    some [(0x06, 0x020), (0x06, 0x104), (0x09, 0x020), (0x09, 0x10C), (0x09, 0x110), (0x09, 0x114), (0x09, 0x118), (0x09,
      0x11C), (0x09, 0x120), (0x09, 0x12C), (0x0F, 0x020), (0x0F, 0x130), (0x11, 0x020), (0x11, 0x128), (0x13, 0x020),
      (0x13, 0x114), (0x13, 0x118)]
  | .resumeDeadline .. | .trialDeadline .. =>
    some [(0x06, 0x020), (0x06, 0x104), (0x0F, 0x020), (0x0F, 0x130), (0x11, 0x020), (0x11, 0x128), (0x13, 0x020), (0x13,
      0x114), (0x13, 0x118)]
  | .executiveHealthMark .. =>
    some [(0x13, 0x118)]
  | .settingsRead .. =>
    some [(0x05, 0x020), (0x05, 0x114), (0x05, 0x118), (0x06, 0x020), (0x06, 0x104), (0x06, 0x210), (0x06, 0x230), (0x06,
      0x250), (0x06, 0x270), (0x06, 0x290), (0x06, 0x2B0), (0x06, 0x2D0), (0x06, 0x2F0), (0x06, 0x310), (0x06, 0x330),
      (0x06, 0x350), (0x06, 0x370), (0x06, 0x390), (0x06, 0x3B0), (0x06, 0x3D0), (0x06, 0x3F0), (0x11, 0x020), (0x11,
      0x128)]
  | .settingsWrite .. =>
    some [(0x05, 0x020), (0x05, 0x114), (0x05, 0x118), (0x06, 0x020), (0x06, 0x104), (0x06, 0x210), (0x06, 0x230), (0x06,
      0x250), (0x06, 0x270), (0x06, 0x290), (0x06, 0x2B0), (0x06, 0x2D0), (0x06, 0x2F0), (0x06, 0x310), (0x06, 0x330),
      (0x06, 0x350), (0x06, 0x370), (0x06, 0x390), (0x06, 0x3B0), (0x06, 0x3D0), (0x06, 0x3F0), (0x0F, 0x020), (0x0F,
      0x130)]
  | .mspiReadOut .. =>
    some [(0x24, 0x020), (0x24, 0x100), (0x24, 0x108)]
  | .mspiUnknownCommand .. =>
    some [(0x24, 0x020), (0x24, 0x10C)]
  | .authCounterRead .. =>
    some [(0x05, 0x020), (0x05, 0x110), (0x05, 0x114), (0x05, 0x118), (0x06, 0x020), (0x06, 0x104), (0x06, 0x210), (0x06,
      0x230), (0x06, 0x250), (0x06, 0x270), (0x06, 0x290), (0x06, 0x2B0), (0x06, 0x2D0), (0x06, 0x2F0), (0x06, 0x310),
      (0x06, 0x330), (0x06, 0x350), (0x06, 0x370), (0x06, 0x390), (0x06, 0x3B0), (0x06, 0x3D0), (0x06, 0x3F0), (0x12,
      0x020), (0x12, 0x12C), (0x12, 0x134)]
  | .fsupLastRead .. =>
    some [(0x05, 0x020), (0x05, 0x108), (0x05, 0x110), (0x05, 0x114), (0x05, 0x118), (0x06, 0x020), (0x06, 0x104), (0x06,
      0x210), (0x06, 0x230), (0x06, 0x250), (0x06, 0x270), (0x06, 0x290), (0x06, 0x2B0), (0x06, 0x2D0), (0x06, 0x2F0),
      (0x06, 0x310), (0x06, 0x330), (0x06, 0x350), (0x06, 0x370), (0x06, 0x390), (0x06, 0x3B0), (0x06, 0x3D0), (0x06,
      0x3F0)]
  | .updDeadlineRead .. =>
    some [(0x05, 0x020), (0x05, 0x110), (0x05, 0x114), (0x05, 0x118), (0x06, 0x020), (0x06, 0x104), (0x06, 0x210), (0x06,
      0x230), (0x06, 0x250), (0x06, 0x270), (0x06, 0x290), (0x06, 0x2B0), (0x06, 0x2D0), (0x06, 0x2F0), (0x06, 0x310),
      (0x06, 0x330), (0x06, 0x350), (0x06, 0x370), (0x06, 0x390), (0x06, 0x3B0), (0x06, 0x3D0), (0x06, 0x3F0), (0x13,
      0x020), (0x13, 0x128)]
  | .ptpMessageInterval .. =>
    some [(0x1B, 0x020), (0x1B, 0x10C), (0x1B, 0x110), (0x1B, 0x114), (0x1C, 0x020), (0x1C, 0x11C)]
  | .rtcResyncPeriod .. =>
    some [(0x0E, 0x114), (0x0E, 0x118), (0x0E, 0x120)]
  | .debugResume .. =>
    some [(0x26, 0x104)]
  | _ => none

/-- `t` agrees with `s` on every register that is not in the list, on every die. -/
def RegistersOnly (l : List (Nat × Nat)) (s t : State) : Prop :=
  ∀ (die : Nat) (f : FieldDef), l.contains (f.code % 64, f.off % 4096) = false → t.rd die f = s.rd die f

end Sys2Proof.Machine
end

