-- ==== Sys2Proof/Certificates/Slice0/Obligations.lean ====
section
/-! DEFINITION.  The statements about the block: what a step is, the invariant that every command keeps and the frame of each
command, and, family by family, that each command runs to its end and what it does. -/

open Sys2Proof Sys2Proof.Machine Sys2Proof.Bits

/-- A step takes the command at the front of the queue and gives it its effect on the state with the queue's rest. -/
def Obligations.StepRunsTheFrontCommand : Prop :=
  ∀ (s : State) (c : Instr) (rest : List Instr), s.pending = c :: rest → step s = exec c { s with pending := rest }

/-- With an empty queue one cycle of 5 ns passes (log entry 1: DESIGN CHOICE). -/
def Obligations.EmptyQueuePassesOneCycle : Prop :=
  ∀ s : State, s.pending = [] →
    ∃ t, step s = .next t ∧ t.cycle = s.cycle + 1 ∧ t.time = s.time + 5 ∧ t.mem = s.mem ∧ t.pending = []

/-- Every command runs to its end from every state: it answers a next state, keeps the memory canonical and the register
store in order, draws free values in order and leaves the queue alone (R11, R12, R59: a word out of its Range is ignored,
clamped or slipped, never a stop); that the register store is kept in order is the model's own form of State. -/
def Obligations.EveryCommandCompletesAndKeepsTheStateSane : Prop :=
  ∀ (c : Instr) (s : State),
    ∃ t, exec c s = .next t ∧ (s.Sane → t.Sane) ∧ s.freeCtr ≤ t.freeCtr ∧ t.pending = s.pending

/-- The frame of every command: whatever `exec` answers agrees with the state before on every part of the state that is not
listed for the command, and, where the pages that a command may write are few, on every register of every other page. -/
def Obligations.EveryCommandChangesOnlyItsFrame : Prop :=
  ∀ (c : Instr) (s t : State), exec c s = .next t →
    ChangesOnly (partsOf c) s t ∧ (s.Sane → ∀ l, pagesOf c = some l → PagesOnly l s t)

/-- The frame of the commands whose rules name the registers that they write: every other register, of every page and on every
die, keeps its value. -/
def Obligations.EventsWriteOnlyTheirRegisters : Prop :=
  ∀ (c : Instr) (s t : State) (l : List (Nat × Nat)), s.Sane → registersOf c = some l → exec c s = .next t →
    RegistersOnly l s t

/-- The memory's canonical form and the order of the register store hold at reset. -/
def Obligations.ResetIsSane : Prop :=
State.reset.Sane

/-- Every step from a sane state answers a sane state, and the queue loses its front and nothing else. -/
def Obligations.StepKeepsTheStateSaneAndTakesCommandsInOrder : Prop :=
  ∀ s : State, s.Sane → ∃ t, step s = .next t ∧ t.Sane ∧ s.freeCtr ≤ t.freeCtr ∧ t.pending = s.pending.tail

/-- Keys, locks and interrupts of a page header, and the ends of an arming and of a soft reset, which touch nothing else (R52,
R53, R56, R58). -/
def Obligations.PageHeaderCommandsAct : Prop :=
  ((-- the first key word is taken
    ∀ (s : State) (w : Who) (die code : Nat), s.Sane → (pageFields die code).isSome = true → s.takes w die code = true →
      firstKey s die code w.code = false →
      ∃ t, exec (.keyWordWrite w die code 0xC35A) s = .next t ∧ firstKey t die code w.code = true ∧
        (SMap.sorted s.arming = true → t.isArmed die code = false) ∧ ChangesOnly [.arming] s t) ∧
  (-- the second after it arms the page for the master and 64 cycles
    ∀ (s : State) (w : Who) (die code : Nat), s.Sane → (pageFields die code).isSome = true → s.takes w die code = true →
      firstKey s die code w.code = true →
      ∃ t, exec (.keyWordWrite w die code (0xA500 + code)) s = .next t ∧
        SMap.find? t.arming (die * 64 + code) = some ⟨w.code, true, s.cycle + 64⟩ ∧ t.isArmed die code = true ∧
        ChangesOnly [.arming] s t) ∧
  (-- a 1 to a group locks it
    ∀ (s : State) (w : Who) (die code word : Nat), s.Sane → (pageFields die code).isSome = true → s.takes w die code = true →
      word &&& lockGroups die code = word → word < 2 ^ 32 →
      ∃ t, exec (.lockGroupSet w die code word) s = .next t ∧
        t.rd die (LOCKS_GROUP code) = (s.rd die (LOCKS_GROUP code) ||| word) % 2 ^ 8 ∧
        ChangesOnly [.regs, .dirty, .arming] s t) ∧
  (-- a 1 sets an interrupt source
    ∀ (s : State) (w : Who) (die code word : Nat), s.Sane → (pageFields die code).isSome = true → s.takes w die code = true →
      word &&& irqSources die code = word → word < 2 ^ 32 →
      ∃ t, exec (.irqSet w die code word) s = .next t ∧
        t.rd die (IRQ_RAW_SRC code) = (s.rd die (IRQ_RAW_SRC code) ||| word) % 2 ^ 32 ∧
        ChangesOnly [.regs, .dirty, .arming] s t) ∧
  (-- a 1 clears it, but for an event of the same cycle
    ∀ (s : State) (w : Who) (die code word events : Nat), s.Sane → (pageFields die code).isSome = true →
      s.takes w die code = true → word &&& irqSources die code = word → word < 2 ^ 32 →
      ∃ t, exec (.irqClear w die code word events) s = .next t ∧
        t.rd die (IRQ_RAW_SRC code) =
          (minus 32 (s.rd die (IRQ_RAW_SRC code)) word % 2 ^ 32 ||| (events &&& irqSources die code)) % 2 ^ 32 ∧
        ChangesOnly [.regs, .dirty, .arming] s t)) ∧
  ((∀ (s : State) (die code : Nat) (a : Arming), SMap.sorted s.arming = true →
    SMap.find? s.arming (die * 64 + code) = some a →
    ∃ t, exec (.armingExpiry die code) s = .next t ∧ t.isArmed die code = false ∧ ChangesOnly [.arming] s t) ∧
  ∀ (s : State) (die code : Nat), SMap.sorted s.softReset = true →
    (isScan die = true → code = 0 ∨ SMap.find? s.softReset (die * 64) = none) →
    ∃ t, exec (.softResetEnd die code) s = .next t ∧ t.notReady die code = false ∧ ChangesOnly [.softReset] s t)

/-- A word that a page and its register take is stored field by field, and no other register of any die changes (R10, R46, R59,
R99): the registers whose fields are all RW and whose write is only their store, on the Keeper's pages and on those of a Scan
die. -/
def Obligations.RegisterWriteStoresEveryField : Prop :=
  ∀ (s : State) (w : Who) (die code off word : Nat), s.Sane →
    (die = 0 ∧ (code, off) ∈
      [(0x05, 0x100), (0x06, 0x100), (0x06, 0x108), (0x07, 0x108), (0x08, 0x104), (0x09, 0x124), (0x0A, 0x100),
       (0x0A, 0x104), (0x0A, 0x108), (0x0A, 0x10C), (0x0A, 0x110), (0x0B, 0x100), (0x0B, 0x104), (0x0E, 0x114),
       (0x0E, 0x118), (0x0E, 0x124), (0x0E, 0x130), (0x0E, 0x134), (0x0F, 0x100), (0x0F, 0x104), (0x0F, 0x108),
       (0x0F, 0x110), (0x11, 0x14C), (0x11, 0x150), (0x12, 0x124), (0x13, 0x100), (0x14, 0x104), (0x15, 0x104),
       (0x15, 0x108), (0x15, 0x128), (0x17, 0x104), (0x19, 0x104), (0x1A, 0x100), (0x1A, 0x104), (0x1A, 0x108),
       (0x1A, 0x10C), (0x1B, 0x104), (0x1B, 0x108), (0x1C, 0x100), (0x1D, 0x104), (0x1D, 0x108), (0x21, 0x104),
       (0x21, 0x108), (0x21, 0x128), (0x23, 0x100), (0x23, 0x104), (0x23, 0x108), (0x23, 0x110), (0x28, 0x100)] ∨
    isScan die = true ∧ (code, off) ∈
      [(0x05, 0x100), (0x06, 0x100), (0x06, 0x108), (0x07, 0x108), (0x08, 0x104), (0x09, 0x104), (0x0B, 0x100),
       (0x0C, 0x104), (0x0E, 0x104), (0x0E, 0x108), (0x0E, 0x10C), (0x0E, 0x110), (0x0E, 0x130), (0x0E, 0x134)]) →
    s.takes w die code = true → s.fits w die code off word = true →
    Completes (.registerWrite w die code off word) s fun t =>
      (∀ f ∈ regFields die code off, t.rd die f = f.get word) ∧
      ChangesOnly (if die = 0 ∧ code = 0x0A ∧ off = 0x100 then [.regs, .dirty, .arming, .exch] else [.regs, .dirty, .arming]) s t ∧
      RegistersOnly [(code, off)] s t

/-- A write of a master that the page does not accept, and a write during a soft reset, are ignored: one slip, of kind ACCESS or
NOT_READY, is all that follows, and the arming of the page is taken; every slip is logged in the ring of its die, moves the
ring on and is counted (R53, R55, R57, R60 to R63). -/
def Obligations.RefusedWritesAreSlippedAndLogged : Prop :=
  (∀ (s : State) (w : Who) (die code off word : Nat), die ≠ 1 → pageAt die code off = true → 0x100 ≤ off →
    s.reaches w die = true → ¬(die = 0 ∧ code ∈ [0x0C, 0x0F, 0x19, 0x1A]) → ¬(isScan die = true ∧ code = 0x0C) → s.takes w die code = false →
    exec (.registerWrite w die code off word) s = .next
      ((takeArming s die code w.code).2.slip die code off 0 32 (if mayWrite die code w then .notReady else .access)
        w.code word (s.readWord w.code die code off))) ∧
  (∀ (s : State) (die code off lsb width : Nat) (kind : SlipKind) (who written applied : Nat), s.Sane → die < 8 →
    s.rd die (clampF die Reg.CLAMP_STAT_NEXT) < 32 →
    let t := s.slip die code off lsb width kind who written applied
    let entry := (clampF die Reg.CLAMP_RINGi_Ww).i (s.rd die (clampF die Reg.CLAMP_STAT_NEXT))
    t.rd die (CLAMPS_COUNT code) = satAdd 16 (s.rd die (CLAMPS_COUNT code)) 1 ∧
    t.rd die (clampF die Reg.CLAMP_TOTAL_COUNT) = satAdd 32 (s.rd die (clampF die Reg.CLAMP_TOTAL_COUNT)) 1 ∧
    t.rd die (clampF die Reg.CLAMP_STAT_NEXT) = (s.rd die (clampF die Reg.CLAMP_STAT_NEXT) + 1) % 32 ∧
    t.rd die (clampF die Reg.CLAMP_SEQ_NEXT) = (s.rd die (clampF die Reg.CLAMP_SEQ_NEXT) + 1) % 2 ^ 32 ∧
    t.rd die (entry.i2 0) = regAddr die code off % 2 ^ 32 ∧
    t.rd die (entry.i2 1) = (lsb + width * 32 + kind.code * 2048 + who * 65536) % 2 ^ 32 ∧
    t.rd die (entry.i2 2) = written % 2 ^ 32 ∧ t.rd die (entry.i2 3) = applied % 2 ^ 32 ∧
    t.rd die (entry.i2 6) = s.rd die (clampF die Reg.CLAMP_SEQ_NEXT) % 2 ^ 32)

/-- A read of a counter of FAB answers the word shown and returns the counter to zero (R10, R352); a soft reset hides the
page and brings `PCTL.EN` and the interrupt registers back (R53); `CLAMP.CTL.ZERO` clears the slip counts (R61). -/
def Obligations.ReadsAndResetsOfPagesAct : Prop :=
  (∀ (s : State) (w : Who) (die off : Nat), s.Sane → (die = 0 ∨ isScan die = true) →
    off ∈ [0x110, 0x114, 0x118, 0x11C, 0x120, 0x124, 0x128] → s.reaches w die = true → s.notReady die 5 = false →
    Completes (.rcRead w die 5 off) s fun t =>
      SMap.find? t.replies w.code = some ⟨s.readWord w.code die 5 off, false⟩ ∧
      (∀ f ∈ regFields die 5 off, t.rd die f = 0) ∧ ChangesOnly [.regs, .dirty, .replies] s t ∧ PagesOnly [5] s t) ∧
  (∀ (s : State) (w : Who) (die code : Nat) (en : Bool), s.Sane → isScan die = true → code < 0x13 →
    s.takes w die code = true → srstRefused s die code = false → ¬(0x0E ≤ code ∧ code ≤ 0x11) → code ∉ [6, 7, 8, 0x0C] →
    Completes (.softReset w die code en) s fun t =>
      t.notReady die code = true ∧ t.rd die (PCTL_EN code) = 1 ∧ t.rd die (IRQ_RAW_SRC code) = 0 ∧
      t.rd die (IRQ_EN_SRC code) = 0) ∧
  (∀ (s : State) (w : Who) (die word : Nat), s.Sane → die < 8 → word ∈ [2, 3] → s.takes w die (clampPage die) = true →
    Completes (.clampZero w die word) s fun t =>
      t.rd die (clampF die Reg.CLAMP_TOTAL_COUNT) = 0 ∧ t.rd die (clampF die Reg.CLAMP_CTL_ARCHIVE) = word % 2 ∧
      ∀ c, c < 0x2A → t.rd die (CLAMPS_COUNT c) = 0)

/-- Writes to the Field pages reach the proxy at once and wait for a control frame, which carries them all; one that finds 64
waiting is held with its response (R50, R64, R379, R386, R387, R392, R394, R399). -/
def Obligations.FieldPageWritesWaitForAControlFrame : Prop :=
  (∀ (s : State) (w : Who), s.Sane → s.fieldPresent = true → s.fld.waiting.length < 64 →
    (∀ code off word, code ∈ [1, 2] → pageAt 1 code off = true → s.takes w 1 code = true → s.fits w 1 code off word = true →
      Completes (.fieldProxyWrite w code off word) s fun t =>
        t.fld.waiting = s.fld.waiting ++ [⟨code, off, word, s.time⟩] ∧ bit t.fieldStale code = true) ∧
    (∀ word, word < 256 → s.takes w 1 2 = true →
      Completes (.doClearShort w word) s fun t => t.fld.waiting = s.fld.waiting ++ [⟨2, 0x104, word, s.time⟩]) ∧
    (s.takes w 1 6 = true → s.rd 1 Reg.F_FSUP_STAT_LEVEL < 3 → s.on 0 Reg.IMG_STAT_SAFE_VALID = true →
      Completes (.fieldArm w) s fun t => t.fld.waiting = s.fld.waiting ++ [⟨6, 0x100, 1, s.time⟩]) ∧
    (s.takes w 1 6 = true →
      Completes (.fieldDisarm w) s fun t =>
        t.fld.waiting = s.fld.waiting ++ [⟨6, 0x100, 2, s.time⟩] ∧
        (s.controlFlows = true → t.fld.armed = false ∧ t.fld.safeHeld = false ∧ t.fld.trim = [])) ∧
    (∀ k step, k < 2 → step ∈ [1, 2] → s.takes w 1 3 = true → s.on 1 Reg.F_FSAFE_STAT_ARMED = true →
      s.rd 0 Reg.TABLET_STAT_STATE = 2 → s.trimming = false →
      Completes (.trimStep w (k + 2 * step)) s fun t =>
        t.rd 1 Reg.F_FAO_TRIM_STAT_STATE = step ∧ t.rd 1 Reg.F_FAO_TRIM_STAT_CHANNEL = k ∧
        SMap.find? t.fld.trim k = some (if step = 1 then 8000 else 40000)) ∧
    (∀ k char, k < 2 → char < 256 → s.takes w 1 4 = true → s.fskMaySend k = true →
      (SMap.get [] s.fld.fskTx k).length < 64 →
      Completes (.fskTxWrite w k char) s fun t =>
        SMap.get [] t.fld.fskTx k = SMap.get [] s.fld.fskTx k ++ [char] ∧ t.rd 1 (Reg.F_FSK_STATk_TX_COUNT.i k) =
          ((SMap.get [] s.fld.fskTx k).length + 1) % 2 ^ Reg.F_FSK_STATk_TX_COUNT.width) ∧
    (s.controlFlows = true → s.fieldHolds = false →
      Completes .controlFrame s fun t =>
        t.fld.sent = s.fld.sent ++ s.fld.waiting ∧ t.fld.waiting = [] ∧ t.fld.flow = true ∧ t.fld.lastControl = s.time)) ∧
  (∀ (s : State) (w : Who) (code off word : Nat), s.Sane → 64 ≤ s.fld.waiting.length → pageAt 1 code off = true → s.takes w 1 code = true →
    Completes (.fieldProxyWrite w code off word) s fun t =>
      State.pageReq w 1 code off word ∈ t.holding ∧ t.fld = s.fld ∧ t.replies = s.replies ∧ PagesOnly [5] s t)

/-- Status frames, absence, power-up and the end of a push or pull of the proxy (R64, R379, R380, R398, R408). -/
def Obligations.FieldFramesKeepTheProxy : Prop :=
  ∀ (s : State), s.Sane →
    (∀ r, Completes (.statusFrame false r) s fun t =>
      t.rd 0 Reg.FPX_LINKERR_COUNT = satAdd Reg.FPX_LINKERR_COUNT.width (s.rd 0 Reg.FPX_LINKERR_COUNT) 1 ∧ t.fld = s.fld) ∧
    (∀ r, s.fieldPresent = true → s.fieldHolds = false → fv24Level s.fld.level r.mv = s.fld.level →
      Completes (.statusFrame true r) s fun t =>
        t.fld.goodAt = s.time ∧ t.fld.sent = [] ∧ t.fld.own = s.fld.sent.foldl State.applyWrite s.fld.own ∧
        t.fld.trips = 0 ∧ t.fld.crossings = []) ∧
    (s.fieldPresent = true → s.fieldHolds = false →
      Completes .fieldAbsent s fun t =>
        t.fieldPresent = false ∧ t.fieldStale = 0xFF ∧ t.fld.waiting = [] ∧ t.fld.sent = [] ∧
        t.rd 1 Reg.F_FSUP_STAT_LEVEL = 4) ∧
    (∀ mv, s.fieldHolds = false → Completes (.fieldPowerup mv) s fun t =>
      t.fieldPresent = true ∧ t.on 0 Reg.FPX_STAT_PUSHING = true ∧ t.on 0 Reg.FPX_STAT_PULLING = false ∧
      t.on 1 Reg.F_SYS_STAT_FRESH = true ∧ t.fieldStale = 0xFF ∧ t.fld.own = [] ∧ t.fld.armed = false ∧
      t.fld.level = fv24Level 3 mv) ∧
    (s.on 0 Reg.FPX_STAT_PUSHING = true →
      Completes .proxyPushEnd s fun t => t.on 0 Reg.FPX_STAT_PUSHING = false ∧ t.on 1 Reg.F_SYS_STAT_FRESH = false ∧
        t.fieldStale = s.pendingPages) ∧
    (s.on 0 Reg.FPX_STAT_PULLING = true →
      Completes .proxyPullEnd s fun t => t.fld.pullDue = false ∧ t.fieldStale = s.pendingPages) ∧
    (∀ w : Who, s.reaches w 0 = true → Completes (.fsupLastRead w) s fun t =>
      t.rd 1 Reg.F_FSUP_LAST_HI_TIME = s.fld.last.1 % 2 ^ Reg.F_FSUP_LAST_HI_TIME.width ∧
      t.rd 1 Reg.F_FSUP_LAST_HI_FROM = s.fld.last.2.1 % 2 ^ Reg.F_FSUP_LAST_HI_FROM.width ∧
      t.rd 1 Reg.F_FSUP_LAST_HI_TO = s.fld.last.2.2 % 2 ^ Reg.F_FSUP_LAST_HI_TO.width ∧
      SMap.find? t.replies w.code = some ⟨s.readWord w.code 1 5 0x104, false⟩)

/-- Digital inputs and the FSK modem (R384 to R386, R391, R392, R407). -/
def Obligations.FieldInputsAndModemAct : Prop :=
  ∀ (s : State), s.Sane → SMap.sorted s.fld.fskTx = true → SMap.sorted s.fld.fskRx = true →
    (∀ levels, s.fieldPresent = true → levels < 2 ^ 16 →
      Completes (.diSample levels) s fun t =>
        t.rd 1 Reg.F_FDI_LEVELS_RAW = levels ∧ t.fld.sampleNo = max ((s.time + 999) / 1000) (s.fld.sampleNo + 1)) ∧
    (∀ w : Who, s.reaches w 0 = true → Completes (.edgePop w) s fun t =>
      t.fld.edges = s.fld.edges.tail ∧ SMap.find? t.replies w.code = some ⟨s.readWord w.code 1 1 0x148, false⟩) ∧
    (∀ k, k < 2 → s.on 1 (Reg.F_FSK_STATk_SENDING.i k) = true →
      Completes (.fskCharacterSent k) s fun t => SMap.get [] t.fld.fskTx k = (SMap.get [] s.fld.fskTx k).tail) ∧
    (∀ k char parityErr framingErr, k < 2 → s.on 1 (Reg.F_FSK_CTLk_EN.i k) = true →
      s.on 1 (Reg.F_FSK_STATk_SENDING.i k) = false → (SMap.get [] s.fld.fskRx k).length < 64 →
      Completes (.fskCharacterReceive k char parityErr framingErr) s fun t =>
        SMap.get [] t.fld.fskRx k =
          SMap.get [] s.fld.fskRx k ++ [char % 256 + 256 * ofBool parityErr + 512 * ofBool framingErr]) ∧
    (∀ (w : Who) k, k < 2 → s.reaches w 0 = true →
      Completes (.fskRxPop w k) s fun t =>
        SMap.get [] t.fld.fskRx k = (SMap.get [] s.fld.fskRx k).tail ∧
        SMap.find? t.replies w.code = some ⟨s.readWord w.code 1 4 (0x108 + 0x20 * k), false⟩) ∧
    (∀ k on, k < 2 → s.on 1 (Reg.F_FSK_CTLk_EN.i k) = true → s.on 1 (Reg.F_FSK_STATk_CARRIER.i k) ≠ on →
      Completes (.fskCarrierChange k on) s fun t =>
        t.on 1 (Reg.F_FSK_STATk_CARRIER.i k) = on ∧ bit (t.rd 1 (IRQ_RAW_SRC 4)) 4 = true)

/-- Protection, diagnostics, silence and FV24 of the Field die, and the trim by pins with its storing (R378, R387, R388, R390,
R393, R395, R397, R400 to R402). -/
def Obligations.FieldOutputsAndTrimAct : Prop :=
  (∀ (s : State), s.Sane →
    (∀ k thermal, k < 8 → bit s.doOn k = true →
      Completes (.doTrip k thermal) s fun t =>
        bit (if thermal then t.fld.thermals else t.fld.shorts) k = true ∧ bit t.doOn k = false ∧
        t.fld.trips = s.fld.trips + 1) ∧
    (∀ k, k < 8 → bit s.fld.doOut k = true → bit (s.fd Reg.F_FDO_CFG_RETRY) k = true →
      Completes (.doRetry k) s fun t => bit (t.fld.shorts ||| t.fld.thermals) k = false) ∧
    (∀ k o, k < 8 → s.fld.level < 2 → bit s.doOn k = true → (o = false ∨ bit (s.fd Reg.F_FDO_CFG_OPEN_DET) k = true) →
      Completes (.openLoad k o) s fun t => bit t.fld.opens k = o) ∧
    (∀ k fault, k < 2 → s.fld.level < 2 → Completes (.loopFault k fault) s fun t => bit t.fld.loopFaults k = fault) ∧
    (∀ ch fault, ch < 10 → Completes (.couplerFault ch fault) s fun t => bit t.fld.couplers ch = fault) ∧
    (s.fld.flow = true →
      Completes .silenceExpiry s fun t =>
        t.fld.silent = true ∧ t.fld.flow = false ∧ t.fld.silences = satAdd 32 s.fld.silences 1 ∧
        (s.fd Reg.F_FSAFE_MODE_SAFE = 1 → t.fld.armed = false ∧ t.fld.safeHeld = (s.fld.safeHeld || s.fld.armed)) ∧
        (s.fd Reg.F_FSAFE_MODE_SAFE ≠ 1 → t.fld.armed = s.fld.armed)) ∧
    (∀ (w : Who) u, s.takes w 0 0x25 = true → SMap.find? s.arming 0x25 = some ⟨w.code, true, u⟩ → s.cycle < u →
      Completes (.fpxMute w 1) s fun t => t.on 0 Reg.FPX_CTL_MUTE = true ∧ t.fld.muteAt = s.time) ∧
    (s.on 0 Reg.FPX_CTL_MUTE = true →
      Completes .muteEnd s fun t => t.on 0 Reg.FPX_CTL_MUTE = false ∧ s.fld.muteAt + 300000000 ≤ t.time) ∧
    (∀ mv, Completes (.fv24Crossing mv) s fun t =>
      t.fld.level = fv24Level s.fld.level mv ∧ t.fld.minMv = min s.fld.minMv mv ∧
      (fv24Level s.fld.level mv = 3 → s.fld.level ≠ 3 → t.fld.armed = false))) ∧
  (∀ (s : State), s.Sane → s.on 1 Reg.F_FAO_TRIM_PIN_EN = true →
    (∀ up k, s.trimming = true → s.on 1 Reg.F_FAO_TRIM_STAT_PINS = true → s.rd 1 Reg.F_FAO_TRIM_STAT_CHANNEL = k → k < 2 →
      let f := if s.rd 1 Reg.F_FAO_TRIM_STAT_STATE = 1 then Reg.F_FAO_ZEROk_UNITS.i k else Reg.F_FAO_SPANk_UNITS.i k
      Completes (.trimPinPress up) s fun t =>
        toInt 12 (t.rd 1 f) = clampInt (-1000) 1000 (toInt 12 (s.rd 1 f) + if up then 2 else -2) ∧ t.fld.pressAt = s.time) ∧
    (∀ sel, s.fieldPresent = true → s.trimming = false → s.on 1 Reg.F_FSAFE_STAT_ARMED = true → s.tabletHeld = true →
      Completes (.trimPinHold sel) s fun t =>
        t.rd 1 Reg.F_FAO_TRIM_STAT_STATE = 1 ∧ t.on 1 Reg.F_FAO_TRIM_STAT_PINS = true ∧
        t.rd 1 Reg.F_FAO_TRIM_STAT_CHANNEL = ofBool sel ∧ SMap.find? t.fld.trim (ofBool sel) = some 8000) ∧
    (s.trimming = true → s.on 1 Reg.F_FAO_TRIM_STAT_PINS = true → s.rd 1 Reg.F_FAO_TRIM_STAT_CHANNEL < 2 →
      Completes .trimTimeout s fun t =>
        t.rd 1 Reg.F_FAO_TRIM_STAT_STATE = 0 ∧
        t.rd 1 (Reg.F_FAO_ZEROk_UNITS.i (s.rd 1 Reg.F_FAO_TRIM_STAT_CHANNEL)) = s.fld.trimOld.1 % 2 ^ 12 ∧
        t.rd 1 (Reg.F_FAO_SPANk_UNITS.i (s.rd 1 Reg.F_FAO_TRIM_STAT_CHANNEL)) = s.fld.trimOld.2 % 2 ^ 12))

/-- The instants of a frame, from the tick to the Spread and the Commit sample (R66, R71 to R73, R76, R178). -/
def Obligations.FrameInstantsToTheSampleAct : Prop :=
  ∀ (s : State), s.Sane →
    (s.aon.held = none → s.aon.asleep = false →
      ∃ t, exec .tick s = .next t ∧
        (t.time = s.firstTick s.tickFrom ∧
        t.rowsEnded = [] ∧ t.rowsStarted = [] ∧ t.rowsDone = [])) ∧
    (s.frame.cutCopy = true →
      ∃ t, exec .cutCopyEnd s = .next t ∧
        (t.frame.cutCopy = false ∧ t.exch.copies = [] ∧ t.on 0 Reg.XCHG_STAT_CUT = false ∧
        t.rd 0 Reg.XCHG_CUT_LAST_CYCLES = 5120 ∧ t.cycle = max s.cycle (s.frame.tickCycle + 5120))) ∧
    (∀ die, s.frame.ticked = true → s.outage = false → s.live die = true → s.clocked die = true → s.absentDie die = false →
      inDies s.frame.spreadDone die = false → s.standby = false →
      ∃ t, exec (.spreadEnd die) s = .next t ∧
        (t.on die Reg.PLAT_STAT_SPREAD_DONE = true ∧ inDies t.frame.spreadDone die = true)) ∧
    (s.rowsRun = true →
      ∃ t, exec .spreadByDeadline s = .next t ∧
        (t.frame.late = s.frame.late |||
          maskOf ((scanDies.filter fun d => s.live d && !inDies s.frame.spreadDone d).map (· - 2)) ∧
        s.frame.tickTime + 1000 * s.rd 0 Reg.FWATCH_SPREAD_BY_US ≤ t.time)) ∧
    (s.frame.ticked = true → s.frame.sampled = false → s.outage = false → s.aon.holdup = 0 → s.standby = false →
      let u := s.advanceTo s.sampleCycle
      ∃ t, exec .commitSample s = .next t ∧
        (t.frame.sampled = true ∧ (t.prog.frameMode = 2 ∨ t.on 0 Reg.MODE_STAT_PENDING = true ∨ t.frame.lost = 0) ∧ t.cycle = max s.cycle s.sampleCycle ∧
        (s.prog.frameMode = 0 → t.frame.safeCopy = true ∧ t.frame.flag = 0x40) ∧
        (s.prog.frameMode = 2 → u.requestDue = false →
          t.frame.flag = 0x20 ∧ t.frame.build = true ∧ t.frame.buildAt = u.cycle) ∧
        (s.prog.frameMode ∈ [1, 3] → s.missing = 0 → u.requestDue = false → t.frame.gather = true ∧ t.frame.flag = 0x80) ∧
        (s.prog.frameMode ∈ [1, 3] → s.missing ≠ 0 →
          t.frame.safeCopy = true ∧ t.frame.flag = 0x40 ∧ t.forcedStop = true)))

/-- The end of the Commit and the Safe copy, the release build and the release; a selected row starts and ends by its budget
(R74, R76, R78, R81, R84, R87, R177, R178, R205, R271). -/
def Obligations.CommitReleaseAndRowsAct : Prop :=
  (∀ (s : State), s.Sane →
    (s.frame.gather = true →
      Completes .commitEnd s fun t =>
        t.frame.gather = false ∧ t.on 0 Reg.IMG_STAT_OUT_BUF = !s.on 0 Reg.IMG_STAT_OUT_BUF ∧
        (s.standby = false → t.frame.build = true)) ∧
    (s.frame.safeCopy = true →
      Completes .safeCopyEnd s fun t =>
        t.frame.safeCopy = false ∧ t.on 0 Reg.IMG_STAT_OUT_BUF = !s.on 0 Reg.IMG_STAT_OUT_BUF ∧
        (s.standby = false → t.frame.build = true)) ∧
    (s.frame.build = true →
      Completes .releaseBuildEnd s fun t =>
        t.frame.build = false ∧ t.frame.built = true ∧ t.frame.releaseFrame = s.frameNo ∧
        t.on 0 Reg.XCHG_STAT_BUILD = false ∧ t.cycle = max s.cycle (s.frame.buildAt + 5200)) ∧
    (s.frame.built = true → s.aon.holdup = 0 → s.frameNo = s.frame.releaseFrame + 1 →
      Completes .release s fun t =>
        t.frame.built = false ∧ s.frame.tickTime + 1000 * s.rd 0 Reg.TICK_RELEASE_AT_US ≤ t.time) ∧
    (∀ port f rest, SMap.sorted s.exch.txPorts = true → SMap.get [] s.exch.txPorts port = f :: rest →
      Completes (.outputFrameStart port) s fun t =>
        SMap.get [] t.exch.txPorts port = rest ∧ s.exch.releaseAt + (f.start + 9) / 10 ≤ t.time)) ∧
  (∀ (s : State) (die : Nat), s.Sane →
    (∀ row, s.rowMayStart die row = true → s.rowField die (s.activeBank die) row Reg.TTBL_ROW_W0_ENGINE < 7 →
      s.rowField die (s.activeBank die) row Reg.TTBL_ROW_W3_SHUNT = 0 →
      let f := s.rowField die (s.activeBank die) row
      Completes (.rowStart die row) s fun t =>
        t.cycle = max s.cycle (s.frame.tickCycle + f Reg.TTBL_ROW_W0_START) ∧
        ∃ x, t.slot? die (f Reg.TTBL_ROW_W0_ENGINE) = some x ∧ x.running = true ∧ x.row = row ∧
          x.task = f Reg.TTBL_ROW_W1_TASK ∧ x.fence = f Reg.TTBL_ROW_W3_FENCE ∧ x.length = f Reg.TTBL_ROW_W1_LENGTH ∧
          x.start = t.cycle) ∧
    (∀ engine x, isScan die = true → engine < 7 → s.slot? die engine = some x → x.running = true → x.shunt = false →
      Completes (.budgetExpiry die engine) s fun t =>
        t.rowRunning die engine = false ∧ t.cycle = max s.cycle (x.start + x.length) ∧
        (x.idle = false → bit (SMap.get 0 t.skipped die) x.task = true)))

/-- Writes to the Timetable and to FWATCH, and points set (R83, R95, R96, R100, R101). -/
def Obligations.TimetableCommandsAct : Prop :=
  ∀ (s : State) (w : Who), s.Sane →
    (∀ die word, isScan die = true → s.takes w die 9 = true → s.fits w die 9 0x114 word = true →
      s.rd die Reg.TTBL_ROWSEL_BANK < 2 → s.rd die Reg.TTBL_ROWSEL_ROW < 512 →
      s.rd die Reg.TTBL_ROWSEL_BANK ≠ s.activeBank die →
      Completes (.ttblRowWrite w die word) s fun t => ∀ f ∈ rowFields,
        t.rowField die (s.rd die Reg.TTBL_ROWSEL_BANK) (s.rd die Reg.TTBL_ROWSEL_ROW) f =
          if f.off = 0x114 then f.get word else s.rd die (f.w staged) % 2 ^ f.width) ∧
    (∀ die word, isScan die = true → s.takes w die 9 = true → s.fits w die 9 0x100 (word ||| 1) = true →
      Completes (.ttblPoints w die word) s fun t =>
        t.on die Reg.TTBL_STAT_CHECKING = true ∧ t.on die Reg.TTBL_STAT_PENDING = false ∧
        t.on die Reg.TTBL_STAT_CHECK_FAIL = false) ∧
    (∀ die, isScan die = true → s.takes w die 9 = true →
      Completes (.ttblCancel w die) s fun t =>
        t.on die Reg.TTBL_STAT_CHECKING = false ∧ t.on die Reg.TTBL_STAT_PENDING = false) ∧
    (∀ die, isScan die = true → s.on die Reg.TTBL_STAT_CHECKING = true → s.points.standing = false →
      let u := s.wr die Reg.TTBL_STAT_CHECKING 0
      Completes (.pointsCheckEnd die) s fun t =>
        t.on die Reg.TTBL_STAT_CHECKING = false ∧
        (u.checkBank die (1 - s.activeBank die) = none →
          t.on die Reg.TTBL_STAT_PENDING = true ∧ SMap.find? t.checkPassed die = some s.cycle) ∧
        (∀ r k, u.checkBank die (1 - s.activeBank die) = some (r, k) →
          t.on die Reg.TTBL_STAT_CHECK_FAIL = true ∧ t.rd die Reg.TTBL_STAT_FAIL_ROW = r % 2 ^ Reg.TTBL_STAT_FAIL_ROW.width ∧
          t.rd die Reg.TTBL_STAT_FAIL_REASON = k % 2 ^ Reg.TTBL_STAT_FAIL_REASON.width)) ∧
    (∀ dies, dies < 64 → s.takes w 0 0x0A = true → (∀ d ∈ scanDies, inDies dies d = true → s.uncheckable d = false) →
      Completes (.tickPointsGo w dies) s fun t =>
        t.points = (if dies = 0 then ⟨false, 0, 0⟩ else ⟨true, dies, 0⟩) ∧
        ∀ d ∈ scanDies, inDies dies d = true → t.on d Reg.TTBL_STAT_CHECKING = true) ∧
    (s.takes w 0 0x0B = true →
      Completes (.marginClear w 1) s fun t => t.rd 0 Reg.FWATCH_MARGIN_CYCLES = 0x1FFFFFF) ∧
    (s.on 0 Reg.PTP_STAT_SLAVE = true →
      Completes .ptpMasterLost s fun t => t.on 0 Reg.TICK_STAT_HOLDOVER = true ∧ bit (t.rd 0 (IRQ_RAW_SRC 0x0A)) 2 = true) ∧
    (s.on 0 Reg.TICK_STAT_HOLDOVER = true →
      Completes .ptpMasterFound s fun t => t.on 0 Reg.TICK_STAT_HOLDOVER = false ∧ bit (t.rd 0 (IRQ_RAW_SRC 0x0A)) 2 = true)

/-- Requests of `MODE.REQ` are accepted or refused with their code (R191, R193); the end of the preparation, the request
after power-up, and a staged Safe image (R192, R197, R204;
where it is staged is the model's choice, log entry 40). -/
def Obligations.ModeRequestsAct : Prop :=
  ∀ (s : State) (w : Who), s.Sane →
    (s.takes w 0 0x27 = true → ∀ start, start < 3 → ∀ c, c ∈ [1, 2, 3, 4] →
      let kind := if c = 2 ∨ c = 3 then start else 0
      let cmd := if c = 1 then Instr.modeStop w else if c = 2 then .modeRun w start else if c = 3 then .modeHold w start
        else .modeStep w
      (s.refusal c kind = none →
        Completes cmd s fun t =>
          t.on 0 Reg.MODE_STAT_PENDING = true ∧ t.rd 0 Reg.MODE_STAT_PENDING_CMD = c ∧ t.prog.accept = s.cycle ∧
          t.on 0 Reg.MODE_STAT_PREPARING = (s.mode == 0) ∧ (s.mode = 0 → t.prog.kind = kind)) ∧
      (∀ r, s.refusal c kind = some r →
        Completes cmd s fun t =>
          t.rd 0 Reg.MODE_REASON_REFUSE = r % 16 ∧ t.rd 0 Reg.MODE_REASON_REFUSED_CMD = c ∧ t.prog = s.prog ∧
          t.on 0 Reg.MODE_STAT_PENDING = s.on 0 Reg.MODE_STAT_PENDING)) ∧
    (s.on 0 Reg.MODE_STAT_PREPARING = true →
      Completes .startPreparationEnd s fun t =>
        t.on 0 Reg.MODE_STAT_PREPARING = false ∧ t.prog.prepEnd = some s.cycle) ∧
    (s.firmware = true → s.on 0 Reg.IMG_STAT_SAFE_VALID = true → s.prog.askedPowerup = false →
      Completes .powerupRunRequest s fun t =>
        t.prog.askedPowerup = true ∧
        (s.rd 0 Reg.MODE_CFG_POWERUP = 1 → s.refusal 2 1 = none →
          t.on 0 Reg.MODE_STAT_PENDING = true ∧ t.rd 0 Reg.MODE_STAT_PENDING_CMD = 2)) ∧
    (s.on 0 Reg.IMG_STAT_SAFE_LOADING = true →
      Completes .safeImageLoaded s fun t =>
        t.on 0 Reg.IMG_STAT_SAFE_VALID = true ∧ t.on 0 Reg.IMG_STAT_SAFE_LOADING = false ∧
        ∀ i, i < 163840 → t.loadByte (K_IMAGE + 0x78000 + i) = s.loadByte (K_DEPOT + safeStage + i))

/-- A power failure and its hold-up sequence (R203, R433, R463). -/
def Obligations.PowerFailureIsHeldUp : Prop :=
  ∀ (s : State), s.Sane →
    (s.on 0 Reg.PWR_STAT_PF = false → s.aon.holdup = 0 → s.aon.held = none → s.aon.asleep = false →
      Completes .powerFail s fun t =>
        t.aon.holdup = 1 ∧ t.aon.failAt = s.time ∧ t.frame.gather = false ∧ t.frame.safeCopy = false ∧
        t.frame.build = false ∧ t.frame.built = false ∧ t.exch.txPorts = []) ∧
    (s.aon.holdup = 1 ∨ s.aon.holdup = 2 → s.rowsStill = true →
      Completes .retainedSaveEnd s fun t =>
        t.aon.holdup = 3 ∧ t.on 0 Reg.MODE_STAT_HOT_OK = false ∧
        t.rd 0 Reg.IMG_SAVES_COUNT = satAdd 32 (s.rd 0 Reg.IMG_SAVES_COUNT) 1) ∧
    (s.aon.holdup = 3 → s.on 0 Reg.ARCH_STAT_FAILED = false →
      Completes .runCounterSaveEnd s fun t =>
        t.aon.holdup = 4 ∧ t.arch.stopped = true ∧ t.on 0 Reg.ARCH_STAT_FLUSHING = true) ∧
    (s.aon.holdup = 6 →
      Completes .powerReturn s fun t =>
        t.aon.held = some 1 ∧ t.aon.holdup = 0 ∧ t.on 0 Reg.PWR_STAT_PF = false ∧ t.rd 0 Reg.RST_CAUSE_CAUSE = 1) ∧
    (∀ c, (List.range 9).find? (bit s.aon.wakes ·) = some c → s.aon.asleep = true →
      (s.refGood 0 = true ∨ s.refGood 1 = true) →
      Completes (.wake false) s fun t => t.aon.asleep = false ∧ t.firmware = true) ∧
    (∀ e rest blocks tallies, s.ring 0 13 = e :: rest → s.firmware = true → e.hi % 2 ^ 16 = 0xC010 → s.maySleep = true →
      Completes (.sleepRequest blocks tallies) s fun t =>
        t.aon.asleep = true ∧ t.firmware = false ∧ t.aon.wakes = 0) ∧
    (∀ h rest, s.firmware = true →
      Completes (.temperatureSample (h :: rest)) s fun t => t.aon.seconds = s.aon.seconds + 1)

/-- Resets, the start-up self-test, the boot and the loss of references (R452, R454, R457 to R460, R470, R492). -/
def Obligations.ResetsAndBootAct : Prop :=
  ∀ (s : State), s.Sane →
    (∀ cause, 1 ≤ cause → cause ≤ 6 →
      Completes (.powerOnReset cause) s fun t =>
        t.aon.held = some cause ∧ t.aon.tested = false ∧ t.rd 0 Reg.RST_CAUSE_CAUSE = cause ∧ t.time = s.time ∧
        t.cores = State.reset.cores ∧ t.slots = State.reset.slots ∧ t.queues = State.reset.queues ∧
        t.arming = State.reset.arming ∧ t.prog = State.reset.prog ∧ t.firmware = State.reset.firmware ∧
        ∀ a, STACKS ≤ a → State.inProgress s.arch.window [] = [] → t.loadByte a = s.loadByte a) ∧
    (∀ (w : Who) u, s.takes w 0 3 = true → SMap.find? s.arming 3 = some ⟨w.code, true, u⟩ → s.cycle < u →
      Completes (.partReset w) s fun t => t.aon.held = some 4 ∧ t.rd 0 Reg.RST_CAUSE_CAUSE = 4) ∧
    (∀ aGood bGood senior, s.aon.held.isSome = true → (aGood = true ∨ bGood = true) →
      Completes (.resetRelease aGood bGood senior) s fun t =>
        t.aon.held = none ∧ t.aon.guardMs = 2000 ∧ t.rd 0 Reg.CLK_STAT_ACTIVE = (if aGood then 0 else 1) ∧
        t.on 0 Reg.CLK_STAT_PLL_LOCK = true ∧ t.on 0 Reg.TABLET_STAT_SENIOR = senior) ∧
    (∀ keeperFault repairs, s.aon.held = none → s.aon.tested = false →
      Completes (.selftestEnd keeperFault 0 repairs) s fun t =>
        t.aon.tested = true ∧ t.rd 0 Reg.RST_SELFTEST_TESTED = s.rd 0 Reg.PWR_STAT_ON % 64 ∧
        t.rd 0 Reg.RST_SELFTEST_FAILED = 0 ∧ (keeperFault = true → t.rd 0 Reg.RST_CAUSE_BOOT = 1)) ∧
    (s.aon.held = none → s.aon.tested = true → s.firmware = false → s.rd 0 Reg.RST_CAUSE_BOOT ≠ 1 →
      s.rd 0 Reg.UPD_KSTAT_STATE = 0 → s.aon.asleep = false → (s.level 1).trial = false →
      let u := s.wr 0 Reg.UPD_KSTAT_CAUSE (s.level 1).cause
      Completes .boot s fun t =>
        ((u.slotValid 1 (s.level 1).active || u.slotValid 1 (1 - (s.level 1).active)) = true → t.firmware = true) ∧
        ((u.slotValid 1 (s.level 1).active || u.slotValid 1 (1 - (s.level 1).active)) = false →
          t.rd 0 Reg.RST_CAUSE_BOOT = 2 ∧ t.firmware = false)) ∧
    (s.on 0 Reg.GUARD_CTL_EN = true → s.aon.held = none → s.aon.asleep = false →
      Completes .guardExpiry s fun t =>
        t.aon.held = some 3 ∧ t.rd 0 Reg.RST_CAUSE_CAUSE = 3 ∧
        t.rd 0 Reg.GUARD_EXPIRIES_COUNT = satAdd Reg.GUARD_EXPIRIES_COUNT.width (s.rd 0 Reg.GUARD_EXPIRIES_COUNT) 1) ∧
    (∀ r, r < 2 → s.refGood r = true → s.aon.asleep = false → s.aon.held = none →
      Completes (.refclkFail r) s fun t =>
        (s.refGood (1 - r) = true → s.rd 0 Reg.CLK_STAT_ACTIVE = r →
          t.rd 0 Reg.CLK_STAT_ACTIVE = 1 - r ∧ t.refGood r = false ∧
          t.rd 0 Reg.CLK_SWITCHES_COUNT = satAdd Reg.CLK_SWITCHES_COUNT.width (s.rd 0 Reg.CLK_SWITCHES_COUNT) 1) ∧
        (s.refGood (1 - r) = false → t.aon.refsLost = true))

/-- R112: LOGIC writes `merged` of R110 to DST, lane by lane `TT[8·d + 4·c + 2·b + a]` under the mask; and any function of up
to four inputs per lane is one LOGIC lever, d being the coil's own present value. -/
def Obligations.LogicIsAnyFunctionOfFourInputs : Prop :=
  (∀ (s : State) (die : Nat), s.Sane → (s.sbox die).next < 131071 → s.leverReady die 0x01 = true →
    let l := s.lever die
    let a := source s die l.a
    let b := source s die l.b
    let c := source s die l.c
    let d := operand s die l.dst.space l.dst.word
    leverMayWrite l.dst.space l.dst.word = true → a.2 = none → b.2 = none → c.2 = none → d.2 = none →
    Completes (.logicLever die) s fun t => (t.sbox die).next = (s.sbox die).next + 1 ∧ ∀ k, k < 64 →
      (bitWord t die l.dst.space l.dst.word).getLsbD k =
        if (maskEntry s die l.mask).getLsbD k then
          bit l.tt (8 * ofBool (d.1.getLsbD k) + 4 * ofBool (c.1.getLsbD k) + 2 * ofBool (b.1.getLsbD k) +
            ofBool (a.1.getLsbD k))
        else d.1.getLsbD k) ∧
  ∀ g : Bool → Bool → Bool → Bool → Bool, ∃ tt, tt < 2 ^ 16 ∧
    ∀ a b c d, bit tt (8 * ofBool d + 4 * ofBool c + 2 * ofBool b + ofBool a) = g a b c d

/-- EDGE, PACK, UNPACK and MOVE write their word of the bit store under the mask, and the next lever is next (R108 to R111,
R113 to R115); LOGIC has a statement of its own. -/
def Obligations.WordLeversWriteTheirResult : Prop :=
  ∀ (s : State) (die : Nat), s.Sane → (s.sbox die).next < 131071 → leverMayWrite (s.lever die).dst.space (s.lever die).dst.word = true →
    let l := s.lever die
    let next := (s.sbox die).next + 1
    let m := maskEntry s die l.mask
    let a := source s die l.a
    let d := operand s die l.dst.space l.dst.word
    let p := source s die { l.a with space := 3 }
    let o := l.aux % 64
    let ks := maskLanes m
    let logic (a : DWord × Option LeverFault) (c : Instr) : Prop :=
      (leverResult s die l a).2.2 = none →
        Completes c s fun t =>
          bitWord t die l.dst.space l.dst.word = merge m (leverResult s die l a).1 d.1 ∧ (t.sbox die).next = next
    (s.leverReady die 0x02 = true → l.a.space = 0 → l.aux % 4 ≠ 3 →
      logic (edgeWord (l.aux % 4) a.1 p.1, firstFault [a.2, p.2]) (.edgeLever die)) ∧
    (s.leverReady die 0x04 = true → l.dst.space = 5 → o + ks.length ≤ 64 → a.2 = none → d.2 = none →
      Completes (.pack die) s fun t => (t.sbox die).next = next ∧
        bitWord t die 5 l.dst.word =
          lanes fun j => if o ≤ j ∧ j < o + ks.length then a.1.getLsbD ((ks[j - o]?).getD 0) else d.1.getLsbD j) ∧
    (s.leverReady die 0x05 = true → l.a.space = 5 → o + ks.length ≤ 64 → a.2 = none → d.2 = none →
      Completes (.unpack die) s fun t => (t.sbox die).next = next ∧
        bitWord t die l.dst.space l.dst.word = lanes fun k => match ks.idxOf? k with
          | some j => a.1.getLsbD (o + j)
          | none => d.1.getLsbD k) ∧
    (s.leverReady die 0x03 = true → o = (s.sbox die).moved →
      let i := (s.sbox die).moved
      let a := source s die { l.a with word := l.a.word + i }
      let d := operand s die l.dst.space (l.dst.word + i)
      leverMayWrite l.dst.space (l.dst.word + i) = true → a.2 = none → d.2 = none →
        Completes (.moveLever die) s fun t =>
          bitWord t die l.dst.space (l.dst.word + i) = merge m a.1 d.1 ∧ (t.sbox die).next = next)

/-- The levers that call the Timer rack, skip, wait or are reserved (R110, R111, R116 to R118, R125, R127, R130). -/
def Obligations.RackAndControlLeversAct : Prop :=
  ∀ (s : State) (die : Nat), s.Sane → SMap.sorted s.timers = true → SMap.sorted s.counters = true →
    (s.sbox die).next < 131071 →
    let l := s.lever die
    let idx := (s.sbox die).next
    let b := s.sbox die
    let m := maskEntry s die l.mask
    let r := leverResult s die l (source s die l.a)
    let z := (r.1 &&& m) == 0
    let g := l.aux % 64
    (∀ onZero : Bool, s.leverReady die (if onZero then 0x08 else 0x09) = true → r.2.2 = none → idx + 1 + l.aux ≤ 131071 →
      Completes (if onZero then .skipz die else .skipnz die) s fun t =>
        (t.sbox die).next = if z = onZero then idx + 1 + l.aux else idx + 1) ∧
    (s.leverReady die 0x10 = true → r.2.2 = none →
      Completes (.tstart die) s fun t => (t.sbox die).next = idx + 1 ∧ ∀ k, k < 64 → m.getLsbD k = true →
        let i := 64 * (l.aux % 128) + k
        t.timer die i = (s.timer die i).call (s.rd die (Reg.TIMR_CFG_TYPE.w i)) (s.rd die (Reg.TIMR_PRESET_VALUE.w i))
          (s.rackTime die) (r.1.getLsbD k)) ∧
    (s.leverReady die 0x11 = true → r.2.2 = none →
      Completes (.treset die) s fun t => (t.sbox die).next = idx + 1 ∧
        ∀ k, k < 64 → m.getLsbD k = true → r.1.getLsbD k = true →
          if bit l.aux 11 then
            t.counter die (64 * g + k) = (s.counter die (64 * g + k)).reset (s.counterPv die (64 * g + k)) (bit l.aux 10)
          else t.timer die (64 * (l.aux % 128) + k) = (s.timer die (64 * (l.aux % 128) + k)).reset) ∧
    (∀ down : Bool, s.leverReady die (if down then 0x13 else 0x12) = true → r.2.2 = none →
      Completes (if down then .cdn die else .cup die) s fun t => (t.sbox die).next = idx + 1 ∧
        ∀ k, k < 64 → m.getLsbD k = true →
          let c := s.counter die (64 * g + k)
          let pv := s.counterPv die (64 * g + k)
          t.counter die (64 * g + k) = (if down then c.down pv (r.1.getLsbD k) else c.up pv (r.1.getLsbD k)).1) ∧
    (s.leverReady die 0x20 = true → l.aux % 1024 ≠ 0 →
      Completes (.syncLever die) s fun t =>
        (syncTrue s die l = true → b.waited < l.aux % 1024 → (source s die l.a).2 = none →
          (t.sbox die).next = idx + 1 ∧ t.on die Reg.SBOX_STAT_SYNC_WAIT = false) ∧
        (syncTrue s die l = false → b.waited < l.aux % 1024 →
          t.sbox die = { b with waited := b.waited + 1 } ∧ t.on die Reg.SBOX_STAT_SYNC_WAIT = true)) ∧
    (s.leverReady die 0x20 = true → 0 < b.waited → b.waited = l.aux % 1024 →
      (source s die l.a).2 = none → s.on die Reg.SBOX_CTL_FAULT_CUT = false →
      Completes (.syncTimeout die) s fun t =>
        (t.sbox die).next = idx + 1 ∧ SMap.get 0 t.dieFlags die = SMap.get 0 s.dieFlags die ||| 3 ∧
        t.rd die Reg.SBOX_FAULTS_COUNT = satAdd Reg.SBOX_FAULTS_COUNT.width (s.rd die Reg.SBOX_FAULTS_COUNT) 1) ∧
    (s.leverReady die l.op = true → reservedOp l.op = true → s.on die Reg.SBOX_CTL_FAULT_CUT = false →
      Completes (.illegalOp die) s fun t =>
        (t.sbox die).next = idx + 1 ∧ t.mem = s.mem ∧ bit (SMap.get 0 t.dieFlags die) 0 = true ∧
        t.rd die Reg.SBOX_FAULTS_COUNT = satAdd Reg.SBOX_FAULTS_COUNT.width (s.rd die Reg.SBOX_FAULTS_COUNT) 1)

/-- R119: END with AUX[0] = 0 marks the end of a source network and counts it; END with AUX[0] = 1 ends the slot's program: no
lever after it is issued, and the slot's work is done; NOP does nothing for one cycle. -/
def Obligations.EndAndNopLeversAct : Prop :=
  ∀ (s : State) (die : Nat), s.Sane → SMap.sorted s.slots = true → (s.sbox die).next < 131071 →
    let l := s.lever die
    (s.leverReady die 0x3F = true → bit l.aux 0 = false →
      Completes (.endLever die) s fun t => (t.sbox die).next = (s.sbox die).next + 1 ∧
        t.rd die Reg.SBOX_NET_COUNT = (s.rd die Reg.SBOX_NET_COUNT + 1) % 2 ^ Reg.SBOX_NET_COUNT.width) ∧
    (s.leverReady die 0x3F = true → bit l.aux 0 = true →
      Completes (.endLever die) s fun t =>
        t.on die Reg.SBOX_STAT_RUNNING = false ∧ t.rowRunning die 0 = false ∧ (∀ op, t.leverReady die op = false) ∧
        ∀ x, s.slot? die 0 = some x → SMap.get [] t.rowsDone die = SMap.get [] s.rowsDone die ++ [x.row]) ∧
    (s.leverReady die 0x3E = true →
      Completes (.nopLever die) s fun t => (t.sbox die).next = (s.sbox die).next + 1 ∧
        t.issueLeft die + 1 = s.issueLeft die ∧ ChangesOnly [.regs, .dirty, .slots, .sboxes] s t ∧ PagesOnly [0x07, 0x0B, 0x12] s t)

/-- The frame of the levers: a lever that writes a word of the bit store changes no byte of memory outside that word, and none
where it may not write; the levers that call the Timer rack leave every other timer and counter alone (R103, R112 to R117,
R130). -/
def Obligations.LeversKeepTheRest : Prop :=
  ∀ (s t : State) (die : Nat), s.Sane → SMap.sorted s.timers = true → SMap.sorted s.counters = true →
    let l := s.lever die
    let m := maskEntry s die l.mask
    let keeps (sp : Nat) (stored : Nat → Prop) : Prop :=
      ∀ a, (∀ w, stored w → leverMayWrite sp w = true → a < bitAddr die sp w ∨ bitAddr die sp w + 8 ≤ a) →
        t.loadByte a = s.loadByte a
    (∀ c ∈ [Instr.logicLever die, .edgeLever die, .pack die, .unpack die], exec c s = .next t →
      keeps l.dst.space fun w => w = l.dst.word) ∧
    (exec (.moveLever die) s = .next t →
      keeps l.dst.space fun w => l.dst.word + (s.sbox die).moved ≤ w ∧ w ≤ l.dst.word + l.aux % 64) ∧
    (∀ c ∈ [Instr.tstart die, .treset die], exec c s = .next t → t.mem = s.mem ∧
      ∀ d i, i < 8192 → (d ≠ die ∨ i / 64 ≠ l.aux % 128 ∨ m.getLsbD (i % 64) = false) → t.timer d i = s.timer d i) ∧
    (∀ c ∈ [Instr.treset die, .cup die, .cdn die], exec c s = .next t → t.mem = s.mem ∧
      ∀ d i, i < 4096 → (d ≠ die ∨ i / 64 ≠ l.aux % 64 ∨ m.getLsbD (i % 64) = false) → t.counter d i = s.counter d i) ∧
    (∀ c ∈ [Instr.tstart die, .skipz die, .skipnz die, .syncLever die, .syncTimeout die, .nopLever die, .endLever die,
        .illegalOp die], exec c s = .next t → t.mem = s.mem ∧ t.counters = s.counters) ∧
    ∀ c ∈ [Instr.cup die, .cdn die, .skipz die, .skipnz die, .syncLever die, .syncTimeout die, .nopLever die, .endLever die,
        .illegalOp die], exec c s = .next t → t.timers = s.timers

/-- The mask table, the Timer rack's passes and the held writes of the SBOX, TIMR and DBG pages (R120, R121, R131, R137,
R139, R170). -/
def Obligations.MaskAndRackPagesAct : Prop :=
  ∀ (s : State) (w : Who) (die : Nat), s.Sane → isScan die = true → SMap.sorted s.timers = true →
    SMap.sorted s.counters = true → SMap.sorted s.heldMasks = true → SMap.sorted s.heldTimr = true →
    (∀ entry word, 1 ≤ entry → entry < 256 → word < 2 ^ 32 → s.takes w die 0x0B = true →
      Completes (.maskLowWrite w die entry word) s fun t =>
        SMap.find? t.maskStages die = some ⟨entry, word⟩ ∧
        t.rd die (Reg.SBOX_MASKi_LO_BITS.i entry) = s.rd die (Reg.SBOX_MASKi_LO_BITS.i entry)) ∧
    (∀ entry word low, 1 ≤ entry → entry < 256 → word < 2 ^ 32 → low < 2 ^ 32 → s.takes w die 0x0B = true →
      SMap.find? s.maskStages die = some ⟨entry, low⟩ →
      Completes (.maskHighWrite w die entry word) s fun t =>
        (s.rowRunning die 0 = false →
          t.rd die (Reg.SBOX_MASKi_LO_BITS.i entry) = low ∧ t.rd die (Reg.SBOX_MASKi_HI_BITS.i entry) = word) ∧
        (s.rowRunning die 0 = true →
          SMap.get [] t.heldMasks die = SMap.get [] s.heldMasks die ++ [⟨entry, low + 1, word, w.code⟩] ∧
          State.pageReq w die 0x0B (0x804 + 8 * entry) word ∈ t.holding ∧ t.replies = s.replies)) ∧
    (∀ h l, s.rowRunning die 0 = false → SMap.get [] s.heldMasks die = l ++ [h] →
      Completes (.maskStore die) s fun t =>
        SMap.get [] t.heldMasks die = [] ∧ t.rd die (Reg.SBOX_MASKi_HI_BITS.i h.off) = h.word % 2 ^ 32 ∧
        (h.win ≠ 0 → t.rd die (Reg.SBOX_MASKi_LO_BITS.i h.off) = (h.win - 1) % 2 ^ 32) ∧
        (l = [] → h.win = 0 →
          t.rd die (Reg.SBOX_MASKi_LO_BITS.i h.off) = s.rd die (Reg.SBOX_MASKi_LO_BITS.i h.off) % 2 ^ 32) ∧
        ∀ u, l = [] → s.holding = [State.pageReq ⟨h.who, u⟩ die 0x0B (0x804 + 8 * h.off) h.word] →
          t.holding = [] ∧ SMap.find? t.replies h.who = some ⟨0, false⟩) ∧
    (s.takes w die 0x0B = true →
      Completes (.sboxFaultClear w die 1) s fun t =>
        t.rd die Reg.SBOX_FAULT_VALID = 0 ∧ t.rd die Reg.SBOX_FAULT_KIND = 0 ∧ t.rd die Reg.SBOX_FAULT_LEVER = 0 ∧
        t.rd die Reg.SBOX_FAULT_TASK = 0) ∧
    (s.takes w die 0x0C = true →
      Completes (.timrClear w die 1) s fun t =>
        (timrHeld s die = false →
          (∀ i, i < 8192 → t.timer die i = Timer.idle) ∧
          ∀ i, i < 4096 → t.counter die i = Counter.idle.settle (s.counterPv die i)) ∧
        (timrHeld s die = true →
          t.timers = s.timers ∧ (SMap.get [] t.heldTimr die).length = (SMap.get [] s.heldTimr die).length + 1 ∧
          State.pageReq w die 0x0C 0x100 1 ∈ t.holding ∧ t.replies = s.replies)) ∧
    (∀ h, timrHeld s die = false → SMap.get [] s.heldTimr die = [h] → h.off ≠ 0x100 →
      Completes (.timrConfigApply die) s fun t =>
        SMap.get [] t.heldTimr die = [] ∧ ∀ f ∈ timrFields die h.off h.win, t.rd die f = f.get h.word) ∧
    (∀ stalls x, s.slot? die 5 = some x → x.running = true → x.idle = false →
      let set := s.rd die Reg.TIMR_PASS_SET
      let first := s.rd die (Reg.TIMR_SETs_FIRST.i set)
      let last := s.rd die (Reg.TIMR_SETs_LAST.i set)
      let space := s.rd die (Reg.TIMR_SETs_SPACE.i set)
      4 + 2 * (last + 1 - first) + stalls ≤ x.length → space ≠ 4 →
      Completes (.advancePassEnd die stalls) s fun t =>
        t.rowRunning die 5 = false ∧ t.on die Reg.TIMR_PASS_RUNNING = false ∧
        ∀ g k, first ≤ g → g ≤ last → k < 64 →
          t.timer die (64 * g + k) = (s.timer die (64 * g + k)).call (s.rd die (Reg.TIMR_CFG_TYPE.w (64 * g + k)))
            (s.rd die (Reg.TIMR_PRESET_VALUE.w (64 * g + k))) (s.rackTime die)
            ((operand s die space (s.rd die (Reg.TIMR_SETs_WORD.i set) + g - first)).1.getLsbD k)) ∧
    (∀ word, s.takes w die 0x12 = true → s.fits w die 0x12 0x104 word = true → bit word 18 = true →
      Completes (.watchClear w die word) s fun t => t.on die Reg.S_DBG_STAT_WATCH_HIT = false)

/-- Instructions of a word core that work on its registers retire with their result, their cycles and the next pc (R140,
R152 to R155, R160, R161). -/
def Obligations.CoreRegisterInstructionsRetire : Prop :=
  ∀ (s : State) (die n : Nat), s.Sane → SMap.sorted s.cores = true → SMap.sorted (s.core die n).x = true →
    SMap.sorted (s.core die n).f = true →
    let c := s.core die n
    let x := c.getX
    let runs (cmd : Instr) (op : CoreOp) (k : Nat) (P : Core → Prop) : Prop :=
      ∀ t word, s.fetches die n t word op → s.coreFits die n k = true →
        Completes cmd s fun z => P (z.core die n) ∧ (z.core die n).pc = (c.pc + 4) % 2 ^ 32 ∧ z.mem = t.mem
    let gives (cmd : Instr) (op : CoreOp) (k rd v : Nat) : Prop :=
      runs cmd op k fun d => d.getX rd = if rd = 0 then 0 else v % 2 ^ 32
    (∀ op rd rs1 rs2, gives (.riscvInstruction die n) (.alu op rd rs1 rs2) (aluCost op) rd (aluResult op (x rs1) (x rs2))) ∧
    (∀ op rd rs1 rs2,
      let cmd := match op with
        | .sadd => Instr.sadd die n | .ssub => .ssub die n | .saddu => .saddu die n | .ssubu => .ssubu die n
      gives cmd (.sat op rd rs1 rs2) 1 rd (satResult op (x rs1) (x rs2)).1 ∧
      runs cmd (.sat op rd rs1 rs2) 1 fun d => d.yxstat = c.yxstat ||| ofBool (satResult op (x rs1) (x rs2)).2) ∧
    (∀ rd rs1 rs2 rs3, gives (.limitW die n) (.limitW rd rs1 rs2 rs3) 1 rd
      (ofInt 32 (min (max (toInt 32 (x rs1)) (toInt 32 (x rs2))) (toInt 32 (x rs3))))) ∧
    (∀ d rd rs1 rs2 rs3,
      let f := Float.fmtOf d
      let nan (r : Nat) : Bool := (Float.unpack f (c.opF d r)).isNan
      c.fs ≠ 0 → (nan rs1 = true ∨ nan rs2 = false ∧ nan rs3 = false) →
      runs (if d then .limitD die n else .limitS die n) (.limitF d rd rs1 rs2 rs3) 2 fun e =>
        let v := Float.limit f (c.opF d rs1) (c.opF d rs2) (c.opF d rs3)
        e.getF rd = (if d then v else Float.box v) % 2 ^ 64) ∧
    (∀ rd y, s.coreInSlot die n = true → s.slot? die (n + 1) = some y →
      gives (.budgetRd die n) (.budgetRd rd) 1 rd (y.length - y.used)) ∧
    (∀ rd rs1 rs2 r,
      let a := x rs2
      c.fs ≠ 0 → c.rounding 7 = some r → a % 16 = 0 → a / 0x100000 = n →
      (∀ i, i < 4 → c.pmpAllows c.dataM 0 (a + 4 * i) 4 = true) → s.bankOn die a = true →
      s.eccAt (phys die a) = 0 → s.eccAt (phys die (a + 8)) = 0 →
      runs (.scaleS die n) (.scaleS rd rs1 rs2) 6 fun e =>
        let word (i : Nat) : Nat := s.load (phys die (a + 4 * i)) 4
        let raw := toInt 32 (x rs1)
        let y := min (max raw (toInt 32 (word 0))) (toInt 32 (word 1))
        e.getF rd = Float.box (Float.scale r (word 2) (word 3) (y - toInt 32 (word 0))).1 % 2 ^ 64) ∧
    (∀ t word, s.fetches die n t word .mret → c.mmode = true → s.coreFits die n 4 = true →
      Completes (.mret die n) s fun z =>
        (z.core die n).pc = c.mepc ∧ (z.core die n).mmode = c.mppM ∧ (z.core die n).mie = c.mpie ∧
        (z.core die n).mpie = true ∧ (z.core die n).mppM = false) ∧
    (∀ t word, s.fetches die n t word .slotend → c.mmode = true → s.coreFits die n 1 = true →
      Completes (.slotend die n) s fun z =>
        (z.core die n).inSlot = false ∧ (s.coreInSlot die n = true → z.rowRunning die (n + 1) = false) ∧
        (c.ysValid = true → (z.core die n).pc = c.yspc ∧ (z.core die n).mmode = c.ysPrivM ∧ (z.core die n).mie = c.ysMie ∧
          (z.core die n).ysValid = false) ∧
        (c.ysValid = false → (z.core die n).idle = true ∧ (z.core die n).idlePc = c.pc))

/-- The standard instructions of a word core: upper immediates, jumps, branches, loads and stores of its own bank, LR, SC and
atomics, reads of CSRs, and the environment call and breakpoint, which trap (R140, R148, R152, R164). -/
def Obligations.CoreStandardInstructionsAct : Prop :=
  ∀ (s : State) (die n : Nat), s.Sane → SMap.sorted s.cores = true → SMap.sorted (s.core die n).x = true →
    let c := s.core die n
    let x := c.getX
    let isX (z : State) (rd v : Nat) : Prop := (z.core die n).getX rd = if rd = 0 then 0 else v % 2 ^ 32
    let next (z : State) : Prop := (z.core die n).pc = (c.pc + 4) % 2 ^ 32
    let runs (op : CoreOp) (k : Nat) (P : State → Prop) : Prop :=
      ∀ t word, s.fetches die n t word op → s.coreFits die n k = true → Completes (.riscvInstruction die n) s P
    let own (perm a size : Nat) : Prop :=
      a % size = 0 ∧ a < 0x400000 ∧ c.pmpAllows c.dataM perm a size = true ∧ s.bankOn die a = true
    let stored (z : State) (a size v : Nat) : Prop :=
      z.load (phys die a) size = v % 2 ^ (8 * size) ∧
        ∀ b, (b < phys die a ∨ phys die a + size ≤ b) → z.loadByte b = s.loadByte b
    (∀ rd imm, runs (.lui rd imm) 1 fun z => isX z rd imm ∧ next z ∧ z.mem = s.mem) ∧
    (∀ rd imm, runs (.auipc rd imm) 1 fun z => isX z rd (c.pc + imm) ∧ next z ∧ z.mem = s.mem) ∧
    (∀ op rd rs1 imm, runs (.aluImm op rd rs1 imm) 1 fun z => isX z rd (aluResult op (x rs1) imm) ∧ next z ∧ z.mem = s.mem) ∧
    (∀ rd imm, (c.pc + imm) % 2 ^ 32 % 4 = 0 →
      runs (.jal rd imm) 2 fun z => isX z rd (c.pc + 4) ∧ (z.core die n).pc = (c.pc + imm) % 2 ^ 32 ∧ z.mem = s.mem) ∧
    (∀ rd rs1 imm, (x rs1 + imm) % 2 ^ 32 / 2 * 2 % 4 = 0 →
      runs (.jalr rd rs1 imm) 2 fun z =>
        isX z rd (c.pc + 4) ∧ (z.core die n).pc = (x rs1 + imm) % 2 ^ 32 / 2 * 2 ∧ z.mem = s.mem) ∧
    (∀ op rs1 rs2 imm, (c.pc + imm) % 2 ^ 32 % 4 = 0 →
      runs (.branch op rs1 rs2 imm) 2 fun z => (z.core die n).x = c.x ∧ z.mem = s.mem ∧
        if brTaken op (x rs1) (x rs2) then (z.core die n).pc = (c.pc + imm) % 2 ^ 32 else next z) ∧
    (∀ size uns rd rs1 imm, size ∈ [1, 2, 4] →
      let a := (x rs1 + imm) % 2 ^ 32
      own 0 a size → s.eccAt (phys die a) = 0 →
      runs (.load size uns rd rs1 imm) 4 fun z =>
        isX z rd (if uns then s.load (phys die a) size else sext (8 * size) (s.load (phys die a) size)) ∧ next z ∧
        z.mem = s.mem) ∧
    (∀ size rs1 rs2 imm, size ∈ [1, 2, 4] →
      let a := (x rs1 + imm) % 2 ^ 32
      own 1 a size →
      runs (.store size rs1 rs2 imm) 4 fun z => (z.core die n).x = c.x ∧ next z ∧ stored z a size (x rs2)) ∧
    (∀ rd rs1, own 0 (x rs1) 4 → x rs1 / 0x100000 = n → s.eccAt (phys die (x rs1)) = 0 →
      runs (.lr rd rs1) 2 fun z =>
        isX z rd (s.load (phys die (x rs1)) 4) ∧ next z ∧ (z.core die n).reserved = some (x rs1) ∧ z.mem = s.mem) ∧
    (∀ rd rs1 rs2, own 0 (x rs1) 4 → own 1 (x rs1) 4 → x rs1 / 0x100000 = n → s.eccAt (phys die (x rs1)) = 0 →
      (runs (.sc rd rs1 rs2) 2 fun z => next z ∧ (z.core die n).reserved = none ∧
        (c.reserved = some (x rs1) → isX z rd 0 ∧ stored z (x rs1) 4 (x rs2)) ∧
        (c.reserved ≠ some (x rs1) → isX z rd 1 ∧ z.mem = s.mem)) ∧
      ∀ op, runs (.amo op rd rs1 rs2) 3 fun z =>
        isX z rd (s.load (phys die (x rs1)) 4) ∧ next z ∧
        stored z (x rs1) 4 (amoResult op (s.load (phys die (x rs1)) 4) (x rs2))) ∧
    (∀ f3 rd num old t word, s.fetches die n t word (.csr f3 rd 0 num) → f3 ∈ [2, 3] → csrRead t die n num = some old →
      s.coreFits die n 1 = true →
      Completes (.riscvInstruction die n) s fun z => isX z rd old ∧ next z ∧ z.mem = s.mem) ∧
    (∀ rd rs1, c.mmode = true →
      runs (.csr 1 rd rs1 0x340) 1 fun z => isX z rd c.mscratch ∧ next z ∧ (z.core die n).mscratch = x rs1) ∧
    (∀ op t word, op = .ecall ∨ op = .ebreak → s.fetches die n t word op → s.coreFits die n 12 = true →
      Completes (.trapEntry die n) s fun z =>
        let d := z.core die n
        d.mcause = (if op = .ebreak then 3 else if c.mmode then 11 else 8) ∧ d.mepc = c.pc / 4 * 4 ∧ d.mppM = c.mmode ∧
        d.mpie = c.mie ∧ d.mie = false ∧ d.mmode = true ∧ z.mem = s.mem)

/-- The frame of the instructions of a word core that write one register of it: `t` is the state after the fetch; beyond it
only that core and its slot's counter change; in the core every other register, every CSR but those named and the mode keep
their values (R152, R160, R161, R164). -/
def Obligations.CoreRegisterInstructionsKeepTheRest : Prop :=
  ∀ (s t z : State) (die n word : Nat), s.Sane → SMap.sorted s.cores = true → SMap.sorted s.slots = true →
    SMap.sorted (s.core die n).x = true → SMap.sorted (s.core die n).f = true →
    let c := s.core die n
    let d := z.core die n
    let frame (cmd : Instr) (op : CoreOp) (k : Nat) : Prop :=
      s.fetches die n t word op ∧ s.coreFits die n k = true ∧ exec cmd s = .next z
    let rest : Prop := ChangesOnly [.cores, .slots] t z ∧
      (∀ e m, m < 4 → (e ≠ die ∨ m ≠ n) → z.core e m = s.core e m) ∧
      ∀ e k, k < 8 → (e ≠ die ∨ k ≠ n + 1) → z.slot? e k = t.slot? e k
    let next : Core := { c with pc := (c.pc + 4) % 2 ^ 32, lastPc := c.pc, instret := (c.instret + 1) % 2 ^ 64, clock := d.clock }
    let oneX (rd : Nat) (y : Nat) : Prop := d = { next with x := d.x, yxstat := y } ∧ ∀ r, r ≠ rd → d.getX r = c.getX r
    let oneF (rd : Nat) : Prop :=
      d = { next with f := d.f, fs := 3, fflags := d.fflags, yxstat := d.yxstat } ∧ ∀ r, r ≠ rd → d.getF r = c.getF r
    (∀ op rd rs1 rs2, frame (.riscvInstruction die n) (.alu op rd rs1 rs2) (aluCost op) → rest ∧ oneX rd c.yxstat) ∧
    (∀ op rd rs1 imm, frame (.riscvInstruction die n) (.aluImm op rd rs1 imm) 1 → rest ∧ oneX rd c.yxstat) ∧
    (∀ rd, frame (.budgetRd die n) (.budgetRd rd) 1 → rest ∧ oneX rd c.yxstat) ∧
    (∀ op rd rs1 rs2,
      let cmd := match op with
        | .sadd => Instr.sadd die n | .ssub => .ssub die n | .saddu => .saddu die n | .ssubu => .ssubu die n
      frame cmd (.sat op rd rs1 rs2) 1 →
        rest ∧ oneX rd (c.yxstat ||| ofBool (satResult op (c.getX rs1) (c.getX rs2)).2)) ∧
    (∀ rd rs1 rs2 rs3, frame (.limitW die n) (.limitW rd rs1 rs2 rs3) 1 → rest ∧ oneX rd d.yxstat) ∧
    (∀ b rd rs1 rs2 rs3,
      let f := Float.fmtOf b
      let nan (r : Nat) : Bool := (Float.unpack f (c.opF b r)).isNan
      c.fs ≠ 0 → (nan rs1 = true ∨ nan rs2 = false ∧ nan rs3 = false) →
      frame (if b then .limitD die n else .limitS die n) (.limitF b rd rs1 rs2 rs3) 2 → rest ∧ oneF rd)

/-- The bit, queue and Token instructions of a word core (R158, R160, R162, R163). -/
def Obligations.CoreBitQueueAndTokenInstructionsAct : Prop :=
  ∀ (s : State) (die n : Nat), s.Sane → SMap.sorted s.cores = true → SMap.sorted (s.core die n).x = true →
    SMap.sorted s.queues = true →
    let c := s.core die n
    let x := c.getX
    let isX (z : State) (rd v : Nat) : Prop := (z.core die n).getX rd = if rd = 0 then 0 else v % 2 ^ 32
    let next (z : State) : Prop := (z.core die n).pc = (c.pc + 4) % 2 ^ 32
    let reads (cause sp w : Nat) : Prop :=
      c.pmpAllows c.dataM (if cause = 5 then 0 else 1) (bitOwn sp w) 8 = true ∧ s.bankOn die (bitOwn sp w) = true ∧
        s.eccAt (phys die (bitOwn sp w)) ≠ 2
    let v (sp w : Nat) : Nat := (bitWord s die sp w).toNat
    (∀ t word rd rs1 imm sp w lane, s.fetches die n t word (.bext rd rs1 imm) → s.coreFits die n 2 = true →
      refOf (x rs1) imm = some (sp, w, lane) → reads 5 sp w →
      Completes (.bext die n) s fun z => isX z rd (ofBool (bit (v sp w) lane)) ∧ next z ∧ z.mem = s.mem) ∧
    (∀ t word rs1 rs2 imm sp w lane, s.fetches die n t word (.bdep rs1 rs2 imm) →
      s.coreFits die n (if s.rowRunning die 0 then 2 else 1) = true →
      refOf (x rs1) imm = some (sp, w, lane) → reads 7 sp w → sp ∈ [1, 2, 5] → s.on die Reg.PLAT_STAT_READY = false →
      Completes (.bdep die n) s fun z =>
        bitWord z die sp w = BitVec.ofNat 64 (setBit (v sp w) lane (bit (x rs2) 0)) ∧ next z) ∧
    (∀ clear t word rd rs1 rs2 sp w lane, s.fetches die n t word (.bmask clear rd rs1 rs2) →
      s.coreFits die n (if s.rowRunning die 0 then 3 else 2) = true →
      refOf (x rs1) 0 = some (sp, w, lane) → lane % 32 = 0 → reads 7 sp w → sp ∈ [1, 2, 5] →
      s.on die Reg.PLAT_STAT_READY = false →
      let old := field (v sp w) lane 32
      Completes (if clear then .bclrm die n else .bsetm die n) s fun z =>
        isX z rd old ∧ next z ∧ bitWord z die sp w =
          BitVec.ofNat 64 (setField (v sp w) lane 32 (if clear then minus 32 old (x rs2) else old ||| x rs2))) ∧
    (∀ op t word rd rs1 w lane, s.fetches die n t word (.bedge op rd rs1 0) → s.coreFits die n 2 = true →
      refOf (x rs1) 0 = some (0, w, lane) → reads 5 0 w → reads 5 3 w →
      let cmd := match op with
        | .rise => Instr.brise die n | .fall => .bfall die n | .edge => .bedge die n
      Completes cmd s fun z => isX z rd (ofBool (edgeResult op (bit (v 0 w) lane) (bit (v 3 w) lane))) ∧ next z) ∧
    (∀ t word rd rs1 rs2, s.fetches die n t word (.qput rd rs1 rs2) → s.coreFits die n 2 = true → c.mmode = true →
      field (x rs1) 7 9 = 0 → field (x rs1) 4 3 ≠ 1 → (isScan (whoDie (die * 32 + n)) && t.fenced (whoDie (die * 32 + n))) = false →
      let to' := t.destDie (die * 32 + n) (field (x rs1) 4 3)
      t.putStatus (whoDie (die * 32 + n)) to' (x rs1 % 16) = 0 →
      Completes (.qput die n) s fun z =>
        isX z rd 0 ∧ next z ∧ z.flights =
          s.flights ++ [⟨to', x rs1 % 16, x rs2 % 2 ^ 32, entryHi (die * 32 + n) (field (x rs1) 16 16), false⟩]) ∧
    (∀ t word rd rs1 e rest, s.fetches die n t word (.qget rd rs1) → s.coreFits die n 2 = true → c.mmode = true →
      t.ring die (x rs1 % 16) = e :: rest →
      Completes (.qget die n) s fun z =>
        isX z rd e.lo ∧ next z ∧ (z.core die n).yqtag = e.hi ∧ z.ring die (x rs1 % 16) = rest) ∧
    (∀ t word rd rs1, s.fetches die n t word (.tokenAcq rd rs1) → s.coreInSlot die n = false → c.mmode = true →
      x rs1 < 64 → s.fenced die = false → s.tokenHeld (x rs1) = false →
      Completes (.tokenAcq die n) s fun z =>
        isX z rd (if s.tokenBroken (x rs1) then 1 else 0) ∧ next z ∧ z.tokenHeld (x rs1) = true ∧
        z.tokenOwner (x rs1) = (die * 32 + n) % 256) ∧
    (∀ t word rd rs1, s.fetches die n t word (.tokenRel rd rs1) → s.coreInSlot die n = false → c.mmode = true →
      x rs1 < 64 → s.fenced die = false → s.tokenHeld (x rs1) = true → s.tokenOwner (x rs1) = die * 32 + n →
      Completes (.tokenRel die n) s fun z => isX z rd 0 ∧ next z ∧ z.tokenHeld (x rs1) = false)

/-- Traps and interrupts of a word core, its start, its router and the debug module (R144, R152, R155, R165, R166, R168,
R169). -/
def Obligations.CoreTrapsStartAndDebugAct : Prop :=
  ∀ (s : State), s.Sane → SMap.sorted s.cores = true → SMap.sorted s.latches = true →
    (∀ die n, n < 4 →
      (∀ o t cause tval, coreRuns s die n = true → coreOut s die n = (o, .trap t cause tval) → s.coreFits die n 12 = true →
        Completes (.trapEntry die n) s fun z =>
          let d := z.core die n
          d.mepc = (s.core die n).pc / 4 * 4 ∧ d.mcause = cause ∧ d.mtval = tval ∧ d.mppM = (s.core die n).mmode ∧
          d.mpie = (t.core die n).mie ∧ d.mie = false ∧ d.mmode = true ∧
          ((t.core die n).mtvec % 2 = 0 → d.pc = (t.core die n).mtvec / 4 * 4 % 2 ^ 32)) ∧
      (isScan die = true → s.powered die = true → s.coreHeld die n = false → (s.core die n).halted = false →
        s.coreStill die n = false → s.coreTakes die n = true → (s.routerBest die n).isSome = true →
        s.coreThreshold die n < 8 → s.coreFits die n 12 = true →
        Completes (.interruptTaken die n) s fun z =>
          let c := s.core die n
          let d := z.core die n
          d.mepc = (if c.idle then c.idlePc else c.pc) / 4 * 4 ∧ d.mcause = 0x8000000B ∧ d.mtval = 0 ∧ d.mpie = c.mie ∧
          d.mie = false ∧ d.mmode = true ∧ d.idle = false ∧ d.mppM = (if c.idle then c.idleM else c.mmode)) ∧
      (∀ (w : Who) word, isScan die = true → s.takes w die (0x0E + n) = true →
        s.fits w die (0x0E + n) 0x100 (word / 2 * 2) = true → s.coreHeld die n = true →
        Completes (.coreStart w die n word) s fun z =>
          z.coreHeld die n = false ∧ (z.core die n).pc = s.rd die (Reg.COREn_BOOT_ADDR.p n) ∧
          (z.core die n).mmode = true ∧ (z.core die n).x = []) ∧
      (∀ (w : Who), isScan die = true → s.takes w die (0x0E + n) = true →
        Completes (.softSet w die n 1) s fun z =>
          ∀ m, m < 4 → bit (SMap.get 0 z.latches (die * 4 + m)) (38 + n) = true) ∧
      (∀ (w : Who) (hi : Bool) word, isScan die = true → s.takes w die (0x0E + n) = true →
        s.fits w die (0x0E + n) (if hi then 0x144 else 0x140) word = true →
        Completes (.routerClear w die n hi word) s fun z =>
          SMap.get 0 z.latches (die * 4 + n) =
            minus 64 (SMap.get 0 s.latches (die * 4 + n)) ((word <<< (32 * ofBool hi)) &&& edgeSources))) ∧
    (∀ hart, s.hartAllowed hart = true →
      (s.hartHalted hart = false → Completes (.debugHalt hart) s fun z => z.hartHalted hart = true) ∧
      (s.hartHalted hart = true → Completes (.debugResume hart) s fun z => z.hartHalted hart = false))

/-- Requests of bus masters and of the debugger end with data or an error (R38, R47, R169, R327). -/
def Obligations.BusRequestsEndWithAReply : Prop :=
  ∀ (s : State), s.Sane →
    (∀ (w : Who) own size value, size ∈ [1, 2, 4, 8] → own % size = 0 → own < 0x100000 →
      s.reaches w 0 = true → (∀ q ∈ s.holding, q.failed = true → q.who ≠ w.code) → s.bankOn 0 own = true →
      s.eccAt (phys 0 own) = 0 →
      Completes (.junctionRequestComplete w false (0x10000000 + own) size value) s (fun t =>
        SMap.find? t.replies w.code = some ⟨s.load (phys 0 own) size, false⟩ ∧ t.mem = s.mem) ∧
      Completes (.junctionRequestComplete w true (0x10000000 + own) size value) s fun t =>
        SMap.find? t.replies w.code = some ⟨0, false⟩ ∧ t.load (phys 0 own) size = value % 2 ^ (8 * size) ∧
        ∀ a, (a < phys 0 own ∨ phys 0 own + size ≤ a) → t.loadByte a = s.loadByte a) ∧
    (∀ (w : Who) addr r, timedRequest s w.code addr = some r →
      Completes (.junctionTimeout w addr) s fun t =>
        SMap.find? t.replies w.code = some ⟨0, true⟩ ∧
        t.holding = s.holding.erase r ++ (if State.asksAgain w.code then [{ r with failed := true }] else []) ∧
        t.rd 0 Reg.FAB_TIMEOUTS_COUNT = satAdd 32 (s.rd 0 Reg.FAB_TIMEOUTS_COUNT) 1) ∧
    (∀ write own size value, s.on 0 Reg.DBG_CTL_JTAG_EN = true →
      (s.on 0 Reg.DBG_CTL_SBA_EN = false →
        Completes (.debugSystemBusAccess write own size value) s fun t => t.sberror = 4 ∧ t.mem = s.mem) ∧
      (s.on 0 Reg.DBG_CTL_SBA_EN = true → size ∈ [1, 2, 4] → own % size = 0 → own < 0x100000 →
        (∀ q ∈ s.holding, q.failed = true → q.who ≠ 7) → s.bankOn 0 own = true → s.eccAt (phys 0 own) = 0 →
        Completes (.debugSystemBusAccess false own size value) s fun t =>
          t.sberror = 0 ∧ SMap.find? t.replies 7 = some ⟨s.load (phys 0 own) size, false⟩))

/-- Online change: loading, discarding, the commands of the Authority engine, the pre-switch checks, the points instant and the
carry (R219, R220, R224 to R229, R232, R233, R236). -/
def Obligations.OnlineChangeActs : Prop :=
  (∀ (s : State), s.Sane →
    (∀ e rest, s.ring 0 13 = e :: rest → s.firmware = true →
      (e.hi % 2 ^ 16 = 0xC001 → s.change.state ∈ [0, 5] →
        Completes .changeLoad s fun t =>
          t.change.state = 1 ∧ t.change.loadAt = e.lo * 256 ∧ t.change.placed = 0 ∧ t.change.sections = [] ∧
          t.ring 0 13 = (s.popQueue 0 13).1.ring 0 13) ∧
      (e.hi % 2 ^ 16 = 0xC002 → s.change.state = 2 →
        Completes .changeDiscard s fun t => t.change.state = 0 ∧ t.change.sections = [] ∧ t.change.checking = none)) ∧
    (∀ image, s.change.state = 1 → s.firmware = true → s.placeHeld image = false →
      Completes (.changeLoadEnd image) s fun t =>
        (s.loadCode image ≠ 0 → t.change.state = 0 ∧ t.change.code = s.loadCode image) ∧
        (s.loadCode image = 0 → (s.placeChange ((sectionsOf image).map (·.1))).2 = 0 →
          t.change.state = 2 ∧ t.change.identity = leAt image 16 8 ∧ t.change.digest = Sha.sha256 image)) ∧
    (∀ f, s.accepts f [] 0x02 rolesEW (fun p => p.length == 40) → s.change.state = 2 → s.change.checking = none →
      s.on 0 Reg.MODE_STAT_PENDING = false → s.on 0 Reg.MODE_STAT_PREPARING = false → s.activating = false →
      Completes .changeCommit s fun t =>
        t.rd 0 Reg.AUTH_STAT_RESULT = 1 ∧
        t.change.checking = some (ofBE (cut (frameParams f) 0 8), cut (frameParams f) 8 32) ∧ t.change.reverting = false) ∧
    (∀ f, s.accepts f [] 0x03 rolesEW (fun p => p.length == 8) → s.activating = false →
      ofBE (frameParams f) = s.change.identity →
      Completes .changeRevert s fun t =>
        (s.change.state = 3 → t.change.state = (if s.change.reverting then 5 else 2) ∧ t.rd 0 Reg.AUTH_STAT_RESULT = 1) ∧
        (s.change.state = 5 → s.change.checking = none →
          t.change.checking = some (s.change.identity, s.change.digest) ∧ t.change.reverting = true ∧
          t.rd 0 Reg.AUTH_STAT_RESULT = 1)) ∧
    (∀ result partner identity digest, s.change.checking = some (identity, digest) →
      let u : State := { s with change := { s.change with checking := none } }
      let r := u.preSwitch result partner identity digest
      Completes (.preSwitchCheckEnd result partner) s fun t =>
        t.change.checking = none ∧
        (r = 0 → t.change.state = (if s.change.reverting then 6 else 3) ∧ t.change.code = 0 ∧ t.change.carryAt = 0 ∧
          t.change.switchFrame = s.switchFrameNext) ∧
        (r ≠ 0 → t.change.state = s.change.state ∧ t.change.code = r ∧ t.change.reverting = false)) ∧
    (s.change.recordDue = true → s.firmware = true →
      Completes .retainedRecordWrite s fun t => t.change.recordDue = false)) ∧
  (∀ (s : State), s.Sane →
    (s.changeArmed = true → s.change.points = false → s.changeDies ≠ [] →
      (s.change.switchFrame = s.frameNo + 1 ∨
        (s.change.switchFrame = s.frameNo + 2 ∧ s.rd 0 Reg.FWATCH_COMMIT_AT_US < 250)) →
      Completes .pointsInstant s fun t => t.change.points = true) ∧
    (s.changeArmed = true → s.change.switchFrame = s.frameNo + 1 →
      (s.standby = false →
        Completes .carryStart s fun t =>
          s.carryInstant ≤ t.time ∧
          (s.change.stopped = false → s.pointsOk = true →
            t.change.carryAt = t.time ∧ t.change.carryDone = 0 ∧
            t.change.state = if s.change.reverting then s.change.state else 4) ∧
          (s.change.stopped = true →
            t.change.state = (if s.change.reverting then 5 else 2) ∧ t.change.code = 15 ∧ t.change.reverting = false) ∧
          (s.change.stopped = false → s.pointsOk = false →
            t.change.state = (if s.change.reverting then 5 else 2) ∧ t.change.code = 14 ∧ t.change.reverting = false))) ∧
    (s.changeCarrying = true →
      (∀ die, s.carryOpen.contains die = true →
        Completes (.carryEnd die) s fun t => inDies t.change.carryDone die = true ∧ t.change.state = s.change.state) ∧
      Completes .carryDeadline s fun t => t.carryOpen = [] ∧ t.change.state = s.change.state))

/-- Program and Safe images, and the xSPI port (R204, R213, R238). -/
def Obligations.ImagesAndXspiAct : Prop :=
  ∀ (s : State) (w : Who), s.Sane →
    (∀ directory image safe r, s.firmware = true → s.mode = 0 → s.twinData? 2 = some r → leAt r 0 8 ≠ 0 →
      ∃ t, exec (.programImageLoad directory image safe) s = .next t ∧
        ((programOk image r = true → t.prog.failed = false ∧ t.change.running = cut r 8 32) ∧
        (programOk image r = false → t.prog.failed = true))) ∧
    (∀ f image, s.accepts f [] 0x10 rolesEW (fun p => p.length == 40 && ofBE (cut p 4 4) == imageBytes) →
      s.on 0 Reg.IMG_STAT_SAFE_LOADING = false →
      ∃ t, exec (.safeImageLoad image) s = .next t ∧
        (t.rd 0 Reg.AUTH_STAT_RESULT = 1 ∧
        t.on 0 Reg.IMG_STAT_SAFE_LOADING =
          (image.length == imageBytes && Sha.sha256 image == cut (frameParams f) 8 32))) ∧
    (∀ word, s.takes w 0 0x23 = true → s.fits w 0 0x23 0x10C (word ||| 2 ^ 24) = true →
      let tooFar := decide (2 ^ s.rd 0 Reg.XSPI_CFG_SIZE < s.rd 0 Reg.XSPI_ADDR_ADDR + s.rd 0 Reg.XSPI_LEN_BYTES)
      ∃ t, exec (.xspiGo w word) s = .next t ∧
        (t.on 0 Reg.XSPI_STAT_RANGE = tooFar ∧ t.on 0 Reg.XSPI_STAT_ERROR = false ∧ t.rd 0 Reg.XSPI_DONE_BYTES = 0 ∧
        (tooFar = false → t.on 0 Reg.XSPI_STAT_BUSY = true))) ∧
    (∀ data, s.on 0 Reg.XSPI_STAT_BUSY = true →
      (s.on 0 Reg.XSPI_XCMD_DIR = true ∨ data.length = s.rd 0 Reg.XSPI_LEN_BYTES) →
      ∃ t, exec (.xspiDone data) s = .next t ∧
        (t.on 0 Reg.XSPI_STAT_BUSY = false ∧ t.rd 0 Reg.XSPI_DONE_BYTES = s.rd 0 Reg.XSPI_LEN_BYTES % 2 ^ 25 ∧
        bit (t.rd 0 (IRQ_RAW_SRC 0x23)) 0 = true)) ∧
    (s.on 0 Reg.XSPI_STAT_BUSY = true → s.on 0 Reg.XSPI_XCMD_DIR = false →
      ∃ t, exec .xspiDqsTimeout s = .next t ∧
        (t.on 0 Reg.XSPI_STAT_BUSY = false ∧ t.on 0 Reg.XSPI_STAT_ERROR = true ∧
        t.rd 0 Reg.XSPI_ERRORS_COUNT = satAdd 32 (s.rd 0 Reg.XSPI_ERRORS_COUNT) 1))

/-- Port fences, hardware queues, credits and the Token page (R162, R329, R331 to R334, R350, R351). -/
def Obligations.FencesQueuesAndTokensAct : Prop :=
  ∀ (s : State) (w : Who), s.Sane → SMap.sorted s.queues = true →
    (∀ word, word < 64 → s.takes w 0 5 = true →
      Completes (.fabFence w word) s fun t =>
        (∀ d ∈ scanDies, t.fenced d = (s.fenced d || inDies word d)) ∧
        ∀ k, k < 64 → s.tokenHeld k = true → inDies word (whoDie (s.tokenOwner k)) = true →
          s.fenced (whoDie (s.tokenOwner k)) = false → t.tokenHeld k = false ∧ t.tokenBroken k = true) ∧
    (∀ word, s.takes w 0 5 = true → s.fits w 0 5 0x108 word = true →
      Completes (.fabUnfence w word) s fun t =>
        ∀ d ∈ scanDies, t.fenced d = (s.fenced d && !inDies word d)) ∧
    (∀ die q, hasQueues die = true → q < 16 → s.takes w die 6 = true →
      (∀ word, s.fits w die 6 (0x200 + 0x20 * q) (word ||| 1) = true →
        Completes (.queueEnable w die q word) s fun t =>
          t.qEnabled die q = true ∧ t.rd die (Reg.QUE_Qq_CFG_DEPTH.i q) = field (word ||| 1) 1 3 ∧
          t.rd die (Reg.QUE_Qq_STAT_DROPS.i q) = 0 ∧ t.rd die (Reg.QUE_Qq_STAT_DISCARDS.i q) = 0 ∧
          (s.qEnabled die q = false → ∀ src, src < 8 → t.credits src die q =
            s.rd die (if src < 4 then (Reg.QUE_Qq_ALLOT_LO_SRCs.i q).j src
              else (Reg.QUE_Qq_ALLOT_HI_SRCs.i q).j (src - 4)) % 2 ^ 11)) ∧
      (∀ word, s.fits w die 6 (0x200 + 0x20 * q) (word / 2 * 2) = true →
        Completes (.queueDisable w die q word) s fun t =>
          t.qEnabled die q = false ∧ t.ring die q = [] ∧ (∀ src, src < 8 → t.credits src die q = 0) ∧
          t.creditsDue = (s.creditsDue.filter fun c => !(c.dst == die && c.queue == q)) ∧
          t.flights = s.flights.map fun f => if f.die = die ∧ f.queue = q then { f with recalled := true } else f) ∧
      (∀ e rest, s.ring die q = e :: rest →
        Completes (.queuePop w die q 1) s fun t =>
          t.ring die q = rest ∧ t.creditsDue = s.creditsDue ++ [⟨entrySource e.hi, die, q⟩])) ∧
    (∀ die word, hasQueues die = true → s.takes w die 6 = true → s.fits w die 6 0x10C word = true →
      let to' := s.destDie w.code (field word 4 3)
      let q := field word 0 4
      let st := s.putStatus (whoDie w.code) to' q
      Completes (.queuePush w die word) s fun t =>
        t.rd die (Reg.QUE_PUSH_STAT_STATUS.w w.code) = st ∧
        (st = 0 →
          t.flights = s.flights ++
            [⟨to', q, s.rd die Reg.QUE_PUSH_LO_DATA % 2 ^ 32, entryHi w.code (field word 16 16), false⟩] ∧
          t.credits (whoDie w.code) to' q = (s.credits (whoDie w.code) to' q - 1) % 2 ^ 11) ∧
        (st ≠ 0 → t.flights = s.flights)) ∧
    (∀ sender die queue f rest,
      takeFirst (fun f : Flight => f.hi / 2 ^ 24 == sender && f.die == die && f.queue == queue) s.flights = some (f, rest) →
      Completes (.queueEntryArrival sender die queue) s fun t =>
        t.flights = rest ∧
        (s.absentDie die = true → t.creditsDue = s.creditsDue ++ [⟨entrySource f.hi, die, queue⟩]) ∧
        (s.absentDie die = false → s.qEnabled die queue = true → f.recalled = false →
          t.ring die queue = s.ring die queue ++ [⟨f.lo, f.hi, s.time, s.nextSlot die queue⟩]) ∧
        (s.absentDie die = false → (s.qEnabled die queue = false ∨ f.recalled = true) →
          t.queues = s.queues ∧ t.rd die (Reg.QUE_Qq_STAT_DISCARDS.i queue) =
            satAdd 10 (s.rd die (Reg.QUE_Qq_STAT_DISCARDS.i queue)) 1)) ∧
    (∀ src die queue c rest,
      takeFirst (fun c : CreditDue => c.src == src && c.dst == die && c.queue == queue) s.creditsDue = some (c, rest) →
      Completes (.creditReturn src die queue) s fun t =>
        t.credits src die queue = (s.credits src die queue + 1) % 2 ^ 11 ∧ t.creditsDue = rest) ∧
    (∀ k, k < 64 → s.takes w 0 9 = true →
      Completes (.tokenPageAcq w k) s (fun t =>
        t.tokenHeld k = true ∧
        (s.tokenHeld k = false → t.tokenOwner k = w.code % 256 ∧ t.tokenBroken k = false ∧
          t.rd 0 (Reg.TOKEN_RESULT_CODE.w w.code) = ofBool (s.tokenBroken k)) ∧
        (s.tokenHeld k = true → t.tokenOwner k = s.tokenOwner k ∧
          t.rd 0 (Reg.TOKEN_RESULT_CODE.w w.code) = if s.tokenOwner k = w.code then 3 else 2)) ∧
      Completes (.tokenPageRel w k) s fun t =>
        (s.tokenHeld k = true → s.tokenOwner k = w.code →
          t.tokenHeld k = false ∧ t.rd 0 (Reg.TOKEN_RESULT_CODE.w w.code) = 0) ∧
        (¬(s.tokenHeld k = true ∧ s.tokenOwner k = w.code) →
          t.tokenHeld k = s.tokenHeld k ∧ t.rd 0 (Reg.TOKEN_RESULT_CODE.w w.code) = 4))

/-- Frames of the Line ports: reception, input copies and their bindings, the service path and the link (R239, R242, R253,
R254, R262, R265, R269, R280). -/
def Obligations.LineFramesAreTaken : Prop :=
  ∀ (s : State), s.Sane → SMap.sorted s.exch.stations = true → SMap.sorted s.exch.gates = true →
    SMap.sorted s.queues = true →
    (∀ port stamp frame, port < 4 → s.lineUp port = true → 60 ≤ frame.length → frame.length ≤ 1518 →
      let etype := ofBE (cut frame 12 2)
      Completes (.lineFrameReceive port stamp frame false) s (fun t =>
        stamp ≤ t.time ∧ t.exch = s.exch ∧ t.rd 0 (Reg.LINEn_RX_FCS_COUNT.p port) =
          satAdd 32 (s.rd 0 (Reg.LINEn_RX_FCS_COUNT.p port)) 1) ∧
      Completes (.lineFrameReceive port stamp frame true) s fun t =>
        stamp ≤ t.time ∧
        (etype = s.rd 0 Reg.STN_CFG_ETYPE → etype ≠ 0x8100 → etype ≠ 0x8808 →
          t.exch.slasel = insertFrame ⟨port, stamp, frame⟩ s.exch.slasel) ∧
        (etype = 0x88F7 → etype ≠ s.rd 0 Reg.STN_CFG_ETYPE → 
          t.exch.ptpIn = s.exch.ptpIn ++ [⟨port, sfdReceived s port stamp frame.length, frame⟩]) ∧
        (etype ∉ [0x8100, 0x8808, 0x88F7, s.rd 0 Reg.STN_CFG_ETYPE, s.rd 0 Reg.AUTH_CFG_ETYPE] →
          ∀ k, s.freeHolding = some k → s.qEnabled 0 (8 + port) = true → 0 < s.credits 1 0 (8 + port) →
            t.ring 0 (8 + port) = s.ring 0 (8 + port) ++ 
              [⟨0x280000 + 2048 * k, entryHi 31 frame.length, t.time, s.nextSlot 0 (8 + port)⟩] ∧
            t.loadBytes (phys 0 (0x280000 + 2048 * k)) frame.length = frame)) ∧
    (∀ f rest, s.exch.slasel = f :: rest → s.serviceUp f = false → f.port < 4 →
      let hdr := cut f.bytes 14 16
      let n := ofBE (cut hdr 2 2)
      let e := s.station n
      s.addressed f = true → byteAt hdr 0 = 0x12 → n < 1024 → e.valid = true → e.kind = 0 → e.onPort f.port = true →
      ofBE (cut f.bytes 6 6) = e.mac → ofBE (cut hdr 6 2) = e.inLen → 30 + e.inLen ≤ f.bytes.length → 128 ≤ byteAt hdr 1 →
      (s.stn n).ref = false ∨ seqOrder (ofBE (cut hdr 4 2)) (s.rd 0 (Reg.STN_LAST_SEQ.w n)) = 1 →
      Completes .inputFrame s fun t =>
        t.exch.slasel = rest ∧
        (∃ slot, t.exch.copies = s.exch.copies ++ [⟨f.port, n, f.stamp, cut f.bytes 30 e.inLen, slot⟩] ∧
          (s.on 0 Reg.XCHG_STAT_CUT = false ∨ f.stamp < s.frame.tickTime → slot = 0)) ∧
        (t.stn n).got = true ∧ (t.stn n).ref = true ∧
        t.rd 0 (Reg.STN_LAST_SEQ.w n) = ofBE (cut hdr 4 2) % 2 ^ 16 ∧
        t.rd 0 (Reg.LINEn_RX_OK_COUNT.p f.port) = satAdd 32 (s.rd 0 (Reg.LINEn_RX_OK_COUNT.p f.port)) 1) ∧
    (∀ c rest, s.exch.copies = c :: rest → s.on 0 Reg.XCHG_STAT_CUT = false →
      Completes .bindingWrite s fun t =>
        t.exch.copies = rest ∧
        ∀ e, s.runsOf c.station false = [e] → e.image + e.length ≤ (if e.analogue then 32768 else 262144) →
          ∀ i, i < e.length →
            t.point recvImage e.analogue (e.image + i) = inElement e c.payload i % 2 ^ 32 ∧
            (s.frame.ticked = true → c.stamp < s.frame.tickTime →
              t.point snapImage e.analogue (e.image + i) = inElement e c.payload i % 2 ^ 32)) ∧
    (∀ f rest, s.exch.slasel = f :: rest → s.serviceUp f = true → f.port < 4 →
      let n := ofBE (cut f.bytes 16 2)
      Completes .serviceUpFrame s fun t =>
        t.exch.slasel = rest ∧
        ∀ k, n < 1024 → (s.station n).valid = true → s.freeHolding = some k → s.qEnabled 0 (8 + f.port) = true →
          0 < s.credits 1 0 (8 + f.port) →
          t.ring 0 (8 + f.port) =
            s.ring 0 (8 + f.port) ++
              [⟨0x280000 + 2048 * k, entryHi 31 f.bytes.length, s.time, s.nextSlot 0 (8 + f.port)⟩]) ∧
    (∀ p station tag payload, p < 4 → s.firmware = true → payload.length ≤ 1440 → s.lineUp p = true →
      (s.gate p).waiting = [] →
      let f := slaselFrame (s.station (station % 1024)).mac (s.lineMac p) (s.rd 0 Reg.STN_CFG_ETYPE) 4 0
        (station % 1024) 0 (toBE 4 tag) (toBE 4 0) payload
      Completes (.serviceDownSend (2 ^ p) station tag payload) s fun t =>
        (s.mayStart p 4 f.length = .go → SMap.find? t.exch.lineOut p = some f ∧ (t.gate p).waiting = []) ∧
        (s.mayStart p 4 f.length ≠ .go → t.exch.lineOut = s.exch.lineOut ∧
          ((t.gate p).waiting.map fun x => (x.1, x.2.2)) = [(4, f)])) ∧
    (∀ port (up : Bool), port < 4 → s.enabled 0 (0x1D + port) = true →
      Completes (.lineLinkChange port up) s fun t =>
        t.lineUp port = (up && (s.lineUp port || s.firmware)) ∧ t.exch.phy = setBit s.exch.phy port up)

/-- Precision time messages, their intervals and the read of the time; gate control lists (R67, R243, R247, R248, R278). -/
def Obligations.TimeAndGatesAct : Prop :=
  ∀ (s : State), s.Sane → SMap.sorted s.exch.gates = true → SMap.sorted s.exch.ptp = true →
    (∀ f rest, s.exch.ptpIn = f :: rest →
      let m := f.bytes.drop 14
      let u : State := ptpExpire { s with exch := { s.exch with ptpIn := rest } }
      let off := (f.stamp : Int) - ptpStamp m 34 - (s.rd 0 (Reg.PTP_PDELAYn_NS.i f.port) : Int) - ptpCorrection m
      ∃ t, exec .ptpMessage s = .next t ∧
        (t.exch.ptpIn = rest ∧
        (s.firmware = true → s.ptpOn f.port = true → byteAt m 1 % 16 = 2 → byteAt m 4 = s.rd 0 Reg.PTP_CFG_DOMAIN →
          44 ≤ m.length → authTlv m = false → byteAt m 0 % 16 = 0 → fromParent u f.port m = true →
          bit (byteAt m 6) 1 = false →
          t.rd 0 Reg.PTP_OFFSET_NS = ofInt 32 (clampInt (-2147483648) 2147483647 off) ∧
          (s.mode = 0 → t.time = ((s.time : Int) - off).toNat) ∧
          (s.mode ≠ 0 → t.time = s.time ∧ t.exch.slew = -off ∧
            t.on 0 Reg.TICK_STAT_SLEWING = decide (1000 < off.natAbs))))) ∧
    (∀ w : Who, s.reaches w 0 = true → ∃ t, exec (.ptpTimeRead w) s = .next t ∧
      (t.rd 0 Reg.PTP_TIME_LO_NS = s.time % 2 ^ 32 ∧ t.rd 0 Reg.PTP_TIME_HI_NS = s.time / 2 ^ 32 % 2 ^ 32 ∧
      (SMap.find? t.replies w.code).isSome = true)) ∧
    (∀ port, port < 4 → s.firmware = true → s.ptpOn port = true →
      ((ptpExpire s).ptpState port = 6 →
        (∃ t, exec (.ptpMessageInterval port 0) s = .next t ∧
          ((t.ptpPort port).sentSync = ((s.ptpPort port).sentSync + 1) % 65536)) ∧
        ∃ t, exec (.ptpMessageInterval port 1) s = .next t ∧
          ((t.ptpPort port).sentAnnounce = ((s.ptpPort port).sentAnnounce + 1) % 65536)) ∧
      ∃ t, exec (.ptpMessageInterval port 2) s = .next t ∧
        ((t.ptpPort port).reqSeq = ((s.ptpPort port).reqSeq + 1) % 65536 ∧ (t.ptpPort port).respOpen = false ∧
        ((s.gate port).waiting = [] → s.mayStart port 6 68 = .go → (t.ptpPort port).reqAt = s.sfdSent port s.time))) ∧
    (∀ w : Who, s.takes w 0 0x1C = true →
      let p := s.rd 0 Reg.TSN_SEL_PORT
      let l := adminList s p
      ∃ t, exec (.tsnChange w) s = .next t ∧
        (((l.map (·.2)).sum = s.rd 0 (Reg.TSN_CYCLE_NS.w p) →
          t.on 0 (Reg.TSN_STAT_PENDING.w p) = true ∧ t.on 0 (Reg.TSN_STAT_CHANGE_FAIL.w p) = false ∧
          (t.gate p).next = some (s.time + 100000, l)) ∧
        ((l.map (·.2)).sum ≠ s.rd 0 (Reg.TSN_CYCLE_NS.w p) →
          t.on 0 (Reg.TSN_STAT_CHANGE_FAIL.w p) = true ∧ t.exch.gates = s.exch.gates))) ∧
    (∀ port, port < 4 → (s.gate port).list.isEmpty = false →
      let g := s.gate port
      let i := if g.entry + 1 < g.list.length then g.entry + 1 else 0
      ∃ t, exec (.gateEntryExpiry port) s = .next t ∧
        (g.entryEnd ≤ t.time ∧ (t.gate port).entry = i ∧
        ∀ e, g.list[i]? = some e → (t.gate port).entryEnd = g.entryEnd + e.2))

/-- Entries of the Station Table and the Catalogue are stored, checked and copied, or held (R257, R264, R267, R268). -/
def Obligations.TableCommandsAct : Prop :=
  ∀ (s : State) (w : Who), s.Sane → s.catActive ≤ 1 →
    (s.takes w 0 0x1A = true → ∀ word, s.rd 0 Reg.STN_SEL_STATION < 1024 →
      (s.tablesHeld = false → s.fits w 0 0x1A 0x11C word = true →
        ∃ t, exec (.stationEntryWrite w word) s = .next t ∧ (∀ f ∈ stnFields,
          t.rd 0 (f.w ((1 - s.catActive) * 1024 + s.rd 0 Reg.STN_SEL_STATION)) =
            if f.off = 0x11C then f.get word else s.rd 0 (f.w staged) % 2 ^ f.width)) ∧
      (s.tablesHeld = true →
        ∃ t, exec (.stationEntryWrite w word) s = .next t ∧
          (t.exch.heldTables = s.exch.heldTables ++ [⟨w.code, 0x1A, 0x11C, word, true⟩] ∧
          State.pageReq w 0 0x1A 0x11C word ∈ t.holding ∧ ChangesOnly [.exch, .holding, .regs, .dirty] s t))) ∧
    (s.takes w 0 0x19 = true →
      (∀ word, s.rd 0 Reg.CAT_SEL_INDEX < 24576 →
        (s.tablesHeld = false → s.fits w 0 0x19 0x110 word = true →
          ∃ t, exec (.catalogueEntryWrite w word) s = .next t ∧ (∀ f ∈ catFields,
            t.rd 0 (f.w ((1 - s.catActive) * 24576 + s.rd 0 Reg.CAT_SEL_INDEX)) =
              if f.off = 0x110 then f.get word else s.rd 0 (f.w staged) % 2 ^ f.width)) ∧
        (s.tablesHeld = true →
          ∃ t, exec (.catalogueEntryWrite w word) s = .next t ∧
            (t.exch.heldTables = s.exch.heldTables ++ [⟨w.code, 0x19, 0x110, word, true⟩] ∧
            State.pageReq w 0 0x19 0x110 word ∈ t.holding ∧ ChangesOnly [.exch, .holding, .regs, .dirty] s t))) ∧
      (∀ copy, s.tablesHeld = false → s.fits w 0 0x19 0x100 (1 + 2 * ofBool copy) = true →
        ∃ t, exec (.catalogueSwap w copy) s = .next t ∧
          (t.on 0 Reg.CAT_STAT_CHECKING = true ∧ t.on 0 Reg.CAT_STAT_CHECK_FAIL = false ∧
          t.rd 0 Reg.CAT_STAT_FAIL_CODE = 0 ∧
          t.exch.heldTables = s.exch.heldTables ++ (if copy then [⟨w.code, 0x19, 0x100, 2, false⟩] else []))) ∧
      (s.tablesHeld = false →
        ∃ t, exec (.catalogueCopy w) s = .next t ∧
          ((∀ f ∈ stnFields, ∀ k, k < 1024 →
            t.rd 0 (f.w ((1 - s.catActive) * 1024 + k)) = s.rd 0 (f.w (s.catActive * 1024 + k)) % 2 ^ f.width) ∧
          ∀ f ∈ catFields, ∀ k, k < 24576 →
            t.rd 0 (f.w ((1 - s.catActive) * 24576 + k)) = s.rd 0 (f.w (s.catActive * 24576 + k)) % 2 ^ f.width))) ∧
    (s.on 0 Reg.CAT_STAT_CHECKING = true →
      ∃ t, exec .catalogueCheckEnd s = .next t ∧
        ((s.tableFailure (1 - s.catActive) = none →
          t.exch.swapDue = true ∧ t.on 0 Reg.CAT_STAT_CHECKING = false ∧ t.exch.heldTables = s.exch.heldTables) ∧
        ∀ c i p, s.tableFailure (1 - s.catActive) = some (c, i, p) → s.exch.heldTables = [] →
          t.on 0 Reg.CAT_STAT_CHECKING = false ∧ t.on 0 Reg.CAT_STAT_CHECK_FAIL = true ∧
          t.rd 0 Reg.CAT_STAT_FAIL_CODE = c % 2 ^ 4 ∧ t.rd 0 Reg.CAT_STAT_FAIL_INDEX = i % 2 ^ 15 ∧
          bit (t.rd 0 (IRQ_RAW_SRC 0x19)) 1 = true))

/-- Shunting: its start and its abandonment, the end of a pre-copy pass and the target's answer (R285, R289, R290, R294,
R319). -/
def Obligations.ShuntingCommandsAct : Prop :=
  ∀ (s : State), s.Sane → SMap.sorted s.queues = true →
    (∀ f,
      s.accepts f [] 0x08 rolesEW (fun p => p.length == 4 && isScan (byteAt p 0) && (byteAt p 1 == 0 || isScan (byteAt p 1)) &&
        decide (byteAt p 2 ≤ 1) && byteAt p 3 == 0) →
      let u := s.accepted f []
      let p := frameParams f
      Completes .shunt s fun t =>
        (u.shuntRefusal (byteAt p 0) (byteAt p 1) = none →
          t.rd 0 Reg.SHUNT_STAT_STATE = 1 ∧ t.rd 0 Reg.SHUNT_STAT_SOURCE = byteAt p 0 ∧
          t.rd 0 Reg.SHUNT_STAT_TARGET = (u.shuntTarget (byteAt p 1)).getD 0 % 8 ∧
          t.rd 0 Reg.SHUNT_STAT_MODE = byteAt p 2 ∧ inDies t.tracked (byteAt p 0) = true ∧
          t.rd 0 Reg.AUTH_STAT_RESULT = 1) ∧
        ∀ c, u.shuntRefusal (byteAt p 0) (byteAt p 1) = some c →
          t.rd 0 Reg.SHUNT_STAT_CODE = c % 16 ∧ t.rd 0 Reg.SHUNT_STAT_STATE = s.rd 0 Reg.SHUNT_STAT_STATE ∧
          t.rd 0 Reg.AUTH_STAT_RESULT = 2) ∧
    (∀ w : Who, s.takes w 0 0x14 = true → s.rd 0 Reg.SHUNT_STAT_STATE ∈ [1, 2] →
      Completes (.shuntAbandon w) s fun t =>
        t.rd 0 Reg.SHUNT_STAT_STATE = 5 ∧ t.rd 0 Reg.SHUNT_STAT_CODE = 11 ∧ bit (t.rd 0 (IRQ_RAW_SRC 0x14)) 1 = true) ∧
    (s.rd 0 Reg.SHUNT_STAT_STATE ∈ [1, 2] → s.nextRegion = none →
      Completes .precopyPassEnd s fun t =>
        t.shunt.pos = 0 ∧ t.shunt.first = false ∧
        t.rd 0 Reg.SHUNT_PASSES_COUNT = (s.rd 0 Reg.SHUNT_PASSES_COUNT + 1) % 2 ^ 32 ∧ t.rd 0 Reg.SHUNT_STAT_STATE = 2 ∧
        (s.rd 0 Reg.SHUNT_STAT_STATE = 1 → t.rd 0 Reg.SHUNT_TRIES_LEFT = s.rd 0 Reg.SHUNT_CFG_TRIES % 2 ^ 7)) ∧
    (∀ e rest, s.ring 0 13 = e :: rest → s.firmware = true → s.rd 0 Reg.SHUNT_STAT_STATE ∈ [1, 2] →
      s.on 0 Reg.SHUNT_STAT_MODE = true → e.hi / 2 ^ 29 % 8 = s.rd 0 Reg.SHUNT_STAT_TARGET →
      (e.hi % 2 ^ 16 = 0xA001 →
        Completes .handoverAccept s fun t =>
          t.ring 0 13 = rest ∧
          (e.lo = crc32c (s.loadBytes (phys (s.rd 0 Reg.SHUNT_STAT_SOURCE) 0x7BF000) 4096) →
            t.on 0 Reg.SHUNT_STAT_ACCEPTED = true)) ∧
      (e.hi % 2 ^ 16 = 0xA002 →
        Completes .handoverRefuse s fun t =>
          t.ring 0 13 = rest ∧ t.rd 0 Reg.SHUNT_STAT_STATE = 5 ∧ t.rd 0 Reg.SHUNT_STAT_CODE = 10)) ∧
    (s.pair.bulkFinal = false → s.rd 0 Reg.SHUNT_STAT_STATE = 3 → s.shunt.delivered = false →
      s.working (s.rd 0 Reg.SHUNT_STAT_SOURCE) 6 = true →
      let d := s.rd 0 Reg.SHUNT_STAT_SOURCE
      let fails := s.deltaPoisoned d || s.absentDie (s.rd 0 Reg.SHUNT_STAT_TARGET)
      Completes .deltaEnd s fun t =>
        (fails = true → t.rd 0 Reg.SHUNT_STAT_STATE = 5 ∧ t.rd 0 Reg.SHUNT_STAT_CODE = 7) ∧
        (fails = false → t.shunt.delivered = true))

/-- Roles of dies (retirement, return and its test, APPLY and REPLACE), and rails, header switches, retention and resets of Scan
dies (R20, R21, R281, R283, R284, R320, R329, R458, R466, R469, R470). -/
def Obligations.DiesChangeRolesAndPower : Prop :=
  (∀ (s : State), s.Sane →
    (∀ f, s.accepts f [] 0x09 rolesEW (fun p => p.length == 4 && isScan (byteAt p 0) && zeroAt p 1 3) →
      let d := byteAt (frameParams f) 0
      Completes .dieRetire s fun t =>
        ((s.role d = 1 ∨ s.role d = 2) → t.role d = 3 ∧ t.powered d = false ∧ t.rd 0 Reg.AUTH_STAT_RESULT = 0) ∧
        (¬(s.role d = 1 ∨ s.role d = 2) →
          t.role d = s.role d ∧ t.rd 0 Reg.PART_STAT_REFUSE = 1 ∧ t.rd 0 Reg.AUTH_STAT_RESULT = 2)) ∧
    (∀ f, s.accepts f [] 0x0A rolesEW (fun p => p.length == 4 && isScan (byteAt p 0) && zeroAt p 1 3) →
      let d := byteAt (frameParams f) 0
      Completes .dieReturn s fun t =>
        (s.returnRefusal d = none → inDies t.shunt.returning d = true ∧ t.rd 0 Reg.AUTH_STAT_RESULT = 1) ∧
        ∀ c, s.returnRefusal d = some c → t.rd 0 Reg.PART_STAT_REFUSE = c % 16 ∧ t.rd 0 Reg.AUTH_STAT_RESULT = 2) ∧
    (∀ die good, inDies s.shunt.returning die = true →
      Completes (.returnTestEnd die good) s fun t =>
        inDies t.shunt.returning die = false ∧
        (good = true → s.role die = 2 → (s.diesIn 1).length < 2 → t.role die = 1) ∧
        (good = true → s.role die = 2 → 2 ≤ (s.diesIn 1).length → t.role die = 2 ∧ t.rd 0 Reg.PART_STAT_REFUSE = 2) ∧
        (good = false ∨ s.role die ≠ 2 → t.role die = s.role die ∧ t.rd 0 Reg.PART_STAT_REFUSE = 3)) ∧
    (∀ w : Who, s.takes w 0 0x17 = true →
      (s.fits w 0 0x17 0x100 145 = true →
        let want (d : Nat) : Nat := if s.role d = 3 then 3 else field (s.rd 0 Reg.PART_CFG_ROLES) (2 * (d - 2)) 2
        let n (r : Nat) : Nat := (scanDies.filter fun d => want d == r).length
        Completes (.partApply w) s fun t =>
          (n 0 ≠ 0 → n 1 ≤ 2 → ∀ d ∈ scanDies, t.role d = want d) ∧
          (n 0 = 0 ∨ 2 < n 1 → t.rd 0 Reg.PART_STAT_REFUSE = 4 ∧ ∀ d ∈ scanDies, t.role d = s.role d)) ∧
      ∀ a b image, isScan a = true → isScan b = true → a ≠ b → s.fits w 0 0x17 0x100 (2 + 8 * a + 64 * b) = true →
        let may := (s.role a = 2 ∨ inDies (s.rd 0 Reg.PART_STAT_FAILED) a = true) ∧ s.role a ≠ 3 ∧ s.role b = 1 ∧
          s.powered b = true ∧ s.present b = true
        Completes (.partReplace w a b image) s fun t =>
          (may → t.role a = 2 ∧ t.role b = 0 ∧
            ∀ n ∈ scanDies, t.dieOf n = if s.dieOf n = a then b else if s.dieOf n = b then a else s.dieOf n) ∧
          (¬may → t.rd 0 Reg.PART_STAT_REFUSE = 1 ∧ t.role a = s.role a ∧ t.role b = s.role b))) ∧
  (∀ (s : State), s.Sane →
    (∀ die, inDies (s.rd 0 Reg.PWR_STAT_RAILS) die = true →
      Completes (.scanRailLoss die) s fun t =>
        inDies (t.rd 0 Reg.PWR_STAT_RAILS) die = false ∧ t.present die = false ∧ t.powered die = false ∧
        (s.live die = true → t.role die = 2 ∧ inDies t.frame.lost die = true)) ∧
    (∀ die, isScan die = true → inDies (s.rd 0 Reg.PWR_STAT_RAILS) die = false →
      Completes (.scanRailReturn die) s fun t =>
        inDies (t.rd 0 Reg.PWR_STAT_RAILS) die = true ∧ t.powered die = s.powered die ∧ t.present die = s.present die ∧
        bit (t.rd 0 (IRQ_RAW_SRC 2)) 1 = true) ∧
    (∀ (w : Who) word, s.takes w 0 2 = true → s.fits w 0 2 0x100 word = true →
      Completes (.headerSwitch w word) s fun t => ∀ d ∈ scanDies,
        (inDies word d = false → t.powered d = false) ∧
        (inDies word d = true → s.powered d = true → t.powered d = true) ∧
        (inDies word d = true → s.powered d = false → s.present d = true →
          inDies (s.rd 0 Reg.PWR_STAT_RAILS) d = true → s.role d ≠ 3 →
          t.powered d = true ∧ t.rd d Reg.RST_DIE_CAUSE_CAUSE = 2 ∧ t.fenced d = true)) ∧
    (∀ (w : Who) word, s.takes w 0 2 = true → word < 64 →
      Completes (.dieRetain w word) s fun t => ∀ d ∈ scanDies, s.powered d = true →
        inDies (t.rd 0 Reg.PWR_STAT_RETAINED) d = inDies word d) ∧
    (∀ (w : Who) word, s.takes w 0 3 = true → s.fits w 0 3 0x104 word = true →
      Completes (.dieReset w word) s fun t => ∀ d ∈ scanDies, inDies word d = true → s.live d = false → s.powered d = true →
        t.rd d Reg.RST_DIE_CAUSE_CAUSE = 3 ∧ t.fenced d = true ∧
        ∀ own, own < 0x1000000 → t.loadByte (phys d own) = 0))

/-- Heartbeats and the lanes of the Partner link, and the messages of the Mirror (R298 to R304); what the payloads
of SIDE and DELTA hold and where they are staged is the model's choice, log entries 65 and 66. -/
def Obligations.MirrorMessagesAct : Prop :=
  ∀ (s : State), s.Sane →
    (∀ m : LinkHead, s.on 0 Reg.PAIR_CFG_EN = true → s.pair.aligned = true → m.good = true → (s.pair.rxSeq = some m.seq ∨ s.pair.rxSeq = none) →
      let kept (t : State) : Prop := t.pair.rxSeq = some ((m.seq + 1) % 2 ^ 32)
      let x := s.rxOf m.frame
      (∀ payload, payload.length = 32 →
        Completes (.heartbeat m payload) s fun t =>
          kept t ∧ t.pair.beat = payload ∧
          (m.frame = s.frameNo → s.pair.heard = false →
            t.pair.heard = true ∧ t.pair.missed = 0 ∧ t.pair.goodAt = s.time ∧ t.on 0 Reg.PAIR_STAT_LINK = true)) ∧
      (∀ offset data, s.mirrorTo = true → offset + data.length ≤ imageBytes →
        Completes (.snapMessage m offset data) s fun t =>
          kept t ∧ t.loadBytes (mirrorStage + offset) data.length = data ∧
          t.pair.rx = some { x with count := x.count + 1, data := x.data ++ (toBE 4 offset ++ data) }) ∧
      (∀ payload, s.mirrorTo = true →
        Completes (.sideMessage m payload) s fun t =>
          kept t ∧ t.pair.rx = some { x with count := x.count + 1, data := x.data ++ payload, side := x.side ++ payload }) ∧
      (∀ payload, s.mirrorTo = true →
        let pos := (x.deltas.map List.length).sum
        Completes (.deltaMessage m payload) s fun t =>
          kept t ∧
          t.pair.rx = some { x with count := x.count + 1, data := x.data ++ payload, deltas := x.deltas ++ [payload] } ∧
          (pos + payload.length ≤ 0x2C000 → t.loadBytes (deltaSlot m.frame + pos) payload.length = payload)) ∧
      (∀ digest crc count y, s.pair.rx = some y →
        Completes (.endMessage m digest crc count) s fun t =>
          kept t ∧ t.pair.rx = none ∧
          t.pair.done = (if y.frame = m.frame ∧ y.good = true ∧ Sha.sha256 y.data = digest ∧ y.count = count
            then some { y with crc := crc } else s.pair.done)) ∧
      (s.pairState = 4 ∨ s.pairState = 6 →
        Completes (.abortMessage m) s fun t =>
          kept t ∧ t.pair.rx = none ∧ t.pairState = 5 ∧ t.rd 0 Reg.PAIR_STAT_CAUSE = 1 ∧
          t.rd 0 Reg.PAIR_DISCARDS_COUNT = satAdd 32 (s.rd 0 Reg.PAIR_DISCARDS_COUNT) 1)) ∧
    (s.frame.ticked = true → s.pair.heard = false → s.rd 0 Reg.UPD_KSTAT_STATE ≠ 2 →
      Completes .heartbeatMissing s fun t =>
        s.frame.tickTime + 10000 ≤ t.time ∧ t.pair.heard = true ∧
        (s.pair.missed + 1 < s.rd 0 Reg.PAIR_CFG_HB_MISS →
          t.pair.missed = s.pair.missed + 1 ∧ t.on 0 Reg.PAIR_STAT_LINK = s.on 0 Reg.PAIR_STAT_LINK) ∧
        (s.rd 0 Reg.PAIR_CFG_HB_MISS ≤ s.pair.missed + 1 → s.on 0 Reg.PAIR_STAT_LINK = true →
          t.on 0 Reg.PAIR_STAT_LINK = false ∧ t.pair.silentAt = t.time ∧ (s.pairState = 4 → t.pairState = 6))) ∧
    (s.pair.aligned = true →
      Completes .laneAlignmentLoss s fun t =>
        t.pair.aligned = false ∧ t.pair.rxSeq = none ∧ t.pair.rx = none ∧ t.on 0 Reg.PAIR_STAT_LINK = false) ∧
    (s.pair.aligned = false →
      Completes .partnerLinkAligned s fun t =>
        t.pair.aligned = true ∧ t.pair.rxSeq = none ∧ t.on 0 Reg.PAIR_STAT_LINK = true ∧
        (s.pairState = 7 → t.pairState = 5)) ∧
    (s.standby = true → s.frame.ticked = true → s.pair.apply = none → s.rd 0 Reg.UPD_KSTAT_STATE ≠ 2 →
      (s.pairState = 4 ∨ s.pairState = 6) → s.pair.broken = none →
      Completes .mirrorApplyDeadline s fun t =>
        s.frame.tickTime + 1000 ≤ t.time ∧
        (∀ x, s.pair.done = some x → x.frame < s.frameNo → s.pair.applied < x.frame →
          t.pair.apply = some x ∧ t.pair.done = none ∧ t.frame.status = ofBE (cut x.side 0 8)) ∧
        (s.pair.done = none → (s.pairState = 4 ∨ s.on 0 Reg.PAIR_STAT_LINK = true) →
          t.pair.broken = some 0 ∧ t.rd 0 Reg.PAIR_DISCARDS_COUNT = satAdd 32 (s.rd 0 Reg.PAIR_DISCARDS_COUNT) 1))

/-- Bulk synchronisation, notices of a change, a yield and relayed authority frames (R235, R305, R314, R480, R497);
the pages of the bulk copy are numbered by the model, log entry 65. -/
def Obligations.BulkAndNoticesAct : Prop :=
  ∀ (s : State), s.Sane →
    (∀ m : LinkHead, s.on 0 Reg.PAIR_CFG_EN = true → s.pair.aligned = true → m.good = true →
      (s.pair.rxSeq = some m.seq ∨ s.pair.rxSeq = none) →
      let kept (t : State) : Prop := t.pair.rxSeq = some ((m.seq + 1) % 2 ^ 32)
      (s.pairState = 3 →
        (∀ name region data a, isScan name = true → data.length = 4096 → regionAddr region = some a →
          Completes (.bulkMessage m name region data) s fun t =>
            kept t ∧ t.loadBytes (phys (s.mapName name) a) 4096 = data) ∧
        (∀ name data, isScan name = true → data.length = 4096 →
          Completes (.bulkMessage m name regionCount data) s fun t =>
            kept t ∧ inDies t.pair.bulkGot name = true ∧ t.pair.bulkFrame = m.frame) ∧
        (∀ offset data, offset + data.length ≤ imageBytes →
          Completes (.bulkKeeper m 6 offset data) s fun t =>
            kept t ∧ t.loadBytes (K_IMAGE + 0x78000 + offset) data.length = data ∧
            t.on 0 Reg.IMG_STAT_SAFE_VALID = true)) ∧
      (∀ identity frame revert, s.standby = true → identity = s.change.identity →
        s.change.state = (if revert then 5 else 2) →
        Completes (.armNotice m identity frame revert) s fun t =>
          kept t ∧ t.change.switchFrame = frame ∧ t.change.reverting = revert ∧
          t.change.state = (if revert then 6 else 3) ∧ t.change.go = false) ∧
      (∀ identity frame, s.standby = true → s.changeArmed = true → identity = s.change.identity →
        frame = s.change.switchFrame →
        let starts := frame = s.frameNo + 1 ∧ s.carryInstant ≤ s.time ∧ s.pointsOk = true
        Completes (.goMarker m identity frame) s fun t =>
          kept t ∧ t.change.go = true ∧ (¬starts → t.change.state = s.change.state) ∧
          (starts → t.change.carryAt = s.time ∧ t.change.state = if s.change.reverting then s.change.state else 4)) ∧
      (∀ named, (s.pairState = 4 ∨ s.pairState = 6) →
        (named = s.pair.applied ∨ s.pair.apply.map MirrorRx.frame = some named ∨
          s.pair.done.map MirrorRx.frame = some named) →
        Completes (.yieldMessage m named) s fun t =>
          kept t ∧ t.pairState = 8 ∧ t.on 0 Reg.TABLET_CTL_WANT = true ∧ t.pair.decidedAt = s.time) ∧
      (∀ frame,
        (128 ≤ byteAt frame 1 →
          Completes (.authorityReply m frame) s fun t =>
            kept t ∧ t.auth.relayed = none ∧ t.upd.partner = some (ofBE (cut frame 4 8))) ∧
        (byteAt frame 1 < 128 → s.auth.inbox = [] → s.firmware = true → State.hasRow ⟨1, 0, frame⟩ = true →
          Completes (.authorityReply m frame) s fun t => kept t ∧ t.auth.inbox = [⟨1, 0, frame⟩]))) ∧
    (∀ w : Who, s.takes w 0 0x15 = true →
      let may := (s.pairState = 5 ∨ s.pairState = 7) ∧ s.partnerReachable = true ∧ s.partnerState = 2 ∧
        byteAt s.pair.beat 2 = 1 ∧ s.settingsMatch = true ∧ cut s.pair.beat 16 8 = s.change.running.take 8 ∧
        s.bulkLegal = true
      Completes (.pairSyncRequest w) s fun t =>
        (may → t.pairState = 3 ∧ t.pair.bulkGot = 0 ∧ t.pair.rx = none ∧ t.pair.done = none) ∧
        (¬may → t.pairState = s.pairState ∧ t.pair = s.pair))

/-- The Tablet: what the part seeks, what it sees of the partner's claim, and the two waits; the witness and the switch-over of a
pair (R306, R308 to R315, R322). -/
def Obligations.TabletAndPairStatesChange : Prop :=
  (∀ (s : State), s.Sane →
    let st := s.rd 0 Reg.TABLET_STAT_STATE
    (∀ (w : Who) word, s.takes w 0 0x16 = true → word < 2 →
      Completes (.tabletWant w word) s fun t =>
        t.rd 0 Reg.TABLET_CTL_WANT = word ∧
        (st = 0 → word = 1 → s.claimSeen = false →
          t.rd 0 Reg.TABLET_STAT_STATE = 1 ∧ t.on 0 Reg.TABLET_STAT_CLAIM = true ∧ t.pair.claimAt = s.cycle) ∧
        (st ∈ [1, 2] → word = 0 →
          t.rd 0 Reg.TABLET_STAT_STATE = 0 ∧ t.on 0 Reg.TABLET_STAT_CLAIM = false)) ∧
    (∀ asserted, s.claimSeen ≠ asserted →
      Completes (.tabletSeenChange asserted) s fun t =>
        t.claimSeen = asserted ∧
        (asserted = false → t.pair.clearAt = s.time) ∧
        (asserted = true → st = 1 →
          t.rd 0 Reg.TABLET_STAT_STATE = (if s.senior then 1 else 3) ∧
          t.rd 0 Reg.TABLET_COUNTS_COLLISIONS = satAdd 16 (s.rd 0 Reg.TABLET_COUNTS_COLLISIONS) 1) ∧
        (asserted = true → st = 2 →
          t.rd 0 Reg.TABLET_STAT_STATE = 0 ∧ t.on 0 Reg.TABLET_STAT_CLAIM = false ∧ t.on 0 Reg.TABLET_CTL_WANT = false)) ∧
    (st = 1 → s.claimSeen = false →
      Completes .claimHoldExpiry s fun t =>
        t.rd 0 Reg.TABLET_STAT_STATE = 2 ∧ t.on 0 Reg.TABLET_STAT_CLAIM = true ∧ s.pair.claimAt + 2000 ≤ t.cycle ∧
        t.rd 0 Reg.TABLET_GAINED_LO_NS = t.time % 2 ^ 32 ∧ t.rd 0 Reg.TABLET_GAINED_HI_NS = t.time / 2 ^ 32 % 2 ^ 32) ∧
    (st = 3 →
      Completes .backoffExpiry s fun t =>
        s.pair.backoffAt + 4000 ≤ t.cycle ∧
        t.rd 0 Reg.TABLET_STAT_STATE = (if s.on 0 Reg.TABLET_CTL_WANT && !s.claimSeen then 1 else 0))) ∧
  (∀ (s : State), s.Sane →
    (∀ data, s.firmware = true → s.on 0 Reg.PAIR_WIT_ENABLE = true → data.length = 48 →
      s.keyRole (s.rd 0 Reg.PAIR_WIT_KEY) = 5 →
      witnessTag s.witnessKey (s.rd 0 Reg.PAIR_WIT_BASE_ID) data = cut data 32 16 →
      (∀ c, s.pair.verdictCtr = some c → c < ofBE (cut data 24 8)) → byteAt data 0 = 2 → byteAt data 1 = 1 →
      ofBE (cut data 2 2) = s.rd 0 Reg.PAIR_ID_ID → byteAt data 4 ≤ 2 →
      let me := if s.senior then 1 else 2
      Completes (.verdict data) s fun t =>
        t.pair.verdictCtr = some (ofBE (cut data 24 8)) ∧ t.pair.verdictAt = s.time ∧
        t.rd 0 Reg.PAIR_STAT_VERDICT = byteAt data 4 ∧ t.on 0 Reg.PAIR_STAT_WITNESS = true ∧
        (byteAt data 4 = me → s.pairState = 1 → t.pairState = 2) ∧
        (byteAt data 4 = me → s.pairState = 4 ∨ s.pairState = 6 → t.pairState = 8) ∧
        (byteAt data 4 ≠ me → byteAt data 4 ≠ 0 → s.pairState = 1 ∨ s.pairState = 2 → t.pairState = 5)) ∧
    (∀ data, s.firmware = true → s.on 0 Reg.PAIR_WIT_ENABLE = true → data.length = 48 →
      (s.keyRole (s.rd 0 Reg.PAIR_WIT_KEY) ≠ 5 ∨
        witnessTag s.witnessKey (s.rd 0 Reg.PAIR_WIT_BASE_ID) data ≠ cut data 32 16 ∨
        ∃ c, s.pair.verdictCtr = some c ∧ ofBE (cut data 24 8) ≤ c) →
      Completes (.verdict data) s fun t =>
        t.pair.witnessDrops = s.pair.witnessDrops + 1 ∧ ChangesOnly [.pair] s t) ∧
    (s.firmware = true → s.on 0 Reg.PAIR_CFG_EN = true → s.on 0 Reg.PAIR_WIT_ENABLE = true →
      Completes .witnessHeartbeatSend s fun t =>
        (s.pair.epoch ≠ 0 → s.pair.sentCount ≠ 2 ^ 32 - 1 →
          t.pair.sentCount = s.pair.sentCount + 1 ∧ t.pair.epoch = s.pair.epoch) ∧
        (s.pair.epoch = 0 ∨ s.pair.sentCount = 2 ^ 32 - 1 → t.pair.sentCount = 1 ∧ t.pair.epoch = s.cell 16 + 1)) ∧
    (s.on 0 Reg.PAIR_STAT_WITNESS = true → s.rd 0 Reg.UPD_KSTAT_STATE ≠ 2 →
      Completes .witnessLoss s fun t =>
        t.on 0 Reg.PAIR_STAT_WITNESS = false ∧ s.pair.verdictAt + 2000000 * s.rd 0 Reg.PAIR_WIT_T_LOSS ≤ t.time) ∧
    (s.on 0 Reg.PAIR_CFG_EN = true → s.partnerDead = true → (s.pairState = 4 ∨ s.pairState = 6) →
      Completes .takeover s fun t =>
        t.pairState = 8 ∧ t.on 0 Reg.TABLET_CTL_WANT = true ∧ t.pair.decidedAt = s.time) ∧
    (s.pairState = 6 →
      Completes .silentExpiry s fun t =>
        t.pairState = 7 ∧ s.pair.goodAt + 1000000 * s.rd 0 Reg.PAIR_CFG_SILENT_MS ≤ t.time) ∧
    (s.pairState = 1 → s.claimSeen = false → s.on 0 Reg.PAIR_STAT_LINK = false →
      Completes .startingTimeout s fun t =>
        t.pairState = 2 ∧ t.on 0 Reg.TABLET_CTL_WANT = true ∧
        max s.pair.startAt (max s.pair.silentAt s.pair.clearAt) + 1000000000 ≤ t.time) ∧
    (∀ f, s.accepts f [] 0x07 rolesOEW (fun p => p.isEmpty) →
      Completes .pairSwitch s fun t =>
        (s.pairState = 2 → s.partnerReachable = true → byteAt s.pair.beat 0 = 4 →
          t.pair.yieldAfter = some s.frameNo ∧ t.rd 0 Reg.AUTH_STAT_RESULT = 0) ∧
        (¬(s.pairState = 2 ∧ s.partnerReachable = true ∧ byteAt s.pair.beat 0 = 4) →
          t.pair.yieldAfter = s.pair.yieldAfter ∧ t.rd 0 Reg.AUTH_STAT_RESULT = 2)))

/-- Memory banks, the scrubber, the DMA, the March engine and repairs (R338 to R349, R537); the background of a destructive
test is a free value (log entry 2), and how failing words reach the model is its choice (log entry 30). -/
def Obligations.MemoryEnginesAct : Prop :=
  ∀ (s : State) (w : Who) (die : Nat), s.Sane → SMap.sorted s.engines = true → SMap.sorted s.ecc = true →
    hasMarch s die = true →
    let g := s.eng die
    (∀ word, s.takes w die 7 = true → s.fits w die 7 0x100 word = true →
      Completes (.bankPowerSet w die word) s fun t => ∀ b ∈ banksOf die,
        let want := field word (2 * b) 2
        let now := s.rd die (Reg.MEM_PWR_STAT_BANKb.j b)
        t.rd die (Reg.MEM_PWR_STAT_BANKb.j b) = (if want = 0 then (if now = 0 then 0 else 3) else want) ∧
        (want = 2 → now ≠ 2 → ∀ a, (bankRange die b).1 ≤ a → a < (bankRange die b).1 + (bankRange die b).2 →
          t.loadByte a = 0)) ∧
    (∀ bank ∈ banksOf die, s.rd die (Reg.MEM_PWR_STAT_BANKb.j bank) = 3 →
      Completes (.bankWakeDone die bank) s fun t =>
        t.rd die (Reg.MEM_PWR_STAT_BANKb.j bank) = 0 ∧ bit (t.rd die (IRQ_RAW_SRC 7)) 2 = true) ∧
    (s.on die Reg.MEM_ECC_CTL_SCRUB_EN = true →
      let todo := (s.banksOn die).filter fun b => decide (SMap.get 0 g.scrubWord b < bankWords die b)
      Completes (.scrubRead die) s fun t =>
        t.mem = s.mem ∧
        ∀ b a, ((todo.find? fun b => decide (g.scrubBank ≤ b)) <|> todo.head?) = some b →
          bankWord die b (SMap.get 0 g.scrubWord b) = some a → s.eccAt a = 1 → t.eccAt a = 0) ∧
    (isScan die = true →
      (∀ word, s.takes w die 7 = true → s.fits w die 7 0x120 word = true →
        Completes (.dmaGo w die word) s fun t =>
          (s.rd die Reg.MEM_DMA_CODE_CODE ≠ 5 →
            t.rd die Reg.MEM_DMA_STAT_ADDR = word ∧ t.rd die Reg.MEM_DMA_CODE_CODE = 5 ∧ (t.eng die).dmaGo = some word) ∧
          (s.rd die Reg.MEM_DMA_CODE_CODE = 5 → t.engines = s.engines)) ∧
      (∀ d, g.dmaGo = some d → s.rowRunning die 6 = false →
        Completes (.dmaChainEnd die) s fun t =>
          ((dmaChain die dmaFuel d (2 ^ 40) s).2 = .done →
            (t.eng die).dmaGo = none ∧ t.rd die Reg.MEM_DMA_CODE_CODE = 0 ∧ t.rd die Reg.MEM_DMA_STAT_ADDR = d % 2 ^ 32) ∧
          ∀ c e, (dmaChain die dmaFuel d (2 ^ 40) s).2 = .stopped c e →
            (t.eng die).dmaGo = none ∧ t.rd die Reg.MEM_DMA_CODE_CODE = c % 8 ∧
            t.rd die Reg.MEM_DMA_STAT_ADDR = e % 2 ^ 32 ∧ bit (t.rd die (IRQ_RAW_SRC 7)) 3 = true)) ∧
    (∀ word, s.takes w die 8 = true →
      (s.fits w die 8 0x100 (word ||| 0x40) = true → field (word ||| 0x40) 0 2 ≠ 0 →
        Completes (.marchStart w die word) s fun t =>
          t.rd die Reg.MARCH_STAT_STATE = 1 ∧ t.rd die Reg.MARCH_STAT_BANK = field (word ||| 0x40) 2 3 ∧
          (t.eng die).testing = true ∧ (t.eng die).faulty = false ∧
          (t.eng die).testMode = field (word ||| 0x40) 0 2) ∧
      (s.fits w die 8 0x100 (setField (word ||| 0x80) 6 1 0) = true →
        Completes (.marchStop w die word) s fun t =>
          (t.eng die).testing = false ∧
          (g.testing = true → s.rd die Reg.MARCH_STAT_STATE = 1 → t.rd die Reg.MARCH_STAT_STATE = 0)) ∧
      (s.fits w die 8 0x120 (word ||| 2 ^ 17) = true →
        let v := word ||| 2 ^ 17
        let c := s.repairRefusal die (field v 0 3) (field v 3 4) (field v 7 1) (field v 8 9)
        Completes (.marchRepair w die word) s fun t =>
          (c = 0 → t.rd die Reg.MARCH_REPAIR_STAT_STATE = 1 ∧
            (t.eng die).repairing = some (field v 0 3, field v 3 4, field v 7 1, field v 8 9)) ∧
          (c ≠ 0 → t.rd die Reg.MARCH_REPAIR_STAT_STATE = 3 ∧ t.rd die Reg.MARCH_REPAIR_STAT_CODE = c % 8 ∧
            t.engines = s.engines))) ∧
    (loanOpen s die = true →
      let at' := s.rd die Reg.MARCH_STAT_WORD
      let n := s.rd die Reg.MARCH_CFG_LOAN_WORDS
      let bank := s.rd die Reg.MARCH_STAT_BANK
      let place (w : Nat) : Nat := (s.nextLoan die bank (bankWords die bank + 1) w).getD (bankWords die bank - 1) % 2 ^ 18
      (∀ word b lost,
        Completes (.loanEnd die false word b lost) s fun t =>
          t.rd die Reg.MARCH_LOANS_COUNT = (s.rd die Reg.MARCH_LOANS_COUNT + 1) % 2 ^ 32 ∧
          t.rd die Reg.MARCH_STAT_WORD = place (at' + n) ∧
          ∀ k a, k < loanWords s die → bankWord die bank (at' + k) = some a → s.eccAt a = 1 → t.eccAt a = 0) ∧
      Completes (.loanAbort die) s fun t =>
        t.rd die Reg.MARCH_ABORTS_COUNT = satAdd 32 (s.rd die Reg.MARCH_ABORTS_COUNT) 1 ∧
        (g.tries + 1 < s.rd die Reg.MARCH_CFG_RETRIES → (t.eng die).tries = g.tries + 1) ∧
        (s.rd die Reg.MARCH_CFG_RETRIES ≤ g.tries + 1 →
          t.rd die Reg.MARCH_SKIPPED_COUNT = satAdd 32 (s.rd die Reg.MARCH_SKIPPED_COUNT) 1 ∧ (t.eng die).tries = 0 ∧
          t.rd die Reg.MARCH_STAT_WORD = place (at' + n))) ∧
    (∀ word b lost, testsWord s die word = true →
      Completes (.loanEnd die true word b lost) s fun t =>
        t.rd die Reg.MARCH_STAT_STATE = 3 ∧ t.on die Reg.MARCH_FAULT_VALID = true ∧
        t.on die Reg.MARCH_FAULT_DATA_LOST = lost ∧ t.rd die Reg.MARCH_FAULT_BIT = b % 72 ∧
        t.rd die Reg.MARCH_FAULTS_COUNT = satAdd 32 (s.rd die Reg.MARCH_FAULTS_COUNT) 1 ∧
        (t.eng die).faulty = true ∧ (t.eng die).testing = g.testing) ∧
    (g.testing = true → ∀ fault word b,
      let bad := g.faulty || (fault && g.testMode == 2)
      Completes (.marchDone die fault word b) s fun t =>
        bit (t.rd die (IRQ_RAW_SRC 8)) 0 = true ∧
        (s.on die Reg.MARCH_CTL_LOOP = false ∨ s.rd die Reg.MARCH_CTL_MODE = 0 →
          (t.eng die).testing = false ∧ t.rd die Reg.MARCH_STAT_STATE = (if bad then 3 else 2) ∧
          (g.testMode ≠ 2 → t.mem = s.mem) ∧
          (g.testMode = 2 → fault = false → t.freeCtr = s.freeCtr + 1 ∧
            let r := bankRange die (s.rd die Reg.MARCH_STAT_BANK)
            ∀ k, 8 * k + 8 ≤ r.2 → t.load (r.1 + 8 * k) 8 = Config.freeValue s.freeCtr % 2 ^ 64)) ∧
        (s.on die Reg.MARCH_CTL_LOOP = true → s.rd die Reg.MARCH_CTL_MODE ≠ 0 →
          (t.eng die).testing = true ∧ t.rd die Reg.MARCH_STAT_STATE = (if bad then 3 else 1))) ∧
    (∀ bank sub kind index, g.repairing = some (bank, sub, kind, index) →
      Completes (.repairDone die true) s (fun t =>
        (t.eng die).repairing = none ∧ t.rd die Reg.MARCH_REPAIR_STAT_STATE = 2 ∧
        bit (t.rd die (IRQ_RAW_SRC 8)) 2 = true) ∧
      Completes (.repairDone die false) s fun t =>
        (t.eng die).repairing = none ∧ t.rd die Reg.MARCH_REPAIR_STAT_STATE = 2 ∧
        t.rd die Reg.MARCH_REPAIR_STAT_CODE = 6 ∧ (t.eng die).unsaved = g.unsaved ++ [(mapIndex die bank sub, kind, index)])

/-- CAN controllers: enabling, transmit buffers, errors and bus-off (R358, R360 to R363, R367 to R369, R376, R485); whether a
frame that starts next is already on the bus is a free value (log entry 2), and LEC 7 as the operand for a recessive res bit is the
model's choice (log entry 51). -/
def Obligations.CanControllersAct : Prop :=
  ∀ (s : State) (w : Who) (ch : Nat), s.Sane → SMap.sorted s.cans = true → ch < 2 →
    let r (f : FieldDef) : Nat := s.rd 0 (f.p ch)
    let tx (b : Nat) : Nat := s.txState ch b
    let pend (z : State) (b : Nat) : Bool := bit (z.rd 0 (Reg.CANx_TXSTAT_ABORT_PEND.p ch)) b
    (s.takes w 0 (0x21 + ch) = true →
      (s.enabled 0 (0x21 + ch) = true → r Reg.CANx_CTL_EN = 0 → r Reg.CANx_CTL_RECOVER = 0 → s.canState ch = 0 →
        (∀ f ∈ [Reg.CANx_CTL_FD_EN, Reg.CANx_CTL_LISTEN, Reg.CANx_CTL_TXORDER, Reg.CANx_CTL_PXHD, Reg.CANx_CTL_NO_RETX],
          r f < 2) →
        (ch = 0 → s.on 0 Reg.PAIR_WIT_ENABLE = true → r Reg.CANx_CTL_TXORDER = 0) →
        Completes (.canEnable w ch (1 + 2 * r Reg.CANx_CTL_FD_EN + 4 * r Reg.CANx_CTL_LISTEN + 8 * r Reg.CANx_CTL_TXORDER +
            16 * r Reg.CANx_CTL_PXHD + 32 * r Reg.CANx_CTL_NO_RETX)) s fun t =>
          t.on 0 (Reg.CANx_CTL_EN.p ch) = true ∧ t.canState ch = ofBool (s.timingOk ch) ∧
          t.on 0 (Reg.CANx_STAT_CFG_ERR.p ch) = !s.timingOk ch) ∧
      (∀ buffers, Completes (.canTxRequest w ch buffers) s fun t => ∀ b, b < 3 → bit buffers b = true →
        t.txState ch b = if tx b = 1 then 1
          else if s.on 0 (Reg.CANx_CTL_LISTEN.p ch) || !s.canEnabled ch then 6 else 1) ∧
      (∀ b, b < 3 → tx b = 1 →
        Completes (.canTxAbort w ch (2 ^ b)) s fun t =>
          ((s.can ch).onBus = some b → t.txState ch b = 1 ∧ pend t b = true) ∧
          (∀ a, (s.can ch).onBus = some a → a ≠ b → t.txState ch b = 4) ∧
          ((s.can ch).onBus = none → ¬(s.txPick ch = some b ∧ (s.canState ch = 2 ∨ s.canState ch = 3)) →
            t.txState ch b = 4) ∧
          ((s.can ch).onBus = none → s.txPick ch = some b → (s.canState ch = 2 ∨ s.canState ch = 3) →
            if Config.freeValue s.freeCtr % 2 = 1 then t.txState ch b = 1 ∧ pend t b = true else t.txState ch b = 4)) ∧
      (∀ u, SMap.find? s.arming (0x21 + ch) = some ⟨w.code, true, u⟩ → s.cycle < u → s.canState ch = 4 →
        s.canEnabled ch = true → s.on 0 (Reg.CANx_CTL_RECOVER.p ch) = false →
        Completes (.canRecover w ch) s fun t =>
          t.canState ch = 5 ∧ t.on 0 (Reg.CANx_CTL_RECOVER.p ch) = true)) ∧
    (s.canState ch = 1 →
      Completes (.canIntegrated ch) s fun t =>
        t.canState ch = 2 ∧ t.rd 0 (Reg.CANx_ERR_TEC.p ch) = 0 ∧ t.rd 0 (Reg.CANx_ERR_REC.p ch) = 0) ∧
    (∀ b, b < 3 → s.onTheBus ch = true → s.txOnBus ch = some b → (s.can ch).waiting = [] →
      Completes (.canArbitrationLost ch) s (fun t =>
        (pend s b = true → t.txState ch b = 4) ∧
        (pend s b = false → t.txState ch b = tx b ∧ (t.can ch).onBus = none ∧
          t.on 0 (Reg.CANx_STAT_TX_BUSY.p ch) = false)) ∧
      (r Reg.CANx_ERR_TEC < 256 →
        Completes (.canTxEnd ch) s fun t =>
          t.txState ch b = (if pend s b then 3 else 2) ∧ t.rd 0 (Reg.CANx_ERR_TEC.p ch) = r Reg.CANx_ERR_TEC - 1)) ∧
    (∀ lec dataPhase transmitting step, s.onTheBus ch = true → lec ≠ 7 →
      Completes (.canError ch lec dataPhase transmitting step) s fun t =>
        t.rd 0 (Reg.CANx_ERR_LEC.p ch) = lec % 8 ∧ t.on 0 (Reg.CANx_ERR_LEC_DATA.p ch) = dataPhase ∧
        t.rd 0 (Reg.CANx_EVENTS_ERRORS.p ch) = satAdd 16 (r Reg.CANx_EVENTS_ERRORS) 1 ∧
        (s.on 0 (Reg.CANx_CTL_LISTEN.p ch) = false → transmitting = false →
          t.rd 0 (Reg.CANx_ERR_REC.p ch) = min (r Reg.CANx_ERR_REC + min step 8) 255) ∧
        (s.on 0 (Reg.CANx_CTL_LISTEN.p ch) = false → transmitting = true →
          t.rd 0 (Reg.CANx_ERR_TEC.p ch) = min (r Reg.CANx_ERR_TEC + min step 8) 255 ∧
          (255 < r Reg.CANx_ERR_TEC + min step 8 → t.canState ch = 4))) ∧
    (∀ dataPhase transmitting step, s.onTheBus ch = true →
      Completes (.canError ch 7 dataPhase transmitting step) s fun t =>
        (s.on 0 (Reg.CANx_CTL_PXHD.p ch) = false →
          bit (t.rd 0 (IRQ_RAW_SRC (0x21 + ch))) 5 = true ∧ t.rd 0 (Reg.CANx_ERR_LEC.p ch) = r Reg.CANx_ERR_LEC ∧
          t.cans = s.cans) ∧
        (s.on 0 (Reg.CANx_CTL_PXHD.p ch) = true → t.rd 0 (Reg.CANx_ERR_LEC.p ch) = 2 ∧
          (s.on 0 (Reg.CANx_CTL_LISTEN.p ch) = false →
            t.rd 0 (Reg.CANx_ERR_REC.p ch) = min (r Reg.CANx_ERR_REC + 1) 255))) ∧
    (s.canState ch = 5 →
      Completes (.canRecoveryEnd ch) s fun t =>
        t.canState ch = 2 ∧ t.on 0 (Reg.CANx_CTL_RECOVER.p ch) = false ∧ t.rd 0 (Reg.CANx_ERR_TEC.p ch) = 0 ∧
        t.rd 0 (Reg.CANx_ERR_REC.p ch) = 0) ∧
    (s.firmware = true → s.canState ch = 4 → 0 < r Reg.CANx_SVC_BO_DELAY →
      Completes (.busOffDelayExpiry ch) s fun t =>
        t.canState ch = 5 ∧ (s.can ch).busOffAt + r Reg.CANx_SVC_BO_DELAY * 2000000 ≤ t.cycle) ∧
    (∀ f, ch = 0 ∨ ch = 1 → s.accepts f [] 0x11 rolesOEW (fun p => p.length == 4 && decide (byteAt p 0 ≤ 1) && zeroAt p 1 3) →
      f.source ≠ 2 → byteAt (frameParams f) 0 = ch →
      Completes .busRecover s fun t =>
        (s.canState ch = 4 → t.canState ch = 5 ∧ t.rd 0 Reg.AUTH_STAT_RESULT = 0) ∧
        (s.canState ch ≠ 4 → t.canState ch = s.canState ch ∧ t.rd 0 Reg.AUTH_STAT_RESULT = 2))

/-- CAN reception, its FIFO and the Porter's forwarding and transmit services (R364 to R366, R372, R373). -/
def Obligations.CanFramesAreReceivedAndServed : Prop :=
  ∀ (s : State) (w : Who) (ch : Nat), s.Sane → SMap.sorted s.cans = true → SMap.sorted s.queues = true → ch < 2 →
    (∀ ide id dlc fdf brs rtr esi data sof i, s.onTheBus ch = true →
      (fdf = false ∨ s.on 0 (Reg.CANx_CTL_FD_EN.p ch) = true) →
      ((List.range 32).find? fun i => filterMatches s ch i ide id) = some i →
      s.on 0 ((Reg.CANx_FLTi_W2_REJECT.p ch).i i) = false → (s.can ch).fifo.length < 32 →
      Completes (.canFrameReceive ch ide id dlc fdf brs rtr esi data sof) s fun t =>
        (t.can ch).fifo = (s.can ch).fifo ++ [canEntryOf ide id (dlc % 16) fdf brs rtr esi i sof data] ∧
        t.rd 0 (Reg.CANx_RXSTAT_COUNT.p ch) = (s.can ch).fifo.length + 1) ∧
    (∀ ide id dlc brs rtr esi data sof, s.onTheBus ch = true → s.on 0 (Reg.CANx_CTL_FD_EN.p ch) = false →
      s.on 0 (Reg.CANx_CTL_PXHD.p ch) = false →
      Completes (.canFrameReceive ch ide id dlc true brs rtr esi data sof) s fun t =>
        t.cans = s.cans ∧ bit (t.rd 0 (IRQ_RAW_SRC (0x21 + ch))) 5 = true) ∧
    (s.takes w 0 (0x21 + ch) = true →
      Completes (.canRxFlush w ch) s fun t =>
        (t.can ch).fifo = [] ∧ t.rd 0 (Reg.CANx_RXSTAT_COUNT.p ch) = 0 ∧
        t.on 0 (Reg.CANx_RXSTAT_LOCKED.p ch) = false) ∧
    (∀ e rest, (s.can ch).fifo = e :: rest →
      (s.reaches w 0 = true → s.on 0 (Reg.CANx_RXSTAT_LOCKED.p ch) = false →
        Completes (.canRxLock w ch) s fun t =>
          t.on 0 (Reg.CANx_RXSTAT_LOCKED.p ch) = true ∧ t.rd 0 (Reg.CANx_RXSTAT_LOCK_MASTER.p ch) = w.code % 256 ∧
          (t.can ch).fifo = e :: rest ∧ (SMap.find? t.replies w.code).isSome = true) ∧
      (s.reaches w 0 = true → s.on 0 (Reg.CANx_RXSTAT_LOCKED.p ch) = true →
        s.rd 0 (Reg.CANx_RXSTAT_LOCK_MASTER.p ch) = w.code % 256 →
        Completes (.canRxPop w ch) s fun t =>
          (t.can ch).fifo = rest ∧ t.on 0 (Reg.CANx_RXSTAT_LOCKED.p ch) = false ∧
          SMap.find? t.replies w.code = some ⟨(e[State.entryWords e - 1]?).getD 0, false⟩) ∧
      (s.firmware = true →
        s.on 0 (Reg.CANx_RXSTAT_LOCKED.p ch) = false ∨ s.rd 0 (Reg.CANx_RXSTAT_LOCK_MASTER.p ch) = 1 →
        let i := field ((e[1]?).getD 0) 8 5
        let die := s.dieOf (s.rd 0 ((Reg.CANx_FLTi_W2_FWD_DIE.p ch).i i))
        let q := s.rd 0 ((Reg.CANx_FLTi_W2_FWD_Q.p ch).i i)
        let ws := e.take 3 ++ (e.take (State.entryWords e)).drop 4
        Completes (.canForward ch) s fun t =>
          (t.can ch).fifo = rest ∧
          (s.on 0 ((Reg.CANx_FLTi_W2_FWD_EN.p ch).i i) = true → s.putStatus 0 die q = 0 →
            ws.length ≤ s.credits 0 die q → s.credits 0 die q < 2 ^ 11 →
            t.flights = s.flights ++ (runEntries (ch * 4096 + (s.can ch).seq) ws).map fun x =>
              ⟨die, q, x.1 % 2 ^ 32, entryHi 1 x.2, false⟩) ∧
          (s.on 0 ((Reg.CANx_FLTi_W2_FWD_EN.p ch).i i) = false → t.flights = s.flights))) ∧
    (let die := s.dieOf (s.rd 0 (Reg.CANx_SVC_TXQ_DIE.p ch))
     let q := s.rd 0 (Reg.CANx_SVC_TXQ_Q.p ch)
     let l := s.ring die q
     ∀ e rest n b, isScan die = true → q < 16 → s.firmware = true → s.on 0 (Reg.CANx_SVC_TXQ_EN.p ch) = true →
      l = e :: rest → bit e.hi 14 = true → leadingRun l = some n → runWellFormed (l.take n) = true →
      s.tabletHeld = true → ([1, 2].find? fun b => s.txState ch b != 1) = some b →
      s.on 0 (Reg.CANx_CTL_LISTEN.p ch) = false → s.canEnabled ch = true →
      Completes (.canTxService ch) s fun t => t.ring die q = l.drop n ∧ t.txState ch b = 1)

/-- The window of the Stacks: its queue, its words, its reads, its refresh (R410, R413 to R417, R419, R436). -/
def Obligations.StacksWindowActs : Prop :=
  ∀ (s : State) (w : Who), s.Sane → SMap.sorted s.ecc = true →
    (∀ word, word < 2 ^ 32 → s.takes w 0 0x0F = true → s.windowFull = false →
      let a := s.rd 0 Reg.NVC_ADDR_ADDR / 8 * 8
      ∃ t, exec (.nvcWordQueue w word) s = .next t ∧
        (t.mem = s.mem ∧ t.rd 0 Reg.NVC_ADDR_ADDR = windowNext s a % 2 ^ 23 ∧
        (windowBars s a = false →
          t.arch.window = s.arch.window ++ [(a, s.rd 0 Reg.NVC_DATA_LO_DATA + word * 2 ^ 32)] ∧
          t.rd 0 Reg.NVC_STAT_QUEUED = s.arch.window.length + 1 ∧ t.on 0 Reg.NVC_STAT_REFUSED = false) ∧
        (windowBars s a = true →
          t.arch.window = s.arch.window ∧ t.on 0 Reg.NVC_STAT_REFUSED = true ∧
          t.rd 0 Reg.NVP_REFUSED_COUNT = satAdd 32 (s.rd 0 Reg.NVP_REFUSED_COUNT) 1 ∧
          t.rd 0 Reg.NVP_LAST_ADDR = a % 2 ^ 23 ∧ t.rd 0 Reg.NVP_LAST_MASTER = w.code % 2 ^ 8))) ∧
    (∀ word, s.takes w 0 0x0F = true → s.windowFull = true →
      ∃ t, exec (.nvcWordQueue w word) s = .next t ∧
        (State.pageReq w 0 0x0F 0x10C word ∈ t.holding ∧ ChangesOnly [.holding, .regs, .dirty] s t)) ∧
    (∀ e rest, s.arch.window = e :: rest → s.pageWaits 0 0x0F 0x10C = none →
      ∃ t, exec .stacksWordWriteEnd s = .next t ∧
        (t.arch.window = rest ∧ t.load (STACKS + e.1) 8 = e.2 % 2 ^ 64 ∧
        (∀ a, a < STACKS + e.1 ∨ STACKS + e.1 + 8 ≤ a → t.loadByte a = s.loadByte a) ∧
        t.rd 0 Reg.NVC_WRITES_COUNT = (s.rd 0 Reg.NVC_WRITES_COUNT + 1) % 2 ^ 32 ∧
        t.rd 0 Reg.NVC_STAT_QUEUED = rest.length % 2 ^ 4)) ∧
    (∀ e rest r, s.arch.window = e :: rest → rest.length < 8 → s.pageWaits 0 0x0F 0x10C = some r →
      ∃ t, exec .stacksWordWriteEnd s = .next t ∧ (SMap.find? t.replies r.who = some ⟨0, false⟩)) ∧
    (∀ off n, off < 0x800000 → (n = 1 ∨ n = 2 ∨ n = 4 ∨ n = 8) → off % n = 0 →
      let reserved : Prop := (0x380000 ≤ off ∧ off < 0x400000) ∨ (0x500000 ≤ off ∧ off < 0x510000)
      s.reaches w 0 = true → ∃ t, exec (.stacksRead w off n) s = .next t ∧
        (t.mem = s.mem ∧
        (reserved → SMap.find? t.replies w.code = some ⟨0, false⟩) ∧
        (¬reserved → s.poisoned off = false → SMap.find? t.replies w.code = some ⟨s.stk off n, false⟩ ∧
          t.rd 0 Reg.NVC_CE_COUNT = if s.eccAt (STACKS + off) = 1 then satAdd 32 (s.rd 0 Reg.NVC_CE_COUNT) 1
            else s.rd 0 Reg.NVC_CE_COUNT) ∧
        (¬reserved → s.poisoned off = true → SMap.find? t.replies w.code = some ⟨0, true⟩ ∧
          t.on 0 Reg.NVC_STAT_POISON = true ∧ t.rd 0 Reg.NVC_POISON_ADDR_ADDR = off / 8 * 8 ∧
          t.rd 0 Reg.NVC_DE_COUNT = satAdd 32 (s.rd 0 Reg.NVC_DE_COUNT) 1))) ∧
    (s.takes w 0 0x0F = true →
      ∃ t, exec (.nvcClearPoison w 1) s = .next t ∧ (t.on 0 Reg.NVC_STAT_POISON = false)) ∧
    (s.on 0 Reg.NVC_CTL_REFRESH_EN = true →
      let p := s.rd 0 Reg.NVC_SWEEP_POS_PAGE
      ∃ t, exec .refreshPage s = .next t ∧
        (t.rd 0 Reg.NVC_SWEEP_POS_PAGE = (if p = 131071 then 0 else (p + 1) % 2 ^ 17) ∧
        t.rd 0 Reg.NVC_SWEEPS_COUNT =
          (if p = 131071 then satAdd 32 (s.rd 0 Reg.NVC_SWEEPS_COUNT) 1 else s.rd 0 Reg.NVC_SWEEPS_COUNT) ∧
        (∀ a, a < STACKS + cellAt 19 ∨ STACKS + cellAt 19 + 32 ≤ a → t.loadByte a = s.loadByte a) ∧
        (∀ k, k < 8 → s.poisoned (64 * p + 8 * k) = false → t.eccAt (STACKS + (64 * p + 8 * k)) = 0) ∧
        t.arch.refreshedAt = t.time ∧ s.arch.refreshedAt + 10000000 * s.rd 0 Reg.NVC_REFRESH_INTERVAL ≤ t.time))

/-- The tallies of the Archive: definition, update, bin edges, snapshots (R426 to R428, R435, R438). -/
def Obligations.TalliesAct : Prop :=
  ∀ (s : State) (w : Who), s.Sane → s.time < 2 ^ 64 →
    (∀ word, word < 2 ^ 11 → s.takes w 0 0x11 = true →
      let k := field word 0 10
      let x := s.tally k
      Completes (.tallyUpdate w word) s fun t =>
        (x.defined = false → ChangesOnly [.arming] s t) ∧
        (x.defined = true → bit t.arch.changed k = true ∧
          t.tally k = if bit word 10 then Tally.zero x.seq x.binset s.time true false
            else x.update (toInt 32 (s.rd 0 (Reg.ARCH_TALLY_VAL_VALUE.w w.code))) (s.binEdges x.binset) s.time)) ∧
    (∀ word, word < 2 ^ 17 → s.takes w 0 0x11 = true →
      let k := field word 0 10
      Completes (.tallyDefine w word) s fun t =>
        bit t.arch.changed k = true ∧
        t.tally k = if bit word 16 then Tally.zero (s.tally k).seq (field word 10 6) s.time true false
          else Tally.zero (s.tally k).seq 0 0 false false) ∧
    (∀ k word, k < 15 → s.takes w 0 0x11 = true → s.fits w 0 0x11 (0x180 + 4 * k) word = true →
      let f (j : Nat) : FieldDef := (Reg.ARCH_EDGEk_VALUE.i j).w (s.rd 0 Reg.ARCH_BIN_SEL_SET)
      Completes (.binEdgeWrite w k word) s fun t =>
        t.rd 0 (f k) = word % 2 ^ 32 ∧
        (∀ j, j < k → t.rd 0 (f j) = s.rd 0 (f j)) ∧
        ∀ j, k < j → j < 15 →
          t.rd 0 (f j) = if toInt 32 (s.rd 0 (f j)) < toInt 32 word then word % 2 ^ 32 else s.rd 0 (f j)) ∧
    (s.takes w 0 0x11 = true → Completes (.tallySnapshot w) s fun t => t.arch.snapping = true) ∧
    (s.rd 0 Reg.ARCH_CFG_SNAP_MIN ≠ 0 →
      Completes .tallySnapshotPeriod s fun t =>
        t.arch.snapping = true ∧ t.arch.snappedAt = t.time ∧
        s.arch.snappedAt + 60000000000 * s.rd 0 Reg.ARCH_CFG_SNAP_MIN ≤ t.time) ∧
    (s.arch.snapping = true → s.aon.holdup < 4 → s.on 0 Reg.ARCH_STAT_FAILED = false →
      Completes (.tallySnapshotEnd []) s fun t =>
        t.arch.snapping = false ∧ ∀ k, k < 1024 → bit s.arch.changed k = true →
          bit t.arch.changed k = false ∧ (t.tally k).seq = ((s.tally k).seq + 1) % 2 ^ 32 ∧
          t.loadBytes (STACKS + 0x240000 + 128 * k) 128 = t.tallyBytes k)

/-- The Archive: a record run admitted or dropped, the budget, flushes and their end, the announcement (R429 to R435). -/
def Obligations.ArchiveAdmitsAndFlushes : Prop :=
  ∀ (s : State) (w : Who), s.Sane → SMap.sorted s.queues = true →
    (∀ e rest x run, s.arch.stopped = false → s.ring 0 12 = e :: rest →
      runStep (SMap.find? s.arch.runs (e.hi / 2 ^ 24 % 256)) e = (x, .whole run) →
      let budget := s.rd 0 Reg.ARCH_BUDGET_BYTES
      let head := (run[0]?).getD ⟨0, 0, 0, 0⟩
      (s.on 0 Reg.ARCH_STAT_FAILED = false → runSize run ≤ budget → s.roomFits (runSize run) = true →
        Completes .archiveRecord s fun t =>
          t.ring 0 12 = rest ∧ t.rd 0 Reg.ARCH_BUDGET_BYTES = (budget - runSize run) % 2 ^ 23 ∧
          t.rd 0 Reg.ARCH_RSEQ_NEXT = (s.rd 0 Reg.ARCH_RSEQ_NEXT + 1) % 2 ^ 32 ∧
          (∃ r, t.arch.room = s.arch.room ++ [r] ∧ r.rseq = s.rd 0 Reg.ARCH_RSEQ_NEXT ∧ r.time = head.time) ∧
          (2 ≤ field head.lo 13 2 → t.on 0 Reg.ARCH_STAT_FLUSHING = true)) ∧
      (s.on 0 Reg.ARCH_STAT_FAILED = false → budget < runSize run →
        Completes .archiveRecord s fun t =>
          t.ring 0 12 = rest ∧ t.arch.room = s.arch.room ∧ t.rd 0 Reg.ARCH_BUDGET_BYTES = budget ∧
          t.rd 0 Reg.ARCH_BUDGET_DROPS_COUNT = satAdd 32 (s.rd 0 Reg.ARCH_BUDGET_DROPS_COUNT) 1) ∧
      (s.on 0 Reg.ARCH_STAT_FAILED = true →
        Completes .archiveRecord s fun t =>
          t.ring 0 12 = rest ∧ t.arch.room = s.arch.room ∧
          t.rd 0 Reg.ARCH_LOST_COUNT = satAdd 32 (s.rd 0 Reg.ARCH_LOST_COUNT) 1)) ∧
    (Completes .budgetRefill s fun t =>
      t.rd 0 Reg.ARCH_BUDGET_BYTES = min 4718592 (s.rd 0 Reg.ARCH_BUDGET_BYTES + 1179648) ∧
      t.arch.refilledAt = t.time ∧ s.arch.refilledAt + 20000000000 ≤ t.time) ∧
    (s.on 0 Reg.ARCH_STAT_FAILED = false →
      (s.takes w 0 0x11 = true →
        Completes (.archiveFlush w) s fun t =>
          t.on 0 Reg.ARCH_STAT_FLUSHING = true ∧ t.arch.again = s.on 0 Reg.ARCH_STAT_FLUSHING ∧
          (s.on 0 Reg.ARCH_STAT_FLUSHING = false → t.arch.flushing = s.arch.room.length)) ∧
      (∀ r rest, s.arch.room = r :: rest →
        Completes .recordAgeFlush s fun t =>
          r.time + 60000000000 ≤ t.time ∧ t.on 0 Reg.ARCH_STAT_FLUSHING = true ∧
          (s.on 0 Reg.ARCH_STAT_FLUSHING = false → t.arch.flushing = s.arch.room.length))) ∧
    (s.on 0 Reg.ARCH_STAT_FLUSHING = true → s.on 0 Reg.ARCH_STAT_FAILED = false → s.aon.holdup < 4 →
      Completes (.flushEnd []) s fun t =>
        t.arch.room = s.arch.room.drop s.arch.flushing ∧
        t.on 0 Reg.ARCH_STAT_FLUSHING = (s.arch.again || decide (98304 ≤ t.rd 0 Reg.ARCH_STAT_FILL)) ∧
        bit (t.rd 0 (IRQ_RAW_SRC 0x11)) 0 = true ∧
        ∀ r, (s.arch.room.take s.arch.flushing).getLast? = some r → t.rd 0 Reg.ARCH_DURABLE_RSEQ = r.rseq % 2 ^ 32) ∧
    (s.on 0 Reg.ARCH_STAT_FAILED = true →
      Completes .archiveAnnounce s fun t =>
        t.arch.announcedAt = t.time ∧ s.arch.announcedAt + 60000000000 ≤ t.time)

/-- The always-on domain: supply, crystal, cell, comparators, its reset; a reference taken back (R441 to R443, R445, R451,
R457, R458); the step of global time at a change of reference is a free value (log entry 2). -/
def Obligations.AlwaysOnDomainActs : Prop :=
  ∀ (s : State), s.Sane →
    (s.on 0 Reg.AON_STAT_MAIN = true →
      Completes .supplyChangeoverVbat s fun t =>
        t.on 0 Reg.AON_STAT_MAIN = false ∧ t.on 0 Reg.AON_FLAGS_BACKUP = true ∧
        t.rd 0 Reg.AON_BKUP_COUNT_COUNT = satAdd 16 (s.rd 0 Reg.AON_BKUP_COUNT_COUNT) 1 ∧
        bit (t.rd 0 (IRQ_RAW_SRC 0x0D)) 1 = true ∧
        (s.on 0 Reg.AON_FLAGS_BACKUP = false →
          t.rd2 0 Reg.AON_BKUP_FIRST_LO_SEC Reg.AON_BKUP_FIRST_HI_SEC = s.rtcSec % 2 ^ 34)) ∧
    (s.on 0 Reg.AON_STAT_MAIN = false →
      Completes .supplyChangeoverMain s fun t =>
        t.on 0 Reg.AON_STAT_MAIN = true ∧
        (s.on 0 Reg.AON_STAT_CONTINUITY = false → t.on 0 Reg.RTC_STAT_TIME_LOST = true) ∧
        (s.on 0 Reg.AON_STAT_CONTINUITY = true →
          t.rd 0 Reg.RTC_STAT_TIME_LOST = s.rd 0 Reg.RTC_STAT_TIME_LOST)) ∧
    (Completes .continuityLoss s fun t => t.on 0 Reg.AON_STAT_CONTINUITY = false ∧ t.rtcSec = s.rtcSec) ∧
    (Completes .alwaysOnReset s fun t =>
      t.rtcSec = 0 ∧ t.rd 0 Reg.AON_STAT_MAIN = s.rd 0 Reg.AON_STAT_MAIN % 2 ∧ t.aon.load = none ∧ t.aon.keyAt = none ∧
      t.aon.guardMs = 2000 ∧ t.mem = s.mem ∧
      ∀ f ∈ [Reg.GUARD_CTL_EN, Reg.GUARD_CTL_LOCK, Reg.GUARD_TIMEOUT_MS, Reg.GUARD_STAT_WARNED, Reg.GUARD_EXPIRIES_COUNT,
          Reg.AON_FLAGS_VBAT_LOW, Reg.AON_FLAGS_BACKUP, Reg.AON_FLAGS_XTAL_FAILED, Reg.AON_FLAGS_CMP,
          Reg.AON_BKUP_COUNT_COUNT, Reg.RTC_STAT_TIME_LOST, Reg.RTC_STAT_OVERRANGE, Reg.RTC_STAT_LOAD_PENDING,
          Reg.RTC_TRIM_PPM, Reg.RTC_MEAS_RUNNING, Reg.RTC_ALARM_HI_EN], t.rd 0 f = f.reset) ∧
    (∀ mv, Completes (.vbatMeasure mv) s fun t =>
      t.rd 0 Reg.AON_VBAT_MV = min 4095 mv ∧
      (mv < 2200 → t.on 0 Reg.AON_FLAGS_VBAT_LOW = true ∧ bit (t.rd 0 (IRQ_RAW_SRC 0x0D)) 0 = true) ∧
      (2200 ≤ mv → t.rd 0 Reg.AON_FLAGS_VBAT_LOW = s.rd 0 Reg.AON_FLAGS_VBAT_LOW)) ∧
    (s.on 0 Reg.AON_STAT_XTAL_FAIL = false →
      Completes .xtalFail s fun t =>
        t.on 0 Reg.AON_STAT_XTAL_FAIL = true ∧ t.on 0 Reg.AON_FLAGS_XTAL_FAILED = true ∧
        bit (t.rd 0 (IRQ_RAW_SRC 0x0D)) 6 = true ∧ t.aon.xtalAt = s.time) ∧
    (s.on 0 Reg.AON_STAT_XTAL_FAIL = true →
      Completes .xtalReturn s fun t =>
        t.on 0 Reg.AON_STAT_XTAL_FAIL = false ∧
        t.rd 0 Reg.AON_FLAGS_XTAL_FAILED = s.rd 0 Reg.AON_FLAGS_XTAL_FAILED) ∧
    (∀ n (rising : Bool), n < 4 →
      let e := s.rd 0 (Reg.AON_CMPn_EDGE.i n)
      let flags := s.rd 0 Reg.AON_FLAGS_CMP
      Completes (.comparatorEdge n rising) s fun t =>
        bit (t.rd 0 Reg.AON_STAT_CMP) n = rising ∧
        ((e = 3 ∨ (e = 1 ∧ rising = true) ∨ (e = 2 ∧ rising = false)) →
          bit (t.rd 0 Reg.AON_FLAGS_CMP) n = true ∧ bit (t.rd 0 (IRQ_RAW_SRC 0x0D)) (2 + n) = true ∧
          (flags = 0 → t.rd2 0 Reg.AON_CMP_TIME_LO_SEC Reg.AON_CMP_TIME_HI_SEC = s.rtcSec % 2 ^ 34)) ∧
        (¬(e = 3 ∨ (e = 1 ∧ rising = true) ∨ (e = 2 ∧ rising = false)) → t.rd 0 Reg.AON_FLAGS_CMP = flags)) ∧
    (∀ r, r < 2 →
      Completes (.refclkRevert r) s fun t =>
        t.refGood r = true ∧
        (s.on 0 Reg.CLK_CFG_REVERT = true → r = s.rd 0 Reg.CLK_CFG_PREF → r ≠ s.rd 0 Reg.CLK_STAT_ACTIVE →
          t.rd 0 Reg.CLK_STAT_ACTIVE = r ∧
          t.rd 0 Reg.CLK_SWITCHES_COUNT = satAdd 32 (s.rd 0 Reg.CLK_SWITCHES_COUNT) 1 ∧
          t.time = s.time + Config.freeValue s.freeCtr % 41 - 20) ∧
        (s.on 0 Reg.CLK_CFG_REVERT = false →
          t.rd 0 Reg.CLK_STAT_ACTIVE = s.rd 0 Reg.CLK_STAT_ACTIVE ∧ t.time = s.time))

/-- The RTC: its seconds, calendar and loads, the periodic SYNC, and rate measurement (R444, R447, R449, R450, R473). -/
def Obligations.RtcCountsAndIsLoaded : Prop :=
  ∀ (s : State) (w : Who), s.Sane →
    (s.aon.load = none →
      let v := s.rtcSec + 1
      (s.rtcSec < lastSecond →
        Completes .rtcSecond s fun t =>
          t.rtcSec = v ∧ t.aon.secondAt = s.time ∧ bit (t.rd 0 (IRQ_RAW_SRC 0x0E)) 0 = true ∧
          t.rd 0 Reg.RTC_CAL_TIME_HOUR = v % 86400 / 3600 ∧ t.rd 0 Reg.RTC_CAL_TIME_MIN = v % 3600 / 60 ∧
          t.rd 0 Reg.RTC_CAL_TIME_SEC = v % 60 ∧ t.rd 0 Reg.RTC_CAL_DATE_WEEKDAY = (5 + v / 86400) % 7 ∧
          (s.on 0 Reg.RTC_ALARM_HI_EN = true → v = s.rd2 0 Reg.RTC_ALARM_LO_SEC Reg.RTC_ALARM_HI_SEC →
            t.on 0 Reg.RTC_ALARM_HI_EN = false ∧ bit (t.rd 0 (IRQ_RAW_SRC 0x0E)) 1 = true)) ∧
      (s.rtcSec = lastSecond →
        Completes .rtcSecond s fun t => t.rtcSec = lastSecond ∧ t.on 0 Reg.RTC_STAT_OVERRANGE = true)) ∧
    (∀ t0, s.aon.load = some (1, t0) → t0 + 30518 ≤ s.time →
      Completes .rtcSecond s fun t =>
        t.rtcSec = s.rtcStaged % 2 ^ 34 ∧ t.aon.load = none ∧ t.on 0 Reg.AON_STAT_CONTINUITY = true ∧
        t.on 0 Reg.RTC_STAT_TIME_LOST = false ∧ t.on 0 Reg.RTC_STAT_LOAD_PENDING = false) ∧
    (s.takes w 0 0x0E = true → s.on 0 Reg.RTC_STAT_LOAD_PENDING = false →
      Completes (.rtcLoad w) s (fun t =>
        t.aon.load = some (1, s.time) ∧ t.on 0 Reg.RTC_STAT_LOAD_PENDING = true) ∧
      Completes (.rtcSync w) s fun t =>
        t.aon.load = some (2, s.time) ∧ t.on 0 Reg.RTC_STAT_LOAD_PENDING = true) ∧
    (∀ kind t0, kind = 2 ∨ kind = 3 → s.aon.load = some (kind, t0) →
      Completes .rtcSyncLoad s fun t =>
        t.rtcSec = s.rtcStaged % 2 ^ 34 ∧ t.aon.load = none ∧ t.on 0 Reg.AON_STAT_CONTINUITY = true ∧
        t.on 0 Reg.RTC_STAT_TIME_LOST = false ∧ 
        (kind = 2 ∨ s.mode ≠ 0 → State.nextSecond t0 ≤ t.time) ∧
        (kind = 3 → s.mode = 0 → t.time = s.aon.setTo * 1000000000)) ∧
    (s.firmware = true → s.on 0 Reg.PTP_STAT_SLAVE = true → s.on 0 Reg.TICK_STAT_HOLDOVER = false → s.aon.load = none →
      Completes .rtcResyncPeriod s fun t =>
        t.aon.load = some (2, t.time) ∧ t.aon.resyncAt = t.time ∧ s.aon.resyncAt + 3600000000000 ≤ t.time ∧
        t.rtcStaged = min lastSecond (State.nextSecond t.time / 1000000000 - rtcOrigin)) ∧
    (∀ word, s.takes w 0 0x0E = true → s.fits w 0 0x0E 0x128 (setField word 19 1 1) = true →
      let v := setField word 19 1 1
      let lost := field v 0 2 = 0 ∧ s.on 0 Reg.TICK_STAT_HOLDOVER = true
      Completes (.rtcMeasureStart w word) s fun t =>
        t.rd 0 Reg.RTC_MEAS_CFG_REF = field v 0 2 ∧ t.rd 0 Reg.RTC_MEAS_CFG_WINDOW = field v 2 16 ∧
        (¬lost → t.on 0 Reg.RTC_MEAS_RUNNING = true) ∧
        (lost → t.on 0 Reg.RTC_MEAS_RUNNING = false ∧ t.on 0 Reg.RTC_MEAS_VALID = false)) ∧
    (s.on 0 Reg.RTC_MEAS_RUNNING = true →
      (∀ ppm : Int,
        let p := clampInt (-8192) 8191 ppm
        Completes (.rtcMeasureEnd ppm) s fun t =>
          t.rd 0 Reg.RTC_MEAS_PPM = ofInt 14 p ∧ t.on 0 Reg.RTC_MEAS_VALID = true ∧
          bit (t.rd 0 (IRQ_RAW_SRC 0x0E)) 2 = true ∧ t.on 0 Reg.RTC_MEAS_RUNNING = s.on 0 Reg.RTC_MEAS_CFG_AUTO ∧
          t.rd 0 Reg.RTC_TRIM_PPM = if s.on 0 Reg.RTC_MEAS_CFG_AUTO then
              ofInt 14 (clampInt (-5000) 5000 (toInt 14 (s.rd 0 Reg.RTC_TRIM_PPM) - p))
            else s.rd 0 Reg.RTC_TRIM_PPM) ∧
      (s.rd 0 Reg.RTC_MEAS_CFG_REF ≠ 0 →
        Completes .mainsLoss s fun t =>
          t.on 0 Reg.RTC_MEAS_RUNNING = false ∧ t.on 0 Reg.RTC_MEAS_VALID = false))

/-- The Guard: service, warning, the disable sequence, its lock (R452, R453, R455). -/
def Obligations.GuardIsServicedAndKeyed : Prop :=
  ∀ (s : State) (w : Who), s.Sane →
    (s.takes w 0 0x0C = true →
      (∀ word, word < 2 ^ 32 →
        Completes (.guardService w word) s fun t =>
          t.aon.keyAt = none ∧
          (s.guardTooLate = false → t.aon.guardAt = s.guardInstant s.guardEdge ∧
            t.aon.guardMs = s.rd 0 Reg.GUARD_TIMEOUT_MS ∧ t.on 0 Reg.GUARD_STAT_WARNED = false) ∧
          (s.guardTooLate = true → t.aon.guardAt = s.aon.guardAt ∧ t.aon.guardMs = s.aon.guardMs ∧
            t.rd 0 Reg.GUARD_STAT_WARNED = s.rd 0 Reg.GUARD_STAT_WARNED)) ∧
      (∀ word, word < 2 ^ 16 →
        (s.aon.keyAt = none → word = 0xA5C3 →
          Completes (.guardKey w word) s fun t =>
            t.aon.keyAt = some s.cycle ∧ t.rd 0 Reg.GUARD_CTL_EN = s.rd 0 Reg.GUARD_CTL_EN) ∧
        ∀ c, s.aon.keyAt = some c →
          Completes (.guardKey w word) s fun t =>
            t.aon.keyAt = none ∧
            t.rd 0 Reg.GUARD_CTL_EN = if word = 0x3C5A ∧ s.cycle ≤ c + 64 ∧ s.on 0 Reg.GUARD_CTL_LOCK = false ∧
                s.guardTooLate = false then 0
              else s.rd 0 Reg.GUARD_CTL_EN) ∧
      Completes (.guardEnable w) s (fun t =>
        t.on 0 Reg.GUARD_CTL_EN = true ∧ t.aon.guardAt = s.time ∧ t.aon.guardMs = s.rd 0 Reg.GUARD_TIMEOUT_MS ∧
        t.aon.keyAt = none) ∧
      ∀ word, word = 1 ∨ word = 3 →
        Completes (.guardLock w word) s fun t =>
          t.on 0 Reg.GUARD_CTL_LOCK = true ∧ t.on 0 Reg.GUARD_CTL_EN = true ∧ t.aon.guardAt = s.time) ∧
    (s.on 0 Reg.GUARD_CTL_EN = true → s.on 0 Reg.GUARD_STAT_WARNED = false →
      Completes .guardWarn s fun t =>
        t.on 0 Reg.GUARD_STAT_WARNED = true ∧ bit (t.rd 0 (IRQ_RAW_SRC 0x0C)) 0 = true ∧
        s.guardInstant (State.guardCycles s.aon.guardMs * 3 / 4) ≤ t.time ∧ t.aon.guardSlip.length = 6) ∧
    (∀ f, s.accepts f [] 0x0B rolesWV List.isEmpty →
      Completes .guardDisable s fun t =>
        (s.on 0 Reg.GUARD_CTL_LOCK = false → t.on 0 Reg.GUARD_CTL_EN = false ∧ t.rd 0 Reg.AUTH_STAT_RESULT = 0) ∧
        (s.on 0 Reg.GUARD_CTL_LOCK = true →
          t.rd 0 Reg.GUARD_CTL_EN = s.rd 0 Reg.GUARD_CTL_EN ∧ t.rd 0 Reg.AUTH_STAT_RESULT = 2))

/-- Critical commands on the mode, the time, block protect, the trim and the keys: each acts in the state in which its
frame is accepted, and replies with its result (R190, R401, R417, R450, R483, R485, R487); cryptography by log entry 23, twin 0 by log
entry 75. -/
def Obligations.CriticalCommandsActWhenAccepted : Prop :=
  ∀ (s : State) (f : AuthFrame), s.Sane →
    let p := frameParams f
    let u := s.accepted f []
    let result (t : State) : Nat := t.rd 0 Reg.AUTH_STAT_RESULT
    (s.accepts f [] 0x01 rolesOEW
        (fun p => p.length == 4 && decide (1 ≤ byteAt p 0) && decide (byteAt p 0 ≤ 4) && decide (byteAt p 1 ≤ 2) && zeroAt p 2 2) →
      (u.refusal (byteAt p 0) (byteAt p 1) = none →
        ∃ t, exec .modeSet s = .next t ∧
          (result t = 0 ∧ t.on 0 Reg.MODE_STAT_PENDING = true ∧ t.rd 0 Reg.MODE_STAT_PENDING_CMD = byteAt p 0 ∧
          t.prog.accept = s.cycle)) ∧
      (∀ c, u.refusal (byteAt p 0) (byteAt p 1) = some c →
        ∃ t, exec .modeSet s = .next t ∧
          (result t = 2 ∧ t.rd 0 Reg.MODE_REASON_REFUSE = c % 16 ∧ t.prog = s.prog))) ∧
    (s.accepts f [] 0x0E rolesEW (fun p => p.length == 8) →
      (s.mode = 0 → s.aon.load = none →
        ∃ t, exec .timeSet s = .next t ∧
          (result t = 0 ∧ t.aon.load = some (3, s.time) ∧ t.aon.setTo = ofBE p ∧
          t.rtcStaged = min lastSecond (ofBE p - rtcOrigin) ∧ t.on 0 Reg.RTC_STAT_LOAD_PENDING = true)) ∧
      (s.mode ≠ 0 ∨ s.aon.load.isSome = true →
        ∃ t, exec .timeSet s = .next t ∧ (result t = 2 ∧ t.aon = s.aon))) ∧
    (s.accepts f [] 0x0C rolesW (fun p => p.length == 4 && decide (byteAt p 0 ≤ 3) && zeroAt p 1 3) →
      let v := u.wr 0 Reg.NVP_BP_BP (byteAt p 0)
      ∃ t, exec .nvProtect s = .next t ∧
        (result t = 0 ∧ t.rd 0 Reg.NVP_BP_BP = byteAt p 0 ∧ t.mem = (v.twinWrite 0 v.identityBytes).mem)) ∧
    (s.accepts f [] 0x0F rolesOEW List.isEmpty →
      let unit (g : FieldDef) : List Byte := toLE 4 (ofInt 32 (toInt 12 (s.rd 1 g)))
      (s.trimming = false →
        ∃ t, exec .trimCommit s = .next t ∧
          (result t = 0 ∧ t.rd 1 Reg.F_FAO_TRIM_STAT_STATE = 0 ∧
          t.mem = (u.twinWrite 1 (unit (Reg.F_FAO_ZEROk_UNITS.i 0) ++ unit (Reg.F_FAO_SPANk_UNITS.i 0) ++
            unit (Reg.F_FAO_ZEROk_UNITS.i 1) ++ unit (Reg.F_FAO_SPANk_UNITS.i 1))).mem)) ∧
      (s.trimming = true → ∃ t, exec .trimCommit s = .next t ∧ (result t = 2 ∧ t.mem = u.mem))) ∧
    (s.accepts f [] 0x0D (fun r _ => r == 2 || r == 3 || r == 4)
        (fun p => decide (byteAt p 0 ≤ 17) && decide (byteAt p 1 ≤ 6) && zeroAt p 2 2 &&
          p.length == rotateLength (byteAt p 0) (byteAt p 1)) →
      let target := byteAt p 0
      let role := byteAt p 1
      let may := mayRotate u (u.keyRole (byteAt f.bytes 2)) target role
      let lastOwner : Prop := u.keyRole target = 3 ∧ role ≠ 3 ∧ ∀ k, k < 16 → k ≠ target → u.keyRole k ≠ 3
      ∃ t, exec .keyRotate s = .next t ∧
        ((may = false → result t = 5 ∧ t.mem = u.mem) ∧
        (may = true → target = 17 → result t = 0 ∧ t.mem = (u.setCell 22 1).mem) ∧
        (may = true → target = 16 → result t = 0 ∧ t.mem = (u.keyWrite 16 0 (p.drop 4)).mem) ∧
        (may = true → target < 16 → lastOwner → result t = 2 ∧ t.rd 0 Reg.AUTH_STAT_CODE = 1 ∧ t.mem = u.mem) ∧
        (may = true → target < 16 → ¬lastOwner → role = 0 →
          result t = 0 ∧ t.mem = (u.keyWrite target 0 (List.replicate 40 0)).mem) ∧
        (may = true → target < 16 → ¬lastOwner → role ≠ 0 →
          (∀ k, Crypto.keyUnwrap (u.slotKey (byteAt f.bytes 2)) (p.drop 4) = some k →
            result t = 0 ∧ t.mem = (u.keyWrite target role ((Crypto.keyWrap Config.deviceKey k).take 40)).mem) ∧
          (Crypto.keyUnwrap (u.slotKey (byteAt f.bytes 2)) (p.drop 4) = none → result t = 6 ∧ t.mem = u.mem))))

/-- The mailboxes of MSPI and the latched reads of the authority counters (R481, R509, R511). -/
def Obligations.MspiMailboxesAct : Prop :=
  ∀ (s : State) (w : Who), s.Sane →
    (s.enabled 0 0x24 = true →
      (∃ t, exec .mspiStatus s = .next t ∧
        (SMap.find? t.replies 512 =
          some ⟨ofBool (s.on 0 Reg.MSPI_STAT_IN_BUSY) + 2 * ofBool (s.on 0 Reg.MSPI_STAT_OUT_READY), false⟩ ∧
        ChangesOnly [.replies] s t)) ∧
      (∃ t, exec .mspiUnknownCommand s = .next t ∧
        (t.rd 0 Reg.MSPI_ERRORS_UNKNOWN = satAdd 16 (s.rd 0 Reg.MSPI_ERRORS_UNKNOWN) 1 ∧
        bit (t.rd 0 (IRQ_RAW_SRC 0x24)) 2 = true)) ∧
      (s.on 0 Reg.MSPI_STAT_OUT_READY = true →
        ∃ t, exec .mspiReadOut s = .next t ∧
          (t.auth.mspiOut = [] ∧ t.on 0 Reg.MSPI_STAT_OUT_READY = false ∧ t.rd 0 Reg.MSPI_STAT_OUT_LEN = 0 ∧
          t.rd 0 Reg.MSPI_FRAMES_OUT_COUNT = satAdd 32 (s.rd 0 Reg.MSPI_FRAMES_OUT_COUNT) 1 ∧
          bit (t.rd 0 (IRQ_RAW_SRC 0x24)) 1 = true)) ∧
      ∀ length frame,
        ((length = 0 ∨ 1100 < length) →
          ∃ t, exec (.mspiWriteIn length frame) s = .next t ∧
            (t.rd 0 Reg.MSPI_ERRORS_LENGTH = satAdd 16 (s.rd 0 Reg.MSPI_ERRORS_LENGTH) 1 ∧
            bit (t.rd 0 (IRQ_RAW_SRC 0x24)) 2 = true ∧ t.auth = s.auth)) ∧
        (0 < length → length ≤ 1100 → s.on 0 Reg.MSPI_STAT_IN_BUSY = true →
          ∃ t, exec (.mspiWriteIn length frame) s = .next t ∧ (t = s)) ∧
        (0 < length → length ≤ 1100 → s.on 0 Reg.MSPI_STAT_IN_BUSY = false → s.on 0 Reg.AUTH_CFG_MSPI_EN = true →
          s.firmware = true → s.auth.inbox = [] → State.hasRow ⟨0, 0, frame.take length⟩ = true →
          ∃ t, exec (.mspiWriteIn length frame) s = .next t ∧
            (t.auth.inbox = [⟨0, 0, frame.take length⟩] ∧ t.on 0 Reg.MSPI_STAT_IN_BUSY = true ∧
            t.rd 0 Reg.MSPI_STAT_IN_LEN = length ∧
            t.rd 0 Reg.MSPI_FRAMES_IN_COUNT = satAdd 32 (s.rd 0 Reg.MSPI_FRAMES_IN_COUNT) 1))) ∧
    (let k := s.rd 0 Reg.AUTH_SEL_SLOT
     k < 16 → s.reaches w 0 = true →
      (∃ t, exec (.authCounterRead w false) s = .next t ∧
        (SMap.find? t.replies w.code = some ⟨s.readWord w.code 0 0x12 0x128, false⟩ ∧
        t.rd 0 (Reg.AUTH_CTR_HI_N.w k) = s.authCounter k / 2 ^ 32 % 2 ^ 32)) ∧
      ∃ t, exec (.authCounterRead w true) s = .next t ∧
        (SMap.find? t.replies w.code = some ⟨s.readWord w.code 0 0x12 0x130, false⟩ ∧
        t.rd 0 (Reg.AUTH_CEIL_HI_N.w k) = s.cell k / 2 ^ 32 % 2 ^ 32))

/-- Update sessions: opening, closing, data, timeout, verification; the latched read of the deadline (R493 to R495, R510);
the number of a session is a free value (log entry 2). -/
def Obligations.UpdateSessionsAct : Prop :=
  ∀ (s : State) (f : AuthFrame), s.Sane →
    let p := frameParams f
    let result (t : State) : Nat := t.rd 0 Reg.AUTH_STAT_RESULT
    let code (t : State) : Nat := t.rd 0 Reg.UPD_SESS_CODE
    let sess (t : State) : Nat := t.rd 0 Reg.UPD_SESS_STATE
    (s.accepts f [] 0x04 rolesOpen openForm → byteAt f.bytes 24 ≠ 0 →
      let level := byteAt p 0
      let n := ofBE (cut p 4 4)
      Completes .updateOpen s fun t =>
        (s.sessionOpen = true → result t = 3 ∧ code t = 2 ∧ t.upd = s.upd ∧ sess t = sess s) ∧
        (s.sessionOpen = false → s.updBusy = true → result t = 2 ∧ code t = 8 ∧ t.upd = s.upd) ∧
        (s.sessionOpen = false → s.updBusy = false → slotSize level < n → result t = 2 ∧ code t = 3 ∧ t.upd = s.upd) ∧
        (s.sessionOpen = false → s.updBusy = false → n ≤ slotSize level →
          result t = 0 ∧ sess t = (if n = 0 then 2 else 1) ∧ t.rd 0 Reg.UPD_SESS_LEVEL = level ∧
          t.rd 0 Reg.UPD_SESS_SOURCE = f.source % 8 ∧ t.rd 0 Reg.UPD_RECEIVED_BYTES = 0 ∧
          t.rd 0 Reg.UPD_SESSION_ID = Config.freeValue s.freeCtr % 2 ^ 32 ∧ t.freeCtr = s.freeCtr + 1 ∧
          t.upd.slot = 1 - s.activeSlot level ∧ t.upd.length = n ∧ t.upd.digest = cut p 8 32 ∧ t.upd.dataAt = s.time)) ∧
    (s.accepts f [] 0x04 rolesOpen openForm → byteAt f.bytes 24 = 0 →
      Completes .updateClose s fun t =>
        (s.sessionOpen = true → s.fromSession f = true → result t = 0 ∧ sess t = 5) ∧
        (s.sessionOpen = false ∨ s.fromSession f = false → result t = 2 ∧ code t = 1 ∧ sess t = sess s)) ∧
    (s.auth.inbox = [f] → State.hasRow f = true → frameOp f = 0x40 →
      let c := s.dataCode f
      let n := ofBE (cut f.bytes 20 2)
      let at' := s.rd 0 Reg.UPD_RECEIVED_BYTES
      Completes .sessionData s fun t =>
        t.auth.inbox = [] ∧ t.upd.dataAt = (if c = 3 then s.upd.dataAt else s.time) ∧
        (c = 0 →
          t.rd 0 Reg.UPD_RECEIVED_BYTES = (at' + n) % 2 ^ 21 ∧
          t.loadBytes (STACKS + slotAt (s.rd 0 Reg.UPD_SESS_LEVEL) s.upd.slot + at') n = cut f.bytes 24 n ∧
          sess t = if at' + n = s.upd.length then 2 else 1) ∧
        (c ≠ 0 → t.mem = s.mem ∧ t.rd 0 Reg.UPD_RECEIVED_BYTES = at' ∧ sess t = sess s)) ∧
    (sess s = 1 →
      Completes .sessionTimeout s fun t =>
        sess t = 5 ∧ code t = 15 ∧ s.upd.dataAt + 60000000000 ≤ t.time) ∧
    (sess s = 2 →
      let level := s.rd 0 Reg.UPD_SESS_LEVEL
      let whole := Sha.sha256 (s.loadBytes (STACKS + slotAt level s.upd.slot) s.upd.length) = s.upd.digest
      let c := s.fwCode level (s.slotImage level s.upd.slot)
      Completes .sessionVerifyEnd s fun t =>
        (¬whole → sess t = 4 ∧ code t = 4) ∧ (whole → c ≠ 0 → sess t = 4 ∧ code t = c % 16) ∧
        (whole → c = 0 → sess t = 3)) ∧
    (∀ w : Who, s.reaches w 0 = true → Completes (.updDeadlineRead w) s fun t =>
      SMap.find? t.replies w.code = some ⟨s.readWord w.code 0 0x13 0x124, false⟩ ∧
      t.rd 0 Reg.UPD_DEADLINE_HI_NS = s.trialDeadline / 2 ^ 32 % 2 ^ 32)

/-- UPDATE_ACTIVATE on both levels and from the partner's key (R492, R496, R501, R506). -/
def Obligations.ActivationIsArmedOrRefused : Prop :=
  ∀ (s : State) (f : AuthFrame), s.Sane → s.accepts f [] 0x05 rolesActivate activateForm →
    let p := frameParams f
    let u := s.accepted f []
    let result (t : State) : Nat := t.rd 0 Reg.AUTH_STAT_RESULT
    let refused (t : State) (c : Nat) : Prop := result t = 2 ∧ t.rd 0 Reg.UPD_SESS_CODE = c ∧
      t.rd 0 Reg.UPD_KSTAT_STATE = s.rd 0 Reg.UPD_KSTAT_STATE ∧ t.rd 0 Reg.UPD_ESTAT_STATE = s.rd 0 Reg.UPD_ESTAT_STATE
    let partner := u.keyRole (byteAt f.bytes 2) = 6
    let rom := s.firmware = false ∧ s.rd 0 Reg.RST_CAUSE_BOOT = 2
    let armed (t : State) (cause : Nat) : Prop := result t = 0 ∧ t.rd 0 Reg.UPD_KSTAT_STATE = 1 ∧
      t.upd.goAt = ofBE (cut p 36 8) ∧ t.upd.falling = cause
    Completes .updateActivate s fun t =>
      (byteAt p 0 = 2 →
        (∀ c, u.rotateRefusal (cut p 4 32) = some c → refused t c) ∧
        (u.rotateRefusal (cut p 4 32) = none →
          result t = 1 ∧ t.rd 0 Reg.UPD_ESTAT_STATE = 1 ∧ t.upd.stage = 1 ∧ t.upd.left = u.liveNames ∧
          t.upd.toSlot = 1 - s.activeSlot 2)) ∧
      (byteAt p 0 = 1 → partner →
        (s.upd.falling ≠ 0 → refused t 8) ∧
        (s.upd.falling = 0 → armed t 5 ∧ t.upd.waiting = false)) ∧
      (byteAt p 0 = 1 → ¬partner → rom →
        (u.staged 1 (cut p 4 32) = false → refused t 13) ∧
        (u.staged 1 (cut p 4 32) = true → result t = 0 ∧ t.rd 0 Reg.UPD_KSTAT_STATE = 3 ∧ t.firmware = true)) ∧
      (byteAt p 0 = 1 → ¬partner → ¬rom →
        (∀ c, u.activateRefusal p = some c → refused t c) ∧
        (u.activateRefusal p = none →
          armed t 0 ∧ t.upd.command = (byteAt f.bytes 2, ofBE (cut f.bytes 12 8)) ∧
          (s.on 0 Reg.PAIR_CFG_EN = false → t.upd.waiting = false)))

/-- The outage of a Keeper activation, and the steps of an Executive rotation (R497, R498, R500, R502, R510). -/
def Obligations.OutageAndRotationAct : Prop :=
  ∀ (s : State) (w : Who), s.Sane →
    let k (t : State) : Nat := t.rd 0 Reg.UPD_KSTAT_STATE
    (k s = 1 → s.upd.waiting = true →
      ∃ t, exec .partnerDoneDeadline s = .next t ∧
        (k t = 0 ∧ t.rd 0 Reg.UPD_KSTAT_CAUSE = 9 ∧ t.upd.waiting = false ∧
        s.firstTick s.upd.goAt - 100000000 ≤ t.time)) ∧
    (k s = 2 → s.upd.copying = true →
      (∃ t, exec (.firmwareCopyEnd true) s = .next t ∧
        (t.firmware = true ∧ t.upd.copying = false ∧ s.upd.outAt + 50000 ≤ t.time)) ∧
      (s.upd.restored = false →
        ∃ t, exec (.firmwareCopyEnd false) s = .next t ∧
          (t.rd 0 Reg.UPD_KSTAT_CAUSE = 3 ∧ t.rd 0 Reg.UPD_KSTAT_ACTIVE = 1 - s.activeSlot 1 ∧ t.upd.restored = true ∧
          t.upd.copying = true ∧ t.firmware = false ∧ t.fellBack = true))) ∧
    (k s = 2 → s.upd.copying = false → s.upd.resumed = none → s.takes w 0 0x13 = true →
      ∃ t, exec (.updResume w) s = .next t ∧
        (t.upd.resumed = some s.cycle ∧ t.rd 0 Reg.UPD_OUTAGE_US = min 16383 ((s.time - s.upd.outAt) / 1000))) ∧
    (k s = 2 → s.upd.resumed = none → s.upd.restored = false →
      ∃ t, exec .resumeDeadline s = .next t ∧
        (t.rd 0 Reg.UPD_KSTAT_CAUSE = 4 ∧ t.rd 0 Reg.UPD_KSTAT_ACTIVE = 1 - s.activeSlot 1 ∧ t.upd.restored = true ∧
        t.upd.copying = true ∧ t.firmware = false ∧ t.fellBack = true ∧ s.upd.outAt + 7500000 ≤ t.time)) ∧
    (s.firmware = true → s.upd.stage = 1 → ∀ n rest d, s.upd.left = n :: rest → s.loadTarget = some d →
      ∃ t, exec .rotationStep s = .next t ∧
        (t.upd.stage = 2 ∧ t.upd.ready = d ∧ t.upd.left = s.upd.left ∧ t.rd 0 Reg.UPD_ESTAT_NEXT = n % 8)) ∧
    (s.firmware = true → s.upd.stage = 3 → ∀ n rest, s.upd.left = n :: rest →
      ∃ t, exec .rotationStep s = .next t ∧
        ((s.rd 0 Reg.SHUNT_STAT_STATE = 4 → rest ≠ [] →
          t.upd.moved = s.upd.moved ++ [n] ∧ t.upd.vacated = s.rd 0 Reg.SHUNT_STAT_SOURCE ∧ t.upd.left = rest) ∧
        (s.rd 0 Reg.SHUNT_STAT_STATE ∉ [4, 5] → t = s))) ∧
    (s.firmware = true → s.upd.stage = 5 → inDies s.shunt.returning s.upd.vacated = true →
      ∃ t, exec .rotationStep s = .next t ∧ (t = s))

/-- Trials: health marks, confirmation, deadlines, fallback (R504 to R507, R510). -/
def Obligations.TrialsAreConfirmedOrFallBack : Prop :=
  ∀ (s : State) (w : Who), s.Sane → SMap.sorted s.queues = true →
    (s.takes w 0 0x13 = true → s.inTrial 1 = true →
      Completes (.updHealthy w) s fun t => t.on 0 Reg.UPD_KSTAT_HEALTHY = true) ∧
    (∀ e rest, s.firmware = true → s.ring 0 13 = e :: rest → e.hi % 2 ^ 16 = 0xA010 →
      let d := whoDie (e.hi / 2 ^ 24)
      s.inTrial 2 = true → s.live d = true → whoIx (e.hi / 2 ^ 24) < 4 → e.lo = leAt (s.level 2).digest 0 4 →
      Completes .executiveHealthMark s fun t =>
        t.ring 0 13 = rest ∧ t.upd.marks = s.upd.marks ||| dieBit d ∧
        ((∀ x ∈ scanDies, s.live x = true → inDies (s.upd.marks ||| dieBit d) x = true) →
          t.on 0 Reg.UPD_ESTAT_HEALTHY = true)) ∧
    (∀ f, s.accepts f [] 0x06 rolesOpen
        (fun p => p.length == 36 && decide (1 ≤ byteAt p 0) && decide (byteAt p 0 ≤ 2) && zeroAt p 1 3) →
      let u := s.accepted f []
      let l := byteAt (frameParams f) 0
      let good := u.marked l = true ∧ Sha.sha256 (u.slotImage l (u.activeSlot l)) = cut (frameParams f) 4 32
      Completes .updateConfirm s fun t =>
        (u.inTrial l = false ∨ u.deadlinePassed l = true →
          t.rd 0 Reg.AUTH_STAT_RESULT = 2 ∧ t.rd 0 Reg.UPD_SESS_CODE = 1 ∧ t.mem = u.mem) ∧
        (u.inTrial l = true → u.deadlinePassed l = false → ¬good →
          t.rd 0 Reg.AUTH_STAT_RESULT = 2 ∧ t.rd 0 Reg.UPD_SESS_CODE = 14 ∧ t.mem = u.mem) ∧
        (u.inTrial l = true → u.deadlinePassed l = false → good →
          t.rd 0 Reg.AUTH_STAT_RESULT = 0 ∧ t.inTrial l = false ∧ t.fellBack = false ∧
          bit (t.rd 0 (IRQ_RAW_SRC 0x13)) 2 = true)) ∧
    (s.inTrial 1 = true → s.deadlinePassed 1 = true → s.inTrial 2 = false →
      Completes .trialDeadline s fun t =>
        (s.marked 1 = true → t.rd 0 Reg.UPD_KSTAT_STATE = 0 ∧ t.fellBack = false) ∧
        (s.marked 1 = false →
          t.rd 0 Reg.UPD_KSTAT_STATE = 1 ∧ t.rd 0 Reg.UPD_KSTAT_CAUSE = 1 ∧ t.upd.falling = 1 ∧ t.fellBack = true ∧
          t.upd.goAt = (s.level 1).deadline + 1000000000)) ∧
    (s.inTrial 1 = false → s.inTrial 2 = true → s.deadlinePassed 2 = true →
      Completes .trialDeadline s fun t =>
        (s.marked 2 = true → t.rd 0 Reg.UPD_ESTAT_STATE = 0 ∧ t.fellBack = false) ∧
        (s.marked 2 = false →
          t.rd 0 Reg.UPD_ESTAT_STATE = 3 ∧ t.rd 0 Reg.UPD_ESTAT_CAUSE = 1 ∧ t.fellBack = true ∧ t.upd.stage = 1 ∧
          t.upd.toSlot = 1 - s.activeSlot 2 ∧ t.upd.left = s.liveNames))

/-- The settings service (R507, R508). -/
def Obligations.SettingsAreServed : Prop :=
  ∀ (s : State) (e : QEntry) (rest : List QEntry), s.Sane → SMap.sorted s.queues = true → s.firmware = true →
    s.ring 0 13 = e :: rest → isScan (whoDie (e.hi / 2 ^ 24)) = true →
    let k := 16 + e.lo % 16
    let d := whoDie (e.hi / 2 ^ 24)
    let answer (t : State) (v : Nat) : Prop := s.putStatus 0 d 0 = 0 → t.flights = s.flights ++ [⟨d, 0, v, entryHi 0 0xA022, false⟩]
    (e.hi % 2 ^ 16 = 0xA020 →
      Completes .settingsRead s fun t =>
        t.ring 0 13 = rest ∧
        (settingsBuffer e.lo = none → t.mem = s.mem ∧ answer t 3) ∧
        ∀ o, settingsBuffer e.lo = some o → bit e.lo 4 = false →
          (s.twinData? k = none → t.mem = s.mem) ∧
          ∀ b, s.twinData? k = some b →
            (o + 4 + b.length ≤ 0xBF000 →
              t.load (bankD d + o) 4 = b.length ∧ t.loadBytes (bankD d + o + 4) b.length = b) ∧
            (0xBF000 < o + 4 + b.length → t.mem = s.mem)) ∧
    (e.hi % 2 ^ 16 = 0xA021 →
      Completes .settingsWrite s fun t =>
        t.ring 0 13 = rest ∧
        (settingsBuffer e.lo = none → t.mem = s.mem ∧ answer t 3) ∧
        ∀ o, settingsBuffer e.lo = some o →
          let n := s.load (bankD d + o) 4
          let body := s.loadBytes (bankD d + o + 4) n
          (bit e.lo 4 = true ∨ 8192 < n ∨ 0xBF000 < o + 4 + n → t.mem = s.mem ∧ answer t 3) ∧
          (bit e.lo 4 = false → n ≤ 8192 → o + 4 + n ≤ 0xBF000 →
            (s.inTrial 2 = false → t.mem = (s.twinWrite k body).mem ∧ answer t 0) ∧
            (s.inTrial 2 = true →
              t.loadBytes (STACKS + migrationAt k + 32) n = body ∧ t.stk (migrationAt k + 8) 4 = n ∧ answer t 2)))
end

