-- ==== Sys2Proof/Laws/SMap.lean ====
section
/-! SUPPORT.  Laws of the sparse maps: every operation keeps the keys rising and the canonical form; what is read after a
write. -/

namespace Sys2Proof.SMap

variable {α : Type}

/-- Every key of a map is above `k`, entry by entry. -/
def allAbove (k : Nat) (m : SMap α) : Prop := ∀ e ∈ m, k < e.1

/-- In a map with rising keys, what is above the first key is above all. -/
theorem allAbove_of_sorted {k : Nat} {m : SMap α} (h : sorted m = true) (ha : above k m = true) : allAbove k m := by
  induction m generalizing k with
  | nil => intro e he; cases he
  | cons e m ih =>
    simp only [sorted, Bool.and_eq_true] at h
    simp only [above, decide_eq_true_eq] at ha
    intro x hx
    rcases List.mem_cons.mp hx with rfl | hx
    · exact ha
    · exact Nat.lt_trans ha (ih h.2 h.1 x hx)

theorem above_of_allAbove {k : Nat} {m : SMap α} (h : allAbove k m) : above k m = true := by
  cases m with
  | nil => rfl
  | cons e m => simpa [above] using h e (List.mem_cons_self)

/-- A map is sorted when its head is below the rest and the rest is sorted. -/
theorem sorted_cons {e : Nat × α} {m : SMap α} : sorted (e :: m) = true ↔ allAbove e.1 m ∧ sorted m = true := by
  constructor
  · intro h
    have h' := h
    simp only [sorted, Bool.and_eq_true] at h'
    exact ⟨allAbove_of_sorted h'.2 h'.1, h'.2⟩
  · intro h
    simp only [sorted, Bool.and_eq_true]
    exact ⟨above_of_allAbove h.1, h.2⟩

theorem sorted_filter {m : SMap α} (p : Nat × α → Bool) (h : sorted m = true) : sorted (m.filter p) = true := by
  induction m with
  | nil => rfl
  | cons e m ih =>
    have h' := sorted_cons.mp h
    have ht := ih h'.2
    by_cases hp : p e = true
    · rw [List.filter_cons_of_pos hp]
      exact sorted_cons.mpr ⟨fun x hx => h'.1 x (List.mem_of_mem_filter hx), ht⟩
    · rw [List.filter_cons_of_neg hp]; exact ht

theorem sorted_keep {m : SMap α} (p : Nat → Bool) (h : sorted m = true) : sorted (keep p m) = true := sorted_filter _ h

theorem mem_insert {m : SMap α} {k : Nat} {v : α} {e : Nat × α} (h : e ∈ insert m k v) : e = (k, v) ∨ e ∈ m := by
  induction m with
  | nil => simpa [insert] using h
  | cons x m ih =>
    unfold insert at h
    split at h
    · rcases List.mem_cons.mp h with rfl | h
      · exact .inl rfl
      · exact .inr (List.mem_cons_of_mem _ h)
    · split at h
      · rcases List.mem_cons.mp h with rfl | h
        · exact .inl rfl
        · exact .inr h
      · rcases List.mem_cons.mp h with rfl | h
        · exact .inr List.mem_cons_self
        · exact (ih h).imp id (List.mem_cons_of_mem _)

theorem sorted_insert {m : SMap α} (k : Nat) (v : α) (h : sorted m = true) : sorted (insert m k v) = true := by
  induction m with
  | nil => rfl
  | cons e m ih =>
    have h' := sorted_cons.mp h
    unfold insert
    split
    · rename_i hk
      exact sorted_cons.mpr ⟨fun x hx => hk ▸ h'.1 x hx, h'.2⟩
    · rename_i hk
      split
      · rename_i hlt
        refine sorted_cons.mpr ⟨fun x hx => ?_, h⟩
        rcases List.mem_cons.mp hx with rfl | hx
        · exact hlt
        · exact Nat.lt_trans hlt (h'.1 x hx)
      · rename_i hlt
        refine sorted_cons.mpr ⟨fun x hx => ?_, ih h'.2⟩
        rcases mem_insert hx with rfl | hx
        · exact Nat.lt_of_le_of_ne (Nat.le_of_not_lt hlt) hk
        · exact h'.1 x hx

theorem mem_erase {m : SMap α} {k : Nat} {e : Nat × α} (h : e ∈ erase m k) : e ∈ m := by
  induction m with
  | nil => simp [erase] at h
  | cons x m ih =>
    unfold erase at h
    split at h
    · exact List.mem_cons_of_mem _ h
    · split at h
      · exact h
      · rcases List.mem_cons.mp h with rfl | h
        · exact List.mem_cons_self
        · exact List.mem_cons_of_mem _ (ih h)

theorem sorted_erase {m : SMap α} (k : Nat) (h : sorted m = true) : sorted (erase m k) = true := by
  induction m with
  | nil => rfl
  | cons e m ih =>
    have h' := sorted_cons.mp h
    unfold erase
    split
    · exact h'.2
    · split
      · exact h
      · exact sorted_cons.mpr ⟨fun x hx => h'.1 x (mem_erase hx), ih h'.2⟩

theorem sorted_put [DecidableEq α] {m : SMap α} (d : α) (k : Nat) (v : α) (h : sorted m = true) :
    sorted (put d m k v) = true := by
  unfold put; split
  · exact sorted_erase _ h
  · exact sorted_insert _ _ h

theorem sorted_foldl_insert {β : Type} {m : SMap α} (f : β → Nat) (g : β → α) (l : List β) (h : sorted m = true) :
    sorted (l.foldl (fun m e => insert m (f e) (g e)) m) = true := by
  induction l generalizing m with
  | nil => exact h
  | cons x l ih => exact ih (sorted_insert _ _ h)

theorem sorted_append {a b : SMap α} (ha : sorted a = true) (hb : sorted b = true)
    (h : ∀ x ∈ a, ∀ y ∈ b, x.1 < y.1) : sorted (a ++ b) = true := by
  induction a with
  | nil => exact hb
  | cons e a ih =>
    have h' := sorted_cons.mp ha
    refine sorted_cons.mpr ⟨fun x hx => ?_, ih h'.2 fun x hx => h x (List.mem_cons_of_mem _ hx)⟩
    rcases List.mem_append.mp hx with hx | hx
    · exact h'.1 x hx
    · exact h e List.mem_cons_self x hx

/-- A splice of a sorted piece that lies in its range is sorted. -/
theorem sorted_splice {m m' : SMap α} {lo hi : Nat} (h : sorted m = true) (h' : sorted m' = true)
    (hr : ∀ e ∈ m', lo ≤ e.1 ∧ e.1 < hi) (hle : lo ≤ hi) : sorted (splice m lo hi m') = true := by
  unfold splice
  refine sorted_append (sorted_append (sorted_filter _ h) h' ?_) (sorted_filter _ h) ?_
  · intro x hx y hy
    have := (List.mem_filter.mp hx).2
    simp only [decide_eq_true_eq] at this
    exact Nat.lt_of_lt_of_le this (hr y hy).1
  · intro x hx y hy
    have hy' := (List.mem_filter.mp hy).2
    simp only [decide_eq_true_eq] at hy'
    rcases List.mem_append.mp hx with hx | hx
    · have := (List.mem_filter.mp hx).2
      simp only [decide_eq_true_eq] at this
      omega
    · have := (hr x hx).2
      omega

theorem mem_slice {m : SMap α} {lo hi : Nat} {e : Nat × α} (h : e ∈ slice m lo hi) : e ∈ m ∧ lo ≤ e.1 ∧ e.1 < hi := by
  have h' := List.mem_filter.mp h
  simp only [Bool.and_eq_true, decide_eq_true_eq] at h'
  exact h'

theorem sorted_shift {m : SMap α} {src dst : Nat} (h : sorted m = true) (hr : ∀ e ∈ m, src ≤ e.1) :
    sorted (m.map fun e => (e.1 - src + dst, e.2)) = true := by
  induction m with
  | nil => rfl
  | cons e m ih =>
    have h' := sorted_cons.mp h
    refine sorted_cons.mpr ⟨fun x hx => ?_, ih h'.2 fun x hx => hr x (List.mem_cons_of_mem _ hx)⟩
    obtain ⟨y, hy, rfl⟩ := List.mem_map.mp hx
    have := h'.1 y hy
    have := hr e List.mem_cons_self
    dsimp only
    omega

theorem sorted_copy {m : SMap α} (src dst n : Nat) (h : sorted m = true) : sorted (copy m src dst n) = true := by
  unfold copy
  refine sorted_splice h (sorted_shift (sorted_filter _ h) fun e he => (mem_slice he).2.1) ?_ (by omega)
  intro e he
  obtain ⟨y, hy, rfl⟩ := List.mem_map.mp he
  have := (mem_slice hy).2
  dsimp only
  omega

theorem sorted_clear {m : SMap α} (lo n : Nat) (h : sorted m = true) : sorted (clear m lo n) = true :=
  sorted_splice h rfl (fun _ he => by cases he) (by omega)

/-! ### The canonical form -/

theorem canonical_iff [DecidableEq α] {d : α} {m : SMap α} :
    canonical d m = true ↔ sorted m = true ∧ ∀ e ∈ m, e.2 ≠ d := by
  simp [canonical]

theorem canonical_insert [DecidableEq α] {d : α} {m : SMap α} (k : Nat) {v : α} (hv : v ≠ d) (h : canonical d m = true) :
    canonical d (insert m k v) = true := by
  rw [canonical_iff] at *
  refine ⟨sorted_insert _ _ h.1, fun e he => ?_⟩
  rcases mem_insert he with rfl | he
  · exact hv
  · exact h.2 e he

theorem canonical_erase [DecidableEq α] {d : α} {m : SMap α} (k : Nat) (h : canonical d m = true) :
    canonical d (erase m k) = true := by
  rw [canonical_iff] at *
  exact ⟨sorted_erase _ h.1, fun e he => h.2 e (mem_erase he)⟩

theorem canonical_put [DecidableEq α] {d : α} {m : SMap α} (k : Nat) (v : α) (h : canonical d m = true) :
    canonical d (put d m k v) = true := by
  unfold put; split
  · exact canonical_erase _ h
  · exact canonical_insert _ (by assumption) h

theorem canonical_filter [DecidableEq α] {d : α} {m : SMap α} (p : Nat × α → Bool) (h : canonical d m = true) :
    canonical d (m.filter p) = true := by
  rw [canonical_iff] at *
  exact ⟨sorted_filter _ h.1, fun e he => h.2 e (List.mem_of_mem_filter he)⟩

theorem canonical_splice [DecidableEq α] {d : α} {m m' : SMap α} {lo hi : Nat} (h : canonical d m = true)
    (h' : canonical d m' = true) (hr : ∀ e ∈ m', lo ≤ e.1 ∧ e.1 < hi) (hle : lo ≤ hi) :
    canonical d (splice m lo hi m') = true := by
  rw [canonical_iff] at *
  refine ⟨sorted_splice h.1 h'.1 hr hle, fun e he => ?_⟩
  unfold splice at he
  rcases List.mem_append.mp he with he | he
  · rcases List.mem_append.mp he with he | he
    · exact h.2 e (List.mem_of_mem_filter he)
    · exact h'.2 e he
  · exact h.2 e (List.mem_of_mem_filter he)

theorem canonical_copy [DecidableEq α] {d : α} {m : SMap α} (src dst n : Nat) (h : canonical d m = true) :
    canonical d (copy m src dst n) = true := by
  refine canonical_iff.mpr ⟨sorted_copy _ _ _ (canonical_iff.mp h).1, fun e he => ?_⟩
  unfold copy splice at he
  have hm := (canonical_iff.mp h).2
  rcases List.mem_append.mp he with he | he
  · rcases List.mem_append.mp he with he | he
    · exact hm e (List.mem_of_mem_filter he)
    · obtain ⟨y, hy, rfl⟩ := List.mem_map.mp he
      exact hm y (mem_slice hy).1
  · exact hm e (List.mem_of_mem_filter he)

theorem canonical_clear [DecidableEq α] {d : α} {m : SMap α} (lo n : Nat) (h : canonical d m = true) :
    canonical d (clear m lo n) = true :=
  canonical_splice h (by simp [canonical, sorted]) (fun _ he => by cases he) (by omega)

/-! ### Reading after writing -/

@[simp] theorem find?_nil (k : Nat) : find? ([] : SMap α) k = none := rfl

theorem find?_of_allAbove {m : SMap α} {k : Nat} (h : allAbove k m) : find? m k = none := by
  cases m with
  | nil => rfl
  | cons e m =>
    have := h e List.mem_cons_self
    unfold find?
    rw [if_neg (by omega), if_pos this]

theorem find?_insert_same (m : SMap α) (k : Nat) (v : α) : find? (insert m k v) k = some v := by
  induction m with
  | nil => simp [insert, find?]
  | cons e m ih =>
    unfold insert
    split
    · simp [find?]
    · split
      · simp [find?]
      · rename_i h1 h2
        unfold find?
        rw [if_neg h1, if_neg h2]; exact ih

theorem find?_insert_ne (m : SMap α) {k j : Nat} (v : α) (h : j ≠ k) : find? (insert m k v) j = find? m j := by
  induction m with
  | nil =>
    simp only [insert, find?]
    rw [if_neg (Ne.symm h)]; split <;> rfl
  | cons e m ih =>
    unfold insert
    split
    · rename_i hk
      subst hk
      simp only [find?]
      rw [if_neg (Ne.symm h)]
      simp [Ne.symm h]
    · split
      · rename_i h1 h2
        by_cases hj : j < k
        · have : j < e.1 := by omega
          simp only [find?]
          rw [if_neg (Ne.symm h), if_pos hj, if_neg (by omega), if_pos this]
        · conv => lhs; unfold find?
          rw [if_neg (Ne.symm h), if_neg hj]
      · unfold find?
        split
        · rfl
        · split
          · rfl
          · exact ih

theorem find?_erase_same {m : SMap α} (k : Nat) (hs : sorted m = true) : find? (erase m k) k = none := by
  induction m with
  | nil => rfl
  | cons e m ih =>
    have h' := sorted_cons.mp hs
    unfold erase
    split
    · rename_i hk
      exact find?_of_allAbove (hk ▸ h'.1)
    · split
      · rename_i h1 h2
        unfold find?
        rw [if_neg h1, if_pos h2]
      · rename_i h1 h2
        unfold find?
        rw [if_neg h1, if_neg h2]; exact ih h'.2

theorem find?_erase_ne {m : SMap α} {k j : Nat} (hs : sorted m = true) (h : j ≠ k) : find? (erase m k) j = find? m j := by
  induction m with
  | nil => rfl
  | cons e m ih =>
    have h' := sorted_cons.mp hs
    unfold erase
    split
    · rename_i hk
      have hne : ¬ e.1 = j := by omega
      by_cases hj : j < e.1
      · have hall : allAbove j m := fun x hx => Nat.lt_trans hj (h'.1 x hx)
        rw [find?_of_allAbove hall]
        simp only [find?]
        rw [if_neg hne, if_pos hj]
      · conv => rhs; unfold find?
        rw [if_neg hne, if_neg hj]
    · split
      · rfl
      · unfold find?
        split
        · rfl
        · split
          · rfl
          · exact ih h'.2

/-- What a key reads as after a write to it. -/
theorem get_put_same [DecidableEq α] {d : α} {m : SMap α} (k : Nat) (v : α) (hs : sorted m = true) :
    get d (put d m k v) k = v := by
  unfold get put
  split
  · rename_i h; rw [find?_erase_same k hs, h]; rfl
  · rw [find?_insert_same]; rfl

/-- A write leaves every other key as it was. -/
theorem get_put_ne [DecidableEq α] {d d' : α} {m : SMap α} {k j : Nat} (v : α) (hs : sorted m = true) (h : j ≠ k) :
    get d (put d' m k v) j = get d m j := by
  unfold get put
  split
  · rw [find?_erase_ne hs h]
  · rw [find?_insert_ne m v h]

theorem find?_put_ne [DecidableEq α] {d : α} {m : SMap α} {k j : Nat} (v : α) (hs : sorted m = true) (h : j ≠ k) :
    find? (put d m k v) j = find? m j := by
  unfold put
  split
  · exact find?_erase_ne hs h
  · exact find?_insert_ne m v h

theorem find?_keep {m : SMap α} {p : Nat → Bool} {k : Nat} (hs : sorted m = true) (h : p k = true) :
    find? (keep p m) k = find? m k := by
  induction m with
  | nil => rfl
  | cons e m ih =>
    obtain ⟨ha, hm⟩ := sorted_cons.mp hs
    have ih := ih hm
    unfold keep at ih ⊢
    by_cases hp : p e.1 = true
    · rw [List.filter_cons_of_pos (by exact hp)]
      simp only [find?]
      split
      · rfl
      · split
        · rfl
        · exact ih
    · rw [List.filter_cons_of_neg (by exact hp), ih]
      have hne : e.1 ≠ k := fun hk => hp (hk ▸ h)
      simp only [find?]
      rw [if_neg hne]
      split
      · rename_i hlt
        exact find?_of_allAbove (fun x hx => Nat.lt_trans hlt (ha x hx))
      · rfl

end Sys2Proof.SMap
end

