-- ==== Sys2Proof/Laws/Moves.lean ====
section
/-! SUPPORT.  What one operation can do to the state, said once: it keeps the state sane, draws free values in order, and
changes at most the parts named by a mask.  The lemmas of `Laws/Moves…` say it of every operation of the model. -/

namespace Sys2Proof.Machine

/-- The place of a part in a mask. -/
def Part.ix : Part → Nat := Part.ctorIdx

/-- Two states agree on a part: reflexive and transitive. -/
theorem Part.same_refl (s : State) (p : Part) : p.same s s := by cases p <;> rfl

theorem Part.same_trans {s t u : State} {p : Part} (h : p.same s t) (k : p.same t u) : p.same s u := by
  cases p <;> exact k.trans h

/-- The register page that a key of the register store belongs to. -/
def pageOf (k : Nat) : Nat := k / 131072 % 64

theorem pageOf_key (f : FieldDef) (die : Nat) : pageOf (f.key die) = f.code % 64 := by
  unfold pageOf FieldDef.key
  omega

/-- `t` follows from `s` by changing at most what the mask `F` allows: bit `i` below 64 the part number `i`, bit `64 + c`
the registers of the pages of code `c`. -/
structure Moves (F : Nat) (s t : State) : Prop where
  sane : s.Sane → t.Sane
  draws : s.freeCtr ≤ t.freeCtr
  frame : ∀ p : Part, F.testBit p.ix = false → p.same s t
  pages : s.Sane → ∀ k, F.testBit (64 + pageOf k) = false → SMap.find? t.regs k = SMap.find? s.regs k

/-- The mask of the pages of a code. -/
def Moves.page (code : Nat) : Nat := 1 <<< (64 + code % 64)

/-- The mask of all pages. -/
def Moves.all : Nat := 0xffffffffffffffff0000000000000000

theorem Moves.refl {F : Nat} {s : State} : Moves F s s := ⟨id, Nat.le_refl _, fun p _ => p.same_refl s, fun _ _ _ => rfl⟩

theorem Moves.sub {F G : Nat} {s t : State} (h : Moves G s t) (sub : G &&& F = G := by rfl) : Moves F s t :=
  ⟨h.sane, h.draws, fun p hp => h.frame p (by rw [← sub, Nat.testBit_and, hp, Bool.and_false]),
    fun w k hk => h.pages w k (by rw [← sub, Nat.testBit_and, hk, Bool.and_false])⟩

theorem Moves.or_left {F a : Nat} : a &&& (a ||| F) = a := by
  apply Nat.eq_of_testBit_eq; intro i; simp only [Nat.testBit_and, Nat.testBit_or]; cases a.testBit i <;> rfl

theorem Moves.or_right {F a : Nat} : F &&& (a ||| F) = F := by
  apply Nat.eq_of_testBit_eq; intro i; simp only [Nat.testBit_and, Nat.testBit_or]
  cases a.testBit i <;> cases F.testBit i <;> rfl

theorem Moves.or_le {F a b : Nat} (h : a &&& b = a) : a &&& (b ||| F) = a := by
  apply Nat.eq_of_testBit_eq; intro i
  have h' := congrArg (·.testBit i) h
  simp only [Nat.testBit_and, Nat.testBit_or] at h' ⊢
  revert h'; cases a.testBit i <;> cases b.testBit i <;> cases F.testBit i <;> decide

theorem Moves.or_mono {F a b : Nat} (h : a &&& b = a) : (a ||| F) &&& (b ||| F) = a ||| F := by
  rw [Nat.and_or_distrib_right, Moves.or_le h, Moves.or_right]

theorem Moves.or_monoC {a b c d : Nat} (h : a &&& b = a) (k : c = d) :
    (a ||| Moves.page c) &&& (b ||| Moves.page d) = a ||| Moves.page c := by subst k; exact Moves.or_mono h

theorem Moves.or_mono2 {F a b c : Nat} (h : a &&& c = a) (k : b &&& c = b) :
    (a ||| (b ||| F)) &&& (c ||| F) = a ||| (b ||| F) := by
  rw [Nat.and_or_distrib_right, Moves.or_le h, Moves.or_mono k]

theorem Moves.or_mono3 {F a b l : Nat} (h : a &&& b = a) (k : l &&& b = l) :
    (a ||| (F ||| l)) &&& (b ||| F) = a ||| (F ||| l) := by
  rw [Nat.or_comm F l]; exact Moves.or_mono2 h k

theorem Moves.or_mono4 {F a b l : Nat} (h : a &&& b = a) (k : l &&& b = l) :
    (a ||| (F ||| (l ||| F))) &&& (b ||| F) = a ||| (F ||| (l ||| F)) := by
  rw [Nat.or_comm l F, ← Nat.or_assoc F F l, Nat.or_self]; exact Moves.or_mono3 h k

theorem Moves.page_all (c : Nat) : Moves.page c &&& Moves.all = Moves.page c := by
  have h : ∀ m : Fin 64, (1 <<< (64 + m.val)) &&& Moves.all = 1 <<< (64 + m.val) := by decide
  exact h ⟨c % 64, Nat.mod_lt _ (by decide)⟩

theorem Moves.page_any {a b c : Nat} (h : (a ||| Moves.all) &&& b = a ||| Moves.all) :
    (a ||| Moves.page c) &&& b = a ||| Moves.page c := by
  have k : (a ||| Moves.page c) &&& (a ||| Moves.all) = a ||| Moves.page c := by
    rw [Nat.or_comm a (Moves.page c), Nat.or_comm a Moves.all]; exact Moves.or_mono (Moves.page_all c)
  rw [← k, Nat.and_assoc, h]

theorem Moves.page_any2 {F a b c : Nat} (h : (a ||| Moves.all) &&& b = a ||| Moves.all) :
    (a ||| (Moves.page c ||| F)) &&& (b ||| F) = a ||| (Moves.page c ||| F) := by
  rw [← Nat.or_assoc]; exact Moves.or_mono (Moves.page_any h)

theorem Moves.clampF {a b die : Nat} {f : FieldDef} (h : (a ||| Moves.page f.code) &&& b = a ||| Moves.page f.code)
    (k : (a ||| Moves.page (f.code + 3)) &&& b = a ||| Moves.page (f.code + 3)) :
    (a ||| Moves.page (clampF die f).code) &&& b = a ||| Moves.page (clampF die f).code := by
  unfold Sys2Proof.Machine.clampF clampPage FieldDef.p
  split
  · exact k
  · exact h

theorem Moves.clampP {a b die : Nat} (h : (a ||| Moves.page 4) &&& b = a ||| Moves.page 4)
    (k : (a ||| Moves.page 7) &&& b = a ||| Moves.page 7) :
    (a ||| Moves.page (clampPage die)) &&& b = a ||| Moves.page (clampPage die) := by
  unfold clampPage
  split
  · exact k
  · exact h

theorem Moves.page_bit {F c : Nat} : (F ||| Moves.page c).testBit (64 + c % 64) = true := by
  rw [Nat.testBit_or, Moves.page, Nat.one_shiftLeft, Nat.testBit_two_pow_self, Bool.or_true]

theorem Moves.noPage {F : Nat} {P : Prop} (k : Nat) (hk : F.testBit (64 + pageOf k) = false)
    (h : Moves.all &&& F = Moves.all := by rfl) : P := by
  have hb : Moves.all.testBit (64 + pageOf k) = true := by
    have hd : ∀ m : Fin 64, Moves.all.testBit (64 + m.val) = true := by decide
    exact hd ⟨pageOf k, Nat.mod_lt _ (by decide)⟩
  rw [← h, Nat.testBit_and, hk, Bool.and_false] at hb
  cases hb

theorem Moves.or_right2 {F a p : Nat} : F &&& (a ||| (p ||| F)) = F := by
  rw [← Nat.or_assoc]; exact Moves.or_right

theorem Moves.or_monoF {F a b p : Nat} (h : a &&& b = a) : (a ||| p) &&& (b ||| (p ||| F)) = a ||| p := by
  rw [← Nat.or_assoc]; exact Moves.or_le (Moves.or_mono h)

theorem Moves.at {a b c : Nat} (n : Nat) (h : (a ||| Moves.page n) &&& b = a ||| Moves.page n) (k : c = n := by rfl) :
    (a ||| Moves.page c) &&& b = a ||| Moves.page c := by
  subst k; exact h

theorem Moves.fst {F : Nat} {α : Type} {s t : State} {p : State × α} {x : α} (hq : p = (t, x)) (h : Moves F s p.1) :
    Moves F s t := by cases hq; exact h

theorem Moves.snd {F : Nat} {α : Type} {s t : State} {p : α × State} {x : α} (hq : p = (x, t)) (h : Moves F s p.2) :
    Moves F s t := by cases hq; exact h

theorem Moves.trans {F : Nat} {s t u : State} (h : Moves F s t) (k : Moves F t u) : Moves F s u :=
  ⟨fun w => k.sane (h.sane w), Nat.le_trans h.draws k.draws, fun p hp => Part.same_trans (h.frame p hp) (k.frame p hp),
    fun w i hi => (k.pages (h.sane w) i hi).trans (h.pages w i hi)⟩

theorem Moves.step {F G : Nat} {s t u : State} (h : Moves F s t) (k : Moves G t u) (sub : G &&& F = G := by rfl) : Moves F s u :=
  h.trans (k.sub sub)

theorem Moves.ite {F : Nat} {s a b : State} {c : Prop} [Decidable c] (h : Moves F s a) (k : Moves F s b) :
    Moves F s (if c then a else b) := by split <;> assumption

theorem Moves.ite1 {F : Nat} {α : Type} {s : State} {a b : State × α} {c : Prop} [Decidable c] (h : Moves F s a.1)
    (k : Moves F s b.1) : Moves F s (if c then a else b).1 := by split <;> assumption

theorem Moves.ite2 {F : Nat} {α : Type} {s : State} {a b : α × State} {c : Prop} [Decidable c] (h : Moves F s a.2)
    (k : Moves F s b.2) : Moves F s (if c then a else b).2 := by split <;> assumption

theorem Moves.foldl {F : Nat} {α : Type} {f : State → α → State} {l : List α} (h : ∀ t x, Moves F t (f t x)) {s t : State}
    (k : Moves F s t) : Moves F s (l.foldl f t) := by
  induction l generalizing t with
  | nil => exact k
  | cons x l ih => exact ih (k.trans (h t x))

theorem Moves.iteF {F : Nat} {α : Type} {g : α → State} {s : State} {a b : α} {c : Prop} [Decidable c]
    (h : Moves F s (g a)) (k : Moves F s (g b)) : Moves F s (g (if c then a else b)) := by split <;> assumption

theorem Moves.foldlF {F : Nat} {α β : Type} {g : β → State} {f : β → α → β} {l : List α}
    (h : ∀ t x, Moves F (g t) (g (f t x))) {s : State} {t : β} (k : Moves F s (g t)) : Moves F s (g (l.foldl f t)) := by
  induction l generalizing t with
  | nil => exact k
  | cons x l ih => exact ih (k.trans (h t x))

theorem Moves.foldlMem {F : Nat} {α β : Type} {g : β → State} {f : β → α → β} {l : List α}
    (h : ∀ t, ∀ x ∈ l, Moves F (g t) (g (f t x))) {s : State} {t : β} (k : Moves F s (g t)) : Moves F s (g (l.foldl f t)) := by
  induction l generalizing t with
  | nil => exact k
  | cons x l ih => exact ih (fun t y hy => h t y (List.mem_cons_of_mem _ hy)) (k.trans (h t x List.mem_cons_self))

/-- The fields of a register lie on its page. -/
theorem regFields_code {die code off : Nat} {f : FieldDef} (h : f ∈ regFields die code off) : f.code = code := by
  unfold regFields at h
  obtain ⟨g, _, rfl⟩ := List.mem_map.mp h
  rfl

theorem Moves.foldl1 {F : Nat} {α β : Type} {f : State × β → α → State × β} {l : List α}
    (h : ∀ t x, Moves F t.1 (f t x).1) {s : State} {t : State × β} (k : Moves F s t.1) : Moves F s (l.foldl f t).1 := by
  induction l generalizing t with
  | nil => exact k
  | cons x l ih => exact ih (k.trans (h t x))

theorem Moves.getD {F : Nat} {s t : State} {o : Option State} (h : ∀ u, o = some u → Moves F s u) (k : Moves F s t) :
    Moves F s (o.getD t) := by
  cases o with
  | none => exact k
  | some u => exact h u rfl

theorem Moves.stWritten {F : Nat} {s t : State} {a : Option Nat} (h : Moves F s t) : Moves F s (Written.mk t a).st := h
theorem Moves.stWriting {F : Nat} {s t : State} {a : Nat} {l : List PendingSlip} (h : Moves F s t) :
    Moves F s (Writing.mk t a l).st := h
theorem Moves.stAuthDone {F : Nat} {s t : State} {r : AuthResult} {d : Nat} (h : Moves F s t) :
    Moves F s (AuthDone.mk t r d).st := h
theorem Moves.stLeverDone {F : Nat} {s t : State} {f : Option LeverFault} {e : Bool} {k : Nat} (h : Moves F s t) :
    Moves F s (LeverDone.mk t f e k).st := h

/-- The state that an outcome of a core's instruction carries. -/
def CoreOut.st : CoreOut → State
  | .done st _ _ => st
  | .trap st _ _ => st
  | .wait st => st

theorem Moves.stCoreOut_done {F : Nat} {s t : State} {a : Option Nat} {b : Core → Core} (h : Moves F s t) :
    Moves F s (CoreOut.done t a b).st := h
theorem Moves.stCoreOut_trap {F : Nat} {s t : State} {a b : Nat} (h : Moves F s t) : Moves F s (CoreOut.trap t a b).st := h
theorem Moves.stCoreOut_wait {F : Nat} {s t : State} (h : Moves F s t) : Moves F s (CoreOut.wait t).st := h

theorem Moves.hoAt {a b c F : Nat} (n : Nat) (h : (a ||| (Moves.page n ||| F)) &&& b = a ||| (Moves.page n ||| F))
    (k : c = n := by rfl) : (a ||| (Moves.page c ||| F)) &&& b = a ||| (Moves.page c ||| F) := by
  subst k; exact h

theorem Moves.hoAt2 {a b c l q : Nat} (n : Nat) (h : (a ||| Moves.page n) &&& b = a ||| Moves.page n) (m : l &&& b = l)
    (k : c = n := by rfl) :
    (a ||| (Moves.page c ||| (l ||| Moves.page q))) &&& (b ||| Moves.page q) = a ||| (Moves.page c ||| (l ||| Moves.page q)) := by
  subst k; rw [← Nat.or_assoc]; exact Moves.or_mono2 h m

/-- The frame of a move as a list of parts. -/
theorem Moves.changes {F : Nat} {s t : State} (h : Moves F s t) {l : List Part}
    (hl : ∀ p : Part, l.contains p = false → F.testBit p.ix = false) : ChangesOnly l s t := fun p hp => h.frame p (hl p hp)

end Sys2Proof.Machine
end

