-- ==== Sys2Proof/Laws/MovesOps.lean ====
section
/-! SUPPORT.  What each operation of the ground operations, the pages, the timetable, the bit store and the fabric can do to the state, said once: the parts it may
change (a mask, one bit a part of `Safety.lean`), that it keeps the state sane and that it draws free values in order.
A lemma `Moves.set_…` says it of one record update. -/

open Sys2Proof Sys2Proof.Machine Sys2Proof.Bits
namespace Sys2Proof.Machine
set_option Elab.async false

theorem State.wr_moves (s : State) (die : ℕ) (f : FieldDef) (v : ℕ) :
    Moves (0x80000000010 ||| Moves.page f.code) s (State.wr s die f v) := by
  refine ⟨fun h => ⟨h.1, SMap.sorted_put _ _ _ h.2⟩, Nat.le_refl _, fun p hp => ?_, fun w k hk => ?_⟩
  · rw [Nat.testBit_or, Bool.or_eq_false_iff] at hp
    have hp := hp.1
    cases p <;> first | rfl | exact absurd hp (by decide)
  · refine SMap.find?_put_ne _ w.2 fun h => ?_
    rw [h, pageOf_key, Moves.page_bit] at hk
    cases hk

theorem State.wr_moves_any (s : State) (die : ℕ) (f : FieldDef) (v : ℕ) :
    Moves 0xffffffffffffffff0000080000000010 s (State.wr s die f v) :=
  (State.wr_moves ..).sub (Moves.page_any rfl)


theorem State.wrB_moves (s : State) (die : ℕ) (f : FieldDef) (b : Bool) :
    Moves (0x80000000010 ||| Moves.page f.code) s (State.wrB s die f b) := by
  unfold State.wrB
  exact (Moves.sub (State.wr_moves ..) (Moves.or_mono rfl))

theorem State.wrB_moves_any (s : State) (die : ℕ) (f : FieldDef) (b : Bool) :
    Moves 0xffffffffffffffff0000080000000010 s (State.wrB s die f b) :=
  (State.wrB_moves ..).sub (Moves.page_any rfl)


theorem State.add_moves (s : State) (die : ℕ) (f : FieldDef) (n : ℕ) :
    Moves (0x80000000010 ||| Moves.page f.code) s (State.add s die f n) := by
  unfold State.add
  exact (Moves.sub (State.wr_moves ..) (Moves.or_mono rfl))

theorem State.add_moves_any (s : State) (die : ℕ) (f : FieldDef) (n : ℕ) :
    Moves 0xffffffffffffffff0000080000000010 s (State.add s die f n) :=
  (State.add_moves ..).sub (Moves.page_any rfl)


theorem State.inc_moves (s : State) (die : ℕ) (f : FieldDef) :
    Moves (0x80000000010 ||| Moves.page f.code) s (State.inc s die f) := by
  unfold State.inc
  exact (Moves.sub (State.add_moves ..) (Moves.or_mono rfl))

theorem State.inc_moves_any (s : State) (die : ℕ) (f : FieldDef) :
    Moves 0xffffffffffffffff0000080000000010 s (State.inc s die f) :=
  (State.inc_moves ..).sub (Moves.page_any rfl)


theorem State.incWrap_moves (s : State) (die : ℕ) (f : FieldDef) :
    Moves (0x80000000010 ||| Moves.page f.code) s (State.incWrap s die f) := by
  unfold State.incWrap
  exact (Moves.sub (State.wr_moves ..) (Moves.or_mono rfl))

theorem State.incWrap_moves_any (s : State) (die : ℕ) (f : FieldDef) :
    Moves 0xffffffffffffffff0000080000000010 s (State.incWrap s die f) :=
  (State.incWrap_moves ..).sub (Moves.page_any rfl)


theorem State.wrMax_moves (s : State) (die : ℕ) (f : FieldDef) (v : ℕ) :
    Moves (0x80000000010 ||| Moves.page f.code) s (State.wrMax s die f v) := by
  unfold State.wrMax
  exact (Moves.sub (State.wr_moves ..) (Moves.or_mono rfl))

theorem State.wrMax_moves_any (s : State) (die : ℕ) (f : FieldDef) (v : ℕ) :
    Moves 0xffffffffffffffff0000080000000010 s (State.wrMax s die f v) :=
  (State.wrMax_moves ..).sub (Moves.page_any rfl)


theorem State.wrMin_moves (s : State) (die : ℕ) (f : FieldDef) (v : ℕ) :
    Moves (0x80000000010 ||| Moves.page f.code) s (State.wrMin s die f v) := by
  unfold State.wrMin
  exact (Moves.sub (State.wr_moves ..) (Moves.or_mono rfl))

theorem State.wrMin_moves_any (s : State) (die : ℕ) (f : FieldDef) (v : ℕ) :
    Moves 0xffffffffffffffff0000080000000010 s (State.wrMin s die f v) :=
  (State.wrMin_moves ..).sub (Moves.page_any rfl)


theorem State.setBits_moves (s : State) (die : ℕ) (f : FieldDef) (m : ℕ) :
    Moves (0x80000000010 ||| Moves.page f.code) s (State.setBits s die f m) := by
  unfold State.setBits
  exact (Moves.sub (State.wr_moves ..) (Moves.or_mono rfl))

theorem State.setBits_moves_any (s : State) (die : ℕ) (f : FieldDef) (m : ℕ) :
    Moves 0xffffffffffffffff0000080000000010 s (State.setBits s die f m) :=
  (State.setBits_moves ..).sub (Moves.page_any rfl)


theorem State.clearBits_moves (s : State) (die : ℕ) (f : FieldDef) (m : ℕ) :
    Moves (0x80000000010 ||| Moves.page f.code) s (State.clearBits s die f m) := by
  unfold State.clearBits
  exact (Moves.sub (State.wr_moves ..) (Moves.or_mono rfl))

theorem State.clearBits_moves_any (s : State) (die : ℕ) (f : FieldDef) (m : ℕ) :
    Moves 0xffffffffffffffff0000080000000010 s (State.clearBits s die f m) :=
  (State.clearBits_moves ..).sub (Moves.page_any rfl)


theorem State.wr2_moves (s : State) (die : ℕ) (lo hi : FieldDef) (v : ℕ) (h : hi.code = lo.code := by rfl) :
    Moves (0x80000000010 ||| Moves.page lo.code) s (State.wr2 s die lo hi v) := by
  unfold State.wr2
  exact (Moves.sub (State.wr_moves ..) (Moves.or_mono rfl)).step (State.wr_moves ..) (by rw [h]; exact Moves.or_mono rfl)

theorem State.wr2_moves_any (s : State) (die : ℕ) (lo hi : FieldDef) (v : ℕ) :
    Moves 0xffffffffffffffff0000080000000010 s (State.wr2 s die lo hi v) := by
  unfold State.wr2
  exact ((Moves.sub (State.wr_moves_any ..)).step (State.wr_moves_any ..))


theorem State.resetField_moves (s : State) (die : ℕ) (f : FieldDef) :
    Moves (0x80000000010 ||| Moves.page f.code) s (State.resetField s die f) := by
  unfold State.resetField
  exact (Moves.sub (State.wr_moves ..) (Moves.or_mono rfl))

theorem State.resetField_moves_any (s : State) (die : ℕ) (f : FieldDef) :
    Moves 0xffffffffffffffff0000080000000010 s (State.resetField s die f) :=
  (State.resetField_moves ..).sub (Moves.page_any rfl)


theorem State.irq_moves (s : State) (die code n : ℕ) :
    Moves (0x80000000010 ||| Moves.page ((IRQ_RAW_SRC code).code)) s (State.irq s die code n) := by
  unfold State.irq
  exact (Moves.sub (State.setBits_moves ..) (Moves.or_mono rfl))

theorem State.irq_moves_any (s : State) (die code n : ℕ) :
    Moves 0xffffffffffffffff0000080000000010 s (State.irq s die code n) :=
  (State.irq_moves ..).sub (Moves.page_any rfl)


theorem State.storeByte_moves (s : State) (a : ℕ) (b : Byte) :
    Moves 0x80000000028 s (State.storeByte s a b) := by
  refine ⟨fun h => ⟨SMap.canonical_put _ _ h.1, h.2⟩, Nat.le_refl _, fun p hp => ?_, fun _ _ _ => rfl⟩
  cases p <;> first | rfl | exact absurd hp (by decide)


theorem State.storeBytes_moves (s : State) (a : ℕ) (a2 : List Byte) :
    Moves 0x80000000028 s (State.storeBytes s a a2) := by
  induction a2 generalizing a s with
  | nil => exact Moves.refl
  | cons b bs ih => exact (State.storeByte_moves s a b).trans (ih ..)


theorem State.store_moves (s : State) (a n v : ℕ) :
    Moves 0x80000000028 s (State.store s a n v) := by
  unfold State.store
  exact (Moves.sub (State.storeBytes_moves ..))


theorem State.copyMem_moves (s : State) (src dst n : ℕ) :
    Moves 0x80000000028 s (State.copyMem s src dst n) := by
  refine ⟨fun h => ⟨SMap.canonical_copy _ _ _ h.1, h.2⟩, Nat.le_refl _, fun p hp => ?_, fun _ _ _ => rfl⟩
  cases p <;> first | rfl | exact absurd hp (by decide)


theorem State.clearMem_moves (s : State) (a n : ℕ) :
    Moves 0x80000000028 s (State.clearMem s a n) := by
  refine ⟨fun h => ⟨SMap.canonical_clear _ _ h.1, h.2⟩, Nat.le_refl _, fun p hp => ?_, fun _ _ _ => rfl⟩
  cases p <;> first | rfl | exact absurd hp (by decide)


theorem Moves.set_43 {F : Nat} {s x : State} {f43 : SMap ℕ} (h : Moves F s x) (sub : 0x80000000000 &&& F = 0x80000000000 := by rfl) :
    Moves F s { x with dirty := f43 } :=
  h.step (G := 0x80000000000) ⟨id, Nat.le_refl _, fun p hp => by cases p <;> first | rfl | exact absurd hp (by decide), fun _ _ _ => rfl⟩ sub

theorem State.storeQuiet_moves (s : State) (a n v : ℕ) :
    Moves 0x80000000028 s (State.storeQuiet s a n v) := by
  unfold State.storeQuiet
  extract_lets +onlyGivenNames s0
  have hs0 : Moves 0x80000000028 s s0 := (Moves.sub (State.store_moves ..))
  clear_value s0
  exact (Moves.set_43 hs0)


theorem Moves.set_0_1 {F : Nat} {s x : State} {f0 : ℕ} {f1 : ℕ} (h : Moves F s x) (sub : 0x3 &&& F = 0x3 := by rfl) :
    Moves F s { x with time := f0, cycle := f1 } :=
  h.step (G := 0x3) ⟨id, Nat.le_refl _, fun p hp => by cases p <;> first | rfl | exact absurd hp (by decide), fun _ _ _ => rfl⟩ sub

theorem State.advanceTo_moves (s : State) (c : ℕ) :
    Moves 0x3 s (State.advanceTo s c) := by
  unfold State.advanceTo
  exact (Moves.set_0_1 Moves.refl)


theorem Moves.set_0_38_45_49_50_51_52 {F : Nat} {s x : State} {f0 : ℕ} {f38 : Exch} {f45 : Pair} {f49 : FieldIO} {f50 : Archive} {f51 : Aon} {f52 : Update} (h : Moves F s x) (sub : 0x1e204000000001 &&& F = 0x1e204000000001 := by rfl) :
    Moves F s { x with time := f0, exch := f38, pair := f45, fld := f49, arch := f50, aon := f51, upd := f52 } :=
  h.step (G := 0x1e204000000001) ⟨id, Nat.le_refl _, fun p hp => by cases p <;> first | rfl | exact absurd hp (by decide), fun _ _ _ => rfl⟩ sub

theorem State.stepTime_moves (s : State) (t : ℕ) :
    Moves 0x1e204000000001 s (State.stepTime s t) := by
  unfold State.stepTime
  extract_lets +onlyGivenNames v0
  exact (Moves.set_0_38_45_49_50_51_52 Moves.refl)


theorem State.advanceTime_moves (s : State) (t : ℕ) :
    Moves 0x3 s (State.advanceTime s t) := by
  unfold State.advanceTime
  exact (Moves.sub (State.advanceTo_moves ..))


theorem Moves.set_8 {F : Nat} {s x : State} {f8 : SMap Reply} (h : Moves F s x) (sub : 0x100 &&& F = 0x100 := by rfl) :
    Moves F s { x with replies := f8 } :=
  h.step (G := 0x100) ⟨id, Nat.le_refl _, fun p hp => by cases p <;> first | rfl | exact absurd hp (by decide), fun _ _ _ => rfl⟩ sub

theorem State.reply_moves (s : State) (who data : ℕ) (fault : Bool) :
    Moves 0x100 s (State.reply s who data fault) := by
  unfold State.reply
  exact (Moves.set_8 Moves.refl)


theorem Moves.set_9 {F : Nat} {s x : State} {f9 : SMap (List QEntry)} (h : Moves F s x) (sub : 0x200 &&& F = 0x200 := by rfl) :
    Moves F s { x with queues := f9 } :=
  h.step (G := 0x200) ⟨id, Nat.le_refl _, fun p hp => by cases p <;> first | rfl | exact absurd hp (by decide), fun _ _ _ => rfl⟩ sub

theorem State.setRing_moves (s : State) (die q : ℕ) (l : List QEntry) :
    Moves 0x200 s (State.setRing s die q l) := by
  unfold State.setRing
  exact (Moves.set_9 Moves.refl)


theorem State.enterRing_moves (s : State) (die q lo hi : ℕ) :
    Moves 0x80000000200 s (State.enterRing s die q lo hi) := by
  unfold State.enterRing
  extract_lets +onlyGivenNames s0
  have hs0 : Moves 0x80000000200 s s0 := (Moves.sub (State.setRing_moves ..))
  clear_value s0
  exact (Moves.set_43 hs0)


theorem State.setCredits_moves (s : State) (src dst q n : ℕ) :
    Moves 0x400000080000000010 s (State.setCredits s src dst q n) := by
  unfold State.setCredits
  exact (Moves.sub (State.wr_moves ..) (Moves.at 6 rfl))


theorem State.drawFree_moves (s : State) :
    Moves 0x4 s (State.drawFree s).2 := by
  refine ⟨id, Nat.le_succ _, fun p hp => ?_, fun _ _ _ => rfl⟩
  cases p <;> first | rfl | exact absurd hp (by decide)


theorem Moves.set_17 {F : Nat} {s x : State} {f17 : SMap Slot} (h : Moves F s x) (sub : 0x20000 &&& F = 0x20000 := by rfl) :
    Moves F s { x with slots := f17 } :=
  h.step (G := 0x20000) ⟨id, Nat.le_refl _, fun p hp => by cases p <;> first | rfl | exact absurd hp (by decide), fun _ _ _ => rfl⟩ sub

theorem State.setSlot_moves (s : State) (die e : ℕ) (x : Slot) :
    Moves 0x20000 s (State.setSlot s die e x) := by
  unfold State.setSlot
  exact (Moves.set_17 Moves.refl)


theorem Moves.set_25_43 {F : Nat} {s x : State} {f25 : SMap Timer} {f43 : SMap ℕ} (h : Moves F s x) (sub : 0x80002000000 &&& F = 0x80002000000 := by rfl) :
    Moves F s { x with timers := f25, dirty := f43 } :=
  h.step (G := 0x80002000000) ⟨id, Nat.le_refl _, fun p hp => by cases p <;> first | rfl | exact absurd hp (by decide), fun _ _ _ => rfl⟩ sub

theorem State.setTimer_moves (s : State) (die i : ℕ) (t : Timer) :
    Moves 0x80002000000 s (State.setTimer s die i t) := by
  unfold State.setTimer
  exact (Moves.set_25_43 Moves.refl)


theorem Moves.set_26_43 {F : Nat} {s x : State} {f26 : SMap Counter} {f43 : SMap ℕ} (h : Moves F s x) (sub : 0x80004000000 &&& F = 0x80004000000 := by rfl) :
    Moves F s { x with counters := f26, dirty := f43 } :=
  h.step (G := 0x80004000000) ⟨id, Nat.le_refl _, fun p hp => by cases p <;> first | rfl | exact absurd hp (by decide), fun _ _ _ => rfl⟩ sub

theorem State.setCounter_moves (s : State) (die i : ℕ) (c : Counter) :
    Moves 0x80004000000 s (State.setCounter s die i c) := by
  unfold State.setCounter
  exact (Moves.set_26_43 Moves.refl)


theorem State.archive_moves (s : State) (page event : ℕ) (sev : Severity) (payload : List ℕ) :
    Moves 0x200400000080000000210 s (State.archive s page event sev payload) := by
  unfold State.archive
  extract_lets +onlyGivenNames v0
  refine Moves.ite ?_ ?_
  · exact (Moves.foldl (fun _ _ => (Moves.sub (State.enterRing_moves ..))) (Moves.sub (State.setCredits_moves ..)))
  · exact ((Moves.sub (State.inc_moves ..) (Moves.at 17 rfl)).step (State.irq_moves ..) (Moves.at 17 rfl))


theorem State.twinWriteBeside_moves (s : State) (sel : Option ℕ) (t : ℕ) (body : List Byte) :
    Moves 0x80000000080000000038 s (State.twinWriteBeside s sel t body) := by
  unfold State.twinWriteBeside
  extract_lets +onlyGivenNames v0
  extract_lets +onlyGivenNames v1
  extract_lets +onlyGivenNames s2
  have hs2 : Moves 0x80000000080000000038 s s2 := (Moves.sub (State.storeBytes_moves ..))
  clear_value s2
  extract_lets +onlyGivenNames s3
  have hs3 : Moves 0x80000000080000000038 s s3 := (hs2.step (State.storeBytes_moves ..))
  clear_value s3
  exact (hs3.step (State.wr_moves ..) (Moves.at 15 rfl))


theorem State.twinWrite_moves (s : State) (t : ℕ) (body : List Byte) :
    Moves 0x80000000080000000038 s (State.twinWrite s t body) := by
  unfold State.twinWrite
  exact (Moves.sub (State.twinWriteBeside_moves ..))


theorem State.setCell_moves (s : State) (c v : ℕ) :
    Moves 0x80000000028 s (State.setCell s c v) := by
  unfold State.setCell
  refine Moves.ite ?_ ?_
  · exact Moves.refl
  · extract_lets +onlyGivenNames v0
    extract_lets +onlyGivenNames v1
    exact ((Moves.sub (State.store_moves ..)).step (State.store_moves ..))


theorem State.keyWrite_moves (s : State) (k role : ℕ) (payload : List Byte) :
    Moves 0x80000000028 s (State.keyWrite s k role payload) := by
  unfold State.keyWrite
  extract_lets +onlyGivenNames v0
  extract_lets +onlyGivenNames v1
  extract_lets +onlyGivenNames v2
  extract_lets +onlyGivenNames v3
  extract_lets +onlyGivenNames v4
  exact (Moves.sub (State.storeBytes_moves ..))


theorem State.stacksRead_moves (s : State) (off n : ℕ) :
    Moves 0x280400000080000000210 s (State.stacksRead s off n).1 := by
  unfold State.stacksRead
  refine Moves.ite1 ?_ ?_
  · exact Moves.refl
  · refine Moves.ite1 ?_ ?_
    · extract_lets +onlyGivenNames s0
      have hs0 : Moves 0x280400000080000000210 s s0 := (((Moves.sub (State.wr_moves ..) (Moves.at 15 rfl)).step (State.wr_moves ..) (Moves.at 15 rfl)).step (State.inc_moves ..) (Moves.at 15 rfl))
      clear_value s0
      dsimp -zeta only
      exact ((hs0.step (State.irq_moves ..) (Moves.at 15 rfl)).step (State.archive_moves ..))
    · refine Moves.ite1 ?_ ?_
      · dsimp -zeta only
        exact (Moves.sub (State.inc_moves ..) (Moves.at 15 rfl))
      · exact Moves.refl


theorem Moves.set_13 {F : Nat} {s x : State} {f13 : SMap Core} (h : Moves F s x) (sub : 0x2000 &&& F = 0x2000 := by rfl) :
    Moves F s { x with cores := f13 } :=
  h.step (G := 0x2000) ⟨id, Nat.le_refl _, fun p hp => by cases p <;> first | rfl | exact absurd hp (by decide), fun _ _ _ => rfl⟩ sub

theorem State.setCore_moves (s : State) (die n : ℕ) (c : Core) :
    Moves 0x2000 s (State.setCore s die n c) := by
  unfold State.setCore
  exact (Moves.set_13 Moves.refl)


theorem Moves.set_36 {F : Nat} {s x : State} {f36 : SMap CanCtl} (h : Moves F s x) (sub : 0x1000000000 &&& F = 0x1000000000 := by rfl) :
    Moves F s { x with cans := f36 } :=
  h.step (G := 0x1000000000) ⟨id, Nat.le_refl _, fun p hp => by cases p <;> first | rfl | exact absurd hp (by decide), fun _ _ _ => rfl⟩ sub

theorem State.setCan_moves (s : State) (ch : ℕ) (c : CanCtl) :
    Moves 0x1000000000 s (State.setCan s ch c) := by
  unfold State.setCan
  exact (Moves.set_36 Moves.refl)


theorem State.occur_moves (s : State) (t : ℕ) :
    Moves 0x100000000000000080000000010 s (State.occur s t) := by
  unfold State.occur
  extract_lets +onlyGivenNames s0
  have hs0 : Moves 0x100000000000000080000000010 s s0 := by
    refine Moves.ite ?_ ?_
    · exact (Moves.sub (State.irq_moves ..) (Moves.at 40 rfl))
    · exact (Moves.sub (State.wr_moves ..) (Moves.at 40 rfl))
  clear_value s0
  exact (hs0.step (State.inc_moves ..) (Moves.at 40 rfl))


theorem Moves.set_31 {F : Nat} {s x : State} {f31 : SMap Causes} (h : Moves F s x) (sub : 0x80000000 &&& F = 0x80000000 := by rfl) :
    Moves F s { x with causes := f31 } :=
  h.step (G := 0x80000000) ⟨id, Nat.le_refl _, fun p hp => by cases p <;> first | rfl | exact absurd hp (by decide), fun _ _ _ => rfl⟩ sub

theorem State.occurCause_moves (s : State) (t cause station : ℕ) :
    Moves 0x100000000000000080080000010 s (State.occurCause s t cause station) := by
  unfold State.occurCause
  extract_lets +onlyGivenNames v0
  exact ((Moves.set_31 Moves.refl).step (State.occur_moves ..))


theorem State.raiseCause_moves (s : State) (cause : ℕ) :
    Moves 0x100000000000000080080000010 s (State.raiseCause s cause) := by
  unfold State.raiseCause
  exact (Moves.foldl (fun _ _ => (Moves.sub (State.occurCause_moves ..))) Moves.refl)


theorem State.sourceOccurs_moves (s : State) (k src : ℕ) (edge : ℕ → Bool) :
    Moves 0x100000000000000080000000010 s (State.sourceOccurs s k src edge) := by
  unfold State.sourceOccurs
  exact (Moves.foldl (fun _ _ => (Moves.sub (State.occur_moves ..))) Moves.refl)


theorem State.hwEnter_moves (s : State) (die q lo tag : ℕ) :
    Moves 0x400000080000000210 s (State.hwEnter s die q lo tag) := by
  unfold State.hwEnter
  exact ((Moves.sub (State.setCredits_moves ..)).step (State.enterRing_moves ..))


theorem State.hwDrop_moves (s : State) (die q : ℕ) :
    Moves 0x400000080000000010 s (State.hwDrop s die q) := by
  unfold State.hwDrop
  exact ((Moves.sub (State.inc_moves ..) (Moves.at 6 rfl)).step (State.irq_moves ..) (Moves.at 6 rfl))


theorem State.fabricError_moves (s : State) (kind : FabKind) (who addr : ℕ) :
    Moves 0x600000080000000210 s (State.fabricError s kind who addr) := by
  unfold State.fabricError
  extract_lets +onlyGivenNames v0
  refine Moves.ite ?_ ?_
  · exact (Moves.sub (State.hwEnter_moves ..))
  · exact ((Moves.sub (State.hwDrop_moves ..)).step (State.inc_moves ..) (Moves.at 5 rfl))


theorem State.hwPost_moves (s : State) (die q lo tag : ℕ) :
    Moves 0x600000080000000210 s (State.hwPost s die q lo tag).1 := by
  unfold State.hwPost
  refine Moves.ite1 ?_ ?_
  · dsimp -zeta only
    exact (Moves.sub (State.hwEnter_moves ..))
  · dsimp -zeta only
    exact ((Moves.sub (State.hwDrop_moves ..)).step (State.fabricError_moves ..))


theorem State.noteAbsent_moves (s : State) (who addr : ℕ) :
    Moves 0x600000080000000210 s (State.noteAbsent s who addr) := by
  unfold State.noteAbsent
  exact (((Moves.sub (State.inc_moves ..) (Moves.at 5 rfl)).step (State.irq_moves ..) (Moves.at 5 rfl)).step (State.fabricError_moves ..))


theorem State.noteAborted_moves (s : State) (who addr : ℕ) :
    Moves 0x600000080000000210 s (State.noteAborted s who addr) := by
  unfold State.noteAborted
  exact (((Moves.sub (State.inc_moves ..) (Moves.at 5 rfl)).step (State.irq_moves ..) (Moves.at 5 rfl)).step (State.fabricError_moves ..))


theorem State.barred_moves (s : State) (who a target : ℕ) (via : Bool) {t : State} (h : State.barred s who a target via = some t) :
    Moves 0x600000080000000210 s t := by
  unfold State.barred at h
  split at h
  · cases h; exact Moves.sub (State.noteAborted_moves ..)
  · split at h
    · cases h; exact Moves.sub (State.noteAbsent_moves ..)
    · cases h


theorem State.noteUnmapped_moves (s : State) (who a : ℕ) :
    Moves 0x600000080000000210 s (State.noteUnmapped s who a) := by
  unfold State.noteUnmapped
  refine Moves.ite ?_ ?_
  · exact (Moves.sub (State.fabricError_moves ..))
  · exact Moves.refl


theorem State.noteLatency_moves (s : State) (who cycles : ℕ) :
    Moves 0x200000080000000014 s (State.noteLatency s who cycles) := by
  unfold State.noteLatency
  split
  rename_i u0 hq1
  have hd2 := Moves.snd (F := 0x200000080000000014) (s := s) hq1 (Moves.sub (State.drawFree_moves ..))
  split
  rename_i u3 hq4
  have hd5 := Moves.snd (F := 0x200000080000000014) (s := s) hq4 (hd2.step (State.drawFree_moves ..))
  extract_lets +onlyGivenNames v6
  extract_lets +onlyGivenNames v7
  exact (((hd5.step (State.wrMax_moves ..) (Moves.at 5 rfl)).step (State.wrMax_moves ..) (Moves.at 5 rfl)).step (State.wrMax_moves ..) (Moves.at 5 rfl))


theorem State.noteRequest_moves (s : State) (who target : ℕ) :
    Moves 0x200000080000000014 s (State.noteRequest s who target) := by
  unfold State.noteRequest
  split
  rename_i u0 hq1
  have hd2 := Moves.snd (F := 0x200000080000000014) (s := s) hq1 (Moves.sub (State.drawFree_moves ..))
  exact (hd2.step (State.noteLatency_moves ..))


theorem State.showHeld_moves (s : State) (who : ℕ) :
    Moves 0x200000080000000010 s (State.showHeld s who) := by
  unfold State.showHeld
  refine Moves.ite ?_ ?_
  · exact (Moves.sub (State.wr_moves ..) (Moves.at 5 rfl))
  · exact Moves.refl


theorem Moves.set_12 {F : Nat} {s x : State} {f12 : List HeldReq} (h : Moves F s x) (sub : 0x1000 &&& F = 0x1000 := by rfl) :
    Moves F s { x with holding := f12 } :=
  h.step (G := 0x1000) ⟨id, Nat.le_refl _, fun p hp => by cases p <;> first | rfl | exact absurd hp (by decide), fun _ _ _ => rfl⟩ sub

theorem State.holdRequest_moves (s : State) (r : HeldReq) :
    Moves 0x200000080000001010 s (State.holdRequest s r) := by
  unfold State.holdRequest
  refine Moves.ite ?_ ?_
  · exact Moves.refl
  · extract_lets +onlyGivenNames s0
    have hs0 : Moves 0x200000080000001010 s s0 := (Moves.set_12 Moves.refl)
    clear_value s0
    refine Moves.step ?_ (State.showHeld_moves ..)
    refine Moves.ite ?_ ?_
    · exact hs0
    · exact (hs0.step (State.wrMax_moves ..) (Moves.at 5 rfl))


theorem State.unholdRequest_moves (s : State) (r : HeldReq) :
    Moves 0x200000080000001010 s (State.unholdRequest s r) := by
  unfold State.unholdRequest
  refine Moves.ite ?_ ?_
  · exact ((Moves.set_12 Moves.refl).step (State.showHeld_moves ..))
  · exact Moves.refl


theorem State.failRequest_moves (s : State) (r : HeldReq) :
    Moves 0x200000080000001110 s (State.failRequest s r) := by
  unfold State.failRequest
  extract_lets +onlyGivenNames s0
  have hs0 : Moves 0x200000080000001110 s s0 := ((Moves.sub (State.unholdRequest_moves ..)).step (State.reply_moves ..))
  clear_value s0
  refine Moves.ite ?_ ?_
  · exact (Moves.set_12 hs0)
  · exact hs0


theorem State.takeFailed_moves (s : State) (r : HeldReq) :
    Moves 0x1000 s (State.takeFailed s r).2 := by
  unfold State.takeFailed
  dsimp -zeta only
  exact (Moves.set_12 Moves.refl)


theorem State.heldPage_moves {F : Nat} (s : State) (w : Who) (die code off word : ℕ) (keep : State → State)
    (h_keep : ∀ y0, Moves F y0 (keep y0)) :
    Moves (0x200000080000001010 ||| F) s (State.heldPage s w die code off word keep) := by
  unfold State.heldPage
  extract_lets r
  refine Moves.ite Moves.refl ?_
  exact (Moves.sub (State.holdRequest_moves ..) (Moves.or_le rfl)).step (h_keep ..) Moves.or_right


theorem State.holdPage_moves (s : State) (w : Who) (die code off word : ℕ) :
    Moves 0x200000080000001010 s (State.holdPage s w die code off word) := by
  unfold State.holdPage
  exact Moves.sub (State.heldPage_moves (F := 0x0) (h_keep := fun _ => Moves.refl) ..)


theorem State.answerPage_moves (s : State) (who die code off : ℕ) :
    Moves 0x200000080000001110 s (State.answerPage s who die code off) := by
  unfold State.answerPage
  split
  · exact ((Moves.sub (State.unholdRequest_moves ..)).step (State.reply_moves ..))
  · exact Moves.refl


theorem State.reading_moves {F : Nat} (s : State) (w : Who) (a target : ℕ) (act : State → State)
    (h_act : ∀ y0, Moves F y0 (act y0)) :
    Moves (0x600000080000000310 ||| F) s (State.reading s w a target act) := by
  unfold State.reading
  split
  · rename_i t hq
    exact (Moves.sub (State.barred_moves (h := hq) ..) (Moves.or_le rfl)).step (State.reply_moves ..) (Moves.or_le rfl)
  · exact Moves.ite Moves.refl (Moves.sub (h_act ..) Moves.or_right)


theorem State.slip_moves (s : State) (die code off lsb width : ℕ) (kind : SlipKind) (who written applied : ℕ) :
    Moves (0x200d00000080000000210 ||| Moves.page code) s (State.slip s die code off lsb width kind who written applied) := by
  unfold State.slip
  extract_lets +onlyGivenNames ring0
  extract_lets +onlyGivenNames seq1
  extract_lets +onlyGivenNames words2
  extract_lets +onlyGivenNames s3
  have hs3 : Moves (0x200d00000080000000210 ||| Moves.page code) s s3 := by
    have hc : ring0.code = (clampF die Reg.CLAMP_RINGi_Ww).code := rfl
    clear_value ring0
    have h : ∀ (t : State) (wi : ℕ × ℕ), Moves (0x200d00000080000000210 ||| Moves.page code) t (t.wr die (ring0.i2 wi.2) wi.1) := by
      intro t wi
      refine Moves.sub (State.wr_moves t die (ring0.i2 wi.2) wi.1) ?_
      rw [show (ring0.i2 wi.2).code = ring0.code from rfl, hc]
      exact Moves.clampF (Moves.or_le rfl) (Moves.or_le rfl)
    unfold s3
    generalize words2.zipIdx = l
    exact Moves.foldl h Moves.refl
  clear_value s3
  extract_lets +onlyGivenNames s6
  have hs6 : Moves (0x200d00000080000000210 ||| Moves.page code) s s6 := (hs3.step (State.incWrap_moves ..) (Moves.clampF (Moves.or_le rfl) (Moves.or_le rfl)))
  clear_value s6
  extract_lets +onlyGivenNames s7
  have hs7 : Moves (0x200d00000080000000210 ||| Moves.page code) s s7 := (hs6.step (State.incWrap_moves ..) (Moves.clampF (Moves.or_le rfl) (Moves.or_le rfl)))
  clear_value s7
  extract_lets +onlyGivenNames s8
  have hs8 : Moves (0x200d00000080000000210 ||| Moves.page code) s s8 := ((hs7.step (State.inc_moves ..) (Moves.clampF (Moves.or_le rfl) (Moves.or_le rfl))).step (State.inc_moves ..) (Moves.or_mono rfl))
  clear_value s8
  extract_lets +onlyGivenNames s9
  have hs9 : Moves (0x200d00000080000000210 ||| Moves.page code) s s9 := (hs8.step (State.irq_moves ..) (Moves.clampP (Moves.or_le rfl) (Moves.or_le rfl)))
  clear_value s9
  extract_lets +onlyGivenNames s10
  have hs10 : Moves (0x200d00000080000000210 ||| Moves.page code) s s10 := by
    refine Moves.ite ?_ ?_
    · exact (hs9.step (State.irq_moves ..) (Moves.clampP (Moves.or_le rfl) (Moves.or_le rfl)))
    · exact hs9
  clear_value s10
  refine Moves.ite ?_ ?_
  · exact (hs10.step (State.archive_moves ..) (Moves.or_le rfl))
  · exact hs10

theorem State.slip_moves_any (s : State) (die code off lsb width : ℕ) (kind : SlipKind) (who written applied : ℕ) :
    Moves 0xffffffffffffffff0000080000000210 s (State.slip s die code off lsb width kind who written applied) :=
  (State.slip_moves ..).sub (Moves.page_any rfl)


theorem State.slipKept_moves (s : State) (die code off lsb width : ℕ) (kind : SlipKind) (who written applied : ℕ) :
    Moves (0x200d00000080000000210 ||| Moves.page code) s (State.slipKept s die code off lsb width kind who written applied) := by
  unfold State.slipKept
  extract_lets +onlyGivenNames v0
  extract_lets +onlyGivenNames s1
  have hs1 : Moves (0x200d00000080000000210 ||| Moves.page code) s s1 := (Moves.sub (State.slip_moves ..) (Moves.or_mono rfl))
  clear_value s1
  refine Moves.ite ?_ ?_
  · exact hs1
  · exact (hs1.step (State.archive_moves ..) (Moves.or_le rfl))

theorem State.slipKept_moves_any (s : State) (die code off lsb width : ℕ) (kind : SlipKind) (who written applied : ℕ) :
    Moves 0xffffffffffffffff0000080000000210 s (State.slipKept s die code off lsb width kind who written applied) :=
  (State.slipKept_moves ..).sub (Moves.page_any rfl)


theorem writeField_moves (who die word : ℕ) (armed : Bool) (w : Writing) (f0 : FieldDef) :
    Moves (0x80000000010 ||| Moves.page f0.code) w.st (writeField who die word armed w f0).st := by
  unfold writeField
  extract_lets s f v cur vp clampSlip took refusedBy
  have ht : ∀ y, (took y).st = y := fun _ => rfl
  have hr : ∀ k, (refusedBy k).st = s := fun _ => rfl
  clear_value took refusedBy
  split
  · rw [ht]; exact Moves.ite Moves.refl (Moves.sub (State.wr_moves ..) (Moves.or_mono rfl))
  · exact Moves.iteF (g := Writing.st) (by rw [hr]; exact Moves.refl) (by rw [ht]; exact Moves.sub (State.wr_moves ..) (Moves.or_mono rfl))
  · exact Moves.iteF (g := Writing.st) (by rw [ht]; exact Moves.sub (State.wr_moves ..) (Moves.or_mono rfl)) (by rw [hr]; exact Moves.refl)
  · rw [ht]; exact Moves.ite (Moves.sub (State.clearBits_moves ..) (Moves.or_mono rfl)) Moves.refl
  · rw [ht]; exact Moves.ite (Moves.sub (State.setBits_moves ..) (Moves.or_mono rfl)) Moves.refl
  · rw [ht]; exact Moves.refl
  · exact Moves.refl
  · exact Moves.refl

theorem writeField_moves_any (who die word : ℕ) (armed : Bool) (w : Writing) (f0 : FieldDef) :
    Moves 0xffffffffffffffff0000080000000010 w.st (writeField who die word armed w f0).st :=
  (writeField_moves ..).sub (Moves.page_any rfl)


theorem logSlips_moves (s : State) (die code off who : ℕ) (l : List PendingSlip) :
    Moves (0x200d00000080000000210 ||| Moves.page code) s (logSlips s die code off who l) := by
  unfold logSlips
  exact (Moves.foldl (fun _ _ => (Moves.sub (State.slip_moves ..) (Moves.or_mono rfl))) Moves.refl)

theorem logSlips_moves_any (s : State) (die code off who : ℕ) (l : List PendingSlip) :
    Moves 0xffffffffffffffff0000080000000210 s (logSlips s die code off who l) :=
  (logSlips_moves ..).sub (Moves.page_any rfl)


theorem Moves.set_6 {F : Nat} {s x : State} {f6 : SMap Arming} (h : Moves F s x) (sub : 0x40 &&& F = 0x40 := by rfl) :
    Moves F s { x with arming := f6 } :=
  h.step (G := 0x40) ⟨id, Nat.le_refl _, fun p hp => by cases p <;> first | rfl | exact absurd hp (by decide), fun _ _ _ => rfl⟩ sub

theorem takeArming_moves (s : State) (die code who : ℕ) :
    Moves 0x40 s (takeArming s die code who).2 := by
  unfold takeArming
  extract_lets +onlyGivenNames v0
  dsimp -zeta only
  exact (Moves.set_6 Moves.refl)


theorem keyWord_moves (s : State) (first : Bool) (die code who word : ℕ) :
    Moves (0x200d00000080000000250 ||| Moves.page code) s (keyWord s first die code who word) := by
  unfold keyWord
  extract_lets +onlyGivenNames v0
  extract_lets +onlyGivenNames s1
  have hs1 : Moves (0x200d00000080000000250 ||| Moves.page code) s s1 := by
    refine Moves.ite ?_ ?_
    · exact (Moves.set_6 Moves.refl (Moves.or_le rfl))
    · refine Moves.ite ?_ ?_
      · exact (Moves.set_6 Moves.refl (Moves.or_le rfl))
      · exact (Moves.sub (State.slip_moves ..) (Moves.or_mono rfl))
  clear_value s1
  refine Moves.ite ?_ ?_
  · exact hs1
  · exact (hs1.step (State.slip_moves ..) (Moves.or_mono rfl))

theorem keyWord_moves_any (s : State) (first : Bool) (die code who word : ℕ) :
    Moves 0xffffffffffffffff0000080000000250 s (keyWord s first die code who word) :=
  (keyWord_moves ..).sub (Moves.page_any rfl)


theorem writeBits_moves {F : Nat} (s : State) (die code off who word mask : ℕ) (f : State → ℕ → State) (h_f : ∀ y0 y1, Moves F y0 (f y0 y1)) :
    Moves (0x200d00000080000000210 ||| (Moves.page code ||| F)) s (writeBits s die code off who word mask f).st := by
  unfold writeBits
  extract_lets +onlyGivenNames v0
  extract_lets +onlyGivenNames s1
  have hs1 : Moves (0x200d00000080000000210 ||| (Moves.page code ||| F)) s s1 := (Moves.sub (h_f ..) Moves.or_right2)
  clear_value s1
  extract_lets +onlyGivenNames s2
  have hs2 : Moves (0x200d00000080000000210 ||| (Moves.page code ||| F)) s s2 := by
    refine Moves.ite ?_ ?_
    · exact hs1
    · exact (hs1.step (State.slip_moves ..) (Moves.or_monoF rfl))
  clear_value s2
  exact (Moves.stWritten hs2)

theorem writeBits_moves_any {F : Nat} (s : State) (die code off who word mask : ℕ) (f : State → ℕ → State) (h_f : ∀ y0 y1, Moves F y0 (f y0 y1)) :
    Moves (0xffffffffffffffff0000080000000210 ||| F) s (writeBits s die code off who word mask f).st :=
  (writeBits_moves (F := F) (h_f := h_f) ..).sub (Moves.page_any2 rfl)


theorem pageTake_moves (s : State) (w : Who) (die code off word : ℕ) :
    Moves (0x210d00000080000000250 ||| Moves.page code) s (pageTake s w die code off word).st := by
  unfold pageTake
  extract_lets +onlyGivenNames who0
  extract_lets +onlyGivenNames present1
  extract_lets +onlyGivenNames first2
  clear_value who0
  split
  · rename_i hq3
    have hd4 := Moves.snd (F := (0x210d00000080000000250 ||| Moves.page code)) (s := s) hq3 (Moves.sub (takeArming_moves ..) (Moves.or_le rfl))
    refine Moves.iteF (g := Written.st) ?_ ?_
    · refine Moves.iteF (g := Written.st) ?_ ?_
      · exact (Moves.stWritten ((hd4.step (State.slipKept_moves ..) (Moves.or_mono rfl)).step (State.inc_moves ..) (Moves.or_le rfl)))
      · exact (Moves.stWritten (hd4.step (State.slip_moves ..) (Moves.or_mono rfl)))
    · refine Moves.iteF (g := Written.st) ?_ ?_
      · exact (Moves.stWritten (hd4.step (State.slip_moves ..) (Moves.or_mono rfl)))
      · refine Moves.iteF (g := Written.st) ?_ ?_
        · split
          · exact (Moves.stWritten (hd4.step (State.slip_moves ..) (Moves.or_mono rfl)))
          · exact (Moves.stWritten (hd4.step (State.slip_moves ..) (Moves.or_mono rfl)))
          · exact (Moves.stWritten (hd4.step (State.slip_moves ..) (Moves.or_mono rfl)))
          · exact (Moves.stWritten (hd4.step (State.slip_moves ..) (Moves.or_mono rfl)))
          · exact (Moves.stWritten (hd4.step (State.slip_moves ..) (Moves.or_mono rfl)))
          · exact (Moves.stWritten (hd4.step (State.slip_moves ..) (Moves.or_mono rfl)))
          · refine Moves.iteF (g := Written.st) ?_ ?_
            · exact (Moves.stWritten (hd4.step (State.slip_moves ..) (Moves.or_mono rfl)))
            · extract_lets +onlyGivenNames s5
              have hs5 : Moves (0x210d00000080000000250 ||| Moves.page code) s s5 := (hd4.step (State.wr_moves ..) (Moves.or_mono rfl))
              clear_value s5
              refine Moves.stWritten ?_
              refine Moves.ite ?_ ?_
              · exact hs5
              · exact (hs5.step (State.slip_moves ..) (Moves.or_mono rfl))
          · exact (Moves.stWritten (hd4.step (keyWord_moves ..) (Moves.or_mono rfl)))
          · exact Moves.step hd4 (writeBits_moves (F := (0x80000000010 ||| Moves.page code)) (h_f := fun _ _ => (Moves.sub (State.setBits_moves ..) (Moves.or_mono rfl))) ..) (Moves.or_mono4 rfl rfl)
          · exact Moves.step hd4 (writeBits_moves (F := (0x80000000010 ||| Moves.page code)) (h_f := fun _ _ => (Moves.sub (State.wr_moves ..) (Moves.or_mono rfl))) ..) (Moves.or_mono4 rfl rfl)
          · exact Moves.step hd4 (writeBits_moves (F := (0x80000000010 ||| Moves.page code)) (h_f := fun _ _ => (Moves.sub (State.clearBits_moves ..) (Moves.or_mono rfl))) ..) (Moves.or_mono4 rfl rfl)
          · exact Moves.step hd4 (writeBits_moves (F := (0x80000000010 ||| Moves.page code)) (h_f := fun _ _ => (Moves.sub (State.setBits_moves ..) (Moves.or_mono rfl))) ..) (Moves.or_mono4 rfl rfl)
          · refine Moves.stWritten ?_
            refine Moves.ite ?_ ?_
            · exact hd4
            · exact (hd4.step (State.slip_moves ..) (Moves.or_mono rfl))
        · extract_lets +onlyGivenNames fs14
          refine Moves.iteF (g := Written.st) ?_ ?_
          · refine Moves.stWritten ?_
            refine Moves.ite ?_ ?_
            · exact hd4
            · exact (hd4.step (State.slip_moves ..) (Moves.or_mono rfl))
          · refine Moves.iteF (g := Written.st) ?_ ?_
            · exact (Moves.stWritten (hd4.step (State.slip_moves ..) (Moves.or_mono rfl)))
            · refine Moves.iteF (g := Written.st) ?_ ?_
              · exact (Moves.stWritten (hd4.step (State.slip_moves ..) (Moves.or_mono rfl)))
              · extract_lets +onlyGivenNames r15
                have hr15 : Moves (0x210d00000080000000250 ||| Moves.page code) s r15.st := Moves.foldlMem (g := Writing.st) (fun _ _ hf => Moves.sub (writeField_moves ..) (by rw [regFields_code hf]; exact Moves.or_mono rfl)) (Moves.stWriting hd4)
                clear_value r15
                extract_lets +onlyGivenNames extra18
                exact (Moves.stWritten (hr15.step (logSlips_moves ..) (Moves.or_mono rfl)))

theorem pageTake_moves_any (s : State) (w : Who) (die code off word : ℕ) :
    Moves 0xffffffffffffffff0000080000000250 s (pageTake s w die code off word).st :=
  (pageTake_moves ..).sub (Moves.page_any rfl)


theorem pageWrite_moves (s : State) (w : Who) (die code off word : ℕ) :
    Moves (0x210f00000080000000350 ||| Moves.page code) s (pageWrite s w die code off word).st := by
  unfold pageWrite
  split
  · rename_i t hq
    exact Moves.stWritten ((Moves.sub (State.barred_moves (h := hq) ..) (Moves.or_le rfl)).step (State.reply_moves ..) (Moves.or_le rfl))
  · exact Moves.iteF (g := Written.st) (Moves.stWritten Moves.refl) (Moves.sub (pageTake_moves ..) (Moves.or_mono rfl))

theorem pageWrite_moves_any (s : State) (w : Who) (die code off word : ℕ) :
    Moves 0xffffffffffffffff0000080000000350 s (pageWrite s w die code off word).st :=
  (pageWrite_moves ..).sub (Moves.page_any rfl)


theorem hotChange_moves (pre s : State) :
    Moves 0x80000000000000080000000010 s (hotChange pre s) := by
  unfold hotChange
  refine Moves.ite ?_ ?_
  · exact Moves.refl
  · exact (Moves.sub (State.wr_moves ..) (Moves.at 39 rfl))


theorem softResetPage_moves (s : State) (die code : ℕ) :
    Moves (0x800000000000000800000000d0 ||| Moves.page code) s (softResetPage s die code) := by
  unfold softResetPage
  refine Moves.step ?_ (hotChange_moves ..) (Moves.or_le rfl)
  refine ⟨fun h => ⟨h.1, SMap.sorted_filter _ h.2⟩, Nat.le_refl _, fun p hp => ?_, fun w k hk => ?_⟩
  · rw [Nat.testBit_or, Bool.or_eq_false_iff] at hp
    have hp := hp.1
    cases p <;> first | rfl | exact absurd hp (by decide)
  · refine SMap.find?_keep (p := fun k => !softResetClears die code k) w.2 ?_
    have hc : ¬ pageOf k = code := fun h => by
      rw [show pageOf k = code % 64 from by rw [← h]; exact (Nat.mod_eq_of_lt (Nat.mod_lt _ (by decide))).symm, Moves.page_bit] at hk
      cases hk
    unfold pageOf at hc
    simp [softResetClears, hc]

theorem softResetPage_moves_any (s : State) (die code : ℕ) :
    Moves 0xffffffffffffffff00000800000000d0 s (softResetPage s die code) :=
  (softResetPage_moves ..).sub (Moves.page_any rfl)


theorem plainWrite_moves (w : Who) (die code off word : ℕ) (s : State) :
    Moves (0x210f00000080000000350 ||| Moves.page code) s (plainWrite w die code off word s) := by
  unfold plainWrite
  exact (Moves.sub (pageWrite_moves ..) (Moves.or_mono rfl))

theorem plainWrite_moves_any (w : Who) (die code off word : ℕ) (s : State) :
    Moves 0xffffffffffffffff0000080000000350 s (plainWrite w die code off word s) :=
  (plainWrite_moves ..).sub (Moves.page_any rfl)


theorem writeThen_moves {F : Nat} (w : Who) (die code off word : ℕ) (s : State) (effect : State → ℕ → State) (h_effect : ∀ y0 y1, Moves F y0 (effect y0 y1)) :
    Moves (0x210f00000080000000350 ||| (Moves.page code ||| F)) s (writeThen w die code off word s effect) := by
  unfold writeThen
  have hr := pageWrite_moves s w die code off word
  extract_lets +onlyGivenNames r
  split
  · exact (hr.sub (Moves.or_monoF rfl)).step (h_effect ..) Moves.or_right2
  · exact hr.sub (Moves.or_monoF rfl)

theorem writeThen_moves_any {F : Nat} (w : Who) (die code off word : ℕ) (s : State) (effect : State → ℕ → State) (h_effect : ∀ y0 y1, Moves F y0 (effect y0 y1)) :
    Moves (0xffffffffffffffff0000080000000350 ||| F) s (writeThen w die code off word s effect) :=
  (writeThen_moves (F := F) (h_effect := h_effect) ..).sub (Moves.page_any2 rfl)


theorem execKeyWordWrite_moves (w : Who) (die code word : ℕ) (s : State) :
    ∃ t, execKeyWordWrite w die code word s = .next t ∧ Moves (0x210f00000080000000350 ||| Moves.page code) s t := by
  unfold execKeyWordWrite
  refine ⟨_, rfl, ?_⟩
  refine Moves.ite ?_ ?_
  · exact (Moves.sub (plainWrite_moves ..) (Moves.or_mono rfl))
  · exact Moves.refl


theorem execArmingExpiry_moves (die code : ℕ) (s : State) :
    ∃ t, execArmingExpiry die code s = .next t ∧ Moves 0x40 s t := by
  unfold execArmingExpiry
  refine ⟨_, rfl, ?_⟩
  split
  · exact (Moves.set_6 Moves.refl)
  · exact Moves.refl


theorem execLockGroupSet_moves (w : Who) (die code word : ℕ) (s : State) :
    ∃ t, execLockGroupSet w die code word s = .next t ∧ Moves (0x210f00000080000000350 ||| Moves.page code) s t := by
  unfold execLockGroupSet
  refine ⟨_, rfl, ?_⟩
  refine Moves.ite ?_ ?_
  · exact (Moves.sub (plainWrite_moves ..) (Moves.or_mono rfl))
  · exact Moves.refl


theorem Moves.set_7 {F : Nat} {s x : State} {f7 : SMap ℕ} (h : Moves F s x) (sub : 0x80 &&& F = 0x80 := by rfl) :
    Moves F s { x with softReset := f7 } :=
  h.step (G := 0x80) ⟨id, Nat.le_refl _, fun p hp => by cases p <;> first | rfl | exact absurd hp (by decide), fun _ _ _ => rfl⟩ sub

theorem execSoftResetEnd_moves (die code : ℕ) (s : State) :
    ∃ t, execSoftResetEnd die code s = .next t ∧ Moves 0x80 s t := by
  unfold execSoftResetEnd
  refine ⟨_, rfl, ?_⟩
  exact (Moves.set_7 Moves.refl)


theorem execIrqClear_moves (w : Who) (die code word events : ℕ) (s : State) :
    ∃ t, execIrqClear w die code word events s = .next t ∧ Moves (0x210f00000080000000350 ||| Moves.page ((IRQ_RAW_SRC code).code)) s t := by
  unfold execIrqClear
  refine ⟨_, rfl, ?_⟩
  refine Moves.ite ?_ ?_
  · exact (Moves.sub (writeThen_moves (F := (0x80000000010 ||| Moves.page ((IRQ_RAW_SRC code).code))) (h_effect := fun _ _ => (Moves.sub (State.setBits_moves ..) (Moves.or_mono rfl))) ..) (Moves.or_mono4 rfl rfl))
  · exact Moves.refl


theorem execIrqSet_moves (w : Who) (die code word : ℕ) (s : State) :
    ∃ t, execIrqSet w die code word s = .next t ∧ Moves (0x210f00000080000000350 ||| Moves.page code) s t := by
  unfold execIrqSet
  refine ⟨_, rfl, ?_⟩
  refine Moves.ite ?_ ?_
  · exact (Moves.sub (plainWrite_moves ..) (Moves.or_mono rfl))
  · exact Moves.refl


theorem clampZero_moves (s : State) (die : ℕ) :
    Moves 0xffffffffffffffff0000080000000010 s (clampZero s die) := by
  unfold clampZero
  exact (Moves.foldl (fun _ _ => (Moves.sub (State.wr_moves_any ..))) (Moves.sub (State.wr_moves_any ..)))


theorem execClampZero_moves (w : Who) (die word : ℕ) (s : State) :
    ∃ t, execClampZero w die word s = .next t ∧ Moves (0xffffffffffffffff0000080000000350 ||| Moves.page (clampPage die)) s t := by
  unfold execClampZero
  refine ⟨_, rfl, ?_⟩
  refine Moves.ite ?_ ?_
  · exact (Moves.sub (writeThen_moves (F := (0xffffffffffffffff0000080000000010 ||| Moves.page (clampPage die))) (h_effect := by
          intro z0 z1
          refine Moves.ite ?_ ?_
          · exact (Moves.sub (clampZero_moves ..) (Moves.or_le rfl))
          · exact Moves.refl) ..) (Moves.or_mono4 rfl rfl))
  · exact Moves.refl


theorem Moves.set_24 {F : Nat} {s x : State} {f24 : SMap ℕ} (h : Moves F s x) (sub : 0x1000000 &&& F = 0x1000000 := by rfl) :
    Moves F s { x with checkPassed := f24 } :=
  h.step (G := 0x1000000) ⟨id, Nat.le_refl _, fun p hp => by cases p <;> first | rfl | exact absurd hp (by decide), fun _ _ _ => rfl⟩ sub

theorem State.dropPoints_moves (s : State) (die : ℕ) :
    Moves 0x2000000080001000010 s (State.dropPoints s die) := by
  unfold State.dropPoints
  extract_lets +onlyGivenNames s0
  have hs0 : Moves 0x2000000080001000010 s s0 := ((Moves.sub (State.wr_moves ..) (Moves.at 9 rfl)).step (State.wr_moves ..) (Moves.at 9 rfl))
  clear_value s0
  exact (Moves.set_24 hs0)


theorem Moves.set_32 {F : Nat} {s x : State} {f32 : PartPoints} (h : Moves F s x) (sub : 0x100000000 &&& F = 0x100000000 := by rfl) :
    Moves F s { x with points := f32 } :=
  h.step (G := 0x100000000) ⟨id, Nat.le_refl _, fun p hp => by cases p <;> first | rfl | exact absurd hp (by decide), fun _ _ _ => rfl⟩ sub

theorem State.failPart_moves (s : State) (die : ℕ) :
    Moves 0x6000000080101000010 s (State.failPart s die) := by
  unfold State.failPart
  extract_lets +onlyGivenNames s0
  have hs0 : Moves 0x6000000080101000010 s s0 := (Moves.foldl (fun _ _ => (Moves.sub (State.dropPoints_moves ..))) Moves.refl)
  clear_value s0
  extract_lets +onlyGivenNames s1
  have hs1 : Moves 0x6000000080101000010 s s1 := (Moves.set_32 hs0)
  clear_value s1
  exact ((((hs1.step (State.wr_moves ..) (Moves.at 10 rfl)).step (State.wr_moves ..) (Moves.at 10 rfl)).step (State.wr_moves ..) (Moves.at 10 rfl)).step (State.irq_moves ..) (Moves.at 10 rfl))


theorem State.disturbPart_moves (s : State) (die : ℕ) :
    Moves 0x6000000080101000010 s (State.disturbPart s die) := by
  unfold State.disturbPart
  refine Moves.ite ?_ ?_
  · exact (Moves.sub (State.failPart_moves ..))
  · exact Moves.refl


theorem State.startCheck_moves (s : State) (die : ℕ) :
    Moves 0x2000000080001000010 s (State.startCheck s die) := by
  unfold State.startCheck
  exact (((Moves.sub (State.dropPoints_moves ..)).step (State.wr_moves ..) (Moves.at 9 rfl)).step (State.wr_moves ..) (Moves.at 9 rfl))


theorem State.pointsGo_moves (s : State) (mask : ℕ) :
    Moves 0x6000000080101000010 s (State.pointsGo s mask) := by
  unfold State.pointsGo
  extract_lets +onlyGivenNames s0
  have hs0 : Moves 0x6000000080101000010 s s0 := by
    refine Moves.ite ?_ ?_
    · exact (Moves.foldl (fun _ _ => (Moves.sub (State.dropPoints_moves ..))) Moves.refl)
    · exact Moves.refl
  clear_value s0
  extract_lets +onlyGivenNames s1
  have hs1 : Moves 0x6000000080101000010 s s1 := ((hs0.step (State.wr_moves ..) (Moves.at 10 rfl)).step (State.wr_moves ..) (Moves.at 10 rfl))
  clear_value s1
  refine Moves.ite ?_ ?_
  · exact (Moves.set_32 hs1)
  · extract_lets +onlyGivenNames s2
    have hs2 : Moves 0x6000000080101000010 s s2 := (Moves.set_32 hs1)
    clear_value s2
    extract_lets +onlyGivenNames v3
    extract_lets +onlyGivenNames s4
    have hs4 : Moves 0x6000000080101000010 s s4 := (Moves.foldl (fun _ _ => (Moves.sub (State.startCheck_moves ..))) hs2)
    clear_value s4
    split
    · exact (hs4.step (State.failPart_moves ..))
    · exact hs4


theorem State.endCheck_moves (s : State) (die : ℕ) :
    Moves 0x6000000080101000010 s (State.endCheck s die) := by
  unfold State.endCheck
  extract_lets +onlyGivenNames s0
  have hs0 : Moves 0x6000000080101000010 s s0 := (Moves.sub (State.wr_moves ..) (Moves.at 9 rfl))
  clear_value s0
  extract_lets +onlyGivenNames v1
  split
  · extract_lets +onlyGivenNames s2
    have hs2 : Moves 0x6000000080101000010 s s2 := (((hs0.step (State.wr_moves ..) (Moves.at 9 rfl)).step (State.wr_moves ..) (Moves.at 9 rfl)).step (State.wr_moves ..) (Moves.at 9 rfl))
    clear_value s2
    extract_lets +onlyGivenNames s3
    have hs3 : Moves 0x6000000080101000010 s s3 := (hs2.step (State.irq_moves ..) (Moves.at 9 rfl))
    clear_value s3
    refine Moves.ite ?_ ?_
    · exact (hs3.step (State.failPart_moves ..))
    · exact hs3
  · extract_lets +onlyGivenNames s4
    have hs4 : Moves 0x6000000080101000010 s s4 := (hs0.step (State.wr_moves ..) (Moves.at 9 rfl))
    clear_value s4
    extract_lets +onlyGivenNames s5
    have hs5 : Moves 0x6000000080101000010 s s5 := (Moves.set_24 hs4)
    clear_value s5
    refine Moves.ite ?_ ?_
    · extract_lets +onlyGivenNames v6
      extract_lets +onlyGivenNames v7
      extract_lets +onlyGivenNames s8
      have hs8 : Moves 0x6000000080101000010 s s8 := (Moves.set_32 hs5)
      clear_value s8
      refine Moves.ite ?_ ?_
      · exact ((hs8.step (State.wr_moves ..) (Moves.at 10 rfl)).step (State.irq_moves ..) (Moves.at 10 rfl))
      · exact hs8
    · exact hs5


theorem State.swapBanks_moves (s : State) (die : ℕ) :
    Moves 0x2000000080001000010 s (State.swapBanks s die) := by
  unfold State.swapBanks
  extract_lets +onlyGivenNames s0
  have hs0 : Moves 0x2000000080001000010 s s0 := (Moves.sub (State.wr_moves ..) (Moves.at 9 rfl))
  clear_value s0
  extract_lets +onlyGivenNames s1
  have hs1 : Moves 0x2000000080001000010 s s1 := (((hs0.step (State.incWrap_moves ..) (Moves.at 9 rfl)).step (State.wr_moves ..) (Moves.at 9 rfl)).step (State.irq_moves ..) (Moves.at 9 rfl))
  clear_value s1
  exact (Moves.set_24 hs1)


theorem State.boundarySwaps_moves (s : State) :
    Moves 0x6000000080101000010 s (State.boundarySwaps s) := by
  unfold State.boundarySwaps
  extract_lets +onlyGivenNames v0
  extract_lets +onlyGivenNames v1
  extract_lets +onlyGivenNames s2
  have hs2 : Moves 0x6000000080101000010 s s2 := (Moves.foldl (fun _ _ => (Moves.sub (State.swapBanks_moves ..))) Moves.refl)
  clear_value s2
  refine Moves.ite ?_ ?_
  · extract_lets +onlyGivenNames s3
    have hs3 : Moves 0x6000000080101000010 s s3 := ((Moves.foldl (fun _ _ => (Moves.sub (State.swapBanks_moves ..))) hs2).step (State.wr_moves ..) (Moves.at 10 rfl))
    clear_value s3
    exact (Moves.set_32 hs3)
  · exact hs2


theorem Moves.set_16 {F : Nat} {s x : State} {f16 : Frame} (h : Moves F s x) (sub : 0x10000 &&& F = 0x10000 := by rfl) :
    Moves F s { x with frame := f16 } :=
  h.step (G := 0x10000) ⟨id, Nat.le_refl _, fun p hp => by cases p <;> first | rfl | exact absurd hp (by decide), fun _ _ _ => rfl⟩ sub

theorem State.raiseReady_moves (s : State) (die c : ℕ) :
    Moves 0x20000000080000010010 s (State.raiseReady s die c) := by
  unfold State.raiseReady
  extract_lets +onlyGivenNames v0
  refine Moves.ite ?_ ?_
  · extract_lets +onlyGivenNames s1
    have hs1 : Moves 0x20000000080000010010 s s1 := (Moves.sub (State.wrB_moves ..) (Moves.at 13 rfl))
    clear_value s1
    refine Moves.ite ?_ ?_
    · exact (Moves.set_16 hs1)
    · exact hs1
  · exact Moves.refl


theorem State.endSboxRow_moves (s : State) (die : ℕ) :
    Moves 0x8000000080000000010 s (State.endSboxRow s die) := by
  unfold State.endSboxRow
  extract_lets +onlyGivenNames v0
  extract_lets +onlyGivenNames s1
  have hs1 : Moves 0x8000000080000000010 s s1 := by
    refine Moves.ite ?_ ?_
    · exact ((Moves.sub (State.add_moves ..) (Moves.at 11 rfl)).step (State.wrMax_moves ..) (Moves.at 11 rfl))
    · exact Moves.refl
  clear_value s1
  exact ((hs1.step (State.wr_moves ..) (Moves.at 11 rfl)).step (State.wr_moves ..) (Moves.at 11 rfl))


theorem Moves.set_18_51 {F : Nat} {s x : State} {f18 : SMap (List ℕ)} {f51 : Aon} (h : Moves F s x) (sub : 0x8000000040000 &&& F = 0x8000000040000 := by rfl) :
    Moves F s { x with rowsEnded := f18, aon := f51 } :=
  h.step (G := 0x8000000040000) ⟨id, Nat.le_refl _, fun p hp => by cases p <;> first | rfl | exact absurd hp (by decide), fun _ _ _ => rfl⟩ sub

theorem State.endRow_moves (s : State) (die e : ℕ) :
    Moves 0x2c000008080000070010 s (State.endRow s die e) := by
  unfold State.endRow
  split
  · refine Moves.ite ?_ ?_
    · extract_lets +onlyGivenNames s0
      have hs0 : Moves 0x2c000008080000070010 s s0 := by
        refine Moves.ite ?_ ?_
        · exact (Moves.sub (State.endSboxRow_moves ..))
        · exact Moves.refl
      clear_value s0
      extract_lets +onlyGivenNames s1
      have hs1 : Moves 0x2c000008080000070010 s s1 := ((hs0.step (State.setSlot_moves ..)).step (State.wr_moves ..) (Moves.at 10 rfl))
      clear_value s1
      extract_lets +onlyGivenNames v2
      extract_lets +onlyGivenNames v3
      extract_lets +onlyGivenNames s4
      have hs4 : Moves 0x2c000008080000070010 s s4 := (Moves.set_18_51 hs1)
      clear_value s4
      exact (hs4.step (State.raiseReady_moves ..))
    · exact Moves.refl
  · exact Moves.refl


theorem Moves.set_20 {F : Nat} {s x : State} {f20 : SMap (List ℕ)} (h : Moves F s x) (sub : 0x100000 &&& F = 0x100000 := by rfl) :
    Moves F s { x with rowsDone := f20 } :=
  h.step (G := 0x100000) ⟨id, Nat.le_refl _, fun p hp => by cases p <;> first | rfl | exact absurd hp (by decide), fun _ _ _ => rfl⟩ sub

theorem State.workDone_moves (s : State) (die e : ℕ) :
    Moves 0x2c000008080000170010 s (State.workDone s die e) := by
  unfold State.workDone
  refine Moves.ite ?_ ?_
  · extract_lets +onlyGivenNames v0
    extract_lets +onlyGivenNames s1
    have hs1 : Moves 0x2c000008080000170010 s s1 := (Moves.set_20 Moves.refl)
    clear_value s1
    exact ((hs1.step (State.wrMin_moves ..) (Moves.at 10 rfl)).step (State.endRow_moves ..))
  · exact Moves.refl


theorem Moves.set_22 {F : Nat} {s x : State} {f22 : SMap ℕ} (h : Moves F s x) (sub : 0x400000 &&& F = 0x400000 := by rfl) :
    Moves F s { x with skipped := f22 } :=
  h.step (G := 0x400000) ⟨id, Nat.le_refl _, fun p hp => by cases p <;> first | rfl | exact absurd hp (by decide), fun _ _ _ => rfl⟩ sub

theorem State.cutOff_moves (s : State) (die e : ℕ) :
    Moves 0x10000022c400008080080470210 s (State.cutOff s die e) := by
  unfold State.cutOff
  split
  · refine Moves.ite ?_ ?_
    · extract_lets +onlyGivenNames s0
      have hs0 : Moves 0x10000022c400008080080470210 s s0 := (Moves.set_22 Moves.refl)
      clear_value s0
      extract_lets +onlyGivenNames s1
      have hs1 : Moves 0x10000022c400008080080470210 s s1 := (((hs0.step (State.inc_moves ..) (Moves.at 10 rfl)).step (State.wr_moves ..) (Moves.at 10 rfl)).step (State.irq_moves ..) (Moves.at 10 rfl))
      clear_value s1
      extract_lets +onlyGivenNames s2
      have hs2 : Moves 0x10000022c400008080080470210 s s2 := (hs1.step (State.wr_moves ..) (Moves.at 40 rfl))
      clear_value s2
      extract_lets +onlyGivenNames s3
      have hs3 : Moves 0x10000022c400008080080470210 s s3 := by
        refine Moves.ite ?_ ?_
        · exact (hs2.step (State.raiseCause_moves ..))
        · exact hs2
      clear_value s3
      extract_lets +onlyGivenNames s4
      have hs4 : Moves 0x10000022c400008080080470210 s s4 := (hs3.step (State.archive_moves ..))
      clear_value s4
      extract_lets +onlyGivenNames s5
      have hs5 : Moves 0x10000022c400008080080470210 s s5 := (((hs4.step (State.wr_moves ..) (Moves.at 10 rfl)).step (State.wr_moves ..) (Moves.at 10 rfl)).step (State.wr_moves ..) (Moves.at 10 rfl))
      clear_value s5
      extract_lets +onlyGivenNames s6
      have hs6 : Moves 0x10000022c400008080080470210 s s6 := ((hs5.step (State.wr_moves ..) (Moves.at 10 rfl)).step (State.irq_moves ..) (Moves.at 10 rfl))
      clear_value s6
      extract_lets +onlyGivenNames v7
      extract_lets +onlyGivenNames s8
      have hs8 : Moves 0x10000022c400008080080470210 s s8 := by
        refine Moves.ite ?_ ?_
        · exact (Moves.set_16 hs6)
        · exact hs4
      clear_value s8
      exact (hs8.step (State.endRow_moves ..))
    · exact (Moves.sub (State.endRow_moves ..))
  · exact Moves.refl


theorem copyEntry_moves (s : State) (die : ℕ) (fs : List FieldDef) (src dst : ℕ) :
    Moves 0xffffffffffffffff0000080000000010 s (copyEntry s die fs src dst) := by
  unfold copyEntry
  exact (Moves.foldl (fun _ _ => (Moves.sub (State.wr_moves_any ..))) Moves.refl)


theorem rowStored_moves (die : ℕ) (s : State) (a2 : ℕ) :
    Moves 0xffffffffffffffff0000080101000010 s (rowStored die s a2) := by
  unfold rowStored
  extract_lets +onlyGivenNames v0
  extract_lets +onlyGivenNames v1
  extract_lets +onlyGivenNames s2
  have hs2 : Moves 0xffffffffffffffff0000080101000010 s s2 := (Moves.sub (copyEntry_moves ..))
  clear_value s2
  extract_lets +onlyGivenNames s3
  have hs3 : Moves 0xffffffffffffffff0000080101000010 s s3 := by
    refine Moves.ite ?_ ?_
    · exact (hs2.step (State.wr_moves ..) (Moves.at 9 rfl))
    · exact hs2
  clear_value s3
  refine Moves.ite ?_ ?_
  · exact (hs3.step (State.failPart_moves ..))
  · refine Moves.ite ?_ ?_
    · exact (hs3.step (State.dropPoints_moves ..))
    · exact hs3


theorem execTtblRowWrite_moves (w : Who) (die word : ℕ) (s : State) :
    ∃ t, execTtblRowWrite w die word s = .next t ∧ Moves 0xffffffffffffffff0000080101000350 s t := by
  unfold execTtblRowWrite
  refine ⟨_, rfl, ?_⟩
  refine Moves.ite ?_ ?_
  · exact (Moves.sub (writeThen_moves (F := 0xffffffffffffffff0000080101000010) (h_effect := fun _ _ => (Moves.sub (rowStored_moves ..))) ..))
  · exact Moves.refl


theorem ttblCtl_moves (die : ℕ) (s : State) (v : ℕ) :
    Moves 0x6000000080101000010 s (ttblCtl die s v) := by
  unfold ttblCtl
  extract_lets +onlyGivenNames s0
  have hs0 : Moves 0x6000000080101000010 s s0 := by
    refine Moves.ite ?_ ?_
    · exact (Moves.sub (State.disturbPart_moves ..))
    · exact Moves.refl
  clear_value s0
  extract_lets +onlyGivenNames s1
  have hs1 : Moves 0x6000000080101000010 s s1 := by
    refine Moves.ite ?_ ?_
    · exact (hs0.step (State.dropPoints_moves ..))
    · exact hs0
  clear_value s1
  refine Moves.ite ?_ ?_
  · exact (hs1.step (State.startCheck_moves ..))
  · exact hs1


theorem execTtblPoints_moves (w : Who) (die word : ℕ) (s : State) :
    ∃ t, execTtblPoints w die word s = .next t ∧ Moves 0x216f00000080101000350 s t := by
  unfold execTtblPoints
  refine ⟨_, rfl, ?_⟩
  refine Moves.ite ?_ ?_
  · exact (Moves.sub (writeThen_moves (F := 0x6000000080101000010) (h_effect := fun _ _ => (Moves.sub (ttblCtl_moves ..))) ..))
  · exact Moves.refl


theorem execTtblCancel_moves (w : Who) (die : ℕ) (s : State) :
    ∃ t, execTtblCancel w die s = .next t ∧ Moves 0x216f00000080101000350 s t := by
  unfold execTtblCancel
  refine ⟨_, rfl, ?_⟩
  refine Moves.ite ?_ ?_
  · exact (Moves.sub (writeThen_moves (F := 0x6000000080101000010) (h_effect := fun _ _ => (Moves.sub (ttblCtl_moves ..))) ..))
  · exact Moves.refl


theorem execPointsCheckEnd_moves (die : ℕ) (s : State) :
    ∃ t, execPointsCheckEnd die s = .next t ∧ Moves 0x6000000080101000010 s t := by
  unfold execPointsCheckEnd
  refine ⟨_, rfl, ?_⟩
  refine Moves.ite ?_ ?_
  · exact (Moves.sub (State.endCheck_moves ..))
  · exact Moves.refl


theorem tickPoints_moves (s : State) (v : ℕ) :
    Moves 0x6000000080101000010 s (tickPoints s v) := by
  unfold tickPoints
  refine Moves.ite ?_ ?_
  · exact (Moves.sub (State.pointsGo_moves ..))
  · exact Moves.refl


theorem execTickPointsGo_moves (w : Who) (dies : ℕ) (s : State) :
    ∃ t, execTickPointsGo w dies s = .next t ∧ Moves 0x216f00000080101000350 s t := by
  unfold execTickPointsGo
  refine ⟨_, rfl, ?_⟩
  exact (Moves.sub (writeThen_moves (F := 0x6000000080101000010) (h_effect := fun _ _ => (Moves.sub (tickPoints_moves ..))) ..))


theorem fwatchCtl_moves (s : State) (v : ℕ) :
    Moves 0x8000000080000000010 s (fwatchCtl s v) := by
  unfold fwatchCtl
  refine Moves.ite ?_ ?_
  · exact (Moves.sub (State.resetField_moves ..) (Moves.at 11 rfl))
  · exact Moves.refl


theorem execMarginClear_moves (w : Who) (word : ℕ) (s : State) :
    ∃ t, execMarginClear w word s = .next t ∧ Moves 0x218f00000080000000350 s t := by
  unfold execMarginClear
  refine ⟨_, rfl, ?_⟩
  exact (Moves.sub (writeThen_moves (F := 0x8000000080000000010) (h_effect := fun _ _ => (Moves.sub (fwatchCtl_moves ..))) ..))


theorem State.noteEcc_moves (s : State) (die a who : ℕ) :
    Moves 0x200c00000080000000210 s (State.noteEcc s die a who) := by
  unfold State.noteEcc
  extract_lets +onlyGivenNames v0
  extract_lets +onlyGivenNames v1
  refine Moves.ite ?_ ?_
  · exact Moves.refl
  · extract_lets +onlyGivenNames s2
    have hs2 : Moves 0x200c00000080000000210 s s2 := (((Moves.sub (State.wr_moves ..) (Moves.at 7 rfl)).step (State.wr_moves ..) (Moves.at 7 rfl)).step (State.wr_moves ..) (Moves.at 7 rfl))
    clear_value s2
    extract_lets +onlyGivenNames s3
    have hs3 : Moves 0x200c00000080000000210 s s3 := (hs2.step (State.wr_moves ..) (Moves.at 7 rfl))
    clear_value s3
    refine Moves.ite ?_ ?_
    · exact ((hs3.step (State.inc_moves ..) (Moves.at 7 rfl)).step (State.irq_moves ..) (Moves.at 7 rfl))
    · exact (((hs3.step (State.inc_moves ..) (Moves.at 7 rfl)).step (State.irq_moves ..) (Moves.at 7 rfl)).step (State.archive_moves ..))


theorem setBitWord_moves (s : State) (die sp w : ℕ) (v : DWord) :
    Moves 0x80000000028 s (setBitWord s die sp w v) := by
  unfold setBitWord
  refine Moves.ite ?_ ?_
  · exact Moves.refl
  · exact (Moves.sub (State.store_moves ..))


theorem State.callTimer_moves (s : State) (die i : ℕ) (x : Bool) :
    Moves 0x80002000000 s (State.callTimer s die i x) := by
  unfold State.callTimer
  exact (Moves.sub (State.setTimer_moves ..))


theorem Moves.set_23 {F : Nat} {s x : State} {f23 : SMap ℕ} (h : Moves F s x) (sub : 0x800000 &&& F = 0x800000 := by rfl) :
    Moves F s { x with dieFlags := f23 } :=
  h.step (G := 0x800000) ⟨id, Nat.le_refl _, fun p hp => by cases p <;> first | rfl | exact absurd hp (by decide), fun _ _ _ => rfl⟩ sub

theorem State.noteSat_moves (s : State) (die : ℕ) (full : Bool) :
    Moves 0x10000000080000800010 s (State.noteSat s die full) := by
  unfold State.noteSat
  refine Moves.ite ?_ ?_
  · extract_lets +onlyGivenNames s0
    have hs0 : Moves 0x10000000080000800010 s s0 := (Moves.sub (State.irq_moves ..) (Moves.at 12 rfl))
    clear_value s0
    exact (Moves.set_23 hs0)
  · exact Moves.refl


theorem State.callCounter_moves (s : State) (die i : ℕ) (down x : Bool) :
    Moves 0x10000000080004800010 s (State.callCounter s die i down x) := by
  unfold State.callCounter
  extract_lets +onlyGivenNames v0
  exact ((Moves.sub (State.setCounter_moves ..)).step (State.noteSat_moves ..))


theorem State.eachLane_moves {F : Nat} (s : State) (m : DWord) (f : State → ℕ → State) (h_f : ∀ y0 y1, Moves F y0 (f y0 y1)) :
    Moves (0x0 ||| F) s (State.eachLane s m f) := by
  unfold State.eachLane
  exact Moves.foldl (fun _ _ => (Moves.sub (h_f ..) Moves.or_right)) Moves.refl


theorem writeWith_moves {F : Nat} (w : Who) (die code off word : ℕ) (s : State) (effect : State → State → ℕ → State) (h_effect : ∀ y0 y1 y2, Moves F y1 (effect y0 y1 y2)) :
    Moves (0x210f00000080000000350 ||| (Moves.page code ||| F)) s (writeWith w die code off word s effect) := by
  unfold writeWith
  have hr := pageWrite_moves s w die code off word
  extract_lets +onlyGivenNames r
  split
  · exact (hr.sub (Moves.or_monoF rfl)).step (h_effect ..) Moves.or_right2
  · exact hr.sub (Moves.or_monoF rfl)

theorem writeWith_moves_any {F : Nat} (w : Who) (die code off word : ℕ) (s : State) (effect : State → State → ℕ → State) (h_effect : ∀ y0 y1 y2, Moves F y1 (effect y0 y1 y2)) :
    Moves (0xffffffffffffffff0000080000000350 ||| F) s (writeWith w die code off word s effect) :=
  (writeWith_moves (F := F) (h_effect := h_effect) ..).sub (Moves.page_any2 rfl)


theorem Moves.set_11_43 {F : Nat} {s x : State} {f11 : List CreditDue} {f43 : SMap ℕ} (h : Moves F s x) (sub : 0x80000000800 &&& F = 0x80000000800 := by rfl) :
    Moves F s { x with creditsDue := f11, dirty := f43 } :=
  h.step (G := 0x80000000800) ⟨id, Nat.le_refl _, fun p hp => by cases p <;> first | rfl | exact absurd hp (by decide), fun _ _ _ => rfl⟩ sub

theorem State.popQueue_moves (s : State) (die q : ℕ) :
    Moves 0x80000000a00 s (State.popQueue s die q).1 := by
  unfold State.popQueue
  split
  · exact Moves.refl
  · dsimp -zeta only
    extract_lets +onlyGivenNames s0
    have hs0 : Moves 0x80000000a00 s s0 := (Moves.sub (State.setRing_moves ..))
    clear_value s0
    exact (Moves.set_11_43 hs0)


theorem Moves.set_10 {F : Nat} {s x : State} {f10 : List Flight} (h : Moves F s x) (sub : 0x400 &&& F = 0x400 := by rfl) :
    Moves F s { x with flights := f10 } :=
  h.step (G := 0x400) ⟨id, Nat.le_refl _, fun p hp => by cases p <;> first | rfl | exact absurd hp (by decide), fun _ _ _ => rfl⟩ sub

theorem State.putEntry_moves (s : State) (who die q tag lo : ℕ) :
    Moves 0x600000080000000610 s (State.putEntry s who die q tag lo).1 := by
  unfold State.putEntry
  extract_lets +onlyGivenNames v0
  refine Moves.ite1 ?_ ?_
  · dsimp -zeta only
    exact (Moves.sub (State.noteAborted_moves ..))
  · refine Moves.ite1 ?_ ?_
    · extract_lets +onlyGivenNames s1
      have hs1 : Moves 0x600000080000000610 s s1 := (Moves.sub (State.setCredits_moves ..))
      clear_value s1
      dsimp -zeta only
      exact (Moves.set_10 hs1)
    · exact Moves.refl


theorem State.grantCredits_moves (s : State) (die q : ℕ) :
    Moves 0x400000080000000010 s (State.grantCredits s die q) := by
  unfold State.grantCredits
  refine Moves.foldl (fun t0 x1 => ?_) ?_
  · extract_lets +onlyGivenNames v2
    exact (Moves.sub (State.setCredits_moves ..))
  · exact Moves.refl


theorem Moves.set_10_11 {F : Nat} {s x : State} {f10 : List Flight} {f11 : List CreditDue} (h : Moves F s x) (sub : 0xc00 &&& F = 0xc00 := by rfl) :
    Moves F s { x with flights := f10, creditsDue := f11 } :=
  h.step (G := 0xc00) ⟨id, Nat.le_refl _, fun p hp => by cases p <;> first | rfl | exact absurd hp (by decide), fun _ _ _ => rfl⟩ sub

theorem State.emptyQueue_moves (s : State) (die q : ℕ) :
    Moves 0x400000080000000e10 s (State.emptyQueue s die q) := by
  unfold State.emptyQueue
  extract_lets +onlyGivenNames s0
  have hs0 : Moves 0x400000080000000e10 s s0 := (Moves.foldl (fun _ _ => (Moves.sub (State.setCredits_moves ..))) (Moves.sub (State.setRing_moves ..)))
  clear_value s0
  exact (Moves.set_10_11 hs0)


theorem State.queueCfg_moves (die q : ℕ) (pre s : State) (v : ℕ) :
    Moves 0x400000080000000e10 s (State.queueCfg die q pre s v) := by
  unfold State.queueCfg
  refine Moves.ite ?_ ?_
  · extract_lets +onlyGivenNames s0
    have hs0 : Moves 0x400000080000000e10 s s0 := ((Moves.sub (State.wr_moves ..) (Moves.at 6 rfl)).step (State.wr_moves ..) (Moves.at 6 rfl))
    clear_value s0
    refine Moves.ite ?_ ?_
    · exact hs0
    · exact (hs0.step (State.grantCredits_moves ..))
  · exact (Moves.sub (State.emptyQueue_moves ..))


theorem State.setTokenBit_moves (s : State) (lo hi : FieldDef) (t : ℕ) (b : Bool) (h : hi.code = lo.code := by rfl) :
    Moves (0x80000000010 ||| Moves.page lo.code) s (State.setTokenBit s lo hi t b) := by
  unfold State.setTokenBit
  exact Moves.sub (State.wr2_moves (h := h) ..) (Moves.or_mono rfl)

theorem State.setTokenBit_moves_any (s : State) (lo hi : FieldDef) (t : ℕ) (b : Bool) :
    Moves 0xffffffffffffffff0000080000000010 s (State.setTokenBit s lo hi t b) := by
  unfold State.setTokenBit
  exact Moves.sub (State.wr2_moves_any ..)


theorem State.setHeld_moves (s : State) (t : ℕ) (b : Bool) :
    Moves 0x2000000080000000010 s (State.setHeld s t b) := by
  unfold State.setHeld
  exact (Moves.sub (State.setTokenBit_moves ..) (Moves.at 9 rfl))

theorem State.setBroken_moves (s : State) (t : ℕ) (b : Bool) :
    Moves 0x2000000080000000010 s (State.setBroken s t b) := by
  unfold State.setBroken
  exact (Moves.sub (State.setTokenBit_moves ..) (Moves.at 9 rfl))

theorem State.setHeldover_moves (s : State) (t : ℕ) (b : Bool) :
    Moves 0x2000000080000000010 s (State.setHeldover s t b) := by
  unfold State.setHeldover
  exact (Moves.sub (State.setTokenBit_moves ..) (Moves.at 9 rfl))

theorem State.acquireToken_moves (s : State) (who t : ℕ) :
    Moves 0x2000000080000000010 s (State.acquireToken s who t).1 := by
  unfold State.acquireToken
  refine Moves.ite1 ?_ ?_
  · exact Moves.refl
  · extract_lets +onlyGivenNames v0
    dsimp -zeta only
    exact (((Moves.sub (State.setHeld_moves ..)).step (State.setBroken_moves ..)).step (State.wr_moves ..) (Moves.at 9 rfl))

theorem State.releaseToken_moves (s : State) (who t : ℕ) :
    Moves 0x2000000080000000010 s (State.releaseToken s who t).1 := by
  unfold State.releaseToken
  refine Moves.ite1 ?_ ?_
  · dsimp -zeta only
    exact ((Moves.sub (State.setHeld_moves ..)).step (State.setHeldover_moves ..))
  · exact Moves.refl

theorem State.returnToken_moves (s : State) (t : ℕ) :
    Moves 0x202400000080000000210 s (State.returnToken s t) := by
  unfold State.returnToken
  extract_lets +onlyGivenNames s0
  have hs0 : Moves 0x202400000080000000210 s s0 := (((Moves.sub (State.setHeld_moves ..)).step (State.setBroken_moves ..)).step (State.setHeldover_moves ..))
  clear_value s0
  exact (((hs0.step (State.irq_moves ..) (Moves.at 9 rfl)).step (State.inc_moves ..) (Moves.at 9 rfl)).step (State.archive_moves ..))

theorem State.returnTokens_moves (s : State) (p : ℕ → Bool) :
    Moves 0x202400000080000000210 s (State.returnTokens s p) := by
  unfold State.returnTokens
  refine Moves.foldl (fun t0 x1 => ?_) ?_
  · refine Moves.ite ?_ ?_
    · exact (Moves.sub (State.returnToken_moves ..))
    · exact Moves.refl
  · exact Moves.refl

theorem State.heldOverTokens_moves (s : State) :
    Moves 0xffffffffffffffff0000080000000210 s (State.heldOverTokens s) := by
  unfold State.heldOverTokens
  refine Moves.foldl (fun t0 x1 => ?_) ?_
  · refine Moves.ite ?_ ?_
    · extract_lets +onlyGivenNames v2
      exact ((((Moves.sub (State.setHeldover_moves ..)).step (State.fabricError_moves ..)).step (State.irq_moves ..) (Moves.at 9 rfl)).step (State.archive_moves ..))
    · exact Moves.refl
  · exact Moves.refl


theorem State.setFence_moves (s : State) (d : ℕ) (b : Bool) :
    Moves 0x200000080000000010 s (State.setFence s d b) := by
  unfold State.setFence
  extract_lets +onlyGivenNames s0
  have hs0 : Moves 0x200000080000000010 s s0 := by
    refine Moves.ite ?_ ?_
    · exact (Moves.sub (State.setBits_moves ..) (Moves.at 5 rfl))
    · exact (Moves.sub (State.clearBits_moves ..) (Moves.at 5 rfl))
  clear_value s0
  exact (((hs0.step (State.wr_moves ..) (Moves.at 5 rfl)).step (State.irq_moves ..) (Moves.at 5 rfl)).step (State.irq_moves ..) (Moves.at 5 rfl))


theorem State.fenceRequest_moves (d : ℕ) (s : State) (r : HeldReq) :
    Moves 0x600000080000001310 s (State.fenceRequest d s r) := by
  unfold State.fenceRequest
  refine Moves.step ?_ (State.failRequest_moves ..)
  refine Moves.ite ?_ ?_
  · exact (Moves.sub (State.noteAborted_moves ..))
  · exact (Moves.sub (State.noteAbsent_moves ..))


theorem State.raiseFence_moves (s : State) (d : ℕ) :
    Moves 0x202600000080000001310 s (State.raiseFence s d) := by
  unfold State.raiseFence
  refine Moves.ite ?_ ?_
  · exact Moves.refl
  · extract_lets +onlyGivenNames v0
    exact ((Moves.foldl (fun _ _ => (Moves.sub (State.fenceRequest_moves ..))) (Moves.sub (State.setFence_moves ..))).step (State.returnTokens_moves ..))

theorem State.fabFence_moves (s : State) (v : ℕ) :
    Moves 0xffffffffffffffff0000080000001310 s (State.fabFence s v) := by
  unfold State.fabFence
  exact (Moves.foldl (fun _ _ => (Moves.sub (State.raiseFence_moves ..))) Moves.refl)


theorem State.fabUnfence_moves (s : State) (v : ℕ) :
    Moves 0x200000080000000010 s (State.fabUnfence s v) := by
  unfold State.fabUnfence
  exact (Moves.foldl (fun _ _ => (Moves.sub (State.setFence_moves ..))) Moves.refl)


theorem execFabFence_moves (w : Who) (word : ℕ) (s : State) :
    ∃ t, execFabFence w word s = .next t ∧ Moves 0xffffffffffffffff0000080000001350 s t := by
  unfold execFabFence
  refine ⟨_, rfl, ?_⟩
  exact (Moves.sub (writeThen_moves (F := 0xffffffffffffffff0000080000001310) (h_effect := fun _ _ => (Moves.sub (State.fabFence_moves ..))) ..))


theorem execFabUnfence_moves (w : Who) (word : ℕ) (s : State) :
    ∃ t, execFabUnfence w word s = .next t ∧ Moves 0x210f00000080000000350 s t := by
  unfold execFabUnfence
  refine ⟨_, rfl, ?_⟩
  exact (Moves.sub (writeThen_moves (F := 0x200000080000000010) (h_effect := fun _ _ => (Moves.sub (State.fabUnfence_moves ..))) ..))


theorem execQueueEnable_moves (w : Who) (die q word : ℕ) (s : State) :
    ∃ t, execQueueEnable w die q word s = .next t ∧ Moves 0x210f00000080000000f50 s t := by
  unfold execQueueEnable
  refine ⟨_, rfl, ?_⟩
  refine Moves.ite ?_ ?_
  · exact (Moves.sub (writeWith_moves (F := 0x400000080000000e10) (h_effect := fun _ _ _ => (Moves.sub (State.queueCfg_moves ..))) ..))
  · exact Moves.refl


theorem execQueueDisable_moves (w : Who) (die q word : ℕ) (s : State) :
    ∃ t, execQueueDisable w die q word s = .next t ∧ Moves 0x210f00000080000000f50 s t := by
  unfold execQueueDisable
  refine ⟨_, rfl, ?_⟩
  refine Moves.ite ?_ ?_
  · exact (Moves.sub (writeWith_moves (F := 0x400000080000000e10) (h_effect := fun _ _ _ => (Moves.sub (State.queueCfg_moves ..))) ..))
  · exact Moves.refl


theorem quePush_moves (w : Who) (die : ℕ) (s : State) (v : ℕ) :
    Moves 0x600000080000000610 s (quePush w die s v) := by
  unfold quePush
  extract_lets +onlyGivenNames r0
  have hr0 : Moves 0x600000080000000610 s r0.1 := (Moves.sub (State.putEntry_moves ..))
  clear_value r0
  exact (hr0.step (State.wr_moves ..) (Moves.at 6 rfl))


theorem execQueuePush_moves (w : Who) (die word : ℕ) (s : State) :
    ∃ t, execQueuePush w die word s = .next t ∧ Moves 0x210f00000080000000750 s t := by
  unfold execQueuePush
  refine ⟨_, rfl, ?_⟩
  refine Moves.ite ?_ ?_
  · exact (Moves.sub (writeThen_moves (F := 0x600000080000000610) (h_effect := fun _ _ => (Moves.sub (quePush_moves ..))) ..))
  · exact Moves.refl


theorem quePop_moves (die q : ℕ) (s : State) (v : ℕ) :
    Moves 0x80000000a00 s (quePop die q s v) := by
  unfold quePop
  refine Moves.ite ?_ ?_
  · exact (Moves.sub (State.popQueue_moves ..))
  · exact Moves.refl


theorem execQueuePop_moves (w : Who) (die q word : ℕ) (s : State) :
    ∃ t, execQueuePop w die q word s = .next t ∧ Moves 0x210f00000080000000b50 s t := by
  unfold execQueuePop
  refine ⟨_, rfl, ?_⟩
  refine Moves.ite ?_ ?_
  · exact (Moves.sub (writeThen_moves (F := 0x80000000a00) (h_effect := fun _ _ => (Moves.sub (quePop_moves ..))) ..))
  · exact Moves.refl


theorem Moves.set_11 {F : Nat} {s x : State} {f11 : List CreditDue} (h : Moves F s x) (sub : 0x800 &&& F = 0x800 := by rfl) :
    Moves F s { x with creditsDue := f11 } :=
  h.step (G := 0x800) ⟨id, Nat.le_refl _, fun p hp => by cases p <;> first | rfl | exact absurd hp (by decide), fun _ _ _ => rfl⟩ sub

theorem execQueueEntryArrival_moves (sender die queue : ℕ) (s : State) :
    ∃ t, execQueueEntryArrival sender die queue s = .next t ∧ Moves 0x600000080000000e10 s t := by
  unfold execQueueEntryArrival
  refine ⟨_, rfl, ?_⟩
  split
  · exact Moves.refl
  · extract_lets +onlyGivenNames s0
    have hs0 : Moves 0x600000080000000e10 s s0 := (Moves.set_10 Moves.refl)
    clear_value s0
    refine Moves.ite ?_ ?_
    · extract_lets +onlyGivenNames v1
      extract_lets +onlyGivenNames s2
      have hs2 : Moves 0x600000080000000e10 s s2 := (Moves.set_11 hs0)
      clear_value s2
      exact ((hs2.step (State.inc_moves ..) (Moves.at 5 rfl)).step (State.fabricError_moves ..))
    · refine Moves.ite ?_ ?_
      · exact (hs0.step (State.enterRing_moves ..))
      · exact ((hs0.step (State.inc_moves ..) (Moves.at 6 rfl)).step (State.irq_moves ..) (Moves.at 6 rfl))


theorem execCreditReturn_moves (src die queue : ℕ) (s : State) :
    ∃ t, execCreditReturn src die queue s = .next t ∧ Moves 0x400000080000000810 s t := by
  unfold execCreditReturn
  refine ⟨_, rfl, ?_⟩
  split
  · exact Moves.refl
  · extract_lets +onlyGivenNames s0
    have hs0 : Moves 0x400000080000000810 s s0 := (Moves.sub (State.setCredits_moves ..))
    clear_value s0
    exact (Moves.set_11 hs0)


theorem tokenAcqWrite_moves (w : Who) (s : State) (v : ℕ) :
    Moves 0x2000000080000000010 s (tokenAcqWrite w s v) :=
  (State.acquireToken_moves s w.code (v % 64)).step (State.wr_moves ..) (Moves.at 9 rfl)


theorem tokenRelWrite_moves (w : Who) (s : State) (v : ℕ) :
    Moves 0x2000000080000000010 s (tokenRelWrite w s v) :=
  (State.releaseToken_moves s w.code (v % 64)).step (State.wr_moves ..) (Moves.at 9 rfl)


theorem execTokenPageAcq_moves (w : Who) (word : ℕ) (s : State) :
    ∃ t, execTokenPageAcq w word s = .next t ∧ Moves 0xffffffffffffffff0000080000000350 s t := by
  unfold execTokenPageAcq
  refine ⟨_, rfl, ?_⟩
  exact (Moves.sub (writeThen_moves (F := 0xffffffffffffffff0000080000000010) (h_effect := fun _ _ => (Moves.sub (tokenAcqWrite_moves ..))) ..))


theorem execTokenPageRel_moves (w : Who) (word : ℕ) (s : State) :
    ∃ t, execTokenPageRel w word s = .next t ∧ Moves 0xffffffffffffffff0000080000000350 s t := by
  unfold execTokenPageRel
  refine ⟨_, rfl, ?_⟩
  exact (Moves.sub (writeThen_moves (F := 0xffffffffffffffff0000080000000010) (h_effect := fun _ _ => (Moves.sub (tokenRelWrite_moves ..))) ..))


theorem execJunctionTimeout_moves (w : Who) (addr : ℕ) (s : State) :
    ∃ t, execJunctionTimeout w addr s = .next t ∧ Moves 0x200600000080000001310 s t := by
  unfold execJunctionTimeout
  refine ⟨_, rfl, ?_⟩
  split
  · exact Moves.refl
  · extract_lets +onlyGivenNames s0
    have hs0 : Moves 0x200600000080000001310 s s0 := ((Moves.sub (State.inc_moves ..) (Moves.at 5 rfl)).step (State.irq_moves ..) (Moves.at 5 rfl))
    clear_value s0
    extract_lets +onlyGivenNames s1
    have hs1 : Moves 0x200600000080000001310 s s1 := ((hs0.step (State.inc_moves ..) (Moves.at 5 rfl)).step (State.irq_moves ..) (Moves.at 5 rfl))
    clear_value s1
    extract_lets +onlyGivenNames s2
    have hs2 : Moves 0x200600000080000001310 s s2 := ((hs1.step (State.fabricError_moves ..)).step (State.archive_moves ..))
    clear_value s2
    exact (hs2.step (State.failRequest_moves ..))


end Sys2Proof.Machine
end

