-- ==== Sys2Proof/Laws/MovesUnits.lean ====
section
/-! SUPPORT.  What each operation of the CAN ports, the cores' own state, the exchange, the signal box, the modes and the tables can do to the state, said once: the parts it may
change (a mask, one bit a part of `Safety.lean`), that it keeps the state sane and that it draws free values in order.
A lemma `Moves.set_…` says it of one record update. -/

open Sys2Proof Sys2Proof.Machine Sys2Proof.Bits
namespace Sys2Proof.Machine
set_option Elab.async false

theorem State.ringStore_moves (s : State) (die own n v : ℕ) :
    Moves 0x200 s (State.ringStore s die own n v) := by
  unfold State.ringStore
  split
  · exact Moves.refl
  · exact (Moves.sub (State.setRing_moves ..))


theorem State.readOwn_moves (s : State) (who die own n : ℕ) (remote : Bool) :
    Moves 0x200e00000080000000210 s (State.readOwn s who die own n remote).1 := by
  unfold State.readOwn
  refine Moves.ite1 ?_ ?_
  · exact Moves.refl
  · extract_lets +onlyGivenNames v0
    extract_lets +onlyGivenNames s1
    have hs1 : Moves 0x200e00000080000000210 s s1 := (Moves.sub (State.noteEcc_moves ..))
    clear_value s1
    refine Moves.ite1 ?_ ?_
    · dsimp -zeta only
      refine Moves.ite ?_ ?_
      · exact (hs1.step (State.fabricError_moves ..))
      · exact hs1
    · dsimp -zeta only
      exact hs1


theorem State.breakReservations_moves (s : State) (who die own n : ℕ) :
    Moves 0x2000 s (State.breakReservations s who die own n) := by
  unfold State.breakReservations
  refine Moves.ite ?_ ?_
  · extract_lets +onlyGivenNames v0
    extract_lets +onlyGivenNames v1
    split
    · refine Moves.ite ?_ ?_
      · exact (Moves.sub (State.setCore_moves ..))
      · exact Moves.refl
    · exact Moves.refl
  · exact Moves.refl


theorem State.writeOwn_moves (s : State) (w : Who) (die own n v : ℕ) :
    Moves 0x20000000080000002238 s (State.writeOwn s w die own n v).1 := by
  unfold State.writeOwn
  refine Moves.ite1 ?_ ?_
  · exact Moves.refl
  · refine Moves.ite1 ?_ ?_
    · dsimp -zeta only
      exact ((Moves.sub (F := 0x20000000080000002238) (State.inc_moves ..) (Moves.at 13 rfl)).step (State.irq_moves ..) (Moves.at 13 rfl))
    · refine Moves.ite1 ?_ ?_
      · exact Moves.refl
      · refine Moves.ite1 ?_ ?_
        · split
          · dsimp -zeta only
            exact (Moves.sub (State.store_moves ..))
          · exact Moves.refl
          · exact Moves.refl
        · refine Moves.ite1 ?_ ?_
          · exact Moves.refl
          · dsimp -zeta only
            exact (((Moves.sub (State.store_moves ..)).step (State.ringStore_moves ..)).step (State.breakReservations_moves ..))


theorem State.unreachable_moves (s : State) (who a : ℕ) (p : Place) {t : State} (h : State.unreachable s who a p = some t) :
    Moves 0x600000080000000210 s t := by
  unfold State.unreachable at h
  exact Moves.sub (State.barred_moves (h := h) ..)


theorem State.memRead_moves (s : State) (who a n : ℕ) :
    Moves 0x280e00000080000001210 s (State.memRead s who a n).1 := by
  unfold State.memRead
  extract_lets +onlyGivenNames v0
  extract_lets +onlyGivenNames v1
  split
  rename_i u2 hq3
  have hd4 := Moves.snd (F := 0x280e00000080000001210) (s := s) hq3 (Moves.sub (State.takeFailed_moves ..))
  refine Moves.ite1 ?_ ?_
  · dsimp -zeta only
    exact hd4
  · split
    · rename_i u5 hq6
      have hd7 : Moves 0x280e00000080000001210 s u5 := hd4.step (State.unreachable_moves (h := hq6) ..)
      dsimp -zeta only
      exact (hd7.step (State.unholdRequest_moves ..))
    · refine Moves.ite1 ?_ ?_
      · dsimp -zeta only
        exact hd4
      · clear_value v0 v1
        split
        · refine Moves.ite1 ?_ ?_
          · dsimp -zeta only
            exact (hd4.step (State.holdRequest_moves ..))
          · refine Moves.ite1 ?_ ?_
            · dsimp -zeta only
              exact hd4
            · exact ((hd4.step (State.unholdRequest_moves ..)).step (State.readOwn_moves ..))
        · exact (hd4.step (State.readOwn_moves ..))
        · split
          · rename_i u8 _ hq9
            have hd10 := Moves.fst (F := 0x280e00000080000001210) (s := s) hq9 (hd4.step (State.stacksRead_moves ..))
            dsimp -zeta only
            exact hd10
          · rename_i u11 hq12
            have hd13 := Moves.fst (F := 0x280e00000080000001210) (s := s) hq12 (hd4.step (State.stacksRead_moves ..))
            dsimp -zeta only
            exact hd13
        · dsimp -zeta only
          exact (hd4.step (State.noteUnmapped_moves ..))
        · dsimp -zeta only
          exact hd4


theorem State.memWrite_moves (s : State) (w : Who) (a n v : ℕ) :
    Moves 0x20600000080000003238 s (State.memWrite s w a n v).1 := by
  unfold State.memWrite
  extract_lets +onlyGivenNames v0
  extract_lets +onlyGivenNames v1
  split
  rename_i u2 hq3
  have hd4 := Moves.snd (F := 0x20600000080000003238) (s := s) hq3 (Moves.sub (State.takeFailed_moves ..))
  refine Moves.ite1 ?_ ?_
  · dsimp -zeta only
    exact hd4
  · split
    · rename_i u5 hq6
      have hd7 : Moves 0x20600000080000003238 s u5 := hd4.step (State.unreachable_moves (h := hq6) ..)
      dsimp -zeta only
      exact (hd7.step (State.unholdRequest_moves ..))
    · refine Moves.ite1 ?_ ?_
      · dsimp -zeta only
        exact hd4
      · clear_value v0 v1
        split
        · refine Moves.ite1 ?_ ?_
          · dsimp -zeta only
            exact (hd4.step (State.holdRequest_moves ..))
          · refine Moves.ite1 ?_ ?_
            · dsimp -zeta only
              exact hd4
            · exact ((hd4.step (State.unholdRequest_moves ..)).step (State.writeOwn_moves ..))
        · refine Moves.ite1 ?_ ?_
          · dsimp -zeta only
            exact hd4
          · refine Moves.ite1 ?_ ?_
            · dsimp -zeta only
              exact hd4
            · exact (hd4.step (State.writeOwn_moves ..))
        · dsimp -zeta only
          exact (hd4.step (State.noteUnmapped_moves ..))
        · dsimp -zeta only
          exact hd4
        · dsimp -zeta only
          exact hd4


theorem Moves.set_14 {F : Nat} {s x : State} {f14 : SMap ℕ} (h : Moves F s x) (sub : 0x4000 &&& F = 0x4000 := by rfl) :
    Moves F s { x with latches := f14 } :=
  h.step (G := 0x4000) ⟨id, Nat.le_refl _, fun p hp => by cases p <;> first | rfl | exact absurd hp (by decide), fun _ _ _ => rfl⟩ sub

theorem State.routerEdge_moves (s : State) (die src : ℕ) :
    Moves 0x4000 s (State.routerEdge s die src) := by
  unfold State.routerEdge
  exact (Moves.foldl (fun _ _ => (Moves.set_14 Moves.refl)) Moves.refl)


theorem State.routerEdges_moves (s : State) (src : ℕ) :
    Moves 0x4000 s (State.routerEdges s src) := by
  unfold State.routerEdges
  exact (Moves.foldl (fun _ _ => (Moves.sub (State.routerEdge_moves ..))) Moves.refl)


theorem State.coreSpend_moves (s : State) (die n k : ℕ) :
    Moves 0x22000 s (State.coreSpend s die n k) := by
  unfold State.coreSpend
  extract_lets +onlyGivenNames v0
  extract_lets +onlyGivenNames s1
  have hs1 : Moves 0x22000 s s1 := by
    refine Moves.ite ?_ ?_
    · split
      · exact (Moves.sub (State.setSlot_moves ..))
      · exact Moves.refl
    · exact Moves.refl
  clear_value s1
  exact (hs1.step (State.setCore_moves ..))


theorem State.countLost_moves (s : State) (die n : ℕ) :
    Moves (0x80000000010 ||| Moves.page (14 + n)) s (State.countLost s die n) := by
  unfold State.countLost
  exact ((Moves.sub (F := (0x80000000010 ||| Moves.page (14 + n))) (State.inc_moves ..) (Moves.or_monoC rfl rfl)).step (State.irq_moves ..) (Moves.or_monoC rfl rfl))

theorem State.countLost_moves_any (s : State) (die n : ℕ) :
    Moves 0xffffffffffffffff0000080000000010 s (State.countLost s die n) :=
  (State.countLost_moves ..).sub (Moves.page_any rfl)


theorem State.slotEntry_moves (s : State) (die n entry task row : ℕ) (event : Bool) :
    Moves (0x80000002010 ||| Moves.page (14 + n)) s (State.slotEntry s die n entry task row event) := by
  unfold State.slotEntry
  extract_lets +onlyGivenNames v0
  extract_lets +onlyGivenNames s1
  have hs1 : Moves (0x80000002010 ||| Moves.page (14 + n)) s s1 := by
    refine Moves.ite ?_ ?_
    · exact (Moves.sub (State.countLost_moves ..) (Moves.or_mono rfl))
    · exact Moves.refl
  clear_value s1
  extract_lets +onlyGivenNames s2
  have hs2 : Moves (0x80000002010 ||| Moves.page (14 + n)) s s2 := by
    refine Moves.ite ?_ ?_
    · exact Moves.refl
    · exact (hs1.step (State.inc_moves ..) (Moves.or_monoC rfl rfl))
  clear_value s2
  extract_lets +onlyGivenNames v3
  exact (hs2.step (State.setCore_moves ..) (Moves.or_le rfl))

theorem State.slotEntry_moves_any (s : State) (die n entry task row : ℕ) (event : Bool) :
    Moves 0xffffffffffffffff0000080000002010 s (State.slotEntry s die n entry task row event) :=
  (State.slotEntry_moves ..).sub (Moves.page_any rfl)


theorem State.slotEnd_moves (s : State) (die n : ℕ) :
    Moves 0x2c000008080000172010 s (State.slotEnd s die n) := by
  unfold State.slotEnd
  extract_lets +onlyGivenNames s0
  have hs0 : Moves 0x2c000008080000172010 s s0 := by
    refine Moves.ite ?_ ?_
    · exact (Moves.sub (State.workDone_moves ..))
    · exact Moves.refl
  clear_value s0
  extract_lets +onlyGivenNames v1
  extract_lets +onlyGivenNames v2
  refine Moves.ite ?_ ?_
  · exact (hs0.step (State.setCore_moves ..))
  · exact (hs0.step (State.setCore_moves ..))


theorem State.coreCut_moves (s : State) (die n : ℕ) :
    Moves (0x80000002014 ||| Moves.page (14 + n)) s (State.coreCut s die n) := by
  unfold State.coreCut
  extract_lets +onlyGivenNames v0
  extract_lets +onlyGivenNames s1
  have hs1 : Moves (0x80000002014 ||| Moves.page (14 + n)) s s1 := ((Moves.sub (F := (0x80000002014 ||| Moves.page (14 + n))) (State.wr_moves ..) (Moves.or_monoC rfl rfl)).step (State.irq_moves ..) (Moves.or_monoC rfl rfl))
  clear_value s1
  extract_lets +onlyGivenNames v2
  extract_lets +onlyGivenNames v3
  refine Moves.ite ?_ ?_
  · split
    rename_i u4 hq5
    have hd6 := Moves.snd (F := (0x80000002014 ||| Moves.page (14 + n))) (s := s) hq5 (hs1.step (State.drawFree_moves ..) (Moves.or_le rfl))
    extract_lets +onlyGivenNames s7
    have hs7 : Moves (0x80000002014 ||| Moves.page (14 + n)) s s7 := by
      refine Moves.ite ?_ ?_
      · exact (hd6.step (State.countLost_moves ..) (Moves.or_mono rfl))
      · exact hd6
    clear_value s7
    exact (hs7.step (State.setCore_moves ..) (Moves.or_le rfl))
  · exact (hs1.step (State.setCore_moves ..) (Moves.or_le rfl))

theorem State.coreCut_moves_any (s : State) (die n : ℕ) :
    Moves 0xffffffffffffffff0000080000002014 s (State.coreCut s die n) :=
  (State.coreCut_moves ..).sub (Moves.page_any rfl)


theorem State.cutEngine_moves (s : State) (die e : ℕ) :
    Moves (0x10000022c400008080080472214 ||| Moves.page (14 + (e - 1))) s (State.cutEngine s die e) := by
  unfold State.cutEngine
  refine Moves.ite ?_ ?_
  · exact ((Moves.sub (F := (0x10000022c400008080080472214 ||| Moves.page (14 + (e - 1)))) (State.cutOff_moves ..) (Moves.or_le rfl)).step (State.coreCut_moves ..) (Moves.or_mono rfl))
  · exact (Moves.sub (State.cutOff_moves ..) (Moves.or_le rfl))

theorem State.cutEngine_moves_any (s : State) (die e : ℕ) :
    Moves 0xffffffffffffffff0008080080472214 s (State.cutEngine s die e) :=
  (State.cutEngine_moves ..).sub (Moves.page_any rfl)


theorem State.countTrap_moves (s : State) (die n : ℕ) :
    Moves (0x100000000000000080080000010 ||| Moves.page (14 + n)) s (State.countTrap s die n) := by
  unfold State.countTrap
  refine Moves.ite ?_ ?_
  · extract_lets +onlyGivenNames s0
    have hs0 : Moves (0x100000000000000080080000010 ||| Moves.page (14 + n)) s s0 := ((Moves.sub (F := (0x100000000000000080080000010 ||| Moves.page (14 + n))) (State.inc_moves ..) (Moves.or_monoC rfl rfl)).step (State.irq_moves ..) (Moves.or_monoC rfl rfl))
    clear_value s0
    refine Moves.ite ?_ ?_
    · exact (hs0.step (State.raiseCause_moves ..) (Moves.or_le rfl))
    · exact hs0
  · exact Moves.refl

theorem State.countTrap_moves_any (s : State) (die n : ℕ) :
    Moves 0xffffffffffffffff0000080080000010 s (State.countTrap s die n) :=
  (State.countTrap_moves ..).sub (Moves.page_any rfl)


theorem State.enterTrap_moves (s : State) (die n cause tval epc : ℕ) (fromM : Bool) :
    Moves (0x100000000000000080080022010 ||| Moves.page (14 + n)) s (State.enterTrap s die n cause tval epc fromM) := by
  unfold State.enterTrap
  extract_lets +onlyGivenNames s0
  have hs0 : Moves (0x100000000000000080080022010 ||| Moves.page (14 + n)) s s0 := ((Moves.sub (F := (0x100000000000000080080022010 ||| Moves.page (14 + n))) (State.coreSpend_moves ..) (Moves.or_le rfl)).step (State.countTrap_moves ..) (Moves.or_mono rfl))
  clear_value s0
  extract_lets +onlyGivenNames v1
  extract_lets +onlyGivenNames v2
  extract_lets +onlyGivenNames v3
  exact (hs0.step (State.setCore_moves ..) (Moves.or_le rfl))

theorem State.enterTrap_moves_any (s : State) (die n cause tval epc : ℕ) (fromM : Bool) :
    Moves 0xffffffffffffffff0000080080022010 s (State.enterTrap s die n cause tval epc fromM) :=
  (State.enterTrap_moves ..).sub (Moves.page_any rfl)


theorem State.resetCore_moves (s : State) (die n : ℕ) :
    Moves 0x202400000080000002210 s (State.resetCore s die n) := by
  unfold State.resetCore
  extract_lets +onlyGivenNames v0
  extract_lets +onlyGivenNames v1
  extract_lets +onlyGivenNames s2
  have hs2 : Moves 0x202400000080000002210 s s2 := (Moves.sub (State.setCore_moves ..))
  clear_value s2
  exact (hs2.step (State.returnTokens_moves ..))


theorem State.coreCtl_moves (die n : ℕ) (pre s : State) (a4 : ℕ) :
    Moves 0x202400000080000002210 s (State.coreCtl die n pre s a4) := by
  unfold State.coreCtl
  split
  · extract_lets +onlyGivenNames v0
    exact (Moves.sub (State.setCore_moves ..))
  · exact (Moves.sub (State.resetCore_moves ..))
  · exact Moves.refl


theorem State.coreSoft_moves (die n : ℕ) (s : State) (v : ℕ) :
    Moves 0x4000 s (State.coreSoft die n s v) := by
  unfold State.coreSoft
  refine Moves.ite ?_ ?_
  · exact (Moves.sub (State.routerEdge_moves ..))
  · exact Moves.refl


theorem State.routerClr_moves (die n hi : ℕ) (s : State) (v : ℕ) :
    Moves 0x4000 s (State.routerClr die n hi s v) := by
  unfold State.routerClr
  extract_lets +onlyGivenNames v0
  exact (Moves.set_14 Moves.refl)


theorem State.debugActive_moves (s : State) :
    Moves 0x40000000000000080000000010 s (State.debugActive s) := by
  unfold State.debugActive
  refine Moves.ite ?_ ?_
  · exact Moves.refl
  · exact ((Moves.sub (F := 0x40000000000000080000000010) (State.wr_moves ..) (Moves.at 38 rfl)).step (State.irq_moves ..) (Moves.at 38 rfl))


theorem execInterruptTaken_moves (die core : ℕ) (s : State) :
    ∃ t, execInterruptTaken die core s = .next t ∧ Moves (0x100000000000000080080022010 ||| Moves.page (14 + core)) s t := by
  unfold execInterruptTaken
  extract_lets +onlyGivenNames v0
  refine ⟨_, rfl, ?_⟩
  refine Moves.ite ?_ ?_
  · exact (Moves.sub (State.enterTrap_moves ..) (Moves.or_mono rfl))
  · exact Moves.refl


theorem execCoreStart_moves (w : Who) (die core word : ℕ) (s : State) :
    ∃ t, execCoreStart w die core word s = .next t ∧ Moves (0x212f00000080000002350 ||| Moves.page (14 + core)) s t := by
  unfold execCoreStart
  refine ⟨_, rfl, ?_⟩
  refine Moves.ite ?_ ?_
  · exact (Moves.sub (writeWith_moves (F := (0x202400000080000002210 ||| Moves.page (14 + core))) (h_effect := fun _ _ _ => (Moves.sub (State.coreCtl_moves ..) (Moves.or_le rfl))) ..) (Moves.or_mono4 rfl rfl))
  · exact Moves.refl


theorem execSoftSet_moves (w : Who) (die core word : ℕ) (s : State) :
    ∃ t, execSoftSet w die core word s = .next t ∧ Moves (0x210f00000080000004350 ||| Moves.page (14 + core)) s t := by
  unfold execSoftSet
  refine ⟨_, rfl, ?_⟩
  refine Moves.ite ?_ ?_
  · exact (Moves.sub (writeThen_moves (F := (0x4000 ||| Moves.page (14 + core))) (h_effect := fun _ _ => (Moves.sub (State.coreSoft_moves ..) (Moves.or_le rfl))) ..) (Moves.or_mono4 rfl rfl))
  · exact Moves.refl


theorem execRouterClear_moves (w : Who) (die core : ℕ) (hi : Bool) (word : ℕ) (s : State) :
    ∃ t, execRouterClear w die core hi word s = .next t ∧ Moves (0x210f00000080000004350 ||| Moves.page (14 + core)) s t := by
  unfold execRouterClear
  refine ⟨_, rfl, ?_⟩
  refine Moves.ite ?_ ?_
  · exact (Moves.sub (writeThen_moves (F := (0x4000 ||| Moves.page (14 + core))) (h_effect := fun _ _ => (Moves.sub (State.routerClr_moves ..) (Moves.or_le rfl))) ..) (Moves.or_mono4 rfl rfl))
  · exact Moves.refl


theorem execDebugHalt_moves (hart : ℕ) (s : State) :
    ∃ t, execDebugHalt hart s = .next t ∧ Moves 0x40000400000000080000002010 s t := by
  unfold execDebugHalt
  refine ⟨_, rfl, ?_⟩
  refine Moves.ite ?_ ?_
  · extract_lets +onlyGivenNames s0
    have hs0 : Moves 0x40000400000000080000002010 s s0 := (((Moves.sub (State.debugActive_moves ..)).step (State.inc_moves ..) (Moves.at 38 rfl)).step (State.irq_moves ..) (Moves.at 38 rfl))
    clear_value s0
    refine Moves.ite ?_ ?_
    · exact (hs0.step (State.setBits_moves ..) (Moves.at 38 rfl))
    · extract_lets +onlyGivenNames v1
      extract_lets +onlyGivenNames v2
      extract_lets +onlyGivenNames s3
      have hs3 : Moves 0x40000400000000080000002010 s s3 := (hs0.step (State.setCore_moves ..))
      clear_value s3
      exact ((hs3.step (State.inc_moves ..) (Moves.at 18 rfl)).step (State.irq_moves ..) (Moves.at 18 rfl))
  · exact Moves.refl


theorem execDebugResume_moves (hart : ℕ) (s : State) :
    ∃ t, execDebugResume hart s = .next t ∧ Moves 0x40000000000000080000002010 s t := by
  unfold execDebugResume
  refine ⟨_, rfl, ?_⟩
  refine Moves.ite ?_ ?_
  · refine Moves.ite ?_ ?_
    · exact (Moves.sub (State.clearBits_moves ..) (Moves.at 38 rfl))
    · exact (Moves.sub (State.setCore_moves ..))
  · exact Moves.refl


theorem noteLever_moves (s : State) (die i : ℕ) :
    Moves 0x200c00000080000000210 s (noteLever s die i) := by
  unfold noteLever
  exact ((Moves.sub (State.noteEcc_moves ..)).step (State.noteEcc_moves ..))


theorem noteOperand_moves (die : ℕ) (s : State) (x : LeverSrc) :
    Moves 0x200c00000080000000210 s (noteOperand die s x) := by
  unfold noteOperand
  refine Moves.ite ?_ ?_
  · exact (Moves.sub (State.noteEcc_moves ..))
  · exact Moves.refl


theorem leverWrite_moves (s : State) (die : ℕ) (l : Lever) (v : DWord) (fault : Option LeverFault) :
    Moves 0x80000000028 s (leverWrite s die l v fault).st := by
  unfold leverWrite
  refine Moves.iteF (g := LeverDone.st) ?_ ?_
  · refine Moves.stLeverDone ?_
    exact (Moves.sub (setBitWord_moves ..))
  · exact Moves.refl


theorem doLogic_moves (s : State) (die : ℕ) (l : Lever) (a : DWord × Option LeverFault) :
    Moves 0x80000000028 s (doLogic s die l a).st := by
  unfold doLogic
  split
  exact (Moves.sub (leverWrite_moves ..))


theorem doEdge_moves (s : State) (die : ℕ) (l : Lever) :
    Moves 0x80000000028 s (doEdge s die l).st := by
  unfold doEdge
  refine Moves.iteF (g := LeverDone.st) ?_ ?_
  · exact Moves.refl
  · refine Moves.iteF (g := LeverDone.st) ?_ ?_
    · exact Moves.refl
    · extract_lets +onlyGivenNames v0
      extract_lets +onlyGivenNames v1
      extract_lets +onlyGivenNames v2
      exact (Moves.sub (doLogic_moves ..))


theorem doMoveWord_moves (s : State) (die : ℕ) (l : Lever) (i : ℕ) :
    Moves 0x80000000028 s (doMoveWord s die l i).st := by
  unfold doMoveWord
  extract_lets +onlyGivenNames v0
  extract_lets +onlyGivenNames v1
  extract_lets +onlyGivenNames v2
  exact (Moves.sub (leverWrite_moves ..))


theorem doPack_moves (s : State) (die : ℕ) (l : Lever) :
    Moves 0x80000000028 s (doPack s die l).st := by
  unfold doPack
  extract_lets +onlyGivenNames v0
  extract_lets +onlyGivenNames v1
  refine Moves.iteF (g := LeverDone.st) ?_ ?_
  · exact Moves.refl
  · refine Moves.iteF (g := LeverDone.st) ?_ ?_
    · exact Moves.refl
    · extract_lets +onlyGivenNames v2
      extract_lets +onlyGivenNames v3
      extract_lets +onlyGivenNames v4
      exact (Moves.sub (leverWrite_moves ..))


theorem doUnpack_moves (s : State) (die : ℕ) (l : Lever) :
    Moves 0x80000000028 s (doUnpack s die l).st := by
  unfold doUnpack
  extract_lets +onlyGivenNames v0
  extract_lets +onlyGivenNames v1
  refine Moves.iteF (g := LeverDone.st) ?_ ?_
  · exact Moves.refl
  · refine Moves.iteF (g := LeverDone.st) ?_ ?_
    · exact Moves.refl
    · extract_lets +onlyGivenNames v2
      extract_lets +onlyGivenNames v3
      extract_lets +onlyGivenNames v4
      exact (Moves.sub (leverWrite_moves ..))


theorem doSkip_moves (s : State) (die idx : ℕ) (l : Lever) (onZero : Bool) :
    Moves 0x0 s (doSkip s die idx l onZero).st := by
  unfold doSkip
  split
  extract_lets +onlyGivenNames v0
  refine Moves.iteF (g := LeverDone.st) ?_ ?_
  · refine Moves.iteF (g := LeverDone.st) ?_ ?_
    · exact Moves.refl
    · exact Moves.refl
  · exact Moves.refl


theorem doTstart_moves (s : State) (die : ℕ) (l : Lever) :
    Moves 0x80002000000 s (doTstart s die l).st := by
  unfold doTstart
  split
  extract_lets +onlyGivenNames v0
  refine Moves.stLeverDone ?_
  exact (Moves.sub (State.eachLane_moves (F := 0x80002000000) (h_f := fun _ _ => (Moves.sub (State.callTimer_moves ..))) ..))


theorem doTreset_moves (s : State) (die : ℕ) (l : Lever) :
    Moves 0x80006000000 s (doTreset s die l).st := by
  unfold doTreset
  extract_lets +onlyGivenNames v0
  extract_lets +onlyGivenNames v1
  split
  refine Moves.stLeverDone ?_
  exact (Moves.sub (State.eachLane_moves (F := 0x80006000000) (h_f := by
          intro z2 z3
          refine Moves.ite ?_ ?_
          · refine Moves.ite ?_ ?_
            · exact (Moves.sub (State.setCounter_moves ..))
            · exact (Moves.sub (State.setTimer_moves ..))
          · exact Moves.refl) ..))


theorem doCount_moves (s : State) (die : ℕ) (l : Lever) (down : Bool) :
    Moves 0x10000000080004800010 s (doCount s die l down).st := by
  unfold doCount
  split
  extract_lets +onlyGivenNames v0
  refine Moves.stLeverDone ?_
  exact (Moves.sub (State.eachLane_moves (F := 0x10000000080004800010) (h_f := fun _ _ => (Moves.sub (State.callCounter_moves ..))) ..))


theorem Moves.set_27 {F : Nat} {s x : State} {f27 : SMap Sbox} (h : Moves F s x) (sub : 0x8000000 &&& F = 0x8000000 := by rfl) :
    Moves F s { x with sboxes := f27 } :=
  h.step (G := 0x8000000) ⟨id, Nat.le_refl _, fun p hp => by cases p <;> first | rfl | exact absurd hp (by decide), fun _ _ _ => rfl⟩ sub

theorem State.setSbox_moves (s : State) (die : ℕ) (b : Sbox) :
    Moves 0x8000000 s (State.setSbox s die b) := by
  unfold State.setSbox
  exact (Moves.set_27 Moves.refl)


theorem State.useCycles_moves (s : State) (die e n : ℕ) :
    Moves 0x20000 s (State.useCycles s die e n) := by
  unfold State.useCycles
  split
  · exact (Moves.sub (State.setSlot_moves ..))
  · exact Moves.refl


theorem State.leverFault_moves (s : State) (die idx : ℕ) (k : LeverFault) :
    Moves 0x100000208400000080080800210 s (State.leverFault s die idx k) := by
  unfold State.leverFault
  extract_lets +onlyGivenNames v0
  extract_lets +onlyGivenNames s1
  have hs1 : Moves 0x100000208400000080080800210 s s1 := (((Moves.sub (F := 0x100000208400000080080800210) (State.wr_moves ..) (Moves.at 11 rfl)).step (State.wr_moves ..) (Moves.at 11 rfl)).step (State.wr_moves ..) (Moves.at 11 rfl))
  clear_value s1
  extract_lets +onlyGivenNames s2
  have hs2 : Moves 0x100000208400000080080800210 s s2 := by
    refine Moves.ite ?_ ?_
    · exact Moves.refl
    · exact (((hs1.step (State.wr_moves ..) (Moves.at 11 rfl)).step (State.wr_moves ..) (Moves.at 11 rfl)).step (State.wr_moves ..) (Moves.at 11 rfl))
  clear_value s2
  extract_lets +onlyGivenNames s3
  have hs3 : Moves 0x100000208400000080080800210 s s3 := ((hs2.step (State.inc_moves ..) (Moves.at 11 rfl)).step (State.irq_moves ..) (Moves.at 11 rfl))
  clear_value s3
  extract_lets +onlyGivenNames s4
  have hs4 : Moves 0x100000208400000080080800210 s s4 := by
    refine Moves.ite ?_ ?_
    · exact (hs3.step (State.irq_moves ..) (Moves.at 11 rfl))
    · exact hs3
  clear_value s4
  extract_lets +onlyGivenNames s5
  have hs5 : Moves 0x100000208400000080080800210 s s5 := by
    refine Moves.ite ?_ ?_
    · refine Moves.ite ?_ ?_
      · exact ((hs4.step (State.raiseCause_moves ..)).step (State.raiseCause_moves ..))
      · exact (hs4.step (State.raiseCause_moves ..))
    · exact hs4
  clear_value s5
  extract_lets +onlyGivenNames v6
  extract_lets +onlyGivenNames s7
  have hs7 : Moves 0x100000208400000080080800210 s s7 := (Moves.set_23 hs5)
  clear_value s7
  exact (hs7.step (State.archive_moves ..))


theorem State.watchLever_moves (s : State) (die idx : ℕ) :
    Moves 0x400000000080000000010 s (State.watchLever s die idx) := by
  unfold State.watchLever
  refine Moves.ite ?_ ?_
  · exact (((Moves.sub (F := 0x400000000080000000010) (State.wr_moves ..) (Moves.at 18 rfl)).step (State.wr_moves ..) (Moves.at 18 rfl)).step (State.irq_moves ..) (Moves.at 18 rfl))
  · exact Moves.refl


theorem State.stopSbox_moves (s : State) (die : ℕ) :
    Moves 0x10000022c400008080080470210 s (State.stopSbox s die) := by
  unfold State.stopSbox
  exact (Moves.sub (State.cutOff_moves ..))


theorem State.retire_moves (die idx : ℕ) (d : LeverDone) :
    Moves 0x10000062c400008080088d70210 d.st (State.retire die idx d) := by
  unfold State.retire
  extract_lets +onlyGivenNames v0
  extract_lets +onlyGivenNames s1
  have hs1 : Moves 0x10000062c400008080088d70210 d.st s1 := ((Moves.sub (State.watchLever_moves ..)).step (State.inc_moves ..) (Moves.at 11 rfl))
  clear_value s1
  extract_lets +onlyGivenNames s2
  have hs2 : Moves 0x10000062c400008080088d70210 d.st s2 := by
    unfold s2
    clear_value v0 s2
    split
    · exact (hs1.step (State.leverFault_moves ..))
    · exact hs1
  clear_value s2
  refine Moves.ite ?_ ?_
  · exact (hs2.step (State.stopSbox_moves ..))
  · refine Moves.ite ?_ ?_
    · exact (((hs2.step (State.useCycles_moves ..)).step (State.workDone_moves ..)).step (State.irq_moves ..) (Moves.at 11 rfl))
    · extract_lets +onlyGivenNames s3
      have hs3 : Moves 0x10000062c400008080088d70210 d.st s3 := ((hs2.step (State.useCycles_moves ..)).step (State.add_moves ..) (Moves.at 11 rfl))
      clear_value s3
      exact (hs3.step (State.setSbox_moves ..))


theorem State.issue_moves {F : Nat} (s : State) (die : ℕ) (ops : ℕ → Bool) (run : State → ℕ → Lever → LeverDone) (h_run : ∀ y0 y1 y2, Moves F y0 (run y0 y1 y2).st) :
    Moves (0x10000062cc00008080088d70210 ||| F) s (State.issue s die ops run) := by
  unfold State.issue
  extract_lets +onlyGivenNames idx0
  refine Moves.ite ?_ ?_
  · extract_lets +onlyGivenNames l1
    refine Moves.ite ?_ ?_
    · extract_lets +onlyGivenNames s2
      have hs2 : Moves (0x10000062cc00008080088d70210 ||| F) s s2 := (((Moves.sub (noteLever_moves ..) (Moves.or_le rfl)).step (State.useCycles_moves ..) (Moves.or_le rfl)).step (State.wr_moves ..) (Moves.or_le rfl))
      clear_value s2
      exact ((Moves.stLeverDone hs2).step (State.retire_moves ..) (Moves.or_le rfl))
    · refine Moves.ite ?_ ?_
      · extract_lets +onlyGivenNames s3
        have hs3 : Moves (0x10000062cc00008080088d70210 ||| F) s s3 := (((Moves.sub (noteLever_moves ..) (Moves.or_le rfl)).step (State.useCycles_moves ..) (Moves.or_le rfl)).step (State.wr_moves ..) (Moves.or_le rfl))
        clear_value s3
        refine Moves.step ?_ (State.retire_moves ..) (Moves.or_le rfl)
        refine Moves.step ?_ (h_run ..) Moves.or_right
        exact Moves.foldl (fun _ _ => (Moves.sub (noteOperand_moves ..) (Moves.or_le rfl))) hs3
      · exact Moves.refl
  · exact Moves.refl


theorem execLogicLever_moves (die : ℕ) (s : State) :
    ∃ t, execLogicLever die s = .next t ∧ Moves 0x10000062cc00008080088d70238 s t := by
  unfold execLogicLever
  refine ⟨_, rfl, ?_⟩
  exact (Moves.sub (State.issue_moves (F := 0x80000000028) (h_run := fun _ _ _ => (Moves.sub (doLogic_moves ..))) ..))


theorem execEdgeLever_moves (die : ℕ) (s : State) :
    ∃ t, execEdgeLever die s = .next t ∧ Moves 0x10000062cc00008080088d70238 s t := by
  unfold execEdgeLever
  refine ⟨_, rfl, ?_⟩
  exact (Moves.sub (State.issue_moves (F := 0x80000000028) (h_run := fun _ _ _ => (Moves.sub (doEdge_moves ..))) ..))


theorem moveWords_moves (die idx : ℕ) (l : Lever) (total a4 : ℕ) (a5 : State) :
    Moves 0x10000062cc00008080088d70238 a5 (moveWords die idx l total a4 a5) := by
  induction a4 generalizing a5 with
  | zero => exact Moves.refl
  | succ n ih =>
    unfold moveWords
    extract_lets +onlyGivenNames b u
    have hu : Moves 0x10000062cc00008080088d70238 a5 u := Moves.ite (Moves.sub (noteLever_moves ..)) Moves.refl
    clear_value u
    extract_lets +onlyGivenNames src dst v
    have hv : Moves 0x10000062cc00008080088d70238 a5 v := Moves.foldl (fun _ _ => (Moves.sub (noteOperand_moves ..))) hu
    clear_value v
    extract_lets +onlyGivenNames d s
    have hs : Moves 0x10000062cc00008080088d70238 a5 s :=
      ((hv.step (doMoveWord_moves ..)).step (State.useCycles_moves ..)).step (State.wr_moves ..)
    clear_value s
    refine Moves.ite (Moves.step hs (State.retire_moves _ _ ⟨s, _, _, _⟩)) ?_
    extract_lets +onlyGivenNames s1
    have hs1 : Moves 0x10000062cc00008080088d70238 a5 s1 := hs.step (State.inc_moves ..)
    clear_value s1
    extract_lets +onlyGivenNames s2
    have hs2 : Moves 0x10000062cc00008080088d70238 a5 s2 := by
      unfold s2
      split
      · exact hs1.step (State.leverFault_moves ..)
      · exact hs1
    clear_value s2
    exact Moves.ite (hs2.step (State.stopSbox_moves ..)) ((hs2.step (State.setSbox_moves ..)).trans (ih ..))


theorem execMoveLever_moves (die : ℕ) (s : State) :
    ∃ t, execMoveLever die s = .next t ∧ Moves 0x10000062cc00008080088d70238 s t := by
  unfold execMoveLever
  extract_lets +onlyGivenNames v0
  extract_lets +onlyGivenNames v1
  extract_lets +onlyGivenNames v2
  refine ⟨_, rfl, ?_⟩
  refine Moves.ite ?_ ?_
  · refine Moves.ite ?_ ?_
    · exact (Moves.sub (State.issue_moves (F := 0x0) (h_run := fun _ _ _ => Moves.refl) ..))
    · refine Moves.ite ?_ ?_
      · exact (Moves.sub (moveWords_moves ..))
      · exact Moves.refl
  · exact Moves.refl


theorem execPack_moves (die : ℕ) (s : State) :
    ∃ t, execPack die s = .next t ∧ Moves 0x10000062cc00008080088d70238 s t := by
  unfold execPack
  refine ⟨_, rfl, ?_⟩
  exact (Moves.sub (State.issue_moves (F := 0x80000000028) (h_run := fun _ _ _ => (Moves.sub (doPack_moves ..))) ..))


theorem execUnpack_moves (die : ℕ) (s : State) :
    ∃ t, execUnpack die s = .next t ∧ Moves 0x10000062cc00008080088d70238 s t := by
  unfold execUnpack
  refine ⟨_, rfl, ?_⟩
  exact (Moves.sub (State.issue_moves (F := 0x80000000028) (h_run := fun _ _ _ => (Moves.sub (doUnpack_moves ..))) ..))


theorem execSkipz_moves (die : ℕ) (s : State) :
    ∃ t, execSkipz die s = .next t ∧ Moves 0x10000062cc00008080088d70210 s t := by
  unfold execSkipz
  refine ⟨_, rfl, ?_⟩
  exact (Moves.sub (State.issue_moves (F := 0x0) (h_run := fun _ _ _ => (Moves.sub (doSkip_moves ..))) ..))


theorem execSkipnz_moves (die : ℕ) (s : State) :
    ∃ t, execSkipnz die s = .next t ∧ Moves 0x10000062cc00008080088d70210 s t := by
  unfold execSkipnz
  refine ⟨_, rfl, ?_⟩
  exact (Moves.sub (State.issue_moves (F := 0x0) (h_run := fun _ _ _ => (Moves.sub (doSkip_moves ..))) ..))


theorem execTstart_moves (die : ℕ) (s : State) :
    ∃ t, execTstart die s = .next t ∧ Moves 0x10000062cc0000808008ad70210 s t := by
  unfold execTstart
  refine ⟨_, rfl, ?_⟩
  exact (Moves.sub (State.issue_moves (F := 0x80002000000) (h_run := fun _ _ _ => (Moves.sub (doTstart_moves ..))) ..))


theorem execTreset_moves (die : ℕ) (s : State) :
    ∃ t, execTreset die s = .next t ∧ Moves 0x10000062cc0000808008ed70210 s t := by
  unfold execTreset
  refine ⟨_, rfl, ?_⟩
  exact (Moves.sub (State.issue_moves (F := 0x80006000000) (h_run := fun _ _ _ => (Moves.sub (doTreset_moves ..))) ..))


theorem execCup_moves (die : ℕ) (s : State) :
    ∃ t, execCup die s = .next t ∧ Moves 0x10000063cc0000808008cd70210 s t := by
  unfold execCup
  refine ⟨_, rfl, ?_⟩
  exact (Moves.sub (State.issue_moves (F := 0x10000000080004800010) (h_run := fun _ _ _ => (Moves.sub (doCount_moves ..))) ..))


theorem execCdn_moves (die : ℕ) (s : State) :
    ∃ t, execCdn die s = .next t ∧ Moves 0x10000063cc0000808008cd70210 s t := by
  unfold execCdn
  refine ⟨_, rfl, ?_⟩
  exact (Moves.sub (State.issue_moves (F := 0x10000000080004800010) (h_run := fun _ _ _ => (Moves.sub (doCount_moves ..))) ..))


theorem endSync_moves (s : State) (die waited : ℕ) :
    Moves 0x8000000080000000010 s (endSync s die waited) := by
  unfold endSync
  exact (((Moves.sub (F := 0x8000000080000000010) (State.add_moves ..) (Moves.at 11 rfl)).step (State.wrMax_moves ..) (Moves.at 11 rfl)).step (State.wr_moves ..) (Moves.at 11 rfl))


theorem syncOut_moves (s : State) (die waited : ℕ) (l : Lever) :
    Moves 0x8000000080000000010 s (syncOut s die waited l).st := by
  unfold syncOut
  refine Moves.stLeverDone ?_
  exact (Moves.sub (endSync_moves ..))


theorem execSyncLever_moves (die : ℕ) (s : State) :
    ∃ t, execSyncLever die s = .next t ∧ Moves 0x10000062cc00008080088d70210 s t := by
  unfold execSyncLever
  extract_lets +onlyGivenNames v0
  extract_lets +onlyGivenNames v1
  refine ⟨_, rfl, ?_⟩
  refine Moves.ite ?_ ?_
  · exact ((((Moves.sub (State.useCycles_moves ..)).step (State.wr_moves ..) (Moves.at 11 rfl)).step (State.wr_moves ..) (Moves.at 11 rfl)).step (State.setSbox_moves ..))
  · exact (Moves.sub (State.issue_moves (F := 0x8000000080000000010) (h_run := by
          intro z2 z3 z4
          refine Moves.iteF (g := LeverDone.st) ?_ ?_
          · exact Moves.refl
          · refine Moves.iteF (g := LeverDone.st) ?_ ?_
            · exact (Moves.sub (syncOut_moves ..))
            · refine Moves.stLeverDone ?_
              exact (Moves.sub (endSync_moves ..))) ..))


theorem execSyncTimeout_moves (die : ℕ) (s : State) :
    ∃ t, execSyncTimeout die s = .next t ∧ Moves 0x10000062cc00008080088d70210 s t := by
  unfold execSyncTimeout
  extract_lets +onlyGivenNames v0
  refine ⟨_, rfl, ?_⟩
  exact (Moves.sub (State.issue_moves (F := 0x8000000080000000010) (h_run := fun _ _ _ => (Moves.sub (syncOut_moves ..))) ..))


theorem execNopLever_moves (die : ℕ) (s : State) :
    ∃ t, execNopLever die s = .next t ∧ Moves 0x10000062cc00008080088d70210 s t := by
  unfold execNopLever
  refine ⟨_, rfl, ?_⟩
  exact (Moves.sub (State.issue_moves (F := 0x0) (h_run := fun _ _ _ => Moves.refl) ..))


theorem execEndLever_moves (die : ℕ) (s : State) :
    ∃ t, execEndLever die s = .next t ∧ Moves 0x10000062cc00008080088d70210 s t := by
  unfold execEndLever
  refine ⟨_, rfl, ?_⟩
  exact (Moves.sub (State.issue_moves (F := 0x8000000080000000010) (h_run := by
          intro z0 z1 z2
          refine Moves.iteF (g := LeverDone.st) ?_ ?_
          · exact Moves.refl
          · refine Moves.stLeverDone ?_
            exact (Moves.sub (State.incWrap_moves ..) (Moves.at 11 rfl))) ..))


theorem execIllegalOp_moves (die : ℕ) (s : State) :
    ∃ t, execIllegalOp die s = .next t ∧ Moves 0x10000062cc00008080088d70210 s t := by
  unfold execIllegalOp
  refine ⟨_, rfl, ?_⟩
  exact (Moves.sub (State.issue_moves (F := 0x0) (h_run := fun _ _ _ => Moves.refl) ..))


theorem passGroup_moves (die space word first : ℕ) (s : State) (g : ℕ) :
    Moves 0x80002000000 s (passGroup die space word first s g) := by
  unfold passGroup
  extract_lets +onlyGivenNames v0
  exact (Moves.foldl (fun _ _ => (Moves.sub (State.callTimer_moves ..))) Moves.refl)


theorem State.cutPass_moves (s : State) (die : ℕ) (x : Slot) :
    Moves 0x10000000080002000014 s (State.cutPass s die x) := by
  unfold State.cutPass
  split
  rename_i u0 hq1
  have hd2 := Moves.snd (F := 0x10000000080002000014) (s := s) hq1 (Moves.sub (State.drawFree_moves ..))
  extract_lets +onlyGivenNames v3
  extract_lets +onlyGivenNames v4
  extract_lets +onlyGivenNames v5
  extract_lets +onlyGivenNames v6
  extract_lets +onlyGivenNames s7
  have hs7 : Moves 0x10000000080002000014 s s7 := (Moves.foldl (fun _ _ => (Moves.sub (passGroup_moves ..))) hd2)
  clear_value s7
  exact ((hs7.step (State.add_moves ..) (Moves.at 12 rfl)).step (State.wr_moves ..) (Moves.at 12 rfl))


theorem execAdvancePassEnd_moves (die stalls : ℕ) (s : State) :
    ∃ t, execAdvancePassEnd die stalls s = .next t ∧ Moves 0x3c000008080002170010 s t := by
  unfold execAdvancePassEnd
  refine ⟨_, rfl, ?_⟩
  split
  · refine Moves.ite ?_ ?_
    · extract_lets +onlyGivenNames v0
      extract_lets +onlyGivenNames v1
      extract_lets +onlyGivenNames v2
      extract_lets +onlyGivenNames v3
      refine Moves.ite ?_ ?_
      · extract_lets +onlyGivenNames s4
        have hs4 : Moves 0x3c000008080002170010 s s4 := (Moves.foldl (fun _ _ => (Moves.sub (passGroup_moves ..))) Moves.refl)
        clear_value s4
        extract_lets +onlyGivenNames s5
        have hs5 : Moves 0x3c000008080002170010 s s5 := ((hs4.step (State.add_moves ..) (Moves.at 12 rfl)).step (State.useCycles_moves ..))
        clear_value s5
        exact (((hs5.step (State.workDone_moves ..)).step (State.wr_moves ..) (Moves.at 12 rfl)).step (State.irq_moves ..) (Moves.at 12 rfl))
      · exact Moves.refl
    · exact Moves.refl
  · exact Moves.refl


theorem storeMask_moves (s : State) (die i low high : ℕ) :
    Moves 0x8000000080000000010 s (storeMask s die i low high) := by
  unfold storeMask
  exact ((Moves.sub (F := 0x8000000080000000010) (State.wr_moves ..) (Moves.at 11 rfl)).step (State.wr_moves ..) (Moves.at 11 rfl))


theorem Moves.set_28 {F : Nat} {s x : State} {f28 : SMap MaskStage} (h : Moves F s x) (sub : 0x10000000 &&& F = 0x10000000 := by rfl) :
    Moves F s { x with maskStages := f28 } :=
  h.step (G := 0x10000000) ⟨id, Nat.le_refl _, fun p hp => by cases p <;> first | rfl | exact absurd hp (by decide), fun _ _ _ => rfl⟩ sub

theorem maskLow_moves (die i : ℕ) (s : State) (v : ℕ) :
    Moves 0x10000000 s (maskLow die i s v) := by
  unfold maskLow
  exact (Moves.set_28 Moves.refl)


theorem Moves.set_29 {F : Nat} {s x : State} {f29 : SMap (List HeldWrite)} (h : Moves F s x) (sub : 0x20000000 &&& F = 0x20000000 := by rfl) :
    Moves F s { x with heldMasks := f29 } :=
  h.step (G := 0x20000000) ⟨id, Nat.le_refl _, fun p hp => by cases p <;> first | rfl | exact absurd hp (by decide), fun _ _ _ => rfl⟩ sub

theorem holdMask_moves (die : ℕ) (h : HeldWrite) (s : State) :
    Moves 0x20000000 s (holdMask die h s) := by
  unfold holdMask
  exact (Moves.set_29 Moves.refl)


theorem maskHigh_moves (w : Who) (die i : ℕ) (s : State) (v : ℕ) :
    Moves 0x8200000080030001010 s (maskHigh w die i s v) := by
  unfold maskHigh
  extract_lets +onlyGivenNames v0
  extract_lets +onlyGivenNames s1
  have hs1 : Moves 0x8200000080030001010 s s1 := by
    refine Moves.ite ?_ ?_
    · exact Moves.refl
    · exact (Moves.set_28 Moves.refl)
  clear_value s1
  refine Moves.ite ?_ ?_
  · exact (hs1.step (State.heldPage_moves (F := 0x20000000) (h_keep := fun _ => (Moves.sub (holdMask_moves ..))) ..))
  · exact (hs1.step (storeMask_moves ..))


theorem releaseMask_moves (die : ℕ) (s : State) (h : HeldWrite) :
    Moves 0x8200000080000001110 s (releaseMask die s h) := by
  unfold releaseMask
  exact ((Moves.sub (storeMask_moves ..)).step (State.answerPage_moves ..))


theorem execMaskLowWrite_moves (w : Who) (die entry word : ℕ) (s : State) :
    ∃ t, execMaskLowWrite w die entry word s = .next t ∧ Moves 0x218f00000080010000350 s t := by
  unfold execMaskLowWrite
  refine ⟨_, rfl, ?_⟩
  refine Moves.ite ?_ ?_
  · exact (Moves.sub (writeThen_moves (F := 0x10000000) (h_effect := fun _ _ => (Moves.sub (maskLow_moves ..))) ..))
  · exact Moves.refl


theorem execMaskHighWrite_moves (w : Who) (die entry word : ℕ) (s : State) :
    ∃ t, execMaskHighWrite w die entry word s = .next t ∧ Moves 0x218f00000080030001350 s t := by
  unfold execMaskHighWrite
  refine ⟨_, rfl, ?_⟩
  refine Moves.ite ?_ ?_
  · exact (Moves.sub (writeThen_moves (F := 0x8200000080030001010) (h_effect := fun _ _ => (Moves.sub (maskHigh_moves ..))) ..))
  · exact Moves.refl


theorem execMaskStore_moves (die : ℕ) (s : State) :
    ∃ t, execMaskStore die s = .next t ∧ Moves 0x8200000080020001110 s t := by
  unfold execMaskStore
  refine ⟨_, rfl, ?_⟩
  refine Moves.ite ?_ ?_
  · exact Moves.refl
  · extract_lets +onlyGivenNames s0
    have hs0 : Moves 0x8200000080020001110 s s0 := (Moves.foldl (fun _ _ => (Moves.sub (releaseMask_moves ..))) Moves.refl)
    clear_value s0
    exact (Moves.set_29 hs0)


theorem sboxClr_moves (die : ℕ) (s : State) (v : ℕ) :
    Moves 0xffffffffffffffff0000080000000010 s (sboxClr die s v) := by
  unfold sboxClr
  refine Moves.ite ?_ ?_
  · exact (Moves.foldl (fun _ _ => (Moves.sub (State.resetField_moves_any ..))) Moves.refl)
  · exact Moves.refl


theorem execSboxFaultClear_moves (w : Who) (die word : ℕ) (s : State) :
    ∃ t, execSboxFaultClear w die word s = .next t ∧ Moves 0xffffffffffffffff0000080000000350 s t := by
  unfold execSboxFaultClear
  refine ⟨_, rfl, ?_⟩
  refine Moves.ite ?_ ?_
  · exact (Moves.sub (writeThen_moves (F := 0xffffffffffffffff0000080000000010) (h_effect := fun _ _ => (Moves.sub (sboxClr_moves ..))) ..))
  · exact Moves.refl


theorem clearRack_moves (s : State) (die : ℕ) :
    Moves 0x80006000000 s (clearRack s die) := by
  unfold clearRack
  extract_lets +onlyGivenNames s0
  have hs0 : Moves 0x80006000000 s s0 := (Moves.set_25_43 Moves.refl)
  clear_value s0
  exact (Moves.foldl (fun _ _ => (Moves.sub (State.setCounter_moves ..))) hs0)


theorem Moves.set_30 {F : Nat} {s x : State} {f30 : SMap (List HeldWrite)} (h : Moves F s x) (sub : 0x40000000 &&& F = 0x40000000 := by rfl) :
    Moves F s { x with heldTimr := f30 } :=
  h.step (G := 0x40000000) ⟨id, Nat.le_refl _, fun p hp => by cases p <;> first | rfl | exact absurd hp (by decide), fun _ _ _ => rfl⟩ sub

theorem holdTimr_moves (die : ℕ) (h : HeldWrite) (s : State) :
    Moves 0x40000000 s (holdTimr die h s) := by
  unfold holdTimr
  exact (Moves.set_30 Moves.refl)


theorem timrWrite_moves (w : Who) (die off word : ℕ) (s : State) :
    Moves 0xffffffffffffffff0000080046001350 s (timrWrite w die off word s) := by
  unfold timrWrite
  extract_lets +onlyGivenNames r0
  have hr0 : Moves 0xffffffffffffffff0000080046001350 s r0.st := (Moves.sub (pageWrite_moves ..))
  clear_value r0
  split
  · exact hr0
  · refine Moves.ite ?_ ?_
    · extract_lets +onlyGivenNames v1
      extract_lets +onlyGivenNames s2
      have hs2 : Moves 0xffffffffffffffff0000080046001350 s s2 := by
        refine Moves.foldl (fun t3 x4 => ?_) ?_
        · refine Moves.ite ?_ ?_
          · exact (Moves.sub (State.wr_moves_any ..))
          · exact Moves.refl
        · exact hr0
      clear_value s2
      exact (hs2.step (State.heldPage_moves (F := 0x40000000) (h_keep := fun _ => (Moves.sub (holdTimr_moves ..))) ..))
    · refine Moves.ite ?_ ?_
      · exact (hr0.step (clearRack_moves ..))
      · exact hr0


theorem execTimrClear_moves (w : Who) (die word : ℕ) (s : State) :
    ∃ t, execTimrClear w die word s = .next t ∧ Moves 0xffffffffffffffff0000080046001350 s t := by
  unfold execTimrClear
  refine ⟨_, rfl, ?_⟩
  refine Moves.ite ?_ ?_
  · exact (Moves.sub (timrWrite_moves ..))
  · exact Moves.refl


theorem applyTimr_moves (die : ℕ) (s : State) (h : HeldWrite) :
    Moves 0xffffffffffffffff0000080006001110 s (applyTimr die s h) := by
  unfold applyTimr
  refine Moves.step ?_ (State.answerPage_moves ..)
  refine Moves.ite ?_ ?_
  · refine Moves.ite ?_ ?_
    · exact (Moves.sub (clearRack_moves ..))
    · exact Moves.refl
  · exact (Moves.foldl (fun _ _ => (Moves.sub (State.wr_moves_any ..))) Moves.refl)


theorem execTimrConfigApply_moves (die : ℕ) (s : State) :
    ∃ t, execTimrConfigApply die s = .next t ∧ Moves 0xffffffffffffffff0000080046001110 s t := by
  unfold execTimrConfigApply
  refine ⟨_, rfl, ?_⟩
  refine Moves.ite ?_ ?_
  · exact Moves.refl
  · extract_lets +onlyGivenNames s0
    have hs0 : Moves 0xffffffffffffffff0000080046001110 s s0 := (Moves.foldl (fun _ _ => (Moves.sub (applyTimr_moves ..))) Moves.refl)
    clear_value s0
    exact (Moves.set_30 hs0)


theorem dbgWatch_moves (die : ℕ) (s : State) (v : ℕ) :
    Moves 0x400000000080000000010 s (dbgWatch die s v) := by
  unfold dbgWatch
  refine Moves.ite ?_ ?_
  · exact (Moves.sub (State.wr_moves ..) (Moves.at 18 rfl))
  · exact Moves.refl


theorem execWatchClear_moves (w : Who) (die word : ℕ) (s : State) :
    ∃ t, execWatchClear w die word s = .next t ∧ Moves 0x610f00000080000000350 s t := by
  unfold execWatchClear
  refine ⟨_, rfl, ?_⟩
  refine Moves.ite ?_ ?_
  · exact (Moves.sub (writeThen_moves (F := 0x400000000080000000010) (h_effect := fun _ _ => (Moves.sub (dbgWatch_moves ..))) ..))
  · exact Moves.refl


theorem State.setPoint_moves (s : State) (base : ℕ) (analogue : Bool) (p v : ℕ) :
    Moves 0x80000000028 s (State.setPoint s base analogue p v) := by
  unfold State.setPoint
  refine Moves.ite ?_ ?_
  · exact (Moves.sub (State.store_moves ..))
  · extract_lets +onlyGivenNames v0
    exact (Moves.sub (State.storeByte_moves ..))


theorem State.putRun_moves (s : State) (base : ℕ) (e : CatEntry) (v : ℕ → ℕ) :
    Moves 0x80000000028 s (State.putRun s base e v) := by
  unfold State.putRun
  exact (Moves.foldl (fun _ _ => (Moves.sub (State.setPoint_moves ..))) Moves.refl)


theorem State.bindInputs_moves (s : State) (base n : ℕ) (pay : List Byte) :
    Moves 0x80000000028 s (State.bindInputs s base n pay) := by
  unfold State.bindInputs
  exact (Moves.foldl (fun _ _ => (Moves.sub (State.putRun_moves ..))) Moves.refl)


theorem State.substitute_moves (s : State) (n : ℕ) :
    Moves 0x80000000028 s (State.substitute s n) := by
  unfold State.substitute
  refine Moves.foldl (fun t0 x1 => ?_) ?_
  · split
    · exact (Moves.sub (State.putRun_moves ..))
    · exact (Moves.sub (State.putRun_moves ..))
    · exact Moves.refl
  · exact Moves.refl


theorem State.loopbacks_moves (s : State) :
    Moves 0x10000000000080000000038 s (State.loopbacks s) := by
  unfold State.loopbacks
  refine Moves.foldl (fun t0 x1 => ?_) ?_
  · extract_lets +onlyGivenNames v2
    exact ((Moves.sub (F := 0x10000000000080000000038) (State.add_moves ..) (Moves.at 24 rfl)).step (State.bindInputs_moves ..))
  · exact Moves.refl


theorem State.spreadWord_moves (s : State) (die w : ℕ) :
    Moves 0x200c00000080000000238 s (State.spreadWord s die w) := by
  unfold State.spreadWord
  extract_lets +onlyGivenNames v0
  extract_lets +onlyGivenNames s1
  have hs1 : Moves 0x200c00000080000000238 s s1 := (Moves.sub (State.noteEcc_moves ..))
  clear_value s1
  refine Moves.ite ?_ ?_
  · exact ((hs1.step (State.store_moves ..)).step (State.store_moves ..))
  · exact (hs1.step (State.storeQuiet_moves ..))


theorem State.gatherUnit_moves (s : State) (die own dst n : ℕ) :
    Moves 0x200c00000080000000238 s (State.gatherUnit s die own dst n) := by
  unfold State.gatherUnit
  extract_lets +onlyGivenNames s0
  have hs0 : Moves 0x200c00000080000000238 s s0 := (Moves.sub (State.noteEcc_moves ..))
  clear_value s0
  refine Moves.ite ?_ ?_
  · exact hs0
  · exact (hs0.step (State.store_moves ..))


theorem State.gatherDie_moves (s : State) (dst die : ℕ) :
    Moves 0x200c00000080000000238 s (State.gatherDie s dst die) := by
  unfold State.gatherDie
  refine Moves.ite ?_ ?_
  · exact Moves.refl
  · refine Moves.foldl (fun t0 x1 => ?_) ?_
    · refine Moves.ite ?_ ?_
      · exact (Moves.foldl (fun _ _ => (Moves.sub (State.gatherUnit_moves ..))) Moves.refl)
      · exact (Moves.foldl (fun _ _ => (Moves.sub (State.gatherUnit_moves ..))) Moves.refl)
    · exact Moves.refl


theorem State.gatherAll_moves (s : State) :
    Moves 0x200c00000080000000238 s (State.gatherAll s) := by
  unfold State.gatherAll
  extract_lets +onlyGivenNames v0
  exact (Moves.foldl (fun _ _ => (Moves.sub (State.gatherDie_moves ..))) (Moves.sub (State.copyMem_moves ..)))


theorem State.fillDelta_moves (s : State) (words : List ℕ) :
    Moves 0x80000000028 s (State.fillDelta s words) := by
  unfold State.fillDelta
  refine Moves.foldl (fun t0 x1 => ?_) ?_
  · extract_lets +onlyGivenNames v2
    exact (Moves.sub (State.storeByte_moves ..))
  · exact (Moves.sub (State.clearMem_moves ..))


theorem State.exchangeBuffers_moves (s : State) :
    Moves 0x200000000000000080000000038 s (State.exchangeBuffers s) := by
  unfold State.exchangeBuffers
  extract_lets +onlyGivenNames s0
  have hs0 : Moves 0x200000000000000080000000038 s s0 := (Moves.sub (State.fillDelta_moves ..))
  clear_value s0
  exact (hs0.step (State.wrB_moves ..) (Moves.at 41 rfl))


theorem State.enterMode_moves (s : State) (m : ℕ) :
    Moves 0x80000000000000080000000010 s (State.enterMode s m) := by
  unfold State.enterMode
  exact (((Moves.sub (F := 0x80000000000000080000000010) (State.wr_moves ..) (Moves.at 39 rfl)).step (State.inc_moves ..) (Moves.at 39 rfl)).step (State.irq_moves ..) (Moves.at 39 rfl))


theorem Moves.set_21 {F : Nat} {s x : State} {f21 : Prog} (h : Moves F s x) (sub : 0x200000 &&& F = 0x200000 := by rfl) :
    Moves F s { x with prog := f21 } :=
  h.step (G := 0x200000) ⟨id, Nat.le_refl _, fun p hp => by cases p <;> first | rfl | exact absurd hp (by decide), fun _ _ _ => rfl⟩ sub

theorem State.clearRequest_moves (s : State) :
    Moves 0x80000000000000080000200010 s (State.clearRequest s) := by
  unfold State.clearRequest
  extract_lets +onlyGivenNames s0
  have hs0 : Moves 0x80000000000000080000200010 s s0 := (((Moves.sub (F := 0x80000000000000080000200010) (State.wr_moves ..) (Moves.at 39 rfl)).step (State.wr_moves ..) (Moves.at 39 rfl)).step (State.wr_moves ..) (Moves.at 39 rfl))
  clear_value s0
  exact (Moves.set_21 hs0)


theorem Moves.set_40 {F : Nat} {s x : State} {f40 : Change} (h : Moves F s x) (sub : 0x10000000000 &&& F = 0x10000000000 := by rfl) :
    Moves F s { x with change := f40 } :=
  h.step (G := 0x10000000000) ⟨id, Nat.le_refl _, fun p hp => by cases p <;> first | rfl | exact absurd hp (by decide), fun _ _ _ => rfl⟩ sub

theorem State.enterStop_moves (s : State) (cause : ℕ) :
    Moves 0x80000000000000090000204010 s (State.enterStop s cause) := by
  unfold State.enterStop
  extract_lets +onlyGivenNames s0
  have hs0 : Moves 0x80000000000000090000204010 s s0 := ((Moves.sub (State.clearRequest_moves ..)).step (State.wr_moves ..) (Moves.at 39 rfl))
  clear_value s0
  extract_lets +onlyGivenNames v1
  extract_lets +onlyGivenNames s2
  have hs2 : Moves 0x80000000000000090000204010 s s2 := by
    refine Moves.ite ?_ ?_
    · exact hs0
    · exact (Moves.set_40 hs0)
  clear_value s2
  refine Moves.ite ?_ ?_
  · exact hs2
  · exact (((hs2.step (State.enterMode_moves ..)).step (State.irq_moves ..) (Moves.at 39 rfl)).step (State.routerEdges_moves ..))


theorem Moves.set_34 {F : Nat} {s x : State} {f34 : Bool} (h : Moves F s x) (sub : 0x400000000 &&& F = 0x400000000 := by rfl) :
    Moves F s { x with forcedStop := f34 } :=
  h.step (G := 0x400000000) ⟨id, Nat.le_refl _, fun p hp => by cases p <;> first | rfl | exact absurd hp (by decide), fun _ _ _ => rfl⟩ sub

theorem State.enterRun_moves (s : State) :
    Moves 0x4000000080400000010 s (State.enterRun s) := by
  unfold State.enterRun
  extract_lets +onlyGivenNames s0
  have hs0 : Moves 0x4000000080400000010 s s0 := (Moves.foldl (fun _ _ => (Moves.sub (State.wr_moves ..) (Moves.at 10 rfl))) Moves.refl)
  clear_value s0
  exact (Moves.set_34 hs0)


theorem State.hotLost_moves (s : State) :
    Moves 0x80000000000000080000000010 s (State.hotLost s) := by
  unfold State.hotLost
  exact (Moves.sub (State.wr_moves ..) (Moves.at 39 rfl))


theorem State.modeRequest_moves (s : State) (cmd kind : ℕ) :
    Moves 0x80000000000000080000200010 s (State.modeRequest s cmd kind) := by
  unfold State.modeRequest
  refine Moves.ite ?_ ?_
  · exact Moves.refl
  · split
    · exact ((((Moves.sub (F := 0x80000000000000080000200010) (State.wr_moves ..) (Moves.at 39 rfl)).step (State.wr_moves ..) (Moves.at 39 rfl)).step (State.inc_moves ..) (Moves.at 39 rfl)).step (State.irq_moves ..) (Moves.at 39 rfl))
    · extract_lets +onlyGivenNames v0
      extract_lets +onlyGivenNames s1
      have hs1 : Moves 0x80000000000000080000200010 s s1 := (((Moves.sub (F := 0x80000000000000080000200010) (State.wr_moves ..) (Moves.at 39 rfl)).step (State.wr_moves ..) (Moves.at 39 rfl)).step (State.wrB_moves ..) (Moves.at 39 rfl))
      clear_value s1
      exact (Moves.set_21 hs1)


theorem State.hotAtTick_moves (s : State) :
    Moves 0x80000000000000080000000010 s (State.hotAtTick s) := by
  unfold State.hotAtTick
  refine Moves.ite ?_ ?_
  · exact (Moves.sub (State.wr_moves ..) (Moves.at 39 rfl))
  · exact Moves.refl


theorem State.modeAtTick_moves (s : State) :
    Moves 0x80000004000000080400200010 s (State.modeAtTick s) := by
  unfold State.modeAtTick
  extract_lets +onlyGivenNames v0
  refine Moves.ite ?_ ?_
  · exact (Moves.sub (State.enterMode_moves ..))
  · refine Moves.ite ?_ ?_
    · split
      · refine Moves.ite ?_ ?_
        · extract_lets +onlyGivenNames s1
          have hs1 : Moves 0x80000004000000080400200010 s s1 := (Moves.sub (State.clearRequest_moves ..))
          clear_value s1
          extract_lets +onlyGivenNames s2
          have hs2 : Moves 0x80000004000000080400200010 s s2 := ((hs1.step (State.wr_moves ..) (Moves.at 39 rfl)).step (State.wr_moves ..) (Moves.at 39 rfl))
          clear_value s2
          extract_lets +onlyGivenNames v3
          extract_lets +onlyGivenNames s4
          have hs4 : Moves 0x80000004000000080400200010 s s4 := (Moves.set_21 hs2)
          clear_value s4
          refine Moves.ite ?_ ?_
          · exact ((hs4.step (State.enterRun_moves ..)).step (State.enterMode_moves ..))
          · exact (hs4.step (State.enterMode_moves ..))
        · exact Moves.refl
      · exact Moves.refl
    · refine Moves.ite ?_ ?_
      · clear_value v0
        split
        · exact (((Moves.sub (State.clearRequest_moves ..)).step (State.enterRun_moves ..)).step (State.enterMode_moves ..))
        · exact ((Moves.sub (F := 0x80000004000000080400200010) (State.inc_moves ..) (Moves.at 39 rfl)).step (State.enterMode_moves ..))
        · exact Moves.refl
      · exact Moves.refl


theorem State.restoreGroup_moves (s : State) (die g a : ℕ) :
    Moves 0x80004000000 s (State.restoreGroup s die g a) := by
  unfold State.restoreGroup
  refine Moves.foldl (fun t0 x1 => ?_) ?_
  · extract_lets +onlyGivenNames v2
    extract_lets +onlyGivenNames v3
    exact (Moves.sub (State.setCounter_moves ..))
  · exact Moves.refl


theorem State.restoreRegion_moves (s : State) (e : ℕ × ℕ × ℕ × ℕ) (a : ℕ) :
    Moves 0x80004000028 s (State.restoreRegion s e a) := by
  unfold State.restoreRegion
  split
  refine Moves.ite ?_ ?_
  · exact Moves.refl
  · split
    · exact (Moves.sub (State.copyMem_moves ..))
    · exact (Moves.sub (State.copyMem_moves ..))
    · exact (Moves.foldl (fun _ _ => (Moves.sub (State.restoreGroup_moves ..))) Moves.refl)
    · exact Moves.refl


theorem State.restoreRecord_moves (s : State) (b : ℕ) :
    Moves 0x80004000028 s (State.restoreRecord s b) := by
  unfold State.restoreRecord
  extract_lets +onlyGivenNames v0
  refine Moves.foldl1 (fun t1 x2 => ?_) ?_
  · dsimp -zeta only
    exact (Moves.sub (State.restoreRegion_moves ..))
  · exact Moves.refl


theorem State.clearBut_moves (s : State) (a n : ℕ) (kept : List (ℕ × ℕ)) :
    Moves 0x80000000028 s (State.clearBut s a n kept) := by
  unfold State.clearBut
  dsimp only
  have hc : Moves 0x80000000028 s (s.clearMem a n) := State.clearMem_moves ..
  refine ⟨fun h => ?_, ?_, fun p hp => ?_, fun w k hk => ?_⟩
  · have hs := hc.sane h
    have hm : SMap.canonical 0 s.mem = true := h.1
    generalize s.clearMem a n = u at hs
    induction kept generalizing u with
    | nil => exact hs
    | cons r l ih =>
      refine ih _ ⟨SMap.canonical_splice hs.1 (SMap.canonical_filter _ hm) (fun e he => (SMap.mem_slice he).2) (by omega), hs.2⟩
  · have hd := hc.draws
    generalize s.clearMem a n = u at hd
    induction kept generalizing u with
    | nil => exact hd
    | cons r l ih => exact ih _ hd
  · have hd := hc.frame p hp
    generalize s.clearMem a n = u at hd
    induction kept generalizing u with
    | nil => exact hd
    | cons r l ih =>
      refine ih _ ?_
      cases p <;> first | exact hd | exact absurd hp (by decide)
  · have hd := hc.pages w k hk
    generalize s.clearMem a n = u at hd
    induction kept generalizing u with
    | nil => exact hd
    | cons r l ih => exact ih _ hd


theorem State.prepareDie_moves (s : State) (die : ℕ) (cold ram : Bool) :
    Moves 0x4000000080006000038 s (State.prepareDie s die cold ram) := by
  unfold State.prepareDie
  extract_lets +onlyGivenNames f0
  have hf0 : ∀ y1 y2, Moves 0x4000000080006000038 y1 (f0 y1 y2) := by
    intro y1 y2
    exact (Moves.sub (State.clearMem_moves ..))
  clear_value f0
  extract_lets +onlyGivenNames s3
  have hs3 : Moves 0x4000000080006000038 s s3 := ((hf0 ..).trans (hf0 ..))
  clear_value s3
  extract_lets +onlyGivenNames s4
  have hs4 : Moves 0x4000000080006000038 s s4 := (hs3.step (State.clearBut_moves ..))
  clear_value s4
  extract_lets +onlyGivenNames s5
  have hs5 : Moves 0x4000000080006000038 s s5 := (hs4.step (State.clearMem_moves ..))
  clear_value s5
  extract_lets +onlyGivenNames s6
  have hs6 : Moves 0x4000000080006000038 s s6 := (hs5.step (State.clearBut_moves ..))
  clear_value s6
  extract_lets +onlyGivenNames s7
  have hs7 : Moves 0x4000000080006000038 s s7 := by
    refine Moves.ite ?_ ?_
    · exact (hs6.step (clearRack_moves ..))
    · exact hs6
  clear_value s7
  exact (Moves.foldl (fun _ _ => (Moves.sub (State.wr_moves ..) (Moves.at 10 rfl))) hs7)


theorem State.discardTriggers_moves (s : State) :
    Moves 0x100000000000000080080000010 s (State.discardTriggers s) := by
  unfold State.discardTriggers
  extract_lets +onlyGivenNames s0
  have hs0 : Moves 0x100000000000000080080000010 s s0 := (Moves.foldl (fun _ _ => (((Moves.sub (F := 0x100000000000000080080000010) (State.wr_moves ..) (Moves.at 40 rfl)).step (State.wr_moves ..) (Moves.at 40 rfl)).step (State.wr_moves ..) (Moves.at 40 rfl))) Moves.refl)
  clear_value s0
  exact (Moves.set_31 hs0)


theorem State.setTorn_moves (s : State) (m : ℕ) :
    Moves 0x100000000000000080000000010 s (State.setTorn s m) := by
  unfold State.setTorn
  exact (Moves.foldl (fun _ _ => (Moves.sub (State.wrB_moves ..) (Moves.at 40 rfl))) Moves.refl)


theorem State.prepare_moves (s : State) (kind : ℕ) :
    Moves 0x300000006000000080086000038 s (State.prepare s kind) := by
  unfold State.prepare
  extract_lets +onlyGivenNames s0
  have hs0 : Moves 0x300000006000000080086000038 s s0 := ((Moves.sub (State.discardTriggers_moves ..)).step (State.setTorn_moves ..))
  clear_value s0
  extract_lets +onlyGivenNames s1
  have hs1 : Moves 0x300000006000000080086000038 s s1 := by
    refine Moves.ite ?_ ?_
    · exact hs0
    · exact (((hs0.step (State.wr2_moves ..) (Moves.at 9 rfl)).step (State.wr2_moves ..) (Moves.at 9 rfl)).step (State.wr2_moves ..) (Moves.at 9 rfl))
  clear_value s1
  refine Moves.ite ?_ ?_
  · exact hs1
  · extract_lets +onlyGivenNames v2
    extract_lets +onlyGivenNames s3
    have hs3 : Moves 0x300000006000000080086000038 s s3 := (Moves.foldl (fun _ _ => (Moves.sub (State.prepareDie_moves ..))) hs1)
    clear_value s3
    extract_lets +onlyGivenNames s4
    have hs4 : Moves 0x300000006000000080086000038 s s4 := (Moves.foldl (fun _ _ => (Moves.sub (State.wr_moves ..) (Moves.at 40 rfl))) hs3)
    clear_value s4
    refine Moves.ite ?_ ?_
    · exact hs4
    · extract_lets +onlyGivenNames s5
      have hs5 : Moves 0x300000006000000080086000038 s s5 := (hs4.step (State.wr_moves ..) (Moves.at 41 rfl))
      clear_value s5
      extract_lets +onlyGivenNames s6
      have hs6 : Moves 0x300000006000000080086000038 s s6 := by
        refine Moves.ite ?_ ?_
        · exact (hs4.step (State.wr_moves ..) (Moves.at 41 rfl))
        · split
          · exact ((hs5.step (State.restoreRecord_moves ..)).step (State.setTorn_moves ..))
          · exact hs5
      clear_value s6
      exact (hs6.step (State.irq_moves ..) (Moves.at 41 rfl))


theorem modeReq_moves (s : State) (v : ℕ) :
    Moves 0x80000000000000080000200010 s (modeReq s v) := by
  unfold modeReq
  exact (Moves.sub (State.modeRequest_moves ..))


theorem execModeStop_moves (w : Who) (s : State) :
    ∃ t, execModeStop w s = .next t ∧ Moves 0x80000210f00000080000200350 s t := by
  unfold execModeStop
  refine ⟨_, rfl, ?_⟩
  exact (Moves.sub (writeThen_moves (F := 0x80000000000000080000200010) (h_effect := fun _ _ => (Moves.sub (modeReq_moves ..))) ..))


theorem execModeRun_moves (w : Who) (start : ℕ) (s : State) :
    ∃ t, execModeRun w start s = .next t ∧ Moves 0x80000210f00000080000200350 s t := by
  unfold execModeRun
  refine ⟨_, rfl, ?_⟩
  exact (Moves.sub (writeThen_moves (F := 0x80000000000000080000200010) (h_effect := fun _ _ => (Moves.sub (modeReq_moves ..))) ..))


theorem execModeHold_moves (w : Who) (start : ℕ) (s : State) :
    ∃ t, execModeHold w start s = .next t ∧ Moves 0x80000210f00000080000200350 s t := by
  unfold execModeHold
  refine ⟨_, rfl, ?_⟩
  exact (Moves.sub (writeThen_moves (F := 0x80000000000000080000200010) (h_effect := fun _ _ => (Moves.sub (modeReq_moves ..))) ..))


theorem execModeStep_moves (w : Who) (s : State) :
    ∃ t, execModeStep w s = .next t ∧ Moves 0x80000210f00000080000200350 s t := by
  unfold execModeStep
  refine ⟨_, rfl, ?_⟩
  exact (Moves.sub (writeThen_moves (F := 0x80000000000000080000200010) (h_effect := fun _ _ => (Moves.sub (modeReq_moves ..))) ..))


theorem execStartPreparationEnd_moves (s : State) :
    ∃ t, execStartPreparationEnd s = .next t ∧ Moves 0x380000006000000080086200038 s t := by
  unfold execStartPreparationEnd
  refine ⟨_, rfl, ?_⟩
  refine Moves.ite ?_ ?_
  · extract_lets +onlyGivenNames s0
    have hs0 : Moves 0x380000006000000080086200038 s s0 := ((Moves.sub (State.prepare_moves ..)).step (State.wr_moves ..) (Moves.at 39 rfl))
    clear_value s0
    exact (Moves.set_21 hs0)
  · exact Moves.refl


theorem execPowerupRunRequest_moves (s : State) :
    ∃ t, execPowerupRunRequest s = .next t ∧ Moves 0x80000200400000080000200210 s t := by
  unfold execPowerupRunRequest
  extract_lets +onlyGivenNames v0
  refine ⟨_, rfl, ?_⟩
  refine Moves.ite ?_ ?_
  · extract_lets +onlyGivenNames v1
    extract_lets +onlyGivenNames s2
    have hs2 : Moves 0x80000200400000080000200210 s s2 := (Moves.set_21 Moves.refl)
    clear_value s2
    refine Moves.ite ?_ ?_
    · exact hs2
    · extract_lets +onlyGivenNames v3
      split
      · exact ((hs2.step (State.modeRequest_moves ..)).step (State.archive_moves ..))
      · exact (hs2.step (State.modeRequest_moves ..))
  · exact Moves.refl


theorem execSafeImageLoaded_moves (s : State) :
    ∃ t, execSafeImageLoaded s = .next t ∧ Moves 0x200000000000000080000000038 s t := by
  unfold execSafeImageLoaded
  refine ⟨_, rfl, ?_⟩
  refine Moves.ite ?_ ?_
  · extract_lets +onlyGivenNames s0
    have hs0 : Moves 0x200000000000000080000000038 s s0 := (Moves.sub (State.copyMem_moves ..))
    clear_value s0
    extract_lets +onlyGivenNames s1
    have hs1 : Moves 0x200000000000000080000000038 s s1 := ((hs0.step (State.wr_moves ..) (Moves.at 41 rfl)).step (State.wr_moves ..) (Moves.at 41 rfl))
    clear_value s1
    exact ((hs1.step (State.wr_moves ..) (Moves.at 41 rfl)).step (State.irq_moves ..) (Moves.at 41 rfl))
  · exact Moves.refl


theorem State.canEntry_moves (s : State) (ch tag : ℕ) :
    Moves 0x600000080000000210 s (State.canEntry s ch tag) := by
  unfold State.canEntry
  exact (Moves.sub (State.hwPost_moves ..))


theorem State.setCanState_moves (s : State) (ch st : ℕ) :
    Moves (0x600000080000000210 ||| Moves.page (33 + ch)) s (State.setCanState s ch st) := by
  unfold State.setCanState
  refine Moves.ite ?_ ?_
  · exact Moves.refl
  · exact (((Moves.sub (F := (0x600000080000000210 ||| Moves.page (33 + ch))) (State.wr_moves ..) (Moves.or_monoC rfl rfl)).step (State.irq_moves ..) (Moves.or_monoC rfl rfl)).step (State.canEntry_moves ..) (Moves.or_le rfl))

theorem State.setCanState_moves_any (s : State) (ch st : ℕ) :
    Moves 0xffffffffffffffff0000080000000210 s (State.setCanState s ch st) :=
  (State.setCanState_moves ..).sub (Moves.page_any rfl)


theorem State.serviceDone_moves (s : State) (ch b st : ℕ) :
    Moves 0x600000081000000610 s (State.serviceDone s ch b st) := by
  unfold State.serviceDone
  split
  · exact Moves.refl
  · extract_lets +onlyGivenNames v0
    extract_lets +onlyGivenNames s1
    have hs1 : Moves 0x600000081000000610 s s1 := (Moves.sub (State.setCan_moves ..))
    clear_value s1
    refine Moves.ite ?_ ?_
    · exact hs1
    · exact (hs1.step (State.putEntry_moves ..))


theorem State.txFinal_moves (s : State) (ch b st : ℕ) :
    Moves (0x600000081000000610 ||| Moves.page (33 + ch)) s (State.txFinal s ch b st) := by
  unfold State.txFinal
  extract_lets +onlyGivenNames s0
  have hs0 : Moves (0x600000081000000610 ||| Moves.page (33 + ch)) s s0 := ((Moves.sub (F := (0x600000081000000610 ||| Moves.page (33 + ch))) (State.wr_moves ..) (Moves.or_monoC rfl rfl)).step (State.clearBits_moves ..) (Moves.or_monoC rfl rfl))
  clear_value s0
  extract_lets +onlyGivenNames s1
  have hs1 : Moves (0x600000081000000610 ||| Moves.page (33 + ch)) s s1 := ((hs0.step (State.irq_moves ..) (Moves.or_monoC rfl rfl)).step (State.canEntry_moves ..) (Moves.or_le rfl))
  clear_value s1
  extract_lets +onlyGivenNames v2
  extract_lets +onlyGivenNames s3
  have hs3 : Moves (0x600000081000000610 ||| Moves.page (33 + ch)) s s3 := by
    refine Moves.ite ?_ ?_
    · exact (hs1.step (State.setCan_moves ..) (Moves.or_le rfl))
    · exact hs1
  clear_value s3
  exact ((hs3.step (State.wrB_moves ..) (Moves.or_monoC rfl rfl)).step (State.serviceDone_moves ..) (Moves.or_le rfl))

theorem State.txFinal_moves_any (s : State) (ch b st : ℕ) :
    Moves 0xffffffffffffffff0000081000000610 s (State.txFinal s ch b st) :=
  (State.txFinal_moves ..).sub (Moves.page_any rfl)


theorem State.cancelAll_moves (s : State) (ch : ℕ) :
    Moves (0x600000081000000610 ||| Moves.page (33 + ch)) s (State.cancelAll s ch) := by
  unfold State.cancelAll
  refine Moves.foldl (fun t0 x1 => ?_) ?_
  · refine Moves.ite ?_ ?_
    · exact (Moves.sub (State.txFinal_moves ..) (Moves.or_mono rfl))
    · exact Moves.refl
  · exact Moves.refl

theorem State.cancelAll_moves_any (s : State) (ch : ℕ) :
    Moves 0xffffffffffffffff0000081000000610 s (State.cancelAll s ch) :=
  (State.cancelAll_moves ..).sub (Moves.page_any rfl)


theorem State.mayBegin_moves (s : State) (ch : ℕ) :
    Moves (0x81000000014 ||| Moves.page (33 + ch)) s (State.mayBegin s ch) := by
  unfold State.mayBegin
  split
  · refine Moves.ite ?_ ?_
    · split
      rename_i u0 hq1
      have hd2 := Moves.snd (F := (0x81000000014 ||| Moves.page (33 + ch))) (s := s) hq1 (Moves.sub (State.drawFree_moves ..) (Moves.or_le rfl))
      refine Moves.ite ?_ ?_
      · exact ((hd2.step (State.setCan_moves ..) (Moves.or_le rfl)).step (State.wr_moves ..) (Moves.or_monoC rfl rfl))
      · exact hd2
    · exact Moves.refl
  · exact Moves.refl

theorem State.mayBegin_moves_any (s : State) (ch : ℕ) :
    Moves 0xffffffffffffffff0000081000000014 s (State.mayBegin s ch) :=
  (State.mayBegin_moves ..).sub (Moves.page_any rfl)


theorem State.txRequest_moves (s : State) (ch b : ℕ) :
    Moves (0x600000081000000614 ||| Moves.page (33 + ch)) s (State.txRequest s ch b) := by
  unfold State.txRequest
  refine Moves.ite ?_ ?_
  · exact Moves.refl
  · refine Moves.ite ?_ ?_
    · exact (Moves.sub (State.txFinal_moves ..) (Moves.or_mono rfl))
    · exact ((Moves.sub (F := (0x600000081000000614 ||| Moves.page (33 + ch))) (State.mayBegin_moves ..) (Moves.or_mono rfl)).step (State.wr_moves ..) (Moves.or_monoC rfl rfl))

theorem State.txRequest_moves_any (s : State) (ch b : ℕ) :
    Moves 0xffffffffffffffff0000081000000614 s (State.txRequest s ch b) :=
  (State.txRequest_moves ..).sub (Moves.page_any rfl)


theorem State.txAbort_moves (s : State) (ch b : ℕ) :
    Moves (0x600000081000000614 ||| Moves.page (33 + ch)) s (State.txAbort s ch b) := by
  unfold State.txAbort
  refine Moves.ite ?_ ?_
  · exact Moves.refl
  · extract_lets +onlyGivenNames s0
    have hs0 : Moves (0x600000081000000614 ||| Moves.page (33 + ch)) s s0 := by
      refine Moves.ite ?_ ?_
      · exact (Moves.sub (State.mayBegin_moves ..) (Moves.or_mono rfl))
      · exact Moves.refl
    clear_value s0
    refine Moves.ite ?_ ?_
    · exact (hs0.step (State.setBits_moves ..) (Moves.or_monoC rfl rfl))
    · exact (hs0.step (State.txFinal_moves ..) (Moves.or_mono rfl))

theorem State.txAbort_moves_any (s : State) (ch b : ℕ) :
    Moves 0xffffffffffffffff0000081000000614 s (State.txAbort s ch b) :=
  (State.txAbort_moves ..).sub (Moves.page_any rfl)


theorem State.loadTxb0_moves (s : State) (ch id : ℕ) (data : List Byte) :
    Moves (0x600000081000000614 ||| Moves.page (33 + ch)) s (State.loadTxb0 s ch id data) := by
  unfold State.loadTxb0
  extract_lets +onlyGivenNames v0
  extract_lets +onlyGivenNames s1
  have hs1 : Moves (0x600000081000000614 ||| Moves.page (33 + ch)) s s1 := ((Moves.sub (F := (0x600000081000000614 ||| Moves.page (33 + ch))) (State.wr_moves ..) (Moves.or_monoC rfl rfl)).step (State.wr_moves ..) (Moves.or_monoC rfl rfl))
  clear_value s1
  extract_lets +onlyGivenNames s2
  have hs2 : Moves (0x600000081000000614 ||| Moves.page (33 + ch)) s s2 := (((hs1.step (State.wr_moves ..) (Moves.or_monoC rfl rfl)).step (State.wr_moves ..) (Moves.or_monoC rfl rfl)).step (State.wr_moves ..) (Moves.or_monoC rfl rfl))
  clear_value s2
  extract_lets +onlyGivenNames s3
  have hs3 : Moves (0x600000081000000614 ||| Moves.page (33 + ch)) s s3 := (hs2.step (State.wr_moves ..) (Moves.or_monoC rfl rfl))
  clear_value s3
  extract_lets +onlyGivenNames s4
  have hs4 : Moves (0x600000081000000614 ||| Moves.page (33 + ch)) s s4 := (Moves.foldl (F := (0x600000081000000614 ||| Moves.page (33 + ch))) (fun _ _ => (Moves.sub (State.wr_moves ..) (Moves.or_monoC rfl rfl))) hs3)
  clear_value s4
  exact (hs4.step (State.txRequest_moves ..) (Moves.or_mono rfl))

theorem State.loadTxb0_moves_any (s : State) (ch id : ℕ) (data : List Byte) :
    Moves 0xffffffffffffffff0000081000000614 s (State.loadTxb0 s ch id data) :=
  (State.loadTxb0_moves ..).sub (Moves.page_any rfl)

theorem State.loadWaiting_moves (s : State) (ch : ℕ) :
    Moves (0x600000081000000614 ||| Moves.page (33 + ch)) s (State.loadWaiting s ch) := by
  unfold State.loadWaiting
  extract_lets +onlyGivenNames v0
  extract_lets +onlyGivenNames v1
  extract_lets +onlyGivenNames s2
  have hs2 : Moves (0x600000081000000614 ||| Moves.page (33 + ch)) s s2 := (Moves.sub (State.setCan_moves ..) (Moves.or_le rfl))
  clear_value s2
  refine Moves.foldl (fun t3 x4 => ?_) ?_
  · refine Moves.ite ?_ ?_
    · exact (Moves.sub (State.setCan_moves ..) (Moves.or_le rfl))
    · exact (Moves.sub (State.loadTxb0_moves ..) (Moves.or_mono rfl))
  · exact hs2

theorem State.loadWaiting_moves_any (s : State) (ch : ℕ) :
    Moves 0xffffffffffffffff0000081000000614 s (State.loadWaiting s ch) :=
  (State.loadWaiting_moves ..).sub (Moves.page_any rfl)

theorem State.canSend_moves (s : State) (ch id : ℕ) (data : List Byte) :
    Moves (0x600000081000000614 ||| Moves.page (33 + ch)) s (State.canSend s ch id data) := by
  unfold State.canSend
  exact ((Moves.sub (F := (0x600000081000000614 ||| Moves.page (33 + ch))) (State.setCan_moves ..) (Moves.or_le rfl)).step (State.loadWaiting_moves ..) (Moves.or_mono rfl))

theorem State.canSend_moves_any (s : State) (ch id : ℕ) (data : List Byte) :
    Moves 0xffffffffffffffff0000081000000614 s (State.canSend s ch id data) :=
  (State.canSend_moves ..).sub (Moves.page_any rfl)

theorem State.txEnds_moves (s : State) (ch b st : ℕ) :
    Moves (0x600000081000000614 ||| Moves.page (33 + ch)) s (State.txEnds s ch b st) := by
  unfold State.txEnds
  exact ((Moves.sub (F := (0x600000081000000614 ||| Moves.page (33 + ch))) (State.txFinal_moves ..) (Moves.or_mono rfl)).step (State.loadWaiting_moves ..) (Moves.or_mono rfl))

theorem State.txEnds_moves_any (s : State) (ch b st : ℕ) :
    Moves 0xffffffffffffffff0000081000000614 s (State.txEnds s ch b st) :=
  (State.txEnds_moves ..).sub (Moves.page_any rfl)

theorem State.canApply_moves (s : State) (ch : ℕ) :
    Moves (0x600000081000000610 ||| Moves.page (33 + ch)) s (State.canApply s ch) := by
  unfold State.canApply
  refine Moves.ite ?_ ?_
  · refine Moves.ite ?_ ?_
    · exact Moves.refl
    · refine Moves.ite ?_ ?_
      · exact ((Moves.sub (F := (0x600000081000000610 ||| Moves.page (33 + ch))) (State.wr_moves ..) (Moves.or_monoC rfl rfl)).step (State.setCanState_moves ..) (Moves.or_mono rfl))
      · exact ((Moves.sub (F := (0x600000081000000610 ||| Moves.page (33 + ch))) (State.wr_moves ..) (Moves.or_monoC rfl rfl)).step (State.irq_moves ..) (Moves.or_monoC rfl rfl))
  · exact ((Moves.sub (F := (0x600000081000000610 ||| Moves.page (33 + ch))) (State.setCanState_moves ..) (Moves.or_mono rfl)).step (State.cancelAll_moves ..) (Moves.or_mono rfl))

theorem State.canApply_moves_any (s : State) (ch : ℕ) :
    Moves 0xffffffffffffffff0000081000000610 s (State.canApply s ch) :=
  (State.canApply_moves ..).sub (Moves.page_any rfl)


theorem State.showFifo_moves (s : State) (ch : ℕ) :
    Moves (0x80000000010 ||| Moves.page (33 + ch)) s (State.showFifo s ch) := by
  unfold State.showFifo
  exact (Moves.sub (State.wr_moves ..) (Moves.or_monoC rfl rfl))

theorem State.showFifo_moves_any (s : State) (ch : ℕ) :
    Moves 0xffffffffffffffff0000080000000010 s (State.showFifo s ch) :=
  (State.showFifo_moves ..).sub (Moves.page_any rfl)


theorem State.unlockRx_moves (s : State) (ch : ℕ) :
    Moves (0x80000000010 ||| Moves.page (33 + ch)) s (State.unlockRx s ch) := by
  unfold State.unlockRx
  exact ((Moves.sub (F := (0x80000000010 ||| Moves.page (33 + ch))) (State.wr_moves ..) (Moves.or_monoC rfl rfl)).step (State.wr_moves ..) (Moves.or_monoC rfl rfl))

theorem State.unlockRx_moves_any (s : State) (ch : ℕ) :
    Moves 0xffffffffffffffff0000080000000010 s (State.unlockRx s ch) :=
  (State.unlockRx_moves ..).sub (Moves.page_any rfl)


theorem State.flushRx_moves (s : State) (ch : ℕ) :
    Moves (0x81000000010 ||| Moves.page (33 + ch)) s (State.flushRx s ch) := by
  unfold State.flushRx
  exact (((Moves.sub (F := (0x81000000010 ||| Moves.page (33 + ch))) (State.setCan_moves ..) (Moves.or_le rfl)).step (State.showFifo_moves ..) (Moves.or_mono rfl)).step (State.unlockRx_moves ..) (Moves.or_mono rfl))

theorem State.flushRx_moves_any (s : State) (ch : ℕ) :
    Moves 0xffffffffffffffff0000081000000010 s (State.flushRx s ch) :=
  (State.flushRx_moves ..).sub (Moves.page_any rfl)


theorem State.popRx_moves (s : State) (ch : ℕ) :
    Moves (0x81000000010 ||| Moves.page (33 + ch)) s (State.popRx s ch) := by
  unfold State.popRx
  exact (((Moves.sub (F := (0x81000000010 ||| Moves.page (33 + ch))) (State.setCan_moves ..) (Moves.or_le rfl)).step (State.showFifo_moves ..) (Moves.or_mono rfl)).step (State.unlockRx_moves ..) (Moves.or_mono rfl))

theorem State.popRx_moves_any (s : State) (ch : ℕ) :
    Moves 0xffffffffffffffff0000081000000010 s (State.popRx s ch) :=
  (State.popRx_moves ..).sub (Moves.page_any rfl)


theorem State.rxRead_moves (s : State) (who ch j : ℕ) :
    Moves (0x81000000010 ||| Moves.page (33 + ch)) s (State.rxRead s who ch j) := by
  unfold State.rxRead
  split
  · exact Moves.refl
  · refine Moves.ite ?_ ?_
    · refine Moves.ite ?_ ?_
      · exact (Moves.sub (State.popRx_moves ..) (Moves.or_mono rfl))
      · exact Moves.refl
    · refine Moves.ite ?_ ?_
      · exact ((Moves.sub (F := (0x81000000010 ||| Moves.page (33 + ch))) (State.wr_moves ..) (Moves.or_monoC rfl rfl)).step (State.wr_moves ..) (Moves.or_monoC rfl rfl))
      · exact Moves.refl

theorem State.rxRead_moves_any (s : State) (who ch j : ℕ) :
    Moves 0xffffffffffffffff0000081000000010 s (State.rxRead s who ch j) :=
  (State.rxRead_moves ..).sub (Moves.page_any rfl)


theorem State.confine_moves (s : State) (ch tec rec : ℕ) :
    Moves (0x200600000081000000610 ||| Moves.page (33 + ch)) s (State.confine s ch tec rec) := by
  unfold State.confine
  extract_lets +onlyGivenNames s0
  have hs0 : Moves (0x200600000081000000610 ||| Moves.page (33 + ch)) s s0 := ((Moves.sub (F := (0x200600000081000000610 ||| Moves.page (33 + ch))) (State.wr_moves ..) (Moves.or_monoC rfl rfl)).step (State.wr_moves ..) (Moves.or_monoC rfl rfl))
  clear_value s0
  refine Moves.ite ?_ ?_
  · extract_lets +onlyGivenNames s1
    have hs1 : Moves (0x200600000081000000610 ||| Moves.page (33 + ch)) s s1 := (((hs0.step (State.setCanState_moves ..) (Moves.or_mono rfl)).step (State.irq_moves ..) (Moves.or_monoC rfl rfl)).step (State.inc_moves ..) (Moves.or_monoC rfl rfl))
    clear_value s1
    extract_lets +onlyGivenNames v2
    extract_lets +onlyGivenNames s3
    have hs3 : Moves (0x200600000081000000610 ||| Moves.page (33 + ch)) s s3 := (hs1.step (State.setCan_moves ..) (Moves.or_le rfl))
    clear_value s3
    exact ((hs3.step (State.cancelAll_moves ..) (Moves.or_mono rfl)).step (State.archive_moves ..) (Moves.or_le rfl))
  · exact (hs0.step (State.setCanState_moves ..) (Moves.or_mono rfl))

theorem State.confine_moves_any (s : State) (ch tec rec : ℕ) :
    Moves 0xffffffffffffffff0000081000000610 s (State.confine s ch tec rec) :=
  (State.confine_moves ..).sub (Moves.page_any rfl)


theorem State.goodReceive_moves (s : State) (ch : ℕ) :
    Moves (0x200600000081000000614 ||| Moves.page (33 + ch)) s (State.goodReceive s ch) := by
  unfold State.goodReceive
  extract_lets +onlyGivenNames v0
  split
  rename_i u1 hq2
  have hd3 := Moves.snd (F := (0x200600000081000000614 ||| Moves.page (33 + ch))) (s := s) hq2 (Moves.sub (State.drawFree_moves ..) (Moves.or_le rfl))
  refine Moves.ite ?_ ?_
  · exact Moves.refl
  · refine Moves.ite ?_ ?_
    · exact (hd3.step (State.confine_moves ..) (Moves.or_mono rfl))
    · exact (Moves.sub (State.confine_moves ..) (Moves.or_mono rfl))

theorem State.goodReceive_moves_any (s : State) (ch : ℕ) :
    Moves 0xffffffffffffffff0000081000000614 s (State.goodReceive s ch) :=
  (State.goodReceive_moves ..).sub (Moves.page_any rfl)


theorem canCtl_moves (ch : ℕ) (pre s : State) (v : ℕ) :
    Moves (0x600000081000000610 ||| Moves.page (33 + ch)) s (canCtl ch pre s v) := by
  unfold canCtl
  extract_lets +onlyGivenNames s0
  have hs0 : Moves (0x600000081000000610 ||| Moves.page (33 + ch)) s s0 := by
    refine Moves.ite ?_ ?_
    · exact (Moves.sub (State.flushRx_moves ..) (Moves.or_mono rfl))
    · exact Moves.refl
  clear_value s0
  extract_lets +onlyGivenNames s1
  have hs1 : Moves (0x600000081000000610 ||| Moves.page (33 + ch)) s s1 := by
    refine Moves.ite ?_ ?_
    · exact (hs0.step (State.setCanState_moves ..) (Moves.or_mono rfl))
    · exact hs0
  clear_value s1
  exact (hs1.step (State.canApply_moves ..) (Moves.or_mono rfl))

theorem canCtl_moves_any (ch : ℕ) (pre s : State) (v : ℕ) :
    Moves 0xffffffffffffffff0000081000000610 s (canCtl ch pre s v) :=
  (canCtl_moves ..).sub (Moves.page_any rfl)


theorem canTxcmd_moves (ch : ℕ) (s : State) (v : ℕ) :
    Moves (0x600000081000000614 ||| Moves.page (33 + ch)) s (canTxcmd ch s v) := by
  unfold canTxcmd
  extract_lets +onlyGivenNames v0
  extract_lets +onlyGivenNames s1
  have hs1 : Moves (0x600000081000000614 ||| Moves.page (33 + ch)) s s1 := (Moves.foldl (fun _ _ => (Moves.sub (State.txRequest_moves ..) (Moves.or_mono rfl))) Moves.refl)
  clear_value s1
  refine Moves.foldl (fun t2 x3 => ?_) ?_
  · refine Moves.ite ?_ ?_
    · exact (Moves.sub (State.txFinal_moves ..) (Moves.or_mono rfl))
    · exact (Moves.sub (State.txAbort_moves ..) (Moves.or_mono rfl))
  · exact hs1

theorem canTxcmd_moves_any (ch : ℕ) (s : State) (v : ℕ) :
    Moves 0xffffffffffffffff0000081000000614 s (canTxcmd ch s v) :=
  (canTxcmd_moves ..).sub (Moves.page_any rfl)


theorem canSoftReset_moves (s : State) (ch : ℕ) :
    Moves (0x600000081000000610 ||| Moves.page (33 + ch)) s (canSoftReset s ch) := by
  unfold canSoftReset
  exact (((Moves.sub (F := (0x600000081000000610 ||| Moves.page (33 + ch))) (State.cancelAll_moves ..) (Moves.or_mono rfl)).step (State.flushRx_moves ..) (Moves.or_mono rfl)).step (State.setCanState_moves ..) (Moves.or_mono rfl))

theorem canSoftReset_moves_any (s : State) (ch : ℕ) :
    Moves 0xffffffffffffffff0000081000000610 s (canSoftReset s ch) :=
  (canSoftReset_moves ..).sub (Moves.page_any rfl)


theorem execCanEnable_moves (w : Who) (ch word : ℕ) (s : State) :
    ∃ t, execCanEnable w ch word s = .next t ∧ Moves (0x210f00000081000000750 ||| Moves.page (33 + ch)) s t := by
  unfold execCanEnable
  refine ⟨_, rfl, ?_⟩
  refine Moves.ite ?_ ?_
  · exact (Moves.sub (writeWith_moves (F := (0x600000081000000610 ||| Moves.page (33 + ch))) (h_effect := fun _ _ _ => (Moves.sub (canCtl_moves ..) (Moves.or_mono rfl))) ..) (Moves.or_mono4 rfl rfl))
  · exact Moves.refl


theorem execCanIntegrated_moves (ch : ℕ) (s : State) :
    ∃ t, execCanIntegrated ch s = .next t ∧ Moves (0x200600000081000000610 ||| Moves.page (33 + ch)) s t := by
  unfold execCanIntegrated
  refine ⟨_, rfl, ?_⟩
  refine Moves.ite ?_ ?_
  · exact (Moves.sub (State.confine_moves ..) (Moves.or_mono rfl))
  · exact Moves.refl


theorem execCanTxRequest_moves (w : Who) (ch buffers : ℕ) (s : State) :
    ∃ t, execCanTxRequest w ch buffers s = .next t ∧ Moves (0x210f00000081000000754 ||| Moves.page (33 + ch)) s t := by
  unfold execCanTxRequest
  refine ⟨_, rfl, ?_⟩
  refine Moves.ite ?_ ?_
  · exact (Moves.sub (writeThen_moves (F := (0x600000081000000614 ||| Moves.page (33 + ch))) (h_effect := fun _ _ => (Moves.sub (canTxcmd_moves ..) (Moves.or_mono rfl))) ..) (Moves.or_mono4 rfl rfl))
  · exact Moves.refl


theorem execCanTxAbort_moves (w : Who) (ch buffers : ℕ) (s : State) :
    ∃ t, execCanTxAbort w ch buffers s = .next t ∧ Moves (0x210f00000081000000754 ||| Moves.page (33 + ch)) s t := by
  unfold execCanTxAbort
  refine ⟨_, rfl, ?_⟩
  refine Moves.ite ?_ ?_
  · exact (Moves.sub (writeThen_moves (F := (0x600000081000000614 ||| Moves.page (33 + ch))) (h_effect := fun _ _ => (Moves.sub (canTxcmd_moves ..) (Moves.or_mono rfl))) ..) (Moves.or_mono4 rfl rfl))
  · exact Moves.refl


theorem execCanArbitrationLost_moves (ch : ℕ) (s : State) :
    ∃ t, execCanArbitrationLost ch s = .next t ∧ Moves (0x600000081000000614 ||| Moves.page (33 + ch)) s t := by
  unfold execCanArbitrationLost
  refine ⟨_, rfl, ?_⟩
  split
  · exact Moves.refl
  · refine Moves.ite ?_ ?_
    · exact (Moves.sub (State.txEnds_moves ..) (Moves.or_mono rfl))
    · exact ((Moves.sub (F := (0x600000081000000614 ||| Moves.page (33 + ch))) (State.setCan_moves ..) (Moves.or_le rfl)).step (State.wr_moves ..) (Moves.or_monoC rfl rfl))

theorem State.measureDelay_moves (s : State) (ch b : ℕ) :
    Moves (0x80000000014 ||| Moves.page (33 + ch)) s (State.measureDelay s ch b) := by
  unfold State.measureDelay
  refine Moves.ite ?_ ?_
  · split
    rename_i u0 hq1
    have hd2 := Moves.snd (F := (0x80000000014 ||| Moves.page (33 + ch))) (s := s) hq1 (Moves.sub (State.drawFree_moves ..) (Moves.or_le rfl))
    exact (hd2.step (State.wr_moves ..) (Moves.or_monoC rfl rfl))
  · exact Moves.refl

theorem State.measureDelay_moves_any (s : State) (ch b : ℕ) :
    Moves 0xffffffffffffffff0000080000000014 s (State.measureDelay s ch b) :=
  (State.measureDelay_moves ..).sub (Moves.page_any rfl)


theorem execCanTxEnd_moves (ch : ℕ) (s : State) :
    ∃ t, execCanTxEnd ch s = .next t ∧ Moves (0x200600000081000000614 ||| Moves.page (33 + ch)) s t := by
  unfold execCanTxEnd
  refine ⟨_, rfl, ?_⟩
  split
  · exact Moves.refl
  · extract_lets +onlyGivenNames v0
    extract_lets +onlyGivenNames s1
    have hs1 : Moves (0x200600000081000000614 ||| Moves.page (33 + ch)) s s1 := ((Moves.sub (F := (0x200600000081000000614 ||| Moves.page (33 + ch))) (State.measureDelay_moves ..) (Moves.or_mono rfl)).step (State.confine_moves ..) (Moves.or_mono rfl))
    clear_value s1
    exact (hs1.step (State.txEnds_moves ..) (Moves.or_mono rfl))

theorem State.delayAtError_moves (s : State) (ch b lec : ℕ) (dataPhase : Bool) :
    Moves (0x80000000014 ||| Moves.page (33 + ch)) s (State.delayAtError s ch b lec dataPhase) := by
  unfold State.delayAtError
  refine Moves.ite ?_ ?_
  · exact (Moves.sub (State.measureDelay_moves ..) (Moves.or_mono rfl))
  · split
    rename_i u0 hq1
    have hd2 := Moves.snd (F := (0x80000000014 ||| Moves.page (33 + ch))) (s := s) hq1 (Moves.sub (State.drawFree_moves ..) (Moves.or_le rfl))
    refine Moves.ite ?_ ?_
    · exact (hd2.step (State.measureDelay_moves ..) (Moves.or_mono rfl))
    · exact hd2

theorem State.delayAtError_moves_any (s : State) (ch b lec : ℕ) (dataPhase : Bool) :
    Moves 0xffffffffffffffff0000080000000014 s (State.delayAtError s ch b lec dataPhase) :=
  (State.delayAtError_moves ..).sub (Moves.page_any rfl)


theorem State.busError_moves (s : State) (ch lec : ℕ) (dataPhase transmitting : Bool) (step : ℕ) :
    Moves (0x200600000081000000614 ||| Moves.page (33 + ch)) s (State.busError s ch lec dataPhase transmitting step) := by
  unfold State.busError
  extract_lets +onlyGivenNames s0
  have hs0 : Moves (0x200600000081000000614 ||| Moves.page (33 + ch)) s s0 := ((Moves.sub (F := (0x200600000081000000614 ||| Moves.page (33 + ch))) (State.wr_moves ..) (Moves.or_monoC rfl rfl)).step (State.wrB_moves ..) (Moves.or_monoC rfl rfl))
  clear_value s0
  extract_lets +onlyGivenNames s1
  have hs1 : Moves (0x200600000081000000614 ||| Moves.page (33 + ch)) s s1 := (hs0.step (State.inc_moves ..) (Moves.or_monoC rfl rfl))
  clear_value s1
  extract_lets +onlyGivenNames s2
  have hs2 : Moves (0x200600000081000000614 ||| Moves.page (33 + ch)) s s2 := by
    unfold s2
    split
    · extract_lets +onlyGivenNames s3
      have hs3 : Moves (0x200600000081000000614 ||| Moves.page (33 + ch)) s s3 := (hs1.step (State.delayAtError_moves ..) (Moves.or_mono rfl))
      clear_value s3
      refine Moves.ite ?_ ?_
      · exact (hs3.step (State.txEnds_moves ..) (Moves.or_mono rfl))
      · refine Moves.ite ?_ ?_
        · exact (hs3.step (State.txEnds_moves ..) (Moves.or_mono rfl))
        · exact ((hs3.step (State.setCan_moves ..) (Moves.or_le rfl)).step (State.wr_moves ..) (Moves.or_monoC rfl rfl))
    · exact hs1
  clear_value s2
  refine Moves.ite ?_ ?_
  · exact hs2
  · extract_lets +onlyGivenNames v4
    extract_lets +onlyGivenNames v5
    extract_lets +onlyGivenNames v6
    refine Moves.ite ?_ ?_
    · exact (hs2.step (State.confine_moves ..) (Moves.or_mono rfl))
    · exact (hs2.step (State.confine_moves ..) (Moves.or_mono rfl))

theorem State.busError_moves_any (s : State) (ch lec : ℕ) (dataPhase transmitting : Bool) (step : ℕ) :
    Moves 0xffffffffffffffff0000081000000614 s (State.busError s ch lec dataPhase transmitting step) :=
  (State.busError_moves ..).sub (Moves.page_any rfl)

theorem State.protocolException_moves (s : State) (ch : ℕ) :
    Moves (0x200600000081000000614 ||| Moves.page (33 + ch)) s (State.protocolException s ch) := by
  unfold State.protocolException
  refine Moves.ite ?_ ?_
  · exact (Moves.sub (State.busError_moves ..) (Moves.or_mono rfl))
  · exact (Moves.sub (State.irq_moves ..) (Moves.or_monoC rfl rfl))

theorem State.protocolException_moves_any (s : State) (ch : ℕ) :
    Moves 0xffffffffffffffff0000081000000614 s (State.protocolException s ch) :=
  (State.protocolException_moves ..).sub (Moves.page_any rfl)

theorem execCanError_moves (ch lec : ℕ) (dataPhase transmitting : Bool) (step : ℕ) (s : State) :
    ∃ t, execCanError ch lec dataPhase transmitting step s = .next t ∧ Moves (0x200600000081000000614 ||| Moves.page (33 + ch)) s t := by
  unfold execCanError
  refine ⟨_, rfl, ?_⟩
  refine Moves.ite ?_ ?_
  · refine Moves.ite ?_ ?_
    · exact (Moves.sub (State.protocolException_moves ..) (Moves.or_mono rfl))
    · exact (Moves.sub (State.busError_moves ..) (Moves.or_mono rfl))
  · exact Moves.refl

theorem execCanRecover_moves (w : Who) (ch : ℕ) (s : State) :
    ∃ t, execCanRecover w ch s = .next t ∧ Moves (0x210f00000081000000750 ||| Moves.page (33 + ch)) s t := by
  unfold execCanRecover
  refine ⟨_, rfl, ?_⟩
  refine Moves.ite ?_ ?_
  · exact (Moves.sub (writeWith_moves (F := (0x600000081000000610 ||| Moves.page (33 + ch))) (h_effect := fun _ _ _ => (Moves.sub (canCtl_moves ..) (Moves.or_mono rfl))) ..) (Moves.or_mono4 rfl rfl))
  · exact Moves.refl


theorem execCanRecoveryEnd_moves (ch : ℕ) (s : State) :
    ∃ t, execCanRecoveryEnd ch s = .next t ∧ Moves (0x200600000081000000610 ||| Moves.page (33 + ch)) s t := by
  unfold execCanRecoveryEnd
  refine ⟨_, rfl, ?_⟩
  refine Moves.ite ?_ ?_
  · exact ((Moves.sub (F := (0x200600000081000000610 ||| Moves.page (33 + ch))) (State.wr_moves ..) (Moves.or_monoC rfl rfl)).step (State.confine_moves ..) (Moves.or_mono rfl))
  · exact Moves.refl


theorem execBusOffDelayExpiry_moves (ch : ℕ) (s : State) :
    ∃ t, execBusOffDelayExpiry ch s = .next t ∧ Moves (0x600000080000000213 ||| Moves.page (33 + ch)) s t := by
  unfold execBusOffDelayExpiry
  extract_lets +onlyGivenNames v0
  refine ⟨_, rfl, ?_⟩
  refine Moves.ite ?_ ?_
  · extract_lets +onlyGivenNames s1
    have hs1 : Moves (0x600000080000000213 ||| Moves.page (33 + ch)) s s1 := (Moves.sub (State.advanceTo_moves ..) (Moves.or_le rfl))
    clear_value s1
    exact ((hs1.step (State.wr_moves ..) (Moves.or_monoC rfl rfl)).step (State.setCanState_moves ..) (Moves.or_mono rfl))
  · exact Moves.refl


theorem execCanRxFlush_moves (w : Who) (ch : ℕ) (s : State) :
    ∃ t, execCanRxFlush w ch s = .next t ∧ Moves (0x210f00000081000000750 ||| Moves.page (33 + ch)) s t := by
  unfold execCanRxFlush
  refine ⟨_, rfl, ?_⟩
  refine Moves.ite ?_ ?_
  · exact (Moves.sub (writeWith_moves (F := (0x600000081000000610 ||| Moves.page (33 + ch))) (h_effect := fun _ _ _ => (Moves.sub (canCtl_moves ..) (Moves.or_mono rfl))) ..) (Moves.or_mono4 rfl rfl))
  · exact Moves.refl


theorem execCanRxLock_moves (w : Who) (ch : ℕ) (s : State) :
    ∃ t, execCanRxLock w ch s = .next t ∧ Moves (0x600000081000000310 ||| Moves.page (33 + ch)) s t := by
  unfold execCanRxLock
  refine ⟨_, rfl, ?_⟩
  refine Moves.ite ?_ ?_
  · exact (Moves.sub (State.reading_moves (F := (0x81000000110 ||| Moves.page (33 + ch))) (h_act := fun _ => ((Moves.sub (F := (0x81000000110 ||| Moves.page (33 + ch))) (State.rxRead_moves ..) (Moves.or_mono rfl)).step (State.reply_moves ..) (Moves.or_le rfl))) ..) (Moves.or_mono2 rfl rfl))
  · exact Moves.refl


theorem execCanRxPop_moves (w : Who) (ch : ℕ) (s : State) :
    ∃ t, execCanRxPop w ch s = .next t ∧ Moves (0x600000081000000310 ||| Moves.page (33 + ch)) s t := by
  unfold execCanRxPop
  refine ⟨_, rfl, ?_⟩
  split
  · exact Moves.refl
  · extract_lets +onlyGivenNames v0
    exact (Moves.sub (State.reading_moves (F := (0x81000000110 ||| Moves.page (33 + ch))) (h_act := fun _ => ((Moves.sub (F := (0x81000000110 ||| Moves.page (33 + ch))) (State.rxRead_moves ..) (Moves.or_mono rfl)).step (State.reply_moves ..) (Moves.or_le rfl))) ..) (Moves.or_mono2 rfl rfl))


theorem execCanForward_moves (ch : ℕ) (s : State) :
    ∃ t, execCanForward ch s = .next t ∧ Moves (0x600000081000000610 ||| Moves.page (33 + ch)) s t := by
  unfold execCanForward
  refine ⟨_, rfl, ?_⟩
  split
  · exact Moves.refl
  · extract_lets +onlyGivenNames v0
    extract_lets +onlyGivenNames s1
    have hs1 : Moves (0x600000081000000610 ||| Moves.page (33 + ch)) s s1 := (Moves.sub (State.popRx_moves ..) (Moves.or_mono rfl))
    clear_value s1
    refine Moves.ite ?_ ?_
    · extract_lets +onlyGivenNames v2
      extract_lets +onlyGivenNames v3
      extract_lets +onlyGivenNames v4
      extract_lets +onlyGivenNames v5
      extract_lets +onlyGivenNames v6
      extract_lets +onlyGivenNames v7
      extract_lets +onlyGivenNames s8
      have hs8 : Moves (0x600000081000000610 ||| Moves.page (33 + ch)) s s8 := (hs1.step (State.setCan_moves ..) (Moves.or_le rfl))
      clear_value s8
      refine Moves.ite ?_ ?_
      · exact (Moves.foldl (fun _ _ => (Moves.sub (State.putEntry_moves ..) (Moves.or_le rfl))) hs8)
      · exact (hs8.step (State.inc_moves ..) (Moves.or_monoC rfl rfl))
    · exact hs1


theorem popMany_moves (die q a2 : ℕ) (a3 : State) :
    Moves 0x80000000a00 a3 (popMany die q a2 a3) := by
  induction a2 generalizing a3 with
  | zero => exact Moves.refl
  | succ n ih => exact ((State.popQueue_moves ..).sub rfl).trans (ih ..)


theorem loadRequest_moves (ch b : ℕ) (run : List QEntry) (s : State) :
    Moves (0x210f00000081000000754 ||| Moves.page (33 + ch)) s (loadRequest ch b run s) := by
  unfold loadRequest
  extract_lets +onlyGivenNames v0
  extract_lets +onlyGivenNames s1
  have hs1 : Moves (0x210f00000081000000754 ||| Moves.page (33 + ch)) s s1 := (Moves.foldl (fun _ _ => (Moves.sub (plainWrite_moves ..) (Moves.or_mono rfl))) Moves.refl)
  clear_value s1
  exact (hs1.step (State.txRequest_moves ..) (Moves.or_mono rfl))

theorem loadRequest_moves_any (ch b : ℕ) (run : List QEntry) (s : State) :
    Moves 0xffffffffffffffff0000081000000754 s (loadRequest ch b run s) :=
  (loadRequest_moves ..).sub (Moves.page_any rfl)


theorem execCanTxService_moves (ch : ℕ) (s : State) :
    ∃ t, execCanTxService ch s = .next t ∧ Moves (0x210f00000081000000f54 ||| Moves.page (33 + ch)) s t := by
  unfold execCanTxService
  extract_lets +onlyGivenNames v0
  extract_lets +onlyGivenNames v1
  extract_lets +onlyGivenNames v2
  refine ⟨_, rfl, ?_⟩
  refine Moves.ite ?_ ?_
  · refine Moves.ite ?_ ?_
    · exact ((Moves.sub (F := (0x210f00000081000000f54 ||| Moves.page (33 + ch))) (popMany_moves ..) (Moves.or_le rfl)).step (State.inc_moves ..) (Moves.or_monoC rfl rfl))
    · split
      · exact Moves.refl
      · extract_lets +onlyGivenNames v3
        refine Moves.ite ?_ ?_
        · extract_lets +onlyGivenNames v4
          exact ((Moves.sub (F := (0x210f00000081000000f54 ||| Moves.page (33 + ch))) (popMany_moves ..) (Moves.or_le rfl)).step (State.inc_moves ..) (Moves.or_monoC rfl rfl))
        · extract_lets +onlyGivenNames v5
          extract_lets +onlyGivenNames v6
          refine Moves.ite ?_ ?_
          · extract_lets +onlyGivenNames s7
            have hs7 : Moves (0x210f00000081000000f54 ||| Moves.page (33 + ch)) s s7 := (Moves.sub (popMany_moves ..) (Moves.or_le rfl))
            clear_value s7
            refine Moves.ite ?_ ?_
            · exact hs7
            · exact (hs7.step (State.putEntry_moves ..) (Moves.or_le rfl))
          · split
            · exact Moves.refl
            · extract_lets +onlyGivenNames s8
              have hs8 : Moves (0x210f00000081000000f54 ||| Moves.page (33 + ch)) s s8 := (Moves.sub (popMany_moves ..) (Moves.or_le rfl))
              clear_value s8
              extract_lets +onlyGivenNames v9
              extract_lets +onlyGivenNames s10
              have hs10 : Moves (0x210f00000081000000f54 ||| Moves.page (33 + ch)) s s10 := (hs8.step (State.setCan_moves ..) (Moves.or_le rfl))
              clear_value s10
              exact (hs10.step (loadRequest_moves ..) (Moves.or_mono rfl))
  · exact Moves.refl


theorem State.showTables_moves (s : State) :
    Moves 0xffffffffffffffff0000080000000010 s (State.showTables s) := by
  unfold State.showTables
  extract_lets +onlyGivenNames s0
  have hs0 : Moves 0xffffffffffffffff0000080000000010 s s0 := (Moves.foldl (fun _ _ => (Moves.sub (State.wr_moves_any ..))) Moves.refl)
  clear_value s0
  extract_lets +onlyGivenNames v1
  extract_lets +onlyGivenNames s2
  have hs2 : Moves 0xffffffffffffffff0000080000000010 s s2 := ((hs0.step (State.wr_moves ..) (Moves.at 26 rfl)).step (State.wr_moves ..) (Moves.at 26 rfl))
  clear_value s2
  refine Moves.foldl (fun t3 x4 => ?_) ?_
  · extract_lets +onlyGivenNames v5
    extract_lets +onlyGivenNames v6
    extract_lets +onlyGivenNames v7
    exact ((((Moves.sub (F := 0xffffffffffffffff0000080000000010) (State.wr_moves ..) (Moves.at 13 rfl)).step (State.wr_moves ..) (Moves.at 13 rfl)).step (State.wr_moves ..) (Moves.at 13 rfl)).step (State.wr_moves ..) (Moves.at 13 rfl))
  · exact hs2


theorem State.showDropped_moves (s : State) :
    Moves 0x50000000000080000000010 s (State.showDropped s) := by
  unfold State.showDropped
  extract_lets +onlyGivenNames s0
  have hs0 : Moves 0x50000000000080000000010 s s0 := (Moves.foldl (fun _ _ => (Moves.sub (State.wr_moves ..) (Moves.at 26 rfl))) Moves.refl)
  clear_value s0
  exact (hs0.step (State.wr_moves ..) (Moves.at 24 rfl))


theorem Moves.set_38 {F : Nat} {s x : State} {f38 : Exch} (h : Moves F s x) (sub : 0x4000000000 &&& F = 0x4000000000 := by rfl) :
    Moves F s { x with exch := f38 } :=
  h.step (G := 0x4000000000) ⟨id, Nat.le_refl _, fun p hp => by cases p <;> first | rfl | exact absurd hp (by decide), fun _ _ _ => rfl⟩ sub

theorem State.setStn_moves (s : State) (n : ℕ) (x : Stn) :
    Moves 0x4000000000 s (State.setStn s n x) := by
  unfold State.setStn
  exact (Moves.set_38 Moves.refl)


theorem State.freshStation_moves (s : State) (n : ℕ) :
    Moves 0xffffffffffffffff0000084000000010 s (State.freshStation s n) := by
  unfold State.freshStation
  extract_lets +onlyGivenNames s0
  have hs0 : Moves 0xffffffffffffffff0000084000000010 s s0 := (Moves.foldl (fun _ _ => (Moves.sub (State.wr_moves_any ..))) Moves.refl)
  clear_value s0
  exact (hs0.step (State.setStn_moves ..))


theorem Moves.set_33_38 {F : Nat} {s x : State} {f33 : ℕ} {f38 : Exch} (h : Moves F s x) (sub : 0x4200000000 &&& F = 0x4200000000 := by rfl) :
    Moves F s { x with catActive := f33, exch := f38 } :=
  h.step (G := 0x4200000000) ⟨id, Nat.le_refl _, fun p hp => by cases p <;> first | rfl | exact absurd hp (by decide), fun _ _ _ => rfl⟩ sub

theorem State.swapTables_moves (s : State) :
    Moves 0xffffffffffffffff0000084200000010 s (State.swapTables s) := by
  unfold State.swapTables
  extract_lets +onlyGivenNames v0
  extract_lets +onlyGivenNames v1
  extract_lets +onlyGivenNames v2
  extract_lets +onlyGivenNames s3
  have hs3 : Moves 0xffffffffffffffff0000084200000010 s s3 := (Moves.set_33_38 Moves.refl)
  clear_value s3
  extract_lets +onlyGivenNames s4
  have hs4 : Moves 0xffffffffffffffff0000084200000010 s s4 := ((Moves.foldl (fun _ _ => (Moves.sub (State.freshStation_moves ..))) hs3).step (State.showDropped_moves ..))
  clear_value s4
  extract_lets +onlyGivenNames s5
  have hs5 : Moves 0xffffffffffffffff0000084200000010 s s5 := (Moves.foldl (fun _ _ => (Moves.sub (State.wr_moves_any ..))) hs4)
  clear_value s5
  exact ((((hs5.step (State.incWrap_moves ..) (Moves.at 25 rfl)).step (State.irq_moves ..) (Moves.at 25 rfl)).step (State.hotLost_moves ..)).step (State.showTables_moves ..))


theorem State.copyTables_moves (s : State) :
    Moves 0xffffffffffffffff0000080000000010 s (State.copyTables s) := by
  unfold State.copyTables
  extract_lets +onlyGivenNames v0
  extract_lets +onlyGivenNames f1
  have hf1 : ∀ y2 y3 y4, Moves 0xffffffffffffffff0000080000000010 y2 (f1 y2 y3 y4) := by
    intro y2 y3 y4
    refine Moves.foldl (fun t5 x6 => ?_) ?_
    · extract_lets +onlyGivenNames v7
      extract_lets +onlyGivenNames s8
      have hs8 : Moves 0xffffffffffffffff0000080000000010 t5 s8 := (Moves.foldl (fun _ _ => (Moves.sub (State.resetField_moves_any ..))) Moves.refl)
      clear_value s8
      exact (Moves.foldl (fun _ _ => (Moves.sub (State.wr_moves_any ..))) hs8)
    · exact Moves.refl
  clear_value f1
  exact ((hf1 ..).trans (hf1 ..))


theorem State.holdTable_moves (who code off word : ℕ) (owed : Bool) (s : State) :
    Moves 0x4000000000 s (State.holdTable who code off word owed s) := by
  unfold State.holdTable
  exact (Moves.set_38 Moves.refl)


theorem stnStored_moves (s : State) (a1 : ℕ) :
    Moves 0xffffffffffffffff0000080000000010 s (stnStored s a1) := by
  unfold stnStored
  extract_lets +onlyGivenNames v0
  extract_lets +onlyGivenNames s1
  have hs1 : Moves 0xffffffffffffffff0000080000000010 s s1 := (Moves.sub (copyEntry_moves ..))
  clear_value s1
  refine Moves.ite ?_ ?_
  · exact (hs1.step (State.wr_moves ..) (Moves.at 26 rfl))
  · exact hs1


theorem catStored_moves (s : State) (a1 : ℕ) :
    Moves 0xffffffffffffffff0000080000000010 s (catStored s a1) := by
  unfold catStored
  extract_lets +onlyGivenNames v0
  extract_lets +onlyGivenNames s1
  have hs1 : Moves 0xffffffffffffffff0000080000000010 s s1 := (Moves.sub (copyEntry_moves ..))
  clear_value s1
  refine Moves.ite ?_ ?_
  · exact (hs1.step (State.wr_moves ..) (Moves.at 25 rfl))
  · exact hs1


theorem catCtl_moves (who : ℕ) (s : State) (v : ℕ) :
    Moves 0xffffffffffffffff0000084000000010 s (catCtl who s v) := by
  unfold catCtl
  refine Moves.ite ?_ ?_
  · extract_lets +onlyGivenNames s0
    have hs0 : Moves 0xffffffffffffffff0000084000000010 s s0 := (((Moves.sub (F := 0xffffffffffffffff0000084000000010) (State.wr_moves ..) (Moves.at 25 rfl)).step (State.wr_moves ..) (Moves.at 25 rfl)).step (State.wr_moves ..) (Moves.at 25 rfl))
    clear_value s0
    refine Moves.ite ?_ ?_
    · exact (hs0.step (State.holdTable_moves ..))
    · exact hs0
  · refine Moves.ite ?_ ?_
    · exact (Moves.sub (State.copyTables_moves ..))
    · exact Moves.refl


theorem tableWrite_moves (w : Who) (code off word : ℕ) (s : State) :
    Moves 0xffffffffffffffff0000084000001350 s (tableWrite w code off word s) := by
  unfold tableWrite
  refine Moves.ite ?_ ?_
  · exact (Moves.sub (State.heldPage_moves (F := 0x4000000000) (h_keep := fun _ => (Moves.sub (State.holdTable_moves ..))) ..))
  · exact (Moves.sub (writeThen_moves_any (F := 0xffffffffffffffff0000084000000010) (h_effect := by
          intro z0 z1
          split
          · exact (Moves.sub (stnStored_moves ..))
          · split
            · exact (Moves.sub (catStored_moves ..))
            · exact (Moves.sub (catCtl_moves ..))) ..))


theorem releaseTable_moves (s : State) (h : HeldTable) :
    Moves 0xffffffffffffffff0000084000001350 s (releaseTable s h) := by
  unfold releaseTable
  split
  · extract_lets +onlyGivenNames s0
    have hs0 : Moves 0xffffffffffffffff0000084000001350 s s0 := ((Moves.sub (State.unholdRequest_moves ..)).step (tableWrite_moves ..))
    clear_value s0
    refine Moves.ite ?_ ?_
    · exact hs0
    · exact (hs0.step (State.reply_moves ..))
  · exact (Moves.sub (tableWrite_moves ..))


theorem releaseTables_moves (s : State) :
    Moves 0xffffffffffffffff0000084000001350 s (releaseTables s) := by
  unfold releaseTables
  exact (Moves.foldl (fun _ _ => (Moves.sub (releaseTable_moves ..))) (Moves.set_38 Moves.refl))


theorem tablesAtTick_moves (s : State) :
    Moves 0xffffffffffffffff0000084200001350 s (tablesAtTick s) := by
  unfold tablesAtTick
  refine Moves.ite ?_ ?_
  · exact ((Moves.sub (State.swapTables_moves ..)).step (releaseTables_moves ..))
  · exact Moves.refl


theorem execStationEntryWrite_moves (w : Who) (word : ℕ) (s : State) :
    ∃ t, execStationEntryWrite w word s = .next t ∧ Moves 0xffffffffffffffff0000084000001350 s t := by
  unfold execStationEntryWrite
  refine ⟨_, rfl, ?_⟩
  exact (Moves.sub (tableWrite_moves ..))


theorem execCatalogueEntryWrite_moves (w : Who) (word : ℕ) (s : State) :
    ∃ t, execCatalogueEntryWrite w word s = .next t ∧ Moves 0xffffffffffffffff0000084000001350 s t := by
  unfold execCatalogueEntryWrite
  refine ⟨_, rfl, ?_⟩
  exact (Moves.sub (tableWrite_moves ..))


theorem execCatalogueSwap_moves (w : Who) (copy : Bool) (s : State) :
    ∃ t, execCatalogueSwap w copy s = .next t ∧ Moves 0xffffffffffffffff0000084000001350 s t := by
  unfold execCatalogueSwap
  refine ⟨_, rfl, ?_⟩
  exact (Moves.sub (tableWrite_moves ..))


theorem execCatalogueCopy_moves (w : Who) (s : State) :
    ∃ t, execCatalogueCopy w s = .next t ∧ Moves 0xffffffffffffffff0000084000001350 s t := by
  unfold execCatalogueCopy
  refine ⟨_, rfl, ?_⟩
  exact (Moves.sub (tableWrite_moves ..))


theorem execCatalogueCheckEnd_moves (s : State) :
    ∃ t, execCatalogueCheckEnd s = .next t ∧ Moves 0xffffffffffffffff0000084000001350 s t := by
  unfold execCatalogueCheckEnd
  refine ⟨_, rfl, ?_⟩
  refine Moves.ite ?_ ?_
  · extract_lets +onlyGivenNames v0
    extract_lets +onlyGivenNames s1
    have hs1 : Moves 0xffffffffffffffff0000084000001350 s s1 := (Moves.sub (State.wr_moves ..) (Moves.at 25 rfl))
    clear_value s1
    clear_value v0
    split
    · extract_lets +onlyGivenNames s2
      have hs2 : Moves 0xffffffffffffffff0000084000001350 s s2 := (((hs1.step (State.wr_moves ..) (Moves.at 25 rfl)).step (State.wr_moves ..) (Moves.at 25 rfl)).step (State.wr_moves ..) (Moves.at 25 rfl))
      clear_value s2
      exact (((hs2.step (State.wr_moves ..) (Moves.at 25 rfl)).step (State.irq_moves ..) (Moves.at 25 rfl)).step (releaseTables_moves ..))
    · exact (Moves.set_38 hs1)
  · exact Moves.refl


theorem State.setGate_moves (s : State) (p : ℕ) (g : Gate) :
    Moves 0x4000000000 s (State.setGate s p g) := by
  unfold State.setGate
  exact (Moves.set_38 Moves.refl)


theorem State.queueFrame_moves (s : State) (p c : ℕ) (bytes : List Byte) :
    Moves 0x4000000000 s (State.queueFrame s p c bytes) := by
  unfold State.queueFrame
  exact (Moves.sub (State.setGate_moves ..))


theorem State.setPtpPort_moves (s : State) (p : ℕ) (x : PtpPort) :
    Moves 0x4000000000 s (State.setPtpPort s p x) := by
  unfold State.setPtpPort
  exact (Moves.set_38 Moves.refl)


theorem State.ptpSent_moves (s : State) (p stamp : ℕ) (bytes : List Byte) :
    Moves 0x4000000000 s (State.ptpSent s p stamp bytes) := by
  unfold State.ptpSent
  extract_lets +onlyGivenNames v0
  extract_lets +onlyGivenNames f1
  have hf1 : ∀ y2 y3, Moves 0x4000000000 s (f1 y2 y3) := by
    intro y2 y3
    exact (Moves.sub (State.queueFrame_moves ..))
  clear_value f1
  refine Moves.ite ?_ ?_
  · exact Moves.refl
  · split
    · exact (hf1 ..)
    · exact (Moves.sub (State.setPtpPort_moves ..))
    · exact (hf1 ..)
    · exact Moves.refl


theorem State.onWire_moves (s : State) (p : ℕ) (bytes : List Byte) :
    Moves 0x4000000000 s (State.onWire s p bytes) := by
  unfold State.onWire
  extract_lets +onlyGivenNames v0
  extract_lets +onlyGivenNames v1
  extract_lets +onlyGivenNames s2
  have hs2 : Moves 0x4000000000 s s2 := (Moves.set_38 Moves.refl)
  clear_value s2
  exact ((hs2.step (State.setGate_moves ..)).step (State.ptpSent_moves ..))


theorem State.startWaiting_moves (a0 : ℕ) (a1 : State) (a2 : ℕ) :
    Moves 0x4000000000 a1 (State.startWaiting a0 a1 a2) := by
  induction a0 generalizing a1 with
  | zero => exact Moves.refl
  | succ n ih =>
    unfold State.startWaiting
    split
    · exact ((Moves.sub (State.setGate_moves ..)).step (State.onWire_moves ..)).trans (ih ..)
    · exact Moves.refl


theorem State.countGuarded_moves (s : State) (p : ℕ) :
    Moves 0x100000000000084000000010 s (State.countGuarded s p) := by
  unfold State.countGuarded
  extract_lets +onlyGivenNames v0
  extract_lets +onlyGivenNames v1
  exact ((Moves.sub (F := 0x100000000000084000000010) (State.add_moves ..) (Moves.at 28 rfl)).step (State.setGate_moves ..))


theorem State.kick_moves (s : State) (p : ℕ) :
    Moves 0x100000000000084000000010 s (State.kick s p) := by
  unfold State.kick
  exact ((Moves.sub (State.startWaiting_moves ..)).step (State.countGuarded_moves ..))


theorem State.lineSend_moves (s : State) (p c : ℕ) (bytes : List Byte) :
    Moves 0x100000000000084000000010 s (State.lineSend s p c bytes) := by
  unfold State.lineSend
  refine Moves.ite ?_ ?_
  · exact Moves.refl
  · exact ((Moves.sub (State.queueFrame_moves ..)).step (State.kick_moves ..))


theorem State.enterEntry_moves (s : State) (p i t : ℕ) :
    Moves 0x4000000000 s (State.enterEntry s p i t) := by
  unfold State.enterEntry
  extract_lets +onlyGivenNames v0
  split
  · exact (Moves.sub (State.setGate_moves ..))
  · exact Moves.refl


theorem State.changeList_moves (s : State) (p : ℕ) :
    Moves 0x100000000000084000000010 s (State.changeList s p) := by
  unfold State.changeList
  split
  · refine Moves.ite ?_ ?_
    · extract_lets +onlyGivenNames v0
      extract_lets +onlyGivenNames s1
      have hs1 : Moves 0x100000000000084000000010 s s1 := (Moves.sub (State.setGate_moves ..))
      clear_value s1
      exact (((hs1.step (State.wr_moves ..) (Moves.at 28 rfl)).step (State.wr_moves ..) (Moves.at 28 rfl)).step (State.irq_moves ..) (Moves.at 28 rfl))
    · exact Moves.refl
  · exact Moves.refl


theorem State.gatesAtTick_moves (s : State) :
    Moves 0x100000000000084000000010 s (State.gatesAtTick s) := by
  unfold State.gatesAtTick
  exact (Moves.foldl (fun _ _ => (((Moves.sub (State.changeList_moves ..)).step (State.enterEntry_moves ..)).step (State.kick_moves ..))) Moves.refl)


theorem tsnCtl_moves (s : State) (v : ℕ) :
    Moves 0x100000000000084000000010 s (tsnCtl s v) := by
  unfold tsnCtl
  refine Moves.ite ?_ ?_
  · exact Moves.refl
  · extract_lets +onlyGivenNames v0
    extract_lets +onlyGivenNames v1
    refine Moves.ite ?_ ?_
    · exact (((Moves.sub (F := 0x100000000000084000000010) (State.wr_moves ..) (Moves.at 28 rfl)).step (State.wr_moves ..) (Moves.at 28 rfl)).step (State.setGate_moves ..))
    · exact ((Moves.sub (F := 0x100000000000084000000010) (State.wr_moves ..) (Moves.at 28 rfl)).step (State.irq_moves ..) (Moves.at 28 rfl))


theorem tsnEntry_moves (s : State) (a1 : ℕ) :
    Moves 0x100000000000080000000010 s (tsnEntry s a1) := by
  unfold tsnEntry
  extract_lets +onlyGivenNames s0
  have hs0 : Moves 0x100000000000080000000010 s s0 := (Moves.sub (State.wr_moves ..) (Moves.at 28 rfl)).step (State.wr_moves ..) (Moves.at 28 rfl)
  clear_value s0
  exact Moves.ite (hs0.step (State.wr_moves ..)) hs0


theorem execTsnChange_moves (w : Who) (s : State) :
    ∃ t, execTsnChange w s = .next t ∧ Moves 0x100210f00000084000000350 s t := by
  unfold execTsnChange
  refine ⟨_, rfl, ?_⟩
  exact (Moves.sub (writeThen_moves (F := 0x100000000000084000000010) (h_effect := fun _ _ => (Moves.sub (tsnCtl_moves ..))) ..))


theorem execGateEntryExpiry_moves (port : ℕ) (s : State) :
    ∃ t, execGateEntryExpiry port s = .next t ∧ Moves 0x100000000000084000000013 s t := by
  unfold execGateEntryExpiry
  refine ⟨_, rfl, ?_⟩
  extract_lets +onlyGivenNames v0
  refine Moves.ite ?_ ?_
  · exact Moves.refl
  · extract_lets +onlyGivenNames v1
    exact (((Moves.sub (State.advanceTime_moves ..)).step (State.enterEntry_moves ..)).step (State.kick_moves ..))


theorem Moves.set_39 {F : Nat} {s x : State} {f39 : LinkOut} (h : Moves F s x) (sub : 0x8000000000 &&& F = 0x8000000000 := by rfl) :
    Moves F s { x with linkOut := f39 } :=
  h.step (G := 0x8000000000) ⟨id, Nat.le_refl _, fun p hp => by cases p <;> first | rfl | exact absurd hp (by decide), fun _ _ _ => rfl⟩ sub

theorem State.partnerSend_moves (s : State) (type flags frame : ℕ) (payload : List Byte) :
    Moves 0x8000000000 s (State.partnerSend s type flags frame payload) := by
  unfold State.partnerSend
  refine Moves.ite ?_ ?_
  · extract_lets +onlyGivenNames v0
    exact (Moves.set_39 Moves.refl)
  · exact Moves.refl


theorem execServiceDownSend_moves (ports station tag : ℕ) (payload : List Byte) (s : State) :
    ∃ t, execServiceDownSend ports station tag payload s = .next t ∧ Moves 0x100000000000084000000010 s t := by
  unfold execServiceDownSend
  refine ⟨_, rfl, ?_⟩
  refine Moves.ite ?_ ?_
  · refine Moves.foldl (fun t0 x1 => ?_) ?_
    · refine Moves.ite ?_ ?_
      · exact (Moves.sub (State.lineSend_moves ..))
      · exact Moves.refl
    · exact Moves.refl
  · exact Moves.refl


end Sys2Proof.Machine
end

