-- ==== Sys2Proof/Laws/MovesLinks.lean ====
section
/-! SUPPORT.  What each operation of the authority, the archive, the lines and the clock can do to the state, said once: the parts it may
change (a mask, one bit a part of `Safety.lean`), that it keeps the state sane and that it draws free values in order.
A lemma `Moves.set_…` says it of one record update. -/

open Sys2Proof Sys2Proof.Machine Sys2Proof.Bits
namespace Sys2Proof.Machine
set_option Elab.async false

theorem Moves.set_37 {F : Nat} {s x : State} {f37 : Auth} (h : Moves F s x) (sub : 0x2000000000 &&& F = 0x2000000000 := by rfl) :
    Moves F s { x with auth := f37 } :=
  h.step (G := 0x2000000000) ⟨id, Nat.le_refl _, fun p hp => by cases p <;> first | rfl | exact absurd hp (by decide), fun _ _ _ => rfl⟩ sub

theorem State.sendReply_moves (s : State) (source sender : ℕ) (bytes : List Byte) :
    Moves 0x1210000060000008f000000614 s (State.sendReply s source sender bytes) := by
  unfold State.sendReply
  split
  · extract_lets +onlyGivenNames s0
    have hs0 : Moves 0x1210000060000008f000000614 s s0 := by
      refine Moves.ite ?_ ?_
      · exact Moves.refl
      · exact (Moves.sub (State.inc_moves ..) (Moves.at 36 rfl))
    clear_value s0
    exact (((Moves.set_37 hs0).step (State.wr_moves ..) (Moves.at 36 rfl)).step (State.wr_moves ..) (Moves.at 36 rfl))
  · exact (Moves.sub (State.partnerSend_moves ..))
  · exact (Moves.sub (State.canSend_moves ..) (Moves.at 33 rfl))
  · extract_lets +onlyGivenNames v1
    exact (Moves.sub (State.lineSend_moves ..))


theorem State.answer_moves (s : State) (f : AuthFrame) (r : AuthResult) (detail : ℕ) (key : List Byte) :
    Moves 0x1210040060000008f000000614 s (State.answer s f r detail key).1 := by
  unfold State.answer
  extract_lets +onlyGivenNames v0
  extract_lets +onlyGivenNames s1
  have hs1 : Moves 0x1210040060000008f000000614 s s1 := (((Moves.sub (F := 0x1210040060000008f000000614) (State.wr_moves ..) (Moves.at 18 rfl)).step (State.wr_moves ..) (Moves.at 18 rfl)).step (State.wr_moves ..) (Moves.at 18 rfl))
  clear_value s1
  dsimp -zeta only
  exact ((hs1.step (State.wr_moves ..) (Moves.at 18 rfl)).step (State.sendReply_moves ..))


theorem State.takeFrame_moves (s : State) (f : AuthFrame) (rest : List AuthFrame) :
    Moves 0x10000000000000082000000010 s (State.takeFrame s f rest) := by
  unfold State.takeFrame
  extract_lets +onlyGivenNames v0
  extract_lets +onlyGivenNames s1
  have hs1 : Moves 0x10000000000000082000000010 s s1 := (Moves.set_37 Moves.refl)
  clear_value s1
  refine Moves.ite ?_ ?_
  · exact ((hs1.step (State.wr_moves ..) (Moves.at 36 rfl)).step (State.wr_moves ..) (Moves.at 36 rfl))
  · exact hs1


theorem State.acceptFrame_moves (s : State) (f : AuthFrame) :
    Moves 0x400000000082000000038 s (State.acceptFrame s f) := by
  unfold State.acceptFrame
  extract_lets +onlyGivenNames v0
  extract_lets +onlyGivenNames v1
  extract_lets +onlyGivenNames s2
  have hs2 : Moves 0x400000000082000000038 s s2 := by
    refine Moves.ite ?_ ?_
    · exact (Moves.sub (State.setCell_moves ..))
    · exact Moves.refl
  clear_value s2
  extract_lets +onlyGivenNames v3
  extract_lets +onlyGivenNames s4
  have hs4 : Moves 0x400000000082000000038 s s4 := (Moves.set_37 hs2)
  clear_value s4
  exact ((hs4.step (State.inc_moves ..) (Moves.at 18 rfl)).step (State.irq_moves ..) (Moves.at 18 rfl))


theorem State.finishFrame_moves (s : State) (f : AuthFrame) (r : AuthResult) (detail : ℕ) (key : List Byte) :
    Moves 0x1210040060000008f000000614 s (State.finishFrame s f r detail key) := by
  unfold State.finishFrame
  extract_lets +onlyGivenNames v0
  extract_lets +onlyGivenNames r1
  have hr1 : Moves 0x1210040060000008f000000614 s r1.1 := (Moves.sub (State.answer_moves ..))
  clear_value r1
  extract_lets +onlyGivenNames s2
  have hs2 : Moves 0x1210040060000008f000000614 s s2 := hr1
  clear_value s2
  exact (Moves.set_37 hs2)


theorem State.authorise_moves {F : Nat} (s : State) (f : AuthFrame) (roles : ℕ → List Byte → Bool) (format : List Byte → Bool) (act : State → AuthFrame → List Byte → AuthDone) (h_act : ∀ y0 y1 y2, Moves F y0 (act y0 y1 y2).st) :
    Moves (0x1210040060000008f00000063c ||| F) s (State.authorise s f roles format act) := by
  unfold State.authorise
  extract_lets +onlyGivenNames slot0
  extract_lets +onlyGivenNames role1
  extract_lets +onlyGivenNames bytes2
  extract_lets +onlyGivenNames params3
  extract_lets +onlyGivenNames key4
  extract_lets +onlyGivenNames counter5
  extract_lets +onlyGivenNames bad6
  have hbad6 : Moves (0x1210040060000008f00000063c ||| F) s bad6 := ((Moves.sub (State.inc_moves ..) (Moves.or_le rfl)).step (State.irq_moves ..) (Moves.or_le rfl))
  clear_value bad6
  refine Moves.ite ?_ ?_
  · exact hbad6
  · refine Moves.ite ?_ ?_
    · exact hbad6
    · refine Moves.ite ?_ ?_
      · refine Moves.ite ?_ ?_
        · exact ((Moves.sub (State.inc_moves ..) (Moves.or_le rfl)).step (State.sendReply_moves ..) (Moves.or_le rfl))
        · exact ((Moves.sub (State.inc_moves ..) (Moves.or_le rfl)).step (State.answer_moves ..) (Moves.or_le rfl))
      · refine Moves.ite ?_ ?_
        · exact (Moves.sub (State.answer_moves ..) (Moves.or_le rfl))
        · extract_lets +onlyGivenNames s7
          have hs7 : Moves (0x1210040060000008f00000063c ||| F) s s7 := Moves.sub (State.acceptFrame_moves ..) (Moves.or_le rfl)
          clear_value s7
          extract_lets +onlyGivenNames d8
          have hd8 : Moves (0x1210040060000008f00000063c ||| F) s d8.st := by
            refine Moves.iteF (g := AuthDone.st) ?_ ?_
            · exact (Moves.stAuthDone hs7)
            · refine Moves.iteF (g := AuthDone.st) ?_ ?_
              · exact (Moves.stAuthDone hs7)
              · exact (hs7.step (h_act ..) Moves.or_right)
          clear_value d8
          exact (hd8.step (State.finishFrame_moves ..) (Moves.or_le rfl))


theorem State.oddFrame_moves (s : State) (f : AuthFrame) :
    Moves 0x1210040060000008f00000063c s (State.oddFrame s f) := by
  unfold State.oddFrame
  refine Moves.ite ?_ ?_
  · exact (Moves.sub (State.inc_moves ..) (Moves.at 18 rfl))
  · refine Moves.ite ?_ ?_
    · exact (Moves.sub (State.inc_moves ..) (Moves.at 18 rfl))
    · refine Moves.ite ?_ ?_
      · refine Moves.ite ?_ ?_
        · extract_lets +onlyGivenNames s0
          have hs0 : Moves 0x1210040060000008f00000063c s s0 := (Moves.sub (State.partnerSend_moves ..))
          clear_value s0
          exact (Moves.set_37 hs0)
        · exact Moves.refl
      · exact (Moves.sub (State.authorise_moves (F := 0x0) (h_act := fun _ _ _ => Moves.refl) ..))


theorem State.flushOdd_moves (a0 : ℕ) (a1 : State) :
    Moves 0x1210040060000008f00000063c a1 (State.flushOdd a0 a1) := by
  induction a0 generalizing a1 with
  | zero => exact Moves.refl
  | succ n ih =>
    unfold State.flushOdd
    split
    · exact Moves.refl
    · extract_lets +onlyGivenNames served
      refine Moves.ite Moves.refl (Moves.ite ?_ ?_)
      · exact ((Moves.sub (State.takeFrame_moves ..)).step (State.oddFrame_moves ..)).trans (ih ..)
      · exact (Moves.sub (State.takeFrame_moves ..)).trans (ih ..)


theorem State.deliver_moves (s : State) (f : AuthFrame) :
    Moves 0x1210040060000008f00000063c s (State.deliver s f) := by
  unfold State.deliver
  extract_lets +onlyGivenNames v0
  extract_lets +onlyGivenNames s1
  have hs1 : Moves 0x1210040060000008f00000063c s s1 := (Moves.set_37 Moves.refl)
  clear_value s1
  exact (hs1.step (State.flushOdd_moves ..))


theorem State.authCommand_moves {F : Nat} (s : State) (op : ℕ) (roles : ℕ → List Byte → Bool) (format : List Byte → Bool) (act : State → AuthFrame → List Byte → AuthDone) (h_act : ∀ y0 y1 y2, Moves F y0 (act y0 y1 y2).st) :
    Moves (0x1210040060000008f00000063c ||| F) s (State.authCommand s op roles format act) := by
  unfold State.authCommand
  split
  · exact Moves.refl
  · refine Moves.ite ?_ ?_
    · extract_lets +onlyGivenNames s0
      have hs0 : Moves (0x1210040060000008f00000063c ||| F) s s0 := Moves.step (Moves.sub (State.takeFrame_moves ..) (Moves.or_le rfl)) (State.authorise_moves (F := F) (h_act := h_act) ..) (Moves.or_mono rfl)
      clear_value s0
      exact (hs0.step (State.flushOdd_moves ..) (Moves.or_le rfl))
    · exact Moves.refl


theorem execMspiStatus_moves (s : State) :
    ∃ t, execMspiStatus s = .next t ∧ Moves 0x100 s t := by
  unfold execMspiStatus
  extract_lets +onlyGivenNames v0
  refine ⟨_, rfl, ?_⟩
  refine Moves.ite ?_ ?_
  · exact (Moves.set_8 Moves.refl)
  · exact Moves.refl


theorem execMspiWriteIn_moves (length : ℕ) (frame : List Byte) (s : State) :
    ∃ t, execMspiWriteIn length frame s = .next t ∧ Moves 0x1210040060000008f00000063c s t := by
  unfold execMspiWriteIn
  refine ⟨_, rfl, ?_⟩
  refine Moves.ite ?_ ?_
  · exact Moves.refl
  · refine Moves.ite ?_ ?_
    · exact ((Moves.sub (F := 0x1210040060000008f00000063c) (State.inc_moves ..) (Moves.at 36 rfl)).step (State.irq_moves ..) (Moves.at 36 rfl))
    · refine Moves.ite ?_ ?_
      · exact Moves.refl
      · extract_lets +onlyGivenNames s0
        have hs0 : Moves 0x1210040060000008f00000063c s s0 := ((Moves.sub (F := 0x1210040060000008f00000063c) (State.inc_moves ..) (Moves.at 36 rfl)).step (State.irq_moves ..) (Moves.at 36 rfl))
        clear_value s0
        refine Moves.ite ?_ ?_
        · exact (((hs0.step (State.wr_moves ..) (Moves.at 36 rfl)).step (State.wr_moves ..) (Moves.at 36 rfl)).step (State.deliver_moves ..))
        · exact hs0


theorem execMspiReadOut_moves (s : State) :
    ∃ t, execMspiReadOut s = .next t ∧ Moves 0x10000000000000082000000010 s t := by
  unfold execMspiReadOut
  refine ⟨_, rfl, ?_⟩
  refine Moves.ite ?_ ?_
  · extract_lets +onlyGivenNames v0
    extract_lets +onlyGivenNames s1
    have hs1 : Moves 0x10000000000000082000000010 s s1 := (Moves.set_37 Moves.refl)
    clear_value s1
    extract_lets +onlyGivenNames s2
    have hs2 : Moves 0x10000000000000082000000010 s s2 := ((hs1.step (State.wr_moves ..) (Moves.at 36 rfl)).step (State.wr_moves ..) (Moves.at 36 rfl))
    clear_value s2
    exact ((hs2.step (State.inc_moves ..) (Moves.at 36 rfl)).step (State.irq_moves ..) (Moves.at 36 rfl))
  · exact Moves.refl


theorem execMspiUnknownCommand_moves (s : State) :
    ∃ t, execMspiUnknownCommand s = .next t ∧ Moves 0x10000000000000080000000010 s t := by
  unfold execMspiUnknownCommand
  refine ⟨_, rfl, ?_⟩
  refine Moves.ite ?_ ?_
  · exact ((Moves.sub (F := 0x10000000000000080000000010) (State.inc_moves ..) (Moves.at 36 rfl)).step (State.irq_moves ..) (Moves.at 36 rfl))
  · exact Moves.refl


theorem execCanFrameReceive_moves (ch : ℕ) (ide : Bool) (id dlc : ℕ) (fdf brs rtr esi : Bool) (data : List Byte) (sof : ℕ) (s : State) :
    ∃ t, execCanFrameReceive ch ide id dlc fdf brs rtr esi data sof s = .next t ∧ Moves (0x11210060060000008f00000063c ||| Moves.page (33 + ch)) s t := by
  unfold execCanFrameReceive
  refine ⟨_, rfl, ?_⟩
  refine Moves.ite ?_ ?_
  · refine Moves.ite ?_ ?_
    · exact (Moves.sub (State.protocolException_moves ..) (Moves.or_mono rfl))
    · extract_lets +onlyGivenNames s0
      have hs0 : Moves (0x11210060060000008f00000063c ||| Moves.page (33 + ch)) s s0 := (Moves.sub (State.goodReceive_moves ..) (Moves.or_mono rfl))
      clear_value s0
      split
      · exact hs0
      · refine Moves.ite ?_ ?_
        · exact hs0
        · refine Moves.ite ?_ ?_
          · exact (((hs0.step (State.inc_moves ..) (Moves.or_monoC rfl rfl)).step (State.irq_moves ..) (Moves.or_monoC rfl rfl)).step (State.canEntry_moves ..) (Moves.or_le rfl))
          · extract_lets +onlyGivenNames v1
            extract_lets +onlyGivenNames v2
            extract_lets +onlyGivenNames s3
            have hs3 : Moves (0x11210060060000008f00000063c ||| Moves.page (33 + ch)) s s3 := ((hs0.step (State.setCan_moves ..) (Moves.or_le rfl)).step (State.showFifo_moves ..) (Moves.or_mono rfl))
            clear_value s3
            extract_lets +onlyGivenNames s4
            have hs4 : Moves (0x11210060060000008f00000063c ||| Moves.page (33 + ch)) s s4 := (hs3.step (State.canEntry_moves ..) (Moves.or_le rfl))
            clear_value s4
            extract_lets +onlyGivenNames s5
            have hs5 : Moves (0x11210060060000008f00000063c ||| Moves.page (33 + ch)) s s5 := (hs4.step (State.sourceOccurs_moves ..) (Moves.or_le rfl))
            clear_value s5
            refine Moves.ite ?_ ?_
            · exact (hs5.step (State.deliver_moves ..) (Moves.or_le rfl))
            · exact hs5
  · exact Moves.refl


theorem execModeSet_moves (s : State) :
    ∃ t, execModeSet s = .next t ∧ Moves 0x9210040060000008f00020063c s t := by
  unfold execModeSet
  refine ⟨_, rfl, ?_⟩
  exact (Moves.sub (State.authCommand_moves (F := 0x80000000000000080000200010) (h_act := by
          intro z0 z1 z2
          split
          · refine Moves.stAuthDone ?_
            exact (Moves.sub (State.modeRequest_moves ..))
          · refine Moves.stAuthDone ?_
            exact (Moves.sub (State.modeRequest_moves ..))) ..))

theorem execBusRecover_moves (s : State) :
    ∃ t, execBusRecover s = .next t ∧ Moves 0xffffffffffffffff000008f00000063c s t := by
  unfold execBusRecover
  refine ⟨_, rfl, ?_⟩
  exact (Moves.sub (State.authCommand_moves (F := 0xffffffffffffffff0000080000000210) (h_act := by
          intro z0 z1 z2
          extract_lets +onlyGivenNames v3
          refine Moves.iteF (g := AuthDone.st) ?_ ?_
          · refine Moves.stAuthDone ?_
            exact ((Moves.sub (State.wr_moves_any ..)).step (State.setCanState_moves_any ..))
          · exact Moves.refl) ..))

theorem execKeyRotate_moves (s : State) :
    ∃ t, execKeyRotate s = .next t ∧ Moves 0x1210040060000008f00000063c s t := by
  unfold execKeyRotate
  refine ⟨_, rfl, ?_⟩
  exact (Moves.sub (State.authCommand_moves (F := 0x400000000080000000038) (h_act := by
          intro z0 z1 z2
          extract_lets +onlyGivenNames v3
          extract_lets +onlyGivenNames v4
          extract_lets +onlyGivenNames v5
          extract_lets +onlyGivenNames f6
          have hf6 : ∀ y7, Moves 0x400000000080000000038 y7 (f6 y7).st := by
            intro y7
            unfold f6
            refine Moves.stAuthDone ?_
            exact (Moves.sub (State.irq_moves ..) (Moves.at 18 rfl))
          clear_value f6
          refine Moves.iteF (g := AuthDone.st) ?_ ?_
          · exact Moves.refl
          · refine Moves.iteF (g := AuthDone.st) ?_ ?_
            · exact ((Moves.sub (State.setCell_moves ..)).trans (hf6 ..))
            · refine Moves.iteF (g := AuthDone.st) ?_ ?_
              · exact ((Moves.sub (State.keyWrite_moves ..)).trans (hf6 ..))
              · refine Moves.iteF (g := AuthDone.st) ?_ ?_
                · refine Moves.stAuthDone ?_
                  exact (Moves.sub (State.wr_moves ..) (Moves.at 18 rfl))
                · refine Moves.iteF (g := AuthDone.st) ?_ ?_
                  · exact ((Moves.sub (State.keyWrite_moves ..)).trans (hf6 ..))
                  · split
                    · exact ((Moves.sub (State.keyWrite_moves ..)).trans (hf6 ..))
                    · exact Moves.refl) ..))

theorem counterLatch_moves (s : State) (ceil : Bool) :
    Moves 0x400000000080000000010 s (counterLatch s ceil) := by
  unfold counterLatch
  extract_lets +onlyGivenNames v0
  refine Moves.ite ?_ ?_
  · exact (Moves.foldl (fun _ _ => (Moves.sub (State.wr_moves ..) (Moves.at 18 rfl))) Moves.refl)
  · exact (Moves.foldl (fun _ _ => (Moves.sub (State.wr_moves ..) (Moves.at 18 rfl))) Moves.refl)


theorem execAuthCounterRead_moves (w : Who) (ceil : Bool) (s : State) :
    ∃ t, execAuthCounterRead w ceil s = .next t ∧ Moves 0x400600000080000000310 s t := by
  unfold execAuthCounterRead
  extract_lets +onlyGivenNames v0
  refine ⟨_, rfl, ?_⟩
  exact (Moves.sub (State.reading_moves (F := 0x400000000080000000110) (h_act := fun _ => ((Moves.sub (counterLatch_moves ..)).step (State.reply_moves ..))) ..))


theorem State.putWord_moves (s : State) (die k : ℕ) (fs : List FieldDef) (word : ℕ) :
    Moves 0xffffffffffffffff0000080000000010 s (State.putWord s die k fs word) := by
  unfold State.putWord
  exact (Moves.foldl (fun _ _ => (Moves.sub (State.wr_moves_any ..))) Moves.refl)


theorem State.putEntryWords_moves (s : State) (die k code first : ℕ) (fs : List FieldDef) (words : List ℕ) :
    Moves 0xffffffffffffffff0000080000000010 s (State.putEntryWords s die k code first fs words) := by
  unfold State.putEntryWords
  extract_lets +onlyGivenNames s0
  have hs0 : Moves 0xffffffffffffffff0000080000000010 s s0 := (Moves.foldl (fun _ _ => (Moves.sub (State.putWord_moves ..))) Moves.refl)
  clear_value s0
  exact (Moves.foldl (fun _ _ => (Moves.sub (State.wr_moves_any ..))) hs0)


theorem placeRow_moves (die bank : ℕ) (s : State) (e : List Byte) :
    Moves 0xffffffffffffffff0000080000000010 s (placeRow die bank s e) := by
  unfold placeRow
  exact (Moves.sub (State.putEntryWords_moves ..))


theorem State.invalidateBank_moves (s : State) (die bank : ℕ) :
    Moves 0x2000000080000000010 s (State.invalidateBank s die bank) := by
  unfold State.invalidateBank
  exact (Moves.foldl (fun _ _ => (Moves.sub (State.wr_moves ..) (Moves.at 9 rfl))) Moves.refl)


theorem State.placeSection_moves (s : State) (k : Section) (die : ℕ) :
    Moves 0xffffffffffffffff0000080000000038 s (State.placeSection s k die) := by
  unfold State.placeSection
  split
  · exact (Moves.sub (State.storeBytes_moves ..))
  · exact (Moves.foldl (fun _ _ => ((Moves.sub (F := 0xffffffffffffffff0000080000000038) (State.wr_moves ..) (Moves.at 11 rfl)).step (State.wr_moves ..) (Moves.at 11 rfl))) Moves.refl)
  · exact (Moves.foldl (fun _ _ => (Moves.sub (setBitWord_moves ..))) Moves.refl)
  · refine Moves.foldl (fun t0 x1 => ?_) ?_
    · extract_lets +onlyGivenNames v2
      exact ((Moves.sub (F := 0xffffffffffffffff0000080000000038) (State.wr_moves ..) (Moves.at 12 rfl)).step (State.wr_moves ..) (Moves.at 12 rfl))
    · exact Moves.refl
  · extract_lets +onlyGivenNames v3
    exact (Moves.foldl (fun _ _ => (Moves.sub (placeRow_moves ..))) (Moves.sub (State.invalidateBank_moves ..)))
  · exact (Moves.foldl (fun _ _ => (Moves.sub (State.putEntryWords_moves ..))) Moves.refl)
  · extract_lets +onlyGivenNames v4
    exact ((Moves.foldl (F := 0xffffffffffffffff0000080000000038) (fun _ _ => ((Moves.sub (F := 0xffffffffffffffff0000080000000038) (State.wr_moves ..) (Moves.at 26 rfl)).step (State.putEntryWords_moves ..))) Moves.refl).step (State.wr_moves ..) (Moves.at 26 rfl))
  · exact Moves.refl


theorem State.putRaw_moves (s : State) (die k : ℕ) (fs : List FieldDef) (word : ℕ) :
    Moves 0xffffffffffffffff0000080000000010 s (State.putRaw s die k fs word) := by
  unfold State.putRaw
  exact (Moves.foldl (fun _ _ => (Moves.sub (State.wr_moves_any ..))) Moves.refl)


theorem State.setTaskWords_moves (s : State) (t : ℕ) (words : List ℕ) :
    Moves 0xffffffffffffffff0000080000000010 s (State.setTaskWords s t words) := by
  unfold State.setTaskWords
  exact (Moves.foldl (fun _ _ => (Moves.sub (State.putRaw_moves ..))) Moves.refl)


theorem State.setRetWords_moves (s : State) (words : List ℕ) :
    Moves 0xffffffffffffffff0000080000000010 s (State.setRetWords s words) := by
  unfold State.setRetWords
  split
  · exact Moves.refl
  · extract_lets +onlyGivenNames s0
    have hs0 : Moves 0xffffffffffffffff0000080000000010 s s0 := (Moves.sub (State.putRaw_moves ..))
    clear_value s0
    refine Moves.foldl (fun t1 x2 => ?_) ?_
    · extract_lets +onlyGivenNames v3
      refine Moves.ite ?_ ?_
      · exact Moves.refl
      · exact ((Moves.sub (State.putRaw_moves ..)).step (State.putRaw_moves ..))
    · exact hs0


theorem State.showChange_moves (s : State) :
    Moves 0x90000000028 s (State.showChange s) := by
  unfold State.showChange
  extract_lets +onlyGivenNames v0
  extract_lets +onlyGivenNames s1
  have hs1 : Moves 0x90000000028 s s1 := (Moves.set_40 Moves.refl)
  clear_value s1
  extract_lets +onlyGivenNames v2
  exact (hs1.step (State.storeBytes_moves ..))


theorem State.stageArea_moves (s : State) :
    Moves 0x80000000028 s (State.stageArea s) := by
  unfold State.stageArea
  extract_lets +onlyGivenNames v0
  exact (Moves.sub (State.storeBytes_moves ..))


theorem State.changeTo_moves (s : State) (state code : ℕ) :
    Moves 0x200400000090000000238 s (State.changeTo s state code) := by
  unfold State.changeTo
  extract_lets +onlyGivenNames v0
  exact (((Moves.set_40 Moves.refl).step (State.showChange_moves ..)).step (State.archive_moves ..))


theorem State.changeCode_moves (s : State) (code : ℕ) :
    Moves 0x90000000028 s (State.changeCode s code) := by
  unfold State.changeCode
  exact ((Moves.set_40 Moves.refl).step (State.showChange_moves ..))


theorem State.settle_moves (s : State) :
    Moves 0x200400000090000000238 s (State.settle s) := by
  unfold State.settle
  refine Moves.ite ?_ ?_
  · exact ((Moves.set_40 Moves.refl).step (State.changeTo_moves ..))
  · exact Moves.refl


theorem State.remapRecord_moves (s : State) (a b : ℕ) :
    Moves 0x80000000080000000038 s (State.remapRecord s a b) := by
  unfold State.remapRecord
  split
  · extract_lets +onlyGivenNames v0
    exact (Moves.sub (State.twinWrite_moves ..))
  · exact Moves.refl


theorem windowShow_moves (s : State) :
    Moves 0x80000000080000000010 s (windowShow s) := by
  unfold windowShow
  exact ((Moves.sub (F := 0x80000000080000000010) (State.wr_moves ..) (Moves.at 15 rfl)).step (State.wrB_moves ..) (Moves.at 15 rfl))


theorem Moves.set_50 {F : Nat} {s x : State} {f50 : Archive} (h : Moves F s x) (sub : 0x4000000000000 &&& F = 0x4000000000000 := by rfl) :
    Moves F s { x with arch := f50 } :=
  h.step (G := 0x4000000000000) ⟨id, Nat.le_refl _, fun p hp => by cases p <;> first | rfl | exact absurd hp (by decide), fun _ _ _ => rfl⟩ sub

theorem nvcData_moves (w : Who) (s : State) (v : ℕ) :
    Moves 0x380400004080000000210 s (nvcData w s v) := by
  unfold nvcData
  extract_lets +onlyGivenNames v0
  extract_lets +onlyGivenNames v1
  extract_lets +onlyGivenNames s2
  have hs2 : Moves 0x380400004080000000210 s s2 := (Moves.sub (State.wr_moves ..) (Moves.at 15 rfl))
  clear_value s2
  refine Moves.ite ?_ ?_
  · extract_lets +onlyGivenNames s3
    have hs3 : Moves 0x380400004080000000210 s s3 := (((hs2.step (State.wr_moves ..) (Moves.at 15 rfl)).step (State.inc_moves ..) (Moves.at 16 rfl)).step (State.irq_moves ..) (Moves.at 16 rfl))
    clear_value s3
    extract_lets +onlyGivenNames s4
    have hs4 : Moves 0x380400004080000000210 s s4 := ((hs3.step (State.wr_moves ..) (Moves.at 16 rfl)).step (State.wr_moves ..) (Moves.at 16 rfl))
    clear_value s4
    extract_lets +onlyGivenNames s5
    have hs5 : Moves 0x380400004080000000210 s s5 := by
      refine Moves.ite ?_ ?_
      · exact hs4
      · exact (hs4.step (State.archive_moves ..))
    clear_value s5
    exact (Moves.set_50 hs5)
  · extract_lets +onlyGivenNames s6
    have hs6 : Moves 0x380400004080000000210 s s6 := (hs2.step (State.wr_moves ..) (Moves.at 15 rfl))
    clear_value s6
    exact ((Moves.set_50 hs6).step (windowShow_moves ..))


theorem nvcWrite_moves (w : Who) (word : ℕ) (s : State) :
    Moves 0x390f00004080000001350 s (nvcWrite w word s) := by
  unfold nvcWrite
  refine Moves.ite ?_ ?_
  · exact (Moves.sub (State.holdPage_moves ..))
  · exact (Moves.sub (writeThen_moves (F := 0x380400004080000000210) (h_effect := fun _ _ => (Moves.sub (nvcData_moves ..))) ..))


theorem releaseWindow_moves (s : State) :
    Moves 0x390f00004080000001350 s (releaseWindow s) := by
  unfold releaseWindow
  refine Moves.ite ?_ ?_
  · exact Moves.refl
  · split
    · exact (((Moves.sub (State.unholdRequest_moves ..)).step (nvcWrite_moves ..)).step (State.reply_moves ..))
    · exact Moves.refl


theorem execNvcWordQueue_moves (w : Who) (word : ℕ) (s : State) :
    ∃ t, execNvcWordQueue w word s = .next t ∧ Moves 0x390f00004080000001350 s t := by
  unfold execNvcWordQueue
  refine ⟨_, rfl, ?_⟩
  exact (Moves.sub (nvcWrite_moves ..))


theorem execStacksWordWriteEnd_moves (s : State) :
    ∃ t, execStacksWordWriteEnd s = .next t ∧ Moves 0x390f00004080000001378 s t := by
  unfold execStacksWordWriteEnd
  refine ⟨_, rfl, ?_⟩
  split
  · extract_lets +onlyGivenNames s0
    have hs0 : Moves 0x390f00004080000001378 s s0 := ((Moves.sub (State.store_moves ..)).step (State.incWrap_moves ..) (Moves.at 15 rfl))
    clear_value s0
    exact (((Moves.set_50 hs0).step (windowShow_moves ..)).step (releaseWindow_moves ..))
  · exact Moves.refl


theorem execStacksRead_moves (w : Who) (off n : ℕ) (s : State) :
    ∃ t, execStacksRead w off n s = .next t ∧ Moves 0x280600000080000000310 s t := by
  unfold execStacksRead
  refine ⟨_, rfl, ?_⟩
  refine Moves.ite ?_ ?_
  · exact (Moves.sub (State.reading_moves (F := 0x280400000080000000310) (h_act := by
          intro z0
          extract_lets +onlyGivenNames r1
          have hr1 : Moves 0x280400000080000000310 z0 r1.1 := (Moves.sub (State.stacksRead_moves ..))
          clear_value r1
          exact (hr1.step (State.reply_moves ..))) ..))
  · exact Moves.refl


theorem nvcClr_moves (s : State) (v : ℕ) :
    Moves 0x80000000080000000010 s (nvcClr s v) := by
  unfold nvcClr
  refine Moves.ite ?_ ?_
  · exact (Moves.sub (State.wr_moves ..) (Moves.at 15 rfl))
  · exact Moves.refl


theorem execNvcClearPoison_moves (w : Who) (word : ℕ) (s : State) :
    ∃ t, execNvcClearPoison w word s = .next t ∧ Moves 0x290f00000080000000350 s t := by
  unfold execNvcClearPoison
  refine ⟨_, rfl, ?_⟩
  exact (Moves.sub (writeThen_moves (F := 0x80000000080000000010) (h_effect := fun _ _ => (Moves.sub (nvcClr_moves ..))) ..))


theorem execRefreshPage_moves (s : State) :
    ∃ t, execRefreshPage s = .next t ∧ Moves 0x8000000408000000003b s t := by
  unfold execRefreshPage
  refine ⟨_, rfl, ?_⟩
  refine Moves.ite ?_ ?_
  · extract_lets +onlyGivenNames s0
    have hs0 : Moves 0x8000000408000000003b s s0 := (Moves.sub (State.advanceTime_moves ..))
    clear_value s0
    extract_lets +onlyGivenNames v1
    extract_lets +onlyGivenNames v2
    extract_lets +onlyGivenNames s3
    have hs3 : Moves 0x8000000408000000003b s s3 := (Moves.foldl (fun _ _ => (Moves.sub (State.store_moves ..))) hs0)
    clear_value s3
    extract_lets +onlyGivenNames s4
    have hs4 : Moves 0x8000000408000000003b s s4 := (hs3.step (State.wr_moves ..) (Moves.at 15 rfl))
    clear_value s4
    extract_lets +onlyGivenNames s5
    have hs5 : Moves 0x8000000408000000003b s s5 := by
      refine Moves.ite ?_ ?_
      · exact (((hs4.step (State.wr_moves ..) (Moves.at 15 rfl)).step (State.inc_moves ..) (Moves.at 15 rfl)).step (State.irq_moves ..) (Moves.at 15 rfl))
      · exact (hs4.step (State.wr_moves ..) (Moves.at 15 rfl))
    clear_value s5
    extract_lets +onlyGivenNames v6
    extract_lets +onlyGivenNames s7
    have hs7 : Moves 0x8000000408000000003b s s7 := by
      refine Moves.ite ?_ ?_
      · exact (hs5.step (State.setCell_moves ..))
      · exact hs5
    clear_value s7
    exact (Moves.set_50 hs7)
  · exact Moves.refl


theorem State.setTally_moves (s : State) (t : ℕ) (x : Tally) :
    Moves 0x200000000080000000010 s (State.setTally s t x) := by
  unfold State.setTally
  exact (Moves.foldl (fun _ _ => (Moves.sub (State.wr_moves ..) (Moves.at 17 rfl))) Moves.refl)


theorem State.tallyChanged_moves (s : State) (t : ℕ) :
    Moves 0x4000000000000 s (State.tallyChanged s t) := by
  unfold State.tallyChanged
  exact (Moves.set_50 Moves.refl)


theorem State.saveArch_moves (s : State) :
    Moves 0x80000000080000000038 s (State.saveArch s) := by
  unfold State.saveArch
  refine Moves.ite ?_ ?_
  · exact (Moves.sub (State.twinWrite_moves ..))
  · exact Moves.refl


theorem State.tallyGo_moves (w : Who) (s : State) (v : ℕ) :
    Moves 0x200000004080000000010 s (State.tallyGo w s v) := by
  unfold State.tallyGo
  extract_lets +onlyGivenNames v0
  extract_lets +onlyGivenNames v1
  refine Moves.ite ?_ ?_
  · exact Moves.refl
  · refine Moves.ite ?_ ?_
    · exact ((Moves.sub (State.setTally_moves ..)).step (State.tallyChanged_moves ..))
    · extract_lets +onlyGivenNames v2
      exact ((Moves.sub (State.setTally_moves ..)).step (State.tallyChanged_moves ..))


theorem State.tallyDef_moves (s : State) (v : ℕ) :
    Moves 0x280000004080000000038 s (State.tallyDef s v) := by
  unfold State.tallyDef
  extract_lets +onlyGivenNames v0
  extract_lets +onlyGivenNames v1
  extract_lets +onlyGivenNames s2
  have hs2 : Moves 0x280000004080000000038 s s2 := (Moves.sub (State.setTally_moves ..))
  clear_value s2
  exact ((hs2.step (State.tallyChanged_moves ..)).step (State.saveArch_moves ..))


theorem State.binEdge_moves (s : State) (k : ℕ) :
    Moves 0x280000000080000000038 s (State.binEdge s k) := by
  unfold State.binEdge
  extract_lets +onlyGivenNames v0
  extract_lets +onlyGivenNames v1
  extract_lets +onlyGivenNames v2
  extract_lets +onlyGivenNames s3
  have hs3 : Moves 0x280000000080000000038 s s3 := by
    refine Moves.foldl (fun t4 x5 => ?_) ?_
    · refine Moves.ite ?_ ?_
      · exact (Moves.sub (State.wr_moves ..) (Moves.at 17 rfl))
      · exact Moves.refl
    · exact Moves.refl
  clear_value s3
  exact (hs3.step (State.saveArch_moves ..))


theorem State.announce_moves (s : State) :
    Moves 0x2000000600004081000000614 s (State.announce s) := by
  unfold State.announce
  extract_lets +onlyGivenNames s0
  have hs0 : Moves 0x2000000600004081000000614 s s0 := (Moves.sub (State.canSend_moves ..) (Moves.at 33 rfl))
  clear_value s0
  exact (Moves.set_50 hs0)


theorem State.stkStore_moves (s : State) (off : ℕ) (bytes : List Byte) :
    Moves 0x80000000080000000038 s (State.stkStore s off bytes) := by
  unfold State.stkStore
  exact ((Moves.sub (State.storeBytes_moves ..)).step (State.wr_moves ..) (Moves.at 15 rfl))


theorem State.startFlush_moves (s : State) :
    Moves 0x200000004080000000010 s (State.startFlush s) := by
  unfold State.startFlush
  refine Moves.ite ?_ ?_
  · exact (Moves.set_50 Moves.refl)
  · refine Moves.ite ?_ ?_
    · exact Moves.refl
    · extract_lets +onlyGivenNames s0
      have hs0 : Moves 0x200000004080000000010 s s0 := (Moves.sub (State.wr_moves ..) (Moves.at 17 rfl))
      clear_value s0
      exact (Moves.set_50 hs0)


theorem State.takeRecord_moves (s : State) (sender code time : ℕ) (payload : List Byte) :
    Moves 0x200000004080000000038 s (State.takeRecord s sender code time payload) := by
  unfold State.takeRecord
  extract_lets +onlyGivenNames v0
  extract_lets +onlyGivenNames s1
  have hs1 : Moves 0x200000004080000000038 s s1 := by
    refine Moves.ite ?_ ?_
    · exact (Moves.sub (State.setCell_moves ..))
    · exact Moves.refl
  clear_value s1
  extract_lets +onlyGivenNames v2
  extract_lets +onlyGivenNames v3
  extract_lets +onlyGivenNames v4
  extract_lets +onlyGivenNames s5
  have hs5 : Moves 0x200000004080000000038 s s5 := by
    refine Moves.ite ?_ ?_
    · exact hs1
    · exact (hs1.step (State.storeByte_moves ..))
  clear_value s5
  extract_lets +onlyGivenNames v6
  extract_lets +onlyGivenNames s7
  have hs7 : Moves 0x200000004080000000038 s s7 := (hs5.step (State.storeBytes_moves ..))
  clear_value s7
  extract_lets +onlyGivenNames s8
  have hs8 : Moves 0x200000004080000000038 s s8 := ((hs7.step (State.wr_moves ..) (Moves.at 17 rfl)).step (State.wr_moves ..) (Moves.at 17 rfl))
  clear_value s8
  extract_lets +onlyGivenNames s9
  have hs9 : Moves 0x200000004080000000038 s s9 := (hs8.step (State.wr_moves ..) (Moves.at 17 rfl))
  clear_value s9
  extract_lets +onlyGivenNames v10
  extract_lets +onlyGivenNames s11
  have hs11 : Moves 0x200000004080000000038 s s11 := (Moves.set_50 hs9)
  clear_value s11
  refine Moves.ite ?_ ?_
  · exact (hs11.step (State.startFlush_moves ..))
  · exact hs11


theorem State.archiveFails_moves (s : State) (cause addr : ℕ) :
    Moves 0x200022060000408100000063c s (State.archiveFails s cause addr) := by
  unfold State.archiveFails
  refine Moves.ite ?_ ?_
  · exact Moves.refl
  · extract_lets +onlyGivenNames s0
    have hs0 : Moves 0x200022060000408100000063c s s0 := ((Moves.sub (F := 0x200022060000408100000063c) (State.wr_moves ..) (Moves.at 17 rfl)).step (State.wr_moves ..) (Moves.at 17 rfl))
    clear_value s0
    extract_lets +onlyGivenNames v1
    extract_lets +onlyGivenNames v2
    extract_lets +onlyGivenNames s3
    have hs3 : Moves 0x200022060000408100000063c s s3 := (Moves.foldl (fun _ _ => (Moves.sub (State.wr_moves ..) (Moves.at 13 rfl))) hs0)
    clear_value s3
    extract_lets +onlyGivenNames s4
    have hs4 : Moves 0x200022060000408100000063c s s4 := (hs3.step (State.irq_moves ..) (Moves.at 17 rfl))
    clear_value s4
    extract_lets +onlyGivenNames v5
    extract_lets +onlyGivenNames s6
    have hs6 : Moves 0x200022060000408100000063c s s6 := (Moves.set_50 hs4)
    clear_value s6
    extract_lets +onlyGivenNames v7
    extract_lets +onlyGivenNames s8
    have hs8 : Moves 0x200022060000408100000063c s s8 := by
      refine Moves.ite ?_ ?_
      · exact (hs6.step (State.takeRecord_moves ..))
      · exact (hs6.step (State.inc_moves ..) (Moves.at 17 rfl))
    clear_value s8
    exact (hs8.step (State.announce_moves ..))


theorem State.setPlace_moves (s : State) (b o : ℕ) :
    Moves 0x200000000080000000010 s (State.setPlace s b o) := by
  unfold State.setPlace
  refine Moves.ite ?_ ?_
  · exact (Moves.sub (State.wr_moves ..) (Moves.at 17 rfl))
  · exact ((Moves.sub (F := 0x200000000080000000010) (State.wr_moves ..) (Moves.at 17 rfl)).step (State.wr_moves ..) (Moves.at 17 rfl))


theorem State.nextBlock_moves (s : State) :
    Moves 0x200000000080000000010 s (State.nextBlock s).1 := by
  unfold State.nextBlock
  extract_lets +onlyGivenNames v0
  extract_lets +onlyGivenNames v1
  extract_lets +onlyGivenNames v2
  clear_value v0 v1 v2
  split
  · exact Moves.refl
  · extract_lets +onlyGivenNames s3
    have hs3 : Moves 0x200000000080000000010 s s3 := by
      refine Moves.ite ?_ ?_
      · exact Moves.refl
      · exact ((Moves.sub (F := 0x200000000080000000010) (State.wr_moves ..) (Moves.at 17 rfl)).step (State.irq_moves ..) (Moves.at 17 rfl))
    clear_value s3
    extract_lets +onlyGivenNames v4
    dsimp -zeta only
    exact hs3


theorem State.openBlock_moves (s : State) (first : ℕ) :
    Moves 0x280000004080000000038 s (State.openBlock s first).1 := by
  unfold State.openBlock
  split
  rename_i u0 _ hq1
  have hd2 := Moves.fst (F := 0x280000004080000000038) (s := s) hq1 (Moves.sub (State.nextBlock_moves ..))
  extract_lets +onlyGivenNames s3
  have hs3 : Moves 0x280000004080000000038 s s3 := by
    refine Moves.ite ?_ ?_
    · exact (hd2.step (State.wr_moves ..) (Moves.at 17 rfl))
    · exact hd2
  clear_value s3
  extract_lets +onlyGivenNames s4
  have hs4 : Moves 0x280000004080000000038 s s4 := by
    refine Moves.ite ?_ ?_
    · exact hd2
    · exact (hs3.step (State.wr_moves ..) (Moves.at 17 rfl))
  clear_value s4
  extract_lets +onlyGivenNames v5
  extract_lets +onlyGivenNames v6
  extract_lets +onlyGivenNames s7
  have hs7 : Moves 0x280000004080000000038 s s7 := (hs4.step (State.stkStore_moves ..))
  clear_value s7
  dsimp -zeta only
  exact ((Moves.set_50 hs7).step (State.setPlace_moves ..))


theorem State.retireBlock_moves (s : State) (b o : ℕ) :
    Moves 0x20002a060000408100000063c s (State.retireBlock s b o) := by
  unfold State.retireBlock
  extract_lets +onlyGivenNames v0
  extract_lets +onlyGivenNames v1
  extract_lets +onlyGivenNames v2
  extract_lets +onlyGivenNames s3
  have hs3 : Moves 0x20002a060000408100000063c s s3 := (Moves.set_50 Moves.refl)
  clear_value s3
  extract_lets +onlyGivenNames s4
  have hs4 : Moves 0x20002a060000408100000063c s s4 := ((hs3.step (State.wr_moves ..) (Moves.at 17 rfl)).step (State.archive_moves ..))
  clear_value s4
  extract_lets +onlyGivenNames s5
  have hs5 : Moves 0x20002a060000408100000063c s s5 := (hs4.step (State.saveArch_moves ..))
  clear_value s5
  refine Moves.ite ?_ ?_
  · exact (hs5.step (State.archiveFails_moves ..))
  · split
    rename_i u6 _ hq7
    have hd8 := Moves.fst (F := 0x20002a060000408100000063c) (s := s) hq7 (hs5.step (State.openBlock_moves ..))
    exact ((hd8.step (State.stkStore_moves ..)).step (State.setPlace_moves ..))


theorem State.shelve_moves (failing : List ℕ) (bytes : List Byte) (rseq a3 : ℕ) (a4 : State) :
    Moves 0x20002a060000408100000063c a4 (State.shelve failing bytes rseq a3 a4) := by
  induction a3 generalizing a4 with
  | zero => exact Moves.refl
  | succ n ih =>
    unfold State.shelve
    refine Moves.ite Moves.refl ?_
    split
    rename_i t p hq
    have ht := Moves.fst (F := 0x20002a060000408100000063c) (s := a4) hq (by
      split
      · exact Moves.ite1 Moves.refl (Moves.sub (State.openBlock_moves ..))
      · exact Moves.sub (State.openBlock_moves ..))
    refine Moves.ite ?_ ?_
    · exact (ht.step (State.retireBlock_moves ..)).trans (ih ..)
    · exact (ht.step (State.stkStore_moves ..)).step (State.setPlace_moves ..)


theorem State.flushOne_moves (failing : List ℕ) (s : State) :
    Moves 0x20002a060000408100000063c s (State.flushOne failing s) := by
  unfold State.flushOne
  split
  · extract_lets +onlyGivenNames s0
    have hs0 : Moves 0x20002a060000408100000063c s s0 := (Moves.sub (State.shelve_moves ..))
    clear_value s0
    refine Moves.ite ?_ ?_
    · exact hs0
    · extract_lets +onlyGivenNames s1
      have hs1 : Moves 0x20002a060000408100000063c s s1 := ((hs0.step (State.wr_moves ..) (Moves.at 17 rfl)).step (State.wr_moves ..) (Moves.at 17 rfl))
      clear_value s1
      extract_lets +onlyGivenNames s2
      have hs2 : Moves 0x20002a060000408100000063c s s2 := (hs1.step (State.wr_moves ..) (Moves.at 17 rfl))
      clear_value s2
      exact (Moves.set_50 hs2)
  · exact Moves.refl


theorem State.flushEnds_moves (s : State) (failing : List ℕ) :
    Moves 0x20002a060000408100000063c s (State.flushEnds s failing) := by
  unfold State.flushEnds
  extract_lets +onlyGivenNames s0
  have hs0 : Moves 0x20002a060000408100000063c s s0 := (Moves.foldl (fun _ _ => (Moves.sub (State.flushOne_moves ..))) Moves.refl)
  clear_value s0
  refine Moves.ite ?_ ?_
  · exact hs0
  · extract_lets +onlyGivenNames v1
    extract_lets +onlyGivenNames s2
    have hs2 : Moves 0x20002a060000408100000063c s s2 := ((hs0.step (State.wr_moves ..) (Moves.at 17 rfl)).step (State.irq_moves ..) (Moves.at 17 rfl))
    clear_value s2
    extract_lets +onlyGivenNames v3
    extract_lets +onlyGivenNames s4
    have hs4 : Moves 0x20002a060000408100000063c s s4 := (Moves.set_50 hs2)
    clear_value s4
    refine Moves.ite ?_ ?_
    · exact (hs4.step (State.startFlush_moves ..))
    · exact hs4


theorem State.takeRun_moves (s : State) (sender : ℕ) (run : List QEntry) :
    Moves 0x200000004080000000038 s (State.takeRun s sender run) := by
  unfold State.takeRun
  extract_lets +onlyGivenNames v0
  extract_lets +onlyGivenNames v1
  extract_lets +onlyGivenNames v2
  extract_lets +onlyGivenNames v3
  extract_lets +onlyGivenNames v4
  refine Moves.ite ?_ ?_
  · exact (Moves.sub (State.inc_moves ..) (Moves.at 17 rfl))
  · refine Moves.ite ?_ ?_
    · exact ((Moves.sub (F := 0x200000004080000000038) (State.inc_moves ..) (Moves.at 17 rfl)).step (State.irq_moves ..) (Moves.at 17 rfl))
    · exact ((Moves.sub (F := 0x200000004080000000038) (State.wr_moves ..) (Moves.at 17 rfl)).step (State.takeRecord_moves ..))


theorem State.assemble_moves (a0 : ℕ) (a1 : State) :
    Moves 0x200000004080000000a38 a1 (State.assemble a0 a1) := by
  induction a0 generalizing a1 with
  | zero => exact Moves.refl
  | succ n ih =>
    unfold State.assemble
    split
    · exact Moves.refl
    · extract_lets sender present r cut put
      have hput : ∀ y, Moves 0x200000004080000000a38 y (put y) := by
        intro y
        unfold put
        extract_lets +onlyGivenNames s
        have hs : Moves 0x200000004080000000a38 y s := Moves.ite ((Moves.sub (State.inc_moves ..)).step (State.irq_moves ..)) Moves.refl
        clear_value s
        exact Moves.set_50 hs rfl
      clear_value put
      split
      · exact ((Moves.sub (State.popQueue_moves ..)).trans (hput ..)).trans (ih ..)
      · exact (((Moves.sub (State.popQueue_moves ..)).trans (hput ..)).step (State.inc_moves ..)).step (State.irq_moves ..)
      · refine Moves.ite Moves.refl ?_
        exact ((Moves.sub (State.popQueue_moves ..)).trans (hput ..)).step (State.takeRun_moves ..)


theorem State.assembleAll_moves (s : State) :
    Moves 0x200000004080000000a38 s (State.assembleAll s) := by
  unfold State.assembleAll
  exact (Moves.foldl (fun _ _ => (Moves.sub (State.assemble_moves ..))) Moves.refl)


theorem State.snapTally_moves (failing : List ℕ) (s : State) (t : ℕ) :
    Moves 0x20002a060000408100000063c s (State.snapTally failing s t) := by
  unfold State.snapTally
  extract_lets +onlyGivenNames v0
  extract_lets +onlyGivenNames s1
  have hs1 : Moves 0x20002a060000408100000063c s s1 := (Moves.sub (State.setTally_moves ..))
  clear_value s1
  extract_lets +onlyGivenNames v2
  refine Moves.ite ?_ ?_
  · extract_lets +onlyGivenNames v3
    extract_lets +onlyGivenNames s4
    have hs4 : Moves 0x20002a060000408100000063c s s4 := (Moves.set_50 hs1)
    clear_value s4
    refine Moves.ite ?_ ?_
    · exact (hs4.step (State.archiveFails_moves ..))
    · exact hs4
  · extract_lets +onlyGivenNames s5
    have hs5 : Moves 0x20002a060000408100000063c s s5 := (hs1.step (State.stkStore_moves ..))
    clear_value s5
    exact (Moves.set_50 hs5)


theorem State.snapTallies_moves (s : State) (failing : List ℕ) :
    Moves 0x20002a060000408100000063c s (State.snapTallies s failing) := by
  unfold State.snapTallies
  refine Moves.ite ?_ ?_
  · exact Moves.refl
  · refine Moves.foldl (fun t0 x1 => ?_) ?_
    · refine Moves.ite ?_ ?_
      · exact Moves.refl
      · exact (Moves.sub (State.snapTally_moves ..))
    · exact Moves.refl


theorem State.startSnapshot_moves (s : State) :
    Moves 0x4000000000000 s (State.startSnapshot s) := by
  unfold State.startSnapshot
  exact (Moves.set_50 Moves.refl)


theorem State.archCtl_moves (s : State) (v : ℕ) :
    Moves 0x200000004080000000010 s (State.archCtl s v) := by
  unfold State.archCtl
  extract_lets +onlyGivenNames s0
  have hs0 : Moves 0x200000004080000000010 s s0 := by
    refine Moves.ite ?_ ?_
    · exact (Moves.sub (State.startFlush_moves ..))
    · exact Moves.refl
  clear_value s0
  refine Moves.ite ?_ ?_
  · exact (hs0.step (State.startSnapshot_moves ..))
  · exact hs0


theorem State.archiveScan_moves (s : State) :
    Moves 0x200400004080000000210 s (State.archiveScan s) := by
  unfold State.archiveScan
  extract_lets +onlyGivenNames v0
  extract_lets +onlyGivenNames v1
  extract_lets +onlyGivenNames v2
  extract_lets +onlyGivenNames v3
  extract_lets +onlyGivenNames v4
  extract_lets +onlyGivenNames v5
  extract_lets +onlyGivenNames s6
  have hs6 : Moves 0x200400004080000000210 s s6 := by
    unfold s6
    clear_value v0 v1 v2 v3 v4 v5 s6
    split
    · exact (Moves.sub (State.wr_moves ..) (Moves.at 17 rfl))
    · exact (Moves.sub (State.wr_moves ..) (Moves.at 17 rfl))
  clear_value s6
  extract_lets +onlyGivenNames v7
  extract_lets +onlyGivenNames s8
  have hs8 : Moves 0x200400004080000000210 s s8 := (((hs6.step (State.wr_moves ..) (Moves.at 17 rfl)).step (State.wr_moves ..) (Moves.at 17 rfl)).step (State.wr_moves ..) (Moves.at 17 rfl))
  clear_value s8
  extract_lets +onlyGivenNames s9
  have hs9 : Moves 0x200400004080000000210 s s9 := by
    unfold s9
    clear_value v0 v1 v2 v3 v4 v5 v7 s9
    split
    · extract_lets +onlyGivenNames s10
      have hs10 : Moves 0x200400004080000000210 s s10 := (((hs6.step (State.wr_moves ..) (Moves.at 17 rfl)).step (State.wr_moves ..) (Moves.at 17 rfl)).step (State.wr_moves ..) (Moves.at 17 rfl))
      clear_value s10
      extract_lets +onlyGivenNames s11
      have hs11 : Moves 0x200400004080000000210 s s11 := (hs10.step (State.wr_moves ..) (Moves.at 17 rfl))
      clear_value s11
      exact (hs11.step (State.wrB_moves ..) (Moves.at 17 rfl))
    · exact ((hs8.step (State.wr_moves ..) (Moves.at 17 rfl)).step (State.wr_moves ..) (Moves.at 17 rfl))
  clear_value s9
  extract_lets +onlyGivenNames s12
  have hs12 : Moves 0x200400004080000000210 s s12 := ((hs9.step (State.wr_moves ..) (Moves.at 17 rfl)).step (State.wr_moves ..) (Moves.at 17 rfl))
  clear_value s12
  extract_lets +onlyGivenNames v13
  extract_lets +onlyGivenNames s14
  have hs14 : Moves 0x200400004080000000210 s s14 := (Moves.set_50 hs12)
  clear_value s14
  refine Moves.ite ?_ ?_
  · exact (hs14.step (State.archive_moves ..))
  · exact hs14


theorem State.archiveLoad_moves (s : State) :
    Moves 0x200400004080000000210 s (State.archiveLoad s) := by
  unfold State.archiveLoad
  split
  · exact Moves.refl
  · extract_lets +onlyGivenNames s0
    have hs0 : Moves 0x200400004080000000210 s s0 := (Moves.foldl (fun _ _ => (Moves.foldl (fun _ _ => (Moves.sub (State.wr_moves ..) (Moves.at 17 rfl))) Moves.refl)) Moves.refl)
    clear_value s0
    extract_lets +onlyGivenNames v1
    extract_lets +onlyGivenNames v2
    extract_lets +onlyGivenNames s3
    have hs3 : Moves 0x200400004080000000210 s s3 := (Moves.set_50 hs0)
    clear_value s3
    extract_lets +onlyGivenNames s4
    have hs4 : Moves 0x200400004080000000210 s s4 := (hs3.step (State.wr_moves ..) (Moves.at 17 rfl))
    clear_value s4
    refine Moves.foldl (fun t5 x6 => ?_) ?_
    · extract_lets +onlyGivenNames v7
      refine Moves.ite ?_ ?_
      · exact Moves.refl
      · extract_lets +onlyGivenNames v8
        extract_lets +onlyGivenNames v9
        refine Moves.ite ?_ ?_
        · exact (Moves.sub (State.setTally_moves ..))
        · exact ((Moves.sub (State.setTally_moves ..)).step (State.archive_moves ..))
    · exact hs4


theorem execArchiveRecord_moves (s : State) :
    ∃ t, execArchiveRecord s = .next t ∧ Moves 0x200000004080000000a38 s t := by
  unfold execArchiveRecord
  refine ⟨_, rfl, ?_⟩
  refine Moves.ite ?_ ?_
  · exact Moves.refl
  · exact (Moves.sub (State.assemble_moves ..))


theorem execBudgetRefill_moves (s : State) :
    ∃ t, execBudgetRefill s = .next t ∧ Moves 0x200000004080000000013 s t := by
  unfold execBudgetRefill
  extract_lets +onlyGivenNames s0
  have hs0 : Moves 0x200000004080000000013 s s0 := (Moves.sub (State.advanceTime_moves ..))
  clear_value s0
  refine ⟨_, rfl, ?_⟩
  extract_lets +onlyGivenNames s1
  have hs1 : Moves 0x200000004080000000013 s s1 := (hs0.step (State.wr_moves ..) (Moves.at 17 rfl))
  clear_value s1
  exact (Moves.set_50 hs1)


theorem execArchiveFlush_moves (w : Who) (s : State) :
    ∃ t, execArchiveFlush w s = .next t ∧ Moves 0x210f00004080000000350 s t := by
  unfold execArchiveFlush
  refine ⟨_, rfl, ?_⟩
  exact (Moves.sub (writeThen_moves (F := 0x200000004080000000010) (h_effect := fun _ _ => (Moves.sub (State.archCtl_moves ..))) ..))


theorem execRecordAgeFlush_moves (s : State) :
    ∃ t, execRecordAgeFlush s = .next t ∧ Moves 0x200000004080000000013 s t := by
  unfold execRecordAgeFlush
  refine ⟨_, rfl, ?_⟩
  split
  · exact ((Moves.sub (State.advanceTime_moves ..)).step (State.startFlush_moves ..))
  · exact Moves.refl


theorem execArchiveAnnounce_moves (s : State) :
    ∃ t, execArchiveAnnounce s = .next t ∧ Moves 0x2000000600004081000000617 s t := by
  unfold execArchiveAnnounce
  refine ⟨_, rfl, ?_⟩
  refine Moves.ite ?_ ?_
  · exact ((Moves.sub (State.advanceTime_moves ..)).step (State.announce_moves ..))
  · exact Moves.refl


theorem execTallyUpdate_moves (w : Who) (word : ℕ) (s : State) :
    ∃ t, execTallyUpdate w word s = .next t ∧ Moves 0x210f00004080000000350 s t := by
  unfold execTallyUpdate
  refine ⟨_, rfl, ?_⟩
  exact (Moves.sub (writeThen_moves (F := 0x200000004080000000010) (h_effect := fun _ _ => (Moves.sub (State.tallyGo_moves ..))) ..))


theorem execTallyDefine_moves (w : Who) (word : ℕ) (s : State) :
    ∃ t, execTallyDefine w word s = .next t ∧ Moves 0x290f00004080000000378 s t := by
  unfold execTallyDefine
  refine ⟨_, rfl, ?_⟩
  exact (Moves.sub (writeThen_moves (F := 0x280000004080000000038) (h_effect := fun _ _ => (Moves.sub (State.tallyDef_moves ..))) ..))


theorem execBinEdgeWrite_moves (w : Who) (k word : ℕ) (s : State) :
    ∃ t, execBinEdgeWrite w k word s = .next t ∧ Moves 0x290f00000080000000378 s t := by
  unfold execBinEdgeWrite
  refine ⟨_, rfl, ?_⟩
  refine Moves.ite ?_ ?_
  · exact (Moves.sub (writeThen_moves (F := 0x280000000080000000038) (h_effect := fun _ _ => (Moves.sub (State.binEdge_moves ..))) ..))
  · exact Moves.refl


theorem execTallySnapshot_moves (w : Who) (s : State) :
    ∃ t, execTallySnapshot w s = .next t ∧ Moves 0x210f00004080000000350 s t := by
  unfold execTallySnapshot
  refine ⟨_, rfl, ?_⟩
  exact (Moves.sub (writeThen_moves (F := 0x200000004080000000010) (h_effect := fun _ _ => (Moves.sub (State.archCtl_moves ..))) ..))


theorem execTallySnapshotPeriod_moves (s : State) :
    ∃ t, execTallySnapshotPeriod s = .next t ∧ Moves 0x4000000000003 s t := by
  unfold execTallySnapshotPeriod
  extract_lets +onlyGivenNames v0
  refine ⟨_, rfl, ?_⟩
  refine Moves.ite ?_ ?_
  · exact Moves.refl
  · extract_lets +onlyGivenNames s1
    have hs1 : Moves 0x4000000000003 s s1 := (Moves.sub (State.advanceTime_moves ..))
    clear_value s1
    exact (Moves.set_50 hs1)


theorem State.lineCount_moves (s : State) (p : ℕ) (f : FieldDef) :
    Moves (0x80000000010 ||| Moves.page ((f.p p).code)) s (State.lineCount s p f) := by
  unfold State.lineCount
  exact (Moves.sub (State.inc_moves ..) (Moves.or_mono rfl))

theorem State.lineCount_moves_any (s : State) (p : ℕ) (f : FieldDef) :
    Moves 0xffffffffffffffff0000080000000010 s (State.lineCount s p f) :=
  (State.lineCount_moves ..).sub (Moves.page_any rfl)


theorem State.rxFormat_moves (s : State) (p : ℕ) :
    Moves (0x80000000010 ||| Moves.page (29 + p)) s (State.rxFormat s p) := by
  unfold State.rxFormat
  exact ((Moves.sub (F := (0x80000000010 ||| Moves.page (29 + p))) (State.lineCount_moves ..) (Moves.or_monoC rfl rfl)).step (State.irq_moves ..) (Moves.or_monoC rfl rfl))

theorem State.rxFormat_moves_any (s : State) (p : ℕ) :
    Moves 0xffffffffffffffff0000080000000010 s (State.rxFormat s p) :=
  (State.rxFormat_moves ..).sub (Moves.page_any rfl)


theorem State.toFirmware_moves (s : State) (f : WireFrame) :
    Moves 0x600000080000000238 s (State.toFirmware s f).1 := by
  unfold State.toFirmware
  split
  · exact Moves.refl
  · extract_lets +onlyGivenNames v0
    extract_lets +onlyGivenNames r1
    have hr1 : Moves 0x600000080000000238 s r1.1 := (Moves.sub (State.hwPost_moves ..))
    clear_value r1
    refine Moves.ite1 ?_ ?_
    · dsimp -zeta only
      exact (hr1.step (State.storeBytes_moves ..))
    · exact hr1


theorem State.pathSeen_moves (s : State) (n ring : ℕ) :
    Moves (0x10200400000084000000210 ||| Moves.page (((if ring = 0 then Reg.STN_SSTAT_PATH_A else Reg.STN_SSTAT_PATH_B).w n).code)) s (State.pathSeen s n ring) := by
  unfold State.pathSeen
  extract_lets +onlyGivenNames v0
  extract_lets +onlyGivenNames s1
  have hs1 : Moves (0x10200400000084000000210 ||| Moves.page (((if ring = 0 then Reg.STN_SSTAT_PATH_A else Reg.STN_SSTAT_PATH_B).w n).code)) s s1 := (Moves.sub (State.wr_moves ..) (Moves.or_mono rfl))
  clear_value s1
  extract_lets +onlyGivenNames s2
  have hs2 : Moves (0x10200400000084000000210 ||| Moves.page (((if ring = 0 then Reg.STN_SSTAT_PATH_A else Reg.STN_SSTAT_PATH_B).w n).code)) s s2 := (hs1.step (State.setStn_moves ..) (Moves.or_le rfl))
  clear_value s2
  refine Moves.ite ?_ ?_
  · exact ((hs2.step (State.irq_moves ..) (Moves.at 24 (Moves.or_le rfl))).step (State.archive_moves ..) (Moves.or_le rfl))
  · exact hs2

theorem State.pathSeen_moves_any (s : State) (n ring : ℕ) :
    Moves 0xffffffffffffffff0000084000000210 s (State.pathSeen s n ring) :=
  (State.pathSeen_moves ..).sub (Moves.page_any rfl)


theorem State.alarmRecord_moves (s : State) (n seq code frame : ℕ) :
    Moves 0x100010000000000080000000038 s (State.alarmRecord s n seq code frame) := by
  unfold State.alarmRecord
  extract_lets +onlyGivenNames v0
  extract_lets +onlyGivenNames v1
  extract_lets +onlyGivenNames s2
  have hs2 : Moves 0x100010000000000080000000038 s s2 := (Moves.sub (State.storeBytes_moves ..))
  clear_value s2
  exact ((((hs2.step (State.wr_moves ..) (Moves.at 24 rfl)).step (State.incWrap_moves ..) (Moves.at 24 rfl)).step (State.irq_moves ..) (Moves.at 24 rfl)).step (State.sourceOccurs_moves ..))


theorem State.noteAlarm_moves (s : State) (n seq code frame : ℕ) :
    Moves 0x100050000000000084000000038 s (State.noteAlarm s n seq code frame) := by
  unfold State.noteAlarm
  extract_lets +onlyGivenNames v0
  extract_lets +onlyGivenNames v1
  extract_lets +onlyGivenNames s2
  have hs2 : Moves 0x100050000000000084000000038 s s2 := ((Moves.sub (F := 0x100050000000000084000000038) (State.wr_moves ..) (Moves.at 26 rfl)).step (State.setStn_moves ..))
  clear_value s2
  refine Moves.ite ?_ ?_
  · exact (hs2.step (State.alarmRecord_moves ..))
  · exact hs2


theorem State.acceptCopy_moves (s : State) (f : WireFrame) (n : ℕ) (hdr pay : List Byte) :
    Moves 0xffffffffffffffff0000084000000038 s (State.acceptCopy s f n hdr pay) := by
  unfold State.acceptCopy
  extract_lets +onlyGivenNames v0
  extract_lets +onlyGivenNames v1
  extract_lets +onlyGivenNames s2
  have hs2 : Moves 0xffffffffffffffff0000084000000038 s s2 := ((Moves.sub (State.lineCount_moves_any ..)).step (State.wr_moves ..) (Moves.at 26 rfl))
  clear_value s2
  extract_lets +onlyGivenNames v3
  extract_lets +onlyGivenNames s4
  have hs4 : Moves 0xffffffffffffffff0000084000000038 s s4 := (hs2.step (State.setStn_moves ..))
  clear_value s4
  extract_lets +onlyGivenNames s5
  have hs5 : Moves 0xffffffffffffffff0000084000000038 s s5 := (hs4.step (State.wr_moves ..) (Moves.at 26 rfl))
  clear_value s5
  extract_lets +onlyGivenNames s6
  have hs6 : Moves 0xffffffffffffffff0000084000000038 s s6 := by
    refine Moves.ite ?_ ?_
    · exact hs5
    · exact ((hs5.step (State.inc_moves ..) (Moves.at 26 rfl)).step (State.irq_moves ..) (Moves.at 26 rfl))
  clear_value s6
  extract_lets +onlyGivenNames s7
  have hs7 : Moves 0xffffffffffffffff0000084000000038 s s7 := (hs6.step (State.noteAlarm_moves ..))
  clear_value s7
  extract_lets +onlyGivenNames v8
  extract_lets +onlyGivenNames v9
  extract_lets +onlyGivenNames s10
  have hs10 : Moves 0xffffffffffffffff0000084000000038 s s10 := by
    refine Moves.ite ?_ ?_
    · exact (hs7.step (State.inc_moves ..) (Moves.at 24 rfl))
    · exact hs7
  clear_value s10
  extract_lets +onlyGivenNames s11
  have hs11 : Moves 0xffffffffffffffff0000084000000038 s s11 := by
    refine Moves.ite ?_ ?_
    · exact hs10
    · exact (hs10.step (State.storeBytes_moves ..))
  clear_value s11
  exact (Moves.set_38 hs11)


theorem State.checkCopy_moves (s : State) (f : WireFrame) :
    Moves 0xffffffffffffffff0000084000000238 s (State.checkCopy s f) := by
  unfold State.checkCopy
  extract_lets +onlyGivenNames v0
  extract_lets +onlyGivenNames v1
  extract_lets +onlyGivenNames v2
  extract_lets +onlyGivenNames v3
  extract_lets +onlyGivenNames v4
  extract_lets +onlyGivenNames v5
  refine Moves.ite ?_ ?_
  · exact (Moves.sub (State.lineCount_moves_any ..))
  · refine Moves.ite ?_ ?_
    · exact (Moves.sub (State.rxFormat_moves_any ..))
    · refine Moves.ite ?_ ?_
      · exact (Moves.sub (State.rxFormat_moves_any ..))
      · refine Moves.ite ?_ ?_
        · exact (Moves.sub (State.rxFormat_moves_any ..))
        · refine Moves.ite ?_ ?_
          · exact (Moves.sub (State.rxFormat_moves_any ..))
          · refine Moves.ite ?_ ?_
            · exact (Moves.sub (State.rxFormat_moves_any ..))
            · extract_lets +onlyGivenNames s6
              have hs6 : Moves 0xffffffffffffffff0000084000000238 s s6 := (Moves.sub (State.pathSeen_moves_any ..))
              clear_value s6
              extract_lets +onlyGivenNames v7
              refine Moves.ite ?_ ?_
              · exact (hs6.step (State.lineCount_moves_any ..))
              · refine Moves.ite ?_ ?_
                · exact (((hs6.step (State.lineCount_moves_any ..)).step (State.inc_moves ..) (Moves.at 26 rfl)).step (State.irq_moves ..) (Moves.at 26 rfl))
                · exact (hs6.step (State.acceptCopy_moves ..))


theorem State.takeService_moves (s : State) (f : WireFrame) :
    Moves 0xffffffffffffffff0000080000000238 s (State.takeService s f) := by
  unfold State.takeService
  extract_lets +onlyGivenNames v0
  refine Moves.ite ?_ ?_
  · exact (Moves.sub (State.rxFormat_moves_any ..))
  · extract_lets +onlyGivenNames r1
    have hr1 : Moves 0xffffffffffffffff0000080000000238 s r1.1 := (Moves.sub (State.toFirmware_moves ..))
    clear_value r1
    refine Moves.ite ?_ ?_
    · exact hr1
    · exact (hr1.step (State.lineCount_moves_any ..))


theorem State.writeCopy_moves (s : State) (c : Copy) :
    Moves 0x80000000028 s (State.writeCopy s c) := by
  unfold State.writeCopy
  extract_lets +onlyGivenNames s0
  have hs0 : Moves 0x80000000028 s s0 := (Moves.sub (State.bindInputs_moves ..))
  clear_value s0
  refine Moves.ite ?_ ?_
  · exact (hs0.step (State.bindInputs_moves ..))
  · exact hs0


theorem State.drainSlasel_moves (s : State) (t : ℕ) :
    Moves 0xffffffffffffffff0000084000000238 s (State.drainSlasel s t) := by
  unfold State.drainSlasel
  extract_lets +onlyGivenNames v0
  refine Moves.foldl (fun t1 x2 => ?_) ?_
  · refine Moves.ite ?_ ?_
    · exact (Moves.sub (State.takeService_moves ..))
    · exact (Moves.sub (State.checkCopy_moves ..))
  · exact (Moves.set_38 Moves.refl)


theorem State.drainCopies_moves (s : State) (t : ℕ) :
    Moves 0x84000000028 s (State.drainCopies s t) := by
  unfold State.drainCopies
  extract_lets +onlyGivenNames v0
  exact (Moves.foldl (fun _ _ => (Moves.sub (State.bindInputs_moves ..))) (Moves.set_38 Moves.refl))


theorem State.declareDropped_moves (s : State) (n : ℕ) (e : StnEntry) :
    Moves 0x100050200400000084080000238 s (State.declareDropped s n e) := by
  unfold State.declareDropped
  extract_lets +onlyGivenNames v0
  extract_lets +onlyGivenNames s1
  have hs1 : Moves 0x100050200400000084080000238 s s1 := by
    refine Moves.ite ?_ ?_
    · exact (Moves.sub (State.substitute_moves ..))
    · exact Moves.refl
  clear_value s1
  extract_lets +onlyGivenNames s2
  have hs2 : Moves 0x100050200400000084080000238 s s2 := ((hs1.step (State.wr_moves ..) (Moves.at 26 rfl)).step (State.wr_moves ..) (Moves.at 26 rfl))
  clear_value s2
  extract_lets +onlyGivenNames s3
  have hs3 : Moves 0x100050200400000084080000238 s s3 := (((hs2.step (State.inc_moves ..) (Moves.at 26 rfl)).step (State.irq_moves ..) (Moves.at 24 rfl)).step (State.setStn_moves ..))
  clear_value s3
  extract_lets +onlyGivenNames s4
  have hs4 : Moves 0x100050200400000084080000238 s s4 := (hs3.step (State.archive_moves ..))
  clear_value s4
  refine Moves.ite ?_ ?_
  · exact (hs4.step (State.occurCause_moves ..))
  · exact hs4


theorem State.countPath_moves (s : State) (n : ℕ) (e : StnEntry) (ring : ℕ) :
    Moves (0x50200400000084000000210 ||| Moves.page (((if ring = 0 then Reg.STN_SSTAT_PATH_A else Reg.STN_SSTAT_PATH_B).w n).code)) s (State.countPath s n e ring) := by
  unfold State.countPath
  extract_lets +onlyGivenNames v0
  extract_lets +onlyGivenNames v1
  extract_lets +onlyGivenNames v2
  extract_lets +onlyGivenNames v3
  refine Moves.ite ?_ ?_
  · extract_lets +onlyGivenNames s4
    have hs4 : Moves (0x50200400000084000000210 ||| Moves.page (((if ring = 0 then Reg.STN_SSTAT_PATH_A else Reg.STN_SSTAT_PATH_B).w n).code)) s s4 := (Moves.sub (State.setStn_moves ..) (Moves.or_le rfl))
    clear_value s4
    extract_lets +onlyGivenNames s5
    have hs5 : Moves (0x50200400000084000000210 ||| Moves.page (((if ring = 0 then Reg.STN_SSTAT_PATH_A else Reg.STN_SSTAT_PATH_B).w n).code)) s s5 := (hs4.step (State.wr_moves ..) (Moves.or_mono rfl))
    clear_value s5
    exact (((hs5.step (State.inc_moves ..) (Moves.at 26 (Moves.or_le rfl))).step (State.irq_moves ..) (Moves.at 24 (Moves.or_le rfl))).step (State.archive_moves ..) (Moves.or_le rfl))
  · exact (Moves.sub (State.setStn_moves ..) (Moves.or_le rfl))

theorem State.countPath_moves_any (s : State) (n : ℕ) (e : StnEntry) (ring : ℕ) :
    Moves 0xffffffffffffffff0000084000000210 s (State.countPath s n e ring) :=
  (State.countPath_moves ..).sub (Moves.page_any rfl)


theorem State.cutStation_moves (s : State) (n : ℕ) :
    Moves 0x100050200400000084080000238 s (State.cutStation s n) := by
  unfold State.cutStation
  extract_lets +onlyGivenNames v0
  refine Moves.ite ?_ ?_
  · exact (Moves.sub (State.wr_moves ..) (Moves.at 26 rfl))
  · extract_lets +onlyGivenNames s1
    have hs1 : Moves 0x100050200400000084080000238 s s1 := by
      refine Moves.ite ?_ ?_
      · exact (Moves.sub (State.countPath_moves ..) (Moves.at 26 rfl))
      · exact Moves.refl
    clear_value s1
    extract_lets +onlyGivenNames s2
    have hs2 : Moves 0x100050200400000084080000238 s s2 := by
      refine Moves.ite ?_ ?_
      · exact (hs1.step (State.countPath_moves ..) (Moves.at 26 rfl))
      · exact hs1
    clear_value s2
    extract_lets +onlyGivenNames v3
    extract_lets +onlyGivenNames v4
    extract_lets +onlyGivenNames s5
    have hs5 : Moves 0x100050200400000084080000238 s s5 := (hs2.step (State.setStn_moves ..))
    clear_value s5
    refine Moves.ite ?_ ?_
    · extract_lets +onlyGivenNames s6
      have hs6 : Moves 0x100050200400000084080000238 s s6 := ((hs5.step (State.wr_moves ..) (Moves.at 26 rfl)).step (State.wr_moves ..) (Moves.at 26 rfl))
      clear_value s6
      refine Moves.ite ?_ ?_
      · exact (((hs6.step (State.wr_moves ..) (Moves.at 26 rfl)).step (State.irq_moves ..) (Moves.at 24 rfl)).step (State.archive_moves ..))
      · exact hs6
    · refine Moves.ite ?_ ?_
      · exact hs5
      · extract_lets +onlyGivenNames v7
        extract_lets +onlyGivenNames s8
        have hs8 : Moves 0x100050200400000084080000238 s s8 := (hs5.step (State.wr_moves ..) (Moves.at 26 rfl))
        clear_value s8
        refine Moves.ite ?_ ?_
        · exact (hs8.step (State.declareDropped_moves ..))
        · exact hs8


theorem State.cutStations_moves (s : State) :
    Moves 0x100050200400000084080000238 s (State.cutStations s) := by
  unfold State.cutStations
  exact ((Moves.foldl (fun _ _ => (Moves.sub (State.cutStation_moves ..))) Moves.refl).step (State.showDropped_moves ..))


theorem State.buildOutputs_moves (s : State) (n flag : ℕ) :
    Moves 0x10000000000084000000038 s (State.buildOutputs s n flag) := by
  unfold State.buildOutputs
  extract_lets +onlyGivenNames v0
  extract_lets +onlyGivenNames v1
  extract_lets +onlyGivenNames r2
  have hr2 : Moves 0x10000000000084000000038 s r2.1 := by
    refine Moves.foldl1 (fun t3 x4 => ?_) ?_
    · extract_lets +onlyGivenNames v5
      extract_lets +onlyGivenNames v6
      extract_lets +onlyGivenNames v7
      extract_lets +onlyGivenNames s8
      have hs8 : Moves 0x10000000000084000000038 t3.1 s8 := (Moves.sub (State.add_moves ..) (Moves.at 24 rfl))
      clear_value s8
      extract_lets +onlyGivenNames s9
      have hs9 : Moves 0x10000000000084000000038 t3.1 s9 := ((hs8.step (State.storeBytes_moves ..)).step (State.storeBytes_moves ..))
      clear_value s9
      dsimp -zeta only
      exact hs9
    · exact Moves.refl
  clear_value r2
  extract_lets +onlyGivenNames s10
  have hs10 : Moves 0x10000000000084000000038 s s10 := hr2
  clear_value s10
  exact (Moves.set_38 hs10)


theorem State.startOutputs_moves (s : State) :
    Moves 0xffffffffffffffff0000084000000010 s (State.startOutputs s) := by
  unfold State.startOutputs
  extract_lets +onlyGivenNames v0
  extract_lets +onlyGivenNames v1
  extract_lets +onlyGivenNames s2
  have hs2 : Moves 0xffffffffffffffff0000084000000010 s s2 := (Moves.set_38 Moves.refl)
  clear_value s2
  exact (Moves.foldl (fun _ _ => (Moves.sub (State.wr_moves_any ..))) hs2)


theorem State.sendOutput_moves (s : State) (p : ℕ) (f : TxFrame) :
    Moves (0x200400000084000000210 ||| Moves.page (29 + p)) s (State.sendOutput s p f) := by
  unfold State.sendOutput
  extract_lets +onlyGivenNames v0
  refine Moves.ite ?_ ?_
  · exact Moves.refl
  · refine Moves.ite ?_ ?_
    · extract_lets +onlyGivenNames s1
      have hs1 : Moves (0x200400000084000000210 ||| Moves.page (29 + p)) s s1 := ((Moves.sub (F := (0x200400000084000000210 ||| Moves.page (29 + p))) (State.lineCount_moves ..) (Moves.or_monoC rfl rfl)).step (State.wr_moves ..) (Moves.or_monoC rfl rfl))
      clear_value s1
      extract_lets +onlyGivenNames s2
      have hs2 : Moves (0x200400000084000000210 ||| Moves.page (29 + p)) s s2 := (hs1.step (State.irq_moves ..) (Moves.or_monoC rfl rfl))
      clear_value s2
      refine Moves.ite ?_ ?_
      · exact hs2
      · extract_lets +onlyGivenNames s3
        have hs3 : Moves (0x200400000084000000210 ||| Moves.page (29 + p)) s s3 := (hs2.step (State.archive_moves ..) (Moves.or_le rfl))
        clear_value s3
        exact (Moves.set_38 hs3 (Moves.or_le rfl))
    · refine Moves.ite ?_ ?_
      · exact ((Moves.sub (F := (0x200400000084000000210 ||| Moves.page (29 + p))) (State.lineCount_moves ..) (Moves.or_monoC rfl rfl)).step (State.irq_moves ..) (Moves.or_monoC rfl rfl))
      · extract_lets +onlyGivenNames s4
        have hs4 : Moves (0x200400000084000000210 ||| Moves.page (29 + p)) s s4 := (((Moves.sub (F := (0x200400000084000000210 ||| Moves.page (29 + p))) (State.lineCount_moves ..) (Moves.or_monoC rfl rfl)).step (State.inc_moves ..) (Moves.or_monoC rfl rfl)).step (State.onWire_moves ..) (Moves.or_le rfl))
        clear_value s4
        exact (Moves.set_38 hs4 (Moves.or_le rfl))

theorem State.sendOutput_moves_any (s : State) (p : ℕ) (f : TxFrame) :
    Moves 0xffffffffffffffff0000084000000210 s (State.sendOutput s p f) :=
  (State.sendOutput_moves ..).sub (Moves.page_any rfl)


theorem State.setPtpState_moves (s : State) (p v : ℕ) :
    Moves 0x80000000000080000000010 s (State.setPtpState s p v) := by
  unfold State.setPtpState
  refine Moves.ite ?_ ?_
  · exact Moves.refl
  · exact ((Moves.sub (F := 0x80000000000080000000010) (State.wr_moves ..) (Moves.at 27 rfl)).step (State.irq_moves ..) (Moves.at 27 rfl))


theorem showGrandmaster_moves (s : State) :
    Moves 0x80000000000080000000010 s (showGrandmaster s) := by
  unfold showGrandmaster
  extract_lets +onlyGivenNames v0
  extract_lets +onlyGivenNames v1
  extract_lets +onlyGivenNames v2
  extract_lets +onlyGivenNames s3
  have hs3 : Moves 0x80000000000080000000010 s s3 := ((Moves.sub (F := 0x80000000000080000000010) (State.wrB_moves ..) (Moves.at 27 rfl)).step (State.wr_moves ..) (Moves.at 27 rfl))
  clear_value s3
  extract_lets +onlyGivenNames s4
  have hs4 : Moves 0x80000000000080000000010 s s4 := (hs3.step (State.wrB_moves ..) (Moves.at 27 rfl))
  clear_value s4
  extract_lets +onlyGivenNames s5
  have hs5 : Moves 0x80000000000080000000010 s s5 := ((hs4.step (State.wr_moves ..) (Moves.at 27 rfl)).step (State.wr_moves ..) (Moves.at 27 rfl))
  clear_value s5
  refine Moves.ite ?_ ?_
  · exact hs5
  · exact (hs5.step (State.irq_moves ..) (Moves.at 27 rfl))


theorem ptpDecide_moves (s : State) :
    Moves 0x80000000000080000000010 s (ptpDecide s) := by
  unfold ptpDecide
  extract_lets +onlyGivenNames v0
  exact ((Moves.foldl (fun _ _ => (Moves.sub (State.setPtpState_moves ..))) Moves.refl).step (showGrandmaster_moves ..))


theorem State.setLink_moves (s : State) (p : ℕ) (up : Bool) :
    Moves (0x80000000000080000000010 ||| Moves.page (29 + p)) s (State.setLink s p up) := by
  unfold State.setLink
  refine Moves.ite ?_ ?_
  · exact Moves.refl
  · exact (((Moves.sub (F := (0x80000000000080000000010 ||| Moves.page (29 + p))) (State.wrB_moves ..) (Moves.or_monoC rfl rfl)).step (State.irq_moves ..) (Moves.or_monoC rfl rfl)).step (ptpDecide_moves ..) (Moves.or_le rfl))

theorem State.setLink_moves_any (s : State) (p : ℕ) (up : Bool) :
    Moves 0xffffffffffffffff0000080000000010 s (State.setLink s p up) :=
  (State.setLink_moves ..).sub (Moves.page_any rfl)


theorem State.showLink_moves (s : State) (p : ℕ) :
    Moves (0x80200400000080000000210 ||| Moves.page (29 + p)) s (State.showLink s p) := by
  unfold State.showLink
  extract_lets +onlyGivenNames v0
  extract_lets +onlyGivenNames v1
  extract_lets +onlyGivenNames s2
  have hs2 : Moves (0x80200400000080000000210 ||| Moves.page (29 + p)) s s2 := (Moves.sub (State.setLink_moves ..) (Moves.or_mono rfl))
  clear_value s2
  refine Moves.ite ?_ ?_
  · exact (hs2.step (State.archive_moves ..) (Moves.or_le rfl))
  · exact hs2

theorem State.showLink_moves_any (s : State) (p : ℕ) :
    Moves 0xffffffffffffffff0000080000000210 s (State.showLink s p) :=
  (State.showLink_moves ..).sub (Moves.page_any rfl)


theorem periodSet_moves (pre s : State) :
    Moves 0x4000000000 s (periodSet pre s) := by
  unfold periodSet
  refine Moves.ite ?_ ?_
  · exact Moves.refl
  · exact (Moves.set_38 Moves.refl)


theorem lineCfg_moves (p : ℕ) (pre s : State) :
    Moves 0xffffffffffffffff0000084000000010 s (lineCfg p pre s) := by
  unfold lineCfg
  refine Moves.ite ?_ ?_
  · exact Moves.refl
  · extract_lets +onlyGivenNames s0
    have hs0 : Moves 0xffffffffffffffff0000084000000010 s s0 := ((Moves.sub (State.wr_moves_any ..)).step (State.showTables_moves ..))
    clear_value s0
    exact (Moves.set_38 hs0)


theorem execLineFrameReceive_moves (port stamp : ℕ) (frame : List Byte) (fcs : Bool) (s : State) :
    ∃ t, execLineFrameReceive port stamp frame fcs s = .next t ∧ Moves (0x1210040060000008f00000063f ||| Moves.page (29 + port)) s t := by
  unfold execLineFrameReceive
  refine ⟨_, rfl, ?_⟩
  extract_lets +onlyGivenNames s0
  have hs0 : Moves (0x1210040060000008f00000063f ||| Moves.page (29 + port)) s s0 := (Moves.sub (State.advanceTime_moves ..) (Moves.or_le rfl))
  clear_value s0
  extract_lets +onlyGivenNames v1
  extract_lets +onlyGivenNames v2
  refine Moves.ite ?_ ?_
  · exact hs0
  · refine Moves.ite ?_ ?_
    · exact ((hs0.step (State.lineCount_moves ..) (Moves.or_monoC rfl rfl)).step (State.irq_moves ..) (Moves.or_monoC rfl rfl))
    · refine Moves.ite ?_ ?_
      · exact (hs0.step (State.rxFormat_moves ..) (Moves.or_mono rfl))
      · refine Moves.ite ?_ ?_
        · exact hs0
        · refine Moves.ite ?_ ?_
          · exact (Moves.set_38 hs0 (Moves.or_le rfl))
          · refine Moves.ite ?_ ?_
            · exact (Moves.set_38 hs0 (Moves.or_le rfl))
            · refine Moves.ite ?_ ?_
              · extract_lets +onlyGivenNames v3
                refine Moves.ite ?_ ?_
                · exact (hs0.step (State.deliver_moves ..) (Moves.or_le rfl))
                · exact hs0
              · exact (hs0.step (State.toFirmware_moves ..) (Moves.or_le rfl))


theorem execInputFrame_moves (s : State) :
    ∃ t, execInputFrame s = .next t ∧ Moves 0xffffffffffffffff0000084000000238 s t := by
  unfold execInputFrame
  refine ⟨_, rfl, ?_⟩
  split
  · exact Moves.refl
  · refine Moves.ite ?_ ?_
    · exact Moves.refl
    · exact ((Moves.set_38 Moves.refl).step (State.checkCopy_moves ..))


theorem execServiceUpFrame_moves (s : State) :
    ∃ t, execServiceUpFrame s = .next t ∧ Moves 0xffffffffffffffff0000084000000238 s t := by
  unfold execServiceUpFrame
  refine ⟨_, rfl, ?_⟩
  split
  · exact Moves.refl
  · refine Moves.ite ?_ ?_
    · exact ((Moves.set_38 Moves.refl).step (State.takeService_moves ..))
    · exact Moves.refl


theorem execBindingWrite_moves (s : State) :
    ∃ t, execBindingWrite s = .next t ∧ Moves 0x84000000028 s t := by
  unfold execBindingWrite
  refine ⟨_, rfl, ?_⟩
  split
  · exact Moves.refl
  · refine Moves.ite ?_ ?_
    · exact Moves.refl
    · exact ((Moves.set_38 Moves.refl).step (State.writeCopy_moves ..))


theorem execLineLinkChange_moves (port : ℕ) (up : Bool) (s : State) :
    ∃ t, execLineLinkChange port up s = .next t ∧ Moves (0x80200400000084000000210 ||| Moves.page (29 + port)) s t := by
  unfold execLineLinkChange
  refine ⟨_, rfl, ?_⟩
  refine Moves.ite ?_ ?_
  · exact ((Moves.set_38 (F := (0x80200400000084000000210 ||| Moves.page (29 + port))) Moves.refl (Moves.or_le rfl)).step (State.showLink_moves ..) (Moves.or_mono rfl))
  · exact Moves.refl


theorem ptpExpire_moves (s : State) :
    Moves 0x80000000000084000000010 s (ptpExpire s) := by
  unfold ptpExpire
  extract_lets +onlyGivenNames v0
  extract_lets +onlyGivenNames v1
  refine Moves.ite ?_ ?_
  · exact Moves.refl
  · exact ((Moves.foldl (fun _ _ => (Moves.sub (State.setPtpPort_moves ..))) Moves.refl).step (ptpDecide_moves ..))


theorem ptpRestart_moves (s : State) :
    Moves 0x80000000000084000000010 s (ptpRestart s) := by
  unfold ptpRestart
  exact ((Moves.foldl (fun _ _ => (Moves.sub (State.setPtpState_moves ..))) (Moves.set_38 Moves.refl)).step (ptpDecide_moves ..))


theorem ptpSend_moves (s : State) (p : ℕ) (peer : Bool) (m : List Byte) :
    Moves 0x100000000000084000000010 s (ptpSend s p peer m) := by
  unfold ptpSend
  exact (Moves.sub (State.lineSend_moves ..))


theorem State.measAbandon_moves (s : State) :
    Moves 0x40000000080000000010 s (State.measAbandon s) := by
  unfold State.measAbandon
  exact ((Moves.sub (F := 0x40000000080000000010) (State.wr_moves ..) (Moves.at 14 rfl)).step (State.wr_moves ..) (Moves.at 14 rfl))


theorem ptpOffset_moves (s : State) (off : ℤ) :
    Moves 0x8000400001e284000000011 s (ptpOffset s off) := by
  unfold ptpOffset
  extract_lets +onlyGivenNames s0
  have hs0 : Moves 0x8000400001e284000000011 s s0 := (Moves.sub (State.wr_moves ..) (Moves.at 27 rfl))
  clear_value s0
  extract_lets +onlyGivenNames s1
  have hs1 : Moves 0x8000400001e284000000011 s s1 := by
    refine Moves.ite ?_ ?_
    · exact (hs0.step (State.irq_moves ..) (Moves.at 27 rfl))
    · exact hs0
  clear_value s1
  refine Moves.ite ?_ ?_
  · extract_lets +onlyGivenNames s2
    have hs2 : Moves 0x8000400001e284000000011 s s2 := (hs1.step (State.stepTime_moves ..))
    clear_value s2
    exact ((Moves.set_38 hs2).step (State.wr_moves ..) (Moves.at 10 rfl))
  · extract_lets +onlyGivenNames v3
    extract_lets +onlyGivenNames s4
    have hs4 : Moves 0x8000400001e284000000011 s s4 := (Moves.set_38 hs1)
    clear_value s4
    exact (hs4.step (State.wrB_moves ..) (Moves.at 10 rfl))


theorem syncOffset_moves (s : State) (p origin at' : ℕ) (corr : ℤ) :
    Moves 0x8000400001e284000000011 s (syncOffset s p origin at' corr) := by
  unfold syncOffset
  exact (Moves.sub (ptpOffset_moves ..))


theorem setPdelay_moves (s : State) (p : ℕ) (d : ℤ) :
    Moves 0x80000000000080000000010 s (setPdelay s p d) := by
  unfold setPdelay
  exact (Moves.sub (State.wr_moves ..) (Moves.at 27 rfl))


theorem ptpHandle_moves (s : State) (p stamp : ℕ) (m : List Byte) :
    Moves 0x18000400001e284000000011 s (ptpHandle s p stamp m) := by
  unfold ptpHandle
  extract_lets +onlyGivenNames v0
  extract_lets +onlyGivenNames v1
  extract_lets +onlyGivenNames v2
  extract_lets +onlyGivenNames v3
  refine Moves.ite ?_ ?_
  · exact Moves.refl
  · split
    · refine Moves.ite ?_ ?_
      · exact Moves.refl
      · refine Moves.ite ?_ ?_
        · exact (Moves.sub (State.setPtpPort_moves ..))
        · exact (Moves.sub (syncOffset_moves ..))
    · refine Moves.ite ?_ ?_
      · exact ((Moves.sub (State.setPtpPort_moves ..)).step (syncOffset_moves ..))
      · exact Moves.refl
    · exact (Moves.sub (ptpSend_moves ..))
    · refine Moves.ite ?_ ?_
      · exact Moves.refl
      · refine Moves.ite ?_ ?_
        · exact (Moves.sub (State.setPtpPort_moves ..))
        · exact (Moves.sub (setPdelay_moves ..))
    · refine Moves.ite ?_ ?_
      · exact ((Moves.sub (State.setPtpPort_moves ..)).step (setPdelay_moves ..))
      · exact Moves.refl
    · refine Moves.ite ?_ ?_
      · exact Moves.refl
      · exact ((Moves.sub (State.setPtpPort_moves ..)).step (ptpDecide_moves ..))
    · exact Moves.refl


theorem ptpTimeRead_moves (s : State) :
    Moves 0x80000000000080000000010 s (ptpTimeRead s) := by
  unfold ptpTimeRead
  exact ((Moves.sub (F := 0x80000000000080000000010) (State.wr_moves ..) (Moves.at 27 rfl)).step (State.wr_moves ..) (Moves.at 27 rfl))


theorem execPtpMessage_moves (s : State) :
    ∃ t, execPtpMessage s = .next t ∧ Moves 0x18000400001e284000000011 s t := by
  unfold execPtpMessage
  refine ⟨_, rfl, ?_⟩
  split
  · exact Moves.refl
  · extract_lets +onlyGivenNames v0
    extract_lets +onlyGivenNames s1
    have hs1 : Moves 0x18000400001e284000000011 s s1 := (Moves.set_38 Moves.refl)
    clear_value s1
    refine Moves.ite ?_ ?_
    · exact ((hs1.step (ptpExpire_moves ..)).step (ptpHandle_moves ..))
    · exact hs1


theorem execPtpMessageInterval_moves (port kind : ℕ) (s : State) :
    ∃ t, execPtpMessageInterval port kind s = .next t ∧ Moves 0x180000000000084000000010 s t := by
  unfold execPtpMessageInterval
  refine ⟨_, rfl, ?_⟩
  extract_lets +onlyGivenNames s0
  have hs0 : Moves 0x180000000000084000000010 s s0 := by
    refine Moves.ite ?_ ?_
    · exact (Moves.sub (ptpExpire_moves ..))
    · exact Moves.refl
  clear_value s0
  extract_lets +onlyGivenNames v1
  extract_lets +onlyGivenNames v2
  refine Moves.ite ?_ ?_
  · exact hs0
  · split
    · refine Moves.ite ?_ ?_
      · extract_lets +onlyGivenNames v3
        extract_lets +onlyGivenNames s4
        have hs4 : Moves 0x180000000000084000000010 s s4 := (hs0.step (State.setPtpPort_moves ..))
        clear_value s4
        exact (hs4.step (ptpSend_moves ..))
      · exact hs0
    · refine Moves.ite ?_ ?_
      · extract_lets +onlyGivenNames s5
        have hs5 : Moves 0x180000000000084000000010 s s5 := (hs0.step (State.setPtpPort_moves ..))
        clear_value s5
        extract_lets +onlyGivenNames v6
        extract_lets +onlyGivenNames v7
        exact (hs5.step (ptpSend_moves ..))
      · exact hs0
    · extract_lets +onlyGivenNames v8
      extract_lets +onlyGivenNames s9
      have hs9 : Moves 0x180000000000084000000010 s s9 := (hs0.step (State.setPtpPort_moves ..))
      clear_value s9
      exact (hs9.step (ptpSend_moves ..))


theorem execPtpTimeRead_moves (w : Who) (s : State) :
    ∃ t, execPtpTimeRead w s = .next t ∧ Moves 0x80000600000080000000310 s t := by
  unfold execPtpTimeRead
  refine ⟨_, rfl, ?_⟩
  exact (Moves.sub (State.reading_moves (F := 0x80000000000080000000110) (h_act := fun _ => ((Moves.sub (ptpTimeRead_moves ..)).step (State.reply_moves ..))) ..))


theorem execPtpMasterLost_moves (s : State) :
    ∃ t, execPtpMasterLost s = .next t ∧ Moves 0x100080244400000084080000210 s t := by
  unfold execPtpMasterLost
  refine ⟨_, rfl, ?_⟩
  refine Moves.ite ?_ ?_
  · extract_lets +onlyGivenNames v0
    extract_lets +onlyGivenNames v1
    extract_lets +onlyGivenNames s2
    have hs2 : Moves 0x100080244400000084080000210 s s2 := ((Moves.sub (State.setPtpPort_moves ..)).step (ptpDecide_moves ..))
    clear_value s2
    extract_lets +onlyGivenNames s3
    have hs3 : Moves 0x100080244400000084080000210 s s3 := (((hs2.step (State.wr_moves ..) (Moves.at 10 rfl)).step (State.irq_moves ..) (Moves.at 10 rfl)).step (State.archive_moves ..))
    clear_value s3
    extract_lets +onlyGivenNames s4
    have hs4 : Moves 0x100080244400000084080000210 s s4 := by
      refine Moves.ite ?_ ?_
      · exact (hs3.step (State.measAbandon_moves ..))
      · exact hs3
    clear_value s4
    exact (hs4.step (State.raiseCause_moves ..))
  · exact Moves.refl


theorem execPtpMasterFound_moves (s : State) :
    ∃ t, execPtpMasterFound s = .next t ∧ Moves 0x80204400000080000000210 s t := by
  unfold execPtpMasterFound
  refine ⟨_, rfl, ?_⟩
  refine Moves.ite ?_ ?_
  · exact ((((Moves.sub (F := 0x80204400000080000000210) (State.wr_moves ..) (Moves.at 10 rfl)).step (ptpDecide_moves ..)).step (State.irq_moves ..) (Moves.at 10 rfl)).step (State.archive_moves ..))
  · exact Moves.refl


theorem State.setRtc_moves (s : State) (v : ℕ) :
    Moves 0x40000000080000000010 s (State.setRtc s v) := by
  unfold State.setRtc
  extract_lets +onlyGivenNames s0
  have hs0 : Moves 0x40000000080000000010 s s0 := (Moves.sub (State.wr2_moves ..) (Moves.at 14 rfl))
  clear_value s0
  extract_lets +onlyGivenNames v1
  extract_lets +onlyGivenNames v2
  extract_lets +onlyGivenNames v3
  extract_lets +onlyGivenNames s4
  have hs4 : Moves 0x40000000080000000010 s s4 := (((hs0.step (State.wr_moves ..) (Moves.at 14 rfl)).step (State.wr_moves ..) (Moves.at 14 rfl)).step (State.wr_moves ..) (Moves.at 14 rfl))
  clear_value s4
  extract_lets +onlyGivenNames s5
  have hs5 : Moves 0x40000000080000000010 s s5 := ((hs4.step (State.wr_moves ..) (Moves.at 14 rfl)).step (State.wr_moves ..) (Moves.at 14 rfl))
  clear_value s5
  exact ((hs5.step (State.wr_moves ..) (Moves.at 14 rfl)).step (State.wr_moves ..) (Moves.at 14 rfl))


theorem Moves.set_51 {F : Nat} {s x : State} {f51 : Aon} (h : Moves F s x) (sub : 0x8000000000000 &&& F = 0x8000000000000 := by rfl) :
    Moves F s { x with aon := f51 } :=
  h.step (G := 0x8000000000000) ⟨id, Nat.le_refl _, fun p hp => by cases p <;> first | rfl | exact absurd hp (by decide), fun _ _ _ => rfl⟩ sub

theorem State.wakeEvent_moves (s : State) (code : ℕ) :
    Moves 0x8000000000000 s (State.wakeEvent s code) := by
  unfold State.wakeEvent
  refine Moves.ite ?_ ?_
  · exact (Moves.set_51 Moves.refl)
  · exact Moves.refl


theorem State.rtcAlarm_moves (s : State) :
    Moves 0x40000008080000000010 s (State.rtcAlarm s) := by
  unfold State.rtcAlarm
  refine Moves.ite ?_ ?_
  · extract_lets +onlyGivenNames s0
    have hs0 : Moves 0x40000008080000000010 s s0 := ((Moves.sub (F := 0x40000008080000000010) (State.wr_moves ..) (Moves.at 14 rfl)).step (State.irq_moves ..) (Moves.at 14 rfl))
    clear_value s0
    refine Moves.ite ?_ ?_
    · exact (hs0.step (State.wakeEvent_moves ..))
    · exact hs0
  · exact Moves.refl


theorem State.rtcLoaded_moves (s : State) (v : ℕ) :
    Moves 0x60000008080000000010 s (State.rtcLoaded s v) := by
  unfold State.rtcLoaded
  extract_lets +onlyGivenNames s0
  have hs0 : Moves 0x60000008080000000010 s s0 := ((Moves.sub (State.setRtc_moves ..)).step (State.wr_moves ..) (Moves.at 13 rfl))
  clear_value s0
  extract_lets +onlyGivenNames s1
  have hs1 : Moves 0x60000008080000000010 s s1 := (((hs0.step (State.wr_moves ..) (Moves.at 14 rfl)).step (State.wr_moves ..) (Moves.at 14 rfl)).step (State.wr_moves ..) (Moves.at 14 rfl))
  clear_value s1
  extract_lets +onlyGivenNames s2
  have hs2 : Moves 0x60000008080000000010 s s2 := (hs1.step (State.irq_moves ..) (Moves.at 14 rfl))
  clear_value s2
  extract_lets +onlyGivenNames v3
  extract_lets +onlyGivenNames s4
  have hs4 : Moves 0x60000008080000000010 s s4 := (Moves.set_51 hs2)
  clear_value s4
  exact (hs4.step (State.rtcAlarm_moves ..))


theorem State.rtcStage_moves (s : State) (v : ℕ) :
    Moves 0x40000000080000000010 s (State.rtcStage s v) := by
  unfold State.rtcStage
  exact (Moves.sub (State.wr2_moves ..) (Moves.at 14 rfl))


theorem State.rtcPend_moves (s : State) (kind : ℕ) :
    Moves 0x40000008080000000010 s (State.rtcPend s kind) := by
  unfold State.rtcPend
  extract_lets +onlyGivenNames s0
  have hs0 : Moves 0x40000008080000000010 s s0 := (Moves.sub (State.wr_moves ..) (Moves.at 14 rfl))
  clear_value s0
  exact (Moves.set_51 hs0)


theorem State.rtcCtl_moves (s : State) (v : ℕ) :
    Moves 0x40000008080000000010 s (State.rtcCtl s v) := by
  unfold State.rtcCtl
  refine Moves.ite ?_ ?_
  · exact (Moves.sub (State.rtcPend_moves ..))
  · refine Moves.ite ?_ ?_
    · exact (Moves.sub (State.rtcPend_moves ..))
    · exact Moves.refl


theorem State.checkContinuity_moves (s : State) :
    Moves 0x240400000080000000210 s (State.checkContinuity s) := by
  unfold State.checkContinuity
  refine Moves.ite ?_ ?_
  · exact Moves.refl
  · exact (((Moves.sub (F := 0x240400000080000000210) (State.wr_moves ..) (Moves.at 14 rfl)).step (State.irq_moves ..) (Moves.at 14 rfl)).step (State.archive_moves ..))


theorem State.rtcMeas_moves (s : State) (v : ℕ) :
    Moves 0x40000000080000000010 s (State.rtcMeas s v) := by
  unfold State.rtcMeas
  refine Moves.ite ?_ ?_
  · extract_lets +onlyGivenNames s0
    have hs0 : Moves 0x40000000080000000010 s s0 := (Moves.sub (State.wr_moves ..) (Moves.at 14 rfl))
    clear_value s0
    refine Moves.ite ?_ ?_
    · exact (hs0.step (State.measAbandon_moves ..))
    · exact hs0
  · exact Moves.refl


theorem State.aonFlags_moves (s : State) (v : ℕ) :
    Moves 0x20000000080000000010 s (State.aonFlags s v) := by
  unfold State.aonFlags
  refine Moves.ite ?_ ?_
  · exact (Moves.sub (State.wr_moves ..) (Moves.at 13 rfl))
  · exact Moves.refl


theorem State.guardRestart_moves (s : State) :
    Moves 0x10000008080000000010 s (State.guardRestart s) := by
  unfold State.guardRestart
  extract_lets +onlyGivenNames s0
  have hs0 : Moves 0x10000008080000000010 s s0 := (Moves.sub (State.wr_moves ..) (Moves.at 12 rfl))
  clear_value s0
  exact (Moves.set_51 hs0)


theorem State.guardVoid_moves (s : State) :
    Moves 0x210d00008080000000210 s (State.guardVoid s) := by
  unfold State.guardVoid
  split
  · exact ((Moves.set_51 Moves.refl).step (State.slipKept_moves ..))
  · exact Moves.refl


theorem State.guardService_moves (s : State) (a1 : ℕ) :
    Moves 0x210d00008080000000210 s (State.guardService s a1) := by
  unfold State.guardService
  refine Moves.ite ?_ ?_
  · exact (Moves.sub (State.guardVoid_moves ..))
  · extract_lets +onlyGivenNames s0
    have hs0 : Moves 0x210d00008080000000210 s s0 := ((Moves.sub (State.guardVoid_moves ..)).step (State.guardRestart_moves ..))
    clear_value s0
    exact (Moves.set_51 hs0)


theorem State.guardKey_moves (s : State) (v : ℕ) :
    Moves 0x210d00008080000000210 s (State.guardKey s v) := by
  unfold State.guardKey
  extract_lets +onlyGivenNames v0
  split
  · refine Moves.ite ?_ ?_
    · exact (Moves.set_51 Moves.refl)
    · exact Moves.refl
  · extract_lets +onlyGivenNames v1
    extract_lets +onlyGivenNames s2
    have hs2 : Moves 0x210d00008080000000210 s s2 := (Moves.set_51 Moves.refl)
    clear_value s2
    refine Moves.ite ?_ ?_
    · refine Moves.ite ?_ ?_
      · exact (hs2.step (State.slipKept_moves ..))
      · refine Moves.ite ?_ ?_
        · exact hs2
        · exact (hs2.step (State.wr_moves ..) (Moves.at 12 rfl))
    · exact (hs2.step (State.slipKept_moves ..))


theorem State.guardCtl_moves (s : State) (v : ℕ) :
    Moves 0x210d00008080000000210 s (State.guardCtl s v) := by
  unfold State.guardCtl
  extract_lets +onlyGivenNames s0
  have hs0 : Moves 0x210d00008080000000210 s s0 := (Moves.sub (State.guardVoid_moves ..))
  clear_value s0
  refine Moves.ite ?_ ?_
  · exact (hs0.step (State.guardRestart_moves ..))
  · exact hs0


theorem State.guardWarned_moves (s : State) :
    Moves 0x10000008080000000010 s (State.guardWarned s) := by
  unfold State.guardWarned
  extract_lets +onlyGivenNames s0
  have hs0 : Moves 0x10000008080000000010 s s0 := ((Moves.sub (F := 0x10000008080000000010) (State.wr_moves ..) (Moves.at 12 rfl)).step (State.irq_moves ..) (Moves.at 12 rfl))
  clear_value s0
  exact (Moves.set_51 hs0)


theorem State.guardLatch_moves (s : State) :
    Moves 0x20000000080000000010 s (State.guardLatch s) := by
  unfold State.guardLatch
  extract_lets +onlyGivenNames v0
  extract_lets +onlyGivenNames v1
  exact (Moves.foldl (fun _ _ => (Moves.sub (State.wr_moves ..) (Moves.at 13 rfl))) Moves.refl)


theorem Moves.set_0 {F : Nat} {s x : State} {f0 : ℕ} (h : Moves F s x) (sub : 0x1 &&& F = 0x1 := by rfl) :
    Moves F s { x with time := f0 } :=
  h.step (G := 0x1) ⟨id, Nat.le_refl _, fun p hp => by cases p <;> first | rfl | exact absurd hp (by decide), fun _ _ _ => rfl⟩ sub

theorem State.changeRef_moves (s : State) (r : ℕ) :
    Moves 0x200420000080000000215 s (State.changeRef s r) := by
  unfold State.changeRef
  split
  rename_i u0 hq1
  have hd2 := Moves.snd (F := 0x200420000080000000215) (s := s) hq1 (Moves.sub (State.drawFree_moves ..))
  extract_lets +onlyGivenNames s3
  have hs3 : Moves 0x200420000080000000215 s s3 := (Moves.set_0 hd2)
  clear_value s3
  extract_lets +onlyGivenNames s4
  have hs4 : Moves 0x200420000080000000215 s s4 := (((hs3.step (State.wr_moves ..) (Moves.at 1 rfl)).step (State.inc_moves ..) (Moves.at 1 rfl)).step (State.wr2_moves ..) (Moves.at 1 rfl))
  clear_value s4
  exact ((hs4.step (State.irq_moves ..) (Moves.at 1 rfl)).step (State.archive_moves ..))


theorem State.setRef_moves (s : State) (r : ℕ) (b : Bool) :
    Moves 0x20000080000000010 s (State.setRef s r b) := by
  unfold State.setRef
  refine Moves.ite ?_ ?_
  · exact (Moves.sub (State.wrB_moves ..) (Moves.at 1 rfl))
  · exact (Moves.sub (State.wrB_moves ..) (Moves.at 1 rfl))


theorem State.clkCfg_moves (pre s : State) (a2 : ℕ) :
    Moves 0x200420000080000000215 s (State.clkCfg pre s a2) := by
  unfold State.clkCfg
  extract_lets +onlyGivenNames v0
  refine Moves.ite ?_ ?_
  · exact (Moves.sub (State.changeRef_moves ..))
  · exact Moves.refl


theorem execSupplyChangeoverVbat_moves (s : State) :
    ∃ t, execSupplyChangeoverVbat s = .next t ∧ Moves 0x20000000080000000010 s t := by
  unfold execSupplyChangeoverVbat
  refine ⟨_, rfl, ?_⟩
  refine Moves.ite ?_ ?_
  · extract_lets +onlyGivenNames s0
    have hs0 : Moves 0x20000000080000000010 s s0 := (((Moves.sub (F := 0x20000000080000000010) (State.wr_moves ..) (Moves.at 13 rfl)).step (State.inc_moves ..) (Moves.at 13 rfl)).step (State.irq_moves ..) (Moves.at 13 rfl))
    clear_value s0
    refine Moves.ite ?_ ?_
    · exact hs0
    · exact ((hs0.step (State.wr_moves ..) (Moves.at 13 rfl)).step (State.wr2_moves ..) (Moves.at 13 rfl))
  · exact Moves.refl


theorem execSupplyChangeoverMain_moves (s : State) :
    ∃ t, execSupplyChangeoverMain s = .next t ∧ Moves 0x260400000080000000210 s t := by
  unfold execSupplyChangeoverMain
  refine ⟨_, rfl, ?_⟩
  refine Moves.ite ?_ ?_
  · exact Moves.refl
  · exact ((Moves.sub (F := 0x260400000080000000210) (State.wr_moves ..) (Moves.at 13 rfl)).step (State.checkContinuity_moves ..))


theorem execContinuityLoss_moves (s : State) :
    ∃ t, execContinuityLoss s = .next t ∧ Moves 0x20000000080000000010 s t := by
  unfold execContinuityLoss
  refine ⟨_, rfl, ?_⟩
  exact (Moves.sub (State.wr_moves ..) (Moves.at 13 rfl))


theorem execAlwaysOnReset_moves (s : State) :
    ∃ t, execAlwaysOnReset s = .next t ∧ Moves 0xffffffffffffffff0008080000000010 s t := by
  unfold execAlwaysOnReset
  extract_lets +onlyGivenNames main keep s1
  have hs1 : Moves 0xffffffffffffffff0008080000000010 s s1 := by
    refine ⟨fun h => ⟨h.1, SMap.sorted_filter _ h.2⟩, Nat.le_refl _, fun p hp => ?_, fun _ k hk => Moves.noPage k hk⟩
    cases p <;> first | rfl | exact absurd hp (by decide)
  clear_value s1
  extract_lets +onlyGivenNames s2
  have hs2 : Moves 0xffffffffffffffff0008080000000010 s s2 := (hs1.step (State.wr_moves ..)).step (State.setRtc_moves ..)
  clear_value s2
  exact ⟨_, rfl, Moves.set_51 hs2 rfl⟩


theorem execVbatMeasure_moves (mv : ℕ) (s : State) :
    ∃ t, execVbatMeasure mv s = .next t ∧ Moves 0x20000000080000000010 s t := by
  unfold execVbatMeasure
  extract_lets +onlyGivenNames s0
  have hs0 : Moves 0x20000000080000000010 s s0 := (Moves.sub (State.wr_moves ..) (Moves.at 13 rfl))
  clear_value s0
  refine ⟨_, rfl, ?_⟩
  refine Moves.ite ?_ ?_
  · exact ((hs0.step (State.wr_moves ..) (Moves.at 13 rfl)).step (State.irq_moves ..) (Moves.at 13 rfl))
  · exact hs0


theorem execXtalFail_moves (s : State) :
    ∃ t, execXtalFail s = .next t ∧ Moves 0x20000008080000000010 s t := by
  unfold execXtalFail
  refine ⟨_, rfl, ?_⟩
  refine Moves.ite ?_ ?_
  · exact Moves.refl
  · extract_lets +onlyGivenNames s0
    have hs0 : Moves 0x20000008080000000010 s s0 := (((Moves.sub (F := 0x20000008080000000010) (State.wr_moves ..) (Moves.at 13 rfl)).step (State.wr_moves ..) (Moves.at 13 rfl)).step (State.irq_moves ..) (Moves.at 13 rfl))
    clear_value s0
    exact (Moves.set_51 hs0)


theorem execXtalReturn_moves (s : State) :
    ∃ t, execXtalReturn s = .next t ∧ Moves 0x220400000080000000210 s t := by
  unfold execXtalReturn
  refine ⟨_, rfl, ?_⟩
  refine Moves.ite ?_ ?_
  · extract_lets +onlyGivenNames s0
    have hs0 : Moves 0x220400000080000000210 s s0 := (Moves.sub (State.wr_moves ..) (Moves.at 13 rfl))
    clear_value s0
    refine Moves.ite ?_ ?_
    · exact (hs0.step (State.archive_moves ..))
    · exact hs0
  · exact Moves.refl


theorem execRtcSecond_moves (s : State) :
    ∃ t, execRtcSecond s = .next t ∧ Moves 0x60000008080000000010 s t := by
  unfold execRtcSecond
  refine ⟨_, rfl, ?_⟩
  split
  · refine Moves.ite ?_ ?_
    · exact (Moves.sub (State.rtcLoaded_moves ..))
    · refine Moves.step ?_ (State.rtcAlarm_moves ..)
      extract_lets +onlyGivenNames s0
      have hs0 : Moves 0x60000008080000000010 s s0 := ((Moves.sub (State.setRtc_moves ..)).step (State.irq_moves ..) (Moves.at 14 rfl))
      clear_value s0
      exact (Moves.set_51 hs0)
  · refine Moves.ite ?_ ?_
    · exact (Moves.sub (State.wr_moves ..) (Moves.at 14 rfl))
    · refine Moves.step ?_ (State.rtcAlarm_moves ..)
      extract_lets +onlyGivenNames s1
      have hs1 : Moves 0x60000008080000000010 s s1 := ((Moves.sub (State.setRtc_moves ..)).step (State.irq_moves ..) (Moves.at 14 rfl))
      clear_value s1
      exact (Moves.set_51 hs1)


theorem execRtcLoad_moves (w : Who) (s : State) :
    ∃ t, execRtcLoad w s = .next t ∧ Moves 0x250f00008080000000350 s t := by
  unfold execRtcLoad
  refine ⟨_, rfl, ?_⟩
  exact (Moves.sub (writeThen_moves (F := 0x40000008080000000010) (h_effect := fun _ _ => (Moves.sub (State.rtcCtl_moves ..))) ..))


theorem execRtcSync_moves (w : Who) (s : State) :
    ∃ t, execRtcSync w s = .next t ∧ Moves 0x250f00008080000000350 s t := by
  unfold execRtcSync
  refine ⟨_, rfl, ?_⟩
  exact (Moves.sub (writeThen_moves (F := 0x40000008080000000010) (h_effect := fun _ _ => (Moves.sub (State.rtcCtl_moves ..))) ..))


theorem execRtcSyncLoad_moves (s : State) :
    ∃ t, execRtcSyncLoad s = .next t ∧ Moves 0x6000001e284000000013 s t := by
  unfold execRtcSyncLoad
  refine ⟨_, rfl, ?_⟩
  split
  · exact ((Moves.sub (State.advanceTime_moves ..)).step (State.rtcLoaded_moves ..))
  · extract_lets +onlyGivenNames v0
    extract_lets +onlyGivenNames s1
    have hs1 : Moves 0x6000001e284000000013 s s1 := (Moves.sub (State.advanceTime_moves ..))
    clear_value s1
    refine Moves.step ?_ (State.rtcLoaded_moves ..)
    refine Moves.ite ?_ ?_
    · exact (hs1.step (State.stepTime_moves ..))
    · exact hs1
  · exact Moves.refl


theorem execRtcResyncPeriod_moves (s : State) :
    ∃ t, execRtcResyncPeriod s = .next t ∧ Moves 0x40000008080000000013 s t := by
  unfold execRtcResyncPeriod
  refine ⟨_, rfl, ?_⟩
  refine Moves.ite ?_ ?_
  · extract_lets +onlyGivenNames s0
    have hs0 : Moves 0x40000008080000000013 s s0 := (Moves.sub (State.advanceTime_moves ..))
    clear_value s0
    extract_lets +onlyGivenNames s1
    have hs1 : Moves 0x40000008080000000013 s s1 := ((hs0.step (State.rtcStage_moves ..)).step (State.rtcPend_moves ..))
    clear_value s1
    exact (Moves.set_51 hs1)
  · exact Moves.refl


theorem execTimeSet_moves (s : State) :
    ∃ t, execTimeSet s = .next t ∧ Moves 0x1210044060000808f00000063c s t := by
  unfold execTimeSet
  refine ⟨_, rfl, ?_⟩
  exact (Moves.sub (State.authCommand_moves (F := 0x40000008080000000010) (h_act := by
          intro z0 z1 z2
          extract_lets +onlyGivenNames v3
          refine Moves.iteF (g := AuthDone.st) ?_ ?_
          · exact Moves.refl
          · extract_lets +onlyGivenNames s4
            have hs4 : Moves 0x40000008080000000010 z0 s4 := ((Moves.sub (State.rtcStage_moves ..)).step (State.rtcPend_moves ..))
            clear_value s4
            refine Moves.stAuthDone ?_
            exact (Moves.set_51 hs4)) ..))

theorem execRtcMeasureStart_moves (w : Who) (word : ℕ) (s : State) :
    ∃ t, execRtcMeasureStart w word s = .next t ∧ Moves 0x250f00000080000000350 s t := by
  unfold execRtcMeasureStart
  refine ⟨_, rfl, ?_⟩
  exact (Moves.sub (writeThen_moves (F := 0x40000000080000000010) (h_effect := fun _ _ => (Moves.sub (State.rtcMeas_moves ..))) ..))


theorem execRtcMeasureEnd_moves (ppm : ℤ) (s : State) :
    ∃ t, execRtcMeasureEnd ppm s = .next t ∧ Moves 0x40000000080000000010 s t := by
  unfold execRtcMeasureEnd
  refine ⟨_, rfl, ?_⟩
  refine Moves.ite ?_ ?_
  · extract_lets +onlyGivenNames v0
    extract_lets +onlyGivenNames s1
    have hs1 : Moves 0x40000000080000000010 s s1 := (((Moves.sub (F := 0x40000000080000000010) (State.wr_moves ..) (Moves.at 14 rfl)).step (State.wr_moves ..) (Moves.at 14 rfl)).step (State.irq_moves ..) (Moves.at 14 rfl))
    clear_value s1
    extract_lets +onlyGivenNames v2
    extract_lets +onlyGivenNames s3
    have hs3 : Moves 0x40000000080000000010 s s3 := (hs1.step (State.wrB_moves ..) (Moves.at 14 rfl))
    clear_value s3
    refine Moves.ite ?_ ?_
    · exact (hs3.step (State.wr_moves ..) (Moves.at 14 rfl))
    · exact hs3
  · exact Moves.refl


theorem execMainsLoss_moves (s : State) :
    ∃ t, execMainsLoss s = .next t ∧ Moves 0x40000000080000000010 s t := by
  unfold execMainsLoss
  refine ⟨_, rfl, ?_⟩
  refine Moves.ite ?_ ?_
  · exact (Moves.sub (State.measAbandon_moves ..))
  · exact Moves.refl


theorem execComparatorEdge_moves (n : ℕ) (rising : Bool) (s : State) :
    ∃ t, execComparatorEdge n rising s = .next t ∧ Moves 0x20000008080000000010 s t := by
  unfold execComparatorEdge
  refine ⟨_, rfl, ?_⟩
  refine Moves.ite ?_ ?_
  · extract_lets +onlyGivenNames s0
    have hs0 : Moves 0x20000008080000000010 s s0 := (Moves.sub (State.wr_moves ..) (Moves.at 13 rfl))
    clear_value s0
    extract_lets +onlyGivenNames v1
    refine Moves.ite ?_ ?_
    · extract_lets +onlyGivenNames s2
      have hs2 : Moves 0x20000008080000000010 s s2 := by
        refine Moves.ite ?_ ?_
        · exact (hs0.step (State.wr2_moves ..) (Moves.at 13 rfl))
        · exact hs0
      clear_value s2
      extract_lets +onlyGivenNames s3
      have hs3 : Moves 0x20000008080000000010 s s3 := ((hs2.step (State.setBits_moves ..) (Moves.at 13 rfl)).step (State.irq_moves ..) (Moves.at 13 rfl))
      clear_value s3
      refine Moves.ite ?_ ?_
      · exact (hs3.step (State.wakeEvent_moves ..))
      · exact hs3
    · exact hs0
  · exact Moves.refl


theorem execGuardService_moves (w : Who) (word : ℕ) (s : State) :
    ∃ t, execGuardService w word s = .next t ∧ Moves 0x210f00008080000000350 s t := by
  unfold execGuardService
  refine ⟨_, rfl, ?_⟩
  exact (Moves.sub (writeThen_moves (F := 0x210d00008080000000210) (h_effect := fun _ _ => (Moves.sub (State.guardService_moves ..))) ..))


theorem execGuardWarn_moves (s : State) :
    ∃ t, execGuardWarn s = .next t ∧ Moves 0x10000008080000000013 s t := by
  unfold execGuardWarn
  refine ⟨_, rfl, ?_⟩
  refine Moves.ite ?_ ?_
  · exact ((Moves.sub (State.advanceTime_moves ..)).step (State.guardWarned_moves ..))
  · exact Moves.refl


theorem execGuardKey_moves (w : Who) (word : ℕ) (s : State) :
    ∃ t, execGuardKey w word s = .next t ∧ Moves 0x210f00008080000000350 s t := by
  unfold execGuardKey
  refine ⟨_, rfl, ?_⟩
  exact (Moves.sub (writeThen_moves (F := 0x210d00008080000000210) (h_effect := fun _ _ => (Moves.sub (State.guardKey_moves ..))) ..))


theorem execGuardEnable_moves (w : Who) (s : State) :
    ∃ t, execGuardEnable w s = .next t ∧ Moves 0x210f00008080000000350 s t := by
  unfold execGuardEnable
  refine ⟨_, rfl, ?_⟩
  exact (Moves.sub (writeThen_moves (F := 0x210d00008080000000210) (h_effect := fun _ _ => (Moves.sub (State.guardCtl_moves ..))) ..))


theorem execGuardLock_moves (w : Who) (word : ℕ) (s : State) :
    ∃ t, execGuardLock w word s = .next t ∧ Moves 0x210f00008080000000350 s t := by
  unfold execGuardLock
  refine ⟨_, rfl, ?_⟩
  exact (Moves.sub (writeThen_moves (F := 0x210d00008080000000210) (h_effect := fun _ _ => (Moves.sub (State.guardCtl_moves ..))) ..))


theorem execGuardDisable_moves (s : State) :
    ∃ t, execGuardDisable s = .next t ∧ Moves 0x12100610f0000808f00000063c s t := by
  unfold execGuardDisable
  refine ⟨_, rfl, ?_⟩
  exact (Moves.sub (State.authCommand_moves (F := 0x210d00008080000000210) (h_act := by
          intro z0 z1 z2
          refine Moves.iteF (g := AuthDone.st) ?_ ?_
          · exact Moves.refl
          · refine Moves.stAuthDone ?_
            exact (((Moves.sub (State.guardVoid_moves ..)).step (State.guardKey_moves ..)).step (State.guardKey_moves ..))) ..))

theorem execRefclkRevert_moves (r : ℕ) (s : State) :
    ∃ t, execRefclkRevert r s = .next t ∧ Moves 0x200420000080000000215 s t := by
  unfold execRefclkRevert
  refine ⟨_, rfl, ?_⟩
  refine Moves.ite ?_ ?_
  · extract_lets +onlyGivenNames s0
    have hs0 : Moves 0x200420000080000000215 s s0 := (Moves.sub (State.setRef_moves ..))
    clear_value s0
    refine Moves.ite ?_ ?_
    · exact (hs0.step (State.changeRef_moves ..))
    · exact hs0
  · exact Moves.refl


end Sys2Proof.Machine
end

