-- ==== Sys2Proof/Laws/MovesChange.lean ====
section
/-! SUPPORT.  What each operation of the change, the program, the bulk memory, the dies and the shunt can do to the state, said once: the parts it may
change (a mask, one bit a part of `Safety.lean`), that it keeps the state sane and that it draws free values in order.
A lemma `Moves.set_…` says it of one record update. -/

open Sys2Proof Sys2Proof.Machine Sys2Proof.Bits
namespace Sys2Proof.Machine
set_option Elab.async false

theorem State.setPair_moves (s : State) (n : ℕ) :
    Moves 0x100002000000000080080000010 s (State.setPair s n) := by
  unfold State.setPair
  refine Moves.ite ?_ ?_
  · exact Moves.refl
  · extract_lets +onlyGivenNames s0
    have hs0 : Moves 0x100002000000000080080000010 s s0 := by
      refine Moves.ite ?_ ?_
      · exact (Moves.sub (State.raiseCause_moves ..))
      · exact Moves.refl
    clear_value s0
    extract_lets +onlyGivenNames s1
    have hs1 : Moves 0x100002000000000080080000010 s s1 := ((hs0.step (State.wr_moves ..) (Moves.at 21 rfl)).step (State.irq_moves ..) (Moves.at 21 rfl))
    clear_value s1
    refine Moves.ite ?_ ?_
    · exact (hs1.step (State.wr_moves ..) (Moves.at 21 rfl))
    · exact hs1


theorem Moves.set_45 {F : Nat} {s x : State} {f45 : Pair} (h : Moves F s x) (sub : 0x200000000000 &&& F = 0x200000000000 := by rfl) :
    Moves F s { x with pair := f45 } :=
  h.step (G := 0x200000000000) ⟨id, Nat.le_refl _, fun p hp => by cases p <;> first | rfl | exact absurd hp (by decide), fun _ _ _ => rfl⟩ sub

theorem State.standDown_moves (s : State) :
    Moves 0x80000000000000290000204010 s (State.standDown s) := by
  unfold State.standDown
  extract_lets +onlyGivenNames src0
  extract_lets +onlyGivenNames s1
  have hs1 : Moves 0x80000000000000290000204010 s s1 := (Moves.set_45 Moves.refl)
  refine Moves.ite ?_ ?_
  · exact hs1
  · exact (hs1.step (State.enterStop_moves ..))


theorem State.noSync_moves (s : State) (cause : ℕ) :
    Moves 0x180002000000000290080204010 s (State.noSync s cause) := by
  unfold State.noSync
  refine Moves.ite ?_ ?_
  · exact Moves.refl
  · exact (((Moves.sub (F := 0x180002000000000290080204010) (State.wr_moves ..) (Moves.at 21 rfl)).step (State.setPair_moves ..)).step (State.standDown_moves ..))


theorem State.placeChange_moves (s : State) (secs : List Section) :
    Moves 0xffffffffffffffff0000080101000038 s (State.placeChange s secs).1 := by
  unfold State.placeChange
  extract_lets +onlyGivenNames s0
  have hs0 : Moves 0xffffffffffffffff0000080101000038 s s0 := (Moves.foldl (fun _ _ => (Moves.sub (State.placeSection_moves ..))) (Moves.sub (State.copyTables_moves ..)))
  clear_value s0
  extract_lets +onlyGivenNames s1
  have hs1 : Moves 0xffffffffffffffff0000080101000038 s s1 := (Moves.foldl (fun _ _ => ((Moves.sub (State.disturbPart_moves ..)).step (State.dropPoints_moves ..))) hs0)
  clear_value s1
  extract_lets +onlyGivenNames s2
  have hs2 : Moves 0xffffffffffffffff0000080101000038 s s2 := ((hs1.step (State.wr_moves ..) (Moves.at 25 rfl)).step (State.wr_moves ..) (Moves.at 25 rfl))
  clear_value s2
  split
  · dsimp -zeta only
    exact (((((hs2.step (State.wr_moves ..) (Moves.at 25 rfl)).step (State.wr_moves ..) (Moves.at 25 rfl)).step (State.wr_moves ..) (Moves.at 25 rfl)).step (State.wr_moves ..) (Moves.at 25 rfl)).step (State.irq_moves ..) (Moves.at 25 rfl))
  · dsimp -zeta only
    exact hs2


theorem State.endLoad_moves (s : State) (image : List Byte) :
    Moves 0xffffffffffffffff0000090101000238 s (State.endLoad s image) := by
  unfold State.endLoad
  split
  · extract_lets +onlyGivenNames v0
    extract_lets +onlyGivenNames r1
    have hr1 : Moves 0xffffffffffffffff0000090101000238 s r1.1 := (Moves.sub (State.placeChange_moves ..))
    clear_value r1
    extract_lets +onlyGivenNames v2
    extract_lets +onlyGivenNames v3
    refine Moves.ite ?_ ?_
    · refine Moves.step ?_ (State.changeTo_moves ..)
      refine Moves.step ?_ (State.stageArea_moves ..)
      extract_lets +onlyGivenNames s4
      have hs4 : Moves 0xffffffffffffffff0000090101000238 s s4 := hr1
      clear_value s4
      exact (Moves.set_40 hs4)
    · exact (hr1.step (State.changeTo_moves ..))
  · exact (Moves.sub (State.changeTo_moves ..))


theorem State.armChange_moves (s : State) (f : ℕ) :
    Moves 0x200400000090000000238 s (State.armChange s f) := by
  unfold State.armChange
  exact ((Moves.set_40 Moves.refl).step (State.changeTo_moves ..))


theorem State.cancelSwaps_moves (s : State) :
    Moves 0x6000000080101000010 s (State.cancelSwaps s) := by
  unfold State.cancelSwaps
  exact (Moves.foldl (fun _ _ => ((Moves.sub (State.disturbPart_moves ..)).step (State.dropPoints_moves ..))) Moves.refl)


theorem State.refuseCarry_moves (s : State) (code : ℕ) :
    Moves 0x206400000090101000238 s (State.refuseCarry s code) := by
  unfold State.refuseCarry
  extract_lets +onlyGivenNames v0
  extract_lets +onlyGivenNames s1
  have hs1 : Moves 0x206400000090101000238 s s1 := (Moves.sub (State.cancelSwaps_moves ..))
  clear_value s1
  exact ((Moves.set_40 hs1).step (State.changeTo_moves ..))


theorem State.carryWord_moves (s : State) (e : Carry) (i : ℕ) {t : State} (h : State.carryWord s e i = some t) :
    Moves 0x80000000028 s t := by
  unfold State.carryWord at h
  dsimp only at h
  split at h
  · cases h
    exact Moves.ite (Moves.sub (setBitWord_moves ..)) (Moves.sub (State.store_moves ..))
  · split at h
    · cases h
    · cases h
      exact Moves.ite (Moves.sub (setBitWord_moves ..)) (Moves.sub (State.store_moves ..))


theorem State.carryElement_moves (s : State) (e : Carry) (i : ℕ) {t : State} (h : State.carryElement s e i = some t) :
    Moves 0xffffffffffffffff0000080006000010 s t := by
  unfold State.carryElement at h
  dsimp only at h
  split at h
  · cases h; exact (Moves.sub (copyEntry_moves ..)).step (State.setTimer_moves ..)
  · cases h; exact (Moves.sub (copyEntry_moves ..)).step (State.setCounter_moves ..)
  · split at h
    · cases h
    · cases h; exact (Moves.sub (State.wr_moves ..) (Moves.page_any rfl)).step (State.wr_moves ..) (Moves.page_any rfl)


theorem State.carryRun_moves {F : Nat} (step : State → Nat → Option State) (h_step : ∀ s i t, step s i = some t → Moves F s t)
    (n i : Nat) (s : State) : Moves F s (State.carryRun step n i s).1 := by
  induction n generalizing i s with
  | zero => exact Moves.refl
  | succ n ih =>
    unfold State.carryRun
    split
    · rename_i t h
      exact (h_step _ _ _ h).trans (ih ..)
    · exact Moves.refl


theorem State.carryFault_moves (s : State) (index die word : ℕ) :
    Moves 0x200400000090000000210 s (State.carryFault s index die word) := by
  unfold State.carryFault
  exact ((Moves.set_40 Moves.refl).step (State.archive_moves ..))


theorem State.carryEntry_moves (s : State) (e : Carry × ℕ) :
    Moves 0xffffffffffffffff0000090006000238 s (State.carryEntry s e) := by
  unfold State.carryEntry
  extract_lets +onlyGivenNames r
  have hr : Moves 0xffffffffffffffff0000090006000238 s r.1 := by
    unfold r
    split
    · exact State.carryRun_moves _ (fun _ _ _ h => (State.carryWord_moves (h := h) ..).sub rfl) ..
    · exact State.carryRun_moves _ (fun _ _ _ h => (State.carryElement_moves (h := h) ..).sub rfl) ..
  clear_value r
  split
  · exact hr
  · exact hr.step (State.carryFault_moves ..)


theorem State.endCarry_moves (s : State) (die : ℕ) :
    Moves 0xffffffffffffffff0000090006000238 s (State.endCarry s die) := by
  unfold State.endCarry
  extract_lets +onlyGivenNames s0
  have hs0 : Moves 0xffffffffffffffff0000090006000238 s s0 := (Moves.foldl (fun _ _ => (Moves.sub (State.carryEntry_moves ..))) Moves.refl)
  clear_value s0
  exact ((Moves.set_40 hs0).step (State.showChange_moves ..))


theorem State.stopCarry_moves (s : State) :
    Moves 0x200400000090000000238 s (State.stopCarry s) := by
  unfold State.stopCarry
  refine Moves.foldl (fun t0 x1 => ?_) ?_
  · extract_lets +onlyGivenNames s2
    have hs2 : Moves 0x200400000090000000238 t0 s2 := (Moves.foldl (fun _ _ => (Moves.sub (State.carryFault_moves ..))) Moves.refl)
    clear_value s2
    exact ((Moves.set_40 hs2).step (State.showChange_moves ..))
  · exact Moves.refl


theorem State.applyTables_moves (s : State) :
    Moves 0xffffffffffffffff0000080000000010 s (State.applyTables s) := by
  unfold State.applyTables
  extract_lets +onlyGivenNames v0
  extract_lets +onlyGivenNames v1
  extract_lets +onlyGivenNames s2
  have hs2 : Moves 0xffffffffffffffff0000080000000010 s s2 := (Moves.foldl (fun _ _ => (Moves.sub (State.setTaskWords_moves ..))) Moves.refl)
  clear_value s2
  extract_lets +onlyGivenNames s3
  have hs3 : Moves 0xffffffffffffffff0000080000000010 s s3 := by
    refine Moves.ite ?_ ?_
    · exact hs2
    · exact (hs2.step (State.hotLost_moves ..))
  clear_value s3
  refine Moves.ite ?_ ?_
  · exact hs3
  · exact ((hs3.step (State.setRetWords_moves ..)).step (State.hotLost_moves ..))


theorem State.startCarry_moves (s : State) :
    Moves 0xffffffffffffffff0000098000000238 s (State.startCarry s) := by
  unfold State.startCarry
  extract_lets +onlyGivenNames v0
  extract_lets +onlyGivenNames v1
  extract_lets +onlyGivenNames v2
  extract_lets +onlyGivenNames s3
  have hs3 : Moves 0xffffffffffffffff0000098000000238 s s3 := (Moves.set_40 Moves.refl)
  extract_lets +onlyGivenNames s4
  have hs4 : Moves 0xffffffffffffffff0000098000000238 s s4 := (hs3.step (State.applyTables_moves ..))
  extract_lets +onlyGivenNames v5
  extract_lets +onlyGivenNames s6
  have hs6 : Moves 0xffffffffffffffff0000098000000238 s s6 := (Moves.set_40 hs4)
  extract_lets +onlyGivenNames s7
  have hs7 : Moves 0xffffffffffffffff0000098000000238 s s7 := by
    refine Moves.ite ?_ ?_
    · exact (hs6.step (State.partnerSend_moves ..))
    · exact hs6
  clear_value s7
  refine Moves.ite ?_ ?_
  · exact (hs7.step (State.showChange_moves ..))
  · exact ((hs7.step (State.stageArea_moves ..)).step (State.changeTo_moves ..))


theorem State.discardTrigger_moves (s : State) (t : ℕ) :
    Moves 0x100000000000000080080000010 s (State.discardTrigger s t) := by
  unfold State.discardTrigger
  extract_lets +onlyGivenNames s0
  have hs0 : Moves 0x100000000000000080080000010 s s0 := ((Moves.sub (F := 0x100000000000000080080000010) (State.wr_moves ..) (Moves.at 40 rfl)).step (State.wr_moves ..) (Moves.at 40 rfl))
  clear_value s0
  exact (Moves.set_31 hs0)


theorem State.swapNamed_moves (s : State) :
    Moves 0x6000000080101000010 s (State.swapNamed s) := by
  unfold State.swapNamed
  extract_lets +onlyGivenNames s0
  have hs0 : Moves 0x6000000080101000010 s s0 := (Moves.foldl (fun _ _ => (Moves.sub (State.swapBanks_moves ..))) Moves.refl)
  clear_value s0
  extract_lets +onlyGivenNames s1
  have hs1 : Moves 0x6000000080101000010 s s1 := (Moves.set_32 hs0)
  clear_value s1
  refine Moves.ite ?_ ?_
  · exact (hs1.step (State.wr_moves ..) (Moves.at 10 rfl))
  · exact hs1


theorem State.restoreTables_moves (s : State) :
    Moves 0xffffffffffffffff0000000000000010 s (State.restoreTables s) := by
  unfold State.restoreTables
  split
  · refine ⟨fun h => ⟨h.1, SMap.sorted_foldl_insert _ _ _ (SMap.sorted_filter _ h.2)⟩, Nat.le_refl _, fun p hp => ?_, fun _ k hk => Moves.noPage k hk⟩
    cases p <;> first | rfl | exact absurd hp (by decide)
  · exact Moves.refl


theorem Moves.set_21_40 {F : Nat} {s x : State} {f21 : Prog} {f40 : Change} (h : Moves F s x) (sub : 0x10000200000 &&& F = 0x10000200000 := by rfl) :
    Moves F s { x with prog := f21, change := f40 } :=
  h.step (G := 0x10000200000) ⟨id, Nat.le_refl _, fun p hp => by cases p <;> first | rfl | exact absurd hp (by decide), fun _ _ _ => rfl⟩ sub

theorem State.switchNow_moves (s : State) :
    Moves 0xffffffffffffffff0000094381200238 s (State.switchNow s) := by
  unfold State.switchNow
  extract_lets +onlyGivenNames s0
  have hs0 : Moves 0xffffffffffffffff0000094381200238 s s0 := (Moves.sub (State.stopCarry_moves ..))
  clear_value s0
  extract_lets +onlyGivenNames v1
  extract_lets +onlyGivenNames s2
  have hs2 : Moves 0xffffffffffffffff0000094381200238 s s2 := (hs0.step (State.swapNamed_moves ..))
  clear_value s2
  extract_lets +onlyGivenNames s3
  have hs3 : Moves 0xffffffffffffffff0000094381200238 s s3 := by
    refine Moves.step ?_ (State.swapTables_moves ..)
    refine Moves.ite ?_ ?_
    · exact (hs2.step (State.restoreTables_moves ..))
    · exact hs2
  clear_value s3
  extract_lets +onlyGivenNames s4
  have hs4 : Moves 0xffffffffffffffff0000094381200238 s s4 := (Moves.foldl (fun _ _ => (Moves.sub (State.discardTrigger_moves ..))) hs3)
  clear_value s4
  extract_lets +onlyGivenNames v5
  extract_lets +onlyGivenNames v6
  extract_lets +onlyGivenNames v7
  extract_lets +onlyGivenNames v8
  extract_lets +onlyGivenNames v9
  extract_lets +onlyGivenNames s10
  have hs10 : Moves 0xffffffffffffffff0000094381200238 s s10 := (Moves.set_21_40 hs4)
  clear_value s10
  exact ((hs10.step (State.twinWrite_moves ..)).step (State.changeTo_moves ..))


theorem State.changeAtTick_moves (s : State) :
    Moves 0xffffffffffffffff0000294381204238 s (State.changeAtTick s) := by
  unfold State.changeAtTick
  refine Moves.ite ?_ ?_
  · exact (Moves.sub (State.switchNow_moves ..))
  · refine Moves.ite ?_ ?_
    · extract_lets +onlyGivenNames s0
      have hs0 : Moves 0xffffffffffffffff0000294381204238 s s0 := (Moves.sub (State.refuseCarry_moves ..))
      clear_value s0
      refine Moves.ite ?_ ?_
      · exact (hs0.step (State.noSync_moves ..))
      · exact hs0
    · exact Moves.refl


theorem execChangeLoad_moves (s : State) :
    ∃ t, execChangeLoad s = .next t ∧ Moves 0x200400000090000000a38 s t := by
  unfold execChangeLoad
  refine ⟨_, rfl, ?_⟩
  split
  · refine Moves.ite ?_ ?_
    · extract_lets +onlyGivenNames s0
      have hs0 : Moves 0x200400000090000000a38 s s0 := (Moves.sub (State.popQueue_moves ..))
      clear_value s0
      refine Moves.ite ?_ ?_
      · exact (hs0.step (State.changeCode_moves ..))
      · extract_lets +onlyGivenNames s1
        have hs1 : Moves 0x200400000090000000a38 s s1 := (hs0.step (State.settle_moves ..))
        clear_value s1
        exact ((Moves.set_40 hs1).step (State.changeTo_moves ..))
    · exact Moves.refl
  · exact Moves.refl


theorem execChangeLoadEnd_moves (image : List Byte) (s : State) :
    ∃ t, execChangeLoadEnd image s = .next t ∧ Moves 0xffffffffffffffff0000090101000238 s t := by
  unfold execChangeLoadEnd
  refine ⟨_, rfl, ?_⟩
  refine Moves.ite ?_ ?_
  · exact (Moves.sub (State.endLoad_moves ..))
  · exact Moves.refl


theorem execChangeDiscard_moves (s : State) :
    ∃ t, execChangeDiscard s = .next t ∧ Moves 0x200400000090000000a38 s t := by
  unfold execChangeDiscard
  refine ⟨_, rfl, ?_⟩
  split
  · refine Moves.ite ?_ ?_
    · extract_lets +onlyGivenNames s0
      have hs0 : Moves 0x200400000090000000a38 s s0 := (Moves.sub (State.popQueue_moves ..))
      clear_value s0
      refine Moves.ite ?_ ?_
      · exact ((Moves.set_40 hs0).step (State.changeTo_moves ..))
      · exact (hs0.step (State.changeCode_moves ..))
    · exact Moves.refl
  · exact Moves.refl


theorem execChangeCommit_moves (s : State) :
    ∃ t, execChangeCommit s = .next t ∧ Moves 0x1210040060000009f00000063c s t := by
  unfold execChangeCommit
  refine ⟨_, rfl, ?_⟩
  exact (Moves.sub (State.authCommand_moves (F := 0x90000000028) (h_act := by
          intro z0 z1 z2
          refine Moves.iteF (g := AuthDone.st) ?_ ?_
          · refine Moves.stAuthDone ?_
            exact (Moves.set_40 Moves.refl)
          · refine Moves.stAuthDone ?_
            exact (Moves.sub (State.changeCode_moves ..))) ..))


theorem execPreSwitchCheckEnd_moves (result : List Byte) (partner : ℕ) (s : State) :
    ∃ t, execPreSwitchCheckEnd result partner s = .next t ∧ Moves 0x200400000098000000238 s t := by
  unfold execPreSwitchCheckEnd
  refine ⟨_, rfl, ?_⟩
  split
  · extract_lets +onlyGivenNames v0
    extract_lets +onlyGivenNames s1
    have hs1 : Moves 0x200400000098000000238 s s1 := (Moves.set_40 Moves.refl)
    clear_value s1
    split
    · extract_lets +onlyGivenNames s2
      have hs2 : Moves 0x200400000098000000238 s s2 := by
        refine Moves.ite ?_ ?_
        · exact (hs1.step (State.archive_moves ..))
        · exact hs1
      clear_value s2
      extract_lets +onlyGivenNames s3
      have hs3 : Moves 0x200400000098000000238 s s3 := (hs2.step (State.armChange_moves ..))
      clear_value s3
      refine Moves.ite ?_ ?_
      · exact (hs3.step (State.partnerSend_moves ..))
      · exact hs3
    · extract_lets +onlyGivenNames s4
      have hs4 : Moves 0x200400000098000000238 s s4 := by
        refine Moves.ite ?_ ?_
        · exact (hs1.step (State.archive_moves ..))
        · exact hs1
      clear_value s4
      exact ((Moves.set_40 hs4).step (State.changeTo_moves ..))
  · exact Moves.refl


theorem execPointsInstant_moves (s : State) :
    ∃ t, execPointsInstant s = .next t ∧ Moves 0x6000000090101000013 s t := by
  unfold execPointsInstant
  refine ⟨_, rfl, ?_⟩
  extract_lets +onlyGivenNames v0
  refine Moves.ite ?_ ?_
  · extract_lets +onlyGivenNames s1
    have hs1 : Moves 0x6000000090101000013 s s1 := (Moves.sub (State.advanceTime_moves ..))
    clear_value s1
    refine Moves.ite ?_ ?_
    · exact hs1
    · extract_lets +onlyGivenNames v2
      extract_lets +onlyGivenNames s3
      have hs3 : Moves 0x6000000090101000013 s s3 := (Moves.set_40 hs1)
      clear_value s3
      exact ((hs3.step (State.wr_moves ..) (Moves.at 10 rfl)).step (State.pointsGo_moves ..))
  · exact Moves.refl


theorem execCarryStart_moves (s : State) :
    ∃ t, execCarryStart s = .next t ∧ Moves 0xffffffffffffffff000009810100023b s t := by
  unfold execCarryStart
  refine ⟨_, rfl, ?_⟩
  refine Moves.ite ?_ ?_
  · extract_lets +onlyGivenNames s0
    have hs0 : Moves 0xffffffffffffffff000009810100023b s s0 := (Moves.sub (State.advanceTime_moves ..))
    clear_value s0
    refine Moves.ite ?_ ?_
    · refine Moves.ite ?_ ?_
      · exact (hs0.step (State.startCarry_moves ..))
      · exact hs0
    · refine Moves.ite ?_ ?_
      · exact (hs0.step (State.refuseCarry_moves ..))
      · refine Moves.ite ?_ ?_
        · exact (hs0.step (State.refuseCarry_moves ..))
        · exact (hs0.step (State.startCarry_moves ..))
  · exact Moves.refl


theorem execCarryEnd_moves (die : ℕ) (s : State) :
    ∃ t, execCarryEnd die s = .next t ∧ Moves 0xffffffffffffffff0000090006000238 s t := by
  unfold execCarryEnd
  refine ⟨_, rfl, ?_⟩
  refine Moves.ite ?_ ?_
  · exact (Moves.sub (State.endCarry_moves ..))
  · exact Moves.refl


theorem execCarryDeadline_moves (s : State) :
    ∃ t, execCarryDeadline s = .next t ∧ Moves 0x20040000009000000023b s t := by
  unfold execCarryDeadline
  refine ⟨_, rfl, ?_⟩
  refine Moves.ite ?_ ?_
  · exact ((Moves.sub (State.advanceTime_moves ..)).step (State.stopCarry_moves ..))
  · exact Moves.refl


theorem execChangeRevert_moves (s : State) :
    ∃ t, execChangeRevert s = .next t ∧ Moves 0x1210060660000009f10100063c s t := by
  unfold execChangeRevert
  refine ⟨_, rfl, ?_⟩
  exact (Moves.sub (State.authCommand_moves (F := 0x206400000090101000238) (h_act := by
          intro z0 z1 z2
          refine Moves.iteF (g := AuthDone.st) ?_ ?_
          · refine Moves.stAuthDone ?_
            exact (Moves.sub (State.changeCode_moves ..))
          · refine Moves.iteF (g := AuthDone.st) ?_ ?_
            · refine Moves.stAuthDone ?_
              exact (Moves.sub (State.refuseCarry_moves ..))
            · refine Moves.iteF (g := AuthDone.st) ?_ ?_
              · refine Moves.stAuthDone ?_
                exact (Moves.set_40 Moves.refl)
              · refine Moves.stAuthDone ?_
                exact (Moves.sub (State.changeCode_moves ..))) ..))


theorem execRetainedRecordWrite_moves (s : State) :
    ∃ t, execRetainedRecordWrite s = .next t ∧ Moves 0x80000000090000000038 s t := by
  unfold execRetainedRecordWrite
  refine ⟨_, rfl, ?_⟩
  refine Moves.ite ?_ ?_
  · extract_lets +onlyGivenNames s0
    have hs0 : Moves 0x80000000090000000038 s s0 := (Moves.sub (State.twinWrite_moves ..))
    clear_value s0
    exact (Moves.set_40 hs0)
  · exact Moves.refl


theorem State.stageSafe_moves (s : State) (image : List Byte) :
    Moves 0x200000000000000080000000038 s (State.stageSafe s image) := by
  unfold State.stageSafe
  exact ((Moves.sub (State.storeBytes_moves ..)).step (State.wr_moves ..) (Moves.at 41 rfl))


theorem State.clearProgram_moves (s : State) :
    Moves 0xffffffffffffffff0000080001000010 s (State.clearProgram s) := by
  unfold State.clearProgram
  extract_lets +onlyGivenNames s0
  have hs0 : Moves 0xffffffffffffffff0000080001000010 s s0 := (Moves.foldl (fun _ _ => (((Moves.sub (State.invalidateBank_moves ..)).step (State.invalidateBank_moves ..)).step (State.dropPoints_moves ..))) Moves.refl)
  clear_value s0
  extract_lets +onlyGivenNames s1
  have hs1 : Moves 0xffffffffffffffff0000080001000010 s s1 := (Moves.foldl (fun _ _ => (Moves.foldl (fun _ _ => (Moves.sub (State.resetField_moves_any ..))) Moves.refl)) hs0)
  clear_value s1
  extract_lets +onlyGivenNames s2
  have hs2 : Moves 0xffffffffffffffff0000080001000010 s s2 := (Moves.foldl (fun _ _ => (Moves.foldl (fun _ _ => (Moves.sub (State.resetField_moves_any ..))) Moves.refl)) hs1)
  clear_value s2
  exact ((hs2.step (State.showTables_moves ..)).step (State.hotLost_moves ..))


theorem State.placeFrame_moves (s : State) (data : List Byte) :
    Moves 0xffffffffffffffff0000080000000010 s (State.placeFrame s data) := by
  unfold State.placeFrame
  extract_lets +onlyGivenNames v0
  exact (Moves.foldl (fun _ _ => (Moves.sub (State.wr_moves_any ..))) Moves.refl)


theorem State.emptyShadow_moves (s : State) :
    Moves 0xffffffffffffffff0000000000000010 s (State.emptyShadow s) := by
  refine ⟨fun h => ⟨h.1, SMap.sorted_filter _ h.2⟩, Nat.le_refl _, fun p hp => ?_, fun _ k hk => Moves.noPage k hk⟩
  cases p <;> first | rfl | exact absurd hp (by decide)


theorem State.placeDies_moves (s : State) (secs : List Section) (only : Option (ℕ × ℕ)) :
    Moves 0xffffffffffffffff0000080101000038 s (State.placeDies s secs only) := by
  unfold State.placeDies
  extract_lets +onlyGivenNames v0
  extract_lets +onlyGivenNames v1
  extract_lets +onlyGivenNames s2
  have hs2 : Moves 0xffffffffffffffff0000080101000038 s s2 := (Moves.foldl (fun _ _ => (Moves.sub (State.placeSection_moves ..))) Moves.refl)
  clear_value s2
  extract_lets +onlyGivenNames v3
  refine Moves.ite ?_ ?_
  · exact hs2
  · exact ((hs2.step (State.wr_moves ..) (Moves.at 10 rfl)).step (State.pointsGo_moves ..))


theorem State.placeProgram_moves (s : State) (secs : List Section) :
    Moves 0xffffffffffffffff0000090101000038 s (State.placeProgram s secs) := by
  unfold State.placeProgram
  extract_lets +onlyGivenNames s0
  have hs0 : Moves 0xffffffffffffffff0000090101000038 s s0 := (Moves.foldl (fun _ _ => (Moves.sub (State.placeFrame_moves ..))) Moves.refl)
  clear_value s0
  extract_lets +onlyGivenNames s1
  have hs1 : Moves 0xffffffffffffffff0000090101000038 s s1 := (hs0.step (State.placeDies_moves ..))
  clear_value s1
  extract_lets +onlyGivenNames s2
  have hs2 : Moves 0xffffffffffffffff0000090101000038 s s2 := (Moves.foldl (fun _ _ => (Moves.sub (State.placeSection_moves ..))) (hs1.step (State.emptyShadow_moves ..)))
  clear_value s2
  extract_lets +onlyGivenNames v3
  extract_lets +onlyGivenNames s4
  have hs4 : Moves 0xffffffffffffffff0000090101000038 s s4 := (Moves.foldl (fun _ _ => (Moves.sub (State.wr_moves ..) (Moves.at 25 rfl))) hs2)
  clear_value s4
  extract_lets +onlyGivenNames s5
  have hs5 : Moves 0xffffffffffffffff0000090101000038 s s5 := (((hs4.step (State.wr_moves ..) (Moves.at 25 rfl)).step (State.wr_moves ..) (Moves.at 25 rfl)).step (State.wr_moves ..) (Moves.at 25 rfl))
  clear_value s5
  extract_lets +onlyGivenNames s6
  have hs6 : Moves 0xffffffffffffffff0000090101000038 s s6 := (Moves.foldl (fun _ _ => (Moves.foldl (fun _ _ => (Moves.sub (State.resetField_moves_any ..))) Moves.refl)) hs5)
  clear_value s6
  extract_lets +onlyGivenNames s7
  have hs7 : Moves 0xffffffffffffffff0000090101000038 s s7 := (Moves.foldl (fun _ _ => (Moves.sub (State.setTaskWords_moves ..))) hs6)
  clear_value s7
  extract_lets +onlyGivenNames v8
  extract_lets +onlyGivenNames s9
  have hs9 : Moves 0xffffffffffffffff0000090101000038 s s9 := (Moves.foldl (fun _ _ => (Moves.foldl (fun _ _ => (Moves.sub (State.resetField_moves_any ..))) Moves.refl)) (hs7.step (State.putRaw_moves ..)))
  clear_value s9
  extract_lets +onlyGivenNames s10
  have hs10 : Moves 0xffffffffffffffff0000090101000038 s s10 := (hs9.step (State.setRetWords_moves ..))
  clear_value s10
  extract_lets +onlyGivenNames s11
  have hs11 : Moves 0xffffffffffffffff0000090101000038 s s11 := by
    refine Moves.foldl (fun t12 x13 => ?_) ?_
    · refine Moves.ite ?_ ?_
      · exact (Moves.sub (State.wr_moves ..) (Moves.at 41 rfl))
      · exact Moves.refl
    · exact hs10
  clear_value s11
  extract_lets +onlyGivenNames v14
  exact ((Moves.set_40 hs11).step (State.hotLost_moves ..))


theorem State.failProgram_moves (s : State) :
    Moves 0xffffffffffffffff0000080001200210 s (State.failProgram s) := by
  unfold State.failProgram
  refine Moves.step ?_ (State.archive_moves ..)
  extract_lets +onlyGivenNames s0
  have hs0 : Moves 0xffffffffffffffff0000080001200210 s s0 := (Moves.sub (State.clearProgram_moves ..))
  clear_value s0
  exact (Moves.set_21 hs0)


theorem State.loadProgram_moves (s : State) (rec' image safe : List Byte) :
    Moves 0xffffffffffffffff0000090101200238 s (State.loadProgram s rec' image safe) := by
  unfold State.loadProgram
  extract_lets +onlyGivenNames s0
  have hs0 : Moves 0xffffffffffffffff0000090101200238 s s0 := by
    unfold s0
    split
    · exact (Moves.sub (State.stageSafe_moves ..))
    · exact Moves.refl
  clear_value s0
  refine Moves.ite ?_ ?_
  · extract_lets +onlyGivenNames s1
    have hs1 : Moves 0xffffffffffffffff0000090101200238 s s1 := (hs0.step (State.placeProgram_moves ..))
    clear_value s1
    exact ((Moves.set_21_40 hs1).step (State.showChange_moves ..))
  · exact (hs0.step (State.failProgram_moves ..))


theorem execProgramImageLoad_moves (directory image safe : List Byte) (s : State) :
    ∃ t, execProgramImageLoad directory image safe s = .next t ∧ Moves 0xffffffffffffffff0000090101200238 s t := by
  unfold execProgramImageLoad
  refine ⟨_, rfl, ?_⟩
  refine Moves.ite ?_ ?_
  · split
    · refine Moves.ite ?_ ?_
      · split
        · exact (Moves.sub (State.stageSafe_moves ..))
        · exact Moves.refl
      · exact (Moves.sub (State.loadProgram_moves ..))
    · split
      · extract_lets +onlyGivenNames v0
        exact ((Moves.sub (State.twinWrite_moves ..)).step (State.loadProgram_moves ..))
      · exact (Moves.sub (State.archive_moves ..))
  · exact Moves.refl


theorem execSafeImageLoad_moves (image : List Byte) (s : State) :
    ∃ t, execSafeImageLoad image s = .next t ∧ Moves 0x21210048060000008f00000063c s t := by
  unfold execSafeImageLoad
  refine ⟨_, rfl, ?_⟩
  exact (Moves.sub (State.authCommand_moves (F := 0x200000080000000080000000038) (h_act := by
          intro z0 z1 z2
          refine Moves.iteF (g := AuthDone.st) ?_ ?_
          · exact Moves.refl
          · extract_lets +onlyGivenNames v3
            extract_lets +onlyGivenNames s4
            have hs4 : Moves 0x200000080000000080000000038 z0 s4 := (Moves.sub (State.twinWrite_moves ..))
            clear_value s4
            refine Moves.stAuthDone ?_
            refine Moves.ite ?_ ?_
            · exact (hs4.step (State.stageSafe_moves ..))
            · exact hs4) ..))


theorem xspiCmd_moves (s : State) (v : ℕ) :
    Moves 0x8000000000000080000000010 s (xspiCmd s v) := by
  unfold xspiCmd
  refine Moves.ite ?_ ?_
  · exact Moves.refl
  · extract_lets +onlyGivenNames s0
    have hs0 : Moves 0x8000000000000080000000010 s s0 := ((Moves.sub (F := 0x8000000000000080000000010) (State.wr_moves ..) (Moves.at 35 rfl)).step (State.wr_moves ..) (Moves.at 35 rfl))
    clear_value s0
    refine Moves.ite ?_ ?_
    · exact (hs0.step (State.wr_moves ..) (Moves.at 35 rfl))
    · exact ((hs0.step (State.wr_moves ..) (Moves.at 35 rfl)).step (State.wr_moves ..) (Moves.at 35 rfl))


theorem xspiSoftReset_moves (s : State) :
    Moves 0x8000000000000080000000010 s (xspiSoftReset s) := by
  unfold xspiSoftReset
  exact (Moves.sub (State.wr_moves ..) (Moves.at 35 rfl))


theorem execXspiGo_moves (w : Who) (word : ℕ) (s : State) :
    ∃ t, execXspiGo w word s = .next t ∧ Moves 0x8000210f00000080000000350 s t := by
  unfold execXspiGo
  refine ⟨_, rfl, ?_⟩
  exact (Moves.sub (writeThen_moves (F := 0x8000000000000080000000010) (h_effect := fun _ _ => (Moves.sub (xspiCmd_moves ..))) ..))


theorem xspiStore_moves (s : State) (data : List Byte) :
    Moves 0x8000000000000080000000038 s (xspiStore s data) := by
  unfold xspiStore
  refine Moves.ite ?_ ?_
  · extract_lets +onlyGivenNames v0
    exact (Moves.sub (State.storeBytes_moves ..))
  · refine Moves.foldl (fun t1 x2 => ?_) ?_
    · extract_lets +onlyGivenNames v3
      exact (Moves.sub (State.wr_moves ..) (Moves.at 35 rfl))
    · exact Moves.refl


theorem execXspiDone_moves (data : List Byte) (s : State) :
    ∃ t, execXspiDone data s = .next t ∧ Moves 0x8000000000000080000000038 s t := by
  unfold execXspiDone
  refine ⟨_, rfl, ?_⟩
  refine Moves.ite ?_ ?_
  · extract_lets +onlyGivenNames v0
    refine Moves.ite ?_ ?_
    · exact (((Moves.sub (F := 0x8000000000000080000000038) (State.wr_moves ..) (Moves.at 35 rfl)).step (State.wr_moves ..) (Moves.at 35 rfl)).step (State.irq_moves ..) (Moves.at 35 rfl))
    · refine Moves.ite ?_ ?_
      · exact ((((Moves.sub (xspiStore_moves ..)).step (State.wr_moves ..) (Moves.at 35 rfl)).step (State.wr_moves ..) (Moves.at 35 rfl)).step (State.irq_moves ..) (Moves.at 35 rfl))
      · exact Moves.refl
  · exact Moves.refl


theorem execXspiDqsTimeout_moves (s : State) :
    ∃ t, execXspiDqsTimeout s = .next t ∧ Moves 0x8000000000000080000000010 s t := by
  unfold execXspiDqsTimeout
  refine ⟨_, rfl, ?_⟩
  refine Moves.ite ?_ ?_
  · exact ((((Moves.sub (F := 0x8000000000000080000000010) (State.wr_moves ..) (Moves.at 35 rfl)).step (State.wr_moves ..) (Moves.at 35 rfl)).step (State.inc_moves ..) (Moves.at 35 rfl)).step (State.irq_moves ..) (Moves.at 35 rfl))
  · exact Moves.refl


theorem Moves.set_41 {F : Nat} {s x : State} {f41 : SMap MemEngine} (h : Moves F s x) (sub : 0x20000000000 &&& F = 0x20000000000 := by rfl) :
    Moves F s { x with engines := f41 } :=
  h.step (G := 0x20000000000) ⟨id, Nat.le_refl _, fun p hp => by cases p <;> first | rfl | exact absurd hp (by decide), fun _ _ _ => rfl⟩ sub

theorem State.setEng_moves (s : State) (die : ℕ) (e : MemEngine) :
    Moves 0x20000000000 s (State.setEng s die e) := by
  unfold State.setEng
  exact (Moves.set_41 Moves.refl)


theorem State.fillMem_moves (s : State) (a n v : ℕ) :
    Moves 0x80000000028 s (State.fillMem s a n v) := by
  have hb : ∀ k, SMap.canonical 0 ((List.range k).filterMap fun i =>
      let b := BitVec.ofNat 8 (field v (8 * (i % 8)) 8)
      if b = 0 then none else some (a + i, b)) = true ∧ ∀ e ∈ ((List.range k).filterMap fun i =>
      let b := BitVec.ofNat 8 (field v (8 * (i % 8)) 8)
      if b = 0 then none else some (a + i, b)), a ≤ e.1 ∧ e.1 < a + k := by
    intro k
    have hmem : ∀ e ∈ ((List.range k).filterMap fun i =>
      let b := BitVec.ofNat 8 (field v (8 * (i % 8)) 8)
      if b = 0 then none else some (a + i, b)), ∃ i, i < k ∧ e.1 = a + i ∧ e.2 ≠ 0 := by
      intro e he
      obtain ⟨i, hi, h⟩ := List.mem_filterMap.mp he
      dsimp only at h
      split at h
      · cases h
      · cases h; exact ⟨i, List.mem_range.mp hi, rfl, by assumption⟩
    refine ⟨SMap.canonical_iff.mpr ⟨?_, fun e he => (hmem e he).choose_spec.2.2⟩, fun e he => ?_⟩
    · clear hmem
      induction k with
      | zero => rfl
      | succ k ih =>
        rw [List.range_succ, List.filterMap_append]
        refine SMap.sorted_append ih ?_ ?_
        · simp only [List.filterMap_cons, List.filterMap_nil]
          split <;> rfl
        · intro x hx y hy
          obtain ⟨i, hi, h⟩ := List.mem_filterMap.mp hx
          obtain ⟨j, hj, h'⟩ := List.mem_filterMap.mp hy
          have hi := List.mem_range.mp hi
          have hj := List.mem_singleton.mp hj
          dsimp only at h h'
          split at h
          · cases h
          · split at h'
            · cases h'
            · cases h; cases h'; dsimp only; omega
    · obtain ⟨i, hi, h, _⟩ := hmem e he
      omega
  refine ⟨fun h => ⟨SMap.canonical_splice h.1 (hb n).1 (hb n).2 (by omega), h.2⟩, Nat.le_refl _, fun p hp => ?_, fun _ _ _ => rfl⟩
  cases p <;> first | rfl | exact absurd hp (by decide)


theorem State.rereadRings_moves (s : State) (die b : ℕ) :
    Moves 0x200 s (State.rereadRings s die b) := by
  unfold State.rereadRings
  refine Moves.ite ?_ ?_
  · exact (Moves.foldl (fun _ _ => (Moves.sub (State.setRing_moves ..))) Moves.refl)
  · exact Moves.refl


theorem memPower_moves (die : ℕ) (s : State) (a2 : ℕ) :
    Moves 0x800000080000000238 s (memPower die s a2) := by
  unfold memPower
  refine Moves.foldl (fun t0 x1 => ?_) ?_
  · extract_lets +onlyGivenNames v2
    extract_lets +onlyGivenNames v3
    extract_lets +onlyGivenNames v4
    clear_value v2
    split
    · refine Moves.ite ?_ ?_
      · exact Moves.refl
      · exact (Moves.sub (State.wr_moves ..) (Moves.at 7 rfl))
    · refine Moves.ite ?_ ?_
      · exact Moves.refl
      · exact (Moves.sub (State.wr_moves ..) (Moves.at 7 rfl))
    · refine Moves.ite ?_ ?_
      · exact Moves.refl
      · exact (((Moves.sub (State.clearMem_moves ..)).step (State.rereadRings_moves ..)).step (State.wr_moves ..) (Moves.at 7 rfl))
    · exact Moves.refl
  · exact Moves.refl


theorem execBankPowerSet_moves (w : Who) (die word : ℕ) (s : State) :
    ∃ t, execBankPowerSet w die word s = .next t ∧ Moves 0x210f00000080000000378 s t := by
  unfold execBankPowerSet
  refine ⟨_, rfl, ?_⟩
  refine Moves.ite ?_ ?_
  · exact (Moves.sub (writeThen_moves (F := 0x800000080000000238) (h_effect := fun _ _ => (Moves.sub (memPower_moves ..))) ..))
  · exact Moves.refl

theorem execBankWakeDone_moves (die bank : ℕ) (s : State) :
    ∃ t, execBankWakeDone die bank s = .next t ∧ Moves 0x800000080000000010 s t := by
  unfold execBankWakeDone
  refine ⟨_, rfl, ?_⟩
  refine Moves.ite ?_ ?_
  · exact ((Moves.sub (F := 0x800000080000000010) (State.wr_moves ..) (Moves.at 7 rfl)).step (State.irq_moves ..) (Moves.at 7 rfl))
  · exact Moves.refl


theorem Moves.set_3 {F : Nat} {s x : State} {f3 : SMap ℕ} (h : Moves F s x) (sub : 0x8 &&& F = 0x8 := by rfl) :
    Moves F s { x with ecc := f3 } :=
  h.step (G := 0x8) ⟨id, Nat.le_refl _, fun p hp => by cases p <;> first | rfl | exact absurd hp (by decide), fun _ _ _ => rfl⟩ sub

theorem State.scrubWordAt_moves (s : State) (die a : ℕ) :
    Moves 0x200c00000080000000218 s (State.scrubWordAt s die a) := by
  unfold State.scrubWordAt
  extract_lets +onlyGivenNames v0
  extract_lets +onlyGivenNames s1
  have hs1 : Moves 0x200c00000080000000218 s s1 := (Moves.sub (State.noteEcc_moves ..))
  clear_value s1
  refine Moves.ite ?_ ?_
  · exact (Moves.set_3 hs1)
  · exact hs1


theorem State.scrubNext_moves (s : State) (die : ℕ) :
    Moves 0x200c000000a0000000218 s (State.scrubNext s die) := by
  unfold State.scrubNext
  extract_lets +onlyGivenNames v0
  extract_lets +onlyGivenNames v1
  extract_lets +onlyGivenNames v2
  split
  · exact Moves.refl
  · extract_lets +onlyGivenNames s3
    have hs3 : Moves 0x200c000000a0000000218 s s3 := by
      unfold s3
      split
      · exact (Moves.sub (State.scrubWordAt_moves ..))
      · exact Moves.refl
    clear_value s3
    extract_lets +onlyGivenNames v4
    extract_lets +onlyGivenNames s5
    have hs5 : Moves 0x200c000000a0000000218 s s5 := (hs3.step (State.setEng_moves ..))
    clear_value s5
    refine Moves.ite ?_ ?_
    · exact ((hs5.step (State.setEng_moves ..)).step (State.incWrap_moves ..) (Moves.at 7 rfl))
    · exact hs5


theorem execScrubRead_moves (die : ℕ) (s : State) :
    ∃ t, execScrubRead die s = .next t ∧ Moves 0x200c000000a0000000218 s t := by
  unfold execScrubRead
  refine ⟨_, rfl, ?_⟩
  refine Moves.ite ?_ ?_
  · exact (Moves.sub (State.scrubNext_moves ..))
  · exact Moves.refl


theorem dmaWords_moves (die desc : ℕ) (fill : Bool) (src dst a5 a6 a7 : ℕ) (a8 : State) :
    Moves 0x2a0e0000008000000323c a8 (dmaWords die desc fill src dst a5 a6 a7 a8).1 := by
  induction a5 generalizing a6 a7 a8 with
  | zero => exact Moves.refl
  | succ n ih =>
    unfold dmaWords
    split
    · exact Moves.refl
    · extract_lets +onlyGivenNames r
      have hr : Moves 0x2a0e0000008000000323c a8 r.1 := Moves.ite1 Moves.refl (Moves.sub (State.memRead_moves ..))
      clear_value r
      split
      · exact Moves.refl
      · exact hr
      · extract_lets +onlyGivenNames r1
        have hr1 : Moves 0x2a0e0000008000000323c a8 r1 := Moves.ite (hr.step (State.noteRequest_moves ..)) hr
        clear_value r1
        extract_lets +onlyGivenNames w
        have hw : Moves 0x2a0e0000008000000323c a8 w.1 := hr1.step (State.memWrite_moves ..)
        clear_value w
        split
        · exact Moves.refl
        · exact hw
        · exact (Moves.ite (hw.step (State.noteRequest_moves ..)) hw).trans (ih ..)


theorem dmaFetch_moves (s : State) (die d : ℕ) :
    Moves 0x200c00000080000000210 s (dmaFetch s die d).1 := by
  unfold dmaFetch
  dsimp -zeta only
  exact (Moves.foldl (fun _ _ => (Moves.sub (State.noteEcc_moves ..))) Moves.refl)


theorem dmaChain_moves (die a1 a2 a3 : ℕ) (a4 : State) :
    Moves 0x2a0e0000008000000323c a4 (dmaChain die a1 a2 a3 a4).1 := by
  induction a1 generalizing a2 a3 a4 with
  | zero => exact Moves.refl
  | succ n ih =>
    unfold dmaChain
    extract_lets +onlyGivenNames w n fill got
    have hg : Moves 0x2a0e0000008000000323c a4 got.1 := Moves.sub (dmaFetch_moves ..)
    clear_value got
    refine Moves.ite1 Moves.refl (Moves.ite1 Moves.refl (Moves.ite1 Moves.refl (Moves.ite1 Moves.refl (Moves.ite1 hg (Moves.ite1 hg ?_)))))
    extract_lets +onlyGivenNames r
    have hr : Moves 0x2a0e0000008000000323c a4 r.1 := hg.step (dmaWords_moves ..)
    clear_value r
    split
    · exact hr
    · exact Moves.ite1 hr (hr.trans (ih ..))


theorem State.dmaRowStart_moves (s : State) (die entry : ℕ) :
    Moves 0x800000080000000010 s (State.dmaRowStart s die entry) := by
  unfold State.dmaRowStart
  exact ((Moves.sub (F := 0x800000080000000010) (State.wr_moves ..) (Moves.at 7 rfl)).step (State.wr_moves ..) (Moves.at 7 rfl))


theorem State.dmaResume_moves (s : State) (die code desc : ℕ) :
    Moves 0x800000080000000010 s (State.dmaResume s die code desc) := by
  unfold State.dmaResume
  split
  · exact ((Moves.sub (F := 0x800000080000000010) (State.wr_moves ..) (Moves.at 7 rfl)).step (State.wr_moves ..) (Moves.at 7 rfl))
  · exact ((Moves.sub (F := 0x800000080000000010) (State.wr_moves ..) (Moves.at 7 rfl)).step (State.wr_moves ..) (Moves.at 7 rfl))


theorem State.dmaStopped_moves (s : State) (die code desc : ℕ) :
    Moves 0x800000080000000010 s (State.dmaStopped s die code desc) := by
  unfold State.dmaStopped
  exact ((Moves.sub (State.dmaResume_moves ..)).step (State.irq_moves ..) (Moves.at 7 rfl))


theorem State.endDmaRow_moves (s : State) (die entry : ℕ) :
    Moves 0x1000002ace0000808008057323c s (State.endDmaRow s die entry) := by
  unfold State.endDmaRow
  extract_lets +onlyGivenNames r0
  have hr0 : Moves 0x1000002ace0000808008057323c s r0.1 := (Moves.sub (dmaChain_moves ..))
  clear_value r0
  split
  · exact ((hr0.step (State.workDone_moves ..)).step (State.dmaResume_moves ..))
  · exact ((hr0.step (State.cutOff_moves ..)).step (State.dmaStopped_moves ..))
  · exact (Moves.sub (State.holdRequest_moves ..))
  · exact Moves.refl


theorem State.endDmaGo_moves (s : State) (die d : ℕ) :
    Moves 0x2a0e000000a000000323c s (State.endDmaGo s die d) := by
  unfold State.endDmaGo
  extract_lets +onlyGivenNames r0
  have hr0 : Moves 0x2a0e000000a000000323c s r0.1 := (Moves.sub (dmaChain_moves ..))
  clear_value r0
  extract_lets +onlyGivenNames f1
  have hf1 : ∀ y2, Moves 0x2a0e000000a000000323c y2 (f1 y2) := by
    intro y2
    exact (Moves.sub (State.setEng_moves ..))
  clear_value f1
  split
  · exact ((hr0.trans (hf1 ..)).step (State.dmaResume_moves ..))
  · exact ((hr0.trans (hf1 ..)).step (State.dmaStopped_moves ..))
  · exact (Moves.sub (State.holdRequest_moves ..))
  · exact Moves.refl


theorem State.cutDmaRow_moves (s : State) (die entry : ℕ) :
    Moves 0x1000002ace0000808008047323c s (State.cutDmaRow s die entry) := by
  unfold State.cutDmaRow
  split
  rename_i u0 hq1
  have hd2 := Moves.snd (F := 0x1000002ace0000808008047323c) (s := s) hq1 (Moves.sub (State.drawFree_moves ..))
  extract_lets +onlyGivenNames r3
  have hr3 : Moves 0x1000002ace0000808008047323c s r3.1 := (hd2.step (dmaChain_moves ..))
  clear_value r3
  exact ((hr3.step (State.cutOff_moves ..)).step (State.dmaResume_moves ..))


theorem dmaGoWrite_moves (die : ℕ) (s : State) (v : ℕ) :
    Moves 0x8000000a0000000010 s (dmaGoWrite die s v) := by
  unfold dmaGoWrite
  refine Moves.ite ?_ ?_
  · exact Moves.refl
  · exact (((Moves.sub (F := 0x8000000a0000000010) (State.wr_moves ..) (Moves.at 7 rfl)).step (State.wr_moves ..) (Moves.at 7 rfl)).step (State.setEng_moves ..))


theorem execDmaGo_moves (w : Who) (die word : ℕ) (s : State) :
    ∃ t, execDmaGo w die word s = .next t ∧ Moves 0x210f000000a0000000350 s t := by
  unfold execDmaGo
  refine ⟨_, rfl, ?_⟩
  refine Moves.ite ?_ ?_
  · exact (Moves.sub (writeThen_moves (F := 0x8000000a0000000010) (h_effect := fun _ _ => (Moves.sub (dmaGoWrite_moves ..))) ..))
  · exact Moves.refl


theorem execDmaChainEnd_moves (die : ℕ) (s : State) :
    ∃ t, execDmaChainEnd die s = .next t ∧ Moves 0x1000002ace000080a008057323c s t := by
  unfold execDmaChainEnd
  refine ⟨_, rfl, ?_⟩
  split
  · refine Moves.ite ?_ ?_
    · refine Moves.ite ?_ ?_
      · exact Moves.refl
      · exact (Moves.sub (State.endDmaRow_moves ..))
    · split
      · exact (Moves.sub (State.endDmaGo_moves ..))
      · exact Moves.refl
  · split
    · exact (Moves.sub (State.endDmaGo_moves ..))
    · exact Moves.refl


theorem State.openLoan_moves (s : State) (die w : ℕ) :
    Moves 0x10000000a0000000010 s (State.openLoan s die w) := by
  unfold State.openLoan
  extract_lets +onlyGivenNames v0
  extract_lets +onlyGivenNames v1
  extract_lets +onlyGivenNames v2
  extract_lets +onlyGivenNames s3
  have hs3 : Moves 0x10000000a0000000010 s s3 := (Moves.sub (State.setEng_moves ..))
  clear_value s3
  exact (hs3.step (State.wr_moves ..) (Moves.at 8 rfl))


theorem State.loseBank_moves (s : State) (die bank : ℕ) :
    Moves 0x8000000022c s (State.loseBank s die bank) := by
  unfold State.loseBank
  extract_lets +onlyGivenNames v0
  extract_lets +onlyGivenNames f1
  have hf1 : ∀ y2 y3, Moves 0x8000000022c y2 (f1 y2 y3) := by
    intro y2 y3
    unfold f1
    split
    · exact ((Moves.sub (State.drawFree_moves ..)).step (State.fillMem_moves ..))
    · exact Moves.refl
  clear_value f1
  exact ((Moves.foldl (fun _ _ => (hf1 ..)) Moves.refl).step (State.rereadRings_moves ..))


theorem State.beginMarch_moves (s : State) (die mode : ℕ) :
    Moves 0x10000000a000000023c s (State.beginMarch s die mode) := by
  unfold State.beginMarch
  extract_lets +onlyGivenNames v0
  extract_lets +onlyGivenNames s1
  have hs1 : Moves 0x10000000a000000023c s s1 := (Moves.sub (State.wr_moves ..) (Moves.at 8 rfl))
  clear_value s1
  extract_lets +onlyGivenNames v2
  extract_lets +onlyGivenNames s3
  have hs3 : Moves 0x10000000a000000023c s s3 := ((hs1.step (State.setEng_moves ..)).step (State.openLoan_moves ..))
  clear_value s3
  refine Moves.ite ?_ ?_
  · exact (hs3.step (State.loseBank_moves ..))
  · exact hs3


theorem State.startMarch_moves (s : State) (die : ℕ) :
    Moves 0x10000000a000000023c s (State.startMarch s die) := by
  unfold State.startMarch
  extract_lets +onlyGivenNames v0
  extract_lets +onlyGivenNames s1
  have hs1 : Moves 0x10000000a000000023c s s1 := ((Moves.sub (F := 0x10000000a000000023c) (State.wr_moves ..) (Moves.at 8 rfl)).step (State.setEng_moves ..))
  clear_value s1
  exact (hs1.step (State.beginMarch_moves ..))


theorem State.stopMarch_moves (s : State) (die : ℕ) :
    Moves 0x10000000a000000023c s (State.stopMarch s die) := by
  unfold State.stopMarch
  refine Moves.ite ?_ ?_
  · extract_lets +onlyGivenNames s0
    have hs0 : Moves 0x10000000a000000023c s s0 := by
      refine Moves.ite ?_ ?_
      · exact (Moves.sub (State.loseBank_moves ..))
      · exact Moves.refl
    clear_value s0
    extract_lets +onlyGivenNames v1
    extract_lets +onlyGivenNames s2
    have hs2 : Moves 0x10000000a000000023c s s2 := (hs0.step (State.setEng_moves ..))
    clear_value s2
    refine Moves.ite ?_ ?_
    · exact (hs2.step (State.wr_moves ..) (Moves.at 8 rfl))
    · exact hs2
  · exact Moves.refl


theorem State.restoreLoan_moves (s : State) (die bank w n : ℕ) :
    Moves 0x200c00000080000000218 s (State.restoreLoan s die bank w n) := by
  unfold State.restoreLoan
  refine Moves.foldl (fun t0 x1 => ?_) ?_
  · split
    · extract_lets +onlyGivenNames v2
      extract_lets +onlyGivenNames s3
      have hs3 : Moves 0x200c00000080000000218 t0 s3 := (Moves.sub (State.noteEcc_moves ..))
      clear_value s3
      refine Moves.ite ?_ ?_
      · exact (Moves.set_3 hs3)
      · exact hs3
    · exact Moves.refl
  · exact Moves.refl


theorem State.marchFault_moves (s : State) (die bank word bit : ℕ) (lost : Bool) :
    Moves 0x201c000000a0000000218 s (State.marchFault s die bank word bit lost) := by
  unfold State.marchFault
  split
  extract_lets +onlyGivenNames s0
  have hs0 : Moves 0x201c000000a0000000218 s s0 := (((Moves.sub (F := 0x201c000000a0000000218) (State.wr_moves ..) (Moves.at 8 rfl)).step (State.wr_moves ..) (Moves.at 8 rfl)).step (State.wr_moves ..) (Moves.at 8 rfl))
  clear_value s0
  extract_lets +onlyGivenNames s1
  have hs1 : Moves 0x201c000000a0000000218 s s1 := (((hs0.step (State.wr_moves ..) (Moves.at 8 rfl)).step (State.wr_moves ..) (Moves.at 8 rfl)).step (State.wrB_moves ..) (Moves.at 8 rfl))
  clear_value s1
  extract_lets +onlyGivenNames s2
  have hs2 : Moves 0x201c000000a0000000218 s s2 := (((hs1.step (State.wr_moves ..) (Moves.at 8 rfl)).step (State.inc_moves ..) (Moves.at 8 rfl)).step (State.irq_moves ..) (Moves.at 8 rfl))
  clear_value s2
  extract_lets +onlyGivenNames s3
  have hs3 : Moves 0x201c000000a0000000218 s s3 := ((hs2.step (State.archive_moves ..)).step (State.wr_moves ..) (Moves.at 8 rfl))
  clear_value s3
  extract_lets +onlyGivenNames v4
  extract_lets +onlyGivenNames s5
  have hs5 : Moves 0x201c000000a0000000218 s s5 := (hs3.step (State.setEng_moves ..))
  clear_value s5
  split
  · exact ((Moves.set_3 hs5).step (State.noteEcc_moves ..))
  · exact hs5


theorem marchCtl_moves (die : ℕ) (s : State) (v : ℕ) :
    Moves 0x10000000a000000023c s (marchCtl die s v) := by
  unfold marchCtl
  extract_lets +onlyGivenNames s0
  have hs0 : Moves 0x10000000a000000023c s s0 := by
    refine Moves.ite ?_ ?_
    · exact (Moves.sub (State.stopMarch_moves ..))
    · exact Moves.refl
  clear_value s0
  refine Moves.ite ?_ ?_
  · exact (hs0.step (State.startMarch_moves ..))
  · exact hs0


theorem execMarchStart_moves (w : Who) (die word : ℕ) (s : State) :
    ∃ t, execMarchStart w die word s = .next t ∧ Moves 0x211f000000a000000037c s t := by
  unfold execMarchStart
  refine ⟨_, rfl, ?_⟩
  refine Moves.ite ?_ ?_
  · exact (Moves.sub (writeThen_moves (F := 0x10000000a000000023c) (h_effect := fun _ _ => (Moves.sub (marchCtl_moves ..))) ..))
  · exact Moves.refl


theorem execMarchStop_moves (w : Who) (die word : ℕ) (s : State) :
    ∃ t, execMarchStop w die word s = .next t ∧ Moves 0x211f000000a000000037c s t := by
  unfold execMarchStop
  refine ⟨_, rfl, ?_⟩
  refine Moves.ite ?_ ?_
  · exact (Moves.sub (writeThen_moves (F := 0x10000000a000000023c) (h_effect := fun _ _ => (Moves.sub (marchCtl_moves ..))) ..))
  · exact Moves.refl


theorem execLoanEnd_moves (die : ℕ) (fault : Bool) (word bit : ℕ) (lost : Bool) (s : State) :
    ∃ t, execLoanEnd die fault word bit lost s = .next t ∧ Moves 0x201c000000a0000000218 s t := by
  unfold execLoanEnd
  refine ⟨_, rfl, ?_⟩
  refine Moves.ite ?_ ?_
  · exact Moves.refl
  · refine Moves.ite ?_ ?_
    · refine Moves.ite ?_ ?_
      · exact (Moves.sub (State.marchFault_moves ..))
      · exact Moves.refl
    · refine Moves.ite ?_ ?_
      · extract_lets +onlyGivenNames v0
        extract_lets +onlyGivenNames v1
        exact (((Moves.sub (State.restoreLoan_moves ..)).step (State.incWrap_moves ..) (Moves.at 8 rfl)).step (State.openLoan_moves ..))
      · exact Moves.refl


theorem execLoanAbort_moves (die : ℕ) (s : State) :
    ∃ t, execLoanAbort die s = .next t ∧ Moves 0x10000000a0000000010 s t := by
  unfold execLoanAbort
  refine ⟨_, rfl, ?_⟩
  refine Moves.ite ?_ ?_
  · extract_lets +onlyGivenNames s0
    have hs0 : Moves 0x10000000a0000000010 s s0 := (Moves.sub (State.inc_moves ..) (Moves.at 8 rfl))
    clear_value s0
    extract_lets +onlyGivenNames v1
    refine Moves.ite ?_ ?_
    · exact ((hs0.step (State.inc_moves ..) (Moves.at 8 rfl)).step (State.openLoan_moves ..))
    · exact (hs0.step (State.setEng_moves ..))
  · exact Moves.refl


theorem endDestructive_moves (s : State) (die : ℕ) (fault : Bool) (word bit : ℕ) :
    Moves 0x201c000000a000000023c s (endDestructive s die fault word bit) := by
  unfold endDestructive
  extract_lets +onlyGivenNames v0
  split
  rename_i u1 hq2
  have hd3 := Moves.snd (F := 0x201c000000a000000023c) (s := s) hq2 (Moves.sub (State.drawFree_moves ..))
  extract_lets +onlyGivenNames s4
  have hs4 : Moves 0x201c000000a000000023c s s4 := ((hd3.step (State.fillMem_moves ..)).step (State.rereadRings_moves ..))
  clear_value s4
  refine Moves.ite ?_ ?_
  · split
    rename_i u5 hq6
    have hd7 := Moves.snd (F := 0x201c000000a000000023c) (s := s) hq6 (hs4.step (State.drawFree_moves ..))
    exact (hd7.step (State.marchFault_moves ..))
  · exact hs4


theorem execMarchDone_moves (die : ℕ) (fault : Bool) (word bit : ℕ) (s : State) :
    ∃ t, execMarchDone die fault word bit s = .next t ∧ Moves 0x201c000000a000000023c s t := by
  unfold execMarchDone
  refine ⟨_, rfl, ?_⟩
  refine Moves.ite ?_ ?_
  · extract_lets +onlyGivenNames s0
    have hs0 : Moves 0x201c000000a000000023c s s0 := by
      refine Moves.ite ?_ ?_
      · exact (Moves.sub (endDestructive_moves ..))
      · exact Moves.refl
    clear_value s0
    extract_lets +onlyGivenNames v1
    extract_lets +onlyGivenNames s2
    have hs2 : Moves 0x201c000000a000000023c s s2 := ((hs0.step (State.wr_moves ..) (Moves.at 8 rfl)).step (State.irq_moves ..) (Moves.at 8 rfl))
    clear_value s2
    extract_lets +onlyGivenNames v3
    extract_lets +onlyGivenNames s4
    have hs4 : Moves 0x201c000000a000000023c s s4 := (hs2.step (State.setEng_moves ..))
    clear_value s4
    refine Moves.ite ?_ ?_
    · exact ((hs4.step (State.wr_moves ..) (Moves.at 8 rfl)).step (State.beginMarch_moves ..))
    · exact hs4
  · exact Moves.refl


theorem State.showSpares_moves (s : State) (die bank sub : ℕ) :
    Moves 0x1000000080000000010 s (State.showSpares s die bank sub) := by
  unfold State.showSpares
  exact ((Moves.sub (F := 0x1000000080000000010) (State.wr_moves ..) (Moves.at 8 rfl)).step (State.wr_moves ..) (Moves.at 8 rfl))


theorem marchRepair_moves (die : ℕ) (s : State) (v : ℕ) :
    Moves 0x10000000a0000000010 s (marchRepair die s v) := by
  unfold marchRepair
  refine Moves.ite ?_ ?_
  · exact Moves.refl
  · extract_lets +onlyGivenNames v0
    extract_lets +onlyGivenNames v1
    extract_lets +onlyGivenNames s2
    have hs2 : Moves 0x10000000a0000000010 s s2 := (Moves.sub (State.showSpares_moves ..))
    clear_value s2
    split
    · exact (((hs2.step (State.wr_moves ..) (Moves.at 8 rfl)).step (State.wr_moves ..) (Moves.at 8 rfl)).step (State.setEng_moves ..))
    · exact (((hs2.step (State.wr_moves ..) (Moves.at 8 rfl)).step (State.wr_moves ..) (Moves.at 8 rfl)).step (State.irq_moves ..) (Moves.at 8 rfl))


theorem execMarchRepair_moves (w : Who) (die word : ℕ) (s : State) :
    ∃ t, execMarchRepair w die word s = .next t ∧ Moves 0x211f000000a0000000350 s t := by
  unfold execMarchRepair
  refine ⟨_, rfl, ?_⟩
  refine Moves.ite ?_ ?_
  · exact (Moves.sub (writeThen_moves (F := 0x10000000a0000000010) (h_effect := fun _ _ => (Moves.sub (marchRepair_moves ..))) ..))
  · exact Moves.refl


theorem execRepairDone_moves (die : ℕ) (written : Bool) (s : State) :
    ∃ t, execRepairDone die written s = .next t ∧ Moves 0x810000000a0000000038 s t := by
  unfold execRepairDone
  refine ⟨_, rfl, ?_⟩
  split
  · extract_lets +onlyGivenNames v0
    extract_lets +onlyGivenNames v1
    extract_lets +onlyGivenNames v2
    extract_lets +onlyGivenNames s3
    have hs3 : Moves 0x810000000a0000000038 s s3 := ((Moves.sub (State.setEng_moves ..)).step (State.wr_moves ..) (Moves.at 8 rfl))
    clear_value s3
    extract_lets +onlyGivenNames s4
    have hs4 : Moves 0x810000000a0000000038 s s4 := by
      refine Moves.ite ?_ ?_
      · exact (hs3.step (State.twinWrite_moves ..))
      · exact ((hs3.step (State.setEng_moves ..)).step (State.wr_moves ..) (Moves.at 8 rfl))
    clear_value s4
    exact ((hs4.step (State.showSpares_moves ..)).step (State.irq_moves ..) (Moves.at 8 rfl))
  · exact Moves.refl


theorem State.writeInventory_moves (s : State) (f : ℕ → DieEntry) :
    Moves 0x80000000080000000038 s (State.writeInventory s f) := by
  unfold State.writeInventory
  exact (Moves.sub (State.twinWrite_moves ..))


theorem State.setRoles_moves (s : State) (l : List (ℕ × ℕ × ℕ)) (cut : optParam Bool false) :
    Moves 0x80008080000000080000000038 s (State.setRoles s l cut) := by
  unfold State.setRoles
  refine Moves.ite ?_ ?_
  · exact Moves.refl
  · extract_lets +onlyGivenNames s0
    have hs0 : Moves 0x80008080000000080000000038 s s0 := (Moves.sub (State.writeInventory_moves ..))
    clear_value s0
    extract_lets +onlyGivenNames v1
    exact (((hs0.step (State.wr_moves ..) (Moves.at 23 rfl)).step (State.irq_moves ..) (Moves.at 23 rfl)).step (State.hotLost_moves ..))


theorem Moves.set_42_43 {F : Nat} {s x : State} {f42 : ℕ} {f43 : SMap ℕ} (h : Moves F s x) (sub : 0xc0000000000 &&& F = 0xc0000000000 := by rfl) :
    Moves F s { x with tracked := f42, dirty := f43 } :=
  h.step (G := 0xc0000000000) ⟨id, Nat.le_refl _, fun p hp => by cases p <;> first | rfl | exact absurd hp (by decide), fun _ _ _ => rfl⟩ sub

theorem State.untrack_moves (s : State) (d : ℕ) :
    Moves 0xc0000000000 s (State.untrack s d) := by
  unfold State.untrack
  exact (Moves.set_42_43 Moves.refl)


theorem Moves.set_44 {F : Nat} {s x : State} {f44 : Shunt} (h : Moves F s x) (sub : 0x100000000000 &&& F = 0x100000000000 := by rfl) :
    Moves F s { x with shunt := f44 } :=
  h.step (G := 0x100000000000) ⟨id, Nat.le_refl _, fun p hp => by cases p <;> first | rfl | exact absurd hp (by decide), fun _ _ _ => rfl⟩ sub

theorem State.abandonShunt_moves (s : State) (code : ℕ) :
    Moves 0x10000000001c0000000010 s (State.abandonShunt s code) := by
  unfold State.abandonShunt
  refine Moves.ite ?_ ?_
  · extract_lets +onlyGivenNames s0
    have hs0 : Moves 0x10000000001c0000000010 s s0 := (Moves.sub (State.untrack_moves ..))
    clear_value s0
    extract_lets +onlyGivenNames v1
    extract_lets +onlyGivenNames s2
    have hs2 : Moves 0x10000000001c0000000010 s s2 := (Moves.set_44 hs0)
    clear_value s2
    exact (((hs2.step (State.wr_moves ..) (Moves.at 20 rfl)).step (State.wr_moves ..) (Moves.at 20 rfl)).step (State.irq_moves ..) (Moves.at 20 rfl))
  · exact Moves.refl


theorem State.failDie_moves (s : State) (d : ℕ) :
    Moves 0x80008080000000080000000038 s (State.failDie s d) := by
  unfold State.failDie
  exact (((Moves.sub (F := 0x80008080000000080000000038) (State.setBits_moves ..) (Moves.at 23 rfl)).step (State.irq_moves ..) (Moves.at 23 rfl)).step (State.setRoles_moves ..))


theorem State.shuntLoses_moves (s : State) (d : ℕ) :
    Moves 0x800090800000001c0000000038 s (State.shuntLoses s d) := by
  unfold State.shuntLoses
  refine Moves.ite ?_ ?_
  · exact Moves.refl
  · refine Moves.ite ?_ ?_
    · exact (Moves.sub (State.abandonShunt_moves ..))
    · refine Moves.ite ?_ ?_
      · extract_lets +onlyGivenNames s0
        have hs0 : Moves 0x800090800000001c0000000038 s s0 := (Moves.sub (State.abandonShunt_moves ..))
        clear_value s0
        refine Moves.ite ?_ ?_
        · exact (hs0.step (State.failDie_moves ..))
        · exact hs0
      · exact Moves.refl


theorem State.clearDie_moves (s : State) (d : ℕ) :
    Moves 0xffffffffffffffff00000a007fde7af8 s (State.clearDie s d) := by
  unfold State.clearDie
  extract_lets +onlyGivenNames other c0 s1
  have hs1 : Moves 0xffffffffffffffff00000a007fde7af8 s s1 := by
    clear_value c0
    refine ⟨fun h => ⟨h.1, SMap.sorted_filter _ h.2⟩, Nat.le_refl _, fun p hp => ?_, fun _ k hk => Moves.noPage k hk⟩
    cases p <;> first | rfl | exact absurd hp (by decide)
  clear_value s1
  extract_lets +onlyGivenNames s2
  have hs2 : Moves 0xffffffffffffffff00000a007fde7af8 s s2 := Moves.foldl (fun _ _ => Moves.foldl (fun _ _ => (Moves.sub (State.setCredits_moves ..))) Moves.refl) hs1
  clear_value s2
  exact (hs2.step (State.clearMem_moves ..))


theorem State.powerUp_moves (s : State) (d : ℕ) :
    Moves 0x80 s (State.powerUp s d) := by
  unfold State.powerUp
  exact (Moves.set_7 Moves.refl)


theorem State.resetDie_moves (s : State) (d cause : ℕ) :
    Moves 0xffffffffffffffff00000a017fde7bf8 s (State.resetDie s d cause) := by
  unfold State.resetDie
  extract_lets +onlyGivenNames s0
  have hs0 : Moves 0xffffffffffffffff00000a017fde7bf8 s s0 := (((Moves.sub (State.raiseFence_moves ..)).step (State.disturbPart_moves ..)).step (State.clearDie_moves ..))
  clear_value s0
  exact ((((hs0.step (State.wr_moves ..) (Moves.at 3 rfl)).step (State.wr_moves ..) (Moves.at 1 rfl)).step (State.wr_moves ..) (Moves.at 5 rfl)).step (State.powerUp_moves ..))


theorem State.dieOff_moves (s : State) (d : ℕ) :
    Moves 0xffffffffffffffff00000a017fde7bf8 s (State.dieOff s d) := by
  unfold State.dieOff
  extract_lets +onlyGivenNames s0
  have hs0 : Moves 0xffffffffffffffff00000a017fde7bf8 s s0 := (Moves.sub (State.clearBits_moves ..) (Moves.at 2 rfl))
  clear_value s0
  refine Moves.ite ?_ ?_
  · extract_lets +onlyGivenNames s1
    have hs1 : Moves 0xffffffffffffffff00000a017fde7bf8 s s1 := (((hs0.step (State.raiseFence_moves ..)).step (State.disturbPart_moves ..)).step (State.clearDie_moves ..))
    clear_value s1
    extract_lets +onlyGivenNames s2
    have hs2 : Moves 0xffffffffffffffff00000a017fde7bf8 s s2 := ((hs1.step (State.clearBits_moves ..) (Moves.at 2 rfl)).step (State.clearBits_moves ..) (Moves.at 2 rfl))
    clear_value s2
    exact ((hs2.step (State.wr_moves ..) (Moves.at 2 rfl)).step (State.wr_moves ..) (Moves.at 5 rfl))
  · exact hs0


theorem State.dieOn_moves (s : State) (d : ℕ) :
    Moves 0xffffffffffffffff00000a017fde7bf8 s (State.dieOn s d) := by
  unfold State.dieOn
  extract_lets +onlyGivenNames s0
  have hs0 : Moves 0xffffffffffffffff00000a017fde7bf8 s s0 := (Moves.sub (State.setBits_moves ..) (Moves.at 2 rfl))
  clear_value s0
  refine Moves.ite ?_ ?_
  · exact ((hs0.step (State.resetDie_moves ..)).step (State.setBits_moves ..) (Moves.at 2 rfl))
  · exact hs0


theorem State.retainDie_moves (s : State) (d : ℕ) (b : Bool) :
    Moves 0x840000080000000010 s (State.retainDie s d b) := by
  unfold State.retainDie
  refine Moves.ite ?_ ?_
  · exact Moves.refl
  · extract_lets +onlyGivenNames s0
    have hs0 : Moves 0x840000080000000010 s s0 := by
      refine Moves.ite ?_ ?_
      · exact (Moves.sub (State.setBits_moves ..) (Moves.at 2 rfl))
      · exact (Moves.sub (State.clearBits_moves ..) (Moves.at 2 rfl))
    clear_value s0
    extract_lets +onlyGivenNames s1
    have hs1 : Moves 0x840000080000000010 s s1 := ((hs0.step (State.wrB_moves ..) (Moves.at 2 rfl)).step (State.wrB_moves ..) (Moves.at 2 rfl))
    clear_value s1
    refine Moves.foldl (fun t2 x3 => ?_) ?_
    · refine Moves.ite ?_ ?_
      · exact Moves.refl
      · exact (Moves.sub (State.wr_moves ..) (Moves.at 7 rfl))
    · exact hs1


theorem State.swapAlias_moves (s : State) (a b : ℕ) :
    Moves 0x8000000000080000000010 s (State.swapAlias s a b) := by
  unfold State.swapAlias
  extract_lets +onlyGivenNames v0
  exact (Moves.sub (State.wr_moves ..) (Moves.at 23 rfl))


theorem State.moveWorkload_moves (s : State) (a b : ℕ) :
    Moves 0xffffffffffffffff0000090000000238 s (State.moveWorkload s a b) := by
  unfold State.moveWorkload
  extract_lets +onlyGivenNames s0
  have hs0 : Moves 0xffffffffffffffff0000090000000238 s s0 := (Moves.sub (State.swapAlias_moves ..))
  clear_value s0
  extract_lets +onlyGivenNames s1
  have hs1 : Moves 0xffffffffffffffff0000090000000238 s s1 := (Moves.foldl (fun _ _ => (Moves.sub (State.wr_moves ..) (Moves.at 25 rfl))) hs0)
  clear_value s1
  extract_lets +onlyGivenNames s2
  have hs2 : Moves 0xffffffffffffffff0000090000000238 s s2 := (Moves.foldl (fun _ _ => (Moves.sub (State.wr_moves ..) (Moves.at 40 rfl))) hs1)
  clear_value s2
  extract_lets +onlyGivenNames s3
  have hs3 : Moves 0xffffffffffffffff0000090000000238 s s3 := by
    refine Moves.foldl (fun t4 x5 => ?_) ?_
    · refine Moves.ite ?_ ?_
      · exact (Moves.sub (State.wr_moves ..) (Moves.at 41 rfl))
      · exact Moves.refl
    · exact hs2
  clear_value s3
  extract_lets +onlyGivenNames s6
  have hs6 : Moves 0xffffffffffffffff0000090000000238 s s6 := (hs3.step (State.wr_moves ..) (Moves.at 10 rfl))
  clear_value s6
  extract_lets +onlyGivenNames v7
  extract_lets +onlyGivenNames s8
  have hs8 : Moves 0xffffffffffffffff0000090000000238 s s8 := (Moves.set_40 hs6)
  clear_value s8
  exact (((hs8.step (State.remapRecord_moves ..)).step (State.returnTokens_moves ..)).step (State.showTables_moves ..))


theorem State.partRefuse_moves (s : State) (c : ℕ) :
    Moves 0x8000000000080000000010 s (State.partRefuse s c) := by
  unfold State.partRefuse
  exact (Moves.sub (State.wr_moves ..) (Moves.at 23 rfl))


theorem State.retireDie_moves (s : State) (d : ℕ) :
    Moves 0xffffffffffffffff00001e017fde7bf8 s (State.retireDie s d) := by
  unfold State.retireDie
  exact (((Moves.sub (State.setRoles_moves ..)).step (State.shuntLoses_moves ..)).step (State.dieOff_moves ..))


theorem State.returnDie_moves (s : State) (d : ℕ) :
    Moves 0xffffffffffffffff00001a017fde7bf8 s (State.returnDie s d) := by
  unfold State.returnDie
  extract_lets +onlyGivenNames s0
  have hs0 : Moves 0xffffffffffffffff00001a017fde7bf8 s s0 := (Moves.sub (State.dieOn_moves ..))
  clear_value s0
  exact (Moves.set_44 hs0)


theorem State.applyRoles_moves (s : State) :
    Moves 0xffffffffffffffff00000a017fde7bf8 s (State.applyRoles s) := by
  unfold State.applyRoles
  extract_lets +onlyGivenNames v0
  extract_lets +onlyGivenNames v1
  refine Moves.ite ?_ ?_
  · exact (Moves.sub (State.partRefuse_moves ..))
  · extract_lets +onlyGivenNames s2
    have hs2 : Moves 0xffffffffffffffff00000a017fde7bf8 s s2 := (Moves.sub (State.setRoles_moves ..))
    clear_value s2
    exact (Moves.foldl (fun _ _ => (Moves.sub (State.dieOn_moves ..))) hs2)


theorem State.replaceDie_moves (s : State) (a b : ℕ) (image : List Byte) :
    Moves 0xffffffffffffffff0000090101200238 s (State.replaceDie s a b image) := by
  unfold State.replaceDie
  refine Moves.ite ?_ ?_
  · extract_lets +onlyGivenNames v0
    extract_lets +onlyGivenNames v1
    extract_lets +onlyGivenNames s2
    have hs2 : Moves 0xffffffffffffffff0000090101200238 s s2 := (Moves.sub (State.setRoles_moves ..))
    clear_value s2
    extract_lets +onlyGivenNames s3
    have hs3 : Moves 0xffffffffffffffff0000090101200238 s s3 := (hs2.step (State.moveWorkload_moves ..))
    clear_value s3
    refine Moves.ite ?_ ?_
    · exact (Moves.foldl (fun _ _ => (Moves.sub (State.placeDies_moves ..))) hs3)
    · exact (hs3.step (State.failProgram_moves ..))
  · exact (Moves.sub (State.partRefuse_moves ..))


theorem State.partReq_moves (image : List Byte) (s : State) (v : ℕ) :
    Moves 0xffffffffffffffff00001f017ffe7bf8 s (State.partReq image s v) := by
  unfold State.partReq
  extract_lets +onlyGivenNames v0
  split
  · exact (Moves.sub (State.applyRoles_moves ..))
  · exact (Moves.sub (State.replaceDie_moves ..))
  · split
    · exact (Moves.sub (State.partRefuse_moves ..))
    · exact (Moves.sub (State.retireDie_moves ..))
  · split
    · exact (Moves.sub (State.partRefuse_moves ..))
    · exact (Moves.sub (State.returnDie_moves ..))
  · exact Moves.refl


theorem State.pwrSw_moves (pre s : State) (a2 : ℕ) :
    Moves 0xffffffffffffffff00001e017fde7bf8 s (State.pwrSw pre s a2) := by
  unfold State.pwrSw
  extract_lets +onlyGivenNames v0
  extract_lets +onlyGivenNames v1
  refine Moves.foldl (fun t2 x3 => ?_) ?_
  · refine Moves.ite ?_ ?_
    · exact (Moves.sub (State.dieOn_moves ..))
    · refine Moves.ite ?_ ?_
      · exact ((Moves.sub (State.shuntLoses_moves ..)).step (State.dieOff_moves ..))
      · exact Moves.refl
  · exact Moves.refl


theorem State.pwrRetain_moves (s : State) (a1 : ℕ) :
    Moves 0x840000080000000010 s (State.pwrRetain s a1) := by
  unfold State.pwrRetain
  exact (Moves.foldl (fun _ _ => (Moves.sub (State.retainDie_moves ..))) Moves.refl)


theorem State.dieResets_moves (s : State) (v : ℕ) :
    Moves 0xffffffffffffffff00001e017fde7bf8 s (State.dieResets s v) := by
  unfold State.dieResets
  extract_lets +onlyGivenNames s0
  have hs0 : Moves 0xffffffffffffffff00001e017fde7bf8 s s0 := (Moves.foldl (fun _ _ => ((Moves.sub (State.shuntLoses_moves ..)).step (State.resetDie_moves ..))) Moves.refl)
  clear_value s0
  exact (hs0.step (State.wr_moves ..) (Moves.at 3 rfl))


theorem execScanRailLoss_moves (die : ℕ) (s : State) :
    ∃ t, execScanRailLoss die s = .next t ∧ Moves 0xffffffffffffffff00001e017fdf7bf8 s t := by
  unfold execScanRailLoss
  refine ⟨_, rfl, ?_⟩
  refine Moves.ite ?_ ?_
  · extract_lets +onlyGivenNames v0
    extract_lets +onlyGivenNames s1
    have hs1 : Moves 0xffffffffffffffff00001e017fdf7bf8 s s1 := ((Moves.sub (F := 0xffffffffffffffff00001e017fdf7bf8) (State.clearBits_moves ..) (Moves.at 2 rfl)).step (State.clearBits_moves ..) (Moves.at 23 rfl))
    clear_value s1
    extract_lets +onlyGivenNames s2
    have hs2 : Moves 0xffffffffffffffff00001e017fdf7bf8 s s2 := ((hs1.step (State.irq_moves ..) (Moves.at 2 rfl)).step (State.archive_moves ..))
    clear_value s2
    extract_lets +onlyGivenNames s3
    have hs3 : Moves 0xffffffffffffffff00001e017fdf7bf8 s s3 := (((hs2.step (State.raiseFence_moves ..)).step (State.shuntLoses_moves ..)).step (State.dieOff_moves ..))
    clear_value s3
    extract_lets +onlyGivenNames v4
    extract_lets +onlyGivenNames s5
    have hs5 : Moves 0xffffffffffffffff00001e017fdf7bf8 s s5 := (Moves.set_44 hs3)
    clear_value s5
    refine Moves.ite ?_ ?_
    · extract_lets +onlyGivenNames s6
      have hs6 : Moves 0xffffffffffffffff00001e017fdf7bf8 s s6 := (hs5.step (State.failDie_moves ..))
      clear_value s6
      exact (Moves.set_16 hs6)
    · exact hs5
  · exact Moves.refl


theorem execScanRailReturn_moves (die : ℕ) (s : State) :
    ∃ t, execScanRailReturn die s = .next t ∧ Moves 0x40000080000000010 s t := by
  unfold execScanRailReturn
  refine ⟨_, rfl, ?_⟩
  refine Moves.ite ?_ ?_
  · exact ((Moves.sub (F := 0x40000080000000010) (State.setBits_moves ..) (Moves.at 2 rfl)).step (State.irq_moves ..) (Moves.at 2 rfl))
  · exact Moves.refl


theorem execHeaderSwitch_moves (w : Who) (word : ℕ) (s : State) :
    ∃ t, execHeaderSwitch w word s = .next t ∧ Moves 0xffffffffffffffff00001e017fde7bf8 s t := by
  unfold execHeaderSwitch
  refine ⟨_, rfl, ?_⟩
  exact (Moves.sub (writeWith_moves (F := 0xffffffffffffffff00001e017fde7bf8) (h_effect := fun _ _ _ => (Moves.sub (State.pwrSw_moves ..))) ..))


theorem execDieRetain_moves (w : Who) (word : ℕ) (s : State) :
    ∃ t, execDieRetain w word s = .next t ∧ Moves 0x210f40000080000000350 s t := by
  unfold execDieRetain
  refine ⟨_, rfl, ?_⟩
  exact (Moves.sub (writeThen_moves (F := 0x840000080000000010) (h_effect := fun _ _ => (Moves.sub (State.pwrRetain_moves ..))) ..))


theorem execDieReset_moves (w : Who) (word : ℕ) (s : State) :
    ∃ t, execDieReset w word s = .next t ∧ Moves 0xffffffffffffffff00001e017fde7bf8 s t := by
  unfold execDieReset
  refine ⟨_, rfl, ?_⟩
  exact (Moves.sub (writeThen_moves (F := 0xffffffffffffffff00001e017fde7bf8) (h_effect := fun _ _ => (Moves.sub (State.dieResets_moves ..))) ..))


theorem execPartApply_moves (w : Who) (s : State) :
    ∃ t, execPartApply w s = .next t ∧ Moves 0xffffffffffffffff00001f017ffe7bf8 s t := by
  unfold execPartApply
  refine ⟨_, rfl, ?_⟩
  exact (Moves.sub (writeThen_moves (F := 0xffffffffffffffff00001f017ffe7bf8) (h_effect := fun _ _ => (Moves.sub (State.partReq_moves ..))) ..))


theorem execPartReplace_moves (w : Who) (die dest : ℕ) (image : List Byte) (s : State) :
    ∃ t, execPartReplace w die dest image s = .next t ∧ Moves 0xffffffffffffffff00001f017ffe7bf8 s t := by
  unfold execPartReplace
  refine ⟨_, rfl, ?_⟩
  exact (Moves.sub (writeThen_moves (F := 0xffffffffffffffff00001f017ffe7bf8) (h_effect := fun _ _ => (Moves.sub (State.partReq_moves ..))) ..))


theorem execDieRetire_moves (s : State) :
    ∃ t, execDieRetire s = .next t ∧ Moves 0xffffffffffffffff00001ef17fde7ffc s t := by
  unfold execDieRetire
  refine ⟨_, rfl, ?_⟩
  exact (Moves.sub (State.authCommand_moves (F := 0xffffffffffffffff00001e017fde7bf8) (h_act := by
          intro z0 z1 z2
          split
          · refine Moves.stAuthDone ?_
            exact (Moves.sub (State.partRefuse_moves ..))
          · refine Moves.stAuthDone ?_
            exact (Moves.sub (State.retireDie_moves ..))) ..))


theorem execDieReturn_moves (s : State) :
    ∃ t, execDieReturn s = .next t ∧ Moves 0xffffffffffffffff00001af17fde7ffc s t := by
  unfold execDieReturn
  refine ⟨_, rfl, ?_⟩
  exact (Moves.sub (State.authCommand_moves (F := 0xffffffffffffffff00001a017fde7bf8) (h_act := by
          intro z0 z1 z2
          split
          · refine Moves.stAuthDone ?_
            exact (Moves.sub (State.partRefuse_moves ..))
          · refine Moves.stAuthDone ?_
            exact (Moves.sub (State.returnDie_moves ..))) ..))


theorem execReturnTestEnd_moves (die : ℕ) (good : Bool) (s : State) :
    ∃ t, execReturnTestEnd die good s = .next t ∧ Moves 0x8000808000000018000000003c s t := by
  unfold execReturnTestEnd
  refine ⟨_, rfl, ?_⟩
  refine Moves.ite ?_ ?_
  · extract_lets +onlyGivenNames v0
    extract_lets +onlyGivenNames s1
    have hs1 : Moves 0x8000808000000018000000003c s s1 := (Moves.set_44 Moves.refl)
    clear_value s1
    extract_lets +onlyGivenNames s2
    have hs2 : Moves 0x8000808000000018000000003c s s2 := by
      refine Moves.foldl (fun t3 x4 => ?_) ?_
      · split
        rename_i u5 hq6
        have hd7 := Moves.snd (F := 0x8000808000000018000000003c) (s := t3) hq6 (Moves.sub (State.drawFree_moves ..))
        exact (hd7.step (State.fillMem_moves ..))
      · exact hs1
    clear_value s2
    refine Moves.ite ?_ ?_
    · exact (hs2.step (State.partRefuse_moves ..))
    · refine Moves.ite ?_ ?_
      · exact (hs2.step (State.partRefuse_moves ..))
      · exact (hs2.step (State.setRoles_moves ..))
  · exact Moves.refl


theorem State.copyFields_moves (s : State) (src dst r : ℕ) :
    Moves 0xffffffffffffffff0000000000000010 s (State.copyFields s src dst r) := by
  refine ⟨fun h => ⟨h.1, SMap.sorted_foldl_insert _ _ _ (SMap.sorted_filter _ h.2)⟩, Nat.le_refl _, fun p hp => ?_, fun _ k hk => Moves.noPage k hk⟩
  cases p <;> first | rfl | exact absurd hp (by decide)


theorem Moves.set_25 {F : Nat} {s x : State} {f25 : SMap Timer} (h : Moves F s x) (sub : 0x2000000 &&& F = 0x2000000 := by rfl) :
    Moves F s { x with timers := f25 } :=
  h.step (G := 0x2000000) ⟨id, Nat.le_refl _, fun p hp => by cases p <;> first | rfl | exact absurd hp (by decide), fun _ _ _ => rfl⟩ sub

theorem Moves.set_26 {F : Nat} {s x : State} {f26 : SMap Counter} (h : Moves F s x) (sub : 0x4000000 &&& F = 0x4000000 := by rfl) :
    Moves F s { x with counters := f26 } :=
  h.step (G := 0x4000000) ⟨id, Nat.le_refl _, fun p hp => by cases p <;> first | rfl | exact absurd hp (by decide), fun _ _ _ => rfl⟩ sub

theorem State.copyRack_moves (s : State) (src dst r : ℕ) :
    Moves 0x6000000 s (State.copyRack s src dst r) := by
  unfold State.copyRack
  refine Moves.ite ?_ ?_
  · exact (Moves.set_25 Moves.refl)
  · refine Moves.ite ?_ ?_
    · exact (Moves.set_26 Moves.refl)
    · exact Moves.refl


theorem State.copyRegion_moves (s : State) (src dst r : ℕ) (handover : Bool) :
    Moves 0xffffffffffffffff0000080006000038 s (State.copyRegion s src dst r handover) := by
  unfold State.copyRegion
  extract_lets +onlyGivenNames s0
  have hs0 : Moves 0xffffffffffffffff0000080006000038 s s0 := (Moves.set_43 Moves.refl)
  clear_value s0
  split
  · refine Moves.ite ?_ ?_
    · exact (Moves.foldl (fun _ _ => (Moves.sub (State.copyMem_moves ..))) hs0)
    · exact (hs0.step (State.copyMem_moves ..))
  · exact ((hs0.step (State.copyRack_moves ..)).step (State.copyFields_moves ..))


theorem Moves.set_42_44 {F : Nat} {s x : State} {f42 : ℕ} {f44 : Shunt} (h : Moves F s x) (sub : 0x140000000000 &&& F = 0x140000000000 := by rfl) :
    Moves F s { x with tracked := f42, shunt := f44 } :=
  h.step (G := 0x140000000000) ⟨id, Nat.le_refl _, fun p hp => by cases p <;> first | rfl | exact absurd hp (by decide), fun _ _ _ => rfl⟩ sub

theorem State.startShunt_moves (s : State) (source target mode : ℕ) :
    Moves 0x10000000001c0000000010 s (State.startShunt s source target mode).1 := by
  unfold State.startShunt
  split
  · dsimp -zeta only
    exact (Moves.sub (State.wr_moves ..) (Moves.at 20 rfl))
  · extract_lets +onlyGivenNames s0
    have hs0 : Moves 0x10000000001c0000000010 s s0 := ((Moves.sub (F := 0x10000000001c0000000010) (State.wr_moves ..) (Moves.at 20 rfl)).step (State.wr_moves ..) (Moves.at 20 rfl))
    clear_value s0
    extract_lets +onlyGivenNames s1
    have hs1 : Moves 0x10000000001c0000000010 s s1 := ((hs0.step (State.wr_moves ..) (Moves.at 20 rfl)).step (State.wr_moves ..) (Moves.at 20 rfl))
    clear_value s1
    extract_lets +onlyGivenNames s2
    have hs2 : Moves 0x10000000001c0000000010 s s2 := (((hs1.step (State.wr_moves ..) (Moves.at 20 rfl)).step (State.wr_moves ..) (Moves.at 20 rfl)).step (State.incWrap_moves ..) (Moves.at 20 rfl))
    clear_value s2
    extract_lets +onlyGivenNames s3
    have hs3 : Moves 0x10000000001c0000000010 s s3 := (hs2.step (State.untrack_moves ..))
    clear_value s3
    dsimp -zeta only
    exact (Moves.set_42_44 hs3)


theorem State.shuntReq_moves (s : State) (v : ℕ) :
    Moves 0x10000000001c0000000010 s (State.shuntReq s v) := by
  unfold State.shuntReq
  extract_lets +onlyGivenNames v0
  extract_lets +onlyGivenNames s1
  have hs1 : Moves 0x10000000001c0000000010 s s1 := by
    refine Moves.ite ?_ ?_
    · exact (Moves.sub (State.abandonShunt_moves ..))
    · exact Moves.refl
  clear_value s1
  refine Moves.ite ?_ ?_
  · exact (hs1.step (State.startShunt_moves ..))
  · exact hs1


theorem State.precopyOne_moves (s : State) :
    Moves 0xffffffffffffffff0000180006000038 s (State.precopyOne s) := by
  unfold State.precopyOne
  split
  · extract_lets +onlyGivenNames s0
    have hs0 : Moves 0xffffffffffffffff0000180006000038 s s0 := (Moves.sub (State.copyRegion_moves ..))
    clear_value s0
    exact (Moves.set_44 hs0)
  · exact Moves.refl


theorem State.precopy_moves (s : State) :
    Moves 0xffffffffffffffff00001c0006000038 s (State.precopy s) := by
  unfold State.precopy
  extract_lets +onlyGivenNames v0
  refine Moves.ite ?_ ?_
  · exact (Moves.sub (State.shuntLoses_moves ..))
  · exact (Moves.foldl (fun _ _ => (Moves.sub (State.precopyOne_moves ..))) Moves.refl)


theorem State.quiesce_moves (s : State) (d : ℕ) :
    Moves 0x10000001a000000023c s (State.quiesce s d) := by
  unfold State.quiesce
  extract_lets +onlyGivenNames s0
  have hs0 : Moves 0x10000001a000000023c s s0 := (Moves.sub (State.stopMarch_moves ..))
  clear_value s0
  extract_lets +onlyGivenNames v1
  extract_lets +onlyGivenNames s2
  have hs2 : Moves 0x10000001a000000023c s s2 := (hs0.step (State.setEng_moves ..))
  clear_value s2
  extract_lets +onlyGivenNames v3
  extract_lets +onlyGivenNames s4
  have hs4 : Moves 0x10000001a000000023c s s4 := (Moves.set_44 hs2)
  clear_value s4
  exact hs4


theorem State.shuntDecision_moves (s : State) (d : ℕ) :
    Moves 0x10010000001e000002023c s (State.shuntDecision s d) := by
  unfold State.shuntDecision
  refine Moves.ite ?_ ?_
  · exact Moves.refl
  · refine Moves.ite ?_ ?_
    · extract_lets +onlyGivenNames s0
      have hs0 : Moves 0x10010000001e000002023c s s0 := ((Moves.sub (F := 0x10010000001e000002023c) (State.wr_moves ..) (Moves.at 20 rfl)).step (State.quiesce_moves ..))
      clear_value s0
      split
      · exact (hs0.step (State.setSlot_moves ..))
      · exact hs0
    · extract_lets +onlyGivenNames s1
      have hs1 : Moves 0x10010000001e000002023c s s1 := (Moves.sub (State.wr_moves ..) (Moves.at 20 rfl))
      clear_value s1
      refine Moves.ite ?_ ?_
      · exact (hs1.step (State.abandonShunt_moves ..))
      · exact hs1


theorem State.deltaFault_moves (s : State) :
    Moves 0x102c0000081c0000070010 s (State.deltaFault s) := by
  unfold State.deltaFault
  extract_lets +onlyGivenNames v0
  exact ((Moves.sub (State.abandonShunt_moves ..)).step (State.endRow_moves ..))


theorem State.deltaDone_moves (s : State) :
    Moves 0xffffffffffffffff0008180006170038 s (State.deltaDone s) := by
  unfold State.deltaDone
  extract_lets +onlyGivenNames v0
  extract_lets +onlyGivenNames v1
  extract_lets +onlyGivenNames v2
  extract_lets +onlyGivenNames v3
  extract_lets +onlyGivenNames s4
  have hs4 : Moves 0xffffffffffffffff0008180006170038 s s4 := (Moves.foldl (fun _ _ => (Moves.sub (State.copyRegion_moves ..))) Moves.refl)
  clear_value s4
  extract_lets +onlyGivenNames s5
  have hs5 : Moves 0xffffffffffffffff0008180006170038 s s5 := ((hs4.step (State.wr_moves ..) (Moves.at 20 rfl)).step (State.wr_moves ..) (Moves.at 20 rfl))
  clear_value s5
  exact ((Moves.set_44 hs5).step (State.workDone_moves ..))


theorem State.carryQueues_moves (s : State) (a b : ℕ) :
    Moves 0xffffffffffffffff0000080000000a10 s (State.carryQueues s a b) := by
  unfold State.carryQueues
  extract_lets +onlyGivenNames s0
  have hs0 : Moves 0xffffffffffffffff0000080000000a10 s s0 := Moves.foldl (fun _ _ => (Moves.sub (State.setRing_moves ..))) Moves.refl
  clear_value s0
  extract_lets +onlyGivenNames que mine s5
  have hs5 : Moves 0xffffffffffffffff0000080000000a10 s s5 := by
    refine hs0.trans ⟨fun h => ⟨h.1, SMap.sorted_foldl_insert _ _ _ (SMap.sorted_filter _ h.2)⟩, Nat.le_refl _, fun p hp => ?_, fun _ k hk => Moves.noPage k hk⟩
    cases p <;> first | rfl | exact absurd hp (by decide)
  clear_value s5
  extract_lets +onlyGivenNames s6
  have hs6 : Moves 0xffffffffffffffff0000080000000a10 s s6 := Moves.foldl (fun _ _ => Moves.foldl (fun _ _ => ((Moves.sub (State.setCredits_moves ..)).step (State.setCredits_moves ..))) Moves.refl) hs5
  clear_value s6
  extract_lets +onlyGivenNames s11
  have hs11 : Moves 0xffffffffffffffff0000080000000a10 s s11 := Moves.foldl (fun _ _ => ((Moves.sub (State.setCredits_moves ..)).step (State.setCredits_moves ..))) hs6
  clear_value s11
  extract_lets +onlyGivenNames to14
  exact (Moves.set_11 hs11 rfl)


theorem State.cutover_moves (s : State) :
    Moves 0xffffffffffffffff00001d0000007f38 s (State.cutover s) := by
  unfold State.cutover
  extract_lets +onlyGivenNames a0
  extract_lets +onlyGivenNames b1
  extract_lets +onlyGivenNames hand2
  extract_lets +onlyGivenNames s3
  have hs3 : Moves 0xffffffffffffffff00001d0000007f38 s s3 := (Moves.sub (State.untrack_moves ..))
  clear_value s3
  extract_lets +onlyGivenNames s4
  have hs4 : Moves 0xffffffffffffffff00001d0000007f38 s s4 := (hs3.step (State.setRoles_moves s3 [(a0, 2, 1), (b1, 0, 1)] true))
  clear_value s4
  extract_lets +onlyGivenNames src5
  extract_lets +onlyGivenNames s6
  have hs6 : Moves 0xffffffffffffffff00001d0000007f38 s s6 := by
    refine Moves.ite ?_ ?_
    · exact ((Moves.set_40 hs4).step (State.changeTo_moves ..))
    · exact (hs4.step (State.settle_moves ..))
  clear_value s6
  extract_lets +onlyGivenNames s7
  have hs7 : Moves 0xffffffffffffffff00001d0000007f38 s s7 := ((hs6.step (State.wr_moves ..)).step (State.wr_moves ..))
  clear_value s7
  extract_lets +onlyGivenNames s8
  have hs8 : Moves 0xffffffffffffffff00001d0000007f38 s s8 := by
    refine Moves.ite ?_ ?_
    · exact hs7
    · exact (hs7.step (State.carryQueues_moves ..))
  clear_value s8
  extract_lets +onlyGivenNames s9
  have hs9 : Moves 0xffffffffffffffff00001d0000007f38 s s9 := by
    refine Moves.foldl (fun t10 x11 => ?_) ?_
    · extract_lets +onlyGivenNames c12
      extract_lets +onlyGivenNames src13
      have hsrc13 : Moves 0xffffffffffffffff00001d0000007f38 t10 src13 := (Moves.sub (State.setCore_moves ..))
      clear_value src13
      exact (Moves.set_14 hsrc13)
    · exact hs8
  clear_value s9
  extract_lets +onlyGivenNames s14
  have hs14 : Moves 0xffffffffffffffff00001d0000007f38 s s14 := (Moves.set_10 hs9)
  clear_value s14
  extract_lets +onlyGivenNames s15
  have hs15 : Moves 0xffffffffffffffff00001d0000007f38 s s15 := ((hs14.step (State.moveWorkload_moves ..)).step (State.raiseFence_moves ..))
  clear_value s15
  extract_lets +onlyGivenNames s16
  have hs16 : Moves 0xffffffffffffffff00001d0000007f38 s s16 := Moves.foldl (fun _ _ => ((Moves.sub (State.wr_moves_any ..)).step (State.resetCore_moves ..))) hs15
  clear_value s16
  extract_lets +onlyGivenNames s19
  have hs19 : Moves 0xffffffffffffffff00001d0000007f38 s s19 := (((hs16.step (State.wr_moves ..)).step (State.inc_moves ..)).step (State.irq_moves ..))
  clear_value s19
  exact (Moves.set_44 hs19)


theorem State.shuntAtTick_moves (s : State) :
    Moves 0xffffffffffffffff00001d0006007f38 s (State.shuntAtTick s) := by
  unfold State.shuntAtTick
  extract_lets +onlyGivenNames v0
  extract_lets +onlyGivenNames s1
  have hs1 : Moves 0xffffffffffffffff00001d0006007f38 s s1 := (Moves.set_44 Moves.refl)
  extract_lets +onlyGivenNames v2
  refine Moves.ite ?_ ?_
  · refine Moves.ite ?_ ?_
    · exact (hs1.step (State.cutover_moves ..))
    · exact (hs1.step (State.abandonShunt_moves ..))
  · refine Moves.ite ?_ ?_
    · refine Moves.ite ?_ ?_
      · exact (hs1.step (State.precopy_moves ..))
      · exact (hs1.step (State.abandonShunt_moves ..))
    · exact hs1


theorem State.handoverEntry_moves {F : Nat} (s : State) (tag : ℕ) (act : State → QEntry → State) (h_act : ∀ y0 y1, Moves F y0 (act y0 y1)) :
    Moves (0x80000000a00 ||| F) s (State.handoverEntry s tag act) := by
  unfold State.handoverEntry
  split
  · refine Moves.ite ?_ ?_
    · extract_lets +onlyGivenNames s0
      have hs0 : Moves (0x80000000a00 ||| F) s s0 := (Moves.sub (State.popQueue_moves ..) (Moves.or_le rfl))
      clear_value s0
      extract_lets +onlyGivenNames st1
      refine Moves.ite ?_ ?_
      · exact (hs0.step (h_act ..) Moves.or_right)
      · exact hs0
    · exact Moves.refl
  · exact Moves.refl


theorem execShunt_moves (s : State) :
    ∃ t, execShunt s = .next t ∧ Moves 0x121014006000001cf00000063c s t := by
  unfold execShunt
  extract_lets +onlyGivenNames v0
  refine ⟨_, rfl, ?_⟩
  exact (Moves.sub (State.authCommand_moves (F := 0x10000000001c0000000010) (h_act := by
          intro z1 z2 z3
          split
          · rename_i u4 _ hq5
            have hd6 := Moves.fst (F := 0x10000000001c0000000010) (s := z1) hq5 (Moves.sub (State.startShunt_moves ..))
            refine Moves.stAuthDone ?_
            exact hd6
          · rename_i u7 hq8
            have hd9 := Moves.fst (F := 0x10000000001c0000000010) (s := z1) hq8 (Moves.sub (State.startShunt_moves ..))
            refine Moves.stAuthDone ?_
            exact hd9) ..))


theorem execShuntAbandon_moves (w : Who) (s : State) :
    ∃ t, execShuntAbandon w s = .next t ∧ Moves 0x1210f000001c0000000350 s t := by
  unfold execShuntAbandon
  refine ⟨_, rfl, ?_⟩
  exact (Moves.sub (writeThen_moves (F := 0x10000000001c0000000010) (h_effect := fun _ _ => (Moves.sub (State.shuntReq_moves ..))) ..))


theorem execPrecopyPassEnd_moves (s : State) :
    ∃ t, execPrecopyPassEnd s = .next t ∧ Moves 0x1000000000180000000010 s t := by
  unfold execPrecopyPassEnd
  extract_lets +onlyGivenNames v0
  refine ⟨_, rfl, ?_⟩
  refine Moves.ite ?_ ?_
  · extract_lets +onlyGivenNames v1
    extract_lets +onlyGivenNames s2
    have hs2 : Moves 0x1000000000180000000010 s s2 := (Moves.set_44 Moves.refl)
    clear_value s2
    extract_lets +onlyGivenNames s3
    have hs3 : Moves 0x1000000000180000000010 s s3 := (hs2.step (State.incWrap_moves ..) (Moves.at 20 rfl))
    clear_value s3
    refine Moves.ite ?_ ?_
    · exact (((hs3.step (State.wr_moves ..) (Moves.at 20 rfl)).step (State.wr_moves ..) (Moves.at 20 rfl)).step (State.irq_moves ..) (Moves.at 20 rfl))
    · exact hs3
  · exact Moves.refl


theorem execHandoverAccept_moves (s : State) :
    ∃ t, execHandoverAccept s = .next t ∧ Moves 0x1000000000080000000a10 s t := by
  unfold execHandoverAccept
  refine ⟨_, rfl, ?_⟩
  exact (Moves.sub (State.handoverEntry_moves (F := 0x1000000000080000000010) (h_act := by
          intro z0 z1
          refine Moves.ite ?_ ?_
          · exact (Moves.sub (State.wr_moves ..) (Moves.at 20 rfl))
          · exact Moves.refl) ..))


theorem execHandoverRefuse_moves (s : State) :
    ∃ t, execHandoverRefuse s = .next t ∧ Moves 0x10000000001c0000000a10 s t := by
  unfold execHandoverRefuse
  refine ⟨_, rfl, ?_⟩
  exact (Moves.sub (State.handoverEntry_moves (F := 0x10000000001c0000000010) (h_act := fun _ _ => (Moves.sub (State.abandonShunt_moves ..))) ..))


end Sys2Proof.Machine
end

