-- ==== Sys2Proof/Laws/MovesUpdate.lean ====
section
/-! SUPPORT.  What each operation of the firmware, the tablet, the pair and the update can do to the state, said once: the parts it may
change (a mask, one bit a part of `Safety.lean`), that it keeps the state sane and that it draws free values in order.
A lemma `Moves.set_…` says it of one record update. -/

open Sys2Proof Sys2Proof.Machine Sys2Proof.Bits
namespace Sys2Proof.Machine
set_option Elab.async false

theorem State.writeLevel_moves (s : State) (l active : ℕ) (trial : Bool) (cause deadline : ℕ) :
    Moves 0x880000000080000000038 s (State.writeLevel s l active trial cause deadline) := by
  unfold State.writeLevel
  extract_lets +onlyGivenNames v0
  extract_lets +onlyGivenNames s1
  have hs1 : Moves 0x880000000080000000038 s s1 := (Moves.sub (State.twinWrite_moves ..))
  clear_value s1
  refine Moves.ite ?_ ?_
  · exact ((hs1.step (State.wr_moves ..) (Moves.at 19 rfl)).step (State.wr_moves ..) (Moves.at 19 rfl))
  · exact ((hs1.step (State.wr_moves ..) (Moves.at 19 rfl)).step (State.wr_moves ..) (Moves.at 19 rfl))


theorem Moves.set_46 {F : Nat} {s x : State} {f46 : Bool} (h : Moves F s x) (sub : 0x400000000000 &&& F = 0x400000000000 := by rfl) :
    Moves F s { x with fellBack := f46 } :=
  h.step (G := 0x400000000000) ⟨id, Nat.le_refl _, fun p hp => by cases p <;> first | rfl | exact absurd hp (by decide), fun _ _ _ => rfl⟩ sub

theorem State.noteFallback_moves (s : State) (cause : ℕ) :
    Moves 0xa00400000480000000210 s (State.noteFallback s cause) := by
  unfold State.noteFallback
  exact (((Moves.set_46 Moves.refl).step (State.irq_moves ..) (Moves.at 19 rfl)).step (State.archive_moves ..))


theorem State.clearMigrations_moves (s : State) (l : ℕ) :
    Moves 0x80000000028 s (State.clearMigrations s l) := by
  unfold State.clearMigrations
  exact (Moves.foldl (fun _ _ => (Moves.sub (State.clearMem_moves ..))) Moves.refl)


theorem State.migrate_moves (s : State) (l : ℕ) :
    Moves 0x80000000080000000038 s (State.migrate s l) := by
  unfold State.migrate
  extract_lets +onlyGivenNames s0
  have hs0 : Moves 0x80000000080000000038 s s0 := by
    refine Moves.foldl (fun t1 x2 => ?_) ?_
    · extract_lets +onlyGivenNames v3
      refine Moves.ite ?_ ?_
      · exact (Moves.sub (State.twinWrite_moves ..))
      · exact Moves.refl
    · exact Moves.refl
  clear_value s0
  exact (hs0.step (State.clearMigrations_moves ..))


theorem Moves.set_35 {F : Nat} {s x : State} {f35 : Bool} (h : Moves F s x) (sub : 0x800000000 &&& F = 0x800000000 := by rfl) :
    Moves F s { x with firmware := f35 } :=
  h.step (G := 0x800000000) ⟨id, Nat.le_refl _, fun p hp => by cases p <;> first | rfl | exact absurd hp (by decide), fun _ _ _ => rfl⟩ sub

theorem State.startKeeper_moves (s : State) (slot : ℕ) :
    Moves 0x202400000080800002238 s (State.startKeeper s slot) := by
  unfold State.startKeeper
  extract_lets +onlyGivenNames v0
  extract_lets +onlyGivenNames s1
  have hs1 : Moves 0x202400000080800002238 s s1 := (Moves.foldl (fun _ _ => (Moves.sub (State.copyMem_moves ..))) Moves.refl)
  clear_value s1
  extract_lets +onlyGivenNames s2
  have hs2 : Moves 0x202400000080800002238 s s2 := by
    refine Moves.foldl (fun t3 x4 => ?_) ?_
    · extract_lets +onlyGivenNames s5
      have hs5 : Moves 0x202400000080800002238 t3 s5 := (Moves.sub (State.resetCore_moves ..))
      clear_value s5
      exact (hs5.step (State.setCore_moves ..))
    · exact hs1
  clear_value s2
  exact (Moves.set_35 hs2)


theorem State.loadExecutive_moves (s : State) (d slot : ℕ) :
    Moves 0xffffffffffffffff0000080000002238 s (State.loadExecutive s d slot) := by
  unfold State.loadExecutive
  extract_lets +onlyGivenNames v0
  extract_lets +onlyGivenNames s1
  have hs1 : Moves 0xffffffffffffffff0000080000002238 s s1 := (Moves.foldl (fun _ _ => (Moves.sub (State.copyMem_moves ..))) Moves.refl)
  clear_value s1
  refine Moves.foldl (fun t2 x3 => ?_) ?_
  · extract_lets +onlyGivenNames v4
    extract_lets +onlyGivenNames s5
    have hs5 : Moves 0xffffffffffffffff0000080000002238 t2 s5 := (Moves.sub (State.wr_moves_any ..))
    clear_value s5
    exact ((hs5.step (State.wr_moves_any ..)).step (State.coreCtl_moves ..))
  · exact hs1


theorem State.runExecutive_moves (s : State) (slot : ℕ) :
    Moves 0x10000000000 s (State.runExecutive s slot) := by
  unfold State.runExecutive
  exact (Moves.set_40 Moves.refl)


theorem State.noteTwin_moves (s : State) (t : ℕ) :
    Moves 0x200400000080000000210 s (State.noteTwin s t) := by
  unfold State.noteTwin
  refine Moves.ite ?_ ?_
  · refine Moves.ite ?_ ?_
    · exact (Moves.sub (State.archive_moves ..))
    · exact Moves.refl
  · refine Moves.ite ?_ ?_
    · exact Moves.refl
    · exact (Moves.sub (State.archive_moves ..))


theorem State.readSlips_moves (s : State) :
    Moves 0x220400000080000000210 s (State.readSlips s) := by
  unfold State.readSlips
  refine Moves.foldl (fun t0 x1 => ?_) ?_
  · extract_lets +onlyGivenNames v2
    refine Moves.ite ?_ ?_
    · exact Moves.refl
    · exact ((Moves.sub (State.archive_moves ..)).step (State.wr_moves ..) (Moves.at 13 rfl))
  · exact Moves.refl


theorem State.timeFromRtc_moves (s : State) :
    Moves 0x20040001e284000000211 s (State.timeFromRtc s) := by
  unfold State.timeFromRtc
  refine Moves.ite ?_ ?_
  · exact ((Moves.sub (State.stepTime_moves ..)).step (State.archive_moves ..))
  · exact (Moves.sub (State.stepTime_moves ..))


theorem State.loadIdentity_moves (s : State) :
    Moves 0xffffffffffffffff0000080000000010 s (State.loadIdentity s) := by
  unfold State.loadIdentity
  split
  · extract_lets +onlyGivenNames s0
    have hs0 : Moves 0xffffffffffffffff0000080000000010 s s0 := (Moves.foldl (fun _ _ => ((Moves.sub (State.wr_moves_any ..)).step (State.wr_moves_any ..))) Moves.refl)
    clear_value s0
    exact ((hs0.step (State.wr_moves ..) (Moves.at 21 rfl)).step (State.wr_moves ..) (Moves.at 16 rfl))
  · exact Moves.refl


theorem State.loadTrim_moves (s : State) :
    Moves 0x80000080000000010 s (State.loadTrim s) := by
  unfold State.loadTrim
  split
  · exact (Moves.foldl (fun _ _ => ((Moves.sub (F := 0x80000080000000010) (State.wr_moves ..) (Moves.at 3 rfl)).step (State.wr_moves ..) (Moves.at 3 rfl))) Moves.refl)
  · exact Moves.refl


theorem State.loadRun_moves (s : State) :
    Moves 0x40008080000000010 s (State.loadRun s) := by
  unfold State.loadRun
  split
  · extract_lets +onlyGivenNames s0
    have hs0 : Moves 0x40008080000000010 s s0 := (Moves.sub (State.wr_moves ..) (Moves.at 2 rfl))
    clear_value s0
    exact (Moves.set_51 hs0)
  · exact Moves.refl


theorem State.bootExecutive_moves (s : State) :
    Moves 0xffffffffffffffff0000490000002238 s (State.bootExecutive s) := by
  unfold State.bootExecutive
  extract_lets +onlyGivenNames v0
  extract_lets +onlyGivenNames v1
  extract_lets +onlyGivenNames s2
  have hs2 : Moves 0xffffffffffffffff0000490000002238 s s2 := by
    refine Moves.ite ?_ ?_
    · exact ((Moves.sub (State.writeLevel_moves ..)).step (State.noteFallback_moves ..))
    · exact Moves.refl
  clear_value s2
  extract_lets +onlyGivenNames s3
  have hs3 : Moves 0xffffffffffffffff0000490000002238 s s3 := ((hs2.step (State.wr_moves ..) (Moves.at 19 rfl)).step (State.wr_moves ..) (Moves.at 19 rfl))
  clear_value s3
  extract_lets +onlyGivenNames f4
  have hf4 : ∀ y5 y6, Moves 0xffffffffffffffff0000490000002238 y5 (f4 y5 y6) := by
    intro y5 y6
    exact ((Moves.foldl (F := 0xffffffffffffffff0000490000002238) (fun _ _ => (Moves.sub (State.loadExecutive_moves ..))) (Moves.sub (State.wr_moves ..) (Moves.at 19 rfl))).step (State.runExecutive_moves ..))
  clear_value f4
  extract_lets +onlyGivenNames s7
  have hs7 : Moves 0xffffffffffffffff0000490000002238 s s7 := by
    refine Moves.ite ?_ ?_
    · exact (hs3.step (State.clearMigrations_moves ..))
    · exact hs3
  clear_value s7
  refine Moves.ite ?_ ?_
  · exact (hs7.trans (hf4 ..))
  · refine Moves.ite ?_ ?_
    · exact (hs7.trans (hf4 ..))
    · exact hs7


theorem State.firmwareStarts_moves (s : State) (fell : Bool) :
    Moves 0xffffffffffffffff001e69500000263d s (State.firmwareStarts s fell) := by
  unfold State.firmwareStarts
  extract_lets +onlyGivenNames s0
  have hs0 : Moves 0xffffffffffffffff001e69500000263d s s0 := (((Moves.sub (F := 0xffffffffffffffff001e69500000263d) (State.wr_moves ..) (Moves.at 3 rfl)).step (State.wr_moves ..) (Moves.at 3 rfl)).step (State.setCell_moves ..))
  clear_value s0
  extract_lets +onlyGivenNames s1
  have hs1 : Moves 0xffffffffffffffff001e69500000263d s s1 := (hs0.step (State.wr_moves ..) (Moves.at 3 rfl))
  clear_value s1
  extract_lets +onlyGivenNames s2
  have hs2 : Moves 0xffffffffffffffff001e69500000263d s s2 := (((hs1.step (State.timeFromRtc_moves ..)).step (State.archiveLoad_moves ..)).step (State.archiveScan_moves ..))
  clear_value s2
  extract_lets +onlyGivenNames s3
  have hs3 : Moves 0xffffffffffffffff001e69500000263d s s3 := by
    refine Moves.ite ?_ ?_
    · exact (hs2.step (State.archiveFails_moves ..))
    · exact hs2
  clear_value s3
  extract_lets +onlyGivenNames s4
  have hs4 : Moves 0xffffffffffffffff001e69500000263d s s4 := (Moves.foldl (fun _ _ => (Moves.sub (State.noteTwin_moves ..))) hs3)
  clear_value s4
  extract_lets +onlyGivenNames s5
  have hs5 : Moves 0xffffffffffffffff001e69500000263d s s5 := ((((hs4.step (State.loadIdentity_moves ..)).step (State.loadTrim_moves ..)).step (State.loadRun_moves ..)).step (State.readSlips_moves ..))
  clear_value s5
  extract_lets +onlyGivenNames s6
  have hs6 : Moves 0xffffffffffffffff001e69500000263d s s6 := by
    refine Moves.ite ?_ ?_
    · exact ((hs5.step (State.clearMigrations_moves ..)).step (State.noteFallback_moves ..))
    · exact hs5
  clear_value s6
  extract_lets +onlyGivenNames s7
  have hs7 : Moves 0xffffffffffffffff001e69500000263d s s7 := (Moves.foldl (fun _ _ => (Moves.sub (State.showLink_moves_any ..))) hs6)
  clear_value s7
  exact ((hs7.step (State.changeTo_moves ..)).step (State.bootExecutive_moves ..))


theorem State.setTablet_moves (s : State) (st : ℕ) (claim : Bool) :
    Moves 0x4000000000080000000010 s (State.setTablet s st claim) := by
  unfold State.setTablet
  exact ((Moves.sub (F := 0x4000000000080000000010) (State.wr_moves ..) (Moves.at 22 rfl)).step (State.wrB_moves ..) (Moves.at 22 rfl))


theorem State.tabletLeave_moves (s : State) :
    Moves 0x4000000000080000000010 s (State.tabletLeave s) := by
  unfold State.tabletLeave
  exact (((Moves.sub (State.setTablet_moves ..)).step (State.wr2_moves ..) (Moves.at 22 rfl)).step (State.irq_moves ..) (Moves.at 22 rfl))


theorem State.tabletStep_moves (s : State) :
    Moves 0x4000000000280000000010 s (State.tabletStep s) := by
  unfold State.tabletStep
  split
  · refine Moves.ite ?_ ?_
    · extract_lets +onlyGivenNames s0
      have hs0 : Moves 0x4000000000280000000010 s s0 := (Moves.sub (State.setTablet_moves ..))
      clear_value s0
      exact (Moves.set_45 hs0)
    · exact Moves.refl
  · refine Moves.ite ?_ ?_
    · exact Moves.refl
    · exact (Moves.sub (State.setTablet_moves ..))
  · refine Moves.ite ?_ ?_
    · exact Moves.refl
    · exact (Moves.sub (State.tabletLeave_moves ..))
  · exact Moves.refl


theorem State.want_moves (s : State) (b : Bool) :
    Moves 0x4000000000280000000010 s (State.want s b) := by
  unfold State.want
  exact ((Moves.sub (F := 0x4000000000280000000010) (State.wrB_moves ..) (Moves.at 22 rfl)).step (State.tabletStep_moves ..))


theorem State.seenChange_moves (s : State) (b : Bool) :
    Moves 0x4000000000280000000010 s (State.seenChange s b) := by
  unfold State.seenChange
  extract_lets +onlyGivenNames s0
  have hs0 : Moves 0x4000000000280000000010 s s0 := (Moves.sub (State.wrB_moves ..) (Moves.at 22 rfl))
  clear_value s0
  extract_lets +onlyGivenNames v1
  extract_lets +onlyGivenNames s2
  have hs2 : Moves 0x4000000000280000000010 s s2 := by
    refine Moves.ite ?_ ?_
    · exact hs0
    · exact (Moves.set_45 hs0)
  clear_value s2
  split
  · extract_lets +onlyGivenNames s3
    have hs3 : Moves 0x4000000000280000000010 s s3 := ((hs2.step (State.inc_moves ..) (Moves.at 22 rfl)).step (State.irq_moves ..) (Moves.at 22 rfl))
    clear_value s3
    refine Moves.ite ?_ ?_
    · exact hs3
    · extract_lets +onlyGivenNames s4
      have hs4 : Moves 0x4000000000280000000010 s s4 := (hs3.step (State.setTablet_moves ..))
      clear_value s4
      exact (Moves.set_45 hs4)
  · exact (Moves.set_45 hs2)
  · exact (((hs2.step (State.tabletLeave_moves ..)).step (State.wr_moves ..) (Moves.at 22 rfl)).step (State.irq_moves ..) (Moves.at 22 rfl))
  · exact (hs2.step (State.tabletStep_moves ..))


theorem State.becomeActive_moves (s : State) :
    Moves 0x100006000000000280080000010 s (State.becomeActive s) := by
  unfold State.becomeActive
  exact ((Moves.sub (State.setPair_moves ..)).step (State.want_moves ..))


theorem State.leaveActive_moves (s : State) :
    Moves 0x180006000000000290080204010 s (State.leaveActive s) := by
  unfold State.leaveActive
  extract_lets +onlyGivenNames s0
  have hs0 : Moves 0x180006000000000290080204010 s s0 := ((Moves.sub (State.want_moves ..)).step (State.noSync_moves ..))
  clear_value s0
  exact (Moves.set_45 hs0)


theorem State.takeOver_moves (s : State) :
    Moves 0x100006000000000280080000010 s (State.takeOver s) := by
  unfold State.takeOver
  refine Moves.ite ?_ ?_
  · extract_lets +onlyGivenNames s0
    have hs0 : Moves 0x100006000000000280080000010 s s0 := ((Moves.sub (State.setPair_moves ..)).step (State.want_moves ..))
    clear_value s0
    exact (Moves.set_45 hs0)
  · exact Moves.refl


theorem State.sendYield_moves (s : State) (n : ℕ) :
    Moves 0x208000000000 s (State.sendYield s n) := by
  unfold State.sendYield
  extract_lets +onlyGivenNames s0
  have hs0 : Moves 0x208000000000 s s0 := (Moves.sub (State.partnerSend_moves ..))
  clear_value s0
  exact (Moves.set_45 hs0)


theorem State.yieldNow_moves (s : State) :
    Moves 0x4000000000288000000010 s (State.yieldNow s) := by
  unfold State.yieldNow
  refine Moves.ite ?_ ?_
  · extract_lets +onlyGivenNames s0
    have hs0 : Moves 0x4000000000288000000010 s s0 := ((Moves.sub (State.want_moves ..)).step (State.sendYield_moves ..))
    clear_value s0
    extract_lets +onlyGivenNames s1
    have hs1 : Moves 0x4000000000288000000010 s s1 := (hs0.step (State.partnerSend_moves ..))
    clear_value s1
    exact (Moves.set_45 hs1)
  · exact Moves.refl


theorem State.yieldOn_moves (s : State) (c : ℕ) :
    Moves 0x4000000000288000000010 s (State.yieldOn s c) := by
  unfold State.yieldOn
  refine Moves.ite ?_ ?_
  · exact (Moves.sub (State.yieldNow_moves ..))
  · exact Moves.refl


theorem State.afterRelease_moves (s : State) :
    Moves 0x4000000000280000000010 s (State.afterRelease s) := by
  unfold State.afterRelease
  split
  · refine Moves.ite ?_ ?_
    · extract_lets +onlyGivenNames s0
      have hs0 : Moves 0x4000000000280000000010 s s0 := (Moves.sub (State.want_moves ..))
      clear_value s0
      exact (Moves.set_45 hs0)
    · exact Moves.refl
  · exact Moves.refl


theorem execTabletWant_moves (w : Who) (word : ℕ) (s : State) :
    ∃ t, execTabletWant w word s = .next t ∧ Moves 0x4210f00000280000000350 s t := by
  unfold execTabletWant
  refine ⟨_, rfl, ?_⟩
  exact (Moves.sub (writeThen_moves (F := 0x4000000000280000000010) (h_effect := fun _ _ => (Moves.sub (State.tabletStep_moves ..))) ..))


theorem execTabletSeenChange_moves (asserted : Bool) (s : State) :
    ∃ t, execTabletSeenChange asserted s = .next t ∧ Moves 0x4000000000280000000010 s t := by
  unfold execTabletSeenChange
  refine ⟨_, rfl, ?_⟩
  refine Moves.ite ?_ ?_
  · exact Moves.refl
  · exact (Moves.sub (State.seenChange_moves ..))


theorem execClaimHoldExpiry_moves (s : State) :
    ∃ t, execClaimHoldExpiry s = .next t ∧ Moves 0x4000000000080000000013 s t := by
  unfold execClaimHoldExpiry
  refine ⟨_, rfl, ?_⟩
  refine Moves.ite ?_ ?_
  · extract_lets +onlyGivenNames s0
    have hs0 : Moves 0x4000000000080000000013 s s0 := (Moves.sub (State.advanceTo_moves ..))
    clear_value s0
    extract_lets +onlyGivenNames s1
    have hs1 : Moves 0x4000000000080000000013 s s1 := ((hs0.step (State.setTablet_moves ..)).step (State.wr2_moves ..) (Moves.at 22 rfl))
    clear_value s1
    exact ((hs1.step (State.inc_moves ..) (Moves.at 22 rfl)).step (State.irq_moves ..) (Moves.at 22 rfl))
  · exact Moves.refl


theorem execBackoffExpiry_moves (s : State) :
    ∃ t, execBackoffExpiry s = .next t ∧ Moves 0x4000000000280000000013 s t := by
  unfold execBackoffExpiry
  refine ⟨_, rfl, ?_⟩
  refine Moves.ite ?_ ?_
  · exact (((Moves.sub (State.advanceTo_moves ..)).step (State.setTablet_moves ..)).step (State.tabletStep_moves ..))
  · exact Moves.refl


theorem State.verdict_moves (s : State) (active reason : ℕ) :
    Moves 0x180006000000000290080204010 s (State.verdict s active reason) := by
  unfold State.verdict
  extract_lets +onlyGivenNames v0
  extract_lets +onlyGivenNames v1
  refine Moves.ite ?_ ?_
  · refine Moves.ite ?_ ?_
    · exact (Moves.sub (State.becomeActive_moves ..))
    · exact (Moves.sub (State.takeOver_moves ..))
  · refine Moves.ite ?_ ?_
    · exact Moves.refl
    · clear_value v0 v1
      split
      · exact (Moves.sub (State.leaveActive_moves ..))
      · exact (Moves.sub (State.noSync_moves ..))
      · refine Moves.ite ?_ ?_
        · exact ((Moves.sub (State.setPair_moves ..)).step (State.standDown_moves ..))
        · exact Moves.refl
      · exact Moves.refl


theorem execVerdict_moves (data : List Byte) (s : State) :
    ∃ t, execVerdict data s = .next t ∧ Moves 0x180006000000000290080204010 s t := by
  unfold execVerdict
  extract_lets +onlyGivenNames v0
  extract_lets +onlyGivenNames v1
  extract_lets +onlyGivenNames v2
  refine ⟨_, rfl, ?_⟩
  refine Moves.ite ?_ ?_
  · exact Moves.refl
  · refine Moves.ite ?_ ?_
    · extract_lets +onlyGivenNames v3
      extract_lets +onlyGivenNames s4
      have hs4 : Moves 0x180006000000000290080204010 s s4 := (Moves.set_45 Moves.refl)
      clear_value s4
      refine Moves.ite ?_ ?_
      · extract_lets +onlyGivenNames s5
        have hs5 : Moves 0x180006000000000290080204010 s s5 := ((hs4.step (State.wr_moves ..) (Moves.at 21 rfl)).step (State.wr_moves ..) (Moves.at 21 rfl))
        clear_value s5
        extract_lets +onlyGivenNames s6
        have hs6 : Moves 0x180006000000000290080204010 s s6 := (hs5.step (State.wr_moves ..) (Moves.at 21 rfl))
        clear_value s6
        exact ((Moves.set_45 hs6).step (State.verdict_moves ..))
      · exact hs4
    · exact (Moves.set_45 Moves.refl)


theorem execWitnessHeartbeatSend_moves (s : State) :
    ∃ t, execWitnessHeartbeatSend s = .next t ∧ Moves 0x200000060000028100000063f s t := by
  unfold execWitnessHeartbeatSend
  refine ⟨_, rfl, ?_⟩
  refine Moves.ite ?_ ?_
  · extract_lets +onlyGivenNames v0
    extract_lets +onlyGivenNames s1
    have hs1 : Moves 0x200000060000028100000063f s s1 := (Moves.sub (State.advanceTime_moves ..))
    clear_value s1
    extract_lets +onlyGivenNames v2
    extract_lets +onlyGivenNames s3
    have hs3 : Moves 0x200000060000028100000063f s s3 := (hs1.step (State.setCell_moves ..))
    clear_value s3
    extract_lets +onlyGivenNames v4
    extract_lets +onlyGivenNames s5
    have hs5 : Moves 0x200000060000028100000063f s s5 := by
      refine Moves.ite ?_ ?_
      · exact (Moves.set_45 hs3)
      · exact hs1
    clear_value s5
    extract_lets +onlyGivenNames v6
    extract_lets +onlyGivenNames s7
    have hs7 : Moves 0x200000060000028100000063f s s7 := (Moves.set_45 hs5)
    clear_value s7
    extract_lets +onlyGivenNames v8
    exact (hs7.step (State.canSend_moves ..) (Moves.at 33 rfl))
  · exact Moves.refl


theorem execWitnessLoss_moves (s : State) :
    ∃ t, execWitnessLoss s = .next t ∧ Moves 0x2200400000080000000213 s t := by
  unfold execWitnessLoss
  refine ⟨_, rfl, ?_⟩
  refine Moves.ite ?_ ?_
  · extract_lets +onlyGivenNames s0
    have hs0 : Moves 0x2200400000080000000213 s s0 := (Moves.sub (State.advanceTime_moves ..))
    clear_value s0
    exact (((hs0.step (State.wr_moves ..) (Moves.at 21 rfl)).step (State.irq_moves ..) (Moves.at 21 rfl)).step (State.archive_moves ..))
  · exact Moves.refl


theorem execTakeover_moves (s : State) :
    ∃ t, execTakeover s = .next t ∧ Moves 0x100006000000000280080000010 s t := by
  unfold execTakeover
  refine ⟨_, rfl, ?_⟩
  refine Moves.ite ?_ ?_
  · exact (Moves.sub (State.takeOver_moves ..))
  · exact Moves.refl


theorem execSilentExpiry_moves (s : State) :
    ∃ t, execSilentExpiry s = .next t ∧ Moves 0x180002000000000290080204013 s t := by
  unfold execSilentExpiry
  refine ⟨_, rfl, ?_⟩
  refine Moves.ite ?_ ?_
  · exact (((Moves.sub (State.advanceTime_moves ..)).step (State.setPair_moves ..)).step (State.standDown_moves ..))
  · exact Moves.refl


theorem execStartingTimeout_moves (s : State) :
    ∃ t, execStartingTimeout s = .next t ∧ Moves 0x100006000000000280080000013 s t := by
  unfold execStartingTimeout
  refine ⟨_, rfl, ?_⟩
  refine Moves.ite ?_ ?_
  · exact ((Moves.sub (State.advanceTime_moves ..)).step (State.becomeActive_moves ..))
  · exact Moves.refl


theorem execPairSwitch_moves (s : State) :
    ∃ t, execPairSwitch s = .next t ∧ Moves 0x1210040060000028f00000063c s t := by
  unfold execPairSwitch
  refine ⟨_, rfl, ?_⟩
  exact (Moves.sub (State.authCommand_moves (F := 0x200000000000) (h_act := by
          intro z0 z1 z2
          refine Moves.iteF (g := AuthDone.st) ?_ ?_
          · refine Moves.stAuthDone ?_
            exact (Moves.set_45 Moves.refl)
          · exact Moves.refl) ..))


theorem Moves.set_42_43_45 {F : Nat} {s x : State} {f42 : ℕ} {f43 : SMap ℕ} {f45 : Pair} (h : Moves F s x) (sub : 0x2c0000000000 &&& F = 0x2c0000000000 := by rfl) :
    Moves F s { x with tracked := f42, dirty := f43, pair := f45 } :=
  h.step (G := 0x2c0000000000) ⟨id, Nat.le_refl _, fun p hp => by cases p <;> first | rfl | exact absurd hp (by decide), fun _ _ _ => rfl⟩ sub

theorem State.startBulk_moves (s : State) :
    Moves 0x2c8000000000 s (State.startBulk s) := by
  unfold State.startBulk
  extract_lets +onlyGivenNames s0
  have hs0 : Moves 0x2c8000000000 s s0 := (Moves.foldl (fun _ _ => (Moves.sub (State.partnerSend_moves ..))) Moves.refl)
  clear_value s0
  exact (Moves.set_42_43_45 hs0)


theorem State.endBulk_moves (s : State) :
    Moves 0x2c0000000000 s (State.endBulk s) := by
  unfold State.endBulk
  refine Moves.ite ?_ ?_
  · exact (Moves.set_42_43_45 Moves.refl)
  · exact Moves.refl


theorem State.requestBulk_moves (s : State) :
    Moves 0x100002000000000280080000010 s (State.requestBulk s) := by
  unfold State.requestBulk
  refine Moves.ite ?_ ?_
  · exact ((Moves.set_45 Moves.refl).step (State.setPair_moves ..))
  · exact Moves.refl


theorem State.partnerShows_moves (s : State) (old : List Byte) :
    Moves 0x1800062004000002d8080204210 s (State.partnerShows s old) := by
  unfold State.partnerShows
  extract_lets +onlyGivenNames v0
  extract_lets +onlyGivenNames v1
  extract_lets +onlyGivenNames s2
  have hs2 : Moves 0x1800062004000002d8080204210 s s2 := (Moves.sub (State.archive_moves ..))
  clear_value s2
  extract_lets +onlyGivenNames v3
  extract_lets +onlyGivenNames s4
  have hs4 : Moves 0x1800062004000002d8080204210 s s4 := by
    refine Moves.ite ?_ ?_
    · exact (Moves.set_45 hs2)
    · exact Moves.refl
  clear_value s4
  split
  · refine Moves.ite ?_ ?_
    · exact (hs4.step (State.becomeActive_moves ..))
    · refine Moves.ite ?_ ?_
      · exact (hs4.step (State.noSync_moves ..))
      · exact hs4
  · refine Moves.ite ?_ ?_
    · exact (hs4.step (State.leaveActive_moves ..))
    · extract_lets +onlyGivenNames s5
      have hs5 : Moves 0x1800062004000002d8080204210 s s5 := by
        refine Moves.ite ?_ ?_
        · exact (hs4.step (State.raiseCause_moves ..))
        · exact hs4
      clear_value s5
      refine Moves.ite ?_ ?_
      · exact (hs5.step (State.startBulk_moves ..))
      · refine Moves.ite ?_ ?_
        · exact (hs5.step (State.endBulk_moves ..))
        · exact hs5
  · refine Moves.ite ?_ ?_
    · exact (hs4.step (State.wr_moves ..) (Moves.at 21 rfl))
    · refine Moves.ite ?_ ?_
      · exact hs4
      · exact (hs4.step (State.requestBulk_moves ..))
  · refine Moves.ite ?_ ?_
    · exact (hs4.step (State.noSync_moves ..))
    · exact hs4
  · refine Moves.ite ?_ ?_
    · exact (hs4.step (State.noSync_moves ..))
    · refine Moves.ite ?_ ?_
      · exact (hs4.step (State.noSync_moves ..))
      · exact hs4
  · refine Moves.ite ?_ ?_
    · exact (hs4.step (State.noSync_moves ..))
    · refine Moves.ite ?_ ?_
      · exact (hs4.step (State.noSync_moves ..))
      · exact hs4
  · refine Moves.ite ?_ ?_
    · extract_lets +onlyGivenNames s6
      have hs6 : Moves 0x1800062004000002d8080204210 s s6 := (hs4.step (State.noSync_moves ..))
      clear_value s6
      refine Moves.ite ?_ ?_
      · exact hs6
      · exact (hs6.step (State.requestBulk_moves ..))
    · exact hs4
  · exact hs4


theorem State.linkSilent_moves (s : State) :
    Moves 0x1800020000000002d0080204010 s (State.linkSilent s) := by
  unfold State.linkSilent
  refine Moves.ite ?_ ?_
  · extract_lets +onlyGivenNames s0
    have hs0 : Moves 0x1800020000000002d0080204010 s s0 := ((Moves.sub (F := 0x1800020000000002d0080204010) (State.wr_moves ..) (Moves.at 21 rfl)).step (State.irq_moves ..) (Moves.at 21 rfl))
    extract_lets +onlyGivenNames v1
    extract_lets +onlyGivenNames s2
    have hs2 : Moves 0x1800020000000002d0080204010 s s2 := (Moves.set_45 hs0)
    extract_lets +onlyGivenNames s3
    have hs3 : Moves 0x1800020000000002d0080204010 s s3 := by
      refine Moves.ite ?_ ?_
      · exact hs2
      · exact (hs2.step (State.raiseCause_moves ..))
    clear_value s3
    split
    · exact ((Moves.set_45 hs3).step (State.setPair_moves ..))
    · exact (hs3.step (State.noSync_moves ..))
    · exact (hs3.step (State.endBulk_moves ..))
    · exact hs3
  · exact Moves.refl


theorem State.linkTake_moves {F : Nat} (s : State) (m : LinkHead) (act : State → State) (h_act : ∀ y0, Moves F y0 (act y0)) :
    Moves (0x2000000000280000000010 ||| F) s (State.linkTake s m act) := by
  unfold State.linkTake
  refine Moves.ite ?_ ?_
  · exact Moves.refl
  · refine Moves.ite ?_ ?_
    · exact (Moves.sub (State.inc_moves ..) (Moves.or_le rfl))
    · extract_lets +onlyGivenNames gap0
      extract_lets +onlyGivenNames s1
      have hs1 : Moves (0x2000000000280000000010 ||| F) s s1 := by
        refine Moves.ite ?_ ?_
        · exact (Moves.sub (State.inc_moves ..) (Moves.or_le rfl))
        · exact Moves.refl
      clear_value s1
      exact ((Moves.set_45 hs1 (Moves.or_le rfl)).step (h_act ..) Moves.or_right)


theorem State.mirrorSend_moves (s : State) (type : ℕ) (payload : List Byte) :
    Moves 0x208000000000 s (State.mirrorSend s type payload) := by
  unfold State.mirrorSend
  extract_lets +onlyGivenNames s0
  have hs0 : Moves 0x208000000000 s s0 := (Moves.sub (State.partnerSend_moves ..))
  clear_value s0
  exact (Moves.set_45 hs0)


theorem State.mirrorOpen_moves (s : State) :
    Moves 0x208000000000 s (State.mirrorOpen s) := by
  unfold State.mirrorOpen
  refine Moves.ite ?_ ?_
  · extract_lets +onlyGivenNames v0
    extract_lets +onlyGivenNames s1
    have hs1 : Moves 0x208000000000 s s1 := (Moves.set_45 Moves.refl)
    clear_value s1
    exact (Moves.foldl (fun _ _ => (Moves.sub (State.mirrorSend_moves ..))) hs1)
  · exact Moves.refl


theorem State.noteSide_moves (s : State) :
    Moves 0x200000000000 s (State.noteSide s) := by
  unfold State.noteSide
  refine Moves.ite ?_ ?_
  · exact (Moves.set_45 Moves.refl)
  · exact Moves.refl


theorem State.mirrorClose_moves (s : State) :
    Moves 0x2000000000288000000010 s (State.mirrorClose s) := by
  unfold State.mirrorClose
  refine Moves.ite ?_ ?_
  · exact Moves.refl
  · extract_lets +onlyGivenNames v0
    extract_lets +onlyGivenNames s1
    have hs1 : Moves 0x2000000000288000000010 s s1 := (Moves.foldl (fun _ _ => (Moves.sub (State.mirrorSend_moves ..))) Moves.refl)
    clear_value s1
    extract_lets +onlyGivenNames s2
    have hs2 : Moves 0x2000000000288000000010 s s2 := (Moves.foldl (fun _ _ => (Moves.sub (State.mirrorSend_moves ..))) hs1)
    clear_value s2
    extract_lets +onlyGivenNames v3
    extract_lets +onlyGivenNames v4
    extract_lets +onlyGivenNames v5
    extract_lets +onlyGivenNames v6
    refine Moves.ite ?_ ?_
    · extract_lets +onlyGivenNames v7
      extract_lets +onlyGivenNames s8
      have hs8 : Moves 0x2000000000288000000010 s s8 := (hs2.step (State.partnerSend_moves ..))
      clear_value s8
      extract_lets +onlyGivenNames s9
      have hs9 : Moves 0x2000000000288000000010 s s9 := (hs8.step (State.wr_moves ..) (Moves.at 21 rfl))
      clear_value s9
      extract_lets +onlyGivenNames v10
      extract_lets +onlyGivenNames s11
      have hs11 : Moves 0x2000000000288000000010 s s11 := (Moves.set_45 hs9)
      clear_value s11
      split
      · extract_lets +onlyGivenNames s12
        have hs12 : Moves 0x2000000000288000000010 s s12 := (hs11.step (State.sendYield_moves ..))
        clear_value s12
        exact (Moves.set_45 hs12)
      · exact hs11
    · exact hs2


theorem State.mirrorAbandon_moves (s : State) (frame : ℕ) :
    Moves 0x8000000288000000010 s (State.mirrorAbandon s frame) := by
  unfold State.mirrorAbandon
  refine Moves.ite ?_ ?_
  · extract_lets +onlyGivenNames s0
    have hs0 : Moves 0x8000000288000000010 s s0 := (((Moves.sub (State.partnerSend_moves ..)).step (State.inc_moves ..) (Moves.at 11 rfl)).step (State.irq_moves ..) (Moves.at 11 rfl))
    clear_value s0
    exact (Moves.set_45 hs0)
  · exact Moves.refl


theorem State.rxTake_moves (s : State) (n : ℕ) (payload : List Byte) (f : MirrorRx → MirrorRx) :
    Moves 0x200000000000 s (State.rxTake s n payload f) := by
  unfold State.rxTake
  extract_lets +onlyGivenNames v0
  exact (Moves.set_45 Moves.refl)


theorem State.eventFlags_moves (s : State) :
    Moves 0x80000000028 s (State.eventFlags s) := by
  unfold State.eventFlags
  extract_lets +onlyGivenNames v0
  exact (Moves.foldl (fun _ _ => (Moves.sub (State.store_moves ..))) Moves.refl)


theorem Moves.set_16_45 {F : Nat} {s x : State} {f16 : Frame} {f45 : Pair} (h : Moves F s x) (sub : 0x200000010000 &&& F = 0x200000010000 := by rfl) :
    Moves F s { x with frame := f16, pair := f45 } :=
  h.step (G := 0x200000010000) ⟨id, Nat.le_refl _, fun p hp => by cases p <;> first | rfl | exact absurd hp (by decide), fun _ _ _ => rfl⟩ sub

theorem State.applyFrame_moves (s : State) (x : MirrorRx) :
    Moves 0x180000010000000290000214238 s (State.applyFrame s x) := by
  unfold State.applyFrame
  extract_lets +onlyGivenNames v0
  extract_lets +onlyGivenNames v1
  extract_lets +onlyGivenNames v2
  extract_lets +onlyGivenNames v3
  extract_lets +onlyGivenNames s4
  have hs4 : Moves 0x180000010000000290000214238 s s4 := (Moves.set_16_45 Moves.refl)
  clear_value s4
  extract_lets +onlyGivenNames s5
  have hs5 : Moves 0x180000010000000290000214238 s s5 := by
    unfold s5
    split
    · refine Moves.ite ?_ ?_
      · exact hs4
      · exact ((hs4.step (State.enterMode_moves ..)).step (State.wr_moves ..) (Moves.at 39 rfl))
    · refine Moves.ite ?_ ?_
      · exact hs4
      · exact (hs4.step (State.enterStop_moves ..))
  clear_value s5
  extract_lets +onlyGivenNames v6
  extract_lets +onlyGivenNames s7
  have hs7 : Moves 0x180000010000000290000214238 s s7 := (Moves.set_21 hs5)
  clear_value s7
  extract_lets +onlyGivenNames s8
  have hs8 : Moves 0x180000010000000290000214238 s s8 := (Moves.foldl (fun _ _ => ((Moves.sub (F := 0x180000010000000290000214238) (State.wrB_moves ..) (Moves.at 40 rfl)).step (State.wr_moves ..) (Moves.at 40 rfl))) hs7)
  clear_value s8
  extract_lets +onlyGivenNames s9
  have hs9 : Moves 0x180000010000000290000214238 s s9 := (Moves.foldl (fun _ _ => (Moves.sub (State.setRing_moves ..))) (hs8.step (State.eventFlags_moves ..)))
  clear_value s9
  extract_lets +onlyGivenNames v10
  exact (Moves.foldl (fun _ _ => (Moves.sub (State.wr_moves ..) (Moves.at 12 rfl))) hs9)


theorem State.bulkComplete_moves (s : State) :
    Moves 0x18000a080000000080080000038 s (State.bulkComplete s) := by
  unfold State.bulkComplete
  extract_lets +onlyGivenNames v0
  extract_lets +onlyGivenNames s1
  have hs1 : Moves 0x18000a080000000080080000038 s s1 := (Moves.sub (State.setRoles_moves ..))
  clear_value s1
  extract_lets +onlyGivenNames s2
  have hs2 : Moves 0x18000a080000000080080000038 s s2 := ((hs1.step (State.wr_moves ..) (Moves.at 23 rfl)).step (State.setPair_moves ..))
  clear_value s2
  split
  · extract_lets +onlyGivenNames v3
    exact (hs2.step (State.twinWrite_moves ..))
  · exact hs2


theorem State.frameLost_moves (s : State) (complete : Bool) :
    Moves 0x180002000000000290080204010 s (State.frameLost s complete) := by
  unfold State.frameLost
  extract_lets +onlyGivenNames s0
  have hs0 : Moves 0x180002000000000290080204010 s s0 := by
    refine Moves.step ?_ (State.irq_moves ..) (Moves.at 21 rfl)
    refine Moves.ite ?_ ?_
    · exact Moves.refl
    · exact (Moves.sub (State.inc_moves ..) (Moves.at 21 rfl))
  clear_value s0
  split
  · exact (Moves.set_45 hs0)
  · refine Moves.ite ?_ ?_
    · exact (hs0.step (State.noSync_moves ..))
    · exact (Moves.set_45 hs0)


theorem State.mirrorDeadline_moves (s : State) :
    Moves 0x18000a090000000290080214238 s (State.mirrorDeadline s) := by
  unfold State.mirrorDeadline
  extract_lets +onlyGivenNames v0
  split
  · refine Moves.ite ?_ ?_
    · exact (Moves.sub (State.applyFrame_moves ..))
    · exact (Moves.sub (State.frameLost_moves ..))
  · refine Moves.ite ?_ ?_
    · exact (Moves.sub (State.applyFrame_moves ..))
    · exact (Moves.sub (State.frameLost_moves ..))
  · exact (Moves.sub (State.frameLost_moves ..))
  · refine Moves.ite ?_ ?_
    · exact (Moves.sub (State.frameLost_moves ..))
    · exact Moves.refl
  · refine Moves.ite ?_ ?_
    · exact Moves.refl
    · exact ((Moves.sub (State.bulkComplete_moves ..)).step (State.applyFrame_moves ..))
  · exact (Moves.sub (State.applyFrame_moves ..))
  · exact Moves.refl


theorem State.compareImage_moves (s : State) (x : MirrorRx) :
    Moves 0x180002200400000290080204210 s (State.compareImage s x) := by
  unfold State.compareImage
  refine Moves.ite ?_ ?_
  · exact Moves.refl
  · extract_lets +onlyGivenNames v0
    extract_lets +onlyGivenNames s1
    have hs1 : Moves 0x180002200400000290080204210 s s1 := ((Moves.sub (F := 0x180002200400000290080204210) (State.wr_moves ..) (Moves.at 21 rfl)).step (State.wr_moves ..) (Moves.at 21 rfl))
    clear_value s1
    exact (((hs1.step (State.irq_moves ..) (Moves.at 21 rfl)).step (State.archive_moves ..)).step (State.noSync_moves ..))


theorem State.setFields_moves (s : State) (d : ℕ) (l : List ℕ) (mine : ℕ → Bool) :
    Moves 0xffffffffffffffff0000080000000010 s (State.setFields s d l mine) := by
  unfold State.setFields
  extract_lets +onlyGivenNames at0
  refine Moves.foldl (fun t i => ?_) ?_
  · extract_lets +onlyGivenNames k1
    split
    · exact Moves.sub (State.wr_moves_any ..)
    · exact Moves.refl
  · refine ⟨fun h => ⟨h.1, SMap.sorted_filter _ h.2⟩, Nat.le_refl _, fun p hp => ?_, fun _ k hk => Moves.noPage k hk⟩
    cases p <;> first | rfl | exact absurd hp (by decide)


theorem State.setBlock_moves (s : State) (d r : ℕ) (l : List ℕ) :
    Moves 0xffffffffffffffff0000080006000010 s (State.setBlock s d r l) := by
  unfold State.setBlock
  extract_lets +onlyGivenNames v0
  extract_lets +onlyGivenNames s1
  have hs1 : Moves 0xffffffffffffffff0000080006000010 s s1 := (Moves.sub (State.setFields_moves ..))
  clear_value s1
  extract_lets +onlyGivenNames v2
  refine Moves.ite ?_ ?_
  · refine Moves.foldl (fun t3 x4 => ?_) ?_
    · extract_lets +onlyGivenNames v5
      exact (Moves.sub (State.setTimer_moves ..))
    · exact hs1
  · refine Moves.ite ?_ ?_
    · refine Moves.foldl (fun t6 x7 => ?_) ?_
      · extract_lets +onlyGivenNames v8
        exact (Moves.sub (State.setCounter_moves ..))
      · exact hs1
    · exact hs1

theorem State.setCores_moves (s : State) (d : ℕ) (l : List ℕ) :
    Moves 0x6000 s (State.setCores s d l) := by
  unfold State.setCores
  refine Moves.foldl (fun t0 x1 => ?_) ?_
  · extract_lets +onlyGivenNames v2
    extract_lets +onlyGivenNames v3
    extract_lets +onlyGivenNames v4
    extract_lets +onlyGivenNames v5
    extract_lets +onlyGivenNames s6
    have hs6 : Moves 0x6000 t0 s6 := (Moves.sub (State.setCore_moves ..))
    clear_value s6
    exact (Moves.set_14 hs6)
  · exact Moves.refl


theorem State.setQueue_moves (s : State) (d q : ℕ) (l : List ℕ) :
    Moves 0xffffffffffffffff0000080000000210 s (State.setQueue s d q l) := by
  unfold State.setQueue
  extract_lets +onlyGivenNames v0
  extract_lets +onlyGivenNames v1
  extract_lets +onlyGivenNames s2
  have hs2 : Moves 0xffffffffffffffff0000080000000210 s s2 := (Moves.sub (State.setFields_moves ..))
  clear_value s2
  extract_lets +onlyGivenNames s3
  have hs3 : Moves 0xffffffffffffffff0000080000000210 s s3 := (Moves.foldl (fun _ _ => (Moves.sub (State.setCredits_moves ..))) hs2)
  clear_value s3
  exact (hs3.step (State.setRing_moves ..))

theorem Moves.set_43_45 {F : Nat} {s x : State} {f43 : SMap ℕ} {f45 : Pair} (h : Moves F s x) (sub : 0x280000000000 &&& F = 0x280000000000 := by rfl) :
    Moves F s { x with dirty := f43, pair := f45 } :=
  h.step (G := 0x280000000000) ⟨id, Nat.le_refl _, fun p hp => by cases p <;> first | rfl | exact absurd hp (by decide), fun _ _ _ => rfl⟩ sub

theorem State.bulkOne_moves (s : State) (d : ℕ) :
    Moves 0x288000000000 s (State.bulkOne s d) := by
  unfold State.bulkOne
  extract_lets +onlyGivenNames v0
  extract_lets +onlyGivenNames v1
  clear_value v0 v1
  split
  · extract_lets +onlyGivenNames s2
    have hs2 : Moves 0x288000000000 s s2 := (Moves.sub (State.partnerSend_moves ..))
    clear_value s2
    exact (Moves.set_43_45 hs2)
  · exact (Moves.set_45 Moves.refl)


theorem State.bulkAtTick_moves (s : State) :
    Moves 0x2c8000000000 s (State.bulkAtTick s) := by
  unfold State.bulkAtTick
  refine Moves.ite ?_ ?_
  · exact Moves.refl
  · refine Moves.ite ?_ ?_
    · exact (Moves.sub (State.endBulk_moves ..))
    · refine Moves.ite ?_ ?_
      · exact (Moves.sub (State.startBulk_moves ..))
      · extract_lets +onlyGivenNames v0
        extract_lets +onlyGivenNames s1
        have hs1 : Moves 0x2c8000000000 s s1 := (Moves.set_45 Moves.refl)
        clear_value s1
        exact (Moves.foldl (fun _ _ => (Moves.foldl (fun _ _ => (Moves.sub (State.bulkOne_moves ..))) Moves.refl)) hs1)


theorem State.bulkDecision_moves (s : State) (d : ℕ) :
    Moves 0x10000003a000002023c s (State.bulkDecision s d) := by
  unfold State.bulkDecision
  refine Moves.ite ?_ ?_
  · extract_lets +onlyGivenNames v0
    extract_lets +onlyGivenNames s1
    have hs1 : Moves 0x10000003a000002023c s s1 := ((Moves.set_45 Moves.refl).step (State.quiesce_moves ..))
    clear_value s1
    split
    · exact (hs1.step (State.setSlot_moves ..))
    · exact hs1
  · exact Moves.refl


theorem State.shuntRowStart_moves (s : State) (d : ℕ) :
    Moves 0x10010000003e000002023c s (State.shuntRowStart s d) := by
  unfold State.shuntRowStart
  exact ((Moves.sub (State.shuntDecision_moves ..)).step (State.bulkDecision_moves ..))


theorem State.bulkFinish_moves (s : State) :
    Moves 0x2c000008288000170010 s (State.bulkFinish s) := by
  unfold State.bulkFinish
  extract_lets +onlyGivenNames v0
  extract_lets +onlyGivenNames s1
  have hs1 : Moves 0x2c000008288000170010 s s1 := by
    refine Moves.foldl (fun t2 x3 => ?_) ?_
    · extract_lets +onlyGivenNames s4
      have hs4 : Moves 0x2c000008288000170010 t2 s4 := (Moves.foldl (fun _ _ => (Moves.sub (State.partnerSend_moves ..))) Moves.refl)
      clear_value s4
      exact (Moves.foldl (fun _ _ => (Moves.sub (State.partnerSend_moves ..))) hs4)
    · exact Moves.refl
  clear_value s1
  exact (Moves.foldl (fun _ _ => (Moves.sub (State.workDone_moves ..))) (Moves.set_43_45 hs1))


theorem State.shuntRowExpires_moves (s : State) (d : ℕ) :
    Moves 0x102c0000083c0000070010 s (State.shuntRowExpires s d) := by
  unfold State.shuntRowExpires
  refine Moves.ite ?_ ?_
  · exact ((Moves.set_45 Moves.refl).step (State.endRow_moves ..))
  · exact (Moves.sub (State.deltaFault_moves ..))


theorem State.storeTable_moves (s : State) (code off : ℕ) (data : List Byte) :
    Moves 0xffffffffffffffff0000090000000038 s (State.storeTable s code off data) := by
  unfold State.storeTable
  extract_lets +onlyGivenNames v0
  split
  · extract_lets +onlyGivenNames f1
    have hf1 : ∀ y2 y3 y4, Moves 0xffffffffffffffff0000090000000038 y4 (f1 y2 y3 y4) := by
      intro y2 y3 y4
      exact (Moves.foldl (fun _ _ => (Moves.foldl (fun _ _ => (Moves.sub (State.resetField_moves_any ..))) Moves.refl)) Moves.refl)
    clear_value f1
    exact ((((Moves.set_40 Moves.refl).trans (hf1 ..)).trans (hf1 ..)).trans (hf1 ..))
  · extract_lets +onlyGivenNames s5
    have hs5 : Moves 0xffffffffffffffff0000090000000038 s s5 := (Moves.sub (State.setTaskWords_moves ..))
    clear_value s5
    exact (hs5.step (State.setTaskWords_moves ..))
  · extract_lets +onlyGivenNames v6
    extract_lets +onlyGivenNames s7
    have hs7 : Moves 0xffffffffffffffff0000090000000038 s s7 := (Moves.foldl (fun _ _ => (Moves.sub (State.putRaw_moves ..))) Moves.refl)
    clear_value s7
    exact (hs7.step (State.wr_moves ..) (Moves.at 25 rfl))
  · exact (Moves.foldl (fun _ _ => (Moves.sub (State.putRaw_moves ..))) Moves.refl)
  · extract_lets +onlyGivenNames s8
    have hs8 : Moves 0xffffffffffffffff0000090000000038 s s8 := (Moves.sub (State.setRetWords_moves ..))
    clear_value s8
    refine Moves.foldl (fun t9 x10 => ?_) ?_
    · extract_lets +onlyGivenNames v11
      refine Moves.ite ?_ ?_
      · exact (Moves.sub (State.wr_moves ..) (Moves.at 41 rfl))
      · exact Moves.refl
    · exact hs8
  · extract_lets +onlyGivenNames v12
    exact (Moves.set_40 Moves.refl)
  · extract_lets +onlyGivenNames s13
    have hs13 : Moves 0xffffffffffffffff0000090000000038 s s13 := (Moves.sub (State.storeBytes_moves ..))
    clear_value s13
    exact ((hs13.step (State.wr_moves ..) (Moves.at 41 rfl)).step (State.wr_moves ..) (Moves.at 41 rfl))
  · exact Moves.refl


theorem State.pairCfg_moves (s : State) (a1 : ℕ) :
    Moves 0x1000020000000002c0080000010 s (State.pairCfg s a1) := by
  unfold State.pairCfg
  refine Moves.ite ?_ ?_
  · refine Moves.ite ?_ ?_
    · exact ((Moves.set_45 Moves.refl).step (State.setPair_moves ..))
    · exact Moves.refl
  · exact ((Moves.sub (State.endBulk_moves ..)).step (State.setPair_moves ..))


theorem State.pairReq_moves (s : State) (v : ℕ) :
    Moves 0x100002000000000280080000010 s (State.pairReq s v) := by
  unfold State.pairReq
  refine Moves.ite ?_ ?_
  · exact (Moves.sub (State.requestBulk_moves ..))
  · exact Moves.refl


theorem execHeartbeat_moves (m : LinkHead) (payload : List Byte) (s : State) :
    ∃ t, execHeartbeat m payload s = .next t ∧ Moves 0x1800062004000002d8080204210 s t := by
  unfold execHeartbeat
  refine ⟨_, rfl, ?_⟩
  exact (Moves.sub (State.linkTake_moves (F := 0x1800062004000002d8080204210) (h_act := by
          intro z0
          refine Moves.ite ?_ ?_
          · exact Moves.refl
          · extract_lets +onlyGivenNames v1
            extract_lets +onlyGivenNames v2
            extract_lets +onlyGivenNames v3
            extract_lets +onlyGivenNames s4
            have hs4 : Moves 0x1800062004000002d8080204210 z0 s4 := (Moves.set_45 Moves.refl)
            clear_value s4
            extract_lets +onlyGivenNames v5
            extract_lets +onlyGivenNames s6
            have hs6 : Moves 0x1800062004000002d8080204210 z0 s6 := (Moves.set_45 hs4)
            clear_value s6
            extract_lets +onlyGivenNames s7
            have hs7 : Moves 0x1800062004000002d8080204210 z0 s7 := by
              refine Moves.ite ?_ ?_
              · refine Moves.ite ?_ ?_
                · exact hs6
                · exact ((hs6.step (State.wr_moves ..) (Moves.at 21 rfl)).step (State.irq_moves ..) (Moves.at 21 rfl))
              · exact hs4
            clear_value s7
            exact (hs7.step (State.partnerShows_moves ..))) ..))


theorem execHeartbeatMissing_moves (s : State) :
    ∃ t, execHeartbeatMissing s = .next t ∧ Moves 0x1800020000000002d0080204013 s t := by
  unfold execHeartbeatMissing
  refine ⟨_, rfl, ?_⟩
  refine Moves.ite ?_ ?_
  · extract_lets +onlyGivenNames s0
    have hs0 : Moves 0x1800020000000002d0080204013 s s0 := (Moves.sub (State.advanceTime_moves ..))
    extract_lets +onlyGivenNames v1
    extract_lets +onlyGivenNames s2
    have hs2 : Moves 0x1800020000000002d0080204013 s s2 := (Moves.set_45 hs0)
    refine Moves.ite ?_ ?_
    · exact (hs2.step (State.linkSilent_moves ..))
    · exact hs2
  · exact Moves.refl


theorem execLaneAlignmentLoss_moves (s : State) :
    ∃ t, execLaneAlignmentLoss s = .next t ∧ Moves 0x1800020000000002d0080204010 s t := by
  unfold execLaneAlignmentLoss
  refine ⟨_, rfl, ?_⟩
  refine Moves.ite ?_ ?_
  · extract_lets +onlyGivenNames s0
    have hs0 : Moves 0x1800020000000002d0080204010 s s0 := (Moves.sub (State.linkSilent_moves ..))
    clear_value s0
    exact (Moves.set_45 hs0)
  · exact Moves.refl


theorem execPartnerLinkAligned_moves (s : State) :
    ∃ t, execPartnerLinkAligned s = .next t ∧ Moves 0x180002000000000290080204010 s t := by
  unfold execPartnerLinkAligned
  refine ⟨_, rfl, ?_⟩
  refine Moves.ite ?_ ?_
  · exact Moves.refl
  · extract_lets +onlyGivenNames v0
    extract_lets +onlyGivenNames s1
    have hs1 : Moves 0x180002000000000290080204010 s s1 := (Moves.set_45 Moves.refl)
    extract_lets +onlyGivenNames s2
    have hs2 : Moves 0x180002000000000290080204010 s s2 := by
      refine Moves.ite ?_ ?_
      · exact hs1
      · exact ((hs1.step (State.wr_moves ..) (Moves.at 21 rfl)).step (State.irq_moves ..) (Moves.at 21 rfl))
    extract_lets +onlyGivenNames s3
    have hs3 : Moves 0x180002000000000290080204010 s s3 := by
      refine Moves.ite ?_ ?_
      · exact (hs2.step (State.noSync_moves ..))
      · exact hs2
    refine Moves.ite ?_ ?_
    · exact hs3
    · exact (hs3.step (State.requestBulk_moves ..))


theorem execSnapMessage_moves (m : LinkHead) (offset : ℕ) (data : List Byte) (s : State) :
    ∃ t, execSnapMessage m offset data s = .next t ∧ Moves 0x2000000000280000000038 s t := by
  unfold execSnapMessage
  refine ⟨_, rfl, ?_⟩
  exact (Moves.sub (State.linkTake_moves (F := 0x280000000028) (h_act := by
          intro z0
          refine Moves.ite ?_ ?_
          · exact ((Moves.sub (State.rxTake_moves ..)).step (State.storeBytes_moves ..))
          · exact Moves.refl) ..))


theorem execSideMessage_moves (m : LinkHead) (payload : List Byte) (s : State) :
    ∃ t, execSideMessage m payload s = .next t ∧ Moves 0x2000000000280000000010 s t := by
  unfold execSideMessage
  refine ⟨_, rfl, ?_⟩
  exact (Moves.sub (State.linkTake_moves (F := 0x200000000000) (h_act := by
          intro z0
          refine Moves.ite ?_ ?_
          · exact (Moves.sub (State.rxTake_moves ..))
          · exact Moves.refl) ..))


theorem execDeltaMessage_moves (m : LinkHead) (payload : List Byte) (s : State) :
    ∃ t, execDeltaMessage m payload s = .next t ∧ Moves 0x2000000000280000000038 s t := by
  unfold execDeltaMessage
  refine ⟨_, rfl, ?_⟩
  exact (Moves.sub (State.linkTake_moves (F := 0x280000000028) (h_act := by
          intro z0
          refine Moves.ite ?_ ?_
          · extract_lets +onlyGivenNames v1
            exact ((Moves.sub (State.rxTake_moves ..)).step (State.storeBytes_moves ..))
          · exact Moves.refl) ..))


theorem execEndMessage_moves (m : LinkHead) (digest : List Byte) (crc count : ℕ) (s : State) :
    ∃ t, execEndMessage m digest crc count s = .next t ∧ Moves 0x2000000000280000000010 s t := by
  unfold execEndMessage
  refine ⟨_, rfl, ?_⟩
  exact (Moves.sub (State.linkTake_moves (F := 0x200000000000) (h_act := by
          intro z0
          split
          · extract_lets +onlyGivenNames v1
            exact (Moves.set_45 Moves.refl)
          · exact Moves.refl) ..))


theorem execAbortMessage_moves (m : LinkHead) (s : State) :
    ∃ t, execAbortMessage m s = .next t ∧ Moves 0x180002000000000290080204010 s t := by
  unfold execAbortMessage
  refine ⟨_, rfl, ?_⟩
  exact (Moves.sub (State.linkTake_moves (F := 0x180002000000000290080204010) (h_act := by
          intro z0
          extract_lets +onlyGivenNames v1
          extract_lets +onlyGivenNames s2
          have hs2 : Moves 0x180002000000000290080204010 z0 s2 := (Moves.set_45 Moves.refl)
          refine Moves.ite ?_ ?_
          · exact (((hs2.step (State.inc_moves ..) (Moves.at 21 rfl)).step (State.irq_moves ..) (Moves.at 21 rfl)).step (State.noSync_moves ..))
          · exact hs2) ..))


theorem execMirrorApplyDeadline_moves (s : State) :
    ∃ t, execMirrorApplyDeadline s = .next t ∧ Moves 0x18000a09000000029008021423b s t := by
  unfold execMirrorApplyDeadline
  refine ⟨_, rfl, ?_⟩
  refine Moves.ite ?_ ?_
  · exact ((Moves.sub (State.advanceTime_moves ..)).step (State.mirrorDeadline_moves ..))
  · exact Moves.refl


theorem execBulkMessage_moves (m : LinkHead) (name region : ℕ) (data : List Byte) (s : State) :
    ∃ t, execBulkMessage m name region data s = .next t ∧ Moves 0xffffffffffffffff0000280006006238 s t := by
  unfold execBulkMessage
  refine ⟨_, rfl, ?_⟩
  exact (Moves.sub (State.linkTake_moves (F := 0xffffffffffffffff0000280006006238) (h_act := by
          intro z0
          refine Moves.ite ?_ ?_
          · extract_lets +onlyGivenNames v1
            refine Moves.ite ?_ ?_
            · extract_lets +onlyGivenNames s2
              have hs2 : Moves 0xffffffffffffffff0000280006006238 z0 s2 := (Moves.sub (State.setCores_moves ..))
              clear_value s2
              exact (Moves.set_45 hs2)
            · refine Moves.ite ?_ ?_
              · refine Moves.ite ?_ ?_
                · exact (Moves.sub (State.setQueue_moves ..))
                · exact Moves.refl
              · split
                · exact (Moves.sub (State.storeBytes_moves ..))
                · exact (Moves.sub (State.setBlock_moves ..))
          · exact Moves.refl) ..))

theorem execBulkKeeper_moves (m : LinkHead) (object offset : ℕ) (data : List Byte) (s : State) :
    ∃ t, execBulkKeeper m object offset data s = .next t ∧ Moves 0xffffffffffffffff0000290000000038 s t := by
  unfold execBulkKeeper
  refine ⟨_, rfl, ?_⟩
  exact (Moves.sub (State.linkTake_moves (F := 0xffffffffffffffff0000090000000038) (h_act := by
          intro z0
          refine Moves.ite ?_ ?_
          · exact (((Moves.sub (State.storeTable_moves ..)).step (hotChange_moves ..)).step (State.showTables_moves ..))
          · exact Moves.refl) ..))


theorem execPairSyncRequest_moves (w : Who) (s : State) :
    ∃ t, execPairSyncRequest w s = .next t ∧ Moves 0x100002210f00000280080000350 s t := by
  unfold execPairSyncRequest
  refine ⟨_, rfl, ?_⟩
  exact (Moves.sub (writeThen_moves (F := 0x100002000000000280080000010) (h_effect := fun _ _ => (Moves.sub (State.pairReq_moves ..))) ..))


theorem execYieldMessage_moves (m : LinkHead) (named : ℕ) (s : State) :
    ∃ t, execYieldMessage m named s = .next t ∧ Moves 0x100006000000000280080000010 s t := by
  unfold execYieldMessage
  refine ⟨_, rfl, ?_⟩
  exact (Moves.sub (State.linkTake_moves (F := 0x100006000000000280080000010) (h_act := by
          intro z0
          refine Moves.ite ?_ ?_
          · exact (Moves.sub (State.takeOver_moves ..))
          · exact Moves.refl) ..))


theorem execDeltaEnd_moves (s : State) :
    ∃ t, execDeltaEnd s = .next t ∧ Moves 0xffffffffffffffff00083c8006170038 s t := by
  unfold execDeltaEnd
  extract_lets +onlyGivenNames v0
  refine ⟨_, rfl, ?_⟩
  refine Moves.ite ?_ ?_
  · exact (Moves.sub (State.bulkFinish_moves ..))
  · refine Moves.ite ?_ ?_
    · refine Moves.ite ?_ ?_
      · exact (Moves.sub (State.deltaFault_moves ..))
      · exact (Moves.sub (State.deltaDone_moves ..))
    · exact Moves.refl


theorem execArmNotice_moves (m : LinkHead) (identity frame : ℕ) (revert : Bool) (s : State) :
    ∃ t, execArmNotice m identity frame revert s = .next t ∧ Moves 0x2200400000290000000238 s t := by
  unfold execArmNotice
  refine ⟨_, rfl, ?_⟩
  exact (Moves.sub (State.linkTake_moves (F := 0x200400000090000000238) (h_act := by
          intro z0
          refine Moves.ite ?_ ?_
          · exact ((Moves.set_40 Moves.refl).step (State.armChange_moves ..))
          · exact Moves.refl) ..))


theorem execGoMarker_moves (m : LinkHead) (identity frame : ℕ) (s : State) :
    ∃ t, execGoMarker m identity frame s = .next t ∧ Moves 0xffffffffffffffff0000298000000238 s t := by
  unfold execGoMarker
  refine ⟨_, rfl, ?_⟩
  exact (Moves.sub (State.linkTake_moves (F := 0xffffffffffffffff0000098000000238) (h_act := by
          intro z0
          refine Moves.ite ?_ ?_
          · extract_lets +onlyGivenNames v1
            extract_lets +onlyGivenNames s2
            have hs2 : Moves 0xffffffffffffffff0000098000000238 z0 s2 := (Moves.set_40 Moves.refl)
            refine Moves.ite ?_ ?_
            · exact (hs2.step (State.startCarry_moves ..))
            · exact hs2
          · exact Moves.refl) ..))


theorem takeAuthority_moves {F : Nat} (m : LinkHead) (frame : List Byte) (done : State → List Byte → State) (h_done : ∀ y0 y1, Moves F y0 (done y0 y1)) (s : State) :
    Moves (0x1210240060000028f00000063c ||| F) s (takeAuthority m frame done s) := by
  unfold takeAuthority
  exact Moves.step Moves.refl (State.linkTake_moves (F := 0x1210240060000028f00000063c ||| F) (h_act := by
      intro z0
      refine Moves.ite ?_ ?_
      · exact (Moves.sub (State.deliver_moves ..) (Moves.or_le rfl))
      · extract_lets +onlyGivenNames s1
        have hs1 : Moves (0x1210240060000028f00000063c ||| F) z0 s1 := (Moves.sub (h_done ..) Moves.or_right)
        clear_value s1
        split
        · exact ((Moves.set_37 hs1 (Moves.or_le rfl)).step (State.sendReply_moves ..) (Moves.or_le rfl))
        · exact hs1) ..) (Moves.or_mono2 rfl rfl)


theorem State.sessionTo_moves (s : State) (st : ℕ) :
    Moves 0x800000000080000000010 s (State.sessionTo s st) := by
  unfold State.sessionTo
  exact ((Moves.sub (F := 0x800000000080000000010) (State.wr_moves ..) (Moves.at 19 rfl)).step (State.irq_moves ..) (Moves.at 19 rfl))


theorem State.updCode_moves (s : State) (c : ℕ) :
    Moves 0x800000000080000000010 s (State.updCode s c) := by
  unfold State.updCode
  exact (Moves.sub (State.wr_moves ..) (Moves.at 19 rfl))


theorem State.updRefuse_moves (s : State) (c : ℕ) :
    Moves 0x800000000080000000010 s (State.updRefuse s c).st := by
  unfold State.updRefuse
  refine Moves.stAuthDone ?_
  exact (Moves.sub (State.updCode_moves ..))


theorem State.updSoftReset_moves (s : State) :
    Moves 0x800000000080000000010 s (State.updSoftReset s) := by
  unfold State.updSoftReset
  refine Moves.ite ?_ ?_
  · exact ((Moves.sub (State.sessionTo_moves ..)).step (State.updCode_moves ..))
  · exact Moves.refl


theorem Moves.set_52 {F : Nat} {s x : State} {f52 : Update} (h : Moves F s x) (sub : 0x10000000000000 &&& F = 0x10000000000000 := by rfl) :
    Moves F s { x with upd := f52 } :=
  h.step (G := 0x10000000000000) ⟨id, Nat.le_refl _, fun p hp => by cases p <;> first | rfl | exact absurd hp (by decide), fun _ _ _ => rfl⟩ sub

theorem State.takeData_moves (s : State) (f : AuthFrame) :
    Moves 0x1210088060001008f00000063c s (State.takeData s f) := by
  unfold State.takeData
  extract_lets +onlyGivenNames v0
  extract_lets +onlyGivenNames v1
  extract_lets +onlyGivenNames s2
  have hs2 : Moves 0x1210088060001008f00000063c s s2 := by
    refine Moves.ite ?_ ?_
    · exact Moves.refl
    · exact (Moves.set_52 Moves.refl)
  clear_value s2
  extract_lets +onlyGivenNames v3
  extract_lets +onlyGivenNames v4
  extract_lets +onlyGivenNames s5
  have hs5 : Moves 0x1210088060001008f00000063c s s5 := (hs2.step (State.storeBytes_moves ..))
  clear_value s5
  extract_lets +onlyGivenNames s6
  have hs6 : Moves 0x1210088060001008f00000063c s s6 := (hs5.step (State.wr_moves ..) (Moves.at 15 rfl))
  clear_value s6
  extract_lets +onlyGivenNames s7
  have hs7 : Moves 0x1210088060001008f00000063c s s7 := (hs6.step (State.wr_moves ..) (Moves.at 19 rfl))
  clear_value s7
  extract_lets +onlyGivenNames s8
  have hs8 : Moves 0x1210088060001008f00000063c s s8 := by
    refine Moves.ite ?_ ?_
    · refine Moves.ite ?_ ?_
      · exact (hs7.step (State.sessionTo_moves ..))
      · exact hs7
    · exact hs2
  clear_value s8
  exact (hs8.step (State.sendReply_moves ..))


theorem execUpdateOpen_moves (s : State) :
    ∃ t, execUpdateOpen s = .next t ∧ Moves 0x12100c0060001008f00000063c s t := by
  unfold execUpdateOpen
  refine ⟨_, rfl, ?_⟩
  refine Moves.ite ?_ ?_
  · exact Moves.refl
  · exact (Moves.sub (State.authCommand_moves (F := 0x800000010080000000014) (h_act := by
          intro z0 z1 z2
          extract_lets +onlyGivenNames v3
          extract_lets +onlyGivenNames v4
          refine Moves.iteF (g := AuthDone.st) ?_ ?_
          · refine Moves.stAuthDone ?_
            exact (Moves.sub (State.updCode_moves ..))
          · refine Moves.iteF (g := AuthDone.st) ?_ ?_
            · exact (Moves.sub (State.updRefuse_moves ..))
            · refine Moves.iteF (g := AuthDone.st) ?_ ?_
              · exact (Moves.sub (State.updRefuse_moves ..))
              · split
                rename_i u5 hq6
                have hd7 := Moves.snd (F := 0x800000010080000000014) (s := z0) hq6 (Moves.sub (State.drawFree_moves ..))
                extract_lets +onlyGivenNames v8
                extract_lets +onlyGivenNames v9
                extract_lets +onlyGivenNames s10
                have hs10 : Moves 0x800000010080000000014 z0 s10 := ((hd7.step (State.wr_moves ..) (Moves.at 19 rfl)).step (State.wr_moves ..) (Moves.at 19 rfl))
                clear_value s10
                extract_lets +onlyGivenNames s11
                have hs11 : Moves 0x800000010080000000014 z0 s11 := ((hs10.step (State.wr_moves ..) (Moves.at 19 rfl)).step (State.wr_moves ..) (Moves.at 19 rfl))
                clear_value s11
                extract_lets +onlyGivenNames v12
                extract_lets +onlyGivenNames s13
                have hs13 : Moves 0x800000010080000000014 z0 s13 := (Moves.set_52 hs11)
                clear_value s13
                refine Moves.stAuthDone ?_
                exact (hs13.step (State.sessionTo_moves ..))) ..))


theorem execUpdateClose_moves (s : State) :
    ∃ t, execUpdateClose s = .next t ∧ Moves 0x12100c0060000008f00000063c s t := by
  unfold execUpdateClose
  refine ⟨_, rfl, ?_⟩
  refine Moves.ite ?_ ?_
  · exact Moves.refl
  · exact (Moves.sub (State.authCommand_moves (F := 0x800000000080000000010) (h_act := by
          intro z0 z1 z2
          refine Moves.iteF (g := AuthDone.st) ?_ ?_
          · refine Moves.stAuthDone ?_
            exact (Moves.sub (State.sessionTo_moves ..))
          · exact (Moves.sub (State.updRefuse_moves ..))) ..))


theorem execSessionData_moves (s : State) :
    ∃ t, execSessionData s = .next t ∧ Moves 0x12100c8060001008f00000063c s t := by
  unfold execSessionData
  refine ⟨_, rfl, ?_⟩
  split
  · refine Moves.ite ?_ ?_
    · extract_lets +onlyGivenNames s0
      have hs0 : Moves 0x12100c8060001008f00000063c s s0 := ((Moves.sub (State.takeFrame_moves ..)).step (State.takeData_moves ..))
      clear_value s0
      exact (hs0.step (State.flushOdd_moves ..))
    · exact Moves.refl
  · exact Moves.refl


theorem execSessionTimeout_moves (s : State) :
    ∃ t, execSessionTimeout s = .next t ∧ Moves 0x800000000080000000013 s t := by
  unfold execSessionTimeout
  refine ⟨_, rfl, ?_⟩
  refine Moves.ite ?_ ?_
  · exact (((Moves.sub (State.advanceTime_moves ..)).step (State.sessionTo_moves ..)).step (State.updCode_moves ..))
  · exact Moves.refl


theorem execSessionVerifyEnd_moves (s : State) :
    ∃ t, execSessionVerifyEnd s = .next t ∧ Moves 0x800000000080000000010 s t := by
  unfold execSessionVerifyEnd
  refine ⟨_, rfl, ?_⟩
  refine Moves.ite ?_ ?_
  · extract_lets +onlyGivenNames v0
    extract_lets +onlyGivenNames v1
    refine Moves.ite ?_ ?_
    · exact (Moves.sub (State.sessionTo_moves ..))
    · exact ((Moves.sub (State.sessionTo_moves ..)).step (State.updCode_moves ..))
  · exact Moves.refl


theorem State.kState_moves (s : State) (v : ℕ) :
    Moves 0x800000000080000000010 s (State.kState s v) := by
  unfold State.kState
  exact (Moves.sub (State.wr_moves ..) (Moves.at 19 rfl))


theorem State.matchDone_moves (s : State) :
    Moves 0x10000000000000 s (State.matchDone s) := by
  unfold State.matchDone
  refine Moves.ite ?_ ?_
  · exact (Moves.set_52 Moves.refl)
  · exact Moves.refl


theorem State.armActivation_moves (s : State) (instant : ℕ) (command : ℕ × ℕ) (falling : ℕ) :
    Moves 0x800000010080000000010 s (State.armActivation s instant command falling) := by
  unfold State.armActivation
  extract_lets +onlyGivenNames v0
  refine Moves.step ?_ (State.matchDone_moves ..)
  extract_lets +onlyGivenNames s1
  have hs1 : Moves 0x800000010080000000010 s s1 := (Moves.sub (State.kState_moves ..))
  clear_value s1
  exact (Moves.set_52 hs1)


theorem State.armFallback_moves (s : State) (instant cause : ℕ) :
    Moves 0xa00400010480000000238 s (State.armFallback s instant cause) := by
  unfold State.armFallback
  extract_lets +onlyGivenNames s0
  have hs0 : Moves 0xa00400010480000000238 s s0 := (((Moves.sub (State.clearMigrations_moves ..)).step (State.noteFallback_moves ..)).step (State.wr_moves ..) (Moves.at 19 rfl))
  clear_value s0
  exact (hs0.step (State.armActivation_moves ..))


theorem State.disarm'_moves (s : State) :
    Moves 0xa00400010080000000210 s (State.disarm' s) := by
  unfold State.disarm'
  extract_lets +onlyGivenNames s0
  have hs0 : Moves 0xa00400010080000000210 s s0 := (Moves.sub (State.kState_moves ..))
  clear_value s0
  extract_lets +onlyGivenNames v1
  extract_lets +onlyGivenNames s2
  have hs2 : Moves 0xa00400010080000000210 s s2 := (Moves.set_52 hs0)
  clear_value s2
  exact ((hs2.step (State.wr_moves ..) (Moves.at 19 rfl)).step (State.archive_moves ..))


theorem State.bootStaged_moves (s : State) :
    Moves 0xffffffffffffffff001e69580000263d s (State.bootStaged s) := by
  unfold State.bootStaged
  extract_lets +onlyGivenNames v0
  extract_lets +onlyGivenNames s1
  have hs1 : Moves 0xffffffffffffffff001e69580000263d s s1 := (Moves.sub (State.writeLevel_moves ..))
  clear_value s1
  exact (((hs1.step (State.startKeeper_moves ..)).step (State.firmwareStarts_moves ..)).step (State.kState_moves ..))


theorem State.eState_moves (s : State) (v : ℕ) :
    Moves 0x800000000080000000010 s (State.eState s v) := by
  unfold State.eState
  exact (Moves.sub (State.wr_moves ..) (Moves.at 19 rfl))


theorem State.rotateTo_moves (s : State) (stage : ℕ) (left : List ℕ) :
    Moves 0x800000010080000000010 s (State.rotateTo s stage left) := by
  unfold State.rotateTo
  extract_lets +onlyGivenNames s0
  have hs0 : Moves 0x800000010080000000010 s s0 := (Moves.sub (State.wr_moves ..) (Moves.at 19 rfl))
  clear_value s0
  exact (Moves.set_52 hs0)


theorem State.startRotation_moves (s : State) (slot : ℕ) (left : List ℕ) :
    Moves 0x800000010080000000010 s (State.startRotation s slot left) := by
  unfold State.startRotation
  extract_lets +onlyGivenNames v0
  extract_lets +onlyGivenNames s1
  have hs1 : Moves 0x800000010080000000010 s s1 := (Moves.set_52 Moves.refl)
  clear_value s1
  exact (hs1.step (State.rotateTo_moves ..))


theorem State.fallbackExec_moves (s : State) (cause slot : ℕ) (left : List ℕ) :
    Moves 0xa00400010480000000238 s (State.fallbackExec s cause slot left) := by
  unfold State.fallbackExec
  extract_lets +onlyGivenNames s0
  have hs0 : Moves 0xa00400010480000000238 s s0 := ((((Moves.sub (State.clearMigrations_moves ..)).step (State.noteFallback_moves ..)).step (State.wr_moves ..) (Moves.at 19 rfl)).step (State.eState_moves ..))
  clear_value s0
  exact (hs0.step (State.startRotation_moves ..))


theorem State.endRotation_moves (s : State) :
    Moves 0x880000010090000000038 s (State.endRotation s) := by
  unfold State.endRotation
  extract_lets +onlyGivenNames v0
  extract_lets +onlyGivenNames s1
  have hs1 : Moves 0x880000010090000000038 s s1 := (Moves.sub (State.runExecutive_moves ..))
  clear_value s1
  extract_lets +onlyGivenNames v2
  refine Moves.ite ?_ ?_
  · extract_lets +onlyGivenNames s3
    have hs3 : Moves 0x880000010090000000038 s s3 := (hs1.step (State.writeLevel_moves ..))
    clear_value s3
    extract_lets +onlyGivenNames s4
    have hs4 : Moves 0x880000010090000000038 s s4 := (((hs3.step (State.wr_moves ..) (Moves.at 19 rfl)).step (State.eState_moves ..)).step (State.irq_moves ..) (Moves.at 19 rfl))
    clear_value s4
    exact (Moves.set_52 hs4)
  · exact ((hs1.step (State.writeLevel_moves ..)).step (State.eState_moves ..))


theorem State.rotationLook_moves (s : State) :
    Moves 0xa80400010590000000238 s (State.rotationLook s) := by
  unfold State.rotationLook
  refine Moves.ite ?_ ?_
  · exact Moves.refl
  · extract_lets +onlyGivenNames v0
    extract_lets +onlyGivenNames f1
    have hf1 : ∀ y2, Moves 0xa80400010590000000238 y2 (f1 y2) := by
      intro y2
      exact (Moves.set_44 Moves.refl)
    clear_value f1
    split
    · refine Moves.ite ?_ ?_
      · extract_lets +onlyGivenNames v3
        extract_lets +onlyGivenNames s4
        have hs4 : Moves 0xa80400010590000000238 s s4 := ((Moves.set_52 Moves.refl).trans (hf1 ..))
        clear_value s4
        extract_lets +onlyGivenNames s5
        have hs5 : Moves 0xa80400010590000000238 s s5 := (hs4.step (State.rotateTo_moves ..))
        clear_value s5
        refine Moves.ite ?_ ?_
        · exact (hs5.step (State.endRotation_moves ..))
        · exact hs5
      · refine Moves.ite ?_ ?_
        · extract_lets +onlyGivenNames s6
          have hs6 : Moves 0xa80400010590000000238 s s6 := (hf1 ..)
          clear_value s6
          refine Moves.ite ?_ ?_
          · exact (hs6.step (State.fallbackExec_moves ..))
          · exact (hs6.step (State.rotateTo_moves ..))
        · exact Moves.refl
    · exact Moves.refl


theorem State.rotationStuck_moves (s : State) (retry : ℕ) :
    Moves 0xa00400010480000000238 s (State.rotationStuck s retry) := by
  unfold State.rotationStuck
  refine Moves.ite ?_ ?_
  · exact (Moves.sub (State.fallbackExec_moves ..))
  · exact (Moves.sub (State.rotateTo_moves ..))


theorem State.rotationStep_moves (s : State) :
    Moves 0xffffffffffffffff00105f017fde7bf8 s (State.rotationStep s) := by
  unfold State.rotationStep
  extract_lets +onlyGivenNames s0
  have hs0 : Moves 0xffffffffffffffff00105f017fde7bf8 s s0 := (Moves.sub (State.rotationLook_moves ..))
  clear_value s0
  split
  · split
    · extract_lets +onlyGivenNames s1
      have hs1 : Moves 0xffffffffffffffff00105f017fde7bf8 s s1 := (hs0.step (State.loadExecutive_moves ..))
      clear_value s1
      extract_lets +onlyGivenNames v2
      extract_lets +onlyGivenNames s3
      have hs3 : Moves 0xffffffffffffffff00105f017fde7bf8 s s3 := (Moves.set_52 hs1)
      clear_value s3
      refine Moves.ite ?_ ?_
      · extract_lets +onlyGivenNames s4
        have hs4 : Moves 0xffffffffffffffff00105f017fde7bf8 s s4 := (hs3.step (State.rotateTo_moves ..))
        clear_value s4
        refine Moves.ite ?_ ?_
        · exact (hs4.step (State.endRotation_moves ..))
        · exact hs4
      · exact (hs3.step (State.rotateTo_moves ..))
    · refine Moves.ite ?_ ?_
      · extract_lets +onlyGivenNames s5
        have hs5 : Moves 0xffffffffffffffff00105f017fde7bf8 s s5 := (hs0.step (State.rotateTo_moves ..))
        clear_value s5
        refine Moves.ite ?_ ?_
        · exact (hs5.step (State.endRotation_moves ..))
        · exact hs5
      · exact (hs0.step (State.rotationStuck_moves ..))
  · split
    · extract_lets +onlyGivenNames v6
      extract_lets +onlyGivenNames v7
      extract_lets +onlyGivenNames s8
      have hs8 : Moves 0xffffffffffffffff00105f017fde7bf8 s s8 := (Moves.set_44 hs0)
      clear_value s8
      split
      · rename_i u9 hq10
        have hd11 := Moves.fst (F := 0xffffffffffffffff00105f017fde7bf8) (s := s) hq10 (hs8.step (State.startShunt_moves ..))
        exact (hd11.step (State.rotateTo_moves ..))
      · rename_i u12 _ hq13
        have hd14 := Moves.fst (F := 0xffffffffffffffff00105f017fde7bf8) (s := s) hq13 (hs8.step (State.startShunt_moves ..))
        exact ((Moves.set_44 hd14).step (State.rotationStuck_moves ..))
    · exact (hs0.step (State.rotateTo_moves ..))
  · refine Moves.ite ?_ ?_
    · exact ((hs0.step (State.returnDie_moves ..)).step (State.rotateTo_moves ..))
    · exact (hs0.step (State.rotateTo_moves ..))
  · refine Moves.ite ?_ ?_
    · exact hs0
    · refine Moves.ite ?_ ?_
      · exact (hs0.step (State.rotateTo_moves ..))
      · exact (hs0.step (State.rotateTo_moves ..))
  · exact hs0


theorem execUpdateActivate_moves (s : State) :
    ∃ t, execUpdateActivate s = .next t ∧ Moves 0xffffffffffffffff001e69f80000263d s t := by
  unfold execUpdateActivate
  extract_lets +onlyGivenNames s0
  have hs0 : Moves 0xffffffffffffffff001e69f80000263d s s0 := (Moves.sub (State.authCommand_moves (F := 0xffffffffffffffff001e69580000263d) (h_act := by
          intro z1 z2 z3
          extract_lets +onlyGivenNames v4
          refine Moves.iteF (g := AuthDone.st) ?_ ?_
          · split
            · exact (Moves.sub (State.updRefuse_moves ..))
            · refine Moves.stAuthDone ?_
              exact ((Moves.sub (State.startRotation_moves ..)).step (State.eState_moves ..))
          · refine Moves.iteF (g := AuthDone.st) ?_ ?_
            · refine Moves.iteF (g := AuthDone.st) ?_ ?_
              · exact (Moves.sub (State.updRefuse_moves ..))
              · refine Moves.stAuthDone ?_
                exact (Moves.sub (State.armFallback_moves ..))
            · refine Moves.iteF (g := AuthDone.st) ?_ ?_
              · refine Moves.iteF (g := AuthDone.st) ?_ ?_
                · refine Moves.stAuthDone ?_
                  exact (Moves.sub (State.bootStaged_moves ..))
                · exact (Moves.sub (State.updRefuse_moves ..))
              · split
                · exact (Moves.sub (State.updRefuse_moves ..))
                · refine Moves.stAuthDone ?_
                  exact (Moves.sub (State.armActivation_moves ..))) ..))
  clear_value s0
  refine ⟨_, rfl, ?_⟩
  refine Moves.ite ?_ ?_
  · extract_lets +onlyGivenNames s5
    have hs5 : Moves 0xffffffffffffffff001e69f80000263d s s5 := (hs0.step (State.partnerSend_moves ..))
    clear_value s5
    exact (Moves.set_52 hs5)
  · exact hs0


theorem execPartnerDoneDeadline_moves (s : State) :
    ∃ t, execPartnerDoneDeadline s = .next t ∧ Moves 0xa00400010080000000213 s t := by
  unfold execPartnerDoneDeadline
  refine ⟨_, rfl, ?_⟩
  refine Moves.ite ?_ ?_
  · exact ((Moves.sub (State.advanceTime_moves ..)).step (State.disarm'_moves ..))
  · exact Moves.refl


theorem execAuthorityReply_moves (m : LinkHead) (frame : List Byte) (s : State) :
    ∃ t, execAuthorityReply m frame s = .next t ∧ Moves 0x1210240060001028f00000063c s t := by
  unfold execAuthorityReply
  refine ⟨_, rfl, ?_⟩
  exact (Moves.sub (takeAuthority_moves (F := 0x10000000000000) (h_done := by
          intro z0 z1
          extract_lets +onlyGivenNames v2
          extract_lets +onlyGivenNames s3
          have hs3 : Moves 0x10000000000000 z0 s3 := (Moves.set_52 Moves.refl)
          clear_value s3
          refine Moves.ite ?_ ?_
          · exact ((Moves.set_52 hs3).step (State.matchDone_moves ..))
          · exact hs3) ..))

theorem Moves.set_35_52 {F : Nat} {s x : State} {f35 : Bool} {f52 : Update} (h : Moves F s x) (sub : 0x10000800000000 &&& F = 0x10000800000000 := by rfl) :
    Moves F s { x with firmware := f35, upd := f52 } :=
  h.step (G := 0x10000800000000) ⟨id, Nat.le_refl _, fun p hp => by cases p <;> first | rfl | exact absurd hp (by decide), fun _ _ _ => rfl⟩ sub

theorem State.startOutage_moves (s : State) :
    Moves 0xa80c40010090800000238 s (State.startOutage s) := by
  unfold State.startOutage
  extract_lets +onlyGivenNames v0
  extract_lets +onlyGivenNames v1
  extract_lets +onlyGivenNames s2
  have hs2 : Moves 0xa80c40010090800000238 s s2 := (Moves.sub (State.writeLevel_moves ..))
  clear_value s2
  extract_lets +onlyGivenNames s3
  have hs3 : Moves 0xa80c40010090800000238 s s3 := (((hs2.step (State.settle_moves ..)).step (State.kState_moves ..)).step (State.wr_moves ..) (Moves.at 19 rfl))
  clear_value s3
  extract_lets +onlyGivenNames s4
  have hs4 : Moves 0xa80c40010090800000238 s s4 := (Moves.foldl (fun _ _ => (Moves.sub (State.retainDie_moves ..))) hs3)
  clear_value s4
  exact (Moves.set_35_52 hs4)


theorem Moves.set_45_52 {F : Nat} {s x : State} {f45 : Pair} {f52 : Update} (h : Moves F s x) (sub : 0x10200000000000 &&& F = 0x10200000000000 := by rfl) :
    Moves F s { x with pair := f45, upd := f52 } :=
  h.step (G := 0x10200000000000) ⟨id, Nat.le_refl _, fun p hp => by cases p <;> first | rfl | exact absurd hp (by decide), fun _ _ _ => rfl⟩ sub

theorem State.endOutage_moves (s : State) :
    Moves 0x800840010280000000010 s (State.endOutage s) := by
  unfold State.endOutage
  extract_lets +onlyGivenNames s0
  have hs0 : Moves 0x800840010280000000010 s s0 := (Moves.foldl (fun _ _ => (Moves.sub (State.retainDie_moves ..))) Moves.refl)
  clear_value s0
  extract_lets +onlyGivenNames s1
  have hs1 : Moves 0x800840010280000000010 s s1 := by
    refine Moves.ite ?_ ?_
    · exact (hs0.step (State.kState_moves ..))
    · exact ((hs0.step (State.kState_moves ..)).step (State.irq_moves ..) (Moves.at 19 rfl))
  clear_value s1
  exact (Moves.set_45_52 hs1)


theorem State.activationAtTick_moves (s : State) :
    Moves 0xa80c40010290800000238 s (State.activationAtTick s) := by
  unfold State.activationAtTick
  split
  · refine Moves.ite ?_ ?_
    · exact Moves.refl
    · refine Moves.ite ?_ ?_
      · exact (Moves.sub (State.disarm'_moves ..))
      · exact (Moves.sub (State.startOutage_moves ..))
  · split
    · refine Moves.ite ?_ ?_
      · exact (Moves.sub (State.endOutage_moves ..))
      · exact Moves.refl
    · exact Moves.refl
  · exact Moves.refl


theorem State.fallbackOutage_moves (s : State) (cause : ℕ) :
    Moves 0xa80400010480800000238 s (State.fallbackOutage s cause) := by
  unfold State.fallbackOutage
  extract_lets +onlyGivenNames s0
  have hs0 : Moves 0xa80400010480800000238 s s0 := ((Moves.sub (State.writeLevel_moves ..)).step (State.clearMigrations_moves ..))
  clear_value s0
  extract_lets +onlyGivenNames s1
  have hs1 : Moves 0xa80400010480800000238 s s1 := (hs0.step (State.noteFallback_moves ..))
  clear_value s1
  exact (Moves.set_35_52 hs1)


theorem State.updCtl_moves (s : State) (v : ℕ) :
    Moves 0x800000010080000000010 s (State.updCtl s v) := by
  unfold State.updCtl
  extract_lets +onlyGivenNames v0
  extract_lets +onlyGivenNames s1
  have hs1 : Moves 0x800000010080000000010 s s1 := by
    refine Moves.ite ?_ ?_
    · exact (Moves.sub (State.wr_moves ..) (Moves.at 19 rfl))
    · exact Moves.refl
  clear_value s1
  refine Moves.ite ?_ ?_
  · extract_lets +onlyGivenNames s2
    have hs2 : Moves 0x800000010080000000010 s s2 := (hs1.step (State.wr_moves ..) (Moves.at 19 rfl))
    clear_value s2
    exact (Moves.set_52 hs2)
  · exact hs1


theorem execFirmwareCopyEnd_moves (good : Bool) (s : State) :
    ∃ t, execFirmwareCopyEnd good s = .next t ∧ Moves 0xa8240001048080000223b s t := by
  unfold execFirmwareCopyEnd
  refine ⟨_, rfl, ?_⟩
  refine Moves.ite ?_ ?_
  · extract_lets +onlyGivenNames s0
    have hs0 : Moves 0xa8240001048080000223b s s0 := (Moves.sub (State.advanceTime_moves ..))
    clear_value s0
    refine Moves.ite ?_ ?_
    · extract_lets +onlyGivenNames s1
      have hs1 : Moves 0xa8240001048080000223b s s1 := (hs0.step (State.startKeeper_moves ..))
      clear_value s1
      exact (Moves.set_52 hs1)
    · refine Moves.ite ?_ ?_
      · exact hs0
      · exact (hs0.step (State.fallbackOutage_moves ..))
  · exact Moves.refl


theorem execUpdResume_moves (w : Who) (s : State) :
    ∃ t, execUpdResume w s = .next t ∧ Moves 0xa10f00010080000000350 s t := by
  unfold execUpdResume
  refine ⟨_, rfl, ?_⟩
  exact (Moves.sub (writeThen_moves (F := 0x800000010080000000010) (h_effect := fun _ _ => (Moves.sub (State.updCtl_moves ..))) ..))


theorem execResumeDeadline_moves (s : State) :
    ∃ t, execResumeDeadline s = .next t ∧ Moves 0xa8040001048080000023b s t := by
  unfold execResumeDeadline
  refine ⟨_, rfl, ?_⟩
  refine Moves.ite ?_ ?_
  · exact ((Moves.sub (State.advanceTime_moves ..)).step (State.fallbackOutage_moves ..))
  · exact Moves.refl


theorem execRotationStep_moves (s : State) :
    ∃ t, execRotationStep s = .next t ∧ Moves 0xffffffffffffffff00105f017fde7bf8 s t := by
  unfold execRotationStep
  refine ⟨_, rfl, ?_⟩
  refine Moves.ite ?_ ?_
  · exact (Moves.sub (State.rotationStep_moves ..))
  · exact Moves.refl


theorem execUpdHealthy_moves (w : Who) (s : State) :
    ∃ t, execUpdHealthy w s = .next t ∧ Moves 0xa10f00010080000000350 s t := by
  unfold execUpdHealthy
  refine ⟨_, rfl, ?_⟩
  exact (Moves.sub (writeThen_moves (F := 0x800000010080000000010) (h_effect := fun _ _ => (Moves.sub (State.updCtl_moves ..))) ..))


theorem State.serviceEntry_moves {F : Nat} (s : State) (tag : ℕ) (act : State → QEntry → State) (h_act : ∀ y0 y1, Moves F y0 (act y0 y1)) :
    Moves (0x80000000a00 ||| F) s (State.serviceEntry s tag act) := by
  unfold State.serviceEntry
  split
  · refine Moves.ite ?_ ?_
    · exact ((Moves.sub (State.popQueue_moves ..) (Moves.or_le rfl)).step (h_act ..) Moves.or_right)
    · exact Moves.refl
  · exact Moves.refl


theorem State.confirmLevel_moves (s : State) (l : ℕ) (raise : Bool) :
    Moves 0xa80400000480000000238 s (State.confirmLevel s l raise) := by
  unfold State.confirmLevel
  extract_lets +onlyGivenNames v0
  extract_lets +onlyGivenNames s1
  have hs1 : Moves 0xa80400000480000000238 s s1 := by
    refine Moves.ite ?_ ?_
    · exact (Moves.sub (State.setCell_moves ..))
    · exact Moves.refl
  clear_value s1
  extract_lets +onlyGivenNames s2
  have hs2 : Moves 0xa80400000480000000238 s s2 := ((hs1.step (State.writeLevel_moves ..)).step (State.migrate_moves ..))
  clear_value s2
  extract_lets +onlyGivenNames s3
  have hs3 : Moves 0xa80400000480000000238 s s3 := by
    refine Moves.ite ?_ ?_
    · exact (hs2.step (State.kState_moves ..))
    · exact (hs2.step (State.eState_moves ..))
  clear_value s3
  exact (((Moves.set_46 hs3).step (State.irq_moves ..) (Moves.at 19 rfl)).step (State.archive_moves ..))


theorem State.tellPartner_moves (s : State) (instant : ℕ) :
    Moves 0x8000000004 s (State.tellPartner s instant) := by
  unfold State.tellPartner
  split
  · split
    rename_i u0 hq1
    have hd2 := Moves.snd (F := 0x8000000004) (s := s) hq1 (Moves.sub (State.drawFree_moves ..))
    extract_lets +onlyGivenNames v3
    extract_lets +onlyGivenNames v4
    exact (hd2.step (State.partnerSend_moves ..))
  · exact Moves.refl


theorem State.trialEnds_moves (s : State) (l : ℕ) :
    Moves 0xa8040001048800000023c s (State.trialEnds s l) := by
  unfold State.trialEnds
  refine Moves.ite ?_ ?_
  · exact Moves.refl
  · refine Moves.ite ?_ ?_
    · exact (Moves.sub (State.confirmLevel_moves ..))
    · refine Moves.ite ?_ ?_
      · extract_lets +onlyGivenNames v0
        extract_lets +onlyGivenNames s1
        have hs1 : Moves 0xa8040001048800000023c s s1 := (Moves.sub (State.armFallback_moves ..))
        clear_value s1
        refine Moves.ite ?_ ?_
        · exact (hs1.step (State.tellPartner_moves ..))
        · exact hs1
      · exact (Moves.sub (State.fallbackExec_moves ..))


theorem execExecutiveHealthMark_moves (s : State) :
    ∃ t, execExecutiveHealthMark s = .next t ∧ Moves 0x800000010080000000a10 s t := by
  unfold execExecutiveHealthMark
  refine ⟨_, rfl, ?_⟩
  exact (Moves.sub (State.serviceEntry_moves (F := 0x800000010080000000010) (h_act := by
          intro z0 z1
          extract_lets +onlyGivenNames v2
          extract_lets +onlyGivenNames v3
          refine Moves.ite ?_ ?_
          · extract_lets +onlyGivenNames v4
            extract_lets +onlyGivenNames s5
            have hs5 : Moves 0x800000010080000000010 z0 s5 := (Moves.set_52 Moves.refl)
            clear_value s5
            refine Moves.ite ?_ ?_
            · exact (hs5.step (State.wr_moves ..) (Moves.at 19 rfl))
            · exact hs5
          · exact Moves.refl) ..))

theorem execUpdateConfirm_moves (s : State) :
    ∃ t, execUpdateConfirm s = .next t ∧ Moves 0x12100e8060000048f00000063c s t := by
  unfold execUpdateConfirm
  extract_lets +onlyGivenNames v0
  refine ⟨_, rfl, ?_⟩
  exact (Moves.sub (State.authCommand_moves (F := 0xa80400000480000000238) (h_act := by
          intro z1 z2 z3
          extract_lets +onlyGivenNames v4
          refine Moves.iteF (g := AuthDone.st) ?_ ?_
          · exact (Moves.sub (State.updRefuse_moves ..))
          · refine Moves.iteF (g := AuthDone.st) ?_ ?_
            · exact (Moves.sub (State.updRefuse_moves ..))
            · refine Moves.stAuthDone ?_
              exact (Moves.sub (State.confirmLevel_moves ..))) ..))


theorem execTrialDeadline_moves (s : State) :
    ∃ t, execTrialDeadline s = .next t ∧ Moves 0xa8040001048800000023c s t := by
  unfold execTrialDeadline
  refine ⟨_, rfl, ?_⟩
  exact ((Moves.sub (State.trialEnds_moves ..)).step (State.trialEnds_moves ..))


theorem State.settingsAnswer_moves (s : State) (e : QEntry) (v : ℕ) :
    Moves 0x600000080000000610 s (State.settingsAnswer s e v) := by
  unfold State.settingsAnswer
  exact (Moves.sub (State.putEntry_moves ..))


theorem State.settingsFill_moves (s : State) (e : QEntry) (o : ℕ) (body : List Byte) :
    Moves 0x600000080000000638 s (State.settingsFill s e o body) := by
  unfold State.settingsFill
  refine Moves.ite ?_ ?_
  · exact (Moves.sub (State.settingsAnswer_moves ..))
  · exact ((Moves.sub (State.storeBytes_moves ..)).step (State.settingsAnswer_moves ..))


theorem execSettingsRead_moves (s : State) :
    ∃ t, execSettingsRead s = .next t ∧ Moves 0x200600000080000000e38 s t := by
  unfold execSettingsRead
  refine ⟨_, rfl, ?_⟩
  exact (Moves.sub (State.serviceEntry_moves (F := 0x200600000080000000638) (h_act := by
          intro z0 z1
          extract_lets +onlyGivenNames v2
          refine Moves.ite ?_ ?_
          · exact Moves.refl
          · split
            · exact (Moves.sub (State.settingsAnswer_moves ..))
            · refine Moves.ite ?_ ?_
              · extract_lets +onlyGivenNames v3
                refine Moves.ite ?_ ?_
                · exact (Moves.sub (State.settingsFill_moves ..))
                · exact (Moves.sub (State.settingsAnswer_moves ..))
              · split
                · exact ((Moves.sub (State.noteTwin_moves ..)).step (State.settingsFill_moves ..))
                · exact ((Moves.sub (State.noteTwin_moves ..)).step (State.settingsAnswer_moves ..))) ..))

theorem execSettingsWrite_moves (s : State) :
    ∃ t, execSettingsWrite s = .next t ∧ Moves 0x80600000080000000e38 s t := by
  unfold execSettingsWrite
  refine ⟨_, rfl, ?_⟩
  exact (Moves.sub (State.serviceEntry_moves (F := 0x80600000080000000638) (h_act := by
          intro z0 z1
          extract_lets +onlyGivenNames v2
          extract_lets +onlyGivenNames v3
          refine Moves.ite ?_ ?_
          · exact Moves.refl
          · split
            · exact (Moves.sub (State.settingsAnswer_moves ..))
            · extract_lets +onlyGivenNames v4
              refine Moves.ite ?_ ?_
              · exact (Moves.sub (State.settingsAnswer_moves ..))
              · extract_lets +onlyGivenNames v5
                refine Moves.ite ?_ ?_
                · extract_lets +onlyGivenNames v6
                  extract_lets +onlyGivenNames v7
                  extract_lets +onlyGivenNames s8
                  have hs8 : Moves 0x80600000080000000638 z0 s8 := (Moves.sub (State.storeBytes_moves ..))
                  clear_value s8
                  exact ((hs8.step (State.storeBytes_moves ..)).step (State.settingsAnswer_moves ..))
                · exact ((Moves.sub (State.twinWrite_moves ..)).step (State.settingsAnswer_moves ..))) ..))

theorem execNvProtect_moves (s : State) :
    ∃ t, execNvProtect s = .next t ∧ Moves 0x1210058060000008f00000063c s t := by
  unfold execNvProtect
  refine ⟨_, rfl, ?_⟩
  exact (Moves.sub (State.authCommand_moves (F := 0x180000000080000000038) (h_act := by
          intro z0 z1 z2
          extract_lets +onlyGivenNames s3
          have hs3 : Moves 0x180000000080000000038 z0 s3 := (Moves.sub (State.wr_moves ..) (Moves.at 16 rfl))
          clear_value s3
          refine Moves.stAuthDone ?_
          exact (hs3.step (State.twinWrite_moves ..))) ..))


theorem deadlineLatch_moves (s : State) :
    Moves 0x800000000080000000010 s (deadlineLatch s) := by
  unfold deadlineLatch
  exact (Moves.sub (State.wr_moves ..) (Moves.at 19 rfl))


theorem execUpdDeadlineRead_moves (w : Who) (s : State) :
    ∃ t, execUpdDeadlineRead w s = .next t ∧ Moves 0x800600000080000000310 s t := by
  unfold execUpdDeadlineRead
  refine ⟨_, rfl, ?_⟩
  exact (Moves.sub (State.reading_moves (F := 0x800000000080000000110) (h_act := fun _ => ((Moves.sub (deadlineLatch_moves ..)).step (State.reply_moves ..))) ..))


end Sys2Proof.Machine
end

