-- ==== Sys2Proof/Laws/MovesFrame.lean ====
section
/-! SUPPORT.  What each operation of the power, the Field die and the frame can do to the state, said once: the parts it may
change (a mask, one bit a part of `Safety.lean`), that it keeps the state sane and that it draws free values in order.
A lemma `Moves.set_…` says it of one record update. -/

open Sys2Proof Sys2Proof.Machine Sys2Proof.Bits
namespace Sys2Proof.Machine
set_option Elab.async false

theorem Moves.set_0_38 {F : Nat} {s x : State} {f0 : ℕ} {f38 : Exch} (h : Moves F s x) (sub : 0x4000000001 &&& F = 0x4000000001 := by rfl) :
    Moves F s { x with time := f0, exch := f38 } :=
  h.step (G := 0x4000000001) ⟨id, Nat.le_refl _, fun p hp => by cases p <;> first | rfl | exact absurd hp (by decide), fun _ _ _ => rfl⟩ sub

theorem State.slewTo_moves (s : State) (t : ℕ) :
    Moves 0x4000000084000000013 s (State.slewTo s t) := by
  unfold State.slewTo
  extract_lets +onlyGivenNames v0
  extract_lets +onlyGivenNames v1
  extract_lets +onlyGivenNames s2
  have hs2 : Moves 0x4000000084000000013 s s2 := (Moves.sub (State.advanceTo_moves ..))
  clear_value s2
  extract_lets +onlyGivenNames v3
  extract_lets +onlyGivenNames s4
  have hs4 : Moves 0x4000000084000000013 s s4 := (Moves.set_0_38 hs2)
  clear_value s4
  refine Moves.ite ?_ ?_
  · exact (hs4.step (State.wr_moves ..) (Moves.at 10 rfl))
  · exact hs4


theorem State.countTick_moves (s : State) (t : ℕ) :
    Moves 0xffffffffffffffff0000080000004210 s (State.countTick s t) := by
  unfold State.countTick
  extract_lets +onlyGivenNames v0
  extract_lets +onlyGivenNames v1
  extract_lets +onlyGivenNames s2
  have hs2 : Moves 0xffffffffffffffff0000080000004210 s s2 := by
    refine Moves.ite ?_ ?_
    · exact (Moves.sub (State.wr_moves ..) (Moves.at 10 rfl))
    · exact Moves.refl
  clear_value s2
  extract_lets +onlyGivenNames s3
  have hs3 : Moves 0xffffffffffffffff0000080000004210 s s3 := ((hs2.step (State.wr2_moves ..) (Moves.at 10 rfl)).step (State.wr_moves ..) (Moves.at 10 rfl))
  clear_value s3
  extract_lets +onlyGivenNames s4
  have hs4 : Moves 0xffffffffffffffff0000080000004210 s s4 := ((hs3.step (State.irq_moves ..) (Moves.at 10 rfl)).step (State.routerEdges_moves ..))
  clear_value s4
  refine Moves.ite ?_ ?_
  · exact (((hs4.step (State.irq_moves ..) (Moves.at 10 rfl)).step (State.routerEdges_moves ..)).step (State.heldOverTokens_moves ..))
  · exact hs4


theorem Moves.set_22_23 {F : Nat} {s x : State} {f22 : SMap ℕ} {f23 : SMap ℕ} (h : Moves F s x) (sub : 0xc00000 &&& F = 0xc00000 := by rfl) :
    Moves F s { x with skipped := f22, dieFlags := f23 } :=
  h.step (G := 0xc00000) ⟨id, Nat.le_refl _, fun p hp => by cases p <;> first | rfl | exact absurd hp (by decide), fun _ _ _ => rfl⟩ sub

theorem State.dieTick_moves (s : State) (d : ℕ) :
    Moves 0x30000000080000c00038 s (State.dieTick s d) := by
  unfold State.dieTick
  extract_lets +onlyGivenNames s0
  have hs0 : Moves 0x30000000080000c00038 s s0 := (Moves.sub (State.store_moves ..))
  clear_value s0
  extract_lets +onlyGivenNames s1
  have hs1 : Moves 0x30000000080000c00038 s s1 := (hs0.step (State.store_moves ..))
  clear_value s1
  extract_lets +onlyGivenNames s2
  have hs2 : Moves 0x30000000080000c00038 s s2 := (hs1.step (State.wr_moves ..) (Moves.at 12 rfl))
  clear_value s2
  extract_lets +onlyGivenNames s3
  have hs3 : Moves 0x30000000080000c00038 s s3 := ((hs2.step (State.wr_moves ..) (Moves.at 13 rfl)).step (State.wr_moves ..) (Moves.at 13 rfl))
  clear_value s3
  exact (Moves.set_22_23 hs3)


theorem Moves.set_16_18_19_20 {F : Nat} {s x : State} {f16 : Frame} {f18 : SMap (List ℕ)} {f19 : SMap (List ℕ)} {f20 : SMap (List ℕ)} (h : Moves F s x) (sub : 0x1d0000 &&& F = 0x1d0000 := by rfl) :
    Moves F s { x with frame := f16, rowsEnded := f18, rowsStarted := f19, rowsDone := f20 } :=
  h.step (G := 0x1d0000) ⟨id, Nat.le_refl _, fun p hp => by cases p <;> first | rfl | exact absurd hp (by decide), fun _ _ _ => rfl⟩ sub

theorem State.dieTicks_moves (s : State) :
    Moves 0x100000030000000080000dd0038 s (State.dieTicks s) := by
  unfold State.dieTicks
  extract_lets +onlyGivenNames v0
  extract_lets +onlyGivenNames s1
  have hs1 : Moves 0x100000030000000080000dd0038 s s1 := (Moves.foldl (fun _ _ => (Moves.sub (State.wrB_moves ..) (Moves.at 40 rfl))) Moves.refl)
  clear_value s1
  extract_lets +onlyGivenNames s2
  have hs2 : Moves 0x100000030000000080000dd0038 s s2 := (Moves.foldl (fun _ _ => (Moves.sub (State.dieTick_moves ..))) hs1)
  clear_value s2
  exact (Moves.set_16_18_19_20 hs2)


theorem State.linkTick_moves (s : State) (ended : ℕ) :
    Moves 0x100002008000000288080000010 s (State.linkTick s ended) := by
  unfold State.linkTick
  extract_lets +onlyGivenNames v0
  extract_lets +onlyGivenNames s1
  have hs1 : Moves 0x100002008000000288080000010 s s1 := (Moves.set_39 Moves.refl)
  clear_value s1
  extract_lets +onlyGivenNames s2
  have hs2 : Moves 0x100002008000000288080000010 s s2 := (hs1.step (State.mirrorAbandon_moves ..))
  clear_value s2
  extract_lets +onlyGivenNames v3
  extract_lets +onlyGivenNames s4
  have hs4 : Moves 0x100002008000000288080000010 s s4 := (Moves.set_45 hs2)
  clear_value s4
  extract_lets +onlyGivenNames s5
  have hs5 : Moves 0x100002008000000288080000010 s s5 := by
    refine Moves.ite ?_ ?_
    · exact (hs4.step (State.setPair_moves ..))
    · exact hs4
  clear_value s5
  refine Moves.ite ?_ ?_
  · exact (hs5.step (State.partnerSend_moves ..))
  · exact hs5


theorem State.queueSources_moves (s : State) :
    Moves 0x100000000000000080000000010 s (State.queueSources s) := by
  unfold State.queueSources
  exact (Moves.foldl (fun _ _ => (Moves.sub (State.occur_moves ..))) Moves.refl)


theorem State.latchTask_moves (s : State) (t : ℕ) :
    Moves 0x100000000000000080080000010 s (State.latchTask s t) := by
  unfold State.latchTask
  refine Moves.ite ?_ ?_
  · extract_lets +onlyGivenNames s0
    have hs0 : Moves 0x100000000000000080080000010 s s0 := ((Moves.sub (F := 0x100000000000000080080000010) (State.wr_moves ..) (Moves.at 40 rfl)).step (State.wr_moves ..) (Moves.at 40 rfl))
    clear_value s0
    extract_lets +onlyGivenNames s1
    have hs1 : Moves 0x100000000000000080080000010 s s1 := (hs0.step (State.wr_moves ..) (Moves.at 40 rfl))
    clear_value s1
    extract_lets +onlyGivenNames s2
    have hs2 : Moves 0x100000000000000080080000010 s s2 := (hs1.step (State.wr_moves ..) (Moves.at 40 rfl))
    clear_value s2
    refine Moves.ite ?_ ?_
    · extract_lets +onlyGivenNames v3
      extract_lets +onlyGivenNames s4
      have hs4 : Moves 0x100000000000000080080000010 s s4 := ((hs2.step (State.wr_moves ..) (Moves.at 40 rfl)).step (State.wr_moves ..) (Moves.at 40 rfl))
      clear_value s4
      exact ((Moves.set_31 hs4).step (State.irq_moves ..) (Moves.at 40 rfl))
    · exact hs2
  · exact (((Moves.sub (F := 0x100000000000000080080000010) (State.wr_moves ..) (Moves.at 40 rfl)).step (State.wr_moves ..) (Moves.at 40 rfl)).step (State.wr_moves ..) (Moves.at 40 rfl))


theorem State.latchTriggers_moves (s : State) :
    Moves 0x100000000000000080080000038 s (State.latchTriggers s) := by
  unfold State.latchTriggers
  extract_lets +onlyGivenNames s0
  have hs0 : Moves 0x100000000000000080080000038 s s0 := by
    refine Moves.ite ?_ ?_
    · exact (Moves.foldl (fun _ _ => (Moves.sub (State.wr_moves ..) (Moves.at 40 rfl))) Moves.refl)
    · exact (Moves.foldl (fun _ _ => (Moves.sub (State.latchTask_moves ..))) (Moves.sub (State.queueSources_moves ..)))
  clear_value s0
  exact (hs0.step (State.eventFlags_moves ..))


theorem Moves.set_49 {F : Nat} {s x : State} {f49 : FieldIO} (h : Moves F s x) (sub : 0x2000000000000 &&& F = 0x2000000000000 := by rfl) :
    Moves F s { x with fld := f49 } :=
  h.step (G := 0x2000000000000) ⟨id, Nat.le_refl _, fun p hp => by cases p <;> first | rfl | exact absurd hp (by decide), fun _ _ _ => rfl⟩ sub

theorem State.fieldCut_moves (s : State) :
    Moves 0x2084000010028 s (State.fieldCut s) := by
  unfold State.fieldCut
  extract_lets +onlyGivenNames v0
  extract_lets +onlyGivenNames s1
  have hs1 : Moves 0x2084000010028 s s1 := (Moves.set_16 Moves.refl)
  clear_value s1
  extract_lets +onlyGivenNames v2
  extract_lets +onlyGivenNames s3
  have hs3 : Moves 0x2084000010028 s s3 := by
    refine Moves.ite ?_ ?_
    · exact ((hs1.step (State.bindInputs_moves ..)).step (State.setStn_moves ..))
    · exact hs1
  clear_value s3
  exact (Moves.set_49 hs3)


theorem State.cutFrame_moves (s : State) :
    Moves 0x100050200400002284080010238 s (State.cutFrame s) := by
  unfold State.cutFrame
  extract_lets +onlyGivenNames s0
  have hs0 : Moves 0x100050200400002284080010238 s s0 := (((Moves.sub (State.fieldCut_moves ..)).step (State.cutStations_moves ..)).step (State.loopbacks_moves ..))
  clear_value s0
  extract_lets +onlyGivenNames s1
  have hs1 : Moves 0x100050200400002284080010238 s s1 := (hs0.step (State.copyMem_moves ..))
  clear_value s1
  extract_lets +onlyGivenNames s2
  have hs2 : Moves 0x100050200400002284080010238 s s2 := (hs1.step (State.wr_moves ..) (Moves.at 24 rfl))
  clear_value s2
  exact ((Moves.set_16 hs2).step (State.noteSide_moves ..))


theorem State.firstFrame_moves (s : State) :
    Moves 0x200000 s (State.firstFrame s) := by
  unfold State.firstFrame
  extract_lets +onlyGivenNames v0
  exact (Moves.set_21 Moves.refl)


theorem State.drainInputs_moves (s : State) :
    Moves 0xffffffffffffffff0000084000000238 s (State.drainInputs s) := by
  unfold State.drainInputs
  exact ((Moves.sub (State.drainSlasel_moves ..)).step (State.drainCopies_moves ..))


theorem State.beginFrame_moves (s : State) :
    Moves 0xffffffffffffffff00127dc787217f78 s (State.beginFrame s) := by
  unfold State.beginFrame
  extract_lets +onlyGivenNames s0
  have hs0 : Moves 0xffffffffffffffff00127dc787217f78 s s0 := ((((Moves.sub (State.drainInputs_moves ..)).step (State.shuntAtTick_moves ..)).step (State.rotationLook_moves ..)).step (State.bulkAtTick_moves ..))
  clear_value s0
  extract_lets +onlyGivenNames v1
  extract_lets +onlyGivenNames s2
  have hs2 : Moves 0xffffffffffffffff00127dc787217f78 s s2 := ((Moves.set_21 hs0).step (State.changeAtTick_moves ..))
  clear_value s2
  extract_lets +onlyGivenNames s3
  have hs3 : Moves 0xffffffffffffffff00127dc787217f78 s s3 := by
    refine Moves.step ?_ (tablesAtTick_moves ..)
    refine Moves.ite ?_ ?_
    · exact (hs2.step (State.boundarySwaps_moves ..))
    · exact hs2
  clear_value s3
  extract_lets +onlyGivenNames s4
  have hs4 : Moves 0xffffffffffffffff00127dc787217f78 s s4 := ((hs3.step (State.modeAtTick_moves ..)).step (State.hotAtTick_moves ..))
  clear_value s4
  extract_lets +onlyGivenNames v5
  extract_lets +onlyGivenNames s6
  have hs6 : Moves 0xffffffffffffffff00127dc787217f78 s s6 := ((Moves.set_21 hs4).step (State.firstFrame_moves ..))
  clear_value s6
  exact ((hs6.step (State.latchTriggers_moves ..)).step (State.cutFrame_moves ..))


theorem State.tornAtTick_moves (s : State) :
    Moves 0x8000000000000 s (State.tornAtTick s) := by
  unfold State.tornAtTick
  refine Moves.ite ?_ ?_
  · exact (Moves.set_51 Moves.refl)
  · exact Moves.refl


theorem State.tick_moves (s : State) (t : ℕ) :
    Moves 0xffffffffffffffff001a7dcf87fd7f7b s (State.tick s t) := by
  unfold State.tick
  extract_lets +onlyGivenNames s0
  have hs0 : Moves 0xffffffffffffffff001a7dcf87fd7f7b s s0 := ((Moves.sub (State.tornAtTick_moves ..)).step (State.slewTo_moves ..))
  clear_value s0
  extract_lets +onlyGivenNames v1
  extract_lets +onlyGivenNames s2
  have hs2 : Moves 0xffffffffffffffff001a7dcf87fd7f7b s s2 := (hs0.step (State.countTick_moves ..))
  clear_value s2
  extract_lets +onlyGivenNames v3
  extract_lets +onlyGivenNames s4
  have hs4 : Moves 0xffffffffffffffff001a7dcf87fd7f7b s s4 := (Moves.set_16 hs2)
  clear_value s4
  extract_lets +onlyGivenNames s5
  have hs5 : Moves 0xffffffffffffffff001a7dcf87fd7f7b s s5 := (((hs4.step (State.linkTick_moves ..)).step (State.activationAtTick_moves ..)).step (State.dieTicks_moves ..))
  clear_value s5
  refine Moves.step ?_ (State.gatesAtTick_moves ..)
  refine Moves.ite ?_ ?_
  · exact hs5
  · exact (hs5.step (State.beginFrame_moves ..))


theorem State.endSpread_moves (s : State) (d : ℕ) :
    Moves 0x220c0000008000001423b s (State.endSpread s d) := by
  unfold State.endSpread
  extract_lets +onlyGivenNames v0
  extract_lets +onlyGivenNames s1
  have hs1 : Moves 0x220c0000008000001423b s s1 := (Moves.sub (State.advanceTime_moves ..))
  clear_value s1
  extract_lets +onlyGivenNames s2
  have hs2 : Moves 0x220c0000008000001423b s s2 := (Moves.foldl (fun _ _ => (Moves.sub (State.spreadWord_moves ..))) hs1)
  clear_value s2
  extract_lets +onlyGivenNames s3
  have hs3 : Moves 0x220c0000008000001423b s s3 := (Moves.foldl (fun _ _ => (Moves.sub (State.storeQuiet_moves ..))) hs2)
  clear_value s3
  extract_lets +onlyGivenNames s4
  have hs4 : Moves 0x220c0000008000001423b s s4 := ((hs3.step (State.storeQuiet_moves ..)).step (State.storeQuiet_moves ..))
  clear_value s4
  extract_lets +onlyGivenNames s5
  have hs5 : Moves 0x220c0000008000001423b s s5 := (hs4.step (State.storeQuiet_moves ..))
  clear_value s5
  extract_lets +onlyGivenNames s6
  have hs6 : Moves 0x220c0000008000001423b s s6 := ((hs5.step (State.wr_moves ..) (Moves.at 13 rfl)).step (State.wr_moves ..) (Moves.at 13 rfl))
  clear_value s6
  extract_lets +onlyGivenNames s7
  have hs7 : Moves 0x220c0000008000001423b s s7 := (hs6.step (State.wr_moves ..) (Moves.at 13 rfl))
  clear_value s7
  extract_lets +onlyGivenNames s8
  have hs8 : Moves 0x220c0000008000001423b s s8 := ((hs7.step (State.irq_moves ..) (Moves.at 13 rfl)).step (State.routerEdge_moves ..))
  clear_value s8
  exact ((Moves.set_16 hs8).step (State.raiseReady_moves ..))


theorem Moves.set_19 {F : Nat} {s x : State} {f19 : SMap (List ℕ)} (h : Moves F s x) (sub : 0x80000 &&& F = 0x80000 := by rfl) :
    Moves F s { x with rowsStarted := f19 } :=
  h.step (G := 0x80000) ⟨id, Nat.le_refl _, fun p hp => by cases p <;> first | rfl | exact absurd hp (by decide), fun _ _ _ => rfl⟩ sub

theorem State.noteRun_moves (s : State) (d r t : ℕ) :
    Moves 0x100000000000000080000080010 s (State.noteRun s d r t) := by
  unfold State.noteRun
  extract_lets +onlyGivenNames s0
  have hs0 : Moves 0x100000000000000080000080010 s s0 := by
    refine Moves.ite ?_ ?_
    · exact Moves.refl
    · exact ((Moves.sub (F := 0x100000000000000080000080010) (State.inc_moves ..) (Moves.at 40 rfl)).step (State.wr_moves ..) (Moves.at 40 rfl))
  clear_value s0
  exact (Moves.set_19 hs0)


theorem State.startEngine_moves (s : State) (d e entry : ℕ) (x : Slot) :
    Moves 0xffffffffffffffff0000080008022010 s (State.startEngine s d e entry x) := by
  unfold State.startEngine
  split
  · exact ((Moves.sub (State.setSbox_moves ..)).step (State.wr_moves_any ..))
  · exact ((Moves.sub (State.wr_moves_any ..)).step (State.wr_moves_any ..))
  · exact (Moves.sub (State.dmaRowStart_moves ..))
  · refine Moves.ite ?_ ?_
    · exact Moves.refl
    · exact ((Moves.sub (State.slotEntry_moves_any ..)).step (State.setSlot_moves ..))


theorem State.startRow_moves (s : State) (d r : ℕ) :
    Moves 0xffffffffffffffff00003e00081a223c s (State.startRow s d r) := by
  unfold State.startRow
  extract_lets +onlyGivenNames v0
  extract_lets +onlyGivenNames v1
  extract_lets +onlyGivenNames v2
  extract_lets +onlyGivenNames v3
  extract_lets +onlyGivenNames v4
  extract_lets +onlyGivenNames v5
  extract_lets +onlyGivenNames v6
  extract_lets +onlyGivenNames v7
  extract_lets +onlyGivenNames s8
  have hs8 : Moves 0xffffffffffffffff00003e00081a223c s s8 := (((Moves.sub (State.setSlot_moves ..)).step (State.wr_moves ..) (Moves.at 10 rfl)).step (State.wr_moves ..) (Moves.at 10 rfl))
  clear_value s8
  extract_lets +onlyGivenNames s9
  have hs9 : Moves 0xffffffffffffffff00003e00081a223c s s9 := by
    refine Moves.ite ?_ ?_
    · exact (hs8.step (State.wr_moves ..) (Moves.at 11 rfl))
    · exact hs8
  clear_value s9
  refine Moves.ite ?_ ?_
  · exact (hs9.step (State.shuntRowStart_moves ..))
  · refine Moves.ite ?_ ?_
    · exact (Moves.set_20 hs9)
    · refine Moves.ite ?_ ?_
      · exact hs9
      · exact ((hs9.step (State.noteRun_moves ..)).step (State.startEngine_moves ..))

theorem State.expireBudget_moves (s : State) (d e : ℕ) (x : Slot) :
    Moves 0xffffffffffffffff00083c008247323c s (State.expireBudget s d e x) := by
  unfold State.expireBudget
  refine Moves.ite ?_ ?_
  · exact (Moves.sub (State.endRow_moves ..))
  · refine Moves.ite ?_ ?_
    · exact (Moves.sub (State.shuntRowExpires_moves ..))
    · split
      · exact (Moves.sub (State.stopSbox_moves ..))
      · exact ((Moves.sub (State.cutPass_moves ..)).step (State.cutOff_moves ..))
      · exact (Moves.sub (State.cutDmaRow_moves ..))
      · exact (Moves.sub (State.cutEngine_moves_any ..))


theorem State.startSafe_moves (s : State) :
    Moves 0x10000 s (State.startSafe s) := by
  unfold State.startSafe
  exact (Moves.set_16 Moves.refl)


theorem State.startBuild_moves (s : State) :
    Moves 0x10000000000080000010010 s (State.startBuild s) := by
  unfold State.startBuild
  refine Moves.ite ?_ ?_
  · exact Moves.refl
  · extract_lets +onlyGivenNames s0
    have hs0 : Moves 0x10000000000080000010010 s s0 := (Moves.sub (State.wr_moves ..) (Moves.at 24 rfl))
    clear_value s0
    exact (Moves.set_16 hs0)


theorem State.forceStop_moves (s : State) (m : ℕ) :
    Moves 0x8000c288400000298400214238 s (State.forceStop s m) := by
  unfold State.forceStop
  extract_lets +onlyGivenNames v0
  extract_lets +onlyGivenNames s1
  have hs1 : Moves 0x8000c288400000298400214238 s s1 := ((Moves.sub (F := 0x8000c288400000298400214238) (State.wr_moves ..) (Moves.at 11 rfl)).step (State.wr_moves ..) (Moves.at 11 rfl))
  clear_value s1
  extract_lets +onlyGivenNames s2
  have hs2 : Moves 0x8000c288400000298400214238 s s2 := ((hs1.step (State.wr2_moves ..) (Moves.at 11 rfl)).step (State.inc_moves ..) (Moves.at 11 rfl))
  clear_value s2
  extract_lets +onlyGivenNames s3
  have hs3 : Moves 0x8000c288400000298400214238 s s3 := ((hs2.step (State.irq_moves ..) (Moves.at 11 rfl)).step (State.archive_moves ..))
  clear_value s3
  extract_lets +onlyGivenNames s4
  have hs4 : Moves 0x8000c288400000298400214238 s s4 := by
    refine Moves.ite ?_ ?_
    · exact (Moves.foldl (fun _ _ => (Moves.sub (State.failDie_moves ..))) hs3)
    · exact hs3
  clear_value s4
  refine Moves.step ?_ (State.startSafe_moves ..)
  refine Moves.step ?_ (State.yieldOn_moves ..)
  extract_lets +onlyGivenNames s5
  have hs5 : Moves 0x8000c288400000298400214238 s s5 := (hs4.step (State.enterStop_moves ..))
  clear_value s5
  exact (Moves.set_34 hs5)


theorem State.sampleRun_moves (s : State) :
    Moves 0x8000c288400000298400214238 s (State.sampleRun s) := by
  unfold State.sampleRun
  extract_lets +onlyGivenNames v0
  refine Moves.ite ?_ ?_
  · exact (Moves.sub (State.forceStop_moves ..))
  · extract_lets +onlyGivenNames s1
    have hs1 : Moves 0x8000c288400000298400214238 s s1 := (Moves.sub (State.wrMin_moves ..) (Moves.at 11 rfl))
    clear_value s1
    refine Moves.ite ?_ ?_
    · exact ((hs1.step (State.enterStop_moves ..)).step (State.startSafe_moves ..))
    · extract_lets +onlyGivenNames s2
      have hs2 : Moves 0x8000c288400000298400214238 s s2 := by
        refine Moves.ite ?_ ?_
        · exact ((hs1.step (State.clearRequest_moves ..)).step (State.enterMode_moves ..))
        · exact hs1
      clear_value s2
      exact (Moves.set_16 hs2)


theorem State.sampleHold_moves (s : State) :
    Moves 0x80010000000000090000214010 s (State.sampleHold s) := by
  unfold State.sampleHold
  refine Moves.ite ?_ ?_
  · exact ((Moves.sub (State.enterStop_moves ..)).step (State.startSafe_moves ..))
  · exact ((Moves.set_16 Moves.refl).step (State.startBuild_moves ..))


theorem State.sample_moves (s : State) :
    Moves 0x8001c288400000298400214238 s (State.sample s) := by
  unfold State.sample
  extract_lets +onlyGivenNames v0
  extract_lets +onlyGivenNames s1
  have hs1 : Moves 0x8001c288400000298400214238 s s1 := (Moves.set_16 Moves.refl)
  clear_value s1
  extract_lets +onlyGivenNames s2
  have hs2 : Moves 0x8001c288400000298400214238 s s2 := by
    refine Moves.ite ?_ ?_
    · exact hs1
    · split
      · exact (hs1.step (State.sampleRun_moves ..))
      · exact (hs1.step (State.sampleRun_moves ..))
      · exact (hs1.step (State.sampleHold_moves ..))
      · exact (hs1.step (State.startSafe_moves ..))
  clear_value s2
  refine Moves.ite ?_ ?_
  · exact hs2
  · exact (Moves.set_16 hs2)


theorem State.standbyDone_moves (s : State) :
    Moves 0x180002200400000290080204210 s (State.standbyDone s) := by
  unfold State.standbyDone
  split
  · refine Moves.ite ?_ ?_
    · exact (Moves.sub (State.compareImage_moves ..))
    · exact Moves.refl
  · exact Moves.refl


theorem State.afterExchange_moves (s : State) :
    Moves 0x180012200400000298080214210 s (State.afterExchange s) := by
  unfold State.afterExchange
  extract_lets +onlyGivenNames v0
  extract_lets +onlyGivenNames s1
  have hs1 : Moves 0x180012200400000298080214210 s s1 := (Moves.set_45 Moves.refl)
  clear_value s1
  exact ((((hs1.step (State.wr_moves ..) (Moves.at 21 rfl)).step (State.startBuild_moves ..)).step (State.mirrorClose_moves ..)).step (State.standbyDone_moves ..))


theorem State.endCommit_moves (s : State) :
    Moves 0x380012200c00000298080214238 s (State.endCommit s) := by
  unfold State.endCommit
  extract_lets +onlyGivenNames s0
  have hs0 : Moves 0x380012200c00000298080214238 s s0 := (((Moves.sub (State.gatherAll_moves ..)).step (State.exchangeBuffers_moves ..)).step (State.routerEdges_moves ..))
  clear_value s0
  extract_lets +onlyGivenNames v1
  extract_lets +onlyGivenNames s2
  have hs2 : Moves 0x380012200c00000298080214238 s s2 := (Moves.set_16 hs0)
  clear_value s2
  extract_lets +onlyGivenNames s3
  have hs3 : Moves 0x380012200c00000298080214238 s s3 := by
    refine Moves.ite ?_ ?_
    · exact (hs2.step (State.clearRequest_moves ..))
    · exact hs2
  clear_value s3
  exact (hs3.step (State.afterExchange_moves ..))


theorem State.endSafe_moves (s : State) :
    Moves 0x380012200400000298080214238 s (State.endSafe s) := by
  unfold State.endSafe
  extract_lets +onlyGivenNames s0
  have hs0 : Moves 0x380012200400000298080214238 s s0 := ((Moves.sub (State.copyMem_moves ..)).step (State.exchangeBuffers_moves ..))
  clear_value s0
  exact ((Moves.set_16 hs0).step (State.afterExchange_moves ..))


theorem State.endBuild_moves (s : State) :
    Moves 0x10000000000084000010038 s (State.endBuild s) := by
  unfold State.endBuild
  extract_lets +onlyGivenNames s0
  have hs0 : Moves 0x10000000000084000010038 s s0 := (Moves.sub (State.buildOutputs_moves ..))
  clear_value s0
  extract_lets +onlyGivenNames v1
  extract_lets +onlyGivenNames s2
  have hs2 : Moves 0x10000000000084000010038 s s2 := ((hs0.step (State.add_moves ..) (Moves.at 24 rfl)).step (State.wr_moves ..) (Moves.at 24 rfl))
  clear_value s2
  extract_lets +onlyGivenNames s3
  have hs3 : Moves 0x10000000000084000010038 s s3 := (hs2.step (State.wr_moves ..) (Moves.at 24 rfl))
  clear_value s3
  exact (Moves.set_16 hs3)


theorem State.fskShow_moves (s : State) (k : ℕ) :
    Moves 0x100000080000000010 s (State.fskShow s k) := by
  unfold State.fskShow
  extract_lets +onlyGivenNames v0
  extract_lets +onlyGivenNames v1
  extract_lets +onlyGivenNames s2
  have hs2 : Moves 0x100000080000000010 s s2 := ((Moves.sub (F := 0x100000080000000010) (State.wr_moves ..) (Moves.at 4 rfl)).step (State.wr_moves ..) (Moves.at 4 rfl))
  clear_value s2
  extract_lets +onlyGivenNames s3
  have hs3 : Moves 0x100000080000000010 s s3 := (hs2.step (State.wrB_moves ..) (Moves.at 4 rfl))
  clear_value s3
  extract_lets +onlyGivenNames v4
  extract_lets +onlyGivenNames s5
  have hs5 : Moves 0x100000080000000010 s s5 := ((hs3.step (State.wr_moves ..) (Moves.at 4 rfl)).step (State.wr_moves ..) (Moves.at 4 rfl))
  clear_value s5
  exact ((hs5.step (State.wr_moves ..) (Moves.at 4 rfl)).step (State.wrB_moves ..) (Moves.at 4 rfl))


theorem State.drive_moves (s : State) :
    Moves 0x100002080000000010 s (State.drive s) := by
  unfold State.drive
  extract_lets +onlyGivenNames v0
  extract_lets +onlyGivenNames s1
  have hs1 : Moves 0x100002080000000010 s s1 := (Moves.set_49 Moves.refl)
  clear_value s1
  extract_lets +onlyGivenNames v2
  extract_lets +onlyGivenNames s3
  have hs3 : Moves 0x100002080000000010 s s3 := by
    refine Moves.ite ?_ ?_
    · exact (Moves.set_49 hs1)
    · exact hs1
  clear_value s3
  exact ((hs3.step (State.fskShow_moves ..)).step (State.fskShow_moves ..))


theorem State.fieldRelease_moves (s : State) (payload : List Byte) (tablet : Bool) :
    Moves 0x180002080000000010 s (State.fieldRelease s payload tablet) := by
  unfold State.fieldRelease
  extract_lets +onlyGivenNames v0
  extract_lets +onlyGivenNames f1
  have hf1 : ∀ y2 y3, Moves 0x180002080000000010 y2 (f1 y2 y3).1 := by
    intro y2 y3
    refine Moves.ite1 ?_ ?_
    · refine Moves.ite1 ?_ ?_
      · exact Moves.refl
      · extract_lets +onlyGivenNames v4
        extract_lets +onlyGivenNames v5
        dsimp -zeta only
        refine Moves.ite ?_ ?_
        · exact Moves.refl
        · exact (Moves.sub (State.inc_moves ..) (Moves.at 3 rfl))
    · exact Moves.refl
  clear_value f1
  extract_lets +onlyGivenNames v6
  extract_lets +onlyGivenNames v7
  split
  rename_i u8 _ hq9
  have hd10 := Moves.fst (F := 0x180002080000000010) (s := s) hq9 (hf1 ..)
  split
  rename_i u11 _ hq12
  have hd13 := Moves.fst (F := 0x180002080000000010) (s := s) hq12 (hd10.trans (hf1 ..))
  extract_lets +onlyGivenNames v14
  extract_lets +onlyGivenNames v15
  exact ((Moves.set_49 hd13).step (State.drive_moves ..))


theorem State.release_moves (s : State) :
    Moves 0xffffffffffffffff0002284000010010 s (State.release s) := by
  unfold State.release
  extract_lets +onlyGivenNames s0
  have hs0 : Moves 0xffffffffffffffff0002284000010010 s s0 := (Moves.sub (State.startOutputs_moves ..))
  clear_value s0
  extract_lets +onlyGivenNames s1
  have hs1 : Moves 0xffffffffffffffff0002284000010010 s s1 := by
    refine Moves.ite ?_ ?_
    · refine Moves.ite ?_ ?_
      · exact hs0
      · exact (hs0.step (State.fieldRelease_moves ..))
    · exact Moves.refl
  clear_value s1
  exact ((Moves.set_16 hs1).step (State.afterRelease_moves ..))


theorem execTick_moves (s : State) :
    ∃ t, execTick s = .next t ∧ Moves 0xffffffffffffffff001a7dcf87fd7f7b s t := by
  unfold execTick
  refine ⟨_, rfl, ?_⟩
  refine Moves.ite ?_ ?_
  · exact (Moves.sub (State.tick_moves ..))
  · exact Moves.refl


theorem Moves.set_16_38 {F : Nat} {s x : State} {f16 : Frame} {f38 : Exch} (h : Moves F s x) (sub : 0x4000010000 &&& F = 0x4000010000 := by rfl) :
    Moves F s { x with frame := f16, exch := f38 } :=
  h.step (G := 0x4000010000) ⟨id, Nat.le_refl _, fun p hp => by cases p <;> first | rfl | exact absurd hp (by decide), fun _ _ _ => rfl⟩ sub

theorem execCutCopyEnd_moves (s : State) :
    ∃ t, execCutCopyEnd s = .next t ∧ Moves 0x1000000000028c00001003b s t := by
  unfold execCutCopyEnd
  refine ⟨_, rfl, ?_⟩
  refine Moves.ite ?_ ?_
  · extract_lets +onlyGivenNames s0
    have hs0 : Moves 0x1000000000028c00001003b s s0 := (Moves.sub (State.advanceTo_moves ..))
    clear_value s0
    extract_lets +onlyGivenNames v1
    extract_lets +onlyGivenNames v2
    extract_lets +onlyGivenNames v3
    extract_lets +onlyGivenNames s4
    have hs4 : Moves 0x1000000000028c00001003b s s4 := (Moves.set_16_38 hs0)
    clear_value s4
    extract_lets +onlyGivenNames s5
    have hs5 : Moves 0x1000000000028c00001003b s s5 := ((Moves.foldl (fun _ _ => (Moves.sub (State.writeCopy_moves ..))) hs4).step (State.wr_moves ..) (Moves.at 24 rfl))
    clear_value s5
    exact ((hs5.step (State.wr_moves ..) (Moves.at 24 rfl)).step (State.mirrorOpen_moves ..))
  · exact Moves.refl


theorem execSpreadEnd_moves (die : ℕ) (s : State) :
    ∃ t, execSpreadEnd die s = .next t ∧ Moves 0x220c0000008000001423b s t := by
  unfold execSpreadEnd
  refine ⟨_, rfl, ?_⟩
  refine Moves.ite ?_ ?_
  · exact (Moves.sub (State.endSpread_moves ..))
  · exact Moves.refl


theorem execSpreadByDeadline_moves (s : State) :
    ∃ t, execSpreadByDeadline s = .next t ∧ Moves 0x8000000080000010013 s t := by
  unfold execSpreadByDeadline
  refine ⟨_, rfl, ?_⟩
  refine Moves.ite ?_ ?_
  · extract_lets +onlyGivenNames s0
    have hs0 : Moves 0x8000000080000010013 s s0 := (Moves.sub (State.advanceTime_moves ..))
    clear_value s0
    extract_lets +onlyGivenNames v1
    refine Moves.ite ?_ ?_
    · exact hs0
    · exact ((Moves.set_16 hs0).step (State.irq_moves ..) (Moves.at 11 rfl))
  · exact Moves.refl


theorem execRowStart_moves (die row : ℕ) (s : State) :
    ∃ t, execRowStart die row s = .next t ∧ Moves 0xffffffffffffffff00003e00081a223f s t := by
  unfold execRowStart
  refine ⟨_, rfl, ?_⟩
  refine Moves.ite ?_ ?_
  · exact ((Moves.sub (State.advanceTo_moves ..)).step (State.startRow_moves ..))
  · exact Moves.refl

theorem execBudgetExpiry_moves (die engine : ℕ) (s : State) :
    ∃ t, execBudgetExpiry die engine s = .next t ∧ Moves 0xffffffffffffffff00083c008247323f s t := by
  unfold execBudgetExpiry
  refine ⟨_, rfl, ?_⟩
  split
  · refine Moves.ite ?_ ?_
    · exact ((Moves.sub (State.advanceTo_moves ..)).step (State.expireBudget_moves ..))
    · exact Moves.refl
  · exact Moves.refl


theorem execCommitSample_moves (s : State) :
    ∃ t, execCommitSample s = .next t ∧ Moves 0x8001c28840000029840021423b s t := by
  unfold execCommitSample
  refine ⟨_, rfl, ?_⟩
  refine Moves.ite ?_ ?_
  · exact ((Moves.sub (State.advanceTo_moves ..)).step (State.sample_moves ..))
  · exact Moves.refl


theorem execCommitEnd_moves (s : State) :
    ∃ t, execCommitEnd s = .next t ∧ Moves 0x380012200c0000029808021423b s t := by
  unfold execCommitEnd
  refine ⟨_, rfl, ?_⟩
  refine Moves.ite ?_ ?_
  · exact ((Moves.sub (State.advanceTime_moves ..)).step (State.endCommit_moves ..))
  · exact Moves.refl


theorem execSafeCopyEnd_moves (s : State) :
    ∃ t, execSafeCopyEnd s = .next t ∧ Moves 0x38001220040000029808021423b s t := by
  unfold execSafeCopyEnd
  refine ⟨_, rfl, ?_⟩
  refine Moves.ite ?_ ?_
  · exact ((Moves.sub (State.advanceTo_moves ..)).step (State.endSafe_moves ..))
  · exact Moves.refl


theorem execReleaseBuildEnd_moves (s : State) :
    ∃ t, execReleaseBuildEnd s = .next t ∧ Moves 0x1000000000008400001003b s t := by
  unfold execReleaseBuildEnd
  refine ⟨_, rfl, ?_⟩
  refine Moves.ite ?_ ?_
  · exact ((Moves.sub (State.advanceTo_moves ..)).step (State.endBuild_moves ..))
  · exact Moves.refl


theorem execRelease_moves (s : State) :
    ∃ t, execRelease s = .next t ∧ Moves 0xffffffffffffffff0002284000010013 s t := by
  unfold execRelease
  refine ⟨_, rfl, ?_⟩
  refine Moves.ite ?_ ?_
  · exact ((Moves.sub (State.advanceTime_moves ..)).step (State.release_moves ..))
  · exact Moves.refl


theorem execOutputFrameStart_moves (port : ℕ) (s : State) :
    ∃ t, execOutputFrameStart port s = .next t ∧ Moves (0x104200400000284000000213 ||| Moves.page (29 + port)) s t := by
  unfold execOutputFrameStart
  refine ⟨_, rfl, ?_⟩
  split
  · exact Moves.refl
  · extract_lets +onlyGivenNames s0
    have hs0 : Moves (0x104200400000284000000213 ||| Moves.page (29 + port)) s s0 := (Moves.sub (State.advanceTime_moves ..) (Moves.or_le rfl))
    clear_value s0
    extract_lets +onlyGivenNames s1
    have hs1 : Moves (0x104200400000284000000213 ||| Moves.page (29 + port)) s s1 := (hs0.step (State.sendOutput_moves ..) (Moves.or_mono rfl))
    clear_value s1
    extract_lets +onlyGivenNames v2
    extract_lets +onlyGivenNames s3
    have hs3 : Moves (0x104200400000284000000213 ||| Moves.page (29 + port)) s s3 := (Moves.set_38 hs1 (Moves.or_le rfl))
    clear_value s3
    exact ((hs3.step (State.kick_moves ..) (Moves.or_le rfl)).step (State.afterRelease_moves ..) (Moves.or_le rfl))


theorem State.idleCycle_moves (s : State) :
    Moves 0x100000000000084000000013 s (State.idleCycle s) := by
  unfold State.idleCycle
  exact (Moves.foldl (fun _ _ => (Moves.sub (State.kick_moves ..))) (Moves.sub (State.advanceTo_moves ..)))


theorem State.disarm_moves (s : State) :
    Moves 0x100002080000000010 s (State.disarm s) := by
  unfold State.disarm
  exact ((Moves.set_49 Moves.refl).step (State.drive_moves ..))


theorem Moves.set_48_49 {F : Nat} {s x : State} {f48 : ℕ} {f49 : FieldIO} (h : Moves F s x) (sub : 0x3000000000000 &&& F = 0x3000000000000 := by rfl) :
    Moves F s { x with fieldStale := f48, fld := f49 } :=
  h.step (G := 0x3000000000000) ⟨id, Nat.le_refl _, fun p hp => by cases p <;> first | rfl | exact absurd hp (by decide), fun _ _ _ => rfl⟩ sub

theorem State.queueWrite_moves (s : State) (page off word : ℕ) :
    Moves 0x3000000000000 s (State.queueWrite s page off word) := by
  unfold State.queueWrite
  refine Moves.ite ?_ ?_
  · exact (Moves.set_48_49 Moves.refl)
  · exact Moves.refl


theorem State.proxySet_moves (s : State) (f : FieldDef) (v : ℕ) :
    Moves (0x3080000000010 ||| Moves.page f.code) s (State.proxySet s f v) := by
  unfold State.proxySet
  extract_lets +onlyGivenNames s0
  have hs0 : Moves (0x3080000000010 ||| Moves.page f.code) s s0 := (Moves.sub (State.wr_moves ..) (Moves.or_mono rfl))
  clear_value s0
  exact (hs0.step (State.queueWrite_moves ..) (Moves.or_le rfl))

theorem State.proxySet_moves_any (s : State) (f : FieldDef) (v : ℕ) :
    Moves 0xffffffffffffffff0003080000000010 s (State.proxySet s f v) :=
  (State.proxySet_moves ..).sub (Moves.page_any rfl)


theorem State.setTrim_moves (s : State) (st : ℕ) :
    Moves 0x80000080000000010 s (State.setTrim s st) := by
  unfold State.setTrim
  refine Moves.ite ?_ ?_
  · exact Moves.refl
  · exact ((Moves.sub (F := 0x80000080000000010) (State.wr_moves ..) (Moves.at 3 rfl)).step (State.irq_moves ..) (Moves.at 3 rfl))


theorem State.trimStart_moves (s : State) (k pins : ℕ) :
    Moves 0x80002080000000010 s (State.trimStart s k pins) := by
  unfold State.trimStart
  extract_lets +onlyGivenNames s0
  have hs0 : Moves 0x80002080000000010 s s0 := ((Moves.sub (F := 0x80002080000000010) (State.wr_moves ..) (Moves.at 3 rfl)).step (State.wr_moves ..) (Moves.at 3 rfl))
  clear_value s0
  exact (Moves.set_49 hs0)


theorem State.trimDrive_moves (s : State) (k step : ℕ) :
    Moves 0x100002080000000010 s (State.trimDrive s k step) := by
  unfold State.trimDrive
  extract_lets +onlyGivenNames v0
  exact ((Moves.set_49 Moves.refl).step (State.drive_moves ..))


theorem State.trimAbandon_moves (s : State) :
    Moves 0x80003080000000010 s (State.trimAbandon s) := by
  unfold State.trimAbandon
  refine Moves.ite ?_ ?_
  · extract_lets +onlyGivenNames v0
    extract_lets +onlyGivenNames s1
    have hs1 : Moves 0x80003080000000010 s s1 := ((Moves.sub (F := 0x80003080000000010) (State.proxySet_moves ..) (Moves.at 3 rfl)).step (State.proxySet_moves ..) (Moves.at 3 rfl))
    clear_value s1
    extract_lets +onlyGivenNames s2
    have hs2 : Moves 0x80003080000000010 s s2 := by
      refine Moves.ite ?_ ?_
      · exact hs1
      · exact (hs1.step (State.proxySet_moves ..) (Moves.at 3 rfl))
    clear_value s2
    exact ((Moves.set_49 hs2).step (State.setTrim_moves ..))
  · exact Moves.refl


theorem State.trimWrite_moves (s : State) (v : ℕ) :
    Moves 0x180002080000000010 s (State.trimWrite s v) := by
  unfold State.trimWrite
  extract_lets +onlyGivenNames v0
  extract_lets +onlyGivenNames v1
  extract_lets +onlyGivenNames v2
  refine Moves.ite ?_ ?_
  · refine Moves.ite ?_ ?_
    · extract_lets +onlyGivenNames v3
      exact ((Moves.set_49 Moves.refl).step (State.setTrim_moves ..))
    · exact Moves.refl
  · extract_lets +onlyGivenNames s4
    have hs4 : Moves 0x180002080000000010 s s4 := by
      refine Moves.ite ?_ ?_
      · exact Moves.refl
      · exact (Moves.sub (State.trimStart_moves ..))
    clear_value s4
    exact ((hs4.step (State.setTrim_moves ..)).step (State.trimDrive_moves ..))


theorem State.fskTx_moves (s : State) (k v : ℕ) :
    Moves 0x100002080000000010 s (State.fskTx s k v) := by
  unfold State.fskTx
  extract_lets +onlyGivenNames v0
  refine Moves.ite ?_ ?_
  · exact (Moves.sub (State.inc_moves ..) (Moves.at 4 rfl))
  · exact ((Moves.set_49 Moves.refl).step (State.fskShow_moves ..))


theorem State.fskPop_moves (s : State) (k : ℕ) :
    Moves 0x100002080000000010 s (State.fskPop s k) := by
  unfold State.fskPop
  exact ((Moves.set_49 Moves.refl).step (State.fskShow_moves ..))


theorem fieldEffect_moves (code off : ℕ) (s : State) (v : ℕ) :
    Moves 0xffffffffffffffff0002080000000010 s (fieldEffect code off s v) := by
  unfold fieldEffect
  split
  · exact (Moves.sub (State.trimWrite_moves ..))
  · exact (Moves.sub (State.fskShow_moves ..))
  · exact (Moves.sub (State.fskShow_moves ..))
  · exact (Moves.sub (State.fskTx_moves ..))
  · exact (Moves.sub (State.fskTx_moves ..))
  · refine Moves.ite ?_ ?_
    · exact (Moves.sub (State.disarm_moves ..))
    · exact Moves.refl
  · refine Moves.ite ?_ ?_
    · exact (Moves.sub (clampZero_moves ..))
    · exact Moves.refl
  · exact Moves.refl


theorem fieldTake_moves (w : Who) (code off word : ℕ) (s : State) :
    Moves 0xffffffffffffffff00030800000003d0 s (fieldTake w code off word s) := by
  unfold fieldTake
  exact (Moves.sub (writeThen_moves_any (F := 0xffffffffffffffff00030800000000d0) (h_effect := by
          intro z0 z1
          extract_lets +onlyGivenNames s2
          have hs2 : Moves 0xffffffffffffffff00030800000000d0 z0 s2 := by
            refine Moves.ite ?_ ?_
            · exact (Moves.sub (softResetPage_moves_any ..))
            · exact Moves.refl
          clear_value s2
          exact ((hs2.step (State.queueWrite_moves ..)).step (fieldEffect_moves ..))) ..))


theorem fieldWrite_moves (w : Who) (code off word : ℕ) (s : State) :
    Moves 0xffffffffffffffff00030800000013d0 s (fieldWrite w code off word s) := by
  unfold fieldWrite
  refine Moves.ite ?_ ?_
  · exact (Moves.sub (State.holdPage_moves ..))
  · exact (Moves.sub (fieldTake_moves ..))


theorem releaseFieldWrite_moves (s : State) (r : HeldReq) :
    Moves 0xffffffffffffffff00030800000013d0 s (releaseFieldWrite s r) := by
  unfold releaseFieldWrite
  refine Moves.ite ?_ ?_
  · exact Moves.refl
  · exact (((Moves.sub (State.unholdRequest_moves ..)).step (fieldTake_moves ..)).step (State.reply_moves ..))


theorem releaseField_moves (s : State) :
    Moves 0xffffffffffffffff00030800000013d0 s (releaseField s) := by
  unfold releaseField
  exact (Moves.foldl (fun _ _ => (Moves.sub (releaseFieldWrite_moves ..))) Moves.refl)


theorem State.edgeShow_moves (s : State) :
    Moves 0x20000080000000010 s (State.edgeShow s) := by
  unfold State.edgeShow
  extract_lets +onlyGivenNames s0
  have hs0 : Moves 0x20000080000000010 s s0 := (Moves.sub (State.wr_moves ..) (Moves.at 1 rfl))
  clear_value s0
  split
  · extract_lets +onlyGivenNames s1
    have hs1 : Moves 0x20000080000000010 s s1 := ((hs0.step (State.wr_moves ..) (Moves.at 1 rfl)).step (State.wr_moves ..) (Moves.at 1 rfl))
    clear_value s1
    extract_lets +onlyGivenNames s2
    have hs2 : Moves 0x20000080000000010 s s2 := ((hs1.step (State.wr_moves ..) (Moves.at 1 rfl)).step (State.wrB_moves ..) (Moves.at 1 rfl))
    clear_value s2
    exact ((hs2.step (State.wrB_moves ..) (Moves.at 1 rfl)).step (State.wr_moves ..) (Moves.at 1 rfl))
  · extract_lets +onlyGivenNames s3
    have hs3 : Moves 0x20000080000000010 s s3 := ((hs0.step (State.wr_moves ..) (Moves.at 1 rfl)).step (State.wr_moves ..) (Moves.at 1 rfl))
    clear_value s3
    extract_lets +onlyGivenNames s4
    have hs4 : Moves 0x20000080000000010 s s4 := ((hs3.step (State.wr_moves ..) (Moves.at 1 rfl)).step (State.wr_moves ..) (Moves.at 1 rfl))
    clear_value s4
    exact ((hs4.step (State.wr_moves ..) (Moves.at 1 rfl)).step (State.wr_moves ..) (Moves.at 1 rfl))


theorem State.edgePop_moves (s : State) :
    Moves 0x20002080000000010 s (State.edgePop s) := by
  unfold State.edgePop
  exact ((Moves.set_49 Moves.refl).step (State.edgeShow_moves ..))


theorem State.edgeStore_moves (s : State) (c : ℕ) (level : Bool) (stamp : ℕ) :
    Moves 0x20002080000000010 s (State.edgeStore s c level stamp) := by
  unfold State.edgeStore
  extract_lets +onlyGivenNames v0
  refine Moves.ite ?_ ?_
  · exact Moves.refl
  · refine Moves.ite ?_ ?_
    · extract_lets +onlyGivenNames s1
      have hs1 : Moves 0x20002080000000010 s s1 := (Moves.set_49 Moves.refl)
      clear_value s1
      exact ((hs1.step (State.setBits_moves ..) (Moves.at 1 rfl)).step (State.irq_moves ..) (Moves.at 1 rfl))
    · exact ((Moves.set_49 Moves.refl).step (State.edgeShow_moves ..))


theorem State.acceptLevel_moves (s : State) (c : ℕ) (level : Bool) (first : ℕ) :
    Moves 0x100000000020002080000000010 s (State.acceptLevel s c level first) := by
  unfold State.acceptLevel
  extract_lets +onlyGivenNames v0
  extract_lets +onlyGivenNames v1
  extract_lets +onlyGivenNames s2
  have hs2 : Moves 0x100000000020002080000000010 s s2 := (Moves.sub (State.wr_moves ..) (Moves.at 1 rfl))
  clear_value s2
  extract_lets +onlyGivenNames v3
  extract_lets +onlyGivenNames s4
  have hs4 : Moves 0x100000000020002080000000010 s s4 := (Moves.set_49 hs2)
  clear_value s4
  refine Moves.ite ?_ ?_
  · extract_lets +onlyGivenNames s5
    have hs5 : Moves 0x100000000020002080000000010 s s5 := ((hs4.step (State.inc_moves ..) (Moves.at 1 rfl)).step (State.edgeStore_moves ..))
    clear_value s5
    exact (hs5.step (State.sourceOccurs_moves ..))
  · exact hs4


theorem State.sampleChannel_moves (s : State) (c : ℕ) (level : Bool) :
    Moves 0x100000000020002080000000010 s (State.sampleChannel s c level) := by
  unfold State.sampleChannel
  extract_lets +onlyGivenNames v0
  refine Moves.ite ?_ ?_
  · exact (Moves.set_49 Moves.refl)
  · extract_lets +onlyGivenNames v1
    extract_lets +onlyGivenNames v2
    refine Moves.ite ?_ ?_
    · exact (Moves.sub (State.acceptLevel_moves ..))
    · exact (Moves.set_49 Moves.refl)


theorem State.reportCrossing_moves (s : State) (x : ℕ × ℕ × ℕ) :
    Moves 0x100000200600002080080000210 s (State.reportCrossing s x) := by
  unfold State.reportCrossing
  extract_lets +onlyGivenNames s0
  have hs0 : Moves 0x100000200600002080080000210 s s0 := ((Moves.sub (F := 0x100000200600002080080000210) (State.wr_moves ..) (Moves.at 5 rfl)).step (State.wr_moves ..) (Moves.at 5 rfl))
  clear_value s0
  extract_lets +onlyGivenNames v1
  extract_lets +onlyGivenNames s2
  have hs2 : Moves 0x100000200600002080080000210 s s2 := (Moves.set_49 hs0)
  clear_value s2
  exact ((((hs2.step (State.inc_moves ..) (Moves.at 5 rfl)).step (State.irq_moves ..) (Moves.at 5 rfl)).step (State.raiseCause_moves ..)).step (State.archive_moves ..))


theorem State.reportOutput_moves (s : State) (code n : ℕ) (f : FieldDef) (v : ℕ) :
    Moves 0xffffffffffffffff0000080080000210 s (State.reportOutput s code n f v) := by
  unfold State.reportOutput
  refine Moves.ite ?_ ?_
  · exact Moves.refl
  · extract_lets +onlyGivenNames v0
    extract_lets +onlyGivenNames s1
    have hs1 : Moves 0xffffffffffffffff0000080080000210 s s1 := ((Moves.sub (State.wr_moves_any ..)).step (State.irq_moves_any ..))
    clear_value s1
    refine Moves.step ?_ (State.archive_moves ..)
    refine Moves.ite ?_ ?_
    · exact (hs1.step (State.raiseCause_moves ..))
    · exact hs1


theorem State.measureFv24_moves (s : State) (mv : ℕ) :
    Moves 0x100002080000000014 s (State.measureFv24 s mv) := by
  unfold State.measureFv24
  extract_lets +onlyGivenNames v0
  extract_lets +onlyGivenNames s1
  have hs1 : Moves 0x100002080000000014 s s1 := (Moves.set_49 Moves.refl)
  clear_value s1
  extract_lets +onlyGivenNames v2
  refine Moves.ite ?_ ?_
  · exact hs1
  · split
    rename_i u3 hq4
    have hd5 := Moves.snd (F := 0x100002080000000014) (s := s) hq4 (hs1.step (State.drawFree_moves ..))
    extract_lets +onlyGivenNames v6
    extract_lets +onlyGivenNames v7
    extract_lets +onlyGivenNames s8
    have hs8 : Moves 0x100002080000000014 s s8 := (Moves.set_49 hd5)
    clear_value s8
    refine Moves.ite ?_ ?_
    · exact (hs8.step (State.disarm_moves ..))
    · exact (hs8.step (State.drive_moves ..))


theorem Moves.set_47_49 {F : Nat} {s x : State} {f47 : Bool} {f49 : FieldIO} (h : Moves F s x) (sub : 0x2800000000000 &&& F = 0x2800000000000 := by rfl) :
    Moves F s { x with silenceFault := f47, fld := f49 } :=
  h.step (G := 0x2800000000000) ⟨id, Nat.le_refl _, fun p hp => by cases p <;> first | rfl | exact absurd hp (by decide), fun _ _ _ => rfl⟩ sub

theorem State.report_moves (s : State) (r : FieldReport) :
    Moves 0xffffffffffffffff0003880080000210 s (State.report s r) := by
  unfold State.report
  extract_lets +onlyGivenNames v0
  extract_lets +onlyGivenNames v1
  extract_lets +onlyGivenNames s2
  have hs2 : Moves 0xffffffffffffffff0003880080000210 s s2 := by
    refine Moves.ite ?_ ?_
    · exact (Moves.sub (State.reportCrossing_moves ..))
    · exact Moves.refl
  clear_value s2
  extract_lets +onlyGivenNames s3
  have hs3 : Moves 0xffffffffffffffff0003880080000210 s s3 := (Moves.foldl (fun _ _ => (Moves.sub (State.reportCrossing_moves ..))) hs2)
  clear_value s3
  extract_lets +onlyGivenNames s4
  have hs4 : Moves 0xffffffffffffffff0003880080000210 s s4 := ((hs3.step (State.wr_moves ..) (Moves.at 5 rfl)).step (State.wrMin_moves ..) (Moves.at 5 rfl))
  clear_value s4
  extract_lets +onlyGivenNames s5
  have hs5 : Moves 0xffffffffffffffff0003880080000210 s s5 := (hs4.step (State.wr_moves ..) (Moves.at 0 rfl))
  clear_value s5
  extract_lets +onlyGivenNames s6
  have hs6 : Moves 0xffffffffffffffff0003880080000210 s s6 := (Moves.foldl (fun _ _ => (Moves.sub (State.wr_moves ..) (Moves.at 2 rfl))) hs5)
  clear_value s6
  extract_lets +onlyGivenNames s7
  have hs7 : Moves 0xffffffffffffffff0003880080000210 s s7 := ((hs6.step (State.wr_moves ..) (Moves.at 2 rfl)).step (State.add_moves ..) (Moves.at 2 rfl))
  clear_value s7
  extract_lets +onlyGivenNames s8
  have hs8 : Moves 0xffffffffffffffff0003880080000210 s s8 := (hs7.step (State.reportOutput_moves ..))
  clear_value s8
  extract_lets +onlyGivenNames s9
  have hs9 : Moves 0xffffffffffffffff0003880080000210 s s9 := (hs8.step (State.reportOutput_moves ..))
  clear_value s9
  extract_lets +onlyGivenNames s10
  have hs10 : Moves 0xffffffffffffffff0003880080000210 s s10 := (hs9.step (State.reportOutput_moves ..))
  clear_value s10
  extract_lets +onlyGivenNames s11
  have hs11 : Moves 0xffffffffffffffff0003880080000210 s s11 := by
    refine Moves.foldl (fun t12 x13 => ?_) ?_
    · extract_lets +onlyGivenNames s14
      have hs14 : Moves 0xffffffffffffffff0003880080000210 t12 s14 := (Moves.sub (State.wr_moves ..) (Moves.at 3 rfl))
      clear_value s14
      extract_lets +onlyGivenNames v15
      extract_lets +onlyGivenNames s16
      have hs16 : Moves 0xffffffffffffffff0003880080000210 t12 s16 := (hs14.step (State.wrB_moves ..) (Moves.at 3 rfl))
      clear_value s16
      exact (hs16.step (State.reportOutput_moves ..))
    · exact hs10
  clear_value s11
  extract_lets +onlyGivenNames s17
  have hs17 : Moves 0xffffffffffffffff0003880080000210 s s17 := (hs11.step (State.wr_moves ..) (Moves.at 3 rfl))
  clear_value s17
  extract_lets +onlyGivenNames s18
  have hs18 : Moves 0xffffffffffffffff0003880080000210 s s18 := by
    refine Moves.ite ?_ ?_
    · exact ((hs17.step (State.irq_moves ..) (Moves.at 6 rfl)).step (State.trimAbandon_moves ..))
    · exact hs17
  clear_value s18
  extract_lets +onlyGivenNames s19
  have hs19 : Moves 0xffffffffffffffff0003880080000210 s s19 := by
    refine Moves.ite ?_ ?_
    · exact (hs18.step (State.irq_moves ..) (Moves.at 6 rfl))
    · exact hs18
  clear_value s19
  extract_lets +onlyGivenNames s20
  have hs20 : Moves 0xffffffffffffffff0003880080000210 s s20 := ((hs19.step (State.wrB_moves ..) (Moves.at 6 rfl)).step (State.wrB_moves ..) (Moves.at 6 rfl))
  clear_value s20
  extract_lets +onlyGivenNames s21
  have hs21 : Moves 0xffffffffffffffff0003880080000210 s s21 := (hs20.step (State.wrB_moves ..) (Moves.at 6 rfl))
  clear_value s21
  extract_lets +onlyGivenNames s22
  have hs22 : Moves 0xffffffffffffffff0003880080000210 s s22 := ((hs21.step (State.wrB_moves ..) (Moves.at 6 rfl)).step (State.wr_moves ..) (Moves.at 6 rfl))
  clear_value s22
  exact (Moves.set_47_49 hs22)


theorem Moves.set_48 {F : Nat} {s x : State} {f48 : ℕ} (h : Moves F s x) (sub : 0x1000000000000 &&& F = 0x1000000000000 := by rfl) :
    Moves F s { x with fieldStale := f48 } :=
  h.step (G := 0x1000000000000) ⟨id, Nat.le_refl _, fun p hp => by cases p <;> first | rfl | exact absurd hp (by decide), fun _ _ _ => rfl⟩ sub

theorem State.confirm_moves (s : State) :
    Moves 0x20000000100003080000000010 s (State.confirm s) := by
  unfold State.confirm
  extract_lets +onlyGivenNames v0
  extract_lets +onlyGivenNames s1
  have hs1 : Moves 0x20000000100003080000000010 s s1 := (Moves.foldl (fun _ _ => (Moves.sub (State.wrMax_moves ..) (Moves.at 37 rfl))) Moves.refl)
  clear_value s1
  extract_lets +onlyGivenNames v2
  extract_lets +onlyGivenNames v3
  extract_lets +onlyGivenNames s4
  have hs4 : Moves 0x20000000100003080000000010 s s4 := (Moves.set_49 hs1)
  clear_value s4
  extract_lets +onlyGivenNames s5
  have hs5 : Moves 0x20000000100003080000000010 s s5 := (hs4.step (State.drive_moves ..))
  clear_value s5
  exact (Moves.set_48 hs5)


theorem State.fieldReturns_moves (s : State) :
    Moves 0x20000000010003080000000010 s (State.fieldReturns s) := by
  unfold State.fieldReturns
  refine Moves.ite ?_ ?_
  · exact Moves.refl
  · extract_lets +onlyGivenNames s0
    have hs0 : Moves 0x20000000010003080000000010 s s0 := (((Moves.sub (F := 0x20000000010003080000000010) (State.wr_moves ..) (Moves.at 37 rfl)).step (State.irq_moves ..) (Moves.at 37 rfl)).step (State.wr_moves ..) (Moves.at 0 rfl))
    clear_value s0
    extract_lets +onlyGivenNames s1
    have hs1 : Moves 0x20000000010003080000000010 s s1 := by
      refine Moves.ite ?_ ?_
      · exact (hs0.step (State.wr_moves ..) (Moves.at 37 rfl))
      · exact (hs0.step (State.wr_moves ..) (Moves.at 37 rfl))
    clear_value s1
    exact (Moves.set_48_49 hs1)


theorem execFieldProxyWrite_moves (w : Who) (code off word : ℕ) (s : State) :
    ∃ t, execFieldProxyWrite w code off word s = .next t ∧ Moves 0xffffffffffffffff00030800000013d0 s t := by
  unfold execFieldProxyWrite
  refine ⟨_, rfl, ?_⟩
  refine Moves.ite ?_ ?_
  · exact (Moves.sub (fieldWrite_moves ..))
  · exact Moves.refl


theorem execControlFrame_moves (s : State) :
    ∃ t, execControlFrame s = .next t ∧ Moves 0xffffffffffffffff00030800000013d0 s t := by
  unfold execControlFrame
  refine ⟨_, rfl, ?_⟩
  refine Moves.ite ?_ ?_
  · extract_lets +onlyGivenNames v0
    extract_lets +onlyGivenNames v1
    extract_lets +onlyGivenNames v2
    extract_lets +onlyGivenNames s3
    have hs3 : Moves 0xffffffffffffffff00030800000013d0 s s3 := (Moves.set_49 Moves.refl)
    clear_value s3
    refine Moves.step ?_ (releaseField_moves ..)
    refine Moves.ite ?_ ?_
    · exact (hs3.step (State.disarm_moves ..))
    · exact (hs3.step (State.drive_moves ..))
  · refine Moves.ite ?_ ?_
    · exact Moves.refl
    · exact (Moves.set_49 Moves.refl)


theorem execStatusFrame_moves (good : Bool) (r : FieldReport) (s : State) :
    ∃ t, execStatusFrame good r s = .next t ∧ Moves 0xffffffffffffffff00038800800013d4 s t := by
  unfold execStatusFrame
  refine ⟨_, rfl, ?_⟩
  refine Moves.ite ?_ ?_
  · exact ((Moves.sub (F := 0xffffffffffffffff00038800800013d4) (State.inc_moves ..) (Moves.at 37 rfl)).step (State.irq_moves ..) (Moves.at 37 rfl))
  · extract_lets +onlyGivenNames s0
    have hs0 : Moves 0xffffffffffffffff00038800800013d4 s s0 := (((Moves.sub (State.fieldReturns_moves ..)).step (State.measureFv24_moves ..)).step (State.confirm_moves ..))
    clear_value s0
    extract_lets +onlyGivenNames v1
    extract_lets +onlyGivenNames s2
    have hs2 : Moves 0xffffffffffffffff00038800800013d4 s s2 := (Moves.set_49 hs0)
    clear_value s2
    exact ((hs2.step (State.report_moves ..)).step (releaseField_moves ..))


theorem execFieldAbsent_moves (s : State) :
    ∃ t, execFieldAbsent s = .next t ∧ Moves 0xffffffffffffffff00030800800013d0 s t := by
  unfold execFieldAbsent
  refine ⟨_, rfl, ?_⟩
  refine Moves.ite ?_ ?_
  · extract_lets +onlyGivenNames s0
    have hs0 : Moves 0xffffffffffffffff00030800800013d0 s s0 := (((Moves.sub (F := 0xffffffffffffffff00030800800013d0) (State.wr_moves ..) (Moves.at 37 rfl)).step (State.irq_moves ..) (Moves.at 37 rfl)).step (State.wr_moves ..) (Moves.at 0 rfl))
    clear_value s0
    extract_lets +onlyGivenNames s1
    have hs1 : Moves 0xffffffffffffffff00030800800013d0 s s1 := ((hs0.step (State.wr_moves ..) (Moves.at 37 rfl)).step (State.wr_moves ..) (Moves.at 37 rfl))
    clear_value s1
    extract_lets +onlyGivenNames v2
    extract_lets +onlyGivenNames s3
    have hs3 : Moves 0xffffffffffffffff00030800800013d0 s s3 := (Moves.set_48_49 hs1)
    clear_value s3
    exact ((hs3.step (State.reportCrossing_moves ..)).step (releaseField_moves ..))
  · exact Moves.refl


theorem execFieldPowerup_moves (mv : ℕ) (s : State) :
    ∃ t, execFieldPowerup mv s = .next t ∧ Moves 0xffffffffffffffff00030800000013d0 s t := by
  unfold execFieldPowerup
  refine ⟨_, rfl, ?_⟩
  extract_lets +onlyGivenNames v0
  extract_lets +onlyGivenNames s1
  have hs1 : Moves 0xffffffffffffffff00030800000013d0 s s1 := (Moves.set_49 Moves.refl)
  clear_value s1
  extract_lets +onlyGivenNames s2
  have hs2 : Moves 0xffffffffffffffff00030800000013d0 s s2 := (hs1.step (State.fieldReturns_moves ..))
  clear_value s2
  extract_lets +onlyGivenNames s3
  have hs3 : Moves 0xffffffffffffffff00030800000013d0 s s3 := (((hs2.step (State.wr_moves ..) (Moves.at 37 rfl)).step (State.wr_moves ..) (Moves.at 37 rfl)).step (State.inc_moves ..) (Moves.at 37 rfl))
  clear_value s3
  extract_lets +onlyGivenNames s4
  have hs4 : Moves 0xffffffffffffffff00030800000013d0 s s4 := ((hs3.step (State.wr2_moves ..) (Moves.at 0 rfl)).step (State.wr_moves ..) (Moves.at 0 rfl))
  clear_value s4
  exact (((Moves.set_48_49 hs4).step (State.drive_moves ..)).step (releaseField_moves ..))


theorem execProxyPushEnd_moves (s : State) :
    ∃ t, execProxyPushEnd s = .next t ∧ Moves 0x20000000110003080000000010 s t := by
  unfold execProxyPushEnd
  refine ⟨_, rfl, ?_⟩
  refine Moves.ite ?_ ?_
  · extract_lets +onlyGivenNames s0
    have hs0 : Moves 0x20000000110003080000000010 s s0 := ((Moves.sub (F := 0x20000000110003080000000010) (State.wr_moves ..) (Moves.at 37 rfl)).step (State.wr_moves ..) (Moves.at 0 rfl))
    clear_value s0
    extract_lets +onlyGivenNames v1
    extract_lets +onlyGivenNames s2
    have hs2 : Moves 0x20000000110003080000000010 s s2 := (Moves.set_48_49 hs0)
    clear_value s2
    exact (hs2.step (State.drive_moves ..))
  · exact Moves.refl


theorem execProxyPullEnd_moves (s : State) :
    ∃ t, execProxyPullEnd s = .next t ∧ Moves 0xffffffffffffffff0003080000000010 s t := by
  refine ⟨_, rfl, Moves.ite ?_ Moves.refl⟩
  refine (Moves.sub (State.wr_moves (s := s) ..)).trans
    ⟨fun h => ⟨h.1, SMap.sorted_foldl_insert _ _ _ (SMap.sorted_filter _ h.2)⟩, Nat.le_refl _, fun p hp => ?_, fun _ k hk => Moves.noPage k hk⟩
  cases p <;> first | rfl | exact absurd hp (by decide)


theorem execDiSample_moves (levels : ℕ) (s : State) :
    ∃ t, execDiSample levels s = .next t ∧ Moves 0x100000000020002080000000013 s t := by
  unfold execDiSample
  extract_lets +onlyGivenNames v0
  extract_lets +onlyGivenNames s1
  have hs1 : Moves 0x100000000020002080000000013 s s1 := (Moves.sub (State.advanceTime_moves ..))
  clear_value s1
  extract_lets +onlyGivenNames v2
  extract_lets +onlyGivenNames s3
  have hs3 : Moves 0x100000000020002080000000013 s s3 := (Moves.set_49 hs1)
  clear_value s3
  refine ⟨_, rfl, ?_⟩
  refine Moves.ite ?_ ?_
  · exact (Moves.foldl (fun _ _ => (Moves.sub (State.sampleChannel_moves ..))) (hs3.step (State.wr_moves ..) (Moves.at 1 rfl)))
  · exact hs3


theorem execEdgePop_moves (w : Who) (s : State) :
    ∃ t, execEdgePop w s = .next t ∧ Moves 0x620002080000000310 s t := by
  unfold execEdgePop
  refine ⟨_, rfl, ?_⟩
  exact (Moves.sub (State.reading_moves (F := 0x20002080000000110) (h_act := fun _ => ((Moves.sub (State.edgePop_moves ..)).step (State.reply_moves ..))) ..))


theorem execDoTrip_moves (k : ℕ) (thermal : Bool) (s : State) :
    ∃ t, execDoTrip k thermal s = .next t ∧ Moves 0x100002080000000010 s t := by
  unfold execDoTrip
  refine ⟨_, rfl, ?_⟩
  refine Moves.ite ?_ ?_
  · extract_lets +onlyGivenNames v0
    exact ((Moves.set_49 Moves.refl).step (State.drive_moves ..))
  · exact Moves.refl


theorem execDoRetry_moves (k : ℕ) (s : State) :
    ∃ t, execDoRetry k s = .next t ∧ Moves 0x100002080000000010 s t := by
  unfold execDoRetry
  refine ⟨_, rfl, ?_⟩
  refine Moves.ite ?_ ?_
  · exact ((Moves.set_49 Moves.refl).step (State.drive_moves ..))
  · exact Moves.refl


theorem execDoClearShort_moves (w : Who) (word : ℕ) (s : State) :
    ∃ t, execDoClearShort w word s = .next t ∧ Moves 0xffffffffffffffff00030800000013d0 s t := by
  unfold execDoClearShort
  refine ⟨_, rfl, ?_⟩
  exact (Moves.sub (fieldWrite_moves ..))


theorem execOpenLoad_moves (k : ℕ) (open' : Bool) (s : State) :
    ∃ t, execOpenLoad k open' s = .next t ∧ Moves 0x2000000000000 s t := by
  unfold execOpenLoad
  refine ⟨_, rfl, ?_⟩
  refine Moves.ite ?_ ?_
  · exact (Moves.set_49 Moves.refl)
  · exact Moves.refl


theorem execLoopFault_moves (k : ℕ) (fault : Bool) (s : State) :
    ∃ t, execLoopFault k fault s = .next t ∧ Moves 0x2000000000000 s t := by
  unfold execLoopFault
  refine ⟨_, rfl, ?_⟩
  refine Moves.ite ?_ ?_
  · exact (Moves.set_49 Moves.refl)
  · exact Moves.refl


theorem execCouplerFault_moves (ch : ℕ) (fault : Bool) (s : State) :
    ∃ t, execCouplerFault ch fault s = .next t ∧ Moves 0x100002080000000010 s t := by
  unfold execCouplerFault
  refine ⟨_, rfl, ?_⟩
  refine Moves.ite ?_ ?_
  · exact ((Moves.set_49 Moves.refl).step (State.drive_moves ..))
  · exact Moves.refl


theorem execFskTxWrite_moves (w : Who) (k word : ℕ) (s : State) :
    ∃ t, execFskTxWrite w k word s = .next t ∧ Moves 0xffffffffffffffff00030800000013d0 s t := by
  unfold execFskTxWrite
  refine ⟨_, rfl, ?_⟩
  refine Moves.ite ?_ ?_
  · exact (Moves.sub (fieldWrite_moves ..))
  · exact Moves.refl


theorem execFskCharacterSent_moves (k : ℕ) (s : State) :
    ∃ t, execFskCharacterSent k s = .next t ∧ Moves 0x100002080000000010 s t := by
  unfold execFskCharacterSent
  refine ⟨_, rfl, ?_⟩
  refine Moves.ite ?_ ?_
  · extract_lets +onlyGivenNames v0
    extract_lets +onlyGivenNames v1
    extract_lets +onlyGivenNames s2
    have hs2 : Moves 0x100002080000000010 s s2 := ((Moves.set_49 Moves.refl).step (State.fskShow_moves ..))
    clear_value s2
    refine Moves.ite ?_ ?_
    · exact (hs2.step (State.irq_moves ..) (Moves.at 4 rfl))
    · exact hs2
  · exact Moves.refl


theorem execFskCharacterReceive_moves (k char : ℕ) (parityErr framingErr : Bool) (s : State) :
    ∃ t, execFskCharacterReceive k char parityErr framingErr s = .next t ∧ Moves 0x100002080000000010 s t := by
  unfold execFskCharacterReceive
  refine ⟨_, rfl, ?_⟩
  refine Moves.ite ?_ ?_
  · extract_lets +onlyGivenNames v0
    refine Moves.ite ?_ ?_
    · exact (Moves.sub (State.inc_moves ..) (Moves.at 4 rfl))
    · extract_lets +onlyGivenNames v1
      exact ((Moves.set_49 Moves.refl).step (State.fskShow_moves ..))
  · exact Moves.refl


theorem execFskRxPop_moves (w : Who) (k : ℕ) (s : State) :
    ∃ t, execFskRxPop w k s = .next t ∧ Moves 0x700002080000000310 s t := by
  unfold execFskRxPop
  refine ⟨_, rfl, ?_⟩
  refine Moves.ite ?_ ?_
  · exact (Moves.sub (State.reading_moves (F := 0x100002080000000110) (h_act := fun _ => ((Moves.sub (State.fskPop_moves ..)).step (State.reply_moves ..))) ..))
  · exact Moves.refl


theorem execFskCarrierChange_moves (k : ℕ) (on : Bool) (s : State) :
    ∃ t, execFskCarrierChange k on s = .next t ∧ Moves 0x100000080000000010 s t := by
  unfold execFskCarrierChange
  refine ⟨_, rfl, ?_⟩
  refine Moves.ite ?_ ?_
  · exact ((Moves.sub (F := 0x100000080000000010) (State.wrB_moves ..) (Moves.at 4 rfl)).step (State.irq_moves ..) (Moves.at 4 rfl))
  · exact Moves.refl


theorem execSilenceExpiry_moves (s : State) :
    ∃ t, execSilenceExpiry s = .next t ∧ Moves 0x100002080000000013 s t := by
  unfold execSilenceExpiry
  refine ⟨_, rfl, ?_⟩
  refine Moves.ite ?_ ?_
  · extract_lets +onlyGivenNames s0
    have hs0 : Moves 0x100002080000000013 s s0 := (Moves.sub (State.advanceTime_moves ..))
    clear_value s0
    extract_lets +onlyGivenNames v1
    extract_lets +onlyGivenNames v2
    extract_lets +onlyGivenNames s3
    have hs3 : Moves 0x100002080000000013 s s3 := (Moves.set_49 hs0)
    clear_value s3
    exact (hs3.step (State.drive_moves ..))
  · exact Moves.refl


theorem fpxCtl_moves (s : State) (v : ℕ) :
    Moves 0x2000000000000 s (fpxCtl s v) := by
  unfold fpxCtl
  refine Moves.ite ?_ ?_
  · exact (Moves.set_49 Moves.refl)
  · exact Moves.refl


theorem execFpxMute_moves (w : Who) (word : ℕ) (s : State) :
    ∃ t, execFpxMute w word s = .next t ∧ Moves 0x20000210f00002080000000350 s t := by
  unfold execFpxMute
  refine ⟨_, rfl, ?_⟩
  exact (Moves.sub (writeThen_moves (F := 0x2000000000000) (h_effect := fun _ _ => (Moves.sub (fpxCtl_moves ..))) ..))


theorem execMuteEnd_moves (s : State) :
    ∃ t, execMuteEnd s = .next t ∧ Moves 0x20000000000000080000000013 s t := by
  unfold execMuteEnd
  refine ⟨_, rfl, ?_⟩
  refine Moves.ite ?_ ?_
  · exact ((Moves.sub (State.advanceTime_moves ..)).step (State.wr_moves ..) (Moves.at 37 rfl))
  · exact Moves.refl


theorem execFieldArm_moves (w : Who) (s : State) :
    ∃ t, execFieldArm w s = .next t ∧ Moves 0xffffffffffffffff00030800000013d0 s t := by
  unfold execFieldArm
  refine ⟨_, rfl, ?_⟩
  exact (Moves.sub (fieldWrite_moves ..))


theorem execFieldDisarm_moves (w : Who) (s : State) :
    ∃ t, execFieldDisarm w s = .next t ∧ Moves 0xffffffffffffffff00030800000013d0 s t := by
  unfold execFieldDisarm
  refine ⟨_, rfl, ?_⟩
  exact (Moves.sub (fieldWrite_moves ..))


theorem execFv24Crossing_moves (mv : ℕ) (s : State) :
    ∃ t, execFv24Crossing mv s = .next t ∧ Moves 0x100002080000000014 s t := by
  unfold execFv24Crossing
  refine ⟨_, rfl, ?_⟩
  exact (Moves.sub (State.measureFv24_moves ..))


theorem execTrimStep_moves (w : Who) (word : ℕ) (s : State) :
    ∃ t, execTrimStep w word s = .next t ∧ Moves 0xffffffffffffffff00030800000013d0 s t := by
  unfold execTrimStep
  refine ⟨_, rfl, ?_⟩
  exact (Moves.sub (fieldWrite_moves ..))


theorem execTrimPinPress_moves (up : Bool) (s : State) :
    ∃ t, execTrimPinPress up s = .next t ∧ Moves 0xffffffffffffffff0003080000000010 s t := by
  unfold execTrimPinPress
  refine ⟨_, rfl, ?_⟩
  refine Moves.ite ?_ ?_
  · extract_lets +onlyGivenNames v0
    extract_lets +onlyGivenNames v1
    extract_lets +onlyGivenNames v2
    extract_lets +onlyGivenNames s3
    have hs3 : Moves 0xffffffffffffffff0003080000000010 s s3 := (Moves.sub (State.proxySet_moves_any ..))
    clear_value s3
    exact (Moves.set_49 hs3)
  · exact Moves.refl


theorem execTrimPinHold_moves (sel : Bool) (s : State) :
    ∃ t, execTrimPinHold sel s = .next t ∧ Moves 0x180002080000000010 s t := by
  unfold execTrimPinHold
  refine ⟨_, rfl, ?_⟩
  refine Moves.ite ?_ ?_
  · extract_lets +onlyGivenNames v0
    extract_lets +onlyGivenNames f1
    have hf1 : ∀ y2, Moves 0x180002080000000010 y2 (f1 y2) := by
      intro y2
      exact (Moves.set_49 Moves.refl)
    clear_value f1
    refine Moves.ite ?_ ?_
    · refine Moves.ite ?_ ?_
      · exact (((Moves.sub (State.trimStart_moves ..)).step (State.setTrim_moves ..)).step (State.trimDrive_moves ..))
      · exact Moves.refl
    · refine Moves.ite ?_ ?_
      · exact Moves.refl
      · refine Moves.ite ?_ ?_
        · exact (((Moves.sub (State.setTrim_moves ..)).step (State.trimDrive_moves ..)).trans (hf1 ..))
        · exact ((Moves.set_49 Moves.refl).step (State.setTrim_moves ..))
  · exact Moves.refl


theorem execTrimTimeout_moves (s : State) :
    ∃ t, execTrimTimeout s = .next t ∧ Moves 0x80003080000000013 s t := by
  unfold execTrimTimeout
  refine ⟨_, rfl, ?_⟩
  refine Moves.ite ?_ ?_
  · exact ((Moves.sub (State.advanceTime_moves ..)).step (State.trimAbandon_moves ..))
  · exact Moves.refl


theorem execTrimCommit_moves (s : State) :
    ∃ t, execTrimCommit s = .next t ∧ Moves 0x1210048068000008f00000063c s t := by
  unfold execTrimCommit
  refine ⟨_, rfl, ?_⟩
  exact (Moves.sub (State.authCommand_moves (F := 0x80080000080000000038) (h_act := by
          intro z0 z1 z2
          refine Moves.iteF (g := AuthDone.st) ?_ ?_
          · exact Moves.refl
          · extract_lets +onlyGivenNames v3
            extract_lets +onlyGivenNames s4
            have hs4 : Moves 0x80080000080000000038 z0 s4 := (Moves.sub (State.twinWrite_moves ..))
            clear_value s4
            refine Moves.stAuthDone ?_
            exact (hs4.step (State.setTrim_moves ..))) ..))


theorem fsupLatch_moves (s : State) :
    Moves 0x200000080000000010 s (fsupLatch s) := by
  unfold fsupLatch
  extract_lets +onlyGivenNames v0
  exact (((Moves.sub (F := 0x200000080000000010) (State.wr_moves ..) (Moves.at 5 rfl)).step (State.wr_moves ..) (Moves.at 5 rfl)).step (State.wr_moves ..) (Moves.at 5 rfl))


theorem execFsupLastRead_moves (w : Who) (s : State) :
    ∃ t, execFsupLastRead w s = .next t ∧ Moves 0x600000080000000310 s t := by
  unfold execFsupLastRead
  refine ⟨_, rfl, ?_⟩
  exact (Moves.sub (State.reading_moves (F := 0x200000080000000110) (h_act := fun _ => ((Moves.sub (fsupLatch_moves ..)).step (State.reply_moves ..))) ..))


theorem State.tornWord_moves (s : State) (e : ℕ × ℕ) :
    Moves 0x8000000002c s (State.tornWord s e) := by
  unfold State.tornWord
  split
  rename_i u0 hq1
  have hd2 := Moves.snd (F := 0x8000000002c) (s := s) hq1 (Moves.sub (State.drawFree_moves ..))
  split
  · exact hd2
  · exact (hd2.step (State.store_moves ..))
  · exact (Moves.set_3 hd2)


theorem State.breakSave_moves (s : State) :
    Moves 0x8 s (State.breakSave s) := by
  unfold State.breakSave
  refine Moves.ite ?_ ?_
  · extract_lets +onlyGivenNames v0
    exact (Moves.set_3 Moves.refl)
  · exact Moves.refl


theorem State.powerOnReset_moves (s : State) (cause : ℕ) :
    Moves 0xffffffffffffffff001ffffffffffffe s (State.powerOnReset s cause) := by
  unfold State.powerOnReset
  extract_lets +onlyGivenNames s0
  have hs0 : Moves 0xffffffffffffffff001ffffffffffffe s s0 := Moves.foldl (fun _ _ => (Moves.sub (State.tornWord_moves ..))) (Moves.sub (State.breakSave_moves ..))
  clear_value s0
  extract_lets +onlyGivenNames rs ex ao kept
  have hk : Moves 0xffffffffffffffff001ffffffffffffe s kept := by
    refine hs0.trans ⟨fun h => ⟨SMap.canonical_filter _ h.1, SMap.sorted_filter _ h.2⟩, Nat.le_refl _, fun p hp => ?_, fun _ k hk => Moves.noPage k hk⟩
    cases p <;> first | rfl | exact absurd hp (by decide)
  clear_value kept
  extract_lets +onlyGivenNames au kept2
  have hk2 : Moves 0xffffffffffffffff001ffffffffffffe s kept2 := Moves.set_37 hk
  clear_value kept2
  exact (((hk2.step (State.wr_moves ..)).step (State.wr_moves ..)).step (State.wr_moves ..))


theorem State.releaseReset_moves (s : State) (senior : Bool) :
    Moves 0xe2404e0008080000000290 s (State.releaseReset s senior) := by
  unfold State.releaseReset
  extract_lets +onlyGivenNames v0
  extract_lets +onlyGivenNames s1
  have hs1 : Moves 0xe2404e0008080000000290 s s1 := (Moves.set_51 Moves.refl)
  clear_value s1
  extract_lets +onlyGivenNames s2
  have hs2 : Moves 0xe2404e0008080000000290 s s2 := ((hs1.step (State.wrB_moves ..) (Moves.at 21 rfl)).step (State.wrB_moves ..) (Moves.at 22 rfl))
  clear_value s2
  extract_lets +onlyGivenNames s3
  have hs3 : Moves 0xe2404e0008080000000290 s s3 := (hs2.step (State.wr_moves ..) (Moves.at 1 rfl))
  clear_value s3
  extract_lets +onlyGivenNames s4
  have hs4 : Moves 0xe2404e0008080000000290 s s4 := ((hs3.step (State.wr_moves ..) (Moves.at 1 rfl)).step (State.wr_moves ..) (Moves.at 1 rfl))
  clear_value s4
  extract_lets +onlyGivenNames s5
  have hs5 : Moves 0xe2404e0008080000000290 s s5 := (hs4.step (State.checkContinuity_moves ..))
  clear_value s5
  extract_lets +onlyGivenNames s6
  have hs6 : Moves 0xe2404e0008080000000290 s s6 := (hs5.step (State.wr_moves ..) (Moves.at 23 rfl))
  clear_value s6
  extract_lets +onlyGivenNames s7
  have hs7 : Moves 0xe2404e0008080000000290 s s7 := (hs6.step (State.wr_moves ..) (Moves.at 23 rfl))
  clear_value s7
  refine Moves.foldl (fun t8 x9 => ?_) ?_
  · extract_lets +onlyGivenNames s10
    have hs10 : Moves 0xe2404e0008080000000290 t8 s10 := (Moves.sub (State.setBits_moves ..) (Moves.at 2 rfl))
    clear_value s10
    refine Moves.ite ?_ ?_
    · exact ((((hs10.step (State.setBits_moves ..) (Moves.at 2 rfl)).step (State.wr_moves ..) (Moves.at 3 rfl)).step (State.wr_moves ..) (Moves.at 1 rfl)).step (State.powerUp_moves ..))
    · exact hs10
  · exact hs7


theorem State.mapRepairs_moves (s : State) (l : List (ℕ × ℕ × ℕ × ℕ × ℕ)) :
    Moves 0x80000000080000000038 s (State.mapRepairs s l) := by
  unfold State.mapRepairs
  exact (Moves.foldl (fun _ _ => (Moves.sub (State.twinWrite_moves ..))) Moves.refl)


theorem State.failTest_moves (s : State) (d : ℕ) :
    Moves 0xffffffffffffffff00000a017fde7bf8 s (State.failTest s d) := by
  unfold State.failTest
  exact (((Moves.sub (State.failDie_moves ..)).step (State.archive_moves ..)).step (State.dieOff_moves ..))


theorem State.cutQuiet_moves (s : State) (d e : ℕ) :
    Moves (0x2ace0000808000007323c ||| Moves.page (14 + (e - 1))) s (State.cutQuiet s d e) := by
  unfold State.cutQuiet
  split
  · refine Moves.ite ?_ ?_
    · exact Moves.refl
    · refine Moves.ite ?_ ?_
      · refine Moves.ite ?_ ?_
        · exact Moves.refl
        · exact (Moves.sub (State.endRow_moves ..) (Moves.or_le rfl))
      · refine Moves.ite ?_ ?_
        · split
          rename_i u0 hq1
          have hd2 := Moves.snd (F := (0x2ace0000808000007323c ||| Moves.page (14 + (e - 1)))) (s := s) hq1 (Moves.sub (State.drawFree_moves ..) (Moves.or_le rfl))
          extract_lets +onlyGivenNames v3
          exact (((hd2.step (dmaChain_moves ..) (Moves.or_le rfl)).step (State.endRow_moves ..) (Moves.or_le rfl)).step (State.dmaResume_moves ..) (Moves.or_le rfl))
        · refine Moves.ite ?_ ?_
          · exact ((Moves.sub (F := (0x2ace0000808000007323c ||| Moves.page (14 + (e - 1)))) (State.endRow_moves ..) (Moves.or_le rfl)).step (State.coreCut_moves ..) (Moves.or_mono rfl))
          · exact (Moves.sub (State.endRow_moves ..) (Moves.or_le rfl))
  · exact Moves.refl

theorem State.cutQuiet_moves_any (s : State) (d e : ℕ) :
    Moves 0xffffffffffffffff000808000007323c s (State.cutQuiet s d e) :=
  (State.cutQuiet_moves ..).sub (Moves.page_any rfl)


theorem Moves.set_16_38_51 {F : Nat} {s x : State} {f16 : Frame} {f38 : Exch} {f51 : Aon} (h : Moves F s x) (sub : 0x8004000010000 &&& F = 0x8004000010000 := by rfl) :
    Moves F s { x with frame := f16, exch := f38, aon := f51 } :=
  h.step (G := 0x8004000010000) ⟨id, Nat.le_refl _, fun p hp => by cases p <;> first | rfl | exact absurd hp (by decide), fun _ _ _ => rfl⟩ sub

theorem State.startHoldup_moves (s : State) :
    Moves 0xffffffffffffffff00083cc00007323c s (State.startHoldup s) := by
  unfold State.startHoldup
  refine Moves.ite ?_ ?_
  · exact Moves.refl
  · extract_lets +onlyGivenNames s0
    have hs0 : Moves 0xffffffffffffffff00083cc00007323c s s0 := by
      refine Moves.ite ?_ ?_
      · exact (Moves.sub (State.yieldNow_moves ..))
      · exact Moves.refl
    clear_value s0
    extract_lets +onlyGivenNames s1
    have hs1 : Moves 0xffffffffffffffff00083cc00007323c s s1 := by
      refine Moves.ite ?_ ?_
      · exact hs0
      · exact (hs0.step (State.abandonShunt_moves ..))
    clear_value s1
    extract_lets +onlyGivenNames v2
    extract_lets +onlyGivenNames v3
    extract_lets +onlyGivenNames s4
    have hs4 : Moves 0xffffffffffffffff00083cc00007323c s s4 := by
      refine Moves.foldl (fun t5 x6 => ?_) ?_
      · refine Moves.foldl (fun t7 x8 => ?_) ?_
        · refine Moves.ite ?_ ?_
          · exact (Moves.sub (State.cutQuiet_moves_any ..))
          · exact Moves.refl
        · exact Moves.refl
      · exact hs1
    clear_value s4
    exact (Moves.set_16_38_51 hs4)


theorem State.saveRetained_moves (s : State) :
    Moves 0x280000084000008080000000038 s (State.saveRetained s) := by
  unfold State.saveRetained
  extract_lets +onlyGivenNames v0
  extract_lets +onlyGivenNames s1
  have hs1 : Moves 0x280000084000008080000000038 s s1 := by
    refine Moves.ite ?_ ?_
    · exact (Moves.set_51 Moves.refl)
    · exact Moves.refl
  clear_value s1
  extract_lets +onlyGivenNames v2
  extract_lets +onlyGivenNames f3
  have hf3 : ∀ y4 y5, Moves 0x280000084000008080000000038 y4 (f3 y4 y5) := by
    intro y4 y5
    exact (Moves.sub (State.wr2_moves ..) (Moves.at 10 rfl))
  clear_value f3
  extract_lets +onlyGivenNames v6
  extract_lets +onlyGivenNames s7
  have hs7 : Moves 0x280000084000008080000000038 s s7 := (hs1.step (State.twinWriteBeside_moves ..))
  clear_value s7
  extract_lets +onlyGivenNames s8
  have hs8 : Moves 0x280000084000008080000000038 s s8 := (hs7.step (State.twinWrite_moves ..))
  clear_value s8
  extract_lets +onlyGivenNames s9
  have hs9 : Moves 0x280000084000008080000000038 s s9 := (((hs8.trans (hf3 ..)).step (State.wr_moves ..) (Moves.at 41 rfl)).step (State.inc_moves ..) (Moves.at 41 rfl))
  clear_value s9
  extract_lets +onlyGivenNames s10
  have hs10 : Moves 0x280000084000008080000000038 s s10 := ((hs9.step (State.irq_moves ..) (Moves.at 41 rfl)).step (State.hotLost_moves ..))
  clear_value s10
  exact (Moves.set_51 hs10)


theorem State.endHoldup_moves (s : State) :
    Moves 0xffffffffffffffff001ffffffffffffe s (State.endHoldup s) := by
  unfold State.endHoldup
  extract_lets +onlyGivenNames s0
  have hs0 : Moves 0xffffffffffffffff001ffffffffffffe s s0 := (Moves.foldl (fun _ _ => (Moves.sub (State.dieOff_moves ..))) Moves.refl)
  clear_value s0
  extract_lets +onlyGivenNames s1
  have hs1 : Moves 0xffffffffffffffff001ffffffffffffe s s1 := ((hs0.step (State.enterStop_moves ..)).step (State.wr_moves ..) (Moves.at 2 rfl))
  clear_value s1
  extract_lets +onlyGivenNames v2
  extract_lets +onlyGivenNames s3
  have hs3 : Moves 0xffffffffffffffff001ffffffffffffe s s3 := (Moves.set_51 hs1)
  clear_value s3
  refine Moves.ite ?_ ?_
  · exact (hs3.step (State.powerOnReset_moves ..))
  · exact hs3


theorem State.holdupNext_moves (s : State) :
    Moves 0xffffffffffffffff001ffffffffffffe s (State.holdupNext s) := by
  unfold State.holdupNext
  extract_lets +onlyGivenNames s0
  have hs0 : Moves 0xffffffffffffffff001ffffffffffffe s s0 := (Moves.sub (State.startSnapshot_moves ..))
  clear_value s0
  extract_lets +onlyGivenNames v1
  extract_lets +onlyGivenNames s2
  have hs2 : Moves 0xffffffffffffffff001ffffffffffffe s s2 := by
    refine Moves.ite ?_ ?_
    · exact (Moves.set_51 hs0)
    · exact Moves.refl
  clear_value s2
  refine Moves.ite ?_ ?_
  · exact (hs2.step (State.endHoldup_moves ..))
  · exact hs2


theorem State.retainKeeper_moves (s : State) (b : Bool) :
    Moves 0x800000080000000010 s (State.retainKeeper s b) := by
  unfold State.retainKeeper
  exact (Moves.foldl (fun _ _ => (Moves.sub (State.wr_moves ..) (Moves.at 7 rfl))) Moves.refl)


theorem Moves.set_35_51 {F : Nat} {s x : State} {f35 : Bool} {f51 : Aon} (h : Moves F s x) (sub : 0x8000800000000 &&& F = 0x8000800000000 := by rfl) :
    Moves F s { x with firmware := f35, aon := f51 } :=
  h.step (G := 0x8000800000000) ⟨id, Nat.le_refl _, fun p hp => by cases p <;> first | rfl | exact absurd hp (by decide), fun _ _ _ => rfl⟩ sub

theorem State.fallAsleep_moves (s : State) (blocks tallies : List ℕ) :
    Moves 0xffffffffffffffff000c2d1880204e3c s (State.fallAsleep s blocks tallies) := by
  unfold State.fallAsleep
  extract_lets +onlyGivenNames s0
  have hs0 : Moves 0xffffffffffffffff000c2d1880204e3c s s0 := (Moves.sub (State.assembleAll_moves ..))
  clear_value s0
  extract_lets +onlyGivenNames s1
  have hs1 : Moves 0xffffffffffffffff000c2d1880204e3c s s1 := (hs0.step (State.startFlush_moves ..))
  clear_value s1
  extract_lets +onlyGivenNames v2
  extract_lets +onlyGivenNames s3
  have hs3 : Moves 0xffffffffffffffff000c2d1880204e3c s s3 := by
    refine Moves.ite ?_ ?_
    · exact hs0
    · exact ((Moves.set_50 hs1).step (State.flushEnds_moves ..))
  clear_value s3
  extract_lets +onlyGivenNames s4
  have hs4 : Moves 0xffffffffffffffff000c2d1880204e3c s s4 := ((hs3.step (State.snapTallies_moves ..)).step (State.want_moves ..))
  clear_value s4
  extract_lets +onlyGivenNames s5
  have hs5 : Moves 0xffffffffffffffff000c2d1880204e3c s s5 := (Moves.foldl (fun _ _ => (Moves.sub (State.setLink_moves_any ..))) hs4)
  clear_value s5
  extract_lets +onlyGivenNames v6
  extract_lets +onlyGivenNames s7
  have hs7 : Moves 0xffffffffffffffff000c2d1880204e3c s s7 := ((Moves.set_45 hs5).step (State.linkSilent_moves ..))
  clear_value s7
  extract_lets +onlyGivenNames s8
  have hs8 : Moves 0xffffffffffffffff000c2d1880204e3c s s8 := ((Moves.foldl (fun _ _ => (Moves.sub (State.retainDie_moves ..))) hs7).step (State.retainKeeper_moves ..))
  clear_value s8
  extract_lets +onlyGivenNames s9
  have hs9 : Moves 0xffffffffffffffff000c2d1880204e3c s s9 := ((hs8.step (State.wr_moves ..) (Moves.at 1 rfl)).step (State.wr_moves ..) (Moves.at 1 rfl))
  clear_value s9
  exact (Moves.set_35_51 hs9)


theorem State.wakeUp_moves (s : State) (cause : ℕ) :
    Moves 0xffffffffffffffff001e3cc80007323d s (State.wakeUp s cause) := by
  unfold State.wakeUp
  extract_lets +onlyGivenNames v0
  extract_lets +onlyGivenNames s1
  have hs1 : Moves 0xffffffffffffffff001e3cc80007323d s s1 := (Moves.set_35_51 Moves.refl)
  clear_value s1
  extract_lets +onlyGivenNames s2
  have hs2 : Moves 0xffffffffffffffff001e3cc80007323d s s2 := ((hs1.step (State.wr_moves ..) (Moves.at 1 rfl)).step (State.wr_moves ..) (Moves.at 1 rfl))
  clear_value s2
  split
  rename_i u3 hq4
  have hd5 := Moves.snd (F := 0xffffffffffffffff001e3cc80007323d) (s := s) hq4 (hs2.step (State.drawFree_moves ..))
  extract_lets +onlyGivenNames v6
  extract_lets +onlyGivenNames s7
  have hs7 : Moves 0xffffffffffffffff001e3cc80007323d s s7 := (hd5.step (State.setCore_moves ..))
  clear_value s7
  extract_lets +onlyGivenNames s8
  have hs8 : Moves 0xffffffffffffffff001e3cc80007323d s s8 := ((hs7.step (State.wr_moves ..) (Moves.at 2 rfl)).step (State.irq_moves ..) (Moves.at 2 rfl))
  clear_value s8
  extract_lets +onlyGivenNames s9
  have hs9 : Moves 0xffffffffffffffff001e3cc80007323d s s9 := (Moves.foldl (fun _ _ => (Moves.sub (State.retainDie_moves ..))) (hs8.step (State.retainKeeper_moves ..)))
  clear_value s9
  extract_lets +onlyGivenNames s10
  have hs10 : Moves 0xffffffffffffffff001e3cc80007323d s s10 := ((Moves.foldl (fun _ _ => (Moves.sub (State.showLink_moves_any ..))) hs9).step (State.timeFromRtc_moves ..))
  clear_value s10
  refine Moves.ite ?_ ?_
  · exact (hs10.step (State.startHoldup_moves ..))
  · exact hs10


theorem execPowerFail_moves (s : State) :
    ∃ t, execPowerFail s = .next t ∧ Moves 0xffffffffffffffff00083cc00007323c s t := by
  unfold execPowerFail
  refine ⟨_, rfl, ?_⟩
  refine Moves.ite ?_ ?_
  · exact Moves.refl
  · extract_lets +onlyGivenNames s0
    have hs0 : Moves 0xffffffffffffffff00083cc00007323c s s0 := ((Moves.sub (F := 0xffffffffffffffff00083cc00007323c) (State.wr_moves ..) (Moves.at 2 rfl)).step (State.irq_moves ..) (Moves.at 2 rfl))
    clear_value s0
    refine Moves.ite ?_ ?_
    · exact (hs0.step (State.wakeEvent_moves ..))
    · exact (hs0.step (State.startHoldup_moves ..))


theorem execRetainedSaveEnd_moves (s : State) :
    ∃ t, execRetainedSaveEnd s = .next t ∧ Moves 0x28000008400000808000000003b s t := by
  unfold execRetainedSaveEnd
  refine ⟨_, rfl, ?_⟩
  refine Moves.ite ?_ ?_
  · extract_lets +onlyGivenNames s0
    have hs0 : Moves 0x28000008400000808000000003b s s0 := (Moves.sub (State.advanceTo_moves ..))
    clear_value s0
    exact ((hs0.step (State.advanceTime_moves ..)).step (State.saveRetained_moves ..))
  · exact Moves.refl


theorem Moves.set_50_51 {F : Nat} {s x : State} {f50 : Archive} {f51 : Aon} (h : Moves F s x) (sub : 0xc000000000000 &&& F = 0xc000000000000 := by rfl) :
    Moves F s { x with arch := f50, aon := f51 } :=
  h.step (G := 0xc000000000000) ⟨id, Nat.le_refl _, fun p hp => by cases p <;> first | rfl | exact absurd hp (by decide), fun _ _ _ => rfl⟩ sub

theorem execRunCounterSaveEnd_moves (s : State) :
    ∃ t, execRunCounterSaveEnd s = .next t ∧ Moves 0xffffffffffffffff001ffffffffffffe s t := by
  unfold execRunCounterSaveEnd
  refine ⟨_, rfl, ?_⟩
  refine Moves.ite ?_ ?_
  · extract_lets +onlyGivenNames s0
    have hs0 : Moves 0xffffffffffffffff001ffffffffffffe s s0 := (Moves.sub (State.twinWrite_moves ..))
    clear_value s0
    extract_lets +onlyGivenNames s1
    have hs1 : Moves 0xffffffffffffffff001ffffffffffffe s s1 := by
      refine Moves.ite ?_ ?_
      · exact (hs0.step (State.inc_moves ..) (Moves.at 17 rfl))
      · refine Moves.ite ?_ ?_
        · exact (hs0.step (State.takeRecord_moves ..))
        · exact (hs0.step (State.inc_moves ..) (Moves.at 17 rfl))
    clear_value s1
    extract_lets +onlyGivenNames s2
    have hs2 : Moves 0xffffffffffffffff001ffffffffffffe s s2 := (hs1.step (State.startFlush_moves ..))
    clear_value s2
    extract_lets +onlyGivenNames v3
    extract_lets +onlyGivenNames v4
    extract_lets +onlyGivenNames s5
    have hs5 : Moves 0xffffffffffffffff001ffffffffffffe s s5 := (Moves.set_50_51 hs2)
    clear_value s5
    exact (hs5.step (State.holdupNext_moves ..))
  · exact Moves.refl


theorem execFlushEnd_moves (failing : List ℕ) (s : State) :
    ∃ t, execFlushEnd failing s = .next t ∧ Moves 0xffffffffffffffff001ffffffffffffe s t := by
  unfold execFlushEnd
  refine ⟨_, rfl, ?_⟩
  refine Moves.ite ?_ ?_
  · exact ((Moves.sub (State.flushEnds_moves ..)).step (State.holdupNext_moves ..))
  · exact Moves.refl


theorem execTallySnapshotEnd_moves (failing : List ℕ) (s : State) :
    ∃ t, execTallySnapshotEnd failing s = .next t ∧ Moves 0xffffffffffffffff001ffffffffffffe s t := by
  unfold execTallySnapshotEnd
  refine ⟨_, rfl, ?_⟩
  refine Moves.ite ?_ ?_
  · exact (((Moves.set_50 Moves.refl).step (State.snapTallies_moves ..)).step (State.holdupNext_moves ..))
  · exact Moves.refl


theorem execPowerReturn_moves (s : State) :
    ∃ t, execPowerReturn s = .next t ∧ Moves 0xffffffffffffffff001ffffffffffffe s t := by
  unfold execPowerReturn
  refine ⟨_, rfl, ?_⟩
  refine Moves.ite ?_ ?_
  · exact ((Moves.sub (F := 0xffffffffffffffff001ffffffffffffe) (State.wr_moves ..) (Moves.at 2 rfl)).step (State.powerOnReset_moves ..))
  · exact Moves.refl


theorem execTemperatureSample_moves (temps : List ℤ) (s : State) :
    ∃ t, execTemperatureSample temps s = .next t ∧ Moves 0x8000000000000 s t := by
  unfold execTemperatureSample
  refine ⟨_, rfl, ?_⟩
  refine Moves.ite ?_ ?_
  · split
    · extract_lets +onlyGivenNames v0
      extract_lets +onlyGivenNames v1
      exact (Moves.set_51 Moves.refl)
    · exact Moves.refl
  · exact Moves.refl


theorem execGuardExpiry_moves (s : State) :
    ∃ t, execGuardExpiry s = .next t ∧ Moves 0xffffffffffffffff001fffffffffffff s t := by
  unfold execGuardExpiry
  refine ⟨_, rfl, ?_⟩
  refine Moves.ite ?_ ?_
  · extract_lets +onlyGivenNames s0
    have hs0 : Moves 0xffffffffffffffff001fffffffffffff s s0 := by
      refine Moves.ite ?_ ?_
      · exact Moves.refl
      · exact ((Moves.sub (State.advanceTime_moves ..)).step (State.guardWarned_moves ..))
    clear_value s0
    extract_lets +onlyGivenNames s1
    have hs1 : Moves 0xffffffffffffffff001fffffffffffff s s1 := (hs0.step (State.advanceTime_moves ..))
    clear_value s1
    refine Moves.ite ?_ ?_
    · extract_lets +onlyGivenNames s2
      have hs2 : Moves 0xffffffffffffffff001fffffffffffff s s2 := ((hs1.step (State.inc_moves ..) (Moves.at 12 rfl)).step (State.wr_moves ..) (Moves.at 12 rfl))
      clear_value s2
      exact ((Moves.set_51 hs2).step (State.wakeEvent_moves ..))
    · exact (((hs1.step (State.guardLatch_moves ..)).step (State.inc_moves ..) (Moves.at 12 rfl)).step (State.powerOnReset_moves ..))
  · exact Moves.refl


theorem execRefclkFail_moves (r : ℕ) (s : State) :
    ∃ t, execRefclkFail r s = .next t ∧ Moves 0xffffffffffffffff00083cc00007323d s t := by
  unfold execRefclkFail
  refine ⟨_, rfl, ?_⟩
  refine Moves.ite ?_ ?_
  · extract_lets +onlyGivenNames s0
    have hs0 : Moves 0xffffffffffffffff00083cc00007323d s s0 := ((Moves.sub (State.setRef_moves ..)).step (State.irq_moves ..) (Moves.at 1 rfl))
    clear_value s0
    refine Moves.ite ?_ ?_
    · exact hs0
    · refine Moves.ite ?_ ?_
      · refine Moves.ite ?_ ?_
        · exact (hs0.step (State.changeRef_moves ..))
        · exact hs0
      · extract_lets +onlyGivenNames s1
        have hs1 : Moves 0xffffffffffffffff00083cc00007323d s s1 := (hs0.step (State.startHoldup_moves ..))
        clear_value s1
        exact (Moves.set_51 hs1)
  · exact Moves.refl


theorem State.railsFall_moves (s : State) :
    Moves 0x40000080000000014 s (State.railsFall s) := by
  unfold State.railsFall
  split
  rename_i u0 hq1
  have hd2 := Moves.snd (F := 0x40000080000000014) (s := s) hq1 (Moves.sub (State.drawFree_moves ..))
  extract_lets +onlyGivenNames v3
  exact (((hd2.step (State.wrB_moves ..) (Moves.at 2 rfl)).step (State.wrB_moves ..) (Moves.at 2 rfl)).step (State.wrB_moves ..) (Moves.at 2 rfl))


theorem State.railsRise_moves (s : State) :
    Moves 0x40000080000000010 s (State.railsRise s) := by
  unfold State.railsRise
  exact (((Moves.sub (F := 0x40000080000000010) (State.wr_moves ..) (Moves.at 2 rfl)).step (State.wr_moves ..) (Moves.at 2 rfl)).step (State.wr_moves ..) (Moves.at 2 rfl))


theorem execPowerOnReset_moves (cause : ℕ) (s : State) :
    ∃ t, execPowerOnReset cause s = .next t ∧ Moves 0xffffffffffffffff001ffffffffffffe s t := by
  unfold execPowerOnReset
  refine ⟨_, rfl, ?_⟩
  refine Moves.ite ?_ ?_
  · refine Moves.step ?_ (State.powerOnReset_moves ..)
    refine Moves.ite ?_ ?_
    · exact (Moves.sub (State.railsFall_moves ..))
    · exact Moves.refl
  · exact Moves.refl


theorem execResetRelease_moves (aGood bGood senior : Bool) (s : State) :
    ∃ t, execResetRelease aGood bGood senior s = .next t ∧ Moves 0xe2404e0008080000000290 s t := by
  unfold execResetRelease
  refine ⟨_, rfl, ?_⟩
  refine Moves.ite ?_ ?_
  · extract_lets +onlyGivenNames s0
    have hs0 : Moves 0xe2404e0008080000000290 s s0 := (((Moves.sub (State.setRef_moves ..)).step (State.setRef_moves ..)).step (State.railsRise_moves ..))
    clear_value s0
    exact (hs0.step (State.releaseReset_moves ..))
  · exact Moves.refl


theorem Moves.set_7_51 {F : Nat} {s x : State} {f7 : SMap ℕ} {f51 : Aon} (h : Moves F s x) (sub : 0x8000000000080 &&& F = 0x8000000000080 := by rfl) :
    Moves F s { x with softReset := f7, aon := f51 } :=
  h.step (G := 0x8000000000080) ⟨id, Nat.le_refl _, fun p hp => by cases p <;> first | rfl | exact absurd hp (by decide), fun _ _ _ => rfl⟩ sub

theorem execSelftestEnd_moves (keeperFault : Bool) (failed : ℕ) (repairs : List (ℕ × ℕ × ℕ × ℕ × ℕ)) (s : State) :
    ∃ t, execSelftestEnd keeperFault failed repairs s = .next t ∧ Moves 0xffffffffffffffff00080a017fde7bf8 s t := by
  unfold execSelftestEnd
  refine ⟨_, rfl, ?_⟩
  refine Moves.ite ?_ ?_
  · extract_lets +onlyGivenNames v0
    extract_lets +onlyGivenNames s1
    have hs1 : Moves 0xffffffffffffffff00080a017fde7bf8 s s1 := (Moves.sub (State.mapRepairs_moves ..))
    clear_value s1
    extract_lets +onlyGivenNames v2
    extract_lets +onlyGivenNames s3
    have hs3 : Moves 0xffffffffffffffff00080a017fde7bf8 s s3 := (Moves.set_7_51 hs1)
    clear_value s3
    extract_lets +onlyGivenNames v4
    extract_lets +onlyGivenNames s5
    have hs5 : Moves 0xffffffffffffffff00080a017fde7bf8 s s5 := ((hs3.step (State.wr_moves ..) (Moves.at 3 rfl)).step (State.wr_moves ..) (Moves.at 3 rfl))
    clear_value s5
    extract_lets +onlyGivenNames s6
    have hs6 : Moves 0xffffffffffffffff00080a017fde7bf8 s s6 := (hs5.step (State.wrB_moves ..) (Moves.at 3 rfl))
    clear_value s6
    extract_lets +onlyGivenNames s7
    have hs7 : Moves 0xffffffffffffffff00080a017fde7bf8 s s7 := (Moves.foldl (fun _ _ => (Moves.sub (State.failTest_moves ..))) hs6)
    clear_value s7
    refine Moves.ite ?_ ?_
    · exact (hs7.step (State.wr_moves ..) (Moves.at 3 rfl))
    · exact hs7
  · exact Moves.refl


theorem execBoot_moves (s : State) :
    ∃ t, execBoot s = .next t ∧ Moves 0xffffffffffffffff001e69580000263d s t := by
  unfold execBoot
  refine ⟨_, rfl, ?_⟩
  refine Moves.ite ?_ ?_
  · extract_lets +onlyGivenNames v0
    extract_lets +onlyGivenNames v1
    extract_lets +onlyGivenNames s2
    have hs2 : Moves 0xffffffffffffffff001e69580000263d s s2 := by
      refine Moves.ite ?_ ?_
      · exact (Moves.sub (State.writeLevel_moves ..))
      · exact Moves.refl
    clear_value s2
    extract_lets +onlyGivenNames s3
    have hs3 : Moves 0xffffffffffffffff001e69580000263d s s3 := (hs2.step (State.wr_moves ..) (Moves.at 19 rfl))
    clear_value s3
    extract_lets +onlyGivenNames f4
    have hf4 : ∀ y5 y6, Moves 0xffffffffffffffff001e69580000263d y5 (f4 y5 y6) := by
      intro y5 y6
      exact (((Moves.sub (F := 0xffffffffffffffff001e69580000263d) (State.wr_moves ..) (Moves.at 19 rfl)).step (State.startKeeper_moves ..)).step (State.firmwareStarts_moves ..))
    clear_value f4
    refine Moves.ite ?_ ?_
    · exact (hs3.trans (hf4 ..))
    · refine Moves.ite ?_ ?_
      · exact (hs3.trans (hf4 ..))
      · exact ((hs3.step (State.wr_moves ..) (Moves.at 19 rfl)).step (State.wr_moves ..) (Moves.at 3 rfl))
  · exact Moves.refl


theorem rstCtl_moves (s : State) (v : ℕ) :
    Moves 0xffffffffffffffff001ffffffffffffe s (rstCtl s v) := by
  unfold rstCtl
  refine Moves.ite ?_ ?_
  · exact (Moves.sub (State.powerOnReset_moves ..))
  · exact Moves.refl


theorem execPartReset_moves (w : Who) (s : State) :
    ∃ t, execPartReset w s = .next t ∧ Moves 0xffffffffffffffff001ffffffffffffe s t := by
  unfold execPartReset
  refine ⟨_, rfl, ?_⟩
  exact (Moves.sub (writeThen_moves (F := 0xffffffffffffffff001ffffffffffffe) (h_effect := fun _ _ => (Moves.sub (rstCtl_moves ..))) ..))


theorem execSleepRequest_moves (blocks tallies : List ℕ) (s : State) :
    ∃ t, execSleepRequest blocks tallies s = .next t ∧ Moves 0xffffffffffffffff000c2d1880204e3c s t := by
  unfold execSleepRequest
  refine ⟨_, rfl, ?_⟩
  exact (Moves.sub (State.serviceEntry_moves (F := 0xffffffffffffffff000c2d1880204e3c) (h_act := by
          intro z0 z1
          refine Moves.ite ?_ ?_
          · exact (Moves.sub (State.fallAsleep_moves ..))
          · exact (Moves.sub (State.archive_moves ..))) ..))


theorem execWake_moves (mspi : Bool) (s : State) :
    ∃ t, execWake mspi s = .next t ∧ Moves 0xffffffffffffffff001e3cc80007323d s t := by
  unfold execWake
  refine ⟨_, rfl, ?_⟩
  refine Moves.ite ?_ ?_
  · extract_lets +onlyGivenNames v0
    split
    · exact (Moves.sub (State.wakeUp_moves ..))
    · exact Moves.refl
  · exact Moves.refl


end Sys2Proof.Machine
end

