-- ==== Sys2Proof/Laws/MovesBus.lean ====
section
/-! SUPPORT.  What each operation of the bus and the cores can do to the state, said once: the parts it may
change (a mask, one bit a part of `Safety.lean`), that it keeps the state sane and that it draws free values in order.
A lemma `Moves.set_…` says it of one record update. -/

open Sys2Proof Sys2Proof.Machine Sys2Proof.Bits
namespace Sys2Proof.Machine
set_option Elab.async false

theorem hotCheck_moves (code off : ℕ) (pre s : State) :
    Moves 0x80000000000000080000000010 s (hotCheck code off pre s) := by
  unfold hotCheck
  extract_lets +onlyGivenNames v0
  refine Moves.ite ?_ ?_
  · exact Moves.refl
  · exact (Moves.sub (State.hotLost_moves ..))


theorem keeperEffect_moves (w : Who) (code off : ℕ) (pre s : State) (v : ℕ) :
    Moves 0xffffffffffffffff001fffffffffffff s (keeperEffect w code off pre s v) := by
  unfold keeperEffect
  split
  · exact (Moves.sub (State.clkCfg_moves ..))
  · exact (Moves.sub (State.pwrSw_moves ..))
  · exact (Moves.sub (State.pwrRetain_moves ..))
  · exact (Moves.sub (rstCtl_moves ..))
  · exact (Moves.sub (State.dieResets_moves ..))
  · refine Moves.ite ?_ ?_
    · exact (Moves.sub (clampZero_moves ..))
    · exact Moves.refl
  · exact (Moves.sub (State.fabFence_moves ..))
  · exact (Moves.sub (State.fabUnfence_moves ..))
  · exact (Moves.sub (quePush_moves ..))
  · exact (Moves.sub (memPower_moves ..))
  · exact (Moves.sub (marchCtl_moves ..))
  · exact (Moves.sub (marchRepair_moves ..))
  · exact (Moves.sub (tokenAcqWrite_moves ..))
  · exact (Moves.sub (tokenRelWrite_moves ..))
  · exact (Moves.sub (periodSet_moves ..))
  · exact (Moves.sub (tickPoints_moves ..))
  · exact (Moves.sub (fwatchCtl_moves ..))
  · exact (Moves.sub (State.guardService_moves ..))
  · exact (Moves.sub (State.guardKey_moves ..))
  · exact (Moves.sub (State.guardCtl_moves ..))
  · exact (Moves.sub (State.aonFlags_moves ..))
  · exact (Moves.sub (State.rtcCtl_moves ..))
  · exact (Moves.sub (State.rtcMeas_moves ..))
  · exact (Moves.sub (nvcClr_moves ..))
  · exact (Moves.sub (State.archCtl_moves ..))
  · exact (Moves.sub (State.tallyGo_moves ..))
  · exact (Moves.sub (State.tallyDef_moves ..))
  · exact (Moves.sub (State.updCtl_moves ..))
  · exact (Moves.sub (State.shuntReq_moves ..))
  · exact (Moves.sub (State.pairCfg_moves ..))
  · exact (Moves.sub (State.pairReq_moves ..))
  · exact (Moves.sub (State.tabletStep_moves ..))
  · exact (Moves.sub (State.partReq_moves ..))
  · exact (Moves.sub (ptpDecide_moves ..))
  · exact (Moves.sub (tsnEntry_moves ..))
  · exact (Moves.sub (tsnCtl_moves ..))
  · exact (Moves.sub (lineCfg_moves ..))
  · exact (Moves.sub (lineCfg_moves ..))
  · exact (Moves.sub (lineCfg_moves ..))
  · exact (Moves.sub (lineCfg_moves ..))
  · exact (Moves.sub (canCtl_moves ..) (Moves.at 33 rfl))
  · exact (Moves.sub (canCtl_moves ..) (Moves.at 34 rfl))
  · exact (Moves.sub (canTxcmd_moves ..) (Moves.at 33 rfl))
  · exact (Moves.sub (canTxcmd_moves ..) (Moves.at 34 rfl))
  · exact (Moves.sub (xspiCmd_moves ..))
  · exact (Moves.sub (fpxCtl_moves ..))
  · exact (Moves.sub (modeReq_moves ..))
  · exact (Moves.sub (hotCheck_moves ..))
  · exact (Moves.sub (hotCheck_moves ..))
  · exact (Moves.sub (hotCheck_moves ..))
  · exact (Moves.sub (hotCheck_moves ..))
  · refine Moves.ite ?_ ?_
    · exact (Moves.sub (State.queueCfg_moves ..))
    · refine Moves.ite ?_ ?_
      · exact (Moves.sub (quePop_moves ..))
      · refine Moves.ite ?_ ?_
        · exact (Moves.sub (State.guardVoid_moves ..))
        · refine Moves.ite ?_ ?_
          · exact (Moves.sub (State.binEdge_moves ..))
          · refine Moves.ite ?_ ?_
            · exact (Moves.sub (hotCheck_moves ..))
            · exact Moves.refl


theorem scanEffect_moves (w : Who) (die code off : ℕ) (pre s : State) (v : ℕ) :
    Moves 0xffffffffffffffff00000a0131007e3c s (scanEffect w die code off pre s v) := by
  unfold scanEffect
  split
  · refine Moves.ite ?_ ?_
    · exact (Moves.sub (clampZero_moves ..))
    · exact Moves.refl
  · exact (Moves.sub (quePush_moves ..))
  · exact (Moves.sub (memPower_moves ..))
  · exact (Moves.sub (dmaGoWrite_moves ..))
  · exact (Moves.sub (marchCtl_moves ..))
  · exact (Moves.sub (marchRepair_moves ..))
  · exact (Moves.sub (ttblCtl_moves ..))
  · exact (Moves.sub (rowStored_moves ..))
  · exact (Moves.sub (sboxClr_moves ..))
  · exact (Moves.sub (dbgWatch_moves ..))
  · refine Moves.ite ?_ ?_
    · exact (Moves.sub (State.queueCfg_moves ..))
    · refine Moves.ite ?_ ?_
      · exact (Moves.sub (quePop_moves ..))
      · refine Moves.ite ?_ ?_
        · exact (Moves.sub (maskLow_moves ..))
        · refine Moves.ite ?_ ?_
          · exact (Moves.sub (maskHigh_moves ..))
          · refine Moves.ite ?_ ?_
            · split
              · exact (Moves.sub (State.coreCtl_moves ..))
              · exact (Moves.sub (State.coreSoft_moves ..))
              · exact (Moves.sub (State.routerClr_moves ..))
              · exact (Moves.sub (State.routerClr_moves ..))
              · exact Moves.refl
            · exact Moves.refl


theorem enableFollows_moves (die code : ℕ) (s : State) :
    Moves 0x7e80200600000081000000610 s (enableFollows die code s) := by
  unfold enableFollows
  refine Moves.ite ?_ ?_
  · exact Moves.refl
  · split
    · exact (Moves.sub (ptpDecide_moves ..))
    · exact (Moves.sub (State.showLink_moves ..) (Moves.at 29 rfl))
    · exact (Moves.sub (State.showLink_moves ..) (Moves.at 30 rfl))
    · exact (Moves.sub (State.showLink_moves ..) (Moves.at 31 rfl))
    · exact (Moves.sub (State.showLink_moves ..) (Moves.at 32 rfl))
    · exact (Moves.sub (State.canApply_moves ..) (Moves.at 33 rfl))
    · exact (Moves.sub (State.canApply_moves ..) (Moves.at 34 rfl))
    · exact Moves.refl


theorem blockStops_moves (die code : ℕ) (s : State) :
    Moves 0xe0018016000001e100000063c s (blockStops die code s) := by
  unfold blockStops
  split
  · exact (Moves.sub (State.stopMarch_moves ..))
  · refine Moves.ite ?_ ?_
    · exact (Moves.sub (State.updSoftReset_moves ..))
    · exact Moves.refl
  · refine Moves.ite ?_ ?_
    · exact (Moves.sub (State.abandonShunt_moves ..))
    · exact Moves.refl
  · refine Moves.ite ?_ ?_
    · exact (Moves.sub (canSoftReset_moves ..) (Moves.at 33 rfl))
    · exact Moves.refl
  · refine Moves.ite ?_ ?_
    · exact (Moves.sub (canSoftReset_moves ..) (Moves.at 34 rfl))
    · exact Moves.refl
  · refine Moves.ite ?_ ?_
    · exact (Moves.sub (xspiSoftReset_moves ..))
    · exact Moves.refl
  · exact Moves.refl


theorem blockRestarts_moves (die code : ℕ) (pre s : State) :
    Moves 0xffffffffffffffff00002c4080002e38 s (blockRestarts die code pre s) := by
  unfold blockRestarts
  split
  · exact (Moves.foldl (fun _ _ => (Moves.sub (State.queueCfg_moves ..))) Moves.refl)
  · exact (Moves.sub (memPower_moves ..))
  · refine Moves.ite ?_ ?_
    · exact (Moves.sub (State.pairCfg_moves ..))
    · exact Moves.refl
  · refine Moves.ite ?_ ?_
    · exact (Moves.sub (State.showTables_moves ..))
    · exact Moves.refl
  · refine Moves.ite ?_ ?_
    · exact (Moves.sub (State.showTables_moves ..))
    · exact Moves.refl
  · refine Moves.ite ?_ ?_
    · exact (Moves.sub (ptpRestart_moves ..))
    · exact Moves.refl
  · refine Moves.ite ?_ ?_
    · exact (Moves.sub (ptpRestart_moves ..))
    · exact Moves.refl
  · refine Moves.ite ?_ ?_
    · exact (Moves.sub (State.coreCtl_moves ..))
    · exact Moves.refl
  · refine Moves.ite ?_ ?_
    · exact (Moves.sub (State.coreCtl_moves ..))
    · exact Moves.refl
  · refine Moves.ite ?_ ?_
    · exact (Moves.sub (State.coreCtl_moves ..))
    · exact Moves.refl
  · refine Moves.ite ?_ ?_
    · exact (Moves.sub (State.coreCtl_moves ..))
    · exact Moves.refl
  · exact Moves.refl


theorem softReset_moves (die code : ℕ) (s : State) :
    Moves 0xffffffffffffffff00003e5080002efc s (softReset die code s) := by
  unfold softReset
  extract_lets +onlyGivenNames s0
  have hs0 : Moves 0xffffffffffffffff00003e5080002efc s s0 := ((Moves.sub (blockStops_moves ..)).step (softResetPage_moves_any ..))
  clear_value s0
  extract_lets +onlyGivenNames s1
  have hs1 : Moves 0xffffffffffffffff00003e5080002efc s s1 := (hs0.step (blockRestarts_moves ..))
  clear_value s1
  split
  · refine Moves.ite ?_ ?_
    · exact (hs1.step (lineCfg_moves ..))
    · exact hs1
  · refine Moves.ite ?_ ?_
    · exact (hs1.step (lineCfg_moves ..))
    · exact hs1
  · refine Moves.ite ?_ ?_
    · exact (hs1.step (lineCfg_moves ..))
    · exact hs1
  · refine Moves.ite ?_ ?_
    · exact (hs1.step (lineCfg_moves ..))
    · exact hs1
  · exact hs1


theorem pctlWrite_moves (die code : ℕ) (s : State) (v : ℕ) :
    Moves 0xffffffffffffffff00003e5080002efc s (pctlWrite die code s v) := by
  unfold pctlWrite
  refine Moves.step ?_ (enableFollows_moves ..)
  refine Moves.ite ?_ ?_
  · exact (Moves.sub (softReset_moves ..))
  · exact Moves.refl


theorem regWrite_moves (w : Who) (die code off word : ℕ) (s : State) :
    Moves 0xffffffffffffffff001fffffffffffff s (regWrite w die code off word s) := by
  unfold regWrite
  refine Moves.ite ?_ ?_
  · exact (Moves.sub (fieldWrite_moves ..))
  · refine Moves.ite ?_ ?_
    · exact (Moves.sub (nvcWrite_moves ..))
    · refine Moves.ite ?_ ?_
      · exact (Moves.sub (writeThen_moves_any (F := 0xffffffffffffffff00003e5080002efc) (h_effect := fun _ _ => (Moves.sub (pctlWrite_moves ..))) ..))
      · refine Moves.ite ?_ ?_
        · exact (Moves.sub (plainWrite_moves_any ..))
        · refine Moves.ite ?_ ?_
          · exact (Moves.sub (tableWrite_moves ..))
          · refine Moves.ite ?_ ?_
            · exact (Moves.sub (timrWrite_moves ..))
            · refine Moves.ite ?_ ?_
              · exact (Moves.sub (writeWith_moves_any (F := 0xffffffffffffffff001fffffffffffff) (h_effect := fun _ _ _ => (Moves.sub (keeperEffect_moves ..))) ..))
              · exact (Moves.sub (writeWith_moves_any (F := 0xffffffffffffffff00000a0131007e3c) (h_effect := fun _ _ _ => (Moves.sub (scanEffect_moves ..))) ..))


theorem readLatch_moves (die code off : ℕ) (s : State) :
    Moves 0x80c00200000080000000010 s (readLatch die code off s) := by
  unfold readLatch
  split
  · exact (Moves.sub (ptpTimeRead_moves ..))
  · exact (Moves.sub (counterLatch_moves ..))
  · exact (Moves.sub (counterLatch_moves ..))
  · exact (Moves.sub (deadlineLatch_moves ..))
  · exact (Moves.sub (fsupLatch_moves ..))
  · exact Moves.refl


theorem readTakes_moves (who die code off : ℕ) (s : State) :
    Moves 0xffffffffffffffff0002081000000010 s (readTakes who die code off s) := by
  unfold readTakes
  refine Moves.ite ?_ ?_
  · exact (Moves.sub (State.edgePop_moves ..))
  · refine Moves.ite ?_ ?_
    · exact (Moves.sub (State.fskPop_moves ..))
    · refine Moves.ite ?_ ?_
      · exact (Moves.sub (State.rxRead_moves_any ..))
      · refine Moves.foldl (fun t0 x1 => ?_) ?_
        · refine Moves.ite ?_ ?_
          · exact (Moves.sub (State.resetField_moves_any ..))
          · exact Moves.refl
        · exact Moves.refl


theorem regRead_moves (who die code off : ℕ) (s : State) :
    Moves 0xffffffffffffffff0002081000000010 s (regRead who die code off s).1 := by
  unfold regRead
  refine Moves.ite1 ?_ ?_
  · exact Moves.refl
  · extract_lets +onlyGivenNames s0
    have hs0 : Moves 0xffffffffffffffff0002081000000010 s s0 := (Moves.sub (readLatch_moves ..))
    clear_value s0
    dsimp -zeta only
    exact (hs0.step (readTakes_moves ..))


theorem State.busRead_moves (s : State) (w : Who) (a n : ℕ) :
    Moves 0xffffffffffffffff0002081000001210 s (State.busRead s w a n).1 := by
  unfold State.busRead
  split
  · split
    · rename_i u0 hq1
      have hd2 : Moves 0xffffffffffffffff0002081000001210 s u0 := Moves.sub (State.unreachable_moves (h := hq1) ..)
      dsimp -zeta only
      exact hd2
    · refine Moves.ite1 ?_ ?_
      · exact Moves.refl
      · refine Moves.ite1 ?_ ?_
        · extract_lets +onlyGivenNames r3
          have hr3 : Moves 0xffffffffffffffff0002081000001210 s r3.1 := (Moves.sub (regRead_moves ..))
          clear_value r3
          dsimp -zeta only
          exact hr3
        · dsimp -zeta only
          exact (Moves.sub (State.slip_moves_any ..))
  · exact (Moves.sub (State.memRead_moves ..))


theorem State.busWrite_moves (s : State) (w : Who) (a n v : ℕ) :
    Moves 0xffffffffffffffff001fffffffffffff s (State.busWrite s w a n v).1 := by
  unfold State.busWrite
  split
  · split
    · rename_i u0 hq1
      have hd2 : Moves 0xffffffffffffffff001fffffffffffff s u0 := Moves.sub (State.unreachable_moves (h := hq1) ..)
      dsimp -zeta only
      exact hd2
    · extract_lets +onlyGivenNames v3
      split
      rename_i u4 hq5
      have hd6 := Moves.snd (F := 0xffffffffffffffff001fffffffffffff) (s := s) hq5 (Moves.sub (State.takeFailed_moves ..))
      refine Moves.ite1 ?_ ?_
      · dsimp -zeta only
        exact hd6
      · refine Moves.ite1 ?_ ?_
        · dsimp -zeta only
          exact hd6
        · refine Moves.ite1 ?_ ?_
          · dsimp -zeta only
            exact hd6
          · refine Moves.ite1 ?_ ?_
            · extract_lets +onlyGivenNames s7
              have hs7 : Moves 0xffffffffffffffff001fffffffffffff s s7 := (hd6.step (regWrite_moves ..))
              clear_value s7
              dsimp -zeta only
              exact hs7
            · dsimp -zeta only
              exact (hd6.step (State.slip_moves_any ..))
  · exact (Moves.sub (State.memWrite_moves ..))


theorem State.setReply_moves (s : State) (who : ℕ) (e : Ended) :
    Moves 0x100 s (State.setReply s who e) := by
  unfold State.setReply
  split
  · exact (Moves.sub (State.reply_moves ..))
  · exact (Moves.sub (State.reply_moves ..))
  · exact Moves.refl


theorem State.busRequest_moves (s : State) (w : Who) (write : Bool) (a n v : ℕ) :
    Moves 0xffffffffffffffff001fffffffffffff s (State.busRequest s w write a n v) := by
  unfold State.busRequest
  refine Moves.ite ?_ ?_
  · extract_lets +onlyGivenNames r0
    have hr0 : Moves 0xffffffffffffffff001fffffffffffff s r0.1 := by
      refine Moves.ite1 ?_ ?_
      · exact (Moves.sub (State.busWrite_moves ..))
      · exact (Moves.sub (State.busRead_moves ..))
    clear_value r0
    extract_lets +onlyGivenNames s1
    have hs1 : Moves 0xffffffffffffffff001fffffffffffff s s1 := by
      refine Moves.ite ?_ ?_
      · exact (hr0.step (State.noteRequest_moves ..))
      · exact hr0
    clear_value s1
    exact (hs1.step (State.setReply_moves ..))
  · refine Moves.ite ?_ ?_
    · exact (Moves.sub (State.setReply_moves ..))
    · exact Moves.refl


theorem execRegisterWrite_moves (w : Who) (die code off word : ℕ) (s : State) :
    ∃ t, execRegisterWrite w die code off word s = .next t ∧ Moves 0xffffffffffffffff001fffffffffffff s t := by
  unfold execRegisterWrite
  refine ⟨_, rfl, ?_⟩
  refine Moves.ite ?_ ?_
  · exact (Moves.sub (regWrite_moves ..))
  · exact Moves.refl


theorem execRcRead_moves (w : Who) (die code off : ℕ) (s : State) :
    ∃ t, execRcRead w die code off s = .next t ∧ Moves 0xffffffffffffffff0002081000000310 s t := by
  unfold execRcRead
  refine ⟨_, rfl, ?_⟩
  refine Moves.ite ?_ ?_
  · exact (Moves.sub (State.reading_moves (F := 0xffffffffffffffff0002081000000110) (h_act := by
          intro z0
          extract_lets +onlyGivenNames r1
          have hr1 : Moves 0xffffffffffffffff0002081000000110 z0 r1.1 := (Moves.sub (regRead_moves ..))
          clear_value r1
          exact (hr1.step (State.reply_moves ..))) ..))
  · exact Moves.refl


theorem execSoftReset_moves (w : Who) (die code : ℕ) (en : Bool) (s : State) :
    ∃ t, execSoftReset w die code en s = .next t ∧ Moves 0xffffffffffffffff001fffffffffffff s t := by
  unfold execSoftReset
  refine ⟨_, rfl, ?_⟩
  refine Moves.ite ?_ ?_
  · exact (Moves.sub (regWrite_moves ..))
  · exact Moves.refl


theorem coreLoad_moves {F : Nat} (s : State) (die n a size : ℕ) (k : State → ℕ → CoreOut) (h_k : ∀ y0 y1, Moves F y0 (k y0 y1).st) :
    Moves (0xffffffffffffffff0002081000001214 ||| F) s (coreLoad s die n a size k).st := by
  unfold coreLoad
  extract_lets +onlyGivenNames c0
  refine Moves.iteF (g := CoreOut.st) ?_ ?_
  · exact (Moves.stCoreOut_trap Moves.refl)
  · refine Moves.iteF (g := CoreOut.st) ?_ ?_
    · exact (Moves.stCoreOut_trap Moves.refl)
    · split
      · rename_i hq1
        have hd2 := Moves.fst (F := (0xffffffffffffffff0002081000001214 ||| F)) (s := s) hq1 (Moves.sub (State.busRead_moves ..) (Moves.or_le rfl))
        exact (hd2.step (h_k ..) Moves.or_right)
      · rename_i hq3
        have hd4 := Moves.fst (F := (0xffffffffffffffff0002081000001214 ||| F)) (s := s) hq3 (Moves.sub (State.busRead_moves ..) (Moves.or_le rfl))
        refine Moves.stCoreOut_trap ?_
        refine Moves.ite ?_ ?_
        · exact (hd4.step (State.noteRequest_moves ..) (Moves.or_le rfl))
        · exact hd4
      · rename_i hq5
        have hd6 := Moves.fst (F := (0xffffffffffffffff0002081000001214 ||| F)) (s := s) hq5 (Moves.sub (State.busRead_moves ..) (Moves.or_le rfl))
        exact (Moves.stCoreOut_wait hd6)


theorem coreStore_moves {F : Nat} (s : State) (die n a size v : ℕ) (k : State → CoreOut) (h_k : ∀ y0, Moves F y0 (k y0).st) :
    Moves (0xffffffffffffffff001fffffffffffff ||| F) s (coreStore s die n a size v k).st := by
  unfold coreStore
  extract_lets +onlyGivenNames c0
  refine Moves.iteF (g := CoreOut.st) ?_ ?_
  · exact (Moves.stCoreOut_trap Moves.refl)
  · refine Moves.iteF (g := CoreOut.st) ?_ ?_
    · exact (Moves.stCoreOut_trap Moves.refl)
    · split
      · rename_i hq1
        have hd2 := Moves.fst (F := (0xffffffffffffffff001fffffffffffff ||| F)) (s := s) hq1 (Moves.sub (State.busWrite_moves ..) (Moves.or_le rfl))
        exact (hd2.step (h_k ..) Moves.or_right)
      · rename_i hq3
        have hd4 := Moves.fst (F := (0xffffffffffffffff001fffffffffffff ||| F)) (s := s) hq3 (Moves.sub (State.busWrite_moves ..) (Moves.or_le rfl))
        refine Moves.stCoreOut_trap ?_
        refine Moves.ite ?_ ?_
        · exact (hd4.step (State.noteRequest_moves ..) (Moves.or_le rfl))
        · exact hd4
      · rename_i hq5
        have hd6 := Moves.fst (F := (0xffffffffffffffff001fffffffffffff ||| F)) (s := s) hq5 (Moves.sub (State.busWrite_moves ..) (Moves.or_le rfl))
        exact (Moves.stCoreOut_wait hd6)


theorem coreIllegal_moves (s : State) (word : ℕ) :
    Moves 0x0 s (coreIllegal s word).st := by
  unfold coreIllegal
  refine Moves.stCoreOut_trap ?_
  exact Moves.refl


theorem coreBits_moves {F : Nat} (s : State) (die n cause : ℕ) (r : Option (ℕ × ℕ × ℕ)) (k : State → ℕ → ℕ → ℕ → ℕ → CoreOut) (h_k : ∀ y0 y1 y2 y3 y4, Moves F y0 (k y0 y1 y2 y3 y4).st) :
    Moves (0x200e00000080000000214 ||| F) s (coreBits s die n cause r k).st := by
  unfold coreBits
  extract_lets +onlyGivenNames c0
  split
  · split
    · rename_i hq1
      have hd2 := Moves.snd (F := (0x200e00000080000000214 ||| F)) (s := s) hq1 (Moves.sub (State.drawFree_moves ..) (Moves.or_le rfl))
      exact (Moves.stCoreOut_trap hd2)
  · extract_lets +onlyGivenNames a3
    refine Moves.iteF (g := CoreOut.st) ?_ ?_
    · exact (Moves.stCoreOut_trap Moves.refl)
    · clear_value a3
      split
      · rename_i hq4
        have hd5 := Moves.fst (F := (0x200e00000080000000214 ||| F)) (s := s) hq4 (Moves.sub (State.readOwn_moves ..) (Moves.or_le rfl))
        exact (hd5.step (h_k ..) Moves.or_right)
      · rename_i hq6
        have hd7 := Moves.fst (F := (0x200e00000080000000214 ||| F)) (s := s) hq6 (Moves.sub (State.readOwn_moves ..) (Moves.or_le rfl))
        exact (Moves.stCoreOut_trap hd7)


theorem coreBitsStore_moves {F : Nat} (s : State) (die n sp w v : ℕ) (k : State → CoreOut) (h_k : ∀ y0, Moves F y0 (k y0).st) :
    Moves (0x20000000080000002238 ||| F) s (coreBitsStore s die n sp w v k).st := by
  unfold coreBitsStore
  split
  · rename_i hq0
    have hd1 := Moves.fst (F := (0x20000000080000002238 ||| F)) (s := s) hq0 (Moves.sub (State.writeOwn_moves ..) (Moves.or_le rfl))
    exact (hd1.step (h_k ..) Moves.or_right)
  · rename_i hq2
    have hd3 := Moves.fst (F := (0x20000000080000002238 ||| F)) (s := s) hq2 (Moves.sub (State.writeOwn_moves ..) (Moves.or_le rfl))
    exact (Moves.stCoreOut_trap hd3)


theorem whenFs_moves {F : Nat} (s : State) (die n word : ℕ) (k : State → CoreOut) (h_k : ∀ y0, Moves F y0 (k y0).st) :
    Moves (0x0 ||| F) s (whenFs s die n word k).st := by
  unfold whenFs
  refine Moves.iteF (g := CoreOut.st) ?_ ?_
  · exact (Moves.sub (coreIllegal_moves ..) (Moves.or_le rfl))
  · exact (Moves.sub (h_k ..) Moves.or_right)


theorem withRm_moves {F : Nat} (s : State) (die n word rm : ℕ) (k : State → Float.Rm → CoreOut) (h_k : ∀ y0 y1, Moves F y0 (k y0 y1).st) :
    Moves (0x0 ||| F) s (withRm s die n word rm k).st := by
  unfold withRm
  exact Moves.sub (whenFs_moves (F := 0x0 ||| F) (h_k := by
      intro z0
      split
      · exact (Moves.sub (h_k ..) Moves.or_right)
      · exact (Moves.sub (coreIllegal_moves ..) (Moves.or_le rfl))) ..) (Moves.or_mono2 rfl rfl)


theorem coreJump_moves (s : State) (target cost : ℕ) (upd : Core → Core) :
    Moves 0x0 s (coreJump s target cost upd).st := by
  unfold coreJump
  refine Moves.iteF (g := CoreOut.st) ?_ ?_
  · refine Moves.stCoreOut_trap ?_
    exact Moves.refl
  · refine Moves.stCoreOut_done ?_
    exact Moves.refl


theorem coreCsr_moves (s : State) (die n word f3 rd rs1 num : ℕ) :
    Moves 0x0 s (coreCsr s die n word f3 rd rs1 num).st := by
  unfold coreCsr
  extract_lets +onlyGivenNames v0
  extract_lets +onlyGivenNames v1
  extract_lets +onlyGivenNames v2
  split
  · exact (Moves.sub (coreIllegal_moves ..))
  · refine Moves.iteF (g := CoreOut.st) ?_ ?_
    · exact (Moves.sub (coreIllegal_moves ..))
    · extract_lets +onlyGivenNames v3
      extract_lets +onlyGivenNames v4
      refine Moves.stCoreOut_done ?_
      exact Moves.refl


theorem coreAmo_moves {F : Nat} (s : State) (die n a : ℕ) (lr : Bool) (k : State → ℕ → CoreOut) (h_k : ∀ y0 y1, Moves F y0 (k y0 y1).st) :
    Moves (0xffffffffffffffff0002081000001214 ||| F) s (coreAmo s die n a lr k).st := by
  unfold coreAmo
  refine Moves.iteF (g := CoreOut.st) Moves.refl (Moves.iteF (g := CoreOut.st) Moves.refl ?_)
  have hr := coreLoad_moves s die n a 4 k h_k
  split
  · rename_i t tv hq
    rw [hq] at hr
    exact hr
  · exact hr


theorem coreExec_moves (s : State) (die n word : ℕ) (op : CoreOp) :
    Moves 0xffffffffffffffff001fffffffffffff s (coreExec s die n word op).st := by
  unfold coreExec
  extract_lets +onlyGivenNames v0
  extract_lets +onlyGivenNames v1
  split
  · refine Moves.stCoreOut_done ?_
    exact Moves.refl
  · refine Moves.stCoreOut_done ?_
    exact Moves.refl
  · exact (Moves.sub (coreJump_moves ..))
  · exact (Moves.sub (coreJump_moves ..))
  · refine Moves.iteF (g := CoreOut.st) ?_ ?_
    · exact (Moves.sub (coreJump_moves ..))
    · refine Moves.stCoreOut_done ?_
      exact Moves.refl
  · extract_lets +onlyGivenNames v2
    exact (Moves.sub (coreLoad_moves (F := 0x0) (h_k := by
          intro z3 z4
          refine Moves.stCoreOut_done ?_
          exact Moves.refl) ..))
  · extract_lets +onlyGivenNames v5
    exact (Moves.sub (coreStore_moves (F := 0x0) (h_k := by
          intro z6
          refine Moves.stCoreOut_done ?_
          exact Moves.refl) ..))
  · refine Moves.stCoreOut_done ?_
    exact Moves.refl
  · refine Moves.stCoreOut_done ?_
    exact Moves.refl
  · refine Moves.stCoreOut_done ?_
    exact Moves.refl
  · refine Moves.stCoreOut_done ?_
    exact Moves.refl
  · refine Moves.stCoreOut_done ?_
    exact Moves.refl
  · refine Moves.stCoreOut_trap ?_
    exact Moves.refl
  · refine Moves.stCoreOut_trap ?_
    exact Moves.refl
  · refine Moves.iteF (g := CoreOut.st) ?_ ?_
    · refine Moves.stCoreOut_done ?_
      exact Moves.refl
    · exact (Moves.sub (coreIllegal_moves ..))
  · refine Moves.iteF (g := CoreOut.st) ?_ ?_
    · refine Moves.stCoreOut_done ?_
      exact Moves.refl
    · exact (Moves.sub (coreIllegal_moves ..))
  · exact (Moves.sub (coreCsr_moves ..))
  · exact (Moves.sub (coreAmo_moves (F := 0x0) (h_k := by
          intro z7 z8
          refine Moves.stCoreOut_done ?_
          exact Moves.refl) ..))
  · exact (Moves.sub (coreAmo_moves (F := 0xffffffffffffffff001fffffffffffff) (h_k := by
          intro z9 z10
          refine Moves.iteF (g := CoreOut.st) ?_ ?_
          · exact (Moves.sub (coreStore_moves (F := 0x0) (h_k := by
          intro z11
          refine Moves.stCoreOut_done ?_
          exact Moves.refl) ..))
          · refine Moves.stCoreOut_done ?_
            exact Moves.refl) ..))
  · exact (Moves.sub (coreAmo_moves (F := 0xffffffffffffffff001fffffffffffff) (h_k := fun _ _ => (Moves.sub (coreStore_moves (F := 0x0) (h_k := by
          intro z12
          refine Moves.stCoreOut_done ?_
          exact Moves.refl) ..))) ..))
  · extract_lets +onlyGivenNames v13
    exact (Moves.sub (whenFs_moves (F := 0xffffffffffffffff0002081000001214) (h_k := fun _ => (Moves.sub (coreLoad_moves (F := 0x0) (h_k := by
          intro z14 z15
          refine Moves.stCoreOut_done ?_
          exact Moves.refl) ..))) ..))
  · extract_lets +onlyGivenNames v16
    exact (Moves.sub (whenFs_moves (F := 0xffffffffffffffff001fffffffffffff) (h_k := fun _ => (Moves.sub (coreStore_moves (F := 0x0) (h_k := by
          intro z17
          refine Moves.stCoreOut_done ?_
          exact Moves.refl) ..))) ..))
  · exact (Moves.sub (withRm_moves (F := 0x0) (h_k := by
          intro z18 z19
          extract_lets +onlyGivenNames v20
          extract_lets +onlyGivenNames v21
          refine Moves.stCoreOut_done ?_
          exact Moves.refl) ..))
  · exact (Moves.sub (withRm_moves (F := 0x0) (h_k := by
          intro z22 z23
          extract_lets +onlyGivenNames v24
          extract_lets +onlyGivenNames v25
          extract_lets +onlyGivenNames v26
          extract_lets +onlyGivenNames v27
          refine Moves.stCoreOut_done ?_
          exact Moves.refl) ..))
  · exact (Moves.sub (withRm_moves (F := 0x0) (h_k := by
          intro z28 z29
          extract_lets +onlyGivenNames v30
          refine Moves.stCoreOut_done ?_
          exact Moves.refl) ..))
  · extract_lets +onlyGivenNames v31
    extract_lets +onlyGivenNames v32
    extract_lets +onlyGivenNames v33
    extract_lets +onlyGivenNames v34
    extract_lets +onlyGivenNames v35
    exact (Moves.sub (whenFs_moves (F := 0x0) (h_k := by
          intro z36
          refine Moves.stCoreOut_done ?_
          exact Moves.refl) ..))
  · extract_lets +onlyGivenNames v37
    extract_lets +onlyGivenNames v38
    extract_lets +onlyGivenNames v39
    extract_lets +onlyGivenNames v40
    exact (Moves.sub (whenFs_moves (F := 0x0) (h_k := by
          intro z41
          refine Moves.stCoreOut_done ?_
          exact Moves.refl) ..))
  · exact (Moves.sub (whenFs_moves (F := 0x0) (h_k := by
          intro z42
          refine Moves.stCoreOut_done ?_
          exact Moves.refl) ..))
  · exact (Moves.sub (withRm_moves (F := 0x0) (h_k := by
          intro z43 z44
          extract_lets +onlyGivenNames v45
          refine Moves.stCoreOut_done ?_
          exact Moves.refl) ..))
  · exact (Moves.sub (withRm_moves (F := 0x0) (h_k := by
          intro z46 z47
          extract_lets +onlyGivenNames v48
          refine Moves.stCoreOut_done ?_
          exact Moves.refl) ..))
  · exact (Moves.sub (withRm_moves (F := 0x0) (h_k := by
          intro z49 z50
          extract_lets +onlyGivenNames v51
          refine Moves.stCoreOut_done ?_
          exact Moves.refl) ..))
  · exact (Moves.sub (whenFs_moves (F := 0x0) (h_k := by
          intro z52
          refine Moves.stCoreOut_done ?_
          exact Moves.refl) ..))
  · exact (Moves.sub (whenFs_moves (F := 0x0) (h_k := by
          intro z53
          refine Moves.stCoreOut_done ?_
          exact Moves.refl) ..))
  · exact (Moves.sub (coreBits_moves (F := 0x0) (h_k := by
          intro z54 z55 z56 z57 z58
          refine Moves.stCoreOut_done ?_
          exact Moves.refl) ..))
  · exact (Moves.sub (coreBits_moves (F := 0x20000000080000002238) (h_k := fun _ _ _ _ _ => (Moves.sub (coreBitsStore_moves (F := 0x0) (h_k := by
          intro z59
          refine Moves.stCoreOut_done ?_
          exact Moves.refl) ..))) ..))
  · split
    · refine Moves.iteF (g := CoreOut.st) ?_ ?_
      · refine Moves.stCoreOut_trap ?_
        exact Moves.refl
      · exact (Moves.sub (coreBits_moves (F := 0x20000000080000002238) (h_k := by
          intro z60 z61 z62 z63 z64
          extract_lets +onlyGivenNames v65
          extract_lets +onlyGivenNames v66
          exact (Moves.sub (coreBitsStore_moves (F := 0x0) (h_k := by
          intro z67
          refine Moves.stCoreOut_done ?_
          exact Moves.refl) ..))) ..))
    · exact (Moves.sub (coreBits_moves (F := 0x0) (h_k := by
          intro z68 z69 z70 z71 z72
          refine Moves.stCoreOut_wait ?_
          exact Moves.refl) ..))
  · exact (Moves.sub (coreBits_moves (F := 0x220e0000008000000223c) (h_k := by
          intro z73 z74 z75 z76 z77
          extract_lets +onlyGivenNames v78
          refine Moves.iteF (g := CoreOut.st) ?_ ?_
          · refine Moves.iteF (g := CoreOut.st) ?_ ?_
            · refine Moves.stCoreOut_trap ?_
              exact Moves.refl
            · exact (Moves.sub (coreBits_moves (F := 0x0) (h_k := by
          intro z79 z80 z81 z82 z83
          refine Moves.stCoreOut_done ?_
          exact Moves.refl) ..))
          · exact (Moves.sub (coreBits_moves (F := 0x20000000080000002238) (h_k := fun _ _ _ _ _ => (Moves.sub (coreBitsStore_moves (F := 0x0) (h_k := by
          intro z84
          refine Moves.stCoreOut_done ?_
          exact Moves.refl) ..))) ..))) ..))
  · extract_lets +onlyGivenNames v85
    refine Moves.stCoreOut_done ?_
    exact Moves.refl
  · refine Moves.iteF (g := CoreOut.st) ?_ ?_
    · refine Moves.stCoreOut_done ?_
      exact Moves.refl
    · exact (Moves.sub (coreIllegal_moves ..))
  · extract_lets +onlyGivenNames v86
    refine Moves.iteF (g := CoreOut.st) ?_ ?_
    · exact (Moves.sub (coreIllegal_moves ..))
    · extract_lets +onlyGivenNames v87
      extract_lets +onlyGivenNames r88
      have hr88 : Moves 0xffffffffffffffff001fffffffffffff s r88.1 := by
        refine Moves.ite1 ?_ ?_
        · exact Moves.refl
        · exact (Moves.sub (State.putEntry_moves ..))
      clear_value r88
      refine Moves.stCoreOut_done ?_
      exact hr88
  · extract_lets +onlyGivenNames v89
    refine Moves.iteF (g := CoreOut.st) ?_ ?_
    · exact (Moves.sub (coreIllegal_moves ..))
    · extract_lets +onlyGivenNames r90
      have hr90 : Moves 0xffffffffffffffff001fffffffffffff s r90.1 := (Moves.sub (State.popQueue_moves ..))
      clear_value r90
      refine Moves.stCoreOut_done ?_
      exact hr90
  · refine Moves.iteF (g := CoreOut.st) ?_ ?_
    · exact (Moves.sub (coreIllegal_moves ..))
    · refine Moves.iteF (g := CoreOut.st) ?_ ?_
      · refine Moves.stCoreOut_done ?_
        exact Moves.refl
      · extract_lets +onlyGivenNames r91
        have hr91 : Moves 0xffffffffffffffff001fffffffffffff s r91.1 := by
          refine Moves.ite1 ?_ ?_
          · dsimp -zeta only
            exact (Moves.sub (State.noteAborted_moves ..))
          · exact (Moves.sub (State.acquireToken_moves ..))
        clear_value r91
        refine Moves.stCoreOut_done ?_
        exact hr91
  · refine Moves.iteF (g := CoreOut.st) ?_ ?_
    · exact (Moves.sub (coreIllegal_moves ..))
    · refine Moves.iteF (g := CoreOut.st) ?_ ?_
      · refine Moves.stCoreOut_done ?_
        exact Moves.refl
      · extract_lets +onlyGivenNames r92
        have hr92 : Moves 0xffffffffffffffff001fffffffffffff s r92.1 := by
          refine Moves.ite1 ?_ ?_
          · dsimp -zeta only
            exact (Moves.sub (State.noteAborted_moves ..))
          · exact (Moves.sub (State.releaseToken_moves ..))
        clear_value r92
        refine Moves.stCoreOut_done ?_
        exact hr92
  · extract_lets +onlyGivenNames v93
    refine Moves.stCoreOut_done ?_
    exact Moves.refl
  · extract_lets +onlyGivenNames v94
    exact (Moves.sub (withRm_moves (F := 0xffffffffffffffff0002081000001214) (h_k := by
          intro z95 z96
          refine Moves.iteF (g := CoreOut.st) ?_ ?_
          · refine Moves.stCoreOut_trap ?_
            exact Moves.refl
          · refine Moves.iteF (g := CoreOut.st) ?_ ?_
            · refine Moves.stCoreOut_trap ?_
              exact Moves.refl
            · exact (Moves.sub (coreLoad_moves (F := 0xffffffffffffffff0002081000001214) (h_k := fun _ _ => (Moves.sub (coreLoad_moves (F := 0xffffffffffffffff0002081000001214) (h_k := fun _ _ => (Moves.sub (coreLoad_moves (F := 0xffffffffffffffff0002081000001214) (h_k := fun _ _ => (Moves.sub (coreLoad_moves (F := 0x0) (h_k := by
          intro z97 z98
          extract_lets +onlyGivenNames v99
          extract_lets +onlyGivenNames v100
          extract_lets +onlyGivenNames v101
          refine Moves.stCoreOut_done ?_
          exact Moves.refl) ..))) ..))) ..))) ..))) ..))
  · extract_lets +onlyGivenNames v102
    refine Moves.stCoreOut_done ?_
    exact Moves.refl
  · extract_lets +onlyGivenNames v103
    extract_lets +onlyGivenNames v104
    extract_lets +onlyGivenNames v105
    extract_lets +onlyGivenNames v106
    extract_lets +onlyGivenNames v107
    extract_lets +onlyGivenNames v108
    exact (Moves.sub (whenFs_moves (F := 0x4) (h_k := by
          intro z109
          split
          rename_i u110 hq111
          have hd112 := Moves.snd (F := 0x4) (s := z109) hq111 (by
              refine Moves.ite2 ?_ ?_
              · exact (Moves.sub (State.drawFree_moves ..))
              · exact Moves.refl)
          extract_lets +onlyGivenNames v113
          refine Moves.stCoreOut_done ?_
          exact hd112) ..))


theorem coreCollide_moves (s : State) (die k : ℕ) (op : CoreOp) :
    Moves 0x4000000080000000014 s (coreCollide s die k op).1 := by
  unfold coreCollide
  refine Moves.ite1 ?_ Moves.refl
  have hr : Moves 0x4000000080000000014 s s.drawFree.2 := Moves.sub (State.drawFree_moves ..)
  exact Moves.ite1 (hr.step (State.inc_moves ..) (Moves.at 10 rfl)) hr


theorem coreRetire_moves (s : State) (die n k : ℕ) (slotend : Bool) (upd : Core → Core) :
    Moves 0x2c000008080000172010 s (coreRetire s die n k slotend upd) := by
  unfold coreRetire
  extract_lets +onlyGivenNames s0
  have hs0 : Moves 0x2c000008080000172010 s s0 := (Moves.sub (State.coreSpend_moves ..))
  clear_value s0
  extract_lets +onlyGivenNames v1
  extract_lets +onlyGivenNames v2
  extract_lets +onlyGivenNames s3
  have hs3 : Moves 0x2c000008080000172010 s s3 := (hs0.step (State.setCore_moves ..))
  clear_value s3
  refine Moves.ite ?_ ?_
  · exact (hs3.step (State.slotEnd_moves ..))
  · exact hs3


theorem coreLate_moves (s : State) (die n : ℕ) :
    Moves 0x20000 s (coreLate s die n) := by
  unfold coreLate
  split
  · exact (Moves.sub (State.setSlot_moves ..))
  · exact Moves.refl


theorem coreOut_moves (s : State) (die n : Nat) : Moves 0xffffffffffffffff001fffffffffffff s (coreOut s die n).2.st := by
  unfold coreOut
  extract_lets c
  split
  · exact Moves.refl
  · have hr := State.memRead_moves s (die * 32 + n) c.pc 4
    split
    · rename_i t hq
      rw [hq] at hr
      exact Moves.sub hr rfl
    · rename_i t hq
      rw [hq] at hr
      exact Moves.sub hr rfl
    · rename_i t word hq
      rw [hq] at hr
      split
      · exact (Moves.sub hr rfl : Moves 0xffffffffffffffff001fffffffffffff s t).step (coreIllegal_moves ..)
      · exact (Moves.sub hr rfl : Moves 0xffffffffffffffff001fffffffffffff s t).step (coreExec_moves ..)


theorem coreInstr_moves (rows : CoreRow) (die n : ℕ) (s : State) :
    Moves 0xffffffffffffffff001fffffffffffff s (coreInstr rows die n s) := by
  unfold coreInstr
  refine Moves.ite ?_ Moves.refl
  have hr := coreOut_moves s die n
  split
  · rename_i op t cost upd hq
    rw [hq] at hr
    have ht : Moves 0xffffffffffffffff001fffffffffffff s t := hr.sub rfl
    refine Moves.ite ?_ Moves.refl
    split
    · rename_i k
      have hc : Moves 0xffffffffffffffff001fffffffffffff s (coreCollide t die k op).1 := ht.step (coreCollide_moves ..)
      split
      rename_i u j hq2
      rw [hq2] at hc
      exact Moves.ite (hc.step (coreRetire_moves ..)) Moves.refl
    · split
      rename_i v u hq2
      have hu : Moves 0xffffffffffffffff001fffffffffffff s u := by
        have hz := State.drawFree_moves t
        rw [hq2] at hz
        exact ht.step hz rfl
      extract_lets +onlyGivenNames least k u1
      have hu1 : Moves 0xffffffffffffffff001fffffffffffff s u1 := hu.step (State.noteLatency_moves ..)
      clear_value u1
      exact Moves.ite (hu1.step (coreRetire_moves ..)) (hu1.step (coreLate_moves ..))
  · rename_i op t hq
    rw [hq] at hr
    exact Moves.ite (hr.sub rfl) Moves.refl
  · rename_i t hq
    rw [hq] at hr
    exact Moves.ite (hr.sub rfl) Moves.refl
  · exact Moves.refl


theorem execRiscvInstruction_moves (die core : ℕ) (s : State) :
    ∃ t, execRiscvInstruction die core s = .next t ∧ Moves 0xffffffffffffffff001fffffffffffff s t := by
  unfold execRiscvInstruction
  refine ⟨_, rfl, ?_⟩
  exact (Moves.sub (coreInstr_moves ..))

theorem execTrapEntry_moves (die core : ℕ) (s : State) :
    ∃ t, execTrapEntry die core s = .next t ∧ Moves 0xffffffffffffffff001fffffffffffff s t := by
  refine ⟨_, rfl, Moves.ite ?_ Moves.refl⟩
  have hr := coreOut_moves s die core
  split
  · rename_i op t cause tval hq
    rw [hq] at hr
    exact Moves.ite ((hr.sub rfl : Moves 0xffffffffffffffff001fffffffffffff s t).step (State.enterTrap_moves_any ..)) Moves.refl
  · exact Moves.refl


theorem execMret_moves (die core : ℕ) (s : State) :
    ∃ t, execMret die core s = .next t ∧ Moves 0xffffffffffffffff001fffffffffffff s t := by
  unfold execMret
  refine ⟨_, rfl, ?_⟩
  exact (Moves.sub (coreInstr_moves ..))

theorem execBext_moves (die core : ℕ) (s : State) :
    ∃ t, execBext die core s = .next t ∧ Moves 0xffffffffffffffff001fffffffffffff s t := by
  unfold execBext
  refine ⟨_, rfl, ?_⟩
  exact (Moves.sub (coreInstr_moves ..))

theorem execBdep_moves (die core : ℕ) (s : State) :
    ∃ t, execBdep die core s = .next t ∧ Moves 0xffffffffffffffff001fffffffffffff s t := by
  unfold execBdep
  refine ⟨_, rfl, ?_⟩
  exact (Moves.sub (coreInstr_moves ..))

theorem execBsetm_moves (die core : ℕ) (s : State) :
    ∃ t, execBsetm die core s = .next t ∧ Moves 0xffffffffffffffff001fffffffffffff s t := by
  unfold execBsetm
  refine ⟨_, rfl, ?_⟩
  exact (Moves.sub (coreInstr_moves ..))

theorem execBclrm_moves (die core : ℕ) (s : State) :
    ∃ t, execBclrm die core s = .next t ∧ Moves 0xffffffffffffffff001fffffffffffff s t := by
  unfold execBclrm
  refine ⟨_, rfl, ?_⟩
  exact (Moves.sub (coreInstr_moves ..))

theorem execBrise_moves (die core : ℕ) (s : State) :
    ∃ t, execBrise die core s = .next t ∧ Moves 0xffffffffffffffff001fffffffffffff s t := by
  unfold execBrise
  refine ⟨_, rfl, ?_⟩
  exact (Moves.sub (coreInstr_moves ..))

theorem execBfall_moves (die core : ℕ) (s : State) :
    ∃ t, execBfall die core s = .next t ∧ Moves 0xffffffffffffffff001fffffffffffff s t := by
  unfold execBfall
  refine ⟨_, rfl, ?_⟩
  exact (Moves.sub (coreInstr_moves ..))

theorem execBedge_moves (die core : ℕ) (s : State) :
    ∃ t, execBedge die core s = .next t ∧ Moves 0xffffffffffffffff001fffffffffffff s t := by
  unfold execBedge
  refine ⟨_, rfl, ?_⟩
  exact (Moves.sub (coreInstr_moves ..))

theorem execBudgetRd_moves (die core : ℕ) (s : State) :
    ∃ t, execBudgetRd die core s = .next t ∧ Moves 0xffffffffffffffff001fffffffffffff s t := by
  unfold execBudgetRd
  refine ⟨_, rfl, ?_⟩
  exact (Moves.sub (coreInstr_moves ..))

theorem execSlotend_moves (die core : ℕ) (s : State) :
    ∃ t, execSlotend die core s = .next t ∧ Moves 0xffffffffffffffff001fffffffffffff s t := by
  unfold execSlotend
  refine ⟨_, rfl, ?_⟩
  exact (Moves.sub (coreInstr_moves ..))

theorem execQput_moves (die core : ℕ) (s : State) :
    ∃ t, execQput die core s = .next t ∧ Moves 0xffffffffffffffff001fffffffffffff s t := by
  unfold execQput
  refine ⟨_, rfl, ?_⟩
  exact (Moves.sub (coreInstr_moves ..))

theorem execQget_moves (die core : ℕ) (s : State) :
    ∃ t, execQget die core s = .next t ∧ Moves 0xffffffffffffffff001fffffffffffff s t := by
  unfold execQget
  refine ⟨_, rfl, ?_⟩
  exact (Moves.sub (coreInstr_moves ..))

theorem execTokenAcq_moves (die core : ℕ) (s : State) :
    ∃ t, execTokenAcq die core s = .next t ∧ Moves 0xffffffffffffffff001fffffffffffff s t := by
  unfold execTokenAcq
  refine ⟨_, rfl, ?_⟩
  exact (Moves.sub (coreInstr_moves ..))

theorem execTokenRel_moves (die core : ℕ) (s : State) :
    ∃ t, execTokenRel die core s = .next t ∧ Moves 0xffffffffffffffff001fffffffffffff s t := by
  unfold execTokenRel
  refine ⟨_, rfl, ?_⟩
  exact (Moves.sub (coreInstr_moves ..))

theorem execSadd_moves (die core : ℕ) (s : State) :
    ∃ t, execSadd die core s = .next t ∧ Moves 0xffffffffffffffff001fffffffffffff s t := by
  unfold execSadd
  refine ⟨_, rfl, ?_⟩
  exact (Moves.sub (coreInstr_moves ..))

theorem execSsub_moves (die core : ℕ) (s : State) :
    ∃ t, execSsub die core s = .next t ∧ Moves 0xffffffffffffffff001fffffffffffff s t := by
  unfold execSsub
  refine ⟨_, rfl, ?_⟩
  exact (Moves.sub (coreInstr_moves ..))

theorem execSaddu_moves (die core : ℕ) (s : State) :
    ∃ t, execSaddu die core s = .next t ∧ Moves 0xffffffffffffffff001fffffffffffff s t := by
  unfold execSaddu
  refine ⟨_, rfl, ?_⟩
  exact (Moves.sub (coreInstr_moves ..))

theorem execSsubu_moves (die core : ℕ) (s : State) :
    ∃ t, execSsubu die core s = .next t ∧ Moves 0xffffffffffffffff001fffffffffffff s t := by
  unfold execSsubu
  refine ⟨_, rfl, ?_⟩
  exact (Moves.sub (coreInstr_moves ..))

theorem execScaleS_moves (die core : ℕ) (s : State) :
    ∃ t, execScaleS die core s = .next t ∧ Moves 0xffffffffffffffff001fffffffffffff s t := by
  unfold execScaleS
  refine ⟨_, rfl, ?_⟩
  exact (Moves.sub (coreInstr_moves ..))

theorem execLimitW_moves (die core : ℕ) (s : State) :
    ∃ t, execLimitW die core s = .next t ∧ Moves 0xffffffffffffffff001fffffffffffff s t := by
  unfold execLimitW
  refine ⟨_, rfl, ?_⟩
  exact (Moves.sub (coreInstr_moves ..))

theorem execLimitS_moves (die core : ℕ) (s : State) :
    ∃ t, execLimitS die core s = .next t ∧ Moves 0xffffffffffffffff001fffffffffffff s t := by
  unfold execLimitS
  refine ⟨_, rfl, ?_⟩
  exact (Moves.sub (coreInstr_moves ..))

theorem execLimitD_moves (die core : ℕ) (s : State) :
    ∃ t, execLimitD die core s = .next t ∧ Moves 0xffffffffffffffff001fffffffffffff s t := by
  unfold execLimitD
  refine ⟨_, rfl, ?_⟩
  exact (Moves.sub (coreInstr_moves ..))

theorem Moves.set_15 {F : Nat} {s x : State} {f15 : ℕ} (h : Moves F s x) (sub : 0x8000 &&& F = 0x8000 := by rfl) :
    Moves F s { x with sberror := f15 } :=
  h.step (G := 0x8000) ⟨id, Nat.le_refl _, fun p hp => by cases p <;> first | rfl | exact absurd hp (by decide), fun _ _ _ => rfl⟩ sub

theorem execDebugSystemBusAccess_moves (write : Bool) (addr size value : ℕ) (s : State) :
    ∃ t, execDebugSystemBusAccess write addr size value s = .next t ∧ Moves 0xffffffffffffffff001fffffffffffff s t := by
  unfold execDebugSystemBusAccess
  refine ⟨_, rfl, ?_⟩
  refine Moves.ite ?_ ?_
  · exact Moves.refl
  · extract_lets +onlyGivenNames s0
    have hs0 : Moves 0xffffffffffffffff001fffffffffffff s s0 := (Moves.sub (State.debugActive_moves ..))
    clear_value s0
    refine Moves.ite ?_ ?_
    · exact ((Moves.set_15 hs0).step (State.busRequest_moves ..))
    · exact (Moves.set_15 hs0)


theorem execJunctionRequestComplete_moves (w : Who) (write : Bool) (addr size value : ℕ) (s : State) :
    ∃ t, execJunctionRequestComplete w write addr size value s = .next t ∧ Moves 0xffffffffffffffff001fffffffffffff s t := by
  unfold execJunctionRequestComplete
  refine ⟨_, rfl, ?_⟩
  exact (Moves.sub (State.busRequest_moves ..))


theorem Moves.set_53 {F : Nat} {s x : State} {f53 : List Instr} (h : Moves F s x) (sub : 0x20000000000000 &&& F = 0x20000000000000 := by rfl) :
    Moves F s { x with pending := f53 } :=
  h.step (G := 0x20000000000000) ⟨id, Nat.le_refl _, fun p hp => by cases p <;> first | rfl | exact absurd hp (by decide), fun _ _ _ => rfl⟩ sub

theorem State.withFetchWord_moves (s : State) (nbits w : ℕ) :
    Moves 0x20000000000000 s (State.withFetchWord s nbits w) := by
  unfold State.withFetchWord
  split
  · exact (Moves.set_53 Moves.refl)
  · exact Moves.refl


end Sys2Proof.Machine
end

