-- ==== Sys2Proof/Laws/Regs.lean ====
section
/-! SUPPORT.  Reading a register field after a write, and after an operation whose mask leaves the field's page out. -/

namespace Sys2Proof.Machine

theorem State.Sane.wr {s : State} (w : s.Sane) (die : Nat) (f : FieldDef) (v : Nat) : (s.wr die f v).Sane :=
  (State.wr_moves s die f v).sane w

/-- A field read back after a write shows what was written, cut to its width. -/
theorem State.rd_wr_same {s : State} (w : s.Sane) (die : Nat) (f : FieldDef) (v : Nat) :
    (s.wr die f v).rd die f = v % 2 ^ f.width :=
  SMap.get_put_same _ _ w.2

/-- A write leaves every field with another key as it was. -/
theorem State.rd_wr_ne {s : State} (w : s.Sane) {die e : Nat} {f g : FieldDef} (v : Nat) (h : g.key e ≠ f.key die) :
    (s.wr die f v).rd e g = s.rd e g :=
  SMap.get_put_ne _ w.2 h

/-- Fields at different places of the pages have different keys. -/
theorem FieldDef.key_ne {f g : FieldDef} {d e : Nat}
    (h : f.code % 64 ≠ g.code % 64 ∨ f.off % 4096 ≠ g.off % 4096 ∨ f.lsb % 32 ≠ g.lsb % 32) : f.key d ≠ g.key e := by
  unfold FieldDef.key; omega

/-- A write leaves every field at another place of the pages as it was. -/
theorem State.rd_wr_other {s : State} (w : s.Sane) {die e : Nat} {f g : FieldDef} (v : Nat)
    (h : g.code % 64 ≠ f.code % 64 ∨ g.off % 4096 ≠ f.off % 4096 ∨ g.lsb % 32 ≠ f.lsb % 32 := by decide) :
    (s.wr die f v).rd e g = s.rd e g :=
  State.rd_wr_ne w v (FieldDef.key_ne h)

/-- What a field shows depends on the register store alone. -/
theorem State.rd_congr {s t : State} (h : t.regs = s.regs) (die : Nat) (f : FieldDef) : t.rd die f = s.rd die f := by
  unfold State.rd; rw [h]

/-- A move leaves the registers of every page that its mask leaves out. -/
theorem Moves.rd {F : Nat} {s t : State} (h : Moves F s t) (w : s.Sane) (die : Nat) (f : FieldDef)
    (hf : F.testBit (64 + f.code % 64) = false := by rfl) : t.rd die f = s.rd die f := by
  unfold State.rd SMap.get
  rw [h.pages w (f.key die) (by rw [pageOf_key]; exact hf)]

theorem Moves.on {F : Nat} {s t : State} (h : Moves F s t) (w : s.Sane) (die : Nat) (f : FieldDef)
    (hf : F.testBit (64 + f.code % 64) = false := by rfl) : t.on die f = s.on die f := by
  unfold State.on; rw [h.rd w die f hf]

/-- The frame of a move over the register pages. -/
theorem Moves.pagesOnly {F : Nat} {s t : State} (h : Moves F s t) (w : s.Sane) {l : List Nat}
    (hl : ∀ c : Fin 64, l.contains c.val = false → F.testBit (64 + c.val) = false := by decide) : PagesOnly l s t :=
  fun die f hf => h.rd w die f (hl ⟨f.code % 64, Nat.mod_lt _ (by decide)⟩ hf)

/-- The parts of a state that an operation leaves. -/
theorem Moves.part {F : Nat} {s t : State} (h : Moves F s t) (p : Part) (hp : F.testBit p.ix = false := by rfl) : p.same s t :=
  h.frame p hp

end Sys2Proof.Machine
end

