-- ==== Sys2Proof/Laws/State.lean ====
section
/-! SUPPORT.  What the plain updates of the state leave: one lemma for each field and update, true by computation. -/

namespace Sys2Proof.Machine.State

/-! ### `wr` -/

@[simp] theorem wr_time (s : State) (die : Nat) (f : FieldDef) (v : Nat) : (s.wr die f v).time = s.time := rfl
@[simp] theorem wr_cycle (s : State) (die : Nat) (f : FieldDef) (v : Nat) : (s.wr die f v).cycle = s.cycle := rfl
@[simp] theorem wr_freeCtr (s : State) (die : Nat) (f : FieldDef) (v : Nat) : (s.wr die f v).freeCtr = s.freeCtr := rfl
@[simp] theorem wr_ecc (s : State) (die : Nat) (f : FieldDef) (v : Nat) : (s.wr die f v).ecc = s.ecc := rfl
@[simp] theorem wr_mem (s : State) (die : Nat) (f : FieldDef) (v : Nat) : (s.wr die f v).mem = s.mem := rfl
@[simp] theorem wr_arming (s : State) (die : Nat) (f : FieldDef) (v : Nat) : (s.wr die f v).arming = s.arming := rfl
@[simp] theorem wr_softReset (s : State) (die : Nat) (f : FieldDef) (v : Nat) : (s.wr die f v).softReset = s.softReset := rfl
@[simp] theorem wr_replies (s : State) (die : Nat) (f : FieldDef) (v : Nat) : (s.wr die f v).replies = s.replies := rfl
@[simp] theorem wr_queues (s : State) (die : Nat) (f : FieldDef) (v : Nat) : (s.wr die f v).queues = s.queues := rfl
@[simp] theorem wr_flights (s : State) (die : Nat) (f : FieldDef) (v : Nat) : (s.wr die f v).flights = s.flights := rfl
@[simp] theorem wr_creditsDue (s : State) (die : Nat) (f : FieldDef) (v : Nat) : (s.wr die f v).creditsDue = s.creditsDue := rfl
@[simp] theorem wr_holding (s : State) (die : Nat) (f : FieldDef) (v : Nat) : (s.wr die f v).holding = s.holding := rfl
@[simp] theorem wr_cores (s : State) (die : Nat) (f : FieldDef) (v : Nat) : (s.wr die f v).cores = s.cores := rfl
@[simp] theorem wr_latches (s : State) (die : Nat) (f : FieldDef) (v : Nat) : (s.wr die f v).latches = s.latches := rfl
@[simp] theorem wr_sberror (s : State) (die : Nat) (f : FieldDef) (v : Nat) : (s.wr die f v).sberror = s.sberror := rfl
@[simp] theorem wr_frame (s : State) (die : Nat) (f : FieldDef) (v : Nat) : (s.wr die f v).frame = s.frame := rfl
@[simp] theorem wr_slots (s : State) (die : Nat) (f : FieldDef) (v : Nat) : (s.wr die f v).slots = s.slots := rfl
@[simp] theorem wr_rowsEnded (s : State) (die : Nat) (f : FieldDef) (v : Nat) : (s.wr die f v).rowsEnded = s.rowsEnded := rfl
@[simp] theorem wr_rowsStarted (s : State) (die : Nat) (f : FieldDef) (v : Nat) : (s.wr die f v).rowsStarted = s.rowsStarted := rfl
@[simp] theorem wr_rowsDone (s : State) (die : Nat) (f : FieldDef) (v : Nat) : (s.wr die f v).rowsDone = s.rowsDone := rfl
@[simp] theorem wr_prog (s : State) (die : Nat) (f : FieldDef) (v : Nat) : (s.wr die f v).prog = s.prog := rfl
@[simp] theorem wr_skipped (s : State) (die : Nat) (f : FieldDef) (v : Nat) : (s.wr die f v).skipped = s.skipped := rfl
@[simp] theorem wr_dieFlags (s : State) (die : Nat) (f : FieldDef) (v : Nat) : (s.wr die f v).dieFlags = s.dieFlags := rfl
@[simp] theorem wr_checkPassed (s : State) (die : Nat) (f : FieldDef) (v : Nat) : (s.wr die f v).checkPassed = s.checkPassed := rfl
@[simp] theorem wr_timers (s : State) (die : Nat) (f : FieldDef) (v : Nat) : (s.wr die f v).timers = s.timers := rfl
@[simp] theorem wr_counters (s : State) (die : Nat) (f : FieldDef) (v : Nat) : (s.wr die f v).counters = s.counters := rfl
@[simp] theorem wr_sboxes (s : State) (die : Nat) (f : FieldDef) (v : Nat) : (s.wr die f v).sboxes = s.sboxes := rfl
@[simp] theorem wr_maskStages (s : State) (die : Nat) (f : FieldDef) (v : Nat) : (s.wr die f v).maskStages = s.maskStages := rfl
@[simp] theorem wr_heldMasks (s : State) (die : Nat) (f : FieldDef) (v : Nat) : (s.wr die f v).heldMasks = s.heldMasks := rfl
@[simp] theorem wr_heldTimr (s : State) (die : Nat) (f : FieldDef) (v : Nat) : (s.wr die f v).heldTimr = s.heldTimr := rfl
@[simp] theorem wr_causes (s : State) (die : Nat) (f : FieldDef) (v : Nat) : (s.wr die f v).causes = s.causes := rfl
@[simp] theorem wr_points (s : State) (die : Nat) (f : FieldDef) (v : Nat) : (s.wr die f v).points = s.points := rfl
@[simp] theorem wr_catActive (s : State) (die : Nat) (f : FieldDef) (v : Nat) : (s.wr die f v).catActive = s.catActive := rfl
@[simp] theorem wr_forcedStop (s : State) (die : Nat) (f : FieldDef) (v : Nat) : (s.wr die f v).forcedStop = s.forcedStop := rfl
@[simp] theorem wr_firmware (s : State) (die : Nat) (f : FieldDef) (v : Nat) : (s.wr die f v).firmware = s.firmware := rfl
@[simp] theorem wr_cans (s : State) (die : Nat) (f : FieldDef) (v : Nat) : (s.wr die f v).cans = s.cans := rfl
@[simp] theorem wr_auth (s : State) (die : Nat) (f : FieldDef) (v : Nat) : (s.wr die f v).auth = s.auth := rfl
@[simp] theorem wr_exch (s : State) (die : Nat) (f : FieldDef) (v : Nat) : (s.wr die f v).exch = s.exch := rfl
@[simp] theorem wr_linkOut (s : State) (die : Nat) (f : FieldDef) (v : Nat) : (s.wr die f v).linkOut = s.linkOut := rfl
@[simp] theorem wr_change (s : State) (die : Nat) (f : FieldDef) (v : Nat) : (s.wr die f v).change = s.change := rfl
@[simp] theorem wr_engines (s : State) (die : Nat) (f : FieldDef) (v : Nat) : (s.wr die f v).engines = s.engines := rfl
@[simp] theorem wr_tracked (s : State) (die : Nat) (f : FieldDef) (v : Nat) : (s.wr die f v).tracked = s.tracked := rfl
@[simp] theorem wr_shunt (s : State) (die : Nat) (f : FieldDef) (v : Nat) : (s.wr die f v).shunt = s.shunt := rfl
@[simp] theorem wr_pair (s : State) (die : Nat) (f : FieldDef) (v : Nat) : (s.wr die f v).pair = s.pair := rfl
@[simp] theorem wr_fellBack (s : State) (die : Nat) (f : FieldDef) (v : Nat) : (s.wr die f v).fellBack = s.fellBack := rfl
@[simp] theorem wr_silenceFault (s : State) (die : Nat) (f : FieldDef) (v : Nat) : (s.wr die f v).silenceFault = s.silenceFault := rfl
@[simp] theorem wr_fieldStale (s : State) (die : Nat) (f : FieldDef) (v : Nat) : (s.wr die f v).fieldStale = s.fieldStale := rfl
@[simp] theorem wr_fld (s : State) (die : Nat) (f : FieldDef) (v : Nat) : (s.wr die f v).fld = s.fld := rfl
@[simp] theorem wr_arch (s : State) (die : Nat) (f : FieldDef) (v : Nat) : (s.wr die f v).arch = s.arch := rfl
@[simp] theorem wr_aon (s : State) (die : Nat) (f : FieldDef) (v : Nat) : (s.wr die f v).aon = s.aon := rfl
@[simp] theorem wr_upd (s : State) (die : Nat) (f : FieldDef) (v : Nat) : (s.wr die f v).upd = s.upd := rfl
@[simp] theorem wr_pending (s : State) (die : Nat) (f : FieldDef) (v : Nat) : (s.wr die f v).pending = s.pending := rfl

/-! ### `advanceTo` -/

@[simp] theorem advanceTo_freeCtr (s : State) (c : Nat) : (s.advanceTo c).freeCtr = s.freeCtr := rfl
@[simp] theorem advanceTo_ecc (s : State) (c : Nat) : (s.advanceTo c).ecc = s.ecc := rfl
@[simp] theorem advanceTo_regs (s : State) (c : Nat) : (s.advanceTo c).regs = s.regs := rfl
@[simp] theorem advanceTo_mem (s : State) (c : Nat) : (s.advanceTo c).mem = s.mem := rfl
@[simp] theorem advanceTo_arming (s : State) (c : Nat) : (s.advanceTo c).arming = s.arming := rfl
@[simp] theorem advanceTo_softReset (s : State) (c : Nat) : (s.advanceTo c).softReset = s.softReset := rfl
@[simp] theorem advanceTo_replies (s : State) (c : Nat) : (s.advanceTo c).replies = s.replies := rfl
@[simp] theorem advanceTo_queues (s : State) (c : Nat) : (s.advanceTo c).queues = s.queues := rfl
@[simp] theorem advanceTo_flights (s : State) (c : Nat) : (s.advanceTo c).flights = s.flights := rfl
@[simp] theorem advanceTo_creditsDue (s : State) (c : Nat) : (s.advanceTo c).creditsDue = s.creditsDue := rfl
@[simp] theorem advanceTo_holding (s : State) (c : Nat) : (s.advanceTo c).holding = s.holding := rfl
@[simp] theorem advanceTo_cores (s : State) (c : Nat) : (s.advanceTo c).cores = s.cores := rfl
@[simp] theorem advanceTo_latches (s : State) (c : Nat) : (s.advanceTo c).latches = s.latches := rfl
@[simp] theorem advanceTo_sberror (s : State) (c : Nat) : (s.advanceTo c).sberror = s.sberror := rfl
@[simp] theorem advanceTo_frame (s : State) (c : Nat) : (s.advanceTo c).frame = s.frame := rfl
@[simp] theorem advanceTo_slots (s : State) (c : Nat) : (s.advanceTo c).slots = s.slots := rfl
@[simp] theorem advanceTo_rowsEnded (s : State) (c : Nat) : (s.advanceTo c).rowsEnded = s.rowsEnded := rfl
@[simp] theorem advanceTo_rowsStarted (s : State) (c : Nat) : (s.advanceTo c).rowsStarted = s.rowsStarted := rfl
@[simp] theorem advanceTo_rowsDone (s : State) (c : Nat) : (s.advanceTo c).rowsDone = s.rowsDone := rfl
@[simp] theorem advanceTo_prog (s : State) (c : Nat) : (s.advanceTo c).prog = s.prog := rfl
@[simp] theorem advanceTo_skipped (s : State) (c : Nat) : (s.advanceTo c).skipped = s.skipped := rfl
@[simp] theorem advanceTo_dieFlags (s : State) (c : Nat) : (s.advanceTo c).dieFlags = s.dieFlags := rfl
@[simp] theorem advanceTo_checkPassed (s : State) (c : Nat) : (s.advanceTo c).checkPassed = s.checkPassed := rfl
@[simp] theorem advanceTo_timers (s : State) (c : Nat) : (s.advanceTo c).timers = s.timers := rfl
@[simp] theorem advanceTo_counters (s : State) (c : Nat) : (s.advanceTo c).counters = s.counters := rfl
@[simp] theorem advanceTo_sboxes (s : State) (c : Nat) : (s.advanceTo c).sboxes = s.sboxes := rfl
@[simp] theorem advanceTo_maskStages (s : State) (c : Nat) : (s.advanceTo c).maskStages = s.maskStages := rfl
@[simp] theorem advanceTo_heldMasks (s : State) (c : Nat) : (s.advanceTo c).heldMasks = s.heldMasks := rfl
@[simp] theorem advanceTo_heldTimr (s : State) (c : Nat) : (s.advanceTo c).heldTimr = s.heldTimr := rfl
@[simp] theorem advanceTo_causes (s : State) (c : Nat) : (s.advanceTo c).causes = s.causes := rfl
@[simp] theorem advanceTo_points (s : State) (c : Nat) : (s.advanceTo c).points = s.points := rfl
@[simp] theorem advanceTo_catActive (s : State) (c : Nat) : (s.advanceTo c).catActive = s.catActive := rfl
@[simp] theorem advanceTo_forcedStop (s : State) (c : Nat) : (s.advanceTo c).forcedStop = s.forcedStop := rfl
@[simp] theorem advanceTo_firmware (s : State) (c : Nat) : (s.advanceTo c).firmware = s.firmware := rfl
@[simp] theorem advanceTo_cans (s : State) (c : Nat) : (s.advanceTo c).cans = s.cans := rfl
@[simp] theorem advanceTo_auth (s : State) (c : Nat) : (s.advanceTo c).auth = s.auth := rfl
@[simp] theorem advanceTo_exch (s : State) (c : Nat) : (s.advanceTo c).exch = s.exch := rfl
@[simp] theorem advanceTo_linkOut (s : State) (c : Nat) : (s.advanceTo c).linkOut = s.linkOut := rfl
@[simp] theorem advanceTo_change (s : State) (c : Nat) : (s.advanceTo c).change = s.change := rfl
@[simp] theorem advanceTo_engines (s : State) (c : Nat) : (s.advanceTo c).engines = s.engines := rfl
@[simp] theorem advanceTo_tracked (s : State) (c : Nat) : (s.advanceTo c).tracked = s.tracked := rfl
@[simp] theorem advanceTo_dirty (s : State) (c : Nat) : (s.advanceTo c).dirty = s.dirty := rfl
@[simp] theorem advanceTo_shunt (s : State) (c : Nat) : (s.advanceTo c).shunt = s.shunt := rfl
@[simp] theorem advanceTo_pair (s : State) (c : Nat) : (s.advanceTo c).pair = s.pair := rfl
@[simp] theorem advanceTo_fellBack (s : State) (c : Nat) : (s.advanceTo c).fellBack = s.fellBack := rfl
@[simp] theorem advanceTo_silenceFault (s : State) (c : Nat) : (s.advanceTo c).silenceFault = s.silenceFault := rfl
@[simp] theorem advanceTo_fieldStale (s : State) (c : Nat) : (s.advanceTo c).fieldStale = s.fieldStale := rfl
@[simp] theorem advanceTo_fld (s : State) (c : Nat) : (s.advanceTo c).fld = s.fld := rfl
@[simp] theorem advanceTo_arch (s : State) (c : Nat) : (s.advanceTo c).arch = s.arch := rfl
@[simp] theorem advanceTo_aon (s : State) (c : Nat) : (s.advanceTo c).aon = s.aon := rfl
@[simp] theorem advanceTo_upd (s : State) (c : Nat) : (s.advanceTo c).upd = s.upd := rfl
@[simp] theorem advanceTo_pending (s : State) (c : Nat) : (s.advanceTo c).pending = s.pending := rfl
@[simp] theorem advanceTo_rd (s : State) (c : Nat) (d : Nat) (g : FieldDef) : (s.advanceTo c).rd d g = s.rd d g := rfl

/-! ### `setSlot` -/

@[simp] theorem setSlot_time (s : State) (die e : Nat) (x : Slot) : (s.setSlot die e x).time = s.time := rfl
@[simp] theorem setSlot_cycle (s : State) (die e : Nat) (x : Slot) : (s.setSlot die e x).cycle = s.cycle := rfl
@[simp] theorem setSlot_freeCtr (s : State) (die e : Nat) (x : Slot) : (s.setSlot die e x).freeCtr = s.freeCtr := rfl
@[simp] theorem setSlot_ecc (s : State) (die e : Nat) (x : Slot) : (s.setSlot die e x).ecc = s.ecc := rfl
@[simp] theorem setSlot_regs (s : State) (die e : Nat) (x : Slot) : (s.setSlot die e x).regs = s.regs := rfl
@[simp] theorem setSlot_mem (s : State) (die e : Nat) (x : Slot) : (s.setSlot die e x).mem = s.mem := rfl
@[simp] theorem setSlot_arming (s : State) (die e : Nat) (x : Slot) : (s.setSlot die e x).arming = s.arming := rfl
@[simp] theorem setSlot_softReset (s : State) (die e : Nat) (x : Slot) : (s.setSlot die e x).softReset = s.softReset := rfl
@[simp] theorem setSlot_replies (s : State) (die e : Nat) (x : Slot) : (s.setSlot die e x).replies = s.replies := rfl
@[simp] theorem setSlot_queues (s : State) (die e : Nat) (x : Slot) : (s.setSlot die e x).queues = s.queues := rfl
@[simp] theorem setSlot_flights (s : State) (die e : Nat) (x : Slot) : (s.setSlot die e x).flights = s.flights := rfl
@[simp] theorem setSlot_creditsDue (s : State) (die e : Nat) (x : Slot) : (s.setSlot die e x).creditsDue = s.creditsDue := rfl
@[simp] theorem setSlot_holding (s : State) (die e : Nat) (x : Slot) : (s.setSlot die e x).holding = s.holding := rfl
@[simp] theorem setSlot_cores (s : State) (die e : Nat) (x : Slot) : (s.setSlot die e x).cores = s.cores := rfl
@[simp] theorem setSlot_latches (s : State) (die e : Nat) (x : Slot) : (s.setSlot die e x).latches = s.latches := rfl
@[simp] theorem setSlot_sberror (s : State) (die e : Nat) (x : Slot) : (s.setSlot die e x).sberror = s.sberror := rfl
@[simp] theorem setSlot_frame (s : State) (die e : Nat) (x : Slot) : (s.setSlot die e x).frame = s.frame := rfl
@[simp] theorem setSlot_rowsEnded (s : State) (die e : Nat) (x : Slot) : (s.setSlot die e x).rowsEnded = s.rowsEnded := rfl
@[simp] theorem setSlot_rowsStarted (s : State) (die e : Nat) (x : Slot) : (s.setSlot die e x).rowsStarted = s.rowsStarted := rfl
@[simp] theorem setSlot_rowsDone (s : State) (die e : Nat) (x : Slot) : (s.setSlot die e x).rowsDone = s.rowsDone := rfl
@[simp] theorem setSlot_prog (s : State) (die e : Nat) (x : Slot) : (s.setSlot die e x).prog = s.prog := rfl
@[simp] theorem setSlot_skipped (s : State) (die e : Nat) (x : Slot) : (s.setSlot die e x).skipped = s.skipped := rfl
@[simp] theorem setSlot_dieFlags (s : State) (die e : Nat) (x : Slot) : (s.setSlot die e x).dieFlags = s.dieFlags := rfl
@[simp] theorem setSlot_checkPassed (s : State) (die e : Nat) (x : Slot) : (s.setSlot die e x).checkPassed = s.checkPassed := rfl
@[simp] theorem setSlot_timers (s : State) (die e : Nat) (x : Slot) : (s.setSlot die e x).timers = s.timers := rfl
@[simp] theorem setSlot_counters (s : State) (die e : Nat) (x : Slot) : (s.setSlot die e x).counters = s.counters := rfl
@[simp] theorem setSlot_sboxes (s : State) (die e : Nat) (x : Slot) : (s.setSlot die e x).sboxes = s.sboxes := rfl
@[simp] theorem setSlot_maskStages (s : State) (die e : Nat) (x : Slot) : (s.setSlot die e x).maskStages = s.maskStages := rfl
@[simp] theorem setSlot_heldMasks (s : State) (die e : Nat) (x : Slot) : (s.setSlot die e x).heldMasks = s.heldMasks := rfl
@[simp] theorem setSlot_heldTimr (s : State) (die e : Nat) (x : Slot) : (s.setSlot die e x).heldTimr = s.heldTimr := rfl
@[simp] theorem setSlot_causes (s : State) (die e : Nat) (x : Slot) : (s.setSlot die e x).causes = s.causes := rfl
@[simp] theorem setSlot_points (s : State) (die e : Nat) (x : Slot) : (s.setSlot die e x).points = s.points := rfl
@[simp] theorem setSlot_catActive (s : State) (die e : Nat) (x : Slot) : (s.setSlot die e x).catActive = s.catActive := rfl
@[simp] theorem setSlot_forcedStop (s : State) (die e : Nat) (x : Slot) : (s.setSlot die e x).forcedStop = s.forcedStop := rfl
@[simp] theorem setSlot_firmware (s : State) (die e : Nat) (x : Slot) : (s.setSlot die e x).firmware = s.firmware := rfl
@[simp] theorem setSlot_cans (s : State) (die e : Nat) (x : Slot) : (s.setSlot die e x).cans = s.cans := rfl
@[simp] theorem setSlot_auth (s : State) (die e : Nat) (x : Slot) : (s.setSlot die e x).auth = s.auth := rfl
@[simp] theorem setSlot_exch (s : State) (die e : Nat) (x : Slot) : (s.setSlot die e x).exch = s.exch := rfl
@[simp] theorem setSlot_linkOut (s : State) (die e : Nat) (x : Slot) : (s.setSlot die e x).linkOut = s.linkOut := rfl
@[simp] theorem setSlot_change (s : State) (die e : Nat) (x : Slot) : (s.setSlot die e x).change = s.change := rfl
@[simp] theorem setSlot_engines (s : State) (die e : Nat) (x : Slot) : (s.setSlot die e x).engines = s.engines := rfl
@[simp] theorem setSlot_tracked (s : State) (die e : Nat) (x : Slot) : (s.setSlot die e x).tracked = s.tracked := rfl
@[simp] theorem setSlot_dirty (s : State) (die e : Nat) (x : Slot) : (s.setSlot die e x).dirty = s.dirty := rfl
@[simp] theorem setSlot_shunt (s : State) (die e : Nat) (x : Slot) : (s.setSlot die e x).shunt = s.shunt := rfl
@[simp] theorem setSlot_pair (s : State) (die e : Nat) (x : Slot) : (s.setSlot die e x).pair = s.pair := rfl
@[simp] theorem setSlot_fellBack (s : State) (die e : Nat) (x : Slot) : (s.setSlot die e x).fellBack = s.fellBack := rfl
@[simp] theorem setSlot_silenceFault (s : State) (die e : Nat) (x : Slot) : (s.setSlot die e x).silenceFault = s.silenceFault := rfl
@[simp] theorem setSlot_fieldStale (s : State) (die e : Nat) (x : Slot) : (s.setSlot die e x).fieldStale = s.fieldStale := rfl
@[simp] theorem setSlot_fld (s : State) (die e : Nat) (x : Slot) : (s.setSlot die e x).fld = s.fld := rfl
@[simp] theorem setSlot_arch (s : State) (die e : Nat) (x : Slot) : (s.setSlot die e x).arch = s.arch := rfl
@[simp] theorem setSlot_aon (s : State) (die e : Nat) (x : Slot) : (s.setSlot die e x).aon = s.aon := rfl
@[simp] theorem setSlot_upd (s : State) (die e : Nat) (x : Slot) : (s.setSlot die e x).upd = s.upd := rfl
@[simp] theorem setSlot_pending (s : State) (die e : Nat) (x : Slot) : (s.setSlot die e x).pending = s.pending := rfl
@[simp] theorem setSlot_rd (s : State) (die e : Nat) (x : Slot) (d : Nat) (g : FieldDef) : (s.setSlot die e x).rd d g = s.rd d g := rfl

/-! ### `setRing` -/

@[simp] theorem setRing_time (s : State) (die q : Nat) (l : List QEntry) : (s.setRing die q l).time = s.time := rfl
@[simp] theorem setRing_cycle (s : State) (die q : Nat) (l : List QEntry) : (s.setRing die q l).cycle = s.cycle := rfl
@[simp] theorem setRing_freeCtr (s : State) (die q : Nat) (l : List QEntry) : (s.setRing die q l).freeCtr = s.freeCtr := rfl
@[simp] theorem setRing_ecc (s : State) (die q : Nat) (l : List QEntry) : (s.setRing die q l).ecc = s.ecc := rfl
@[simp] theorem setRing_regs (s : State) (die q : Nat) (l : List QEntry) : (s.setRing die q l).regs = s.regs := rfl
@[simp] theorem setRing_mem (s : State) (die q : Nat) (l : List QEntry) : (s.setRing die q l).mem = s.mem := rfl
@[simp] theorem setRing_arming (s : State) (die q : Nat) (l : List QEntry) : (s.setRing die q l).arming = s.arming := rfl
@[simp] theorem setRing_softReset (s : State) (die q : Nat) (l : List QEntry) : (s.setRing die q l).softReset = s.softReset := rfl
@[simp] theorem setRing_replies (s : State) (die q : Nat) (l : List QEntry) : (s.setRing die q l).replies = s.replies := rfl
@[simp] theorem setRing_flights (s : State) (die q : Nat) (l : List QEntry) : (s.setRing die q l).flights = s.flights := rfl
@[simp] theorem setRing_creditsDue (s : State) (die q : Nat) (l : List QEntry) : (s.setRing die q l).creditsDue = s.creditsDue := rfl
@[simp] theorem setRing_holding (s : State) (die q : Nat) (l : List QEntry) : (s.setRing die q l).holding = s.holding := rfl
@[simp] theorem setRing_cores (s : State) (die q : Nat) (l : List QEntry) : (s.setRing die q l).cores = s.cores := rfl
@[simp] theorem setRing_latches (s : State) (die q : Nat) (l : List QEntry) : (s.setRing die q l).latches = s.latches := rfl
@[simp] theorem setRing_sberror (s : State) (die q : Nat) (l : List QEntry) : (s.setRing die q l).sberror = s.sberror := rfl
@[simp] theorem setRing_frame (s : State) (die q : Nat) (l : List QEntry) : (s.setRing die q l).frame = s.frame := rfl
@[simp] theorem setRing_slots (s : State) (die q : Nat) (l : List QEntry) : (s.setRing die q l).slots = s.slots := rfl
@[simp] theorem setRing_rowsEnded (s : State) (die q : Nat) (l : List QEntry) : (s.setRing die q l).rowsEnded = s.rowsEnded := rfl
@[simp] theorem setRing_rowsStarted (s : State) (die q : Nat) (l : List QEntry) : (s.setRing die q l).rowsStarted = s.rowsStarted := rfl
@[simp] theorem setRing_rowsDone (s : State) (die q : Nat) (l : List QEntry) : (s.setRing die q l).rowsDone = s.rowsDone := rfl
@[simp] theorem setRing_prog (s : State) (die q : Nat) (l : List QEntry) : (s.setRing die q l).prog = s.prog := rfl
@[simp] theorem setRing_skipped (s : State) (die q : Nat) (l : List QEntry) : (s.setRing die q l).skipped = s.skipped := rfl
@[simp] theorem setRing_dieFlags (s : State) (die q : Nat) (l : List QEntry) : (s.setRing die q l).dieFlags = s.dieFlags := rfl
@[simp] theorem setRing_checkPassed (s : State) (die q : Nat) (l : List QEntry) : (s.setRing die q l).checkPassed = s.checkPassed := rfl
@[simp] theorem setRing_timers (s : State) (die q : Nat) (l : List QEntry) : (s.setRing die q l).timers = s.timers := rfl
@[simp] theorem setRing_counters (s : State) (die q : Nat) (l : List QEntry) : (s.setRing die q l).counters = s.counters := rfl
@[simp] theorem setRing_sboxes (s : State) (die q : Nat) (l : List QEntry) : (s.setRing die q l).sboxes = s.sboxes := rfl
@[simp] theorem setRing_maskStages (s : State) (die q : Nat) (l : List QEntry) : (s.setRing die q l).maskStages = s.maskStages := rfl
@[simp] theorem setRing_heldMasks (s : State) (die q : Nat) (l : List QEntry) : (s.setRing die q l).heldMasks = s.heldMasks := rfl
@[simp] theorem setRing_heldTimr (s : State) (die q : Nat) (l : List QEntry) : (s.setRing die q l).heldTimr = s.heldTimr := rfl
@[simp] theorem setRing_causes (s : State) (die q : Nat) (l : List QEntry) : (s.setRing die q l).causes = s.causes := rfl
@[simp] theorem setRing_points (s : State) (die q : Nat) (l : List QEntry) : (s.setRing die q l).points = s.points := rfl
@[simp] theorem setRing_catActive (s : State) (die q : Nat) (l : List QEntry) : (s.setRing die q l).catActive = s.catActive := rfl
@[simp] theorem setRing_forcedStop (s : State) (die q : Nat) (l : List QEntry) : (s.setRing die q l).forcedStop = s.forcedStop := rfl
@[simp] theorem setRing_firmware (s : State) (die q : Nat) (l : List QEntry) : (s.setRing die q l).firmware = s.firmware := rfl
@[simp] theorem setRing_cans (s : State) (die q : Nat) (l : List QEntry) : (s.setRing die q l).cans = s.cans := rfl
@[simp] theorem setRing_auth (s : State) (die q : Nat) (l : List QEntry) : (s.setRing die q l).auth = s.auth := rfl
@[simp] theorem setRing_exch (s : State) (die q : Nat) (l : List QEntry) : (s.setRing die q l).exch = s.exch := rfl
@[simp] theorem setRing_linkOut (s : State) (die q : Nat) (l : List QEntry) : (s.setRing die q l).linkOut = s.linkOut := rfl
@[simp] theorem setRing_change (s : State) (die q : Nat) (l : List QEntry) : (s.setRing die q l).change = s.change := rfl
@[simp] theorem setRing_engines (s : State) (die q : Nat) (l : List QEntry) : (s.setRing die q l).engines = s.engines := rfl
@[simp] theorem setRing_tracked (s : State) (die q : Nat) (l : List QEntry) : (s.setRing die q l).tracked = s.tracked := rfl
@[simp] theorem setRing_dirty (s : State) (die q : Nat) (l : List QEntry) : (s.setRing die q l).dirty = s.dirty := rfl
@[simp] theorem setRing_shunt (s : State) (die q : Nat) (l : List QEntry) : (s.setRing die q l).shunt = s.shunt := rfl
@[simp] theorem setRing_pair (s : State) (die q : Nat) (l : List QEntry) : (s.setRing die q l).pair = s.pair := rfl
@[simp] theorem setRing_fellBack (s : State) (die q : Nat) (l : List QEntry) : (s.setRing die q l).fellBack = s.fellBack := rfl
@[simp] theorem setRing_silenceFault (s : State) (die q : Nat) (l : List QEntry) : (s.setRing die q l).silenceFault = s.silenceFault := rfl
@[simp] theorem setRing_fieldStale (s : State) (die q : Nat) (l : List QEntry) : (s.setRing die q l).fieldStale = s.fieldStale := rfl
@[simp] theorem setRing_fld (s : State) (die q : Nat) (l : List QEntry) : (s.setRing die q l).fld = s.fld := rfl
@[simp] theorem setRing_arch (s : State) (die q : Nat) (l : List QEntry) : (s.setRing die q l).arch = s.arch := rfl
@[simp] theorem setRing_aon (s : State) (die q : Nat) (l : List QEntry) : (s.setRing die q l).aon = s.aon := rfl
@[simp] theorem setRing_upd (s : State) (die q : Nat) (l : List QEntry) : (s.setRing die q l).upd = s.upd := rfl
@[simp] theorem setRing_pending (s : State) (die q : Nat) (l : List QEntry) : (s.setRing die q l).pending = s.pending := rfl
@[simp] theorem setRing_rd (s : State) (die q : Nat) (l : List QEntry) (d : Nat) (g : FieldDef) : (s.setRing die q l).rd d g = s.rd d g := rfl

/-! ### `setCore` -/

@[simp] theorem setCore_time (s : State) (die n : Nat) (c : Core) : (s.setCore die n c).time = s.time := rfl
@[simp] theorem setCore_cycle (s : State) (die n : Nat) (c : Core) : (s.setCore die n c).cycle = s.cycle := rfl
@[simp] theorem setCore_freeCtr (s : State) (die n : Nat) (c : Core) : (s.setCore die n c).freeCtr = s.freeCtr := rfl
@[simp] theorem setCore_ecc (s : State) (die n : Nat) (c : Core) : (s.setCore die n c).ecc = s.ecc := rfl
@[simp] theorem setCore_regs (s : State) (die n : Nat) (c : Core) : (s.setCore die n c).regs = s.regs := rfl
@[simp] theorem setCore_mem (s : State) (die n : Nat) (c : Core) : (s.setCore die n c).mem = s.mem := rfl
@[simp] theorem setCore_arming (s : State) (die n : Nat) (c : Core) : (s.setCore die n c).arming = s.arming := rfl
@[simp] theorem setCore_softReset (s : State) (die n : Nat) (c : Core) : (s.setCore die n c).softReset = s.softReset := rfl
@[simp] theorem setCore_replies (s : State) (die n : Nat) (c : Core) : (s.setCore die n c).replies = s.replies := rfl
@[simp] theorem setCore_queues (s : State) (die n : Nat) (c : Core) : (s.setCore die n c).queues = s.queues := rfl
@[simp] theorem setCore_flights (s : State) (die n : Nat) (c : Core) : (s.setCore die n c).flights = s.flights := rfl
@[simp] theorem setCore_creditsDue (s : State) (die n : Nat) (c : Core) : (s.setCore die n c).creditsDue = s.creditsDue := rfl
@[simp] theorem setCore_holding (s : State) (die n : Nat) (c : Core) : (s.setCore die n c).holding = s.holding := rfl
@[simp] theorem setCore_latches (s : State) (die n : Nat) (c : Core) : (s.setCore die n c).latches = s.latches := rfl
@[simp] theorem setCore_sberror (s : State) (die n : Nat) (c : Core) : (s.setCore die n c).sberror = s.sberror := rfl
@[simp] theorem setCore_frame (s : State) (die n : Nat) (c : Core) : (s.setCore die n c).frame = s.frame := rfl
@[simp] theorem setCore_slots (s : State) (die n : Nat) (c : Core) : (s.setCore die n c).slots = s.slots := rfl
@[simp] theorem setCore_rowsEnded (s : State) (die n : Nat) (c : Core) : (s.setCore die n c).rowsEnded = s.rowsEnded := rfl
@[simp] theorem setCore_rowsStarted (s : State) (die n : Nat) (c : Core) : (s.setCore die n c).rowsStarted = s.rowsStarted := rfl
@[simp] theorem setCore_rowsDone (s : State) (die n : Nat) (c : Core) : (s.setCore die n c).rowsDone = s.rowsDone := rfl
@[simp] theorem setCore_prog (s : State) (die n : Nat) (c : Core) : (s.setCore die n c).prog = s.prog := rfl
@[simp] theorem setCore_skipped (s : State) (die n : Nat) (c : Core) : (s.setCore die n c).skipped = s.skipped := rfl
@[simp] theorem setCore_dieFlags (s : State) (die n : Nat) (c : Core) : (s.setCore die n c).dieFlags = s.dieFlags := rfl
@[simp] theorem setCore_checkPassed (s : State) (die n : Nat) (c : Core) : (s.setCore die n c).checkPassed = s.checkPassed := rfl
@[simp] theorem setCore_timers (s : State) (die n : Nat) (c : Core) : (s.setCore die n c).timers = s.timers := rfl
@[simp] theorem setCore_counters (s : State) (die n : Nat) (c : Core) : (s.setCore die n c).counters = s.counters := rfl
@[simp] theorem setCore_sboxes (s : State) (die n : Nat) (c : Core) : (s.setCore die n c).sboxes = s.sboxes := rfl
@[simp] theorem setCore_maskStages (s : State) (die n : Nat) (c : Core) : (s.setCore die n c).maskStages = s.maskStages := rfl
@[simp] theorem setCore_heldMasks (s : State) (die n : Nat) (c : Core) : (s.setCore die n c).heldMasks = s.heldMasks := rfl
@[simp] theorem setCore_heldTimr (s : State) (die n : Nat) (c : Core) : (s.setCore die n c).heldTimr = s.heldTimr := rfl
@[simp] theorem setCore_causes (s : State) (die n : Nat) (c : Core) : (s.setCore die n c).causes = s.causes := rfl
@[simp] theorem setCore_points (s : State) (die n : Nat) (c : Core) : (s.setCore die n c).points = s.points := rfl
@[simp] theorem setCore_catActive (s : State) (die n : Nat) (c : Core) : (s.setCore die n c).catActive = s.catActive := rfl
@[simp] theorem setCore_forcedStop (s : State) (die n : Nat) (c : Core) : (s.setCore die n c).forcedStop = s.forcedStop := rfl
@[simp] theorem setCore_firmware (s : State) (die n : Nat) (c : Core) : (s.setCore die n c).firmware = s.firmware := rfl
@[simp] theorem setCore_cans (s : State) (die n : Nat) (c : Core) : (s.setCore die n c).cans = s.cans := rfl
@[simp] theorem setCore_auth (s : State) (die n : Nat) (c : Core) : (s.setCore die n c).auth = s.auth := rfl
@[simp] theorem setCore_exch (s : State) (die n : Nat) (c : Core) : (s.setCore die n c).exch = s.exch := rfl
@[simp] theorem setCore_linkOut (s : State) (die n : Nat) (c : Core) : (s.setCore die n c).linkOut = s.linkOut := rfl
@[simp] theorem setCore_change (s : State) (die n : Nat) (c : Core) : (s.setCore die n c).change = s.change := rfl
@[simp] theorem setCore_engines (s : State) (die n : Nat) (c : Core) : (s.setCore die n c).engines = s.engines := rfl
@[simp] theorem setCore_tracked (s : State) (die n : Nat) (c : Core) : (s.setCore die n c).tracked = s.tracked := rfl
@[simp] theorem setCore_dirty (s : State) (die n : Nat) (c : Core) : (s.setCore die n c).dirty = s.dirty := rfl
@[simp] theorem setCore_shunt (s : State) (die n : Nat) (c : Core) : (s.setCore die n c).shunt = s.shunt := rfl
@[simp] theorem setCore_pair (s : State) (die n : Nat) (c : Core) : (s.setCore die n c).pair = s.pair := rfl
@[simp] theorem setCore_fellBack (s : State) (die n : Nat) (c : Core) : (s.setCore die n c).fellBack = s.fellBack := rfl
@[simp] theorem setCore_silenceFault (s : State) (die n : Nat) (c : Core) : (s.setCore die n c).silenceFault = s.silenceFault := rfl
@[simp] theorem setCore_fieldStale (s : State) (die n : Nat) (c : Core) : (s.setCore die n c).fieldStale = s.fieldStale := rfl
@[simp] theorem setCore_fld (s : State) (die n : Nat) (c : Core) : (s.setCore die n c).fld = s.fld := rfl
@[simp] theorem setCore_arch (s : State) (die n : Nat) (c : Core) : (s.setCore die n c).arch = s.arch := rfl
@[simp] theorem setCore_aon (s : State) (die n : Nat) (c : Core) : (s.setCore die n c).aon = s.aon := rfl
@[simp] theorem setCore_upd (s : State) (die n : Nat) (c : Core) : (s.setCore die n c).upd = s.upd := rfl
@[simp] theorem setCore_pending (s : State) (die n : Nat) (c : Core) : (s.setCore die n c).pending = s.pending := rfl
@[simp] theorem setCore_rd (s : State) (die n : Nat) (c : Core) (d : Nat) (g : FieldDef) : (s.setCore die n c).rd d g = s.rd d g := rfl

/-! ### `setCan` -/

@[simp] theorem setCan_time (s : State) (ch : Nat) (c : CanCtl) : (s.setCan ch c).time = s.time := rfl
@[simp] theorem setCan_cycle (s : State) (ch : Nat) (c : CanCtl) : (s.setCan ch c).cycle = s.cycle := rfl
@[simp] theorem setCan_freeCtr (s : State) (ch : Nat) (c : CanCtl) : (s.setCan ch c).freeCtr = s.freeCtr := rfl
@[simp] theorem setCan_ecc (s : State) (ch : Nat) (c : CanCtl) : (s.setCan ch c).ecc = s.ecc := rfl
@[simp] theorem setCan_regs (s : State) (ch : Nat) (c : CanCtl) : (s.setCan ch c).regs = s.regs := rfl
@[simp] theorem setCan_mem (s : State) (ch : Nat) (c : CanCtl) : (s.setCan ch c).mem = s.mem := rfl
@[simp] theorem setCan_arming (s : State) (ch : Nat) (c : CanCtl) : (s.setCan ch c).arming = s.arming := rfl
@[simp] theorem setCan_softReset (s : State) (ch : Nat) (c : CanCtl) : (s.setCan ch c).softReset = s.softReset := rfl
@[simp] theorem setCan_replies (s : State) (ch : Nat) (c : CanCtl) : (s.setCan ch c).replies = s.replies := rfl
@[simp] theorem setCan_queues (s : State) (ch : Nat) (c : CanCtl) : (s.setCan ch c).queues = s.queues := rfl
@[simp] theorem setCan_flights (s : State) (ch : Nat) (c : CanCtl) : (s.setCan ch c).flights = s.flights := rfl
@[simp] theorem setCan_creditsDue (s : State) (ch : Nat) (c : CanCtl) : (s.setCan ch c).creditsDue = s.creditsDue := rfl
@[simp] theorem setCan_holding (s : State) (ch : Nat) (c : CanCtl) : (s.setCan ch c).holding = s.holding := rfl
@[simp] theorem setCan_cores (s : State) (ch : Nat) (c : CanCtl) : (s.setCan ch c).cores = s.cores := rfl
@[simp] theorem setCan_latches (s : State) (ch : Nat) (c : CanCtl) : (s.setCan ch c).latches = s.latches := rfl
@[simp] theorem setCan_sberror (s : State) (ch : Nat) (c : CanCtl) : (s.setCan ch c).sberror = s.sberror := rfl
@[simp] theorem setCan_frame (s : State) (ch : Nat) (c : CanCtl) : (s.setCan ch c).frame = s.frame := rfl
@[simp] theorem setCan_slots (s : State) (ch : Nat) (c : CanCtl) : (s.setCan ch c).slots = s.slots := rfl
@[simp] theorem setCan_rowsEnded (s : State) (ch : Nat) (c : CanCtl) : (s.setCan ch c).rowsEnded = s.rowsEnded := rfl
@[simp] theorem setCan_rowsStarted (s : State) (ch : Nat) (c : CanCtl) : (s.setCan ch c).rowsStarted = s.rowsStarted := rfl
@[simp] theorem setCan_rowsDone (s : State) (ch : Nat) (c : CanCtl) : (s.setCan ch c).rowsDone = s.rowsDone := rfl
@[simp] theorem setCan_prog (s : State) (ch : Nat) (c : CanCtl) : (s.setCan ch c).prog = s.prog := rfl
@[simp] theorem setCan_skipped (s : State) (ch : Nat) (c : CanCtl) : (s.setCan ch c).skipped = s.skipped := rfl
@[simp] theorem setCan_dieFlags (s : State) (ch : Nat) (c : CanCtl) : (s.setCan ch c).dieFlags = s.dieFlags := rfl
@[simp] theorem setCan_checkPassed (s : State) (ch : Nat) (c : CanCtl) : (s.setCan ch c).checkPassed = s.checkPassed := rfl
@[simp] theorem setCan_timers (s : State) (ch : Nat) (c : CanCtl) : (s.setCan ch c).timers = s.timers := rfl
@[simp] theorem setCan_counters (s : State) (ch : Nat) (c : CanCtl) : (s.setCan ch c).counters = s.counters := rfl
@[simp] theorem setCan_sboxes (s : State) (ch : Nat) (c : CanCtl) : (s.setCan ch c).sboxes = s.sboxes := rfl
@[simp] theorem setCan_maskStages (s : State) (ch : Nat) (c : CanCtl) : (s.setCan ch c).maskStages = s.maskStages := rfl
@[simp] theorem setCan_heldMasks (s : State) (ch : Nat) (c : CanCtl) : (s.setCan ch c).heldMasks = s.heldMasks := rfl
@[simp] theorem setCan_heldTimr (s : State) (ch : Nat) (c : CanCtl) : (s.setCan ch c).heldTimr = s.heldTimr := rfl
@[simp] theorem setCan_causes (s : State) (ch : Nat) (c : CanCtl) : (s.setCan ch c).causes = s.causes := rfl
@[simp] theorem setCan_points (s : State) (ch : Nat) (c : CanCtl) : (s.setCan ch c).points = s.points := rfl
@[simp] theorem setCan_catActive (s : State) (ch : Nat) (c : CanCtl) : (s.setCan ch c).catActive = s.catActive := rfl
@[simp] theorem setCan_forcedStop (s : State) (ch : Nat) (c : CanCtl) : (s.setCan ch c).forcedStop = s.forcedStop := rfl
@[simp] theorem setCan_firmware (s : State) (ch : Nat) (c : CanCtl) : (s.setCan ch c).firmware = s.firmware := rfl
@[simp] theorem setCan_auth (s : State) (ch : Nat) (c : CanCtl) : (s.setCan ch c).auth = s.auth := rfl
@[simp] theorem setCan_exch (s : State) (ch : Nat) (c : CanCtl) : (s.setCan ch c).exch = s.exch := rfl
@[simp] theorem setCan_linkOut (s : State) (ch : Nat) (c : CanCtl) : (s.setCan ch c).linkOut = s.linkOut := rfl
@[simp] theorem setCan_change (s : State) (ch : Nat) (c : CanCtl) : (s.setCan ch c).change = s.change := rfl
@[simp] theorem setCan_engines (s : State) (ch : Nat) (c : CanCtl) : (s.setCan ch c).engines = s.engines := rfl
@[simp] theorem setCan_tracked (s : State) (ch : Nat) (c : CanCtl) : (s.setCan ch c).tracked = s.tracked := rfl
@[simp] theorem setCan_dirty (s : State) (ch : Nat) (c : CanCtl) : (s.setCan ch c).dirty = s.dirty := rfl
@[simp] theorem setCan_shunt (s : State) (ch : Nat) (c : CanCtl) : (s.setCan ch c).shunt = s.shunt := rfl
@[simp] theorem setCan_pair (s : State) (ch : Nat) (c : CanCtl) : (s.setCan ch c).pair = s.pair := rfl
@[simp] theorem setCan_fellBack (s : State) (ch : Nat) (c : CanCtl) : (s.setCan ch c).fellBack = s.fellBack := rfl
@[simp] theorem setCan_silenceFault (s : State) (ch : Nat) (c : CanCtl) : (s.setCan ch c).silenceFault = s.silenceFault := rfl
@[simp] theorem setCan_fieldStale (s : State) (ch : Nat) (c : CanCtl) : (s.setCan ch c).fieldStale = s.fieldStale := rfl
@[simp] theorem setCan_fld (s : State) (ch : Nat) (c : CanCtl) : (s.setCan ch c).fld = s.fld := rfl
@[simp] theorem setCan_arch (s : State) (ch : Nat) (c : CanCtl) : (s.setCan ch c).arch = s.arch := rfl
@[simp] theorem setCan_aon (s : State) (ch : Nat) (c : CanCtl) : (s.setCan ch c).aon = s.aon := rfl
@[simp] theorem setCan_upd (s : State) (ch : Nat) (c : CanCtl) : (s.setCan ch c).upd = s.upd := rfl
@[simp] theorem setCan_pending (s : State) (ch : Nat) (c : CanCtl) : (s.setCan ch c).pending = s.pending := rfl
@[simp] theorem setCan_rd (s : State) (ch : Nat) (c : CanCtl) (d : Nat) (g : FieldDef) : (s.setCan ch c).rd d g = s.rd d g := rfl

/-! ### `setTimer` -/

@[simp] theorem setTimer_time (s : State) (die i : Nat) (t : Timer) : (s.setTimer die i t).time = s.time := rfl
@[simp] theorem setTimer_cycle (s : State) (die i : Nat) (t : Timer) : (s.setTimer die i t).cycle = s.cycle := rfl
@[simp] theorem setTimer_freeCtr (s : State) (die i : Nat) (t : Timer) : (s.setTimer die i t).freeCtr = s.freeCtr := rfl
@[simp] theorem setTimer_ecc (s : State) (die i : Nat) (t : Timer) : (s.setTimer die i t).ecc = s.ecc := rfl
@[simp] theorem setTimer_regs (s : State) (die i : Nat) (t : Timer) : (s.setTimer die i t).regs = s.regs := rfl
@[simp] theorem setTimer_mem (s : State) (die i : Nat) (t : Timer) : (s.setTimer die i t).mem = s.mem := rfl
@[simp] theorem setTimer_arming (s : State) (die i : Nat) (t : Timer) : (s.setTimer die i t).arming = s.arming := rfl
@[simp] theorem setTimer_softReset (s : State) (die i : Nat) (t : Timer) : (s.setTimer die i t).softReset = s.softReset := rfl
@[simp] theorem setTimer_replies (s : State) (die i : Nat) (t : Timer) : (s.setTimer die i t).replies = s.replies := rfl
@[simp] theorem setTimer_queues (s : State) (die i : Nat) (t : Timer) : (s.setTimer die i t).queues = s.queues := rfl
@[simp] theorem setTimer_flights (s : State) (die i : Nat) (t : Timer) : (s.setTimer die i t).flights = s.flights := rfl
@[simp] theorem setTimer_creditsDue (s : State) (die i : Nat) (t : Timer) : (s.setTimer die i t).creditsDue = s.creditsDue := rfl
@[simp] theorem setTimer_holding (s : State) (die i : Nat) (t : Timer) : (s.setTimer die i t).holding = s.holding := rfl
@[simp] theorem setTimer_cores (s : State) (die i : Nat) (t : Timer) : (s.setTimer die i t).cores = s.cores := rfl
@[simp] theorem setTimer_latches (s : State) (die i : Nat) (t : Timer) : (s.setTimer die i t).latches = s.latches := rfl
@[simp] theorem setTimer_sberror (s : State) (die i : Nat) (t : Timer) : (s.setTimer die i t).sberror = s.sberror := rfl
@[simp] theorem setTimer_frame (s : State) (die i : Nat) (t : Timer) : (s.setTimer die i t).frame = s.frame := rfl
@[simp] theorem setTimer_slots (s : State) (die i : Nat) (t : Timer) : (s.setTimer die i t).slots = s.slots := rfl
@[simp] theorem setTimer_rowsEnded (s : State) (die i : Nat) (t : Timer) : (s.setTimer die i t).rowsEnded = s.rowsEnded := rfl
@[simp] theorem setTimer_rowsStarted (s : State) (die i : Nat) (t : Timer) : (s.setTimer die i t).rowsStarted = s.rowsStarted := rfl
@[simp] theorem setTimer_rowsDone (s : State) (die i : Nat) (t : Timer) : (s.setTimer die i t).rowsDone = s.rowsDone := rfl
@[simp] theorem setTimer_prog (s : State) (die i : Nat) (t : Timer) : (s.setTimer die i t).prog = s.prog := rfl
@[simp] theorem setTimer_skipped (s : State) (die i : Nat) (t : Timer) : (s.setTimer die i t).skipped = s.skipped := rfl
@[simp] theorem setTimer_dieFlags (s : State) (die i : Nat) (t : Timer) : (s.setTimer die i t).dieFlags = s.dieFlags := rfl
@[simp] theorem setTimer_checkPassed (s : State) (die i : Nat) (t : Timer) : (s.setTimer die i t).checkPassed = s.checkPassed := rfl
@[simp] theorem setTimer_counters (s : State) (die i : Nat) (t : Timer) : (s.setTimer die i t).counters = s.counters := rfl
@[simp] theorem setTimer_sboxes (s : State) (die i : Nat) (t : Timer) : (s.setTimer die i t).sboxes = s.sboxes := rfl
@[simp] theorem setTimer_maskStages (s : State) (die i : Nat) (t : Timer) : (s.setTimer die i t).maskStages = s.maskStages := rfl
@[simp] theorem setTimer_heldMasks (s : State) (die i : Nat) (t : Timer) : (s.setTimer die i t).heldMasks = s.heldMasks := rfl
@[simp] theorem setTimer_heldTimr (s : State) (die i : Nat) (t : Timer) : (s.setTimer die i t).heldTimr = s.heldTimr := rfl
@[simp] theorem setTimer_causes (s : State) (die i : Nat) (t : Timer) : (s.setTimer die i t).causes = s.causes := rfl
@[simp] theorem setTimer_points (s : State) (die i : Nat) (t : Timer) : (s.setTimer die i t).points = s.points := rfl
@[simp] theorem setTimer_catActive (s : State) (die i : Nat) (t : Timer) : (s.setTimer die i t).catActive = s.catActive := rfl
@[simp] theorem setTimer_forcedStop (s : State) (die i : Nat) (t : Timer) : (s.setTimer die i t).forcedStop = s.forcedStop := rfl
@[simp] theorem setTimer_firmware (s : State) (die i : Nat) (t : Timer) : (s.setTimer die i t).firmware = s.firmware := rfl
@[simp] theorem setTimer_cans (s : State) (die i : Nat) (t : Timer) : (s.setTimer die i t).cans = s.cans := rfl
@[simp] theorem setTimer_auth (s : State) (die i : Nat) (t : Timer) : (s.setTimer die i t).auth = s.auth := rfl
@[simp] theorem setTimer_exch (s : State) (die i : Nat) (t : Timer) : (s.setTimer die i t).exch = s.exch := rfl
@[simp] theorem setTimer_linkOut (s : State) (die i : Nat) (t : Timer) : (s.setTimer die i t).linkOut = s.linkOut := rfl
@[simp] theorem setTimer_change (s : State) (die i : Nat) (t : Timer) : (s.setTimer die i t).change = s.change := rfl
@[simp] theorem setTimer_engines (s : State) (die i : Nat) (t : Timer) : (s.setTimer die i t).engines = s.engines := rfl
@[simp] theorem setTimer_tracked (s : State) (die i : Nat) (t : Timer) : (s.setTimer die i t).tracked = s.tracked := rfl
@[simp] theorem setTimer_shunt (s : State) (die i : Nat) (t : Timer) : (s.setTimer die i t).shunt = s.shunt := rfl
@[simp] theorem setTimer_pair (s : State) (die i : Nat) (t : Timer) : (s.setTimer die i t).pair = s.pair := rfl
@[simp] theorem setTimer_fellBack (s : State) (die i : Nat) (t : Timer) : (s.setTimer die i t).fellBack = s.fellBack := rfl
@[simp] theorem setTimer_silenceFault (s : State) (die i : Nat) (t : Timer) : (s.setTimer die i t).silenceFault = s.silenceFault := rfl
@[simp] theorem setTimer_fieldStale (s : State) (die i : Nat) (t : Timer) : (s.setTimer die i t).fieldStale = s.fieldStale := rfl
@[simp] theorem setTimer_fld (s : State) (die i : Nat) (t : Timer) : (s.setTimer die i t).fld = s.fld := rfl
@[simp] theorem setTimer_arch (s : State) (die i : Nat) (t : Timer) : (s.setTimer die i t).arch = s.arch := rfl
@[simp] theorem setTimer_aon (s : State) (die i : Nat) (t : Timer) : (s.setTimer die i t).aon = s.aon := rfl
@[simp] theorem setTimer_upd (s : State) (die i : Nat) (t : Timer) : (s.setTimer die i t).upd = s.upd := rfl
@[simp] theorem setTimer_pending (s : State) (die i : Nat) (t : Timer) : (s.setTimer die i t).pending = s.pending := rfl
@[simp] theorem setTimer_rd (s : State) (die i : Nat) (t : Timer) (d : Nat) (g : FieldDef) : (s.setTimer die i t).rd d g = s.rd d g := rfl

/-! ### `setCounter` -/

@[simp] theorem setCounter_time (s : State) (die i : Nat) (c : Counter) : (s.setCounter die i c).time = s.time := rfl
@[simp] theorem setCounter_cycle (s : State) (die i : Nat) (c : Counter) : (s.setCounter die i c).cycle = s.cycle := rfl
@[simp] theorem setCounter_freeCtr (s : State) (die i : Nat) (c : Counter) : (s.setCounter die i c).freeCtr = s.freeCtr := rfl
@[simp] theorem setCounter_ecc (s : State) (die i : Nat) (c : Counter) : (s.setCounter die i c).ecc = s.ecc := rfl
@[simp] theorem setCounter_regs (s : State) (die i : Nat) (c : Counter) : (s.setCounter die i c).regs = s.regs := rfl
@[simp] theorem setCounter_mem (s : State) (die i : Nat) (c : Counter) : (s.setCounter die i c).mem = s.mem := rfl
@[simp] theorem setCounter_arming (s : State) (die i : Nat) (c : Counter) : (s.setCounter die i c).arming = s.arming := rfl
@[simp] theorem setCounter_softReset (s : State) (die i : Nat) (c : Counter) : (s.setCounter die i c).softReset = s.softReset := rfl
@[simp] theorem setCounter_replies (s : State) (die i : Nat) (c : Counter) : (s.setCounter die i c).replies = s.replies := rfl
@[simp] theorem setCounter_queues (s : State) (die i : Nat) (c : Counter) : (s.setCounter die i c).queues = s.queues := rfl
@[simp] theorem setCounter_flights (s : State) (die i : Nat) (c : Counter) : (s.setCounter die i c).flights = s.flights := rfl
@[simp] theorem setCounter_creditsDue (s : State) (die i : Nat) (c : Counter) : (s.setCounter die i c).creditsDue = s.creditsDue := rfl
@[simp] theorem setCounter_holding (s : State) (die i : Nat) (c : Counter) : (s.setCounter die i c).holding = s.holding := rfl
@[simp] theorem setCounter_cores (s : State) (die i : Nat) (c : Counter) : (s.setCounter die i c).cores = s.cores := rfl
@[simp] theorem setCounter_latches (s : State) (die i : Nat) (c : Counter) : (s.setCounter die i c).latches = s.latches := rfl
@[simp] theorem setCounter_sberror (s : State) (die i : Nat) (c : Counter) : (s.setCounter die i c).sberror = s.sberror := rfl
@[simp] theorem setCounter_frame (s : State) (die i : Nat) (c : Counter) : (s.setCounter die i c).frame = s.frame := rfl
@[simp] theorem setCounter_slots (s : State) (die i : Nat) (c : Counter) : (s.setCounter die i c).slots = s.slots := rfl
@[simp] theorem setCounter_rowsEnded (s : State) (die i : Nat) (c : Counter) : (s.setCounter die i c).rowsEnded = s.rowsEnded := rfl
@[simp] theorem setCounter_rowsStarted (s : State) (die i : Nat) (c : Counter) : (s.setCounter die i c).rowsStarted = s.rowsStarted := rfl
@[simp] theorem setCounter_rowsDone (s : State) (die i : Nat) (c : Counter) : (s.setCounter die i c).rowsDone = s.rowsDone := rfl
@[simp] theorem setCounter_prog (s : State) (die i : Nat) (c : Counter) : (s.setCounter die i c).prog = s.prog := rfl
@[simp] theorem setCounter_skipped (s : State) (die i : Nat) (c : Counter) : (s.setCounter die i c).skipped = s.skipped := rfl
@[simp] theorem setCounter_dieFlags (s : State) (die i : Nat) (c : Counter) : (s.setCounter die i c).dieFlags = s.dieFlags := rfl
@[simp] theorem setCounter_checkPassed (s : State) (die i : Nat) (c : Counter) : (s.setCounter die i c).checkPassed = s.checkPassed := rfl
@[simp] theorem setCounter_timers (s : State) (die i : Nat) (c : Counter) : (s.setCounter die i c).timers = s.timers := rfl
@[simp] theorem setCounter_sboxes (s : State) (die i : Nat) (c : Counter) : (s.setCounter die i c).sboxes = s.sboxes := rfl
@[simp] theorem setCounter_maskStages (s : State) (die i : Nat) (c : Counter) : (s.setCounter die i c).maskStages = s.maskStages := rfl
@[simp] theorem setCounter_heldMasks (s : State) (die i : Nat) (c : Counter) : (s.setCounter die i c).heldMasks = s.heldMasks := rfl
@[simp] theorem setCounter_heldTimr (s : State) (die i : Nat) (c : Counter) : (s.setCounter die i c).heldTimr = s.heldTimr := rfl
@[simp] theorem setCounter_causes (s : State) (die i : Nat) (c : Counter) : (s.setCounter die i c).causes = s.causes := rfl
@[simp] theorem setCounter_points (s : State) (die i : Nat) (c : Counter) : (s.setCounter die i c).points = s.points := rfl
@[simp] theorem setCounter_catActive (s : State) (die i : Nat) (c : Counter) : (s.setCounter die i c).catActive = s.catActive := rfl
@[simp] theorem setCounter_forcedStop (s : State) (die i : Nat) (c : Counter) : (s.setCounter die i c).forcedStop = s.forcedStop := rfl
@[simp] theorem setCounter_firmware (s : State) (die i : Nat) (c : Counter) : (s.setCounter die i c).firmware = s.firmware := rfl
@[simp] theorem setCounter_cans (s : State) (die i : Nat) (c : Counter) : (s.setCounter die i c).cans = s.cans := rfl
@[simp] theorem setCounter_auth (s : State) (die i : Nat) (c : Counter) : (s.setCounter die i c).auth = s.auth := rfl
@[simp] theorem setCounter_exch (s : State) (die i : Nat) (c : Counter) : (s.setCounter die i c).exch = s.exch := rfl
@[simp] theorem setCounter_linkOut (s : State) (die i : Nat) (c : Counter) : (s.setCounter die i c).linkOut = s.linkOut := rfl
@[simp] theorem setCounter_change (s : State) (die i : Nat) (c : Counter) : (s.setCounter die i c).change = s.change := rfl
@[simp] theorem setCounter_engines (s : State) (die i : Nat) (c : Counter) : (s.setCounter die i c).engines = s.engines := rfl
@[simp] theorem setCounter_tracked (s : State) (die i : Nat) (c : Counter) : (s.setCounter die i c).tracked = s.tracked := rfl
@[simp] theorem setCounter_shunt (s : State) (die i : Nat) (c : Counter) : (s.setCounter die i c).shunt = s.shunt := rfl
@[simp] theorem setCounter_pair (s : State) (die i : Nat) (c : Counter) : (s.setCounter die i c).pair = s.pair := rfl
@[simp] theorem setCounter_fellBack (s : State) (die i : Nat) (c : Counter) : (s.setCounter die i c).fellBack = s.fellBack := rfl
@[simp] theorem setCounter_silenceFault (s : State) (die i : Nat) (c : Counter) : (s.setCounter die i c).silenceFault = s.silenceFault := rfl
@[simp] theorem setCounter_fieldStale (s : State) (die i : Nat) (c : Counter) : (s.setCounter die i c).fieldStale = s.fieldStale := rfl
@[simp] theorem setCounter_fld (s : State) (die i : Nat) (c : Counter) : (s.setCounter die i c).fld = s.fld := rfl
@[simp] theorem setCounter_arch (s : State) (die i : Nat) (c : Counter) : (s.setCounter die i c).arch = s.arch := rfl
@[simp] theorem setCounter_aon (s : State) (die i : Nat) (c : Counter) : (s.setCounter die i c).aon = s.aon := rfl
@[simp] theorem setCounter_upd (s : State) (die i : Nat) (c : Counter) : (s.setCounter die i c).upd = s.upd := rfl
@[simp] theorem setCounter_pending (s : State) (die i : Nat) (c : Counter) : (s.setCounter die i c).pending = s.pending := rfl
@[simp] theorem setCounter_rd (s : State) (die i : Nat) (c : Counter) (d : Nat) (g : FieldDef) : (s.setCounter die i c).rd d g = s.rd d g := rfl

/-! ### `setSbox` -/

@[simp] theorem setSbox_time (s : State) (die : Nat) (b : Sbox) : (s.setSbox die b).time = s.time := rfl
@[simp] theorem setSbox_cycle (s : State) (die : Nat) (b : Sbox) : (s.setSbox die b).cycle = s.cycle := rfl
@[simp] theorem setSbox_freeCtr (s : State) (die : Nat) (b : Sbox) : (s.setSbox die b).freeCtr = s.freeCtr := rfl
@[simp] theorem setSbox_ecc (s : State) (die : Nat) (b : Sbox) : (s.setSbox die b).ecc = s.ecc := rfl
@[simp] theorem setSbox_regs (s : State) (die : Nat) (b : Sbox) : (s.setSbox die b).regs = s.regs := rfl
@[simp] theorem setSbox_mem (s : State) (die : Nat) (b : Sbox) : (s.setSbox die b).mem = s.mem := rfl
@[simp] theorem setSbox_arming (s : State) (die : Nat) (b : Sbox) : (s.setSbox die b).arming = s.arming := rfl
@[simp] theorem setSbox_softReset (s : State) (die : Nat) (b : Sbox) : (s.setSbox die b).softReset = s.softReset := rfl
@[simp] theorem setSbox_replies (s : State) (die : Nat) (b : Sbox) : (s.setSbox die b).replies = s.replies := rfl
@[simp] theorem setSbox_queues (s : State) (die : Nat) (b : Sbox) : (s.setSbox die b).queues = s.queues := rfl
@[simp] theorem setSbox_flights (s : State) (die : Nat) (b : Sbox) : (s.setSbox die b).flights = s.flights := rfl
@[simp] theorem setSbox_creditsDue (s : State) (die : Nat) (b : Sbox) : (s.setSbox die b).creditsDue = s.creditsDue := rfl
@[simp] theorem setSbox_holding (s : State) (die : Nat) (b : Sbox) : (s.setSbox die b).holding = s.holding := rfl
@[simp] theorem setSbox_cores (s : State) (die : Nat) (b : Sbox) : (s.setSbox die b).cores = s.cores := rfl
@[simp] theorem setSbox_latches (s : State) (die : Nat) (b : Sbox) : (s.setSbox die b).latches = s.latches := rfl
@[simp] theorem setSbox_sberror (s : State) (die : Nat) (b : Sbox) : (s.setSbox die b).sberror = s.sberror := rfl
@[simp] theorem setSbox_frame (s : State) (die : Nat) (b : Sbox) : (s.setSbox die b).frame = s.frame := rfl
@[simp] theorem setSbox_slots (s : State) (die : Nat) (b : Sbox) : (s.setSbox die b).slots = s.slots := rfl
@[simp] theorem setSbox_rowsEnded (s : State) (die : Nat) (b : Sbox) : (s.setSbox die b).rowsEnded = s.rowsEnded := rfl
@[simp] theorem setSbox_rowsStarted (s : State) (die : Nat) (b : Sbox) : (s.setSbox die b).rowsStarted = s.rowsStarted := rfl
@[simp] theorem setSbox_rowsDone (s : State) (die : Nat) (b : Sbox) : (s.setSbox die b).rowsDone = s.rowsDone := rfl
@[simp] theorem setSbox_prog (s : State) (die : Nat) (b : Sbox) : (s.setSbox die b).prog = s.prog := rfl
@[simp] theorem setSbox_skipped (s : State) (die : Nat) (b : Sbox) : (s.setSbox die b).skipped = s.skipped := rfl
@[simp] theorem setSbox_dieFlags (s : State) (die : Nat) (b : Sbox) : (s.setSbox die b).dieFlags = s.dieFlags := rfl
@[simp] theorem setSbox_checkPassed (s : State) (die : Nat) (b : Sbox) : (s.setSbox die b).checkPassed = s.checkPassed := rfl
@[simp] theorem setSbox_timers (s : State) (die : Nat) (b : Sbox) : (s.setSbox die b).timers = s.timers := rfl
@[simp] theorem setSbox_counters (s : State) (die : Nat) (b : Sbox) : (s.setSbox die b).counters = s.counters := rfl
@[simp] theorem setSbox_maskStages (s : State) (die : Nat) (b : Sbox) : (s.setSbox die b).maskStages = s.maskStages := rfl
@[simp] theorem setSbox_heldMasks (s : State) (die : Nat) (b : Sbox) : (s.setSbox die b).heldMasks = s.heldMasks := rfl
@[simp] theorem setSbox_heldTimr (s : State) (die : Nat) (b : Sbox) : (s.setSbox die b).heldTimr = s.heldTimr := rfl
@[simp] theorem setSbox_causes (s : State) (die : Nat) (b : Sbox) : (s.setSbox die b).causes = s.causes := rfl
@[simp] theorem setSbox_points (s : State) (die : Nat) (b : Sbox) : (s.setSbox die b).points = s.points := rfl
@[simp] theorem setSbox_catActive (s : State) (die : Nat) (b : Sbox) : (s.setSbox die b).catActive = s.catActive := rfl
@[simp] theorem setSbox_forcedStop (s : State) (die : Nat) (b : Sbox) : (s.setSbox die b).forcedStop = s.forcedStop := rfl
@[simp] theorem setSbox_firmware (s : State) (die : Nat) (b : Sbox) : (s.setSbox die b).firmware = s.firmware := rfl
@[simp] theorem setSbox_cans (s : State) (die : Nat) (b : Sbox) : (s.setSbox die b).cans = s.cans := rfl
@[simp] theorem setSbox_auth (s : State) (die : Nat) (b : Sbox) : (s.setSbox die b).auth = s.auth := rfl
@[simp] theorem setSbox_exch (s : State) (die : Nat) (b : Sbox) : (s.setSbox die b).exch = s.exch := rfl
@[simp] theorem setSbox_linkOut (s : State) (die : Nat) (b : Sbox) : (s.setSbox die b).linkOut = s.linkOut := rfl
@[simp] theorem setSbox_change (s : State) (die : Nat) (b : Sbox) : (s.setSbox die b).change = s.change := rfl
@[simp] theorem setSbox_engines (s : State) (die : Nat) (b : Sbox) : (s.setSbox die b).engines = s.engines := rfl
@[simp] theorem setSbox_tracked (s : State) (die : Nat) (b : Sbox) : (s.setSbox die b).tracked = s.tracked := rfl
@[simp] theorem setSbox_dirty (s : State) (die : Nat) (b : Sbox) : (s.setSbox die b).dirty = s.dirty := rfl
@[simp] theorem setSbox_shunt (s : State) (die : Nat) (b : Sbox) : (s.setSbox die b).shunt = s.shunt := rfl
@[simp] theorem setSbox_pair (s : State) (die : Nat) (b : Sbox) : (s.setSbox die b).pair = s.pair := rfl
@[simp] theorem setSbox_fellBack (s : State) (die : Nat) (b : Sbox) : (s.setSbox die b).fellBack = s.fellBack := rfl
@[simp] theorem setSbox_silenceFault (s : State) (die : Nat) (b : Sbox) : (s.setSbox die b).silenceFault = s.silenceFault := rfl
@[simp] theorem setSbox_fieldStale (s : State) (die : Nat) (b : Sbox) : (s.setSbox die b).fieldStale = s.fieldStale := rfl
@[simp] theorem setSbox_fld (s : State) (die : Nat) (b : Sbox) : (s.setSbox die b).fld = s.fld := rfl
@[simp] theorem setSbox_arch (s : State) (die : Nat) (b : Sbox) : (s.setSbox die b).arch = s.arch := rfl
@[simp] theorem setSbox_aon (s : State) (die : Nat) (b : Sbox) : (s.setSbox die b).aon = s.aon := rfl
@[simp] theorem setSbox_upd (s : State) (die : Nat) (b : Sbox) : (s.setSbox die b).upd = s.upd := rfl
@[simp] theorem setSbox_pending (s : State) (die : Nat) (b : Sbox) : (s.setSbox die b).pending = s.pending := rfl
@[simp] theorem setSbox_rd (s : State) (die : Nat) (b : Sbox) (d : Nat) (g : FieldDef) : (s.setSbox die b).rd d g = s.rd d g := rfl

/-! ### `storeByte` -/

@[simp] theorem storeByte_time (s : State) (a : Nat) (b : Byte) : (s.storeByte a b).time = s.time := rfl
@[simp] theorem storeByte_cycle (s : State) (a : Nat) (b : Byte) : (s.storeByte a b).cycle = s.cycle := rfl
@[simp] theorem storeByte_freeCtr (s : State) (a : Nat) (b : Byte) : (s.storeByte a b).freeCtr = s.freeCtr := rfl
@[simp] theorem storeByte_regs (s : State) (a : Nat) (b : Byte) : (s.storeByte a b).regs = s.regs := rfl
@[simp] theorem storeByte_arming (s : State) (a : Nat) (b : Byte) : (s.storeByte a b).arming = s.arming := rfl
@[simp] theorem storeByte_softReset (s : State) (a : Nat) (b : Byte) : (s.storeByte a b).softReset = s.softReset := rfl
@[simp] theorem storeByte_replies (s : State) (a : Nat) (b : Byte) : (s.storeByte a b).replies = s.replies := rfl
@[simp] theorem storeByte_queues (s : State) (a : Nat) (b : Byte) : (s.storeByte a b).queues = s.queues := rfl
@[simp] theorem storeByte_flights (s : State) (a : Nat) (b : Byte) : (s.storeByte a b).flights = s.flights := rfl
@[simp] theorem storeByte_creditsDue (s : State) (a : Nat) (b : Byte) : (s.storeByte a b).creditsDue = s.creditsDue := rfl
@[simp] theorem storeByte_holding (s : State) (a : Nat) (b : Byte) : (s.storeByte a b).holding = s.holding := rfl
@[simp] theorem storeByte_cores (s : State) (a : Nat) (b : Byte) : (s.storeByte a b).cores = s.cores := rfl
@[simp] theorem storeByte_latches (s : State) (a : Nat) (b : Byte) : (s.storeByte a b).latches = s.latches := rfl
@[simp] theorem storeByte_sberror (s : State) (a : Nat) (b : Byte) : (s.storeByte a b).sberror = s.sberror := rfl
@[simp] theorem storeByte_frame (s : State) (a : Nat) (b : Byte) : (s.storeByte a b).frame = s.frame := rfl
@[simp] theorem storeByte_slots (s : State) (a : Nat) (b : Byte) : (s.storeByte a b).slots = s.slots := rfl
@[simp] theorem storeByte_rowsEnded (s : State) (a : Nat) (b : Byte) : (s.storeByte a b).rowsEnded = s.rowsEnded := rfl
@[simp] theorem storeByte_rowsStarted (s : State) (a : Nat) (b : Byte) : (s.storeByte a b).rowsStarted = s.rowsStarted := rfl
@[simp] theorem storeByte_rowsDone (s : State) (a : Nat) (b : Byte) : (s.storeByte a b).rowsDone = s.rowsDone := rfl
@[simp] theorem storeByte_prog (s : State) (a : Nat) (b : Byte) : (s.storeByte a b).prog = s.prog := rfl
@[simp] theorem storeByte_skipped (s : State) (a : Nat) (b : Byte) : (s.storeByte a b).skipped = s.skipped := rfl
@[simp] theorem storeByte_dieFlags (s : State) (a : Nat) (b : Byte) : (s.storeByte a b).dieFlags = s.dieFlags := rfl
@[simp] theorem storeByte_checkPassed (s : State) (a : Nat) (b : Byte) : (s.storeByte a b).checkPassed = s.checkPassed := rfl
@[simp] theorem storeByte_timers (s : State) (a : Nat) (b : Byte) : (s.storeByte a b).timers = s.timers := rfl
@[simp] theorem storeByte_counters (s : State) (a : Nat) (b : Byte) : (s.storeByte a b).counters = s.counters := rfl
@[simp] theorem storeByte_sboxes (s : State) (a : Nat) (b : Byte) : (s.storeByte a b).sboxes = s.sboxes := rfl
@[simp] theorem storeByte_maskStages (s : State) (a : Nat) (b : Byte) : (s.storeByte a b).maskStages = s.maskStages := rfl
@[simp] theorem storeByte_heldMasks (s : State) (a : Nat) (b : Byte) : (s.storeByte a b).heldMasks = s.heldMasks := rfl
@[simp] theorem storeByte_heldTimr (s : State) (a : Nat) (b : Byte) : (s.storeByte a b).heldTimr = s.heldTimr := rfl
@[simp] theorem storeByte_causes (s : State) (a : Nat) (b : Byte) : (s.storeByte a b).causes = s.causes := rfl
@[simp] theorem storeByte_points (s : State) (a : Nat) (b : Byte) : (s.storeByte a b).points = s.points := rfl
@[simp] theorem storeByte_catActive (s : State) (a : Nat) (b : Byte) : (s.storeByte a b).catActive = s.catActive := rfl
@[simp] theorem storeByte_forcedStop (s : State) (a : Nat) (b : Byte) : (s.storeByte a b).forcedStop = s.forcedStop := rfl
@[simp] theorem storeByte_firmware (s : State) (a : Nat) (b : Byte) : (s.storeByte a b).firmware = s.firmware := rfl
@[simp] theorem storeByte_cans (s : State) (a : Nat) (b : Byte) : (s.storeByte a b).cans = s.cans := rfl
@[simp] theorem storeByte_auth (s : State) (a : Nat) (b : Byte) : (s.storeByte a b).auth = s.auth := rfl
@[simp] theorem storeByte_exch (s : State) (a : Nat) (b : Byte) : (s.storeByte a b).exch = s.exch := rfl
@[simp] theorem storeByte_linkOut (s : State) (a : Nat) (b : Byte) : (s.storeByte a b).linkOut = s.linkOut := rfl
@[simp] theorem storeByte_change (s : State) (a : Nat) (b : Byte) : (s.storeByte a b).change = s.change := rfl
@[simp] theorem storeByte_engines (s : State) (a : Nat) (b : Byte) : (s.storeByte a b).engines = s.engines := rfl
@[simp] theorem storeByte_tracked (s : State) (a : Nat) (b : Byte) : (s.storeByte a b).tracked = s.tracked := rfl
@[simp] theorem storeByte_shunt (s : State) (a : Nat) (b : Byte) : (s.storeByte a b).shunt = s.shunt := rfl
@[simp] theorem storeByte_pair (s : State) (a : Nat) (b : Byte) : (s.storeByte a b).pair = s.pair := rfl
@[simp] theorem storeByte_fellBack (s : State) (a : Nat) (b : Byte) : (s.storeByte a b).fellBack = s.fellBack := rfl
@[simp] theorem storeByte_silenceFault (s : State) (a : Nat) (b : Byte) : (s.storeByte a b).silenceFault = s.silenceFault := rfl
@[simp] theorem storeByte_fieldStale (s : State) (a : Nat) (b : Byte) : (s.storeByte a b).fieldStale = s.fieldStale := rfl
@[simp] theorem storeByte_fld (s : State) (a : Nat) (b : Byte) : (s.storeByte a b).fld = s.fld := rfl
@[simp] theorem storeByte_arch (s : State) (a : Nat) (b : Byte) : (s.storeByte a b).arch = s.arch := rfl
@[simp] theorem storeByte_aon (s : State) (a : Nat) (b : Byte) : (s.storeByte a b).aon = s.aon := rfl
@[simp] theorem storeByte_upd (s : State) (a : Nat) (b : Byte) : (s.storeByte a b).upd = s.upd := rfl
@[simp] theorem storeByte_pending (s : State) (a : Nat) (b : Byte) : (s.storeByte a b).pending = s.pending := rfl
@[simp] theorem storeByte_rd (s : State) (a : Nat) (b : Byte) (d : Nat) (g : FieldDef) : (s.storeByte a b).rd d g = s.rd d g := rfl

/-! ### `copyMem` -/

@[simp] theorem copyMem_time (s : State) (src dst n : Nat) : (s.copyMem src dst n).time = s.time := rfl
@[simp] theorem copyMem_cycle (s : State) (src dst n : Nat) : (s.copyMem src dst n).cycle = s.cycle := rfl
@[simp] theorem copyMem_freeCtr (s : State) (src dst n : Nat) : (s.copyMem src dst n).freeCtr = s.freeCtr := rfl
@[simp] theorem copyMem_regs (s : State) (src dst n : Nat) : (s.copyMem src dst n).regs = s.regs := rfl
@[simp] theorem copyMem_arming (s : State) (src dst n : Nat) : (s.copyMem src dst n).arming = s.arming := rfl
@[simp] theorem copyMem_softReset (s : State) (src dst n : Nat) : (s.copyMem src dst n).softReset = s.softReset := rfl
@[simp] theorem copyMem_replies (s : State) (src dst n : Nat) : (s.copyMem src dst n).replies = s.replies := rfl
@[simp] theorem copyMem_queues (s : State) (src dst n : Nat) : (s.copyMem src dst n).queues = s.queues := rfl
@[simp] theorem copyMem_flights (s : State) (src dst n : Nat) : (s.copyMem src dst n).flights = s.flights := rfl
@[simp] theorem copyMem_creditsDue (s : State) (src dst n : Nat) : (s.copyMem src dst n).creditsDue = s.creditsDue := rfl
@[simp] theorem copyMem_holding (s : State) (src dst n : Nat) : (s.copyMem src dst n).holding = s.holding := rfl
@[simp] theorem copyMem_cores (s : State) (src dst n : Nat) : (s.copyMem src dst n).cores = s.cores := rfl
@[simp] theorem copyMem_latches (s : State) (src dst n : Nat) : (s.copyMem src dst n).latches = s.latches := rfl
@[simp] theorem copyMem_sberror (s : State) (src dst n : Nat) : (s.copyMem src dst n).sberror = s.sberror := rfl
@[simp] theorem copyMem_frame (s : State) (src dst n : Nat) : (s.copyMem src dst n).frame = s.frame := rfl
@[simp] theorem copyMem_slots (s : State) (src dst n : Nat) : (s.copyMem src dst n).slots = s.slots := rfl
@[simp] theorem copyMem_rowsEnded (s : State) (src dst n : Nat) : (s.copyMem src dst n).rowsEnded = s.rowsEnded := rfl
@[simp] theorem copyMem_rowsStarted (s : State) (src dst n : Nat) : (s.copyMem src dst n).rowsStarted = s.rowsStarted := rfl
@[simp] theorem copyMem_rowsDone (s : State) (src dst n : Nat) : (s.copyMem src dst n).rowsDone = s.rowsDone := rfl
@[simp] theorem copyMem_prog (s : State) (src dst n : Nat) : (s.copyMem src dst n).prog = s.prog := rfl
@[simp] theorem copyMem_skipped (s : State) (src dst n : Nat) : (s.copyMem src dst n).skipped = s.skipped := rfl
@[simp] theorem copyMem_dieFlags (s : State) (src dst n : Nat) : (s.copyMem src dst n).dieFlags = s.dieFlags := rfl
@[simp] theorem copyMem_checkPassed (s : State) (src dst n : Nat) : (s.copyMem src dst n).checkPassed = s.checkPassed := rfl
@[simp] theorem copyMem_timers (s : State) (src dst n : Nat) : (s.copyMem src dst n).timers = s.timers := rfl
@[simp] theorem copyMem_counters (s : State) (src dst n : Nat) : (s.copyMem src dst n).counters = s.counters := rfl
@[simp] theorem copyMem_sboxes (s : State) (src dst n : Nat) : (s.copyMem src dst n).sboxes = s.sboxes := rfl
@[simp] theorem copyMem_maskStages (s : State) (src dst n : Nat) : (s.copyMem src dst n).maskStages = s.maskStages := rfl
@[simp] theorem copyMem_heldMasks (s : State) (src dst n : Nat) : (s.copyMem src dst n).heldMasks = s.heldMasks := rfl
@[simp] theorem copyMem_heldTimr (s : State) (src dst n : Nat) : (s.copyMem src dst n).heldTimr = s.heldTimr := rfl
@[simp] theorem copyMem_causes (s : State) (src dst n : Nat) : (s.copyMem src dst n).causes = s.causes := rfl
@[simp] theorem copyMem_points (s : State) (src dst n : Nat) : (s.copyMem src dst n).points = s.points := rfl
@[simp] theorem copyMem_catActive (s : State) (src dst n : Nat) : (s.copyMem src dst n).catActive = s.catActive := rfl
@[simp] theorem copyMem_forcedStop (s : State) (src dst n : Nat) : (s.copyMem src dst n).forcedStop = s.forcedStop := rfl
@[simp] theorem copyMem_firmware (s : State) (src dst n : Nat) : (s.copyMem src dst n).firmware = s.firmware := rfl
@[simp] theorem copyMem_cans (s : State) (src dst n : Nat) : (s.copyMem src dst n).cans = s.cans := rfl
@[simp] theorem copyMem_auth (s : State) (src dst n : Nat) : (s.copyMem src dst n).auth = s.auth := rfl
@[simp] theorem copyMem_exch (s : State) (src dst n : Nat) : (s.copyMem src dst n).exch = s.exch := rfl
@[simp] theorem copyMem_linkOut (s : State) (src dst n : Nat) : (s.copyMem src dst n).linkOut = s.linkOut := rfl
@[simp] theorem copyMem_change (s : State) (src dst n : Nat) : (s.copyMem src dst n).change = s.change := rfl
@[simp] theorem copyMem_engines (s : State) (src dst n : Nat) : (s.copyMem src dst n).engines = s.engines := rfl
@[simp] theorem copyMem_tracked (s : State) (src dst n : Nat) : (s.copyMem src dst n).tracked = s.tracked := rfl
@[simp] theorem copyMem_shunt (s : State) (src dst n : Nat) : (s.copyMem src dst n).shunt = s.shunt := rfl
@[simp] theorem copyMem_pair (s : State) (src dst n : Nat) : (s.copyMem src dst n).pair = s.pair := rfl
@[simp] theorem copyMem_fellBack (s : State) (src dst n : Nat) : (s.copyMem src dst n).fellBack = s.fellBack := rfl
@[simp] theorem copyMem_silenceFault (s : State) (src dst n : Nat) : (s.copyMem src dst n).silenceFault = s.silenceFault := rfl
@[simp] theorem copyMem_fieldStale (s : State) (src dst n : Nat) : (s.copyMem src dst n).fieldStale = s.fieldStale := rfl
@[simp] theorem copyMem_fld (s : State) (src dst n : Nat) : (s.copyMem src dst n).fld = s.fld := rfl
@[simp] theorem copyMem_arch (s : State) (src dst n : Nat) : (s.copyMem src dst n).arch = s.arch := rfl
@[simp] theorem copyMem_aon (s : State) (src dst n : Nat) : (s.copyMem src dst n).aon = s.aon := rfl
@[simp] theorem copyMem_upd (s : State) (src dst n : Nat) : (s.copyMem src dst n).upd = s.upd := rfl
@[simp] theorem copyMem_pending (s : State) (src dst n : Nat) : (s.copyMem src dst n).pending = s.pending := rfl
@[simp] theorem copyMem_rd (s : State) (src dst n : Nat) (d : Nat) (g : FieldDef) : (s.copyMem src dst n).rd d g = s.rd d g := rfl

/-! ### `clearMem` -/

@[simp] theorem clearMem_time (s : State) (a n : Nat) : (s.clearMem a n).time = s.time := rfl
@[simp] theorem clearMem_cycle (s : State) (a n : Nat) : (s.clearMem a n).cycle = s.cycle := rfl
@[simp] theorem clearMem_freeCtr (s : State) (a n : Nat) : (s.clearMem a n).freeCtr = s.freeCtr := rfl
@[simp] theorem clearMem_regs (s : State) (a n : Nat) : (s.clearMem a n).regs = s.regs := rfl
@[simp] theorem clearMem_arming (s : State) (a n : Nat) : (s.clearMem a n).arming = s.arming := rfl
@[simp] theorem clearMem_softReset (s : State) (a n : Nat) : (s.clearMem a n).softReset = s.softReset := rfl
@[simp] theorem clearMem_replies (s : State) (a n : Nat) : (s.clearMem a n).replies = s.replies := rfl
@[simp] theorem clearMem_queues (s : State) (a n : Nat) : (s.clearMem a n).queues = s.queues := rfl
@[simp] theorem clearMem_flights (s : State) (a n : Nat) : (s.clearMem a n).flights = s.flights := rfl
@[simp] theorem clearMem_creditsDue (s : State) (a n : Nat) : (s.clearMem a n).creditsDue = s.creditsDue := rfl
@[simp] theorem clearMem_holding (s : State) (a n : Nat) : (s.clearMem a n).holding = s.holding := rfl
@[simp] theorem clearMem_cores (s : State) (a n : Nat) : (s.clearMem a n).cores = s.cores := rfl
@[simp] theorem clearMem_latches (s : State) (a n : Nat) : (s.clearMem a n).latches = s.latches := rfl
@[simp] theorem clearMem_sberror (s : State) (a n : Nat) : (s.clearMem a n).sberror = s.sberror := rfl
@[simp] theorem clearMem_frame (s : State) (a n : Nat) : (s.clearMem a n).frame = s.frame := rfl
@[simp] theorem clearMem_slots (s : State) (a n : Nat) : (s.clearMem a n).slots = s.slots := rfl
@[simp] theorem clearMem_rowsEnded (s : State) (a n : Nat) : (s.clearMem a n).rowsEnded = s.rowsEnded := rfl
@[simp] theorem clearMem_rowsStarted (s : State) (a n : Nat) : (s.clearMem a n).rowsStarted = s.rowsStarted := rfl
@[simp] theorem clearMem_rowsDone (s : State) (a n : Nat) : (s.clearMem a n).rowsDone = s.rowsDone := rfl
@[simp] theorem clearMem_prog (s : State) (a n : Nat) : (s.clearMem a n).prog = s.prog := rfl
@[simp] theorem clearMem_skipped (s : State) (a n : Nat) : (s.clearMem a n).skipped = s.skipped := rfl
@[simp] theorem clearMem_dieFlags (s : State) (a n : Nat) : (s.clearMem a n).dieFlags = s.dieFlags := rfl
@[simp] theorem clearMem_checkPassed (s : State) (a n : Nat) : (s.clearMem a n).checkPassed = s.checkPassed := rfl
@[simp] theorem clearMem_timers (s : State) (a n : Nat) : (s.clearMem a n).timers = s.timers := rfl
@[simp] theorem clearMem_counters (s : State) (a n : Nat) : (s.clearMem a n).counters = s.counters := rfl
@[simp] theorem clearMem_sboxes (s : State) (a n : Nat) : (s.clearMem a n).sboxes = s.sboxes := rfl
@[simp] theorem clearMem_maskStages (s : State) (a n : Nat) : (s.clearMem a n).maskStages = s.maskStages := rfl
@[simp] theorem clearMem_heldMasks (s : State) (a n : Nat) : (s.clearMem a n).heldMasks = s.heldMasks := rfl
@[simp] theorem clearMem_heldTimr (s : State) (a n : Nat) : (s.clearMem a n).heldTimr = s.heldTimr := rfl
@[simp] theorem clearMem_causes (s : State) (a n : Nat) : (s.clearMem a n).causes = s.causes := rfl
@[simp] theorem clearMem_points (s : State) (a n : Nat) : (s.clearMem a n).points = s.points := rfl
@[simp] theorem clearMem_catActive (s : State) (a n : Nat) : (s.clearMem a n).catActive = s.catActive := rfl
@[simp] theorem clearMem_forcedStop (s : State) (a n : Nat) : (s.clearMem a n).forcedStop = s.forcedStop := rfl
@[simp] theorem clearMem_firmware (s : State) (a n : Nat) : (s.clearMem a n).firmware = s.firmware := rfl
@[simp] theorem clearMem_cans (s : State) (a n : Nat) : (s.clearMem a n).cans = s.cans := rfl
@[simp] theorem clearMem_auth (s : State) (a n : Nat) : (s.clearMem a n).auth = s.auth := rfl
@[simp] theorem clearMem_exch (s : State) (a n : Nat) : (s.clearMem a n).exch = s.exch := rfl
@[simp] theorem clearMem_linkOut (s : State) (a n : Nat) : (s.clearMem a n).linkOut = s.linkOut := rfl
@[simp] theorem clearMem_change (s : State) (a n : Nat) : (s.clearMem a n).change = s.change := rfl
@[simp] theorem clearMem_engines (s : State) (a n : Nat) : (s.clearMem a n).engines = s.engines := rfl
@[simp] theorem clearMem_tracked (s : State) (a n : Nat) : (s.clearMem a n).tracked = s.tracked := rfl
@[simp] theorem clearMem_shunt (s : State) (a n : Nat) : (s.clearMem a n).shunt = s.shunt := rfl
@[simp] theorem clearMem_pair (s : State) (a n : Nat) : (s.clearMem a n).pair = s.pair := rfl
@[simp] theorem clearMem_fellBack (s : State) (a n : Nat) : (s.clearMem a n).fellBack = s.fellBack := rfl
@[simp] theorem clearMem_silenceFault (s : State) (a n : Nat) : (s.clearMem a n).silenceFault = s.silenceFault := rfl
@[simp] theorem clearMem_fieldStale (s : State) (a n : Nat) : (s.clearMem a n).fieldStale = s.fieldStale := rfl
@[simp] theorem clearMem_fld (s : State) (a n : Nat) : (s.clearMem a n).fld = s.fld := rfl
@[simp] theorem clearMem_arch (s : State) (a n : Nat) : (s.clearMem a n).arch = s.arch := rfl
@[simp] theorem clearMem_aon (s : State) (a n : Nat) : (s.clearMem a n).aon = s.aon := rfl
@[simp] theorem clearMem_upd (s : State) (a n : Nat) : (s.clearMem a n).upd = s.upd := rfl
@[simp] theorem clearMem_pending (s : State) (a n : Nat) : (s.clearMem a n).pending = s.pending := rfl
@[simp] theorem clearMem_rd (s : State) (a n : Nat) (d : Nat) (g : FieldDef) : (s.clearMem a n).rd d g = s.rd d g := rfl

/-! ### What the updates change -/

theorem wr_regs (s : State) (die : Nat) (f : FieldDef) (v : Nat) :
    (s.wr die f v).regs = SMap.put (f.resetAt die) s.regs (f.key die) (v % 2 ^ f.width) := rfl
@[simp] theorem advanceTo_cycle (s : State) (c : Nat) : (s.advanceTo c).cycle = max s.cycle c := rfl
theorem advanceTo_time (s : State) (c : Nat) : (s.advanceTo c).time = s.time + 5 * (c - s.cycle) := rfl
@[simp] theorem setSlot_slot (s : State) (die e : Nat) (x : Slot) :
    (s.setSlot die e x).slots = SMap.insert s.slots (die * 8 + e) x := rfl
@[simp] theorem setRing_queues (s : State) (die q : Nat) (l : List QEntry) :
    (s.setRing die q l).queues = SMap.put [] s.queues (die * 16 + q) l := rfl
@[simp] theorem setCore_cores (s : State) (die n : Nat) (c : Core) :
    (s.setCore die n c).cores = SMap.put Core.start s.cores (die * 4 + n) c := rfl

end Sys2Proof.Machine.State
end

