-- ==== Sys2Proof/Laws/Writes.lean ====
section
/-! SUPPORT.  What a write that a page takes without a slip does, field by field: the lemmas from which the effect of a
command register is read off. -/

namespace Sys2Proof.Machine

open Sys2Proof.Bits

theorem takeArming_notReady (s : State) (die code who d c : Nat) :
    (takeArming s die code who).2.notReady d c = s.notReady d c := by
  rfl

@[simp] theorem takeArming_rd (s : State) (die code who d : Nat) (f : FieldDef) :
    (takeArming s die code who).2.rd d f = s.rd d f := by
  rfl

/-- A WO field: the state stays, the applied word takes its bits. -/
theorem writeField_wo {who die word : Nat} {armed : Bool} {w : Writing} {f0 : FieldDef} (f : FieldDef)
    (hf : f0.w (w.st.winWr who die f0.win) = f) (ha : f.acc = .wo)
    (hc : clamp w.st die f (f.get word) w.applied = f.get word) :
    writeField who die word armed w f0 = ⟨w.st, w.applied + f.get word * 2 ^ f.lsb, w.slips⟩ := by
  unfold writeField; simp only [hf, ha, hc, if_true, List.append_nil]

/-- An RW field takes the written value. -/
theorem writeField_rw {who die word : Nat} {armed : Bool} {w : Writing} {f0 : FieldDef} (f : FieldDef)
    (hf : f0.w (w.st.winWr who die f0.win) = f) (ha : f.acc = .rw) (hw : f.win ≠ .mask)
    (hc : clamp w.st die f (f.get word) w.applied = f.get word) :
    writeField who die word armed w f0 =
      ⟨w.st.wr die f (f.get word), w.applied + f.get word * 2 ^ f.lsb, w.slips⟩ := by
  unfold writeField; simp only [hf, ha, hc, if_true, if_neg hw, List.append_nil]

/-- A staged mask field. -/
theorem writeField_mask {who die word : Nat} {armed : Bool} {w : Writing} {f0 : FieldDef} (f : FieldDef)
    (hf : f0.w (w.st.winWr who die f0.win) = f) (ha : f.acc = .rw) (hw : f.win = .mask)
    (hc : clamp w.st die f (f.get word) w.applied = f.get word) :
    writeField who die word armed w f0 = ⟨w.st, w.applied + f.get word * 2 ^ f.lsb, w.slips⟩ := by
  unfold writeField; simp only [hf, ha, hc, if_true, if_pos hw, List.append_nil]

/-- An RWL field with its lock open. -/
theorem writeField_rwl {who die word : Nat} {armed : Bool} {w : Writing} {f0 : FieldDef} (f : FieldDef)
    (hf : f0.w (w.st.winWr who die f0.win) = f) (ha : f.acc = .rwl)
    (hl : w.st.rd die (LOCKS_GROUP f.code) % 2 ≠ 1) (hc : clamp w.st die f (f.get word) w.applied = f.get word) :
    writeField who die word armed w f0 =
      ⟨w.st.wr die f (f.get word), w.applied + f.get word * 2 ^ f.lsb, w.slips⟩ := by
  unfold writeField; simp only [hf, ha, hc, if_true, if_neg hl, List.append_nil]

/-- An RWK field of an armed page. -/
theorem writeField_rwk {who die word : Nat} {w : Writing} {f0 : FieldDef} (f : FieldDef)
    (hf : f0.w (w.st.winWr who die f0.win) = f) (ha : f.acc = .rwk) (hc : clamp w.st die f (f.get word) w.applied = f.get word) :
    writeField who die word true w f0 =
      ⟨w.st.wr die f (f.get word), w.applied + f.get word * 2 ^ f.lsb, w.slips⟩ := by
  unfold writeField; simp only [hf, ha, hc, if_true, List.append_nil]

/-- A W1C field that acts on state of its own. -/
theorem writeField_w1c {who die word : Nat} {armed : Bool} {w : Writing} {f0 : FieldDef} (f : FieldDef)
    (hf : f0.w (w.st.winWr who die f0.win) = f) (ha : f.acc = .w1c) (hs : storesW1 f = false)
    (hc : clamp w.st die f (f.get word) w.applied = f.get word) :
    writeField who die word armed w f0 = ⟨w.st, w.applied + f.get word * 2 ^ f.lsb, w.slips⟩ := by
  unfold writeField; simp only [hf, ha, hc, hs, if_true, List.append_nil, Bool.false_eq_true, if_false]

/-- A W1S field that acts on state of its own. -/
theorem writeField_w1s {who die word : Nat} {armed : Bool} {w : Writing} {f0 : FieldDef} (f : FieldDef)
    (hf : f0.w (w.st.winWr who die f0.win) = f) (ha : f.acc = .w1s) (hs : storesW1 f = false)
    (hc : clamp w.st die f (f.get word) w.applied = f.get word) :
    writeField who die word armed w f0 = ⟨w.st, w.applied + f.get word * 2 ^ f.lsb, w.slips⟩ := by
  unfold writeField; simp only [hf, ha, hc, hs, if_true, List.append_nil, Bool.false_eq_true, if_false]

/-- An RO or RC field of a register with other fields. -/
theorem writeField_ro {who die word : Nat} {armed : Bool} {w : Writing} {f0 : FieldDef} (f : FieldDef)
    (hf : f0.w (w.st.winWr who die f0.win) = f) (ha : f.acc = .ro ∨ f.acc = .rc) :
    writeField who die word armed w f0 = w := by
  unfold writeField; simp only [hf]
  rcases ha with ha | ha <;> simp only [ha]

/-- The fields of a write one after the other. -/
theorem writeFields_cons {who die word : Nat} {armed : Bool} {w w' r : Writing} {f : FieldDef} {fs : List FieldDef}
    (h : writeField who die word armed w f = w') (k : fs.foldl (writeField who die word armed) w' = r) :
    (f :: fs).foldl (writeField who die word armed) w = r := by
  rw [List.foldl_cons, h, k]

/-- A request that reaches its page is neither refused nor stalled. -/
theorem State.barred_reaches {s : State} {w : Who} {die : Nat} (h : s.reaches w die = true) (a : Nat) :
    s.barred w.code a die true = none := by
  unfold State.reaches at h
  simp only [Bool.and_eq_true, Bool.not_eq_true'] at h
  unfold State.barred
  simp only [Bool.true_and, Bool.true_or, h.1.1, h.1.2, Bool.false_eq_true, if_false]

theorem State.stalled_reaches {s : State} {w : Who} {die : Nat} (h : s.reaches w die = true) :
    s.stalled w.code die true false = false := by
  unfold State.reaches at h
  simp only [Bool.and_eq_true, Bool.not_eq_true'] at h
  exact h.2

/-- A write that reaches its page. -/
theorem pageWrite_reaches {s : State} {w : Who} {die code off word : Nat} (h : s.reaches w die = true) :
    pageWrite s w die code off word = pageTake s w die code off word := by
  unfold pageWrite
  rw [State.barred_reaches h, State.stalled_reaches h]
  rfl

/-- A write that a page takes, none of whose fields slips. -/
theorem pageWrite_clean {s s1 : State} {w : Who} {die code off word v : Nat} (fs : List FieldDef)
    (hs : s.takes w die code = true) (hf : regFields die code off = fs)
    (hr : fs.foldl (writeField w.code die word (takeArming s die code w.code).1)
        { st := (takeArming s die code w.code).2, applied := 0, slips := [] } = ⟨s1, v, []⟩)
    (hm : minus 32 word (fieldMask fs) = 0) (ho : 0x100 ≤ off := by decide) (h1 : fs.isEmpty = false := by rfl)
    (h2 : fs.all (fun f => f.acc == .ro || f.acc == .rc) = false := by rfl)
    (h3 : ¬ (die ≠ 0 ∧ code = 0x09 ∧ off = 0x114) ∨ s.rd die Reg.TTBL_ROWSEL_BANK ≠ s.activeBank die) :
    pageWrite s w die code off word = ⟨s1, some v⟩ := by
  unfold State.takes at hs
  simp only [Bool.and_eq_true, Bool.not_eq_true'] at hs
  rw [pageWrite_reaches hs.1.1]
  unfold pageTake
  simp only [hf, h1, h2, hs.1.2, takeArming_notReady, hs.2, Nat.not_lt.mpr ho, if_false, Bool.false_eq_true,
    Bool.not_true]
  rw [if_neg (fun h => h3.elim (fun k => k ⟨h.1, h.2.1, h.2.2.1⟩) (fun k => k (by
    have := h.2.2.2.1; unfold State.activeBank at this ⊢; rwa [takeArming_rd, takeArming_rd] at this))), hr, if_pos hm]
  rfl

/-- The effect of a command register's write that a page takes without a slip. -/
theorem writeThen_clean {s s1 : State} {w : Who} {die code off word v : Nat} {k : State → Nat → State}
    (h : pageWrite s w die code off word = ⟨s1, some v⟩) : writeThen w die code off word s k = k s1 v := by
  unfold writeThen; rw [h]

/-- The RW fields of a register stored, one after the other. -/
def storeFields (who die word : Nat) (fs : List FieldDef) (s : State) : State :=
  fs.foldl (fun s f => if f.acc = .rw then s.wr die (f.w (s.winWr who die f.win)) (f.get word) else s) s

theorem clamp_static (s : State) (die : Nat) {f : FieldDef} (v : Nat) (below : Nat) (h : f.dyn = .static) (k : f.frz = false) :
    clamp s die f v below = clampTo (if f.segs = [] then .segs (upto 0 (2 ^ f.width - 1)) else .segs f.segs) f.sgn f.width v := by
  unfold clamp legal dynRange
  simp only [h, k, Bool.false_and, Bool.false_eq_true, if_false]

theorem writeFields_plain {who die word : Nat} {armed : Bool} (fs : List FieldDef) (w : Writing)
    (h : fs.all (plainField word) = true) :
    fs.foldl (writeField who die word armed) w =
      ⟨storeFields who die word fs w.st, fs.foldl (fun a f => a + f.get word * 2 ^ f.lsb) w.applied, w.slips⟩ := by
  induction fs generalizing w with
  | nil => rfl
  | cons f fs ih =>
    simp only [List.all_cons, Bool.and_eq_true] at h
    obtain ⟨hf, hr⟩ := h
    unfold plainField at hf
    simp only [Bool.and_eq_true, Bool.or_eq_true, beq_iff_eq, Bool.not_eq_true'] at hf
    obtain ⟨⟨⟨⟨h1, h3⟩, h4⟩, h5⟩, h6⟩ := hf
    have hc : ∀ k, clamp w.st die (f.w k) ((f.w k).get word) w.applied = (f.w k).get word := by
      intro k; rw [clamp_static _ _ _ _ (f := f.w k) h3 h4]; exact h6
    rw [List.foldl_cons]
    rcases h5 with (h5 | h5) | ⟨h5 | h5, h7⟩
    · rw [writeField_rw (f.w _) rfl h5 (by have h : f.win ≠ .mask := (by simpa using h1); exact h) (hc _), ih _ hr]
      simp only [storeFields, List.foldl_cons, h5, if_true]
      rfl
    · rw [writeField_wo (f.w _) rfl h5 (hc _), ih _ hr]
      simp only [storeFields, List.foldl_cons, h5]
      rfl
    · rw [writeField_w1c (f.w _) rfl h5 h7 (hc _), ih _ hr]
      simp only [storeFields, List.foldl_cons, h5]
      rfl
    · rw [writeField_w1s (f.w _) rfl h5 h7 (hc _), ih _ hr]
      simp only [storeFields, List.foldl_cons, h5]
      rfl

/-- Storing the fields of a register changes nothing but the register. -/
theorem storeFields_moves (who die code word : Nat) {fs : List FieldDef} {s : State} (h : ∀ f ∈ fs, f.code = code) :
    Moves (0x80000000010 ||| Moves.page code) s (storeFields who die word fs s) := by
  unfold storeFields
  refine Moves.foldlMem (g := id) (fun t f hf => ?_) .refl
  dsimp only [id]
  split
  · have := State.wr_moves t die (f.w (t.winWr who die f.win)) (f.get word)
    rwa [show (f.w (t.winWr who die f.win)).code = code from h f hf] at this
  · exact .refl

/-- What a write to a plain register stores, the arming of its page taken. -/
def written (s : State) (w : Who) (die code off word : Nat) : State :=
  storeFields w.code die word (regFields die code off) (takeArming s die code w.code).2

theorem written_moves (s : State) (w : Who) (die code off word : Nat) :
    Moves (0x80000000050 ||| Moves.page code) s (written s w die code off word) := by
  unfold written
  exact ((takeArming_moves s die code w.code).sub (Moves.or_le rfl)).trans
    ((storeFields_moves w.code die code word fun _ h => regFields_code h).sub (Moves.or_mono rfl))

/-- The fields of a register lie at its offset. -/
theorem regFields_off {die code off : Nat} {f : FieldDef} (h : f ∈ regFields die code off) : f.off = off := by
  unfold regFields at h
  obtain ⟨g, hg, rfl⟩ := List.mem_map.mp h
  have hmem : ∀ (l : List FieldDef) (x : FieldDef), x ∈ firstOfEach l → x ∈ l := by
    intro l
    induction l with
    | nil => intro x hx; exact hx
    | cons a l ih =>
      intro x hx
      unfold firstOfEach at hx
      rcases List.mem_cons.mp hx with rfl | hx
      · exact List.mem_cons_self
      · exact List.mem_cons_of_mem _ (ih x (List.mem_filter.mp hx).1)
  obtain ⟨f0, _, hf⟩ := List.mem_flatMap.mp (hmem _ _ hg)
  unfold placeAt at hf
  dsimp only at hf
  split at hf
  · cases hf
  · rename_i g' hg'
    obtain ⟨k, _, rfl⟩ := List.mem_map.mp hf
    show g'.off = off
    split at hg'
    · split at hg' <;> cases hg'; assumption
    · split at hg' <;> cases hg'; rfl
    · split at hg' <;> cases hg'; rfl

/-- A write to one register leaves every field of the others. -/
theorem storeFields_rd {who die code off word e : Nat} {g : FieldDef} (h : g.code % 64 ≠ code % 64 ∨ g.off % 4096 ≠ off % 4096)
    {s : State} (w : s.Sane) {fs : List FieldDef} (hf : ∀ f ∈ fs, f.code = code ∧ f.off = off) :
    (storeFields who die word fs s).rd e g = s.rd e g := by
  unfold storeFields
  induction fs generalizing s with
  | nil => rfl
  | cons f fs ih =>
    rw [List.foldl_cons]
    have hc := hf f List.mem_cons_self
    split
    · rw [ih (w.wr ..) fun x hx => hf x (List.mem_cons_of_mem _ hx)]
      refine State.rd_wr_other w _ ?_
      show g.code % 64 ≠ f.code % 64 ∨ g.off % 4096 ≠ f.off % 4096 ∨ g.lsb % 32 ≠ f.lsb % 32
      rw [hc.1, hc.2]; omega
    · exact ih w fun x hx => hf x (List.mem_cons_of_mem _ hx)

/-- Fields at pairwise different places. -/
abbrev apart (f g : FieldDef) : Prop :=
  f.code % 64 ≠ g.code % 64 ∨ f.off % 4096 ≠ g.off % 4096 ∨ f.lsb % 32 ≠ g.lsb % 32

/-- Fields apart from those of a register keep their values. -/
theorem storeFields_keep {who die word e : Nat} {g : FieldDef} {fs : List FieldDef} (hf : ∀ f ∈ fs, apart g f) {s : State}
    (w : s.Sane) : (storeFields who die word fs s).rd e g = s.rd e g := by
  unfold storeFields
  induction fs generalizing s with
  | nil => rfl
  | cons f fs ih =>
    rw [List.foldl_cons]
    have hr := fun x hx => hf x (List.mem_cons_of_mem f hx)
    split
    · rw [ih hr (w.wr ..)]
      exact State.rd_wr_other w _ (hf f List.mem_cons_self)
    · exact ih hr w

/-- Every RW field of a register, all in one entry of its table, reads back as written. -/
theorem storeFields_get {who die word k : Nat} {fs : List FieldDef} (hp : fs.Pairwise apart)
    (hk : ∀ f ∈ fs, ∀ t : State, t.winWr who die f.win = k) {s : State} (w : s.Sane) {f : FieldDef} (hf : f ∈ fs)
    (ha : f.acc = .rw) : (storeFields who die word fs s).rd die (f.w k) = f.get word := by
  induction fs generalizing s with
  | nil => cases hf
  | cons x fs ih =>
    obtain ⟨h1, h2⟩ := List.pairwise_cons.mp hp
    have hs : storeFields who die word (x :: fs) s = storeFields who die word fs
        (if x.acc = .rw then s.wr die (x.w (s.winWr who die x.win)) (x.get word) else s) := rfl
    rw [hs]
    rcases List.mem_cons.mp hf with rfl | hf
    · rw [if_pos ha, hk f List.mem_cons_self, storeFields_keep (g := f.w k) (fun g hg => h1 g hg) (w.wr ..), State.rd_wr_same w]
      exact Nat.mod_mod _ _
    · refine ih h2 (fun g hg => hk g (List.mem_cons_of_mem _ hg)) ?_ hf
      split
      · exact w.wr ..
      · exact w

theorem written_rd {s : State} (w : s.Sane) (m : Who) (die : Nat) {code off word e : Nat} {g : FieldDef}
    (h : g.code % 64 ≠ code % 64 ∨ g.off % 4096 ≠ off % 4096 := by decide) :
    (written s m die code off word).rd e g = s.rd e g := by
  unfold written
  rw [storeFields_rd h ((takeArming_moves ..).sane w) fun f hf => ⟨regFields_code hf, regFields_off hf⟩, takeArming_rd]

/-- A write to a plain register that the page takes. -/
theorem pageWrite_plain {s : State} {w : Who} {die code off word : Nat} (hs : s.takes w die code = true)
    (h : plainRegister die code off word = true)
    (h3 : ¬ (die ≠ 0 ∧ code = 0x09 ∧ off = 0x114) ∨ s.rd die Reg.TTBL_ROWSEL_BANK ≠ s.activeBank die := by exact .inl (by omega)) :
    pageWrite s w die code off word = ⟨written s w die code off word, some word⟩ := by
  unfold written
  unfold plainRegister at h
  simp only [Bool.and_eq_true, Bool.not_eq_true', decide_eq_true_eq, beq_iff_eq] at h
  obtain ⟨⟨⟨⟨h1, h2⟩, h3'⟩, h4⟩, h6⟩ := h
  refine pageWrite_clean _ hs rfl ?_ h4 h3' h2 ?_ h3
  · rw [writeFields_plain _ _ h1, h6]
  · rw [Bool.eq_false_iff]
    intro ha
    obtain ⟨f, hf⟩ := List.isEmpty_eq_false_iff_exists_mem.mp h2
    have hb := List.all_eq_true.mp h1 f hf
    have hc := List.all_eq_true.mp ha f hf
    unfold plainField at hb
    simp only [Bool.and_eq_true, Bool.or_eq_true, beq_iff_eq] at hb hc
    rcases hb.1.2 with (h | h) | ⟨h | h, -⟩ <;> rcases hc with k | k <;> rw [h] at k <;> cases k

theorem writeThen_plain {s : State} {w : Who} {die code off word : Nat} {k : State → Nat → State}
    (hs : s.takes w die code = true) (h : plainRegister die code off word = true)
    (h3 : ¬ (die ≠ 0 ∧ code = 0x09 ∧ off = 0x114) ∨ s.rd die Reg.TTBL_ROWSEL_BANK ≠ s.activeBank die := by exact .inl (by omega)) :
    writeThen w die code off word s k = k (written s w die code off word) word :=
  writeThen_clean (pageWrite_plain hs h h3)

theorem storeFields_wo {who die word : Nat} {fs : List FieldDef} {s : State} (h : fs.all (fun f => f.acc == .wo) = true) :
    storeFields who die word fs s = s := by
  unfold storeFields
  induction fs with
  | nil => rfl
  | cons f fs ih =>
    simp only [List.all_cons, Bool.and_eq_true, beq_iff_eq] at h
    rw [List.foldl_cons, h.1]
    exact ih h.2

/-- The effect of a register of WO fields alone. -/
theorem writeThen_command {s : State} {w : Who} {die code off word : Nat} {k : State → Nat → State}
    (hs : s.takes w die code = true) (h : plainRegister die code off word = true)
    (h' : (regFields die code off).all (fun f => f.acc == .wo) = true)
    (h3 : ¬ (die ≠ 0 ∧ code = 0x09 ∧ off = 0x114) ∨ s.rd die Reg.TTBL_ROWSEL_BANK ≠ s.activeBank die := by exact .inl (by omega)) :
    writeThen w die code off word s k = k (takeArming s die code w.code).2 word := by
  rw [writeThen_plain hs h h3, written, storeFields_wo h']

theorem writeFields_take {who die word : Nat} {armed : Bool} (fs : List FieldDef) (w : Writing)
    (h : fieldsTake who die word fs w.applied w.st = true) :
    fs.foldl (writeField who die word armed) w =
      ⟨storeFields who die word fs w.st, fs.foldl (fun a f => a + f.get word * 2 ^ f.lsb) w.applied, w.slips⟩ := by
  induction fs generalizing w with
  | nil => rfl
  | cons f fs ih =>
    unfold fieldsTake at h
    simp only [Bool.and_eq_true] at h
    obtain ⟨hf, hr⟩ := h
    unfold fieldTakes at hf
    simp only [Bool.and_eq_true, Bool.or_eq_true, beq_iff_eq, Bool.not_eq_true'] at hf
    obtain ⟨⟨h1, h5⟩, hc⟩ := hf
    rw [List.foldl_cons]
    have h5 : (f.acc = .rw ∨ f.acc = .wo) ∨ (f.acc = .w1c ∨ f.acc = .w1s) ∧
        storesW1 (f.w (w.st.winWr who die f.win)) = false := h5
    rcases h5 with (h5 | h5) | ⟨h5 | h5, h7⟩
    · rw [if_pos h5] at hr
      rw [writeField_rw (f.w _) rfl h5 (by simpa using h1) hc]
      refine (ih ⟨_, w.applied + (f.w (w.st.winWr who die f.win)).get word * 2 ^ (f.w (w.st.winWr who die f.win)).lsb, w.slips⟩ hr).trans ?_
      simp only [storeFields, List.foldl_cons, h5, if_true]
      rfl
    · rw [if_neg (by rw [h5]; decide)] at hr
      rw [writeField_wo (f.w _) rfl h5 hc]
      refine (ih ⟨_, w.applied + (f.w (w.st.winWr who die f.win)).get word * 2 ^ (f.w (w.st.winWr who die f.win)).lsb, w.slips⟩ hr).trans ?_
      simp only [storeFields, List.foldl_cons, h5]
      rfl
    · rw [if_neg (by rw [h5]; decide)] at hr
      rw [writeField_w1c (f.w _) rfl h5 h7 hc]
      refine (ih ⟨_, w.applied + (f.w (w.st.winWr who die f.win)).get word * 2 ^ (f.w (w.st.winWr who die f.win)).lsb, w.slips⟩ hr).trans ?_
      simp only [storeFields, List.foldl_cons, h5]
      rfl
    · rw [if_neg (by rw [h5]; decide)] at hr
      rw [writeField_w1s (f.w _) rfl h5 h7 hc]
      refine (ih ⟨_, w.applied + (f.w (w.st.winWr who die f.win)).get word * 2 ^ (f.w (w.st.winWr who die f.win)).lsb, w.slips⟩ hr).trans ?_
      simp only [storeFields, List.foldl_cons, h5]
      rfl

/-- A write that the page takes and whose word fits the register. -/
theorem pageWrite_fits {s : State} {w : Who} {die code off word : Nat} (hs : s.takes w die code = true)
    (h : s.fits w die code off word = true)
    (h3 : ¬ (die ≠ 0 ∧ code = 0x09 ∧ off = 0x114) ∨ s.rd die Reg.TTBL_ROWSEL_BANK ≠ s.activeBank die := by exact .inl (by omega)) :
    pageWrite s w die code off word = ⟨written s w die code off word, some word⟩ := by
  unfold written
  unfold State.fits at h
  simp only [Bool.and_eq_true, Bool.not_eq_true', decide_eq_true_eq, beq_iff_eq] at h
  obtain ⟨⟨⟨⟨⟨h1, h2⟩, h3'⟩, h4⟩, h5⟩, h6⟩ := h
  refine pageWrite_clean _ hs rfl ?_ h4 h3' h2 h5 h3
  rw [writeFields_take _ _ h1, h6]

theorem writeThen_fits {s : State} {w : Who} {die code off word : Nat} {k : State → Nat → State}
    (hs : s.takes w die code = true) (h : s.fits w die code off word = true)
    (h3 : ¬ (die ≠ 0 ∧ code = 0x09 ∧ off = 0x114) ∨ s.rd die Reg.TTBL_ROWSEL_BANK ≠ s.activeBank die := by exact .inl (by omega)) :
    writeThen w die code off word s k = k (written s w die code off word) word :=
  writeThen_clean (pageWrite_fits hs h h3)

end Sys2Proof.Machine
end

