-- ==== Sys2Proof/WellFormed.lean ====
section
/-! DEFINITION.  Well-formed commands: every operand lies where the spec places such a thing.  The machine gives every
command a meaning, well-formed or not; an operand that names nothing leaves the state as it is. -/

namespace Sys2Proof

/-- A master code (R62): the die above the five bits of the index. -/
def okWho (x : Who) : Bool := decide (x.code < 256)

/-- A die identifier (R2). -/
def okDie (x : Nat) : Bool := decide (x < 8)

/-- A 32-bit word. -/
def okWord (x : Nat) : Bool := decide (x < 2 ^ 32)

/-- A page code of a die (R65). -/
def okPage (x : Nat) : Bool := decide (x < 64)

/-- The offset of a word in a page (R45). -/
def okOffset (x : Nat) : Bool := decide (x < 4096 ∧ x % 4 = 0)

/-- A word core of a die (R140). -/
def okCore (x : Nat) : Bool := decide (x < 4)

/-- A Timetable row (R80). -/
def okRow (x : Nat) : Bool := decide (x < 512)

/-- An engine code (R81). -/
def okEngine (x : Nat) : Bool := decide (x < 7)

/-- A Line port (R239). -/
def okPort (x : Nat) : Bool := decide (x < 4)

/-- A CAN controller (R358). -/
def okChannel (x : Nat) : Bool := decide (x < 2)

/-- A queue of a die (R331). -/
def okQueue (x : Nat) : Bool := decide (x < 16)

/-- A bank of a die (R336). -/
def okBank (x : Nat) : Bool := decide (x < 8)

/-- A mask table entry (R120). -/
def okMask (x : Nat) : Bool := decide (1 ≤ x ∧ x < 256)

/-- A six-bit mask of Scan dies. -/
def okDies (x : Nat) : Bool := decide (x < 64)

/-- A hart of the debug module (R169). -/
def okHart (x : Nat) : Bool := decide (x < 32)

/-- A 32-bit address (R45). -/
def okAddress (x : Nat) : Bool := decide (x < 2 ^ 32)

/-- Bytes of an access (R48). -/
def okSize (x : Nat) : Bool := decide (x = 1 ∨ x = 2 ∨ x = 4 ∨ x = 8)

/-- A value of up to 64 bits. -/
def okDatum (x : Nat) : Bool := decide (x < 2 ^ 64)

/-- A start kind (R196). -/
def okStartKind (x : Nat) : Bool := decide (x < 3)

/-- A station number (R257). -/
def okStation (x : Nat) : Bool := decide (x < 1024)

/-- A global time in ns (R8). -/
def okTime (x : Nat) : Bool := decide (x < 2 ^ 64)

/-- A 48-bit frame number (R99). -/
def okFrameNo (x : Nat) : Bool := decide (x < 2 ^ 48)

/-- The tag of a queue entry (R331). -/
def okTag (x : Nat) : Bool := decide (x < 2 ^ 16)

/-- A bit of a 72-bit word with its check bits (R339). -/
def okBitNo (x : Nat) : Bool := decide (x < 72)

/-- A word of a bank (R336). -/
def okWordNo (x : Nat) : Bool := decide (x < 2 ^ 17)

/-- A mask of CAN transmit buffers (R363). -/
def okBuffers (x : Nat) : Bool := decide (x < 8)

/-- A CAN identifier (R365). -/
def okCanId (x : Nat) : Bool := decide (x < 2 ^ 29)

/-- A CAN data length code. -/
def okDlc (x : Nat) : Bool := decide (x < 16)

/-- A CAN error code (R368). -/
def okLec (x : Nat) : Bool := decide (x < 8)

/-- What ISO 11898-1 adds to a CAN error counter (R368). -/
def okErrorStep (x : Nat) : Bool := decide (x = 0 ∨ x = 1 ∨ x = 8)

/-- A channel of the Field die (R384). -/
def okOutput (x : Nat) : Bool := decide (x < 8)

/-- Sixteen levels (R385). -/
def okLevels (x : Nat) : Bool := decide (x < 2 ^ 16)

/-- A character (R391). -/
def okChar (x : Nat) : Bool := decide (x < 256)

/-- A voltage in mV. -/
def okMv (x : Nat) : Bool := decide (x < 2 ^ 16)

/-- A comparator (R451). -/
def okComparator (x : Nat) : Bool := decide (x < 4)

/-- A reference clock (R457). -/
def okReference (x : Nat) : Bool := decide (x < 2)

/-- A cause of a power-on reset (R470). -/
def okCause (x : Nat) : Bool := decide (1 ≤ x ∧ x ≤ 6)

/-- A kind of PTP interval (R243). -/
def okPtpKind (x : Nat) : Bool := decide (x < 4)

/-- An offset in the Stacks (R413). -/
def okStacksOff (x : Nat) : Bool := decide (x < 0x800000)

/-- A frame of at most 1,518 bytes (R242). -/
def okFrame (x : List Byte) : Bool := decide (x.length ≤ 1518)

/-- A region of a die, or its core state block (R288). -/
def okRegion (x : Nat) : Bool := decide (x < 4096)

/-- The header of a Partner link message (R298). -/
def okLinkHead (x : LinkHead) : Bool := decide (x.frame < 2 ^ 48 ∧ x.seq < 2 ^ 32)

/-- Numbers of blocks or slots. -/
def okShelf (x : List Nat) : Bool := decide (x.all (· < 4096) = true)

/-- A mask of Line ports. -/
def okMask4 (x : Nat) : Bool := decide (x < 16)

/-- A coupler (R396): DO 0 to 7, AO 0 and 1. -/
def okCoupler (x : Nat) : Bool := decide (x < 10)

/-- A bin edge (R427). -/
def okEdge (x : Nat) : Bool := decide (x < 15)

/-- A master code of 8 bits. -/
def okMaster (x : Nat) : Bool := decide (x < 256)

/-- Whether a command is well-formed. -/
def Instr.wf : Instr → Bool
  | .registerWrite w die code off word => okWho w && okDie die && okPage code && okOffset off && okWord word
  | .rcRead w die code off => okWho w && okDie die && okPage code && okOffset off
  | .keyWordWrite w die code word => okWho w && okDie die && okPage code && okWord word
  | .armingExpiry die code => okDie die && okPage code
  | .lockGroupSet w die code word => okWho w && okDie die && okPage code && okWord word
  | .softReset w die code _ => okWho w && okDie die && okPage code
  | .softResetEnd die code => okDie die && okPage code
  | .irqClear w die code word events => okWho w && okDie die && okPage code && okWord word && okWord events
  | .irqSet w die code word => okWho w && okDie die && okPage code && okWord word
  | .clampZero w die word => okWho w && okDie die && okWord word
  | .fieldProxyWrite w code off word => okWho w && okPage code && okOffset off && okWord word
  | .controlFrame => true
  | .statusFrame _ _ => true
  | .fieldAbsent => true
  | .fieldPowerup mv => okMv mv
  | .proxyPushEnd => true
  | .proxyPullEnd => true
  | .tick => true
  | .cutCopyEnd => true
  | .spreadEnd die => okDie die
  | .spreadByDeadline => true
  | .ptpMasterLost => true
  | .ptpMasterFound => true
  | .rowStart die row => okDie die && okRow row
  | .budgetExpiry die engine => okDie die && okEngine engine
  | .commitSample => true
  | .commitEnd => true
  | .safeCopyEnd => true
  | .releaseBuildEnd => true
  | .release => true
  | .outputFrameStart port => okPort port
  | .marginClear w word => okWho w && okWord word
  | .ttblRowWrite w die word => okWho w && okDie die && okWord word
  | .ttblPoints w die word => okWho w && okDie die && okWord word
  | .ttblCancel w die => okWho w && okDie die
  | .pointsCheckEnd die => okDie die
  | .tickPointsGo w dies => okWho w && okDies dies
  | .logicLever die => okDie die
  | .edgeLever die => okDie die
  | .moveLever die => okDie die
  | .pack die => okDie die
  | .unpack die => okDie die
  | .skipz die => okDie die
  | .skipnz die => okDie die
  | .tstart die => okDie die
  | .treset die => okDie die
  | .cup die => okDie die
  | .cdn die => okDie die
  | .syncLever die => okDie die
  | .syncTimeout die => okDie die
  | .nopLever die => okDie die
  | .endLever die => okDie die
  | .illegalOp die => okDie die
  | .advancePassEnd die stalls => okDie die && okWord stalls
  | .maskLowWrite w die entry word => okWho w && okDie die && okMask entry && okWord word
  | .maskHighWrite w die entry word => okWho w && okDie die && okMask entry && okWord word
  | .maskStore die => okDie die
  | .sboxFaultClear w die word => okWho w && okDie die && okWord word
  | .timrClear w die word => okWho w && okDie die && okWord word
  | .timrConfigApply die => okDie die
  | .watchClear w die word => okWho w && okDie die && okWord word
  | .riscvInstruction die core => okDie die && okCore core
  | .trapEntry die core => okDie die && okCore core
  | .mret die core => okDie die && okCore core
  | .interruptTaken die core => okDie die && okCore core
  | .bext die core => okDie die && okCore core
  | .bdep die core => okDie die && okCore core
  | .bsetm die core => okDie die && okCore core
  | .bclrm die core => okDie die && okCore core
  | .brise die core => okDie die && okCore core
  | .bfall die core => okDie die && okCore core
  | .bedge die core => okDie die && okCore core
  | .budgetRd die core => okDie die && okCore core
  | .slotend die core => okDie die && okCore core
  | .qput die core => okDie die && okCore core
  | .qget die core => okDie die && okCore core
  | .tokenAcq die core => okDie die && okCore core
  | .tokenRel die core => okDie die && okCore core
  | .sadd die core => okDie die && okCore core
  | .ssub die core => okDie die && okCore core
  | .saddu die core => okDie die && okCore core
  | .ssubu die core => okDie die && okCore core
  | .scaleS die core => okDie die && okCore core
  | .limitW die core => okDie die && okCore core
  | .limitS die core => okDie die && okCore core
  | .limitD die core => okDie die && okCore core
  | .coreStart w die core word => okWho w && okDie die && okCore core && okWord word
  | .softSet w die core word => okWho w && okDie die && okCore core && okWord word
  | .routerClear w die core _ word => okWho w && okDie die && okCore core && okWord word
  | .debugHalt hart => okHart hart
  | .debugSystemBusAccess _ addr size value => okAddress addr && okSize size && okDatum value
  | .junctionRequestComplete w _ addr size value => okWho w && okAddress addr && okSize size && okDatum value
  | .junctionTimeout w addr => okWho w && okAddress addr
  | .modeStop w => okWho w
  | .modeRun w start => okWho w && okStartKind start
  | .modeHold w start => okWho w && okStartKind start
  | .modeStep w => okWho w
  | .startPreparationEnd => true
  | .powerupRunRequest => true
  | .powerFail => true
  | .retainedSaveEnd => true
  | .runCounterSaveEnd => true
  | .powerReturn => true
  | .safeImageLoad _ => true
  | .safeImageLoaded => true
  | .programImageLoad _ _ _ => true
  | .changeLoad => true
  | .changeLoadEnd _ => true
  | .changeDiscard => true
  | .changeCommit => true
  | .preSwitchCheckEnd _ partner => okDatum partner
  | .pointsInstant => true
  | .carryStart => true
  | .carryEnd die => okDie die
  | .carryDeadline => true
  | .changeRevert => true
  | .retainedRecordWrite => true
  | .xspiGo w word => okWho w && okWord word
  | .xspiDone _ => true
  | .xspiDqsTimeout => true
  | .lineFrameReceive port stamp frame _ => okPort port && okTime stamp && okFrame frame
  | .inputFrame => true
  | .bindingWrite => true
  | .serviceUpFrame => true
  | .serviceDownSend ports station tag _ => okMask4 ports && okStation station && okTag tag
  | .ptpMessage => true
  | .ptpTimeRead w => okWho w
  | .lineLinkChange port _ => okPort port
  | .tsnChange w => okWho w
  | .gateEntryExpiry port => okPort port
  | .stationEntryWrite w word => okWho w && okWord word
  | .catalogueEntryWrite w word => okWho w && okWord word
  | .catalogueSwap w _ => okWho w
  | .catalogueCheckEnd => true
  | .catalogueCopy w => okWho w
  | .shunt => true
  | .shuntAbandon w => okWho w
  | .precopyPassEnd => true
  | .deltaEnd => true
  | .handoverAccept => true
  | .handoverRefuse => true
  | .dieRetire => true
  | .dieReturn => true
  | .returnTestEnd die _ => okDie die
  | .partApply w => okWho w
  | .partReplace w die dest _ => okWho w && okDie die && okDie dest
  | .scanRailLoss die => okDie die
  | .scanRailReturn die => okDie die
  | .headerSwitch w word => okWho w && okWord word
  | .heartbeat m _ => okLinkHead m
  | .heartbeatMissing => true
  | .laneAlignmentLoss => true
  | .snapMessage m offset _ => okLinkHead m && okWord offset
  | .sideMessage m _ => okLinkHead m
  | .deltaMessage m _ => okLinkHead m
  | .endMessage m _ crc count => okLinkHead m && okWord crc && okWord count
  | .abortMessage m => okLinkHead m
  | .mirrorApplyDeadline => true
  | .bulkMessage m name region _ => okLinkHead m && okDie name && okRegion region
  | .bulkKeeper m object offset _ => okLinkHead m && okPage object && okWord offset
  | .pairSyncRequest w => okWho w
  | .armNotice m identity frame _ => okLinkHead m && okDatum identity && okFrameNo frame
  | .goMarker m identity frame => okLinkHead m && okDatum identity && okFrameNo frame
  | .yieldMessage m named => okLinkHead m && okFrameNo named
  | .tabletWant w word => okWho w && okWord word
  | .tabletSeenChange _ => true
  | .claimHoldExpiry => true
  | .backoffExpiry => true
  | .verdict _ => true
  | .witnessHeartbeatSend => true
  | .witnessLoss => true
  | .takeover => true
  | .silentExpiry => true
  | .startingTimeout => true
  | .pairSwitch => true
  | .fabFence w word => okWho w && okWord word
  | .fabUnfence w word => okWho w && okWord word
  | .queueEnable w die q word => okWho w && okDie die && okQueue q && okWord word
  | .queueDisable w die q word => okWho w && okDie die && okQueue q && okWord word
  | .queuePush w die word => okWho w && okDie die && okWord word
  | .queueEntryArrival sender die queue => okMaster sender && okDie die && okQueue queue
  | .queuePop w die q word => okWho w && okDie die && okQueue q && okWord word
  | .creditReturn src die queue => okDie src && okDie die && okQueue queue
  | .tokenPageAcq w word => okWho w && okWord word
  | .tokenPageRel w word => okWho w && okWord word
  | .bankPowerSet w die word => okWho w && okDie die && okWord word
  | .bankWakeDone die bank => okDie die && okBank bank
  | .scrubRead die => okDie die
  | .dmaGo w die word => okWho w && okDie die && okWord word
  | .dmaChainEnd die => okDie die
  | .marchStart w die word => okWho w && okDie die && okWord word
  | .marchStop w die word => okWho w && okDie die && okWord word
  | .loanEnd die _ word bit _ => okDie die && okWordNo word && okBitNo bit
  | .loanAbort die => okDie die
  | .marchDone die _ word bit => okDie die && okWordNo word && okBitNo bit
  | .marchRepair w die word => okWho w && okDie die && okWord word
  | .repairDone die _ => okDie die
  | .canEnable w ch word => okWho w && okChannel ch && okWord word
  | .canIntegrated ch => okChannel ch
  | .canTxRequest w ch buffers => okWho w && okChannel ch && okBuffers buffers
  | .canTxAbort w ch buffers => okWho w && okChannel ch && okBuffers buffers
  | .canArbitrationLost ch => okChannel ch
  | .canTxEnd ch => okChannel ch
  | .canFrameReceive ch _ id dlc _ _ _ _ _ sof => okChannel ch && okCanId id && okDlc dlc && okTime sof
  | .canError ch lec _ _ step => okChannel ch && okLec lec && okErrorStep step
  | .canRecover w ch => okWho w && okChannel ch
  | .canRecoveryEnd ch => okChannel ch
  | .busOffDelayExpiry ch => okChannel ch
  | .canRxFlush w ch => okWho w && okChannel ch
  | .canRxLock w ch => okWho w && okChannel ch
  | .canRxPop w ch => okWho w && okChannel ch
  | .canForward ch => okChannel ch
  | .canTxService ch => okChannel ch
  | .diSample levels => okLevels levels
  | .edgePop w => okWho w
  | .doTrip k _ => okOutput k
  | .doRetry k => okOutput k
  | .doClearShort w word => okWho w && okWord word
  | .openLoad k _ => okOutput k
  | .loopFault k _ => okOutput k
  | .couplerFault ch _ => okCoupler ch
  | .fskTxWrite w k word => okWho w && okOutput k && okWord word
  | .fskCharacterSent k => okOutput k
  | .fskCharacterReceive k char _ _ => okOutput k && okChar char
  | .fskRxPop w k => okWho w && okOutput k
  | .silenceExpiry => true
  | .fpxMute w word => okWho w && okWord word
  | .muteEnd => true
  | .fieldArm w => okWho w
  | .fieldDisarm w => okWho w
  | .fv24Crossing mv => okMv mv
  | .trimStep w word => okWho w && okWord word
  | .trimPinPress _ => true
  | .trimPinHold _ => true
  | .trimTimeout => true
  | .trimCommit => true
  | .nvcWordQueue w word => okWho w && okWord word
  | .stacksWordWriteEnd => true
  | .stacksRead w off n => okWho w && okStacksOff off && okSize n
  | .nvcClearPoison w word => okWho w && okWord word
  | .refreshPage => true
  | .archiveRecord => true
  | .budgetRefill => true
  | .archiveFlush w => okWho w
  | .recordAgeFlush => true
  | .flushEnd failing => okShelf failing
  | .archiveAnnounce => true
  | .tallyUpdate w word => okWho w && okWord word
  | .tallyDefine w word => okWho w && okWord word
  | .binEdgeWrite w k word => okWho w && okEdge k && okWord word
  | .tallySnapshot w => okWho w
  | .tallySnapshotPeriod => true
  | .tallySnapshotEnd failing => okShelf failing
  | .supplyChangeoverVbat => true
  | .supplyChangeoverMain => true
  | .continuityLoss => true
  | .alwaysOnReset => true
  | .vbatMeasure mv => okMv mv
  | .rtcSecond => true
  | .xtalFail => true
  | .xtalReturn => true
  | .rtcLoad w => okWho w
  | .rtcSync w => okWho w
  | .rtcMeasureStart w word => okWho w && okWord word
  | .rtcMeasureEnd _ => true
  | .mainsLoss => true
  | .comparatorEdge n _ => okComparator n
  | .guardService w word => okWho w && okWord word
  | .guardWarn => true
  | .guardExpiry => true
  | .guardKey w word => okWho w && okWord word
  | .guardEnable w => okWho w
  | .guardLock w word => okWho w && okWord word
  | .guardDisable => true
  | .refclkFail r => okReference r
  | .refclkRevert r => okReference r
  | .powerOnReset cause => okCause cause
  | .resetRelease _ _ _ => true
  | .selftestEnd _ failed _ => okDies failed
  | .boot => true
  | .partReset w => okWho w
  | .dieReset w word => okWho w && okWord word
  | .dieRetain w word => okWho w && okWord word
  | .sleepRequest blocks tallies => okShelf blocks && okShelf tallies
  | .wake _ => true
  | .modeSet => true
  | .updateOpen => true
  | .updateClose => true
  | .sessionData => true
  | .sessionTimeout => true
  | .sessionVerifyEnd => true
  | .updateActivate => true
  | .partnerDoneDeadline => true
  | .firmwareCopyEnd _ => true
  | .updResume w => okWho w
  | .resumeDeadline => true
  | .rotationStep => true
  | .updHealthy w => okWho w
  | .executiveHealthMark => true
  | .updateConfirm => true
  | .trialDeadline => true
  | .settingsRead => true
  | .settingsWrite => true
  | .nvProtect => true
  | .keyRotate => true
  | .timeSet => true
  | .busRecover => true
  | .mspiStatus => true
  | .mspiWriteIn length frame => okWord length && okFrame frame
  | .mspiReadOut => true
  | .mspiUnknownCommand => true
  | .authCounterRead w _ => okWho w
  | .fsupLastRead w => okWho w
  | .updDeadlineRead w => okWho w
  | .partnerLinkAligned => true
  | .fskCarrierChange k _ => okOutput k
  | .ptpMessageInterval port kind => okPort port && okPtpKind kind
  | .rtcSyncLoad => true
  | .rtcResyncPeriod => true
  | .debugResume hart => okHart hart
  | .authorityReply m frame => okLinkHead m && okFrame frame
  | .temperatureSample _ => true

end Sys2Proof
end

