-- ==== Sys2Proof/Tests/Slice0.lean ====
section
/-! SUPPORT.  Our own tests: ill-formed terms that `WellFormed` refuses, words of the command table that `decodeTableWord`
reads (none: the table gives no bits), a state and operands that meet the hypotheses of each statement, clause by clause, and
a few single commands against values that the spec gives. -/

open Sys2Proof Sys2Proof.Machine Sys2Proof.Bits
namespace Sys2Proof.Tests

set_option Elab.async false

/-- The Stationmaster. -/
def K : Who := ⟨0, false⟩

/-- Registers set to values: die, field, value. -/
def put (s : State) (l : List (Nat × FieldDef × Nat)) : State := l.foldl (fun s e => s.wr e.1 e.2.1 e.2.2) s

/-- A part out of reset with every Scan die present, powered and on its spoke. -/
def up : State :=
  { put State.reset [(0, Reg.PWR_STAT_ON, 0x3F), (0, Reg.PART_STAT_PRESENT, 0x3F), (0, Reg.FAB_STAT_FENCED, 0)] with
    firmware := true, aon := { State.reset.aon with held := none, tested := true } }

/-- The Field die is there and its control frames flow. -/
def fieldUp : State := put up [(0, Reg.FPX_STAT_PRESENT, 1)]

theorem meets_EventsWriteOnlyTheirRegisters :
    up.Sane ∧ registersOf .xtalFail = some [(0x0D, 0x020), (0x0D, 0x100), (0x0D, 0x104)] ∧ ∃ t, exec .xtalFail up = .next t := by
  unfold State.Sane; exact ⟨by decide +kernel, by decide +kernel, _, rfl⟩
theorem meets_EveryCommandChangesOnlyItsFrame : up.Sane ∧ pagesOf (.marginClear K 0) ≠ none ∧ ∃ t, exec (.marginClear K 0) up = .next t := by
  unfold State.Sane; exact ⟨by decide +kernel, by decide +kernel, _, rfl⟩
theorem meets_StepKeepsTheStateSaneAndTakesCommandsInOrder : State.reset.Sane ∧ { up with pending := [.tick] }.Sane := by
  unfold State.Sane; decide +kernel
theorem meets_StepRunsTheFrontCommand : { up with pending := [.tick, .cutCopyEnd] }.pending = .tick :: [.cutCopyEnd] := by decide
theorem meets_EmptyQueuePassesOneCycle : State.reset.pending = [] := by decide
theorem meets_EveryCommandCompletesAndKeepsTheStateSane : up.Sane ∧ State.reset.Sane := by unfold State.Sane; decide +kernel

theorem meets_PageHeaderCommandsAct :
    let s : State := { up with arming := [(keyStep 0 6 K.code, ⟨0, false, 0⟩)] }
    let u : State := { up with arming := [(6, ⟨0, true, 64⟩)], softReset := [(133, 7)] }
    s.Sane ∧ (pageFields 0 6).isSome = true ∧ s.takes K 0 6 = true ∧ firstKey s 0 6 K.code = true ∧ firstKey u 0 6 K.code = false ∧
    u.takes K 0 6 = true ∧ SMap.sorted s.arming = true ∧
    1 &&& lockGroups 0 17 = 1 ∧ (pageFields 0 17).isSome = true ∧ s.takes K 0 17 = true ∧ 3 &&& irqSources 0 6 = 3 ∧ u.Sane ∧ SMap.sorted u.arming = true ∧
    SMap.find? u.arming (0 * 64 + 6) = some ⟨0, true, 64⟩ ∧ SMap.sorted u.softReset = true ∧ u.notReady 2 5 = true ∧
    SMap.find? u.softReset (2 * 64) = none := by
  unfold State.Sane; decide +kernel
theorem meets_RegisterWriteStoresEveryField :
    up.Sane ∧ up.takes K 0 0x28 = true ∧ up.fits K 0 0x28 0x100 1 = true ∧ up.takes K 0 5 = true ∧ up.fits K 0 5 0x100 1 = true ∧
    isScan 7 = true ∧ up.takes K 7 0x0E = true ∧ up.fits K 7 0x0E 0x134 1 = true := by
  unfold State.Sane; decide +kernel
theorem meets_RefusedWritesAreSlippedAndLogged :
    let s : State := { up with softReset := [(5, 1)] }
    pageAt 0 5 0x100 = true ∧ s.reaches K 0 = true ∧ s.takes K 0 5 = false ∧ up.reaches ⟨64, false⟩ 0 = true ∧
    up.takes ⟨64, false⟩ 0 5 = false ∧ up.Sane ∧
    up.rd 7 (clampF 7 Reg.CLAMP_STAT_NEXT) < 32 ∧ up.rd 0 (clampF 0 Reg.CLAMP_STAT_NEXT) < 32 := by
  unfold State.Sane; decide +kernel
theorem meets_ReadsAndResetsOfPagesAct :
    up.Sane ∧ up.reaches K 7 = true ∧ up.notReady 7 5 = false ∧ up.notReady 0 5 = false ∧ isScan 7 = true ∧ up.takes K 7 5 = true ∧ srstRefused up 7 5 = false ∧
    up.takes K 0 (clampPage 0) = true ∧ up.takes K 7 (clampPage 7) = true := by
  unfold State.Sane; decide +kernel

/-- The outputs of the Field die are armed, its Tablet is held, a trim step by pins is in force, its modem sends. -/
def armed : State :=
  { put fieldUp [(1, Reg.F_FSAFE_STAT_ARMED, 1), (0, Reg.TABLET_STAT_STATE, 2), (1, Reg.F_FAO_TRIM_PIN_EN, 1), (1, Reg.F_FSUP_STAT_LEVEL, 0),
      (0, Reg.IMG_STAT_SAFE_VALID, 1), (1, Reg.F_FSK_CTLk_EN.i 0, 1), (1, Reg.F_FSK_CTLk_EN.i 1, 1)] with
    fld := { fieldUp.fld with armed := true, level := 0, trim := [(0, 8000), (1, 8000)], relDo := 3, doOut := 3, flow := true } }
/-- A trim step of AO 1 by pins is in force. -/
def pinTrim : State :=
  put armed [(1, Reg.F_FAO_TRIM_STAT_STATE, 1), (1, Reg.F_FAO_TRIM_STAT_PINS, 1), (1, Reg.F_FAO_TRIM_STAT_CHANNEL, 1)]

theorem meets_FieldPageWritesWaitForAControlFrame :
    let s := armed
    let full : State := { armed with fld := { armed.fld with waiting := List.replicate 64 ⟨1, 0x100, 0, 0⟩ } }
    full.Sane ∧ 64 ≤ full.fld.waiting.length ∧ full.takes K 1 1 = true ∧ s.fieldHolds = false ∧ s.Sane ∧ s.fieldPresent = true ∧ s.fld.waiting.length < 64 ∧
    pageAt 1 1 0x100 = true ∧ s.takes K 1 1 = true ∧ s.fits K 1 1 0x100 1 = true ∧
    pageAt 1 2 0x100 = true ∧ s.takes K 1 2 = true ∧ s.fits K 1 2 0x100 1 = true ∧
    s.takes K 1 6 = true ∧ s.rd 1 Reg.F_FSUP_STAT_LEVEL < 3 ∧ s.on 0 Reg.IMG_STAT_SAFE_VALID = true ∧
    s.takes K 1 3 = true ∧ s.on 1 Reg.F_FSAFE_STAT_ARMED = true ∧ s.rd 0 Reg.TABLET_STAT_STATE = 2 ∧ s.trimming = false ∧
    s.takes K 1 4 = true ∧ s.fskMaySend 0 = true ∧ s.fskMaySend 1 = true ∧ (SMap.get [] s.fld.fskTx 1).length < 64 ∧
    s.controlFlows = true := by
  unfold State.Sane; decide +kernel
theorem meets_FieldFramesKeepTheProxy :
    let s : State := put fieldUp [(0, Reg.FPX_STAT_PUSHING, 1), (0, Reg.FPX_STAT_PULLING, 1)]
    s.Sane ∧ s.fieldHolds = false ∧ s.reaches K 0 = true ∧ s.fieldPresent = true ∧ fv24Level s.fld.level 11999 = s.fld.level ∧ s.on 0 Reg.FPX_STAT_PUSHING = true ∧
    s.on 0 Reg.FPX_STAT_PULLING = true := by
  unfold State.Sane; decide +kernel
theorem meets_FieldInputsAndModemAct :
    let s : State := put armed [(1, Reg.F_FSK_STATk_SENDING.i 1, 1), (1, Reg.F_FSK_STATk_CARRIER.i 1, 1)]
    s.Sane ∧ s.reaches K 0 = true ∧ SMap.sorted s.fld.fskTx = true ∧ SMap.sorted s.fld.fskRx = true ∧ s.fieldPresent = true ∧
    s.on 1 (Reg.F_FSK_STATk_SENDING.i 1) = true ∧ s.on 1 (Reg.F_FSK_CTLk_EN.i 0) = true ∧
    s.on 1 (Reg.F_FSK_STATk_SENDING.i 0) = false ∧ (SMap.get [] s.fld.fskRx 0).length < 64 ∧
    s.on 1 (Reg.F_FSK_CTLk_EN.i 1) = true ∧ s.on 1 (Reg.F_FSK_STATk_CARRIER.i 1) ≠ false ∧
    s.on 1 (Reg.F_FSK_STATk_CARRIER.i 0) ≠ true := by
  unfold State.Sane; decide +kernel
theorem meets_FieldOutputsAndTrimAct :
    let s : State := { armed with
      arming := [(0x25, ⟨0, true, 64⟩)]
      fld := { armed.fld with own := [(Reg.F_FDO_CFG_RETRY.key 1, 255), (Reg.F_FDO_CFG_OPEN_DET.key 1, 255)] } }
    let m : State := put armed [(0, Reg.FPX_CTL_MUTE, 1)]
    s.Sane ∧ bit s.doOn 1 = true ∧ bit s.fld.doOut 1 = true ∧ bit (s.fd Reg.F_FDO_CFG_RETRY) 1 = true ∧ s.fld.level < 2 ∧
    bit (s.fd Reg.F_FDO_CFG_OPEN_DET) 1 = true ∧ s.fld.flow = true ∧ s.takes K 0 0x25 = true ∧
    SMap.find? s.arming 0x25 = some ⟨K.code, true, 64⟩ ∧ s.cycle < 64 ∧ m.Sane ∧ m.on 0 Reg.FPX_CTL_MUTE = true ∧
    pinTrim.Sane ∧ pinTrim.on 1 Reg.F_FAO_TRIM_PIN_EN = true ∧ pinTrim.trimming = true ∧
    pinTrim.on 1 Reg.F_FAO_TRIM_STAT_PINS = true ∧ pinTrim.rd 1 Reg.F_FAO_TRIM_STAT_CHANNEL = 1 ∧
    armed.Sane ∧ armed.on 1 Reg.F_FAO_TRIM_PIN_EN = true ∧ armed.fieldPresent = true ∧ armed.trimming = false ∧
    armed.on 1 Reg.F_FSAFE_STAT_ARMED = true ∧ armed.tabletHeld = true := by
  unfold State.Sane; decide +kernel

/-- A frame of a running program, with a row of die 2 that the Timetable selects. -/
def inFrame : State :=
  { put up [(2, Reg.TTBL_ROW_W3_VALID, 1), (2, Reg.TTBL_ROW_W0_ENGINE, 1), (2, Reg.TTBL_ROW_W1_LENGTH, 100)] with
    frame := { up.frame with ticked := true, cutCopy := true, safeCopy := true, gather := true, build := true, built := true }
    prog := { up.prog with frameMode := 1 } }
/-- A slot of 100 cycles that runs since cycle 0. -/
def slot (row : Nat) : Slot := ⟨row, 5, 0, 0, 100, false, false, false, true, false, false, 0⟩
theorem meets_FrameInstantsToTheSampleAct :
    let s := inFrame
    s.Sane ∧ s.aon.held = none ∧ s.aon.asleep = false ∧ s.frame.cutCopy = true ∧ s.frame.ticked = true ∧ s.outage = false ∧
    s.live 7 = true ∧ s.clocked 7 = true ∧ s.absentDie 7 = false ∧ inDies s.frame.spreadDone 7 = false ∧ s.standby = false ∧
    s.rowsRun = true ∧ s.frame.sampled = false ∧ s.aon.holdup = 0 ∧
    (s.advanceTo s.sampleCycle).requestDue = false ∧ s.missing ≠ 0 ∧ s.prog.frameMode ∈ [1, 3] := by
  unfold State.Sane; decide +kernel
theorem meets_CommitReleaseAndRowsAct :
    let s := inFrame
    let p : State := { put up [(0, Reg.TICK_FRAME_LO_N, 1)] with
      exch := { up.exch with txPorts := [(3, [⟨1, 0, 64, 1, 40, 5⟩])] }
      frame := { up.frame with releaseFrame := 0, built := true } }
    let r : State := { inFrame with slots := [(2 * 8 + 6, slot 0)] }
    s.Sane ∧ s.frame.gather = true ∧ s.frame.safeCopy = true ∧ s.frame.build = true ∧ s.frame.built = true ∧
    s.aon.holdup = 0 ∧ SMap.sorted p.exch.txPorts = true ∧ SMap.get [] p.exch.txPorts 3 = ⟨1, 0, 64, 1, 40, 5⟩ :: [] ∧
    p.Sane ∧ p.frame.built = true ∧ p.aon.holdup = 0 ∧ p.frameNo = p.frame.releaseFrame + 1 ∧
    s.rowMayStart 2 0 = true ∧ s.rowField 2 (s.activeBank 2) 0 Reg.TTBL_ROW_W0_ENGINE < 7 ∧
    s.rowField 2 (s.activeBank 2) 0 Reg.TTBL_ROW_W3_SHUNT = 0 ∧ r.Sane ∧ isScan 2 = true ∧ r.slot? 2 6 = some (slot 0) := by
  unfold State.Sane; decide +kernel
theorem meets_TimetableCommandsAct :
    let s : State := put up [(7, Reg.TTBL_ROWSEL_BANK, 1), (7, Reg.TTBL_ROWSEL_ROW, 511), (7, Reg.TTBL_STAT_CHECKING, 1),
      (0, Reg.PTP_STAT_SLAVE, 1), (0, Reg.TICK_STAT_HOLDOVER, 1)]
    s.Sane ∧ isScan 7 = true ∧ s.takes K 7 9 = true ∧ s.fits K 7 9 0x114 0x1000 = true ∧ s.rd 7 Reg.TTBL_ROWSEL_BANK < 2 ∧
    s.rd 7 Reg.TTBL_ROWSEL_ROW < 512 ∧ s.rd 7 Reg.TTBL_ROWSEL_BANK ≠ s.activeBank 7 ∧ s.fits K 7 9 0x100 (0 ||| 1) = true ∧
    s.on 7 Reg.TTBL_STAT_CHECKING = true ∧ s.points.standing = false ∧ s.takes K 0 0x0A = true ∧
    (∀ d ∈ scanDies, inDies 63 d = true → s.uncheckable d = false) ∧ s.takes K 0 0x0B = true ∧
    s.on 0 Reg.PTP_STAT_SLAVE = true ∧ s.on 0 Reg.TICK_STAT_HOLDOVER = true := by
  unfold State.Sane; decide +kernel
theorem meets_ModeRequestsAct :
    let s : State := put up [(0, Reg.IMG_STAT_SAFE_VALID, 1), (0, Reg.MODE_STAT_PREPARING, 1), (0, Reg.IMG_STAT_SAFE_LOADING, 1)]
    let r : State := put up [(0, Reg.MODE_STAT_MODE, 1)]
    let h : State := put up [(0, Reg.MODE_STAT_MODE, 2)]
    s.Sane ∧ s.takes K 0 0x27 = true ∧ (s.refusal 2 2).isSome = true ∧ (s.refusal 1 0).isSome = true ∧
    (s.refusal 4 0).isSome = true ∧ s.refusal 3 1 = none ∧
    r.Sane ∧ r.takes K 0 0x27 = true ∧ r.refusal 1 0 = none ∧ r.refusal 3 2 = none ∧ h.refusal 4 0 = none ∧
    h.refusal 2 1 = none ∧ s.on 0 Reg.MODE_STAT_PREPARING = true ∧ s.firmware = true ∧
    s.on 0 Reg.IMG_STAT_SAFE_VALID = true ∧ s.prog.askedPowerup = false ∧ s.on 0 Reg.IMG_STAT_SAFE_LOADING = true := by
  unfold State.Sane; decide +kernel

/-- An entry of a queue. -/
def entry (lo sender tag : Nat) : QEntry := ⟨lo, sender * 2 ^ 24 + tag, 0, 0⟩
/-- An entry of the Keeper's queue 13. -/
def asked (lo sender tag : Nat) : State := { up with queues := [(13, [entry lo sender tag])] }

theorem meets_PowerFailureIsHeldUp :
    let s : State := put (asked 0 0 0xC010) [(0, Reg.PWR_CFG_SLEEP_EN, 1)]
    let h (n : Nat) : State := { up with aon := { up.aon with holdup := n } }
    let w : State := { up with aon := { up.aon with wakes := 256, asleep := true } }
    s.Sane ∧ s.on 0 Reg.PWR_STAT_PF = false ∧ s.aon.holdup = 0 ∧ s.aon.held = none ∧ s.aon.asleep = false ∧
    (h 1).aon.holdup = 1 ∧ (h 2).aon.holdup = 2 ∧ (h 1).rowsStill = true ∧ (h 3).aon.holdup = 3 ∧
    (h 3).on 0 Reg.ARCH_STAT_FAILED = false ∧ (h 6).aon.holdup = 6 ∧
    (List.range 9).find? (bit w.aon.wakes ·) = some 8 ∧ w.aon.asleep = true ∧ w.refGood 0 = true ∧
    s.ring 0 13 = entry 0 0 0xC010 :: [] ∧ (entry 0 0 0xC010).hi % 2 ^ 16 = 0xC010 ∧ s.firmware = true ∧ s.maySleep = true := by
  unfold State.Sane; decide +kernel
theorem meets_ResetsAndBootAct :
    let s : State := put up [(0, Reg.GUARD_CTL_EN, 1)]
    let b : State := { up with firmware := false, arming := [(3, ⟨0, true, 64⟩)] }
    let n : State := { up with aon := { up.aon with tested := false } }
    s.Sane ∧ State.inProgress s.arch.window [] = [] ∧ b.takes K 0 3 = true ∧
    SMap.find? b.arming 3 = some ⟨K.code, true, 64⟩ ∧ b.cycle < 64 ∧ State.reset.Sane ∧
    State.reset.aon.held.isSome = true ∧ n.aon.held = none ∧ n.aon.tested = false ∧
    b.aon.held = none ∧ b.aon.tested = true ∧ b.firmware = false ∧ b.rd 0 Reg.RST_CAUSE_BOOT ≠ 1 ∧
    b.rd 0 Reg.UPD_KSTAT_STATE = 0 ∧ b.aon.asleep = false ∧ (b.level 1).trial = false ∧
    s.on 0 Reg.GUARD_CTL_EN = true ∧ s.aon.held = none ∧ s.aon.asleep = false ∧ s.refGood 0 = true ∧ s.refGood 1 = true ∧
    (put s [(0, Reg.CLK_STAT_B_OK, 0)]).refGood (1 - 0) = false := by
  unfold State.Sane; decide +kernel

/-- The 128 bits of a lever by R108: operation, truth table, A (space, word, rotation), destination (space, word), mask, AUX;
B and C are words 1 and 2 of space 2. -/
def leverWord (op tt aSpace aWord aRot dSpace dWord mask aux : Nat) : Nat :=
  op * 2 ^ 122 + tt * 2 ^ 106 + (aSpace * 2 ^ 20 + aWord * 2 ^ 6 + aRot) * 2 ^ 83 + (2 * 2 ^ 20 + 1 * 2 ^ 6) * 2 ^ 60 +
    (2 * 2 ^ 20 + 2 * 2 ^ 6) * 2 ^ 37 + dSpace * 2 ^ 34 + dWord * 2 ^ 20 + mask * 2 ^ 12 + aux
/-- The Signal Box of die 2 runs in a slot, and a lever is next in it. -/
def atLever (l : Nat) : State := { up.store (bankL 2) 16 l with slots := [(16, slot 0)] }

theorem meets_LogicIsAnyFunctionOfFourInputs :
    let s : State := atLever (leverWord 0x01 0x8000 2 0 63 5 1023 0 0)
    let l := s.lever 2
    s.Sane ∧ (s.sbox 2).next < 131071 ∧ s.leverReady 2 0x01 = true ∧ leverMayWrite l.dst.space l.dst.word = true ∧
    (source s 2 l.a).2 = none ∧ (source s 2 l.b).2 = none ∧ (source s 2 l.c).2 = none ∧
    (operand s 2 l.dst.space l.dst.word).2 = none := by
  unfold State.Sane; decide +kernel
theorem meets_WordLeversWriteTheirResult :
    let e : State := atLever (leverWord 0x02 0x8000 0 0 0 2 9 0 2)
    let p : State := atLever (leverWord 0x04 0 2 0 0 5 1023 0 0)
    let u : State := atLever (leverWord 0x05 0 5 0 0 1 0 0 0)
    let m : State := atLever (leverWord 0x03 0 2 0 0 1 3 0 0)
    let may (s : State) : Bool := leverMayWrite (s.lever 2).dst.space (s.lever 2).dst.word
    e.Sane ∧ (e.sbox 2).next < 131071 ∧ may e = true ∧ e.leverReady 2 0x02 = true ∧ (e.lever 2).a.space = 0 ∧
    (e.lever 2).aux % 4 ≠ 3 ∧ (leverResult e 2 (e.lever 2) (source e 2 (e.lever 2).a)).2.2 = none ∧
    p.Sane ∧ may p = true ∧ p.leverReady 2 0x04 = true ∧ (p.lever 2).dst.space = 5 ∧
    (p.lever 2).aux % 64 + (maskLanes (maskEntry p 2 (p.lever 2).mask)).length ≤ 64 ∧ (source p 2 (p.lever 2).a).2 = none ∧
    (operand p 2 5 (p.lever 2).dst.word).2 = none ∧
    u.Sane ∧ may u = true ∧ u.leverReady 2 0x05 = true ∧ (u.lever 2).a.space = 5 ∧
    (u.lever 2).aux % 64 + (maskLanes (maskEntry u 2 (u.lever 2).mask)).length ≤ 64 ∧ (source u 2 (u.lever 2).a).2 = none ∧
    (operand u 2 1 (u.lever 2).dst.word).2 = none ∧
    m.Sane ∧ may m = true ∧ m.leverReady 2 0x03 = true ∧ (m.lever 2).aux % 64 = (m.sbox 2).moved ∧
    (source m 2 (m.lever 2).a).2 = none ∧ (operand m 2 1 3).2 = none := by
  unfold State.Sane; decide +kernel
theorem meets_RackAndControlLeversAct :
    let f (op aux : Nat) : State := atLever (leverWord op 0x8000 2 0 0 2 9 0 aux)
    let ok (op aux : Nat) : Bool := (f op aux).leverReady 2 op &&
      (leverResult (f op aux) 2 ((f op aux).lever 2) (source (f op aux) 2 ((f op aux).lever 2).a)).2.2 == none
    let w : State := { f 0x20 1 with sboxes := [(2, ⟨0, 0, 1⟩)] }
    (f 0x08 0).Sane ∧ SMap.sorted (f 0x08 0).timers = true ∧ SMap.sorted (f 0x08 0).counters = true ∧
    ((f 0x08 0).sbox 2).next < 131071 ∧ ok 0x08 4095 = true ∧ ok 0x09 0 = true ∧ ok 0x10 127 = true ∧ ok 0x11 127 = true ∧
    ok 0x11 2111 = true ∧ ok 0x12 63 = true ∧ ok 0x13 0 = true ∧
    ok 0x20 1 = true ∧ w.leverReady 2 0x20 = true ∧ (w.lever 2).aux % 1024 = 1 ∧ (w.sbox 2).waited = 1 ∧
    syncTrue w 2 (w.lever 2) = false ∧ (source w 2 (w.lever 2).a).2 = none ∧ w.on 2 Reg.SBOX_CTL_FAULT_CUT = false ∧
    (f 0x00 0).leverReady 2 0x00 = true ∧ reservedOp 0x00 = true ∧ (f 0x3D 0).leverReady 2 0x3D = true ∧ reservedOp 0x3D = true := by
  unfold State.Sane; decide +kernel
theorem meets_EndAndNopLeversAct :
    let e (aux : Nat) : State := atLever (leverWord 0x3F 0 0 0 0 0 0 0 aux)
    let n : State := atLever (leverWord 0x3E 0 0 0 0 0 0 0 0)
    (e 0).Sane ∧ SMap.sorted (e 0).slots = true ∧ ((e 0).sbox 2).next < 131071 ∧ (e 0).leverReady 2 0x3F = true ∧
    bit ((e 0).lever 2).aux 0 = false ∧ (e 1).leverReady 2 0x3F = true ∧ bit ((e 1).lever 2).aux 0 = true ∧
    n.leverReady 2 0x3E = true := by
  unfold State.Sane; decide +kernel
theorem meets_LeversKeepTheRest :
    let s : State := atLever (leverWord 0x01 0x8000 2 0 63 5 1023 0 0)
    s.Sane ∧ SMap.sorted s.timers = true ∧ SMap.sorted s.counters = true ∧ s.leverReady 2 0x01 = true ∧
    ∃ t, exec (.logicLever 2) s = .next t := by
  unfold State.Sane; exact ⟨by decide +kernel, by decide +kernel, by decide +kernel, by decide +kernel, _, rfl⟩
theorem meets_MaskAndRackPagesAct :
    let s : State := { up with
      maskStages := [(7, ⟨255, 5⟩)], heldMasks := [(7, [⟨255, 5, 6, 0⟩])], heldTimr := [(7, [⟨0x104, 0, 1, 0⟩])]
      slots := [(7 * 8 + 5, { slot 0 with length := 20000 })] }
    let r : State := { s with slots := [(7 * 8, slot 0)] }
    s.Sane ∧ isScan 7 = true ∧ SMap.sorted s.timers = true ∧ SMap.sorted s.counters = true ∧ SMap.sorted s.heldMasks = true ∧
    SMap.sorted s.heldTimr = true ∧ s.takes K 7 0x0B = true ∧ SMap.find? s.maskStages 7 = some ⟨255, 5⟩ ∧
    up.takes K 7 0x0B = true ∧ r.Sane ∧ r.takes K 7 0x0B = true ∧ SMap.find? r.maskStages 7 = some ⟨255, 5⟩ ∧ r.rowRunning 7 0 = true ∧
    s.rowRunning 7 0 = false ∧ SMap.get [] s.heldMasks 7 = [] ++ [⟨255, 5, 6, 0⟩] ∧ s.takes K 7 0x0C = true ∧
    timrHeld up 7 = false ∧ timrHeld s 7 = true ∧ s.holding = [] ∧ SMap.get [] s.heldTimr 7 = [⟨0x104, 0, 1, 0⟩] ∧ s.slot? 7 5 = some { slot 0 with length := 20000 } ∧
    4 + 2 * (s.rd 7 (Reg.TIMR_SETs_LAST.i 0) + 1 - s.rd 7 (Reg.TIMR_SETs_FIRST.i 0)) + 0 ≤ 20000 ∧
    s.rd 7 Reg.TIMR_PASS_SET = 0 ∧ s.rd 7 (Reg.TIMR_SETs_SPACE.i 0) ≠ 4 ∧
    s.takes K 7 0x12 = true ∧ s.fits K 7 0x12 0x104 0x40000 = true ∧ bit 0x40000 18 = true ∧
    timrHeld { s with slots := [] } 7 = false := by
  unfold State.Sane; decide +kernel

/-- A 32-bit instruction of the R format: opcode, funct3, funct7, rd, rs1, rs2. -/
def rType (opc f3 f7 rd rs1 rs2 : Nat) : Nat :=
  opc + rd * 2 ^ 7 + f3 * 2 ^ 12 + rs1 * 2 ^ 15 + rs2 * 2 ^ 20 + f7 * 2 ^ 25
/-- Core 3 of die 7 at an instruction that its own bank holds: x5 = `a`, x6 = 7, its floating-point unit on. -/
def atWord (w a : Nat) : State :=
  { put (up.store (phys 7 0x300000) 4 w) [(7, Reg.COREn_CTL_HOLD.p 3, 0)] with
    cores := [(31, { Core.start with pc := 0x300000, fs := 1, x := [(5, a), (6, 7)] })] }
/-- What core 3 of die 7 finds at its pc, decided. -/
def finds (s : State) (op : CoreOp) : Bool :=
  coreRuns s 7 3 && (s.core 7 3).pmpAllows (s.core 7 3).mmode 2 (s.core 7 3).pc 4 &&
    match (s.memRead 227 (s.core 7 3).pc 4).2 with
    | .ok w => decodeCore w == some op
    | _ => false
theorem finds_fetches (s : State) (op : CoreOp) (h : finds s op = true) : ∃ t w, s.fetches 7 3 t w op := by
  unfold finds at h
  split at h
  next w hw =>
    simp only [Bool.and_eq_true, beq_iff_eq] at h
    exact ⟨_, w, h.1.1, h.1.2, Prod.ext rfl hw, h.2⟩
  next => simp at h
/-- The state after core 3 of die 7 has fetched. -/
def fetched (s : State) : State := (s.memRead 227 (s.core 7 3).pc 4).1

theorem meets_CoreRegisterInstructionsRetire :
    let ok (w a : Nat) (op : CoreOp) : Bool := finds (atWord w a) op && (atWord w a).coreFits 7 3 12
    let s : State := atWord (rType 0x33 0 0 31 5 6) 0x3FFFF0
    let c := s.core 7 3
    let b : State := { atWord (rType 0x0B 3 0 31 0 0) 0 with
      cores := [(31, { Core.start with pc := 0x300000, inSlot := true })], slots := [(60, slot 0)] }
    s.Sane ∧ SMap.sorted s.cores = true ∧ SMap.sorted c.x = true ∧ SMap.sorted c.f = true ∧ c.mmode = true ∧ c.fs ≠ 0 ∧
    ok (rType 0x33 0 0 31 5 6) 1 (.alu .add 31 5 6) = true ∧ ok (rType 0x2B 0 3 0 5 6) 1 (.sat .ssubu 0 5 6) = true ∧
    ok (rType 0x2B 2 0x30 31 5 6) 1 (.limitW 31 5 6 12) = true ∧ ok (rType 0x2B 2 0x32 31 5 6) 1 (.limitF true 31 5 6 12) = true ∧
    ((Float.unpack (Float.fmtOf true) (c.opF true 5)).isNan = false ∧ (Float.unpack (Float.fmtOf true) (c.opF true 6)).isNan = false ∧
      (Float.unpack (Float.fmtOf true) (c.opF true 12)).isNan = false) ∧
    (Float.unpack (Float.fmtOf false) ({ c with f := [(5, 0x7FC00000)] }.opF false 5)).isNan = true ∧
    finds b (.budgetRd 31) = true ∧ b.coreInSlot 7 3 = true ∧ b.slot? 7 (3 + 1) = some (slot 0) ∧ b.coreFits 7 3 1 = true ∧
    ok (rType 0x2B 1 0 31 6 5) 0x3FFFF0 (.scaleS 31 6 5) = true ∧ c.rounding 7 = some .rne ∧ c.getX 5 % 16 = 0 ∧
    c.getX 5 / 0x100000 = 3 ∧ (∀ i ∈ List.range 4, c.pmpAllows c.dataM 0 (c.getX 5 + 4 * i) 4 = true) ∧
    s.bankOn 7 (c.getX 5) = true ∧ s.eccAt (phys 7 (c.getX 5)) = 0 ∧ s.eccAt (phys 7 (c.getX 5 + 8)) = 0 ∧
    ok 0x30200073 1 .mret = true ∧ ok (rType 0x0B 3 1 0 0 0) 1 .slotend = true := by
  unfold State.Sane; decide +kernel
theorem meets_CoreStandardInstructionsAct :
    let ok (w a : Nat) (op : CoreOp) : Bool := finds (atWord w a) op && (atWord w a).coreFits 7 3 12
    let s : State := atWord 0x13 0x3FFFFC
    let c := s.core 7 3
    s.Sane ∧ SMap.sorted s.cores = true ∧ SMap.sorted c.x = true ∧ c.mmode = true ∧
    ok 0xFFFFFFB7 1 (.lui 31 0xFFFFF000) = true ∧ ok 0xFFFFFF97 1 (.auipc 31 0xFFFFF000) = true ∧
    ok 0xFFF28F93 1 (.aluImm .add 31 5 0xFFFFFFFF) = true ∧ ok 0x00000FEF 1 (.jal 31 0) = true ∧ (c.pc + 0) % 2 ^ 32 % 4 = 0 ∧
    ok 0x00028FE7 5 (.jalr 31 5 0) = true ∧ (5 + 0) % 2 ^ 32 / 2 * 2 % 4 = 0 ∧
    ok 0x00628063 1 (.branch .eq 5 6 0) = true ∧
    ok 0x0002AF83 0x3FFFFC (.load 4 false 31 5 0) = true ∧ ok 0x0062A023 0x3FFFFC (.store 4 5 6 0) = true ∧
    c.getX 5 = 0x3FFFFC ∧ (c.getX 5 + 0) % 2 ^ 32 % 4 = 0 ∧ (c.getX 5 + 0) % 2 ^ 32 < 0x400000 ∧
    c.pmpAllows c.dataM 0 (c.getX 5) 4 = true ∧ c.pmpAllows c.dataM 1 (c.getX 5) 4 = true ∧
    s.bankOn 7 (c.getX 5) = true ∧ c.getX 5 / 0x100000 = 3 ∧ s.eccAt (phys 7 (c.getX 5)) = 0 ∧
    ok 0x1002AFAF 0x3FFFFC (.lr 31 5) = true ∧ ok 0x1862AFAF 0x3FFFFC (.sc 31 5 6) = true ∧
    ok 0x0062AFAF 0x3FFFFC (.amo .add 31 5 6) = true ∧
    ok 0x34002FF3 1 (.csr 2 31 0 0x340) = true ∧ csrRead (fetched (atWord 0x34002FF3 1)) 7 3 0x340 = some 0 ∧
    ok 0x34029FF3 1 (.csr 1 31 5 0x340) = true ∧ ok 0x00000073 1 .ecall = true ∧ ok 0x00100073 1 .ebreak = true := by
  unfold State.Sane; decide +kernel
theorem meets_CoreRegisterInstructionsKeepTheRest :
    let s : State := atWord (rType 0x33 0 0 31 5 6) 1
    s.Sane ∧ SMap.sorted s.cores = true ∧ SMap.sorted s.slots = true ∧ SMap.sorted (s.core 7 3).x = true ∧
    SMap.sorted (s.core 7 3).f = true ∧ (finds s (.alu .add 31 5 6) = true ∧ s.coreFits 7 3 1 = true) ∧
    ∃ z, exec (.riscvInstruction 7 3) s = .next z := by
  unfold State.Sane; exact ⟨by decide +kernel, by decide +kernel, by decide +kernel, by decide +kernel, by decide +kernel,
    by decide +kernel, _, rfl⟩
theorem meets_CoreBitQueueAndTokenInstructionsAct :
    let ok (w a : Nat) (op : CoreOp) : Bool := finds (atWord w a) op && (atWord w a).coreFits 7 3 12
    let s (a : Nat) : State := atWord 0x13 a
    let c (a : Nat) : Core := (s a).core 7 3
    let at0 (a sp w : Nat) : Bool := (c a).pmpAllows (c a).dataM 0 (bitOwn sp w) 8 && (s a).bankOn 7 (bitOwn sp w) &&
      (s a).eccAt (phys 7 (bitOwn sp w)) != 2
    let at1 (a sp w : Nat) : Bool := (c a).pmpAllows (c a).dataM 1 (bitOwn sp w) 8 && (s a).bankOn 7 (bitOwn sp w) &&
      (s a).eccAt (phys 7 (bitOwn sp w)) != 2
    let q : State := (atWord (rType 0x0B 3 2 31 5 6) 0x2F).setCredits 7 2 15 1
    let g : State := { atWord (rType 0x0B 3 3 31 5 0) 15 with queues := [(127, [entry 9 64 3])] }
    let k : State := (put (atWord (rType 0x0B 3 5 31 5 0) 63) [(0, Reg.TOKEN_OWNER_MASTER.w 63, 227)]).setHeld 63 true
    (s 1).Sane ∧ SMap.sorted (s 1).cores = true ∧ SMap.sorted (c 1).x = true ∧ SMap.sorted (s 1).queues = true ∧
    ok (rType 0x0B 0 0 31 5 0) 0x50FFFF (.bext 31 5 0) = true ∧ refOf 0x50FFFF 0 = some (5, 1023, 63) ∧ at0 0x50FFFF 5 1023 = true ∧
    ok (rType 0x0B 1 0 0 5 6) 0x1003FF (.bdep 5 6 0) = true ∧ refOf 0x1003FF 0 = some (1, 15, 63) ∧ at1 0x1003FF 1 15 = true ∧
    (s 1).on 7 Reg.PLAT_STAT_READY = false ∧
    ok (rType 0x0B 2 1 31 5 6) 0x2003E0 (.bmask true 31 5 6) = true ∧ refOf 0x2003E0 0 = some (2, 15, 32) ∧ at1 0x2003E0 2 15 = true ∧
    ok (rType 0x0B 2 4 31 5 0) 0x3F (.bedge .edge 31 5 0) = true ∧ refOf 0x3F 0 = some (0, 0, 63) ∧ at0 0x3F 0 0 = true ∧
    at0 0x3F 3 0 = true ∧
    (c 0x2F).mmode = true ∧ (isScan (whoDie 227) && (fetched q).fenced (whoDie 227)) = false ∧ finds q (.qput 31 5 6) = true ∧ q.coreFits 7 3 2 = true ∧ field 0x2F 7 9 = 0 ∧ field 0x2F 4 3 ≠ 1 ∧
    (fetched q).putStatus (whoDie 227) ((fetched q).destDie 227 (field 0x2F 4 3)) (0x2F % 16) = 0 ∧
    finds g (.qget 31 5) = true ∧ g.coreFits 7 3 2 = true ∧ (fetched g).ring 7 (15 % 16) = entry 9 64 3 :: [] ∧
    ok (rType 0x0B 3 4 31 5 0) 63 (.tokenAcq 31 5) = true ∧ (s 63).coreInSlot 7 3 = false ∧ (s 63).fenced 7 = false ∧
    (s 63).tokenHeld 63 = false ∧
    k.Sane ∧ finds k (.tokenRel 31 5) = true ∧ k.coreInSlot 7 3 = false ∧ k.fenced 7 = false ∧ k.tokenHeld 63 = true ∧
    k.tokenOwner 63 = 7 * 32 + 3 := by
  unfold State.Sane; decide +kernel
/-- The outcome of the instruction of core 3 of die 7, where it traps: the cause and its value. -/
def trapOf (s : State) : Option (Nat × Nat) :=
  match (coreOut s 7 3).2 with
  | .trap _ cause tval => some (cause, tval)
  | _ => none
theorem meets_CoreTrapsStartAndDebugAct :
    let s : State := atWord 0x00000073 1
    let i : State := { put (atWord 0x13 1) [(7, Reg.COREn_RTR_EN1_SRC.p 3, 0xFFF), (7, (Reg.COREn_RTR_LVLk_SRCj.p 3).i 4 |>.j 6, 7)] with
      cores := [(31, { Core.start with pc := 0x300000, mie := true })], latches := [(31, 2 ^ 38)] }
    let h : State := { put up [(0, Reg.DBG_CTL_JTAG_EN, 1), (0, Reg.DBG_CTL_KEEPER_EN, 1), (0, Reg.DBG_CTL_SCAN_EN, 63),
      (7, Reg.COREn_CTL_HOLD.p 3, 0)] with cores := [(31, { Core.start with halted := true })] }
    let p : State := put up [(0, Reg.PART_ROLES_ROLES, 0x400)]
    s.Sane ∧ SMap.sorted s.cores = true ∧ SMap.sorted s.latches = true ∧ coreRuns s 7 3 = true ∧ trapOf s = some (11, 0) ∧
    s.coreFits 7 3 12 = true ∧
    i.Sane ∧ isScan 7 = true ∧ i.powered 7 = true ∧ i.coreHeld 7 3 = false ∧ (i.core 7 3).halted = false ∧
    i.coreStill 7 3 = false ∧ i.coreTakes 7 3 = true ∧ (i.routerBest 7 3).isSome = true ∧ i.coreThreshold 7 3 < 8 ∧
    i.coreFits 7 3 12 = true ∧
    p.Sane ∧ p.takes K 7 (0x0E + 3) = true ∧ p.fits K 7 (0x0E + 3) 0x100 (0 / 2 * 2) = true ∧ p.coreHeld 7 3 = true ∧
    p.fits K 7 (0x0E + 3) 0x144 0 = true ∧ p.fits K 7 (0x0E + 3) 0x140 0 = true ∧
    h.Sane ∧ h.hartAllowed 31 = true ∧ h.hartHalted 31 = true ∧ h.hartAllowed 1 = true ∧ h.hartHalted 1 = false := by
  unfold State.Sane; decide +kernel
theorem meets_BusRequestsEndWithAReply :
    let s : State := put up [(0, Reg.DBG_CTL_JTAG_EN, 1), (0, Reg.DBG_CTL_SBA_EN, 1)]
    let d : State := put up [(0, Reg.DBG_CTL_JTAG_EN, 1), (0, Reg.DBG_CTL_SBA_EN, 0)]
    let r : HeldReq := ⟨0, 64, false, false, 0x10000000, 8, 0, false⟩
    let t : State := { up with holding := [r] }
    t.Sane ∧ timedRequest t 64 0x10000000 = some r ∧
    s.Sane ∧ s.reaches K 0 = true ∧ s.holding = [] ∧ s.bankOn 0 0xFFFF8 = true ∧
    0xFFFF8 % 8 = 0 ∧ s.eccAt (phys 0 0xFFFF8) = 0 ∧ s.on 0 Reg.DBG_CTL_JTAG_EN = true ∧ s.on 0 Reg.DBG_CTL_SBA_EN = true ∧
    d.Sane ∧ d.on 0 Reg.DBG_CTL_JTAG_EN = true ∧ d.on 0 Reg.DBG_CTL_SBA_EN = false := by
  unfold State.Sane; decide +kernel

/-- The wrapped key of key slot 0. -/
def wrapped : List Byte := List.replicate 40 7
/-- Header of an authority frame to every part (R479): operation, key slot 0, COUNTER 9, PLEN. -/
def header (op plen : Nat) : List Byte :=
  [1, BitVec.ofNat 8 op, 0, 0] ++ List.replicate 8 0xFF ++ [0, 0, 0, 0, 0, 0, 0, 9] ++ [0, BitVec.ofNat 8 plen, 0, 0]
/-- An authority frame from MSPI (0) or from the partner (1), with its tag. -/
def command (source op : Nat) (p : List Byte) : AuthFrame :=
  ⟨source, 0, header op p.length ++ p ++ cmacTag (deviceUnwrap wrapped) (header op p.length ++ p)⟩
/-- The bytes of key slot 0 in the Stacks that are not zero, as `keyWrite` stores them in a part without keys (R475). -/
def keyMem (role : Nat) : List Host.Cell :=
  let body := toLE 4 (State.keyMagic 0) ++ toLE 4 1 ++ toLE 1 role ++ toLE 1 0 ++ List.replicate 6 0 ++ wrapped ++ List.replicate 68 0
  (((body ++ toLE 4 (crc32c body)).zipIdx.filter fun e => e.1 != 0).map fun e => (STACKS + State.keyAt 0 0 + e.2, e.1))
/-- An authority frame waits; key slot 0 holds a key of a role. -/
def commanded (s : State) (role source op : Nat) (p : List Byte) : State :=
  { s with
    mem := s.mem ++ keyMem role
    auth := { s.auth with inbox := [command source op p] } }
/-- 32 bytes of a digest. -/
def digest : List Byte := List.replicate 32 0xAB

theorem length_toLE (n v : Nat) : (toLE n v).length = n := by
  induction n generalizing v with
  | zero => rfl
  | succ n ih => simp [toLE, ih]
theorem length_toBE (n v : Nat) : (toBE n v).length = n := by simp [toBE, length_toLE]
theorem length_tag (key m : List Byte) : (cmacTag key m).length = 16 := by
  rw [cmacTag, Crypto.cmac, length_toBE]
theorem length_header (op n : Nat) : (header op n).length = 24 := rfl
/-- The tag of a built frame is that of its key and of the bytes before it. -/
theorem command_tag (source op : Nat) (p : List Byte) (h : p.length < 256) :
    let f := command source op p
    byteAt f.bytes 2 = 0 ∧ cmacTag (deviceUnwrap wrapped) ((frameBytes f).take (24 + framePlen f.bytes)) =
      cut (frameBytes f) (24 + framePlen f.bytes) 16 := by
  have hp : framePlen (command source op p).bytes = p.length := by
    show (BitVec.ofNat 8 p.length).toNat + 256 * ((0 : Byte).toNat + 256 * 0) = _
    simp [Nat.mod_eq_of_lt h]
  have hb : frameBytes (command source op p) = (command source op p).bytes := by
    unfold frameBytes
    rw [hp]
    refine List.take_of_length_le ?_
    simp [command, length_tag, length_header]
    omega
  refine ⟨rfl, ?_⟩
  rw [hb, hp]
  simp only [command, cut]
  rw [List.take_left' (by simp [length_header]), List.drop_left' (by simp [length_header]), List.take_of_length_le (by simp [length_tag])]
/-- A frame to every part that a row of the table takes, decided. -/
def broadcast (f : AuthFrame) : Bool :=
  frameTarget f == 2 ^ 64 - 1 && State.knownOp (frameOp f) && (if frameOp f = 0x40 then f.source != 2 else frameWellFormed f)
theorem hasRow_of (f : AuthFrame) (h : broadcast f = true) : State.hasRow f = true := by
  simp only [broadcast, Bool.and_eq_true] at h
  simp only [State.hasRow, forUs, h.1.1, h.1.2, h.2, Bool.or_true, Bool.and_self]
/-- What an accepted frame meets beside its tag, decided. -/
def acceptable (s : State) (f : AuthFrame) (op : Nat) (roles : Nat → List Byte → Bool) (format : List Byte → Bool) : Bool :=
  let u := s.takeFrame f []
  let k := byteAt f.bytes 2
  decide (f.bytes.length < 256) && decide (u.keyWrapped 0 = wrapped) && (broadcast f && frameOp f == op) &&
    !decide (u.frameRole f = 0 ∨ u.frameRole f = 5 ∨ (u.frameRole f = 6 ∧ f.source ≠ 1)) &&
    decide (u.authCounter k < frameCounter f) && !decide (u.cell k ≤ frameCounter f ∧ 2 ^ 64 ≤ frameCounter f + 4096) &&
    roles (u.frameRole f) (frameParams f) && format (frameParams f)
theorem accepts_of (s : State) (role source op : Nat) (p : List Byte) (roles : Nat → List Byte → Bool) (format : List Byte → Bool)
    (h : acceptable (commanded s role source op p) (command source op p) op roles format = true) :
    (commanded s role source op p).accepts (command source op p) [] op roles format := by
  simp only [acceptable, Bool.and_eq_true, Bool.not_eq_true', decide_eq_true_eq, decide_eq_false_iff_not] at h
  obtain ⟨⟨⟨⟨⟨⟨⟨hl, hk⟩, h1⟩, h2⟩, h3⟩, h4⟩, h5⟩, h6⟩ := h
  have ht := command_tag source op p (by simp [command] at hl; omega)
  refine ⟨rfl, by rw [hasRow_of _ h1.1, Bool.true_and]; exact h1.2, h2, ?_, h3, h4, h5, h6⟩
  rw [ht.1]
  show cmacTag (deviceUnwrap _) _ = _
  rw [hk]
  exact ht.2


theorem meets_OnlineChangeActs :
    let s : State := asked 5 0 0xC001
    let d : State := { asked 5 0 0xC002 with change := { up.change with state := 2 } }
    let e : State := { up with change := { up.change with state := 1 } }
    let g : State := { put up [(0, Reg.FWATCH_COMMIT_AT_US, 249)] with change := { up.change with state := 3, switchFrame := 2, sections := [⟨5, 7, 0, []⟩] } }
    let c : State := { up with change := { up.change with checking := some (1, digest), recordDue := true } }
    let a : State := { put up [(0, Reg.TICK_FRAME_LO_N, 8)] with
      change := { up.change with state := 3, switchFrame := 9, sections := [⟨5, 7, 0, []⟩] } }
    let x : State := { up with change := { up.change with state := 4, sections := [⟨10, 0, 0, [0, 2, 6] ++ List.replicate 13 4⟩] } }
    s.Sane ∧ s.ring 0 13 = entry 5 0 0xC001 :: [] ∧ s.firmware = true ∧ (entry 5 0 0xC001).hi % 2 ^ 16 = 0xC001 ∧
    s.change.state ∈ [0, 5] ∧ d.ring 0 13 = entry 5 0 0xC002 :: [] ∧ d.change.state = 2 ∧ e.change.state = 1 ∧ e.firmware = true ∧
    e.placeHeld [] = false ∧ g.Sane ∧ g.changeArmed = true ∧ g.change.points = false ∧ g.changeDies ≠ [] ∧
    g.change.switchFrame = g.frameNo + 2 ∧ g.rd 0 Reg.FWATCH_COMMIT_AT_US < 250 ∧
    c.Sane ∧ c.change.checking = some (1, digest) ∧ c.change.recordDue = true ∧ c.firmware = true ∧
    a.Sane ∧ a.changeArmed = true ∧ a.change.switchFrame = a.frameNo + 1 ∧ a.change.points = false ∧ a.changeDies ≠ [] ∧
    a.standby = false ∧ x.Sane ∧ x.changeCarrying = true ∧ x.carryOpen.contains 6 = true := by
  unfold State.Sane; decide +kernel
/-- CHANGE_COMMIT and CHANGE_REVERT wait, of a loaded and of a switched change with identity 0. -/
def loaded (st op : Nat) (p : List Byte) : State :=
  commanded { up with change := { up.change with state := st } } 2 0 op p
theorem meets_OnlineChangeActs_commands :
    let p := List.replicate 8 0 ++ digest
    let q := List.replicate 8 0
    ((loaded 2 2 p).accepts (command 0 2 p) [] 0x02 rolesEW (fun p => p.length == 40) ∧
      (loaded 5 3 q).accepts (command 0 3 q) [] 0x03 rolesEW (fun p => p.length == 8)) ∧
    (loaded 2 2 p).Sane ∧ (loaded 2 2 p).change.state = 2 ∧ (loaded 2 2 p).change.checking = none ∧
    (loaded 2 2 p).on 0 Reg.MODE_STAT_PENDING = false ∧ (loaded 2 2 p).on 0 Reg.MODE_STAT_PREPARING = false ∧
    (loaded 2 2 p).activating = false ∧ (loaded 5 3 q).Sane ∧ (loaded 5 3 q).activating = false ∧
    ofBE (frameParams (command 0 3 q)) = (loaded 5 3 q).change.identity ∧ (loaded 5 3 q).change.state = 5 := by
  unfold State.Sane
  exact ⟨⟨accepts_of _ _ _ _ _ _ _ (by decide +kernel), accepts_of _ _ _ _ _ _ _ (by decide +kernel)⟩, by decide +kernel⟩
theorem meets_ImagesAndXspiAct :
    let r : List Byte := List.replicate 48 1
    let s : State := up.twinWrite 2 r
    let x : State := put up [(0, Reg.XSPI_STAT_BUSY, 1), (0, Reg.XSPI_LEN_BYTES, 2)]
    s.Sane ∧ s.firmware = true ∧ s.mode = 0 ∧ s.twinData? 2 = some r ∧ leAt r 0 8 ≠ 0 ∧
    up.takes K 0 0x23 = true ∧ up.fits K 0 0x23 0x10C (0 ||| 2 ^ 24) = true ∧
    x.Sane ∧ x.on 0 Reg.XSPI_STAT_BUSY = true ∧ x.on 0 Reg.XSPI_XCMD_DIR = false ∧
    digest.length ≠ x.rd 0 Reg.XSPI_LEN_BYTES ∧ [(1 : Byte), 2].length = x.rd 0 Reg.XSPI_LEN_BYTES := by
  unfold State.Sane; decide +kernel
theorem meets_ImagesAndXspiAct_command :
    let p : List Byte := [0, 0, 0, 0] ++ toBE 4 imageBytes ++ digest
    (commanded up 2 0 0x10 p).accepts (command 0 0x10 p) [] 0x10 rolesEW (fun p => p.length == 40 && ofBE (cut p 4 4) == imageBytes) ∧
    (commanded up 2 0 0x10 p).Sane ∧ (commanded up 2 0 0x10 p).on 0 Reg.IMG_STAT_SAFE_LOADING = false := by
  unfold State.Sane
  exact ⟨accepts_of _ _ _ _ _ _ _ (by decide +kernel), by decide +kernel⟩
theorem meets_FencesQueuesAndTokensAct :
    let s : State := { (put up [(0, Reg.QUE_PUSH_LO_DATA, 5), (0, Reg.TOKEN_OWNER_MASTER.w 63, 227)]).setHeld 63 true with
      queues := [(127, [entry 9 64 3])], flights := [⟨7, 15, 4, entryHi 64 3, false⟩], creditsDue := [⟨2, 7, 15⟩] }
    s.Sane ∧ SMap.sorted s.queues = true ∧ s.takes K 0 5 = true ∧ s.tokenHeld 63 = true ∧
    inDies 63 (whoDie (s.tokenOwner 63)) = true ∧ s.fenced (whoDie (s.tokenOwner 63)) = false ∧
    s.fits K 0 5 0x108 63 = true ∧ hasQueues 7 = true ∧ s.takes K 7 6 = true ∧
    s.fits K 7 6 (0x200 + 0x20 * 15) (0 ||| 1) = true ∧ s.fits K 7 6 (0x200 + 0x20 * 15) (6 / 2 * 2) = true ∧
    s.ring 7 15 = entry 9 64 3 :: [] ∧ hasQueues 0 = true ∧ s.takes K 0 6 = true ∧ s.fits K 0 6 0x10C 0x2F = true ∧
    takeFirst (fun f : Flight => f.hi / 2 ^ 24 == 64 && f.die == 7 && f.queue == 15) s.flights =
      some (⟨7, 15, 4, entryHi 64 3, false⟩, []) ∧
    takeFirst (fun c : CreditDue => c.src == 2 && c.dst == 7 && c.queue == 15) s.creditsDue = some (⟨2, 7, 15⟩, []) ∧
    s.takes K 0 9 = true ∧ s.tokenHeld 0 = false := by
  unfold State.Sane; decide +kernel

/-- A link on every port, and station 5 on ring A with a payload of 4 bytes. -/
def linked : State :=
  put up [(0, Reg.LINEn_STAT_LINK.p 0, 1), (0, Reg.LINEn_STAT_LINK.p 3, 1), (0, Reg.STN_ENT_W0_VALID.w 5, 1),
    (0, Reg.STN_ENT_W0_RING_A.w 5, 1), (0, Reg.STN_ENT_W0_MAC_HI.w 5, 0x0200), (0, Reg.STN_ENT_W1_MAC_LO.w 5, 5),
    (0, Reg.STN_ENT_W2_IN_LEN.w 5, 4), (0, Reg.STN_GROUP_HI_ADDR, 0x0300), (0, Reg.STN_GROUP_LO_ADDR, 9)]
/-- A Slasel frame of station 5 of a type: header, payload, padding. -/
def slasel (type : Byte) : List Byte :=
  toBE 6 0x030000000009 ++ toBE 6 0x020000000005 ++ [0x88, 0xB5] ++ [type, 0x80] ++ toBE 2 5 ++ toBE 2 77 ++ toBE 2 4 ++
    List.replicate 8 0 ++ [1, 2, 3, 4] ++ List.replicate 26 0
theorem meets_LineFramesAreTaken :
    let s : State := { linked with
      exch := { linked.exch with slasel := [⟨0, 7, slasel 0x12⟩], copies := [⟨0, 5, 7, [1, 2, 3, 4], 0⟩] } }
    let u : State := { linked with exch := { linked.exch with slasel := [⟨1, 7, slasel 0x13⟩] } }
    let hdr := cut (slasel 0x12) 14 16
    s.Sane ∧ SMap.sorted s.exch.stations = true ∧ SMap.sorted s.exch.gates = true ∧ SMap.sorted s.queues = true ∧
    s.lineUp 3 = true ∧ (slasel 0x12).length = 60 ∧ s.serviceUp ⟨0, 7, slasel 0x12⟩ = false ∧
    s.addressed ⟨0, 7, slasel 0x12⟩ = true ∧ byteAt hdr 0 = 0x12 ∧ ofBE (cut hdr 2 2) = 5 ∧ (s.station 5).valid = true ∧
    (s.station 5).kind = 0 ∧ (s.station 5).onPort 0 = true ∧ ofBE (cut (slasel 0x12) 6 6) = (s.station 5).mac ∧
    ofBE (cut hdr 6 2) = (s.station 5).inLen ∧ 30 + (s.station 5).inLen ≤ (slasel 0x12).length ∧ 128 ≤ byteAt hdr 1 ∧
    (s.stn 5).ref = false ∧ s.exch.copies = ⟨0, 5, 7, [1, 2, 3, 4], 0⟩ :: [] ∧ s.on 0 Reg.XCHG_STAT_CUT = false ∧
    u.Sane ∧ u.serviceUp ⟨1, 7, slasel 0x13⟩ = true ∧ u.firmware = true ∧ (u.gate 3).waiting = [] ∧
    u.enabled 0 (0x1D + 3) = true := by
  unfold State.Sane; decide +kernel
theorem meets_TimeAndGatesAct :
    let s : State := { put linked [(0, Reg.PTP_CFG_PORTS, 15), (0, Reg.PTP_STAT_STATES, 0x6006)] with
      exch := { linked.exch with ptpIn := [⟨3, 9, digest⟩], gates := [(3, { Gate.idle with list := [(1, 5), (2, 6)] })] } }
    s.Sane ∧ SMap.sorted s.exch.gates = true ∧ SMap.sorted s.exch.ptp = true ∧ s.exch.ptpIn = ⟨3, 9, digest⟩ :: [] ∧
    s.firmware = true ∧ s.ptpOn 3 = true ∧ (ptpExpire s).ptpState 3 = 6 ∧ s.reaches K 0 = true ∧ s.takes K 0 0x1C = true ∧ (s.gate 3).list.isEmpty = false := by
  unfold State.Sane; decide +kernel
theorem meets_TableCommandsAct :
    let h : State := put up [(0, Reg.CAT_STAT_CHECKING, 1)]
    up.Sane ∧ up.catActive ≤ 1 ∧ up.takes K 0 0x1A = true ∧ up.rd 0 Reg.STN_SEL_STATION < 1024 ∧ up.tablesHeld = false ∧
    up.fits K 0 0x1A 0x11C 0 = true ∧ up.takes K 0 0x19 = true ∧ up.rd 0 Reg.CAT_SEL_INDEX < 24576 ∧
    up.fits K 0 0x19 0x110 0 = true ∧ up.fits K 0 0x19 0x100 (1 + 2 * ofBool true) = true ∧
    up.fits K 0 0x19 0x100 (1 + 2 * ofBool false) = true ∧ h.Sane ∧ h.takes K 0 0x1A = true ∧ h.takes K 0 0x19 = true ∧
    h.tablesHeld = true ∧ h.on 0 Reg.CAT_STAT_CHECKING = true := by
  unfold State.Sane; decide +kernel
theorem meets_ShuntingCommandsAct :
    let s : State := put up [(0, Reg.SHUNT_STAT_STATE, 1)]
    let a (tag : Nat) : State := put (asked 5 (7 * 32) tag) [(0, Reg.SHUNT_STAT_STATE, 2), (0, Reg.SHUNT_STAT_MODE, 1), (0, Reg.SHUNT_STAT_TARGET, 7)]
    let d : State := { put up [(0, Reg.SHUNT_STAT_STATE, 3), (0, Reg.SHUNT_STAT_SOURCE, 2)] with slots := [(22, slot 0)] }
    s.Sane ∧ SMap.sorted s.queues = true ∧ s.takes K 0 0x14 = true ∧ s.rd 0 Reg.SHUNT_STAT_STATE ∈ [1, 2] ∧ s.nextRegion = none ∧
    (a 0xA001).ring 0 13 = entry 5 224 0xA001 :: [] ∧ (a 0xA001).firmware = true ∧ (a 0xA001).rd 0 Reg.SHUNT_STAT_STATE ∈ [1, 2] ∧
    (a 0xA001).on 0 Reg.SHUNT_STAT_MODE = true ∧ (entry 5 224 0xA001).hi / 2 ^ 29 % 8 = (a 0xA001).rd 0 Reg.SHUNT_STAT_TARGET ∧
    (entry 5 224 0xA001).hi % 2 ^ 16 = 0xA001 ∧ (a 0xA002).ring 0 13 = entry 5 224 0xA002 :: [] ∧ (a 0xA002).Sane ∧
    d.Sane ∧ d.pair.bulkFinal = false ∧ d.rd 0 Reg.SHUNT_STAT_STATE = 3 ∧ d.shunt.delivered = false ∧ d.working 2 6 = true := by
  unfold State.Sane; decide +kernel
theorem meets_ShuntingCommandsAct_command :
    (commanded up 3 0 0x08 [7, 0, 1, 0]).accepts (command 0 0x08 [7, 0, 1, 0]) [] 0x08 rolesEW
      (fun p => p.length == 4 && isScan (byteAt p 0) && (byteAt p 1 == 0 || isScan (byteAt p 1)) && decide (byteAt p 2 ≤ 1) &&
        byteAt p 3 == 0) ∧
    (commanded up 3 0 0x08 [7, 0, 1, 0]).Sane ∧ SMap.sorted (commanded up 3 0 0x08 [7, 0, 1, 0]).queues = true := by
  unfold State.Sane
  exact ⟨accepts_of _ _ _ _ _ _ _ (by decide +kernel), by decide +kernel⟩

theorem meets_DiesChangeRolesAndPower :
    let s : State := { put up [(0, Reg.PART_ROLES_ROLES, 0x800), (0, Reg.PART_CFG_ROLES, 0xAAA8)] with
      shunt := { up.shunt with returning := 32 } }
    let r : State := put up [(0, Reg.PART_ROLES_ROLES, 0x404)]
    let x : State := put up [(0, Reg.PWR_STAT_RAILS, 0x1F)]
    s.Sane ∧ inDies s.shunt.returning 7 = true ∧ s.role 7 = 2 ∧ s.takes K 0 0x17 = true ∧ s.fits K 0 0x17 0x100 145 = true ∧
    r.Sane ∧ isScan 2 = true ∧ isScan 7 = true ∧ r.fits K 0 0x17 0x100 (2 + 8 * 2 + 64 * 7) = true ∧
    x.Sane ∧ inDies (x.rd 0 Reg.PWR_STAT_RAILS) 2 = true ∧ inDies (x.rd 0 Reg.PWR_STAT_RAILS) 7 = false ∧
    r.takes K 0 2 = true ∧ r.fits K 0 2 0x100 63 = true ∧ r.takes K 0 3 = true ∧ r.fits K 0 3 0x104 32 = true := by
  unfold State.Sane; decide +kernel
theorem meets_DiesChangeRolesAndPower_commands :
    let form (p : List Byte) : Bool := p.length == 4 && isScan (byteAt p 0) && zeroAt p 1 3
    ((commanded up 2 0 0x09 [7, 0, 0, 0]).accepts (command 0 0x09 [7, 0, 0, 0]) [] 0x09 rolesEW form ∧
      (commanded up 3 0 0x0A [2, 0, 0, 0]).accepts (command 0 0x0A [2, 0, 0, 0]) [] 0x0A rolesEW form) ∧
    (commanded up 2 0 0x09 [7, 0, 0, 0]).Sane ∧ (commanded up 3 0 0x0A [2, 0, 0, 0]).Sane := by
  unfold State.Sane
  exact ⟨⟨accepts_of _ _ _ _ _ _ _ (by decide +kernel), accepts_of _ _ _ _ _ _ _ (by decide +kernel)⟩, by decide +kernel⟩

/-- A part of a pair, in a state of it, with both lanes aligned, the next message MSEQ 4. -/
def paired (st : Nat) : State :=
  { put up [(0, Reg.PAIR_CFG_EN, 1), (0, Reg.PAIR_STAT_STATE, st)] with
    frame := { up.frame with ticked := true }
    pair := { up.pair with aligned := true, rxSeq := some 4, rx := some ⟨0, true, 0, [], [], [], 0⟩ } }
theorem meets_MirrorMessagesAct :
    let s := paired 4
    let m : LinkHead := ⟨true, 0, 4⟩
    s.Sane ∧ s.on 0 Reg.PAIR_CFG_EN = true ∧ s.pair.aligned = true ∧ m.good = true ∧ s.pair.rxSeq = some m.seq ∧
    digest.length = 32 ∧ s.mirrorTo = true ∧ 0 + digest.length ≤ imageBytes ∧
    s.pair.rx = some ⟨0, true, 0, [], [], [], 0⟩ ∧ s.pairState = 4 ∧ s.frame.ticked = true ∧ s.pair.heard = false ∧
    s.rd 0 Reg.UPD_KSTAT_STATE ≠ 2 ∧ (put up [(0, Reg.PAIR_CFG_EN, 1)]).pair.aligned = false ∧
    (put up [(0, Reg.PAIR_CFG_EN, 1)]).on 0 Reg.PAIR_CFG_EN = true ∧ (put up [(0, Reg.PAIR_CFG_EN, 1)]).Sane ∧
    s.standby = true ∧ s.pair.apply = none ∧ s.pair.broken = none ∧ s.pair.done = none := by
  unfold State.Sane; decide +kernel
theorem meets_BulkAndNoticesAct :
    let b := paired 3
    let m : LinkHead := ⟨true, 0, 4⟩
    let l : State := { paired 4 with change := { up.change with state := 2 } }
    let a : State := { paired 4 with change := { up.change with state := 3, switchFrame := 9 } }
    b.Sane ∧ b.on 0 Reg.PAIR_CFG_EN = true ∧ b.pair.aligned = true ∧ m.good = true ∧ b.pair.rxSeq = some m.seq ∧
    b.pairState = 3 ∧ isScan 7 = true ∧ (List.replicate 4096 (0 : Byte)).length = 4096 ∧ (regionAddr 0).isSome = true ∧
    0 + digest.length ≤ imageBytes ∧ l.Sane ∧ l.standby = true ∧ 0 = l.change.identity ∧
    l.change.state = (if false then 5 else 2) ∧ l.pair.rxSeq = some m.seq ∧
    a.Sane ∧ a.pair.rxSeq = some m.seq ∧ a.standby = true ∧ a.changeArmed = true ∧ 0 = a.change.identity ∧ 9 = a.change.switchFrame ∧
    (l.pairState = 4 ∨ l.pairState = 6) ∧ 0 = l.pair.applied ∧ 128 ≤ byteAt [1, 128] 1 ∧ byteAt [1, 4] 1 < 128 ∧
    l.auth.inbox = [] ∧ l.firmware = true ∧ b.takes K 0 0x15 = true := by
  unfold State.Sane; decide +kernel
theorem meets_BulkAndNoticesAct_relayed :
    State.hasRow ⟨1, 0, (command 1 0x04 (List.replicate 40 0)).bytes⟩ = true := hasRow_of _ (by decide +kernel)
theorem meets_TabletAndPairStatesChange :
    let t : State := put up [(0, Reg.TABLET_STAT_STATE, 1)]
    let b : State := put up [(0, Reg.TABLET_STAT_STATE, 3)]
    let w : State := put (paired 6) [(0, Reg.PAIR_WIT_ENABLE, 1), (0, Reg.PAIR_STAT_WITNESS, 1)]
    let a := paired 1
    up.Sane ∧ up.takes K 0 0x16 = true ∧ up.claimSeen ≠ true ∧ t.Sane ∧ t.rd 0 Reg.TABLET_STAT_STATE = 1 ∧ t.claimSeen = false ∧
    b.rd 0 Reg.TABLET_STAT_STATE = 3 ∧ w.Sane ∧ w.firmware = true ∧ w.on 0 Reg.PAIR_CFG_EN = true ∧
    w.on 0 Reg.PAIR_WIT_ENABLE = true ∧ w.on 0 Reg.PAIR_STAT_WITNESS = true ∧ w.rd 0 Reg.UPD_KSTAT_STATE ≠ 2 ∧
    w.partnerDead = true ∧ (w.pairState = 4 ∨ w.pairState = 6) ∧ w.pairState = 6 ∧
    a.Sane ∧ a.pairState = 1 ∧ a.claimSeen = false ∧ a.on 0 Reg.PAIR_STAT_LINK = false := by
  unfold State.Sane; decide +kernel
theorem meets_TabletAndPairStatesChange_command :
    (commanded (paired 2) 1 0 0x07 []).accepts (command 0 0x07 []) [] 0x07 rolesOEW (fun p => p.isEmpty) ∧
    (commanded (paired 2) 1 0 0x07 []).Sane := by
  unfold State.Sane
  exact ⟨accepts_of _ _ _ _ _ _ _ (by decide +kernel), by decide +kernel⟩
/-- The body of a verdict for part 0 that names the senior part, counter 3. -/
def verdictBody : List Byte := [2, 1, 0, 0, 1] ++ List.replicate 26 0 ++ [3]
/-- A verdict with its tag, from a witness whose base identifier is `id`. -/
def verdictData (id : Nat) : List Byte :=
  verdictBody ++ cmacTag (deviceUnwrap wrapped) (toBE 2 id ++ toBE 2 0 ++ verdictBody)
theorem meets_TabletAndPairStatesChange_verdict :
    let s : State := put (up.keyWrite 0 5 wrapped) [(0, Reg.PAIR_CFG_EN, 1), (0, Reg.PAIR_WIT_ENABLE, 1)]
    let data := verdictData (s.rd 0 Reg.PAIR_WIT_BASE_ID)
    witnessTag s.witnessKey (s.rd 0 Reg.PAIR_WIT_BASE_ID) data = cut data 32 16 ∧
    data.length = 48 ∧ s.Sane ∧ s.firmware = true ∧ s.on 0 Reg.PAIR_CFG_EN = true ∧ s.on 0 Reg.PAIR_WIT_ENABLE = true ∧
    s.keyRole (s.rd 0 Reg.PAIR_WIT_KEY) = 5 ∧ s.pair.verdictCtr = none ∧ byteAt data 0 = 2 ∧ byteAt data 1 = 1 ∧
    ofBE (cut data 2 2) = s.rd 0 Reg.PAIR_ID_ID ∧ byteAt data 4 ≤ 2 := by
  intro s data
  have hk : s.keyWrapped (s.rd 0 Reg.PAIR_WIT_KEY) = wrapped := by decide +kernel
  refine ⟨?_, ?_, ?_⟩
  · show cmacTag (deviceUnwrap (s.keyWrapped (s.rd 0 Reg.PAIR_WIT_KEY))) _ = _
    rw [hk, show data.take 32 = verdictBody from List.take_left' rfl]
    show _ = (data.drop 32).take 16
    rw [show data.drop 32 = _ from List.drop_left' rfl, List.take_of_length_le (Nat.le_of_eq (length_tag _ _))]
  · show (verdictBody ++ _).length = 48
    rw [List.length_append, length_tag]
    rfl
  · unfold State.Sane; decide +kernel

theorem meets_MemoryEnginesAct :
    let e : MemEngine := { MemEngine.idle with testing := true, testMode := 1, loanLeft := true, repairing := some (7, 1, 1, 5), dmaGo := some 64 }
    let s : State := { put up [(7, Reg.MEM_PWR_STAT_BANKb.j 7, 3), (7, Reg.MEM_ECC_CTL_SCRUB_EN, 1), (7, Reg.MARCH_CTL_MODE, 1)] with
      engines := [(7, e)], ecc := [(phys 7 0, 1)] }
    s.Sane ∧ SMap.sorted s.engines = true ∧ SMap.sorted s.ecc = true ∧ hasMarch s 7 = true ∧ s.takes K 7 7 = true ∧
    s.fits K 7 7 0x100 0 = true ∧ 7 ∈ banksOf 7 ∧ s.rd 7 (Reg.MEM_PWR_STAT_BANKb.j 7) = 3 ∧
    s.on 7 Reg.MEM_ECC_CTL_SCRUB_EN = true ∧ isScan 7 = true ∧ s.fits K 7 7 0x120 7340032 = true ∧ (s.eng 7).dmaGo = some 64 ∧
    s.rowRunning 7 6 = false ∧ s.takes K 7 8 = true ∧ s.fits K 7 8 0x100 (1 ||| 0x40) = true ∧ field (1 ||| 0x40) 0 2 ≠ 0 ∧
    s.fits K 7 8 0x100 (setField (1 ||| 0x80) 6 1 0) = true ∧ s.fits K 7 8 0x120 (0 ||| 2 ^ 17) = true ∧
    loanOpen s 7 = true ∧ s.rd 7 Reg.MARCH_STAT_WORD < s.rd 7 Reg.MARCH_STAT_WORD + s.rd 7 Reg.MARCH_CFG_LOAN_WORDS ∧
    testsWord s 7 (s.rd 7 Reg.MARCH_STAT_WORD) = true ∧ (s.eng 7).testing = true ∧ s.on 7 Reg.MARCH_CTL_LOOP = false ∧ (s.eng 7).repairing = some (7, 1, 1, 5) := by
  unfold State.Sane; decide +kernel
theorem meets_CanControllersAct :
    let c (st : Nat) : State := put up [(0, Reg.CANx_STAT_STATE.p 1, st), (0, Reg.CANx_CTL_EN.p 1, 1), (0, (Reg.CANx_TXSTAT_STb.p 1).j 2, 1)]
    let r : State := { c 4 with arming := [(0x22, ⟨0, true, 64⟩)] }
    up.Sane ∧ SMap.sorted up.cans = true ∧ up.takes K 0 (0x21 + 1) = true ∧ up.enabled 0 (0x21 + 1) = true ∧
    up.rd 0 (Reg.CANx_CTL_EN.p 1) = 0 ∧ up.rd 0 (Reg.CANx_CTL_RECOVER.p 1) = 0 ∧ up.canState 1 = 0 ∧
    (∀ f ∈ [Reg.CANx_CTL_FD_EN, Reg.CANx_CTL_LISTEN, Reg.CANx_CTL_TXORDER, Reg.CANx_CTL_PXHD, Reg.CANx_CTL_NO_RETX],
      up.rd 0 (f.p 1) < 2) ∧
    up.enabled 0 (0x21 + 0) = true ∧ up.rd 0 (Reg.CANx_CTL_TXORDER.p 0) = 0 ∧
    (c 2).Sane ∧ (c 2).takes K 0 (0x21 + 1) = true ∧ (c 2).txState 1 2 = 1 ∧ ((c 2).can 1).onBus = none ∧
    r.Sane ∧ r.takes K 0 (0x21 + 1) = true ∧ SMap.find? r.arming (0x21 + 1) = some ⟨K.code, true, 64⟩ ∧ r.cycle < 64 ∧
    r.canState 1 = 4 ∧ r.canEnabled 1 = true ∧ r.on 0 (Reg.CANx_CTL_RECOVER.p 1) = false ∧ (c 1).canState 1 = 1 ∧
    (3 : Nat) ≠ 7 ∧ (c 2).onTheBus 1 = true ∧ (c 2).txOnBus 1 = some 2 ∧ ((c 2).can 1).waiting = [] ∧ (c 2).rd 0 (Reg.CANx_ERR_TEC.p 1) < 256 ∧
    (c 5).canState 1 = 5 ∧ (c 4).firmware = true ∧ (c 4).canState 1 = 4 ∧
    0 < (put (c 4) [(0, Reg.CANx_SVC_BO_DELAY.p 1, 9)]).rd 0 (Reg.CANx_SVC_BO_DELAY.p 1) := by
  unfold State.Sane; decide +kernel
theorem meets_CanControllersAct_command :
    (commanded up 1 0 0x11 [1, 0, 0, 0]).accepts (command 0 0x11 [1, 0, 0, 0]) [] 0x11 rolesOEW
      (fun p => p.length == 4 && decide (byteAt p 0 ≤ 1) && zeroAt p 1 3) ∧
    (commanded up 1 0 0x11 [1, 0, 0, 0]).Sane ∧ SMap.sorted (commanded up 1 0 0x11 [1, 0, 0, 0]).cans = true ∧
    (command 0 0x11 [1, 0, 0, 0]).source ≠ 2 ∧ byteAt (frameParams (command 0 0x11 [1, 0, 0, 0])) 0 = 1 := by
  unfold State.Sane
  exact ⟨accepts_of _ _ _ _ _ _ _ (by decide +kernel), by decide +kernel⟩
theorem meets_CanFramesAreReceivedAndServed :
    let s : State := { put up [(0, Reg.CANx_STAT_STATE.p 1, 2), (0, Reg.CANx_CTL_EN.p 1, 1), (0, (Reg.CANx_FLTi_W2_EN.p 1).i 31, 1),
        (0, Reg.CANx_SVC_TXQ_DIE.p 1, 7), (0, Reg.CANx_SVC_TXQ_EN.p 1, 1), (0, Reg.TABLET_STAT_STATE, 2), (0, Reg.CANx_SVC_TXQ_Q.p 1, 15)] with
      cans := [(1, { CanCtl.idle with fifo := [[2, 0, 5, 0]] })]
      queues := [(127, [entry 9 64 0x4000, entry 0 64 0x2000])] }
    let l := put s [(0, Reg.CANx_RXSTAT_LOCKED.p 1, 1)]
    let n := put s [(0, Reg.CANx_CTL_FD_EN.p 1, 0)]
    s.Sane ∧ SMap.sorted s.cans = true ∧ SMap.sorted s.queues = true ∧ s.onTheBus 1 = true ∧
    ((List.range 32).find? fun i => filterMatches s 1 i false 0) = some 31 ∧
    s.on 0 ((Reg.CANx_FLTi_W2_REJECT.p 1).i 31) = false ∧ (s.can 1).fifo.length < 32 ∧ s.takes K 0 (0x21 + 1) = true ∧
    (s.can 1).fifo = [2, 0, 5, 0] :: [] ∧ s.on 0 (Reg.CANx_RXSTAT_LOCKED.p 1) = false ∧
    n.Sane ∧ n.onTheBus 1 = true ∧ n.on 0 (Reg.CANx_CTL_FD_EN.p 1) = false ∧ n.on 0 (Reg.CANx_CTL_PXHD.p 1) = false ∧
    s.reaches K 0 = true ∧ l.reaches K 0 = true ∧
    l.on 0 (Reg.CANx_RXSTAT_LOCKED.p 1) = true ∧ l.rd 0 (Reg.CANx_RXSTAT_LOCK_MASTER.p 1) = K.code % 256 ∧ s.firmware = true ∧
    s.dieOf (s.rd 0 (Reg.CANx_SVC_TXQ_DIE.p 1)) = 7 ∧ isScan 7 = true ∧ s.rd 0 (Reg.CANx_SVC_TXQ_Q.p 1) = 15 ∧
    s.on 0 (Reg.CANx_SVC_TXQ_EN.p 1) = true ∧
    s.ring 7 15 = entry 9 64 0x4000 :: [entry 0 64 0x2000] ∧ bit (entry 9 64 0x4000).hi 14 = true ∧
    leadingRun (s.ring 7 15) = some 2 ∧ runWellFormed ((s.ring 7 15).take 2) = true ∧ s.tabletHeld = true ∧
    ([1, 2].find? fun b => s.txState 1 b != 1) = some 1 ∧ s.on 0 (Reg.CANx_CTL_LISTEN.p 1) = false ∧ s.canEnabled 1 = true := by
  unfold State.Sane; decide +kernel
theorem meets_StacksWindowActs :
    let s : State := { put up [(0, Reg.NVC_CTL_REFRESH_EN, 1)] with arch := { up.arch with window := [(0x4FFFF8, 5)] } }
    let f : State := { up with arch := { up.arch with window := List.replicate 8 (0x4FFFF8, 5) } }
    let h : State := { s with holding := [State.pageReq K 0 0x0F 0x10C 1] }
    f.Sane ∧ f.takes K 0 0x0F = true ∧ f.windowFull = true ∧ h.Sane ∧
    h.pageWaits 0 0x0F 0x10C = some (State.pageReq K 0 0x0F 0x10C 1) ∧ s.pageWaits 0 0x0F 0x10C = none ∧ s.reaches K 0 = true ∧
    s.Sane ∧ SMap.sorted s.ecc = true ∧ s.takes K 0 0x0F = true ∧ s.windowFull = false ∧ s.arch.window = (0x4FFFF8, 5) :: [] ∧
    0x7FFFF8 % 8 = 0 ∧ s.on 0 Reg.NVC_CTL_REFRESH_EN = true := by
  unfold State.Sane; decide +kernel
theorem meets_TalliesAct :
    let s : State := { put up [(0, Reg.ARCH_CFG_SNAP_MIN, 1)] with arch := { up.arch with snapping := true } }
    s.Sane ∧ s.time < 2 ^ 64 ∧ s.takes K 0 0x11 = true ∧ s.fits K 0 0x11 (0x180 + 4 * 14) 9 = true ∧
    s.fits K 0 0x11 (0x180 + 4 * 0) 9 = true ∧ s.rd 0 Reg.ARCH_CFG_SNAP_MIN ≠ 0 ∧
    s.arch.snapping = true ∧ s.aon.holdup < 4 ∧ s.on 0 Reg.ARCH_STAT_FAILED = false := by
  unfold State.Sane; decide +kernel
theorem meets_ArchiveAdmitsAndFlushes :
    let e := entry 5 64 0xE000
    let s (n : Nat) : State := { put up [(0, Reg.ARCH_BUDGET_BYTES, n), (0, Reg.ARCH_STAT_FLUSHING, 1)] with
      queues := [(12, [e])], arch := { up.arch with room := [⟨0, 32, 0, 4, 9⟩] } }
    let f := put (s 100) [(0, Reg.ARCH_STAT_FAILED, 1)]
    (s 24).Sane ∧ SMap.sorted (s 24).queues = true ∧ (s 24).arch.stopped = false ∧ (s 24).ring 0 12 = e :: [] ∧
    runStep (SMap.find? (s 24).arch.runs (e.hi / 2 ^ 24 % 256)) e = (none, .whole [e]) ∧ (s 24).on 0 Reg.ARCH_STAT_FAILED = false ∧
    runSize [e] ≤ (s 24).rd 0 Reg.ARCH_BUDGET_BYTES ∧ (s 24).roomFits (runSize [e]) = true ∧
    (s 23).Sane ∧ (s 23).rd 0 Reg.ARCH_BUDGET_BYTES < runSize [e] ∧ (s 23).on 0 Reg.ARCH_STAT_FAILED = false ∧
    f.Sane ∧ f.on 0 Reg.ARCH_STAT_FAILED = true ∧ f.arch.stopped = false ∧ f.ring 0 12 = e :: [] ∧
    (s 24).takes K 0 0x11 = true ∧ (s 24).arch.room = ⟨0, 32, 0, 4, 9⟩ :: [] ∧ (s 24).on 0 Reg.ARCH_STAT_FLUSHING = true ∧
    (s 24).aon.holdup < 4 := by
  unfold State.Sane; decide +kernel
theorem meets_AlwaysOnDomainActs :
    let s : State := put up [(0, Reg.AON_STAT_MAIN, 0), (0, Reg.AON_STAT_XTAL_FAIL, 1)]
    up.Sane ∧ up.on 0 Reg.AON_STAT_MAIN = true ∧ up.on 0 Reg.AON_STAT_XTAL_FAIL = false ∧ s.Sane ∧
    s.on 0 Reg.AON_STAT_MAIN = false ∧ s.on 0 Reg.AON_STAT_XTAL_FAIL = true := by
  unfold State.Sane; decide +kernel
theorem meets_RtcCountsAndIsLoaded :
    let s : State := put up [(0, Reg.RTC_MEAS_RUNNING, 1), (0, Reg.RTC_MEAS_CFG_REF, 1), (0, Reg.PTP_STAT_SLAVE, 1)]
    let l : State := { up with time := 40000, aon := { up.aon with load := some (1, 9482) } }
    let y : State := { up with aon := { up.aon with load := some (2, 5) } }
    let m : State := { up with aon := { up.aon with load := some (3, 5) } }
    let e : State := up.wr2 0 Reg.RTC_SEC_LO_SEC Reg.RTC_SEC_HI_SEC lastSecond
    s.Sane ∧ s.aon.load = none ∧ s.rtcSec < lastSecond ∧ e.Sane ∧ e.aon.load = none ∧ e.rtcSec = lastSecond ∧
    l.Sane ∧ l.aon.load = some (1, 9482) ∧ 9482 + 30518 ≤ l.time ∧ s.takes K 0 0x0E = true ∧
    s.on 0 Reg.RTC_STAT_LOAD_PENDING = false ∧ m.Sane ∧ m.aon.load = some (3, 5) ∧ m.mode = 0 ∧ y.Sane ∧ y.aon.load = some (2, 5) ∧ s.firmware = true ∧
    s.on 0 Reg.PTP_STAT_SLAVE = true ∧ s.on 0 Reg.TICK_STAT_HOLDOVER = false ∧
    s.fits K 0 0x0E 0x128 (setField 240 19 1 1) = true ∧ s.on 0 Reg.RTC_MEAS_RUNNING = true ∧ s.rd 0 Reg.RTC_MEAS_CFG_REF ≠ 0 := by
  unfold State.Sane; decide +kernel
theorem meets_GuardIsServicedAndKeyed :
    let s : State := { put up [(0, Reg.GUARD_CTL_EN, 1)] with aon := { up.aon with keyAt := some 0 } }
    let l : State := { s with time := 3000000000 }
    l.guardTooLate = true ∧ l.Sane ∧ l.takes K 0 0x0C = true ∧ s.guardTooLate = false ∧
    up.Sane ∧ up.takes K 0 0x0C = true ∧ up.aon.keyAt = none ∧ s.Sane ∧ s.takes K 0 0x0C = true ∧ s.aon.keyAt = some 0 ∧
    s.on 0 Reg.GUARD_CTL_EN = true ∧ s.on 0 Reg.GUARD_STAT_WARNED = false := by
  unfold State.Sane; decide +kernel
theorem meets_GuardIsServicedAndKeyed_command :
    (commanded up 4 0 0x0B []).accepts (command 0 0x0B []) [] 0x0B rolesWV List.isEmpty ∧ (commanded up 4 0 0x0B []).Sane := by
  unfold State.Sane
  exact ⟨accepts_of _ _ _ _ _ _ _ (by decide +kernel), by decide +kernel⟩

theorem meets_CriticalCommandsActWhenAccepted_mode :
    let f := command 0 0x01 [2, 1, 0, 0]
    let s := commanded up 1 0 0x01 [2, 1, 0, 0]
    let r := commanded (put up [(0, Reg.MODE_STAT_MODE, 2)]) 1 0 0x01 [2, 1, 0, 0]
    let form (p : List Byte) : Bool := p.length == 4 && decide (1 ≤ byteAt p 0) && decide (byteAt p 0 ≤ 4) && decide (byteAt p 1 ≤ 2) && zeroAt p 2 2
    (s.accepts f [] 0x01 rolesOEW form ∧ r.accepts f [] 0x01 rolesOEW form) ∧
    s.Sane ∧ ((s.accepted f []).refusal (byteAt (frameParams f) 0) (byteAt (frameParams f) 1)).isSome = true ∧
    r.Sane ∧ (r.accepted f []).refusal (byteAt (frameParams f) 0) (byteAt (frameParams f) 1) = none := by
  unfold State.Sane
  exact ⟨⟨accepts_of _ _ _ _ _ _ _ (by decide +kernel), accepts_of _ _ _ _ _ _ _ (by decide +kernel)⟩, by decide +kernel⟩
theorem meets_CriticalCommandsActWhenAccepted_time :
    let p : List Byte := List.replicate 8 1
    let s := commanded up 2 0 0x0E p
    let r := commanded (put up [(0, Reg.MODE_STAT_MODE, 1)]) 2 0 0x0E p
    let form (p : List Byte) : Bool := p.length == 8
    (s.accepts (command 0 0x0E p) [] 0x0E rolesEW form ∧ r.accepts (command 0 0x0E p) [] 0x0E rolesEW form) ∧
    s.Sane ∧ s.mode = 0 ∧ s.aon.load = none ∧ r.Sane ∧ r.mode ≠ 0 := by
  unfold State.Sane
  exact ⟨⟨accepts_of _ _ _ _ _ _ _ (by decide +kernel), accepts_of _ _ _ _ _ _ _ (by decide +kernel)⟩, by decide +kernel⟩
theorem meets_CriticalCommandsActWhenAccepted_protect :
    let s := commanded up 3 0 0x0C [3, 0, 0, 0]
    let t := commanded up 1 0 0x0F []
    let u := commanded pinTrim 1 0 0x0F []
    (s.accepts (command 0 0x0C [3, 0, 0, 0]) [] 0x0C rolesW (fun p => p.length == 4 && decide (byteAt p 0 ≤ 3) && zeroAt p 1 3) ∧
      t.accepts (command 0 0x0F []) [] 0x0F rolesOEW List.isEmpty ∧ u.accepts (command 0 0x0F []) [] 0x0F rolesOEW List.isEmpty) ∧
    s.Sane ∧ t.Sane ∧ t.trimming = false ∧ u.Sane ∧ u.trimming = true := by
  unfold State.Sane
  exact ⟨⟨accepts_of _ _ _ _ _ _ _ (by decide +kernel), accepts_of _ _ _ _ _ _ _ (by decide +kernel),
    accepts_of _ _ _ _ _ _ _ (by decide +kernel)⟩, by decide +kernel⟩
theorem meets_CriticalCommandsActWhenAccepted_keys :
    let p : List Byte := [0, 0, 0, 0]
    (commanded up 3 0 0x0D p).accepts (command 0 0x0D p) [] 0x0D (fun r _ => r == 2 || r == 3 || r == 4)
      (fun p => decide (byteAt p 0 ≤ 17) && decide (byteAt p 1 ≤ 6) && zeroAt p 2 2 &&
        p.length == rotateLength (byteAt p 0) (byteAt p 1)) ∧
    (commanded up 3 0 0x0D p).Sane := by
  unfold State.Sane
  exact ⟨accepts_of _ _ _ _ _ _ _ (by decide +kernel), by decide +kernel⟩
theorem meets_MspiMailboxesAct :
    let s : State := put up [(0, Reg.MSPI_STAT_OUT_READY, 1), (0, Reg.AUTH_CFG_MSPI_EN, 1)]
    let b := put s [(0, Reg.MSPI_STAT_IN_BUSY, 1)]
    s.Sane ∧ s.reaches K 0 = true ∧ s.enabled 0 0x24 = true ∧ s.on 0 Reg.MSPI_STAT_OUT_READY = true ∧ 1100 < 1101 ∧
    b.Sane ∧ b.enabled 0 0x24 = true ∧ b.on 0 Reg.MSPI_STAT_IN_BUSY = true ∧
    s.on 0 Reg.MSPI_STAT_IN_BUSY = false ∧ s.on 0 Reg.AUTH_CFG_MSPI_EN = true ∧ s.firmware = true ∧ s.auth.inbox = [] ∧
    s.rd 0 Reg.AUTH_SEL_SLOT < 16 := by
  unfold State.Sane; decide +kernel
theorem meets_MspiMailboxesAct_frame :
    let f := (command 0 0x04 (List.replicate 40 0)).bytes
    State.hasRow ⟨0, 0, f.take 80⟩ = true ∧ 0 < 80 ∧ 80 ≤ 1100 := ⟨hasRow_of _ (by decide +kernel), by decide⟩

/-- A frame of the data of update session 0 from MSPI: offset 0, 4 bytes. -/
def sessionFrame : AuthFrame :=
  ⟨0, 0, [1, 0x40, 0, 0] ++ List.replicate 8 0xFF ++ List.replicate 8 0 ++ [0, 4, 0, 0] ++ [1, 2, 3, 4]⟩
theorem meets_UpdateSessionsAct :
    let s (n : Nat) : State := put up [(0, Reg.UPD_SESS_STATE, n)]
    let d : State := { s 1 with auth := { up.auth with inbox := [sessionFrame] } }
    up.Sane ∧ up.reaches K 0 = true ∧ (s 1).Sane ∧ (s 1).rd 0 Reg.UPD_SESS_STATE = 1 ∧ (s 2).Sane ∧ (s 2).rd 0 Reg.UPD_SESS_STATE = 2 ∧
    d.Sane ∧ d.auth.inbox = [sessionFrame] ∧ frameOp sessionFrame = 0x40 := by
  unfold State.Sane; decide +kernel
theorem meets_UpdateSessionsAct_data : State.hasRow sessionFrame = true := hasRow_of _ (by decide +kernel)
/-- The parameters of UPDATE_OPEN: a level, 1,024 bytes, a digest. -/
def openParams (level : Byte) : List Byte := [level, 0, 0, 0, 0, 0, 4, 0] ++ digest
theorem meets_UpdateSessionsAct_commands :
    let o := command 0 0x04 (openParams 1)
    let c := command 0 0x04 (openParams 0)
    ((commanded up 4 0 0x04 (openParams 1)).accepts o [] 0x04 rolesOpen openForm ∧
      (commanded up 4 0 0x04 (openParams 0)).accepts c [] 0x04 rolesOpen openForm) ∧
    (commanded up 4 0 0x04 (openParams 1)).Sane ∧ byteAt o.bytes 24 ≠ 0 ∧
    (commanded up 4 0 0x04 (openParams 0)).Sane ∧ byteAt c.bytes 24 = 0 := by
  unfold State.Sane
  exact ⟨⟨accepts_of _ _ _ _ _ _ _ (by decide +kernel), accepts_of _ _ _ _ _ _ _ (by decide +kernel)⟩, by decide +kernel⟩
/-- The parameters of UPDATE_ACTIVATE: a level, no named part, a digest, an instant. -/
def activateParams (level : Byte) : List Byte := [level, 0, 0, 0] ++ digest ++ List.replicate 8 0
theorem meets_ActivationIsArmedOrRefused :
    let k := commanded up 3 0 0x05 (activateParams 1)
    let e := commanded up 2 0 0x05 (activateParams 2)
    let p := commanded up 6 1 0x05 (activateParams 1)
    (k.accepts (command 0 0x05 (activateParams 1)) [] 0x05 rolesActivate activateForm ∧
      e.accepts (command 0 0x05 (activateParams 2)) [] 0x05 rolesActivate activateForm ∧
      p.accepts (command 1 0x05 (activateParams 1)) [] 0x05 rolesActivate activateForm) ∧ k.Sane ∧ e.Sane ∧ p.Sane := by
  unfold State.Sane
  exact ⟨⟨accepts_of _ _ _ _ _ _ _ (by decide +kernel), accepts_of _ _ _ _ _ _ _ (by decide +kernel),
    accepts_of _ _ _ _ _ _ _ (by decide +kernel)⟩, by decide +kernel⟩
theorem meets_OutageAndRotationAct :
    let k (n : Nat) (u : Update) : State := { put up [(0, Reg.UPD_KSTAT_STATE, n)] with upd := u }
    let w := k 1 { up.upd with waiting := true }
    let c := k 2 { up.upd with copying := true }
    let r := k 2 up.upd
    let rot (n : Nat) : State := { put up [(0, Reg.PART_ROLES_ROLES, 0x400)] with upd := { up.upd with stage := n, left := [2, 3] } }
    let b : State := { up with upd := { up.upd with stage := 5, vacated := 7 }, shunt := { up.shunt with returning := 32 } }
    w.Sane ∧ w.rd 0 Reg.UPD_KSTAT_STATE = 1 ∧ w.upd.waiting = true ∧
    c.Sane ∧ c.rd 0 Reg.UPD_KSTAT_STATE = 2 ∧ c.upd.copying = true ∧ c.upd.restored = false ∧
    r.Sane ∧ r.rd 0 Reg.UPD_KSTAT_STATE = 2 ∧ r.upd.copying = false ∧ r.upd.resumed = none ∧ r.takes K 0 0x13 = true ∧
    r.upd.restored = false ∧
    (rot 1).Sane ∧ (rot 1).firmware = true ∧ (rot 1).upd.stage = 1 ∧ (rot 1).upd.left = 2 :: [3] ∧ (rot 1).loadTarget = some 7 ∧
    (rot 3).Sane ∧ (rot 3).firmware = true ∧ (rot 3).upd.stage = 3 ∧ (rot 3).upd.left = 2 :: [3] ∧
    b.Sane ∧ b.firmware = true ∧ b.upd.stage = 5 ∧ inDies b.shunt.returning b.upd.vacated = true := by
  unfold State.Sane; decide +kernel
theorem meets_TrialsAreConfirmedOrFallBack :
    let k : State := { put up [(0, Reg.UPD_KSTAT_STATE, 3)] with frame := { up.frame with ticked := true } }
    let e : State := { put (asked 0 64 0xA010) [(0, Reg.UPD_ESTAT_STATE, 2)] with frame := { up.frame with ticked := true } }
    up.Sane ∧ SMap.sorted up.queues = true ∧ k.Sane ∧ k.takes K 0 0x13 = true ∧ k.inTrial 1 = true ∧ k.deadlinePassed 1 = true ∧
    k.inTrial 2 = false ∧
    e.Sane ∧ SMap.sorted e.queues = true ∧ e.inTrial 1 = false ∧ e.inTrial 2 = true ∧ e.deadlinePassed 2 = true ∧
    e.firmware = true ∧ e.ring 0 13 = entry 0 64 0xA010 :: [] ∧ (entry 0 64 0xA010).hi % 2 ^ 16 = 0xA010 ∧
    e.live (whoDie ((entry 0 64 0xA010).hi / 2 ^ 24)) = true ∧ whoIx ((entry 0 64 0xA010).hi / 2 ^ 24) < 4 ∧
    0 = leAt (e.level 2).digest 0 4 := by
  unfold State.Sane; decide +kernel
theorem meets_TrialsAreConfirmedOrFallBack_command :
    let p : List Byte := [1, 0, 0, 0] ++ digest
    (commanded up 3 0 0x06 p).accepts (command 0 0x06 p) [] 0x06 rolesOpen
      (fun p => p.length == 36 && decide (1 ≤ byteAt p 0) && decide (byteAt p 0 ≤ 2) && zeroAt p 1 3) ∧
    (commanded up 3 0 0x06 p).Sane ∧ SMap.sorted (commanded up 3 0 0x06 p).queues = true := by
  unfold State.Sane
  exact ⟨accepts_of _ _ _ _ _ _ _ (by decide +kernel), by decide +kernel⟩
theorem meets_SettingsAreServed :
    let s (tag : Nat) : State := asked 0x80000 224 tag
    (s 0xA020).Sane ∧ SMap.sorted (s 0xA020).queues = true ∧ (s 0xA020).firmware = true ∧
    (s 0xA020).ring 0 13 = entry 0x80000 224 0xA020 :: [] ∧ isScan (whoDie ((entry 0x80000 224 0xA020).hi / 2 ^ 24)) = true ∧
    (entry 0x80000 224 0xA020).hi % 2 ^ 16 = 0xA020 ∧ settingsBuffer 0x80000 = some 0x20000 ∧ bit 0x80000 4 = false ∧
    (s 0xA021).Sane ∧ (s 0xA021).ring 0 13 = entry 0x80000 224 0xA021 :: [] ∧ (entry 0x80000 224 0xA021).hi % 2 ^ 16 = 0xA021 ∧
    settingsBuffer 0 = none := by
  unfold State.Sane; decide +kernel

/-! ### Ill-formed commands -/

theorem wf_masters_and_dies :
    (Instr.ptpTimeRead ⟨255, false⟩).wf = true ∧ (Instr.ptpTimeRead ⟨256, false⟩).wf = false ∧
    (Instr.spreadEnd 7).wf = true ∧ (Instr.spreadEnd 8).wf = false ∧
    (Instr.queueEntryArrival 255 7 15).wf = true ∧ (Instr.queueEntryArrival 256 7 15).wf = false ∧
    (Instr.tickPointsGo K 63).wf = true ∧ (Instr.tickPointsGo K 64).wf = false := by decide
theorem wf_pages_offsets_and_words :
    (Instr.registerWrite K 7 63 4092 0xFFFFFFFF).wf = true ∧ (Instr.registerWrite K 7 64 4092 0).wf = false ∧
    (Instr.registerWrite K 7 63 4096 0).wf = false ∧ (Instr.registerWrite K 7 63 4090 0).wf = false ∧
    (Instr.registerWrite K 7 63 4092 0x100000000).wf = false := by decide
theorem wf_cores_harts_and_engines :
    (Instr.mret 7 3).wf = true ∧ (Instr.mret 7 4).wf = false ∧ (Instr.debugHalt 31).wf = true ∧ (Instr.debugHalt 32).wf = false ∧
    (Instr.budgetExpiry 7 6).wf = true ∧ (Instr.budgetExpiry 7 7).wf = false := by decide
theorem wf_rows_and_mask_entries :
    (Instr.rowStart 7 511).wf = true ∧ (Instr.rowStart 7 512).wf = false ∧
    (Instr.maskLowWrite K 7 255 0).wf = true ∧ (Instr.maskLowWrite K 7 256 0).wf = false ∧ (Instr.maskLowWrite K 7 0 0).wf = false := by
  decide
theorem wf_addresses_and_sizes :
    (Instr.junctionRequestComplete K false 0xFFFFFFFF 8 0xFFFFFFFFFFFFFFFF).wf = true ∧
    (Instr.junctionRequestComplete K false 0x100000000 8 0).wf = false ∧ (Instr.junctionRequestComplete K false 0 3 0).wf = false ∧
    (Instr.junctionRequestComplete K false 0 8 0x10000000000000000).wf = false ∧
    (Instr.stacksRead K 0x7FFFFF 1).wf = true ∧ (Instr.stacksRead K 0x800000 1).wf = false := by decide
theorem wf_starts_causes_and_references :
    (Instr.modeRun K 2).wf = true ∧ (Instr.modeRun K 3).wf = false ∧
    (Instr.powerOnReset 6).wf = true ∧ (Instr.powerOnReset 7).wf = false ∧ (Instr.powerOnReset 0).wf = false ∧
    (Instr.refclkFail 1).wf = true ∧ (Instr.refclkFail 2).wf = false ∧
    (Instr.comparatorEdge 3 true).wf = true ∧ (Instr.comparatorEdge 4 true).wf = false := by decide
theorem wf_ports_stations_and_frames :
    (Instr.outputFrameStart 3).wf = true ∧ (Instr.outputFrameStart 4).wf = false ∧
    (Instr.serviceDownSend 15 1023 65535 []).wf = true ∧ (Instr.serviceDownSend 16 0 0 []).wf = false ∧
    (Instr.serviceDownSend 0 1024 0 []).wf = false ∧ (Instr.serviceDownSend 0 0 65536 []).wf = false ∧
    (Instr.lineFrameReceive 0 0xFFFFFFFFFFFFFFFF [] true).wf = true ∧
    (Instr.lineFrameReceive 0 0x10000000000000000 [] true).wf = false ∧
    (Instr.ptpMessageInterval 3 3).wf = true ∧ (Instr.ptpMessageInterval 3 4).wf = false := by decide
theorem wf_frame_lengths :
    (Instr.mspiWriteIn 1518 (List.replicate 1518 0)).wf = true ∧ (Instr.mspiWriteIn 1519 (List.replicate 1519 0)).wf = false := by
  decide +kernel
theorem wf_link_messages :
    (Instr.mirrorApplyDeadline).wf = true ∧ (Instr.abortMessage ⟨true, 0xFFFFFFFFFFFF, 0xFFFFFFFF⟩).wf = true ∧
    (Instr.abortMessage ⟨true, 0x1000000000000, 0⟩).wf = false ∧ (Instr.abortMessage ⟨true, 0, 0x100000000⟩).wf = false ∧
    (Instr.yieldMessage ⟨true, 0, 0⟩ 0xFFFFFFFFFFFF).wf = true ∧ (Instr.yieldMessage ⟨true, 0, 0⟩ 0x1000000000000).wf = false ∧
    (Instr.bulkMessage ⟨true, 0, 0⟩ 7 4095 []).wf = true ∧ (Instr.bulkMessage ⟨true, 0, 0⟩ 7 4096 []).wf = false := by decide
theorem wf_queues_banks_and_words :
    (Instr.queuePop K 7 15 0).wf = true ∧ (Instr.queuePop K 7 16 0).wf = false ∧
    (Instr.bankWakeDone 7 7).wf = true ∧ (Instr.bankWakeDone 7 8).wf = false ∧
    (Instr.loanEnd 7 true 131071 71 false).wf = true ∧ (Instr.loanEnd 7 true 131072 71 false).wf = false ∧
    (Instr.loanEnd 7 true 131071 72 false).wf = false := by decide
theorem wf_can :
    (Instr.canTxRequest K 1 7).wf = true ∧ (Instr.canTxRequest K 2 7).wf = false ∧ (Instr.canTxRequest K 1 8).wf = false ∧
    (Instr.canFrameReceive 1 true 0x1FFFFFFF 15 true true false false [] 0).wf = true ∧
    (Instr.canFrameReceive 1 true 0x20000000 15 true true false false [] 0).wf = false ∧
    (Instr.canFrameReceive 1 true 0 16 true true false false [] 0).wf = false ∧
    (Instr.canError 1 7 true true 8).wf = true ∧ (Instr.canError 1 8 true true 8).wf = false ∧
    (Instr.canError 1 7 true true 7).wf = false := by decide
theorem wf_field_and_archive :
    (Instr.diSample 65535).wf = true ∧ (Instr.diSample 65536).wf = false ∧
    (Instr.doRetry 7).wf = true ∧ (Instr.doRetry 8).wf = false ∧
    (Instr.couplerFault 9 true).wf = true ∧ (Instr.couplerFault 10 true).wf = false ∧
    (Instr.fskCharacterReceive 1 255 false false).wf = true ∧ (Instr.fskCharacterReceive 1 256 false false).wf = false ∧
    (Instr.fv24Crossing 65535).wf = true ∧ (Instr.fv24Crossing 65536).wf = false ∧
    (Instr.binEdgeWrite K 14 0).wf = true ∧ (Instr.binEdgeWrite K 15 0).wf = false ∧
    (Instr.flushEnd [4095]).wf = true ∧ (Instr.flushEnd [4096]).wf = false := by decide

/-! ### Commands come as they are: no word of the table spells one -/

theorem decode_no_word : decodeTableWord 0 0 = none ∧ decodeTableWord 32 0xFFFFFFFF = none ∧ decodeTableWord 64 1 = none := by decide
theorem fetch_word_leaves_the_state : State.reset.withFetchWord 32 0x13 = State.reset := rfl

/-! ### Values that the spec works out -/

/-- spec/00, "Finding a register from its name". -/
theorem test_register_names : regAddr 0 0x0A 0x008 = 0xF000A008 ∧ regAddr 5 0x09 0x010 = 0xF0509010 ∧ phys 5 0 = 0x15000000 := by decide

/-- spec/02, "One clamped write and one refused write", at t0. -/
theorem test_clamped_write :
    (match exec (.registerWrite K 0 5 0x100 0x64) up with
     | .next t =>
       let w (i : Nat) : Nat := t.rd 0 (((clampF 0 Reg.CLAMP_RINGi_Ww).i 0).i2 i)
       [t.rd 0 Reg.FAB_BURST_LIMIT_BEATS, w 0, w 1, w 2, w 3, w 6, t.rd 0 (CLAMPS_COUNT 5), t.rd 0 (clampF 0 Reg.CLAMP_STAT_NEXT)]
     | _ => []) = [0x40, 0xF0005100, 0x8E0, 0x64, 0x40, 0, 1, 1] := by decide +kernel
/-- The same at t1: CORE2 of S1 is no Keeper master. -/
theorem test_refused_write :
    (match exec (.registerWrite ⟨0x62, false⟩ 0 5 0x100 0x10) up with
     | .next t =>
       let w (i : Nat) : Nat := t.rd 0 (((clampF 0 Reg.CLAMP_RINGi_Ww).i 0).i2 i)
       [t.rd 0 Reg.FAB_BURST_LIMIT_BEATS, w 1, w 2, w 3, t.rd 0 (CLAMPS_COUNT 5)]
     | _ => []) = [0x40, 0x00623400, 0x10, 0x40, 1] := by decide +kernel

/-- spec/04, "One lever for 64 conveyor motors". -/
theorem test_lever_fields :
    decodeLever (0x040C0800500000A4 * 2 ^ 64 + 0x0001500400C00000) = ⟨1, 0x0302, ⟨0, 40, 0⟩, ⟨0, 41, 0⟩, ⟨0, 42, 0⟩, ⟨1, 12, 0⟩, 0, 0⟩ := by
  decide +kernel
/-- spec/04, "Levelling a motor, its feedback timer and its alarm": timer 69 in frames n + 4,999 and n + 5,000. -/
theorem test_feedback_timer :
    let begun := Timer.idle.call 0 50000 7 true
    (begun.run, begun.q) = (true, false) ∧ (begun.call 0 50000 (7 + 49990) true).q = false ∧
    ((begun.call 0 50000 (7 + 50000) true).run, (begun.call 0 50000 (7 + 50000) true).q) = (false, true) := by decide

/-- spec/05, "Scaling 1,024 analogue inputs on CORE1". -/
theorem test_xyi_words :
    decodeCore 0x00B510AB = some (.scaleS 1 10 11) ∧ decodeCore 0x1A20A0AB = some (.limitF false 1 1 2 3) ∧
    decodeCore 0x0062A00B = some (.bmask false 0 5 6) ∧ decodeCore 0x0200300B = some .slotend := by decide +kernel
/-- Saturating results at both ends (R160). -/
theorem test_saturating :
    satResult .sadd 0x7FFFFFFF 1 = (0x7FFFFFFF, true) ∧ satResult .ssub 0x80000000 1 = (0x80000000, true) ∧
    satResult .saddu 0xFFFFFFFF 1 = (0xFFFFFFFF, true) ∧ satResult .ssubu 3 4 = (0, true) ∧ satResult .sadd 0xFFFFFFFF 1 = (0, false) := by
  decide +kernel

/-- spec/06, "Locating one digital and one analogue point". -/
theorem test_points :
    pointAddr recvImage false 100000 = phys 0 0x1030D4 ∧ pointAddr snapImage false 100000 = phys 0 0x12B0D4 ∧
    pointAddr 0 true 20000 = 0x1B880 ∧ refOf 0x186A0 0 = some (0, 1562, 32) ∧ bitOwn 0 1562 = 0x8030D0 := by decide +kernel

/-- spec/08, "Binding and timing one station": where a field of a table word lies. -/
def at' (f : FieldDef) (w : Nat) : Nat := field w f.lsb f.width
theorem test_catalogue_fields :
    [at' Reg.CAT_ENT_W0_VALID 0x4A62D, at' Reg.CAT_ENT_W0_DIR 0x4A62D, at' Reg.CAT_ENT_W0_KIND 0x4A62D, at' Reg.CAT_ENT_W0_FORMAT 0x4A62D,
      at' Reg.CAT_ENT_W0_POLICY 0x4A62D, at' Reg.CAT_ENT_W0_DIES 0x4A62D, at' Reg.CAT_ENT_W0_STATION 0x4A62D] = [1, 0, 1, 1, 1, 0x0C, 37] ∧
    [at' Reg.CAT_ENT_W1_OFFSET 0x20008, at' Reg.CAT_ENT_W1_LENGTH 0x20008, at' Reg.CAT_ENT_W2_IMAGE 0x19004B0,
      at' Reg.CAT_ENT_W2_SUBIDX 0x19004B0] = [8, 8, 1200, 100] := by decide +kernel
theorem test_station_fields :
    [at' Reg.STN_ENT_W0_VALID 0x021AEA19, at' Reg.STN_ENT_W0_DROP 0x021AEA19, at' Reg.STN_ENT_W0_ERR_TASK 0x021AEA19,
      at' Reg.STN_ENT_W0_ERR_EN 0x021AEA19, at' Reg.STN_ENT_W0_MAC_HI 0x021AEA19] = [1, 3, 20, 1, 0x021A] ∧
    [at' Reg.STN_ENT_W2_IN_LEN 0x02806018, at' Reg.STN_ENT_W2_OUT_LEN 0x02806018, at' Reg.STN_ENT_W2_LEAD 0x02806018,
      at' Reg.STN_ENT_W3_CAT_FIRST 0x00020FA0, at' Reg.STN_ENT_W3_CAT_COUNT 0x00020FA0] = [24, 12, 10, 4000, 4] := by decide +kernel

/-- The thresholds of FV24 (R397), falling and rising. -/
theorem test_fv24_levels :
    [fv24Level 0 19200, fv24Level 0 19199, fv24Level 0 15999, fv24Level 0 11999] = [0, 1, 2, 3] ∧
    [fv24Level 1 19600, fv24Level 1 19601, fv24Level 2 16400, fv24Level 3 13000, fv24Level 3 13001] = [1, 0, 2, 3, 2] := by decide

/-- spec/11, "A late abort on CAN-B", its second case: a PENDING buffer that is off the bus becomes ABORTED at once (R363). -/
theorem test_can_abort_off_the_bus :
    (match exec (.canTxAbort K 1 4) (put up [(0, (Reg.CANx_TXSTAT_STb.p 1).j 2, 1)]) with
     | .next t => [t.rd 0 ((Reg.CANx_TXSTAT_STb.p 1).j 2), t.rd 0 (Reg.CANx_TXSTAT_ABORT_PEND.p 1)]
     | _ => []) = [4, 0] := by decide +kernel

/-- The published check value of CRC-32C: of the nine characters 1 to 9. -/
theorem test_crc32c : crc32c [0x31, 0x32, 0x33, 0x34, 0x35, 0x36, 0x37, 0x38, 0x39] = 0xE3069283 := by decide +kernel
/-- SHA-256 of the three bytes abc, as FIPS 180-4 gives it. -/
theorem test_sha256 :
    ofBE (Sha.sha256 [0x61, 0x62, 0x63]) = 0xBA7816BF8F01CFEA414140DE5DAE2223B00361A396177A9CB410FF61F20015AD := by decide +kernel

/-- AES-256-CMAC of the empty message and of one block, as SP 800-38B gives it. -/
theorem test_cmac :
    let key := toBE 32 0x603DEB1015CA71BE2B73AEF0857D77811F352C073B6108D72D9810A30914DFF4
    ofBE (Crypto.cmac key []) = 0x028962F61B7BF89EFC6B551F4667D983 ∧
    ofBE (Crypto.cmac key (toBE 16 0x6BC1BEE22E409F96E93D7E117393172A)) = 0x28A7023F452E8F82BD4BF28D8C37C35C := by decide +kernel

end Sys2Proof.Tests
end

section
/-! SUPPORT.  Every command moves within the frame that `Safety.lean` gives it: the one case split over the commands, from which
their completion, the form of the state and the queue are read off. -/

open Sys2Proof Sys2Proof.Machine Sys2Proof.Bits
namespace Sys2Proof.Machine

/-- The bits of a mask that stand for the parts of a list. -/
def Moves.parts (l : List Part) : Nat := l.foldr (fun p m => (1 <<< p.ix) ||| m) 0

/-- The bits of a mask that stand for the pages of a list of codes; without a list, for all pages. -/
def Moves.pageSet : Option (List Nat) → Nat
  | none => Moves.all
  | some l => l.foldr (fun c m => Moves.page c ||| m) 0

/-- The frame that `Safety.lean` gives a command, as a mask: its parts and its pages. -/
def frameMask (c : Instr) : Nat := Moves.parts (partsOf c) ||| Moves.pageSet (pagesOf c)

/-- A command whose meaning moves within its frame. -/
theorem inFrame {c : Instr} {F : Nat} {s : State} (h : ∃ t, exec c s = .next t ∧ Moves F s t)
    (sub : F &&& frameMask c = F := by dsimp only [frameMask, partsOf, pagesOf]; rfl) :
    ∃ t, exec c s = .next t ∧ Moves (frameMask c) s t :=
  h.imp fun _ ⟨ht, hm⟩ => ⟨ht, hm.sub sub⟩

/-- A mask with one page more lies in a frame whose list of pages begins with that page. -/
theorem frame_page {A P c : Nat} {l : List Nat} (sub : A &&& (P ||| Moves.pageSet (some l)) = A) :
    (A ||| Moves.page c) &&& (P ||| Moves.pageSet (some (c % 64 :: l))) = A ||| Moves.page c := by
  have h : P ||| Moves.pageSet (some (c % 64 :: l)) = (P ||| Moves.pageSet (some l)) ||| Moves.page c := by
    simp only [Moves.pageSet, List.foldr_cons, Moves.page, Nat.mod_mod]
    rw [Nat.or_comm (1 <<< _), Nat.or_assoc]
  rw [h]; exact Moves.or_mono sub

/-- A command whose meaning moves within its frame, of which one page is named by an operand. -/
theorem inFrame_page {c : Instr} {A code : Nat} {s : State} (h : ∃ t, exec c s = .next t ∧ Moves (A ||| Moves.page code) s t)
    (sub : (A ||| Moves.page code) &&& frameMask c = A ||| Moves.page code := by
      dsimp only [frameMask, partsOf, pagesOf]; exact frame_page rfl) :
    ∃ t, exec c s = .next t ∧ Moves (frameMask c) s t :=
  inFrame h sub

/-- Every command answers a next state and moves within its frame: its meaning's own lemma, command by command. -/
theorem exec_moves (c : Instr) (s : State) : ∃ t, exec c s = .next t ∧ Moves (frameMask c) s t := by
  cases c with
  | registerWrite => exact inFrame (execRegisterWrite_moves ..)
  | rcRead => exact inFrame (execRcRead_moves ..)
  | keyWordWrite => exact inFrame_page (execKeyWordWrite_moves ..)
  | armingExpiry => exact inFrame (execArmingExpiry_moves ..)
  | lockGroupSet => exact inFrame_page (execLockGroupSet_moves ..)
  | softReset => exact inFrame (execSoftReset_moves ..)
  | softResetEnd => exact inFrame (execSoftResetEnd_moves ..)
  | irqClear => exact inFrame_page (execIrqClear_moves ..)
  | irqSet => exact inFrame_page (execIrqSet_moves ..)
  | clampZero =>
    exact inFrame (execClampZero_moves ..) (by dsimp only [frameMask, partsOf, pagesOf]; exact Moves.page_any rfl)
  | fieldProxyWrite => exact inFrame (execFieldProxyWrite_moves ..)
  | controlFrame => exact inFrame (execControlFrame_moves ..)
  | statusFrame => exact inFrame (execStatusFrame_moves ..)
  | fieldAbsent => exact inFrame (execFieldAbsent_moves ..)
  | fieldPowerup => exact inFrame (execFieldPowerup_moves ..)
  | proxyPushEnd => exact inFrame (execProxyPushEnd_moves ..)
  | proxyPullEnd => exact inFrame (execProxyPullEnd_moves ..)
  | tick => exact inFrame (execTick_moves ..)
  | cutCopyEnd => exact inFrame (execCutCopyEnd_moves ..)
  | spreadEnd => exact inFrame (execSpreadEnd_moves ..)
  | spreadByDeadline => exact inFrame (execSpreadByDeadline_moves ..)
  | ptpMasterLost => exact inFrame (execPtpMasterLost_moves ..)
  | ptpMasterFound => exact inFrame (execPtpMasterFound_moves ..)
  | rowStart => exact inFrame (execRowStart_moves ..)
  | budgetExpiry => exact inFrame (execBudgetExpiry_moves ..)
  | commitSample => exact inFrame (execCommitSample_moves ..)
  | commitEnd => exact inFrame (execCommitEnd_moves ..)
  | safeCopyEnd => exact inFrame (execSafeCopyEnd_moves ..)
  | releaseBuildEnd => exact inFrame (execReleaseBuildEnd_moves ..)
  | release => exact inFrame (execRelease_moves ..)
  | outputFrameStart => exact inFrame_page (execOutputFrameStart_moves ..)
  | marginClear => exact inFrame (execMarginClear_moves ..)
  | ttblRowWrite => exact inFrame (execTtblRowWrite_moves ..)
  | ttblPoints => exact inFrame (execTtblPoints_moves ..)
  | ttblCancel => exact inFrame (execTtblCancel_moves ..)
  | pointsCheckEnd => exact inFrame (execPointsCheckEnd_moves ..)
  | tickPointsGo => exact inFrame (execTickPointsGo_moves ..)
  | logicLever => exact inFrame (execLogicLever_moves ..)
  | edgeLever => exact inFrame (execEdgeLever_moves ..)
  | moveLever => exact inFrame (execMoveLever_moves ..)
  | pack => exact inFrame (execPack_moves ..)
  | unpack => exact inFrame (execUnpack_moves ..)
  | skipz => exact inFrame (execSkipz_moves ..)
  | skipnz => exact inFrame (execSkipnz_moves ..)
  | tstart => exact inFrame (execTstart_moves ..)
  | treset => exact inFrame (execTreset_moves ..)
  | cup => exact inFrame (execCup_moves ..)
  | cdn => exact inFrame (execCdn_moves ..)
  | syncLever => exact inFrame (execSyncLever_moves ..)
  | syncTimeout => exact inFrame (execSyncTimeout_moves ..)
  | nopLever => exact inFrame (execNopLever_moves ..)
  | endLever => exact inFrame (execEndLever_moves ..)
  | illegalOp => exact inFrame (execIllegalOp_moves ..)
  | advancePassEnd => exact inFrame (execAdvancePassEnd_moves ..)
  | maskLowWrite => exact inFrame (execMaskLowWrite_moves ..)
  | maskHighWrite => exact inFrame (execMaskHighWrite_moves ..)
  | maskStore => exact inFrame (execMaskStore_moves ..)
  | sboxFaultClear => exact inFrame (execSboxFaultClear_moves ..)
  | timrClear => exact inFrame (execTimrClear_moves ..)
  | timrConfigApply => exact inFrame (execTimrConfigApply_moves ..)
  | watchClear => exact inFrame (execWatchClear_moves ..)
  | riscvInstruction => exact inFrame (execRiscvInstruction_moves ..)
  | trapEntry => exact inFrame (execTrapEntry_moves ..)
  | mret => exact inFrame (execMret_moves ..)
  | interruptTaken => exact inFrame_page (execInterruptTaken_moves ..)
  | bext => exact inFrame (execBext_moves ..)
  | bdep => exact inFrame (execBdep_moves ..)
  | bsetm => exact inFrame (execBsetm_moves ..)
  | bclrm => exact inFrame (execBclrm_moves ..)
  | brise => exact inFrame (execBrise_moves ..)
  | bfall => exact inFrame (execBfall_moves ..)
  | bedge => exact inFrame (execBedge_moves ..)
  | budgetRd => exact inFrame (execBudgetRd_moves ..)
  | slotend => exact inFrame (execSlotend_moves ..)
  | qput => exact inFrame (execQput_moves ..)
  | qget => exact inFrame (execQget_moves ..)
  | tokenAcq => exact inFrame (execTokenAcq_moves ..)
  | tokenRel => exact inFrame (execTokenRel_moves ..)
  | sadd => exact inFrame (execSadd_moves ..)
  | ssub => exact inFrame (execSsub_moves ..)
  | saddu => exact inFrame (execSaddu_moves ..)
  | ssubu => exact inFrame (execSsubu_moves ..)
  | scaleS => exact inFrame (execScaleS_moves ..)
  | limitW => exact inFrame (execLimitW_moves ..)
  | limitS => exact inFrame (execLimitS_moves ..)
  | limitD => exact inFrame (execLimitD_moves ..)
  | coreStart => exact inFrame_page (execCoreStart_moves ..)
  | softSet => exact inFrame_page (execSoftSet_moves ..)
  | routerClear => exact inFrame_page (execRouterClear_moves ..)
  | debugHalt => exact inFrame (execDebugHalt_moves ..)
  | debugSystemBusAccess => exact inFrame (execDebugSystemBusAccess_moves ..)
  | junctionRequestComplete => exact inFrame (execJunctionRequestComplete_moves ..)
  | junctionTimeout => exact inFrame (execJunctionTimeout_moves ..)
  | modeStop => exact inFrame (execModeStop_moves ..)
  | modeRun => exact inFrame (execModeRun_moves ..)
  | modeHold => exact inFrame (execModeHold_moves ..)
  | modeStep => exact inFrame (execModeStep_moves ..)
  | startPreparationEnd => exact inFrame (execStartPreparationEnd_moves ..)
  | powerupRunRequest => exact inFrame (execPowerupRunRequest_moves ..)
  | powerFail => exact inFrame (execPowerFail_moves ..)
  | retainedSaveEnd => exact inFrame (execRetainedSaveEnd_moves ..)
  | runCounterSaveEnd => exact inFrame (execRunCounterSaveEnd_moves ..)
  | powerReturn => exact inFrame (execPowerReturn_moves ..)
  | safeImageLoad => exact inFrame (execSafeImageLoad_moves ..)
  | safeImageLoaded => exact inFrame (execSafeImageLoaded_moves ..)
  | programImageLoad => exact inFrame (execProgramImageLoad_moves ..)
  | changeLoad => exact inFrame (execChangeLoad_moves ..)
  | changeLoadEnd => exact inFrame (execChangeLoadEnd_moves ..)
  | changeDiscard => exact inFrame (execChangeDiscard_moves ..)
  | changeCommit => exact inFrame (execChangeCommit_moves ..)
  | preSwitchCheckEnd => exact inFrame (execPreSwitchCheckEnd_moves ..)
  | pointsInstant => exact inFrame (execPointsInstant_moves ..)
  | carryStart => exact inFrame (execCarryStart_moves ..)
  | carryEnd => exact inFrame (execCarryEnd_moves ..)
  | carryDeadline => exact inFrame (execCarryDeadline_moves ..)
  | changeRevert => exact inFrame (execChangeRevert_moves ..)
  | retainedRecordWrite => exact inFrame (execRetainedRecordWrite_moves ..)
  | xspiGo => exact inFrame (execXspiGo_moves ..)
  | xspiDone => exact inFrame (execXspiDone_moves ..)
  | xspiDqsTimeout => exact inFrame (execXspiDqsTimeout_moves ..)
  | lineFrameReceive => exact inFrame_page (execLineFrameReceive_moves ..)
  | inputFrame => exact inFrame (execInputFrame_moves ..)
  | bindingWrite => exact inFrame (execBindingWrite_moves ..)
  | serviceUpFrame => exact inFrame (execServiceUpFrame_moves ..)
  | serviceDownSend => exact inFrame (execServiceDownSend_moves ..)
  | ptpMessage => exact inFrame (execPtpMessage_moves ..)
  | ptpTimeRead => exact inFrame (execPtpTimeRead_moves ..)
  | lineLinkChange => exact inFrame_page (execLineLinkChange_moves ..)
  | tsnChange => exact inFrame (execTsnChange_moves ..)
  | gateEntryExpiry => exact inFrame (execGateEntryExpiry_moves ..)
  | stationEntryWrite => exact inFrame (execStationEntryWrite_moves ..)
  | catalogueEntryWrite => exact inFrame (execCatalogueEntryWrite_moves ..)
  | catalogueSwap => exact inFrame (execCatalogueSwap_moves ..)
  | catalogueCheckEnd => exact inFrame (execCatalogueCheckEnd_moves ..)
  | catalogueCopy => exact inFrame (execCatalogueCopy_moves ..)
  | shunt => exact inFrame (execShunt_moves ..)
  | shuntAbandon => exact inFrame (execShuntAbandon_moves ..)
  | precopyPassEnd => exact inFrame (execPrecopyPassEnd_moves ..)
  | deltaEnd => exact inFrame (execDeltaEnd_moves ..)
  | handoverAccept => exact inFrame (execHandoverAccept_moves ..)
  | handoverRefuse => exact inFrame (execHandoverRefuse_moves ..)
  | dieRetire => exact inFrame (execDieRetire_moves ..)
  | dieReturn => exact inFrame (execDieReturn_moves ..)
  | returnTestEnd => exact inFrame (execReturnTestEnd_moves ..)
  | partApply => exact inFrame (execPartApply_moves ..)
  | partReplace => exact inFrame (execPartReplace_moves ..)
  | scanRailLoss => exact inFrame (execScanRailLoss_moves ..)
  | scanRailReturn => exact inFrame (execScanRailReturn_moves ..)
  | headerSwitch => exact inFrame (execHeaderSwitch_moves ..)
  | heartbeat => exact inFrame (execHeartbeat_moves ..)
  | heartbeatMissing => exact inFrame (execHeartbeatMissing_moves ..)
  | laneAlignmentLoss => exact inFrame (execLaneAlignmentLoss_moves ..)
  | snapMessage => exact inFrame (execSnapMessage_moves ..)
  | sideMessage => exact inFrame (execSideMessage_moves ..)
  | deltaMessage => exact inFrame (execDeltaMessage_moves ..)
  | endMessage => exact inFrame (execEndMessage_moves ..)
  | abortMessage => exact inFrame (execAbortMessage_moves ..)
  | mirrorApplyDeadline => exact inFrame (execMirrorApplyDeadline_moves ..)
  | bulkMessage => exact inFrame (execBulkMessage_moves ..)
  | bulkKeeper => exact inFrame (execBulkKeeper_moves ..)
  | pairSyncRequest => exact inFrame (execPairSyncRequest_moves ..)
  | armNotice => exact inFrame (execArmNotice_moves ..)
  | goMarker => exact inFrame (execGoMarker_moves ..)
  | yieldMessage => exact inFrame (execYieldMessage_moves ..)
  | tabletWant => exact inFrame (execTabletWant_moves ..)
  | tabletSeenChange => exact inFrame (execTabletSeenChange_moves ..)
  | claimHoldExpiry => exact inFrame (execClaimHoldExpiry_moves ..)
  | backoffExpiry => exact inFrame (execBackoffExpiry_moves ..)
  | verdict => exact inFrame (execVerdict_moves ..)
  | witnessHeartbeatSend => exact inFrame (execWitnessHeartbeatSend_moves ..)
  | witnessLoss => exact inFrame (execWitnessLoss_moves ..)
  | takeover => exact inFrame (execTakeover_moves ..)
  | silentExpiry => exact inFrame (execSilentExpiry_moves ..)
  | startingTimeout => exact inFrame (execStartingTimeout_moves ..)
  | pairSwitch => exact inFrame (execPairSwitch_moves ..)
  | fabFence => exact inFrame (execFabFence_moves ..)
  | fabUnfence => exact inFrame (execFabUnfence_moves ..)
  | queueEnable => exact inFrame (execQueueEnable_moves ..)
  | queueDisable => exact inFrame (execQueueDisable_moves ..)
  | queuePush => exact inFrame (execQueuePush_moves ..)
  | queueEntryArrival => exact inFrame (execQueueEntryArrival_moves ..)
  | queuePop => exact inFrame (execQueuePop_moves ..)
  | creditReturn => exact inFrame (execCreditReturn_moves ..)
  | tokenPageAcq => exact inFrame (execTokenPageAcq_moves ..)
  | tokenPageRel => exact inFrame (execTokenPageRel_moves ..)
  | bankPowerSet => exact inFrame (execBankPowerSet_moves ..)
  | bankWakeDone => exact inFrame (execBankWakeDone_moves ..)
  | scrubRead => exact inFrame (execScrubRead_moves ..)
  | dmaGo => exact inFrame (execDmaGo_moves ..)
  | dmaChainEnd => exact inFrame (execDmaChainEnd_moves ..)
  | marchStart => exact inFrame (execMarchStart_moves ..)
  | marchStop => exact inFrame (execMarchStop_moves ..)
  | loanEnd => exact inFrame (execLoanEnd_moves ..)
  | loanAbort => exact inFrame (execLoanAbort_moves ..)
  | marchDone => exact inFrame (execMarchDone_moves ..)
  | marchRepair => exact inFrame (execMarchRepair_moves ..)
  | repairDone => exact inFrame (execRepairDone_moves ..)
  | canEnable => exact inFrame_page (execCanEnable_moves ..)
  | canIntegrated => exact inFrame_page (execCanIntegrated_moves ..)
  | canTxRequest => exact inFrame_page (execCanTxRequest_moves ..)
  | canTxAbort => exact inFrame_page (execCanTxAbort_moves ..)
  | canArbitrationLost => exact inFrame_page (execCanArbitrationLost_moves ..)
  | canTxEnd => exact inFrame_page (execCanTxEnd_moves ..)
  | canFrameReceive => exact inFrame_page (execCanFrameReceive_moves ..)
  | canError => exact inFrame_page (execCanError_moves ..)
  | canRecover => exact inFrame_page (execCanRecover_moves ..)
  | canRecoveryEnd => exact inFrame_page (execCanRecoveryEnd_moves ..)
  | busOffDelayExpiry => exact inFrame_page (execBusOffDelayExpiry_moves ..)
  | canRxFlush => exact inFrame_page (execCanRxFlush_moves ..)
  | canRxLock => exact inFrame_page (execCanRxLock_moves ..)
  | canRxPop => exact inFrame_page (execCanRxPop_moves ..)
  | canForward => exact inFrame_page (execCanForward_moves ..)
  | canTxService => exact inFrame_page (execCanTxService_moves ..)
  | diSample => exact inFrame (execDiSample_moves ..)
  | edgePop => exact inFrame (execEdgePop_moves ..)
  | doTrip => exact inFrame (execDoTrip_moves ..)
  | doRetry => exact inFrame (execDoRetry_moves ..)
  | doClearShort => exact inFrame (execDoClearShort_moves ..)
  | openLoad => exact inFrame (execOpenLoad_moves ..)
  | loopFault => exact inFrame (execLoopFault_moves ..)
  | couplerFault => exact inFrame (execCouplerFault_moves ..)
  | fskTxWrite => exact inFrame (execFskTxWrite_moves ..)
  | fskCharacterSent => exact inFrame (execFskCharacterSent_moves ..)
  | fskCharacterReceive => exact inFrame (execFskCharacterReceive_moves ..)
  | fskRxPop => exact inFrame (execFskRxPop_moves ..)
  | silenceExpiry => exact inFrame (execSilenceExpiry_moves ..)
  | fpxMute => exact inFrame (execFpxMute_moves ..)
  | muteEnd => exact inFrame (execMuteEnd_moves ..)
  | fieldArm => exact inFrame (execFieldArm_moves ..)
  | fieldDisarm => exact inFrame (execFieldDisarm_moves ..)
  | fv24Crossing => exact inFrame (execFv24Crossing_moves ..)
  | trimStep => exact inFrame (execTrimStep_moves ..)
  | trimPinPress => exact inFrame (execTrimPinPress_moves ..)
  | trimPinHold => exact inFrame (execTrimPinHold_moves ..)
  | trimTimeout => exact inFrame (execTrimTimeout_moves ..)
  | trimCommit => exact inFrame (execTrimCommit_moves ..)
  | nvcWordQueue => exact inFrame (execNvcWordQueue_moves ..)
  | stacksWordWriteEnd => exact inFrame (execStacksWordWriteEnd_moves ..)
  | stacksRead => exact inFrame (execStacksRead_moves ..)
  | nvcClearPoison => exact inFrame (execNvcClearPoison_moves ..)
  | refreshPage => exact inFrame (execRefreshPage_moves ..)
  | archiveRecord => exact inFrame (execArchiveRecord_moves ..)
  | budgetRefill => exact inFrame (execBudgetRefill_moves ..)
  | archiveFlush => exact inFrame (execArchiveFlush_moves ..)
  | recordAgeFlush => exact inFrame (execRecordAgeFlush_moves ..)
  | flushEnd => exact inFrame (execFlushEnd_moves ..)
  | archiveAnnounce => exact inFrame (execArchiveAnnounce_moves ..)
  | tallyUpdate => exact inFrame (execTallyUpdate_moves ..)
  | tallyDefine => exact inFrame (execTallyDefine_moves ..)
  | binEdgeWrite => exact inFrame (execBinEdgeWrite_moves ..)
  | tallySnapshot => exact inFrame (execTallySnapshot_moves ..)
  | tallySnapshotPeriod => exact inFrame (execTallySnapshotPeriod_moves ..)
  | tallySnapshotEnd => exact inFrame (execTallySnapshotEnd_moves ..)
  | supplyChangeoverVbat => exact inFrame (execSupplyChangeoverVbat_moves ..)
  | supplyChangeoverMain => exact inFrame (execSupplyChangeoverMain_moves ..)
  | continuityLoss => exact inFrame (execContinuityLoss_moves ..)
  | alwaysOnReset => exact inFrame (execAlwaysOnReset_moves ..)
  | vbatMeasure => exact inFrame (execVbatMeasure_moves ..)
  | rtcSecond => exact inFrame (execRtcSecond_moves ..)
  | xtalFail => exact inFrame (execXtalFail_moves ..)
  | xtalReturn => exact inFrame (execXtalReturn_moves ..)
  | rtcLoad => exact inFrame (execRtcLoad_moves ..)
  | rtcSync => exact inFrame (execRtcSync_moves ..)
  | rtcMeasureStart => exact inFrame (execRtcMeasureStart_moves ..)
  | rtcMeasureEnd => exact inFrame (execRtcMeasureEnd_moves ..)
  | mainsLoss => exact inFrame (execMainsLoss_moves ..)
  | comparatorEdge => exact inFrame (execComparatorEdge_moves ..)
  | guardService => exact inFrame (execGuardService_moves ..)
  | guardWarn => exact inFrame (execGuardWarn_moves ..)
  | guardExpiry => exact inFrame (execGuardExpiry_moves ..)
  | guardKey => exact inFrame (execGuardKey_moves ..)
  | guardEnable => exact inFrame (execGuardEnable_moves ..)
  | guardLock => exact inFrame (execGuardLock_moves ..)
  | guardDisable => exact inFrame (execGuardDisable_moves ..)
  | refclkFail => exact inFrame (execRefclkFail_moves ..)
  | refclkRevert => exact inFrame (execRefclkRevert_moves ..)
  | powerOnReset => exact inFrame (execPowerOnReset_moves ..)
  | resetRelease => exact inFrame (execResetRelease_moves ..)
  | selftestEnd => exact inFrame (execSelftestEnd_moves ..)
  | boot => exact inFrame (execBoot_moves ..)
  | partReset => exact inFrame (execPartReset_moves ..)
  | dieReset => exact inFrame (execDieReset_moves ..)
  | dieRetain => exact inFrame (execDieRetain_moves ..)
  | sleepRequest => exact inFrame (execSleepRequest_moves ..)
  | wake => exact inFrame (execWake_moves ..)
  | modeSet => exact inFrame (execModeSet_moves ..)
  | updateOpen => exact inFrame (execUpdateOpen_moves ..)
  | updateClose => exact inFrame (execUpdateClose_moves ..)
  | sessionData => exact inFrame (execSessionData_moves ..)
  | sessionTimeout => exact inFrame (execSessionTimeout_moves ..)
  | sessionVerifyEnd => exact inFrame (execSessionVerifyEnd_moves ..)
  | updateActivate => exact inFrame (execUpdateActivate_moves ..)
  | partnerDoneDeadline => exact inFrame (execPartnerDoneDeadline_moves ..)
  | firmwareCopyEnd => exact inFrame (execFirmwareCopyEnd_moves ..)
  | updResume => exact inFrame (execUpdResume_moves ..)
  | resumeDeadline => exact inFrame (execResumeDeadline_moves ..)
  | rotationStep => exact inFrame (execRotationStep_moves ..)
  | updHealthy => exact inFrame (execUpdHealthy_moves ..)
  | executiveHealthMark => exact inFrame (execExecutiveHealthMark_moves ..)
  | updateConfirm => exact inFrame (execUpdateConfirm_moves ..)
  | trialDeadline => exact inFrame (execTrialDeadline_moves ..)
  | settingsRead => exact inFrame (execSettingsRead_moves ..)
  | settingsWrite => exact inFrame (execSettingsWrite_moves ..)
  | nvProtect => exact inFrame (execNvProtect_moves ..)
  | keyRotate => exact inFrame (execKeyRotate_moves ..)
  | timeSet => exact inFrame (execTimeSet_moves ..)
  | busRecover => exact inFrame (execBusRecover_moves ..)
  | mspiStatus => exact inFrame (execMspiStatus_moves ..)
  | mspiWriteIn => exact inFrame (execMspiWriteIn_moves ..)
  | mspiReadOut => exact inFrame (execMspiReadOut_moves ..)
  | mspiUnknownCommand => exact inFrame (execMspiUnknownCommand_moves ..)
  | authCounterRead => exact inFrame (execAuthCounterRead_moves ..)
  | fsupLastRead => exact inFrame (execFsupLastRead_moves ..)
  | updDeadlineRead => exact inFrame (execUpdDeadlineRead_moves ..)
  | partnerLinkAligned => exact inFrame (execPartnerLinkAligned_moves ..)
  | fskCarrierChange => exact inFrame (execFskCarrierChange_moves ..)
  | ptpMessageInterval => exact inFrame (execPtpMessageInterval_moves ..)
  | rtcSyncLoad => exact inFrame (execRtcSyncLoad_moves ..)
  | rtcResyncPeriod => exact inFrame (execRtcResyncPeriod_moves ..)
  | debugResume => exact inFrame (execDebugResume_moves ..)
  | authorityReply => exact inFrame (execAuthorityReply_moves ..)
  | temperatureSample => exact inFrame (execTemperatureSample_moves ..)

theorem Part.ix_inj {p q : Part} (h : p.ix = q.ix) : p = q := by
  rw [← Part.ofNat_ctorIdx p, ← Part.ofNat_ctorIdx q]; exact congrArg Part.ofNat h

/-- The bits of a list of parts. -/
theorem Moves.parts_testBit (l : List Part) (p : Part) : (Moves.parts l).testBit p.ix = l.contains p := by
  induction l with
  | nil => exact Nat.zero_testBit _
  | cons q l ih =>
    have hq : decide (q.ix = p.ix) = (p == q) := by
      rw [beq_eq_decide]; exact decide_eq_decide.mpr ⟨fun h => (Part.ix_inj h).symm, fun h => h ▸ rfl⟩
    show ((1 <<< q.ix) ||| Moves.parts l).testBit p.ix = _
    rw [Nat.testBit_or, ih, Nat.one_shiftLeft, Nat.testBit_two_pow, hq, List.contains_cons]

theorem Part.ix_lt (p : Part) : p.ix < 64 := by
  cases p <;> decide

/-- The pages of a mask stand above its parts. -/
theorem Moves.all_part (p : Part) : Moves.all.testBit p.ix = false := by
  rw [show Moves.all = (2 ^ 64 - 1) <<< 64 from rfl, Nat.testBit_shiftLeft, decide_eq_false (Nat.not_le.mpr p.ix_lt),
    Bool.false_and]

theorem Moves.pageSet_part (o : Option (List Nat)) (p : Part) : (Moves.pageSet o).testBit p.ix = false := by
  cases o with
  | none => exact Moves.all_part p
  | some l =>
    induction l with
    | nil => exact Nat.zero_testBit _
    | cons c l ih =>
      have hp := p.ix_lt
      show (Moves.page c ||| Moves.pageSet (some l)).testBit p.ix = false
      rw [Nat.testBit_or, ih, Moves.page, Nat.one_shiftLeft, Nat.testBit_two_pow, decide_eq_false (by omega), Bool.false_or]

/-- A move within a list of parts changes nothing else. -/
theorem Moves.changesOnly {l : List Part} {s t : State} (h : Moves (Moves.parts l ||| Moves.all) s t) : ChangesOnly l s t :=
  h.changes fun p hp => by rw [Nat.testBit_or, Moves.parts_testBit, hp, Moves.all_part, Bool.or_self]

/-- No command has the queue in its frame. -/
theorem partsOf_pending (c : Instr) : (partsOf c).contains .pending = false := by
  cases c <;> rfl

/-- Settles O3: the frame of every command leaves the queue out. -/
theorem everyCommandCompletesAndKeepsTheStateSane : Obligations.EveryCommandCompletesAndKeepsTheStateSane := by
  intro c s
  obtain ⟨t, ht, hm⟩ := exec_moves c s
  refine ⟨t, ht, hm.sane, hm.draws, hm.part .pending ?_⟩
  rw [frameMask, Nat.testBit_or, Moves.parts_testBit, partsOf_pending, Moves.pageSet_part, Bool.or_self]

end Sys2Proof.Machine
end

section
/-! SUPPORT.  A write to a register of RW fields: what it stores, and that the registers listed have no effect beyond the
store. -/

open Sys2Proof Sys2Proof.Machine Sys2Proof.Bits
namespace Sys2Proof.Machine

/-- A register whose fields lie at places of their own and are not seen through a window. -/
def unwindowed (die code off : Nat) : Bool :=
  (regFields die code off).all (fun f => f.win == .none && f.wix == 0) && decide ((regFields die code off).Pairwise apart)

/-- A register of a page whose fields are all RW and not seen through a window. -/
def rwRegister (die code off : Nat) : Bool :=
  pageAt die code off && decide (code < 64) && unwindowed die code off && (regFields die code off).all (fun f => f.acc == .rw)

/-- The RW fields of such a register read their parts of the word stored. -/
theorem written_get {s : State} (h : s.Sane) (w : Who) {die code off word : Nat} (hu : unwindowed die code off = true)
    {f : FieldDef} (hf : f ∈ regFields die code off) (ha : f.acc = .rw) :
    (written s w die code off word).rd die f = f.get word := by
  unfold unwindowed at hu
  simp only [Bool.and_eq_true, decide_eq_true_eq, List.all_eq_true, beq_iff_eq] at hu
  obtain ⟨hwin, hp⟩ := hu
  have hget := storeFields_get (who := w.code) (die := die) (word := word) (k := 0) hp
    (fun g hg t => by rw [(hwin g hg).1]; rfl) ((takeArming_moves s die code w.code).sane h) hf ha
  rwa [show f.w 0 = f by rw [FieldDef.w, ← (hwin f hf).2]] at hget

theorem rwRegister_iff {die code off : Nat} : rwRegister die code off = true ↔ pageAt die code off = true ∧ code < 64 ∧
    unwindowed die code off = true ∧ ∀ f ∈ regFields die code off, f.acc = .rw := by
  unfold rwRegister
  simp only [Bool.and_eq_true, decide_eq_true_eq, List.all_eq_true, beq_iff_eq, and_assoc]

theorem pageAt_off {die code off : Nat} (h : pageAt die code off = true) : off < 4096 := by
  unfold pageAt at h
  simp only [Bool.and_eq_true, decide_eq_true_eq] at h
  exact h.1.2

/-- A store to a register leaves every other register. -/
theorem written_registersOnly {s : State} (h : s.Sane) (w : Who) {die code off word : Nat} (hc : code < 64)
    (ho : off < 4096) : RegistersOnly [(code, off)] s (written s w die code off word) := by
  intro e g hg
  have hne : g.code % 64 = code → g.off % 4096 ≠ off := by simpa using hg
  exact written_rd h w die (by omega)

/-- A store changes registers, dirty marks and the arming of the page. -/
theorem written_changes (s : State) (w : Who) (die code off word : Nat) :
    ChangesOnly [.regs, .dirty, .arming] s (written s w die code off word) :=
  ((written_moves s w die code off word).sub (Moves.page_any rfl)).changesOnly

/-- A write with an effect that the page takes and whose word fits: the effect, on the state with the word stored. -/
theorem writeWith_fits {s : State} {w : Who} {die code off word : Nat} {k : State → State → Nat → State}
    (hs : s.takes w die code = true) (h : s.fits w die code off word = true) (h3 : ¬ (code = 0x09 ∧ off = 0x114)) :
    writeWith w die code off word s k = k s (written s w die code off word) word := by
  unfold writeWith
  rw [pageWrite_fits hs h (.inl fun hc => h3 hc.2)]

/-- The registers of the Keeper whose write is their store (and, of `TICK.PERIOD`, the span that it sets). -/
def keeperStores : List (Nat × Nat) :=
  [(0x05, 0x100), (0x06, 0x100), (0x06, 0x108), (0x07, 0x108), (0x08, 0x104), (0x09, 0x124), (0x0A, 0x100),
   (0x0A, 0x104), (0x0A, 0x108), (0x0A, 0x10C), (0x0A, 0x110), (0x0B, 0x100), (0x0B, 0x104), (0x0E, 0x114),
   (0x0E, 0x118), (0x0E, 0x124), (0x0E, 0x130), (0x0E, 0x134), (0x0F, 0x100), (0x0F, 0x104), (0x0F, 0x108),
   (0x0F, 0x110), (0x11, 0x14C), (0x11, 0x150), (0x12, 0x124), (0x13, 0x100), (0x14, 0x104), (0x15, 0x104),
   (0x15, 0x108), (0x15, 0x128), (0x17, 0x104), (0x19, 0x104), (0x1A, 0x100), (0x1A, 0x104), (0x1A, 0x108),
   (0x1A, 0x10C), (0x1B, 0x104), (0x1B, 0x108), (0x1C, 0x100), (0x1D, 0x104), (0x1D, 0x108), (0x21, 0x104),
   (0x21, 0x108), (0x21, 0x128), (0x23, 0x100), (0x23, 0x104), (0x23, 0x108), (0x23, 0x110), (0x28, 0x100)]

/-- The registers of a Scan die whose write is their store. -/
def scanStores : List (Nat × Nat) :=
  [(0x05, 0x100), (0x06, 0x100), (0x06, 0x108), (0x07, 0x108), (0x08, 0x104), (0x09, 0x104), (0x0B, 0x100),
   (0x0C, 0x104), (0x0E, 0x104), (0x0E, 0x108), (0x0E, 0x10C), (0x0E, 0x110), (0x0E, 0x130), (0x0E, 0x134)]

theorem keeperStores_rw : ∀ x ∈ keeperStores, rwRegister 0 x.1 x.2 = true := by decide +kernel

theorem scanStores_rw : ∀ d ∈ scanDies, ∀ x ∈ scanStores, rwRegister d x.1 x.2 = true := by decide +kernel

theorem mem_scanDies {die : Nat} (h : isScan die = true) : die ∈ scanDies := by
  simp only [isScan, Bool.and_eq_true, decide_eq_true_eq] at h
  simp only [scanDies, List.mem_cons, List.not_mem_nil]
  omega

theorem regWrite_keeperStores (w : Who) (word : Nat) (s : State) :
    ∀ x ∈ keeperStores, regWrite w 0 x.1 x.2 word s = writeWith w 0 x.1 x.2 word s (keeperEffect w x.1 x.2) := by
  intro x hx
  fin_cases hx <;> rfl

theorem keeperEffect_keeperStores (w : Who) (pre s : State) (v : Nat) :
    ∀ x ∈ keeperStores, keeperEffect w x.1 x.2 pre s v = if x = (0x0A, 0x100) then periodSet pre s else s := by
  intro x hx
  fin_cases hx <;> rfl

theorem regWrite_scanStores (w : Who) {die : Nat} (hd : isScan die = true) (word : Nat) (s : State) :
    ∀ x ∈ scanStores, regWrite w die x.1 x.2 word s = writeWith w die x.1 x.2 word s (scanEffect w die x.1 x.2) := by
  have h0 : die ≠ 0 := by rintro rfl; cases hd
  have h1 : die ≠ 1 := by rintro rfl; cases hd
  intro x hx
  fin_cases hx <;> simp [regWrite, h0, h1]

theorem scanEffect_scanStores (w : Who) (die : Nat) (pre s : State) (v : Nat) :
    ∀ x ∈ scanStores, scanEffect w die x.1 x.2 pre s v = s := by
  intro x hx
  fin_cases hx <;> rfl

theorem periodSet_regs (pre s : State) : (periodSet pre s).regs = s.regs := by
  unfold periodSet
  split <;> rfl

/-- `TICK.PERIOD` sets the span of the exchange beside its store. -/
theorem periodSet_written_changes (s : State) (w : Who) (die code off word : Nat) :
    ChangesOnly [.regs, .dirty, .arming, .exch] s (periodSet s (written s w die code off word)) :=
  (((written_moves s w die code off word).sub (Moves.page_any rfl)).step (periodSet_moves ..)).changesOnly

theorem exec_registerWrite {die code off : Nat} (h : pageAt die code off = true) (w : Who) (word : Nat) (s : State) :
    exec (.registerWrite w die code off word) s = .next (regWrite w die code off word s) := by
  show execRegisterWrite w die code off word s = _
  rw [execRegisterWrite, if_pos h]

/-- What a write that ends in the registers of the store shows of them. -/
theorem stored_registers {s t : State} (h : s.Sane) (w : Who) {die code off word : Nat} (hr : rwRegister die code off = true)
    (ht : t.regs = (written s w die code off word).regs) :
    (∀ f ∈ regFields die code off, t.rd die f = f.get word) ∧ RegistersOnly [(code, off)] s t := by
  obtain ⟨hp, hc, hu, hacc⟩ := rwRegister_iff.mp hr
  exact ⟨fun f hf => by rw [State.rd_congr ht, written_get h w hu hf (hacc f hf)],
    fun e g hg => by rw [State.rd_congr ht, written_registersOnly h w hc (pageAt_off hp) e g hg]⟩

/-- A write to a listed register of the Keeper is its store, and of `TICK.PERIOD` the span. -/
theorem exec_keeperStores {s : State} {w : Who} {code off word : Nat} (hx : (code, off) ∈ keeperStores)
    (hs : s.takes w 0 code = true) (hf : s.fits w 0 code off word = true) :
    exec (.registerWrite w 0 code off word) s = .next (if (code, off) = (0x0A, 0x100)
      then periodSet s (written s w 0 code off word) else written s w 0 code off word) := by
  have h3 : ¬ (code = 0x09 ∧ off = 0x114) := by rintro ⟨rfl, rfl⟩; exact absurd hx (by decide)
  rw [exec_registerWrite ((rwRegister_iff.mp (keeperStores_rw _ hx)).1), regWrite_keeperStores w word s _ hx,
    writeWith_fits hs hf h3, keeperEffect_keeperStores w _ _ _ _ hx]

/-- A write to a listed register of a Scan die is its store. -/
theorem exec_scanStores {s : State} {w : Who} {die code off word : Nat} (hd : isScan die = true) (hx : (code, off) ∈ scanStores)
    (hs : s.takes w die code = true) (hf : s.fits w die code off word = true) :
    exec (.registerWrite w die code off word) s = .next (written s w die code off word) := by
  have h3 : ¬ (code = 0x09 ∧ off = 0x114) := by rintro ⟨rfl, rfl⟩; exact absurd hx (by decide)
  rw [exec_registerWrite ((rwRegister_iff.mp (scanStores_rw _ (mem_scanDies hd) _ hx)).1), regWrite_scanStores w hd word s _ hx,
    writeWith_fits hs hf h3, scanEffect_scanStores w _ _ _ _ _ hx]

/-- Settles O9: the write is the store of its fields. -/
theorem registerWriteStoresEveryField : Obligations.RegisterWriteStoresEveryField := by
  intro s w die code off word h hreg hs hf
  rcases hreg with ⟨rfl, hx⟩ | ⟨hd, hx⟩
  · have he := exec_keeperStores hx hs hf
    have hr := keeperStores_rw _ hx
    by_cases hp : (code, off) = (0x0A, 0x100)
    · rw [if_pos hp] at he
      obtain ⟨hget, honly⟩ := stored_registers h w hr (periodSet_regs s _)
      obtain ⟨rfl, rfl⟩ := Prod.mk.inj hp
      exact ⟨_, he, hget, periodSet_written_changes s w 0 0x0A 0x100 word, honly⟩
    · rw [if_neg hp] at he
      obtain ⟨hget, honly⟩ := stored_registers h w hr rfl
      rw [if_neg fun hc => hp (Prod.ext hc.2.1 hc.2.2)]
      exact ⟨_, he, hget, written_changes s w 0 code off word, honly⟩
  · have hr := scanStores_rw _ (mem_scanDies hd) _ hx
    obtain ⟨hget, honly⟩ := stored_registers h w hr rfl
    have hne : die ≠ 0 := by rintro rfl; cases hd
    rw [if_neg fun hc => hne hc.1]
    exact ⟨_, exec_scanStores hd hx hs hf, hget, written_changes s w die code off word, honly⟩

end Sys2Proof.Machine
end

section
/-! SUPPORT.  Clearing reads of the counters of `FAB`, soft resets of the pages of a Scan die, and the zeroing of slip counts. -/

open Sys2Proof Sys2Proof.Machine Sys2Proof.Bits
namespace Sys2Proof.SMap

/-- A key that a filter drops is not listed. -/
theorem find?_keep_none {α : Type} {m : SMap α} {p : Nat → Bool} {k : Nat} (h : p k = false) : find? (keep p m) k = none := by
  induction m with
  | nil => rfl
  | cons e m ih =>
    unfold keep at ih ⊢
    by_cases hp : p e.1 = true
    · have hk : e.1 ≠ k := fun hk => by rw [hk, h] at hp; cases hp
      rw [List.filter_cons_of_pos (by exact hp), find?, if_neg hk, ih, ite_self]
    · rw [List.filter_cons_of_neg (by exact hp), ih]

end Sys2Proof.SMap

namespace Sys2Proof.Machine

/-! ### Fields returned to zero -/

/-- Zero written to the fields of a list: what a clearing read and the zeroing of the slip counts have in common. -/
def zeroFields (die : Nat) (fs : List FieldDef) (s : State) : State := fs.foldl (fun s f => s.wr die f 0) s

theorem zeroFields_cons (die : Nat) (f : FieldDef) (fs : List FieldDef) (s : State) :
    zeroFields die (f :: fs) s = zeroFields die fs (s.wr die f 0) := rfl

/-- Fields apart from those of the list keep their values. -/
theorem zeroFields_keep {die e : Nat} {g : FieldDef} {fs : List FieldDef} (hf : ∀ f ∈ fs, apart g f) {s : State} (h : s.Sane) :
    (zeroFields die fs s).rd e g = s.rd e g := by
  induction fs generalizing s with
  | nil => rfl
  | cons f fs ih =>
    rw [zeroFields_cons, ih (fun x hx => hf x (List.mem_cons_of_mem f hx)) (h.wr ..)]
    exact State.rd_wr_other h _ (hf f List.mem_cons_self)

/-- A field that reads 0 still does after a zero written to any field whose reset value is 0. -/
theorem rd_wr_zero {die : Nat} {f g : FieldDef} (hf : f.resetAt die = 0) (hg : g.resetAt die = 0) {s : State} (h : s.Sane)
    (hr : f = g ∨ s.rd die f = 0) : (s.wr die g 0).rd die f = 0 := by
  by_cases hk : f.key die = g.key die
  · have hsame := State.rd_wr_same h die g 0
    unfold State.rd at hsame ⊢
    rw [hg] at hsame
    rw [hk, hf, hsame, Nat.zero_mod]
  · rw [State.rd_wr_ne h 0 hk]
    exact hr.resolve_left fun e => hk (by rw [e])

/-- Every field of the list reads 0 afterwards, where 0 is the reset value of them all. -/
theorem zeroFields_zero {die : Nat} {f : FieldDef} {fs : List FieldDef} (hz : ∀ g ∈ fs, g.resetAt die = 0)
    (hf : f.resetAt die = 0) {s : State} (h : s.Sane) (hr : f ∈ fs ∨ s.rd die f = 0) : (zeroFields die fs s).rd die f = 0 := by
  induction fs generalizing s with
  | nil => exact hr.resolve_left List.not_mem_nil
  | cons g fs ih =>
    rw [zeroFields_cons]
    refine ih (fun x hx => hz x (List.mem_cons_of_mem g hx)) (h.wr ..) ?_
    have hg := hz g List.mem_cons_self
    rcases hr with hm | hr
    · rcases List.mem_cons.mp hm with rfl | hm
      · exact .inr (rd_wr_zero hf hg h (.inl rfl))
      · exact .inl hm
    · exact .inr (rd_wr_zero hf hg h (.inr hr))

theorem zeroFields_moves {die code : Nat} {fs : List FieldDef} (hc : ∀ f ∈ fs, f.code = code) (s : State) :
    Moves (0x80000000010 ||| Moves.page code) s (zeroFields die fs s) := by
  unfold zeroFields
  refine Moves.foldlMem (g := id) (fun t f hf => ?_) .refl
  rw [← hc f hf]
  exact State.wr_moves t die f 0

/-! ### Clearing reads -/

/-- The counters of `FAB` that a read clears (R352). -/
def fabCounters : List Nat := [0x110, 0x114, 0x118, 0x11C, 0x120, 0x124, 0x128]

/-- Their fields are RC with reset value 0, and not seen through a window. -/
theorem fabCounters_fields : ∀ d ∈ 0 :: scanDies, ∀ off ∈ fabCounters, pageAt d 5 off = true ∧ 0x100 ≤ off ∧
    ∀ f ∈ regFields d 5 off, f.acc = .rc ∧ f.win = .none ∧ f.wix = 0 ∧ f.resetAt d = 0 := by decide +kernel

theorem readLatch_fab (off : Nat) (s : State) : ∀ d ∈ 0 :: scanDies, readLatch d 5 off s = s := by
  intro d hd
  fin_cases hd <;> rfl

/-- A read of a register of RC fields clears them. -/
theorem readTakes_rc {die off : Nat} (hd : die ≠ 1) (who : Nat)
    (hf : ∀ f ∈ regFields die 5 off, f.acc = .rc ∧ f.win = .none ∧ f.wix = 0 ∧ f.resetAt die = 0) (s : State) :
    readTakes who die 5 off s = zeroFields die (regFields die 5 off) s := by
  unfold readTakes zeroFields
  rw [if_neg fun h => hd h.1, if_neg fun h => hd h.1, if_neg fun h => absurd h.2.1 (by decide)]
  refine List.foldl_ext _ _ _ fun t f hm => ?_
  obtain ⟨hacc, hwin, hwix, hres⟩ := hf f hm
  have hw : f.w (t.winIx who die f.win) = f := by rw [hwin, FieldDef.w, State.winIx, ← hwix]
  rw [if_pos hacc, hw, State.resetField, hres]

/-- A read of a register that reaches its page (R10). -/
theorem exec_rcRead {s : State} {w : Who} {die code off : Nat} (hp : pageAt die code off = true)
    (hr : s.reaches w die = true) :
    exec (.rcRead w die code off) s =
      .next ((regRead w.code die code off s).1.reply w.code (regRead w.code die code off s).2 false) := by
  show execRcRead w die code off s = _
  rw [execRcRead, if_pos hp, State.reading, State.barred_reaches hr, State.stalled_reaches hr]
  rfl

/-- A read of a counter of `FAB`. -/
theorem exec_rcRead_fab {s : State} {w : Who} {die off : Nat} (hd : die ∈ 0 :: scanDies) (ho : off ∈ fabCounters)
    (hr : s.reaches w die = true) (hn : s.notReady die 5 = false) :
    exec (.rcRead w die 5 off) s =
      .next ((zeroFields die (regFields die 5 off) s).reply w.code (s.readWord w.code die 5 off) false) := by
  obtain ⟨hp, hoff, hf⟩ := fabCounters_fields die hd off ho
  have hd1 : die ≠ 1 := by rintro rfl; exact absurd hd (by decide)
  have hread : regRead w.code die 5 off s = (zeroFields die (regFields die 5 off) s, s.readWord w.code die 5 off) := by
    rw [regRead, if_neg (by simp [hn, hoff]), readLatch_fab off s die hd, ← readTakes_rc hd1 w.code hf]
  rw [exec_rcRead hp hr, hread]

/-- What such a read leaves: the reply, the cleared counter, and nothing beyond the page. -/
theorem fabRead_acts {s : State} (h : s.Sane) {w : Who} {die off : Nat} (hd : die ∈ 0 :: scanDies) (ho : off ∈ fabCounters)
    (hr : s.reaches w die = true) (hn : s.notReady die 5 = false) :
    Completes (.rcRead w die 5 off) s fun t =>
      SMap.find? t.replies w.code = some ⟨s.readWord w.code die 5 off, false⟩ ∧
      (∀ f ∈ regFields die 5 off, t.rd die f = 0) ∧ ChangesOnly [.regs, .dirty, .replies] s t ∧ PagesOnly [5] s t := by
  obtain ⟨-, -, hf⟩ := fabCounters_fields die hd off ho
  have hm : Moves (0x80000000110 ||| Moves.page 5) s
      ((zeroFields die (regFields die 5 off) s).reply w.code (s.readWord w.code die 5 off) false) :=
    ((zeroFields_moves (fun _ => regFields_code) s).sub (Moves.or_mono rfl)).step (State.reply_moves ..) (Moves.or_le rfl)
  exact ⟨_, exec_rcRead_fab hd ho hr hn, SMap.find?_insert_same ..,
    fun f hm => zeroFields_zero (fun g hg => (hf g hg).2.2.2) (hf f hm).2.2.2 h (.inl hm),
    (hm.sub (Moves.page_any rfl)).changesOnly, hm.pagesOnly h⟩

/-! ### Soft resets -/

theorem softResetPage_notReady (s : State) (die code : Nat) : (softResetPage s die code).notReady die code = true := by
  have hs : (softResetPage s die code).softReset = SMap.insert s.softReset (die * 64 + code) (s.cycle + 256) := by
    unfold softResetPage hotChange
    split <;> rfl
  rw [State.notReady, hs, SMap.find?_insert_same]
  rfl

theorem hotChange_rd {pre s : State} (h : s.Sane) {die : Nat} {f : FieldDef} (hc : f.code % 64 ≠ 0x27) :
    (hotChange pre s).rd die f = s.rd die f := by
  unfold hotChange
  split
  · rfl
  · exact State.rd_wr_other h _ (.inl hc)

/-- A field that the soft reset of its page clears reads its reset value (R53). -/
theorem softResetPage_rd {s : State} (h : s.Sane) {die code : Nat} {f : FieldDef}
    (hf : softResetClears die code (f.key die) = true) (hc : f.code % 64 ≠ 0x27) :
    (softResetPage s die code).rd die f = f.resetAt die := by
  refine (hotChange_rd ?_ hc).trans ?_
  · exact ⟨h.1, SMap.sorted_keep (fun k => !softResetClears die code k) h.2⟩
  · rw [State.rd, SMap.get, SMap.find?_keep_none (by rw [hf]; rfl)]
    rfl

/-- Of the header, a soft reset clears `PCTL`, `IRQ_RAW` and `IRQ_EN`. -/
theorem softResetClears_header {die code off : Nat} (hd : die < 8) (hc : code < 64) (ho : off ∈ [0x00C, 0x020, 0x024])
    (width : Nat) (acc : Acc) (reset : Nat) :
    softResetClears die code ((hdr code off 0 width acc reset).key die) = true := by
  have ho' : off = 0x00C ∨ off = 0x020 ∨ off = 0x024 := by simpa using ho
  have hkey : (hdr code off 0 width acc reset).key die = ((die % 8 * 64 + code % 64) * 4096 + off % 4096) * 32 := by
    simp [FieldDef.key, hdr]
  have hoff : (hdr code off 0 width acc reset).key die / 32 % 4096 = off := by rw [hkey]; omega
  have hcode : (hdr code off 0 width acc reset).key die / 131072 % 64 = code := by rw [hkey]; omega
  have hdie : (hdr code off 0 width acc reset).key die / 8388608 % 8 = die := by rw [hkey]; omega
  unfold softResetClears
  simp only [hoff, hcode, hdie, if_pos (show off < 0x100 by omega)]
  simpa [or_assoc] using ho'

/-- A write of `PCTL` that the page takes and that sets no reserved bit. -/
theorem pageWrite_pctl {s : State} {w : Who} {die code word : Nat} (hs : s.takes w die code = true)
    (hr : srstRefused s die code = false) (hw : word < 4) :
    pageWrite s w die code 0x00C word =
      ⟨(takeArming s die code w.code).2.wr die (PCTL_EN code) (word % 2), some word⟩ := by
  unfold State.takes at hs
  simp only [Bool.and_eq_true, Bool.not_eq_true'] at hs
  obtain ⟨⟨hreach, hmay⟩, hready⟩ := hs
  have hr' : srstRefused (takeArming s die code w.code).2 die code = false := hr
  rw [pageWrite_reaches hreach]
  unfold pageTake
  simp only [hmay, takeArming_notReady, hready, hr', Bool.and_false, Bool.not_true, Bool.false_eq_true, if_false,
    Nat.div_eq_of_lt hw, Nat.mod_eq_of_lt hw, if_true]
  rfl

/-- The pages of a Scan die whose soft reset is that of `softResetPage` alone. -/
def plainResets : List Nat := [0x00, 0x01, 0x02, 0x03, 0x04, 0x05, 0x09, 0x0A, 0x0B, 0x0D, 0x12]

theorem softReset_plainResets (die : Nat) (s : State) : ∀ c ∈ plainResets, softReset die c s = softResetPage s die c := by
  intro c hc
  fin_cases hc <;> rfl

theorem enableFollows_scan {die : Nat} (h : die ≠ 0) (code : Nat) (s : State) : enableFollows die code s = s := by
  unfold enableFollows
  rw [if_pos h]

theorem plainResets_pageAt : ∀ d ∈ scanDies, ∀ c ∈ plainResets, pageAt d c 0x00C = true := by decide +kernel

theorem mem_plainResets {code : Nat} (hc : code < 0x13) (hcore : ¬(0x0E ≤ code ∧ code ≤ 0x11)) (hn : code ∉ [6, 7, 8, 0x0C]) :
    code ∈ plainResets := by
  simp only [List.mem_cons, List.not_mem_nil, or_false, not_or] at hn
  simp only [plainResets, List.mem_cons, List.not_mem_nil, or_false]
  omega

/-- A soft reset of such a page. -/
theorem exec_softReset_plain {s : State} {w : Who} {die code : Nat} (en : Bool) (hd : isScan die = true)
    (hc : code ∈ plainResets) (hs : s.takes w die code = true) (hr : srstRefused s die code = false) :
    exec (.softReset w die code en) s =
      .next (softResetPage ((takeArming s die code w.code).2.wr die (PCTL_EN code) ((2 + ofBool en) % 2)) die code) := by
  have h0 : die ≠ 0 := by rintro rfl; cases hd
  have h1 : die ≠ 1 := by rintro rfl; cases hd
  have hw : 2 + ofBool en < 4 ∧ bit (2 + ofBool en) 1 = true := by cases en <;> decide
  show execSoftReset w die code en s = _
  rw [execSoftReset, if_pos (plainResets_pageAt die (mem_scanDies hd) code hc), regWrite, if_neg h1, if_neg fun h => h0 h.1,
    if_pos rfl, writeThen_clean (pageWrite_pctl hs hr hw.1), pctlWrite, enableFollows_scan h0, if_pos hw.2,
    softReset_plainResets _ _ _ hc]

/-- What such a soft reset leaves of the page header (R53). -/
theorem softReset_acts {s : State} (h : s.Sane) {w : Who} {die code : Nat} (en : Bool) (hd : isScan die = true)
    (hc : code ∈ plainResets) (hs : s.takes w die code = true) (hr : srstRefused s die code = false) :
    Completes (.softReset w die code en) s fun t =>
      t.notReady die code = true ∧ t.rd die (PCTL_EN code) = 1 ∧ t.rd die (IRQ_RAW_SRC code) = 0 ∧
      t.rd die (IRQ_EN_SRC code) = 0 := by
  have hd8 : die < 8 := by unfold isScan at hd; simp only [Bool.and_eq_true, decide_eq_true_eq] at hd; omega
  have hc13 : code < 0x13 := (by decide : ∀ c ∈ plainResets, c < 0x13) code hc
  have hsane := (((takeArming_moves s die code w.code).sane h).wr die (PCTL_EN code) ((2 + ofBool en) % 2))
  have hne : code % 64 ≠ 0x27 := by omega
  have hclear {off : Nat} (ho : off ∈ [0x00C, 0x020, 0x024]) := softResetClears_header hd8 (code := code) (by omega) ho
  exact ⟨_, exec_softReset_plain en hd hc hs hr, softResetPage_notReady .., softResetPage_rd hsane (hclear (by decide) ..) hne,
    softResetPage_rd hsane (hclear (by decide) ..) hne, softResetPage_rd hsane (hclear (by decide) ..) hne⟩

/-! ### Slip counts -/

/-- The slip counts of a die: the total and one for each page code (R61). -/
def slipCounts (die : Nat) : List FieldDef := clampF die Reg.CLAMP_TOTAL_COUNT :: (List.range 0x2A).map CLAMPS_COUNT

theorem clampZero_eq (s : State) (die : Nat) : clampZero s die = zeroFields die (slipCounts die) s := by
  rw [slipCounts, zeroFields_cons, zeroFields, List.foldl_map]
  rfl

theorem slipCounts_resetAt (die : Nat) : ∀ f ∈ slipCounts die, f.resetAt die = 0 := by
  intro f hf
  rcases List.mem_cons.mp hf with rfl | hf
  · rfl
  · obtain ⟨c, -, rfl⟩ := List.mem_map.mp hf
    rfl

theorem slipCounts_apart (die : Nat) : ∀ f ∈ slipCounts die, apart (clampF die Reg.CLAMP_CTL_ARCHIVE) f := by
  intro f hf
  rcases List.mem_cons.mp hf with rfl | hf
  · exact .inr (.inl (by decide : Reg.CLAMP_CTL_ARCHIVE.off % 4096 ≠ Reg.CLAMP_TOTAL_COUNT.off % 4096))
  · obtain ⟨c, -, rfl⟩ := List.mem_map.mp hf
    exact .inr (.inl (by decide : Reg.CLAMP_CTL_ARCHIVE.off % 4096 ≠ (CLAMPS_COUNT 0).off % 4096))

/-- `CLAMP.CTL` of every die: a word of ARCHIVE with ZERO set is plain, and ARCHIVE is a field of the register. -/
theorem clampCtl_plain : ∀ die < 8, (pageFields die (clampPage die)).isSome = true ∧
    unwindowed die (clampPage die) 0x100 = true ∧ clampF die Reg.CLAMP_CTL_ARCHIVE ∈ regFields die (clampPage die) 0x100 ∧
    ∀ word ∈ [2, 3], plainRegister die (clampPage die) 0x100 word = true := by decide +kernel

/-- A write to `CLAMP.CTL` with ZERO set. -/
theorem exec_clampZero {s : State} {w : Who} {die word : Nat} (hd : die < 8) (hw : word ∈ [2, 3])
    (hs : s.takes w die (clampPage die) = true) :
    exec (.clampZero w die word) s = .next (zeroFields die (slipCounts die) (written s w die (clampPage die) 0x100 word)) := by
  obtain ⟨hp, -, -, hplain⟩ := clampCtl_plain die hd
  have hbit : bit word 1 = true := (by decide : ∀ v ∈ [2, 3], bit v 1 = true) word hw
  show execClampZero w die word s = _
  rw [execClampZero, if_pos hp, writeThen_plain hs (hplain word hw), if_pos hbit, clampZero_eq]

/-- What the zeroing leaves of the CLAMP page and of the counts (R61). -/
theorem clampZero_acts {s : State} (h : s.Sane) {w : Who} {die word : Nat} (hd : die < 8) (hw : word ∈ [2, 3])
    (hs : s.takes w die (clampPage die) = true) :
    Completes (.clampZero w die word) s fun t =>
      t.rd die (clampF die Reg.CLAMP_TOTAL_COUNT) = 0 ∧ t.rd die (clampF die Reg.CLAMP_CTL_ARCHIVE) = word % 2 ∧
      ∀ c, c < 0x2A → t.rd die (CLAMPS_COUNT c) = 0 := by
  obtain ⟨-, hu, hmem, -⟩ := clampCtl_plain die hd
  have hsane : (written s w die (clampPage die) 0x100 word).Sane := (written_moves ..).sane h
  have hzero {f : FieldDef} (hf : f ∈ slipCounts die) :=
    zeroFields_zero (slipCounts_resetAt die) (slipCounts_resetAt die f hf) hsane (.inl hf)
  refine ⟨_, exec_clampZero hd hw hs, hzero List.mem_cons_self, ?_,
    fun c hc => hzero (List.mem_cons_of_mem _ (List.mem_map.mpr ⟨c, List.mem_range.mpr hc, rfl⟩))⟩
  rw [zeroFields_keep (slipCounts_apart die) hsane, written_get h w hu hmem rfl]
  rfl

/-- Settles O11: clearing reads, soft resets and the zeroing of the slip counts. -/
theorem readsAndResetsOfPagesAct : Obligations.ReadsAndResetsOfPagesAct := by
  refine ⟨fun s w die off h hd ho hr hn => ?_, fun s w die code en h hd hc hs hr hcore hnot => ?_,
    fun s w die word h hd hw hs => clampZero_acts h hd hw hs⟩
  · exact fabRead_acts h (List.mem_cons.mpr (hd.imp id mem_scanDies)) ho hr hn
  · exact softReset_acts h en hd (mem_plainResets hc hcore hnot) hs hr

end Sys2Proof.Machine
end

section
/-! SUPPORT.  Bytes of memory read back after a store, and what leaves them. -/

open Sys2Proof Sys2Proof.Machine Sys2Proof.Bits
namespace Sys2Proof.Machine
set_option Elab.async false

theorem State.Sane.mem_sorted {s : State} (h : s.Sane) : SMap.sorted s.mem = true := (SMap.canonical_iff.mp h.1).1

/-- The bytes of a number, least significant first, spell it cut to their count. -/
theorem ofLE_toLE (n v : Nat) : ofLE (toLE n v) = v % 2 ^ (8 * n) := by
  induction n generalizing v with
  | zero => simp [toLE, ofLE, Nat.mod_one]
  | succ n ih =>
    rw [toLE, ofLE, ih, BitVec.toNat_ofNat, Nat.mul_succ, Nat.add_comm (8 * n) 8, Nat.pow_add, Nat.mod_mul]

theorem State.loadBytes_congr {s t : State} {a n : Nat} (h : ∀ i, a ≤ i → i < a + n → t.loadByte i = s.loadByte i) :
    t.loadBytes a n = s.loadBytes a n := by
  induction n generalizing a with
  | zero => rfl
  | succ n ih =>
    rw [State.loadBytes, State.loadBytes, h a (Nat.le_refl _) (by omega), ih fun i hi hn => h i (by omega) (by omega)]

/-- What a load gives depends on the memory alone. -/
theorem State.load_congr {s t : State} (h : t.mem = s.mem) (a n : Nat) : t.load a n = s.load a n := by
  rw [State.load, State.load, State.loadBytes_congr fun i _ _ => congrArg (SMap.get 0 · i) h]

theorem State.loadByte_storeByte {s : State} (h : s.Sane) (a c : Nat) (b : Byte) :
    (s.storeByte a b).loadByte c = if c = a then b else s.loadByte c := by
  split
  · rename_i hc
    rw [hc]
    exact SMap.get_put_same _ _ h.mem_sorted
  · rename_i hc
    exact SMap.get_put_ne _ h.mem_sorted hc

/-- Bytes outside the range of a store keep their values. -/
theorem State.loadByte_storeBytes {s : State} (h : s.Sane) {a c : Nat} {bs : List Byte} (hc : c < a ∨ a + bs.length ≤ c) :
    (s.storeBytes a bs).loadByte c = s.loadByte c := by
  induction bs generalizing a s with
  | nil => rfl
  | cons b bs ih =>
    rw [List.length_cons] at hc
    rw [State.storeBytes, ih ((State.storeByte_moves s a b).sane h) (by omega), State.loadByte_storeByte h, if_neg (by omega)]

/-- The bytes of a store read back. -/
theorem State.loadBytes_storeBytes {s : State} (h : s.Sane) (a : Nat) (bs : List Byte) :
    (s.storeBytes a bs).loadBytes a bs.length = bs := by
  induction bs generalizing a s with
  | nil => rfl
  | cons b bs ih =>
    have hb := (State.storeByte_moves s a b).sane h
    rw [State.storeBytes, List.length_cons, State.loadBytes, ih hb, State.loadByte_storeBytes hb (by omega),
      State.loadByte_storeByte h, if_pos rfl]

theorem length_toLE (n v : Nat) : (toLE n v).length = n := by
  induction n generalizing v with
  | zero => rfl
  | succ n ih => rw [toLE, List.length_cons, ih]

theorem State.load_store_same {s : State} (h : s.Sane) (a n v : Nat) : (s.store a n v).load a n = v % 2 ^ (8 * n) := by
  have hb := State.loadBytes_storeBytes h a (toLE n v)
  rw [length_toLE] at hb
  rw [State.load, State.store, hb, ofLE_toLE]

theorem State.loadByte_store {s : State} (h : s.Sane) {a n c : Nat} (v : Nat) (hc : c < a ∨ a + n ≤ c) :
    (s.store a n v).loadByte c = s.loadByte c :=
  State.loadByte_storeBytes h (by rwa [length_toLE])

end Sys2Proof.Machine
end

section
/-! SUPPORT.  Requests of bus masters for the Keeper's bank K-CORE, the time limit of the Junction, and the accesses of the debug
module. -/

open Sys2Proof Sys2Proof.Machine Sys2Proof.Bits
namespace Sys2Proof.Machine
set_option Elab.async false

/-! ### Where an address of K-CORE leads -/

/-- The remote window of the Keeper leads every master to its memories. -/
theorem locate_keeperWindow (s : State) (who : Nat) {own : Nat} (h : own < 0x100000) :
    locate s who (0x10000000 + own) = .mem 0 own := by
  have hd : field (0x10000000 + own) 24 3 = 0 := by rw [field, Nat.shiftRight_eq_div_pow]; omega
  have ho : (0x10000000 + own) % 0x1000000 = own := by omega
  have hdie : s.destDie who 0 = 0 := by
    unfold State.destDie
    rw [show isScan 0 = false from rfl, Bool.and_false, if_neg Bool.false_ne_true]
  have hex : ownExists 0 own = true := by rw [ownExists, if_pos rfl]; exact decide_eq_true (by omega)
  unfold locate
  dsimp only
  rw [if_neg (by omega), if_pos ⟨by omega, by omega⟩, hd, hdie, ho, if_pos hex]

/-- The own addresses of a master of the Keeper lead to its memories. -/
theorem locate_keeperOwn (s : State) {who own : Nat} (hw : whoDie who = 0) (h : own < 0x100000) :
    locate s who own = .mem 0 own := by
  have hex : ownExists 0 own = true := by rw [ownExists, if_pos rfl]; exact decide_eq_true (by omega)
  unfold locate
  dsimp only
  rw [if_pos (by omega), hw, if_pos hex]

/-! ### One word of K-CORE -/

/-- Neither a queue's ring nor a waiting frame stands in K-CORE. -/
theorem State.peek_keeper (s : State) {own : Nat} (n : Nat) (h : own < 0x100000) : s.peek 0 own n = s.load (phys 0 own) n := by
  have hr : ringPlace 0 own = none := by rw [ringPlace, if_pos rfl, if_neg (by omega)]
  have he : s.ringEntry 0 own = none := by rw [State.ringEntry, hr]; rfl
  have hl : s.lineFrame 0 own = none := by rw [State.lineFrame, if_neg (by omega)]
  unfold State.peek
  rw [he, hl]
  rfl

/-- A read of a clean word of K-CORE, which is On, gives its bytes and changes nothing (R338, R339). -/
theorem State.readOwn_keeper {s : State} {own : Nat} (who n : Nat) (remote : Bool) (h : own < 0x100000)
    (hb : s.bankOn 0 own = true) (he : s.eccAt (phys 0 own) = 0) :
    s.readOwn who 0 own n remote = (s, .ok (s.load (phys 0 own) n)) := by
  have hword : phys 0 (own / 8 * 8) / 8 * 8 = phys 0 own / 8 * 8 := by unfold phys; omega
  have hecc : s.eccAt (phys 0 (own / 8 * 8)) = 0 := by rw [State.eccAt, hword]; exact he
  have hn : s.noteEcc 0 own who = s := by rw [State.noteEcc, if_pos hecc]
  unfold State.readOwn
  simp only [hb, he, hn, State.peek_keeper s n h, Bool.not_true, Bool.false_eq_true, if_false]
  rfl

/-- A store to K-CORE, which is On. -/
theorem State.writeOwn_keeper {s : State} {own : Nat} (w : Who) (n v : Nat) (h : own < 0x100000) (hb : s.bankOn 0 own = true) :
    s.writeOwn w 0 own n v = (s.store (phys 0 own) n v, .ok 0) := by
  have hr : ringPlace 0 own = none := by rw [ringPlace, if_pos rfl, if_neg (by omega)]
  have hring (t : State) : t.ringStore 0 own n v = t := by rw [State.ringStore, hr]
  unfold State.writeOwn
  rw [if_neg (by rw [hb]; decide), if_neg (by exact Bool.false_ne_true), if_neg (by exact Bool.false_ne_true),
    if_neg (by exact Bool.false_ne_true), if_neg (by omega), hring]
  rfl

/-! ### Requests that wait -/

/-- A master that no failed request waits for has no access fault to meet. -/
theorem State.takeFailed_none {s : State} {r : HeldReq} (h : ∀ q ∈ s.holding, q.failed = true → q.who ≠ r.who) :
    s.takeFailed r = (false, s) := by
  have hc : s.holding.contains { r with failed := true } = false := by
    rw [Bool.eq_false_iff, ne_eq, List.contains_iff_mem]
    exact fun hm => h _ hm rfl rfl
  have hf : (s.holding.filter fun q => !(q.failed && q.who == r.who)) = s.holding := by
    refine List.filter_eq_self.mpr fun q hq => ?_
    cases hqf : q.failed
    · rfl
    · rw [beq_false_of_ne (h q hq hqf)]
      rfl
  rw [State.takeFailed, hc, hf]

theorem State.unholdRequest_mem (s : State) (r : HeldReq) : (s.unholdRequest r).mem = s.mem :=
  (State.unholdRequest_moves s r).part .mem

theorem State.bankOn_unholdRequest {s : State} (h : s.Sane) (r : HeldReq) (own : Nat) :
    (s.unholdRequest r).bankOn 0 own = s.bankOn 0 own := by
  unfold State.bankOn
  rw [(State.unholdRequest_moves s r).rd h 0 (Reg.MEM_PWR_STAT_BANKb.j (bankOf 0 own))
    (show Nat.testBit _ (64 + 7 % 64) = false from rfl)]

theorem State.eccAt_unholdRequest (s : State) (r : HeldReq) (a : Nat) : (s.unholdRequest r).eccAt a = s.eccAt a :=
  congrArg (SMap.get 0 · (a / 8 * 8)) ((State.unholdRequest_moves s r).part .ecc)

/-- Whatever waits already is not stalled. -/
theorem State.stalled_waits {s : State} {who target : Nat} {via : Bool} (h : s.stalled who target via false = false) (b : Bool) :
    s.stalled who target via b = false := by
  cases b
  · exact h
  · simp [State.stalled]

/-! ### Accesses of a master to K-CORE -/

/-- The request of a read of `n` bytes from an address, and that of a store. -/
def keeperReq (w : Who) (write : Bool) (a n v : Nat) : HeldReq := ⟨0, w.code, w.user && write, write, a, n, v, false⟩

/-- An access of a master at address `a` that reaches byte `own` of K-CORE, which is On, at once. -/
structure KeeperAccess (s : State) (w : Who) (a own : Nat) : Prop where
  sane : s.Sane
  inCore : own < 0x100000
  place : locate s w.code a = .mem 0 own
  noFailed : ∀ q ∈ s.holding, q.failed = true → q.who ≠ w.code
  notBarred : s.barred w.code a 0 (viaJunction a) = none
  notStalled : s.stalled w.code 0 (viaJunction a) false = false
  notHeldOff : s.dmaHeldOff w.code a = false
  bankOn : s.bankOn 0 own = true

section
variable {s : State} {w : Who} {a own : Nat} (k : KeeperAccess s w a own) (n : Nat)
include k

theorem KeeperAccess.memRead (he : s.eccAt (phys 0 own) = 0) :
    s.memRead w.code a n = (s.unholdRequest (keeperReq w false a n 0), .ok (s.load (phys 0 own) n)) := by
  have hr := State.readOwn_keeper (s := s.unholdRequest (keeperReq w false a n 0)) w.code n (viaJunction a) k.inCore
    (by rw [State.bankOn_unholdRequest k.sane, k.bankOn]) (by rwa [State.eccAt_unholdRequest])
  rw [State.load_congr (State.unholdRequest_mem ..)] at hr
  have hbar : s.unreachable w.code a (.mem 0 own) = none := k.notBarred
  have hreq : (⟨0, w.code, false, false, a, n, 0, false⟩ : HeldReq) = keeperReq w false a n 0 := by simp [keeperReq]
  unfold State.memRead
  simp only [k.place, Place.die, hreq, State.takeFailed_none (r := keeperReq w false a n 0) k.noFailed, hbar, Bool.false_eq_true,
    if_false, State.stalled_waits k.notStalled, k.notHeldOff, hr, State.atFence, show isScan 0 = false from rfl, Bool.false_and,
    Bool.and_false]

theorem KeeperAccess.memWrite (v : Nat) :
    s.memWrite w a n v = ((s.unholdRequest (keeperReq w true a n v)).store (phys 0 own) n v, .ok 0) := by
  have hr := State.writeOwn_keeper (s := s.unholdRequest (keeperReq w true a n v)) w n v k.inCore
    (by rw [State.bankOn_unholdRequest k.sane, k.bankOn])
  have hbar : s.unreachable w.code a (.mem 0 own) = none := k.notBarred
  have hreq : (⟨0, w.code, w.user, true, a, n, v, false⟩ : HeldReq) = keeperReq w true a n v := by simp [keeperReq]
  unfold State.memWrite
  simp only [k.place, Place.die, hreq, State.takeFailed_none (r := keeperReq w true a n v) k.noFailed, hbar, Bool.false_eq_true,
    if_false, State.stalled_waits k.notStalled, k.notHeldOff, hr, State.atFence, show isScan 0 = false from rfl, Bool.false_and,
    Bool.and_false]

theorem KeeperAccess.busRead (he : s.eccAt (phys 0 own) = 0) :
    s.busRead w a n = (s.unholdRequest (keeperReq w false a n 0), .ok (s.load (phys 0 own) n)) := by
  unfold State.busRead
  rw [k.place]
  exact k.memRead n he

theorem KeeperAccess.busWrite (v : Nat) :
    s.busWrite w a n v = ((s.unholdRequest (keeperReq w true a n v)).store (phys 0 own) n v, .ok 0) := by
  unfold State.busWrite
  rw [k.place]
  exact k.memWrite n v

end

/-- The state in which a request to K-CORE ends, before its reply: over the Junction its latency is noted (R352). -/
def State.requestEnded (s : State) (w : Who) (a : Nat) : State := if viaJunction a then s.noteRequest w.code 0 else s

/-- A request of a size that masters make, aligned to it. -/
theorem request_taken {s : State} {n a : Nat} (who : Nat) (hn : n ∈ [1, 2, 4, 8]) (hal : a % n = 0) :
    ([1, 2, 4, 8].contains n && (a % n == 0 || s.onPage who a)) = true := by
  rw [List.contains_iff_mem.mpr hn, hal]
  rfl

theorem KeeperAccess.busRequest_read {s : State} {w : Who} {a own n : Nat} (k : KeeperAccess s w a own)
    (he : s.eccAt (phys 0 own) = 0) (hn : n ∈ [1, 2, 4, 8]) (hal : a % n = 0) (v : Nat) :
    s.busRequest w false a n v =
      ((s.unholdRequest (keeperReq w false a n 0)).requestEnded w a).reply w.code (s.load (phys 0 own) n) false := by
  unfold State.busRequest
  rw [if_pos (request_taken _ hn hal), if_neg Bool.false_ne_true, k.busRead n he, k.place]
  cases hj : viaJunction a <;> simp [State.requestEnded, hj, State.setReply, Place.die]

theorem KeeperAccess.busRequest_write {s : State} {w : Who} {a own n : Nat} (k : KeeperAccess s w a own)
    (hn : n ∈ [1, 2, 4, 8]) (hal : a % n = 0) (v : Nat) :
    s.busRequest w true a n v =
      (((s.unholdRequest (keeperReq w true a n v)).store (phys 0 own) n v).requestEnded w a).reply w.code 0 false := by
  unfold State.busRequest
  rw [if_pos (request_taken _ hn hal), if_pos rfl, k.busWrite n v, k.place]
  cases hj : viaJunction a <;> simp [State.requestEnded, hj, State.setReply, Place.die]

theorem State.load_reply (s : State) (who data : Nat) (fault : Bool) (a n : Nat) :
    (s.reply who data fault).load a n = s.load a n :=
  State.load_congr (s := s) (t := s.reply who data fault) rfl a n

theorem State.requestEnded_mem (s : State) (w : Who) (a : Nat) : (s.requestEnded w a).mem = s.mem := by
  unfold State.requestEnded
  split
  · exact (State.noteRequest_moves s w.code 0).part .mem
  · rfl

/-! ### Requests of masters over the Junction (R38) -/

theorem viaJunction_keeperWindow (own : Nat) : viaJunction (0x10000000 + own) = true := by
  unfold viaJunction
  rw [decide_eq_false (by omega), Bool.not_false]

/-- An aligned own-die address is aligned in the remote window. -/
theorem keeperWindow_aligned {own n : Nat} (hn : n ∈ [1, 2, 4, 8]) (hal : own % n = 0) : (0x10000000 + own) % n = 0 := by
  simp only [List.mem_cons, List.not_mem_nil, or_false] at hn
  rcases hn with rfl | rfl | rfl | rfl <;> omega

/-- A request over the Junction that reaches the Keeper. -/
theorem keeperAccess_junction {s : State} (h : s.Sane) {w : Who} {own : Nat} (hown : own < 0x100000)
    (hr : s.reaches w 0 = true) (hfail : ∀ q ∈ s.holding, q.failed = true → q.who ≠ w.code) (hb : s.bankOn 0 own = true) :
    KeeperAccess s w (0x10000000 + own) own where
  sane := h
  inCore := hown
  place := locate_keeperWindow s w.code hown
  noFailed := hfail
  notBarred := by rw [viaJunction_keeperWindow]; exact State.barred_reaches hr _
  notStalled := by rw [viaJunction_keeperWindow]; exact State.stalled_reaches hr
  notHeldOff := by rw [State.dmaHeldOff, viaJunction_keeperWindow]; simp
  bankOn := hb

theorem KeeperAccess.junctionRead_acts {s : State} {w : Who} {own n : Nat} (k : KeeperAccess s w (0x10000000 + own) own)
    (hn : n ∈ [1, 2, 4, 8]) (hal : own % n = 0) (he : s.eccAt (phys 0 own) = 0) (v : Nat) :
    Completes (.junctionRequestComplete w false (0x10000000 + own) n v) s fun t =>
      SMap.find? t.replies w.code = some ⟨s.load (phys 0 own) n, false⟩ ∧ t.mem = s.mem := by
  have heq := k.busRequest_read he hn (keeperWindow_aligned hn hal) v
  exact ⟨_, congrArg Host.Outcome.next heq, SMap.find?_insert_same ..,
    (State.requestEnded_mem ..).trans (State.unholdRequest_mem ..)⟩

theorem KeeperAccess.junctionWrite_acts {s : State} {w : Who} {own n : Nat} (k : KeeperAccess s w (0x10000000 + own) own)
    (hn : n ∈ [1, 2, 4, 8]) (hal : own % n = 0) (v : Nat) :
    Completes (.junctionRequestComplete w true (0x10000000 + own) n v) s fun t =>
      SMap.find? t.replies w.code = some ⟨0, false⟩ ∧ t.load (phys 0 own) n = v % 2 ^ (8 * n) ∧
      ∀ a, (a < phys 0 own ∨ phys 0 own + n ≤ a) → t.loadByte a = s.loadByte a := by
  have heq := k.busRequest_write hn (keeperWindow_aligned hn hal) v
  have hs := (State.unholdRequest_moves s (keeperReq w true (0x10000000 + own) n v)).sane k.sane
  have hmem := State.requestEnded_mem
    ((s.unholdRequest (keeperReq w true (0x10000000 + own) n v)).store (phys 0 own) n v) w (0x10000000 + own)
  refine ⟨_, congrArg Host.Outcome.next heq, SMap.find?_insert_same .., ?_, fun a ha => ?_⟩
  · rw [State.load_reply, State.load_congr hmem, State.load_store_same hs]
  · refine (congrArg (SMap.get 0 · a) hmem).trans ((State.loadByte_store hs v ha).trans ?_)
    exact congrArg (SMap.get 0 · a) (State.unholdRequest_mem ..)

/-! ### The time limit of a request (R327) -/

theorem State.inc_rd {s : State} (h : s.Sane) {die e : Nat} {f g : FieldDef} (ha : apart g f) :
    (s.inc die f).rd e g = s.rd e g := State.rd_wr_other h _ ha

theorem State.irq_rd {s : State} (h : s.Sane) {die code n e : Nat} {g : FieldDef} (ha : apart g (IRQ_RAW_SRC code)) :
    (s.irq die code n).rd e g = s.rd e g := State.rd_wr_other h _ ha

/-- A count of `FAB` other than LOST is not touched by the fabric error entry of an event. -/
theorem State.fabricError_rd {s : State} (h : s.Sane) (k : FabKind) (who addr e : Nat) {g : FieldDef}
    (hc : g.code % 64 ≠ 6) (ha : apart g Reg.FAB_LOST_COUNT) : (s.fabricError k who addr).rd e g = s.rd e g := by
  unfold State.fabricError
  dsimp only
  split
  · exact State.rd_wr_other h _ (.inl hc)
  · have hi : apart g (IRQ_RAW_SRC 6) := .inl hc
    have hdrop := (State.hwDrop_moves s (whoDie who) 1).sane h
    rw [State.inc_rd hdrop ha, State.hwDrop, State.irq_rd ((State.inc_moves ..).sane h) hi]
    exact State.inc_rd h (.inl hc)

/-- `FAB.STAT.HELD` is the one register that the end of a waiting request may write. -/
theorem State.unholdRequest_rd {s : State} (h : s.Sane) (r : HeldReq) (e : Nat) {g : FieldDef} (ha : apart g Reg.FAB_STAT_HELD) :
    (s.unholdRequest r).rd e g = s.rd e g := by
  unfold State.unholdRequest
  split
  · unfold State.showHeld
    split
    · exact State.rd_wr_other (s := { s with holding := s.holding.erase r }) h _ ha
    · rfl
  · rfl

theorem State.unholdRequest_holding {s : State} {r : HeldReq} (h : r ∈ s.holding) :
    (s.unholdRequest r).holding = s.holding.erase r := by
  unfold State.unholdRequest State.showHeld
  rw [if_pos (List.contains_iff_mem.mpr h)]
  split <;> rfl

theorem State.failRequest_holding {s : State} {r : HeldReq} (h : r ∈ s.holding) :
    (s.failRequest r).holding =
      s.holding.erase r ++ (if State.asksAgain r.who then [{ r with failed := true }] else []) := by
  unfold State.failRequest
  dsimp only
  split
  · exact congrArg (· ++ _) (State.unholdRequest_holding h)
  · rw [List.append_nil]
    exact State.unholdRequest_holding h

theorem State.failRequest_reply (s : State) (r : HeldReq) : SMap.find? (s.failRequest r).replies r.who = some ⟨0, true⟩ := by
  unfold State.failRequest
  dsimp only
  split <;> exact SMap.find?_insert_same ..

theorem State.failRequest_rd {s : State} (h : s.Sane) (r : HeldReq) (e : Nat) {g : FieldDef} (ha : apart g Reg.FAB_STAT_HELD) :
    (s.failRequest r).rd e g = s.rd e g := by
  unfold State.failRequest
  dsimp only
  split <;> exact State.unholdRequest_rd h r e ha

theorem timedRequest_some {s : State} {who addr : Nat} {r : HeldReq} (h : timedRequest s who addr = some r) :
    r ∈ s.holding ∧ r.who = who := by
  unfold timedRequest at h
  have hp := List.find?_some h
  simp only [Bool.and_eq_true, beq_iff_eq] at hp
  exact ⟨List.mem_of_find?_eq_some h, hp.1.1.1⟩

/-- The registers, entries and records that a timed-out request leaves before it fails. -/
def timeoutNoted (w : Who) (addr : Nat) (s : State) : State :=
  let s := (s.inc 0 Reg.FAB_TIMEOUTS_COUNT).irq 0 0x05 3
  let s := (s.inc (whoDie w.code) Reg.FAB_ABORTED_COUNT).irq (whoDie w.code) 0x05 1
  (s.fabricError .timeout w.code addr).archive 0x05 3 .fault [addr, w.code]

theorem timeoutNoted_holding (w : Who) (addr : Nat) (s : State) : (timeoutNoted w addr s).holding = s.holding := by
  unfold timeoutNoted
  dsimp only
  exact ((State.archive_moves ..).part .holding).trans ((State.fabricError_moves ..).part .holding)

theorem timeoutNoted_count {s : State} (h : s.Sane) (w : Who) (addr : Nat) :
    (timeoutNoted w addr s).Sane ∧
      (timeoutNoted w addr s).rd 0 Reg.FAB_TIMEOUTS_COUNT = satAdd 32 (s.rd 0 Reg.FAB_TIMEOUTS_COUNT) 1 := by
  unfold timeoutNoted
  extract_lets s1 s2
  have h0 : (s.inc 0 Reg.FAB_TIMEOUTS_COUNT).Sane := h.wr ..
  have h1 : s1.Sane := h0.wr ..
  have h2i : (s1.inc (whoDie w.code) Reg.FAB_ABORTED_COUNT).Sane := h1.wr ..
  have h2 : s2.Sane := h2i.wr ..
  have h3 := (State.fabricError_moves s2 .timeout w.code addr).sane h2
  refine ⟨(State.archive_moves ..).sane h3, ?_⟩
  rw [(State.archive_moves ..).rd h3 0 Reg.FAB_TIMEOUTS_COUNT, State.fabricError_rd h2 _ _ _ _ (by decide) (by decide),
    State.irq_rd h2i (by decide), State.inc_rd h1 (by decide), State.irq_rd h0 (by decide)]
  refine (State.rd_wr_same h ..).trans (Nat.mod_eq_of_lt ?_)
  exact Nat.lt_of_le_of_lt (Nat.min_le_right _ _) (by decide)

theorem junctionTimeout_acts {s : State} (h : s.Sane) {w : Who} {addr : Nat} {r : HeldReq}
    (hr : timedRequest s w.code addr = some r) :
    Completes (.junctionTimeout w addr) s fun t =>
      SMap.find? t.replies w.code = some ⟨0, true⟩ ∧
      t.holding = s.holding.erase r ++ (if State.asksAgain w.code then [{ r with failed := true }] else []) ∧
      t.rd 0 Reg.FAB_TIMEOUTS_COUNT = satAdd 32 (s.rd 0 Reg.FAB_TIMEOUTS_COUNT) 1 := by
  obtain ⟨hmem, hwho⟩ := timedRequest_some hr
  obtain ⟨hsane, hcount⟩ := timeoutNoted_count h w addr
  have hexec : exec (.junctionTimeout w addr) s = .next ((timeoutNoted w addr s).failRequest r) := by
    show execJunctionTimeout w addr s = _
    rw [execJunctionTimeout, hr]
    rfl
  refine ⟨_, hexec, hwho ▸ State.failRequest_reply .., ?_, (State.failRequest_rd hsane r 0 (by decide)).trans hcount⟩
  rw [State.failRequest_holding (by rwa [timeoutNoted_holding]), timeoutNoted_holding, hwho]

/-! ### The debug module (R169) -/

theorem State.debugActive_on {s : State} (h : s.Sane) {f : FieldDef} (h1 : apart f Reg.DBG_STAT_ACTIVE)
    (h2 : apart f (IRQ_RAW_SRC 0x26)) : s.debugActive.on 0 f = s.on 0 f := by
  unfold State.on State.debugActive
  split
  · rfl
  · rw [State.irq_rd (h.wr ..) h2, State.rd_wr_other h _ h1]

theorem State.sbaTakes_barred {s : State} (h : s.on 0 Reg.DBG_CTL_SBA_EN = false) (size : Nat) : s.sbaTakes size = false := by
  unfold State.sbaTakes State.sbaccess
  rw [h]
  simp [List.any_eq_false, bit]

theorem State.sbaTakes_allowed {s : State} (h : s.on 0 Reg.DBG_CTL_SBA_EN = true) {size : Nat} (hsize : size ∈ [1, 2, 4]) :
    s.sbaTakes size = true := by
  unfold State.sbaTakes State.sbaccess
  rw [h]
  exact (by decide : ∀ n ∈ [1, 2, 4], ((List.range 5).any fun k => n == 2 ^ k && bit (if true = true then 0b111 else 0) k) = true)
    size hsize

theorem exec_debugSystemBusAccess {s : State} (hj : s.on 0 Reg.DBG_CTL_JTAG_EN = true) (write : Bool) (own size value : Nat) :
    exec (.debugSystemBusAccess write own size value) s = .next (if s.debugActive.sbaTakes size
      then { s.debugActive with sberror := 0 }.busRequest ⟨7, false⟩ write own size value
      else { s.debugActive with sberror := 4 }) := by
  show execDebugSystemBusAccess write own size value s = _
  rw [execDebugSystemBusAccess, hj]
  rfl

/-- Without system bus access every access is refused at once. -/
theorem debugAccess_barred {s : State} (h : s.Sane) (hj : s.on 0 Reg.DBG_CTL_JTAG_EN = true)
    (hs : s.on 0 Reg.DBG_CTL_SBA_EN = false) (write : Bool) (own size value : Nat) :
    Completes (.debugSystemBusAccess write own size value) s fun t => t.sberror = 4 ∧ t.mem = s.mem := by
  have hs' := (State.debugActive_on h (by decide) (by decide)).trans hs
  have hexec := exec_debugSystemBusAccess hj write own size value
  rw [State.sbaTakes_barred hs', if_neg Bool.false_ne_true] at hexec
  exact ⟨_, hexec, rfl, (State.debugActive_moves s).part .mem⟩

/-- An own-die address of K-CORE that the active debug module asks for, as master 7 of the Keeper. -/
theorem keeperAccess_debug {s : State} (h : s.Sane) {own : Nat} (hown : own < 0x100000)
    (hfail : ∀ q ∈ s.holding, q.failed = true → q.who ≠ 7) (hb : s.bankOn 0 own = true) :
    KeeperAccess { s.debugActive with sberror := 0 } ⟨7, false⟩ own own where
  sane := (State.debugActive_moves s).sane h
  inCore := hown
  place := locate_keeperOwn _ rfl hown
  noFailed := fun q hq => hfail q (((State.debugActive_moves s).part .holding : s.debugActive.holding = s.holding) ▸ hq)
  notBarred := by rw [viaJunction, decide_eq_true (by omega)]; rfl
  notStalled := by rw [viaJunction, decide_eq_true (by omega)]; rfl
  notHeldOff := rfl
  bankOn := by
    refine Eq.trans ?_ hb
    exact congrArg (· == 0) ((State.debugActive_moves s).rd h 0 (Reg.MEM_PWR_STAT_BANKb.j (bankOf 0 own))
      (show Nat.testBit _ (64 + 7 % 64) = false from rfl))

/-- A read of K-CORE by the debug module replies as master 7. -/
theorem debugRead_acts {s : State} (h : s.Sane) {own size : Nat} (value : Nat) (hj : s.on 0 Reg.DBG_CTL_JTAG_EN = true)
    (hs : s.on 0 Reg.DBG_CTL_SBA_EN = true) (hsize : size ∈ [1, 2, 4]) (hal : own % size = 0) (hown : own < 0x100000)
    (hfail : ∀ q ∈ s.holding, q.failed = true → q.who ≠ 7) (hb : s.bankOn 0 own = true) (he : s.eccAt (phys 0 own) = 0) :
    Completes (.debugSystemBusAccess false own size value) s fun t =>
      t.sberror = 0 ∧ SMap.find? t.replies 7 = some ⟨s.load (phys 0 own) size, false⟩ := by
  have hm := State.debugActive_moves s
  have hs' := (State.debugActive_on h (by decide) (by decide)).trans hs
  have hvia : viaJunction own = false := by rw [viaJunction, decide_eq_true (by omega), Bool.not_true]
  have hecc : s.debugActive.eccAt (phys 0 own) = 0 := (congrArg (SMap.get 0 · (phys 0 own / 8 * 8)) (hm.part .ecc)).trans he
  have heq := (keeperAccess_debug h hown hfail hb).busRequest_read hecc
    ((by decide : ∀ n ∈ [1, 2, 4], n ∈ [1, 2, 4, 8]) size hsize) hal value
  have hexec := exec_debugSystemBusAccess hj false own size value
  rw [State.sbaTakes_allowed hs' hsize, if_pos rfl, heq, State.requestEnded, hvia, if_neg Bool.false_ne_true] at hexec
  refine ⟨_, hexec, (State.unholdRequest_moves ..).part .sberror, ?_⟩
  rw [State.load_congr (s := s) (t := { s.debugActive with sberror := 0 }) (hm.part .mem)]
  exact SMap.find?_insert_same ..

/-- Settles O33: each request runs to its reply. -/
theorem busRequestsEndWithAReply : Obligations.BusRequestsEndWithAReply := by
  refine fun s h => ⟨fun w own size value hn hal hown hr hfail hb he => ?_, fun w addr r hr => junctionTimeout_acts h hr,
    fun write own size value hj => ⟨fun hs => debugAccess_barred h hj hs .., fun hs hsize hal hown hfail hb he => ?_⟩⟩
  · have k := keeperAccess_junction h hown hr hfail hb
    exact ⟨k.junctionRead_acts hn hal he value, k.junctionWrite_acts hn hal value⟩
  · exact debugRead_acts h value hj hs hsize hal hown hfail hb he

end Sys2Proof.Machine
end

section
/-! SUPPORT.  Bit fields and die masks: which bits a replaced field, a set bit and a cleared bit leave. -/

open Sys2Proof Sys2Proof.Machine Sys2Proof.Bits
namespace Sys2Proof.Machine
set_option Elab.async false

/-! ### Fields of a word -/

theorem bit_eq_testBit (w i : Nat) : bit w i = w.testBit i := by
  rw [bit, Nat.shiftRight_eq_div_pow, Nat.testBit_eq_decide_div_mod_eq, beq_eq_decide]

theorem field_lt (w lo n : Nat) : field w lo n < 2 ^ n := Nat.mod_lt _ (Nat.two_pow_pos n)

/-- A field within the low bits of a word does not see the others. -/
theorem field_mod {w lo n k : Nat} (h : lo + n ≤ k) : field (w % 2 ^ k) lo n = field w lo n := by
  apply Nat.eq_of_testBit_eq
  intro i
  simp only [field, Nat.testBit_mod_two_pow, Nat.testBit_shiftRight]
  by_cases hi : i < n
  · simp [hi, show lo + i < k by omega]
  · simp [hi]

/-- A word cut into what is above a field, the field, and what is below it. -/
theorem setField_eq (w lo n v : Nat) :
    setField w lo n v = 2 ^ (lo + n) * (w / 2 ^ (lo + n)) + (2 ^ lo * (v % 2 ^ n) + w % 2 ^ lo) := by
  have h1 : w = 2 ^ lo * (w / 2 ^ lo) + w % 2 ^ lo := (Nat.div_add_mod w (2 ^ lo)).symm
  have h2 : w / 2 ^ lo = 2 ^ n * (w / 2 ^ (lo + n)) + w / 2 ^ lo % 2 ^ n := by
    rw [Nat.pow_add, ← Nat.div_div_eq_div_mul]; exact (Nat.div_add_mod _ _).symm
  have h3 : 2 ^ (lo + n) * (w / 2 ^ (lo + n)) + 2 ^ lo * (w / 2 ^ lo % 2 ^ n) = 2 ^ lo * (w / 2 ^ lo) := by
    conv_rhs => rw [h2]
    rw [Nat.mul_add, Nat.pow_add, Nat.mul_assoc]
  rw [setField, field, Nat.shiftRight_eq_div_pow, Nat.shiftLeft_eq, Nat.shiftLeft_eq, Nat.mul_comm _ (2 ^ lo),
    Nat.mul_comm (v % 2 ^ n)]
  omega

theorem testBit_setField (w lo n v i : Nat) :
    (setField w lo n v).testBit i = if lo ≤ i ∧ i < lo + n then v.testBit (i - lo) else w.testBit i := by
  have hlow : w % 2 ^ lo < 2 ^ lo := Nat.mod_lt _ (Nat.two_pow_pos lo)
  have hv : v % 2 ^ n < 2 ^ n := Nat.mod_lt _ (Nat.two_pow_pos n)
  have hmid : 2 ^ lo * (v % 2 ^ n) + w % 2 ^ lo < 2 ^ (lo + n) := by
    calc 2 ^ lo * (v % 2 ^ n) + w % 2 ^ lo < 2 ^ lo * (v % 2 ^ n + 1) := by rw [Nat.mul_succ]; omega
      _ ≤ 2 ^ (lo + n) := by rw [Nat.pow_add]; exact Nat.mul_le_mul_left _ hv
  rw [setField_eq, Nat.testBit_two_pow_mul_add _ hmid, Nat.testBit_two_pow_mul_add _ hlow]
  by_cases h1 : i < lo
  · rw [if_pos (by omega), if_pos h1, if_neg (by omega), Nat.testBit_mod_two_pow, decide_eq_true h1, Bool.true_and]
  · by_cases h2 : i < lo + n
    · rw [if_pos h2, if_neg h1, if_pos ⟨by omega, h2⟩, Nat.testBit_mod_two_pow, decide_eq_true (by omega), Bool.true_and]
    · rw [if_neg h2, if_neg (by omega), Nat.testBit_div_two_pow]
      congr 1; omega

/-- A replaced field reads as what replaced it. -/
theorem field_setField_same (w lo n v : Nat) : field (setField w lo n v) lo n = v % 2 ^ n := by
  apply Nat.eq_of_testBit_eq
  intro i
  simp only [field, Nat.testBit_mod_two_pow, Nat.testBit_shiftRight, testBit_setField]
  by_cases hi : i < n
  · simp [hi]
  · simp [hi]

/-- A field beside a replaced one keeps its bits. -/
theorem field_setField_apart {w lo n v lo' n' : Nat} (h : lo' + n' ≤ lo ∨ lo + n ≤ lo') :
    field (setField w lo n v) lo' n' = field w lo' n' := by
  apply Nat.eq_of_testBit_eq
  intro i
  simp only [field, Nat.testBit_mod_two_pow, Nat.testBit_shiftRight, testBit_setField]
  by_cases hi : i < n'
  · rw [if_neg (by omega)]
  · simp [hi]

/-! ### Masks of Scan dies -/

theorem isScan_iff {d : Nat} : isScan d = true ↔ 2 ≤ d ∧ d ≤ 7 := by
  rw [isScan, Bool.and_eq_true, decide_eq_true_eq, decide_eq_true_eq]

theorem mem_scanDies_iff {d : Nat} : d ∈ scanDies ↔ isScan d = true := by
  refine ⟨fun h => ?_, mem_scanDies⟩
  exact (by decide : ∀ d ∈ scanDies, isScan d = true) d h

theorem isScan_of_inDies {m d : Nat} (h : inDies m d = true) : isScan d = true := by
  rw [inDies, Bool.and_eq_true] at h
  exact h.1

theorem inDies_eq {d : Nat} (h : isScan d = true) (m : Nat) : inDies m d = m.testBit (d - 2) := by
  rw [inDies, h, Bool.true_and, bit_eq_testBit]

theorem inDies_of_not_scan {d : Nat} (h : isScan d = false) (m : Nat) : inDies m d = false := by
  rw [inDies, h, Bool.false_and]

/-- Two masks that agree on their Scan dies name the same dies. -/
theorem inDies_congr {m k : Nat} (h : ∀ i < 6, m.testBit i = k.testBit i) (d : Nat) : inDies m d = inDies k d := by
  cases hd : isScan d
  · rw [inDies_of_not_scan hd, inDies_of_not_scan hd]
  · rw [inDies_eq hd, inDies_eq hd, h _ (by have := isScan_iff.mp hd; omega)]

@[simp] theorem inDies_mod (m d : Nat) : inDies (m % 2 ^ 6) d = inDies m d :=
  inDies_congr (fun i hi => by rw [Nat.testBit_mod_two_pow, decide_eq_true hi, Bool.true_and]) d

theorem testBit_dieBit (e i : Nat) : (dieBit e).testBit i = decide (e - 2 = i) := by
  rw [dieBit, Nat.one_shiftLeft, Nat.testBit_two_pow]

/-- A mask with a die added. -/
theorem inDies_or_dieBit {e : Nat} (he : isScan e = true) (m d : Nat) :
    inDies (m ||| dieBit e) d = (inDies m d || d == e) := by
  have h2 := isScan_iff.mp he
  cases hd : isScan d
  · rw [inDies_of_not_scan hd, inDies_of_not_scan hd, beq_false_of_ne (by rintro rfl; rw [hd] at he; cases he)]
    rfl
  · have h1 := isScan_iff.mp hd
    rw [inDies_eq hd, inDies_eq hd, Nat.testBit_or, testBit_dieBit, beq_eq_decide]
    congr 1
    exact decide_eq_decide.mpr (by omega)

/-- A mask with a die taken away. -/
theorem inDies_minus_dieBit {e : Nat} (he : isScan e = true) (m d : Nat) :
    inDies (minus 6 m (dieBit e)) d = (inDies m d && d != e) := by
  have h2 := isScan_iff.mp he
  cases hd : isScan d
  · rw [inDies_of_not_scan hd, inDies_of_not_scan hd, Bool.false_and]
  · have h1 := isScan_iff.mp hd
    have hi : d - 2 < 6 := by omega
    rw [inDies_eq hd, inDies_eq hd, minus, Nat.testBit_and, Nat.testBit_xor, Nat.testBit_two_pow_sub_one, decide_eq_true hi,
      Nat.testBit_mod_two_pow, decide_eq_true hi, testBit_dieBit, Bool.true_and, Bool.true_xor, bne, beq_eq_decide]
    congr 2
    exact decide_eq_decide.mpr (by omega)

theorem State.setBits_rd {s : State} (h : s.Sane) {die e m : Nat} {f g : FieldDef} (ha : apart g f) :
    (s.setBits die f m).rd e g = s.rd e g := State.rd_wr_other h _ ha

theorem State.clearBits_rd {s : State} (h : s.Sane) {die e m : Nat} {f g : FieldDef} (ha : apart g f) :
    (s.clearBits die f m).rd e g = s.rd e g := State.rd_wr_other h _ ha

/-- A six-bit field after a die has been added to it. -/
theorem State.inDies_setBits {s : State} (h : s.Sane) (die : Nat) {f : FieldDef} (hf : f.width = 6) {e : Nat}
    (he : isScan e = true) (d : Nat) :
    inDies ((s.setBits die f (dieBit e)).rd die f) d = (inDies (s.rd die f) d || d == e) := by
  rw [State.setBits, State.rd_wr_same h, hf, inDies_mod, inDies_or_dieBit he]

/-- A six-bit field after a die has been taken away from it. -/
theorem State.inDies_clearBits {s : State} (h : s.Sane) (die : Nat) {f : FieldDef} (hf : f.width = 6) {e : Nat}
    (he : isScan e = true) (d : Nat) :
    inDies ((s.clearBits die f (dieBit e)).rd die f) d = (inDies (s.rd die f) d && d != e) := by
  rw [State.clearBits, State.rd_wr_same h, hf, inDies_mod, inDies_minus_dieBit he]

end Sys2Proof.Machine
end

section
/-! SUPPORT.  What the fence, the reset, the header switches and the loss of one Scan die leave of the registers of the Keeper
and of the other dies. -/

open Sys2Proof Sys2Proof.Machine Sys2Proof.Bits
namespace Sys2Proof.Machine
set_option Elab.async false

/-! ### The fence of a die -/

theorem State.noteAborted_rd {s : State} (h : s.Sane) (who addr e : Nat) {g : FieldDef} (hc : g.code % 64 ≠ 6)
    (hab : apart g Reg.FAB_ABORTED_COUNT) (hirq : apart g (IRQ_RAW_SRC 5)) (hlost : apart g Reg.FAB_LOST_COUNT) :
    (s.noteAborted who addr).rd e g = s.rd e g := by
  have hinc := (State.inc_moves s (whoDie who) Reg.FAB_ABORTED_COUNT).sane h
  rw [State.noteAborted, State.fabricError_rd ((State.irq_moves ..).sane hinc) _ _ _ _ hc hlost, State.irq_rd hinc hirq,
    State.inc_rd h hab]

theorem State.noteAbsent_rd {s : State} (h : s.Sane) (who addr e : Nat) {g : FieldDef} (hc : g.code % 64 ≠ 6)
    (hab : apart g Reg.FAB_ABSENT_COUNT) (hirq : apart g (IRQ_RAW_SRC 5)) (hlost : apart g Reg.FAB_LOST_COUNT) :
    (s.noteAbsent who addr).rd e g = s.rd e g := by
  have hinc := (State.inc_moves s (whoDie who) Reg.FAB_ABSENT_COUNT).sane h
  rw [State.noteAbsent, State.fabricError_rd ((State.irq_moves ..).sane hinc) _ _ _ _ hc hlost, State.irq_rd hinc hirq,
    State.inc_rd h hab]

/-- A request that ends at a fence leaves the fences as they are. -/
theorem State.fenceRequest_fences {s : State} (h : s.Sane) (d : Nat) (r : HeldReq) :
    (State.fenceRequest d s r).rd 0 Reg.FAB_STAT_FENCED = s.rd 0 Reg.FAB_STAT_FENCED := by
  unfold State.fenceRequest
  split
  · rw [State.failRequest_rd ((State.noteAborted_moves ..).sane h) r 0 (by decide),
      State.noteAborted_rd h _ _ _ (by decide) (by decide) (by decide) (by decide)]
  · rw [State.failRequest_rd ((State.noteAbsent_moves ..).sane h) r 0 (by decide),
      State.noteAbsent_rd h _ _ _ (by decide) (by decide) (by decide) (by decide)]

theorem State.foldl_fenceRequest_fences {s : State} (h : s.Sane) (d : Nat) (l : List HeldReq) :
    (l.foldl (State.fenceRequest d) s).Sane ∧
      (l.foldl (State.fenceRequest d) s).rd 0 Reg.FAB_STAT_FENCED = s.rd 0 Reg.FAB_STAT_FENCED :=
  List.foldlRecOn (motive := fun t : State => t.Sane ∧ t.rd 0 Reg.FAB_STAT_FENCED = s.rd 0 Reg.FAB_STAT_FENCED) l _ ⟨h, rfl⟩
    fun _ ⟨ht, hrd⟩ r _ => ⟨(State.fenceRequest_moves ..).sane ht, (State.fenceRequest_fences ht d r).trans hrd⟩

theorem State.fenced_setFence {s : State} (h : s.Sane) {d : Nat} (hd : isScan d = true) (e : Nat) :
    (s.setFence d true).fenced e = (s.fenced e || e == d) := by
  have hd' := isScan_iff.mp hd
  have hset : (s.setBits 0 Reg.FAB_STAT_FENCED (dieBit d)).Sane := (State.setBits_moves ..).sane h
  have hown : ((s.setBits 0 Reg.FAB_STAT_FENCED (dieBit d)).wr d Reg.FAB_STAT_FENCED (ofBool true)).Sane := hset.wr ..
  rw [State.fenced, State.setFence, if_pos rfl, State.irq_rd ((State.irq_moves ..).sane hown) (by decide),
    State.irq_rd hown (by decide),
    State.rd_wr_ne hset _ (by unfold FieldDef.key; simp only [Reg.FAB_STAT_FENCED]; omega), State.inDies_setBits h 0 rfl hd]
  rfl

/-- After `raiseFence` the die is fenced; the fences of the others stay. -/
theorem State.fenced_raiseFence {s : State} (h : s.Sane) {d : Nat} (hd : isScan d = true) (e : Nat) :
    (s.raiseFence d).fenced e = (s.fenced e || e == d) := by
  unfold State.raiseFence
  split
  · rename_i hf
    by_cases hed : e = d
    · rw [hed, hf]; rfl
    · rw [beq_false_of_ne hed, Bool.or_false]
  · obtain ⟨hgone, hrd⟩ := State.foldl_fenceRequest_fences ((State.setFence_moves s d true).sane h) d
      (s.holding.filter fun r => !r.failed && (r.die == d || whoDie r.who == d))
    rw [← State.fenced_setFence h hd, State.fenced, State.fenced,
      (State.returnTokens_moves ..).rd hgone 0 Reg.FAB_STAT_FENCED, hrd]

/-! ### A die cleared -/

/-- The pages that a fence, the end of a points set and the queues of a die may touch on every die. -/
def quiet (f : FieldDef) : Bool := !([5, 6, 9, 10, 17].contains (f.code % 64))

/-- A mask leaves the page of a field out when it does so for every page of the field's sort. -/
theorem pages_clear {F : Nat} {p : Nat → Bool} {f : FieldDef} (hp : p (f.code % 64) = true)
    (hF : ∀ c : Fin 64, p c.val = true → F.testBit (64 + c.val) = false) : F.testBit (64 + f.code % 64) = false :=
  hF ⟨f.code % 64, Nat.mod_lt _ (by decide)⟩ hp

theorem FieldDef.key_die (f : FieldDef) (e : Nat) : f.key e / 2 ^ 23 % 8 = e % 8 := by
  unfold FieldDef.key; omega

theorem State.rd_keep {s t : State} (h : s.Sane) {p : Nat → Bool} (ht : t.regs = SMap.keep p s.regs) {e : Nat} {f : FieldDef}
    (hk : p (f.key e) = true) : t.rd e f = s.rd e f := by
  rw [State.rd, State.rd, SMap.get, SMap.get, ht, SMap.find?_keep h.2 hk]

theorem State.dropCredits_moves (s : State) (d : Nat) : Moves 0x400000080000000010 s
    ((List.range 8).foldl (fun s src => (List.range 16).foldl (fun s q => s.setCredits src d q 0) s) s) :=
  Moves.foldl (fun _ _ => Moves.foldl (fun _ _ => State.setCredits_moves ..) Moves.refl) Moves.refl

/-- Clearing a die leaves the registers of the others, but for the credits of page 6. -/
theorem State.clearDie_rd {s : State} (h : s.Sane) {d e : Nat} {f : FieldDef} (he : e % 8 ≠ d) (hf : f.code % 64 ≠ 6) :
    (s.clearDie d).rd e f = s.rd e f := by
  have hkey : (f.key e / 2 ^ 23 % 8 != d) = true := by rw [FieldDef.key_die]; exact bne_iff_ne.mpr he
  unfold State.clearDie
  extract_lets other start s1 s2
  have hs1 : s1.Sane := ⟨h.1, SMap.sorted_keep (fun k => k / 2 ^ 23 % 8 != d) h.2⟩
  have h1 : s1.rd e f = s.rd e f := State.rd_keep (p := fun k => k / 2 ^ 23 % 8 != d) h rfl hkey
  have h2 : s2.rd e f = s1.rd e f := (State.dropCredits_moves s1 d).rd hs1 e f
    (pages_clear (p := fun c => c != 6) (bne_iff_ne.mpr hf) (by decide))
  rw [clearMem_rd, h2, h1]

/-- The fence and the end of a points set leave the quiet pages. -/
theorem State.fenceDisturb_rd {s : State} (h : s.Sane) (d e : Nat) {f : FieldDef} (hf : quiet f = true) :
    ((s.raiseFence d).disturbPart d).rd e f = s.rd e f :=
  (((State.raiseFence_moves s d).sub (F := 0x206600000080101001310)).step (State.disturbPart_moves ..)).rd h e f
    (pages_clear (p := fun c => !([5, 6, 9, 10, 17].contains c)) hf (by decide))

/-- The state in which a die is fenced, no longer named by a points set, and cleared. -/
def State.stripDie (s : State) (d : Nat) : State := ((s.raiseFence d).disturbPart d).clearDie d

theorem State.Sane.stripDie {s : State} (h : s.Sane) (d : Nat) : (s.stripDie d).Sane :=
  (State.clearDie_moves ..).sane ((State.disturbPart_moves ..).sane ((State.raiseFence_moves ..).sane h))

theorem State.stripDie_rd {s : State} (h : s.Sane) {d e : Nat} {f : FieldDef} (he : e % 8 ≠ d) (hf : quiet f = true) :
    (s.stripDie d).rd e f = s.rd e f :=
  (State.clearDie_rd ((State.disturbPart_moves ..).sane ((State.raiseFence_moves ..).sane h)) he
    (fun h6 => by rw [quiet, h6] at hf; cases hf)).trans (State.fenceDisturb_rd h d e hf)

theorem State.fenced_stripDie {s : State} (h : s.Sane) {d : Nat} (hd : isScan d = true) (e : Nat) :
    (s.stripDie d).fenced e = (s.fenced e || e == d) := by
  have hd' := isScan_iff.mp hd
  have hr := (State.raiseFence_moves s d).sane h
  have hp := State.disturbPart_moves (s.raiseFence d) d
  rw [← State.fenced_raiseFence h hd, State.fenced, State.fenced, State.stripDie,
    State.clearDie_rd (hp.sane hr) (by omega) (by decide), hp.rd hr 0 Reg.FAB_STAT_FENCED]

/-! ### Reset of a die -/

/-- A write on one die leaves the registers of the others. -/
theorem State.rd_wr_die {s : State} (h : s.Sane) {d e : Nat} (f g : FieldDef) (v : Nat) (he : e % 8 ≠ d % 8) :
    (s.wr d f v).rd e g = s.rd e g :=
  State.rd_wr_ne h v (by unfold FieldDef.key; omega)

theorem State.resetDie_eq (s : State) (d cause : Nat) : s.resetDie d cause =
    ((((s.stripDie d).wr d Reg.RST_DIE_CAUSE_CAUSE cause).wr d Reg.CLK_STAT_PLL_LOCK 1).wr d Reg.FAB_STAT_FENCED 1).powerUp d :=
  rfl

@[simp] theorem State.powerUp_rd (s : State) (d e : Nat) (f : FieldDef) : (s.powerUp d).rd e f = s.rd e f := rfl

theorem State.resetDie_rd_stripDie {s : State} (h : s.Sane) {d : Nat} (hd : isScan d = true) (cause : Nat) {e : Nat}
    (f : FieldDef) (he : e % 8 ≠ d) : (s.resetDie d cause).rd e f = (s.stripDie d).rd e f := by
  have he' : e % 8 ≠ d % 8 := by have := isScan_iff.mp hd; omega
  have h0 := h.stripDie d
  rw [State.resetDie_eq, State.powerUp_rd, State.rd_wr_die ((h0.wr ..).wr ..) _ _ _ he', State.rd_wr_die (h0.wr ..) _ _ _ he',
    State.rd_wr_die h0 _ _ _ he']

theorem State.resetDie_rd {s : State} (h : s.Sane) {d : Nat} (hd : isScan d = true) (cause : Nat) {e : Nat} {f : FieldDef}
    (he : e % 8 ≠ d) (hf : quiet f = true) : (s.resetDie d cause).rd e f = s.rd e f :=
  (State.resetDie_rd_stripDie h hd cause f he).trans (State.stripDie_rd h he hf)

theorem State.resetDie_cause {s : State} (h : s.Sane) (d cause : Nat) :
    (s.resetDie d cause).rd d Reg.RST_DIE_CAUSE_CAUSE = cause % 4 := by
  have h0 := h.stripDie d
  rw [State.resetDie_eq, State.powerUp_rd, State.rd_wr_other ((h0.wr ..).wr ..), State.rd_wr_other (h0.wr ..),
    State.rd_wr_same h0]
  rfl

theorem State.fenced_resetDie {s : State} (h : s.Sane) {d : Nat} (hd : isScan d = true) (cause e : Nat) :
    (s.resetDie d cause).fenced e = (s.fenced e || e == d) := by
  rw [← State.fenced_stripDie h hd]
  exact congrArg (inDies · e) (State.resetDie_rd_stripDie h hd cause _ (by have := isScan_iff.mp hd; omega))

/-! ### Header switches -/

/-- The state in which the header switches of a powered die have opened. -/
def State.cutDie (s : State) (d : Nat) : State :=
  ((((s.stripDie d).clearBits 0 Reg.PWR_STAT_ON (dieBit d)).clearBits 0 Reg.PWR_STAT_RETAINED (dieBit d)).wr d
    Reg.PWR_DIE_ON 0).wr d Reg.FAB_STAT_FENCED 1

theorem State.dieOff_eq (s : State) (d : Nat) : s.dieOff d =
    if (s.clearBits 0 Reg.PWR_SW_DIES (dieBit d)).powered d then (s.clearBits 0 Reg.PWR_SW_DIES (dieBit d)).cutDie d
    else s.clearBits 0 Reg.PWR_SW_DIES (dieBit d) := rfl

theorem State.powered_clearSwitch {s : State} (h : s.Sane) (d e : Nat) :
    (s.clearBits 0 Reg.PWR_SW_DIES (dieBit d)).powered e = s.powered e := by
  rw [State.powered, State.clearBits_rd h (by decide), State.powered]

theorem State.cutDie_rd {s : State} (h : s.Sane) {d : Nat} (hd : isScan d = true) {e : Nat} {f : FieldDef} (he : e % 8 ≠ d)
    (hon : apart f Reg.PWR_STAT_ON) (hret : apart f Reg.PWR_STAT_RETAINED) :
    (s.cutDie d).rd e f = (s.stripDie d).rd e f := by
  have he' : e % 8 ≠ d % 8 := by have := isScan_iff.mp hd; omega
  have h0 := h.stripDie d
  have h1 := (State.clearBits_moves (s.stripDie d) 0 Reg.PWR_STAT_ON (dieBit d)).sane h0
  have h2 := (State.clearBits_moves _ 0 Reg.PWR_STAT_RETAINED (dieBit d)).sane h1
  rw [State.cutDie, State.rd_wr_die (h2.wr ..) _ _ _ he', State.rd_wr_die h2 _ _ _ he', State.clearBits_rd h1 hret,
    State.clearBits_rd h0 hon]

theorem State.powered_cutDie {s : State} (h : s.Sane) {d : Nat} (hd : isScan d = true) (e : Nat) :
    (s.cutDie d).powered e = (s.powered e && e != d) := by
  have hd' : 0 % 8 ≠ d % 8 := by have := isScan_iff.mp hd; omega
  have h0 := h.stripDie d
  have h1 := (State.clearBits_moves (s.stripDie d) 0 Reg.PWR_STAT_ON (dieBit d)).sane h0
  have h2 := (State.clearBits_moves _ 0 Reg.PWR_STAT_RETAINED (dieBit d)).sane h1
  rw [State.powered, State.powered, State.cutDie, State.rd_wr_die (h2.wr ..) _ _ _ hd', State.rd_wr_die h2 _ _ _ hd',
    State.clearBits_rd h1 (by decide), State.inDies_clearBits h0 0 rfl hd,
    State.stripDie_rd h (by have := isScan_iff.mp hd; omega) (by decide)]

/-- After `dieOff` the die is not powered; the power of the others stays. -/
theorem State.powered_dieOff {s : State} (h : s.Sane) {d : Nat} (hd : isScan d = true) (e : Nat) :
    (s.dieOff d).powered e = (s.powered e && e != d) := by
  have h1 := (State.clearBits_moves s 0 Reg.PWR_SW_DIES (dieBit d)).sane h
  rw [State.dieOff_eq]
  split
  · rw [State.powered_cutDie h1 hd, State.powered_clearSwitch h]
  · rename_i hp
    rw [State.powered_clearSwitch h] at hp ⊢
    by_cases hed : e = d
    · rw [hed, Bool.eq_false_of_not_eq_true hp, Bool.false_and]
    · rw [bne_iff_ne.mpr hed, Bool.and_true]

theorem State.dieOff_rd {s : State} (h : s.Sane) {d : Nat} (hd : isScan d = true) {e : Nat} {f : FieldDef} (he : e % 8 ≠ d)
    (hf : quiet f = true) (hsw : apart f Reg.PWR_SW_DIES) (hon : apart f Reg.PWR_STAT_ON) (hret : apart f Reg.PWR_STAT_RETAINED) :
    (s.dieOff d).rd e f = s.rd e f := by
  have h1 := (State.clearBits_moves s 0 Reg.PWR_SW_DIES (dieBit d)).sane h
  have hbit : (s.clearBits 0 Reg.PWR_SW_DIES (dieBit d)).rd e f = s.rd e f := State.rd_wr_other h _ hsw
  rw [State.dieOff_eq]
  split
  · rw [State.cutDie_rd h1 hd he hon hret, State.stripDie_rd h1 he hf, hbit]
  · exact hbit

/-- Switching a die off lowers no fence. -/
theorem State.fenced_dieOff {s : State} (h : s.Sane) {d : Nat} (hd : isScan d = true) {e : Nat} (he : s.fenced e = true) :
    (s.dieOff d).fenced e = true := by
  have h1 := (State.clearBits_moves s 0 Reg.PWR_SW_DIES (dieBit d)).sane h
  have hbit : (s.clearBits 0 Reg.PWR_SW_DIES (dieBit d)).fenced e = true := by
    rw [State.fenced, State.clearBits_rd h (by decide)]; exact he
  rw [State.dieOff_eq]
  split
  · rw [State.fenced, State.cutDie_rd h1 hd (by have := isScan_iff.mp hd; omega) (by decide) (by decide)]
    exact (State.fenced_stripDie h1 hd e).trans (by rw [hbit]; rfl)
  · exact hbit

/-- The conditions under which a closed header switch powers a die on. -/
def State.comesOn (s : State) (d : Nat) : Bool :=
  !s.powered d && s.present d && inDies (s.rd 0 Reg.PWR_STAT_RAILS) d && s.role d != 3

theorem State.dieOn_eq {s : State} (h : s.Sane) (d : Nat) : s.dieOn d =
    if s.comesOn d then ((s.setBits 0 Reg.PWR_SW_DIES (dieBit d)).resetDie d 2).setBits 0 Reg.PWR_STAT_ON (dieBit d)
    else s.setBits 0 Reg.PWR_SW_DIES (dieBit d) := by
  have hkeep (f : FieldDef) (hf : apart f Reg.PWR_SW_DIES) : (s.setBits 0 Reg.PWR_SW_DIES (dieBit d)).rd 0 f = s.rd 0 f :=
    State.rd_wr_other h _ hf
  have hcond : (s.setBits 0 Reg.PWR_SW_DIES (dieBit d)).comesOn d = s.comesOn d := by
    simp only [State.comesOn, State.powered, State.present, State.role]
    rw [hkeep _ (by decide), hkeep _ (by decide), hkeep _ (by decide), hkeep _ (by decide)]
  rw [← hcond]
  rfl

theorem State.dieOn_rd {s : State} (h : s.Sane) {d : Nat} (hd : isScan d = true) {e : Nat} {f : FieldDef} (he : e % 8 ≠ d)
    (hf : quiet f = true) (hsw : apart f Reg.PWR_SW_DIES) (hon : apart f Reg.PWR_STAT_ON) :
    (s.dieOn d).rd e f = s.rd e f := by
  have h1 := (State.setBits_moves s 0 Reg.PWR_SW_DIES (dieBit d)).sane h
  have hbit : (s.setBits 0 Reg.PWR_SW_DIES (dieBit d)).rd e f = s.rd e f := State.rd_wr_other h _ hsw
  rw [State.dieOn_eq h]
  split
  · rw [State.setBits_rd ((State.resetDie_moves ..).sane h1) hon, State.resetDie_rd h1 hd _ he hf, hbit]
  · exact hbit

theorem State.powered_dieOn {s : State} (h : s.Sane) {d : Nat} (hd : isScan d = true) (e : Nat) :
    (s.dieOn d).powered e = (s.powered e || (s.comesOn d && e == d)) := by
  have h1 := (State.setBits_moves s 0 Reg.PWR_SW_DIES (dieBit d)).sane h
  have hbit : (s.setBits 0 Reg.PWR_SW_DIES (dieBit d)).rd 0 Reg.PWR_STAT_ON = s.rd 0 Reg.PWR_STAT_ON := State.rd_wr_other h _
  rw [State.dieOn_eq h]
  split
  · rename_i hon
    rw [State.powered, State.inDies_setBits ((State.resetDie_moves ..).sane h1) 0 rfl hd,
      State.resetDie_rd h1 hd _ (by have := isScan_iff.mp hd; omega) (by decide), hbit, hon, Bool.true_and, State.powered]
  · rename_i hon
    rw [Bool.eq_false_of_not_eq_true hon, Bool.false_and, Bool.or_false, State.powered, hbit, State.powered]

theorem State.fenced_dieOn {s : State} (h : s.Sane) {d : Nat} (hd : isScan d = true) (e : Nat) :
    (s.dieOn d).fenced e = (s.fenced e || (s.comesOn d && e == d)) := by
  have h1 := (State.setBits_moves s 0 Reg.PWR_SW_DIES (dieBit d)).sane h
  have hbit : (s.setBits 0 Reg.PWR_SW_DIES (dieBit d)).fenced e = s.fenced e := by
    rw [State.fenced, State.setBits_rd h (by decide), State.fenced]
  rw [State.dieOn_eq h]
  split
  · rename_i hon
    rw [hon, Bool.true_and, ← hbit, ← State.fenced_resetDie h1 hd 2, State.fenced,
      State.setBits_rd ((State.resetDie_moves ..).sane h1) (by decide), State.fenced]
  · rename_i hon
    rw [Bool.eq_false_of_not_eq_true hon, Bool.false_and, Bool.or_false, hbit]

/-- A die that a header switch powers on reports a power-on reset. -/
theorem State.dieOn_cause {s : State} (h : s.Sane) {d : Nat} (hon : s.comesOn d = true) :
    (s.dieOn d).rd d Reg.RST_DIE_CAUSE_CAUSE = 2 := by
  have h1 := (State.setBits_moves s 0 Reg.PWR_SW_DIES (dieBit d)).sane h
  rw [State.dieOn_eq h, if_pos hon, State.setBits_rd ((State.resetDie_moves ..).sane h1) (by decide),
    State.resetDie_cause h1]

end Sys2Proof.Machine
end

section
/-! SUPPORT.  Roles of dies, and what the power, the reset and the loss of one die leave of another. -/

open Sys2Proof Sys2Proof.Machine Sys2Proof.Bits
namespace Sys2Proof.Machine
set_option Elab.async false

/-! ### Roles -/

theorem State.role_congr {s t : State} (h : t.rd 0 Reg.PART_ROLES_ROLES = s.rd 0 Reg.PART_ROLES_ROLES) (d : Nat) :
    t.role d = s.role d := by rw [State.role, State.role, h]

theorem State.present_congr {s t : State} (h : t.rd 0 Reg.PART_STAT_PRESENT = s.rd 0 Reg.PART_STAT_PRESENT) (d : Nat) :
    t.present d = s.present d := by rw [State.present, State.present, h]

theorem State.powered_congr {s t : State} (h : t.rd 0 Reg.PWR_STAT_ON = s.rd 0 Reg.PWR_STAT_ON) (d : Nat) :
    t.powered d = s.powered d := by rw [State.powered, State.powered, h]

/-- The role of a die after a list of role changes, the last of which counts. -/
def roleAfter (l : List (Nat × Nat × Nat)) (d r : Nat) : Nat := l.foldl (fun r e => if e.1 = d then e.2.1 % 4 else r) r

/-- The mask of roles after a list of role changes. -/
def rolesAfter (l : List (Nat × Nat × Nat)) (m : Nat) : Nat := l.foldl (fun m e => setField m (2 * (e.1 - 2)) 2 e.2.1) m

theorem field_rolesAfter {l : List (Nat × Nat × Nat)} (hl : ∀ e ∈ l, isScan e.1 = true) {d : Nat} (hd : isScan d = true) (m : Nat) :
    field (rolesAfter l m) (2 * (d - 2)) 2 = roleAfter l d (field m (2 * (d - 2)) 2) := by
  induction l generalizing m with
  | nil => rfl
  | cons e l ih =>
    have he := isScan_iff.mp (hl e (List.mem_cons_self ..))
    have hd' := isScan_iff.mp hd
    refine (ih (fun x hx => hl x (List.mem_cons_of_mem _ hx)) _).trans (congrArg (roleAfter l d) ?_)
    beta_reduce
    by_cases hed : e.1 = d
    · rw [if_pos hed, hed, field_setField_same]; rfl
    · rw [if_neg hed, field_setField_apart (by omega)]

theorem State.setRoles_eq (s : State) {l : List (Nat × Nat × Nat)} (hl : l ≠ []) (cut : Bool) : ∃ f, s.setRoles l cut =
    (((s.writeInventory f).wr 0 Reg.PART_ROLES_ROLES
      (rolesAfter l ((s.writeInventory f).rd 0 Reg.PART_ROLES_ROLES))).irq 0 0x17 0).hotLost := by
  unfold State.setRoles
  rw [if_neg (by rw [List.isEmpty_iff]; exact hl)]
  exact ⟨_, rfl⟩

/-- The role of each die after `setRoles`. -/
theorem State.role_setRoles {s : State} (h : s.Sane) {l : List (Nat × Nat × Nat)} (hl : ∀ e ∈ l, isScan e.1 = true) (cut : Bool)
    {d : Nat} (hd : isScan d = true) : (s.setRoles l cut).role d = roleAfter l d (s.role d) := by
  have hd' := isScan_iff.mp hd
  by_cases hnil : l = []
  · rw [hnil]; rfl
  · obtain ⟨f, heq⟩ := s.setRoles_eq hnil cut
    have hinv := State.writeInventory_moves s f
    have h1 := hinv.sane h
    rw [heq, State.role, State.hotLost, State.rd_wr_other ((State.irq_moves ..).sane (h1.wr ..)),
      State.irq_rd (h1.wr ..) (by decide), State.rd_wr_same h1, hinv.rd h 0 Reg.PART_ROLES_ROLES]
    exact (field_mod (k := 12) (by omega)).trans (field_rolesAfter hl hd _)

/-- The registers that a change of roles leaves. -/
theorem State.setRoles_rd {s : State} (h : s.Sane) (l : List (Nat × Nat × Nat)) (cut : Bool) {e : Nat} {f : FieldDef}
    (hinv : (0x80000000080000000038 : Nat).testBit (64 + f.code % 64) = false) (hro : apart f Reg.PART_ROLES_ROLES)
    (hirq : apart f (IRQ_RAW_SRC 0x17)) (hhot : apart f Reg.MODE_STAT_HOT_OK) : (s.setRoles l cut).rd e f = s.rd e f := by
  by_cases hnil : l = []
  · rw [hnil]; rfl
  · obtain ⟨g, heq⟩ := s.setRoles_eq hnil cut
    have hm := State.writeInventory_moves s g
    have h1 := hm.sane h
    rw [heq, State.hotLost, State.rd_wr_other ((State.irq_moves ..).sane (h1.wr ..)) _ hhot, State.irq_rd (h1.wr ..) hirq,
      State.rd_wr_other h1 _ hro, hm.rd h e f hinv]

theorem State.present_setRoles {s : State} (h : s.Sane) (l : List (Nat × Nat × Nat)) (cut : Bool) (d : Nat) :
    (s.setRoles l cut).present d = s.present d :=
  State.present_congr (State.setRoles_rd h l cut rfl (by decide) (by decide) (by decide)) d

/-! ### A failed die and a die lost in Shunting -/

theorem State.role_failDie {s : State} (h : s.Sane) {e d : Nat} (he : isScan e = true) (hd : isScan d = true) :
    (s.failDie e).role d = if e = d then 2 else s.role d := by
  have h1 := (State.setBits_moves s 0 Reg.PART_STAT_FAILED (dieBit e)).sane h
  have hrole : ((s.setBits 0 Reg.PART_STAT_FAILED (dieBit e)).irq 0 0x17 1).role d = s.role d :=
    State.role_congr (by rw [State.irq_rd h1 (by decide), State.setBits_rd h (by decide)]) d
  rw [State.failDie, State.role_setRoles ((State.irq_moves ..).sane h1) (by simpa using he) false hd, hrole]
  rfl

theorem State.present_failDie {s : State} (h : s.Sane) (e d : Nat) : (s.failDie e).present d = s.present d := by
  have h1 := (State.setBits_moves s 0 Reg.PART_STAT_FAILED (dieBit e)).sane h
  rw [State.failDie, State.present_setRoles ((State.irq_moves ..).sane h1)]
  refine State.present_congr ?_ d
  rw [State.irq_rd h1 (by decide), State.setBits_rd h (by decide)]

/-- What `shuntLoses` makes of the roles: the die itself becomes OUT when it was a SPARE; no other role changes. -/
theorem State.shuntLoses_cases (s : State) (e : Nat) :
    Moves 0x10000000001c0000000010 s (s.shuntLoses e) ∨
      ∃ t, Moves 0x10000000001c0000000010 s t ∧ t.role e = 1 ∧ s.shuntLoses e = t.failDie e := by
  unfold State.shuntLoses
  split
  · exact .inl Moves.refl
  · split
    · exact .inl (State.abandonShunt_moves ..)
    · split
      · extract_lets t
        have ht : Moves 0x10000000001c0000000010 s t := State.abandonShunt_moves ..
        split
        · rename_i hrole
          exact .inr ⟨t, ht, hrole, rfl⟩
        · exact .inl ht
      · exact .inl Moves.refl

theorem State.role_shuntLoses {s : State} (h : s.Sane) {e d : Nat} (he : isScan e = true) (hd : isScan d = true)
    (hrole : e ≠ d ∨ s.role d ≠ 1) : (s.shuntLoses e).role d = s.role d := by
  obtain hm | ⟨t, hm, h1, heq⟩ := s.shuntLoses_cases e
  · exact State.role_congr (hm.rd h 0 _) d
  · have htr := State.role_congr (hm.rd h 0 Reg.PART_ROLES_ROLES)
    have hne : e ≠ d := fun hed => hrole.elim (· hed) (· (by rw [← hed, ← htr, h1]))
    rw [heq, State.role_failDie (hm.sane h) he hd, if_neg hne, htr]

theorem State.present_shuntLoses {s : State} (h : s.Sane) (e d : Nat) : (s.shuntLoses e).present d = s.present d := by
  obtain hm | ⟨t, hm, _, heq⟩ := s.shuntLoses_cases e
  · exact State.present_congr (hm.rd h 0 _) d
  · rw [heq, State.present_failDie (hm.sane h)]
    exact State.present_congr (hm.rd h 0 _) d

/-! ### What an operation on one die leaves of another -/

/-- `t` shows of die `d` what `s` shows: power, rail, presence, role and cause of the last reset; its fence is not lowered. -/
structure SameDie (d : Nat) (s t : State) : Prop where
  powered : t.powered d = s.powered d
  present : t.present d = s.present d
  rail : inDies (t.rd 0 Reg.PWR_STAT_RAILS) d = inDies (s.rd 0 Reg.PWR_STAT_RAILS) d
  role : t.role d = s.role d
  cause : t.rd d Reg.RST_DIE_CAUSE_CAUSE = s.rd d Reg.RST_DIE_CAUSE_CAUSE
  fenced : s.fenced d = true → t.fenced d = true

theorem SameDie.trans {d : Nat} {s t u : State} (h : SameDie d s t) (k : SameDie d t u) : SameDie d s u :=
  ⟨k.powered.trans h.powered, k.present.trans h.present, k.rail.trans h.rail, k.role.trans h.role, k.cause.trans h.cause,
    fun hf => k.fenced (h.fenced hf)⟩

theorem SameDie.comesOn {d : Nat} {s t : State} (h : SameDie d s t) : t.comesOn d = s.comesOn d := by
  rw [State.comesOn, State.comesOn, h.powered, h.present, h.rail, h.role]

section
variable {s : State} (h : s.Sane) {e d : Nat} (he : isScan e = true) (hd : isScan d = true) (hne : e ≠ d)
include h he hd hne

theorem State.sameDie_shuntLoses : SameDie d s (s.shuntLoses e) where
  powered := State.powered_congr ((State.shuntLoses_moves s e).rd h 0 _) d
  present := State.present_shuntLoses h e d
  rail := by rw [(State.shuntLoses_moves s e).rd h 0 Reg.PWR_STAT_RAILS]
  role := State.role_shuntLoses h he hd (.inl hne)
  cause := (State.shuntLoses_moves s e).rd h d _
  fenced hf := by rw [State.fenced, (State.shuntLoses_moves s e).rd h 0 Reg.FAB_STAT_FENCED]; exact hf

theorem State.sameDie_resetDie (cause : Nat) : SameDie d s (s.resetDie e cause) := by
  have he0 : 0 % 8 ≠ e := by have := isScan_iff.mp he; omega
  have hed : d % 8 ≠ e := by have := isScan_iff.mp hd; omega
  exact {
    powered := State.powered_congr (State.resetDie_rd h he cause he0 (by decide)) d
    present := State.present_congr (State.resetDie_rd h he cause he0 (by decide)) d
    rail := by rw [State.resetDie_rd h he cause he0 (by decide)]
    role := State.role_congr (State.resetDie_rd h he cause he0 (by decide)) d
    cause := State.resetDie_rd h he cause hed (by decide)
    fenced := fun hf => by rw [State.fenced_resetDie h he, hf]; rfl }

theorem State.sameDie_dieOff : SameDie d s (s.dieOff e) := by
  have he0 : 0 % 8 ≠ e := by have := isScan_iff.mp he; omega
  have hed : d % 8 ≠ e := by have := isScan_iff.mp hd; omega
  have hrd {die : Nat} (f : FieldDef) (hdie : die % 8 ≠ e) := State.dieOff_rd (f := f) h he hdie
  exact {
    powered := by rw [State.powered_dieOff h he, bne_iff_ne.mpr (Ne.symm hne), Bool.and_true]
    present := State.present_congr (hrd _ he0 (by decide) (by decide) (by decide) (by decide)) d
    rail := by rw [hrd _ he0 (by decide) (by decide) (by decide) (by decide)]
    role := State.role_congr (hrd _ he0 (by decide) (by decide) (by decide) (by decide)) d
    cause := hrd _ hed (by decide) (by decide) (by decide) (by decide)
    fenced := State.fenced_dieOff h he }

theorem State.sameDie_dieOn : SameDie d s (s.dieOn e) := by
  have he0 : 0 % 8 ≠ e := by have := isScan_iff.mp he; omega
  have hed : d % 8 ≠ e := by have := isScan_iff.mp hd; omega
  have hrd {die : Nat} (f : FieldDef) (hdie : die % 8 ≠ e) := State.dieOn_rd (f := f) h he hdie
  exact {
    powered := by rw [State.powered_dieOn h he, beq_false_of_ne (Ne.symm hne), Bool.and_false, Bool.or_false]
    present := State.present_congr (hrd _ he0 (by decide) (by decide) (by decide)) d
    rail := by rw [hrd _ he0 (by decide) (by decide) (by decide)]
    role := State.role_congr (hrd _ he0 (by decide) (by decide) (by decide)) d
    cause := hrd _ hed (by decide) (by decide) (by decide)
    fenced := fun hf => by rw [State.fenced_dieOn h he, hf]; rfl }

end

/-! ### A fold over dies -/

/-- A fold that meets `a` once, takes `P` to `Q` there, and keeps both elsewhere. -/
theorem foldl_reaches {α β : Type} {g : β → α → β} {P Q : β → Prop} {a : α} {l : List α} (ha : a ∈ l) (hn : l.Nodup)
    (hP : ∀ b, ∀ x ∈ l, x ≠ a → P b → P (g b x)) (hPQ : ∀ b, P b → Q (g b a)) (hQ : ∀ b, ∀ x ∈ l, x ≠ a → Q b → Q (g b x))
    {b : β} (hb : P b) : Q (l.foldl g b) := by
  induction l generalizing b with
  | nil => cases ha
  | cons x l ih =>
    obtain ⟨hxl, hnl⟩ := List.nodup_cons.mp hn
    rw [List.foldl_cons]
    by_cases hx : x = a
    · subst hx
      refine List.foldlRecOn l g (hPQ b hb) fun c hc y hy => hQ c y (List.mem_cons_of_mem _ hy) ?_ hc
      exact fun hyx => hxl (hyx ▸ hy)
    · exact ih ((List.mem_cons.mp ha).resolve_left (Ne.symm hx)) hnl (fun c y hy => hP c y (List.mem_cons_of_mem _ hy))
        (fun c y hy => hQ c y (List.mem_cons_of_mem _ hy)) (hP b x (List.mem_cons_self ..) hx hb)

theorem scanDies_nodup : scanDies.Nodup := by decide

end Sys2Proof.Machine
end

section
/-! SUPPORT.  Rails, header switches, retention and resets of the Scan dies (R20, R21, R58, R458, R466, R469, R470). -/

open Sys2Proof Sys2Proof.Machine Sys2Proof.Bits
namespace Sys2Proof.Machine
set_option Elab.async false

/-! ### Rails (R20, R469) -/

/-- The state of `SCAN_RAIL_LOSS` in which the rail and the presence of a die are gone. -/
def State.railGone (s : State) (die : Nat) (sev : Severity) : State :=
  ((((s.clearBits 0 Reg.PWR_STAT_RAILS (dieBit die)).clearBits 0 Reg.PART_STAT_PRESENT (dieBit die)).irq 0 0x02 1).archive 0x02 1
    sev [die]).raiseFence die

theorem State.railGone_shows {s : State} (h : s.Sane) {die : Nat} (hd : isScan die = true) (sev : Severity) :
    (s.railGone die sev).Sane ∧ inDies ((s.railGone die sev).rd 0 Reg.PWR_STAT_RAILS) die = false ∧
      (s.railGone die sev).present die = false := by
  have h1 := (State.clearBits_moves s 0 Reg.PWR_STAT_RAILS (dieBit die)).sane h
  have h2 := (State.clearBits_moves _ 0 Reg.PART_STAT_PRESENT (dieBit die)).sane h1
  have h3 := (State.irq_moves _ 0 0x02 1).sane h2
  have hfence := ((State.archive_moves (((s.clearBits 0 Reg.PWR_STAT_RAILS (dieBit die)).clearBits 0 Reg.PART_STAT_PRESENT
    (dieBit die)).irq 0 0x02 1) 0x02 1 sev [die]).sub (F := 0x202600000080000001310)).trans (State.raiseFence_moves _ die)
  refine ⟨hfence.sane h3, ?_, ?_⟩
  · rw [State.railGone, hfence.rd h3 0 Reg.PWR_STAT_RAILS, State.irq_rd h2 (by decide), State.clearBits_rd h1 (by decide),
      State.inDies_clearBits h 0 rfl hd, bne_self_eq_false, Bool.and_false]
  · rw [State.present, State.railGone, hfence.rd h3 0 Reg.PART_STAT_PRESENT, State.irq_rd h2 (by decide),
      State.inDies_clearBits h1 0 rfl hd, bne_self_eq_false, Bool.and_false]

/-- Once a die is lost to Shunting and switched off, its rail and its presence are still gone, and it is not powered. -/
theorem State.railLost_shows {s : State} (h : s.Sane) {die : Nat} (hd : isScan die = true) (sev : Severity) :
    let t := ((s.railGone die sev).shuntLoses die).dieOff die
    t.Sane ∧ inDies (t.rd 0 Reg.PWR_STAT_RAILS) die = false ∧ t.present die = false ∧ t.powered die = false := by
  have hd0 : 0 % 8 ≠ die := by have := isScan_iff.mp hd; omega
  obtain ⟨hsane, hrail, hpresent⟩ := State.railGone_shows h hd sev
  have hl := State.shuntLoses_moves (s.railGone die sev) die
  have hls := hl.sane hsane
  refine ⟨(State.dieOff_moves ..).sane hls, ?_, ?_, ?_⟩
  · rw [State.dieOff_rd hls hd hd0 (by decide) (by decide) (by decide) (by decide), hl.rd hsane 0 Reg.PWR_STAT_RAILS, hrail]
  · rw [State.present_congr (State.dieOff_rd hls hd hd0 (by decide) (by decide) (by decide) (by decide)),
      State.present_shuntLoses hsane, hpresent]
  · rw [State.powered_dieOff hls hd, bne_self_eq_false, Bool.and_false]

theorem State.withFrame_rd (s : State) (x : Frame) (e : Nat) (f : FieldDef) : ({ s with frame := x } : State).rd e f = s.rd e f :=
  rfl

theorem State.withShunt_rd (s : State) (x : Shunt) (e : Nat) (f : FieldDef) : ({ s with shunt := x } : State).rd e f = s.rd e f :=
  rfl

/-- The state of `SCAN_RAIL_LOSS` before a LIVE die fails: it returns no more. -/
def State.railSettled (s : State) (die : Nat) : State :=
  let t := ((s.railGone die (if s.live die then .fault else .info)).shuntLoses die).dieOff die
  { t with shunt := { t.shunt with returning := minus 6 t.shunt.returning (dieBit die) } }

/-- The state after a LIVE die has lost its rail. -/
def State.railFailed (s : State) (die : Nat) : State :=
  { (s.railSettled die).failDie die with
    frame := { (s.railSettled die).frame with lost := (s.railSettled die).frame.lost ||| dieBit die } }

theorem State.railFailed_rd (s : State) (die e : Nat) (f : FieldDef) :
    (s.railFailed die).rd e f = ((s.railSettled die).failDie die).rd e f := State.withFrame_rd ..

theorem State.railSettled_rd (s : State) (die e : Nat) (f : FieldDef) : (s.railSettled die).rd e f =
    (((s.railGone die (if s.live die then .fault else .info)).shuntLoses die).dieOff die).rd e f := State.withShunt_rd ..

theorem exec_scanRailLoss {s : State} {die : Nat} (hr : inDies (s.rd 0 Reg.PWR_STAT_RAILS) die = true) :
    exec (.scanRailLoss die) s = .next (if s.live die then s.railFailed die else s.railSettled die) := by
  show execScanRailLoss die s = _
  rw [execScanRailLoss, if_pos (by rw [isScan_of_inDies hr, hr]; rfl)]
  rfl

theorem State.railSettled_shows {s : State} (h : s.Sane) {die : Nat} (hd : isScan die = true) :
    (s.railSettled die).Sane ∧ inDies ((s.railSettled die).rd 0 Reg.PWR_STAT_RAILS) die = false ∧
      (s.railSettled die).present die = false ∧ (s.railSettled die).powered die = false := by
  obtain ⟨hsane, hrail, hpresent, hpower⟩ := State.railLost_shows h hd (if s.live die then .fault else .info)
  exact ⟨hsane, by rw [State.railSettled_rd, hrail], by rw [State.present, State.railSettled_rd]; exact hpresent,
    by rw [State.powered, State.railSettled_rd]; exact hpower⟩

theorem scanRailLoss_acts {s : State} (h : s.Sane) {die : Nat} (hr : inDies (s.rd 0 Reg.PWR_STAT_RAILS) die = true) :
    Completes (.scanRailLoss die) s fun t =>
      inDies (t.rd 0 Reg.PWR_STAT_RAILS) die = false ∧ t.present die = false ∧ t.powered die = false ∧
      (s.live die = true → t.role die = 2 ∧ inDies t.frame.lost die = true) := by
  have hd := isScan_of_inDies hr
  obtain ⟨ht, hrail, hpresent, hpower⟩ := State.railSettled_shows h hd
  have hexec := exec_scanRailLoss hr
  split at hexec
  · have hfail := State.failDie_moves (s.railSettled die) die
    have hrole : (s.railFailed die).role die = 2 := by
      rw [State.role, State.railFailed_rd]; exact (State.role_failDie ht hd hd).trans (if_pos rfl)
    have hlost : inDies (s.railFailed die).frame.lost die = true := by
      rw [State.railFailed, inDies_or_dieBit hd, beq_self_eq_true, Bool.or_true]
    refine ⟨_, hexec, ?_, ?_, ?_, fun _ => ⟨hrole, hlost⟩⟩
    · rw [State.railFailed_rd, hfail.rd ht 0 Reg.PWR_STAT_RAILS, hrail]
    · rw [State.present, State.railFailed_rd]; exact (State.present_failDie ht die die).trans hpresent
    · rw [State.powered, State.railFailed_rd, hfail.rd ht 0 Reg.PWR_STAT_ON]; exact hpower
  · rename_i hlive
    exact ⟨_, hexec, hrail, hpresent, hpower, fun hl => absurd hl hlive⟩

theorem exec_scanRailReturn {s : State} {die : Nat} (hd : isScan die = true)
    (hr : inDies (s.rd 0 Reg.PWR_STAT_RAILS) die = false) :
    exec (.scanRailReturn die) s = .next ((s.setBits 0 Reg.PWR_STAT_RAILS (dieBit die)).irq 0 0x02 1) := by
  show execScanRailReturn die s = _
  rw [execScanRailReturn, if_pos (by rw [hd, hr]; rfl)]

/-- An interrupt source that has been raised. -/
theorem State.bit_irq {s : State} (h : s.Sane) (die code : Nat) {n : Nat} (hn : n < 32) :
    bit ((s.irq die code n).rd die (IRQ_RAW_SRC code)) n = true := by
  rw [State.irq, State.setBits, State.rd_wr_same h, bit_eq_testBit, IRQ_RAW_SRC, Nat.one_shiftLeft]
  show ((_ ||| 2 ^ n) % 2 ^ 32).testBit n = true
  rw [Nat.testBit_mod_two_pow, decide_eq_true hn, Nat.testBit_or, Nat.testBit_two_pow_self, Bool.or_true]
  rfl

theorem scanRailReturn_acts {s : State} (h : s.Sane) {die : Nat} (hd : isScan die = true)
    (hr : inDies (s.rd 0 Reg.PWR_STAT_RAILS) die = false) :
    Completes (.scanRailReturn die) s fun t =>
      inDies (t.rd 0 Reg.PWR_STAT_RAILS) die = true ∧ t.powered die = s.powered die ∧ t.present die = s.present die ∧
      bit (t.rd 0 (IRQ_RAW_SRC 2)) 1 = true := by
  have h1 := (State.setBits_moves s 0 Reg.PWR_STAT_RAILS (dieBit die)).sane h
  refine ⟨_, exec_scanRailReturn hd hr, ?_, State.powered_congr ?_ die, State.present_congr ?_ die, State.bit_irq h1 0 2 (by decide)⟩
  · rw [State.irq_rd h1 (by decide), State.inDies_setBits h 0 rfl hd, beq_self_eq_true, Bool.or_true]
  · rw [State.irq_rd h1 (by decide), State.setBits_rd h (by decide)]
  · rw [State.irq_rd h1 (by decide), State.setBits_rd h (by decide)]

/-! ### Header switches (R20, R21, R58) -/

theorem written_sane {s : State} (h : s.Sane) (w : Who) (die code off word : Nat) : (written s w die code off word).Sane :=
  (written_moves ..).sane h

theorem written_powered {s : State} (h : s.Sane) (w : Who) {off word : Nat} (ho : off % 4096 ≠ 0x108) (d : Nat) :
    (written s w 0 2 off word).powered d = s.powered d :=
  State.powered_congr (written_rd h w 0 (.inr (Ne.symm ho))) d

/-- What `PWR.SW` does to one die, by its bit of the new mask and whether its bit was set before. -/
def State.switchDie (old new : Nat) (s : State) (d : Nat) : State :=
  if inDies new d then State.dieOn s d else if inDies old d || s.powered d then (s.shuntLoses d).dieOff d else s

theorem State.switchDie_sane {s : State} (h : s.Sane) (old new d : Nat) : (s.switchDie old new d).Sane := by
  unfold State.switchDie
  split
  · exact (State.dieOn_moves ..).sane h
  · split
    · exact (State.dieOff_moves ..).sane ((State.shuntLoses_moves ..).sane h)
    · exact h

theorem State.sameDie_switchDie {s : State} (h : s.Sane) {e d : Nat} (he : isScan e = true) (hd : isScan d = true) (hne : e ≠ d)
    (old new : Nat) : SameDie d s (s.switchDie old new e) := by
  unfold State.switchDie
  split
  · exact State.sameDie_dieOn h he hd hne
  · split
    · exact (State.sameDie_shuntLoses h he hd hne).trans (State.sameDie_dieOff ((State.shuntLoses_moves ..).sane h) he hd hne)
    · exact ⟨rfl, rfl, rfl, rfl, rfl, id⟩

theorem State.switchDie_off {s : State} (h : s.Sane) {d : Nat} (hd : isScan d = true) (old : Nat) {new : Nat}
    (hn : inDies new d = false) : (s.switchDie old new d).powered d = false := by
  unfold State.switchDie
  rw [if_neg (by rw [hn]; decide)]
  split
  · rw [State.powered_dieOff ((State.shuntLoses_moves ..).sane h) hd, bne_self_eq_false, Bool.and_false]
  · rename_i hp
    exact (Bool.or_eq_false_iff.mp (Bool.eq_false_of_not_eq_true hp)).2

theorem State.switchDie_on {s : State} (old : Nat) {new d : Nat} (hn : inDies new d = true) :
    s.switchDie old new d = s.dieOn d := if_pos hn

/-- A fold of an operation that leaves the other dies alone: what holds of a die at its own turn holds at the end. -/
theorem foldl_dies {g : State → Nat → State} (hsane : ∀ t d, t.Sane → (g t d).Sane)
    (hsame : ∀ t e d, t.Sane → isScan e = true → isScan d = true → e ≠ d → SameDie d t (g t e)) {l : List Nat}
    (hl : ∀ e ∈ l, isScan e = true) (hn : l.Nodup) {d : Nat} (hd : d ∈ l) {s : State} (h : s.Sane) {Q : State → Prop}
    (hQ : ∀ t, t.Sane → SameDie d s t → Q (g t d)) (hkeep : ∀ t u, SameDie d t u → Q t → Q u) : Q (l.foldl g s) := by
  have hsd := hl d hd
  refine (foldl_reaches (P := fun t => t.Sane ∧ SameDie d s t) (Q := fun t => t.Sane ∧ Q t) hd hn ?_ ?_ ?_
    ⟨h, ⟨rfl, rfl, rfl, rfl, rfl, id⟩⟩).2
  · exact fun t e he hne ⟨ht, hst⟩ => ⟨hsane t e ht, hst.trans (hsame t e d ht (hl e he) hsd hne)⟩
  · exact fun t ⟨ht, hst⟩ => ⟨hsane t d ht, hQ t ht hst⟩
  · exact fun t e he hne ⟨ht, hqt⟩ => ⟨hsane t e ht, hkeep t _ (hsame t e d ht (hl e he) hsd hne) hqt⟩

theorem exec_headerSwitch {s : State} (h : s.Sane) {w : Who} {word : Nat} (hs : s.takes w 0 2 = true)
    (hf : s.fits w 0 2 0x100 word = true) : exec (.headerSwitch w word) s =
      .next (scanDies.foldl (State.switchDie (s.rd 0 Reg.PWR_SW_DIES) (word % 64)) (written s w 0 2 0x100 word)) := by
  have hnew : (written s w 0 2 0x100 word).rd 0 Reg.PWR_SW_DIES = word % 64 := by
    rw [written_get h w (by decide) (by decide) rfl]
    rfl
  show execHeaderSwitch w word s = _
  rw [execHeaderSwitch, writeWith_fits hs hf (by decide), State.pwrSw, hnew]
  rfl

theorem headerSwitch_acts {s : State} (h : s.Sane) {w : Who} {word : Nat} (hs : s.takes w 0 2 = true)
    (hf : s.fits w 0 2 0x100 word = true) :
    Completes (.headerSwitch w word) s fun t => ∀ d ∈ scanDies,
      (inDies word d = false → t.powered d = false) ∧
      (inDies word d = true → s.powered d = true → t.powered d = true) ∧
      (inDies word d = true → s.powered d = false → s.present d = true →
        inDies (s.rd 0 Reg.PWR_STAT_RAILS) d = true → s.role d ≠ 3 →
        t.powered d = true ∧ t.rd d Reg.RST_DIE_CAUSE_CAUSE = 2 ∧ t.fenced d = true) := by
  refine ⟨_, exec_headerSwitch h hs hf, fun d hd => ?_⟩
  have hsd := mem_scanDies_iff.mp hd
  have hw := written_sane h w 0 2 0x100 word
  have hpow := written_powered h w (word := word) (off := 0x100) (by decide) d
  have hnew : inDies (word % 64) d = inDies word d := inDies_mod word d
  have hfold {Q : State → Prop} := foldl_dies (g := State.switchDie (s.rd 0 Reg.PWR_SW_DIES) (word % 64))
    (fun t e ht => t.switchDie_sane ht _ _ e) (fun t e d ht he hd hne => t.sameDie_switchDie ht he hd hne _ _)
    (fun e => mem_scanDies_iff.mp) scanDies_nodup hd hw (Q := Q)
  refine ⟨fun hb => ?_, fun hb hp => ?_, fun hb hp hpr hra hro => ?_⟩
  · exact hfold (Q := fun t => t.powered d = false) (fun t ht _ => t.switchDie_off ht hsd _ (hnew.trans hb))
      fun t u htu ht => htu.powered.trans ht
  · refine hfold (Q := fun t => t.powered d = true) (fun t ht hst => ?_) fun t u htu ht => htu.powered.trans ht
    rw [State.switchDie_on _ (hnew.trans hb), State.powered_dieOn ht hsd, hst.powered, hpow, hp, Bool.true_or]
  · refine hfold (Q := fun t => t.powered d = true ∧ t.rd d Reg.RST_DIE_CAUSE_CAUSE = 2 ∧ t.fenced d = true)
      (fun t ht hst => ?_) fun t u htu ⟨h1, h2, h3⟩ => ⟨htu.powered.trans h1, htu.cause.trans h2, htu.fenced h3⟩
    have hon : t.comesOn d = true := by
      rw [hst.comesOn, State.comesOn, hpow, hp, State.present_congr (written_rd h w 0), hpr, written_rd h w 0, hra,
        State.role_congr (written_rd h w 0), bne_iff_ne.mpr hro]
      rfl
    rw [State.switchDie_on _ (hnew.trans hb)]
    exact ⟨by rw [State.powered_dieOn ht hsd, hon, beq_self_eq_true]; simp, State.dieOn_cause ht hon,
      by rw [State.fenced_dieOn ht hsd, hon, beq_self_eq_true]; simp⟩

end Sys2Proof.Machine
end

section
/-! SUPPORT.  Retention and resets of the Scan dies (R458, R466, R470), and the memory of a die that was reset. -/

open Sys2Proof Sys2Proof.Machine Sys2Proof.Bits
namespace Sys2Proof.SMap

theorem find?_none_of_forall {α : Type} {m : SMap α} {k : Nat} (h : ∀ e ∈ m, e.1 ≠ k) : find? m k = none := by
  induction m with
  | nil => rfl
  | cons e m ih =>
    rw [find?, if_neg (h e (List.mem_cons_self ..)), ih fun x hx => h x (List.mem_cons_of_mem _ hx), ite_self]

/-- A cleared key is not listed. -/
theorem find?_clear_inside {α : Type} {m : SMap α} {lo n k : Nat} (h1 : lo ≤ k) (h2 : k < lo + n) : find? (clear m lo n) k = none := by
  refine find?_none_of_forall fun e he => ?_
  simp only [clear, splice, List.append_nil, List.mem_append, List.mem_filter, decide_eq_true_eq] at he
  omega

theorem clear_eq_keep {α : Type} {m : SMap α} (hs : sorted m = true) (lo n : Nat) :
    clear m lo n = keep (fun k => decide (k < lo) || decide (lo + n ≤ k)) m := by
  induction m with
  | nil => rfl
  | cons e m ih =>
    obtain ⟨ha, hm⟩ := sorted_cons.mp hs
    have ih := ih hm
    simp only [clear, splice, keep, List.append_nil] at ih ⊢
    by_cases h1 : e.1 < lo
    · simp [h1, show ¬(lo + n ≤ e.1) by omega, ih]
    · have hnone : m.filter (fun x => decide (x.1 < lo)) = [] := by
        rw [List.filter_eq_nil_iff]; intro x hx; have := ha x hx; simp; omega
      rw [hnone] at ih
      by_cases h2 : lo + n ≤ e.1 <;> simp [h1, h2, hnone, ← ih]

theorem get_clear_outside {α : Type} {d : α} {m : SMap α} (hs : sorted m = true) {lo n k : Nat} (h : k < lo ∨ lo + n ≤ k) :
    get d (clear m lo n) k = get d m k := by
  rw [get, get, clear_eq_keep hs, find?_keep hs (by simpa using h)]

end Sys2Proof.SMap

namespace Sys2Proof.Machine
set_option Elab.async false

/-! ### Retention (R466) -/

/-- The state in which the Keeper and the die show a die as retained or not; its banks are still to follow. -/
def State.holdDie (s : State) (d : Nat) (b : Bool) : State :=
  ((if b then s.setBits 0 Reg.PWR_STAT_RETAINED (dieBit d) else s.clearBits 0 Reg.PWR_STAT_RETAINED (dieBit d)).wrB d
    Reg.PWR_DIE_RETAINED b).wrB d Reg.PWR_DIE_ON !b

theorem State.Sane.markRetained {s : State} (h : s.Sane) (d : Nat) (b : Bool) :
    (if b then s.setBits 0 Reg.PWR_STAT_RETAINED (dieBit d) else s.clearBits 0 Reg.PWR_STAT_RETAINED (dieBit d)).Sane := by
  cases b
  · exact (State.clearBits_moves ..).sane h
  · exact (State.setBits_moves ..).sane h

theorem State.Sane.holdDie {s : State} (h : s.Sane) (d : Nat) (b : Bool) : (s.holdDie d b).Sane :=
  (State.wrB_moves ..).sane ((State.wrB_moves ..).sane (h.markRetained d b))

theorem State.holdDie_rd_mark {s : State} (h : s.Sane) (d : Nat) (b : Bool) {e : Nat} {f : FieldDef}
    (hown : apart f Reg.PWR_DIE_RETAINED) (hon : apart f Reg.PWR_DIE_ON) : (s.holdDie d b).rd e f =
      (if b then s.setBits 0 Reg.PWR_STAT_RETAINED (dieBit d) else s.clearBits 0 Reg.PWR_STAT_RETAINED (dieBit d)).rd e f := by
  have h1 := h.markRetained d b
  exact (State.rd_wr_other ((State.wrB_moves ..).sane h1) _ hon).trans (State.rd_wr_other h1 _ hown)

theorem State.holdDie_rd {s : State} (h : s.Sane) (d : Nat) (b : Bool) {e : Nat} {f : FieldDef}
    (hret : apart f Reg.PWR_STAT_RETAINED) (hown : apart f Reg.PWR_DIE_RETAINED) (hon : apart f Reg.PWR_DIE_ON) :
    (s.holdDie d b).rd e f = s.rd e f := by
  rw [State.holdDie_rd_mark h d b hown hon]
  cases b
  · exact State.clearBits_rd h hret
  · exact State.setBits_rd h hret

theorem State.retained_holdDie {s : State} (h : s.Sane) {d : Nat} (hd : isScan d = true) (b : Bool) (e : Nat) :
    inDies ((s.holdDie d b).rd 0 Reg.PWR_STAT_RETAINED) e = if e = d then b else inDies (s.rd 0 Reg.PWR_STAT_RETAINED) e := by
  rw [State.holdDie_rd_mark h d b (by decide) (by decide)]
  cases b
  · show inDies ((s.clearBits 0 Reg.PWR_STAT_RETAINED (dieBit d)).rd 0 Reg.PWR_STAT_RETAINED) e = _
    rw [State.inDies_clearBits h 0 rfl hd]
    by_cases hed : e = d <;> simp [hed]
  · show inDies ((s.setBits 0 Reg.PWR_STAT_RETAINED (dieBit d)).rd 0 Reg.PWR_STAT_RETAINED) e = _
    rw [State.inDies_setBits h 0 rfl hd]
    by_cases hed : e = d <;> simp [hed]

/-- `retainDie` leaves a die that is off or already as asked; else the die is held, and its banks (page 7) follow. -/
theorem State.retainDie_cases (s : State) (d : Nat) (b : Bool) :
    ((s.powered d = false ∨ inDies (s.rd 0 Reg.PWR_STAT_RETAINED) d = b) ∧ s.retainDie d b = s) ∨
      (s.powered d = true ∧ Moves 0x800000080000000010 (s.holdDie d b) (s.retainDie d b)) := by
  unfold State.retainDie
  split
  · rename_i hstay
    exact .inl ⟨by simpa using hstay, rfl⟩
  · rename_i hgo
    have hgo : s.powered d = true ∧ inDies (s.rd 0 Reg.PWR_STAT_RETAINED) d ≠ b := by simpa using hgo
    refine .inr ⟨hgo.1, ?_⟩
    exact Moves.foldl (fun _ _ => Moves.ite Moves.refl (Moves.sub (State.wr_moves ..) (Moves.at 7 rfl))) Moves.refl

/-- The registers of the Keeper that `retainDie` leaves. -/
theorem State.retainDie_rd {s : State} (h : s.Sane) (d : Nat) (b : Bool) {e : Nat} {f : FieldDef} (hc : f.code % 64 ≠ 7)
    (hret : apart f Reg.PWR_STAT_RETAINED) (hown : apart f Reg.PWR_DIE_RETAINED) (hon : apart f Reg.PWR_DIE_ON) :
    (s.retainDie d b).rd e f = s.rd e f := by
  obtain ⟨-, heq⟩ | ⟨-, hm⟩ := s.retainDie_cases d b
  · rw [heq]
  · rw [hm.rd (h.holdDie d b) e f (pages_clear (p := fun c => c != 7) (bne_iff_ne.mpr hc) (by decide)),
      State.holdDie_rd h d b hret hown hon]

/-- A powered die is retained as asked; the retention of the others stays. -/
theorem State.retained_retainDie {s : State} (h : s.Sane) {d : Nat} (hd : isScan d = true) (b : Bool) (e : Nat) :
    inDies ((s.retainDie d b).rd 0 Reg.PWR_STAT_RETAINED) e =
      if e = d ∧ s.powered d = true then b else inDies (s.rd 0 Reg.PWR_STAT_RETAINED) e := by
  obtain ⟨hcase, heq⟩ | ⟨hp, hm⟩ := s.retainDie_cases d b
  · rw [heq]
    split
    · rename_i hed
      rw [hed.1, hcase.resolve_left (by rw [hed.2]; decide)]
    · rfl
  · rw [hm.rd (h.holdDie d b) 0 Reg.PWR_STAT_RETAINED, State.retained_holdDie h hd]
    simp only [hp, and_true]

/-- What `PWR.RETAIN` does to one die. -/
def State.retainStep (s : State) (d : Nat) : State := s.retainDie d (inDies (s.rd 0 Reg.PWR_RETAIN_DIES) d)

theorem exec_dieRetain {s : State} {w : Who} {word : Nat} (hs : s.takes w 0 2 = true) (hw : word < 64) :
    exec (.dieRetain w word) s = .next (scanDies.foldl State.retainStep (written s w 0 2 0x104 word)) := by
  have hplain : ∀ word : Fin 64, plainRegister 0 0x02 0x104 word.val = true := by decide
  show execDieRetain w word s = _
  rw [execDieRetain, writeThen_plain hs (hplain ⟨word, hw⟩)]
  rfl

theorem dieRetain_acts {s : State} (h : s.Sane) {w : Who} {word : Nat} (hs : s.takes w 0 2 = true) (hw : word < 64) :
    Completes (.dieRetain w word) s fun t => ∀ d ∈ scanDies, s.powered d = true →
      inDies (t.rd 0 Reg.PWR_STAT_RETAINED) d = inDies word d := by
  refine ⟨_, exec_dieRetain hs hw, fun d hd hp => ?_⟩
  have hask : (written s w 0 2 0x104 word).rd 0 Reg.PWR_RETAIN_DIES = word % 64 :=
    written_get h w (by decide) (by decide) rfl
  have hrd (t : State) (ht : t.Sane) (e : Nat) : (t.retainStep e).rd 0 Reg.PWR_RETAIN_DIES = t.rd 0 Reg.PWR_RETAIN_DIES ∧
      (t.retainStep e).powered d = t.powered d :=
    ⟨State.retainDie_rd ht _ _ (by decide) (by decide) (by decide) (by decide),
      State.powered_congr (State.retainDie_rd ht _ _ (by decide) (by decide) (by decide) (by decide)) d⟩
  refine (foldl_reaches (P := fun t : State => t.Sane ∧ t.rd 0 Reg.PWR_RETAIN_DIES = word % 64 ∧ t.powered d = true)
    (Q := fun t : State => t.Sane ∧ inDies (t.rd 0 Reg.PWR_STAT_RETAINED) d = inDies word d) hd scanDies_nodup ?_ ?_ ?_
    ⟨written_sane h .., hask, (written_powered h w (by decide) d).trans hp⟩).2
  · exact fun t e _ _ ⟨ht, ha, hq⟩ => ⟨(State.retainDie_moves ..).sane ht, (hrd t ht e).1.trans ha, (hrd t ht e).2.trans hq⟩
  · exact fun t ⟨ht, ha, hq⟩ => ⟨(State.retainDie_moves ..).sane ht, by
      rw [State.retainStep, State.retained_retainDie ht (mem_scanDies_iff.mp hd), if_pos ⟨rfl, hq⟩, ha]; exact inDies_mod word d⟩
  · exact fun t e he hne ⟨ht, hb⟩ => ⟨(State.retainDie_moves ..).sane ht, by
      rw [State.retainStep, State.retained_retainDie ht (mem_scanDies_iff.mp he), if_neg fun hx => hne hx.1.symm, hb]⟩

/-! ### The memory of a die -/

/-- A byte of a Scan die lies below the Stacks. -/
theorem phys_lt_STACKS {d own : Nat} (hd : isScan d = true) (ho : own < 0x1000000) : phys d own < STACKS := by
  have := isScan_iff.mp hd
  simp only [phys, STACKS]
  omega

theorem State.loadByte_congr {s t : State} (h : t.mem = s.mem) (a : Nat) : t.loadByte a = s.loadByte a :=
  congrArg (SMap.get 0 · a) h

theorem State.loadByte_twinWrite {s : State} (h : s.Sane) (n : Nat) (body : List Byte) {a : Nat} (ha : a < STACKS) :
    (s.twinWrite n body).loadByte a = s.loadByte a := by
  rw [State.twinWrite]
  unfold State.twinWriteBeside
  extract_lets b seq s1 s2
  have h1 : s1.Sane := (State.storeBytes_moves ..).sane h
  have e1 : s1.loadByte a = s.loadByte a := State.loadByte_storeBytes h (.inl (Nat.lt_of_lt_of_le ha (Nat.le_add_right ..)))
  have e2 : s2.loadByte a = s1.loadByte a := State.loadByte_storeBytes h1 (.inl (Nat.lt_of_lt_of_le ha (Nat.le_add_right ..)))
  clear_value s2
  exact (State.loadByte_congr (State.wr_mem ..) a).trans (e2.trans e1)

theorem State.loadByte_setRoles {s : State} (h : s.Sane) (l : List (Nat × Nat × Nat)) (cut : Bool) {a : Nat} (ha : a < STACKS) :
    (s.setRoles l cut).loadByte a = s.loadByte a := by
  by_cases hnil : l = []
  · rw [hnil]; rfl
  · obtain ⟨f, heq⟩ := s.setRoles_eq hnil cut
    have hmem : (s.setRoles l cut).mem = (s.writeInventory f).mem := by
      rw [heq, State.hotLost, State.wr_mem, State.irq, State.setBits, State.wr_mem, State.wr_mem]
    rw [State.loadByte_congr hmem, State.writeInventory, State.loadByte_twinWrite h 34 _ ha]

theorem State.loadByte_failDie {s : State} (h : s.Sane) (d : Nat) {a : Nat} (ha : a < STACKS) :
    (s.failDie d).loadByte a = s.loadByte a :=
  State.loadByte_setRoles ((State.irq_moves ..).sane ((State.setBits_moves ..).sane h)) _ _ ha

theorem State.loadByte_shuntLoses {s : State} (h : s.Sane) (e : Nat) {a : Nat} (ha : a < STACKS) :
    (s.shuntLoses e).loadByte a = s.loadByte a := by
  obtain hm | ⟨t, hm, _, heq⟩ := s.shuntLoses_cases e
  · exact State.loadByte_congr (hm.part .mem) a
  · rw [heq, State.loadByte_failDie (hm.sane h) e ha]
    exact State.loadByte_congr (hm.part .mem) a

theorem State.clearDie_mem (s : State) (d : Nat) : (s.clearDie d).mem = SMap.clear s.mem (phys d 0) 0x1000000 := by
  unfold State.clearDie
  extract_lets other start s1 s2
  have h1 : s1.mem = s.mem := rfl
  have h2 : s2.mem = s1.mem := (State.dropCredits_moves s1 d).part .mem
  clear_value s2
  rw [State.clearMem, h2, h1]

theorem State.resetDie_mem (s : State) (d cause : Nat) : (s.resetDie d cause).mem = SMap.clear s.mem (phys d 0) 0x1000000 := by
  have hm : ((s.raiseFence d).disturbPart d).mem = s.mem :=
    ((State.disturbPart_moves ..).part .mem).trans ((State.raiseFence_moves ..).part .mem)
  rw [← hm, ← State.clearDie_mem]
  rfl

/-- After the reset of a die its memory is zero. -/
theorem State.loadByte_resetDie_same (s : State) (d cause : Nat) {own : Nat} (ho : own < 0x1000000) :
    (s.resetDie d cause).loadByte (phys d own) = 0 := by
  rw [State.loadByte, SMap.get, State.resetDie_mem, SMap.find?_clear_inside (by unfold phys; omega) (by unfold phys; omega)]
  rfl

/-- The reset of a die leaves the memory of the others. -/
theorem State.loadByte_resetDie_other {s : State} (h : s.Sane) {d e : Nat} (cause : Nat) (hne : e ≠ d) {own : Nat}
    (ho : own < 0x1000000) : (s.resetDie e cause).loadByte (phys d own) = s.loadByte (phys d own) := by
  rw [State.loadByte, State.resetDie_mem, SMap.get_clear_outside h.mem_sorted (by unfold phys; omega)]
  rfl

/-! ### Resets (R458, R470) -/

/-- What `RST.DIE_RESET` does to one die. -/
def State.resetStep (s : State) (d : Nat) : State := (s.shuntLoses d).resetDie d 3

theorem exec_dieReset {s : State} {w : Who} {word : Nat} (hs : s.takes w 0 3 = true) (hf : s.fits w 0 3 0x104 word = true) :
    exec (.dieReset w word) s = .next (((scanDies.filter fun d => inDies word d && !(written s w 0 3 0x104 word).live d &&
      (written s w 0 3 0x104 word).powered d).foldl State.resetStep (written s w 0 3 0x104 word)).wr 0 Reg.RST_DIE_RESET_DIES 0) := by
  show execDieReset w word s = _
  rw [execDieReset, writeThen_fits hs hf]
  rfl

theorem State.sameDie_resetStep {s : State} (h : s.Sane) {e d : Nat} (he : isScan e = true) (hd : isScan d = true) (hne : e ≠ d) :
    SameDie d s (s.resetStep e) :=
  (State.sameDie_shuntLoses h he hd hne).trans (State.sameDie_resetDie ((State.shuntLoses_moves ..).sane h) he hd hne 3)

theorem State.resetStep_sane {s : State} (h : s.Sane) (d : Nat) : (s.resetStep d).Sane :=
  (State.resetDie_moves ..).sane ((State.shuntLoses_moves ..).sane h)

/-- A die that was reset reports it, is fenced, and its memory is zero. -/
def State.wasReset (s : State) (d : Nat) : Prop :=
  s.rd d Reg.RST_DIE_CAUSE_CAUSE = 3 ∧ s.fenced d = true ∧ ∀ own, own < 0x1000000 → s.loadByte (phys d own) = 0

theorem State.resetStep_wasReset {s : State} (h : s.Sane) {d : Nat} (hd : isScan d = true) : (s.resetStep d).wasReset d := by
  have hl := (State.shuntLoses_moves s d).sane h
  exact ⟨State.resetDie_cause hl d 3, by rw [State.resetStep, State.fenced_resetDie hl hd, beq_self_eq_true, Bool.or_true],
    fun own ho => State.loadByte_resetDie_same _ d 3 ho⟩

theorem State.wasReset_resetStep {s : State} (h : s.Sane) {e d : Nat} (he : isScan e = true) (hd : isScan d = true) (hne : e ≠ d)
    (hr : s.wasReset d) : (s.resetStep e).wasReset d := by
  obtain ⟨hcause, hfence, hmem⟩ := hr
  have hsame := State.sameDie_resetStep h he hd hne
  refine ⟨hsame.cause.trans hcause, hsame.fenced hfence, fun own ho => ?_⟩
  rw [State.resetStep, State.loadByte_resetDie_other ((State.shuntLoses_moves ..).sane h) 3 hne ho,
    State.loadByte_shuntLoses h e (phys_lt_STACKS hd ho), hmem own ho]

theorem dieReset_acts {s : State} (h : s.Sane) {w : Who} {word : Nat} (hs : s.takes w 0 3 = true)
    (hf : s.fits w 0 3 0x104 word = true) :
    Completes (.dieReset w word) s fun t => ∀ d ∈ scanDies, inDies word d = true → s.live d = false → s.powered d = true →
      t.rd d Reg.RST_DIE_CAUSE_CAUSE = 3 ∧ t.fenced d = true ∧ ∀ own, own < 0x1000000 → t.loadByte (phys d own) = 0 := by
  refine ⟨_, exec_dieReset hs hf, fun d hd hb hlive hp => ?_⟩
  have hsd := mem_scanDies_iff.mp hd
  have hw := written_sane h w 0 3 0x104 word
  have hmem : d ∈ scanDies.filter fun d => inDies word d && !(written s w 0 3 0x104 word).live d &&
      (written s w 0 3 0x104 word).powered d := by
    rw [List.mem_filter, State.live, State.role_congr (written_rd h w 0), State.powered_congr (written_rd h w 0), hb, hp, ← State.live,
      hlive]
    exact ⟨hd, rfl⟩
  have hscan (e : Nat) (he : e ∈ scanDies.filter fun d => inDies word d && !(written s w 0 3 0x104 word).live d &&
      (written s w 0 3 0x104 word).powered d) : isScan e = true := mem_scanDies_iff.mp (List.mem_filter.mp he).1
  obtain ⟨hsane, hcause, hfence, hzero⟩ := foldl_reaches (g := State.resetStep) (P := State.Sane)
    (Q := fun t => t.Sane ∧ t.wasReset d) hmem (scanDies_nodup.filter _) (fun t e _ _ ht => t.resetStep_sane ht e)
    (fun t ht => ⟨t.resetStep_sane ht d, t.resetStep_wasReset ht hsd⟩)
    (fun t e he hne ⟨ht, hr⟩ => ⟨t.resetStep_sane ht e, t.wasReset_resetStep ht (hscan e he) hsd hne hr⟩) hw
  exact ⟨(State.rd_wr_other hsane 0).trans hcause, (congrArg (inDies · d) (State.rd_wr_other hsane 0)).trans hfence, hzero⟩

end Sys2Proof.Machine
end

section
/-! SUPPORT.  An authority command that is accepted runs to its end: what it acts on, and what its reply leaves (R482, R483,
R509). -/

open Sys2Proof Sys2Proof.Machine Sys2Proof.Bits
namespace Sys2Proof.Machine
set_option Elab.async false

theorem State.inbox_takeFrame (s : State) (f : AuthFrame) (rest : List AuthFrame) : (s.takeFrame f rest).auth.inbox = rest := by
  unfold State.takeFrame
  dsimp only
  split <;> rfl

theorem State.auth_setCell (s : State) (c v : Nat) : (s.setCell c v).auth = s.auth := (State.setCell_moves s c v).part .auth

theorem State.auth_raiseCell (s : State) (c k v : Nat) : (if s.cell c ≤ k then s.setCell c v else s).auth = s.auth := by
  split
  · exact State.auth_setCell s c v
  · rfl

theorem State.inbox_acceptFrame (s : State) (f : AuthFrame) : (s.acceptFrame f).auth.inbox = s.auth.inbox := by
  unfold State.acceptFrame
  extract_lets +onlyGivenNames slot
  extract_lets +onlyGivenNames counter
  extract_lets +onlyGivenNames raised
  have hraised : raised.auth = s.auth := State.auth_raiseCell s slot counter (counter + 4096)
  clear_value raised
  rw [← hraised]
  rfl

theorem State.inbox_sendReply (s : State) (source sender : Nat) (bytes : List Byte) :
    (s.sendReply source sender bytes).auth.inbox = s.auth.inbox := by
  unfold State.sendReply
  split
  · split <;> rfl
  · exact congrArg Auth.inbox ((State.partnerSend_moves ..).part .auth)
  · exact congrArg Auth.inbox ((State.canSend_moves ..).part .auth)
  · exact congrArg Auth.inbox ((State.lineSend_moves ..).part .auth)

theorem State.inbox_finishFrame (s : State) (f : AuthFrame) (r : AuthResult) (detail : Nat) (key : List Byte) :
    (s.finishFrame f r detail key).auth.inbox = s.auth.inbox := State.inbox_sendReply ..

theorem State.finishFrame_rd (s : State) (f : AuthFrame) (r : AuthResult) (detail : Nat) (key : List Byte) (e : Nat)
    (g : FieldDef) : (s.finishFrame f r detail key).rd e g =
      (((((s.wr 0 Reg.AUTH_STAT_RESULT r.code).wr 0 Reg.AUTH_STAT_OP (frameOp f)).wr 0 Reg.AUTH_STAT_SLOT (byteAt f.bytes 2)).wr 0
        Reg.AUTH_STAT_SOURCE f.source).sendReply f.source f.sender (s.replyBytes f r detail key)).rd e g := rfl

/-- `AUTH.STAT.RESULT` shows the result of the frame that ended. -/
theorem State.result_finishFrame {s : State} (h : s.Sane) (f : AuthFrame) (r : AuthResult) (detail : Nat) (key : List Byte) :
    (s.finishFrame f r detail key).rd 0 Reg.AUTH_STAT_RESULT = r.code := by
  have h1 := h.wr 0 Reg.AUTH_STAT_RESULT r.code
  have h2 := h1.wr 0 Reg.AUTH_STAT_OP (frameOp f)
  have h3 := h2.wr 0 Reg.AUTH_STAT_SLOT (byteAt f.bytes 2)
  have hcode : r.code % 2 ^ 3 = r.code := by cases r <;> rfl
  rw [State.finishFrame_rd, (State.sendReply_moves ..).rd (h3.wr 0 Reg.AUTH_STAT_SOURCE f.source) 0 Reg.AUTH_STAT_RESULT,
    State.rd_wr_other h3, State.rd_wr_other h2, State.rd_wr_other h1, State.rd_wr_same h]
  exact hcode

/-- The command of an accepted frame acts and its reply is sent; nothing waits behind it. -/
theorem State.authCommand_accepts {s : State} {f : AuthFrame} {op : Nat} {roles : Nat → List Byte → Bool}
    {format : List Byte → Bool} (h : s.accepts f [] op roles format) {act : State → AuthFrame → List Byte → AuthDone}
    {d : AuthDone} (hact : act (s.accepted f []) f (frameParams f) = d) (hauth : d.st.auth = (s.accepted f []).auth) :
    ∃ key, s.authCommand op roles format act = d.st.finishFrame f d.result d.detail key := by
  obtain ⟨hin, hop, hrole, htag, hnew, hcell, hmay, hform⟩ := h
  have hauthorise : (s.takeFrame f []).authorise f roles format act =
      d.st.finishFrame f d.result d.detail ((s.takeFrame f []).slotKey (byteAt f.bytes 2)) := by
    unfold State.authorise
    dsimp only
    rw [if_neg hrole, if_neg (not_not_intro htag), if_neg (Nat.not_le.mpr hnew), if_neg hcell, hmay, hform, if_neg (by decide),
      if_neg (by decide)]
    rw [← hact]
    rfl
  have hempty : (d.st.finishFrame f d.result d.detail ((s.takeFrame f []).slotKey (byteAt f.bytes 2))).auth.inbox = [] := by
    rw [State.inbox_finishFrame, hauth, State.accepted, State.inbox_acceptFrame, State.inbox_takeFrame]
  refine ⟨(s.takeFrame f []).slotKey (byteAt f.bytes 2), ?_⟩
  unfold State.authCommand
  rw [hin]
  dsimp only
  rw [if_pos hop, hauthorise, hempty]
  rfl

theorem State.accepted_moves (s : State) (f : AuthFrame) (rest : List AuthFrame) :
    Moves 0x10000400000000082000000038 s (s.accepted f rest) :=
  ((State.takeFrame_moves s f rest).sub).step (State.acceptFrame_moves ..)

end Sys2Proof.Machine
end

section
/-! SUPPORT.  Retirement of a die, its return, and the test that decides the return (R281, R282, R343). -/

open Sys2Proof Sys2Proof.Machine Sys2Proof.Bits
namespace Sys2Proof.Machine
set_option Elab.async false

/-! ### The frame of DIE_RETIRE and DIE_RETURN -/

/-- The parameters of DIE_RETIRE and DIE_RETURN: a Scan die and three zero bytes. -/
def dieParams (p : List Byte) : Bool := p.length == 4 && isScan (byteAt p 0) && zeroAt p 1 3

theorem State.isScan_of_accepts {s : State} {f : AuthFrame} {op : Nat} {roles : Nat → List Byte → Bool}
    (h : s.accepts f [] op roles dieParams) : isScan (byteAt (frameParams f) 0) = true := by
  obtain ⟨-, -, -, -, -, -, -, hform⟩ := h
  rw [dieParams, Bool.and_eq_true, Bool.and_eq_true] at hform
  obtain ⟨⟨-, hscan⟩, -⟩ := hform
  exact hscan

theorem State.accepted_sane {s : State} (h : s.Sane) (f : AuthFrame) : (s.accepted f []).Sane := (s.accepted_moves f []).sane h

theorem State.role_accepted {s : State} (h : s.Sane) (f : AuthFrame) (d : Nat) : (s.accepted f []).role d = s.role d :=
  State.role_congr ((s.accepted_moves f []).rd h 0 _) d

/-- What the end of a frame leaves: roles, refusals and power. -/
theorem State.finishFrame_shows {s : State} (h : s.Sane) (f : AuthFrame) (r : AuthResult) (detail : Nat) (key : List Byte) :
    (∀ d, (s.finishFrame f r detail key).role d = s.role d) ∧ (∀ d, (s.finishFrame f r detail key).powered d = s.powered d) ∧
      (s.finishFrame f r detail key).rd 0 Reg.PART_STAT_REFUSE = s.rd 0 Reg.PART_STAT_REFUSE ∧
      (s.finishFrame f r detail key).shunt = s.shunt ∧ (s.finishFrame f r detail key).rd 0 Reg.AUTH_STAT_RESULT = r.code := by
  have hm := State.finishFrame_moves s f r detail key
  exact ⟨State.role_congr (hm.rd h 0 _), State.powered_congr (hm.rd h 0 _), hm.rd h 0 _, hm.part .shunt,
    State.result_finishFrame h f r detail key⟩

/-- A refused operation of the part shows its code. -/
theorem State.partRefuse_shows {s : State} (h : s.Sane) (c : Nat) :
    (s.partRefuse c).Sane ∧ (s.partRefuse c).rd 0 Reg.PART_STAT_REFUSE = c % 16 ∧ ∀ d, (s.partRefuse c).role d = s.role d :=
  ⟨h.wr .., State.rd_wr_same h .., State.role_congr (s := s) (t := s.wr 0 Reg.PART_STAT_REFUSE c) (State.rd_wr_other h c)⟩

/-! ### Retirement -/

/-- A retired die is RETIRED and not powered. -/
theorem State.retireDie_shows {s : State} (h : s.Sane) {d : Nat} (hd : isScan d = true) :
    (s.retireDie d).role d = 3 ∧ (s.retireDie d).powered d = false := by
  have h1 := (State.setRoles_moves s [(d, 3, 4)] false).sane h
  have h2 := (State.shuntLoses_moves (s.setRoles [(d, 3, 4)]) d).sane h1
  have hset : (s.setRoles [(d, 3, 4)]).role d = 3 := by
    rw [State.role_setRoles h (by simpa using hd) false hd]; simp [roleAfter]
  have hlost : ((s.setRoles [(d, 3, 4)]).shuntLoses d).role d = 3 := by
    rw [State.role_shuntLoses h1 hd hd (.inr (by rw [hset]; decide)), hset]
  constructor
  · have hrd := State.dieOff_rd (e := 0) (f := Reg.PART_ROLES_ROLES) h2 hd (by have := isScan_iff.mp hd; omega) (by decide)
      (by decide) (by decide) (by decide)
    rw [State.retireDie, State.role_congr hrd, hlost]
  · rw [State.retireDie, State.powered_dieOff h2 hd, bne_self_eq_false, Bool.and_false]

/-- What DIE_RETIRE comes to. -/
def retireAct (s : State) (_ : AuthFrame) (p : List Byte) : AuthDone :=
  match s.retireRefusal (byteAt p 0) with
  | some c => ⟨s.partRefuse c, .refused, c⟩
  | none => ⟨s.retireDie (byteAt p 0), .done, 0⟩

theorem exec_dieRetire (s : State) : exec .dieRetire s = .next (s.authCommand 0x09 rolesEW dieParams retireAct) := rfl

theorem dieRetire_acts {s : State} (h : s.Sane) {f : AuthFrame} (ha : s.accepts f [] 0x09 rolesEW dieParams) :
    let d := byteAt (frameParams f) 0
    Completes .dieRetire s fun t =>
      ((s.role d = 1 ∨ s.role d = 2) → t.role d = 3 ∧ t.powered d = false ∧ t.rd 0 Reg.AUTH_STAT_RESULT = 0) ∧
      (¬(s.role d = 1 ∨ s.role d = 2) →
        t.role d = s.role d ∧ t.rd 0 Reg.PART_STAT_REFUSE = 1 ∧ t.rd 0 Reg.AUTH_STAT_RESULT = 2) := by
  intro d
  have hd : isScan d = true := State.isScan_of_accepts ha
  have hu := State.accepted_sane h f
  have hrole := State.role_accepted h f d
  by_cases hmay : s.role d = 1 ∨ s.role d = 2
  · have hact : retireAct (s.accepted f []) f (frameParams f) = ⟨(s.accepted f []).retireDie d, .done, 0⟩ := by
      rw [retireAct, State.retireRefusal, if_pos (by rw [hrole]; exact hmay)]
    have hm := State.retireDie_moves (s.accepted f []) d
    obtain ⟨key, heq⟩ := State.authCommand_accepts ha hact (hm.part .auth)
    obtain ⟨hr, hp, -, -, hres⟩ := State.finishFrame_shows (hm.sane hu) f .done 0 key
    obtain ⟨hrd, hpd⟩ := State.retireDie_shows hu hd
    exact ⟨_, (exec_dieRetire s).trans (congrArg _ heq), fun _ => ⟨(hr d).trans hrd, (hp d).trans hpd, hres⟩, fun hn => absurd hmay hn⟩
  · have hact : retireAct (s.accepted f []) f (frameParams f) = ⟨(s.accepted f []).partRefuse 1, .refused, 1⟩ := by
      rw [retireAct, State.retireRefusal, if_neg (by rw [hrole]; exact hmay)]
    obtain ⟨key, heq⟩ := State.authCommand_accepts ha hact ((State.partRefuse_moves ..).part .auth)
    obtain ⟨hs, hcode, hro⟩ := State.partRefuse_shows hu 1
    obtain ⟨hr, -, href, -, hres⟩ := State.finishFrame_shows hs f .refused 1 key
    exact ⟨_, (exec_dieRetire s).trans (congrArg _ heq), fun hy => absurd hy hmay,
      fun _ => ⟨(hr d).trans ((hro d).trans hrole), href.trans hcode, hres⟩⟩

/-! ### Return -/

theorem State.diesIn_congr {s t : State} (h : ∀ d, t.role d = s.role d) (r : Nat) : t.diesIn r = s.diesIn r := by
  rw [State.diesIn, State.diesIn, funext h]

/-- An accepted frame leaves the reasons to refuse a return. -/
theorem State.returnRefusal_accepted {s : State} (h : s.Sane) (f : AuthFrame) (d : Nat) :
    (s.accepted f []).returnRefusal d = s.returnRefusal d := by
  have hm := s.accepted_moves f []
  have hshunt : (s.accepted f []).shunt = s.shunt := hm.part .shunt
  rw [State.returnRefusal, State.returnRefusal, State.role_accepted h, State.present_congr (hm.rd h 0 _), hshunt, State.activating,
    State.activating, hm.rd h 0 Reg.UPD_KSTAT_STATE, State.diesIn_congr (State.role_accepted h f)]

/-- What DIE_RETURN comes to. -/
def returnAct (s : State) (_ : AuthFrame) (p : List Byte) : AuthDone :=
  match s.returnRefusal (byteAt p 0) with
  | some c => ⟨s.partRefuse c, .refused, c⟩
  | none => ⟨s.returnDie (byteAt p 0), .started, 0⟩

theorem exec_dieReturn (s : State) : exec .dieReturn s = .next (s.authCommand 0x0A rolesEW dieParams returnAct) := rfl

theorem dieReturn_acts {s : State} (h : s.Sane) {f : AuthFrame} (ha : s.accepts f [] 0x0A rolesEW dieParams) :
    let d := byteAt (frameParams f) 0
    Completes .dieReturn s fun t =>
      (s.returnRefusal d = none → inDies t.shunt.returning d = true ∧ t.rd 0 Reg.AUTH_STAT_RESULT = 1) ∧
      ∀ c, s.returnRefusal d = some c → t.rd 0 Reg.PART_STAT_REFUSE = c % 16 ∧ t.rd 0 Reg.AUTH_STAT_RESULT = 2 := by
  intro d
  have hd : isScan d = true := State.isScan_of_accepts ha
  have hu := State.accepted_sane h f
  have hwhy : (s.accepted f []).returnRefusal (byteAt (frameParams f) 0) = s.returnRefusal d := State.returnRefusal_accepted h f d
  cases hcase : s.returnRefusal d with
  | none =>
    have hact : returnAct (s.accepted f []) f (frameParams f) = ⟨(s.accepted f []).returnDie d, .started, 0⟩ := by
      rw [returnAct, hwhy, hcase]
    have hm := State.returnDie_moves (s.accepted f []) d
    obtain ⟨key, heq⟩ := State.authCommand_accepts ha hact (hm.part .auth)
    obtain ⟨-, -, -, hsh, hres⟩ := State.finishFrame_shows (hm.sane hu) f .started 0 key
    refine ⟨_, (exec_dieReturn s).trans (congrArg _ heq), fun _ => ⟨?_, hres⟩, fun c hc => nomatch hc⟩
    dsimp only
    rw [hsh, State.returnDie, inDies_or_dieBit hd, beq_self_eq_true, Bool.or_true]
  | some c =>
    have hact : returnAct (s.accepted f []) f (frameParams f) = ⟨(s.accepted f []).partRefuse c, .refused, c⟩ := by
      rw [returnAct, hwhy, hcase]
    obtain ⟨key, heq⟩ := State.authCommand_accepts ha hact ((State.partRefuse_moves ..).part .auth)
    obtain ⟨hs, hcode, -⟩ := State.partRefuse_shows hu c
    obtain ⟨-, -, href, -, hres⟩ := State.finishFrame_shows hs f .refused c key
    refine ⟨_, (exec_dieReturn s).trans (congrArg _ heq), fun hn => absurd hn (Option.some_ne_none c), fun c' hc => ?_⟩
    obtain rfl : c = c' := Option.some.inj hc
    exact ⟨href.trans hcode, hres⟩

/-! ### The test of a returning die (R281, R343) -/

/-- The die returns no more, and its banks hold the last background of the test. -/
def State.returnTested (s : State) (die : Nat) : State :=
  (banksOf die).foldl (fun (s : State) b =>
    let (k, s) := s.drawFree
    s.fillMem (bankRange die b).1 (bankRange die b).2 (Config.freeValue k))
    { s with shunt := { s.shunt with returning := minus 6 s.shunt.returning (dieBit die) } }

theorem State.returnTested_moves (s : State) (die : Nat) :
    Moves 0x8000000002c { s with shunt := { s.shunt with returning := minus 6 s.shunt.returning (dieBit die) } } (s.returnTested die) :=
  Moves.foldl (fun t _ => ((State.drawFree_moves t).sub).step (State.fillMem_moves ..)) Moves.refl

theorem State.returnTested_shows {s : State} (h : s.Sane) {die : Nat} (hd : isScan die = true) :
    (s.returnTested die).Sane ∧ (∀ d, (s.returnTested die).role d = s.role d) ∧
      inDies (s.returnTested die).shunt.returning die = false := by
  have hm := s.returnTested_moves die
  have hsh : (s.returnTested die).shunt.returning = minus 6 s.shunt.returning (dieBit die) :=
    congrArg Shunt.returning (hm.part .shunt)
  refine ⟨hm.sane h, fun d => ?_, ?_⟩
  · exact State.role_congr ((hm.rd h 0 _).trans (State.withShunt_rd ..)) d
  · rw [hsh, inDies_minus_dieBit hd, bne_self_eq_false, Bool.and_false]

theorem exec_returnTestEnd {s : State} {die : Nat} (hr : inDies s.shunt.returning die = true) (good : Bool) :
    exec (.returnTestEnd die good) s = .next
      (if !good || (s.returnTested die).role die != 2 then (s.returnTested die).partRefuse 3
      else if decide (2 ≤ ((s.returnTested die).diesIn 1).length) then (s.returnTested die).partRefuse 2
      else (s.returnTested die).setRoles [(die, 1, 3)]) := by
  show execReturnTestEnd die good s = _
  rw [execReturnTestEnd, if_pos (by rw [isScan_of_inDies hr, hr]; rfl)]
  rfl

theorem returnTestEnd_acts {s : State} (h : s.Sane) {die : Nat} (hr : inDies s.shunt.returning die = true) (good : Bool) :
    Completes (.returnTestEnd die good) s fun t =>
      inDies t.shunt.returning die = false ∧
      (good = true → s.role die = 2 → (s.diesIn 1).length < 2 → t.role die = 1) ∧
      (good = true → s.role die = 2 → 2 ≤ (s.diesIn 1).length → t.role die = 2 ∧ t.rd 0 Reg.PART_STAT_REFUSE = 2) ∧
      (good = false ∨ s.role die ≠ 2 → t.role die = s.role die ∧ t.rd 0 Reg.PART_STAT_REFUSE = 3) := by
  have hd := isScan_of_inDies hr
  obtain ⟨hs, hrole, hret⟩ := State.returnTested_shows h hd
  have hexec := exec_returnTestEnd hr good
  rw [State.diesIn_congr hrole, hrole] at hexec
  split at hexec
  · rename_i hbad
    have hbad : good = false ∨ s.role die ≠ 2 := by simpa using hbad
    obtain ⟨-, hcode, hro⟩ := State.partRefuse_shows hs 3
    exact ⟨_, hexec, hret, fun hg h2 => absurd (hbad.resolve_left (by rw [hg]; decide)) (not_not_intro h2),
      fun hg h2 => absurd (hbad.resolve_left (by rw [hg]; decide)) (not_not_intro h2),
      fun _ => ⟨(hro die).trans (hrole die), hcode⟩⟩
  · rename_i hgood
    have hnot : ¬(good = false ∨ s.role die ≠ 2) := by simpa using hgood
    split at hexec
    · rename_i hfull
      obtain ⟨-, hcode, hro⟩ := State.partRefuse_shows hs 2
      exact ⟨_, hexec, hret, fun _ _ hlt => absurd hlt (Nat.not_lt.mpr (of_decide_eq_true hfull)),
        fun _ h2 _ => ⟨(hro die).trans ((hrole die).trans h2), hcode⟩, fun hb => absurd hb hnot⟩
    · rename_i hfree
      have hone : ((s.returnTested die).setRoles [(die, 1, 3)]).role die = 1 := by
        rw [State.role_setRoles hs (by simpa using hd) false hd]; simp [roleAfter]
      have hshunt : ((s.returnTested die).setRoles [(die, 1, 3)]).shunt = (s.returnTested die).shunt :=
        (State.setRoles_moves ..).part .shunt
      exact ⟨_, hexec, by rw [hshunt]; exact hret, fun _ _ _ => hone,
        fun _ _ hge => absurd (decide_eq_true hge) hfree, fun hb => absurd hb hnot⟩

end Sys2Proof.Machine
end

section
/-! SUPPORT.  The rewrites by which a workload moves to another die, and the placing of its share of the program, leave the
registers of the PART page (spec/09 R283, R284, R292): roles, names, presence and failures. -/

open Sys2Proof Sys2Proof.Machine Sys2Proof.Bits
namespace Sys2Proof.Machine
set_option Elab.async false

/-- The mask of every part and every page but those of code 0x17. -/
def offPart : Nat := 0xffffffffff7fffffffffffffffffffff

theorem page_offPart {a c : Nat} (hc : c % 64 ≠ 23) (ha : a &&& offPart = a := by rfl) :
    (a ||| Moves.page c) &&& offPart = a ||| Moves.page c := by
  have hpage : ∀ m : Fin 64, m.val ≠ 23 → (1 <<< (64 + m.val)) &&& offPart = 1 <<< (64 + m.val) := by decide
  rw [Nat.and_or_distrib_right, ha, Moves.page, hpage ⟨c % 64, Nat.mod_lt _ (by decide)⟩ hc]

theorem State.wr_offPart (s : State) (die : Nat) {f : FieldDef} (v : Nat) (hc : f.code % 64 ≠ 23 := by decide) :
    Moves offPart s (s.wr die f v) :=
  (State.wr_moves s die f v).sub (page_offPart hc)

theorem State.wr_w_offPart (s : State) (die : Nat) {f : FieldDef} (k v : Nat) (hc : f.code % 64 ≠ 23 := by decide) :
    Moves offPart s (s.wr die (f.w k) v) := s.wr_offPart die v hc

theorem State.wr_i_offPart (s : State) (die : Nat) {f : FieldDef} (k v : Nat) (hc : f.code % 64 ≠ 23 := by decide) :
    Moves offPart s (s.wr die (f.i k) v) := s.wr_offPart die v hc

theorem State.resetField_offPart (s : State) (die : Nat) {f : FieldDef} (k : Nat) (hc : f.code % 64 ≠ 23) :
    Moves offPart s (s.resetField die (f.w k)) := s.wr_w_offPart die k _ hc

theorem State.invalidateBank_offPart (s : State) (die bank : Nat) : Moves offPart s (s.invalidateBank die bank) :=
  (State.invalidateBank_moves ..).sub

theorem State.showTables_offPart (s : State) : Moves offPart s s.showTables := by
  unfold State.showTables
  extract_lets +onlyGivenNames spans
  have hspans : Moves offPart s spans := Moves.foldlMem (g := id) (fun t p hp => t.wr_offPart 0 _ (by
    have := List.mem_range.mp hp
    show (0x1D + p) % 64 ≠ 23
    omega)) Moves.refl
  clear_value spans
  extract_lets +onlyGivenNames load loads
  have hloads : Moves offPart s loads := (hspans.trans (State.wr_offPart _ 0 _)).trans (State.wr_offPart _ 0 _)
  clear_value loads
  refine Moves.foldl (fun t d => ?_) hloads
  exact (((State.wr_offPart _ d _).trans (State.wr_offPart _ d _)).trans
    (State.wr_offPart _ d _)).trans (State.wr_offPart _ d _)

/-! ### The moved workload -/

/-- The rewrites of a cutover but for the name table. -/
theorem State.moveWorkload_offPart (s : State) (a b : Nat) : Moves offPart (s.swapAlias a b) (s.moveWorkload a b) := by
  unfold State.moveWorkload
  extract_lets +onlyGivenNames s0
  extract_lets +onlyGivenNames s1
  have h1 : Moves offPart s0 s1 := Moves.foldl (fun t _ => t.wr_w_offPart 0 _ _) Moves.refl
  clear_value s1
  extract_lets +onlyGivenNames s2
  have h2 : Moves offPart s0 s2 := Moves.foldl (fun t _ => t.wr_w_offPart 0 _ _) h1
  clear_value s2
  extract_lets +onlyGivenNames s3
  have h3 : Moves offPart s0 s3 := Moves.foldl (fun t _ => Moves.ite (t.wr_i_offPart 0 _ _) Moves.refl) h2
  clear_value s3
  extract_lets +onlyGivenNames s4
  have h4 : Moves offPart s0 s4 := h3.trans (s3.wr_offPart 0 _)
  clear_value s4
  extract_lets +onlyGivenNames change s5
  have h5 : Moves offPart s0 s5 := Moves.set_40 h4
  clear_value s5
  exact ((h5.step (State.remapRecord_moves ..)).step (State.returnTokens_moves ..)).trans (State.showTables_offPart _)

/-! ### The placed program -/

/-- The fields of a table lie off the PART page. -/
def offPartFields (fs : List FieldDef) : Prop := ∀ f ∈ fs, f.code % 64 ≠ 23

/-- A fold that writes fields of a list, each in any window. -/
theorem Moves.foldlFields {fs : List FieldDef} (hf : offPartFields fs) {g : State → FieldDef → State}
    (hg : ∀ t f, f.code % 64 ≠ 23 → Moves offPart t (g t f)) {s t : State} (h : Moves offPart s t) :
    Moves offPart s (fs.foldl g t) :=
  Moves.foldlMem (g := fun x => x) (fun t f hm => hg t f (hf f hm)) h

theorem State.putWord_offPart (s : State) (die k : Nat) {fs : List FieldDef} (hf : offPartFields fs) (word : Nat) :
    Moves offPart s (s.putWord die k fs word) :=
  Moves.foldlFields hf (fun t _ hc => t.wr_w_offPart die k _ hc) Moves.refl

theorem State.putEntryWords_offPart (s : State) (die k code first : Nat) {fs : List FieldDef} (hf : offPartFields fs)
    (words : List Nat) : Moves offPart s (s.putEntryWords die k code first fs words) := by
  unfold State.putEntryWords
  extract_lets +onlyGivenNames s1
  have h1 : Moves offPart s s1 := Moves.foldl (fun t _ => t.putWord_offPart die _
    (fun f hm => hf f (List.mem_of_mem_filter hm)) _) Moves.refl
  clear_value s1
  exact Moves.foldlFields hf (fun t _ hc => t.wr_w_offPart die k _ hc) h1

theorem rowFields_offPart : offPartFields rowFields := by unfold offPartFields; decide

theorem catFields_offPart : offPartFields catFields := by unfold offPartFields; decide

theorem stnFields_offPart : offPartFields stnFields := by unfold offPartFields; decide

theorem taskFields_offPart : offPartFields taskFields := by unfold offPartFields; decide

theorem State.placeSection_offPart (s : State) (k : Section) (die : Nat) : Moves offPart s (s.placeSection k die) := by
  unfold State.placeSection
  split
  · exact (State.storeBytes_moves ..).sub
  · exact Moves.foldl (fun t _ => (t.wr_i_offPart die _ _).trans (State.wr_i_offPart _ die _ _)) Moves.refl
  · exact Moves.foldl (fun _ _ => (setBitWord_moves ..).sub) Moves.refl
  · exact Moves.foldl (fun t _ => (t.wr_w_offPart die _ _).trans (State.wr_w_offPart _ die _ _)) Moves.refl
  · exact Moves.foldl (fun t _ => t.putEntryWords_offPart die _ _ _ rowFields_offPart _) (s.invalidateBank_offPart ..)
  · exact Moves.foldl (fun t _ => t.putEntryWords_offPart 0 _ _ _ catFields_offPart _) Moves.refl
  · exact (Moves.foldl (fun t _ => (t.wr_offPart 0 _).trans
      (State.putEntryWords_offPart _ 0 _ _ _ stnFields_offPart _)) Moves.refl).trans (State.wr_offPart _ 0 _)
  · exact Moves.refl

theorem State.placeDies_offPart (s : State) (secs : List Section) (only : Option (Nat × Nat)) :
    Moves offPart s (s.placeDies secs only) := by
  unfold State.placeDies
  extract_lets +onlyGivenNames mine dest placed
  have hplaced : Moves offPart s placed := Moves.foldl (fun t k => t.placeSection_offPart k _) Moves.refl
  clear_value placed
  extract_lets +onlyGivenNames mask
  refine Moves.ite hplaced ?_
  exact (hplaced.trans (placed.wr_offPart 0 _)).step (State.pointsGo_moves ..)

theorem State.clearProgram_offPart (s : State) : Moves offPart s s.clearProgram := by
  unfold State.clearProgram
  extract_lets +onlyGivenNames s1
  have h1 : Moves offPart s s1 := Moves.foldl (fun t d => ((t.invalidateBank_offPart d 0).trans (State.invalidateBank_offPart _ d 1)).step
    (State.dropPoints_moves ..)) Moves.refl
  clear_value s1
  extract_lets +onlyGivenNames s2
  have h2 : Moves offPart s s2 := Moves.foldl (fun _ _ => Moves.foldlFields taskFields_offPart
    (fun t _ hc => t.resetField_offPart 0 _ hc) Moves.refl) h1
  clear_value s2
  extract_lets +onlyGivenNames s3
  have h3 : Moves offPart s s3 := Moves.foldlFields catFields_offPart
    (fun _ _ hc => Moves.foldl (fun t _ => t.resetField_offPart 0 _ hc) Moves.refl) h2
  clear_value s3
  exact (h3.trans s3.showTables_offPart).step (State.hotLost_moves ..)

theorem State.failProgram_offPart (s : State) : Moves offPart s s.failProgram := by
  unfold State.failProgram
  refine Moves.step ?_ (State.archive_moves ..)
  exact Moves.set_21 s.clearProgram_offPart

end Sys2Proof.Machine
end

section
/-! SUPPORT.  APPLY and REPLACE of the PART page (R281, R283, R284, R320): the roles they set and the names they exchange. -/

open Sys2Proof Sys2Proof.Machine Sys2Proof.Bits
namespace Sys2Proof.Machine
set_option Elab.async false

/-! ### APPLY -/

/-- The role that APPLY gives a die. -/
def State.wantRole (s : State) (d : Nat) : Nat := if s.role d = 3 then 3 else field (s.rd 0 Reg.PART_CFG_ROLES) (2 * (d - 2)) 2

/-- The number of dies to which APPLY gives a role. -/
def State.wantCount (s : State) (r : Nat) : Nat := (scanDies.filter fun d => s.wantRole d == r).length

/-- The role changes of APPLY. -/
def State.applyList (s : State) : List (Nat × Nat × Nat) :=
  (scanDies.filter fun d => s.wantRole d != s.role d).map fun d => (d, s.wantRole d, 0)

theorem State.applyRoles_eq (s : State) : s.applyRoles =
    if s.wantCount 0 = 0 ∨ 2 < s.wantCount 1 then s.partRefuse 4
    else (scanDies.filter fun d => decide (s.wantRole d < 2)).foldl State.dieOn (s.setRoles s.applyList) := rfl

theorem State.wantRole_lt (s : State) (d : Nat) : s.wantRole d < 4 := by
  unfold State.wantRole
  split
  · decide
  · exact field_lt ..

theorem roleAfter_map (ds : List Nat) (g : Nat → Nat) (d r : Nat) :
    roleAfter (ds.map fun d => (d, g d, 0)) d r = if d ∈ ds then g d % 4 else r := by
  induction ds generalizing r with
  | nil => rfl
  | cons x ds ih =>
    refine (ih _).trans ?_
    by_cases hx : x = d
    · simp [hx]
    · simp [hx, Ne.symm hx]

theorem State.role_applyList {s : State} (h : s.Sane) {d : Nat} (hd : d ∈ scanDies) :
    (s.setRoles s.applyList).role d = s.wantRole d := by
  have hscan : ∀ e ∈ s.applyList, isScan e.1 = true := by
    intro e he
    obtain ⟨x, hx, rfl⟩ := List.mem_map.mp he
    exact mem_scanDies_iff.mp (List.mem_filter.mp hx).1
  rw [State.role_setRoles h hscan false (mem_scanDies_iff.mp hd), State.applyList, roleAfter_map, Nat.mod_eq_of_lt (s.wantRole_lt d)]
  split
  · rfl
  · rename_i hno
    rw [List.mem_filter, not_and, bne_iff_ne, not_not] at hno
    exact (hno hd).symm

/-- Switching dies on changes no role. -/
theorem State.role_foldl_dieOn {s : State} (h : s.Sane) {l : List Nat} (hl : ∀ e ∈ l, isScan e = true) (d : Nat) :
    (l.foldl State.dieOn s).role d = s.role d :=
  (List.foldlRecOn (motive := fun t : State => t.Sane ∧ t.role d = s.role d) l _ ⟨h, rfl⟩ fun t ⟨ht, hr⟩ e he =>
    ⟨(t.dieOn_moves e).sane ht, (State.role_congr (State.dieOn_rd ht (hl e he)
      (by have := isScan_iff.mp (hl e he); omega) (by decide) (by decide) (by decide)) d).trans hr⟩).2

theorem State.applyRoles_sets {s : State} (h : s.Sane) (h0 : s.wantCount 0 ≠ 0) (h1 : s.wantCount 1 ≤ 2) {d : Nat}
    (hd : d ∈ scanDies) : s.applyRoles.role d = s.wantRole d := by
  rw [State.applyRoles_eq, if_neg (by omega),
    State.role_foldl_dieOn ((State.setRoles_moves ..).sane h) (fun e he => mem_scanDies_iff.mp (List.mem_filter.mp he).1),
    State.role_applyList h hd]

theorem exec_partApply {s : State} {w : Who} (hs : s.takes w 0 0x17 = true) (hf : s.fits w 0 0x17 0x100 145 = true) :
    exec (.partApply w) s = .next (written s w 0 0x17 0x100 145).applyRoles := by
  show execPartApply w s = _
  rw [execPartApply, writeThen_fits hs hf]
  rfl

theorem partApply_acts {s : State} (h : s.Sane) {w : Who} (hs : s.takes w 0 0x17 = true)
    (hf : s.fits w 0 0x17 0x100 145 = true) :
    Completes (.partApply w) s fun t =>
      (s.wantCount 0 ≠ 0 → s.wantCount 1 ≤ 2 → ∀ d ∈ scanDies, t.role d = s.wantRole d) ∧
      (s.wantCount 0 = 0 ∨ 2 < s.wantCount 1 → t.rd 0 Reg.PART_STAT_REFUSE = 4 ∧ ∀ d ∈ scanDies, t.role d = s.role d) := by
  have hw := written_sane h w 0 0x17 0x100 145
  have hrole : (written s w 0 0x17 0x100 145).role = s.role := funext (State.role_congr (written_rd h w 0))
  have hwant : (written s w 0 0x17 0x100 145).wantRole = s.wantRole := by
    funext d
    rw [State.wantRole, State.wantRole, hrole, written_rd h w 0]
  have hcount : (written s w 0 0x17 0x100 145).wantCount = s.wantCount := by
    funext r
    rw [State.wantCount, State.wantCount, hwant]
  refine ⟨_, exec_partApply hs hf, fun h0 h1 d hd => ?_, fun hno => ?_⟩
  · rw [State.applyRoles_sets hw (by rwa [hcount]) (by rwa [hcount]) hd, hwant]
  · obtain ⟨-, hcode, hro⟩ := State.partRefuse_shows hw 4
    rw [State.applyRoles_eq, if_pos (by rwa [hcount])]
    exact ⟨hcode, fun d _ => by rw [hro d, hrole]⟩

/-! ### REPLACE -/

/-- Die `b` in place of die `a`, and the other way round. -/
def swapDie (a b d : Nat) : Nat := if d = a then b else if d = b then a else d

theorem State.swapAlias_eq (s : State) (a b : Nat) : s.swapAlias a b =
    s.wr 0 Reg.PART_ALIAS_DIES (scanDies.foldl (fun m n => setField m (3 * (n - 2)) 3 (swapDie a b (s.dieOf n))) 0) := rfl

/-- A mask of names filled die by die reads as it was filled. -/
theorem field_foldl_names (g : Nat → Nat) {n : Nat} (hn : n ∈ scanDies) (m : Nat) :
    field (scanDies.foldl (fun m n => setField m (3 * (n - 2)) 3 (g n)) m) (3 * (n - 2)) 3 = g n % 8 := by
  refine foldl_reaches (P := fun _ => True) (Q := fun m => field m (3 * (n - 2)) 3 = g n % 8) hn scanDies_nodup
    (fun _ _ _ _ _ => trivial) (fun _ _ => field_setField_same ..) (fun m x hx hne hm => ?_) trivial
  have h1 := isScan_iff.mp (mem_scanDies_iff.mp hn)
  have h2 := isScan_iff.mp (mem_scanDies_iff.mp hx)
  rw [field_setField_apart (by omega), hm]

theorem State.dieOf_swapAlias {s : State} (h : s.Sane) {a b : Nat} (ha : isScan a = true) (hb : isScan b = true) {n : Nat}
    (hn : n ∈ scanDies) : (s.swapAlias a b).dieOf n = swapDie a b (s.dieOf n) := by
  have hn' := isScan_iff.mp (mem_scanDies_iff.mp hn)
  have ha' := isScan_iff.mp ha
  have hb' := isScan_iff.mp hb
  have hold : s.dieOf n < 8 := field_lt ..
  have hlt : swapDie a b (s.dieOf n) < 8 := by
    unfold swapDie
    split
    · omega
    · split <;> omega
  rw [State.dieOf, State.swapAlias_eq, State.rd_wr_same h]
  exact (field_mod (k := 18) (by omega)).trans ((field_foldl_names (fun n => swapDie a b (s.dieOf n)) hn 0).trans (Nat.mod_eq_of_lt hlt))

/-- The conditions of REPLACE (R284). -/
def State.mayReplace (s : State) (a b : Nat) : Prop :=
  (s.role a = 2 ∨ inDies (s.rd 0 Reg.PART_STAT_FAILED) a = true) ∧ s.role a ≠ 3 ∧ s.role b = 1 ∧ s.powered b = true ∧ s.present b = true

/-- The state of REPLACE in which roles and names are exchanged. -/
def State.replaced (s : State) (a b : Nat) : State :=
  (s.setRoles (if s.role a = 2 then [(b, 0, 0)] else [(a, 2, 0), (b, 0, 0)])).moveWorkload a b

theorem State.replaceDie_refused {s : State} {a b : Nat} (hno : ¬s.mayReplace a b) (image : List Byte) :
    s.replaceDie a b image = s.partRefuse 1 := if_neg hno

/-- The program that Keeper firmware then places leaves the PART page. -/
theorem State.replaceDie_offPart {s : State} {a b : Nat} (hmay : s.mayReplace a b) (image : List Byte) :
    Moves offPart (s.replaced a b) (s.replaceDie a b image) := by
  unfold State.mayReplace at hmay
  unfold State.replaceDie
  rw [if_pos hmay]
  exact Moves.ite (Moves.foldl (fun t _ => t.placeDies_offPart _ _) Moves.refl) (State.failProgram_offPart _)

theorem State.role_replaceList {s : State} (h : s.Sane) {a b : Nat} (ha : isScan a = true) (hb : isScan b = true) (hne : a ≠ b) :
    (s.setRoles (if s.role a = 2 then [(b, 0, 0)] else [(a, 2, 0), (b, 0, 0)])).role a = 2 ∧
      (s.setRoles (if s.role a = 2 then [(b, 0, 0)] else [(a, 2, 0), (b, 0, 0)])).role b = 0 := by
  split
  · rename_i h2
    rw [State.role_setRoles h (by simpa using hb) false ha, State.role_setRoles h (by simpa using hb) false hb]
    simp [roleAfter, h2, Ne.symm hne]
  · rw [State.role_setRoles h (by simpa using ⟨ha, hb⟩) false ha, State.role_setRoles h (by simpa using ⟨ha, hb⟩) false hb]
    simp [roleAfter, Ne.symm hne]

theorem State.replaceDie_shows {s : State} (h : s.Sane) {a b : Nat} (ha : isScan a = true) (hb : isScan b = true) (hne : a ≠ b)
    (hmay : s.mayReplace a b) (image : List Byte) :
    (s.replaceDie a b image).role a = 2 ∧ (s.replaceDie a b image).role b = 0 ∧
      ∀ n ∈ scanDies, (s.replaceDie a b image).dieOf n = swapDie a b (s.dieOf n) := by
  have hset := (State.setRoles_moves s (if s.role a = 2 then [(b, 0, 0)] else [(a, 2, 0), (b, 0, 0)]) false).sane h
  have hswap := (State.swapAlias_moves _ a b).sane hset
  have hoff := (State.moveWorkload_offPart _ a b).trans (State.replaceDie_offPart hmay image)
  have hrole (d : Nat) := State.role_congr ((hoff.rd hswap 0 Reg.PART_ROLES_ROLES).trans (State.rd_wr_other hset _)) d
  obtain ⟨hra, hrb⟩ := State.role_replaceList h ha hb hne
  refine ⟨(hrole a).trans hra, (hrole b).trans hrb, fun n hn => ?_⟩
  have hnames : (s.setRoles (if s.role a = 2 then [(b, 0, 0)] else [(a, 2, 0), (b, 0, 0)])).dieOf n = s.dieOf n :=
    congrArg (field · (3 * (n - 2)) 3) (State.setRoles_rd h _ _ rfl (by decide) (by decide) (by decide))
  rw [← hnames, ← State.dieOf_swapAlias hset ha hb hn]
  exact congrArg (field · (3 * (n - 2)) 3) (hoff.rd hswap 0 Reg.PART_ALIAS_DIES)

theorem exec_partReplace {s : State} {w : Who} {a b : Nat} (ha : isScan a = true) (hb : isScan b = true) (image : List Byte)
    (hs : s.takes w 0 0x17 = true) (hf : s.fits w 0 0x17 0x100 (2 + 8 * a + 64 * b) = true) :
    exec (.partReplace w a b image) s = .next ((written s w 0 0x17 0x100 (2 + 8 * a + 64 * b)).replaceDie a b image) := by
  have ha' := isScan_iff.mp ha
  have hb' := isScan_iff.mp hb
  have hop : (2 + 8 * a + 64 * b) % 8 = 2 := by omega
  have hfa : field (2 + 8 * a + 64 * b) 3 3 = a := by rw [field, Nat.shiftRight_eq_div_pow]; omega
  have hfb : field (2 + 8 * a + 64 * b) 6 3 = b := by rw [field, Nat.shiftRight_eq_div_pow]; omega
  show execPartReplace w a b image s = _
  rw [execPartReplace, Nat.mod_eq_of_lt (show a < 8 by omega), Nat.mod_eq_of_lt (show b < 8 by omega), writeThen_fits hs hf,
    State.partReq, hop, hfa, hfb]
  rfl

theorem partReplace_acts {s : State} (h : s.Sane) {w : Who} {a b : Nat} (ha : isScan a = true) (hb : isScan b = true) (hne : a ≠ b)
    (image : List Byte) (hs : s.takes w 0 0x17 = true) (hf : s.fits w 0 0x17 0x100 (2 + 8 * a + 64 * b) = true) :
    Completes (.partReplace w a b image) s fun t =>
      (s.mayReplace a b → t.role a = 2 ∧ t.role b = 0 ∧ ∀ n ∈ scanDies, t.dieOf n = swapDie a b (s.dieOf n)) ∧
      (¬s.mayReplace a b → t.rd 0 Reg.PART_STAT_REFUSE = 1 ∧ t.role a = s.role a ∧ t.role b = s.role b) := by
  have hw := written_sane h w 0 0x17 0x100 (2 + 8 * a + 64 * b)
  have hrole (d : Nat) : (written s w 0 0x17 0x100 (2 + 8 * a + 64 * b)).role d = s.role d := State.role_congr (written_rd h w 0) d
  have hnames (n : Nat) : (written s w 0 0x17 0x100 (2 + 8 * a + 64 * b)).dieOf n = s.dieOf n :=
    congrArg (field · (3 * (n - 2)) 3) (written_rd h w 0)
  have hmay : (written s w 0 0x17 0x100 (2 + 8 * a + 64 * b)).mayReplace a b ↔ s.mayReplace a b := by
    rw [State.mayReplace, State.mayReplace, hrole, hrole, written_rd h w 0, State.powered_congr (written_rd h w 0),
      State.present_congr (written_rd h w 0)]
  refine ⟨_, exec_partReplace ha hb image hs hf, fun hy => ?_, fun hn => ?_⟩
  · obtain ⟨hra, hrb, hn⟩ := State.replaceDie_shows hw ha hb hne (hmay.mpr hy) image
    exact ⟨hra, hrb, fun n hm => by rw [hn n hm, hnames]⟩
  · obtain ⟨-, hcode, hro⟩ := State.partRefuse_shows hw 1
    rw [State.replaceDie_refused (fun hy => hn (hmay.mp hy))]
    exact ⟨hcode, (hro a).trans (hrole a), (hro b).trans (hrole b)⟩

end Sys2Proof.Machine
end

section
/-! The obligation of the Scan dies as a whole. -/

open Sys2Proof Sys2Proof.Machine Sys2Proof.Bits
namespace Sys2Proof.Machine
set_option Elab.async false

/-- Settles O41: retirement, return, APPLY and REPLACE by the roles that `setRoles` leaves; rails, switches, retention and resets
by what an operation on one die leaves of the others, folded over the dies. -/
theorem diesChangeRolesAndPower : Obligations.DiesChangeRolesAndPower := by
  unfold Obligations.DiesChangeRolesAndPower
  refine ⟨fun s h => ⟨fun f ha => dieRetire_acts h ha, fun f ha => dieReturn_acts h ha, fun die good hr => returnTestEnd_acts h hr good,
      fun w hs => ⟨fun hf => partApply_acts h hs hf, fun a b image ha hb hne hf => partReplace_acts h ha hb hne image hs hf⟩⟩,
    fun s h => ⟨fun die hr => scanRailLoss_acts h hr, fun die hd hr => scanRailReturn_acts h hd hr,
      fun w word hs hf => headerSwitch_acts h hs hf, fun w word hs hw => dieRetain_acts h hs hw,
      fun w word hs hf => dieReset_acts h hs hf⟩⟩

end Sys2Proof.Machine
end

section
/-! SUPPORT.  The key words, locks and interrupt sources of a page header, and the ends of an arming and of a soft reset. -/

open Sys2Proof Sys2Proof.Machine Sys2Proof.Bits
namespace Sys2Proof.Machine
set_option Elab.async false

/-! ### Writes below the block registers -/

/-- A write that reaches a page which takes it has passed both refusals. -/
theorem pageWrite_takes {s : State} {w : Who} {die code : Nat} (hs : s.takes w die code = true) :
    mayWrite die code w = true ∧ s.notReady die code = false ∧
      ∀ off word, pageWrite s w die code off word = pageTake s w die code off word := by
  rw [State.takes, Bool.and_eq_true, Bool.and_eq_true, Bool.not_eq_true'] at hs
  obtain ⟨⟨hreach, hmay⟩, hready⟩ := hs
  exact ⟨hmay, hready, fun _ _ => pageWrite_reaches hreach⟩

/-- A word without bits outside a mask leaves nothing to slip. -/
theorem minus_of_masked {word mask : Nat} (h : word &&& mask = word) (hw : word < 2 ^ 32) : minus 32 word mask = 0 := by
  apply Nat.eq_of_testBit_eq
  intro i
  have hi : (word.testBit i && mask.testBit i) = word.testBit i := by rw [← Nat.testBit_and, h]
  rw [minus, Nat.testBit_and, Nat.testBit_xor, Nat.testBit_two_pow_sub_one, Nat.testBit_mod_two_pow, Nat.zero_testBit]
  by_cases h32 : i < 32
  · rw [decide_eq_true h32]
    revert hi
    cases word.testBit i <;> cases mask.testBit i <;> decide
  · rw [Nat.testBit_lt_two_pow (hw.trans_le (Nat.pow_le_pow_right (by decide) (Nat.not_lt.mp h32))), Bool.false_and]

/-- A write to sources or groups none of whose bits is reserved. -/
theorem writeBits_masked {s : State} {die code off who word mask : Nat} {f : State → Nat → State} (h : word &&& mask = word)
    (hw : word < 2 ^ 32) : writeBits s die code off who word mask f = ⟨f s word, some word⟩ := by
  rw [writeBits, h, if_pos (minus_of_masked h hw)]

/-- The header registers whose bits are groups or sources, each with its mask and with what their bits do (R52, R58). -/
inductive HeaderBits (die code : Nat) : Nat → Nat → (State → Nat → State) → Prop
  | locks : HeaderBits die code 0x018 (lockGroups die code) fun s v => s.setBits die (LOCKS_GROUP code) v
  | irqClear : HeaderBits die code 0x02C (irqSources die code) fun s v => s.clearBits die (IRQ_RAW_SRC code) v
  | irqSet : HeaderBits die code 0x030 (irqSources die code) fun s v => s.setBits die (IRQ_RAW_SRC code) v

section
variable {s : State} {w : Who} {die code word : Nat}

/-- A write of the key register that the page takes (R56). -/
theorem pageWrite_key (hs : s.takes w die code = true) (word : Nat) :
    pageWrite s w die code 0x014 word =
      ⟨keyWord (takeArming s die code w.code).2 (firstKey s die code w.code) die code w.code word, some (word % 65536)⟩ := by
  obtain ⟨hmay, hready, hwrite⟩ := pageWrite_takes hs
  rw [hwrite, pageTake]
  simp only [hmay, takeArming_notReady, hready, Bool.not_true, Bool.false_eq_true, if_false]
  rfl

/-- A write of such a register that the page takes and that names bits of its mask alone. -/
theorem pageWrite_bits {off mask : Nat} {f : State → Nat → State} (hb : HeaderBits die code off mask f)
    (hs : s.takes w die code = true) (hm : word &&& mask = word) (hw : word < 2 ^ 32) :
    pageWrite s w die code off word = ⟨f (takeArming s die code w.code).2 word, some word⟩ := by
  obtain ⟨hmay, hready, hwrite⟩ := pageWrite_takes hs
  have htake : pageTake s w die code off word = writeBits (takeArming s die code w.code).2 die code off w.code word mask f := by
    rw [pageTake]
    simp only [hmay, takeArming_notReady, hready, Bool.not_true, Bool.false_eq_true, if_false]
    cases hb <;> rfl
  rw [hwrite, htake, writeBits_masked hm hw]

end

/-! ### The key sequence (R56) -/

/-- The first key words of a page stand above every arming. -/
theorem keyStep_ne (die code who : Nat) : keyStep die code who ≠ die * 64 + code := by
  unfold keyStep; omega

/-- The arming taken by a write is gone. -/
theorem takeArming_arming {s : State} (die code who : Nat) (h : SMap.sorted s.arming = true) :
    SMap.find? (takeArming s die code who).2.arming (die * 64 + code) = none := by
  show SMap.find? (SMap.erase (SMap.erase s.arming (die * 64 + code)) (keyStep die code who)) (die * 64 + code) = none
  rw [SMap.find?_erase_ne (SMap.sorted_erase _ h) (keyStep_ne die code who).symm, SMap.find?_erase_same _ h]

/-- A page without an entry is not armed. -/
theorem State.isArmed_none {s : State} {die code : Nat} (h : SMap.find? s.arming (die * 64 + code) = none) :
    s.isArmed die code = false := by
  rw [State.isArmed, h]

/-- The first key word (R56). -/
theorem keyWord_first (s : State) (die code who : Nat) :
    keyWord s false die code who 0xC35A =
      { s with arming := SMap.insert s.arming (keyStep die code who) ⟨who, false, 0⟩ } := rfl

/-- The second key word after the first (R56). -/
theorem keyWord_second (s : State) {code : Nat} (hc : code < 64) (die who : Nat) :
    keyWord s true die code who (0xA500 + code) =
      { s with arming := SMap.insert s.arming (die * 64 + code) ⟨who, true, s.cycle + 64⟩ } := by
  have hlt : 0xA500 + code < 65536 := by omega
  rw [keyWord, Nat.mod_eq_of_lt hlt, Nat.div_eq_of_lt hlt, if_pos rfl]
  exact if_pos (by simp)

/-- The codes of the pages fit their six bits. -/
theorem pageFields_code {die code : Nat} (h : (pageFields die code).isSome = true) : code < 64 := by
  by_contra hc
  have hge : 64 ≤ code := Nat.not_lt.mp hc
  obtain ⟨k, rfl⟩ := Nat.exists_eq_add_of_le hge
  rw [Nat.add_comm] at h
  unfold pageFields at h
  split at h
  · cases h
  · split at h
    · cases h
    · split at h <;> cases h

/-- Arming alone changes, whatever it becomes. -/
theorem changesOnly_arming (s : State) (m : SMap Arming) : ChangesOnly [.arming] s { s with arming := m } :=
  (Moves.set_6 (F := Moves.parts [.arming] ||| Moves.all) .refl).changesOnly

section
variable {s : State} {w : Who} {die code : Nat} (hp : (pageFields die code).isSome = true) (hs : s.takes w die code = true)
include hp hs

theorem exec_keyWordWrite (word : Nat) :
    exec (.keyWordWrite w die code word) s =
      .next (keyWord (takeArming s die code w.code).2 (firstKey s die code w.code) die code w.code word) := by
  show execKeyWordWrite w die code word s = _
  rw [execKeyWordWrite, if_pos hp, plainWrite, pageWrite_key hs]

/-- What the first key word leaves. -/
theorem firstKeyWord_acts (hk : firstKey s die code w.code = false) :
    ∃ t, exec (.keyWordWrite w die code 0xC35A) s = .next t ∧ firstKey t die code w.code = true ∧
      (SMap.sorted s.arming = true → t.isArmed die code = false) ∧ ChangesOnly [.arming] s t := by
  refine ⟨_, exec_keyWordWrite hp hs 0xC35A, ?_⟩
  rw [hk, keyWord_first]
  refine ⟨?_, fun hsort => State.isArmed_none ?_, changesOnly_arming s _⟩
  · rw [firstKey, SMap.find?_insert_same]
    rfl
  · exact (SMap.find?_insert_ne _ _ (keyStep_ne die code w.code).symm).trans (takeArming_arming die code w.code hsort)

/-- What the second key word leaves. -/
theorem secondKeyWord_acts (hk : firstKey s die code w.code = true) :
    ∃ t, exec (.keyWordWrite w die code (0xA500 + code)) s = .next t ∧
      SMap.find? t.arming (die * 64 + code) = some ⟨w.code, true, s.cycle + 64⟩ ∧ t.isArmed die code = true ∧
      ChangesOnly [.arming] s t := by
  refine ⟨_, exec_keyWordWrite hp hs (0xA500 + code), ?_⟩
  rw [hk, keyWord_second _ (pageFields_code hp)]
  refine ⟨SMap.find?_insert_same .., ?_, changesOnly_arming s _⟩
  rw [State.isArmed, SMap.find?_insert_same]
  exact decide_eq_true (Nat.lt_add_of_pos_right (by decide))

/-! ### Locks and interrupt sources (R52, R58) -/

variable {word : Nat} (h : s.Sane) (hw : word < 2 ^ 32)
include h hw

/-- What a lock leaves. -/
theorem lockGroupSet_acts (hm : word &&& lockGroups die code = word) :
    ∃ t, exec (.lockGroupSet w die code word) s = .next t ∧
      t.rd die (LOCKS_GROUP code) = (s.rd die (LOCKS_GROUP code) ||| word) % 2 ^ 8 ∧
      ChangesOnly [.regs, .dirty, .arming] s t := by
  have htaken := takeArming_moves s die code w.code
  refine ⟨(takeArming s die code w.code).2.setBits die (LOCKS_GROUP code) word, ?_, State.rd_wr_same (htaken.sane h) .., ?_⟩
  · show execLockGroupSet w die code word s = _
    rw [execLockGroupSet, if_pos hp, plainWrite, pageWrite_bits .locks hs hm hw]
  · exact (htaken.sub.step (State.setBits_moves_any ..)).changesOnly

/-- What the setting of a source leaves. -/
theorem irqSet_acts (hm : word &&& irqSources die code = word) :
    ∃ t, exec (.irqSet w die code word) s = .next t ∧
      t.rd die (IRQ_RAW_SRC code) = (s.rd die (IRQ_RAW_SRC code) ||| word) % 2 ^ 32 ∧
      ChangesOnly [.regs, .dirty, .arming] s t := by
  have htaken := takeArming_moves s die code w.code
  refine ⟨(takeArming s die code w.code).2.setBits die (IRQ_RAW_SRC code) word, ?_, State.rd_wr_same (htaken.sane h) .., ?_⟩
  · show execIrqSet w die code word s = _
    rw [execIrqSet, if_pos hp, plainWrite, pageWrite_bits .irqSet hs hm hw]
  · exact (htaken.sub.step (State.setBits_moves_any ..)).changesOnly

/-- What the clearing of a source leaves, with the events of the same cycle. -/
theorem irqClear_acts (hm : word &&& irqSources die code = word) (events : Nat) :
    ∃ t, exec (.irqClear w die code word events) s = .next t ∧
      t.rd die (IRQ_RAW_SRC code) =
        (minus 32 (s.rd die (IRQ_RAW_SRC code)) word % 2 ^ 32 ||| (events &&& irqSources die code)) % 2 ^ 32 ∧
      ChangesOnly [.regs, .dirty, .arming] s t := by
  have htaken := takeArming_moves s die code w.code
  have hclear := State.clearBits_moves_any (takeArming s die code w.code).2 die (IRQ_RAW_SRC code) word
  have hsane := htaken.sane h
  refine ⟨((takeArming s die code w.code).2.clearBits die (IRQ_RAW_SRC code) word).setBits die (IRQ_RAW_SRC code)
    (events &&& irqSources die code), ?_, ?_, ?_⟩
  · show execIrqClear w die code word events s = _
    rw [execIrqClear, if_pos hp, writeThen_clean (pageWrite_bits .irqClear hs hm hw)]
  · rw [State.setBits, State.rd_wr_same (hclear.sane hsane), State.clearBits, State.rd_wr_same hsane]
    rfl
  · exact ((htaken.sub.step hclear).step (State.setBits_moves_any ..)).changesOnly

end

/-! ### Ends of an arming and of a soft reset (R53, R56) -/

/-- What the expiry of an arming leaves. -/
theorem armingExpiry_acts {s : State} {die code : Nat} {a : Arming} (hsort : SMap.sorted s.arming = true)
    (ha : SMap.find? s.arming (die * 64 + code) = some a) :
    ∃ t, exec (.armingExpiry die code) s = .next t ∧ t.isArmed die code = false ∧ ChangesOnly [.arming] s t := by
  refine ⟨{ s with arming := SMap.erase s.arming (die * 64 + code) }, ?_, State.isArmed_none (SMap.find?_erase_same _ hsort),
    changesOnly_arming s _⟩
  show execArmingExpiry die code s = _
  rw [execArmingExpiry, ha]

/-- What the end of a soft reset leaves; on a Scan die the SYS page stands for its power-up, which must be over too. -/
theorem softResetEnd_acts {s : State} {die code : Nat} (hsort : SMap.sorted s.softReset = true)
    (hup : isScan die = true → code = 0 ∨ SMap.find? s.softReset (die * 64) = none) :
    ∃ t, exec (.softResetEnd die code) s = .next t ∧ t.notReady die code = false ∧ ChangesOnly [.softReset] s t := by
  refine ⟨{ s with softReset := SMap.erase s.softReset (die * 64 + code) }, rfl, ?_,
    (Moves.set_7 (F := Moves.parts [.softReset] ||| Moves.all) .refl).changesOnly⟩
  have hpage := SMap.find?_erase_same (die * 64 + code) hsort
  rw [State.notReady]
  dsimp only
  rw [hpage]
  cases hd : isScan die with
  | false => rfl
  | true =>
    by_cases hc : code = 0
    · subst hc
      rw [Nat.add_zero] at hpage ⊢
      rw [hpage]
      rfl
    · rw [SMap.find?_erase_ne hsort (by omega), (hup hd).resolve_left hc]
      rfl

/-- Settles O8: each write of the header by what the page stores of it, the two ends by what they take out of their map. -/
theorem pageHeaderCommandsAct : Obligations.PageHeaderCommandsAct := by
  refine ⟨⟨fun s w die code _ hp hs hk => firstKeyWord_acts hp hs hk, fun s w die code _ hp hs hk => secondKeyWord_acts hp hs hk,
    fun s w die code word h hp hs hm hw => lockGroupSet_acts hp hs h hw hm,
    fun s w die code word h hp hs hm hw => irqSet_acts hp hs h hw hm,
    fun s w die code word events h hp hs hm hw => irqClear_acts hp hs h hw hm events⟩,
    fun s die code a hsort ha => armingExpiry_acts hsort ha, fun s die code hsort hup => softResetEnd_acts hsort hup⟩

end Sys2Proof.Machine
end

section
/-! SUPPORT.  A write that a page refuses as a whole, and what the logging of a slip writes (R60 to R63). -/

open Sys2Proof Sys2Proof.Machine Sys2Proof.Bits
namespace Sys2Proof.Machine
set_option Elab.async false

/-! ### A write refused as a whole (R53, R55, R60) -/

/-- A write that reaches its page, which does not take it: one slip, of the first kind that applies (log entry 25). -/
theorem pageWrite_refused {s : State} {w : Who} {die code : Nat} (hr : s.reaches w die = true) (ht : s.takes w die code = false)
    (hg : ¬(die = 0 ∧ code = 0x0C)) (off word : Nat) :
    pageWrite s w die code off word =
      ⟨(takeArming s die code w.code).2.slip die code off 0 32 (if mayWrite die code w then .notReady else .access) w.code word
        (s.readWord w.code die code off), none⟩ := by
  rw [State.takes, hr, Bool.true_and] at ht
  rw [pageWrite_reaches hr, pageTake]
  dsimp only
  cases hm : mayWrite die code w with
  | false => rw [Bool.not_false, if_pos rfl, if_neg hg, if_neg Bool.false_ne_true]
  | true =>
    rw [hm, Bool.true_and, Bool.not_eq_false'] at ht
    rw [Bool.not_true, if_neg Bool.false_ne_true, takeArming_notReady, ht, if_pos rfl, if_pos rfl]

/-- A block register of a page whose writes all go by the checks of the page first. -/
theorem regWrite_writeWith {die code off : Nat} (h1 : die ≠ 1) (ho : 0x100 ≤ off)
    (hk : ¬(die = 0 ∧ code ∈ [0x0C, 0x0F, 0x19, 0x1A])) (ht : ¬(isScan die = true ∧ code = 0x0C)) (w : Who) (word : Nat) (s : State) :
    ∃ k, regWrite w die code off word s = writeWith w die code off word s k := by
  simp only [List.mem_cons, List.not_mem_nil, or_false, not_and, not_or] at hk
  have hnvc : ¬(die = 0 ∧ code = 0x0F ∧ off = 0x10C) := fun h => (hk h.1).2.1 h.2.1
  have htable : ¬(die = 0 ∧ ((code = 0x19 ∧ (off = 0x100 ∨ off = 0x110)) ∨ (code = 0x1A ∧ off = 0x11C))) := fun h =>
    h.2.elim (fun c => (hk h.1).2.2.1 c.1) (fun c => (hk h.1).2.2.2 c.1)
  have htimr : ¬(isScan die && code == 0x0C && (off == 0x100 || off == 0x108 || off == 0x10C || decide (0x140 ≤ off))) = true := by
    rw [Bool.and_eq_true, Bool.and_eq_true, beq_iff_eq]
    exact fun h => ht h.1
  rw [regWrite, if_neg h1, if_neg hnvc, if_neg (by omega), if_neg (by omega), if_neg htable, if_neg htimr]
  split
  · exact ⟨_, rfl⟩
  · exact ⟨_, rfl⟩

/-- A register write that its page refuses is slipped, and no more. -/
theorem exec_registerWrite_refused {s : State} {w : Who} {die code off : Nat} (h1 : die ≠ 1) (hp : pageAt die code off = true)
    (ho : 0x100 ≤ off) (hr : s.reaches w die = true) (hk : ¬(die = 0 ∧ code ∈ [0x0C, 0x0F, 0x19, 0x1A]))
    (ht : ¬(isScan die = true ∧ code = 0x0C)) (hs : s.takes w die code = false) (word : Nat) :
    exec (.registerWrite w die code off word) s = .next
      ((takeArming s die code w.code).2.slip die code off 0 32 (if mayWrite die code w then .notReady else .access) w.code word
        (s.readWord w.code die code off)) := by
  obtain ⟨k, hw⟩ := regWrite_writeWith h1 ho hk ht w word s
  have hguard : ¬(die = 0 ∧ code = 0x0C) := fun h => hk ⟨h.1, by rw [h.2]; decide⟩
  rw [exec_registerWrite hp, hw, writeWith, pageWrite_refused hr hs hguard]

/-! ### The Archive's copy -/

/-- An entry of a queue leaves the registers. -/
theorem State.enterRing_regs (s : State) (die q lo hi : Nat) : (s.enterRing die q lo hi).regs = s.regs := rfl

/-- A record of the Archive writes the credits of its queue, or the count of drops and its interrupt. -/
theorem State.archive_rd {s : State} (h : s.Sane) (page event : Nat) (sev : Severity) (payload : List Nat) (e : Nat) {g : FieldDef}
    (hc : apart g Reg.QUE_CREDIT_COUNT) (hd : apart g Reg.ARCH_DROPS_COUNT) (hi : apart g (IRQ_RAW_SRC 0x11)) :
    (s.archive page event sev payload).rd e g = s.rd e g := by
  unfold State.archive
  dsimp only
  split
  · have hfold (l : List (Nat × Nat)) (t : State) : (l.foldl (fun s e => s.enterRing 0 12 e.1
        (archiveSender * 2 ^ 24 + 2 ^ 23 + e.2)) t).regs = t.regs := by
      induction l generalizing t with
      | nil => rfl
      | cons x l ih => exact (ih _).trans (State.enterRing_regs ..)
    rw [State.rd_congr (hfold _ _)]
    exact State.rd_wr_other h _ hc
  · rw [State.irq_rd ((State.inc_moves ..).sane h) hi, State.inc_rd h hd]

/-! ### Counters -/

/-- A saturating counter after it has gone up by one. -/
theorem State.inc_rd_same {s : State} (h : s.Sane) (die : Nat) (f : FieldDef) :
    (s.inc die f).rd die f = satAdd f.width (s.rd die f) 1 := by
  have hlt : satAdd f.width (s.rd die f) 1 < 2 ^ f.width :=
    (Nat.min_le_right ..).trans_lt (Nat.sub_lt (Nat.two_pow_pos _) (by decide))
  rw [State.inc, State.add, State.rd_wr_same h, Nat.mod_eq_of_lt hlt]

theorem State.incWrap_rd {s : State} (h : s.Sane) {die e : Nat} {f g : FieldDef} (ha : apart g f) :
    (s.incWrap die f).rd e g = s.rd e g := State.rd_wr_other h _ ha

/-! ### The ring entry of a slip (R62) -/

/-- Words stored one after the other into the places of a ring entry. -/
def State.logWords (s : State) (die : Nat) (entry : FieldDef) (l : List (Nat × Nat)) : State :=
  l.foldl (fun s wi => s.wr die (entry.i2 wi.2) wi.1) s

theorem State.logWords_cons (s : State) (die : Nat) (entry : FieldDef) (x : Nat × Nat) (l : List (Nat × Nat)) :
    s.logWords die entry (x :: l) = (s.wr die (entry.i2 x.2) x.1).logWords die entry l := rfl

theorem State.logWords_sane {s : State} (h : s.Sane) (die : Nat) (entry : FieldDef) (l : List (Nat × Nat)) :
    (s.logWords die entry l).Sane := by
  induction l generalizing s with
  | nil => exact h
  | cons x l ih => exact ih (h.wr ..)

/-- A field beside the entry keeps its value. -/
theorem State.logWords_keep {s : State} (h : s.Sane) {die e : Nat} {entry g : FieldDef} {l : List (Nat × Nat)}
    (hl : ∀ x ∈ l, apart g (entry.i2 x.2)) : (s.logWords die entry l).rd e g = s.rd e g := by
  induction l generalizing s with
  | nil => rfl
  | cons x l ih =>
    rw [State.logWords_cons, ih (h.wr ..) fun y hy => hl y (List.mem_cons_of_mem _ hy)]
    exact State.rd_wr_other h _ (hl x List.mem_cons_self)

/-- Every word reads back from its place. -/
theorem State.logWords_get {s : State} (h : s.Sane) {die : Nat} {entry : FieldDef} {l : List (Nat × Nat)}
    (hl : l.Pairwise fun x y => apart (entry.i2 x.2) (entry.i2 y.2)) {x : Nat × Nat} (hx : x ∈ l) :
    (s.logWords die entry l).rd die (entry.i2 x.2) = x.1 % 2 ^ entry.width := by
  induction l generalizing s with
  | nil => cases hx
  | cons y l ih =>
    obtain ⟨hy, hl⟩ := List.pairwise_cons.mp hl
    rw [State.logWords_cons]
    rcases List.mem_cons.mp hx with rfl | hx
    · rw [State.logWords_keep (h.wr ..) hy]
      exact State.rd_wr_same h ..
    · exact ih (h.wr ..) hl hx

/-- The ring entry that the next slip of a die fills. -/
def State.slipEntry (s : State) (die : Nat) : FieldDef :=
  (clampF die Reg.CLAMP_RINGi_Ww).i (s.rd die (clampF die Reg.CLAMP_STAT_NEXT))

/-- The words of a slip (R62). -/
def State.slipWords (s : State) (die code off lsb width : Nat) (kind : SlipKind) (who written applied : Nat) : List Nat :=
  [regAddr die code off, lsb + width * 32 + kind.code * 2048 + who * 65536, written, applied, s.time % 2 ^ 32,
    s.time / 2 ^ 32, s.rd die (clampF die Reg.CLAMP_SEQ_NEXT), 0]

/-- Where the words of an entry stand on the CLAMP page. -/
theorem State.slipEntry_place {s : State} {die k : Nat} (hn : s.rd die (clampF die Reg.CLAMP_STAT_NEXT) < 32) (hk : k < 8) :
    ((s.slipEntry die).i2 k).off % 4096 = 0x400 + s.rd die (clampF die Reg.CLAMP_STAT_NEXT) * 32 + k * 4 ∧
      0x400 ≤ ((s.slipEntry die).i2 k).off % 4096 ∧ k < 8 := by
  have hoff : ((s.slipEntry die).i2 k).off = 0x400 + s.rd die (clampF die Reg.CLAMP_STAT_NEXT) * 32 + k * 4 := rfl
  omega

/-- An entry has eight words. -/
theorem State.slipWords_ix {s : State} {die code off lsb width : Nat} {kind : SlipKind} {who written applied : Nat} {x : Nat × Nat}
    (hx : x ∈ (s.slipWords die code off lsb width kind who written applied).zipIdx) : x.2 < 8 :=
  List.snd_lt_of_mem_zipIdx hx

/-- The ring moves on and the slip is counted (R61). -/
def State.countSlip (s : State) (die code : Nat) : State :=
  (((s.incWrap die (clampF die Reg.CLAMP_STAT_NEXT)).incWrap die (clampF die Reg.CLAMP_SEQ_NEXT)).inc die
    (clampF die Reg.CLAMP_TOTAL_COUNT)).inc die (CLAMPS_COUNT code)

/-- The interrupts of a slip, the second where a count has reached its top. -/
def State.raiseSlip (s : State) (die code : Nat) : State :=
  let t := s.irq die (clampPage die) 0
  if t.rd die (CLAMPS_COUNT code) = 65535 ∨ t.rd die (clampF die Reg.CLAMP_TOTAL_COUNT) = 2 ^ 32 - 1
    then t.irq die (clampPage die) 1 else t

/-- The Archive's copy of a slip. -/
def State.copySlip (s : State) (die code : Nat) (words : List Nat) : State :=
  if s.on die (clampF die Reg.CLAMP_CTL_ARCHIVE) then s.archive code 64 .warning words else s

/-- A slip is its entry, its counts, its interrupts and its copy, in this order. -/
theorem State.slip_eq (s : State) (die code off lsb width : Nat) (kind : SlipKind) (who written applied : Nat) :
    s.slip die code off lsb width kind who written applied =
      (((s.logWords die (s.slipEntry die) (s.slipWords die code off lsb width kind who written applied).zipIdx).countSlip die
        code).raiseSlip die code).copySlip die code (s.slipWords die code off lsb width kind who written applied) := rfl

/-! ### What a slip leaves and what it writes -/

theorem State.countSlip_sane {s : State} (h : s.Sane) (die code : Nat) : (s.countSlip die code).Sane :=
  (State.inc_moves ..).sane ((State.inc_moves ..).sane ((State.incWrap_moves ..).sane ((State.incWrap_moves ..).sane h)))

theorem clampF_apart (die : Nat) {f g : FieldDef} (h : f.off % 4096 ≠ g.off % 4096) : apart (clampF die f) (clampF die g) :=
  .inr (.inl h)

/-- The four counters after a slip. -/
theorem State.countSlip_shows {s : State} (h : s.Sane) (die code : Nat) :
    let t := s.countSlip die code
    t.rd die (CLAMPS_COUNT code) = satAdd 16 (s.rd die (CLAMPS_COUNT code)) 1 ∧
    t.rd die (clampF die Reg.CLAMP_TOTAL_COUNT) = satAdd 32 (s.rd die (clampF die Reg.CLAMP_TOTAL_COUNT)) 1 ∧
    t.rd die (clampF die Reg.CLAMP_STAT_NEXT) = (s.rd die (clampF die Reg.CLAMP_STAT_NEXT) + 1) % 32 ∧
    t.rd die (clampF die Reg.CLAMP_SEQ_NEXT) = (s.rd die (clampF die Reg.CLAMP_SEQ_NEXT) + 1) % 2 ^ 32 := by
  have h1 : (s.incWrap die (clampF die Reg.CLAMP_STAT_NEXT)).Sane := (State.incWrap_moves ..).sane h
  have h2 := (State.incWrap_moves _ die (clampF die Reg.CLAMP_SEQ_NEXT)).sane h1
  have h3 := (State.inc_moves _ die (clampF die Reg.CLAMP_TOTAL_COUNT)).sane h2
  have hcount {f : FieldDef} (hf : f.off % 4096 ≠ 0x010) : apart (clampF die f) (CLAMPS_COUNT code) := .inr (.inl hf)
  have hcount' {f : FieldDef} (hf : 0x010 ≠ f.off % 4096) : apart (CLAMPS_COUNT code) (clampF die f) := .inr (.inl hf)
  dsimp only
  unfold State.countSlip
  refine ⟨?_, ?_, ?_, ?_⟩
  · rw [State.inc_rd_same h3, State.inc_rd h2 (hcount' (by decide)), State.incWrap_rd h1 (hcount' (by decide)),
      State.incWrap_rd h (hcount' (by decide))]
    rfl
  · rw [State.inc_rd h3 (hcount (by decide)), State.inc_rd_same h2, State.incWrap_rd h1 (clampF_apart die (by decide)),
      State.incWrap_rd h (clampF_apart die (by decide))]
    rfl
  · rw [State.inc_rd h3 (hcount (by decide)), State.inc_rd h2 (clampF_apart die (by decide)),
      State.incWrap_rd h1 (clampF_apart die (by decide)), State.incWrap, State.rd_wr_same h]
    rfl
  · rw [State.inc_rd h3 (hcount (by decide)), State.inc_rd h2 (clampF_apart die (by decide)), State.incWrap, State.rd_wr_same h1,
      State.incWrap_rd h (clampF_apart die (by decide))]
    rfl

/-- The ring's entries lie beyond the counters. -/
theorem State.countSlip_keep {s : State} (h : s.Sane) (die code : Nat) {e : Nat} {g : FieldDef} (hg : 0x400 ≤ g.off % 4096) :
    (s.countSlip die code).rd e g = s.rd e g := by
  have h1 : (s.incWrap die (clampF die Reg.CLAMP_STAT_NEXT)).Sane := (State.incWrap_moves ..).sane h
  have h2 := (State.incWrap_moves _ die (clampF die Reg.CLAMP_SEQ_NEXT)).sane h1
  have h3 := (State.inc_moves _ die (clampF die Reg.CLAMP_TOTAL_COUNT)).sane h2
  have ha {f : FieldDef} (hf : f.off % 4096 < 0x400) : apart g f := .inr (.inl (by omega))
  have hc {f : FieldDef} (hf : f.off % 4096 < 0x400) : apart g (clampF die f) := ha hf
  rw [State.countSlip, State.inc_rd h3 (ha (f := CLAMPS_COUNT code) (by decide : (0x010 : Nat) % 4096 < 0x400)),
    State.inc_rd h2 (hc (by decide)), State.incWrap_rd h1 (hc (by decide)), State.incWrap_rd h (hc (by decide))]

theorem State.raiseSlip_sane {s : State} (h : s.Sane) (die code : Nat) : (s.raiseSlip die code).Sane := by
  have h1 : (s.irq die (clampPage die) 0).Sane := (State.irq_moves ..).sane h
  unfold State.raiseSlip
  dsimp only
  split
  · exact (State.irq_moves ..).sane h1
  · exact h1

theorem State.raiseSlip_rd {s : State} (h : s.Sane) (die code e : Nat) {g : FieldDef} (hp : apart g (IRQ_RAW_SRC (clampPage die))) :
    (s.raiseSlip die code).rd e g = s.rd e g := by
  unfold State.raiseSlip
  dsimp only
  split
  · rw [State.irq_rd ((State.irq_moves ..).sane h) hp, State.irq_rd h hp]
  · rw [State.irq_rd h hp]

/-- Fields of the CLAMP page and counts of slips: none is an interrupt, a credit of a queue or the count of drops. -/
abbrev slipField (g : FieldDef) : Prop :=
  g.off % 4096 ≠ 0x020 ∧ apart g Reg.QUE_CREDIT_COUNT ∧ apart g Reg.ARCH_DROPS_COUNT

theorem slipField.apart_irq {g : FieldDef} (hg : slipField g) (code : Nat) : apart g (IRQ_RAW_SRC code) := .inr (.inl hg.1)

theorem State.copySlip_rd {s : State} (h : s.Sane) (die code : Nat) (words : List Nat) (e : Nat) {g : FieldDef} (hg : slipField g) :
    (s.copySlip die code words).rd e g = s.rd e g := by
  unfold State.copySlip
  split
  · exact State.archive_rd h _ _ _ _ e hg.2.1 hg.2.2 (hg.apart_irq _)
  · rfl

/-- The counters of the CLAMP page. -/
def clampCounters : List FieldDef := [Reg.CLAMP_STAT_NEXT, Reg.CLAMP_SEQ_NEXT, Reg.CLAMP_TOTAL_COUNT]

theorem slipField_clampF (die : Nat) {f : FieldDef} (hf : f ∈ clampCounters) :
    slipField (clampF die f) := by
  unfold clampF clampPage
  fin_cases hf <;> split <;> decide

theorem slipField_count (code : Nat) : slipField (CLAMPS_COUNT code) :=
  ⟨(by decide : (0x010 : Nat) % 4096 ≠ 0x020), .inr (.inl (by decide : (0x010 : Nat) % 4096 ≠ 0x104 % 4096)),
    .inr (.inl (by decide : (0x010 : Nat) % 4096 ≠ 0x128 % 4096))⟩

/-- The ring's entries lie beyond all of these. -/
theorem slipField_ring {g : FieldDef} (h : 0x400 ≤ g.off % 4096) : slipField g :=
  have ha {f : FieldDef} (hf : f.off % 4096 < 0x400) : apart g f := .inr (.inl (by omega))
  ⟨by omega, ha (by decide), ha (by decide)⟩

section
variable {s : State} (h : s.Sane) (die code off lsb width : Nat) (kind : SlipKind) (who written applied : Nat)
include h

/-- A field of the CLAMP page or a count of slips is as the entry and the counts leave it. -/
theorem State.slip_rd (e : Nat) {g : FieldDef} (hg : slipField g) :
    (s.slip die code off lsb width kind who written applied).rd e g =
      ((s.logWords die (s.slipEntry die) (s.slipWords die code off lsb width kind who written applied).zipIdx).countSlip die
        code).rd e g := by
  have hlog := State.countSlip_sane
    (State.logWords_sane h die (s.slipEntry die) (s.slipWords die code off lsb width kind who written applied).zipIdx) die code
  rw [State.slip_eq, State.copySlip_rd (State.raiseSlip_sane hlog ..) _ _ _ _ hg, State.raiseSlip_rd hlog _ _ _ (hg.apart_irq _)]

/-- What a slip makes of the counts of its page and of its die, of the place of the next entry and of the sequence number
(R61, R62). -/
theorem State.slip_counts (hn : s.rd die (clampF die Reg.CLAMP_STAT_NEXT) < 32) :
    let t := s.slip die code off lsb width kind who written applied
    t.rd die (CLAMPS_COUNT code) = satAdd 16 (s.rd die (CLAMPS_COUNT code)) 1 ∧
    t.rd die (clampF die Reg.CLAMP_TOTAL_COUNT) = satAdd 32 (s.rd die (clampF die Reg.CLAMP_TOTAL_COUNT)) 1 ∧
    t.rd die (clampF die Reg.CLAMP_STAT_NEXT) = (s.rd die (clampF die Reg.CLAMP_STAT_NEXT) + 1) % 32 ∧
    t.rd die (clampF die Reg.CLAMP_SEQ_NEXT) = (s.rd die (clampF die Reg.CLAMP_SEQ_NEXT) + 1) % 2 ^ 32 := by
  have hlog := State.logWords_sane h die (s.slipEntry die) (s.slipWords die code off lsb width kind who written applied).zipIdx
  have hkeep {g : FieldDef} (hg : g.off % 4096 < 0x400) : (s.logWords die (s.slipEntry die)
      (s.slipWords die code off lsb width kind who written applied).zipIdx).rd die g = s.rd die g :=
    State.logWords_keep h fun x hx => .inr (.inl (by
      have hplace := State.slipEntry_place hn (State.slipWords_ix hx)
      omega))
  have hcounter {f : FieldDef} (hf : f.off % 4096 < 0x400) := hkeep (g := clampF die f) hf
  have hrd {g : FieldDef} (hg : slipField g) := State.slip_rd h die code off lsb width kind who written applied die hg
  have hclamp {f : FieldDef} (hf : f ∈ clampCounters) := hrd (slipField_clampF die hf)
  obtain ⟨hcount, htotal, hnext, hseq⟩ := State.countSlip_shows hlog die code
  refine ⟨?_, ?_, ?_, ?_⟩
  · rw [hrd (slipField_count code), hcount, hkeep (g := CLAMPS_COUNT code) (by decide : (0x010 : Nat) % 4096 < 0x400)]
  · rw [hclamp (by decide), htotal, hcounter (by decide)]
  · rw [hclamp (by decide), hnext, hcounter (by decide)]
  · rw [hclamp (by decide), hseq, hcounter (by decide)]

/-- Every word of a slip stands in its place of the entry that was next (R62). -/
theorem State.slip_word (hn : s.rd die (clampF die Reg.CLAMP_STAT_NEXT) < 32) {k v : Nat}
    (hv : (s.slipWords die code off lsb width kind who written applied)[k]? = some v) :
    (s.slip die code off lsb width kind who written applied).rd die ((s.slipEntry die).i2 k) = v % 2 ^ 32 := by
  have hmem : (v, k) ∈ (s.slipWords die code off lsb width kind who written applied).zipIdx :=
    List.mem_zipIdx_iff_getElem?.mpr hv
  have hplace {x : Nat × Nat} (hx : x ∈ (s.slipWords die code off lsb width kind who written applied).zipIdx) :=
    State.slipEntry_place hn (State.slipWords_ix hx)
  have hlog := State.logWords_sane h die (s.slipEntry die) (s.slipWords die code off lsb width kind who written applied).zipIdx
  have hix : (s.slipWords die code off lsb width kind who written applied).zipIdx.Pairwise fun x y => x.2 ≠ y.2 := by
    rw [← List.pairwise_map (f := Prod.snd) (R := fun i j => i ≠ j), List.zipIdx_map_snd]
    exact List.nodup_range'
  have hapart := hix.imp_of_mem (S := fun x y => apart ((s.slipEntry die).i2 x.2) ((s.slipEntry die).i2 y.2))
    fun hx hy hne => .inr (.inl (by
      have hpx := hplace hx
      have hpy := hplace hy
      omega))
  have hring : 0x400 ≤ ((s.slipEntry die).i2 k).off % 4096 := (hplace hmem).2.1
  rw [State.slip_rd h die code off lsb width kind who written applied die (slipField_ring hring),
    State.countSlip_keep hlog die code hring]
  exact State.logWords_get (x := (v, k)) h hapart hmem

end

/-- Settles O10: a refused write is its slip; a slip is its entry, its counts, its interrupts and its copy. -/
theorem refusedWritesAreSlippedAndLogged : Obligations.RefusedWritesAreSlippedAndLogged := by
  refine ⟨fun s w die code off word h1 hp ho hr hk ht hs => exec_registerWrite_refused h1 hp ho hr hk ht hs word,
    fun s die code off lsb width kind who written applied h _ hn => ?_⟩
  obtain ⟨hcount, htotal, hnext, hseq⟩ := State.slip_counts h die code off lsb width kind who written applied hn
  have hword {k v : Nat} (hv : (s.slipWords die code off lsb width kind who written applied)[k]? = some v) :=
    State.slip_word h die code off lsb width kind who written applied hn hv
  exact ⟨hcount, htotal, hnext, hseq, hword (k := 0) rfl, hword (k := 1) rfl, hword (k := 2) rfl, hword (k := 3) rfl,
    hword (k := 6) rfl⟩

end Sys2Proof.Machine
end

section
/-! SUPPORT.  Writes to the Field pages: the store in the proxy, the list that a control frame carries, and what the outputs'
new drive leaves of the Field die (R50, R64, R379). -/

open Sys2Proof Sys2Proof.Machine Sys2Proof.Bits
namespace Sys2Proof.Machine
set_option Elab.async false

/-! ### The Field die after its outputs are driven anew -/

theorem State.fskShow_fld (s : State) (k : Nat) : (s.fskShow k).fld = s.fld := (State.fskShow_moves s k).part .fld

/-- Driving the outputs sets what they are driven to and clears open loads, and nothing else of the Field die. -/
theorem State.drive_fld (s : State) :
    s.drive.fld = { s.fld with doOut := s.drive.fld.doOut, ao := s.drive.fld.ao, opens := s.drive.fld.opens } := by
  unfold State.drive
  simp only [State.fskShow_fld]
  split <;> rfl

/-- A disarmed Field die: the outputs disarmed, no safe values held, no trim step in force. -/
theorem State.disarm_fld (s : State) :
    s.disarm.fld = { s.fld with
      armed := false, armDue := false, safeHeld := false, trim := [], trimEnds := 0, doOut := s.disarm.fld.doOut
      ao := s.disarm.fld.ao, opens := s.disarm.fld.opens } := State.drive_fld _

/-! ### A write that finds room among those that wait -/

/-- The proxy with a write stored, which waits for a control frame. -/
def fieldStored (s : State) (w : Who) (code off word : Nat) : State := (written s w 1 code off word).queueWrite code off word

/-- A word stored in a register of a Field page as it stands, not in its header. -/
structure FieldStores (s : State) (w : Who) (code off word : Nat) : Prop where
  room : s.fld.waiting.length < 64
  clean : pageWrite s w 1 code off word = ⟨written s w 1 code off word, some word⟩
  off_ge : 0x100 ≤ off

/-- Such a write: the store, the entry among those that wait, and the effect of the register. -/
theorem FieldStores.fieldWrite {s : State} {w : Who} {code off word : Nat} (k : FieldStores s w code off word) :
    fieldWrite w code off word s = fieldEffect code off (fieldStored s w code off word) word := by
  have hroom : s.fieldFull = false := decide_eq_false (Nat.not_le.mpr k.room)
  have hoff : ¬(off = 0x00C ∧ bit word 1 = true) := fun h => absurd k.off_ge (by rw [h.1]; decide)
  rw [Machine.fieldWrite, hroom, Bool.false_and, Bool.false_and, if_neg Bool.false_ne_true, fieldTake, writeThen_clean k.clean,
    if_neg hoff, fieldStored]

section
variable {s : State} (h : s.Sane) (w : Who) (code off word : Nat)
include h

theorem fieldStored_sane : (fieldStored s w code off word).Sane := (State.queueWrite_moves ..).sane (written_sane h ..)

/-- The store leaves the other registers. -/
theorem fieldStored_rd {e : Nat} {g : FieldDef} (hg : g.code % 64 ≠ code % 64 ∨ g.off % 4096 ≠ off % 4096) :
    (fieldStored s w code off word).rd e g = s.rd e g := by
  have hq : (fieldStored s w code off word).regs = (written s w 1 code off word).regs := by
    unfold fieldStored State.queueWrite
    split <;> rfl
  rw [State.rd_congr hq, written_rd h w 1 hg]

/-- With the Field die present the write waits, and its page is stale. -/
theorem fieldStored_shows (hp : s.fieldPresent = true) (hc : code % 64 ≠ 0x25) :
    (fieldStored s w code off word).fld = { s.fld with waiting := s.fld.waiting ++ [⟨code, off, word, s.time⟩] } ∧
    (fieldStored s w code off word).fieldStale = s.fieldStale ||| 1 <<< code := by
  have hsame := written_changes s w 1 code off word
  have hpresent : (written s w 1 code off word).fieldPresent = true := by
    rw [State.fieldPresent, State.on, written_rd h w 1 (g := Reg.FPX_STAT_PRESENT) (.inl hc.symm)]
    exact hp
  have hfld : (written s w 1 code off word).fld = s.fld := hsame .fld rfl
  have hstale : (written s w 1 code off word).fieldStale = s.fieldStale := hsame .fieldStale rfl
  have htime : (written s w 1 code off word).time = s.time := hsame .time rfl
  rw [fieldStored, State.queueWrite, if_pos hpresent, hfld, hstale, htime]
  exact ⟨rfl, rfl⟩

end

/-! ### Digital inputs and outputs (R387, R405) -/

/-- A register write to a Field page that exists. -/
theorem exec_fieldProxyWrite {code off : Nat} (hp : pageAt 1 code off = true) (w : Who) (word : Nat) (s : State) :
    exec (.fieldProxyWrite w code off word) s = .next (fieldWrite w code off word s) := by
  rw [pageAt, Bool.and_eq_true, Bool.and_eq_true, decide_eq_true_eq, beq_iff_eq, and_assoc] at hp
  show execFieldProxyWrite w code off word s = _
  rw [execFieldProxyWrite, if_pos hp]

/-- Of the pages F/FDI and F/FDO no register does more than wait. -/
theorem fieldEffect_dio {code : Nat} (hc : code ∈ [1, 2]) (off : Nat) (s : State) (v : Nat) : fieldEffect code off s v = s := by
  fin_cases hc <;> rfl

/-- A word that fits its register is stored in the proxy. -/
theorem FieldStores.of_fits {s : State} {w : Who} {code off word : Nat} (hroom : s.fld.waiting.length < 64)
    (hs : s.takes w 1 code = true) (hf : s.fits w 1 code off word = true)
    (h9 : ¬(code = 0x09 ∧ off = 0x114) := by decide) : FieldStores s w code off word := by
  refine ⟨hroom, pageWrite_fits hs hf (.inl fun h => h9 h.2), ?_⟩
  rw [State.fits] at hf
  simp only [Bool.and_eq_true, decide_eq_true_eq] at hf
  obtain ⟨⟨⟨⟨-, hoff⟩, -⟩, -⟩, -⟩ := hf
  exact hoff

/-- A word of static fields likewise. -/
theorem FieldStores.of_plain {s : State} {w : Who} {code off word : Nat} (hroom : s.fld.waiting.length < 64)
    (hs : s.takes w 1 code = true) (hf : plainRegister 1 code off word = true)
    (h9 : ¬(code = 0x09 ∧ off = 0x114) := by decide) : FieldStores s w code off word := by
  refine ⟨hroom, pageWrite_plain hs hf (.inl fun h => h9 h.2), ?_⟩
  rw [plainRegister] at hf
  simp only [Bool.and_eq_true, decide_eq_true_eq] at hf
  obtain ⟨⟨⟨-, hoff⟩, -⟩, -⟩ := hf
  exact hoff

/-- A write to F/FDI or F/FDO waits for a control frame. -/
theorem fieldProxyWrite_waits {s : State} (h : s.Sane) {w : Who} (hp : s.fieldPresent = true) {code off word : Nat}
    (hc : code ∈ [1, 2]) (hat : pageAt 1 code off = true) (k : FieldStores s w code off word) :
    Completes (.fieldProxyWrite w code off word) s fun t =>
      t.fld.waiting = s.fld.waiting ++ [⟨code, off, word, s.time⟩] ∧ bit t.fieldStale code = true := by
  have hcode := (by decide : ∀ c ∈ [1, 2], c % 64 ≠ 0x25) code hc
  obtain ⟨hfld, hstale⟩ := fieldStored_shows h w code off word hp hcode
  have hexec : exec (.fieldProxyWrite w code off word) s = .next (fieldStored s w code off word) := by
    rw [exec_fieldProxyWrite hat, k.fieldWrite, fieldEffect_dio hc]
  refine ⟨_, hexec, congrArg FieldIO.waiting hfld, ?_⟩
  rw [hstale, bit_eq_testBit, Nat.testBit_or, Nat.one_shiftLeft, Nat.testBit_two_pow_self, Bool.or_true]

theorem fdoClear_plain : ∀ word < 256, plainRegister 1 2 0x104 word = true := by decide +kernel

/-- A clear of shorts waits for a control frame. -/
theorem doClearShort_waits {s : State} (h : s.Sane) {w : Who} (hp : s.fieldPresent = true) (hroom : s.fld.waiting.length < 64)
    {word : Nat} (hw : word < 256) (hs : s.takes w 1 2 = true) :
    Completes (.doClearShort w word) s fun t => t.fld.waiting = s.fld.waiting ++ [⟨2, 0x104, word, s.time⟩] := by
  have k : FieldStores s w 2 0x104 word := .of_plain hroom hs (fdoClear_plain word hw)
  exact ⟨_, congrArg Host.Outcome.next k.fieldWrite,
    congrArg FieldIO.waiting (fieldStored_shows h w 2 0x104 word hp (by decide)).1⟩

/-! ### Words that fit -/

/-- A field not seen through a window takes its part of a word, and then the rest of the register. -/
theorem fieldsTake_cons {who die word below : Nat} {f : FieldDef} {fs : List FieldDef} {s : State} (hwin : f.win = .none)
    (hwix : f.wix = 0) (hf : fieldTakes s die word below f = true)
    (hr : fieldsTake who die word fs (below + f.get word * 2 ^ f.lsb) (if f.acc = .rw then s.wr die f (f.get word) else s) = true) :
    fieldsTake who die word (f :: fs) below s = true := by
  have hw : f.w (s.winWr who die f.win) = f := by
    rw [hwin]
    show f.w 0 = f
    rw [FieldDef.w, ← hwix]
  rw [fieldsTake, hw, hf, hr]
  rfl

/-- A word fits a register whose fields take it and that has no other bits. -/
theorem State.fits_of {s : State} {w : Who} {die code off word : Nat} {fs : List FieldDef} (hfs : regFields die code off = fs)
    (ht : fieldsTake w.code die word fs 0 (takeArming s die code w.code).2 = true)
    (hb : (!fs.isEmpty && decide (0x100 ≤ off) && minus 32 word (fieldMask fs) == 0 &&
      !(fs.all fun f => f.acc == .ro || f.acc == .rc) && fs.foldl (fun a f => a + f.get word * 2 ^ f.lsb) 0 == word) = true) :
    s.fits w die code off word = true := by
  rw [State.fits, hfs, ht]
  exact hb

/-! ### Arming and disarming (R394, R409) -/

/-- The Range of ARM: 1 alone where the Field die is present, FV24 is up and a Safe image stands. -/
theorem clamp_fsafeArm (s : State) (v below : Nat) : clamp s 1 Reg.F_FSAFE_CTL_ARM v below =
    (nearest (upto 0 (if s.on 0 Reg.FPX_STAT_PRESENT ∧ s.rd 1 Reg.F_FSUP_STAT_LEVEL < 3 ∧ s.on 0 Reg.IMG_STAT_SAFE_VALID
      then 1 else 0)) v).toNat := rfl

theorem regFields_fsafeCtl : regFields 1 6 0x100 = [Reg.F_FSAFE_CTL_ARM, Reg.F_FSAFE_CTL_DISARM] := by decide +kernel

/-- A command of `F/FSAFE.CTL` fits where its ARM bit is in its Range. -/
theorem fits_fsafeCtl {s : State} (w : Who) {word : Nat} (hw : word ∈ [1, 2])
    (ha : clamp (takeArming s 1 6 w.code).2 1 Reg.F_FSAFE_CTL_ARM (Reg.F_FSAFE_CTL_ARM.get word) 0 = Reg.F_FSAFE_CTL_ARM.get word) :
    s.fits w 1 6 0x100 word = true := by
  refine State.fits_of regFields_fsafeCtl (fieldsTake_cons rfl rfl ?_ (fieldsTake_cons rfl rfl ?_ rfl)) ?_
  · rw [fieldTakes, ha, beq_self_eq_true]
    rfl
  · rw [fieldTakes, clamp_static _ _ _ _ rfl rfl]
    fin_cases hw <;> decide
  · fin_cases hw <;> decide

/-- An arming waits for a control frame. -/
theorem fieldArm_waits {s : State} (h : s.Sane) {w : Who} (hp : s.fieldPresent = true) (hroom : s.fld.waiting.length < 64)
    (hs : s.takes w 1 6 = true) (hl : s.rd 1 Reg.F_FSUP_STAT_LEVEL < 3) (hv : s.on 0 Reg.IMG_STAT_SAFE_VALID = true) :
    Completes (.fieldArm w) s fun t => t.fld.waiting = s.fld.waiting ++ [⟨6, 0x100, 1, s.time⟩] := by
  have hf : s.fits w 1 6 0x100 1 = true := by
    refine fits_fsafeCtl w (by decide) ?_
    rw [clamp_fsafeArm, if_pos ⟨hp, hl, hv⟩]
    decide
  exact ⟨_, congrArg Host.Outcome.next (FieldStores.of_fits hroom hs hf).fieldWrite,
    congrArg FieldIO.waiting (fieldStored_shows h w 6 0x100 1 hp (by decide)).1⟩

/-- A disarming waits for a control frame; while frames flow, the Keeper's hold on the outputs is gone at once. -/
theorem fieldDisarm_waits {s : State} (h : s.Sane) {w : Who} (hp : s.fieldPresent = true) (hroom : s.fld.waiting.length < 64)
    (hs : s.takes w 1 6 = true) :
    Completes (.fieldDisarm w) s fun t =>
      t.fld.waiting = s.fld.waiting ++ [⟨6, 0x100, 2, s.time⟩] ∧
      (s.controlFlows = true → t.fld.armed = false ∧ t.fld.safeHeld = false ∧ t.fld.trim = []) := by
  have hf : s.fits w 1 6 0x100 2 = true := by
    refine fits_fsafeCtl w (by decide) ?_
    rw [clamp_fsafeArm]
    split <;> decide
  obtain ⟨hfld, -⟩ := fieldStored_shows h w 6 0x100 2 hp (by decide)
  have hflows : (fieldStored s w 6 0x100 2).controlFlows = s.controlFlows := by
    unfold State.controlFlows State.fieldPresent State.on
    rw [fieldStored_rd h _ _ _ _ (by decide), fieldStored_rd h _ _ _ _ (by decide)]
  have heff : fieldEffect 6 0x100 (fieldStored s w 6 0x100 2) 2 =
      if s.controlFlows then (fieldStored s w 6 0x100 2).disarm else fieldStored s w 6 0x100 2 := by
    rw [← hflows]
    rfl
  have hexec : exec (.fieldDisarm w) s =
      .next (if s.controlFlows then (fieldStored s w 6 0x100 2).disarm else fieldStored s w 6 0x100 2) :=
    congrArg Host.Outcome.next ((FieldStores.of_fits hroom hs hf).fieldWrite.trans heff)
  cases hc : s.controlFlows with
  | true =>
    rw [hc] at hexec
    refine ⟨_, hexec, ?_, fun _ => ?_⟩
    · rw [if_pos rfl, State.disarm_fld, hfld]
    · rw [if_pos rfl, State.disarm_fld]
      exact ⟨rfl, rfl, rfl⟩
  | false =>
    rw [hc] at hexec
    exact ⟨_, hexec, congrArg FieldIO.waiting hfld, fun hf => absurd hf Bool.false_ne_true⟩

/-! ### Trim steps (R399) -/

/-- The Range of a trim step: all where the outputs are armed and the part holds the Tablet, and the pins hold no trim. -/
theorem clamp_trimStep (s : State) (v below : Nat) : clamp s 1 Reg.F_FAO_TRIM_STEP v below =
    (nearest (upto 0 (if s.on 1 Reg.F_FSAFE_STAT_ARMED ∧ s.rd 0 Reg.TABLET_STAT_STATE = 2 ∧
      ¬ ((s.rd 1 Reg.F_FAO_TRIM_STAT_STATE = 1 ∨ s.rd 1 Reg.F_FAO_TRIM_STAT_STATE = 2) ∧ s.on 1 Reg.F_FAO_TRIM_STAT_PINS)
      then 2 else 0)) v).toNat := rfl

theorem regFields_trim :
    regFields 1 3 0x140 = [Reg.F_FAO_TRIM_CHANNEL, Reg.F_FAO_TRIM_STEP, Reg.F_FAO_TRIM_PIN_EN] := by decide +kernel

/-- No trim stands where the state of the trim is neither of the two steps. -/
theorem State.trimming_eq_false {s : State} : s.trimming = false ↔
    ¬(s.rd 1 Reg.F_FAO_TRIM_STAT_STATE = 1 ∨ s.rd 1 Reg.F_FAO_TRIM_STAT_STATE = 2) := by
  rw [State.trimming, Bool.or_eq_false_iff, beq_eq_false_iff_ne, beq_eq_false_iff_ne, not_or]

/-- The words of `F/FAO.TRIM` that command a step of a channel. -/
theorem trim_word {k step : Nat} (hk : k < 2) (hstep : step ∈ [1, 2]) :
    k + 2 * step < 8 ∧ field (k + 2 * step) 1 2 = step ∧ field (k + 2 * step) 0 1 = k := by
  have hs : step = 1 ∨ step = 2 := by simpa using hstep
  rw [field, field, Nat.shiftRight_eq_div_pow, Nat.shiftRight_eq_div_pow]
  omega

/-- A step is in its Range where no trim stands and the outputs are armed under the Tablet. -/
theorem fieldTakes_trimStep {s : State} {word : Nat} (hw : word < 6) (ha : s.on 1 Reg.F_FSAFE_STAT_ARMED = true)
    (ht : s.rd 0 Reg.TABLET_STAT_STATE = 2) (hn : s.trimming = false) (below : Nat) :
    fieldTakes s 1 word below Reg.F_FAO_TRIM_STEP = true := by
  rw [fieldTakes, clamp_trimStep, if_pos ⟨ha, ht, fun hp => State.trimming_eq_false.mp hn hp.1⟩]
  interval_cases word <;> decide

/-- A command of a step then fits. -/
theorem fits_trim {s : State} (h : s.Sane) (w : Who) {word : Nat} (hw : word < 6) (ha : s.on 1 Reg.F_FSAFE_STAT_ARMED = true)
    (ht : s.rd 0 Reg.TABLET_STAT_STATE = 2) (hn : s.trimming = false) : s.fits w 1 3 0x140 word = true := by
  have hu : (takeArming s 1 3 w.code).2.Sane := (takeArming_moves ..).sane h
  refine State.fits_of regFields_trim (fieldsTake_cons rfl rfl ?_ (fieldsTake_cons rfl rfl ?_ (fieldsTake_cons rfl rfl ?_ rfl))) ?_
  · rw [fieldTakes, clamp_static _ _ _ _ rfl rfl]
    interval_cases word <;> decide
  · show fieldTakes ((takeArming s 1 3 w.code).2.wr 1 Reg.F_FAO_TRIM_CHANNEL _) 1 word _ Reg.F_FAO_TRIM_STEP = true
    refine fieldTakes_trimStep hw ?_ ?_ ?_ _
    · rw [State.on, State.rd_wr_other hu]
      exact ha
    · rw [State.rd_wr_other hu]
      exact ht
    · rw [State.trimming, State.rd_wr_other hu]
      exact hn
  · rw [fieldTakes, clamp_static _ _ _ _ rfl rfl]
    interval_cases word <;> decide
  · interval_cases word <;> decide

/-- `TRIM_STAT.STATE` takes its value. -/
theorem State.setTrim_state {s : State} (h : s.Sane) {st : Nat} (hst : st < 4) :
    (s.setTrim st).rd 1 Reg.F_FAO_TRIM_STAT_STATE = st := by
  unfold State.setTrim
  split
  · assumption
  · rw [State.irq_rd (h.wr ..) (by decide), State.rd_wr_same h]
    exact Nat.mod_eq_of_lt hst

theorem State.setTrim_rd {s : State} (h : s.Sane) (st e : Nat) {g : FieldDef} (hg : apart g Reg.F_FAO_TRIM_STAT_STATE)
    (hi : apart g (IRQ_RAW_SRC 3)) : (s.setTrim st).rd e g = s.rd e g := by
  unfold State.setTrim
  split
  · rfl
  · rw [State.irq_rd (h.wr ..) hi, State.rd_wr_other h _ hg]

/-- The start of a trim names its channel. -/
theorem State.trimStart_channel {s : State} (h : s.Sane) {k : Nat} (hk : k < 2) (pins : Nat) :
    (s.trimStart k pins).rd 1 Reg.F_FAO_TRIM_STAT_CHANNEL = k :=
  (State.rd_wr_same (h.wr 1 Reg.F_FAO_TRIM_STAT_PINS pins) 1 Reg.F_FAO_TRIM_STAT_CHANNEL k).trans (Nat.mod_eq_of_lt hk)

/-- A channel drives the code of its step, and no register of the trim changes with it. -/
theorem State.trimDrive_shows {s : State} (h : s.Sane) (k step : Nat) :
    SMap.find? (s.trimDrive k step).fld.trim k = some (if step = 1 then 8000 else 40000) ∧
    ∀ g : FieldDef, g.code = 3 → (s.trimDrive k step).rd 1 g = s.rd 1 g := by
  refine ⟨?_, fun g hg => (State.trimDrive_moves s k step).rd h 1 g (by rw [hg]; rfl)⟩
  have hfld := congrArg FieldIO.trim (State.drive_fld ({ s with fld := { s.fld with
    trim := SMap.insert s.fld.trim k (if step = 1 then 8000 else 40000)
    trimEnds := minus 2 (s.fld.trimEnds ||| maskOf ((s.fld.trim.map (·.1)).filter (· != k))) (1 <<< k) } } : State))
  rw [State.trimDrive, hfld]
  exact SMap.find?_insert_same ..

/-- A command of a step with no trim standing. -/
theorem State.trimWrite_step {s : State} {k step : Nat} (hk : k < 2) (hstep : step ∈ [1, 2]) (hn : s.trimming = false) :
    s.trimWrite (k + 2 * step) = ((s.trimStart k 0).setTrim step).trimDrive k step := by
  obtain ⟨-, hs, hc⟩ := trim_word hk hstep
  have h0 : step ≠ 0 := by rintro rfl; exact absurd hstep (by decide)
  unfold State.trimWrite
  simp only [hs, hc, hn, Bool.false_and, Bool.false_eq_true, if_false, if_neg h0]

/-- What a trim step leaves. -/
theorem trimStep_acts {s : State} (h : s.Sane) {w : Who} (hroom : s.fld.waiting.length < 64) {k step : Nat} (hk : k < 2)
    (hstep : step ∈ [1, 2]) (hs : s.takes w 1 3 = true) (ha : s.on 1 Reg.F_FSAFE_STAT_ARMED = true)
    (ht : s.rd 0 Reg.TABLET_STAT_STATE = 2) (hn : s.trimming = false) :
    Completes (.trimStep w (k + 2 * step)) s fun t =>
      t.rd 1 Reg.F_FAO_TRIM_STAT_STATE = step ∧ t.rd 1 Reg.F_FAO_TRIM_STAT_CHANNEL = k ∧
      SMap.find? t.fld.trim k = some (if step = 1 then 8000 else 40000) := by
  have hstep4 : 0 < step ∧ step < 4 := (by decide : ∀ x ∈ [1, 2], 0 < x ∧ x < 4) step hstep
  have hword : k + 2 * step < 6 := by
    have := (by decide : ∀ x ∈ [1, 2], x ≤ 2) step hstep
    omega
  have hstored := fieldStored_sane h w 3 0x140 (k + 2 * step)
  have hidle : (fieldStored s w 3 0x140 (k + 2 * step)).trimming = false := by
    rw [State.trimming, fieldStored_rd h _ _ _ _ (by decide)]
    exact hn
  have heff : fieldEffect 3 0x140 (fieldStored s w 3 0x140 (k + 2 * step)) (k + 2 * step) =
      (((fieldStored s w 3 0x140 (k + 2 * step)).trimStart k 0).setTrim step).trimDrive k step :=
    State.trimWrite_step hk hstep hidle
  have hstart := (State.trimStart_moves _ k 0).sane hstored
  have hset := (State.setTrim_moves _ step).sane hstart
  obtain ⟨hdrive, hregs⟩ := State.trimDrive_shows hset k step
  refine ⟨_, congrArg Host.Outcome.next ((FieldStores.of_fits hroom hs (fits_trim h w hword ha ht hn)).fieldWrite.trans heff),
    ?_, ?_, hdrive⟩
  · rw [hregs _ rfl, State.setTrim_state hstart hstep4.2]
  · rw [hregs _ rfl, State.setTrim_rd hstart _ _ (by decide) (by decide), State.trimStart_channel hstored hk]

/-! ### Characters for the FSK transmitter (R391, R392, R407) -/

theorem fskTx_plain : ∀ k < 2, ∀ char < 256, plainRegister 1 4 (0x104 + 0x20 * k) char = true := by decide +kernel

/-- Whether a modem may send does not hang on the writes that wait. -/
theorem State.fskMaySend_congr {s t : State} {l : List ProxyWrite} (hf : t.fld = { s.fld with waiting := l })
    (ht : t.rd 0 Reg.TABLET_STAT_STATE = s.rd 0 Reg.TABLET_STAT_STATE) (k : Nat) : t.fskMaySend k = s.fskMaySend k := by
  rw [State.fskMaySend, State.fskMaySend, State.aoLive, State.aoLive, State.outputsOff, State.outputsOff, State.tabletHeld,
    State.tabletHeld, ht, hf]

/-- What `F/FSK` shows of a channel after its count of characters to send. -/
def fskShown : List FieldDef :=
  [Reg.F_FSK_STATk_RX_COUNT, Reg.F_FSK_STATk_SENDING, Reg.F_FSK_RXk_DATA, Reg.F_FSK_RXk_PARITY_ERR, Reg.F_FSK_RXk_FRAMING_ERR,
   Reg.F_FSK_RXk_VALID]

theorem txCount_apart : ∀ k < 2, ∀ f ∈ fskShown, apart (Reg.F_FSK_STATk_TX_COUNT.i k) (f.i k) := by decide

/-- `STATk.TX_COUNT` shows the characters of the channel. -/
theorem State.fskShow_txCount {s : State} (h : s.Sane) {k : Nat} (hk : k < 2) :
    (s.fskShow k).rd 1 (Reg.F_FSK_STATk_TX_COUNT.i k) =
      (SMap.get [] s.fld.fskTx k).length % 2 ^ Reg.F_FSK_STATk_TX_COUNT.width := by
  have ha {f : FieldDef} (hf : f ∈ fskShown) := txCount_apart k hk f hf
  have h1 : (s.wr 1 (Reg.F_FSK_STATk_TX_COUNT.i k) (SMap.get [] s.fld.fskTx k).length).Sane := h.wr ..
  unfold State.fskShow State.wrB
  dsimp only
  rw [State.rd_wr_other (((((h1.wr ..).wr ..).wr ..).wr ..).wr ..) _ (ha (f := Reg.F_FSK_RXk_VALID) (by decide)),
    State.rd_wr_other ((((h1.wr ..).wr ..).wr ..).wr ..) _ (ha (f := Reg.F_FSK_RXk_FRAMING_ERR) (by decide)),
    State.rd_wr_other (((h1.wr ..).wr ..).wr ..) _ (ha (f := Reg.F_FSK_RXk_PARITY_ERR) (by decide)),
    State.rd_wr_other ((h1.wr ..).wr ..) _ (ha (f := Reg.F_FSK_RXk_DATA) (by decide)),
    State.rd_wr_other (h1.wr ..) _ (ha (f := Reg.F_FSK_STATk_SENDING) (by decide)),
    State.rd_wr_other h1 _ (ha (f := Reg.F_FSK_STATk_RX_COUNT) (by decide)), State.rd_wr_same h]
  rfl

/-- A character more in the transmit queue of a channel. -/
def State.fskJoined (s : State) (k char : Nat) : State :=
  { s with fld := { s.fld with fskTx := SMap.insert s.fld.fskTx k (SMap.get [] s.fld.fskTx k ++ [char]) } }

theorem State.fskJoined_sane {s : State} (h : s.Sane) (k char : Nat) : (s.fskJoined k char).Sane := h

theorem State.fskJoined_queue (s : State) (k char : Nat) :
    SMap.get [] (s.fskJoined k char).fld.fskTx k = SMap.get [] s.fld.fskTx k ++ [char] := by
  show (SMap.find? (SMap.insert s.fld.fskTx k (SMap.get [] s.fld.fskTx k ++ [char])) k).getD [] = _
  rw [SMap.find?_insert_same]
  rfl

/-- A character that its channel may send and has room for. -/
theorem State.fskTx_room {s : State} {k char : Nat} (hm : s.fskMaySend k = true)
    (hlen : (SMap.get [] s.fld.fskTx k).length < 64) (hc : char < 256) : s.fskTx k char = (s.fskJoined k char).fskShow k := by
  have hno : (!s.fskMaySend k || decide (64 ≤ (SMap.get [] s.fld.fskTx k).length)) = false := by
    rw [hm, decide_eq_false (Nat.not_le.mpr hlen)]
    rfl
  rw [State.fskTx, hno, Nat.mod_eq_of_lt hc]
  rfl

/-- The register of the transmitter of a channel. -/
theorem fieldEffect_fskTx {k : Nat} (hk : k < 2) (s : State) (v : Nat) : fieldEffect 4 (0x104 + 0x20 * k) s v = s.fskTx k v := by
  interval_cases k
  · rfl
  · rfl

/-- A character joins those of its channel, where the modem may send and has room. -/
theorem fskTxWrite_acts {s : State} (h : s.Sane) {w : Who} (hp : s.fieldPresent = true) (hroom : s.fld.waiting.length < 64)
    {k char : Nat} (hk : k < 2) (hc : char < 256) (hs : s.takes w 1 4 = true) (hm : s.fskMaySend k = true)
    (hlen : (SMap.get [] s.fld.fskTx k).length < 64) :
    Completes (.fskTxWrite w k char) s fun t =>
      SMap.get [] t.fld.fskTx k = SMap.get [] s.fld.fskTx k ++ [char] ∧ t.rd 1 (Reg.F_FSK_STATk_TX_COUNT.i k) =
        ((SMap.get [] s.fld.fskTx k).length + 1) % 2 ^ Reg.F_FSK_STATk_TX_COUNT.width := by
  have hstores : FieldStores s w 4 (0x104 + 0x20 * k) char :=
    .of_plain hroom hs (fskTx_plain k hk char hc) fun h => absurd h.1 (by decide)
  have hjoined := State.fskJoined_sane (fieldStored_sane h w 4 (0x104 + 0x20 * k) char) k char
  obtain ⟨hfld, -⟩ := fieldStored_shows h w 4 (0x104 + 0x20 * k) char hp (by decide)
  have htx : SMap.get [] (fieldStored s w 4 (0x104 + 0x20 * k) char).fld.fskTx k = SMap.get [] s.fld.fskTx k := by rw [hfld]
  have hmay : (fieldStored s w 4 (0x104 + 0x20 * k) char).fskMaySend k = true := by
    rw [State.fskMaySend_congr hfld (fieldStored_rd h _ _ _ _ (.inl (by decide))), hm]
  have hexec : exec (.fskTxWrite w k char) s =
      .next (((fieldStored s w 4 (0x104 + 0x20 * k) char).fskJoined k char).fskShow k) := by
    show execFskTxWrite w k char s = _
    rw [execFskTxWrite, if_pos hk, hstores.fieldWrite, fieldEffect_fskTx hk, State.fskTx_room hmay (by rw [htx]; exact hlen) hc]
  have hqueue := State.fskJoined_queue (fieldStored s w 4 (0x104 + 0x20 * k) char) k char
  rw [htx] at hqueue
  refine ⟨_, hexec, ?_, ?_⟩
  · rw [State.fskShow_fld, hqueue]
  · rw [State.fskShow_txCount hjoined hk, hqueue, List.length_append, List.length_singleton]

/-! ### Control frames (R379, R395) -/

/-- With nothing held for the Field pages there is nothing to let through. -/
theorem releaseField_none {s : State} (h : s.fieldHolds = false) : releaseField s = s := by
  have hnil : (s.holding.filter fun r => !r.failed && State.atPage r && r.die == 1) = [] := by
    rw [List.filter_eq_nil_iff]
    exact List.any_eq_false.mp h
  rw [releaseField, hnil]
  rfl

theorem State.fieldHolds_congr {s t : State} (h : t.holding = s.holding) : t.fieldHolds = s.fieldHolds := by
  rw [State.fieldHolds, State.fieldHolds, h]

/-- The Field die as a control frame reaches it: every waiting write sent, clears of shorts done, the silence timer restarted. -/
def State.controlSent (s : State) : State :=
  let clr := s.fld.waiting.foldl (fun m w => if w.page = 2 ∧ w.off = 0x104 then m ||| w.word % 256 else m) 0
  { s with fld := { s.fld with
    sent := s.fld.sent ++ s.fld.waiting, waiting := [], flow := true, lastControl := s.time
    shorts := minus 8 s.fld.shorts clr, thermals := minus 8 s.fld.thermals clr } }

/-- A control frame with nothing held: the outputs follow it, disarmed where one of the writes says so. -/
theorem exec_controlFrame {s : State} (hc : s.controlFlows = true) (hh : s.fieldHolds = false) :
    exec .controlFrame s = .next s.controlSent.disarm ∨ exec .controlFrame s = .next s.controlSent.drive := by
  have hdisarm : s.controlSent.disarm.fieldHolds = false :=
    (State.fieldHolds_congr ((State.disarm_moves s.controlSent).part .holding)).trans hh
  have hdrive : s.controlSent.drive.fieldHolds = false :=
    (State.fieldHolds_congr ((State.drive_moves s.controlSent).part .holding)).trans hh
  have hexec : exec .controlFrame s = .next (releaseField
      (if s.fld.waiting.any fun w => w.page == 6 && w.off == 0x100 && bit w.word 1 then s.controlSent.disarm
        else s.controlSent.drive)) := by
    show execControlFrame s = _
    rw [execControlFrame, if_pos hc]
    rfl
  rw [hexec]
  split
  · exact .inl (congrArg _ (releaseField_none hdisarm))
  · exact .inr (congrArg _ (releaseField_none hdrive))

/-- What a control frame leaves. -/
theorem controlFrame_acts {s : State} (hc : s.controlFlows = true) (hh : s.fieldHolds = false) :
    Completes .controlFrame s fun t =>
      t.fld.sent = s.fld.sent ++ s.fld.waiting ∧ t.fld.waiting = [] ∧ t.fld.flow = true ∧ t.fld.lastControl = s.time := by
  rcases exec_controlFrame hc hh with hexec | hexec
  · have hfld := s.controlSent.disarm_fld
    exact ⟨_, hexec, congrArg FieldIO.sent hfld, congrArg FieldIO.waiting hfld, congrArg FieldIO.flow hfld,
      congrArg FieldIO.lastControl hfld⟩
  · have hfld := s.controlSent.drive_fld
    exact ⟨_, hexec, congrArg FieldIO.sent hfld, congrArg FieldIO.waiting hfld, congrArg FieldIO.flow hfld,
      congrArg FieldIO.lastControl hfld⟩

/-! ### A write that finds no room (R50) -/

/-- A request that begins to wait is among those that wait. -/
theorem State.mem_holdRequest (s : State) (r : HeldReq) (hr : State.atPage r = true) : r ∈ (s.holdRequest r).holding := by
  by_cases hc : s.holding.contains r = true
  · rw [State.holdRequest, if_pos hc]
    exact List.contains_iff_mem.mp hc
  · have hmem : r ∈ ({ s with holding := s.holding ++ [r] } : State).holding := List.mem_append_right _ List.mem_cons_self
    rw [State.holdRequest, if_neg hc]
    dsimp only
    rw [if_pos hr, (State.showHeld_moves { s with holding := s.holding ++ [r] } r.who).part .holding]
    exact hmem

theorem atPage_pageReq (w : Who) (die code off word : Nat) : State.atPage (State.pageReq w die code off word) = true :=
  decide_eq_true (by show 0xF0000000 ≤ regAddr die code off; unfold regAddr; omega)

/-- A write that the page takes waits in its master when 64 wait for a control frame. -/
theorem fieldWrite_full {s : State} {w : Who} {code : Nat} (off word : Nat) (hfull : 64 ≤ s.fld.waiting.length)
    (hs : s.takes w 1 code = true) : fieldWrite w code off word s = s.holdRequest (State.pageReq w 1 code off word) := by
  obtain ⟨hmay, hready, -⟩ := pageWrite_takes hs
  rw [State.takes, Bool.and_eq_true, Bool.and_eq_true] at hs
  obtain ⟨⟨hreach, -⟩, -⟩ := hs
  have hf : s.fieldFull = true := decide_eq_true hfull
  rw [fieldWrite, hf, hmay, hready, State.holdPage, State.heldPage, State.stalled_waits (State.stalled_reaches hreach)]
  rfl

/-- A write that finds 64 waiting is held, its response with it. -/
theorem fieldProxyWrite_held {s : State} (h : s.Sane) {w : Who} {code off : Nat} (word : Nat) (hfull : 64 ≤ s.fld.waiting.length)
    (hat : pageAt 1 code off = true) (hs : s.takes w 1 code = true) :
    Completes (.fieldProxyWrite w code off word) s fun t =>
      State.pageReq w 1 code off word ∈ t.holding ∧ t.fld = s.fld ∧ t.replies = s.replies ∧ PagesOnly [5] s t := by
  have hm := State.holdRequest_moves s (State.pageReq w 1 code off word)
  exact ⟨_, (exec_fieldProxyWrite hat w word s).trans (congrArg _ (fieldWrite_full off word hfull hs)),
    State.mem_holdRequest s _ (atPage_pageReq ..), hm.part .fld, hm.part .replies, hm.pagesOnly h⟩

/-- Settles O12: each write by what the proxy stores of it and what its register does, the control frame by what it carries. -/
theorem fieldPageWritesWaitForAControlFrame : Obligations.FieldPageWritesWaitForAControlFrame := by
  refine ⟨fun s w h hp hroom => ⟨fun code off word hc hat hs hf => ?_, fun word hw hs => doClearShort_waits h hp hroom hw hs,
    fun hs hl hv => fieldArm_waits h hp hroom hs hl hv, fun hs => fieldDisarm_waits h hp hroom hs,
    fun k step hk hstep hs ha ht hn => trimStep_acts h hroom hk hstep hs ha ht hn,
    fun k char hk hc hs hm hlen => fskTxWrite_acts h hp hroom hk hc hs hm hlen, fun hc hh => controlFrame_acts hc hh⟩,
    fun s w code off word h hfull hat hs => fieldProxyWrite_held h word hfull hat hs⟩
  have h9 : ¬(code = 0x09 ∧ off = 0x114) := fun h => absurd (h.1 ▸ hc) (by decide)
  exact fieldProxyWrite_waits h hp hc hat (.of_fits hroom hs hf h9)

end Sys2Proof.Machine
end

section
/-! SUPPORT.  Frames between the Keeper and the Field die: what a report, a confirmation, an absence and a return leave of the proxy
(R64, R379, R380, R398, R408). -/

open Sys2Proof Sys2Proof.Machine Sys2Proof.Bits
namespace Sys2Proof.Machine
set_option Elab.async false

/-! ### What a report leaves of the confirmations -/

/-- What the Keeper holds as confirmed: the last good frame, the writes sent, the Field die's own configuration. -/
def FieldIO.confirmed (f : FieldIO) : Nat × List ProxyWrite × SMap Nat := (f.goodAt, f.sent, f.own)

theorem FieldIO.of_confirmed {f : FieldIO} {goodAt : Nat} {sent : List ProxyWrite} {own : SMap Nat}
    (h : f.confirmed = (goodAt, sent, own)) : f.goodAt = goodAt ∧ f.sent = sent ∧ f.own = own :=
  ⟨congrArg Prod.fst h, congrArg (·.2.1) h, congrArg (·.2.2) h⟩

/-- What every step of a fold keeps, the fold keeps. -/
theorem foldl_keeps {α β γ : Type} {g : β → γ} {f : β → α → β} (hf : ∀ t x, g (f t x) = g t) (l : List α) (b : β) :
    g (l.foldl f b) = g b := by
  induction l generalizing b with
  | nil => rfl
  | cons x l ih => rw [List.foldl_cons, ih, hf]

theorem State.confirmed_ite {c : Prop} [Decidable c] {a b : State} {x : Nat × List ProxyWrite × SMap Nat}
    (ha : a.fld.confirmed = x) (hb : b.fld.confirmed = x) : (if c then a else b).fld.confirmed = x := by
  split
  · exact ha
  · exact hb

theorem State.queueWrite_confirmed (s : State) (page off word : Nat) : (s.queueWrite page off word).fld.confirmed = s.fld.confirmed :=
  State.confirmed_ite rfl rfl

theorem State.proxySet_confirmed (s : State) (f : FieldDef) (v : Nat) : (s.proxySet f v).fld.confirmed = s.fld.confirmed :=
  State.queueWrite_confirmed ..

theorem State.setTrim_fld (s : State) (st : Nat) : (s.setTrim st).fld = s.fld := (State.setTrim_moves s st).part .fld

theorem State.trimAbandon_confirmed (s : State) : s.trimAbandon.fld.confirmed = s.fld.confirmed := by
  unfold State.trimAbandon
  refine State.confirmed_ite ?_ rfl
  extract_lets k s1 s2
  have h1 : s1.fld.confirmed = s.fld.confirmed := (State.proxySet_confirmed ..).trans (State.proxySet_confirmed ..)
  have h2 : s2.fld.confirmed = s.fld.confirmed := State.confirmed_ite h1 ((State.proxySet_confirmed ..).trans h1)
  rw [State.setTrim_fld]
  exact h2

theorem State.reportCrossing_confirmed (s : State) (x : Nat × Nat × Nat) : (s.reportCrossing x).fld.confirmed = s.fld.confirmed := by
  unfold State.reportCrossing
  extract_lets s1 f s2
  have hfld : ((((s2.inc 1 Reg.F_FSUP_CROSSINGS_COUNT).irq 1 5 0).raiseCause 5).archive 5 0
      (if 2 ≤ x.2.1 then .fault else .info) []).fld = s2.fld :=
    ((State.archive_moves ..).part .fld).trans ((State.raiseCause_moves ..).part .fld)
  rw [hfld]
  rfl

theorem State.reportCrossings_confirmed (s : State) (l : List (Nat × Nat × Nat)) :
    (l.foldl State.reportCrossing s).fld.confirmed = s.fld.confirmed :=
  foldl_keeps (g := fun t => t.fld.confirmed) State.reportCrossing_confirmed l s

theorem State.reportOutput_fld (s : State) (code n : Nat) (f : FieldDef) (v : Nat) : (s.reportOutput code n f v).fld = s.fld :=
  (State.reportOutput_moves s code n f v).part .fld

/-- A report sets counts of its own to zero and touches nothing of the confirmations. -/
theorem State.report_shows (s : State) (r : FieldReport) :
    (s.report r).fld.confirmed = s.fld.confirmed ∧ (s.report r).fld.trips = 0 ∧ (s.report r).fld.crossings = [] := by
  refine ⟨?_, rfl, rfl⟩
  unfold State.report
  extract_lets f was s1 s2 s3 s4 s5 s6 s7 s8 s9 s10 s11 s12 s13 s14 s15 s16
  have h1 : s1.fld.confirmed = s.fld.confirmed := State.confirmed_ite (State.reportCrossing_confirmed ..) rfl
  have h2 : s2.fld.confirmed = s.fld.confirmed := (State.reportCrossings_confirmed ..).trans h1
  clear_value s2
  have h4 : s4.fld = s2.fld := rfl
  have h5 : s5.fld = s4.fld := by
    refine foldl_keeps (g := State.fld) (b := s4) ?_ (List.range 8)
    exact fun _ _ => rfl
  clear_value s5
  have h6 : s6.fld = s5.fld := rfl
  have h9 : s9.fld = s6.fld := (State.reportOutput_fld ..).trans ((State.reportOutput_fld ..).trans (State.reportOutput_fld ..))
  clear_value s9
  have h10 : s10.fld = s9.fld := by
    refine foldl_keeps (g := State.fld) (b := s9) ?_ (List.range 2)
    exact fun _ _ => State.reportOutput_fld ..
  clear_value s10
  have h11 : s11.fld.confirmed = s.fld.confirmed := by
    rw [show s11.fld = s10.fld from rfl, h10, h9, h6, h5, h4, h2]
  have h12 : s12.fld.confirmed = s.fld.confirmed := State.confirmed_ite ((State.trimAbandon_confirmed ..).trans h11) h11
  clear_value s12
  have h13 : s13.fld.confirmed = s.fld.confirmed := State.confirmed_ite h12 h12
  clear_value s13
  have h16 : s16.fld = s13.fld := rfl
  clear_value s16
  exact (congrArg FieldIO.confirmed h16).trans h13

/-! ### Status frames (R379, R380) -/

/-- A bad status frame is counted. -/
theorem statusFrame_bad {s : State} (h : s.Sane) (r : FieldReport) :
    Completes (.statusFrame false r) s fun t =>
      t.rd 0 Reg.FPX_LINKERR_COUNT = satAdd Reg.FPX_LINKERR_COUNT.width (s.rd 0 Reg.FPX_LINKERR_COUNT) 1 ∧ t.fld = s.fld := by
  refine ⟨(s.inc 0 Reg.FPX_LINKERR_COUNT).irq 0 0x25 1, rfl, ?_, rfl⟩
  rw [State.irq_rd ((State.inc_moves ..).sane h) (by decide), State.inc_rd_same h]

/-- A measurement that leaves FV24 at its level notes the voltage alone. -/
theorem State.measureFv24_same {s : State} {mv : Nat} (hl : fv24Level s.fld.level mv = s.fld.level) :
    s.measureFv24 mv = { s with fld := { s.fld with minMv := min s.fld.minMv mv } } := if_pos hl

theorem State.drive_confirmed (s : State) : s.drive.fld.confirmed = s.fld.confirmed :=
  (congrArg FieldIO.confirmed s.drive_fld).trans rfl

/-- A confirmation takes the writes sent into the Field die. -/
theorem State.confirm_confirmed (s : State) :
    s.confirm.fld.confirmed = (s.fld.goodAt, [], s.fld.sent.foldl State.applyWrite s.fld.own) := by
  unfold State.confirm
  extract_lets +onlyGivenNames sent s1
  have h1 : s1.fld = s.fld := by
    refine foldl_keeps (g := State.fld) (b := s) ?_ sent
    exact fun _ _ => rfl
  clear_value s1
  extract_lets +onlyGivenNames arm f s2 s3
  have h2 : s2.fld.confirmed = (s1.fld.goodAt, [], sent.foldl State.applyWrite s1.fld.own) := rfl
  clear_value s2
  have h3 : s3.fld.confirmed = s2.fld.confirmed := State.drive_confirmed s2
  clear_value s3
  exact h3.trans (h2.trans (by rw [h1]))

/-- The instant of a good status frame is noted. -/
def State.frameSeen (s : State) : State := { s with fld := { s.fld with goodAt := s.time } }

theorem State.frameSeen_holding (s : State) : s.frameSeen.holding = s.holding := rfl

theorem State.frameSeen_confirmed (s : State) : s.frameSeen.fld.confirmed = (s.time, s.fld.confirmed.2) := rfl

theorem State.confirm_time (s : State) : s.confirm.time = s.time := (State.confirm_moves s).part .time

theorem State.confirm_holding (s : State) : s.confirm.holding = s.holding := (State.confirm_moves s).part .holding

theorem State.measureFv24_time (s : State) (mv : Nat) : (s.measureFv24 mv).time = s.time :=
  (State.measureFv24_moves s mv).part .time

theorem State.measureFv24_holding (s : State) (mv : Nat) : (s.measureFv24 mv).holding = s.holding :=
  (State.measureFv24_moves s mv).part .holding

theorem State.report_holding (s : State) (r : FieldReport) : (s.report r).holding = s.holding :=
  (State.report_moves s r).part .holding

/-- A good status frame while the Field die is present and nothing is held. -/
theorem exec_statusFrame_good {s : State} (hp : s.fieldPresent = true) (hh : s.fieldHolds = false) (r : FieldReport) :
    exec (.statusFrame true r) s = .next ((s.measureFv24 r.mv).confirm.frameSeen.report r) := by
  have hreturns : s.fieldReturns = s := by rw [State.fieldReturns, if_pos hp]
  have hholding : ((s.measureFv24 r.mv).confirm.frameSeen.report r).holding = s.holding := by
    rw [State.report_holding, State.frameSeen_holding, State.confirm_holding, State.measureFv24_holding]
  have hexec : exec (.statusFrame true r) s = .next (releaseField ((s.measureFv24 r.mv).confirm.frameSeen.report r)) := by
    show execStatusFrame true r s = _
    rw [execStatusFrame, Bool.not_true, if_neg Bool.false_ne_true, hreturns]
    rfl
  rw [hexec, releaseField_none ((State.fieldHolds_congr hholding).trans hh)]

/-- What a good status frame leaves where FV24 keeps its level. -/
theorem statusFrame_good {s : State} (hp : s.fieldPresent = true) (hh : s.fieldHolds = false) (r : FieldReport)
    (hl : fv24Level s.fld.level r.mv = s.fld.level) :
    Completes (.statusFrame true r) s fun t =>
      t.fld.goodAt = s.time ∧ t.fld.sent = [] ∧ t.fld.own = s.fld.sent.foldl State.applyWrite s.fld.own ∧
      t.fld.trips = 0 ∧ t.fld.crossings = [] := by
  obtain ⟨hreport, htrips, hcross⟩ := State.report_shows (s.measureFv24 r.mv).confirm.frameSeen r
  have hsent : (s.measureFv24 r.mv).fld.sent = s.fld.sent := by rw [State.measureFv24_same hl]
  have hown : (s.measureFv24 r.mv).fld.own = s.fld.own := by rw [State.measureFv24_same hl]
  rw [State.frameSeen_confirmed, State.confirm_confirmed, hsent, hown, State.confirm_time, State.measureFv24_time] at hreport
  obtain ⟨hgood, hnone, hheld⟩ := FieldIO.of_confirmed hreport
  exact ⟨_, exec_statusFrame_good hp hh r, hgood, hnone, hheld, htrips, hcross⟩

/-! ### Absence (R380, R398) -/

/-- A reported crossing shows the level that FV24 has now, and leaves the list of writes that wait. -/
theorem State.reportCrossing_shows {s : State} (h : s.Sane) (x : Nat × Nat × Nat) :
    (s.reportCrossing x).rd 1 Reg.F_FSUP_STAT_LEVEL = x.2.1 % 2 ^ Reg.F_FSUP_STAT_LEVEL.width ∧
    (s.reportCrossing x).fld.waiting = s.fld.waiting := by
  unfold State.reportCrossing
  extract_lets +onlyGivenNames s1 f s2
  have h0 : (s.wr 1 Reg.F_FSUP_LAST_LO_US (x.2.2 % 2 ^ 32)).Sane := h.wr ..
  have h2 : s2.Sane := h0.wr ..
  have hlevel : s2.rd 1 Reg.F_FSUP_STAT_LEVEL = x.2.1 % 2 ^ Reg.F_FSUP_STAT_LEVEL.width :=
    (State.rd_congr rfl ..).trans (State.rd_wr_same h0 ..)
  have hwaiting : s2.fld.waiting = s.fld.waiting := rfl
  clear_value s2
  have h3 : (s2.inc 1 Reg.F_FSUP_CROSSINGS_COUNT).Sane := (State.inc_moves ..).sane h2
  have h4 := (State.irq_moves (s2.inc 1 Reg.F_FSUP_CROSSINGS_COUNT) 1 5 0).sane h3
  constructor
  · rw [State.archive_rd ((State.raiseCause_moves ..).sane h4) _ _ _ _ _ (by decide) (by decide) (by decide),
      (State.raiseCause_moves ..).rd h4 1 Reg.F_FSUP_STAT_LEVEL, State.irq_rd h3 (by decide), State.inc_rd h2 (by decide), hlevel]
  · rw [((State.archive_moves ..).part .fld : (State.archive ..).fld = _), ((State.raiseCause_moves ..).part .fld : _ = _)]
    exact hwaiting

/-- The registers that show the Field die present, and a push or a pull, cleared. -/
def State.presenceCleared (s : State) : State :=
  let s := ((s.wr 0 Reg.FPX_STAT_PRESENT 0).irq 0 0x25 0).wr 1 Reg.F_SYS_STAT_RUNNING 0
  (s.wr 0 Reg.FPX_STAT_PUSHING 0).wr 0 Reg.FPX_STAT_PULLING 0

/-- The state without the Field die, from which the loss of FV24 is reported. -/
def State.fieldGone (s : State) : State :=
  { s.presenceCleared with fieldStale := 0xFF, fld := { s.fld with waiting := [], sent := [], known := 0, runs := [] } }

theorem State.fieldGone_present {s : State} (h : s.Sane) : s.fieldGone.Sane ∧ s.fieldGone.fieldPresent = false := by
  have h1 : (s.wr 0 Reg.FPX_STAT_PRESENT 0).Sane := h.wr ..
  have h2 := (State.irq_moves (s.wr 0 Reg.FPX_STAT_PRESENT 0) 0 0x25 0).sane h1
  have h3 := h2.wr 1 Reg.F_SYS_STAT_RUNNING 0
  have h4 := h3.wr 0 Reg.FPX_STAT_PUSHING 0
  have hread : s.presenceCleared.rd 0 Reg.FPX_STAT_PRESENT = 0 := by
    rw [State.presenceCleared, State.rd_wr_other h4, State.rd_wr_other h3, State.rd_wr_other h2, State.irq_rd h1 (by decide),
      State.rd_wr_same h]
    rfl
  refine ⟨h4.wr 0 Reg.FPX_STAT_PULLING 0, ?_⟩
  show (s.presenceCleared.rd 0 Reg.FPX_STAT_PRESENT == 1) = false
  rw [hread]
  rfl

theorem State.fieldGone_holding (s : State) : s.fieldGone.holding = s.holding := rfl

theorem State.reportCrossing_holding (s : State) (x : Nat × Nat × Nat) : (s.reportCrossing x).holding = s.holding :=
  (State.reportCrossing_moves s x).part .holding

/-- The absence of the Field die with nothing held. -/
theorem exec_fieldAbsent {s : State} (hp : s.fieldPresent = true) (hh : s.fieldHolds = false) :
    exec .fieldAbsent s = .next
      (s.fieldGone.reportCrossing (s.fieldGone.rd 1 Reg.F_FSUP_STAT_LEVEL, 4, s.fieldGone.fld.goodAt / 1000)) := by
  have hexec : exec .fieldAbsent s = .next (releaseField
      (s.fieldGone.reportCrossing (s.fieldGone.rd 1 Reg.F_FSUP_STAT_LEVEL, 4, s.fieldGone.fld.goodAt / 1000))) := by
    show execFieldAbsent s = _
    rw [execFieldAbsent, if_pos hp]
    rfl
  rw [hexec, releaseField_none ((State.fieldHolds_congr ((State.reportCrossing_holding ..).trans s.fieldGone_holding)).trans hh)]

/-- What the absence of the Field die leaves. -/
theorem fieldAbsent_acts {s : State} (h : s.Sane) (hp : s.fieldPresent = true) (hh : s.fieldHolds = false) :
    Completes .fieldAbsent s fun t =>
      t.fieldPresent = false ∧ t.fieldStale = 0xFF ∧ t.fld.waiting = [] ∧ t.fld.sent = [] ∧
      t.rd 1 Reg.F_FSUP_STAT_LEVEL = 4 := by
  obtain ⟨hgone, habsent⟩ := State.fieldGone_present h
  have hstale : s.fieldGone.fieldStale = 0xFF := rfl
  have hwaiting : s.fieldGone.fld.waiting = [] := rfl
  have hsent : s.fieldGone.fld.sent = [] := rfl
  have hexec := exec_fieldAbsent hp hh
  generalize s.fieldGone = u at hgone habsent hstale hwaiting hsent hexec
  obtain ⟨hlevel, hkept⟩ := State.reportCrossing_shows hgone (u.rd 1 Reg.F_FSUP_STAT_LEVEL, 4, u.fld.goodAt / 1000)
  have hmoves := State.reportCrossing_moves u (u.rd 1 Reg.F_FSUP_STAT_LEVEL, 4, u.fld.goodAt / 1000)
  exact ⟨_, hexec, (hmoves.on hgone 0 Reg.FPX_STAT_PRESENT).trans habsent, (hmoves.part .fieldStale).trans hstale,
    hkept.trans hwaiting, (congrArg (·.2.1) (State.reportCrossing_confirmed u _)).trans hsent, hlevel⟩

/-! ### Power-up of the Field die (R64, R380, R394) -/

/-- The Field die as its own power-up leaves it. -/
def State.fieldFresh (s : State) (mv : Nat) : State :=
  { s with fld := { s.fld with
    pullDue := false, own := [], armed := false, armDue := false, safeHeld := false, safeExpired := false, silent := false
    flow := false, silences := 0, relDo := 0, relAo := [], standby := false, trim := [], trimEnds := 0, shorts := 0, opens := 0
    thermals := 0, loopFaults := 0, trips := 0, level := fv24Level 3 mv, minMv := mv, crossings := [], goodAt := s.time } }

/-- The registers that show a push to a Field die that has powered up. -/
def State.pushShown (s : State) : State :=
  let s := ((s.wr 0 Reg.FPX_STAT_PULLING 0).wr 0 Reg.FPX_STAT_PUSHING 1).inc 0 Reg.FPX_POWERUPS_COUNT
  (s.wr2 1 Reg.F_SYS_POWERUP_LO_NS Reg.F_SYS_POWERUP_HI_NS s.time).wr 1 Reg.F_SYS_STAT_FRESH 1

/-- Every Field page stale, and no write on its way. -/
def State.allStale (s : State) : State := { s with fieldStale := 0xFF, fld := { s.fld with waiting := [], sent := [] } }

/-- What the Field die holds of its own: its configuration, whether it is armed, its level of FV24. -/
def FieldIO.ownState (f : FieldIO) : SMap Nat × Bool × Nat := (f.own, f.armed, f.level)

theorem FieldIO.of_ownState {f : FieldIO} {own : SMap Nat} {armed : Bool} {level : Nat} (h : f.ownState = (own, armed, level)) :
    f.own = own ∧ f.armed = armed ∧ f.level = level :=
  ⟨congrArg Prod.fst h, congrArg (·.2.1) h, congrArg (·.2.2) h⟩

theorem State.fieldFresh_ownState (s : State) (mv : Nat) : (s.fieldFresh mv).fld.ownState = ([], false, fv24Level 3 mv) := rfl

theorem State.pushShown_fld (s : State) : s.pushShown.fld = s.fld := rfl

theorem State.allStale_ownState (s : State) : s.allStale.fld.ownState = s.fld.ownState := rfl

theorem State.drive_ownState (s : State) : s.drive.fld.ownState = s.fld.ownState :=
  (congrArg FieldIO.ownState s.drive_fld).trans rfl

theorem State.fieldFresh_holding (s : State) (mv : Nat) : (s.fieldFresh mv).holding = s.holding := rfl

theorem State.fieldReturns_holding (s : State) : s.fieldReturns.holding = s.holding := (State.fieldReturns_moves s).part .holding

theorem State.pushShown_holding (s : State) : s.pushShown.holding = s.holding := rfl

theorem State.allStale_holding (s : State) : s.allStale.holding = s.holding := rfl

theorem State.drive_holding (s : State) : s.drive.holding = s.holding := (State.drive_moves s).part .holding

/-- After its return the Field die is present, with what it holds of its own. -/
theorem State.fieldReturns_shows {s : State} (h : s.Sane) :
    s.fieldReturns.fieldPresent = true ∧ s.fieldReturns.fld.ownState = s.fld.ownState := by
  unfold State.fieldReturns
  split
  case isTrue hp => exact ⟨hp, rfl⟩
  case isFalse =>
    extract_lets +onlyGivenNames s1 s2
    have h0 : (s.wr 0 Reg.FPX_STAT_PRESENT 1).Sane := h.wr ..
    have hirq := (State.irq_moves (s.wr 0 Reg.FPX_STAT_PRESENT 1) 0 0x25 0).sane h0
    have h1 : s1.Sane := hirq.wr ..
    have hread : s1.rd 0 Reg.FPX_STAT_PRESENT = 1 :=
      (State.rd_wr_other hirq _).trans ((State.irq_rd h0 (by decide)).trans (State.rd_wr_same h ..))
    have hfld : s1.fld = s.fld := rfl
    clear_value s1
    have hs2 : s2.rd 0 Reg.FPX_STAT_PRESENT = s1.rd 0 Reg.FPX_STAT_PRESENT ∧ s2.fld = s1.fld := by
      dsimp only [s2]
      split
      · exact ⟨State.rd_wr_other h1 _, rfl⟩
      · exact ⟨State.rd_wr_other h1 _, rfl⟩
    clear_value s2
    obtain ⟨hread2, hfld2⟩ := hs2
    exact ⟨beq_iff_eq.mpr (hread2.trans hread), s2.allStale_ownState.trans (congrArg FieldIO.ownState (hfld2.trans hfld))⟩

/-- A push leaves the presence of the Field die, and shows on the pages `FPX` and `F/SYS`. -/
theorem State.pushShown_shows {s : State} (h : s.Sane) :
    s.pushShown.Sane ∧ s.pushShown.rd 0 Reg.FPX_STAT_PRESENT = s.rd 0 Reg.FPX_STAT_PRESENT ∧
    s.pushShown.rd 0 Reg.FPX_STAT_PUSHING = 1 ∧ s.pushShown.rd 0 Reg.FPX_STAT_PULLING = 0 ∧
    s.pushShown.rd 1 Reg.F_SYS_STAT_FRESH = 1 := by
  unfold State.pushShown
  extract_lets +onlyGivenNames s3
  have h1 : (s.wr 0 Reg.FPX_STAT_PULLING 0).Sane := h.wr ..
  have h2 := h1.wr 0 Reg.FPX_STAT_PUSHING 1
  have h3 : s3.Sane := (State.inc_moves ..).sane h2
  have hpresent : s3.rd 0 Reg.FPX_STAT_PRESENT = s.rd 0 Reg.FPX_STAT_PRESENT := by
    rw [State.inc_rd h2 (by decide), State.rd_wr_other h1, State.rd_wr_other h]
  have hpushing : s3.rd 0 Reg.FPX_STAT_PUSHING = 1 := (State.inc_rd h2 (by decide)).trans (State.rd_wr_same h1 ..)
  have hpulling : s3.rd 0 Reg.FPX_STAT_PULLING = 0 := by
    rw [State.inc_rd h2 (by decide), State.rd_wr_other h1, State.rd_wr_same h]
    rfl
  clear_value s3
  have hmoves := State.wr2_moves s3 1 Reg.F_SYS_POWERUP_LO_NS Reg.F_SYS_POWERUP_HI_NS s3.time
  have h4 := hmoves.sane h3
  refine ⟨h4.wr .., ?_, ?_, ?_, State.rd_wr_same h4 ..⟩
  · rw [State.rd_wr_other h4, hmoves.rd h3 0 Reg.FPX_STAT_PRESENT, hpresent]
  · rw [State.rd_wr_other h4, hmoves.rd h3 0 Reg.FPX_STAT_PUSHING, hpushing]
  · rw [State.rd_wr_other h4, hmoves.rd h3 0 Reg.FPX_STAT_PULLING, hpulling]

/-- The push of the whole proxy to a Field die that has powered up. -/
def State.pushAgain (s : State) : State := s.pushShown.allStale.drive

/-- What the start of a push shows. -/
theorem State.pushAgain_shows {s : State} (h : s.Sane) (hp : s.fieldPresent = true) :
    s.pushAgain.fieldPresent = true ∧ s.pushAgain.on 0 Reg.FPX_STAT_PUSHING = true ∧
    s.pushAgain.on 0 Reg.FPX_STAT_PULLING = false ∧ s.pushAgain.on 1 Reg.F_SYS_STAT_FRESH = true ∧
    s.pushAgain.fieldStale = 0xFF := by
  obtain ⟨hsane, hpresent, hpushing, hpulling, hfresh⟩ := State.pushShown_shows h
  unfold State.pushAgain
  generalize s.pushShown = u at hsane hpresent hpushing hpulling hfresh
  have hu : u.allStale.Sane := hsane
  have hmoves := State.drive_moves u.allStale
  have hrd (die : Nat) (f : FieldDef) : u.allStale.rd die f = u.rd die f := State.rd_congr rfl ..
  refine ⟨?_, ?_, ?_, ?_, hmoves.part .fieldStale⟩
  · rw [State.fieldPresent, hmoves.on hu 0 Reg.FPX_STAT_PRESENT, State.on, hrd, hpresent]
    exact hp
  · rw [hmoves.on hu 0 Reg.FPX_STAT_PUSHING, State.on, hrd, hpushing]
    rfl
  · rw [hmoves.on hu 0 Reg.FPX_STAT_PULLING, State.on, hrd, hpulling]
    rfl
  · rw [hmoves.on hu 1 Reg.F_SYS_STAT_FRESH, State.on, hrd, hfresh]
    rfl

/-- A power-up of the Field die with nothing held. -/
theorem exec_fieldPowerup {s : State} (hh : s.fieldHolds = false) (mv : Nat) :
    exec (.fieldPowerup mv) s = .next (s.fieldFresh mv).fieldReturns.pushAgain := by
  have hholding : (s.fieldFresh mv).fieldReturns.pushAgain.holding = s.holding := by
    rw [State.pushAgain, State.drive_holding, State.allStale_holding, State.pushShown_holding, State.fieldReturns_holding,
      State.fieldFresh_holding]
  have hexec : exec (.fieldPowerup mv) s = .next (releaseField (s.fieldFresh mv).fieldReturns.pushAgain) := rfl
  rw [hexec, releaseField_none ((State.fieldHolds_congr hholding).trans hh)]

/-- What a power-up of the Field die leaves. -/
theorem fieldPowerup_acts {s : State} (h : s.Sane) (hh : s.fieldHolds = false) (mv : Nat) :
    Completes (.fieldPowerup mv) s fun t =>
      t.fieldPresent = true ∧ t.on 0 Reg.FPX_STAT_PUSHING = true ∧ t.on 0 Reg.FPX_STAT_PULLING = false ∧
      t.on 1 Reg.F_SYS_STAT_FRESH = true ∧ t.fieldStale = 0xFF ∧ t.fld.own = [] ∧ t.fld.armed = false ∧
      t.fld.level = fv24Level 3 mv := by
  have hfresh : (s.fieldFresh mv).Sane := h
  obtain ⟨hpresent, hkept⟩ := State.fieldReturns_shows hfresh
  obtain ⟨hp, hpushing, hpulling, hon, hstale⟩ := State.pushAgain_shows ((State.fieldReturns_moves ..).sane hfresh) hpresent
  have hall : (s.fieldFresh mv).fieldReturns.pushAgain.fld.ownState = ([], false, fv24Level 3 mv) := by
    rw [State.pushAgain, State.drive_ownState, State.allStale_ownState, State.pushShown_fld, hkept, State.fieldFresh_ownState]
  obtain ⟨hown, harmed, hlevel⟩ := FieldIO.of_ownState hall
  exact ⟨_, exec_fieldPowerup hh mv, hp, hpushing, hpulling, hon, hstale, hown, harmed, hlevel⟩

/-! ### The ends of a push and of a pull (R380) -/

/-- The registers that show the end of a push. -/
def State.pushEnded (s : State) : State := (s.wr 0 Reg.FPX_STAT_PUSHING 0).wr 1 Reg.F_SYS_STAT_FRESH 0

/-- The Field die holds the whole proxy. -/
def State.proxyTaken (s : State) : State :=
  { s with fieldStale := s.pendingPages, fld := { s.fld with own := s.proxyFields } }

theorem State.pushEnded_pending (s : State) : s.pushEnded.pendingPages = s.pendingPages := rfl

theorem exec_proxyPushEnd {s : State} (hp : s.on 0 Reg.FPX_STAT_PUSHING = true) :
    exec .proxyPushEnd s = .next s.pushEnded.proxyTaken.drive := by
  show execProxyPushEnd s = _
  rw [execProxyPushEnd, if_pos hp]
  rfl

/-- What the end of a push leaves. -/
theorem proxyPushEnd_acts {s : State} (h : s.Sane) (hp : s.on 0 Reg.FPX_STAT_PUSHING = true) :
    Completes .proxyPushEnd s fun t => t.on 0 Reg.FPX_STAT_PUSHING = false ∧ t.on 1 Reg.F_SYS_STAT_FRESH = false ∧
      t.fieldStale = s.pendingPages := by
  have h1 : (s.wr 0 Reg.FPX_STAT_PUSHING 0).Sane := h.wr ..
  have hpushing : s.pushEnded.rd 0 Reg.FPX_STAT_PUSHING = 0 := (State.rd_wr_other h1 0).trans (State.rd_wr_same h ..)
  have hfresh : s.pushEnded.rd 1 Reg.F_SYS_STAT_FRESH = 0 := State.rd_wr_same h1 ..
  have hsane : s.pushEnded.proxyTaken.Sane := h1.wr 1 Reg.F_SYS_STAT_FRESH 0
  have hpending := s.pushEnded_pending
  have hexec := exec_proxyPushEnd hp
  generalize s.pushEnded = u at hpushing hfresh hsane hpending hexec
  have hrd (die : Nat) (f : FieldDef) : u.proxyTaken.rd die f = u.rd die f := State.rd_congr rfl ..
  have hmoves := State.drive_moves u.proxyTaken
  refine ⟨_, hexec, ?_, ?_, Eq.trans (hmoves.part .fieldStale) hpending⟩
  · rw [hmoves.on hsane 0 Reg.FPX_STAT_PUSHING, State.on, hrd, hpushing]
    rfl
  · rw [hmoves.on hsane 1 Reg.F_SYS_STAT_FRESH, State.on, hrd, hfresh]
    rfl

/-- What the end of a pull leaves. -/
theorem proxyPullEnd_acts {s : State} (hp : s.on 0 Reg.FPX_STAT_PULLING = true) :
    Completes .proxyPullEnd s fun t => t.fld.pullDue = false ∧ t.fieldStale = s.pendingPages := by
  have hexec : exec .proxyPullEnd s = execProxyPullEnd s := rfl
  rw [execProxyPullEnd, if_pos hp] at hexec
  exact ⟨_, hexec, rfl, rfl⟩

/-! ### The latched reading of a crossing (R408) -/

/-- A read of `F/FSUP.LAST_LO` that reaches its page. -/
theorem exec_fsupLastRead {s : State} {w : Who} (hr : s.reaches w 0 = true) :
    exec (.fsupLastRead w) s = .next ((fsupLatch s).reply w.code (s.readWord w.code 1 5 0x104) false) := by
  show execFsupLastRead w s = _
  rw [execFsupLastRead, State.reading, State.barred_reaches hr]
  dsimp only
  rw [State.stalled_reaches hr, if_neg Bool.false_ne_true]

/-- The latch holds the instant and both levels of the last crossing. -/
theorem fsupLatch_shows {s : State} (h : s.Sane) :
    (fsupLatch s).rd 1 Reg.F_FSUP_LAST_HI_TIME = s.fld.last.1 % 2 ^ Reg.F_FSUP_LAST_HI_TIME.width ∧
    (fsupLatch s).rd 1 Reg.F_FSUP_LAST_HI_FROM = s.fld.last.2.1 % 2 ^ Reg.F_FSUP_LAST_HI_FROM.width ∧
    (fsupLatch s).rd 1 Reg.F_FSUP_LAST_HI_TO = s.fld.last.2.2 % 2 ^ Reg.F_FSUP_LAST_HI_TO.width := by
  have h1 : (s.wr 1 Reg.F_FSUP_LAST_HI_TIME s.fld.last.1).Sane := h.wr ..
  have h2 := h1.wr 1 Reg.F_FSUP_LAST_HI_FROM s.fld.last.2.1
  exact ⟨(State.rd_wr_other h2 _).trans ((State.rd_wr_other h1 _).trans (State.rd_wr_same h ..)),
    (State.rd_wr_other h2 _).trans (State.rd_wr_same h1 ..), State.rd_wr_same h2 ..⟩

/-- What a read of `F/FSUP.LAST_LO` leaves and answers. -/
theorem fsupLastRead_acts {s : State} (h : s.Sane) {w : Who} (hr : s.reaches w 0 = true) :
    Completes (.fsupLastRead w) s fun t =>
      t.rd 1 Reg.F_FSUP_LAST_HI_TIME = s.fld.last.1 % 2 ^ Reg.F_FSUP_LAST_HI_TIME.width ∧
      t.rd 1 Reg.F_FSUP_LAST_HI_FROM = s.fld.last.2.1 % 2 ^ Reg.F_FSUP_LAST_HI_FROM.width ∧
      t.rd 1 Reg.F_FSUP_LAST_HI_TO = s.fld.last.2.2 % 2 ^ Reg.F_FSUP_LAST_HI_TO.width ∧
      SMap.find? t.replies w.code = some ⟨s.readWord w.code 1 5 0x104, false⟩ := by
  obtain ⟨htime, hfrom, hto⟩ := fsupLatch_shows h
  exact ⟨_, exec_fsupLastRead hr, htime, hfrom, hto, SMap.find?_insert_same ..⟩

/-- Settles O13: a report keeps the confirmations (`State.report_shows`), and each other event is a few register writes, after
which the drive of the outputs and the report of a crossing leave the registers claimed. -/
theorem fieldFramesKeepTheProxy : Obligations.FieldFramesKeepTheProxy := by
  intro s h
  exact ⟨statusFrame_bad h, fun r hp hh hl => statusFrame_good hp hh r hl, fieldAbsent_acts h,
    fun mv hh => fieldPowerup_acts h hh mv, proxyPushEnd_acts h, proxyPullEnd_acts, fun _ hr => fsupLastRead_acts h hr⟩

end Sys2Proof.Machine
end

section
/-! SUPPORT.  The instants of a frame: what the tick, the Cut copy, the Spread and its deadline, and the Commit sample leave (R66,
R71 to R73, R76, R178). -/

open Sys2Proof Sys2Proof.Machine Sys2Proof.Bits
namespace Sys2Proof.Machine
set_option Elab.async false

/-! ### The tick (R66, R67) -/

/-- The instant and the cycle of a tick are recorded. -/
def State.noteTick (s : State) (t : Nat) : State :=
  { s with frame := { s.frame with tickTime := t, tickCycle := s.cycle, ticked := true } }

/-- The state of a tick in which every die has taken its own tick and no frame has begun yet. -/
def State.dieTicksAt (s : State) (t : Nat) : State :=
  ((((s.tornAtTick.slewTo t).countTick t).noteTick t).linkTick (s.tornAtTick.slewTo t).frameNo).activationAtTick.dieTicks

/-- What a tick does once the dies have taken theirs: a frame begins, and the gates start anew. -/
def State.frameAtTick (s : State) : State := (if s.outage then s else s.beginFrame).gatesAtTick

theorem State.tick_eq (s : State) (t : Nat) : s.tick t = (s.dieTicksAt t).frameAtTick := rfl

theorem State.frameAtTick_moves (s : State) : Moves 0xffffffffffffffff00127dc787217f78 s s.frameAtTick :=
  (Moves.ite .refl (State.beginFrame_moves s)).step (State.gatesAtTick_moves ..)

theorem State.slewTo_time (s : State) (t : Nat) : (s.slewTo t).time = t := by
  unfold State.slewTo
  dsimp only
  split <;> rfl

theorem State.noteTick_time (s : State) (t : Nat) : (s.noteTick t).time = s.time := rfl
theorem State.countTick_time (s : State) (t : Nat) : (s.countTick t).time = s.time := (State.countTick_moves s t).part .time
theorem State.linkTick_time (s : State) (n : Nat) : (s.linkTick n).time = s.time := (State.linkTick_moves s n).part .time
theorem State.dieTicks_time (s : State) : s.dieTicks.time = s.time := (State.dieTicks_moves s).part .time
theorem State.activationAtTick_time (s : State) : s.activationAtTick.time = s.time :=
  (State.activationAtTick_moves s).part .time

theorem State.dieTicksAt_time (s : State) (t : Nat) : (s.dieTicksAt t).time = t := by
  rw [State.dieTicksAt, State.dieTicks_time, State.activationAtTick_time, State.linkTick_time, State.noteTick_time,
    State.countTick_time, State.slewTo_time]

/-- The tick falls at its instant. -/
theorem State.tick_time (s : State) (t : Nat) : (s.tick t).time = t := by
  rw [State.tick_eq]
  exact Eq.trans ((State.frameAtTick_moves (s.dieTicksAt t)).part .time) (s.dieTicksAt_time t)

/-- The tick clears the row records of the frame that ends. -/
theorem State.tick_rows (s : State) (t : Nat) :
    (s.tick t).rowsEnded = [] ∧ (s.tick t).rowsStarted = [] ∧ (s.tick t).rowsDone = [] := by
  have hmoves := State.frameAtTick_moves (s.dieTicksAt t)
  rw [State.tick_eq]
  exact ⟨hmoves.part .rowsEnded, hmoves.part .rowsStarted, hmoves.part .rowsDone⟩

/-- What the tick command leaves. -/
theorem tick_acts {s : State} (hheld : s.aon.held = none) (hasleep : s.aon.asleep = false) :
    Completes .tick s fun t => t.time = s.firstTick s.tickFrom ∧ t.rowsEnded = [] ∧ t.rowsStarted = [] ∧ t.rowsDone = [] := by
  have hexec : exec .tick s = .next (s.tick (s.firstTick s.tickFrom)) := by
    show execTick s = _
    rw [execTick, hheld, hasleep]
    rfl
  exact ⟨_, hexec, State.tick_time .., State.tick_rows ..⟩

/-! ### The end of the Cut copy (R71) -/

/-- The copies held in K-LINE written, with what that leaves beside memory. -/
def State.heldWritten (s : State) : State :=
  let u := s.advanceTo (s.frame.tickCycle + 5120)
  s.exch.copies.foldl State.writeCopy
    { u with exch := { u.exch with copies := [] }, frame := { u.frame with cutCopy := false } }

theorem State.heldWritten_shows {s : State} (h : s.Sane) : s.heldWritten.Sane ∧ s.heldWritten.exch.copies = [] ∧
    s.heldWritten.frame.cutCopy = false ∧ s.heldWritten.cycle = max s.cycle (s.frame.tickCycle + 5120) := by
  let u := s.advanceTo (s.frame.tickCycle + 5120)
  have hmoves : Moves 0x80000000028 { u with exch := { u.exch with copies := [] }, frame := { u.frame with cutCopy := false } }
      s.heldWritten := Moves.foldl (fun _ _ => Moves.sub (State.writeCopy_moves ..)) .refl
  have hexch := hmoves.part .exch
  have hframe := hmoves.part .frame
  exact ⟨hmoves.sane h, congrArg Exch.copies hexch, congrArg Frame.cutCopy hframe, hmoves.part .cycle⟩

/-- What the end of the Cut copy leaves. -/
theorem cutCopyEnd_acts {s : State} (h : s.Sane) (hc : s.frame.cutCopy = true) :
    Completes .cutCopyEnd s fun t =>
      t.frame.cutCopy = false ∧ t.exch.copies = [] ∧ t.on 0 Reg.XCHG_STAT_CUT = false ∧
      t.rd 0 Reg.XCHG_CUT_LAST_CYCLES = 5120 ∧ t.cycle = max s.cycle (s.frame.tickCycle + 5120) := by
  obtain ⟨hsane, hcopies, hcut, hcycle⟩ := State.heldWritten_shows h
  have hexec : exec .cutCopyEnd s =
      .next (((s.heldWritten.wr 0 Reg.XCHG_STAT_CUT 0).wr 0 Reg.XCHG_CUT_LAST_CYCLES 5120).mirrorOpen) := by
    show execCutCopyEnd s = _
    rw [execCutCopyEnd, if_pos hc]
    rfl
  have h1 := hsane.wr 0 Reg.XCHG_STAT_CUT 0
  have h2 := h1.wr 0 Reg.XCHG_CUT_LAST_CYCLES 5120
  have hmoves := State.mirrorOpen_moves ((s.heldWritten.wr 0 Reg.XCHG_STAT_CUT 0).wr 0 Reg.XCHG_CUT_LAST_CYCLES 5120)
  refine ⟨_, hexec, (congrArg Frame.cutCopy (hmoves.part .frame)).trans hcut,
    (congrArg Exch.copies (hmoves.part .exch)).trans hcopies, ?_, ?_, Eq.trans (hmoves.part .cycle) hcycle⟩
  · have hzero := (State.rd_wr_other h1 (die := 0) (e := 0) (f := Reg.XCHG_CUT_LAST_CYCLES) 5120).trans
      (State.rd_wr_same hsane 0 Reg.XCHG_STAT_CUT 0)
    rw [hmoves.on h2 0 Reg.XCHG_STAT_CUT, State.on, hzero]
    rfl
  · rw [hmoves.rd h2 0 Reg.XCHG_CUT_LAST_CYCLES, State.rd_wr_same h1]
    rfl

/-! ### The Spread and its deadline (R72, R73) -/

/-- Commit-ready leaves the Spread's own marks. -/
theorem State.raiseReady_spread {s : State} (h : s.Sane) (die c : Nat) :
    (s.raiseReady die c).on die Reg.PLAT_STAT_SPREAD_DONE = s.on die Reg.PLAT_STAT_SPREAD_DONE ∧
    (s.raiseReady die c).frame.spreadDone = s.frame.spreadDone := by
  have hon : (s.wrB die Reg.PLAT_STAT_READY true).on die Reg.PLAT_STAT_SPREAD_DONE = s.on die Reg.PLAT_STAT_SPREAD_DONE :=
    congrArg (· == 1) (State.rd_wr_other h 1)
  unfold State.raiseReady
  dsimp only
  split
  · split
    · exact ⟨hon, rfl⟩
    · exact ⟨hon, rfl⟩
  · exact ⟨rfl, rfl⟩

/-- What the end of the Spread to a die marks. -/
theorem State.endSpread_shows {s : State} (h : s.Sane) {d : Nat} (hd : isScan d = true) :
    (s.endSpread d).on d Reg.PLAT_STAT_SPREAD_DONE = true ∧ inDies (s.endSpread d).frame.spreadDone d = true := by
  unfold State.endSpread
  extract_lets words s1 s2 s3 s4 s5 s6 s7 s8
  have h5 : s5.Sane := by
    have h2 : s2.Sane := (Moves.foldl (fun _ _ => State.spreadWord_moves ..) .refl).sane h
    have h3 : s3.Sane := (Moves.foldl (fun _ _ => State.storeQuiet_moves ..) .refl).sane h2
    exact (((State.storeQuiet_moves ..).trans (State.storeQuiet_moves ..)).trans (State.storeQuiet_moves ..)).sane h3
  clear_value s5
  have h6a := h5.wr d Reg.PLAT_STAT_SPREAD_DONE 1
  have h6 : s6.Sane := h6a.wr ..
  have h7 : s7.Sane := h6.wr ..
  have h8 : s8.Sane := (State.routerEdge_moves ..).sane (h7.wr ..)
  have hdone : s8.rd d Reg.PLAT_STAT_SPREAD_DONE = 1 :=
    calc s8.rd d Reg.PLAT_STAT_SPREAD_DONE
      _ = (s7.irq d 0x0D 0).rd d Reg.PLAT_STAT_SPREAD_DONE := (State.routerEdge_moves ..).rd (h7.wr ..) d Reg.PLAT_STAT_SPREAD_DONE
      _ = s7.rd d Reg.PLAT_STAT_SPREAD_DONE := State.irq_rd h7 (by decide)
      _ = s6.rd d Reg.PLAT_STAT_SPREAD_DONE := State.rd_wr_other h6 _
      _ = _ := State.rd_wr_other h6a _
      _ = 1 := State.rd_wr_same h5 ..
  clear_value s8
  have hmarked : Moves 0x10000 s8 { s8 with frame := { s8.frame with spreadDone := s8.frame.spreadDone ||| dieBit d } } :=
    Moves.set_16 .refl
  obtain ⟨hon, hframe⟩ := State.raiseReady_spread (hmarked.sane h8) d s8.cycle
  refine ⟨hon.trans (congrArg (· == 1) hdone), ?_⟩
  rw [hframe]
  show inDies (s8.frame.spreadDone ||| dieBit d) d = true
  rw [inDies_or_dieBit hd]
  simp

/-- What the end of a Spread leaves. -/
theorem spreadEnd_acts {s : State} (h : s.Sane) {die : Nat} (ht : s.frame.ticked = true) (ho : s.outage = false)
    (hl : s.live die = true) (hk : s.clocked die = true) (ha : s.absentDie die = false)
    (hdone : inDies s.frame.spreadDone die = false) (hs : s.standby = false) :
    Completes (.spreadEnd die) s fun t =>
      t.on die Reg.PLAT_STAT_SPREAD_DONE = true ∧ inDies t.frame.spreadDone die = true := by
  have hd : isScan die = true := by
    unfold State.live at hl
    exact (Bool.and_eq_true _ _ ▸ hl).1
  have hexec : exec (.spreadEnd die) s = .next (s.endSpread die) := by
    show execSpreadEnd die s = _
    rw [execSpreadEnd, if_pos (by simp only [ht, ho, hl, hk, ha, hdone, hs]; rfl)]
  exact ⟨_, hexec, State.endSpread_shows h hd⟩

/-- A global time that the clock is moved to is reached. -/
theorem State.advanceTime_reaches (s : State) (t : Nat) : t ≤ (s.advanceTime t).time := by
  rw [State.advanceTime, State.advanceTo_time]
  omega

/-- The dies that the Spread deadline finds late. -/
def State.lateSpreads (s : State) : Nat :=
  maskOf ((scanDies.filter fun d => s.live d && !inDies s.frame.spreadDone d).map (· - 2))

/-- What the Spread deadline leaves. -/
theorem spreadByDeadline_acts {s : State} (hr : s.rowsRun = true) :
    Completes .spreadByDeadline s fun t =>
      t.frame.late = s.frame.late ||| s.lateSpreads ∧ s.frame.tickTime + 1000 * s.rd 0 Reg.FWATCH_SPREAD_BY_US ≤ t.time := by
  let u := s.advanceTime (s.frame.tickTime + 1000 * s.rd 0 Reg.FWATCH_SPREAD_BY_US)
  have hexec : exec .spreadByDeadline s = .next (if s.lateSpreads = 0 then u
      else { u with frame := { u.frame with late := u.frame.late ||| s.lateSpreads } }.irq 0 0x0B 1) := by
    show execSpreadByDeadline s = _
    rw [execSpreadByDeadline, if_pos hr]
    rfl
  have htime := s.advanceTime_reaches (s.frame.tickTime + 1000 * s.rd 0 Reg.FWATCH_SPREAD_BY_US)
  refine ⟨_, hexec, ?_⟩
  split
  · next hzero => exact ⟨by rw [hzero, Nat.or_zero]; rfl, htime⟩
  · exact ⟨rfl, htime⟩

end Sys2Proof.Machine
end

section
/-! SUPPORT.  The Commit sample: what each mode of the frame makes of it (R76, R97, R178). -/

open Sys2Proof Sys2Proof.Machine Sys2Proof.Bits
namespace Sys2Proof.Machine
set_option Elab.async false

/-! ### A request and the dies missing -/

/-- Whether a request is due depends on the clock, the request and its register. -/
theorem State.requestDue_congr {s t : State} (hon : t.on 0 Reg.MODE_STAT_PENDING = s.on 0 Reg.MODE_STAT_PENDING)
    (hprog : t.prog = s.prog) (hcycle : t.cycle = s.cycle) : t.requestDue = s.requestDue := by
  unfold State.requestDue
  rw [hon, hprog, hcycle]

/-! ### A forced Stop (R97) -/

/-- The reasons that a forced Stop stores and logs, and the dies that it finds lost. -/
def State.stopNoted (s : State) (m : Nat) : State :=
  let c := s.missingCode m
  let s := (s.wr 0 Reg.FWATCH_CAUSE_CODE c).wr 0 Reg.FWATCH_CAUSE_DIES m
  let s := (s.wr2 0 Reg.FWATCH_FRAME_LO_N Reg.FWATCH_FRAME_HI_N s.frameNo).inc 0 Reg.FWATCH_OVERRUNS_COUNT
  let s := (s.irq 0 0x0B 0).archive 0x0B 0 .fault [c, m, s.frameNo % 2 ^ 32]
  if c = 4 then (scanDies.filter fun d => inDies m d && s.live d && s.absentDie d).foldl failDie s else s

theorem State.forceStop_eq (s : State) (m : Nat) : s.forceStop m =
    (({ (s.stopNoted m).enterStop 2 with forcedStop := true } : State).yieldOn (s.missingCode m)).startSafe := rfl

theorem State.stopNoted_moves (s : State) (m : Nat) : Moves 0xffffffffffffffff0000080000000238 s (s.stopNoted m) := by
  unfold State.stopNoted
  extract_lets +onlyGivenNames c s1 s2 s3
  have h1 : Moves 0xffffffffffffffff0000080000000238 s s1 :=
    (Moves.sub (State.wr_moves_any ..)).step (State.wr_moves_any ..)
  clear_value s1
  have h2 : Moves 0xffffffffffffffff0000080000000238 s s2 :=
    (h1.step (State.wr2_moves ..) (Moves.at 11 rfl)).step (State.inc_moves ..) (Moves.at 11 rfl)
  clear_value s2
  have h3 : Moves 0xffffffffffffffff0000080000000238 s s3 := (h2.step (State.irq_moves_any ..)).step (State.archive_moves ..)
  clear_value s3
  exact Moves.ite (Moves.foldl (fun _ _ => Moves.sub (State.failDie_moves ..)) h3) h3

/-- A forced Stop starts the Safe copy. -/
theorem State.forceStop_shows (s : State) (m : Nat) :
    (s.forceStop m).frame = { s.frame with safeCopy := true, flag := 0x40 } ∧ (s.forceStop m).forcedStop = true := by
  rw [State.forceStop_eq]
  have hyield := State.yieldOn_moves { (s.stopNoted m).enterStop 2 with forcedStop := true } (s.missingCode m)
  have hframe := calc (State.yieldOn { (s.stopNoted m).enterStop 2 with forcedStop := true } (s.missingCode m)).frame
    _ = ((s.stopNoted m).enterStop 2).frame := hyield.part .frame
    _ = (s.stopNoted m).frame := (State.enterStop_moves ..).part .frame
    _ = s.frame := (s.stopNoted_moves m).part .frame
  exact ⟨congrArg (fun f : Frame => { f with safeCopy := true, flag := 0x40 }) hframe, hyield.part .forcedStop⟩

/-! ### The sample by the mode of the frame (R178) -/

/-- The start of the Safe copy leaves the record of the sample. -/
theorem State.enterStop_startSafe_frame (s : State) (cause : Nat) :
    (s.enterStop cause).startSafe.frame = { s.frame with safeCopy := true, flag := 0x40 } :=
  congrArg (fun f : Frame => { f with safeCopy := true, flag := 0x40 }) ((State.enterStop_moves s cause).part .frame)

/-- The release build notes its start. -/
theorem State.startBuild_frame {s : State} (hs : s.standby = false) :
    s.startBuild.frame = { s.frame with build := true, buildAt := s.cycle } := by
  unfold State.startBuild
  rw [if_neg (by rw [hs]; decide)]

theorem State.startBuild_frame_standby {s : State} (hs : s.standby = true) : s.startBuild = s := by
  rw [State.startBuild, if_pos hs]

/-- A sample of a Hold frame leaves the record that the sample was taken. -/
theorem State.sampleHold_sampled (s : State) : s.sampleHold.frame.sampled = s.frame.sampled := by
  unfold State.sampleHold
  split
  · rw [State.enterStop_startSafe_frame]
  · unfold State.startBuild
    split <;> rfl

/-- In Hold the last output image is released again. -/
theorem State.sampleHold_frame {s : State} (hd : s.requestDue = false) (hs : s.standby = false) :
    s.sampleHold.frame = { s.frame with flag := 0x20, build := true, buildAt := s.cycle } := by
  rw [State.sampleHold, if_neg (by rw [hd]; simp)]
  exact State.startBuild_frame (s := { s with frame := { s.frame with flag := 0x20 } }) hs

/-- With every die ready the gather starts, unless the part goes to Stop. -/
theorem State.sampleRun_ready {s : State} (hm : s.missing = 0) :
    s.sampleRun.frame = { s.frame with gather := true, flag := 0x80 } ∨
    (s.sampleRun.frame = { s.frame with safeCopy := true, flag := 0x40 } ∧
      (s.wrMin 0 Reg.FWATCH_MARGIN_CYCLES (s.cycle - s.frame.readyCycle)).requestDue = true) := by
  unfold State.sampleRun
  dsimp only
  rw [if_neg (not_not.mpr hm)]
  split
  · next hstop =>
    obtain ⟨hdue, -⟩ := hstop
    exact .inr ⟨State.enterStop_startSafe_frame .., hdue⟩
  · left
    split
    · exact congrArg (fun f : Frame => { f with gather := true, flag := 0x80 })
        (((State.clearRequest_moves _).step (State.enterMode_moves _ 2)).part .frame)
    · rfl

/-- Every outcome of the sample of a frame that runs rows keeps the record that the sample was taken. -/
theorem State.sampleRun_sampled (s : State) : s.sampleRun.frame.sampled = s.frame.sampled := by
  by_cases hm : s.missing = 0
  · rcases State.sampleRun_ready hm with h | ⟨h, -⟩ <;> rw [h]
  · rw [State.sampleRun, if_pos hm, (State.forceStop_shows ..).1]

/-- The record that the sample of the frame has been taken. -/
def State.noteSample (s : State) : State := { s with frame := { s.frame with sampled := true } }

/-- What the sample does by the mode of the frame. -/
def State.sampleByMode (s : State) : State :=
  if s.standby && s.pair.apply.isNone then s
  else match s.prog.frameMode with
    | 1 | 3 => s.sampleRun
    | 2 => s.sampleHold
    | _ => s.startSafe

/-- Dies that were lost are forgotten, but in Hold and while a request is pending. -/
def State.forgetLost (s : State) : State :=
  if s.prog.frameMode = 2 ∨ s.on 0 Reg.MODE_STAT_PENDING = true then s else { s with frame := { s.frame with lost := 0 } }

theorem State.sample_eq (s : State) : s.sample = s.noteSample.sampleByMode.forgetLost := rfl

theorem State.forgetLost_lost (s : State) : s.forgetLost.prog.frameMode = 2 ∨
    s.forgetLost.on 0 Reg.MODE_STAT_PENDING = true ∨ s.forgetLost.frame.lost = 0 := by
  unfold State.forgetLost
  split
  · next h => exact h.imp id .inl
  · exact .inr (.inr rfl)

/-- What is forgotten is all that changes. -/
theorem State.forgetLost_keeps (s : State) : s.forgetLost.cycle = s.cycle ∧ s.forgetLost.forcedStop = s.forcedStop ∧
    ∃ lost, s.forgetLost.frame = { s.frame with lost := lost } := by
  unfold State.forgetLost
  split
  · exact ⟨rfl, rfl, s.frame.lost, rfl⟩
  · exact ⟨rfl, rfl, 0, rfl⟩

section
variable {s : State} (hs : s.standby = false)
include hs

theorem State.sampleByMode_run (hm : s.prog.frameMode ∈ [1, 3]) : s.sampleByMode = s.sampleRun := by
  rw [State.sampleByMode, if_neg (by rw [hs]; simp)]
  rcases List.mem_pair.mp hm with hm | hm <;> rw [hm] <;> rfl

theorem State.sampleByMode_hold (hm : s.prog.frameMode = 2) : s.sampleByMode = s.sampleHold := by
  rw [State.sampleByMode, if_neg (by rw [hs]; simp), hm]
  rfl

theorem State.sampleByMode_stop (hr : s.prog.frameMode ∉ [1, 3]) (hh : s.prog.frameMode ≠ 2) :
    s.sampleByMode = s.startSafe := by
  rw [State.sampleByMode, if_neg (by rw [hs]; simp)]
  split
  · next h => exact absurd (by rw [h]; decide) hr
  · next h => exact absurd (by rw [h]; decide) hr
  · next h => exact absurd h hh
  · rfl

theorem State.sampleByMode_sampled : s.sampleByMode.frame.sampled = s.frame.sampled := by
  by_cases hr : s.prog.frameMode ∈ [1, 3]
  · rw [State.sampleByMode_run hs hr, State.sampleRun_sampled]
  · by_cases hh : s.prog.frameMode = 2
    · rw [State.sampleByMode_hold hs hh, State.sampleHold_sampled]
    · rw [State.sampleByMode_stop hs hr hh]
      rfl

end

/-! ### The command (R76) -/

theorem exec_commitSample {s : State} (ht : s.frame.ticked = true) (hn : s.frame.sampled = false) (ho : s.outage = false)
    (hp : s.aon.holdup = 0) : exec .commitSample s = .next (s.advanceTo s.sampleCycle).sample := by
  show execCommitSample s = _
  rw [execCommitSample, if_pos (by simp only [ht, hn, ho, hp]; rfl)]

/-- The margin that a sample notes leaves a pending request as it is. -/
theorem State.requestDue_margin {s : State} (h : s.Sane) (v : Nat) :
    (s.wrMin 0 Reg.FWATCH_MARGIN_CYCLES v).requestDue = s.requestDue :=
  State.requestDue_congr (congrArg (· == 1) (State.rd_wr_other h _)) rfl rfl

/-- What the Commit sample leaves, by the mode of the frame. -/
theorem commitSample_acts {s : State} (h : s.Sane) (ht : s.frame.ticked = true) (hn : s.frame.sampled = false)
    (ho : s.outage = false) (hp : s.aon.holdup = 0) (hs : s.standby = false) :
    let u := s.advanceTo s.sampleCycle
    Completes .commitSample s fun t =>
      t.frame.sampled = true ∧ (t.prog.frameMode = 2 ∨ t.on 0 Reg.MODE_STAT_PENDING = true ∨ t.frame.lost = 0) ∧
      t.cycle = max s.cycle s.sampleCycle ∧
      (s.prog.frameMode = 0 → t.frame.safeCopy = true ∧ t.frame.flag = 0x40) ∧
      (s.prog.frameMode = 2 → u.requestDue = false →
        t.frame.flag = 0x20 ∧ t.frame.build = true ∧ t.frame.buildAt = u.cycle) ∧
      (s.prog.frameMode ∈ [1, 3] → s.missing = 0 → u.requestDue = false → t.frame.gather = true ∧ t.frame.flag = 0x80) ∧
      (s.prog.frameMode ∈ [1, 3] → s.missing ≠ 0 →
        t.frame.safeCopy = true ∧ t.frame.flag = 0x40 ∧ t.forcedStop = true) := by
  intro u
  have hus : u.noteSample.standby = false := hs
  have hu : u.noteSample.Sane := h
  obtain ⟨hcycle, hforced, lost, hframe⟩ := State.forgetLost_keeps u.noteSample.sampleByMode
  refine ⟨_, exec_commitSample ht hn ho hp, ?_⟩
  rw [State.sample_eq]
  refine ⟨?_, State.forgetLost_lost _, ?_, ?_, ?_, ?_, ?_⟩
  · rw [hframe]
    exact State.sampleByMode_sampled hus
  · exact Eq.trans ((State.sample_moves u).part .cycle) rfl
  · intro hm
    rw [hframe, State.sampleByMode_stop hus (by rw [show u.noteSample.prog.frameMode = 0 from hm]; decide)
      (by rw [show u.noteSample.prog.frameMode = 0 from hm]; decide)]
    exact ⟨rfl, rfl⟩
  · intro hm hdue
    rw [hframe, State.sampleByMode_hold hus hm, State.sampleHold_frame (s := u.noteSample) hdue hus]
    exact ⟨rfl, rfl, rfl⟩
  · intro hm hmissing hdue
    rw [hframe, State.sampleByMode_run hus hm]
    rcases State.sampleRun_ready (s := u.noteSample) hmissing with hready | ⟨-, hstop⟩
    · rw [hready]
      exact ⟨rfl, rfl⟩
    · rw [State.requestDue_margin hu] at hstop
      exact absurd (hstop.symm.trans hdue) (by decide)
  · intro hm hmissing
    rw [hframe, hforced, State.sampleByMode_run hus hm, State.sampleRun, if_pos (show u.noteSample.missing ≠ 0 from hmissing)]
    obtain ⟨hstopped, hflag⟩ := State.forceStop_shows u.noteSample u.noteSample.missing
    rw [hstopped]
    exact ⟨rfl, rfl, hflag⟩

/-- Settles O16: each command by what its meaning leaves; the sample by the mode of the frame. -/
theorem frameInstantsToTheSampleAct : Obligations.FrameInstantsToTheSampleAct := by
  intro s h
  exact ⟨tick_acts, cutCopyEnd_acts h, fun _ => spreadEnd_acts h, spreadByDeadline_acts, commitSample_acts h⟩

end Sys2Proof.Machine
end

section
/-! SUPPORT.  What the frames that a Line port starts leave of the Exchange engine: the gate schedules, the PTP ports but for the
time of their last request, and all that is not of the ports (R243, R245 to R248). -/

open Sys2Proof Sys2Proof.Machine Sys2Proof.Bits
namespace Sys2Proof.Machine
set_option Elab.async false

/-- The list of a gate and where it stands, beside the frames that wait. -/
def Gate.schedule (g : Gate) : List (Nat × Nat) × Nat × Nat × Option (Nat × List (Nat × Nat)) :=
  (g.list, g.entry, g.entryEnd, g.next)

/-- A PTP port without the time of its last request. -/
def PtpPort.timeless (x : PtpPort) : PtpPort := { x with reqAt := 0 }

/-- The Exchange engine without the wires, gates and PTP ports of the Line ports. -/
def Exch.offLine (e : Exch) : Exch := { e with lineOut := [], gates := [], ptp := [] }

/-- `t` follows from `s` by frames that Line ports start or queue. -/
structure LinesSend (s t : State) : Prop where
  offLine : t.exch.offLine = s.exch.offLine
  gates : SMap.sorted s.exch.gates = true →
    SMap.sorted t.exch.gates = true ∧ ∀ p, (t.gate p).schedule = (s.gate p).schedule
  ptp : SMap.sorted s.exch.ptp = true →
    SMap.sorted t.exch.ptp = true ∧ ∀ p, (t.ptpPort p).timeless = (s.ptpPort p).timeless

namespace LinesSend

theorem of_exch {s t : State} (h : t.exch = s.exch) : LinesSend s t where
  offLine := by rw [h]
  gates hg := by
    unfold State.gate
    rw [h]
    exact ⟨hg, fun _ => rfl⟩
  ptp hp := by
    unfold State.ptpPort
    rw [h]
    exact ⟨hp, fun _ => rfl⟩

theorem refl (s : State) : LinesSend s s := of_exch rfl

theorem trans {s t u : State} (h : LinesSend s t) (k : LinesSend t u) : LinesSend s u where
  offLine := k.offLine.trans h.offLine
  gates hg := by
    obtain ⟨hsort, hkept⟩ := h.gates hg
    obtain ⟨hsort', hkept'⟩ := k.gates hsort
    exact ⟨hsort', fun p => (hkept' p).trans (hkept p)⟩
  ptp hp := by
    obtain ⟨hsort, hkept⟩ := h.ptp hp
    obtain ⟨hsort', hkept'⟩ := k.ptp hsort
    exact ⟨hsort', fun p => (hkept' p).trans (hkept p)⟩

/-- The frames that wait at a gate, and how long its wire is busy, are no part of its schedule. -/
theorem setGate (s : State) (p : Nat) {g : Gate} (hg : g.schedule = (s.gate p).schedule) : LinesSend s (s.setGate p g) where
  offLine := rfl
  gates hs := by
    refine ⟨SMap.sorted_put _ _ _ hs, fun q => ?_⟩
    by_cases hq : q = p
    · subst hq
      exact (congrArg Gate.schedule (SMap.get_put_same _ _ hs)).trans hg
    · exact congrArg Gate.schedule (SMap.get_put_ne _ hs hq)
  ptp hs := ⟨hs, fun _ => rfl⟩

theorem setPtpPort (s : State) (p : Nat) {x : PtpPort} (hx : x.timeless = (s.ptpPort p).timeless) :
    LinesSend s (s.setPtpPort p x) where
  offLine := rfl
  gates hs := ⟨hs, fun _ => rfl⟩
  ptp hs := by
    refine ⟨SMap.sorted_put _ _ _ hs, fun q => ?_⟩
    by_cases hq : q = p
    · subst hq
      exact (congrArg PtpPort.timeless (SMap.get_put_same _ _ hs)).trans hx
    · exact congrArg PtpPort.timeless (SMap.get_put_ne _ hs hq)

theorem queueFrame (s : State) (p c : Nat) (bytes : List Byte) : LinesSend s (s.queueFrame p c bytes) := setGate s p rfl

theorem ptpSent (s : State) (p stamp : Nat) (bytes : List Byte) : LinesSend s (s.ptpSent p stamp bytes) := by
  unfold State.ptpSent
  extract_lets m follow
  split
  · exact refl s
  · split
    · exact queueFrame ..
    · exact setPtpPort s p rfl
    · exact queueFrame ..
    · exact refl s

theorem onWire (s : State) (p : Nat) (bytes : List Byte) : LinesSend s (s.onWire p bytes) := by
  unfold State.onWire
  extract_lets start _ u
  have hu : LinesSend s u := ⟨rfl, fun hg => ⟨hg, fun _ => rfl⟩, fun hp => ⟨hp, fun _ => rfl⟩⟩
  have hgate := setGate u p (g := { u.gate p with busyUntil := start + u.wireTime p bytes.length }) rfl
  exact (hu.trans hgate).trans (ptpSent ..)

theorem startWaiting (n : Nat) (s : State) (p : Nat) : LinesSend s (State.startWaiting n s p) := by
  induction n generalizing s with
  | zero => exact refl s
  | succ n ih =>
    rw [State.startWaiting]
    split
    · next f _ =>
      have hstart := (setGate s p (g := { s.gate p with waiting := (s.gate p).waiting.erase f }) rfl).trans (onWire _ p f.2.2)
      exact hstart.trans (ih _)
    · exact refl s

theorem countGuarded (s : State) (p : Nat) : LinesSend s (s.countGuarded p) := by
  unfold State.countGuarded
  extract_lets held w
  have hcount : LinesSend s (s.add 0 (Reg.TSN_GUARD_COUNT.w p) (w.filter held).length) := of_exch rfl
  exact hcount.trans (setGate _ p rfl)

theorem kick (s : State) (p : Nat) : LinesSend s (s.kick p) := (startWaiting ..).trans (countGuarded ..)

theorem lineSend (s : State) (p c : Nat) (bytes : List Byte) : LinesSend s (s.lineSend p c bytes) := by
  unfold State.lineSend
  split
  · exact refl s
  · exact (queueFrame ..).trans (kick ..)

theorem txPorts {s t : State} (h : LinesSend s t) : t.exch.txPorts = s.exch.txPorts :=
  (congrArg Exch.txPorts h.offLine : t.exch.offLine.txPorts = s.exch.offLine.txPorts)

theorem ptpIn {s t : State} (h : LinesSend s t) : t.exch.ptpIn = s.exch.ptpIn :=
  (congrArg Exch.ptpIn h.offLine : t.exch.offLine.ptpIn = s.exch.offLine.ptpIn)

end LinesSend

end Sys2Proof.Machine
end

section
/-! SUPPORT.  The Commit, the Safe copy, the release build and the release, and the frames of a port's release (R76, R78, R177,
R178, R205, R271). -/

open Sys2Proof Sys2Proof.Machine Sys2Proof.Bits
namespace Sys2Proof.Machine
set_option Elab.async false

/-! ### The exchange of the buffers (R76) -/

/-- A bit written to what it was not shows that. -/
theorem State.wrB_not_on {s : State} (h : s.Sane) (die : Nat) {f : FieldDef} (hf : f.width = 1) :
    (s.wrB die f (!s.on die f)).on die f = !s.on die f := by
  unfold State.wrB
  rw [State.on, State.rd_wr_same h, hf]
  cases s.on die f <;> rfl

theorem State.exchangeBuffers_outBuf {s : State} (h : s.Sane) :
    s.exchangeBuffers.on 0 Reg.IMG_STAT_OUT_BUF = !s.on 0 Reg.IMG_STAT_OUT_BUF := by
  have hmoves := State.fillDelta_moves s (s.changedWords s.outBuffer s.commitBuffer)
  exact (State.wrB_not_on (hmoves.sane h) 0 rfl).trans (congrArg (!·) (hmoves.on h 0 Reg.IMG_STAT_OUT_BUF))

/-- Whether the part is a standby depends on one register. -/
theorem State.standby_congr {s t : State} (h : t.rd 0 Reg.PAIR_STAT_STATE = s.rd 0 Reg.PAIR_STAT_STATE) :
    t.standby = s.standby := by
  unfold State.standby
  rw [h]

/-- Behind the exchange the record of the frame changes by the start of the release build alone. -/
theorem State.afterExchange_frame {s : State} (h : s.Sane) :
    s.afterExchange.frame.gather = s.frame.gather ∧ s.afterExchange.frame.safeCopy = s.frame.safeCopy ∧
    (s.standby = false → s.afterExchange.frame.build = true) := by
  let u : State := { s with pair := { s.pair with applied := s.workFrame } }.wr 0 Reg.PAIR_APPLIED_N (s.workFrame % 2 ^ 32)
  have hframe : s.afterExchange.frame = u.startBuild.frame :=
    Eq.trans ((State.standbyDone_moves _).part .frame) ((State.mirrorClose_moves _).part .frame)
  have hpair : ({ s with pair := { s.pair with applied := s.workFrame } } : State).Sane := h
  have hu : u.standby = s.standby :=
    (State.standby_congr (State.rd_wr_other hpair (s.workFrame % 2 ^ 32))).trans rfl
  rw [hframe]
  cases hs : s.standby with
  | true =>
    rw [State.startBuild_frame_standby (hu.trans hs)]
    exact ⟨rfl, rfl, fun h => by cases h⟩
  | false =>
    rw [State.startBuild_frame (hu.trans hs)]
    exact ⟨rfl, rfl, fun _ => rfl⟩

/-! ### The ends of the Commit and of the Safe copy (R76, R177, R178) -/

/-- The gather is over. -/
def State.gatherOver (s : State) : State := { s with frame := { s.frame with gather := false } }

/-- A Step request is gone with the frame that it asked for. -/
def State.stepOver (s : State) : State := if s.mode = 3 then s.clearRequest else s

/-- The new output image stands. -/
def State.committed (s : State) : State := ((s.gatherAll.exchangeBuffers).routerEdges 42).gatherOver.stepOver

theorem State.endCommit_eq (s : State) : s.endCommit = s.committed.afterExchange := rfl

theorem State.gatherOver_moves (s : State) : Moves 0x10000 s s.gatherOver := Moves.set_16 .refl

theorem State.stepOver_moves (s : State) : Moves 0x80000000000000080000200010 s s.stepOver :=
  Moves.ite (Moves.sub (State.clearRequest_moves s)) .refl

theorem State.committed_moves (s : State) : Moves 0x280000200c00000080000214238 s s.committed :=
  ((((State.gatherAll_moves s).sub.step (State.exchangeBuffers_moves _)).step (State.routerEdges_moves _ 42)).step
    (State.gatherOver_moves _)).step (State.stepOver_moves _)

theorem State.committed_gather (s : State) : s.committed.frame.gather = false := by
  have hstep := (State.stepOver_moves ((s.gatherAll.exchangeBuffers).routerEdges 42).gatherOver).part .frame
  rw [State.committed, hstep]
  rfl

theorem State.committed_outBuf {s : State} (h : s.Sane) :
    s.committed.on 0 Reg.IMG_STAT_OUT_BUF = !s.on 0 Reg.IMG_STAT_OUT_BUF := by
  have hgather := State.gatherAll_moves s
  have hexchange := (State.exchangeBuffers_moves s.gatherAll).sane (hgather.sane h)
  have hrest : Moves 0x80000000000000080000214010 s.gatherAll.exchangeBuffers s.committed :=
    ((State.routerEdges_moves _ 42).sub.step (State.gatherOver_moves _)).step (State.stepOver_moves _)
  rw [hrest.on hexchange 0 Reg.IMG_STAT_OUT_BUF, State.exchangeBuffers_outBuf (hgather.sane h),
    hgather.on h 0 Reg.IMG_STAT_OUT_BUF]

theorem State.committed_standby {s : State} (h : s.Sane) : s.committed.standby = s.standby :=
  State.standby_congr ((State.committed_moves s).rd h 0 Reg.PAIR_STAT_STATE)

/-- What the end of the Commit leaves. -/
theorem commitEnd_acts {s : State} (h : s.Sane) (hg : s.frame.gather = true) :
    Completes .commitEnd s fun t =>
      t.frame.gather = false ∧ t.on 0 Reg.IMG_STAT_OUT_BUF = (!s.on 0 Reg.IMG_STAT_OUT_BUF) ∧
      (s.standby = false → t.frame.build = true) := by
  have hexec : exec .commitEnd s = .next (s.advanceTime s.commitEnd).committed.afterExchange := by
    show execCommitEnd s = _
    rw [execCommitEnd, if_pos hg, State.endCommit_eq]
  have hadv : (s.advanceTime s.commitEnd).Sane := h
  have hsane := (State.committed_moves (s.advanceTime s.commitEnd)).sane hadv
  obtain ⟨hkept, -, hbuild⟩ := State.afterExchange_frame hsane
  exact ⟨_, hexec, hkept.trans (State.committed_gather _),
    ((State.afterExchange_moves _).on hsane 0 Reg.IMG_STAT_OUT_BUF).trans (State.committed_outBuf hadv),
    fun hs => hbuild ((State.committed_standby hadv).trans hs)⟩

/-- The Safe copy is over. -/
def State.safeOver (s : State) : State := { s with frame := { s.frame with safeCopy := false } }

/-- The Safe image stands as the output image. -/
def State.safeShown (s : State) : State := (s.copyMem safeImage s.commitBuffer imageBytes).exchangeBuffers.safeOver

theorem State.endSafe_eq (s : State) : s.endSafe = s.safeShown.afterExchange := rfl

theorem State.safeOver_moves (s : State) : Moves 0x10000 s s.safeOver := Moves.set_16 .refl

theorem State.safeShown_moves (s : State) : Moves 0x200000000000000080000010038 s s.safeShown :=
  ((State.copyMem_moves s safeImage s.commitBuffer imageBytes).sub.step (State.exchangeBuffers_moves _)).step (State.safeOver_moves _)

theorem State.safeShown_outBuf {s : State} (h : s.Sane) :
    s.safeShown.on 0 Reg.IMG_STAT_OUT_BUF = !s.on 0 Reg.IMG_STAT_OUT_BUF := by
  have hcopy := State.copyMem_moves s safeImage s.commitBuffer imageBytes
  have hexchange := (State.exchangeBuffers_moves (s.copyMem safeImage s.commitBuffer imageBytes)).sane (hcopy.sane h)
  have hover := (State.safeOver_moves (s.copyMem safeImage s.commitBuffer imageBytes).exchangeBuffers).on hexchange 0
    Reg.IMG_STAT_OUT_BUF
  exact hover.trans ((State.exchangeBuffers_outBuf (hcopy.sane h)).trans (congrArg (!·) (hcopy.on h 0 Reg.IMG_STAT_OUT_BUF)))

theorem State.safeShown_standby {s : State} (h : s.Sane) : s.safeShown.standby = s.standby :=
  State.standby_congr ((State.safeShown_moves s).rd h 0 Reg.PAIR_STAT_STATE)

/-- What the end of the Safe copy leaves. -/
theorem safeCopyEnd_acts {s : State} (h : s.Sane) (hc : s.frame.safeCopy = true) :
    Completes .safeCopyEnd s fun t =>
      t.frame.safeCopy = false ∧ t.on 0 Reg.IMG_STAT_OUT_BUF = (!s.on 0 Reg.IMG_STAT_OUT_BUF) ∧
      (s.standby = false → t.frame.build = true) := by
  have hexec : exec .safeCopyEnd s = .next (s.advanceTo (s.sampleCycle + 5120)).safeShown.afterExchange := by
    show execSafeCopyEnd s = _
    rw [execSafeCopyEnd, if_pos hc, State.endSafe_eq]
  have hadv : (s.advanceTo (s.sampleCycle + 5120)).Sane := h
  have hsane := (State.safeShown_moves (s.advanceTo (s.sampleCycle + 5120))).sane hadv
  obtain ⟨-, hkept, hbuild⟩ := State.afterExchange_frame hsane
  exact ⟨_, hexec, hkept.trans rfl,
    ((State.afterExchange_moves _).on hsane 0 Reg.IMG_STAT_OUT_BUF).trans (State.safeShown_outBuf hadv),
    fun hs => hbuild ((State.safeShown_standby hadv).trans hs)⟩

/-! ### The release (R78, R205) -/

/-- The build is over, with the output payload of station 1,023. -/
def State.buildOver (s : State) (out : List Byte) : State :=
  { s with frame := { s.frame with build := false, built := true, releaseFrame := s.frameNo, fieldOut := out } }

/-- The registers that show the end of the build. -/
def State.buildShown (s : State) (sat : Nat) : State :=
  ((s.add 0 Reg.XCHG_SAT_COUNT sat).wr 0 Reg.XCHG_STAT_BUILD 0).wr 0 Reg.XCHG_BUILD_LAST_CYCLES 5200

theorem State.endBuild_eq (s : State) :
    ∃ sat out, s.endBuild = ((s.buildOutputs s.frameNo s.frame.flag).buildShown sat).buildOver out := ⟨_, _, rfl⟩

theorem State.buildShown_moves (s : State) (sat : Nat) : Moves 0x10000000000080000000010 s (s.buildShown sat) :=
  ((Moves.sub (State.add_moves s 0 Reg.XCHG_SAT_COUNT sat) (Moves.at 24 rfl)).step (State.wr_moves ..) (Moves.at 24 rfl)).step
    (State.wr_moves ..) (Moves.at 24 rfl)

theorem State.buildShown_off {s : State} (h : s.Sane) (sat : Nat) : (s.buildShown sat).on 0 Reg.XCHG_STAT_BUILD = false := by
  have h1 : (s.add 0 Reg.XCHG_SAT_COUNT sat).Sane := h.wr ..
  have hzero := (State.rd_wr_other (h1.wr 0 Reg.XCHG_STAT_BUILD 0) (die := 0) (e := 0) (f := Reg.XCHG_BUILD_LAST_CYCLES)
    (g := Reg.XCHG_STAT_BUILD) 5200).trans (State.rd_wr_same h1 0 Reg.XCHG_STAT_BUILD 0)
  exact congrArg (· == 1) hzero

/-- An operation that leaves the TICK page leaves the frame number. -/
theorem Moves.frameNo {F : Nat} {s t : State} (h : Moves F s t) (w : s.Sane)
    (hf : F.testBit (64 + 0x0A) = false := by rfl) : t.frameNo = s.frameNo := by
  unfold State.frameNo State.rd2
  rw [h.rd w 0 Reg.TICK_FRAME_LO_N hf, h.rd w 0 Reg.TICK_FRAME_HI_N hf]

/-- The end of the build marks the image as built, for its frame. -/
theorem State.endBuild_shows {s : State} (h : s.Sane) : s.endBuild.frame.build = false ∧ s.endBuild.frame.built = true ∧
    s.endBuild.frame.releaseFrame = s.frameNo ∧ s.endBuild.on 0 Reg.XCHG_STAT_BUILD = false ∧ s.endBuild.cycle = s.cycle := by
  obtain ⟨sat, out, heq⟩ := s.endBuild_eq
  have hbuild := State.buildOutputs_moves s s.frameNo s.frame.flag
  have hshown : Moves 0x10000000000084000000038 s ((s.buildOutputs s.frameNo s.frame.flag).buildShown sat) :=
    hbuild.sub.step (State.buildShown_moves _ sat)
  rw [heq]
  exact ⟨rfl, rfl, hshown.frameNo h, State.buildShown_off (hbuild.sane h) sat, hshown.part .cycle⟩

/-- What the end of the release build leaves. -/
theorem releaseBuildEnd_acts {s : State} (h : s.Sane) (hb : s.frame.build = true) :
    Completes .releaseBuildEnd s fun t =>
      t.frame.build = false ∧ t.frame.built = true ∧ t.frame.releaseFrame = s.frameNo ∧
      t.on 0 Reg.XCHG_STAT_BUILD = false ∧ t.cycle = max s.cycle (s.frame.buildAt + 5200) := by
  have hexec : exec .releaseBuildEnd s = .next (s.advanceTo (s.frame.buildAt + 5200)).endBuild := by
    show execReleaseBuildEnd s = _
    rw [execReleaseBuildEnd, if_pos hb]
  have hadv : (s.advanceTo (s.frame.buildAt + 5200)).Sane := h
  exact ⟨_, hexec, State.endBuild_shows hadv⟩

/-- With a valid Safe image the ports start their frames and the Field outputs are sent. -/
def State.outputsSent (s : State) : State :=
  if s.on 0 Reg.IMG_STAT_SAFE_VALID then
    if s.startOutputs.frame.fieldOut.isEmpty then s.startOutputs
    else s.startOutputs.fieldRelease s.startOutputs.frame.fieldOut s.startOutputs.tabletHeld
  else s

/-- The image that was built is released. -/
def State.releaseOver (s : State) : State := { s with frame := { s.frame with built := false } }

theorem State.release_eq (s : State) : s.release = s.outputsSent.releaseOver.afterRelease := rfl

theorem State.outputsSent_moves (s : State) : Moves 0xffffffffffffffff0002084000000010 s s.outputsSent := by
  have hstart : Moves 0xffffffffffffffff0002084000000010 s s.startOutputs := Moves.sub (State.startOutputs_moves s)
  exact Moves.ite (Moves.ite hstart (hstart.step (State.fieldRelease_moves ..))) .refl

/-- The release takes the image and leaves the clock. -/
theorem State.release_shows (s : State) : s.release.frame.built = false ∧ s.release.time = s.time := by
  have hafter := State.afterRelease_moves s.outputsSent.releaseOver
  rw [State.release_eq]
  exact ⟨congrArg Frame.built (hafter.part .frame), Eq.trans (hafter.part .time) ((State.outputsSent_moves s).part .time)⟩

/-- What the release leaves. -/
theorem release_acts {s : State} (hb : s.frame.built = true) (hp : s.aon.holdup = 0)
    (hf : s.frameNo = s.frame.releaseFrame + 1) :
    Completes .release s fun t =>
      t.frame.built = false ∧ s.frame.tickTime + 1000 * s.rd 0 Reg.TICK_RELEASE_AT_US ≤ t.time := by
  let at' := s.frame.tickTime + 1000 * s.rd 0 Reg.TICK_RELEASE_AT_US
  have hexec : exec .release s = .next (s.advanceTime at').release := by
    show execRelease s = _
    rw [execRelease, if_pos (by simp [hb, hp, hf])]
  obtain ⟨hbuilt, htime⟩ := State.release_shows (s.advanceTime at')
  exact ⟨_, hexec, hbuilt, htime ▸ s.advanceTime_reaches at'⟩

/-! ### The frames of a port's release (R271, R272) -/

/-- A frame that leaves, is dropped or is not sent leaves the transmit sets. -/
theorem State.sendOutput_txPorts (s : State) (p : Nat) (f : TxFrame) : (s.sendOutput p f).exch.txPorts = s.exch.txPorts := by
  unfold State.sendOutput
  extract_lets +onlyGivenNames ends u v
  have hv : v.exch = s.exch := rfl
  clear_value v
  split
  · rfl
  · split
    · split
      · exact congrArg Exch.txPorts hv
      · show v.exch.txPorts = _
        exact congrArg Exch.txPorts hv
    · split
      · rfl
      · have hwire := (LinesSend.onWire ((s.lineCount p Reg.LINEn_TX_OUT_COUNT).inc 0 (Reg.LINEn_SENT_LAST_COUNT.p p)) p
          (s.wireFrame p f)).txPorts
        exact hwire

/-- What the start of an OUTPUT frame leaves. -/
theorem outputFrameStart_acts {s : State} {port : Nat} {f : TxFrame} {rest : List TxFrame}
    (hsort : SMap.sorted s.exch.txPorts = true) (hf : SMap.get [] s.exch.txPorts port = f :: rest) :
    Completes (.outputFrameStart port) s fun t =>
      SMap.get [] t.exch.txPorts port = rest ∧ s.exch.releaseAt + (f.start + 9) / 10 ≤ t.time := by
  let u := (s.advanceTime (s.exch.releaseAt + (f.start + 9) / 10)).sendOutput port f
  let v : State := { u with exch := { u.exch with txPorts := SMap.put [] u.exch.txPorts port rest } }
  have hexec : exec (.outputFrameStart port) s = .next (v.kick port).afterRelease := by
    show execOutputFrameStart port s = _
    rw [execOutputFrameStart, hf]
  have hafter := State.afterRelease_moves (v.kick port)
  have hsent : u.exch.txPorts = s.exch.txPorts := State.sendOutput_txPorts ..
  have htx := calc (v.kick port).afterRelease.exch.txPorts
    _ = (v.kick port).exch.txPorts := congrArg Exch.txPorts (hafter.part .exch)
    _ = SMap.put [] u.exch.txPorts port rest := (LinesSend.kick ..).txPorts
    _ = SMap.put [] s.exch.txPorts port rest := by rw [hsent]
  have htime := calc (v.kick port).afterRelease.time
    _ = (v.kick port).time := hafter.part .time
    _ = u.time := (State.kick_moves ..).part .time
    _ = (s.advanceTime (s.exch.releaseAt + (f.start + 9) / 10)).time := (State.sendOutput_moves_any ..).part .time
  refine ⟨_, hexec, ?_, htime ▸ s.advanceTime_reaches _⟩
  rw [htx, SMap.get_put_same _ _ hsort]

end Sys2Proof.Machine
end

section
/-! SUPPORT.  The start of a Timetable row and its end by its budget (R74, R84, R87). -/

open Sys2Proof Sys2Proof.Machine Sys2Proof.Bits
namespace Sys2Proof.Machine
set_option Elab.async false

/-! ### Slots -/

theorem State.slot?_congr {s t : State} (h : t.slots = s.slots) (die e : Nat) : t.slot? die e = s.slot? die e := by
  unfold State.slot?
  rw [h]

theorem State.slot?_setSlot (s : State) (die e : Nat) (x : Slot) : (s.setSlot die e x).slot? die e = some x :=
  SMap.find?_insert_same ..

theorem State.rowRunning_congr {s t : State} (h : t.slots = s.slots) (die e : Nat) : t.rowRunning die e = s.rowRunning die e := by
  unfold State.rowRunning
  rw [State.slot?_congr h]

theorem State.rowRunning_some {s : State} {die e : Nat} {x : Slot} (h : s.slot? die e = some x) :
    s.rowRunning die e = x.running := by
  unfold State.rowRunning
  rw [h]
  rfl

/-! ### A row starts (R74, R84) -/

/-- An engine that begins keeps the slot of its row but for the cycles it has used. -/
theorem State.startEngine_slot {s : State} {d e : Nat} (entry : Nat) {x : Slot} (hx : s.slot? d e = some x) :
    ∃ used, (s.startEngine d e entry x).slot? d e = some { x with used := used } := by
  have hkept (t : State) (ht : t.slots = s.slots) : ∃ used, t.slot? d e = some { x with used := used } :=
    ⟨x.used, (State.slot?_congr ht d e).trans hx⟩
  unfold State.startEngine
  split
  · exact hkept _ rfl
  · exact hkept _ rfl
  · exact hkept _ rfl
  · split
    · exact hkept _ rfl
    · exact ⟨12, State.slot?_setSlot ..⟩

/-- The slot of a row that starts. -/
def State.newSlot (s : State) (d r : Nat) : Slot :=
  let f := s.rowField d (s.activeBank d) r
  let event := f Reg.TTBL_ROW_W3_EVENT == 1
  let shunt := f Reg.TTBL_ROW_W3_SHUNT == 1
  let idle := ((event && !s.on 0 (Reg.TASK_STAT_LATCHED.w (f Reg.TTBL_ROW_W1_TASK))) || shunt) ||
    s.taskSkipped (f Reg.TTBL_ROW_W1_TASK)
  { row := r, task := f Reg.TTBL_ROW_W1_TASK, fence := f Reg.TTBL_ROW_W3_FENCE, start := s.cycle
    length := f Reg.TTBL_ROW_W1_LENGTH, essential := f Reg.TTBL_ROW_W3_ESSENTIAL == 1, event := event, shunt := shunt
    running := true, idle := idle
    frozen := idle && decide (1 ≤ f Reg.TTBL_ROW_W0_ENGINE) && decide (f Reg.TTBL_ROW_W0_ENGINE ≤ 4), used := 0 }

/-- A row that does not shunt stands in the slot of its engine as its fields give it, whether it works or idles. -/
theorem State.startRow_slot {s : State} {d r : Nat} (hshunt : s.rowField d (s.activeBank d) r Reg.TTBL_ROW_W3_SHUNT = 0) :
    ∃ used, (s.startRow d r).slot? d (s.rowField d (s.activeBank d) r Reg.TTBL_ROW_W0_ENGINE) =
      some { s.newSlot d r with used := used } := by
  unfold State.startRow
  extract_lets f e t event shunt waits idle x u v
  have hnot : ¬ shunt = true := by
    show ¬ (f Reg.TTBL_ROW_W3_SHUNT == 1) = true
    rw [show f Reg.TTBL_ROW_W3_SHUNT = 0 from hshunt]
    decide
  have hv : v.slot? d e = some x := by
    have hslots : v.slots = (s.setSlot d e x).slots := by
      show State.slots (if _ then _ else _) = _
      split <;> rfl
    exact (State.slot?_congr hslots d e).trans (State.slot?_setSlot ..)
  rw [if_neg hnot]
  split
  · exact ⟨0, hv⟩
  · split
    · exact ⟨0, hv⟩
    · have hnote : (v.noteRun d r t).slot? d e = some x :=
        (State.slot?_congr ((State.noteRun_moves ..).part .slots) d e).trans hv
      exact State.startEngine_slot _ hnote

/-- What the start of a row leaves. -/
theorem rowStart_acts {s : State} {die row : Nat} (hm : s.rowMayStart die row = true)
    (hshunt : s.rowField die (s.activeBank die) row Reg.TTBL_ROW_W3_SHUNT = 0) :
    let f := s.rowField die (s.activeBank die) row
    Completes (.rowStart die row) s fun t =>
      t.cycle = max s.cycle (s.frame.tickCycle + f Reg.TTBL_ROW_W0_START) ∧
      ∃ x, t.slot? die (f Reg.TTBL_ROW_W0_ENGINE) = some x ∧ x.running = true ∧ x.row = row ∧
        x.task = f Reg.TTBL_ROW_W1_TASK ∧ x.fence = f Reg.TTBL_ROW_W3_FENCE ∧ x.length = f Reg.TTBL_ROW_W1_LENGTH ∧
        x.start = t.cycle := by
  intro f
  let u := s.advanceTo (s.frame.tickCycle + f Reg.TTBL_ROW_W0_START)
  have hexec : exec (.rowStart die row) s = .next (u.startRow die row) := by
    show execRowStart die row s = _
    rw [execRowStart, if_pos hm]
  have hcycle : (u.startRow die row).cycle = u.cycle := (State.startRow_moves ..).part .cycle
  obtain ⟨used, hslot⟩ := State.startRow_slot (s := u) hshunt
  exact ⟨_, hexec, hcycle, _, hslot, rfl, rfl, rfl, rfl, rfl, hcycle.symm⟩

/-! ### A row ends (R84, R87) -/

/-- No row runs on an engine whose row has ended. -/
theorem State.endRow_rowRunning (s : State) (die e : Nat) : (s.endRow die e).rowRunning die e = false := by
  unfold State.endRow
  split
  · next x hx =>
    split
    · extract_lets u v c w
      have hv : v.rowRunning die e = false := State.rowRunning_some (x := { x with running := false }) (State.slot?_setSlot ..)
      exact (State.rowRunning_congr ((State.raiseReady_moves ..).part .slots) die e).trans hv
    · next hn => rw [State.rowRunning_some hx, Bool.eq_false_iff.mpr hn]
  · next hx =>
    unfold State.rowRunning
    rw [hx]
    rfl

/-- What a row that is cut off leaves when it ends: no row runs on its engine, and a task that worked is marked as skipped. -/
structure RowCut (die e : Nat) (x : Slot) (s t : State) : Prop where
  ended : t.rowRunning die e = false
  cycle : t.cycle = s.cycle
  skipped : x.idle = false → bit (SMap.get 0 t.skipped die) x.task = true

/-- What leaves the slots, the clock and the marks of the tasks leaves what the cut did. -/
theorem RowCut.then {die e : Nat} {x : Slot} {s t u : State} (h : RowCut die e x s t) (hslots : u.slots = t.slots)
    (hcycle : u.cycle = t.cycle) (hskipped : u.skipped = t.skipped) : RowCut die e x s u where
  ended := (State.rowRunning_congr hslots die e).trans h.ended
  cycle := hcycle.trans h.cycle
  skipped hi := by
    rw [hskipped]
    exact h.skipped hi

/-- A mark set in the map of the tasks cut off is read there. -/
theorem bit_skipped (m : SMap Nat) (die task : Nat) :
    bit (SMap.get 0 (SMap.put 0 m die (SMap.get 0 m die ||| (1 <<< task))) die) task = true := by
  have hset : (SMap.get 0 m die ||| (1 <<< task)).testBit task = true := by
    rw [Nat.testBit_or, Nat.one_shiftLeft, Nat.testBit_two_pow_self, Bool.or_true]
  have hne : SMap.get 0 m die ||| (1 <<< task) ≠ 0 := by
    intro hzero
    rw [hzero, Nat.zero_testBit] at hset
    cases hset
  rw [SMap.put, if_neg hne, SMap.get, SMap.find?_insert_same, bit_eq_testBit]
  exact hset

theorem State.cutOff_rowRunning (s : State) (die e : Nat) : (s.cutOff die e).rowRunning die e = false := by
  unfold State.cutOff
  split
  · split
    · exact State.endRow_rowRunning ..
    · exact State.endRow_rowRunning ..
  · next hnone =>
    unfold State.rowRunning
    rw [hnone]
    rfl

/-- The mark of a task that is cut off. -/
def State.markSkipped (s : State) (die task : Nat) : State :=
  { s with skipped := SMap.put 0 s.skipped die (SMap.get 0 s.skipped die ||| (1 <<< task)) }

/-- A row that works is marked as skipped, and what follows leaves the mark. -/
theorem State.cutOff_marked {s : State} {die e : Nat} {x : Slot} (hx : s.slot? die e = some x) (hr : x.running = true)
    (hi : x.idle = false) : Moves 0x10000022c400008080080070210 (s.markSkipped die x.task) (s.cutOff die e) := by
  unfold State.cutOff
  split
  case h_2 hnone => exact absurd (hx.symm.trans hnone) (by simp)
  rename_i y hy
  obtain rfl : x = y := Option.some.inj (hx.symm.trans hy)
  rw [if_pos (by rw [hr, hi]; rfl)]
  extract_lets +onlyGivenNames u
  change Moves _ u _
  clear_value u
  extract_lets +onlyGivenNames v
  have hv : Moves 0x10000022c400008080080070210 u v :=
    (((Moves.sub (State.inc_moves ..) (Moves.at 10 rfl)).step (State.wr_moves ..) (Moves.at 10 rfl)).step
      (State.irq_moves ..) (Moves.at 10 rfl))
  clear_value v
  extract_lets +onlyGivenNames w y z
  have hw : Moves 0x10000022c400008080080070210 u w := hv.step (State.wr_moves ..) (Moves.at 40 rfl)
  clear_value w
  have hy : Moves 0x10000022c400008080080070210 u y := Moves.ite (hw.step (State.raiseCause_moves ..)) hw
  clear_value y
  have hz : Moves 0x10000022c400008080080070210 u z := hy.step (State.archive_moves ..)
  clear_value z
  refine Moves.step ?_ (State.endRow_moves ..)
  refine Moves.ite ?_ hz
  have hrow := ((hz.step (State.wr_moves z die Reg.BUDGET_OVR_ROW x.row) (Moves.at 10 rfl)).step
    (State.wr_moves _ die Reg.BUDGET_OVR_ENGINE e) (Moves.at 10 rfl)).step (State.wr_moves _ die Reg.BUDGET_OVR_VALID 1)
    (Moves.at 10 rfl)
  exact Moves.set_16 ((hrow.step (State.wr_moves ..) (Moves.at 10 rfl)).step (State.irq_moves ..) (Moves.at 10 rfl))

/-- What the cut of a running row leaves. -/
theorem State.cutOff_cut {s : State} {die e : Nat} {x : Slot} (hx : s.slot? die e = some x) (hr : x.running = true)
    (hi : x.idle = false) : RowCut die e x s (s.cutOff die e) where
  ended := State.cutOff_rowRunning ..
  cycle := (State.cutOff_moves s die e).part .cycle
  skipped _ := by
    rw [(State.cutOff_marked hx hr hi).part .skipped]
    exact bit_skipped ..

/-- What an engine does before its row is cut off leaves the row's slot and the clock. -/
theorem State.cutOff_cut_after {s u : State} {die e : Nat} {x : Slot} (hslots : u.slots = s.slots) (hcycle : u.cycle = s.cycle)
    (hx : s.slot? die e = some x) (hr : x.running = true) (hi : x.idle = false) : RowCut die e x s (u.cutOff die e) := by
  have h := State.cutOff_cut ((State.slot?_congr hslots die e).trans hx) hr hi
  exact ⟨h.ended, h.cycle.trans hcycle, h.skipped⟩

/-- What the cut of a word core's row leaves: the core's own part of it comes after. -/
theorem State.cutEngine_cut {s : State} {die e : Nat} {x : Slot} (hx : s.slot? die e = some x) (hr : x.running = true)
    (hi : x.idle = false) : RowCut die e x s (s.cutEngine die e) := by
  have h := State.cutOff_cut hx hr hi
  unfold State.cutEngine
  split
  · have hcore := State.coreCut_moves_any (s.cutOff die e) die (e - 1)
    exact h.then (hcore.part .slots) (hcore.part .cycle) (hcore.part .skipped)
  · exact h

/-- What the cut of a DMA row leaves: the words moved come before, the resumed chain after. -/
theorem State.cutDmaRow_cut {s : State} {die : Nat} (entry : Nat) {x : Slot} (hx : s.slot? die 6 = some x)
    (hr : x.running = true) (hi : x.idle = false) : RowCut die 6 x s (cutDmaRow s die entry) := by
  have hchain := dmaChain_moves die dmaFuel entry (Config.freeValue s.freeCtr) s.drawFree.2
  have hresume (t : State) := State.dmaResume_moves t die 0 entry
  have hcut := State.cutOff_cut_after (Eq.trans (hchain.part .slots) ((State.drawFree_moves s).part .slots))
    (Eq.trans (hchain.part .cycle) ((State.drawFree_moves s).part .cycle)) hx hr hi
  exact hcut.then ((hresume _).part .slots) ((hresume _).part .cycle) ((hresume _).part .skipped)

/-- What the budget's expiry leaves of a row that does not shunt, by its engine. -/
theorem State.expireBudget_cut {s : State} {die e : Nat} {x : Slot} (hx : s.slot? die e = some x) (hr : x.running = true)
    (hshunt : x.shunt = false) : RowCut die e x s (s.expireBudget die e x) := by
  unfold State.expireBudget
  cases hi : x.idle with
  | true =>
    rw [if_pos rfl]
    exact ⟨State.endRow_rowRunning .., (State.endRow_moves ..).part .cycle, fun h => by rw [hi] at h; cases h⟩
  | false =>
    rw [if_neg Bool.false_ne_true, hshunt, if_neg Bool.false_ne_true]
    split
    · exact State.cutOff_cut hx hr hi
    · have hpass := State.cutPass_moves s die x
      exact State.cutOff_cut_after (hpass.part .slots) (hpass.part .cycle) hx hr hi
    · exact State.cutDmaRow_cut _ hx hr hi
    · exact State.cutEngine_cut hx hr hi

/-- What the expiry of a row's budget leaves. -/
theorem budgetExpiry_acts {s : State} {die engine : Nat} {x : Slot} (hd : isScan die = true)
    (hx : s.slot? die engine = some x) (hr : x.running = true) (hshunt : x.shunt = false) :
    Completes (.budgetExpiry die engine) s fun t =>
      t.rowRunning die engine = false ∧ t.cycle = max s.cycle (x.start + x.length) ∧
      (x.idle = false → bit (SMap.get 0 t.skipped die) x.task = true) := by
  have hexec : exec (.budgetExpiry die engine) s =
      .next ((s.advanceTo (x.start + x.length)).expireBudget die engine x) := by
    show execBudgetExpiry die engine s = _
    rw [execBudgetExpiry, hx]
    dsimp only
    rw [if_pos (by rw [hd, hr]; rfl)]
  have hcut := State.expireBudget_cut (s := s.advanceTo (x.start + x.length)) hx hr hshunt
  exact ⟨_, hexec, hcut.ended, hcut.cycle, hcut.skipped⟩

/-- Settles O17: the commands of the frame by what their meanings leave; a row by the slot that it starts and by the cut that ends
it. -/
theorem commitReleaseAndRowsAct : Obligations.CommitReleaseAndRowsAct := by
  refine ⟨fun s h => ?_, fun s die _ => ?_⟩
  · exact ⟨commitEnd_acts h, safeCopyEnd_acts h, releaseBuildEnd_acts h, release_acts, fun _ _ _ => outputFrameStart_acts⟩
  · exact ⟨fun _ hm _ => rowStart_acts hm, fun _ _ hd _ => budgetExpiry_acts hd⟩

end Sys2Proof.Machine
end

section
/-! SUPPORT.  The rows of a Timetable bank as they are written (R94, R96, R101). -/

open Sys2Proof Sys2Proof.Machine Sys2Proof.Bits
namespace Sys2Proof.Machine
set_option Elab.async false

/-! ### One table entry copied on to another -/

/-- Fields of different table entries have different keys. -/
theorem FieldDef.key_w_ne (f g : FieldDef) {a b d e : Nat} (h : a ≠ b) : (f.w a).key d ≠ (g.w b).key e := by
  unfold FieldDef.key FieldDef.w
  dsimp only
  omega

/-- Fields at different places have different keys in every entry. -/
theorem FieldDef.key_w_ne_of_apart {f g : FieldDef} {a b d e : Nat} (h : apart f g) : (f.w a).key d ≠ (g.w b).key e :=
  FieldDef.key_ne (f := f.w a) (g := g.w b) h

theorem copyEntry_cons (s : State) (die : Nat) (f : FieldDef) (fs : List FieldDef) (src dst : Nat) :
    copyEntry s die (f :: fs) src dst = copyEntry (s.wr die (f.w dst) (s.rd die (f.w src))) die fs src dst := rfl

theorem copyEntry_keep {die e src dst : Nat} {g : FieldDef} {fs : List FieldDef}
    (hg : ∀ f ∈ fs, g.key e ≠ (f.w dst).key die) {s : State} (h : s.Sane) :
    (copyEntry s die fs src dst).rd e g = s.rd e g := by
  induction fs generalizing s with
  | nil => rfl
  | cons f fs ih =>
    rw [copyEntry_cons, ih (fun x hx => hg x (List.mem_cons_of_mem f hx)) (h.wr ..)]
    exact State.rd_wr_ne h _ (hg f List.mem_cons_self)

/-- Every field of the entry copied on to reads what the other entry held. -/
theorem copyEntry_get {die src dst : Nat} {fs : List FieldDef} (hp : fs.Pairwise apart) (hne : src ≠ dst) {f : FieldDef}
    (hf : f ∈ fs) {s : State} (h : s.Sane) :
    (copyEntry s die fs src dst).rd die (f.w dst) = s.rd die (f.w src) % 2 ^ f.width := by
  induction fs generalizing s with
  | nil => cases hf
  | cons x fs ih =>
    obtain ⟨hx, hrest⟩ := List.pairwise_cons.mp hp
    rw [copyEntry_cons]
    rcases List.mem_cons.mp hf with rfl | hf
    · rw [copyEntry_keep (fun g hg => FieldDef.key_w_ne_of_apart (hx g hg)) (h.wr ..), State.rd_wr_same h]
      rfl
    · rw [ih hrest hf (h.wr ..), State.rd_wr_ne h _ (FieldDef.key_w_ne _ _ hne)]

theorem rowFields_apart : rowFields.Pairwise apart := by decide

theorem rowFields_place : ∀ f ∈ rowFields, f.code = 9 ∧ (f.off = 0x108 ∨ f.off = 0x10C ∨ f.off = 0x110 ∨ f.off = 0x114) := by
  decide

/-! ### What the end of points set leaves -/

theorem State.dropPoints_sane {s : State} (h : s.Sane) (die : Nat) : (s.dropPoints die).Sane :=
  (State.dropPoints_moves ..).sane h

theorem State.dropPoints_rd {s : State} (h : s.Sane) (die e : Nat) {g : FieldDef}
    (hg : g.code % 64 ≠ 9 ∨ g.off % 4096 ≠ 0x118) : (s.dropPoints die).rd e g = s.rd e g := by
  have hplace (f : FieldDef) (hf : f.code = 9 ∧ f.off = 0x118) : apart g f := by
    obtain ⟨hc, ho⟩ := hf
    unfold apart
    omega
  have hchecking := State.rd_wr_other (e := e) (die := die) h 0 (hplace Reg.TTBL_STAT_CHECKING ⟨rfl, rfl⟩)
  have hpending := State.rd_wr_other (e := e) (die := die) (h.wr die Reg.TTBL_STAT_CHECKING 0) 0
    (hplace Reg.TTBL_STAT_PENDING ⟨rfl, rfl⟩)
  exact hpending.trans hchecking

theorem State.dropAll_rd (dies : List Nat) (e : Nat) {g : FieldDef} (hg : g.code % 64 ≠ 9 ∨ g.off % 4096 ≠ 0x118) {s : State}
    (h : s.Sane) : (dies.foldl State.dropPoints s).rd e g = s.rd e g := by
  induction dies generalizing s with
  | nil => rfl
  | cons d dies ih => rw [List.foldl_cons, ih (State.dropPoints_sane h d), State.dropPoints_rd h d e hg]

theorem State.dropAll_moves (dies : List Nat) (s : State) :
    Moves 0x2000000080001000010 s (dies.foldl State.dropPoints s) :=
  Moves.foldl (fun _ _ => (State.dropPoints_moves ..).sub) .refl

/-- The registers that a failed part-wide set writes. -/
def State.partFailed (s : State) (die : Nat) : State :=
  (((s.wr 0 Reg.TICK_STAT_POINTS_PENDING 0).wr 0 Reg.TICK_STAT_POINTS_FAIL 1).wr 0 Reg.TICK_STAT_FAIL_DIE die).irq 0 0x0A 4

theorem State.partFailed_moves (s : State) (die : Nat) : Moves 0x4000000080000000010 s (s.partFailed die) :=
  (((State.wr_moves ..).sub (Moves.at 10 rfl)).step (State.wr_moves ..) (Moves.at 10 rfl)).step (State.wr_moves ..)
    (Moves.at 10 rfl) |>.step (State.irq_moves ..) (Moves.at 10 rfl)

theorem State.failPart_eq (s : State) (die : Nat) : s.failPart die =
    State.partFailed { (scanDies.filter (inDies s.points.named)).foldl State.dropPoints s with points := ⟨false, 0, 0⟩ } die :=
  rfl

theorem State.failPart_rd {s : State} (h : s.Sane) (die e : Nat) {g : FieldDef} (hc : g.code = 9) (ho : g.off % 4096 ≠ 0x118) :
    (s.failPart die).rd e g = s.rd e g := by
  rw [State.failPart_eq]
  have hdrop := (State.dropAll_moves (scanDies.filter (inDies s.points.named)) s).sane h
  exact ((State.partFailed_moves _ die).rd hdrop e g (by rw [hc]; rfl)).trans (State.dropAll_rd _ e (.inr ho) h)

/-! ### The row stored -/

/-- AUTOINC after a stored row. -/
def State.rowAdvanced (s : State) (die row : Nat) : State :=
  if s.on die Reg.TTBL_ROWSEL_AUTOINC then s.wr die Reg.TTBL_ROWSEL_ROW (row + 1) else s

/-- Points set ends by a stored row. -/
def State.rowDisturbs (s : State) (die : Nat) : State :=
  if s.points.standing && inDies s.points.named die then s.failPart die
  else if s.on die Reg.TTBL_STAT_CHECKING || s.on die Reg.TTBL_STAT_PENDING then s.dropPoints die else s

theorem rowStored_eq (die : Nat) (s : State) (v : Nat) : rowStored die s v =
    ((copyEntry s die rowFields staged (s.rd die Reg.TTBL_ROWSEL_BANK * 512 + s.rd die Reg.TTBL_ROWSEL_ROW)).rowAdvanced die
      (s.rd die Reg.TTBL_ROWSEL_ROW)).rowDisturbs die := by
  unfold rowStored State.rowDisturbs State.rowAdvanced
  dsimp only

theorem State.rowAdvanced_sane {s : State} (h : s.Sane) (die row : Nat) : (s.rowAdvanced die row).Sane := by
  unfold State.rowAdvanced
  split
  · exact h.wr ..
  · exact h

theorem State.rowAdvanced_rd {s : State} (h : s.Sane) (die row e : Nat) {g : FieldDef} (hg : g.off % 4096 ≠ 0x104) :
    (s.rowAdvanced die row).rd e g = s.rd e g := by
  unfold State.rowAdvanced
  split
  · exact State.rd_wr_other h _ (.inr (.inl hg))
  · rfl

theorem State.rowDisturbs_rd {s : State} (h : s.Sane) (die e : Nat) {g : FieldDef} (hc : g.code = 9)
    (ho : g.off % 4096 ≠ 0x118) : (s.rowDisturbs die).rd e g = s.rd e g := by
  unfold State.rowDisturbs
  split
  · exact State.failPart_rd h die e hc ho
  · split
    · exact State.dropPoints_rd h die e (.inr ho)
    · rfl

theorem rowStored_row {s : State} (h : s.Sane) {die : Nat} (hb : s.rd die Reg.TTBL_ROWSEL_BANK < 2)
    (hr : s.rd die Reg.TTBL_ROWSEL_ROW < 512) {f : FieldDef} (hf : f ∈ rowFields) (v : Nat) :
    (rowStored die s v).rowField die (s.rd die Reg.TTBL_ROWSEL_BANK) (s.rd die Reg.TTBL_ROWSEL_ROW) f =
      s.rd die (f.w staged) % 2 ^ f.width := by
  obtain ⟨hc, ho⟩ := rowFields_place f hf
  have hoff (n : Nat) : (f.w n).off % 4096 ≠ 0x104 ∧ (f.w n).off % 4096 ≠ 0x118 := by
    show f.off % 4096 ≠ 0x104 ∧ f.off % 4096 ≠ 0x118
    omega
  have hcode (n : Nat) : (f.w n).code = 9 := hc
  have hcopied := fun n => (copyEntry_moves s die rowFields staged n).sane h
  unfold State.rowField
  rw [rowStored_eq, State.rowDisturbs_rd (State.rowAdvanced_sane (hcopied _) ..) die die (hcode _) (hoff _).2,
    State.rowAdvanced_rd (hcopied _) _ _ _ (hoff _).1, copyEntry_get rowFields_apart ?_ hf h]
  unfold staged
  omega

/-- The fields of `ROW_W3` of a Scan die. -/
theorem regFields_rowW3 : ∀ die ∈ scanDies, regFields die 9 0x114 = rowFields.filter (fun f => f.off = 0x114) := by
  decide +kernel

/-- The fields of `ROW_W3` stand staged as the word gives them. -/
theorem written_rowW3 {s : State} (h : s.Sane) (w : Who) {die word : Nat} (hd : isScan die = true) {f : FieldDef}
    (hf : f ∈ rowFields) (ho : f.off = 0x114) : (written s w die 9 0x114 word).rd die (f.w staged) = f.get word := by
  have hfields := regFields_rowW3 die (mem_scanDies hd)
  unfold written
  rw [hfields]
  refine storeFields_get (rowFields_apart.filter _) (fun g hg t => ?_) ((takeArming_moves ..).sane h)
    (List.mem_filter.mpr ⟨hf, decide_eq_true ho⟩) ?_
  · have hwin : ∀ g ∈ rowFields, g.win = .ttblRow := by decide
    rw [hwin g (List.mem_filter.mp hg).1]
    rfl
  · have hacc : ∀ g ∈ rowFields, g.acc = .rw := by decide
    exact hacc f hf

theorem ttblRowWrite_acts {s : State} (h : s.Sane) {w : Who} {die word : Nat} (hd : isScan die = true)
    (ht : s.takes w die 9 = true) (hf : s.fits w die 9 0x114 word = true) (hb : s.rd die Reg.TTBL_ROWSEL_BANK < 2)
    (hr : s.rd die Reg.TTBL_ROWSEL_ROW < 512) (hne : s.rd die Reg.TTBL_ROWSEL_BANK ≠ s.activeBank die) :
    Completes (.ttblRowWrite w die word) s fun t => ∀ f ∈ rowFields,
      t.rowField die (s.rd die Reg.TTBL_ROWSEL_BANK) (s.rd die Reg.TTBL_ROWSEL_ROW) f =
        if f.off = 0x114 then f.get word else s.rd die (f.w staged) % 2 ^ f.width := by
  refine ⟨rowStored die (written s w die 9 0x114 word) word, ?_, fun f hmem => ?_⟩
  · show execTtblRowWrite w die word s = _
    rw [execTtblRowWrite, if_pos hd, writeThen_fits ht hf (.inr hne)]
  · have hbank : (written s w die 9 0x114 word).rd die Reg.TTBL_ROWSEL_BANK = s.rd die Reg.TTBL_ROWSEL_BANK :=
      written_rd h w die
    have hrow : (written s w die 9 0x114 word).rd die Reg.TTBL_ROWSEL_ROW = s.rd die Reg.TTBL_ROWSEL_ROW := written_rd h w die
    have hstored := rowStored_row (written_sane h w die 9 0x114 word) (hbank ▸ hb) (hrow ▸ hr) hmem word
    rw [hbank, hrow] at hstored
    rw [hstored]
    split
    next ho => rw [written_rowW3 h w hd hmem ho, FieldDef.get, Nat.mod_mod]
    next ho =>
      obtain ⟨-, hoff⟩ := rowFields_place f hmem
      have hplace : f.off % 4096 ≠ 0x114 % 4096 := by omega
      rw [written_rd h w die (g := f.w staged) (.inr hplace)]

end Sys2Proof.Machine
end

section
/-! SUPPORT.  Points set, its checks and its cancellation; the margin; HOLDOVER (R67, R83, R95, R96, R100, R101). -/

open Sys2Proof Sys2Proof.Machine Sys2Proof.Bits
namespace Sys2Proof.Machine
set_option Elab.async false

/-! ### One-bit fields -/

theorem State.on_wr_one {s : State} (h : s.Sane) (die : Nat) {f : FieldDef} (hf : f.width = 1) :
    (s.wr die f 1).on die f = true := by
  rw [State.on, State.rd_wr_same h, hf]
  rfl

theorem State.on_wr_zero {s : State} (h : s.Sane) (die : Nat) (f : FieldDef) : (s.wr die f 0).on die f = false := by
  rw [State.on, State.rd_wr_same h, Nat.zero_mod]
  rfl

theorem State.on_wr_other {s : State} (h : s.Sane) {die e : Nat} {f g : FieldDef} (v : Nat) (ha : apart g f := by decide) :
    (s.wr die f v).on e g = s.on e g := by
  rw [State.on, State.rd_wr_other h v ha, State.on]

/-! ### Commands to one die (R95) -/

theorem State.dropPoints_off {s : State} (h : s.Sane) (die : Nat) :
    (s.dropPoints die).on die Reg.TTBL_STAT_CHECKING = false ∧ (s.dropPoints die).on die Reg.TTBL_STAT_PENDING = false := by
  have hchecking := h.wr die Reg.TTBL_STAT_CHECKING 0
  exact ⟨(State.on_wr_other hchecking (die := die) (f := Reg.TTBL_STAT_PENDING) 0).trans (State.on_wr_zero h die _),
    State.on_wr_zero hchecking die Reg.TTBL_STAT_PENDING⟩

theorem State.startCheck_sane {s : State} (h : s.Sane) (die : Nat) : (s.startCheck die).Sane :=
  (State.startCheck_moves ..).sane h

theorem State.startCheck_shows {s : State} (h : s.Sane) (die : Nat) :
    (s.startCheck die).on die Reg.TTBL_STAT_CHECKING = true ∧ (s.startCheck die).on die Reg.TTBL_STAT_PENDING = false ∧
      (s.startCheck die).on die Reg.TTBL_STAT_CHECK_FAIL = false := by
  have hdrop := State.dropPoints_sane h die
  have hfail := hdrop.wr die Reg.TTBL_STAT_CHECK_FAIL 0
  unfold State.startCheck
  refine ⟨State.on_wr_one hfail die rfl, ?_, ?_⟩
  · rw [State.on_wr_other hfail, State.on_wr_other hdrop]
    exact (State.dropPoints_off h die).2
  · rw [State.on_wr_other hfail]
    exact State.on_wr_zero hdrop die _

/-- A check that starts on one die leaves the others as they are. -/
theorem State.startCheck_on {s : State} (h : s.Sane) {die e : Nat} (he : e % 8 ≠ die % 8) (f : FieldDef) :
    (s.startCheck die).on e f = s.on e f := by
  have hdrop := State.dropPoints_sane h die
  have hrd : (s.dropPoints die).rd e f = s.rd e f := by
    have hpending := State.rd_wr_die (h.wr die Reg.TTBL_STAT_CHECKING 0) Reg.TTBL_STAT_PENDING f 0 he
    exact hpending.trans (State.rd_wr_die h _ _ 0 he)
  unfold State.startCheck State.on
  rw [State.rd_wr_die (hdrop.wr ..) _ _ _ he, State.rd_wr_die hdrop _ _ _ he, hrd]

theorem ttblCtl_points {s : State} (die : Nat) {v : Nat} (hv : bit v 0 = true) :
    ∃ t, Moves 0x6000000080101000010 s t ∧ ttblCtl die s v = t.startCheck die := by
  unfold ttblCtl
  rw [hv]
  extract_lets t u
  have ht : Moves 0x6000000080101000010 s t := .ite (State.disturbPart_moves s die) .refl
  have hu : Moves 0x6000000080101000010 s u := .ite (ht.step (State.dropPoints_moves t die)) ht
  exact ⟨u, hu, if_pos rfl⟩

theorem ttblPoints_acts {s : State} (h : s.Sane) {w : Who} {die word : Nat} (hd : isScan die = true)
    (ht : s.takes w die 9 = true) (hf : s.fits w die 9 0x100 (word ||| 1) = true) :
    Completes (.ttblPoints w die word) s fun t =>
      t.on die Reg.TTBL_STAT_CHECKING = true ∧ t.on die Reg.TTBL_STAT_PENDING = false ∧
      t.on die Reg.TTBL_STAT_CHECK_FAIL = false := by
  have hbit : bit (word ||| 1) 0 = true := by
    rw [bit_eq_testBit, Nat.testBit_or]
    exact Bool.or_true _
  obtain ⟨t, hmove, heq⟩ := ttblCtl_points (s := written s w die 9 0x100 (word ||| 1)) die hbit
  refine ⟨t.startCheck die, ?_, State.startCheck_shows (hmove.sane (written_sane h ..)) die⟩
  show execTtblPoints w die word s = _
  rw [execTtblPoints, if_pos hd, writeThen_fits ht hf, heq]

theorem ttblCtl_cancel (die : Nat) (s : State) : ttblCtl die s 2 = (s.disturbPart die).dropPoints die := rfl

theorem ttblCtl_plain : ∀ die ∈ scanDies, plainRegister die 9 0x100 2 = true := by decide +kernel

theorem ttblCancel_acts {s : State} (h : s.Sane) {w : Who} {die : Nat} (hd : isScan die = true)
    (ht : s.takes w die 9 = true) :
    Completes (.ttblCancel w die) s fun t =>
      t.on die Reg.TTBL_STAT_CHECKING = false ∧ t.on die Reg.TTBL_STAT_PENDING = false := by
  have hmove := State.disturbPart_moves (written s w die 9 0x100 2) die
  refine ⟨_, ?_, State.dropPoints_off (hmove.sane (written_sane h ..)) die⟩
  show execTtblCancel w die s = _
  rw [execTtblCancel, if_pos hd, writeThen_plain ht (ttblCtl_plain die (mem_scanDies hd)), ttblCtl_cancel]

/-! ### The end of a check (R83) -/

/-- A check that failed. -/
def State.checkFailed (s : State) (die r k : Nat) : State :=
  (((s.wr die Reg.TTBL_STAT_CHECK_FAIL 1).wr die Reg.TTBL_STAT_FAIL_ROW r).wr die Reg.TTBL_STAT_FAIL_REASON k).irq die 0x09 1

/-- A check that passed. -/
def State.checkStood (s : State) (die : Nat) : State :=
  { s.wr die Reg.TTBL_STAT_PENDING 1 with checkPassed := SMap.insert s.checkPassed die s.cycle }

/-- Without a part-wide set no die is in one, whatever register is written. -/
theorem State.wr_notInPart {s : State} (hp : s.points.standing = false) {die v : Nat} {f : FieldDef} :
    ((s.wr die f v).points.standing && inDies (s.wr die f v).points.named die) = false := by
  rw [show (s.wr die f v).points = s.points from rfl, hp]
  rfl

theorem State.endCheck_failed {s : State} {die r k : Nat} (hp : s.points.standing = false)
    (hc : (s.wr die Reg.TTBL_STAT_CHECKING 0).checkBank die (1 - (s.wr die Reg.TTBL_STAT_CHECKING 0).activeBank die) =
      some (r, k)) : s.endCheck die = (s.wr die Reg.TTBL_STAT_CHECKING 0).checkFailed die r k := by
  unfold State.endCheck
  dsimp only
  rw [hc, State.wr_notInPart hp]
  rfl

theorem State.endCheck_stood {s : State} {die : Nat} (hp : s.points.standing = false)
    (hc : (s.wr die Reg.TTBL_STAT_CHECKING 0).checkBank die (1 - (s.wr die Reg.TTBL_STAT_CHECKING 0).activeBank die) = none) :
    s.endCheck die = (s.wr die Reg.TTBL_STAT_CHECKING 0).checkStood die := by
  unfold State.endCheck
  dsimp only
  rw [hc, State.wr_notInPart hp]
  rfl

theorem State.checkFailed_shows {s : State} (h : s.Sane) (die r k : Nat) :
    (s.checkFailed die r k).on die Reg.TTBL_STAT_CHECKING = s.on die Reg.TTBL_STAT_CHECKING ∧
      (s.checkFailed die r k).on die Reg.TTBL_STAT_CHECK_FAIL = true ∧
      (s.checkFailed die r k).rd die Reg.TTBL_STAT_FAIL_ROW = r % 2 ^ Reg.TTBL_STAT_FAIL_ROW.width ∧
      (s.checkFailed die r k).rd die Reg.TTBL_STAT_FAIL_REASON = k % 2 ^ Reg.TTBL_STAT_FAIL_REASON.width := by
  have h1 := h.wr die Reg.TTBL_STAT_CHECK_FAIL 1
  have h2 := h1.wr die Reg.TTBL_STAT_FAIL_ROW r
  have h3 := h2.wr die Reg.TTBL_STAT_FAIL_REASON k
  unfold State.checkFailed State.on
  rw [State.irq_rd h3 (by decide), State.irq_rd h3 (by decide), State.irq_rd h3 (by decide), State.irq_rd h3 (by decide)]
  refine ⟨?_, ?_, ?_, State.rd_wr_same h2 ..⟩
  · rw [State.rd_wr_other h2, State.rd_wr_other h1, State.rd_wr_other h]
  · rw [State.rd_wr_other h2, State.rd_wr_other h1, State.rd_wr_same h]
    rfl
  · rw [State.rd_wr_other h2, State.rd_wr_same h1]

theorem State.checkStood_shows {s : State} (h : s.Sane) (die : Nat) :
    (s.checkStood die).on die Reg.TTBL_STAT_CHECKING = s.on die Reg.TTBL_STAT_CHECKING ∧
      (s.checkStood die).on die Reg.TTBL_STAT_PENDING = true ∧ SMap.find? (s.checkStood die).checkPassed die = some s.cycle :=
  ⟨State.on_wr_other (e := die) (die := die) (f := Reg.TTBL_STAT_PENDING) h 1, State.on_wr_one (f := Reg.TTBL_STAT_PENDING) h die rfl,
    SMap.find?_insert_same ..⟩

theorem pointsCheckEnd_acts {s : State} (h : s.Sane) {die : Nat} (hd : isScan die = true)
    (hon : s.on die Reg.TTBL_STAT_CHECKING = true) (hp : s.points.standing = false) :
    let u := s.wr die Reg.TTBL_STAT_CHECKING 0
    Completes (.pointsCheckEnd die) s fun t =>
      t.on die Reg.TTBL_STAT_CHECKING = false ∧
      (u.checkBank die (1 - s.activeBank die) = none →
        t.on die Reg.TTBL_STAT_PENDING = true ∧ SMap.find? t.checkPassed die = some s.cycle) ∧
      (∀ r k, u.checkBank die (1 - s.activeBank die) = some (r, k) →
        t.on die Reg.TTBL_STAT_CHECK_FAIL = true ∧ t.rd die Reg.TTBL_STAT_FAIL_ROW = r % 2 ^ Reg.TTBL_STAT_FAIL_ROW.width ∧
        t.rd die Reg.TTBL_STAT_FAIL_REASON = k % 2 ^ Reg.TTBL_STAT_FAIL_REASON.width) := by
  intro u
  have hexec : exec (.pointsCheckEnd die) s = .next (s.endCheck die) := by
    show execPointsCheckEnd die s = _
    rw [execPointsCheckEnd, hd, hon]
    rfl
  have hu : u.Sane := h.wr ..
  have hoff : u.on die Reg.TTBL_STAT_CHECKING = false := State.on_wr_zero h die _
  have hbank : u.activeBank die = s.activeBank die := State.rd_wr_other h 0
  refine ⟨s.endCheck die, hexec, ?_⟩
  cases hc : u.checkBank die (1 - s.activeBank die) with
  | none =>
    rw [State.endCheck_stood hp (by rw [hbank]; exact hc)]
    obtain ⟨hchecking, hpending, hpassed⟩ := State.checkStood_shows hu die
    exact ⟨hchecking.trans hoff, fun _ => ⟨hpending, hpassed⟩, fun r k hrk => nomatch hrk⟩
  | some rk =>
    obtain ⟨r, k⟩ := rk
    rw [State.endCheck_failed hp (by rw [hbank]; exact hc)]
    obtain ⟨hchecking, hfail, hrow, hreason⟩ := State.checkFailed_shows hu die r k
    refine ⟨hchecking.trans hoff, fun hn => (Option.some_ne_none _ hn).elim, fun r' k' hrk => ?_⟩
    obtain ⟨rfl, rfl⟩ := Prod.mk.inj (Option.some.inj hrk)
    exact ⟨hfail, hrow, hreason⟩

/-! ### Points set to several dies (R96) -/

/-- What a die's header, its rail, its fence and its role say does not stand on the pages of the Timetable and the Tick. -/
theorem Moves.uncheckable {s t : State} (h : Moves 0x60000000801010000d0 s t) (w : s.Sane) (d : Nat) :
    t.uncheckable d = s.uncheckable d := by
  unfold State.uncheckable State.powered State.fenced State.role
  rw [h.rd w 0 Reg.PWR_STAT_ON, h.rd w 0 Reg.PART_STAT_PRESENT, h.rd w 0 Reg.FAB_STAT_FENCED, h.rd w 0 Reg.PART_ROLES_ROLES]

theorem State.startChecks_moves (dies : List Nat) (s : State) :
    Moves 0x2000000080001000010 s (dies.foldl State.startCheck s) :=
  Moves.foldl (fun _ _ => (State.startCheck_moves ..).sub) .refl

/-- A check that starts leaves a running check of any die running. -/
theorem State.startCheck_keeps {s : State} (h : s.Sane) {d e : Nat} (hd : d ∈ scanDies) (he : e ∈ scanDies)
    (hon : d = e ∨ s.on d Reg.TTBL_STAT_CHECKING = true) : (s.startCheck e).on d Reg.TTBL_STAT_CHECKING = true := by
  by_cases heq : d = e
  · rw [heq]
    exact (State.startCheck_shows h e).1
  · have hne : d % 8 ≠ e % 8 := by
      have hdr := isScan_iff.mp (mem_scanDies_iff.mp hd)
      have her := isScan_iff.mp (mem_scanDies_iff.mp he)
      omega
    rw [State.startCheck_on h hne]
    exact hon.resolve_left heq

theorem State.startChecks_on {dies : List Nat} (hsub : ∀ e ∈ dies, e ∈ scanDies) {d : Nat} (hd : d ∈ scanDies) {s : State}
    (h : s.Sane) (hon : d ∈ dies ∨ s.on d Reg.TTBL_STAT_CHECKING = true) :
    (dies.foldl State.startCheck s).on d Reg.TTBL_STAT_CHECKING = true := by
  induction dies generalizing s with
  | nil => exact hon.resolve_left List.not_mem_nil
  | cons e dies ih =>
    rw [List.foldl_cons]
    refine ih (fun x hx => hsub x (List.mem_cons_of_mem e hx)) (State.startCheck_sane h e) ?_
    rcases hon with hmem | hon
    · rcases List.mem_cons.mp hmem with heq | hmem
      · exact .inr (State.startCheck_keeps h hd (hsub e List.mem_cons_self) (.inl heq))
      · exact .inl hmem
    · exact .inr (State.startCheck_keeps h hd (hsub e List.mem_cons_self) (.inr hon))

/-- An earlier set is dropped and `POINTS_FAIL` and `POINTS_PENDING` fall. -/
def State.pointsCleared (s : State) : State :=
  ((if s.points.standing then (scanDies.filter (inDies s.points.named)).foldl State.dropPoints s else s).wr 0
    Reg.TICK_STAT_POINTS_FAIL 0).wr 0 Reg.TICK_STAT_POINTS_PENDING 0

/-- The checks of a new set. -/
def State.pointsChecked (s : State) (mask : Nat) : State :=
  (scanDies.filter (inDies mask)).foldl State.startCheck { s.pointsCleared with points := ⟨true, mask, 0⟩ }

theorem State.pointsCleared_moves (s : State) : Moves 0x6000000080101000010 s s.pointsCleared :=
  (Moves.step (.ite (State.dropAll_moves ..).sub .refl) (State.wr_moves ..) (Moves.at 10 rfl)).step (State.wr_moves ..)
    (Moves.at 10 rfl)

theorem State.pointsNamed_moves (s : State) (p : PartPoints) :
    Moves 0x6000000080101000010 s { s.pointsCleared with points := p } :=
  .set_32 s.pointsCleared_moves

theorem State.pointsChecked_moves (s : State) (mask : Nat) : Moves 0x6000000080101000010 s (s.pointsChecked mask) :=
  (s.pointsNamed_moves _).step (State.startChecks_moves ..)

theorem State.pointsGo_zero (s : State) : s.pointsGo 0 = { s.pointsCleared with points := ⟨false, 0, 0⟩ } := rfl

theorem State.pointsGo_checked {s : State} (h : s.Sane) {mask : Nat} (hm : mask ≠ 0)
    (hc : ∀ d ∈ scanDies, inDies mask d = true → s.uncheckable d = false) : s.pointsGo mask = s.pointsChecked mask := by
  have hnone : (scanDies.filter (inDies mask)).find? (s.pointsChecked mask).uncheckable = none := by
    refine List.find?_eq_none.mpr fun d hd => ?_
    obtain ⟨hmem, hin⟩ := List.mem_filter.mp hd
    rw [Moves.uncheckable (s.pointsChecked_moves mask).sub h, hc d hmem hin]
    exact Bool.false_ne_true
  unfold State.pointsGo
  dsimp only
  rw [if_neg hm]
  unfold State.pointsChecked State.pointsCleared at hnone ⊢
  rw [hnone]

theorem State.pointsGo_shows {s : State} (h : s.Sane) {mask : Nat}
    (hc : ∀ d ∈ scanDies, inDies mask d = true → s.uncheckable d = false) :
    (s.pointsGo mask).points = (if mask = 0 then ⟨false, 0, 0⟩ else ⟨true, mask, 0⟩) ∧
      ∀ d ∈ scanDies, inDies mask d = true → (s.pointsGo mask).on d Reg.TTBL_STAT_CHECKING = true := by
  by_cases hm : mask = 0
  · subst hm
    refine ⟨by rw [State.pointsGo_zero]; rfl, fun d hd hin => ?_⟩
    rw [inDies_eq (isScan_of_inDies hin), Nat.zero_testBit] at hin
    exact (Bool.false_ne_true hin).elim
  · rw [State.pointsGo_checked h hm hc, if_neg hm]
    refine ⟨(State.startChecks_moves ..).part .points, fun d hd hin => ?_⟩
    exact State.startChecks_on (fun e he => (List.mem_filter.mp he).1) hd ((s.pointsNamed_moves _).sane h)
      (.inl (List.mem_filter.mpr ⟨hd, hin⟩))

theorem tickPoints_plain : ∀ dies < 64, plainRegister 0 0x0A 0x114 (0x100 ||| dies) = true := by decide +kernel

theorem tickPointsGo_acts {s : State} (h : s.Sane) {w : Who} {dies : Nat} (hlt : dies < 64) (ht : s.takes w 0 0x0A = true)
    (hc : ∀ d ∈ scanDies, inDies dies d = true → s.uncheckable d = false) :
    Completes (.tickPointsGo w dies) s fun t =>
      t.points = (if dies = 0 then ⟨false, 0, 0⟩ else ⟨true, dies, 0⟩) ∧
      ∀ d ∈ scanDies, inDies dies d = true → t.on d Reg.TTBL_STAT_CHECKING = true := by
  have hstored := written_moves s w 0 0x0A 0x114 (0x100 ||| dies)
  have hnamed : (written s w 0 0x0A 0x114 (0x100 ||| dies)).rd 0 Reg.TICK_POINTS_DIES = dies := by
    rw [written_get h w (by decide +kernel) (by decide +kernel) rfl]
    have hget : ∀ n < 64, Reg.TICK_POINTS_DIES.get (0x100 ||| n) = n := by decide
    exact hget dies hlt
  have hgo : ∀ n < 64, bit (0x100 ||| n) 8 = true := by decide
  refine ⟨(written s w 0 0x0A 0x114 (0x100 ||| dies)).pointsGo dies, ?_, State.pointsGo_shows (hstored.sane h) ?_⟩
  · show execTickPointsGo w dies s = _
    rw [execTickPointsGo, writeThen_plain ht (tickPoints_plain dies hlt), tickPoints, hgo dies hlt, if_pos rfl, hnamed]
  · intro d hd hin
    rw [Moves.uncheckable (hstored.sub (Moves.at 10 rfl)) h]
    exact hc d hd hin

/-! ### The margin (R100) -/

theorem fwatchCtl_clear (s : State) : fwatchCtl s 1 = s.resetField 0 Reg.FWATCH_MARGIN_CYCLES := rfl

theorem marginClear_acts {s : State} (h : s.Sane) {w : Who} (ht : s.takes w 0 0x0B = true) :
    Completes (.marginClear w 1) s fun t => t.rd 0 Reg.FWATCH_MARGIN_CYCLES = 0x1FFFFFF := by
  refine ⟨(written s w 0 0x0B 0x108 1).resetField 0 Reg.FWATCH_MARGIN_CYCLES, ?_, State.rd_wr_same (written_sane h ..) ..⟩
  show execMarginClear w 1 s = _
  rw [execMarginClear, writeThen_plain ht (by decide +kernel), fwatchCtl_clear]

/-! ### The master of the time is lost and found (R67) -/

/-- HOLDOVER changes and its interrupt source is raised. -/
def State.holdoverRaised (s : State) (v : Nat) : State := (s.wr 0 Reg.TICK_STAT_HOLDOVER v).irq 0 0x0A 2

theorem State.holdoverRaised_shows {s : State} (h : s.Sane) (v : Nat) :
    (s.holdoverRaised v).rd 0 Reg.TICK_STAT_HOLDOVER = v % 2 ∧
      bit ((s.holdoverRaised v).rd 0 (IRQ_RAW_SRC 0x0A)) 2 = true :=
  ⟨(State.irq_rd (h.wr ..) (by decide)).trans (State.rd_wr_same h ..), State.bit_irq (h.wr ..) 0 0x0A (by decide)⟩

/-- The archive entry, the measurement that ends and the cause of a lost master. -/
def State.masterMissed (s : State) : State :=
  let u := s.archive 0x0A 2 .info [1]
  (if u.rd 0 Reg.RTC_MEAS_CFG_REF = 0 ∧ u.on 0 Reg.RTC_MEAS_RUNNING = true then u.measAbandon else u).raiseCause 6

theorem State.masterMissed_moves (s : State) : Moves 0x100000240400000080080000210 s s.masterMissed := by
  unfold State.masterMissed
  extract_lets u
  have hu : Moves 0x100000240400000080080000210 s u := (State.archive_moves ..).sub
  exact (Moves.ite (hu.step (State.measAbandon_moves ..)) hu).step (State.raiseCause_moves ..)

theorem execPtpMasterLost_eq {s : State} (h : s.on 0 Reg.PTP_STAT_SLAVE = true) : execPtpMasterLost s =
    .next ((ptpDecide (s.setPtpPort (s.rd 0 Reg.PTP_STAT_SLAVE_PORT)
      { s.ptpPort (s.rd 0 Reg.PTP_STAT_SLAVE_PORT) with announce := none })).holdoverRaised 1).masterMissed := by
  unfold execPtpMasterLost
  rw [if_pos h]
  rfl

theorem ptpMasterLost_acts {s : State} (h : s.Sane) (hslave : s.on 0 Reg.PTP_STAT_SLAVE = true) :
    Completes .ptpMasterLost s fun t =>
      t.on 0 Reg.TICK_STAT_HOLDOVER = true ∧ bit (t.rd 0 (IRQ_RAW_SRC 0x0A)) 2 = true := by
  refine ⟨_, execPtpMasterLost_eq hslave, ?_⟩
  have hdecided := (ptpDecide_moves _).sane ((State.setPtpPort_moves s (s.rd 0 Reg.PTP_STAT_SLAVE_PORT)
    { s.ptpPort (s.rd 0 Reg.PTP_STAT_SLAVE_PORT) with announce := none }).sane h)
  generalize ptpDecide _ = u at hdecided ⊢
  obtain ⟨hon, hirq⟩ := State.holdoverRaised_shows hdecided 1
  have hraised : (u.holdoverRaised 1).Sane := (State.irq_moves ..).sane (hdecided.wr ..)
  have hmissed := (u.holdoverRaised 1).masterMissed_moves
  dsimp only
  rw [hmissed.on hraised 0 _, hmissed.rd hraised 0 (IRQ_RAW_SRC 0x0A), State.on, hon]
  exact ⟨rfl, hirq⟩

theorem execPtpMasterFound_eq {s : State} (h : s.on 0 Reg.TICK_STAT_HOLDOVER = true) : execPtpMasterFound s =
    .next (((ptpDecide (s.wr 0 Reg.TICK_STAT_HOLDOVER 0)).irq 0 0x0A 2).archive 0x0A 2 .info [0]) := by
  unfold execPtpMasterFound
  rw [if_pos h]

theorem ptpMasterFound_acts {s : State} (h : s.Sane) (hhold : s.on 0 Reg.TICK_STAT_HOLDOVER = true) :
    Completes .ptpMasterFound s fun t =>
      t.on 0 Reg.TICK_STAT_HOLDOVER = false ∧ bit (t.rd 0 (IRQ_RAW_SRC 0x0A)) 2 = true := by
  refine ⟨_, execPtpMasterFound_eq hhold, ?_⟩
  have hcleared := h.wr 0 Reg.TICK_STAT_HOLDOVER 0
  have hdecide := ptpDecide_moves (s.wr 0 Reg.TICK_STAT_HOLDOVER 0)
  have hoff : (ptpDecide (s.wr 0 Reg.TICK_STAT_HOLDOVER 0)).on 0 Reg.TICK_STAT_HOLDOVER = false :=
    (hdecide.on hcleared 0 _).trans (State.on_wr_zero h 0 _)
  have hdecided := hdecide.sane hcleared
  generalize ptpDecide (s.wr 0 Reg.TICK_STAT_HOLDOVER 0) = u at hoff hdecided ⊢
  have hraised : (u.irq 0 0x0A 2).Sane := (State.irq_moves ..).sane hdecided
  have harchive := State.archive_moves (u.irq 0 0x0A 2) 0x0A 2 .info [0]
  dsimp only
  rw [harchive.on hraised 0 _, harchive.rd hraised 0 (IRQ_RAW_SRC 0x0A), State.on, State.irq_rd hdecided (by decide)]
  exact ⟨hoff, State.bit_irq hdecided 0 0x0A (by decide)⟩

/-- Settles O18: each command's register write, or its event, taken through what it leaves of the rows, of the checks of
R83 and R96, of the margin and of HOLDOVER. -/
theorem timetableCommandsAct : Obligations.TimetableCommandsAct := by
  unfold Obligations.TimetableCommandsAct
  intro s w h
  exact ⟨fun _ _ hd ht hf hb hr hne => ttblRowWrite_acts h hd ht hf hb hr hne,
    fun _ _ hd ht hf => ttblPoints_acts h hd ht hf,
    fun _ hd ht => ttblCancel_acts h hd ht,
    fun _ hd hon hp => pointsCheckEnd_acts h hd hon hp,
    fun _ hlt ht hc => tickPointsGo_acts h hlt ht hc,
    fun ht => marginClear_acts h ht,
    fun hslave => ptpMasterLost_acts h hslave,
    fun hhold => ptpMasterFound_acts h hhold⟩

end Sys2Proof.Machine
end

section
/-! SUPPORT.  A PTP message that names no Line port (R243): `Sane` bounds no register by its width, and the statement no port
of a message.  A `PTP.CFG.PORTS` that holds a bit beyond its four makes PTP run on port 961, whose `PTP.PDELAYn` lies 4,096
bytes behind `IRQ_RAW` of the page and so in its place. -/

open Sys2Proof Sys2Proof.Machine Sys2Proof.Bits
namespace Sys2Proof.Machine
set_option Elab.async false

/-- A value under a register field, whatever the field's width. -/
def State.putWide (s : State) (f : FieldDef) (v : Nat) : State := { s with regs := SMap.insert s.regs (f.key 0) v }

/-- A Sync of domain 0, one-step, from the port of identity 0 at time 0. -/
def strayBody : List Byte := [0, 2, 0, 44] ++ List.replicate 42 0

/-- The Sync as port 961 would have received it at time 5. -/
def straySync : WireFrame := ⟨961, 5, List.replicate 14 0 ++ strayBody⟩

/-- PTP runs on port 961, a slave of the port of identity 0; port 0 runs no PTP and holds an announcement that is over. -/
def strayState : State :=
  let s := ((State.reset.putWide Reg.PTP_CFG_PORTS (2 ^ 961)).putWide Reg.PTP_STAT_STATES (0x3333 + 9 * 2 ^ (4 * 961))).putWide
    (Reg.LINEn_STAT_LINK.p 961) 1
  { s with
    firmware := true, time := 10000000000
    exch := { s.exch with
      ptpIn := [straySync]
      ptp := [(0, { PtpPort.idle with announce := some [] }), (961, { PtpPort.idle with announce := some strayBody })] } }

/-- The state after the message has left the queue and the announcements have expired. -/
def strayExpired : State := ptpExpire { strayState with exch := { strayState.exch with ptpIn := [] } }

theorem strayState_sane : strayState.Sane := by
  unfold State.Sane
  decide +kernel

/-- The expiry makes port 0 forget its master, and the grandmaster changes: the interrupt source that is raised stands where
the delay of port 961 is read. -/
theorem strayExpired_delay : strayState.rd 0 (Reg.PTP_PDELAYn_NS.i 961) = 0 ∧
    strayExpired.rd 0 (Reg.PTP_PDELAYn_NS.i 961) = 2 := by
  decide +kernel

/-- The offset is taken with what the expiry left in the place of the delay. -/
theorem stray_offset : (ptpHandle strayExpired 961 5 strayBody).rd 0 Reg.PTP_OFFSET_NS = 3 := by
  decide +kernel

theorem stray_accepted : strayState.firmware = true ∧ strayState.ptpOn 961 = true ∧
    byteAt strayBody 4 = strayState.rd 0 Reg.PTP_CFG_DOMAIN ∧ authTlv strayBody = false ∧
    fromParent strayExpired 961 strayBody = true := by
  decide +kernel

/-- The oldest message of a port on which PTP runs. -/
theorem exec_ptpMessage {s : State} {f : WireFrame} {rest : List WireFrame} (hin : s.exch.ptpIn = f :: rest)
    (hon : (s.firmware && s.ptpOn f.port) = true) : exec .ptpMessage s =
      .next (ptpHandle (ptpExpire { s with exch := { s.exch with ptpIn := rest } }) f.port f.stamp (f.bytes.drop 14)) := by
  show execPtpMessage s = _
  unfold execPtpMessage
  rw [hin]
  exact congrArg _ (if_pos hon)

/-- Refutes O38: the first clause bounds neither the port of a message nor the width of `PTP.CFG.PORTS`. `strayState` meets every
hypothesis of the clause, whose offset is 5 with the delay of 0 before the expiry; the model's is 3, with the 2 that the expiry
leaves in the delay's place. -/
theorem not_timeAndGatesAct : ¬ Obligations.TimeAndGatesAct := by
  unfold Obligations.TimeAndGatesAct
  intro h
  obtain ⟨hmessage, -⟩ := h strayState strayState_sane (by decide) (by decide)
  obtain ⟨t, hexec, -, hsync⟩ := hmessage straySync [] rfl
  obtain ⟨hfirmware, hon, hdomain, hauth, hparent⟩ := stray_accepted
  obtain ⟨hoffset, -⟩ := hsync hfirmware hon (by decide) hdomain (by decide) hauth (by decide) hparent (by decide)
  rw [exec_ptpMessage (rest := []) (f := straySync) rfl (Bool.and_eq_true_iff.mpr ⟨hfirmware, hon⟩)] at hexec
  injection hexec with ht
  rw [← ht] at hoffset
  exact absurd (stray_offset.symm.trans hoffset) (by decide +kernel)

end Sys2Proof.Machine
end

section
/-! SUPPORT.  A lever that is issued: what it sees of the state, and what its retirement leaves (R108 to R111, R119, R124 to
R127). -/

open Sys2Proof Sys2Proof.Machine Sys2Proof.Bits
namespace Sys2Proof.Machine
set_option Elab.async false

/-! ### What a lever sees -/

/-- `t` shows a lever of a die what `s` shows it: the bit store with its error marks, the Timer rack, the mask table. -/
structure LeverSees (die : Nat) (s t : State) : Prop where
  mem : t.mem = s.mem
  ecc : t.ecc = s.ecc
  timers : t.timers = s.timers
  counters : t.counters = s.counters
  mask : ∀ i < 256, maskEntry t die i = maskEntry s die i

theorem rackWord_congr {s t : State} (ht : t.timers = s.timers) (hc : t.counters = s.counters) (die w : Nat) :
    rackWord t die w = rackWord s die w := by
  unfold rackWord State.timer State.counter
  rw [ht, hc]

/-- A word outside space T depends on the memory alone. -/
theorem bitWord_congr_mem {s t : State} (hm : t.mem = s.mem) (die : Nat) {sp : Nat} (hsp : sp ≠ 4) (w : Nat) :
    bitWord t die sp w = bitWord s die sp w := by
  unfold bitWord
  rw [if_neg hsp, if_neg hsp, State.load_congr hm]

theorem bitWord_congr {s t : State} (hm : t.mem = s.mem) (ht : t.timers = s.timers) (hc : t.counters = s.counters)
    (die sp w : Nat) : bitWord t die sp w = bitWord s die sp w := by
  by_cases hsp : sp = 4
  · unfold bitWord
    rw [if_pos hsp, if_pos hsp, rackWord_congr ht hc]
  · exact bitWord_congr_mem hm die hsp w

theorem operand_congr {s t : State} {die sp w : Nat} (he : t.ecc = s.ecc) (hb : bitWord t die sp w = bitWord s die sp w) :
    operand t die sp w = operand s die sp w := by
  unfold operand State.eccAt
  rw [he, hb]

section
variable {die : Nat} {s t : State} (h : LeverSees die s t)
include h

theorem LeverSees.operand (sp w : Nat) : operand t die sp w = operand s die sp w :=
  operand_congr h.ecc (bitWord_congr h.mem h.timers h.counters die sp w)

theorem LeverSees.source (x : LeverSrc) : source t die x = source s die x := by
  rw [Machine.source, h.operand, Machine.source]

theorem LeverSees.leverResult (l : Lever) (a : DWord × Option LeverFault) : leverResult t die l a = leverResult s die l a := by
  rw [Machine.leverResult, h.source, h.source, h.operand, Machine.leverResult]

end

/-- The mask field of a lever names an entry of the mask table. -/
theorem State.lever_mask_lt (s : State) (die : Nat) : (s.lever die).mask < 256 := field_lt _ 12 8

/-! ### The lever that is next is issued -/

/-- The state in which the lever that is next acts: its cycle used, its fetch and the reads of its operands noted (R111,
R124). -/
def State.leverRun (s : State) (die : Nat) : State :=
  (leverReads (s.lever die)).foldl (noteOperand die)
    (((noteLever s die (s.sbox die).next).useCycles die 0 1).wr die Reg.SBOX_STAT_LEVER (s.sbox die).next)

theorem State.leverReady_iff {s : State} {die op : Nat} : s.leverReady die op = true ↔
    isScan die = true ∧ 0 < s.issueLeft die ∧ (s.sbox die).next ≤ 131071 ∧ leverBad s die (s.sbox die).next = false ∧
      (s.lever die).op = op := by
  simp only [State.leverReady, Bool.and_eq_true, decide_eq_true_eq, Bool.not_eq_true', beq_iff_eq, and_assoc]

/-- A lever of one of the operations of a command acts and retires. -/
theorem State.issue_ready {s : State} {die op : Nat} (h : s.leverReady die op = true) {ops : Nat → Bool} (hop : ops op = true)
    (run : State → Nat → Lever → LeverDone) :
    s.issue die ops run = State.retire die (s.sbox die).next (run (s.leverRun die) (s.sbox die).next (s.lever die)) := by
  obtain ⟨hd, hleft, hidx, hbad, rfl⟩ := State.leverReady_iff.mp h
  rw [State.issue, if_pos (by simp only [hd, hleft, hidx, decide_true, Bool.and_self]), hbad, if_neg (by decide),
    if_pos (show ops (leverAt s die (s.sbox die).next).op = true from hop)]
  rfl

/-- A command that issues the lever that is next answers the state in which that lever has retired. -/
theorem completes_lever {s : State} {die op : Nat} {c : Instr} {ops : Nat → Bool} {run : State → Nat → Lever → LeverDone}
    (hc : exec c s = .next (s.issue die ops run)) (h : s.leverReady die op = true) (hop : ops op = true) {P : State → Prop}
    (hp : P (State.retire die (s.sbox die).next (run (s.leverRun die) (s.sbox die).next (s.lever die)))) : Completes c s P :=
  ⟨_, hc.trans (congrArg _ (State.issue_ready h hop run)), hp⟩

theorem State.leverRun_moves (s : State) (die : Nat) : Moves 0x208c00000080000020210 s (s.leverRun die) :=
  Moves.foldl (fun _ _ => Moves.sub (noteOperand_moves ..))
    (((Moves.sub (noteLever_moves ..)).step (State.useCycles_moves ..)).step (State.wr_moves ..) (Moves.at 11 rfl))

/-- Of the SBOX page, the fetch and the reads of a lever write the index of the lever alone. -/
theorem State.leverRun_rd {s : State} (h : s.Sane) (die e : Nat) {g : FieldDef} (hg : g.code = 0x0B)
    (ha : apart g Reg.SBOX_STAT_LEVER) : (s.leverRun die).rd e g = s.rd e g := by
  have hfetch : Moves 0x200c00000080000020210 s ((noteLever s die (s.sbox die).next).useCycles die 0 1) :=
    (Moves.sub (noteLever_moves ..)).step (State.useCycles_moves ..)
  have hreads (l : List LeverSrc) (t : State) : Moves 0x200c00000080000000210 t (l.foldl (noteOperand die) t) :=
    Moves.foldl (fun _ _ => noteOperand_moves ..) .refl
  have hf := hfetch.sane h
  rw [State.leverRun, (hreads ..).rd (hf.wr ..) e g (by rw [hg]; rfl), State.rd_wr_other hf _ ha,
    hfetch.rd h e g (by rw [hg]; rfl)]

theorem maskEntry_congr {s t : State} {die i : Nat}
    (hlo : t.rd die (Reg.SBOX_MASKi_LO_BITS.i i) = s.rd die (Reg.SBOX_MASKi_LO_BITS.i i))
    (hhi : t.rd die (Reg.SBOX_MASKi_HI_BITS.i i) = s.rd die (Reg.SBOX_MASKi_HI_BITS.i i)) :
    maskEntry t die i = maskEntry s die i := by
  unfold maskEntry
  rw [hlo, hhi]

theorem Moves.maskEntry {F : Nat} {s t : State} (h : Moves F s t) (w : s.Sane) (die i : Nat)
    (hF : F.testBit (64 + 11) = false := by rfl) : maskEntry t die i = maskEntry s die i :=
  maskEntry_congr (h.rd w die _ hF) (h.rd w die _ hF)

theorem State.leverRun_sees {s : State} (h : s.Sane) (die : Nat) : LeverSees die s (s.leverRun die) where
  mem := (s.leverRun_moves die).part .mem
  ecc := (s.leverRun_moves die).part .ecc
  timers := (s.leverRun_moves die).part .timers
  counters := (s.leverRun_moves die).part .counters
  mask i hi := maskEntry_congr
    (State.leverRun_rd h die die rfl (.inr (.inl (by show (0x800 + i * 8) % 4096 ≠ 0x104; omega))))
    (State.leverRun_rd h die die rfl (.inr (.inl (by show (0x804 + i * 8) % 4096 ≠ 0x104; omega))))

theorem State.leverRun_sane {s : State} (h : s.Sane) (die : Nat) : (s.leverRun die).Sane := (s.leverRun_moves die).sane h

theorem State.leverRun_mask {s : State} (h : s.Sane) (die : Nat) :
    maskEntry (s.leverRun die) die (s.lever die).mask = maskEntry s die (s.lever die).mask :=
  (State.leverRun_sees h die).mask _ (s.lever_mask_lt die)

/-! ### A lever retires -/

/-- The watch and the count of a lever that retires (R126, R170). -/
def State.countLever (s : State) (die idx : Nat) : State := (s.watchLever die idx).inc die Reg.SBOX_RETIRED_COUNT

/-- The Signal Box goes on behind the lever `idx` and those that it skips (R116, R126). -/
def State.nextLever (s : State) (die idx skip : Nat) : State :=
  ((s.useCycles die 0 skip).add die Reg.SBOX_SQUASHED_COUNT skip).setSbox die ⟨idx + 1 + skip, 0, 0⟩

/-- A lever without fault retires. -/
theorem State.retire_clean {die idx : Nat} (hi : idx < 131071) {d : LeverDone} (hf : d.fault = none) (he : d.ends = false) :
    State.retire die idx d = (d.st.countLever die idx).nextLever die idx d.skip := by
  have hne : (idx == 131071) = false := beq_false_of_ne (by omega)
  simp only [State.retire, hf, he, hne, Bool.and_false, Bool.false_eq_true, if_false, Option.map_none, Option.getD_none]
  rfl

/-- A lever retires with a fault that does not stop the slot. -/
theorem State.retire_fault {die idx : Nat} (hi : idx < 131071) {d : LeverDone} {k : LeverFault} (hf : d.fault = some k)
    (he : d.ends = false) (hstop : ((d.st.countLever die idx).leverFault die idx k).faultStops die k = false) :
    State.retire die idx d = ((d.st.countLever die idx).leverFault die idx k).nextLever die idx d.skip := by
  have hne : (idx == 131071) = false := beq_false_of_ne (by omega)
  have hstop : (((d.st.watchLever die idx).inc die Reg.SBOX_RETIRED_COUNT).leverFault die idx k).faultStops die k = false := hstop
  simp only [State.retire, hf, he, hne, Bool.and_false, Bool.false_eq_true, if_false, Option.map_some, Option.getD_some, hstop]
  rfl

theorem State.countLever_moves (s : State) (die idx : Nat) : Moves 0x408000000080000000010 s (s.countLever die idx) :=
  (Moves.sub (State.watchLever_moves ..)).step (State.inc_moves ..) (Moves.at 11 rfl)

theorem State.nextLever_moves (s : State) (die idx skip : Nat) : Moves 0x8000000080008020010 s (s.nextLever die idx skip) :=
  ((Moves.sub (State.useCycles_moves ..)).step (State.add_moves ..) (Moves.at 11 rfl)).step (State.setSbox_moves ..)

theorem State.sbox_setSbox (s : State) (die : Nat) {b : Sbox} (hb : b ≠ ⟨0, 0, 0⟩) : (s.setSbox die b).sbox die = b := by
  rw [State.sbox, State.setSbox, SMap.put, if_neg hb, SMap.get, SMap.find?_insert_same, Option.getD_some]

theorem State.nextLever_sbox (s : State) (die idx skip : Nat) : (s.nextLever die idx skip).sbox die = ⟨idx + 1 + skip, 0, 0⟩ :=
  State.sbox_setSbox _ _ (by rw [Ne, Sbox.mk.injEq]; omega)

theorem State.countLever_rd {s : State} (h : s.Sane) (die idx e : Nat) {g : FieldDef} (hg : g.code = 0x0B)
    (ha : apart g Reg.SBOX_RETIRED_COUNT := by decide) : (s.countLever die idx).rd e g = s.rd e g := by
  have hw := State.watchLever_moves s die idx
  rw [State.countLever, State.inc_rd (hw.sane h) ha, hw.rd h e g (by rw [hg]; rfl)]

theorem State.nextLever_rd {s : State} (h : s.Sane) (die idx skip e : Nat) {g : FieldDef}
    (ha : apart g Reg.SBOX_SQUASHED_COUNT := by decide) : (s.nextLever die idx skip).rd e g = s.rd e g := by
  have hu := State.useCycles_moves s die 0 skip
  exact (State.rd_wr_other (hu.sane h) _ ha).trans (State.rd_congr (hu.part .regs) e g)

/-- What the retirement of a lever without fault leaves, and where the Signal Box stands after it. -/
theorem State.retire_clean_shows {die idx : Nat} (hi : idx < 131071) {d : LeverDone} (hf : d.fault = none) (he : d.ends = false) :
    Moves 0x408000000080008020010 d.st (State.retire die idx d) ∧
      (State.retire die idx d).sbox die = ⟨idx + 1 + d.skip, 0, 0⟩ := by
  rw [State.retire_clean hi hf he]
  exact ⟨(Moves.sub (State.countLever_moves ..)).step (State.nextLever_moves ..), State.nextLever_sbox ..⟩

theorem State.retire_clean_rd {die idx : Nat} (hi : idx < 131071) {d : LeverDone} (hf : d.fault = none) (he : d.ends = false)
    (h : d.st.Sane) (e : Nat) {g : FieldDef} (hg : g.code = 0x0B)
    (hr : apart g Reg.SBOX_RETIRED_COUNT := by decide) (hs : apart g Reg.SBOX_SQUASHED_COUNT := by decide) :
    (State.retire die idx d).rd e g = d.st.rd e g := by
  rw [State.retire_clean hi hf he, State.nextLever_rd ((State.countLever_moves ..).sane h) _ _ _ _ hs,
    State.countLever_rd h _ _ _ hg hr]

end Sys2Proof.Machine
end

section
/-! SUPPORT.  The levers that write a word of the bit store (R108 to R115). -/

open Sys2Proof Sys2Proof.Machine Sys2Proof.Bits
namespace Sys2Proof.Machine
set_option Elab.async false

/-! ### The word that a lever writes -/

/-- The spaces that a lever may write are held in memory. -/
theorem leverMayWrite_space {sp w : Nat} (h : leverMayWrite sp w = true) : sp = 1 ∨ sp = 2 ∨ sp = 5 := by
  simp only [leverMayWrite, Bool.and_eq_true, Bool.or_eq_true, beq_iff_eq] at h
  exact or_assoc.mp h.1

/-- A word of the bit store reads back as a lever has written it. -/
theorem bitWord_setBitWord {s : State} (h : s.Sane) (die : Nat) {sp w : Nat} (hmay : leverMayWrite sp w = true) (v : DWord) :
    bitWord (setBitWord s die sp w v) die sp w = v := by
  obtain ⟨h4, h6, h7⟩ : sp ≠ 4 ∧ sp ≠ 6 ∧ sp ≠ 7 := by
    rcases leverMayWrite_space hmay with rfl | rfl | rfl <;> decide
  simp only [bitWord, setBitWord, h4, h6, h7, false_and, if_false]
  rw [State.load_store_same h, Nat.mod_eq_of_lt v.isLt, BitVec.ofNat_toNat, BitVec.setWidth_eq]

theorem leverWrite_allowed {s : State} {die : Nat} {l : Lever} (hmay : leverMayWrite l.dst.space l.dst.word = true) (v : DWord)
    (f : Option LeverFault) : leverWrite s die l v f = { st := setBitWord s die l.dst.space l.dst.word v, fault := f } :=
  if_pos hmay

/-- A lever that has written its word without fault retires: the word reads back, and the next lever is next. -/
theorem State.retire_word {die idx : Nat} (hi : idx < 131071) {u : State} (hu : u.Sane) {sp w : Nat}
    (hmay : leverMayWrite sp w = true) (v : DWord) {d : LeverDone} (hmem : d.st.mem = (setBitWord u die sp w v).mem)
    (hf : d.fault = none) (he : d.ends = false) (hs : d.skip = 0) :
    bitWord (State.retire die idx d) die sp w = v ∧ ((State.retire die idx d).sbox die).next = idx + 1 := by
  obtain ⟨hmoves, hsbox⟩ := State.retire_clean_shows hi hf he
  have hsp : sp ≠ 4 := by rcases leverMayWrite_space hmay with rfl | rfl | rfl <;> decide
  rw [hsbox, hs, bitWord_congr_mem ((hmoves.part .mem).trans hmem) die hsp, bitWord_setBitWord hu die hmay]
  exact ⟨rfl, rfl⟩

theorem State.retire_leverWrite {die idx : Nat} (hi : idx < 131071) {u : State} (hu : u.Sane) {l : Lever}
    (hmay : leverMayWrite l.dst.space l.dst.word = true) (v : DWord) {f : Option LeverFault} (hf : f = none) :
    bitWord (State.retire die idx (leverWrite u die l v f)) die l.dst.space l.dst.word = v ∧
      ((State.retire die idx (leverWrite u die l v f)).sbox die).next = idx + 1 := by
  rw [leverWrite_allowed hmay]
  exact State.retire_word hi hu hmay v rfl hf rfl rfl

theorem firstFault_none {a b : Option LeverFault} (ha : a = none) (hb : b = none) : firstFault [a, b] = none := by
  rw [ha, hb]
  rfl

/-! ### The truth table (R110) -/

/-- Lane by lane, the OR over a list of minterms is whether one of those that the table holds is met. -/
theorem getLsbD_minterms (tt : Nat) (minterm : Nat → DWord) (k : Nat) (l : List Nat) (r : DWord) :
    (l.foldl (fun r i => if bit tt i then r ||| minterm i else r) r).getLsbD k =
      (r.getLsbD k || l.any fun i => bit tt i && (minterm i).getLsbD k) := by
  induction l generalizing r with
  | nil => simp
  | cons i l ih =>
    rw [List.foldl_cons, ih, List.any_cons]
    cases bit tt i <;> simp [Bool.or_assoc]

/-- The lanes of the inputs meet exactly the minterm that they number. -/
theorem minterm_iff : ∀ a b c d : Bool, ∀ i < 16,
    ((if bit i 0 then a else !a) && (if bit i 1 then b else !b) && (if bit i 2 then c else !c) && (if bit i 3 then d else !d)) =
      decide (i = 8 * ofBool d + 4 * ofBool c + 2 * ofBool b + ofBool a) := by decide

theorem truthIndex_lt (a b c d : Bool) : 8 * ofBool d + 4 * ofBool c + 2 * ofBool b + ofBool a < 16 := by
  cases a <;> cases b <;> cases c <;> cases d <;> decide

theorem getLsbD_ite (p : Bool) (x y : DWord) (k : Nat) : (if p then x else y).getLsbD k = if p then x.getLsbD k else y.getLsbD k :=
  apply_ite (BitVec.getLsbD · k) ..

/-- Lane by lane, the result of R110 is the bit of the truth table that the lanes of the inputs number. -/
theorem getLsbD_truth (tt : Nat) (a b c d : DWord) {k : Nat} (hk : k < 64) : (truth tt a b c d).getLsbD k =
    bit tt (8 * ofBool (d.getLsbD k) + 4 * ofBool (c.getLsbD k) + 2 * ofBool (b.getLsbD k) + ofBool (a.getLsbD k)) := by
  have hminterm (i : Nat) (hi : i < 16) : ((if bit i 0 then a else ~~~a) &&& (if bit i 1 then b else ~~~b) &&&
      (if bit i 2 then c else ~~~c) &&& (if bit i 3 then d else ~~~d)).getLsbD k =
      decide (i = 8 * ofBool (d.getLsbD k) + 4 * ofBool (c.getLsbD k) + 2 * ofBool (b.getLsbD k) + ofBool (a.getLsbD k)) := by
    rw [← minterm_iff _ _ _ _ i hi]
    simp only [BitVec.getLsbD_and, getLsbD_ite, BitVec.getLsbD_not, hk, decide_true, Bool.true_and]
  have hzero : BitVec.getLsbD (0 : DWord) k = false := BitVec.getLsbD_zero
  rw [truth, getLsbD_minterms, hzero, Bool.false_or, Bool.eq_iff_iff, List.any_eq_true]
  constructor
  · rintro ⟨i, hi, hb⟩
    rw [hminterm i (List.mem_range.mp hi), Bool.and_eq_true, decide_eq_true_eq] at hb
    exact hb.2 ▸ hb.1
  · intro hb
    have hlt := truthIndex_lt (a.getLsbD k) (b.getLsbD k) (c.getLsbD k) (d.getLsbD k)
    exact ⟨_, List.mem_range.mpr hlt, by rw [hminterm _ hlt, hb, decide_eq_true rfl, Bool.and_self]⟩

/-- Under the mask the new word, in the other lanes the old one. -/
theorem getLsbD_merge (m new old : DWord) {k : Nat} (hk : k < 64) :
    (merge m new old).getLsbD k = if m.getLsbD k then new.getLsbD k else old.getLsbD k := by
  simp only [merge, BitVec.getLsbD_or, BitVec.getLsbD_and, BitVec.getLsbD_not, hk, decide_true, Bool.true_and]
  cases m.getLsbD k <;> simp

theorem testBit_maskOf (l : List Nat) (i : Nat) : (maskOf l).testBit i = decide (i ∈ l) := by
  have hfold (m : Nat) : (l.foldl (fun m i => m ||| (1 <<< i)) m).testBit i = (m.testBit i || decide (i ∈ l)) := by
    induction l generalizing m with
    | nil => simp
    | cons j l ih =>
      rw [List.foldl_cons, ih, Nat.testBit_or, Nat.one_shiftLeft, Nat.testBit_two_pow, Bool.or_assoc, ← Bool.decide_or]
      simp only [List.mem_cons, eq_comm]
  rw [maskOf, hfold, Nat.zero_testBit, Bool.false_or]

/-- The truth table of a function of four inputs. -/
def truthTable (g : Bool → Bool → Bool → Bool → Bool) : Nat :=
  maskOf ((List.range 16).filter fun i => g (bit i 0) (bit i 1) (bit i 2) (bit i 3))

theorem truthTable_lt (g : Bool → Bool → Bool → Bool → Bool) : truthTable g < 2 ^ 16 := by
  refine Nat.lt_pow_two_of_testBit _ fun i hi => ?_
  rw [truthTable, testBit_maskOf]
  exact decide_eq_false fun hm => absurd (List.mem_range.mp (List.mem_filter.mp hm).1) (Nat.not_lt.mpr hi)

theorem bit_truthIndex : ∀ a b c d : Bool,
    let i := 8 * ofBool d + 4 * ofBool c + 2 * ofBool b + ofBool a
    bit i 0 = a ∧ bit i 1 = b ∧ bit i 2 = c ∧ bit i 3 = d := by decide

theorem bit_truthTable (g : Bool → Bool → Bool → Bool → Bool) (a b c d : Bool) :
    bit (truthTable g) (8 * ofBool d + 4 * ofBool c + 2 * ofBool b + ofBool a) = g a b c d := by
  obtain ⟨ha, hb, hc, hd⟩ := bit_truthIndex a b c d
  rw [bit_eq_testBit, truthTable, testBit_maskOf, Bool.eq_iff_iff, decide_eq_true_eq, List.mem_filter, ha, hb, hc, hd]
  exact and_iff_right (List.mem_range.mpr (truthIndex_lt a b c d))

/-! ### LOGIC and EDGE (R112, R113) -/

/-- What LOGIC does, and EDGE with its edge word for A: the merged result of R110 in the destination. -/
theorem doLogic_retires {s : State} (h : s.Sane) {die : Nat} (hi : (s.sbox die).next < 131071)
    (hmay : leverMayWrite (s.lever die).dst.space (s.lever die).dst.word = true) {a : DWord × Option LeverFault}
    (hf : (leverResult s die (s.lever die) a).2.2 = none) :
    let t := State.retire die (s.sbox die).next (doLogic (s.leverRun die) die (s.lever die) a)
    bitWord t die (s.lever die).dst.space (s.lever die).dst.word = merge (maskEntry s die (s.lever die).mask)
        (leverResult s die (s.lever die) a).1 (operand s die (s.lever die).dst.space (s.lever die).dst.word).1 ∧
      (t.sbox die).next = (s.sbox die).next + 1 := by
  have hs := State.leverRun_sees h die
  have hlogic : doLogic (s.leverRun die) die (s.lever die) a = leverWrite (s.leverRun die) die (s.lever die)
      (merge (maskEntry s die (s.lever die).mask) (leverResult s die (s.lever die) a).1
        (operand s die (s.lever die).dst.space (s.lever die).dst.word).1) (leverResult s die (s.lever die) a).2.2 := by
    rw [← hs.leverResult, ← hs.operand, ← State.leverRun_mask h]
    rfl
  rw [hlogic]
  exact State.retire_leverWrite hi (State.leverRun_sane h die) hmay _ hf

theorem logicLever_acts {s : State} (h : s.Sane) {die : Nat} (hi : (s.sbox die).next < 131071) (hr : s.leverReady die 0x01 = true)
    (hmay : leverMayWrite (s.lever die).dst.space (s.lever die).dst.word = true)
    (hf : (leverResult s die (s.lever die) (source s die (s.lever die).a)).2.2 = none) :
    Completes (.logicLever die) s fun t =>
      bitWord t die (s.lever die).dst.space (s.lever die).dst.word = merge (maskEntry s die (s.lever die).mask)
        (leverResult s die (s.lever die) (source s die (s.lever die).a)).1
        (operand s die (s.lever die).dst.space (s.lever die).dst.word).1 ∧
      (t.sbox die).next = (s.sbox die).next + 1 := by
  refine completes_lever rfl hr rfl ?_
  rw [(State.leverRun_sees h die).source]
  exact doLogic_retires h hi hmay hf

/-- Settles O22: the lanes of the merged result of R110, and the truth table of each function. -/
theorem logicIsAnyFunctionOfFourInputs : Obligations.LogicIsAnyFunctionOfFourInputs := by
  refine ⟨fun s die h hi hr hmay ha hb hc hd => ?_, fun g => ⟨truthTable g, truthTable_lt g, bit_truthTable g⟩⟩
  have hf : (leverResult s die (s.lever die) (source s die (s.lever die).a)).2.2 = none := by
    simp only [leverResult, ha, hb, hc, hd]
    rfl
  obtain ⟨t, hexec, hword, hnext⟩ := logicLever_acts h hi hr hmay hf
  refine ⟨t, hexec, hnext, fun k hk => ?_⟩
  rw [hword, getLsbD_merge _ _ _ hk]
  rw [← getLsbD_truth _ _ _ _ _ hk]
  rfl

theorem edgeLever_acts {s : State} (h : s.Sane) {die : Nat} (hi : (s.sbox die).next < 131071) (hr : s.leverReady die 0x02 = true)
    (hmay : leverMayWrite (s.lever die).dst.space (s.lever die).dst.word = true) (hsp : (s.lever die).a.space = 0)
    (hx : (s.lever die).aux % 4 ≠ 3) :
    let l := s.lever die
    let a := source s die l.a
    let p := source s die { l.a with space := 3 }
    let e := (edgeWord (l.aux % 4) a.1 p.1, firstFault [a.2, p.2])
    (leverResult s die l e).2.2 = none →
    Completes (.edgeLever die) s fun t =>
      bitWord t die l.dst.space l.dst.word = merge (maskEntry s die l.mask) (leverResult s die l e).1
        (operand s die l.dst.space l.dst.word).1 ∧
      (t.sbox die).next = (s.sbox die).next + 1 := by
  intro l a p e hf
  refine completes_lever rfl hr rfl ?_
  have hs := State.leverRun_sees h die
  have hedge : doEdge (s.leverRun die) die l = doLogic (s.leverRun die) die l e := by
    rw [doEdge, if_neg (not_not.mpr hsp), if_neg hx, hs.source, hs.source]
  show bitWord (State.retire die _ (doEdge (s.leverRun die) die l)) die _ _ = _ ∧
    ((State.retire die _ (doEdge (s.leverRun die) die l)).sbox die).next = _
  rw [hedge]
  exact doLogic_retires h hi hmay hf

/-! ### PACK and UNPACK (R115) -/

/-- The word that PACK writes. -/
def packed (o : Nat) (ks : List Nat) (a d : DWord) : DWord :=
  lanes fun j => if o ≤ j ∧ j < o + ks.length then a.getLsbD ((ks[j - o]?).getD 0) else d.getLsbD j

/-- The word that UNPACK writes. -/
def unpacked (o : Nat) (ks : List Nat) (a d : DWord) : DWord :=
  lanes fun k => match ks.idxOf? k with
    | some j => a.getLsbD (o + j)
    | none => d.getLsbD k

theorem doPack_writes {s : State} {die : Nat} {l : Lever} (hsp : l.dst.space = 5)
    (hfit : l.aux % 64 + (maskLanes (maskEntry s die l.mask)).length ≤ 64) : doPack s die l =
      leverWrite s die l (packed (l.aux % 64) (maskLanes (maskEntry s die l.mask)) (source s die l.a).1
        (operand s die l.dst.space l.dst.word).1) (firstFault [(source s die l.a).2, (operand s die l.dst.space l.dst.word).2]) := by
  rw [doPack, if_neg (not_not.mpr hsp), if_neg (Nat.not_lt.mpr hfit)]
  rfl

theorem doUnpack_writes {s : State} {die : Nat} {l : Lever} (hsp : l.a.space = 5)
    (hfit : l.aux % 64 + (maskLanes (maskEntry s die l.mask)).length ≤ 64) : doUnpack s die l =
      leverWrite s die l (unpacked (l.aux % 64) (maskLanes (maskEntry s die l.mask)) (source s die l.a).1
        (operand s die l.dst.space l.dst.word).1) (firstFault [(source s die l.a).2, (operand s die l.dst.space l.dst.word).2]) := by
  rw [doUnpack, if_neg (not_not.mpr hsp), if_neg (Nat.not_lt.mpr hfit)]
  rfl

section
variable {s : State} (h : s.Sane) {die : Nat} (hi : (s.sbox die).next < 131071)
  (hmay : leverMayWrite (s.lever die).dst.space (s.lever die).dst.word = true)
  (hfit : (s.lever die).aux % 64 + (maskLanes (maskEntry s die (s.lever die).mask)).length ≤ 64)
  (ha : (source s die (s.lever die).a).2 = none) (hd : (operand s die (s.lever die).dst.space (s.lever die).dst.word).2 = none)
include h hi hmay hfit ha hd

theorem pack_acts (hr : s.leverReady die 0x04 = true) (hsp : (s.lever die).dst.space = 5) :
    Completes (.pack die) s fun t => (t.sbox die).next = (s.sbox die).next + 1 ∧
      bitWord t die (s.lever die).dst.space (s.lever die).dst.word =
        packed ((s.lever die).aux % 64) (maskLanes (maskEntry s die (s.lever die).mask)) (source s die (s.lever die).a).1
          (operand s die (s.lever die).dst.space (s.lever die).dst.word).1 := by
  have hs := State.leverRun_sees h die
  refine completes_lever rfl hr rfl ?_
  rw [doPack_writes hsp (by rwa [State.leverRun_mask h]), State.leverRun_mask h, hs.source, hs.operand]
  exact (State.retire_leverWrite hi (State.leverRun_sane h die) hmay _ (firstFault_none ha hd)).symm

theorem unpack_acts (hr : s.leverReady die 0x05 = true) (hsp : (s.lever die).a.space = 5) :
    Completes (.unpack die) s fun t => (t.sbox die).next = (s.sbox die).next + 1 ∧
      bitWord t die (s.lever die).dst.space (s.lever die).dst.word =
        unpacked ((s.lever die).aux % 64) (maskLanes (maskEntry s die (s.lever die).mask)) (source s die (s.lever die).a).1
          (operand s die (s.lever die).dst.space (s.lever die).dst.word).1 := by
  have hs := State.leverRun_sees h die
  refine completes_lever rfl hr rfl ?_
  rw [doUnpack_writes hsp (by rwa [State.leverRun_mask h]), State.leverRun_mask h, hs.source, hs.operand]
  exact (State.retire_leverWrite hi (State.leverRun_sane h die) hmay _ (firstFault_none ha hd)).symm

end

/-! ### MOVE (R114) -/

/-- The state in which a MOVE copies its next word: the fetch noted at its first word, the reads of the word noted. -/
def State.moveReads (s : State) (die idx : Nat) (l : Lever) : State :=
  [{ l.a with word := l.a.word + (s.sbox die).moved }, { l.dst with word := l.dst.word + (s.sbox die).moved }].foldl
    (noteOperand die) (if (s.sbox die).moved = 0 then noteLever s die idx else s)

/-- A word of a MOVE with its cycle used. -/
def State.moveWord (s : State) (die idx : Nat) (l : Lever) : State :=
  ((doMoveWord (s.moveReads die idx l) die l (s.sbox die).moved).st.useCycles die 0 1).wr die Reg.SBOX_STAT_LEVER idx

/-- The last word of a MOVE retires the lever. -/
theorem moveWords_last {s : State} {die idx total : Nat} {l : Lever} (n : Nat) (hlast : (s.sbox die).moved + 1 = total) :
    moveWords die idx l total (n + 1) s = State.retire die idx
      { st := s.moveWord die idx l, fault := (doMoveWord (s.moveReads die idx l) die l (s.sbox die).moved).fault } := by
  rw [moveWords]
  exact if_pos hlast

theorem State.moveReads_moves (s : State) (die idx : Nat) (l : Lever) : Moves 0x200c00000080000000210 s (s.moveReads die idx l) :=
  Moves.foldl (fun _ _ => noteOperand_moves ..) (Moves.ite (noteLever_moves ..) .refl)

theorem State.moveReads_sees {s : State} (h : s.Sane) (die idx : Nat) (l : Lever) : LeverSees die s (s.moveReads die idx l) where
  mem := (s.moveReads_moves die idx l).part .mem
  ecc := (s.moveReads_moves die idx l).part .ecc
  timers := (s.moveReads_moves die idx l).part .timers
  counters := (s.moveReads_moves die idx l).part .counters
  mask i _ := (s.moveReads_moves die idx l).maskEntry h die i

theorem exec_moveLever {s : State} {die : Nat} (hr : s.leverReady die 0x03 = true) : exec (.moveLever die) s =
    .next (moveWords die (s.sbox die).next (s.lever die) ((s.lever die).aux % 64 + 1)
      (min ((s.lever die).aux % 64 + 1 - (s.sbox die).moved) (s.issueLeft die)) s) := by
  obtain ⟨hd, hleft, hidx, hbad, hop⟩ := State.leverReady_iff.mp hr
  show execMoveLever die s = _
  unfold execMoveLever
  dsimp only
  rw [if_pos (by simp only [hd, hleft, hidx, decide_true, Bool.and_self]), hbad, if_neg (by decide),
    if_pos (show (leverAt s die (s.sbox die).next).op = 3 from hop)]
  rfl

theorem moveLever_acts {s : State} (h : s.Sane) {die : Nat} (hi : (s.sbox die).next < 131071) (hr : s.leverReady die 0x03 = true)
    (hlast : (s.lever die).aux % 64 = (s.sbox die).moved) :
    let l := s.lever die
    let i := (s.sbox die).moved
    let a := source s die { l.a with word := l.a.word + i }
    let d := operand s die l.dst.space (l.dst.word + i)
    leverMayWrite l.dst.space (l.dst.word + i) = true → a.2 = none → d.2 = none →
      Completes (.moveLever die) s fun t =>
        bitWord t die l.dst.space (l.dst.word + i) = merge (maskEntry s die l.mask) a.1 d.1 ∧
          (t.sbox die).next = (s.sbox die).next + 1 := by
  intro l i a d hmay ha hd
  obtain ⟨-, hleft, -⟩ := State.leverReady_iff.mp hr
  have hone : min (l.aux % 64 + 1 - i) (s.issueLeft die) = 0 + 1 := by
    have : l.aux % 64 = i := hlast
    omega
  have hs := State.moveReads_sees h die (s.sbox die).next l
  have hdo : doMoveWord (s.moveReads die (s.sbox die).next l) die l i =
      { st := setBitWord (s.moveReads die (s.sbox die).next l) die l.dst.space (l.dst.word + i) (merge (maskEntry s die l.mask) a.1 d.1)
        fault := none } := by
    rw [doMoveWord, hs.source, hs.operand, hs.mask _ (s.lever_mask_lt die), firstFault_none ha hd]
    exact if_pos hmay
  refine ⟨_, exec_moveLever hr, ?_⟩
  rw [hone, moveWords_last 0 (congrArg (· + 1) hlast.symm), State.moveWord, hdo]
  exact State.retire_word hi ((s.moveReads_moves die _ l).sane h) hmay _ ((State.useCycles_moves ..).part .mem) rfl rfl rfl

/-- Settles O23: each lever by the word that it writes. -/
theorem wordLeversWriteTheirResult : Obligations.WordLeversWriteTheirResult := by
  intro s die h hi hmay l next m a d p o ks logic
  refine ⟨fun hr hsp hx hf => edgeLever_acts h hi hr hmay hsp hx hf, fun hr hsp hfit ha hd => ?_,
    fun hr hsp hfit ha hd => unpack_acts h hi hmay hfit ha hd hr hsp, fun hr hlast => moveLever_acts h hi hr hlast⟩
  have hp := pack_acts h hi hmay hfit ha hd hr hsp
  rw [hsp] at hp
  obtain ⟨t, hexec, hnext, hword⟩ := hp
  exact ⟨t, hexec, hnext, hword.trans (by rw [← hsp]; rfl)⟩

end Sys2Proof.Machine
end

section
/-! SUPPORT.  Cells of the Timer rack changed one by one: a fold over lanes changes each cell of a selected lane once, by what it
was before, and leaves the others (R117, R128 to R131). -/

open Sys2Proof Sys2Proof.Machine Sys2Proof.Bits
namespace Sys2Proof.Machine
set_option Elab.async false

/-! ### Folds over lanes -/

/-- A step `f` for each lane changes, of the cells that `get` shows, the one at `base` and its lane, by `change`; `inv` is what
the steps keep. -/
structure LaneWise {β : Type} (inv : State → Prop) (get : State → Nat → β) (base : Nat) (change : Nat → β → β)
    (f : State → Nat → State) : Prop where
  keeps : ∀ t k, inv t → inv (f t k)
  same : ∀ t k, inv t → get (f t k) (base + k) = change k (get t (base + k))
  other : ∀ t k j, inv t → j ≠ base + k → get (f t k) j = get t j

theorem LaneWise.foldl {β : Type} {inv : State → Prop} {get : State → Nat → β} {base : Nat} {change : Nat → β → β}
    {f : State → Nat → State} (h : LaneWise inv get base change f) {l : List Nat} (hn : l.Nodup) {s : State} (hs : inv s) :
    inv (l.foldl f s) ∧ (∀ k ∈ l, get (l.foldl f s) (base + k) = change k (get s (base + k))) ∧
      ∀ j, (∀ k ∈ l, j ≠ base + k) → get (l.foldl f s) j = get s j := by
  induction l generalizing s with
  | nil => exact ⟨hs, fun _ hk => (List.not_mem_nil hk).elim, fun _ _ => rfl⟩
  | cons x l ih =>
    obtain ⟨hx, hl⟩ := List.nodup_cons.mp hn
    obtain ⟨hinv, hin, hout⟩ := ih hl (h.keeps s x hs)
    refine ⟨hinv, fun k hk => ?_, fun j hj => ?_⟩
    · rw [List.foldl_cons]
      rcases List.mem_cons.mp hk with rfl | hk
      · rw [hout _ fun y hy hky => hx (by rwa [Nat.add_left_cancel hky]), h.same s k hs]
      · have hne : k ≠ x := fun hkx => hx (hkx ▸ hk)
        rw [hin k hk, h.other s x _ hs fun hkx => hne (Nat.add_left_cancel hkx)]
    · rw [List.foldl_cons, hout j fun k hk => hj k (List.mem_cons_of_mem _ hk), h.other s x j hs (hj x List.mem_cons_self)]

theorem mem_maskLanes {m : DWord} {k : Nat} : k ∈ maskLanes m ↔ k < 64 ∧ m.getLsbD k = true := by
  rw [maskLanes, List.mem_filter, List.mem_range]

/-- What a lever does lane by lane to the lanes of its mask. -/
theorem LaneWise.eachLane {β : Type} {inv : State → Prop} {get : State → Nat → β} {base : Nat} {change : Nat → β → β}
    {f : State → Nat → State} (h : LaneWise inv get base change f) (m : DWord) {s : State} (hs : inv s) :
    (∀ k, k < 64 → m.getLsbD k = true → get (s.eachLane m f) (base + k) = change k (get s (base + k))) ∧
      ∀ j, (∀ k, k < 64 → m.getLsbD k = true → j ≠ base + k) → get (s.eachLane m f) j = get s j := by
  obtain ⟨-, hin, hout⟩ := h.foldl (List.nodup_range.filter _ : (maskLanes m).Nodup) hs
  exact ⟨fun k hk hm => hin k (mem_maskLanes.mpr ⟨hk, hm⟩),
    fun j hj => hout j fun k hk => hj k (mem_maskLanes.mp hk).1 (mem_maskLanes.mp hk).2⟩

/-! ### The cells of the rack -/

/-- The timers of all dies by their key. -/
def State.timerCell (s : State) (j : Nat) : Timer := SMap.get Timer.idle s.timers j

/-- The counters of all dies by their key. -/
def State.counterCell (s : State) (j : Nat) : Counter := SMap.get Counter.idle s.counters j

theorem State.timer_eq_cell (s : State) (die g k : Nat) : s.timer die (64 * g + k) = s.timerCell (die * 8192 + 64 * g + k) := by
  rw [State.timer, State.timerCell, Nat.add_assoc]

theorem State.counter_eq_cell (s : State) (die g k : Nat) :
    s.counter die (64 * g + k) = s.counterCell (die * 4096 + 64 * g + k) := by
  rw [State.counter, State.counterCell, Nat.add_assoc]

/-- The timers are listed in order, and the fields of the rack's page of a die are those of `s0`. -/
def State.timersKept (s0 : State) (die : Nat) (t : State) : Prop :=
  SMap.sorted t.timers = true ∧ ∀ f : FieldDef, f.code = 0x0C → t.rd die f = s0.rd die f

theorem State.setTimer_timersKept {s0 t : State} {die : Nat} (h : s0.timersKept die t) (i : Nat) (x : Timer) :
    s0.timersKept die (t.setTimer die i x) :=
  ⟨SMap.sorted_put _ _ _ h.1, h.2⟩

theorem State.timer_setTimer_same {t : State} (h : SMap.sorted t.timers = true) (die i : Nat) (x : Timer) :
    (t.setTimer die i x).timer die i = x :=
  SMap.get_put_same _ _ h

theorem State.timerCell_setTimer {t : State} (h : SMap.sorted t.timers = true) {die i j : Nat} (x : Timer)
    (hj : j ≠ die * 8192 + i) : (t.setTimer die i x).timerCell j = t.timerCell j :=
  SMap.get_put_ne _ h hj

theorem State.counter_setCounter_same {t : State} (h : SMap.sorted t.counters = true) (die i : Nat) (x : Counter) :
    (t.setCounter die i x).counter die i = x :=
  SMap.get_put_same _ _ h

theorem State.counterCell_setCounter {t : State} (h : SMap.sorted t.counters = true) {die i j : Nat} (x : Counter)
    (hj : j ≠ die * 4096 + i) : (t.setCounter die i x).counterCell j = t.counterCell j :=
  SMap.get_put_ne _ h hj

/-- What a call makes of timer `64 * g + k`, with the page of `s0`. -/
def calledTimer (s0 : State) (die g : Nat) (x : Nat → Bool) (k : Nat) (tm : Timer) : Timer :=
  tm.call (s0.rd die (Reg.TIMR_CFG_TYPE.w (64 * g + k))) (s0.rd die (Reg.TIMR_PRESET_VALUE.w (64 * g + k))) (s0.rackTime die) (x k)

theorem callTimer_laneWise (s0 : State) (die g : Nat) (x : Nat → Bool) :
    LaneWise (s0.timersKept die) State.timerCell (die * 8192 + 64 * g) (calledTimer s0 die g x)
      fun t k => t.callTimer die (64 * g + k) (x k) where
  keeps _ _ h := State.setTimer_timersKept h ..
  same t k h := by
    rw [← State.timer_eq_cell, ← State.timer_eq_cell, State.callTimer, State.timer_setTimer_same h.1, State.rackTime,
      h.2 _ rfl, h.2 _ rfl, h.2 _ rfl]
    rfl
  other _ _ _ h hj := State.timerCell_setTimer h.1 _ (by rwa [← Nat.add_assoc])

theorem resetTimer_laneWise (s0 : State) (die g : Nat) (x : Nat → Bool) :
    LaneWise (s0.timersKept die) State.timerCell (die * 8192 + 64 * g) (fun k tm => if x k then tm.reset else tm)
      fun t k => if x k then t.setTimer die (64 * g + k) (t.timer die (64 * g + k)).reset else t where
  keeps t k h := by
    split
    · exact State.setTimer_timersKept h ..
    · exact h
  same t k h := by
    rw [← State.timer_eq_cell, ← State.timer_eq_cell]
    split
    · exact State.timer_setTimer_same h.1 ..
    · rfl
  other t k j h hj := by
    split
    · exact State.timerCell_setTimer h.1 _ (by rwa [← Nat.add_assoc])
    · rfl

/-- The counters are listed in order, the state is sane, and the presets of the counters of a die are those of `s0`. -/
def State.countersKept (s0 : State) (die : Nat) (t : State) : Prop :=
  SMap.sorted t.counters = true ∧ t.Sane ∧ ∀ i, t.counterPv die i = s0.counterPv die i

theorem State.setCounter_countersKept {s0 t : State} {die : Nat} (h : s0.countersKept die t) (i : Nat) (c : Counter) :
    s0.countersKept die (t.setCounter die i c) :=
  ⟨SMap.sorted_put _ _ _ h.1, h.2.1, h.2.2⟩

theorem resetCounter_laneWise (s0 : State) (die g : Nat) (load : Bool) (x : Nat → Bool) :
    LaneWise (s0.countersKept die) State.counterCell (die * 4096 + 64 * g)
      (fun k c => if x k then c.reset (s0.counterPv die (64 * g + k)) load else c)
      fun t k => if x k then t.setCounter die (64 * g + k)
        ((t.counter die (64 * g + k)).reset (t.counterPv die (64 * g + k)) load) else t where
  keeps t k h := by
    split
    · exact State.setCounter_countersKept h ..
    · exact h
  same t k h := by
    rw [← State.counter_eq_cell, ← State.counter_eq_cell]
    split
    · rw [State.counter_setCounter_same h.1, h.2.2]
    · rfl
  other t k j h hj := by
    split
    · exact State.counterCell_setCounter h.1 _ (by rwa [← Nat.add_assoc])
    · rfl

/-- The presets lie apart from the interrupt latches of the rack's page. -/
theorem State.noteSat_countersKept {s0 t : State} {die : Nat} (h : s0.countersKept die t) (full : Bool) :
    s0.countersKept die (t.noteSat die full) := by
  obtain ⟨hsort, hsane, hpv⟩ := h
  refine ⟨((State.noteSat_moves t die full).part .counters).symm ▸ hsort, (State.noteSat_moves t die full).sane hsane, fun i => ?_⟩
  rw [← hpv i, State.noteSat]
  split
  · have hrd : (t.irq die 0x0C 1).rd die (Reg.TIMR_PRESET_VALUE.w (8192 + i)) = t.rd die (Reg.TIMR_PRESET_VALUE.w (8192 + i)) :=
      State.irq_rd hsane (.inr (.inl (by show 0x10C ≠ 0x020; decide)))
    exact congrArg (toInt 32) hrd
  · rfl

theorem State.counterCell_noteSat (t : State) (die : Nat) (full : Bool) (j : Nat) :
    (t.noteSat die full).counterCell j = t.counterCell j :=
  congrArg (SMap.get Counter.idle · j) ((State.noteSat_moves t die full).part .counters)

/-- What a call makes of counter `64 * g + k`, with the presets of `s0`. -/
def calledCounter (s0 : State) (die g : Nat) (down : Bool) (x : Nat → Bool) (k : Nat) (c : Counter) : Counter :=
  (if down then c.down (s0.counterPv die (64 * g + k)) (x k) else c.up (s0.counterPv die (64 * g + k)) (x k)).1

theorem callCounter_laneWise (s0 : State) (die g : Nat) (down : Bool) (x : Nat → Bool) :
    LaneWise (s0.countersKept die) State.counterCell (die * 4096 + 64 * g) (calledCounter s0 die g down x)
      fun t k => t.callCounter die (64 * g + k) down (x k) where
  keeps _ _ h := State.noteSat_countersKept (State.setCounter_countersKept h ..) _
  same t k h := by
    rw [State.callCounter, State.counterCell_noteSat, ← State.counter_eq_cell, ← State.counter_eq_cell,
      State.counter_setCounter_same h.1, h.2.2]
    rfl
  other t k j h hj := by
    rw [State.callCounter, State.counterCell_noteSat]
    exact State.counterCell_setCounter h.1 _ (by rwa [← Nat.add_assoc])

/-! ### The levers of the rack (R117) -/

section
variable {s f : State} {die : Nat} (hs : LeverSees die s f) {l : Lever} (hl : l.mask < 256)
include hs hl

theorem doTstart_sees : doTstart f die l =
    { st := f.eachLane (maskEntry s die l.mask) fun t k => t.callTimer die (64 * (l.aux % 128) + k)
        ((leverResult s die l (source s die l.a)).1.getLsbD k)
      fault := (leverResult s die l (source s die l.a)).2.2 } := by
  rw [← hs.leverResult, ← hs.source, ← hs.mask _ hl]
  rfl

theorem doTreset_timers (hb : bit l.aux 11 = false) : doTreset f die l =
    { st := f.eachLane (maskEntry s die l.mask) fun t k =>
        if (leverResult s die l (source s die l.a)).1.getLsbD k then
          t.setTimer die (64 * (l.aux % 128) + k) (t.timer die (64 * (l.aux % 128) + k)).reset else t
      fault := (leverResult s die l (source s die l.a)).2.2 } := by
  rw [← hs.leverResult, ← hs.source, ← hs.mask _ hl, doTreset, hb]
  rfl

theorem doTreset_counters (hb : bit l.aux 11 = true) : doTreset f die l =
    { st := f.eachLane (maskEntry s die l.mask) fun t k =>
        if (leverResult s die l (source s die l.a)).1.getLsbD k then
          t.setCounter die (64 * (l.aux % 64) + k) ((t.counter die (64 * (l.aux % 64) + k)).reset
            (t.counterPv die (64 * (l.aux % 64) + k)) (bit l.aux 10)) else t
      fault := (leverResult s die l (source s die l.a)).2.2 } := by
  rw [← hs.leverResult, ← hs.source, ← hs.mask _ hl, doTreset, hb]
  rfl

theorem doCount_sees (down : Bool) : doCount f die l down =
    { st := f.eachLane (maskEntry s die l.mask) fun t k => t.callCounter die (64 * (l.aux % 64) + k) down
        ((leverResult s die l (source s die l.a)).1.getLsbD k)
      fault := (leverResult s die l (source s die l.a)).2.2 } := by
  rw [← hs.leverResult, ← hs.source, ← hs.mask _ hl]
  rfl

end

end Sys2Proof.Machine
end

section
/-! SUPPORT.  Levers that call the Timer rack, skip, wait or fault (R116 to R118, R125, R126, R130). -/

open Sys2Proof Sys2Proof.Machine Sys2Proof.Bits
namespace Sys2Proof.Machine
set_option Elab.async false

/-! ### Lever faults (R126) -/

/-- The record of a lever fault, unless one stands. -/
def State.faultRecorded (s : State) (die idx : Nat) (k : LeverFault) : State :=
  if s.on die Reg.SBOX_FAULT_VALID then s else
    let t := ((s.wr die Reg.SBOX_FAULT_KIND k.code).wr die Reg.SBOX_FAULT_VALID 1).wr die Reg.SBOX_FAULT_LEVER idx
    ((t.wr die Reg.SBOX_FAULT_TASK (((s.slot? die 0).map Slot.task).getD 0)).wr die Reg.SBOX_FAULT_NET_NET
      (t.rd die Reg.SBOX_NET_COUNT)).wr die Reg.SBOX_FAULT_FRAME_N t.frameNo

/-- The count of a lever fault and its interrupts. -/
def State.faultCounted (s : State) (die : Nat) (k : LeverFault) : State :=
  let t := (s.inc die Reg.SBOX_FAULTS_COUNT).irq die 0x0B 0
  if k = .syncTimeout then t.irq die 0x0B 1 else t

/-- The triggers that a lever fault of a live die raises. -/
def State.faultCaused (s : State) (die : Nat) (k : LeverFault) : State :=
  if s.live die then (if k = .syncTimeout then (s.raiseCause 2).raiseCause 4 else s.raiseCause 2) else s

/-- The flags of the die that a lever fault sets. -/
def LeverFault.flag (k : LeverFault) : Nat := if k = .syncTimeout then 3 else 1

/-- The state in which the flags of a lever fault are set. -/
def State.faultNoted (s : State) (die idx : Nat) (k : LeverFault) : State :=
  ((s.faultRecorded die idx k).faultCounted die k).faultCaused die k

/-- The flags of a die with those of a lever fault. -/
def State.faultFlagged (s : State) (die : Nat) (k : LeverFault) : State :=
  { s with dieFlags := SMap.put 0 s.dieFlags die (SMap.get 0 s.dieFlags die ||| k.flag) }

/-- A lever fault is noted, flagged and recorded by the Archive. -/
theorem State.leverFault_eq (s : State) (die idx : Nat) (k : LeverFault) : ∃ payload,
    s.leverFault die idx k = ((s.faultNoted die idx k).faultFlagged die k).archive 0x0B 0 .fault payload :=
  ⟨_, rfl⟩

theorem State.faultRecorded_moves (s : State) (die idx : Nat) (k : LeverFault) :
    Moves 0x8000000080000000010 s (s.faultRecorded die idx k) := by
  unfold State.faultRecorded
  have h1 := Moves.sub (F := 0x8000000080000000010) (State.wr_moves s die Reg.SBOX_FAULT_KIND k.code) (Moves.at 11 rfl)
  have h3 := (h1.step (State.wr_moves _ die Reg.SBOX_FAULT_VALID 1) (Moves.at 11 rfl)).step
    (State.wr_moves _ die Reg.SBOX_FAULT_LEVER idx) (Moves.at 11 rfl)
  exact .ite .refl (((h3.step (State.wr_moves ..) (Moves.at 11 rfl)).step (State.wr_moves ..) (Moves.at 11 rfl)).step
    (State.wr_moves ..) (Moves.at 11 rfl))

theorem State.faultCounted_moves (s : State) (die : Nat) (k : LeverFault) :
    Moves 0x8000000080000000010 s (s.faultCounted die k) := by
  unfold State.faultCounted
  have h := (Moves.sub (F := 0x8000000080000000010) (State.inc_moves s die Reg.SBOX_FAULTS_COUNT) (Moves.at 11 rfl)).step
    (State.irq_moves _ die 0x0B 0) (Moves.at 11 rfl)
  exact .ite (h.step (State.irq_moves ..) (Moves.at 11 rfl)) h

theorem State.faultCaused_moves (s : State) (die : Nat) (k : LeverFault) :
    Moves 0x100000000000000080080000010 s (s.faultCaused die k) :=
  .ite (.ite ((State.raiseCause_moves ..).trans (State.raiseCause_moves ..)) (State.raiseCause_moves ..)) .refl

theorem State.faultNoted_moves (s : State) (die idx : Nat) (k : LeverFault) :
    Moves 0x100000008000000080080000010 s (s.faultNoted die idx k) :=
  ((Moves.sub (State.faultRecorded_moves ..)).step (State.faultCounted_moves ..)).step (State.faultCaused_moves ..)

/-- A field of the SBOX page that a lever fault does not record. -/
abbrev unrecorded (g : FieldDef) : Prop :=
  g.code = 0x0B ∧ g.off % 4096 ≠ 0x10C ∧ g.off % 4096 ≠ 0x110 ∧ g.off % 4096 ≠ 0x114 ∧ g.off % 4096 ≠ 0x020

theorem State.faultRecorded_rd {s : State} (h : s.Sane) (die idx : Nat) (k : LeverFault) {g : FieldDef} (hg : unrecorded g) :
    (s.faultRecorded die idx k).rd die g = s.rd die g := by
  obtain ⟨-, hrecord, hnet, hframe, -⟩ := hg
  unfold State.faultRecorded
  split
  · rfl
  · have h1 := h.wr die Reg.SBOX_FAULT_KIND k.code
    have h2 := h1.wr die Reg.SBOX_FAULT_VALID 1
    have h3 := h2.wr die Reg.SBOX_FAULT_LEVER idx
    have h4 := h3.wr die Reg.SBOX_FAULT_TASK (((s.slot? die 0).map Slot.task).getD 0)
    rw [State.rd_wr_other (h4.wr ..) _ (.inr (.inl hframe)), State.rd_wr_other h4 _ (.inr (.inl hnet)),
      State.rd_wr_other h3 _ (.inr (.inl hrecord)), State.rd_wr_other h2 _ (.inr (.inl hrecord)),
      State.rd_wr_other h1 _ (.inr (.inl hrecord)), State.rd_wr_other h _ (.inr (.inl hrecord))]

/-- Behind the count of a lever fault, its interrupts and triggers leave the other fields of the page. -/
theorem State.faultNoted_rd {s : State} (h : s.Sane) (die idx : Nat) (k : LeverFault) {g : FieldDef} (hg : unrecorded g) :
    (s.faultNoted die idx k).rd die g = ((s.faultRecorded die idx k).inc die Reg.SBOX_FAULTS_COUNT).rd die g := by
  obtain ⟨hcode, -, -, -, hirq⟩ := hg
  have hr := (State.faultRecorded_moves s die idx k).sane h
  have hi := (State.inc_moves (s.faultRecorded die idx k) die Reg.SBOX_FAULTS_COUNT).sane hr
  have hi0 := (State.irq_moves ((s.faultRecorded die idx k).inc die Reg.SBOX_FAULTS_COUNT) die 0x0B 0).sane hi
  rw [State.faultNoted, (State.faultCaused_moves ..).rd ((State.faultCounted_moves ..).sane hr) die g (by rw [hcode]; rfl),
    State.faultCounted]
  split
  · rw [State.irq_rd hi0 (.inr (.inl hirq)), State.irq_rd hi (.inr (.inl hirq))]
  · exact State.irq_rd hi (.inr (.inl hirq))

theorem SMap.get_put_of_ne {α : Type} [DecidableEq α] {d : α} (m : SMap α) (k : Nat) {v : α} (hv : v ≠ d) :
    SMap.get d (SMap.put d m k v) k = v := by
  rw [SMap.put, if_neg hv, SMap.get, SMap.find?_insert_same, Option.getD_some]

theorem LeverFault.or_flag_ne_zero (k : LeverFault) (x : Nat) : x ||| k.flag ≠ 0 := by
  intro h
  have hflag := (Nat.or_eq_zero_iff.mp h).2
  unfold LeverFault.flag at hflag
  split at hflag <;> cases hflag

/-- What a lever fault shows: its count, the flags of its die; the mode of the page stays. -/
theorem State.leverFault_shows {s : State} (h : s.Sane) (die idx : Nat) (k : LeverFault) :
    (s.leverFault die idx k).rd die Reg.SBOX_FAULTS_COUNT =
        satAdd Reg.SBOX_FAULTS_COUNT.width (s.rd die Reg.SBOX_FAULTS_COUNT) 1 ∧
      (s.leverFault die idx k).on die Reg.SBOX_CTL_FAULT_CUT = s.on die Reg.SBOX_CTL_FAULT_CUT ∧
      SMap.get 0 (s.leverFault die idx k).dieFlags die = SMap.get 0 s.dieFlags die ||| k.flag := by
  obtain ⟨payload, heq⟩ := State.leverFault_eq s die idx k
  have hr := (State.faultRecorded_moves s die idx k).sane h
  have hn := State.faultNoted_moves s die idx k
  have hu : ((s.faultNoted die idx k).faultFlagged die k).Sane := hn.sane h
  have hrd (g : FieldDef) (hg : unrecorded g) : ((s.faultNoted die idx k).faultFlagged die k).rd die g =
      ((s.faultRecorded die idx k).inc die Reg.SBOX_FAULTS_COUNT).rd die g := State.faultNoted_rd h die idx k hg
  have hlast := State.archive_moves ((s.faultNoted die idx k).faultFlagged die k) 0x0B 0 .fault payload
  rw [heq]
  refine ⟨?_, ?_, ?_⟩
  · rw [hlast.rd hu die Reg.SBOX_FAULTS_COUNT, hrd _ (by decide), State.inc_rd_same hr, State.faultRecorded_rd h die idx k (by decide)]
  · rw [State.on, State.on, hlast.rd hu die Reg.SBOX_CTL_FAULT_CUT, hrd _ (by decide), State.inc_rd hr (by decide),
      State.faultRecorded_rd h die idx k (by decide)]
  · rw [hlast.part .dieFlags, State.faultFlagged, SMap.get_put_of_ne _ _ (k.or_flag_ne_zero _), hn.part .dieFlags]

/-- A lever retires with a fault that lets the slot go on: the next lever is next, the fault is counted and flagged. -/
theorem State.retire_fault_shows {die idx : Nat} (hi : idx < 131071) {d : LeverDone} {k : LeverFault} (hf : d.fault = some k)
    (he : d.ends = false) (hk : (k == .range) = false ∧ (k == .ecc) = false) (h : d.st.Sane)
    (hcut : d.st.on die Reg.SBOX_CTL_FAULT_CUT = false) :
    ((State.retire die idx d).sbox die).next = idx + 1 + d.skip ∧
      SMap.get 0 (State.retire die idx d).dieFlags die = SMap.get 0 d.st.dieFlags die ||| k.flag ∧
      (State.retire die idx d).rd die Reg.SBOX_FAULTS_COUNT =
        satAdd Reg.SBOX_FAULTS_COUNT.width (d.st.rd die Reg.SBOX_FAULTS_COUNT) 1 := by
  have hc := (State.countLever_moves d.st die idx).sane h
  obtain ⟨hcount, hmode, hflags⟩ := State.leverFault_shows hc die idx k
  have hon : (d.st.countLever die idx).on die Reg.SBOX_CTL_FAULT_CUT = false := by
    rw [State.on, State.countLever_rd h die idx die rfl]
    exact hcut
  have hstop : ((d.st.countLever die idx).leverFault die idx k).faultStops die k = false := by
    rw [State.faultStops, hk.1, hk.2, hmode, hon]
    rfl
  rw [State.retire_fault hi hf he hstop, State.nextLever_sbox, (State.nextLever_moves ..).part .dieFlags, hflags,
    (State.countLever_moves ..).part .dieFlags, State.nextLever_rd ((State.leverFault_moves ..).sane hc), hcount,
    State.countLever_rd h die idx die rfl]
  exact ⟨rfl, rfl, rfl⟩

/-! ### SKIPZ and SKIPNZ (R116) -/

/-- What a skip does within the program: it skips when its test holds. -/
theorem doSkip_sees {s f : State} {die : Nat} (hs : LeverSees die s f) {idx : Nat} {l : Lever} (hl : l.mask < 256)
    (hfit : idx + 1 + l.aux ≤ 131071) (onZero : Bool) :
    let r := leverResult s die l (source s die l.a)
    doSkip f die idx l onZero =
      ⟨f, r.2.2, false, if ((r.1 &&& maskEntry s die l.mask) == 0) = onZero then l.aux else 0⟩ := by
  intro r
  have hr : leverResult f die l (source f die l.a) = r := by rw [hs.leverResult, hs.source]
  rw [doSkip, hr, hs.mask _ hl]
  dsimp only
  by_cases hz : ((r.1 &&& maskEntry s die l.mask) == 0) = onZero
  · rw [if_pos (beq_iff_eq.mpr hz), if_neg (Nat.not_lt.mpr hfit), if_pos hz]
  · rw [if_neg (mt beq_iff_eq.mp hz), if_neg hz]

theorem skip_acts {s : State} (h : s.Sane) {die : Nat} (hi : (s.sbox die).next < 131071) (onZero : Bool)
    (hr : s.leverReady die (if onZero then 0x08 else 0x09) = true)
    (hf : (leverResult s die (s.lever die) (source s die (s.lever die).a)).2.2 = none)
    (hfit : (s.sbox die).next + 1 + (s.lever die).aux ≤ 131071) :
    Completes (if onZero then .skipz die else .skipnz die) s fun t => (t.sbox die).next =
      if (((leverResult s die (s.lever die) (source s die (s.lever die).a)).1 &&& maskEntry s die (s.lever die).mask) == 0) = onZero
      then (s.sbox die).next + 1 + (s.lever die).aux else (s.sbox die).next + 1 := by
  have hdone (t : State) (ht : t = State.retire die (s.sbox die).next
      (doSkip (s.leverRun die) die (s.sbox die).next (s.lever die) onZero)) : (t.sbox die).next =
      if (((leverResult s die (s.lever die) (source s die (s.lever die).a)).1 &&& maskEntry s die (s.lever die).mask) == 0) = onZero
      then (s.sbox die).next + 1 + (s.lever die).aux else (s.sbox die).next + 1 := by
    rw [ht, doSkip_sees (State.leverRun_sees h die) (s.lever_mask_lt die) hfit, (State.retire_clean_shows hi hf rfl).2]
    dsimp only
    split <;> rfl
  cases onZero with
  | true => exact completes_lever (run := fun s idx l => doSkip s die idx l true) rfl hr rfl (hdone _ rfl)
  | false => exact completes_lever (run := fun s idx l => doSkip s die idx l false) rfl hr rfl (hdone _ rfl)

/-! ### Levers of the Timer rack (R117, R130) -/

theorem State.leverRun_timersKept {s : State} (h : s.Sane) (die : Nat) (hsort : SMap.sorted s.timers = true) :
    s.timersKept die (s.leverRun die) :=
  ⟨((s.leverRun_moves die).part .timers).symm ▸ hsort, fun f hf => (s.leverRun_moves die).rd h die f (by rw [hf]; rfl)⟩

theorem Moves.counterPv {F : Nat} {s t : State} (h : Moves F s t) (w : s.Sane) (die i : Nat)
    (hF : F.testBit (64 + 12) = false := by rfl) : t.counterPv die i = s.counterPv die i :=
  congrArg (toInt 32) (h.rd w die _ hF)

theorem State.leverRun_countersKept {s : State} (h : s.Sane) (die : Nat) (hsort : SMap.sorted s.counters = true) :
    s.countersKept die (s.leverRun die) :=
  ⟨((s.leverRun_moves die).part .counters).symm ▸ hsort, State.leverRun_sane h die, (s.leverRun_moves die).counterPv h die⟩

theorem State.timerCell_moves {F : Nat} {s t : State} (h : Moves F s t) (j : Nat)
    (hF : F.testBit Part.timers.ix = false := by rfl) : t.timerCell j = s.timerCell j :=
  congrArg (SMap.get Timer.idle · j) (h.part .timers hF)

theorem State.counterCell_moves {F : Nat} {s t : State} (h : Moves F s t) (j : Nat)
    (hF : F.testBit Part.counters.ix = false := by rfl) : t.counterCell j = s.counterCell j :=
  congrArg (SMap.get Counter.idle · j) (h.part .counters hF)

section
variable {s : State} (h : s.Sane) {die : Nat} (hi : (s.sbox die).next < 131071)
  (hf : (leverResult s die (s.lever die) (source s die (s.lever die).a)).2.2 = none)
include h hi hf

theorem tstart_acts (hsort : SMap.sorted s.timers = true) (hr : s.leverReady die 0x10 = true) :
    Completes (.tstart die) s fun t => (t.sbox die).next = (s.sbox die).next + 1 ∧
      ∀ k, k < 64 → (maskEntry s die (s.lever die).mask).getLsbD k = true →
        t.timer die (64 * ((s.lever die).aux % 128) + k) = calledTimer s die ((s.lever die).aux % 128)
          (leverResult s die (s.lever die) (source s die (s.lever die).a)).1.getLsbD k
          (s.timer die (64 * ((s.lever die).aux % 128) + k)) := by
  refine completes_lever rfl hr rfl ?_
  rw [doTstart_sees (State.leverRun_sees h die) (s.lever_mask_lt die)]
  obtain ⟨hmoves, hsbox⟩ := State.retire_clean_shows (die := die) hi (d := { st := (s.leverRun die).eachLane _ _, fault := _ }) hf rfl
  refine ⟨congrArg Sbox.next hsbox, fun k hk hmask => ?_⟩
  obtain ⟨hcalled, -⟩ := (callTimer_laneWise s die _ _).eachLane (maskEntry s die (s.lever die).mask)
    (State.leverRun_timersKept h die hsort)
  rw [State.timer_eq_cell, State.timer_eq_cell, State.timerCell_moves hmoves]
  exact (hcalled k hk hmask).trans (congrArg _ (State.timerCell_moves (s.leverRun_moves die) _))

theorem treset_timers_act (hsort : SMap.sorted s.timers = true) (hr : s.leverReady die 0x11 = true)
    (hb : bit (s.lever die).aux 11 = false) :
    Completes (.treset die) s fun t => (t.sbox die).next = (s.sbox die).next + 1 ∧
      ∀ k, k < 64 → (maskEntry s die (s.lever die).mask).getLsbD k = true →
        (leverResult s die (s.lever die) (source s die (s.lever die).a)).1.getLsbD k = true →
        t.timer die (64 * ((s.lever die).aux % 128) + k) = (s.timer die (64 * ((s.lever die).aux % 128) + k)).reset := by
  refine completes_lever rfl hr rfl ?_
  rw [doTreset_timers (State.leverRun_sees h die) (s.lever_mask_lt die) hb]
  obtain ⟨hmoves, hsbox⟩ := State.retire_clean_shows (die := die) hi (d := { st := (s.leverRun die).eachLane _ _, fault := _ }) hf rfl
  refine ⟨congrArg Sbox.next hsbox, fun k hk hmask hx => ?_⟩
  obtain ⟨hreset, -⟩ := (resetTimer_laneWise s die _ _).eachLane (maskEntry s die (s.lever die).mask)
    (State.leverRun_timersKept h die hsort)
  rw [State.timer_eq_cell, State.timer_eq_cell, State.timerCell_moves hmoves]
  exact (hreset k hk hmask).trans ((if_pos hx).trans (congrArg _ (State.timerCell_moves (s.leverRun_moves die) _)))

theorem treset_counters_act (hsort : SMap.sorted s.counters = true) (hr : s.leverReady die 0x11 = true)
    (hb : bit (s.lever die).aux 11 = true) :
    Completes (.treset die) s fun t => (t.sbox die).next = (s.sbox die).next + 1 ∧
      ∀ k, k < 64 → (maskEntry s die (s.lever die).mask).getLsbD k = true →
        (leverResult s die (s.lever die) (source s die (s.lever die).a)).1.getLsbD k = true →
        t.counter die (64 * ((s.lever die).aux % 64) + k) = (s.counter die (64 * ((s.lever die).aux % 64) + k)).reset
          (s.counterPv die (64 * ((s.lever die).aux % 64) + k)) (bit (s.lever die).aux 10) := by
  refine completes_lever rfl hr rfl ?_
  rw [doTreset_counters (State.leverRun_sees h die) (s.lever_mask_lt die) hb]
  obtain ⟨hmoves, hsbox⟩ := State.retire_clean_shows (die := die) hi (d := { st := (s.leverRun die).eachLane _ _, fault := _ }) hf rfl
  refine ⟨congrArg Sbox.next hsbox, fun k hk hmask hx => ?_⟩
  obtain ⟨hreset, -⟩ := (resetCounter_laneWise s die _ (bit (s.lever die).aux 10) _).eachLane
    (maskEntry s die (s.lever die).mask) (State.leverRun_countersKept h die hsort)
  rw [State.counter_eq_cell, State.counter_eq_cell, State.counterCell_moves hmoves]
  refine (hreset k hk hmask).trans ((if_pos hx).trans ?_)
  rw [State.counterCell_moves (s.leverRun_moves die)]

theorem count_acts (hsort : SMap.sorted s.counters = true) (down : Bool)
    (hr : s.leverReady die (if down then 0x13 else 0x12) = true) :
    Completes (if down then .cdn die else .cup die) s fun t => (t.sbox die).next = (s.sbox die).next + 1 ∧
      ∀ k, k < 64 → (maskEntry s die (s.lever die).mask).getLsbD k = true →
        t.counter die (64 * ((s.lever die).aux % 64) + k) = calledCounter s die ((s.lever die).aux % 64) down
          (leverResult s die (s.lever die) (source s die (s.lever die).a)).1.getLsbD k
          (s.counter die (64 * ((s.lever die).aux % 64) + k)) := by
  have hdone (t : State) (ht : t = State.retire die (s.sbox die).next (doCount (s.leverRun die) die (s.lever die) down)) :
      (t.sbox die).next = (s.sbox die).next + 1 ∧
      ∀ k, k < 64 → (maskEntry s die (s.lever die).mask).getLsbD k = true →
        t.counter die (64 * ((s.lever die).aux % 64) + k) = calledCounter s die ((s.lever die).aux % 64) down
          (leverResult s die (s.lever die) (source s die (s.lever die).a)).1.getLsbD k
          (s.counter die (64 * ((s.lever die).aux % 64) + k)) := by
    rw [ht, doCount_sees (State.leverRun_sees h die) (s.lever_mask_lt die)]
    obtain ⟨hmoves, hsbox⟩ := State.retire_clean_shows (die := die) hi (d := { st := (s.leverRun die).eachLane _ _, fault := _ }) hf rfl
    refine ⟨congrArg Sbox.next hsbox, fun k hk hmask => ?_⟩
    obtain ⟨hcalled, -⟩ := (callCounter_laneWise s die _ down _).eachLane (maskEntry s die (s.lever die).mask)
      (State.leverRun_countersKept h die hsort)
    rw [State.counter_eq_cell, State.counter_eq_cell, State.counterCell_moves hmoves]
    exact (hcalled k hk hmask).trans (congrArg _ (State.counterCell_moves (s.leverRun_moves die) _))
  cases down with
  | true => exact completes_lever (run := fun s _ l => doCount s die l true) rfl hr rfl (hdone _ rfl)
  | false => exact completes_lever (run := fun s _ l => doCount s die l false) rfl hr rfl (hdone _ rfl)

end

/-! ### SYNC (R118) -/

theorem LeverSees.syncTrue {die : Nat} {s t : State} (h : LeverSees die s t) {l : Lever} (hl : l.mask < 256) :
    syncTrue t die l = syncTrue s die l := by
  rw [Machine.syncTrue, h.source, h.mask _ hl, Machine.syncTrue]

/-- What a SYNC does at the end of its wait. -/
def syncRun (die waited : Nat) (s : State) (l : Lever) : LeverDone :=
  if l.aux % 1024 = 0 then { st := s, fault := some .badAux }
  else if l.aux % 1024 ≤ waited then syncOut s die waited l
  else { st := endSync s die waited, fault := (source s die l.a).2 }

/-- The state in which a SYNC whose condition is false has waited one cycle more. -/
def State.syncHeld (s : State) (die : Nat) : State :=
  (((s.useCycles die 0 1).wr die Reg.SBOX_STAT_LEVER (s.sbox die).next).wr die Reg.SBOX_STAT_SYNC_WAIT 1).setSbox die
    { s.sbox die with waited := (s.sbox die).waited + 1 }

theorem exec_syncLever {s : State} {die : Nat} (hr : s.leverReady die 0x20 = true) : exec (.syncLever die) s =
    .next (if (s.sbox die).waited < (s.lever die).aux % 1024 ∧ syncTrue s die (s.lever die) = false then s.syncHeld die
      else State.retire die (s.sbox die).next (syncRun die (s.sbox die).waited (s.leverRun die) (s.lever die))) := by
  obtain ⟨hd, hleft, hidx, hbad, hop⟩ := State.leverReady_iff.mp hr
  have hissue := State.issue_ready hr (ops := (· == 0x20)) rfl fun s' _ l => syncRun die (s.sbox die).waited s' l
  have hop' : (leverAt s die (s.sbox die).next).op = 0x20 := hop
  rw [← hissue]
  show execSyncLever die s = _
  unfold execSyncLever
  simp only [hd, hleft, hidx, hbad, hop', decide_true, Bool.and_true, Bool.not_false, beq_self_eq_true, Bool.true_and,
    Bool.and_eq_true, decide_eq_true_eq, Bool.not_eq_true']
  rfl

section
variable {s : State} (h : s.Sane) {die : Nat}
include h

theorem State.syncHeld_shows : (s.syncHeld die).sbox die = { s.sbox die with waited := (s.sbox die).waited + 1 } ∧
    (s.syncHeld die).on die Reg.SBOX_STAT_SYNC_WAIT = true := by
  have hu := ((s.useCycles_moves die 0 1).sane h).wr die Reg.SBOX_STAT_LEVER (s.sbox die).next
  exact ⟨State.sbox_setSbox _ _ (by rw [Ne, Sbox.mk.injEq]; omega), State.on_wr_one hu die rfl⟩

theorem endSync_waits (waited : Nat) : (endSync s die waited).on die Reg.SBOX_STAT_SYNC_WAIT = false :=
  State.on_wr_zero (((s.add_moves die Reg.SBOX_SYNC_CYCLES_COUNT waited).sane h).wr ..) _ _

theorem endSync_rd (waited : Nat) {g : FieldDef} (hcount : apart g Reg.SBOX_SYNC_CYCLES_COUNT)
    (hmax : apart g Reg.SBOX_SYNC_MAX_CYCLES) (hwait : apart g Reg.SBOX_STAT_SYNC_WAIT) :
    (endSync s die waited).rd die g = s.rd die g := by
  have ha := (s.add_moves die Reg.SBOX_SYNC_CYCLES_COUNT waited).sane h
  rw [endSync, State.wrMax, State.rd_wr_other (ha.wr ..) _ hwait, State.rd_wr_other ha _ hmax, State.add,
    State.rd_wr_other h _ hcount]

theorem syncLever_acts (hi : (s.sbox die).next < 131071) (hr : s.leverReady die 0x20 = true)
    (hmax : (s.lever die).aux % 1024 ≠ 0) :
    Completes (.syncLever die) s fun t =>
      (syncTrue s die (s.lever die) = true → (s.sbox die).waited < (s.lever die).aux % 1024 →
        (source s die (s.lever die).a).2 = none →
          (t.sbox die).next = (s.sbox die).next + 1 ∧ t.on die Reg.SBOX_STAT_SYNC_WAIT = false) ∧
      (syncTrue s die (s.lever die) = false → (s.sbox die).waited < (s.lever die).aux % 1024 →
        t.sbox die = { s.sbox die with waited := (s.sbox die).waited + 1 } ∧ t.on die Reg.SBOX_STAT_SYNC_WAIT = true) := by
  refine ⟨_, exec_syncLever hr, fun htrue hwait hf => ?_, fun hfalse hwait => ?_⟩
  · have hrun : syncRun die (s.sbox die).waited (s.leverRun die) (s.lever die) =
        { st := endSync (s.leverRun die) die (s.sbox die).waited, fault := none } := by
      rw [syncRun, if_neg hmax, if_neg (Nat.not_le.mpr hwait), (State.leverRun_sees h die).source, hf]
    have hrs := State.leverRun_sane h die
    have hsane := (endSync_moves (s.leverRun die) die (s.sbox die).waited).sane hrs
    rw [if_neg (fun hc => by rw [htrue] at hc; exact Bool.noConfusion hc.2), hrun]
    refine ⟨congrArg Sbox.next (State.retire_clean_shows hi rfl rfl).2, ?_⟩
    rw [State.on, State.retire_clean_rd hi rfl rfl hsane die rfl]
    exact endSync_waits hrs _
  · rw [if_pos ⟨hwait, hfalse⟩]
    exact State.syncHeld_shows h

theorem syncTimeout_acts (hi : (s.sbox die).next < 131071) (hr : s.leverReady die 0x20 = true)
    (hwaited : 0 < (s.sbox die).waited) (hmax : (s.sbox die).waited = (s.lever die).aux % 1024)
    (hf : (source s die (s.lever die).a).2 = none) (hcut : s.on die Reg.SBOX_CTL_FAULT_CUT = false) :
    Completes (.syncTimeout die) s fun t => (t.sbox die).next = (s.sbox die).next + 1 ∧
      SMap.get 0 t.dieFlags die = SMap.get 0 s.dieFlags die ||| 3 ∧
      t.rd die Reg.SBOX_FAULTS_COUNT = satAdd Reg.SBOX_FAULTS_COUNT.width (s.rd die Reg.SBOX_FAULTS_COUNT) 1 := by
  have hops : (0x20 == 0x20 && decide (0 < (s.sbox die).waited) && (s.sbox die).waited == (s.lever die).aux % 1024) = true := by
    rw [decide_eq_true hwaited, beq_iff_eq.mpr hmax]
    rfl
  refine completes_lever (run := fun t _ l => syncOut t die (s.sbox die).waited l) rfl hr hops ?_
  have hrs := State.leverRun_sane h die
  have hend := endSync_moves (s.leverRun die) die (s.sbox die).waited
  have hrun : syncOut (s.leverRun die) die (s.sbox die).waited (s.lever die) =
      { st := endSync (s.leverRun die) die (s.sbox die).waited, fault := some .syncTimeout } := by
    rw [syncOut, (State.leverRun_sees h die).source, hf]
    rfl
  have hkeep (g : FieldDef) (hg : g.code = 0x0B) (hlever : apart g Reg.SBOX_STAT_LEVER)
      (hcount : apart g Reg.SBOX_SYNC_CYCLES_COUNT) (hmost : apart g Reg.SBOX_SYNC_MAX_CYCLES)
      (hwait : apart g Reg.SBOX_STAT_SYNC_WAIT) :
      (endSync (s.leverRun die) die (s.sbox die).waited).rd die g = s.rd die g := by
    rw [endSync_rd hrs _ hcount hmost hwait, State.leverRun_rd h _ _ hg hlever]
  obtain ⟨hnext, hflags, hcount⟩ := State.retire_fault_shows (die := die) hi
    (d := { st := endSync (s.leverRun die) die (s.sbox die).waited, fault := some .syncTimeout }) rfl rfl ⟨rfl, rfl⟩
    (hend.sane hrs) (by rw [State.on, hkeep _ rfl (by decide) (by decide) (by decide) (by decide)]; exact hcut)
  rw [hrun]
  refine ⟨hnext, ?_, ?_⟩
  · rw [hflags, hend.part .dieFlags, (s.leverRun_moves die).part .dieFlags]
    rfl
  · rw [hcount, hkeep _ rfl (by decide) (by decide) (by decide) (by decide)]

/-! ### The reserved operation codes (R111) -/

theorem illegalOp_acts (hi : (s.sbox die).next < 131071) (hr : s.leverReady die (s.lever die).op = true)
    (hop : reservedOp (s.lever die).op = true) (hcut : s.on die Reg.SBOX_CTL_FAULT_CUT = false) :
    Completes (.illegalOp die) s fun t => (t.sbox die).next = (s.sbox die).next + 1 ∧ t.mem = s.mem ∧
      bit (SMap.get 0 t.dieFlags die) 0 = true ∧
      t.rd die Reg.SBOX_FAULTS_COUNT = satAdd Reg.SBOX_FAULTS_COUNT.width (s.rd die Reg.SBOX_FAULTS_COUNT) 1 := by
  refine completes_lever (run := fun t _ _ => { st := t, fault := some .illegalOp }) rfl hr hop ?_
  obtain ⟨hnext, hflags, hcount⟩ := State.retire_fault_shows (die := die) hi
    (d := { st := s.leverRun die, fault := some .illegalOp }) rfl rfl ⟨rfl, rfl⟩ (State.leverRun_sane h die)
    (by rw [State.on, State.leverRun_rd h _ _ rfl (by decide)]; exact hcut)
  refine ⟨hnext, ((State.retire_moves ..).part .mem).trans ((s.leverRun_moves die).part .mem), ?_, ?_⟩
  · rw [hflags, bit_eq_testBit, Nat.testBit_or]
    exact Bool.or_true _
  · rw [hcount, State.leverRun_rd h _ _ rfl (by decide)]

end

/-- Settles O24: each lever by what it does to the rack, to the next lever and to the fault record. -/
theorem rackAndControlLeversAct : Obligations.RackAndControlLeversAct := by
  intro s die h htimers hcounters hi l idx b m r z g
  refine ⟨fun onZero hr hf hfit => skip_acts h hi onZero hr hf hfit, fun hr hf => tstart_acts h hi hf htimers hr,
    fun hr hf => ?_, fun down hr hf => count_acts h hi hf hcounters down hr, fun hr hmax => syncLever_acts h hi hr hmax,
    fun hr hwaited hmax hf hcut => syncTimeout_acts h hi hr hwaited hmax hf hcut,
    fun hr hop hcut => illegalOp_acts h hi hr hop hcut⟩
  cases hb : bit l.aux 11 with
  | true => exact treset_counters_act h hi hf hcounters hr hb
  | false => exact treset_timers_act h hi hf htimers hr hb

end Sys2Proof.Machine
end

section
/-! The NOP lever (R119, R124): `Sane` bounds no error mark of the memory, and a mark of 3 (R339 knows 1 and 2) on the word that
the fetch reads makes the fetch post a record to the Archive. -/

open Sys2Proof Sys2Proof.Machine Sys2Proof.Bits
namespace Sys2Proof.Machine
set_option Elab.async false

/-- The Signal Box of die 2 runs in a slot of 100 cycles, a NOP is next in it, and its first word bears the mark 3. -/
def strayMarkState : State :=
  { State.reset with
    mem := [(bankL 2 + 15, 0x3E * 4)]
    ecc := [(bankL 2, 3)]
    slots := [(2 * 8, ⟨0, 5, 0, 0, 100, false, false, false, true, false, false, 0⟩)] }

theorem strayMarkState_sane : strayMarkState.Sane := by
  unfold State.Sane
  decide +kernel

theorem strayMarkState_ready : strayMarkState.leverReady 2 0x3E = true := by decide +kernel

/-- A NOP that is next retires with nothing done. -/
theorem exec_nopLever {s : State} {die : Nat} (hr : s.leverReady die 0x3E = true) :
    exec (.nopLever die) s = .next (State.retire die (s.sbox die).next { st := s.leverRun die }) :=
  congrArg Host.Outcome.next (State.issue_ready hr rfl fun s _ _ => { st := s })

/-- The state after the NOP. -/
def strayMarkDone : State := State.retire 2 (strayMarkState.sbox 2).next { st := strayMarkState.leverRun 2 }

/-- The record finds no queue, and its loss is counted on the Archive's page. -/
theorem strayMark_drops : strayMarkState.rd 0 Reg.ARCH_DROPS_COUNT = 0 ∧ strayMarkDone.rd 0 Reg.ARCH_DROPS_COUNT = 1 := by
  decide +kernel

/-- Refutes O25: the third clause lets a NOP write no page but SBOX, the debug page and MEM. In `strayMarkState`, which meets the
clause's hypotheses, it counts a drop of the Archive. -/
theorem not_endAndNopLeversAct : ¬ Obligations.EndAndNopLeversAct := by
  unfold Obligations.EndAndNopLeversAct
  intro h
  obtain ⟨-, -, hnop⟩ := h strayMarkState 2 strayMarkState_sane (by decide) (by decide)
  obtain ⟨t, hexec, -, -, -, hpages⟩ := hnop strayMarkState_ready
  obtain rfl : strayMarkDone = t := Host.Outcome.next.inj ((exec_nopLever strayMarkState_ready).symm.trans hexec)
  have hdrops := hpages 0 Reg.ARCH_DROPS_COUNT (by decide)
  rw [strayMark_drops.1, strayMark_drops.2] at hdrops
  exact absurd hdrops (by decide)

end Sys2Proof.Machine
end

section
/-! SUPPORT.  The frame of the levers: what they leave of the memory and of the Timer rack (R103, R112 to R117, R130). -/

open Sys2Proof Sys2Proof.Machine Sys2Proof.Bits
namespace Sys2Proof.Machine
set_option Elab.async false

/-- What a command answers moves within its frame. -/
theorem exec_next_moves {c : Instr} {s t : State} (h : exec c s = .next t) : Moves (frameMask c) s t := by
  obtain ⟨u, hu, hmoves⟩ := exec_moves c s
  exact Host.Outcome.next.inj (hu.symm.trans h) ▸ hmoves

/-- A command that issues a lever either runs it, or changes nothing but what the fetch and the retirement of a lever change. -/
theorem State.issue_cases (s : State) (die : Nat) (ops : Nat → Bool) (run : State → Nat → Lever → LeverDone) :
    Moves 0x10000062cc00008080088d70210 s (s.issue die ops run) ∨
      Moves 0x10000062c400008080088d70210 (run (s.leverRun die) (s.sbox die).next (s.lever die)).st (s.issue die ops run) := by
  unfold State.issue
  dsimp only
  split
  · split
    · have hfetch : Moves 0x10000062cc00008080088d70210 s
          (((noteLever s die (s.sbox die).next).useCycles die 0 1).wr die Reg.SBOX_STAT_LEVER (s.sbox die).next) :=
        ((Moves.sub (noteLever_moves ..)).step (State.useCycles_moves ..)).step (State.wr_moves ..)
      exact .inl ((Moves.stLeverDone hfetch).step (State.retire_moves ..))
    · split
      · exact .inr (State.retire_moves ..)
      · exact .inl .refl
  · exact .inl .refl

/-! ### The bytes outside the words that a lever writes -/

/-- No byte changes but those of the words `stored` of a space that a lever may write. -/
def bytesKept (die sp : Nat) (stored : Nat → Prop) (s t : State) : Prop :=
  ∀ a, (∀ w, stored w → leverMayWrite sp w = true → a < bitAddr die sp w ∨ bitAddr die sp w + 8 ≤ a) →
    t.loadByte a = s.loadByte a

section
variable {die sp : Nat} {stored : Nat → Prop} {s t u : State}

theorem bytesKept_of_mem (h : t.mem = s.mem) : bytesKept die sp stored s t := fun a _ => State.loadByte_congr h a

theorem bytesKept.trans (hst : bytesKept die sp stored s t) (htu : bytesKept die sp stored t u) : bytesKept die sp stored s u :=
  fun a ha => (htu a ha).trans (hst a ha)

theorem bytesKept.step {F : Nat} (h : bytesKept die sp stored s t) (hm : Moves F t u)
    (hF : F.testBit Part.mem.ix = false := by rfl) : bytesKept die sp stored s u :=
  h.trans (bytesKept_of_mem (hm.part .mem hF))

/-- A lever's write changes the bytes of its destination alone, and those only when it may write there. -/
theorem leverWrite_bytesKept (h : s.Sane) {l : Lever} (hw : stored l.dst.word) (v : DWord) (f : Option LeverFault) :
    bytesKept die l.dst.space stored s (leverWrite s die l v f).st := by
  intro a ha
  rw [leverWrite]
  split
  case isTrue hmay =>
    show (setBitWord s die l.dst.space l.dst.word v).loadByte a = s.loadByte a
    rw [setBitWord]
    split
    · rfl
    · exact State.loadByte_store h _ (ha _ hw hmay)
  case isFalse => rfl

section
variable (h : s.Sane) (l : Lever)
include h

theorem doLogic_bytesKept (a : DWord × Option LeverFault) :
    bytesKept die l.dst.space (· = l.dst.word) s (doLogic s die l a).st :=
  leverWrite_bytesKept (stored := (· = l.dst.word)) h rfl _ _

theorem doEdge_bytesKept : bytesKept die l.dst.space (· = l.dst.word) s (doEdge s die l).st := by
  rw [doEdge]
  split
  · exact bytesKept_of_mem rfl
  · split
    · exact bytesKept_of_mem rfl
    · exact doLogic_bytesKept h l _

theorem doPack_bytesKept : bytesKept die l.dst.space (· = l.dst.word) s (doPack s die l).st := by
  rw [doPack]
  split
  · exact bytesKept_of_mem rfl
  · split
    · exact bytesKept_of_mem rfl
    · exact leverWrite_bytesKept (stored := (· = l.dst.word)) h rfl _ _

theorem doUnpack_bytesKept : bytesKept die l.dst.space (· = l.dst.word) s (doUnpack s die l).st := by
  rw [doUnpack]
  split
  · exact bytesKept_of_mem rfl
  · split
    · exact bytesKept_of_mem rfl
    · exact leverWrite_bytesKept (stored := (· = l.dst.word)) h rfl _ _

end

theorem State.issue_bytesKept (ops : Nat → Bool) (run : State → Nat → Lever → LeverDone)
    (hrun : bytesKept die sp stored (s.leverRun die) (run (s.leverRun die) (s.sbox die).next (s.lever die)).st) :
    bytesKept die sp stored s (s.issue die ops run) := by
  rcases s.issue_cases die ops run with hm | hm
  · exact bytesKept_of_mem (hm.part .mem)
  · exact ((bytesKept_of_mem ((s.leverRun_moves die).part .mem)).trans hrun).step hm

theorem wordLever_bytesKept (h : s.Sane) {c : Instr} (hc : c ∈ [Instr.logicLever die, .edgeLever die, .pack die, .unpack die])
    (ht : exec c s = .next t) : bytesKept die (s.lever die).dst.space (· = (s.lever die).dst.word) s t := by
  have hrun := State.leverRun_sane h die
  simp only [List.mem_cons, List.not_mem_nil, or_false] at hc
  rcases hc with rfl | rfl | rfl | rfl
  · rw [← Host.Outcome.next.inj ht]
    exact State.issue_bytesKept _ _ (doLogic_bytesKept hrun _ _)
  · rw [← Host.Outcome.next.inj ht]
    exact State.issue_bytesKept _ _ (doEdge_bytesKept hrun _)
  · rw [← Host.Outcome.next.inj ht]
    exact State.issue_bytesKept _ _ (doPack_bytesKept hrun _)
  · rw [← Host.Outcome.next.inj ht]
    exact State.issue_bytesKept _ _ (doUnpack_bytesKept hrun _)

end

/-! ### The words of a MOVE -/

/-- A word of a MOVE that is not its last, counted, with its fault if it has one. -/
def State.movedOn (s : State) (die idx : Nat) (l : Lever) : State :=
  match (doMoveWord (s.moveReads die idx l) die l (s.sbox die).moved).fault with
  | some k => ((s.moveWord die idx l).inc die Reg.SBOX_RETIRED_COUNT).leverFault die idx k
  | none => (s.moveWord die idx l).inc die Reg.SBOX_RETIRED_COUNT

theorem moveWords_succ (s : State) (die idx total n : Nat) (l : Lever) : moveWords die idx l total (n + 1) s =
    if (s.sbox die).moved + 1 = total then State.retire die idx
      { st := s.moveWord die idx l, fault := (doMoveWord (s.moveReads die idx l) die l (s.sbox die).moved).fault }
    else if ((doMoveWord (s.moveReads die idx l) die l (s.sbox die).moved).fault.map
        ((s.movedOn die idx l).faultStops die)).getD false then (s.movedOn die idx l).stopSbox die
    else moveWords die idx l total n
      ((s.movedOn die idx l).setSbox die { s.sbox die with moved := (s.sbox die).moved + 1 }) := rfl

theorem State.movedOn_moves (s : State) (die idx : Nat) (l : Lever) :
    Moves 0x108000208400000080080800210 (s.moveWord die idx l) (s.movedOn die idx l) := by
  rw [State.movedOn]
  split
  · exact (Moves.sub (State.inc_moves ..) (Moves.at 11 rfl)).step (State.leverFault_moves ..)
  · exact Moves.sub (State.inc_moves ..) (Moves.at 11 rfl)

/-- The memory after a word of a MOVE differs from the one before in that word alone. -/
theorem State.moveWord_bytesKept {s : State} (h : s.Sane) {die : Nat} (idx : Nat) {l : Lever} {stored : Nat → Prop}
    (hw : stored (l.dst.word + (s.sbox die).moved)) : bytesKept die l.dst.space stored s (s.moveWord die idx l) := by
  have hreads := s.moveReads_moves die idx l
  have hword := leverWrite_bytesKept (die := die) (hreads.sane h)
    (l := { l with dst := { l.dst with word := l.dst.word + (s.sbox die).moved } }) hw
  exact (((bytesKept_of_mem (hreads.part .mem)).trans (hword _ _)).step (State.useCycles_moves ..)).step (State.wr_moves ..)

theorem State.moveWord_sane {s : State} (h : s.Sane) (die idx : Nat) (l : Lever) : (s.moveWord die idx l).Sane := by
  have hd := (doMoveWord_moves (s.moveReads die idx l) die l (s.sbox die).moved).sane ((s.moveReads_moves die idx l).sane h)
  exact ((State.useCycles_moves ..).sane hd).wr ..

theorem moveWords_bytesKept {die idx total : Nat} {l : Lever} {stored : Nat → Prop} (n : Nat) {s : State} (h : s.Sane)
    (hn : n ≤ total - (s.sbox die).moved) (hw : ∀ i, (s.sbox die).moved ≤ i → i < total → stored (l.dst.word + i)) :
    bytesKept die l.dst.space stored s (moveWords die idx l total n s) := by
  induction n generalizing s with
  | zero => exact bytesKept_of_mem rfl
  | succ n ih =>
    have hword := State.moveWord_bytesKept h idx (hw _ le_rfl (by omega))
    have hmoved := s.movedOn_moves die idx l
    rw [moveWords_succ]
    split
    · exact hword.step (State.retire_moves die idx
        { st := s.moveWord die idx l, fault := (doMoveWord (s.moveReads die idx l) die l (s.sbox die).moved).fault })
    · split
      · exact (hword.step hmoved).step (State.stopSbox_moves ..)
      · have hset := State.setSbox_moves (s.movedOn die idx l) die { s.sbox die with moved := (s.sbox die).moved + 1 }
        have hstands := State.sbox_setSbox (s.movedOn die idx l) die (b := { s.sbox die with moved := (s.sbox die).moved + 1 })
          (by rw [Ne, Sbox.mk.injEq]; omega)
        refine ((hword.step hmoved).step hset).trans (ih (hset.sane (hmoved.sane (State.moveWord_sane h die idx l))) ?_ ?_)
        · rw [hstands]
          show n ≤ total - ((s.sbox die).moved + 1)
          omega
        · rw [hstands]
          exact fun i hi => hw i (Nat.le_of_succ_le hi)

theorem moveLever_bytesKept {s t : State} {die : Nat} (h : s.Sane) (ht : exec (.moveLever die) s = .next t) :
    bytesKept die (s.lever die).dst.space (fun w => (s.lever die).dst.word + (s.sbox die).moved ≤ w ∧
      w ≤ (s.lever die).dst.word + (s.lever die).aux % 64) s t := by
  replace ht : execMoveLever die s = .next t := ht
  rw [execMoveLever] at ht
  rw [← Host.Outcome.next.inj ht]
  split
  · split
    · exact State.issue_bytesKept _ _ (bytesKept_of_mem rfl)
    · split
      · exact moveWords_bytesKept _ h (Nat.min_le_left ..) fun i hi hlast =>
        ⟨Nat.add_le_add_left hi _, Nat.add_le_add_left (Nat.le_of_lt_succ hlast) _⟩
      · exact bytesKept_of_mem rfl
  · exact bytesKept_of_mem rfl

/-! ### The cells of the rack outside the selected lanes -/

/-- An index outside the selected lanes of a group of a die is none of theirs. -/
theorem lane_outside {die d i g k : Nat} {m : DWord} (hk : k < 64) (hm : m.getLsbD k = true)
    (hout : d ≠ die ∨ i / 64 ≠ g ∨ m.getLsbD (i % 64) = false) : ¬ (d = die ∧ i = 64 * g + k) := by
  rintro ⟨hd, hi⟩
  have hlane : i % 64 = k := by omega
  rw [hlane, hm] at hout
  rcases hout with hout | hout | hout
  · exact hout hd
  · omega
  · exact Bool.noConfusion hout

theorem timer_outside {die d i g k : Nat} {m : DWord} (hi : i < 8192) (hg : g < 128) (hk : k < 64) (hm : m.getLsbD k = true)
    (hout : d ≠ die ∨ i / 64 ≠ g ∨ m.getLsbD (i % 64) = false) : d * 8192 + i ≠ die * 8192 + 64 * g + k := by
  have hlane := lane_outside hk hm hout
  omega

theorem counter_outside {die d i g k : Nat} {m : DWord} (hi : i < 4096) (hg : g < 64) (hk : k < 64) (hm : m.getLsbD k = true)
    (hout : d ≠ die ∨ i / 64 ≠ g ∨ m.getLsbD (i % 64) = false) : d * 4096 + i ≠ die * 4096 + 64 * g + k := by
  have hlane := lane_outside hk hm hout
  omega

section
variable {s : State} (h : s.Sane) {die : Nat} {d i : Nat}
include h

theorem doTstart_timer (hsort : SMap.sorted s.timers = true) (hi : i < 8192) (hout : d ≠ die ∨ i / 64 ≠ (s.lever die).aux % 128 ∨
    (maskEntry s die (s.lever die).mask).getLsbD (i % 64) = false) :
    (doTstart (s.leverRun die) die (s.lever die)).st.timer d i = s.timer d i := by
  rw [doTstart_sees (State.leverRun_sees h die) (s.lever_mask_lt die)]
  obtain ⟨-, hkept⟩ := (callTimer_laneWise s die ((s.lever die).aux % 128)
    (leverResult s die (s.lever die) (source s die (s.lever die).a)).1.getLsbD).eachLane
    (maskEntry s die (s.lever die).mask) (State.leverRun_timersKept h die hsort)
  exact (hkept _ fun k hk hm => timer_outside hi (Nat.mod_lt _ (by decide)) hk hm hout).trans
    (State.timerCell_moves (s.leverRun_moves die) _)

theorem doTreset_timer (hsort : SMap.sorted s.timers = true) (hi : i < 8192) (hout : d ≠ die ∨ i / 64 ≠ (s.lever die).aux % 128 ∨
    (maskEntry s die (s.lever die).mask).getLsbD (i % 64) = false) :
    (doTreset (s.leverRun die) die (s.lever die)).st.timer d i = s.timer d i := by
  have hs := State.leverRun_sees h die
  have hl := s.lever_mask_lt die
  cases hb : bit (s.lever die).aux 11 with
  | true =>
    rw [doTreset_counters hs hl hb]
    have hkept : Moves 0x80004000000 (s.leverRun die) ((s.leverRun die).eachLane (maskEntry s die (s.lever die).mask) fun t k =>
        if (leverResult s die (s.lever die) (source s die (s.lever die).a)).1.getLsbD k then
          t.setCounter die (64 * ((s.lever die).aux % 64) + k) ((t.counter die (64 * ((s.lever die).aux % 64) + k)).reset
            (t.counterPv die (64 * ((s.lever die).aux % 64) + k)) (bit (s.lever die).aux 10)) else t) :=
      Moves.foldl (fun _ _ => Moves.ite (Moves.sub (State.setCounter_moves ..)) .refl) .refl
    exact (State.timerCell_moves hkept _).trans (State.timerCell_moves (s.leverRun_moves die) _)
  | false =>
    rw [doTreset_timers hs hl hb]
    obtain ⟨-, hkept⟩ := (resetTimer_laneWise s die ((s.lever die).aux % 128)
      (leverResult s die (s.lever die) (source s die (s.lever die).a)).1.getLsbD).eachLane
      (maskEntry s die (s.lever die).mask) (State.leverRun_timersKept h die hsort)
    exact (hkept _ fun k hk hm => timer_outside hi (Nat.mod_lt _ (by decide)) hk hm hout).trans
      (State.timerCell_moves (s.leverRun_moves die) _)

theorem doTreset_counter (hsort : SMap.sorted s.counters = true) (hi : i < 4096)
    (hout : d ≠ die ∨ i / 64 ≠ (s.lever die).aux % 64 ∨
      (maskEntry s die (s.lever die).mask).getLsbD (i % 64) = false) :
    (doTreset (s.leverRun die) die (s.lever die)).st.counter d i = s.counter d i := by
  have hs := State.leverRun_sees h die
  have hl := s.lever_mask_lt die
  cases hb : bit (s.lever die).aux 11 with
  | true =>
    rw [doTreset_counters hs hl hb]
    obtain ⟨-, hkept⟩ := (resetCounter_laneWise s die ((s.lever die).aux % 64) (bit (s.lever die).aux 10)
      (leverResult s die (s.lever die) (source s die (s.lever die).a)).1.getLsbD).eachLane
      (maskEntry s die (s.lever die).mask) (State.leverRun_countersKept h die hsort)
    exact (hkept _ fun k hk hm => counter_outside hi (Nat.mod_lt _ (by decide)) hk hm hout).trans
      (State.counterCell_moves (s.leverRun_moves die) _)
  | false =>
    rw [doTreset_timers hs hl hb]
    have hkept : Moves 0x80002000000 (s.leverRun die) ((s.leverRun die).eachLane (maskEntry s die (s.lever die).mask) fun t k =>
        if (leverResult s die (s.lever die) (source s die (s.lever die).a)).1.getLsbD k then
          t.setTimer die (64 * ((s.lever die).aux % 128) + k) (t.timer die (64 * ((s.lever die).aux % 128) + k)).reset else t) :=
      Moves.foldl (fun _ _ => Moves.ite (State.setTimer_moves ..) .refl) .refl
    exact (State.counterCell_moves hkept _).trans (State.counterCell_moves (s.leverRun_moves die) _)

theorem doCount_counter (hsort : SMap.sorted s.counters = true) (down : Bool) (hi : i < 4096)
    (hout : d ≠ die ∨ i / 64 ≠ (s.lever die).aux % 64 ∨
      (maskEntry s die (s.lever die).mask).getLsbD (i % 64) = false) :
    (doCount (s.leverRun die) die (s.lever die) down).st.counter d i = s.counter d i := by
  rw [doCount_sees (State.leverRun_sees h die) (s.lever_mask_lt die)]
  obtain ⟨-, hkept⟩ := (callCounter_laneWise s die ((s.lever die).aux % 64) down
    (leverResult s die (s.lever die) (source s die (s.lever die).a)).1.getLsbD).eachLane
    (maskEntry s die (s.lever die).mask) (State.leverRun_countersKept h die hsort)
  exact (hkept _ fun k hk hm => counter_outside hi (Nat.mod_lt _ (by decide)) hk hm hout).trans
    (State.counterCell_moves (s.leverRun_moves die) _)

end

section
variable {s : State} {die : Nat} (ops : Nat → Bool) (run : State → Nat → Lever → LeverDone) {d i : Nat}

theorem State.issue_timer (hrun : (run (s.leverRun die) (s.sbox die).next (s.lever die)).st.timer d i = s.timer d i) :
    (s.issue die ops run).timer d i = s.timer d i := by
  rcases s.issue_cases die ops run with hm | hm
  · exact State.timerCell_moves hm _
  · exact (State.timerCell_moves hm _).trans hrun

theorem State.issue_counter (hrun : (run (s.leverRun die) (s.sbox die).next (s.lever die)).st.counter d i = s.counter d i) :
    (s.issue die ops run).counter d i = s.counter d i := by
  rcases s.issue_cases die ops run with hm | hm
  · exact State.counterCell_moves hm _
  · exact (State.counterCell_moves hm _).trans hrun

end

section
variable {s t : State} (h : s.Sane) {die : Nat} {c : Instr}
include h

theorem timerLevers_keep (hsort : SMap.sorted s.timers = true) (hc : c ∈ [Instr.tstart die, .treset die])
    (ht : exec c s = .next t) {d i : Nat} (hi : i < 8192) (hout : d ≠ die ∨ i / 64 ≠ (s.lever die).aux % 128 ∨
      (maskEntry s die (s.lever die).mask).getLsbD (i % 64) = false) : t.timer d i = s.timer d i := by
  simp only [List.mem_cons, List.not_mem_nil, or_false] at hc
  rcases hc with rfl | rfl
  · rw [← Host.Outcome.next.inj ht]
    exact State.issue_timer _ _ (doTstart_timer h hsort hi hout)
  · rw [← Host.Outcome.next.inj ht]
    exact State.issue_timer _ _ (doTreset_timer h hsort hi hout)

theorem counterLevers_keep (hsort : SMap.sorted s.counters = true) (hc : c ∈ [Instr.treset die, .cup die, .cdn die])
    (ht : exec c s = .next t) {d i : Nat} (hi : i < 4096) (hout : d ≠ die ∨ i / 64 ≠ (s.lever die).aux % 64 ∨
      (maskEntry s die (s.lever die).mask).getLsbD (i % 64) = false) : t.counter d i = s.counter d i := by
  simp only [List.mem_cons, List.not_mem_nil, or_false] at hc
  rcases hc with rfl | rfl | rfl
  · rw [← Host.Outcome.next.inj ht]
    exact State.issue_counter _ _ (doTreset_counter h hsort hi hout)
  · rw [← Host.Outcome.next.inj ht]
    exact State.issue_counter _ _ (doCount_counter h hsort false hi hout)
  · rw [← Host.Outcome.next.inj ht]
    exact State.issue_counter _ _ (doCount_counter h hsort true hi hout)

end

/-! ### The parts of the state that the levers leave -/

/-- The levers that have no destination in the bit store. -/
def wordlessLevers (die : Nat) : List Instr :=
  [.tstart die, .treset die, .cup die, .cdn die, .skipz die, .skipnz die, .syncLever die, .syncTimeout die, .nopLever die,
    .endLever die, .illegalOp die]

theorem frameMask_testBit (c : Instr) (p : Part) : (frameMask c).testBit p.ix = (partsOf c).contains p := by
  rw [frameMask, Nat.testBit_or, Moves.parts_testBit, Moves.pageSet_part, Bool.or_false]

theorem exec_next_part {c : Instr} {s t : State} (h : exec c s = .next t) (p : Part) (hp : (partsOf c).contains p = false) :
    p.same s t :=
  (exec_next_moves h).part p ((frameMask_testBit c p).trans hp)

theorem wordless_mem (die : Nat) : ∀ c ∈ wordlessLevers die, (partsOf c).contains .mem = false := by
  simp only [wordlessLevers, List.forall_mem_cons]
  exact ⟨rfl, rfl, rfl, rfl, rfl, rfl, rfl, rfl, rfl, rfl, rfl, List.forall_mem_nil _⟩

theorem countless_counters (die : Nat) : ∀ c ∈ [Instr.tstart die, .skipz die, .skipnz die, .syncLever die, .syncTimeout die,
    .nopLever die, .endLever die, .illegalOp die], (partsOf c).contains .counters = false := by
  simp only [List.forall_mem_cons]
  exact ⟨rfl, rfl, rfl, rfl, rfl, rfl, rfl, rfl, List.forall_mem_nil _⟩

theorem timeless_timers (die : Nat) : ∀ c ∈ [Instr.cup die, .cdn die, .skipz die, .skipnz die, .syncLever die, .syncTimeout die,
    .nopLever die, .endLever die, .illegalOp die], (partsOf c).contains .timers = false := by
  simp only [List.forall_mem_cons]
  exact ⟨rfl, rfl, rfl, rfl, rfl, rfl, rfl, rfl, rfl, List.forall_mem_nil _⟩

/-- Settles O26: the destination words byte by byte, the cells of the rack lane by lane, the rest by the frames. -/
theorem leversKeepTheRest : Obligations.LeversKeepTheRest := by
  intro s t die h htimers hcounters l m keeps
  have hmem (c : Instr) (hc : c ∈ wordlessLevers die) (ht : exec c s = .next t) : t.mem = s.mem :=
    exec_next_part ht .mem (wordless_mem die c hc)
  refine ⟨fun c hc ht => wordLever_bytesKept h hc ht, fun ht => moveLever_bytesKept h ht,
    fun c hc ht => ⟨hmem c ?_ ht, fun d i hi hout => timerLevers_keep h htimers hc ht hi hout⟩,
    fun c hc ht => ⟨hmem c ?_ ht, fun d i hi hout => counterLevers_keep h hcounters hc ht hi hout⟩,
    fun c hc ht => ⟨hmem c ?_ ht, exec_next_part ht .counters (countless_counters die c hc)⟩,
    fun c hc ht => exec_next_part ht .timers (timeless_timers die c hc)⟩
  all_goals
    simp only [wordlessLevers, List.mem_cons, List.not_mem_nil, or_false] at hc ⊢
    tauto

end Sys2Proof.Machine
end

section
/-! SUPPORT.  The mask table, the SBOX fault record and the watch (R120, R121, R137, R170), and the page writes that are held to the
end of a row (R50). -/

open Sys2Proof Sys2Proof.Machine Sys2Proof.Bits
namespace Sys2Proof.Machine
set_option Elab.async false

/-! ### Page writes that are held (R50) -/

/-- A held write waits where its master and the hub have room. -/
theorem State.heldPage_waits {s : State} {w : Who} {die : Nat} (h : s.stalled w.code die true false = false) (code off word : Nat)
    (keep : State → State) :
    s.heldPage w die code off word keep = keep (s.holdRequest (State.pageReq w die code off word)) := by
  rw [State.heldPage, State.stalled_waits h]
  rfl

theorem State.takes_notStalled {s : State} {w : Who} {die code : Nat} (h : s.takes w die code = true) :
    s.stalled w.code die true false = false := by
  rw [State.takes, Bool.and_eq_true, Bool.and_eq_true] at h
  exact State.stalled_reaches h.1.1

/-- The one held request of a master for a register is answered. -/
theorem State.answerPage_single {s : State} {who die code off word : Nat} {user : Bool}
    (h : s.holding = [State.pageReq ⟨who, user⟩ die code off word]) :
    (s.answerPage who die code off).holding = [] ∧ SMap.find? (s.answerPage who die code off).replies who = some ⟨0, false⟩ := by
  let r := State.pageReq ⟨who, user⟩ die code off word
  have hmem : r ∈ s.holding := h ▸ List.mem_singleton_self r
  have hfind : (s.holding.find? fun q => q.who == who && !q.failed && q.addr == regAddr die code off) = some r := by
    rw [h, List.find?_cons_of_pos]
    simp only [State.pageReq, beq_self_eq_true, Bool.not_false, Bool.and_self]
  rw [State.answerPage, hfind]
  refine ⟨?_, SMap.find?_insert_same ..⟩
  show (s.unholdRequest r).holding = []
  rw [State.unholdRequest_holding hmem, h]
  exact List.erase_cons_head ..

/-! ### A word of the mask table is written (R120) -/

/-- A value between the bounds of a run without gaps is its own nearest. -/
theorem nearest_upto {lo hi x : Int} (hlo : lo ≤ x) (hhi : x ≤ hi) : nearest (upto lo hi) x = x := by
  have hcand : segCandidates x (lo, hi, 1) = [x] ∨ segCandidates x (lo, hi, 1) = [x, x + 1] := by
    unfold segCandidates
    dsimp only
    simp only [Int.ediv_one, Int.mul_one, add_sub_cancel]
    split
    · exact .inl (by rw [le_antisymm hlo ‹x ≤ lo›])
    · split
      · exact .inl (by rw [le_antisymm hhi ‹hi ≤ x›])
      · split
        · exact .inr rfl
        · exact .inl rfl
  unfold nearest upto
  rw [List.flatMap_cons, List.flatMap_nil, List.append_nil]
  rcases hcand with hc | hc
  · rw [hc]
    rfl
  · rw [hc]
    show nearer x x (x + 1) = x
    rw [nearer, if_pos (by omega)]

/-- The field of a word of the mask table. -/
def maskField (off : Nat) : FieldDef := { Reg.SBOX_MASKi_LO_BITS with off := off }

/-- A field that stands alone is in its own register only. -/
theorem placeAt_lone {off : Nat} {f : FieldDef} (hd : f.dims = []) (ho : f.off ≠ off) : placeAt off f = [] := by
  unfold placeAt
  rw [hd]
  dsimp only
  rw [if_neg ho]

/-- An array field is in the registers of its elements. -/
theorem placeAt_array {off n st : Nat} {f : FieldDef} (hd : f.dims = [(n, st)]) : placeAt off f =
    if f.off ≤ off ∧ (off - f.off) % st = 0 ∧ (off - f.off) / st < n then
      (List.range f.lanes.1).map (FieldDef.j { f with off := off }) else [] := by
  unfold placeAt
  rw [hd]
  dsimp only
  by_cases hc : f.off ≤ off ∧ (off - f.off) % st = 0 ∧ (off - f.off) / st < n
  · rw [if_pos hc, if_pos hc]
  · rw [if_neg hc, if_neg hc]

/-- The fields of the SBOX page below the mask table. -/
def sboxLone : List FieldDef := Reg.pageSBOX.take 19

theorem sboxLone_off : ∀ f ∈ sboxLone, f.dims = [] ∧ f.off < 0x808 := by decide

theorem regFields_sbox (off : Nat) : ∀ die ∈ scanDies, regFields die 0x0B off =
    (firstOfEach ((sboxLone ++ [Reg.SBOX_MASKi_LO_BITS, Reg.SBOX_MASKi_HI_BITS]).flatMap (placeAt off))).map
      fun f => { f with code := 0x0B } := by
  intro die hd
  fin_cases hd <;> rfl

/-- A word of an entry of the mask table is one field. -/
theorem regFields_mask {die e : Nat} (hd : isScan die = true) (h1 : 1 ≤ e) (h2 : e < 256) :
    regFields die 0x0B (0x800 + 8 * e) = [maskField (0x800 + 8 * e)] ∧
      regFields die 0x0B (0x804 + 8 * e) = [maskField (0x804 + 8 * e)] := by
  have hlone (off : Nat) (ho : 0x808 ≤ off) : sboxLone.flatMap (placeAt off) = [] :=
    List.flatMap_eq_nil_iff.mpr fun f hf =>
      placeAt_lone (sboxLone_off f hf).1 (Nat.ne_of_lt (Nat.lt_of_lt_of_le (sboxLone_off f hf).2 ho))
  have hlo : placeAt (0x800 + 8 * e) Reg.SBOX_MASKi_LO_BITS = [maskField (0x800 + 8 * e)] :=
    (placeAt_array rfl).trans (if_pos (by show 0x800 ≤ _ ∧ (_ - 0x800) % 8 = 0 ∧ (_ - 0x800) / 8 < 256; omega))
  have hlo' : placeAt (0x800 + 8 * e) Reg.SBOX_MASKi_HI_BITS = [] :=
    (placeAt_array rfl).trans (if_neg (by show ¬ (0x804 ≤ _ ∧ (_ - 0x804) % 8 = 0 ∧ (_ - 0x804) / 8 < 256); omega))
  have hhi : placeAt (0x804 + 8 * e) Reg.SBOX_MASKi_LO_BITS = [] :=
    (placeAt_array rfl).trans (if_neg (by show ¬ (0x800 ≤ _ ∧ (_ - 0x800) % 8 = 0 ∧ (_ - 0x800) / 8 < 256); omega))
  have hhi' : placeAt (0x804 + 8 * e) Reg.SBOX_MASKi_HI_BITS = [maskField (0x804 + 8 * e)] :=
    (placeAt_array rfl).trans (if_pos (by show 0x804 ≤ _ ∧ (_ - 0x804) % 8 = 0 ∧ (_ - 0x804) / 8 < 256; omega))
  constructor
  · rw [regFields_sbox _ die (mem_scanDies hd), List.flatMap_append, hlone _ (by omega), List.flatMap_cons, hlo,
      List.flatMap_cons, hlo']
    rfl
  · rw [regFields_sbox _ die (mem_scanDies hd), List.flatMap_append, hlone _ (by omega), List.flatMap_cons, hhi,
      List.flatMap_cons, hhi']
    rfl

theorem maskField_get {off word : Nat} (hw : word < 2 ^ 32) : (maskField off).get word = word := by
  rw [FieldDef.get, show (maskField off).lsb = 0 from rfl, Nat.shiftRight_zero]
  exact Nat.mod_eq_of_lt hw

theorem maskField_clamp (s : State) (die off k below : Nat) {word : Nat} (hw : word < 2 ^ 32) :
    clamp s die ((maskField off).w k) word below = word := by
  rw [clamp_static _ _ _ _ rfl rfl]
  show (nearest (upto 0 (2 ^ 32 - 1)) (word : Int)).toNat = word
  rw [nearest_upto (Int.natCast_nonneg _) (by omega)]
  exact Int.toNat_natCast _

/-- A mask word that the page takes is staged by its effect alone: the store keeps the entry. -/
theorem writeThen_mask {s : State} {w : Who} {die off word : Nat} {k : State → Nat → State} (hs : s.takes w die 0x0B = true)
    (hfs : regFields die 0x0B off = [maskField off]) (hoff : 0x100 ≤ off) (hw : word < 2 ^ 32) :
    writeThen w die 0x0B off word s k = k (takeArming s die 0x0B w.code).2 word := by
  have hclean : pageWrite s w die 0x0B off word = ⟨(takeArming s die 0x0B w.code).2, some word⟩ := by
    refine pageWrite_clean _ hs hfs ?_ ?_ hoff (h3 := .inl (by omega))
    · rw [List.foldl_cons, List.foldl_nil, writeField_mask _ rfl rfl rfl]
      · show Writing.mk _ (0 + (maskField off).get word * 2 ^ 0) [] = _
        rw [maskField_get hw, Nat.pow_zero, Nat.mul_one, Nat.zero_add]
      · show clamp _ die _ ((maskField off).get word) _ = (maskField off).get word
        rw [maskField_get hw]
        exact maskField_clamp _ die off _ _ hw
    · have hmask : fieldMask [maskField off] = 2 ^ 32 - 1 := show 0 ||| ((2 ^ 32 - 1) <<< 0) = 2 ^ 32 - 1 by decide
      rw [hmask]
      exact minus_of_masked ((Nat.and_two_pow_sub_one_eq_mod word 32).trans (Nat.mod_eq_of_lt hw)) hw
  exact writeThen_clean hclean

section
variable {s : State} {w : Who} {die entry word : Nat} (hd : isScan die = true) (h1 : 1 ≤ entry) (h2 : entry < 256)
  (hw : word < 2 ^ 32) (ht : s.takes w die 0x0B = true)
include hd h1 h2 hw ht

theorem exec_maskLowWrite :
    exec (.maskLowWrite w die entry word) s = .next (maskLow die entry (takeArming s die 0x0B w.code).2 word) := by
  show execMaskLowWrite w die entry word s = _
  rw [execMaskLowWrite, if_pos (by rw [hd, decide_eq_true h1, decide_eq_true h2]; rfl),
    writeThen_mask ht (regFields_mask hd h1 h2).1 (by omega) hw]

theorem exec_maskHighWrite :
    exec (.maskHighWrite w die entry word) s = .next (maskHigh w die entry (takeArming s die 0x0B w.code).2 word) := by
  show execMaskHighWrite w die entry word s = _
  rw [execMaskHighWrite, if_pos (by rw [hd, decide_eq_true h1, decide_eq_true h2]; rfl),
    writeThen_mask ht (regFields_mask hd h1 h2).2 (by omega) hw]

theorem maskLowWrite_acts : Completes (.maskLowWrite w die entry word) s fun t =>
    SMap.find? t.maskStages die = some ⟨entry, word⟩ ∧
      t.rd die (Reg.SBOX_MASKi_LO_BITS.i entry) = s.rd die (Reg.SBOX_MASKi_LO_BITS.i entry) :=
  ⟨_, exec_maskLowWrite hd h1 h2 hw ht, SMap.find?_insert_same .., rfl⟩

end

/-! ### Both words of an entry are stored (R120, R121) -/

theorem storeMask_rd {s : State} (h : s.Sane) (die i low high : Nat) :
    (storeMask s die i low high).rd die (Reg.SBOX_MASKi_LO_BITS.i i) = low % 2 ^ 32 ∧
      (storeMask s die i low high).rd die (Reg.SBOX_MASKi_HI_BITS.i i) = high % 2 ^ 32 := by
  have hlow := h.wr die (Reg.SBOX_MASKi_LO_BITS.i i) low
  refine ⟨?_, State.rd_wr_same hlow ..⟩
  rw [storeMask, State.rd_wr_other hlow _ (.inr (.inl (by show (0x800 + i * 8) % 4096 ≠ (0x804 + i * 8) % 4096; omega)))]
  exact State.rd_wr_same h ..

/-- The state in which the staged word of an entry has been taken. -/
def State.unstaged (s : State) (w : Who) (die : Nat) : State :=
  { (takeArming s die 0x0B w.code).2 with maskStages := SMap.erase s.maskStages die }

/-- What a high word does behind the low word of its entry. -/
theorem maskHigh_staged {s : State} {w : Who} {die entry word low : Nat} (hstage : SMap.find? s.maskStages die = some ⟨entry, low⟩) :
    maskHigh w die entry (takeArming s die 0x0B w.code).2 word =
      if s.rowRunning die 0 then
        (s.unstaged w die).heldPage w die 0x0B (0x804 + 8 * entry) word (holdMask die ⟨entry, low + 1, word, w.code⟩)
      else storeMask (s.unstaged w die) die entry low word := by
  have hfind : SMap.find? (takeArming s die 0x0B w.code).2.maskStages die = some ⟨entry, low⟩ := hstage
  simp only [maskHigh, hfind, Option.filter_some, beq_self_eq_true, if_true, Option.map_some, Option.getD_some,
    Nat.add_one_ne_zero, if_false, maskLowOf, Nat.add_sub_cancel]
  rfl

theorem maskHighWrite_acts {s : State} (h : s.Sane) {w : Who} {die entry word low : Nat} (hd : isScan die = true) (h1 : 1 ≤ entry)
    (h2 : entry < 256) (hw : word < 2 ^ 32) (hlow : low < 2 ^ 32) (ht : s.takes w die 0x0B = true)
    (hstage : SMap.find? s.maskStages die = some ⟨entry, low⟩) :
    Completes (.maskHighWrite w die entry word) s fun t =>
      (s.rowRunning die 0 = false →
        t.rd die (Reg.SBOX_MASKi_LO_BITS.i entry) = low ∧ t.rd die (Reg.SBOX_MASKi_HI_BITS.i entry) = word) ∧
      (s.rowRunning die 0 = true →
        SMap.get [] t.heldMasks die = SMap.get [] s.heldMasks die ++ [⟨entry, low + 1, word, w.code⟩] ∧
        State.pageReq w die 0x0B (0x804 + 8 * entry) word ∈ t.holding ∧ t.replies = s.replies) := by
  refine ⟨_, exec_maskHighWrite hd h1 h2 hw ht, fun hrow => ?_, fun hrow => ?_⟩
  · have hu : (s.unstaged w die).Sane := (takeArming_moves s die 0x0B w.code).sane h
    obtain ⟨hlo, hhi⟩ := storeMask_rd hu die entry low word
    rw [maskHigh_staged hstage, hrow, if_neg Bool.false_ne_true, hlo, hhi]
    exact ⟨Nat.mod_eq_of_lt hlow, Nat.mod_eq_of_lt hw⟩
  · let r := State.pageReq w die 0x0B (0x804 + 8 * entry) word
    have hroom : (s.unstaged w die).stalled w.code die true false = false := State.takes_notStalled ht
    have hmoves := (s.unstaged w die).holdRequest_moves r
    rw [maskHigh_staged hstage, hrow, if_pos rfl, State.heldPage_waits hroom]
    refine ⟨?_, State.mem_holdRequest _ r (atPage_pageReq ..), hmoves.part .replies⟩
    rw [holdMask, SMap.get_put_of_ne _ _ (List.append_ne_nil_of_right_ne_nil _ (List.cons_ne_nil _ _)), hmoves.part .heldMasks]
    rfl

/-! ### Held mask stores (R121) -/

section
variable {s : State} (h : s.Sane) {die : Nat} {l : List HeldWrite} {x : HeldWrite}

/-- The state before the last of the held mask stores takes effect. -/
def State.maskStored (s : State) (die : Nat) (l : List HeldWrite) : State := l.foldl (releaseMask die) s

theorem State.maskStored_moves (s : State) (die : Nat) (l : List HeldWrite) : Moves 0x8200000080000001110 s (s.maskStored die l) :=
  Moves.foldl (fun _ _ => releaseMask_moves ..) .refl

theorem exec_maskStore (hrow : s.rowRunning die 0 = false) (hx : SMap.get [] s.heldMasks die = l ++ [x]) :
    exec (.maskStore die) s =
      .next { releaseMask die (s.maskStored die l) x with heldMasks := SMap.erase s.heldMasks die } := by
  show execMaskStore die s = _
  rw [execMaskStore, hrow, if_neg Bool.false_ne_true, hx, List.foldl_append]
  rfl

theorem releaseMask_rd {u : State} (hu : u.Sane) :
    (releaseMask die u x).rd die (Reg.SBOX_MASKi_LO_BITS.i x.off) = maskLowOf u die x.off x.win % 2 ^ 32 ∧
      (releaseMask die u x).rd die (Reg.SBOX_MASKi_HI_BITS.i x.off) = x.word % 2 ^ 32 := by
  have hs : (storeMask u die x.off (maskLowOf u die x.off x.win) x.word).Sane := (hu.wr ..).wr ..
  have ha := State.answerPage_moves (storeMask u die x.off (maskLowOf u die x.off x.win) x.word) x.who die 0x0B (0x804 + 8 * x.off)
  obtain ⟨hlo, hhi⟩ := storeMask_rd hu die x.off (maskLowOf u die x.off x.win) x.word
  have hpage (g : FieldDef) (hg : g.code = 0x0B) := ha.rd hs die g (by rw [hg]; rfl)
  rw [releaseMask, hpage _ rfl, hpage _ rfl]
  exact ⟨hlo, hhi⟩

include h

theorem maskStore_acts (hsort : SMap.sorted s.heldMasks = true) (hrow : s.rowRunning die 0 = false)
    (hx : SMap.get [] s.heldMasks die = l ++ [x]) :
    Completes (.maskStore die) s fun t =>
      SMap.get [] t.heldMasks die = [] ∧ t.rd die (Reg.SBOX_MASKi_HI_BITS.i x.off) = x.word % 2 ^ 32 ∧
      (x.win ≠ 0 → t.rd die (Reg.SBOX_MASKi_LO_BITS.i x.off) = (x.win - 1) % 2 ^ 32) ∧
      (l = [] → x.win = 0 →
        t.rd die (Reg.SBOX_MASKi_LO_BITS.i x.off) = s.rd die (Reg.SBOX_MASKi_LO_BITS.i x.off) % 2 ^ 32) ∧
      ∀ u, l = [] → s.holding = [State.pageReq ⟨x.who, u⟩ die 0x0B (0x804 + 8 * x.off) x.word] →
        t.holding = [] ∧ SMap.find? t.replies x.who = some ⟨0, false⟩ := by
  obtain ⟨hlo, hhi⟩ := releaseMask_rd (die := die) (x := x) ((s.maskStored_moves die l).sane h)
  refine ⟨_, exec_maskStore hrow hx, ?_, hhi, fun hwin => hlo.trans ?_, fun hl hwin => hlo.trans ?_, fun user hl hhold => ?_⟩
  · rw [SMap.get, SMap.find?_erase_same _ hsort]
    rfl
  · rw [maskLowOf, if_neg hwin]
  · subst hl
    rw [maskLowOf, if_pos hwin]
    rfl
  · subst hl
    exact State.answerPage_single (s := storeMask s die x.off (maskLowOf s die x.off x.win) x.word) hhold

end

/-! ### The fault record and the watch clear (R137, R170) -/

theorem sboxClr_plain : ∀ die ∈ scanDies, plainRegister die 0x0B 0x11C 1 = true ∧
    (regFields die 0x0B 0x11C).all (fun f => f.acc == .wo) = true := by decide +kernel

theorem sboxFaultClear_acts {s : State} (h : s.Sane) {w : Who} {die : Nat} (hd : isScan die = true) (ht : s.takes w die 0x0B = true) :
    Completes (.sboxFaultClear w die 1) s fun t =>
      t.rd die Reg.SBOX_FAULT_VALID = 0 ∧ t.rd die Reg.SBOX_FAULT_KIND = 0 ∧ t.rd die Reg.SBOX_FAULT_LEVER = 0 ∧
      t.rd die Reg.SBOX_FAULT_TASK = 0 := by
  obtain ⟨hplain, hwo⟩ := sboxClr_plain die (mem_scanDies hd)
  have hexec : exec (.sboxFaultClear w die 1) s = .next (sboxClr die (takeArming s die 0x0B w.code).2 1) := by
    show execSboxFaultClear w die 1 s = _
    rw [execSboxFaultClear, if_pos hd, writeThen_command ht hplain hwo]
  have h0 : (takeArming s die 0x0B w.code).2.Sane := (takeArming_moves ..).sane h
  have hkind := h0.wr die Reg.SBOX_FAULT_KIND 0
  have hvalid := hkind.wr die Reg.SBOX_FAULT_VALID 0
  have hlever := hvalid.wr die Reg.SBOX_FAULT_LEVER 0
  have hclr : sboxClr die (takeArming s die 0x0B w.code).2 1 =
      ((((takeArming s die 0x0B w.code).2.wr die Reg.SBOX_FAULT_KIND 0).wr die Reg.SBOX_FAULT_VALID 0).wr die
        Reg.SBOX_FAULT_LEVER 0).wr die Reg.SBOX_FAULT_TASK 0 := rfl
  refine ⟨_, hexec.trans (congrArg _ hclr), ?_, ?_, ?_, State.rd_wr_same hlever ..⟩
  · rw [State.rd_wr_other hlever, State.rd_wr_other hvalid, State.rd_wr_same hkind, Nat.zero_mod]
  · rw [State.rd_wr_other hlever, State.rd_wr_other hvalid, State.rd_wr_other hkind, State.rd_wr_same h0, Nat.zero_mod]
  · rw [State.rd_wr_other hlever, State.rd_wr_same hvalid, Nat.zero_mod]

theorem watchClear_acts {s : State} (h : s.Sane) {w : Who} {die word : Nat} (hd : isScan die = true)
    (ht : s.takes w die 0x12 = true) (hf : s.fits w die 0x12 0x104 word = true) (hb : bit word 18 = true) :
    Completes (.watchClear w die word) s fun t => t.on die Reg.S_DBG_STAT_WATCH_HIT = false := by
  have hexec : exec (.watchClear w die word) s = .next ((written s w die 0x12 0x104 word).wr die Reg.S_DBG_STAT_WATCH_HIT 0) := by
    show execWatchClear w die word s = _
    rw [execWatchClear, if_pos hd, writeThen_fits ht hf, dbgWatch, hb, if_pos rfl]
  exact ⟨_, hexec, State.on_wr_zero ((written_moves ..).sane h) _ _⟩

end Sys2Proof.Machine
end

section
/-! SUPPORT.  The Timer rack's page: its clear, its held writes, its advance passes (R131, R139). -/

open Sys2Proof Sys2Proof.Machine Sys2Proof.Bits
namespace Sys2Proof.Machine
set_option Elab.async false

/-! ### The clear of the rack (R139) -/

/-- The timers of a die are all idle, its counters settled by their presets. -/
theorem clearRack_shows {s : State} (h : s.Sane) (hsort : SMap.sorted s.counters = true) (die : Nat) :
    (∀ i, i < 8192 → (clearRack s die).timer die i = Timer.idle) ∧
      ∀ i, i < 4096 → (clearRack s die).counter die i = Counter.idle.settle (s.counterPv die i) := by
  let s0 : State := { s with
    timers := SMap.clear s.timers (die * 8192) 8192
    dirty := ((List.range 32).foldl (fun (t : State) i => { t with dirty := t.markDirty die (some (2048 + i)) }) s).dirty }
  have hclear : clearRack s die =
      (List.range 4096).foldl (fun t i => t.setCounter die i (Counter.idle.settle (t.counterPv die i))) s0 := rfl
  have hkept : s.countersKept die s0 := ⟨hsort, h, fun _ => rfl⟩
  have hcells : LaneWise (s.countersKept die) State.counterCell (die * 4096) (fun i _ => Counter.idle.settle (s.counterPv die i))
      fun t i => t.setCounter die i (Counter.idle.settle (t.counterPv die i)) :=
    { keeps := fun t i ht => State.setCounter_countersKept ht i _
      same := fun t i ht => (State.counter_setCounter_same ht.1 die i _).trans (by rw [ht.2.2])
      other := fun t i j ht hj => State.counterCell_setCounter ht.1 _ hj }
  obtain ⟨-, hset, -⟩ := hcells.foldl List.nodup_range hkept
  have hmoves : Moves 0x80004000000 s0 (clearRack s die) := by
    rw [hclear]
    exact Moves.foldl (fun _ _ => State.setCounter_moves ..) .refl
  refine ⟨fun i hi => (State.timerCell_moves hmoves _).trans ?_, fun i hi => ?_⟩
  · show SMap.get Timer.idle (SMap.clear s.timers (die * 8192) 8192) (die * 8192 + i) = Timer.idle
    rw [SMap.get, SMap.find?_clear_inside (by omega) (by omega)]
    rfl
  · rw [hclear]
    exact hset i (List.mem_range.mpr hi)

theorem timrCtl_plain : ∀ die ∈ scanDies, plainRegister die 0x0C 0x100 1 = true ∧
    (regFields die 0x0C 0x100).all (fun f => f.acc == .wo) = true ∧ regFields die 0x0C 0x100 = [Reg.TIMR_CTL_CLEAR] := by
  decide +kernel

section
variable {s : State} {w : Who} {die : Nat}

/-- The write of `TIMR.CTL` clears the rack, or is held to the end of the row. -/
theorem exec_timrClear (hd : isScan die = true) (ht : s.takes w die 0x0C = true) : exec (.timrClear w die 1) s =
    .next (if timrHeld s die then
      (takeArming s die 0x0C w.code).2.heldPage w die 0x0C 0x100 1 (holdTimr die ⟨0x100, s.winIx w.code die .timer, 1, w.code⟩)
      else clearRack (takeArming s die 0x0C w.code).2 die) := by
  obtain ⟨hplain, hwo, hfs⟩ := timrCtl_plain die (mem_scanDies hd)
  have hwrite : pageWrite s w die 0x0C 0x100 1 = ⟨(takeArming s die 0x0C w.code).2, some 1⟩ := by
    rw [pageWrite_plain ht hplain, written, storeFields_wo hwo]
  have hfields (win : Nat) : timrFields die 0x100 win = [Reg.TIMR_CTL_CLEAR] := by
    rw [timrFields, hfs]
    rfl
  show execTimrClear w die 1 s = _
  rw [execTimrClear, if_pos hd, timrWrite, hwrite]
  dsimp only
  rw [hfields]
  rfl

theorem timrClear_acts (h : s.Sane) (hd : isScan die = true) (hsort : SMap.sorted s.counters = true)
    (ht : s.takes w die 0x0C = true) :
    Completes (.timrClear w die 1) s fun t =>
      (timrHeld s die = false →
        (∀ i, i < 8192 → t.timer die i = Timer.idle) ∧
        ∀ i, i < 4096 → t.counter die i = Counter.idle.settle (s.counterPv die i)) ∧
      (timrHeld s die = true →
        t.timers = s.timers ∧ (SMap.get [] t.heldTimr die).length = (SMap.get [] s.heldTimr die).length + 1 ∧
        State.pageReq w die 0x0C 0x100 1 ∈ t.holding ∧ t.replies = s.replies) := by
  let u := (takeArming s die 0x0C w.code).2
  refine ⟨_, exec_timrClear hd ht, fun hheld => ?_, fun hheld => ?_⟩
  · rw [hheld, if_neg Bool.false_ne_true]
    exact clearRack_shows (s := u) ((takeArming_moves s die 0x0C w.code).sane h) hsort die
  · let r := State.pageReq w die 0x0C 0x100 1
    have hroom : u.stalled w.code die true false = false := State.takes_notStalled ht
    have hmoves := u.holdRequest_moves r
    rw [hheld, if_pos rfl, State.heldPage_waits hroom]
    refine ⟨hmoves.part .timers, ?_, State.mem_holdRequest _ r (atPage_pageReq ..), hmoves.part .replies⟩
    rw [holdTimr, SMap.get_put_of_ne _ _ (List.append_ne_nil_of_right_ne_nil _ (List.cons_ne_nil _ _)), hmoves.part .heldTimr]
    exact List.length_append

end

/-! ### Held writes of the rack's page (R139) -/

theorem mem_of_firstOfEach {f : FieldDef} {l : List FieldDef} (h : f ∈ firstOfEach l) : f ∈ l := by
  induction l with
  | nil => exact h
  | cons x l ih =>
    rcases List.mem_cons.mp h with rfl | h
    · exact List.mem_cons_self
    · exact List.mem_cons_of_mem _ (ih (List.mem_filter.mp h).1)

/-- The fields of a register have different lowest bits. -/
theorem firstOfEach_pairwise (l : List FieldDef) : (firstOfEach l).Pairwise fun f g => f.lsb ≠ g.lsb := by
  induction l with
  | nil => exact .nil
  | cons x l ih =>
    exact .cons (fun g hg => Ne.symm (of_decide_eq_true (List.mem_filter.mp hg).2)) (ih.filter _)

/-- An element of a field that is not repeated in its register has the field's lowest bit. -/
theorem lsb_of_placeAt {off : Nat} {f g : FieldDef} (hf : f.lanes.1 = 1) (hg : g ∈ placeAt off f) : g.lsb = f.lsb := by
  have hj (x : FieldDef) (hx : x.lsb = f.lsb) (h : g ∈ (List.range f.lanes.1).map x.j) : g.lsb = f.lsb := by
    rw [hf] at h
    rw [List.mem_singleton.mp h, ← hx]
    show x.lsb + 0 * x.lanes.2 = x.lsb
    rw [Nat.zero_mul, Nat.add_zero]
  unfold placeAt at hg
  dsimp only at hg
  split at hg
  · exact (List.not_mem_nil hg).elim
  next x hx =>
    refine hj x ?_ hg
    split at hx <;> split at hx <;> cases hx <;> rfl

theorem regFields_timr (off : Nat) : ∀ die ∈ scanDies, regFields die 0x0C off =
    (firstOfEach (Reg.pageTIMR.flatMap (placeAt off))).map fun f => { f with code := 0x0C } := by
  intro die hd
  fin_cases hd <;> rfl

theorem pageTIMR_single : ∀ f ∈ Reg.pageTIMR, f.lanes.1 = 1 ∧ f.lsb < 32 := by decide

/-- A field of a register of the rack's page, placed in its window. -/
def timrField (win : Nat) (f : FieldDef) : FieldDef := if f.win = .timer then f.w win else f

theorem timrField_place (win : Nat) (f : FieldDef) : (timrField win f).code = f.code ∧ (timrField win f).lsb = f.lsb := by
  unfold timrField
  split <;> exact ⟨rfl, rfl⟩

/-- The fields of a register of the rack's page stand at different places of that page. -/
theorem timrFields_apart {die : Nat} (hd : isScan die = true) (off win : Nat) :
    (timrFields die off win).Pairwise apart ∧ ∀ f ∈ timrFields die off win, f.code = 0x0C := by
  let l := firstOfEach (Reg.pageTIMR.flatMap (placeAt off))
  have hfields : timrFields die off win = (l.map fun f => { f with code := 0x0C }).map (timrField win) :=
    congrArg (List.map (timrField win)) (regFields_timr off die (mem_scanDies hd))
  have hlsb (f : FieldDef) (hf : f ∈ l) : f.lsb < 32 := by
    obtain ⟨x, hx, hfx⟩ := List.mem_flatMap.mp (mem_of_firstOfEach hf)
    rw [lsb_of_placeAt (pageTIMR_single x hx).1 hfx]
    exact (pageTIMR_single x hx).2
  rw [hfields, List.map_map]
  refine ⟨List.pairwise_map.mpr ((firstOfEach_pairwise _).imp_of_mem fun {f g} hf hg hne => ?_), fun f hf => ?_⟩
  · refine .inr (.inr ?_)
    rw [Function.comp_apply, Function.comp_apply, (timrField_place _ _).2, (timrField_place _ _).2, Nat.mod_eq_of_lt (hlsb f hf),
      Nat.mod_eq_of_lt (hlsb g hg)]
    exact hne
  · obtain ⟨x, -, rfl⟩ := List.mem_map.mp hf
    exact (timrField_place _ _).1

/-- The fields of a register set to their parts of a word. -/
def setFields (die word : Nat) (fs : List FieldDef) (s : State) : State :=
  fs.foldl (fun t f => t.wr die f (f.get word)) s

theorem setFields_sane {s : State} (h : s.Sane) (die word : Nat) (fs : List FieldDef) : (setFields die word fs s).Sane :=
  (Moves.foldl (fun t f => State.wr_moves_any t die f (f.get word)) .refl : Moves _ s (setFields die word fs s)).sane h

theorem setFields_keep {s : State} (h : s.Sane) {die word : Nat} {g : FieldDef} {fs : List FieldDef} (hg : ∀ f ∈ fs, apart g f) :
    (setFields die word fs s).rd die g = s.rd die g := by
  induction fs generalizing s with
  | nil => rfl
  | cons x fs ih =>
    rw [setFields, List.foldl_cons]
    exact (ih (h.wr ..) fun f hf => hg f (List.mem_cons_of_mem _ hf)).trans
      (State.rd_wr_other h _ (hg x List.mem_cons_self))

theorem setFields_get {s : State} (h : s.Sane) {die word : Nat} {fs : List FieldDef} (hp : fs.Pairwise apart) {f : FieldDef}
    (hf : f ∈ fs) : (setFields die word fs s).rd die f = f.get word := by
  induction fs generalizing s with
  | nil => exact (List.not_mem_nil hf).elim
  | cons x fs ih =>
    obtain ⟨hx, hfs⟩ := List.pairwise_cons.mp hp
    rw [setFields, List.foldl_cons]
    rcases List.mem_cons.mp hf with rfl | hf
    · refine (setFields_keep (h.wr ..) hx).trans ((State.rd_wr_same h ..).trans ?_)
      exact Nat.mod_mod ..
    · exact ih (h.wr ..) hfs hf

theorem timrConfigApply_acts {s : State} (h : s.Sane) {die : Nat} (hd : isScan die = true)
    (hsort : SMap.sorted s.heldTimr = true) {x : HeldWrite} (hheld : timrHeld s die = false)
    (hx : SMap.get [] s.heldTimr die = [x]) (hoff : x.off ≠ 0x100) :
    Completes (.timrConfigApply die) s fun t =>
      SMap.get [] t.heldTimr die = [] ∧ ∀ f ∈ timrFields die x.off x.win, t.rd die f = f.get x.word := by
  let u := setFields die x.word (timrFields die x.off x.win) s
  have happly : applyTimr die s x = u.answerPage x.who die 0x0C x.off := by
    rw [applyTimr, if_neg hoff]
    rfl
  have hexec : exec (.timrConfigApply die) s =
      .next { u.answerPage x.who die 0x0C x.off with heldTimr := SMap.erase s.heldTimr die } := by
    show execTimrConfigApply die s = _
    rw [execTimrConfigApply, hheld, if_neg Bool.false_ne_true, hx, ← happly]
    rfl
  obtain ⟨hapart, hcode⟩ := timrFields_apart hd x.off x.win
  refine ⟨_, hexec, ?_, fun f hf => ?_⟩
  · rw [SMap.get, SMap.find?_erase_same _ hsort]
    rfl
  · exact ((u.answerPage_moves x.who die 0x0C x.off).rd (setFields_sane h ..) die f (by rw [hcode f hf]; rfl)).trans
      (setFields_get h hapart hf)

/-! ### Advance passes (R131) -/

/-- A state that a pass over `s0` has reached: memory, marks and the rack's page are those of `s0`. -/
def State.passKept (s0 : State) (die : Nat) (t : State) : Prop := s0.timersKept die t ∧ t.mem = s0.mem ∧ t.ecc = s0.ecc

/-- A pass calls the timers of a group with the lanes of its word, and leaves the others. -/
theorem passGroup_shows {s t : State} {die space : Nat} (hsp : space ≠ 4) (word first g : Nat) (ht : s.passKept die t) :
    s.passKept die (passGroup die space word first t g) ∧
      (∀ k, k < 64 → (passGroup die space word first t g).timer die (64 * g + k) =
        calledTimer s die g (operand s die space (word + g - first)).1.getLsbD k (t.timer die (64 * g + k))) ∧
      ∀ g' k, g' ≠ g → k < 64 → (passGroup die space word first t g).timer die (64 * g' + k) = t.timer die (64 * g' + k) := by
  obtain ⟨hkept, hmem, hecc⟩ := ht
  have hword : operand t die space (word + g - first) = operand s die space (word + g - first) :=
    operand_congr hecc (bitWord_congr_mem hmem die hsp _)
  have hpass : passGroup die space word first t g = (List.range 64).foldl
      (fun t k => t.callTimer die (64 * g + k) ((operand s die space (word + g - first)).1.getLsbD k)) t := by
    rw [passGroup, hword]
  have hmoves := passGroup_moves die space word first t g
  have hcells := callTimer_laneWise s die g (operand s die space (word + g - first)).1.getLsbD
  obtain ⟨hinv, hin, hout⟩ := hcells.foldl List.nodup_range hkept
  rw [← hpass] at hinv hin hout
  refine ⟨⟨hinv, (hmoves.part .mem).trans hmem, (hmoves.part .ecc).trans hecc⟩, fun k hk => ?_, fun g' k hg hk => ?_⟩
  · rw [State.timer_eq_cell, State.timer_eq_cell]
    exact hin k (List.mem_range.mpr hk)
  · rw [State.timer_eq_cell, State.timer_eq_cell]
    refine hout _ fun k' hk' => ?_
    have hlane := List.mem_range.mp hk'
    omega

/-- The groups that a pass calls, one after the other. -/
def State.passed (s : State) (die space word first n : Nat) : State :=
  ((List.range n).map (first + ·)).foldl (passGroup die space word first) s

theorem State.passed_timer {s : State} (h : SMap.sorted s.timers = true) {die space : Nat} (hsp : space ≠ 4)
    {word first n g k : Nat} (hg : first ≤ g) (hn : g < first + n) (hk : k < 64) :
    (s.passed die space word first n).timer die (64 * g + k) =
      calledTimer s die g (operand s die space (word + g - first)).1.getLsbD k (s.timer die (64 * g + k)) := by
  have hmem : g ∈ (List.range n).map (first + ·) :=
    List.mem_map.mpr ⟨g - first, List.mem_range.mpr (by omega), by omega⟩
  have hnodup : ((List.range n).map (first + ·)).Nodup := List.nodup_range.map (add_right_injective first)
  refine (foldl_reaches (g := passGroup die space word first)
    (P := fun t => s.passKept die t ∧ t.timer die (64 * g + k) = s.timer die (64 * g + k))
    (Q := fun t => s.passKept die t ∧ t.timer die (64 * g + k) =
      calledTimer s die g (operand s die space (word + g - first)).1.getLsbD k (s.timer die (64 * g + k)))
    hmem hnodup ?_ ?_ ?_ ⟨⟨⟨h, fun _ _ => rfl⟩, rfl, rfl⟩, rfl⟩).2
  · rintro t x - hx ⟨ht, hcell⟩
    obtain ⟨hkept, -, hout⟩ := passGroup_shows hsp word first x ht
    exact ⟨hkept, (hout g k (Ne.symm hx) hk).trans hcell⟩
  · rintro t ⟨ht, hcell⟩
    obtain ⟨hkept, hin, -⟩ := passGroup_shows hsp word first g ht
    exact ⟨hkept, (hin k hk).trans (by rw [hcell])⟩
  · rintro t x - hx ⟨ht, hcell⟩
    obtain ⟨hkept, -, hout⟩ := passGroup_shows hsp word first x ht
    exact ⟨hkept, (hout g k (Ne.symm hx) hk).trans hcell⟩

theorem State.passed_moves (s : State) (die space word first n : Nat) : Moves 0x80002000000 s (s.passed die space word first n) :=
  Moves.foldl (fun _ _ => passGroup_moves ..) .refl

/-- The end of a pass: its stalls counted, its cycles used, its row done, its interrupt raised. -/
def State.passDone (s : State) (die stalls cost : Nat) : State :=
  (((((s.add die Reg.TIMR_STALLS_COUNT stalls).useCycles die 5 cost).workDone die 5).wr die Reg.TIMR_PASS_RUNNING 0).irq die 0x0C 0)

/-- The work of an engine that runs a row is done with its row. -/
theorem State.workDone_rowRunning {s : State} {die e : Nat} {x : Slot} (hx : s.slot? die e = some x) (hrun : x.running = true)
    (hidle : x.idle = false) : (s.workDone die e).rowRunning die e = false := by
  have hworks : s.working die e = true := by
    rw [State.working, hx, Option.map_some, Option.getD_some, hrun, hidle]
    rfl
  rw [State.workDone, if_pos hworks]
  exact State.endRow_rowRunning ..

theorem State.useCycles_slot {s : State} {die e : Nat} {x : Slot} (hx : s.slot? die e = some x) (n : Nat) :
    (s.useCycles die e n).slot? die e = some { x with used := x.used + n } := by
  rw [State.useCycles, hx]
  exact State.slot?_setSlot ..

theorem State.passDone_shows {s : State} (h : s.Sane) {die : Nat} {x : Slot} (hx : s.slot? die 5 = some x)
    (hrun : x.running = true) (hidle : x.idle = false) (stalls cost : Nat) :
    (s.passDone die stalls cost).rowRunning die 5 = false ∧ (s.passDone die stalls cost).on die Reg.TIMR_PASS_RUNNING = false ∧
      ∀ i, (s.passDone die stalls cost).timer die i = s.timer die i := by
  let a := s.add die Reg.TIMR_STALLS_COUNT stalls
  let u := a.useCycles die 5 cost
  let v := u.workDone die 5
  have ha := s.add_moves die Reg.TIMR_STALLS_COUNT stalls
  have hu := a.useCycles_moves die 5 cost
  have hv := u.workDone_moves die 5
  have hw := v.wr_moves die Reg.TIMR_PASS_RUNNING 0
  have hi := (v.wr die Reg.TIMR_PASS_RUNNING 0).irq_moves die 0x0C 0
  have hsane : v.Sane := hv.sane (hu.sane (ha.sane h))
  have hslot : a.slot? die 5 = some x := (State.slot?_congr (ha.part .slots) die 5).trans hx
  refine ⟨?_, ?_, fun i => ?_⟩
  · rw [State.passDone, State.rowRunning_congr (hi.part .slots), State.rowRunning_congr (hw.part .slots)]
    exact State.workDone_rowRunning (State.useCycles_slot hslot cost) hrun hidle
  · rw [State.passDone, State.on, State.irq_rd (hw.sane hsane) (.inr (.inl (by decide)))]
    exact State.on_wr_zero hsane ..
  · exact (State.timerCell_moves hi _).trans ((State.timerCell_moves hw _).trans ((State.timerCell_moves hv _).trans
      ((State.timerCell_moves hu _).trans (State.timerCell_moves ha _))))

theorem advancePassEnd_acts {s : State} (h : s.Sane) {die : Nat} (hd : isScan die = true) (hsort : SMap.sorted s.timers = true)
    {stalls : Nat} {x : Slot} (hx : s.slot? die 5 = some x) (hrun : x.running = true) (hidle : x.idle = false) :
    let set := s.rd die Reg.TIMR_PASS_SET
    let first := s.rd die (Reg.TIMR_SETs_FIRST.i set)
    let last := s.rd die (Reg.TIMR_SETs_LAST.i set)
    let space := s.rd die (Reg.TIMR_SETs_SPACE.i set)
    4 + 2 * (last + 1 - first) + stalls ≤ x.length → space ≠ 4 →
    Completes (.advancePassEnd die stalls) s fun t =>
      t.rowRunning die 5 = false ∧ t.on die Reg.TIMR_PASS_RUNNING = false ∧
      ∀ g k, first ≤ g → g ≤ last → k < 64 →
        t.timer die (64 * g + k) = calledTimer s die g
          (operand s die space (s.rd die (Reg.TIMR_SETs_WORD.i set) + g - first)).1.getLsbD k (s.timer die (64 * g + k)) := by
  intro set first last space hcost hsp
  let word := s.rd die (Reg.TIMR_SETs_WORD.i set)
  let u := s.passed die space word first (last + 1 - first)
  have hu := s.passed_moves die space word first (last + 1 - first)
  have hexec : exec (.advancePassEnd die stalls) s = .next (u.passDone die stalls (4 + 2 * (last + 1 - first) + stalls)) := by
    show execAdvancePassEnd die stalls s = _
    unfold execAdvancePassEnd
    rw [hx]
    dsimp only
    rw [hd, hrun, hidle, if_pos (show (true && true && !false) = true from rfl), if_pos hcost]
    rfl
  obtain ⟨hrow, hoff, htimer⟩ := State.passDone_shows (hu.sane h) ((State.slot?_congr (hu.part .slots) die 5).trans hx) hrun hidle
    stalls (4 + 2 * (last + 1 - first) + stalls)
  refine ⟨_, hexec, hrow, hoff, fun g k hfirst hlast hk => (htimer _).trans ?_⟩
  exact State.passed_timer hsort hsp hfirst (by omega) hk

/-- Settles O27: the mask table, the fault record, the rack's page and the watch, each by its command. -/
theorem maskAndRackPagesAct : Obligations.MaskAndRackPagesAct := by
  intro s w die h hd htimers hcounters hmasks htimr
  exact ⟨fun entry word h1 h2 hw ht => maskLowWrite_acts hd h1 h2 hw ht,
    fun entry word low h1 h2 hw hlow ht hstage => maskHighWrite_acts h hd h1 h2 hw hlow ht hstage,
    fun x l hrow hx => maskStore_acts h hmasks hrow hx, fun ht => sboxFaultClear_acts h hd ht,
    fun ht => timrClear_acts h hd hcounters ht, fun x hheld hx hoff => timrConfigApply_acts h hd htimr hheld hx hoff,
    fun stalls x hx hrun hidle => advancePassEnd_acts h hd htimers hx hrun hidle,
    fun word ht hf hb => watchClear_acts h hd ht hf hb⟩

end Sys2Proof.Machine
end

section
/-! SUPPORT.  Word cores as data: their registers, the cycles that they spend, how an instruction retires (R85, R140, R149, R152),
and traps (R152, R155). -/

open Sys2Proof Sys2Proof.Machine Sys2Proof.Bits
namespace Sys2Proof.Machine
set_option Elab.async false

/-! ### The cores of a state -/

theorem State.core_congr {s t : State} (h : t.cores = s.cores) (die n : Nat) : t.core die n = s.core die n := by
  rw [State.core, State.core, h]

theorem State.core_setCore {s : State} (h : SMap.sorted s.cores = true) (die n : Nat) (c : Core) :
    (s.setCore die n c).core die n = c := SMap.get_put_same _ _ h

theorem State.core_setCore_other {s : State} (h : SMap.sorted s.cores = true) {die n e m : Nat} (c : Core)
    (hne : e * 4 + m ≠ die * 4 + n) : (s.setCore die n c).core e m = s.core e m := SMap.get_put_ne _ h hne

/-- A core that has spent cycles is listed in the state, whatever the order of its list. -/
theorem State.core_setCore_clocked (s : State) (die n : Nat) {c : Core} (hc : c.clock ≠ 0) :
    (s.setCore die n c).core die n = c := by
  have hne : c ≠ Core.start := fun h => hc (congrArg Core.clock h)
  unfold State.core State.setCore SMap.get SMap.put
  dsimp only
  rw [if_neg hne, SMap.find?_insert_same]
  rfl

theorem State.setCore_sorted {s : State} (h : SMap.sorted s.cores = true) (die n : Nat) (c : Core) :
    SMap.sorted (s.setCore die n c).cores = true := SMap.sorted_put _ _ _ h

/-! ### Registers -/

theorem Core.getX_congr {c d : Core} (h : d.x = c.x) (r : Nat) : d.getX r = c.getX r := by rw [Core.getX, Core.getX, h]

theorem Core.getF_congr {c d : Core} (h : d.f = c.f) (r : Nat) : d.getF r = c.getF r := by rw [Core.getF, Core.getF, h]

theorem Core.getX_setX_same {c : Core} (h : SMap.sorted c.x = true) (r v : Nat) :
    (c.setX r v).getX r = if r = 0 then 0 else v % 2 ^ 32 := by
  unfold Core.getX Core.setX
  split
  · rfl
  · exact SMap.get_put_same _ _ h

theorem Core.getX_setX_other {c : Core} (h : SMap.sorted c.x = true) {r q : Nat} (v : Nat) (hne : q ≠ r) :
    (c.setX r v).getX q = c.getX q := by
  unfold Core.getX Core.setX
  split
  · rfl
  · split
    · rfl
    · exact SMap.get_put_ne _ h hne

/-- A write to an integer register changes nothing of the core beside the integer registers. -/
theorem Core.setX_only (c : Core) (r v : Nat) : c.setX r v = { c with x := (c.setX r v).x } := by
  unfold Core.setX
  split <;> rfl

@[simp] theorem Core.setX_pc (c : Core) (r v : Nat) : (c.setX r v).pc = c.pc := by rw [Core.setX_only]
@[simp] theorem Core.setX_yxstat (c : Core) (r v : Nat) : (c.setX r v).yxstat = c.yxstat := by rw [Core.setX_only]
@[simp] theorem Core.setX_reserved (c : Core) (r v : Nat) : (c.setX r v).reserved = c.reserved := by rw [Core.setX_only]
@[simp] theorem Core.setX_mscratch (c : Core) (r v : Nat) : (c.setX r v).mscratch = c.mscratch := by rw [Core.setX_only]
@[simp] theorem Core.setX_yqtag (c : Core) (r v : Nat) : (c.setX r v).yqtag = c.yqtag := by rw [Core.setX_only]

@[simp] theorem Core.seq_pc (c : Core) : c.seq.pc = (c.pc + 4) % 2 ^ 32 := rfl
@[simp] theorem Core.seq_x (c : Core) : c.seq.x = c.x := rfl
@[simp] theorem Core.seq_getX (c : Core) (r : Nat) : c.seq.getX r = c.getX r := rfl
@[simp] theorem Core.seq_getF (c : Core) (r : Nat) : c.seq.getF r = c.getF r := rfl
@[simp] theorem Core.seq_yxstat (c : Core) : c.seq.yxstat = c.yxstat := rfl
@[simp] theorem Core.seq_reserved (c : Core) : c.seq.reserved = c.reserved := rfl
@[simp] theorem Core.seq_mscratch (c : Core) : c.seq.mscratch = c.mscratch := rfl
@[simp] theorem Core.seq_yqtag (c : Core) : c.seq.yqtag = c.yqtag := rfl

/-- Sticky bits of yxstat are all that `sticky` sets. -/
theorem Core.sticky_only (c : Core) (k : Nat) (b : Bool) : c.sticky k b = { c with yxstat := (c.sticky k b).yxstat } := by
  cases b <;> rfl

@[simp] theorem Core.sticky_pc (c : Core) (k : Nat) (b : Bool) : (c.sticky k b).pc = c.pc := by rw [Core.sticky_only]
@[simp] theorem Core.sticky_getX (c : Core) (k : Nat) (b : Bool) (r : Nat) : (c.sticky k b).getX r = c.getX r :=
  Core.getX_congr (by rw [Core.sticky_only]) r
@[simp] theorem Core.sticky_getF (c : Core) (k : Nat) (b : Bool) (r : Nat) : (c.sticky k b).getF r = c.getF r :=
  Core.getF_congr (by rw [Core.sticky_only]) r

theorem Core.sticky_zero_yxstat (c : Core) (b : Bool) : (c.sticky 0 b).yxstat = c.yxstat ||| ofBool b := by
  cases b
  · exact (Nat.or_zero _).symm
  · rfl

theorem Core.flags_only (c : Core) (fl : Nat) :
    c.flags fl = { c with fflags := (c.flags fl).fflags, fs := (c.flags fl).fs } := by
  unfold Core.flags
  split <;> rfl

@[simp] theorem Core.flags_pc (c : Core) (fl : Nat) : (c.flags fl).pc = c.pc := by rw [Core.flags_only]
@[simp] theorem Core.flags_getF (c : Core) (fl r : Nat) : (c.flags fl).getF r = c.getF r :=
  Core.getF_congr (by rw [Core.flags_only]) r

@[simp] theorem Core.resF_pc (c : Core) (d : Bool) (r v : Nat) : (c.resF d r v).pc = c.pc := rfl

theorem Core.getF_resF_same {c : Core} (h : SMap.sorted c.f = true) (d : Bool) (r v : Nat) :
    (c.resF d r v).getF r = (if d then v else Float.box v) % 2 ^ 64 := SMap.get_put_same _ _ h

theorem Core.getF_resF_other {c : Core} (h : SMap.sorted c.f = true) (d : Bool) {r q : Nat} (v : Nat) (hne : q ≠ r) :
    (c.resF d r v).getF q = c.getF q := SMap.get_put_ne _ h hne

/-! ### Cycles of a core -/

theorem State.coreInSlot_congr {s t : State} (hc : t.cores = s.cores) (hs : t.slots = s.slots) (die n : Nat) :
    t.coreInSlot die n = s.coreInSlot die n := by
  rw [State.coreInSlot, State.coreInSlot, State.core_congr hc, State.working, State.working, State.slot?_congr hs]

/-- Fewer cycles fit a slot that more cycles fit. -/
theorem State.coreFits_mono {s : State} {die n j k : Nat} (h : s.coreFits die n k = true) (hjk : j ≤ k) :
    s.coreFits die n j = true := by
  unfold State.coreFits at h ⊢
  split
  · next hin =>
    rw [if_pos hin] at h
    split
    · next x hx =>
      rw [hx] at h
      simp only [decide_eq_true_eq] at h ⊢
      omega
    · rfl
  · rfl

/-- Outside a slot any cycles fit. -/
theorem State.coreFits_background {s : State} {die n : Nat} (h : s.coreInSlot die n = false) (k : Nat) :
    s.coreFits die n k = true := by
  rw [State.coreFits, h]
  rfl

/-- The slot's share of the cycles that a core spends. -/
def State.spendSlot (s : State) (die n k : Nat) : State :=
  if s.coreInSlot die n then match s.slot? die (n + 1) with
    | some x => s.setSlot die (n + 1) { x with used := x.used + k }
    | none => s
  else s

theorem State.spendSlot_cores (s : State) (die n k : Nat) : (s.spendSlot die n k).cores = s.cores := by
  unfold State.spendSlot
  split
  · split <;> rfl
  · rfl

theorem State.spendSlot_slot (s : State) {die n e j : Nat} (k : Nat) (hne : e * 8 + j ≠ die * 8 + (n + 1)) :
    (s.spendSlot die n k).slot? e j = s.slot? e j := by
  unfold State.spendSlot
  split
  · split
    · exact SMap.find?_insert_ne _ _ hne
    · rfl
  · rfl

theorem State.coreSpend_eq (s : State) (die n k : Nat) :
    s.coreSpend die n k = (s.spendSlot die n k).setCore die n { s.core die n with clock := s.coreClock die n + k } := by
  rw [← State.core_congr (s.spendSlot_cores die n k)]
  rfl

theorem State.coreSpend_sorted {s : State} (h : SMap.sorted s.cores = true) (die n k : Nat) :
    SMap.sorted (s.coreSpend die n k).cores = true := by
  rw [State.coreSpend_eq]
  exact State.setCore_sorted (by rwa [State.spendSlot_cores]) ..

theorem State.coreSpend_core {s : State} (h : SMap.sorted s.cores = true) (die n k : Nat) :
    (s.coreSpend die n k).core die n = { s.core die n with clock := s.coreClock die n + k } := by
  rw [State.coreSpend_eq, State.core_setCore (by rwa [State.spendSlot_cores])]

theorem State.coreSpend_core_other {s : State} (h : SMap.sorted s.cores = true) {die n e m : Nat} (k : Nat)
    (hne : e * 4 + m ≠ die * 4 + n) : (s.coreSpend die n k).core e m = s.core e m := by
  rw [State.coreSpend_eq, State.core_setCore_other (by rwa [State.spendSlot_cores]) _ hne,
    State.core_congr (s.spendSlot_cores die n k)]

/-- The cycles that a core spends leave its row running. -/
theorem State.working_spendSlot (s : State) (die n k : Nat) :
    (s.spendSlot die n k).working die (n + 1) = s.working die (n + 1) := by
  unfold State.spendSlot
  split
  · split
    · next x hx =>
      rw [State.working, State.working, State.slot?_setSlot, hx]
      rfl
    · rfl
  · rfl

/-! ### Retirement -/

/-- A core that has retired an instruction in cycle `clock`, with what the instruction does to it. -/
def Core.retired (c : Core) (clock : Nat) (upd : Core → Core) : Core :=
  { upd { c with clock := clock } with
    lastPc := c.pc, instret := ((upd { c with clock := clock }).instret + 1) % 2 ^ 64 }

section
variable (c : Core) (clock : Nat) (upd : Core → Core)

@[simp] theorem Core.retired_pc : (c.retired clock upd).pc = (upd { c with clock := clock }).pc := rfl
@[simp] theorem Core.retired_x : (c.retired clock upd).x = (upd { c with clock := clock }).x := rfl
@[simp] theorem Core.retired_getX (r : Nat) : (c.retired clock upd).getX r = (upd { c with clock := clock }).getX r := rfl
@[simp] theorem Core.retired_getF (r : Nat) : (c.retired clock upd).getF r = (upd { c with clock := clock }).getF r := rfl
@[simp] theorem Core.retired_yxstat : (c.retired clock upd).yxstat = (upd { c with clock := clock }).yxstat := rfl
@[simp] theorem Core.retired_yqtag : (c.retired clock upd).yqtag = (upd { c with clock := clock }).yqtag := rfl
@[simp] theorem Core.retired_reserved : (c.retired clock upd).reserved = (upd { c with clock := clock }).reserved := rfl
@[simp] theorem Core.retired_mscratch : (c.retired clock upd).mscratch = (upd { c with clock := clock }).mscratch := rfl

end

section
variable {s : State} (h : SMap.sorted s.cores = true) (die n k : Nat) (upd : Core → Core)

/-- Retirement without the end of a slot: the core's cycles, and the core itself. -/
theorem coreRetire_eq : coreRetire s die n k false upd = (s.coreSpend die n k).setCore die n
    { upd ((s.coreSpend die n k).core die n) with
      lastPc := ((s.coreSpend die n k).core die n).pc
      instret := ((upd ((s.coreSpend die n k).core die n)).instret + 1) % 2 ^ 64 } := rfl

include h

theorem coreRetire_core : (coreRetire s die n k false upd).core die n = (s.core die n).retired (s.coreClock die n + k) upd := by
  rw [coreRetire_eq, State.core_setCore (State.coreSpend_sorted h ..), State.coreSpend_core h]
  rfl

theorem coreRetire_coreInSlot (hupd : ∀ c, (upd c).inSlot = c.inSlot) :
    (coreRetire s die n k false upd).coreInSlot die n = s.coreInSlot die n := by
  have hw : (coreRetire s die n k false upd).working die (n + 1) = s.working die (n + 1) := s.working_spendSlot die n k
  rw [State.coreInSlot, State.coreInSlot, hw, coreRetire_core h]
  exact congrArg (· && _) (hupd _)

theorem coreRetire_sorted : SMap.sorted (coreRetire s die n k false upd).cores = true :=
  State.setCore_sorted (State.coreSpend_sorted h ..) ..

theorem coreRetire_core_other {e m : Nat} (hne : e * 4 + m ≠ die * 4 + n) :
    (coreRetire s die n k false upd).core e m = s.core e m := by
  rw [coreRetire_eq, State.core_setCore_other (State.coreSpend_sorted h ..) _ hne, State.coreSpend_core_other h _ hne]

end

theorem coreRetire_slot (s : State) {die n e j : Nat} (k : Nat) (upd : Core → Core) (hne : e * 8 + j ≠ die * 8 + (n + 1)) :
    (coreRetire s die n k false upd).slot? e j = s.slot? e j := by
  rw [← State.spendSlot_slot s k hne]
  rfl

/-- A retirement that ends no slot changes the cores and the slots. -/
theorem coreRetire_register_moves (s : State) (die n k : Nat) (upd : Core → Core) :
    Moves 0x22000 s (coreRetire s die n k false upd) :=
  (State.coreSpend_moves ..).step (State.setCore_moves ..)

/-! ### Traps -/

/-- A core that has entered its trap handler in cycle `clock` (R152). -/
def Core.trapped (c : Core) (clock cause tval epc : Nat) (fromM : Bool) : Core :=
  { c with
    mepc := epc / 4 * 4, mcause := cause, mtval := tval, mppM := fromM, mpie := c.mie, mie := false, mmode := true
    pc := (if c.mtvec % 2 = 1 ∧ 2 ^ 31 ≤ cause then c.mtvec / 4 * 4 + 4 * (cause % 2 ^ 31) else c.mtvec / 4 * 4) % 2 ^ 32
    idle := false, clock := clock }

theorem State.enterTrap_core (s : State) (die n cause tval epc : Nat) (fromM : Bool) :
    (s.enterTrap die n cause tval epc fromM).core die n =
      (s.core die n).trapped (s.coreClock die n + 12) cause tval epc fromM := by
  have hspend : (s.coreSpend die n 12).core die n = { s.core die n with clock := s.coreClock die n + 12 } := by
    rw [State.coreSpend_eq]
    exact State.core_setCore_clocked _ _ _ (Nat.succ_ne_zero _)
  have hcount : ((s.coreSpend die n 12).countTrap die n).core die n = { s.core die n with clock := s.coreClock die n + 12 } :=
    (State.core_congr ((State.countTrap_moves_any ..).part .cores) die n).trans hspend
  unfold State.enterTrap
  dsimp only
  rw [hcount, State.core_setCore_clocked _ _ _ (Nat.succ_ne_zero _)]
  rfl

/-! ### The end of a slot (R154) -/

theorem State.working_some {s : State} {die e : Nat} (h : s.working die e = true) :
    ∃ x, s.slot? die e = some x ∧ x.running = true ∧ x.idle = false := by
  unfold State.working at h
  cases hx : s.slot? die e with
  | none => rw [hx] at h; cases h
  | some x =>
    rw [hx, Option.map_some, Option.getD_some, Bool.and_eq_true, Bool.not_eq_true'] at h
    exact ⟨x, rfl, h⟩

/-- The state in which a core leaves its slot: the row's work is done. -/
def State.leaveSlot (s : State) (die n : Nat) : State := if s.coreInSlot die n then s.workDone die (n + 1) else s

theorem State.leaveSlot_cores (s : State) (die n : Nat) : (s.leaveSlot die n).cores = s.cores := by
  unfold State.leaveSlot
  split
  · exact (State.workDone_moves ..).part .cores
  · rfl

theorem State.leaveSlot_rowRunning {s : State} {die n : Nat} (h : s.coreInSlot die n = true) :
    (s.leaveSlot die n).rowRunning die (n + 1) = false := by
  obtain ⟨x, hx, hrun, hidle⟩ := State.working_some ((Bool.and_eq_true ..).mp h).2
  rw [State.leaveSlot, if_pos h]
  exact State.workDone_rowRunning hx hrun hidle

theorem State.slotEnd_eq (s : State) (die n : Nat) :
    let c := s.core die n
    let u := s.leaveSlot die n
    s.slotEnd die n = u.setCore die n (if c.ysValid
      then { c with inSlot := false, ysValid := false, pc := c.yspc, mmode := c.ysPrivM, mie := c.ysMie, idle := false
                    clock := max u.cycle c.clock + 4 }
      else { c with inSlot := false, idle := true, idlePc := c.pc, idleM := c.mmode }) := by
  intro c u
  have hcore : c = u.core die n := (State.core_congr (s.leaveSlot_cores die n) die n).symm
  rw [hcore, apply_ite (u.setCore die n)]
  rfl

/-- At SLOTEND the core leaves its slot, whose row ends, and resumes the saved context or idles. -/
theorem State.slotEnd_shows {s : State} (h : SMap.sorted s.cores = true) (die n : Nat) :
    ((s.slotEnd die n).core die n).inSlot = false ∧
    (s.coreInSlot die n = true → (s.slotEnd die n).rowRunning die (n + 1) = false) ∧
    ((s.core die n).ysValid = true → ((s.slotEnd die n).core die n).pc = (s.core die n).yspc ∧
      ((s.slotEnd die n).core die n).mmode = (s.core die n).ysPrivM ∧
      ((s.slotEnd die n).core die n).mie = (s.core die n).ysMie ∧ ((s.slotEnd die n).core die n).ysValid = false) ∧
    ((s.core die n).ysValid = false → ((s.slotEnd die n).core die n).idle = true ∧
      ((s.slotEnd die n).core die n).idlePc = (s.core die n).pc) := by
  have hrow (c : Core) (hin : s.coreInSlot die n = true) : ((s.leaveSlot die n).setCore die n c).rowRunning die (n + 1) = false :=
    State.leaveSlot_rowRunning hin
  rw [State.slotEnd_eq, State.core_setCore (by rwa [State.leaveSlot_cores])]
  cases hys : (s.core die n).ysValid
  · exact ⟨rfl, hrow _, fun hv => absurd hv Bool.false_ne_true, fun _ => ⟨rfl, rfl⟩⟩
  · exact ⟨rfl, hrow _, fun _ => ⟨rfl, rfl, rfl, rfl⟩, fun hv => absurd hv.symm Bool.false_ne_true⟩

end Sys2Proof.Machine
end

section
/-! SUPPORT.  What the fetch of an instruction, and an access of a core to a bank of its own die, leave of the state (R90, R140, R148,
R338, R339). -/

open Sys2Proof Sys2Proof.Machine Sys2Proof.Bits
namespace Sys2Proof.Machine
set_option Elab.async false

/-! ### What a read with data leaves -/

/-- What a read of a memory that ends with data leaves: of the state it may touch registers of the pages FAB, QUE, MEM, NVC and
ARCH, the queues, the waiting requests and the dirty marks; it leaves the power states of the banks and the fences, and lets no
request begin to wait. -/
structure ReadKeeps (s t : State) : Prop where
  moves : Moves 0x280e00000080000001210 s t
  bankOn : ∀ die own, t.bankOn die own = s.bankOn die own
  fenced : ∀ d, t.fenced d = s.fenced d
  queues : SMap.sorted s.queues = true → SMap.sorted t.queues = true
  holding : ∀ q ∈ t.holding, q ∈ s.holding

theorem ReadKeeps.trans {s t u : State} (h : ReadKeeps s t) (k : ReadKeeps t u) : ReadKeeps s u where
  moves := h.moves.trans k.moves
  bankOn die a := (k.bankOn die a).trans (h.bankOn die a)
  fenced d := (k.fenced d).trans (h.fenced d)
  queues hs := k.queues (h.queues hs)
  holding q hq := h.holding q (k.holding q hq)

section
variable {s t : State} (h : ReadKeeps s t)
include h

theorem ReadKeeps.sane (hs : s.Sane) : t.Sane := h.moves.sane hs
theorem ReadKeeps.cores : t.cores = s.cores := h.moves.part .cores
theorem ReadKeeps.slots : t.slots = s.slots := h.moves.part .slots
theorem ReadKeeps.mem : t.mem = s.mem := h.moves.part .mem
theorem ReadKeeps.flights : t.flights = s.flights := h.moves.part .flights
theorem ReadKeeps.core (die n : Nat) : t.core die n = s.core die n := State.core_congr h.cores die n
theorem ReadKeeps.slot (die e : Nat) : t.slot? die e = s.slot? die e := State.slot?_congr h.slots die e
theorem ReadKeeps.rowRunning (die e : Nat) : t.rowRunning die e = s.rowRunning die e := State.rowRunning_congr h.slots die e
theorem ReadKeeps.coreInSlot (die n : Nat) : t.coreInSlot die n = s.coreInSlot die n :=
  State.coreInSlot_congr h.cores h.slots die n
theorem ReadKeeps.load (a n : Nat) : t.load a n = s.load a n := State.load_congr h.mem a n
theorem ReadKeeps.eccAt (a : Nat) : t.eccAt a = s.eccAt a := congrArg (SMap.get 0 · (a / 8 * 8)) (h.moves.part .ecc)
theorem ReadKeeps.bitWord (die sp w : Nat) : bitWord t die sp w = bitWord s die sp w :=
  bitWord_congr h.mem (h.moves.part .timers) (h.moves.part .counters) die sp w
theorem ReadKeeps.on (hs : s.Sane) (die : Nat) (f : FieldDef)
    (hf : (0x280e00000080000001210 : Nat).testBit (64 + f.code % 64) = false := by rfl) : t.on die f = s.on die f :=
  h.moves.on hs die f hf
theorem ReadKeeps.rd (hs : s.Sane) (die : Nat) (f : FieldDef)
    (hf : (0x280e00000080000001210 : Nat).testBit (64 + f.code % 64) = false := by rfl) : t.rd die f = s.rd die f :=
  h.moves.rd hs die f hf

end

/-- Bank states and fences depend on two registers of their pages. -/
theorem ReadKeeps.of_registers {s t : State} (hm : Moves 0x280e00000080000001210 s t)
    (hb : ∀ die b, t.rd die (Reg.MEM_PWR_STAT_BANKb.j b) = s.rd die (Reg.MEM_PWR_STAT_BANKb.j b))
    (hf : t.rd 0 Reg.FAB_STAT_FENCED = s.rd 0 Reg.FAB_STAT_FENCED)
    (hq : SMap.sorted s.queues = true → SMap.sorted t.queues = true) (hh : ∀ q ∈ t.holding, q ∈ s.holding) : ReadKeeps s t where
  moves := hm
  bankOn die _ := congrArg (· == 0) (hb die _)
  fenced d := congrArg (inDies · d) hf
  queues := hq
  holding := hh

theorem ReadKeeps.withHolding (s : State) {l : List HeldReq} (hl : ∀ q ∈ l, q ∈ s.holding) :
    ReadKeeps s { s with holding := l } :=
  .of_registers ⟨id, Nat.le_refl _, fun p hp => by cases p <;> first | rfl | exact absurd hp (by decide), fun _ _ _ => rfl⟩
    (fun _ _ => rfl) rfl id hl

/-- The power states of the banks stand in a register of their own. -/
theorem bankState_apart {f : FieldDef} (b : Nat) (hf : f.code % 64 ≠ 7 ∨ f.off % 4096 ≠ 0x104) :
    apart (Reg.MEM_PWR_STAT_BANKb.j b) f :=
  hf.elim (fun h => .inl h.symm) fun h => .inr (.inl h.symm)

/-- The registers that name the last ECC error are not those that show the power states. -/
theorem State.noteEcc_rd_bank {s : State} (h : s.Sane) (die a who e b : Nat) :
    (s.noteEcc die a who).rd e (Reg.MEM_PWR_STAT_BANKb.j b) = s.rd e (Reg.MEM_PWR_STAT_BANKb.j b) := by
  unfold State.noteEcc
  extract_lets own x u v
  split
  · rfl
  · have hu : u.Sane := ((h.wr ..).wr ..).wr ..
    have hv : v.Sane := hu.wr ..
    have hvb : v.rd e (Reg.MEM_PWR_STAT_BANKb.j b) = s.rd e (Reg.MEM_PWR_STAT_BANKb.j b) :=
      (State.rd_wr_other hu _ (bankState_apart b (by decide))).trans <|
        (State.rd_wr_other ((h.wr ..).wr ..) _ (bankState_apart b (by decide))).trans <|
          (State.rd_wr_other (h.wr ..) _ (bankState_apart b (by decide))).trans
            (State.rd_wr_other h _ (bankState_apart b (by decide)))
    have hcount (f : FieldDef) (k : Nat) (hf : f.off % 4096 ≠ 0x104) :
        ((v.inc die f).irq die 0x07 k).rd e (Reg.MEM_PWR_STAT_BANKb.j b) = s.rd e (Reg.MEM_PWR_STAT_BANKb.j b) :=
      (State.irq_rd (hv.wr ..) (bankState_apart b (by decide))).trans
        ((State.inc_rd hv (bankState_apart b (.inr hf))).trans hvb)
    split
    · exact hcount _ _ (by decide)
    · exact (State.archive_rd (Moves.sane (State.irq_moves ..) (hv.wr ..)) _ _ _ _ _ (bankState_apart b (by decide))
        (bankState_apart b (by decide)) (bankState_apart b (by decide))).trans (hcount _ _ (by decide))

theorem State.archive_queues {s : State} (h : SMap.sorted s.queues = true) (page event : Nat) (sev : Severity)
    (payload : List Nat) : SMap.sorted (s.archive page event sev payload).queues = true := by
  unfold State.archive
  dsimp only
  split
  · exact List.foldlRecOn (motive := fun t : State => SMap.sorted t.queues = true) _ _ h
      fun _ ht _ _ => SMap.sorted_put _ _ _ ht
  · exact h

theorem State.noteEcc_queues {s : State} (h : SMap.sorted s.queues = true) (die a who : Nat) :
    SMap.sorted (s.noteEcc die a who).queues = true := by
  unfold State.noteEcc
  extract_lets own x u v
  have hcount (f : FieldDef) (k : Nat) : SMap.sorted ((v.inc die f).irq die 0x07 k).queues = true := by
    rwa [State.irq, State.setBits, State.wr_queues, State.inc, State.add, State.wr_queues]
  split
  · exact h
  · split
    · exact hcount ..
    · exact State.archive_queues (hcount ..) ..

theorem State.noteEcc_keeps {s : State} (h : s.Sane) (die a who : Nat) : ReadKeeps s (s.noteEcc die a who) := by
  have hm := State.noteEcc_moves s die a who
  have hh : (s.noteEcc die a who).holding = s.holding := hm.part .holding
  exact .of_registers hm.sub (fun e b => State.noteEcc_rd_bank h die a who e b) (hm.rd h 0 Reg.FAB_STAT_FENCED)
    (fun hq => State.noteEcc_queues hq ..) fun q hq => hh ▸ hq

theorem State.unholdRequest_sub (s : State) (r : HeldReq) : ∀ q ∈ (s.unholdRequest r).holding, q ∈ s.holding := by
  unfold State.unholdRequest
  split
  · unfold State.showHeld
    split <;> exact fun _ hq => List.mem_of_mem_erase hq
  · exact fun _ hq => hq

theorem State.unholdRequest_keeps {s : State} (h : s.Sane) (r : HeldReq) : ReadKeeps s (s.unholdRequest r) := by
  have hm := State.unholdRequest_moves s r
  refine .of_registers hm.sub (fun e b => hm.rd h e _ (show Nat.testBit _ (64 + 7 % 64) = false from rfl))
    (State.unholdRequest_rd h r 0 (by decide)) (fun hq => ?_) (State.unholdRequest_sub s r)
  rwa [show (s.unholdRequest r).queues = s.queues from hm.part .queues]

theorem State.readOwn_keeps {s t : State} (h : s.Sane) {who die own n v : Nat} {remote : Bool}
    (hr : s.readOwn who die own n remote = (t, .ok v)) : ReadKeeps s t := by
  unfold State.readOwn at hr
  split at hr
  · cases hr
  · dsimp only at hr
    split at hr
    · cases hr
    · cases hr
      exact State.noteEcc_keeps h ..

theorem State.stacksRead_keeps {s t : State} (h : s.Sane) {off n v : Nat} (hr : s.stacksRead off n = (t, some v)) :
    ReadKeeps s t := by
  have hself : ReadKeeps s s := .withHolding s fun _ hq => hq
  unfold State.stacksRead at hr
  split at hr
  · cases hr; exact hself
  · split at hr
    · cases hr
    · split at hr <;> cases hr
      · have hm := State.inc_moves s 0 Reg.NVC_CE_COUNT
        exact .of_registers hm.sub (fun e b => State.inc_rd h (.inl (show 7 % 64 ≠ 15 % 64 by decide)))
          (State.inc_rd h (by decide)) id fun _ hq => hq
      · exact hself

/-- After a request of a master has been taken no failed one waits for it (R329). -/
theorem State.takeFailed_clear (s : State) (r : HeldReq) :
    ∀ q ∈ (s.takeFailed r).2.holding, q.failed = true → q.who ≠ r.who := by
  intro q hq hfail hwho
  have hp := (List.mem_filter.mp hq).2
  rw [hfail, hwho, beq_self_eq_true] at hp
  cases hp

theorem State.takeFailed_keeps (s : State) (r : HeldReq) : ReadKeeps s (s.takeFailed r).2 :=
  .withHolding s fun _ hq => List.mem_of_mem_filter hq

/-- How a read of a memory that ends with data comes about: from the state in which the master's request has been taken. -/
theorem State.memRead_ok {s t : State} {who a n v : Nat} (hr : s.memRead who a n = (t, .ok v)) :
    ∃ r u : _, HeldReq.who r = who ∧ u = (s.takeFailed r).2 ∧
      ((∃ die own remote, (u.unholdRequest r).readOwn who die own n remote = (t, .ok v)) ∨
        (∃ own, u.readOwn who 0 own n true = (t, .ok v)) ∨ ∃ off, u.stacksRead off n = (t, some v)) := by
  refine ⟨⟨(locate s who a).die, who, false, false, a, n, 0, false⟩, _, rfl, rfl, ?_⟩
  unfold State.memRead at hr
  dsimp only at hr
  generalize s.takeFailed _ = p at hr ⊢
  obtain ⟨_ | _, u⟩ := p
  case true => cases hr
  case false =>
    simp only [Bool.false_eq_true, if_false] at hr
    split at hr
    · cases hr
    · split at hr
      · cases hr
      · split at hr
        · split at hr
          · cases hr
          · split at hr
            · cases hr
            · exact .inl ⟨_, _, _, hr⟩
        · exact .inr (.inl ⟨_, hr⟩)
        · split at hr
          · next w x hw =>
            cases hr
            exact .inr (.inr ⟨_, hw⟩)
          · cases hr
        · cases hr
        · cases hr

/-- A read of a memory that ends with data: what it keeps, and that no failed request waits for the master any more. -/
theorem State.memRead_keeps {s t : State} (h : s.Sane) {who a n v : Nat} (hr : s.memRead who a n = (t, .ok v)) :
    ReadKeeps s t ∧ ∀ q ∈ t.holding, q.failed = true → q.who ≠ who := by
  obtain ⟨r, u, hwho, hu, hcase⟩ := State.memRead_ok hr
  have hsu : ReadKeeps s u := hu ▸ State.takeFailed_keeps s r
  have hclear : ∀ q ∈ u.holding, q.failed = true → q.who ≠ who := hu ▸ hwho ▸ State.takeFailed_clear s r
  have hus := hsu.sane h
  have hut : ReadKeeps u t := by
    obtain ⟨_, _, _, hown⟩ | ⟨_, hown⟩ | ⟨_, hst⟩ := hcase
    · have hk := State.unholdRequest_keeps hus r
      exact hk.trans (State.readOwn_keeps (hk.sane hus) hown)
    · exact State.readOwn_keeps hus hown
    · exact State.stacksRead_keeps hus hst
  exact ⟨hsu.trans hut, fun q hq => hclear q (hut.holding q hq)⟩

/-! ### A core that fetches -/

/-- A core that may issue instructions. -/
theorem coreRuns_place {s : State} {die n : Nat} (h : coreRuns s die n = true) : isScan die = true ∧ n < 4 := by
  unfold coreRuns at h
  simp only [Bool.and_eq_true, decide_eq_true_eq] at h
  exact ⟨h.1.1.1.1.1.1, h.1.1.1.1.1.2⟩

section
variable {s t : State} {die n word : Nat} {op : CoreOp} (hf : s.fetches die n t word op)
include hf

theorem State.fetches.place : isScan die = true ∧ n < 4 := coreRuns_place hf.1

theorem State.fetches.keeps (h : s.Sane) : ReadKeeps s t := (State.memRead_keeps h hf.2.2.1).1

theorem State.fetches.noFailed (h : s.Sane) : ∀ q ∈ t.holding, q.failed = true → q.who ≠ die * 32 + n :=
  (State.memRead_keeps h hf.2.2.1).2

theorem State.fetches.coreOut_eq : coreOut s die n = (some op, coreExec t die n word op) := by
  obtain ⟨_, hpmp, hread, hdecode⟩ := hf
  unfold coreOut
  simp only [hpmp, hread, hdecode]
  rfl

/-- An instruction that retires: the state beside the core after its effect, and after a stall of R93. -/
theorem State.fetches.coreInstr_eq {u : State} {k : Nat} {upd : Core → Core}
    (hout : coreExec t die n word op = .done u (some k) upd) :
    coreInstr op.row die n s = if s.coreFits die n (coreCollide u die k op).2
      then coreRetire (coreCollide u die k op).1 die n (coreCollide u die k op).2 (op == .slotend) upd else s := by
  unfold coreInstr
  rw [hf.coreOut_eq, hout, if_pos hf.1]
  exact if_pos rfl

/-- An instruction of a fixed count that does not write the bit store retires. -/
theorem State.fetches.retires {u : State} {k : Nat} {upd : Core → Core}
    (hout : coreExec t die n word op = .done u (some k) upd) (hfit : s.coreFits die n k = true)
    (hw : op.writesBits = false := by rfl) :
    coreInstr op.row die n s = coreRetire u die n k (op == .slotend) upd := by
  have hcol : coreCollide u die k op = (u, k) := by
    unfold coreCollide
    rw [hw]
    rfl
  rw [hf.coreInstr_eq hout, hcol, if_pos hfit]

end

/-! ### A core's access to the banks C0 to C3 of its die -/

/-- Core `n` of a Scan die reaches address `a` in one of the banks C0 to C3 of its die, which is On. -/
structure CoreAccess (s : State) (die n a : Nat) : Prop where
  sane : s.Sane
  scan : isScan die = true
  core : n < 4
  inBanks : a < 0x400000
  bankOn : s.bankOn die a = true
  noFailed : ∀ q ∈ s.holding, q.failed = true → q.who ≠ die * 32 + n

theorem ReadKeeps.access {s t : State} {die n a : Nat} (h : ReadKeeps s t) (k : CoreAccess s die n a) :
    CoreAccess t die n a where
  sane := h.sane k.sane
  scan := k.scan
  core := k.core
  inBanks := k.inBanks
  bankOn := (h.bankOn ..).trans k.bankOn
  noFailed q hq := k.noFailed q (h.holding q hq)

theorem State.fetches.access {s t : State} (h : s.Sane) {die n word : Nat} {op : CoreOp} (hf : s.fetches die n t word op)
    {a : Nat} (ha : a < 0x400000) (hb : s.bankOn die a = true) : CoreAccess t die n a where
  sane := (hf.keeps h).sane h
  scan := hf.place.1
  core := hf.place.2
  inBanks := ha
  bankOn := ((hf.keeps h).bankOn ..).trans hb
  noFailed := hf.noFailed h

theorem whoDie_core {die n : Nat} (hd : isScan die = true) (hn : n < 4) : whoDie (die * 32 + n) = die := by
  have := isScan_iff.mp hd
  unfold whoDie
  omega

theorem whoIx_core {die n : Nat} (hn : n < 4) : whoIx (die * 32 + n) = n := by
  unfold whoIx
  omega

theorem ringPlace_banks {die a : Nat} (hd : isScan die = true) (ha : a < 0x700000) : State.ringPlace die a = none := by
  have := isScan_iff.mp hd
  rw [State.ringPlace, if_neg (by omega), if_neg (by omega)]

/-- No queue's ring, no waiting frame and no bit-store word stands in the banks C0 to L. -/
theorem State.peek_banks (s : State) {die a : Nat} (hd : isScan die = true) (ha : a < 0x700000) (n : Nat) :
    s.peek die a n = s.load (phys die a) n := by
  have hscan := isScan_iff.mp hd
  have hr : s.ringEntry die a = none := by rw [State.ringEntry, ringPlace_banks hd ha]; rfl
  have hl : s.lineFrame die a = none := by rw [State.lineFrame, if_neg (by omega)]
  unfold State.peek
  rw [hr, hl, decide_eq_false (show ¬ 0x800000 ≤ a by omega), Bool.and_false]
  rfl

theorem State.eccAt_word (s : State) (die a : Nat) : s.eccAt (phys die (a / 8 * 8)) = s.eccAt (phys die a) := by
  have hword : phys die (a / 8 * 8) / 8 * 8 = phys die a / 8 * 8 := by unfold phys; omega
  rw [State.eccAt, State.eccAt, hword]

section
variable {s : State} {die n a : Nat} (k : CoreAccess s die n a)
include k

theorem CoreAccess.whoDie : whoDie (die * 32 + n) = die := whoDie_core k.scan k.core

theorem CoreAccess.locate : locate s (die * 32 + n) a = .mem die a := by
  have ha := k.inBanks
  have hd := isScan_iff.mp k.scan
  have hex : ownExists die a = true := by
    rw [ownExists, if_neg (by omega), k.scan, decide_eq_true (show a < 0x800000 by omega)]
    rfl
  unfold Sys2Proof.Machine.locate
  dsimp only
  rw [if_pos (by omega), k.whoDie, if_pos hex]

theorem CoreAccess.direct : viaJunction a = false := by
  have ha := k.inBanks
  rw [viaJunction, decide_eq_true (show a < 0x1000000 by omega)]
  rfl

theorem CoreAccess.notBarred : s.barred (die * 32 + n) a die false = none := by
  unfold State.barred
  simp [k.whoDie]

theorem CoreAccess.notHeldOff : s.dmaHeldOff (die * 32 + n) a = false := by
  have hn := k.core
  have hix : (whoIx (die * 32 + n) == 5) = false := by rw [whoIx_core hn]; exact beq_false_of_ne (by omega)
  rw [State.dmaHeldOff, hix, Bool.and_false, Bool.false_and, Bool.false_and]

/-- A read of a clean word: its bytes, and the state with no request left waiting. -/
theorem CoreAccess.busRead (he : s.eccAt (phys die a) = 0) (size : Nat) :
    ∃ r : HeldReq, s.busRead (coreWho s die n) a size = (s.unholdRequest r, .ok (s.load (phys die a) size)) := by
  let r : HeldReq := ⟨die, die * 32 + n, false, false, a, size, 0, false⟩
  have htaken : s.takeFailed ⟨die, die * 32 + n, false, false, a, size, 0, false⟩ = (false, s) := State.takeFailed_none k.noFailed
  have hk := State.unholdRequest_keeps k.sane r
  have hon : (s.unholdRequest r).bankOn die a = true := (hk.bankOn ..).trans k.bankOn
  have hecc : (s.unholdRequest r).eccAt (phys die a) = 0 := (hk.eccAt _).trans he
  have hnote : (s.unholdRequest r).noteEcc die a (die * 32 + n) = s.unholdRequest r := by
    rw [State.noteEcc, if_pos ((State.eccAt_word ..).trans hecc)]
  have hread : (s.unholdRequest r).readOwn (die * 32 + n) die a size false =
      (s.unholdRequest r, .ok (s.load (phys die a) size)) := by
    unfold State.readOwn
    simp only [hon, hecc, hnote, State.peek_banks _ k.scan (show a < 0x700000 by have := k.inBanks; omega), hk.load]
    rfl
  refine ⟨r, ?_⟩
  unfold State.busRead
  rw [show (coreWho s die n).code = die * 32 + n from rfl, k.locate]
  unfold State.memRead
  simp only [k.locate, k.direct, Place.die, htaken, State.unreachable, k.notBarred, State.stalled, k.notHeldOff,
    Bool.false_and, Bool.false_eq_true, if_false]
  exact hread

/-- A load of a core of a clean word of these banks (R140, R148). -/
theorem CoreAccess.coreLoad {size : Nat} (hal : a % size = 0)
    (hp : (s.core die n).pmpAllows (s.core die n).dataM 0 a size = true) (he : s.eccAt (phys die a) = 0) :
    ∃ u, ReadKeeps s u ∧ ∀ cont, coreLoad s die n a size cont = cont u (s.load (phys die a) size) := by
  obtain ⟨r, hr⟩ := k.busRead he size
  refine ⟨_, State.unholdRequest_keeps k.sane r, fun cont => ?_⟩
  unfold Sys2Proof.Machine.coreLoad
  simp only [hp, hr, hal]
  rfl

end

/-- What a store of core `n` to `size` bytes at an address of its die leaves: the core as it was, the slots, and every byte of the
memory but those stored. -/
structure StoreKeeps (die n a size v : Nat) (s u : State) : Prop where
  moves : Moves 0x20600000080000003238 s u
  core : u.core die n = s.core die n
  coresSorted : SMap.sorted s.cores = true → SMap.sorted u.cores = true
  stored : u.load (phys die a) size = v % 2 ^ (8 * size)
  bytes : ∀ b, (b < phys die a ∨ phys die a + size ≤ b) → u.loadByte b = s.loadByte b

theorem State.breakReservations_sorted {s : State} (h : SMap.sorted s.cores = true) (who die own n : Nat) :
    SMap.sorted (s.breakReservations who die own n).cores = true := by
  unfold State.breakReservations
  split
  · extract_lets core c
    split
    · split
      · exact State.setCore_sorted h ..
      · exact h
    · exact h
  · exact h

/-- A store of a core breaks no reservation of its own. -/
theorem State.breakReservations_core {s : State} (h : SMap.sorted s.cores = true) {die n : Nat} (own size : Nat) :
    (s.breakReservations (die * 32 + n) die own size).core die n = s.core die n := by
  unfold State.breakReservations
  split
  · extract_lets core c
    split
    · split
      · next hc => exact State.core_setCore_other h _ (by omega)
      · rfl
    · rfl
  · rfl

section
variable {s : State} {die n a : Nat} (k : CoreAccess s die n a) (hs : SMap.sorted s.cores = true)
include k hs

theorem CoreAccess.busWrite (size v : Nat) :
    ∃ u, StoreKeeps die n a size v s u ∧ s.busWrite (coreWho s die n) a size v = (u, .ok 0) := by
  let w := coreWho s die n
  let r : HeldReq := ⟨die, die * 32 + n, w.user, true, a, size, v, false⟩
  let t := s.unholdRequest r
  have htaken : s.takeFailed ⟨die, die * 32 + n, w.user, true, a, size, v, false⟩ = (false, s) := State.takeFailed_none k.noFailed
  have ha := k.inBanks
  have hd := isScan_iff.mp k.scan
  have hk : ReadKeeps s t := State.unholdRequest_keeps k.sane r
  have hon : t.bankOn die a = true := (hk.bankOn ..).trans k.bankOn
  have hplat : t.platRefuses w die a = false := by
    unfold State.platRefuses
    rw [decide_eq_false (show ¬ 0x600000 ≤ a by omega)]
    simp only [Bool.and_false, Bool.false_and]
  have hready : t.afterReady w die a = false := by
    unfold State.afterReady
    rw [decide_eq_false (show ¬ 0x620000 ≤ a by omega), decide_eq_false (show ¬ 0x820000 ≤ a by omega)]
    simp only [Bool.false_and, Bool.or_false, Bool.and_false]
  have hring (x : State) : x.ringStore die a size v = x := by rw [State.ringStore, ringPlace_banks k.scan (by omega)]
  have hwrite : t.writeOwn w die a size v =
      ((t.store (phys die a) size v).breakReservations (die * 32 + n) die a size, .ok 0) := by
    unfold State.writeOwn
    rw [if_neg (by rw [hon]; decide), if_neg (by rw [hplat]; decide), if_neg (by rw [hready]; decide),
      decide_eq_false (show ¬ 0x800000 ≤ a by omega), Bool.and_false, if_neg Bool.false_ne_true, if_neg (by omega), hring]
    rfl
  have hmem : s.memWrite w a size v =
      ((t.store (phys die a) size v).breakReservations (die * 32 + n) die a size, .ok 0) := by
    unfold State.memWrite
    simp only [show w.code = die * 32 + n from rfl, k.locate, k.direct, Place.die, htaken, State.unreachable, k.notBarred,
      State.stalled, k.notHeldOff, Bool.false_and, Bool.false_eq_true, if_false]
    exact hwrite
  have hts : SMap.sorted t.cores = true := by rwa [hk.cores]
  have hstore : (t.store (phys die a) size v).cores = t.cores := (State.store_moves ..).part .cores
  have hbytes : ((t.store (phys die a) size v).breakReservations (die * 32 + n) die a size).mem =
      (t.store (phys die a) size v).mem := (State.breakReservations_moves ..).part .mem
  refine ⟨(t.store (phys die a) size v).breakReservations (die * 32 + n) die a size,
    ⟨?_, ?_, fun _ => ?_, ?_, fun b hb => ?_⟩, ?_⟩
  · have hm := State.memWrite_moves s w a size v
    rwa [hmem] at hm
  · rw [State.breakReservations_core (by rwa [hstore]), State.core_congr hstore, hk.core]
  · exact State.breakReservations_sorted (by rwa [hstore]) ..
  · rw [State.load_congr hbytes, State.load_store_same (hk.sane k.sane)]
  · rw [State.loadByte_congr hbytes, State.loadByte_store (hk.sane k.sane) v hb, State.loadByte_congr hk.mem]
  · unfold State.busWrite
    rw [show w.code = die * 32 + n from rfl, k.locate]
    exact hmem

/-- A store of a core to these banks (R140, R148). -/
theorem CoreAccess.coreStore {size : Nat} (v : Nat) (hal : a % size = 0)
    (hp : (s.core die n).pmpAllows (s.core die n).dataM 1 a size = true) :
    ∃ u, StoreKeeps die n a size v s u ∧ ∀ cont, coreStore s die n a size v cont = cont u := by
  obtain ⟨u, hu, hw⟩ := k.busWrite hs size v
  refine ⟨u, hu, fun cont => ?_⟩
  unfold Sys2Proof.Machine.coreStore
  simp only [hp, hw, hal]
  rfl

end

end Sys2Proof.Machine
end

section
/-! SUPPORT.  Instructions of a word core that work on its registers: what each does to its core when it retires, and MRET and
SLOTEND (R140, R152 to R155, R160, R161). -/

open Sys2Proof Sys2Proof.Machine Sys2Proof.Bits
namespace Sys2Proof.Machine
set_option Elab.async false

/-! ### An instruction that retires without the end of a slot -/

theorem ReadKeeps.refl (s : State) : ReadKeeps s s := .withHolding s fun _ hq => hq

/-- An instruction that retires, ends no slot and leaves its core to `upd`: what holds of every state with that core that differs
from the one after its effect in the cores and the slots only, holds of the state that its command answers. -/
theorem State.fetches.completes_moves {s t u : State} {die n word j k : Nat} {op : CoreOp} {cmd : Instr} {upd : Core → Core}
    {P : State → Prop} (hf : s.fetches die n t word op) (hcmd : exec cmd s = .next (coreInstr op.row die n s))
    (hout : coreExec t die n word op = .done u (some j) upd) (hfit : s.coreFits die n k = true) (hjk : j ≤ k)
    (hsort : SMap.sorted u.cores = true)
    (hP : ∀ clock z, z.core die n = (u.core die n).retired clock upd → Moves 0x22000 u z → P z)
    (hend : (op == .slotend) = false := by rfl) (hw : op.writesBits = false := by rfl) : Completes cmd s P := by
  refine ⟨coreRetire u die n j false upd, ?_, hP _ _ (coreRetire_core hsort ..) (coreRetire_register_moves ..)⟩
  rw [hcmd, hf.retires hout (State.coreFits_mono hfit hjk) hw, hend]

/-- The same for what depends on the core and the memory alone. -/
theorem State.fetches.completes {s t u : State} {die n word j k : Nat} {op : CoreOp} {cmd : Instr} {upd : Core → Core}
    {P : State → Prop} (hf : s.fetches die n t word op) (hcmd : exec cmd s = .next (coreInstr op.row die n s))
    (hout : coreExec t die n word op = .done u (some j) upd) (hfit : s.coreFits die n k = true) (hjk : j ≤ k)
    (hsort : SMap.sorted u.cores = true)
    (hP : ∀ clock z, z.core die n = (u.core die n).retired clock upd → z.mem = u.mem → P z)
    (hend : (op == .slotend) = false := by rfl) (hw : op.writesBits = false := by rfl) : Completes cmd s P :=
  hf.completes_moves hcmd hout hfit hjk hsort (fun clock z hcore hm => hP clock z hcore (hm.part .mem)) hend hw

/-- A register instruction: beyond what reads of memory leave, its command changes the core and its slot. -/
theorem State.fetches.completes_register {s t u : State} {die n word k : Nat} {op : CoreOp} {cmd : Instr} {upd : Core → Core}
    {P : Core → Prop} (hf : s.fetches die n t word op) (h : s.Sane) (hs : SMap.sorted s.cores = true)
    (hcmd : exec cmd s = .next (coreInstr op.row die n s)) (hu : ReadKeeps t u)
    (hout : coreExec t die n word op = .done u (some k) upd) (hfit : s.coreFits die n k = true)
    (hpc : ∀ c, (upd c).pc = (c.pc + 4) % 2 ^ 32) (hP : ∀ clock, P ((s.core die n).retired clock upd))
    (hend : (op == .slotend) = false := by rfl) (hw : op.writesBits = false := by rfl) :
    Completes cmd s fun z => P (z.core die n) ∧ (z.core die n).pc = ((s.core die n).pc + 4) % 2 ^ 32 ∧ z.mem = t.mem := by
  have hsu := (hf.keeps h).trans hu
  refine hf.completes hcmd hout hfit (Nat.le_refl k) (by rwa [hsu.cores]) (fun clock z hcore hmem => ?_) hend hw
  rw [hsu.core] at hcore
  rw [hcore]
  exact ⟨hP clock, hpc _, hmem.trans hu.mem⟩

/-- The core after an instruction that writes one integer register and may set a sticky bit. -/
abbrev writesX (rd v sticky : Nat) (b : Bool) (c : Core) : Core := ((c.setX rd v).sticky sticky b).seq

/-- The core after an instruction that writes one floating register and may set two sticky bits. -/
abbrev writesF (d : Bool) (rd v : Nat) (sat nan : Bool) (c : Core) : Core := (((c.resF d rd v).sticky 2 sat).sticky 3 nan).seq

theorem writesX_pc (rd v k : Nat) (b : Bool) (c : Core) : (writesX rd v k b c).pc = (c.pc + 4) % 2 ^ 32 := by simp

theorem writesF_pc (d : Bool) (rd v : Nat) (sat nan : Bool) (c : Core) :
    (writesF d rd v sat nan c).pc = (c.pc + 4) % 2 ^ 32 := by simp

theorem Core.retired_writesX {c : Core} (hx : SMap.sorted c.x = true) (clock rd v k : Nat) (b : Bool) :
    (c.retired clock (writesX rd v k b)).getX rd = if rd = 0 then 0 else v % 2 ^ 32 := by
  rw [Core.retired_getX, Core.seq_getX, Core.sticky_getX]
  exact Core.getX_setX_same (c := { c with clock := clock }) hx rd v

theorem Core.retired_writesF {c : Core} (hf : SMap.sorted c.f = true) (clock rd v : Nat) (d sat nan : Bool) :
    (c.retired clock (writesF d rd v sat nan)).getF rd = (if d then v else Float.box v) % 2 ^ 64 := by
  rw [Core.retired_getF, Core.seq_getF, Core.sticky_getF, Core.sticky_getF]
  exact Core.getF_resF_same (c := { c with clock := clock }) hf d rd v

/-! ### What the register instructions do -/

section
variable {s t : State} {die n word : Nat} (hk : ReadKeeps s t)
include hk

theorem coreExec_alu (op : AluOp) (rd rs1 rs2 : Nat) : coreExec t die n word (.alu op rd rs1 rs2) = .done t (some (aluCost op))
    (writesX rd (aluResult op ((s.core die n).getX rs1) ((s.core die n).getX rs2)) 0 false) := by
  rw [← hk.core]
  rfl

theorem coreExec_aluImm (op : AluOp) (rd rs1 imm : Nat) : coreExec t die n word (.aluImm op rd rs1 imm) = .done t (some 1)
    (writesX rd (aluResult op ((s.core die n).getX rs1) imm) 0 false) := by
  rw [← hk.core]
  rfl

theorem coreExec_sat (op : SatOp) (rd rs1 rs2 : Nat) : coreExec t die n word (.sat op rd rs1 rs2) = .done t (some 1)
    (writesX rd (satResult op ((s.core die n).getX rs1) ((s.core die n).getX rs2)).1 0
      (satResult op ((s.core die n).getX rs1) ((s.core die n).getX rs2)).2) := by
  rw [← hk.core]
  rfl

theorem coreExec_limitW (rd rs1 rs2 rs3 : Nat) : ∃ b, coreExec t die n word (.limitW rd rs1 rs2 rs3) = .done t (some 1)
    (writesX rd (ofInt 32 (min (max (toInt 32 ((s.core die n).getX rs1)) (toInt 32 ((s.core die n).getX rs2)))
      (toInt 32 ((s.core die n).getX rs3)))) 2 b) := by
  rw [← hk.core]
  exact ⟨_, rfl⟩

theorem coreExec_limitF {d : Bool} {rd rs1 rs2 rs3 : Nat} (hfs : (s.core die n).fs ≠ 0)
    (hnan : (Float.unpack (Float.fmtOf d) ((s.core die n).opF d rs1)).isNan = true ∨
      (Float.unpack (Float.fmtOf d) ((s.core die n).opF d rs2)).isNan = false ∧
        (Float.unpack (Float.fmtOf d) ((s.core die n).opF d rs3)).isNan = false) :
    ∃ sat nan, coreExec t die n word (.limitF d rd rs1 rs2 rs3) = .done t (some 2)
      (writesF d rd (Float.limit (Float.fmtOf d) ((s.core die n).opF d rs1) ((s.core die n).opF d rs2) ((s.core die n).opF d rs3))
        sat nan) := by
  have hopen : (!(Float.unpack (Float.fmtOf d) ((s.core die n).opF d rs1)).isNan &&
      ((Float.unpack (Float.fmtOf d) ((s.core die n).opF d rs2)).isNan ||
        (Float.unpack (Float.fmtOf d) ((s.core die n).opF d rs3)).isNan)) = false := by
    obtain h1 | ⟨h2, h3⟩ := hnan
    · rw [h1]
      rfl
    · rw [h2, h3]
      exact Bool.and_false _
  unfold coreExec whenFs
  simp only [hk.core, hopen, if_neg hfs, Bool.false_eq_true, if_false]
  exact ⟨_, _, rfl⟩

theorem coreExec_budgetRd {y : Slot} (hin : s.coreInSlot die n = true) (hy : s.slot? die (n + 1) = some y) (rd : Nat) :
    coreExec t die n word (.budgetRd rd) = .done t (some 1) (writesX rd (y.length - y.used) 0 false) := by
  unfold coreExec
  simp only [hk.coreInSlot, hin, hk.slot, hy]
  rfl

omit hk in
/-- BUDGET.RD writes its register, in a slot or outside. -/
theorem coreExec_budgetRd_any (rd : Nat) :
    ∃ v, coreExec t die n word (.budgetRd rd) = .done t (some 1) (writesX rd v 0 false) := ⟨_, rfl⟩

theorem coreExec_mret (hm : (s.core die n).mmode = true) : coreExec t die n word .mret = .done t (some 4) fun c =>
    { c with pc := c.mepc, mmode := c.mppM, mie := c.mpie, mpie := true, mppM := false, mprv := c.mprv && c.mppM } := by
  unfold coreExec
  rw [hk.core]
  exact if_pos hm

theorem coreExec_slotend (hm : (s.core die n).mmode = true) : coreExec t die n word .slotend = .done t (some 1) id := by
  unfold coreExec
  rw [hk.core]
  exact if_pos (by rw [hm]; rfl)

end

/-! ### SCALE.S (R161) -/

/-- A record of four words in a core's own bank, each of which its protection allows it to read and none marked. -/
structure ScaleRecord (s : State) (die n a : Nat) : Prop where
  aligned : a % 16 = 0
  own : a / 0x100000 = n
  allowed : ∀ i, i < 4 → (s.core die n).pmpAllows (s.core die n).dataM 0 (a + 4 * i) 4 = true
  bankOn : s.bankOn die a = true
  clean : s.eccAt (phys die a) = 0
  cleanHigh : s.eccAt (phys die (a + 8)) = 0

theorem ScaleRecord.keeps {s t : State} {die n a : Nat} (r : ScaleRecord s die n a) (hk : ReadKeeps s t) : ScaleRecord t die n a where
  aligned := r.aligned
  own := r.own
  allowed i hi := by rw [hk.core]; exact r.allowed i hi
  bankOn := (hk.bankOn ..).trans r.bankOn
  clean := (hk.eccAt _).trans r.clean
  cleanHigh := (hk.eccAt _).trans r.cleanHigh

/-- One word of the record is loaded. -/
theorem ScaleRecord.load {s : State} {die n a : Nat} (r : ScaleRecord s die n a) {b : Nat} (k : CoreAccess s die n b) {i : Nat}
    (hi : i < 4) :
    ∃ u, ReadKeeps s u ∧ ∀ cont, coreLoad s die n (a + 4 * i) 4 cont = cont u (s.load (phys die (a + 4 * i)) 4) := by
  have hal := r.aligned
  have hown := r.own
  have hn := k.core
  have hbank : bankOf die (a + 4 * i) = bankOf die a := by
    unfold bankOf
    have : (a + 4 * i) / 0x100000 = a / 0x100000 := by omega
    rw [this, if_pos (show a + 4 * i < 0x400000 by omega), if_pos (show a < 0x400000 by omega)]
  have hword : s.eccAt (phys die (a + 4 * i)) = 0 := by
    have hlow : phys die (a + 4 * i) / 8 * 8 = phys die (if i < 2 then a else a + 8) / 8 * 8 := by
      unfold phys
      split <;> omega
    rw [State.eccAt, hlow]
    split
    · exact r.clean
    · exact r.cleanHigh
  have hacc : CoreAccess s die n (a + 4 * i) := {
    sane := k.sane, scan := k.scan, core := hn, inBanks := by omega, noFailed := k.noFailed
    bankOn := by rw [State.bankOn, hbank]; exact r.bankOn }
  exact hacc.coreLoad (by omega) (r.allowed i hi) hword

theorem coreExec_scaleS {s : State} {die n word rd rs1 rs2 : Nat} {r : Float.Rm} (hfs : (s.core die n).fs ≠ 0)
    (hr : (s.core die n).rounding 7 = some r) (hrec : ScaleRecord s die n ((s.core die n).getX rs2)) {b : Nat}
    (k : CoreAccess s die n b) :
    let a := (s.core die n).getX rs2
    let limit (i : Nat) : Nat := s.load (phys die (a + 4 * i)) 4
    let raw := toInt 32 ((s.core die n).getX rs1)
    let y := min (max raw (toInt 32 (limit 0))) (toInt 32 (limit 1))
    ∃ u fl sat, ReadKeeps s u ∧ coreExec s die n word (.scaleS rd rs1 rs2) = .done u (some 6) fun c =>
      (((c.resF false rd (Float.scale r (limit 2) (limit 3) (y - toInt 32 (limit 0))).1).flags fl).sticky 1 sat).seq := by
  intro a limit raw y
  have hstart : coreExec s die n word (.scaleS rd rs1 rs2) = coreLoad s die n (a + 4 * 0) 4 fun t lo =>
      coreLoad t die n (a + 4 * 1) 4 fun t hi => coreLoad t die n (a + 4 * 2) 4 fun t gain =>
        coreLoad t die n (a + 4 * 3) 4 fun t offset =>
          .done t (some 6) fun c => (((c.resF false rd
            (Float.scale r gain offset (min (max raw (toInt 32 lo)) (toInt 32 hi) - toInt 32 lo)).1).flags
            (Float.scale r gain offset (min (max raw (toInt 32 lo)) (toInt 32 hi) - toInt 32 lo)).2).sticky 1
              (decide (min (max raw (toInt 32 lo)) (toInt 32 hi) ≠ raw))).seq := by
    unfold coreExec withRm whenFs
    dsimp only
    rw [if_neg hfs, hr]
    dsimp only
    rw [if_neg (not_not_intro hrec.aligned), if_neg (not_not_intro hrec.own)]
    rfl
  obtain ⟨u0, h0, e0⟩ := hrec.load k (i := 0) (by decide)
  obtain ⟨u1, k1, e1⟩ := (hrec.keeps h0).load (h0.access k) (i := 1) (by decide)
  have h1 := h0.trans k1
  obtain ⟨u2, k2, e2⟩ := (hrec.keeps h1).load (h1.access k) (i := 2) (by decide)
  have h2 := h1.trans k2
  obtain ⟨u3, k3, e3⟩ := (hrec.keeps h2).load (h2.access k) (i := 3) (by decide)
  simp only [h0.load, h1.load, h2.load] at e1 e2 e3
  exact ⟨u3, _, _, h2.trans k3, hstart.trans ((e0 _).trans ((e1 _).trans ((e2 _).trans (e3 _))))⟩

/-! ### The commands -/

section
variable {s t : State} {die n word : Nat} (h : s.Sane) (hs : SMap.sorted s.cores = true)
include h hs

theorem mret_acts (hf : s.fetches die n t word .mret) (hm : (s.core die n).mmode = true) (hfit : s.coreFits die n 4 = true) :
    Completes (.mret die n) s fun z =>
      (z.core die n).pc = (s.core die n).mepc ∧ (z.core die n).mmode = (s.core die n).mppM ∧
      (z.core die n).mie = (s.core die n).mpie ∧ (z.core die n).mpie = true ∧ (z.core die n).mppM = false := by
  have hk := hf.keeps h
  refine hf.completes rfl (coreExec_mret hk hm) hfit (Nat.le_refl 4) (by rwa [hk.cores]) fun clock z hcore _ => ?_
  rw [hcore, hk.core]
  exact ⟨rfl, rfl, rfl, rfl, rfl⟩

theorem slotend_acts (hf : s.fetches die n t word .slotend) (hm : (s.core die n).mmode = true)
    (hfit : s.coreFits die n 1 = true) :
    Completes (.slotend die n) s fun z =>
      (z.core die n).inSlot = false ∧ (s.coreInSlot die n = true → z.rowRunning die (n + 1) = false) ∧
      ((s.core die n).ysValid = true → (z.core die n).pc = (s.core die n).yspc ∧ (z.core die n).mmode = (s.core die n).ysPrivM ∧
        (z.core die n).mie = (s.core die n).ysMie ∧ (z.core die n).ysValid = false) ∧
      ((s.core die n).ysValid = false → (z.core die n).idle = true ∧ (z.core die n).idlePc = (s.core die n).pc) := by
  have hk := hf.keeps h
  have hts : SMap.sorted t.cores = true := by rwa [hk.cores]
  have hcore := coreRetire_core hts die n 1 id
  have hslot := coreRetire_coreInSlot hts die n 1 id fun _ => rfl
  have hend := State.slotEnd_shows (coreRetire_sorted hts die n 1 id) die n
  rw [hcore, hslot, hk.coreInSlot, hk.core] at hend
  refine ⟨_, ?_, hend⟩
  have hexec : exec (.slotend die n) s = .next (coreInstr CoreOp.slotend.row die n s) := rfl
  rw [hexec, hf.retires (coreExec_slotend hk hm) hfit]
  rfl

end

/-- Settles O28: each register instruction by what it writes, MRET and SLOTEND by what they restore. -/
theorem coreRegisterInstructionsRetire : Obligations.CoreRegisterInstructionsRetire := by
  intro s die n h hs hx hf c x runs gives
  have hX {t : State} {word k rd v sticky : Nat} {op : CoreOp} {cmd : Instr} {b : Bool} (hft : s.fetches die n t word op)
      (hcmd : exec cmd s = .next (coreInstr op.row die n s))
      (hout : coreExec t die n word op = .done t (some k) (writesX rd v sticky b)) (hfit : s.coreFits die n k = true)
      (hend : (op == .slotend) = false) (hw : op.writesBits = false) :=
    hft.completes_register (P := fun d => d.getX rd = if rd = 0 then 0 else v % 2 ^ 32) h hs hcmd (.refl t) hout hfit
      (writesX_pc rd v sticky b) (fun clock => Core.retired_writesX hx clock rd v sticky b) hend hw
  refine ⟨fun op rd rs1 rs2 t word hft hfit => hX hft rfl (coreExec_alu (hft.keeps h) ..) hfit rfl rfl,
    fun op rd rs1 rs2 => ⟨fun t word hft hfit => hX hft (by cases op <;> rfl) (coreExec_sat (hft.keeps h) ..) hfit rfl rfl,
      fun t word hft hfit => ?_⟩,
    fun rd rs1 rs2 rs3 t word hft hfit => ?_, fun d rd rs1 rs2 rs3 hfs hnan t word hft hfit => ?_,
    fun rd y hin hy t word hft hfit => hX hft rfl (coreExec_budgetRd (hft.keeps h) hin hy rd) hfit rfl rfl,
    fun rd rs1 rs2 r hfs hr hal hown hpmp hon hecc hecc8 t word hft hfit => ?_,
    fun t word hft hm hfit => mret_acts h hs hft hm hfit, fun t word hft hm hfit => slotend_acts h hs hft hm hfit⟩
  · refine hft.completes_register (P := fun d => d.yxstat = c.yxstat ||| ofBool (satResult op (x rs1) (x rs2)).2) h hs
      (by cases op <;> rfl) (.refl t) (coreExec_sat (hft.keeps h) ..) hfit (writesX_pc _ _ _ _) fun clock => ?_
    rw [Core.retired_yxstat, Core.seq_yxstat, Core.sticky_zero_yxstat, Core.setX_yxstat]
  · obtain ⟨b, hout⟩ := coreExec_limitW (hft.keeps h) rd rs1 rs2 rs3 (word := word) (die := die) (n := n)
    exact hX hft rfl hout hfit rfl rfl
  · obtain ⟨sat, nan', hout⟩ := coreExec_limitF (hft.keeps h) (word := word) (rd := rd) hfs hnan
    let v := Float.limit (Float.fmtOf d) (c.opF d rs1) (c.opF d rs2) (c.opF d rs3)
    exact hft.completes_register (cmd := if d then .limitD die n else .limitS die n)
      (P := fun e => e.getF rd = (if d then v else Float.box v) % 2 ^ 64) h hs (by cases d <;> rfl) (.refl t) hout hfit
      (writesF_pc _ _ _ _ _) fun clock => Core.retired_writesF hf clock rd v d sat nan'
  · have hk := hft.keeps h
    have hbanks : x rs2 < 0x400000 := by have := hft.place.2; omega
    have hrec : ScaleRecord s die n (c.getX rs2) := ⟨hal, hown, hpmp, hon, hecc, hecc8⟩
    have hcore : t.core die n = s.core die n := hk.core die n
    obtain ⟨u, fl, sat, hu, hout⟩ := coreExec_scaleS (s := t) (word := word) (rd := rd) (rs1 := rs1) (rs2 := rs2) (r := r)
      (by rwa [hcore]) (by rwa [hcore]) (by rw [hcore]; exact hrec.keeps hk) (hft.access h hbanks hon)
    rw [hcore] at hout
    simp only [hk.load] at hout
    let limit (i : Nat) : Nat := s.load (phys die (x rs2 + 4 * i)) 4
    let y := min (max (toInt 32 (x rs1)) (toInt 32 (limit 0))) (toInt 32 (limit 1))
    refine hft.completes_register (cmd := .scaleS die n)
      (P := fun e => e.getF rd = Float.box (Float.scale r (limit 2) (limit 3) (y - toInt 32 (limit 0))).1 % 2 ^ 64)
      h hs rfl hu hout hfit (fun c => by simp) fun clock => ?_
    rw [Core.retired_getF, Core.seq_getF, Core.sticky_getF, Core.flags_getF]
    exact Core.getF_resF_same (c := { c with clock := clock }) hf false rd _

/-! ### The frame of the register instructions -/

section
variable {s t z : State} {die n word k : Nat} {op : CoreOp} {upd : Core → Core}

/-- What a register instruction answers: the state after its fetch with its core retired. -/
theorem State.fetches.register_next {cmd : Instr} (hf : s.fetches die n t word op)
    (hcmd : exec cmd s = .next (coreInstr op.row die n s)) (hout : coreExec t die n word op = .done t (some k) upd)
    (hfit : s.coreFits die n k = true) (hz : exec cmd s = .next z) (hend : (op == .slotend) = false := by rfl)
    (hw : op.writesBits = false := by rfl) : z = coreRetire t die n k false upd := by
  rw [hcmd, hf.retires hout hfit hw, hend] at hz
  exact (Host.Outcome.next.inj hz).symm

/-- Beyond the fetch a register instruction changes its core and the counter of its slot (R152, R164). -/
theorem State.fetches.register_rest (hf : s.fetches die n t word op) (h : s.Sane) (hs : SMap.sorted s.cores = true)
    (hz : z = coreRetire t die n k false upd) :
    ChangesOnly [.cores, .slots] t z ∧ (∀ e m, m < 4 → (e ≠ die ∨ m ≠ n) → z.core e m = s.core e m) ∧
      ∀ e k, k < 8 → (e ≠ die ∨ k ≠ n + 1) → z.slot? e k = t.slot? e k := by
  have hk := hf.keeps h
  have hn := hf.place.2
  subst hz
  refine ⟨(coreRetire_register_moves t die n k upd).changes fun p hp => ?_, fun e m hm hne => ?_, fun e j hj hne => ?_⟩
  · cases p <;> first | rfl | exact absurd hp (by decide)
  · rw [coreRetire_core_other (by rwa [hk.cores]) _ _ _ _ (by omega), hk.core]
  · exact coreRetire_slot t k upd (by omega)

end

/-- A core whose instruction wrote one integer register: every other register and every CSR beside yxstat keep their values. -/
theorem Core.retired_writesX_frame {c d : Core} {clock rd v k : Nat} {b : Bool} (hx : SMap.sorted c.x = true)
    (hd : d = c.retired clock (writesX rd v k b)) :
    d = { c with pc := (c.pc + 4) % 2 ^ 32, lastPc := c.pc, instret := (c.instret + 1) % 2 ^ 64, clock := d.clock, x := d.x
                 yxstat := (c.sticky k b).yxstat } ∧ ∀ r, r ≠ rd → d.getX r = c.getX r := by
  subst hd
  refine ⟨?_, fun r hr => ?_⟩
  · unfold Core.retired writesX
    rw [Core.setX_only]
    cases b <;> rfl
  · rw [Core.retired_getX, Core.seq_getX, Core.sticky_getX]
    exact Core.getX_setX_other (c := { c with clock := clock }) hx v hr

theorem Core.retired_writesF_frame {c d : Core} {clock rd v : Nat} {w sat nan : Bool} (hf : SMap.sorted c.f = true)
    (hd : d = c.retired clock (writesF w rd v sat nan)) :
    d = { c with pc := (c.pc + 4) % 2 ^ 32, lastPc := c.pc, instret := (c.instret + 1) % 2 ^ 64, clock := d.clock, f := d.f
                 fs := 3, fflags := d.fflags, yxstat := d.yxstat } ∧ ∀ r, r ≠ rd → d.getF r = c.getF r := by
  subst hd
  refine ⟨by cases sat <;> cases nan <;> rfl, fun r hr => ?_⟩
  rw [Core.retired_getF, Core.seq_getF, Core.sticky_getF, Core.sticky_getF]
  exact Core.getF_resF_other (c := { c with clock := clock }) hf w v hr

/-- Settles O30: the answered state is the state after the fetch with one core retired. -/
theorem coreRegisterInstructionsKeepTheRest : Obligations.CoreRegisterInstructionsKeepTheRest := by
  intro s t z die n word h hs hslots hx hfl c d frame rest next oneX oneF
  have hX {k rd v sticky : Nat} {op : CoreOp} {cmd : Instr} {b : Bool} (hfr : frame cmd op k)
      (hcmd : exec cmd s = .next (coreInstr op.row die n s))
      (hout : s.fetches die n t word op → coreExec t die n word op = .done t (some k) (writesX rd v sticky b))
      (hend : (op == .slotend) = false) (hw : op.writesBits = false) : rest ∧ oneX rd (c.sticky sticky b).yxstat := by
    obtain ⟨hft, hfit, hz⟩ := hfr
    have hnext := hft.register_next hcmd (hout hft) hfit hz hend hw
    have hd : d = c.retired (t.coreClock die n + k) (writesX rd v sticky b) := by
      unfold d
      rw [hnext, coreRetire_core (by rwa [(hft.keeps h).cores]), (hft.keeps h).core]
    exact ⟨hft.register_rest h hs hnext, Core.retired_writesX_frame hx hd⟩
  refine ⟨fun op rd rs1 rs2 hfr => hX hfr rfl (fun hft => coreExec_alu (hft.keeps h) ..) rfl rfl,
    fun op rd rs1 imm hfr => hX hfr rfl (fun hft => coreExec_aluImm (hft.keeps h) ..) rfl rfl,
    fun rd hfr => hX hfr rfl (fun _ => (coreExec_budgetRd_any rd).choose_spec) rfl rfl,
    fun op rd rs1 rs2 hfr => ?_, fun rd rs1 rs2 rs3 hfr => ?_,
    fun b rd rs1 rs2 rs3 hfs hnan hfr => ?_⟩
  · have hsat := hX hfr (by cases op <;> rfl) (fun hft => coreExec_sat (hft.keeps h) ..) rfl rfl
    rwa [Core.sticky_zero_yxstat] at hsat
  · obtain ⟨b, hout⟩ := coreExec_limitW (hfr.1.keeps h) rd rs1 rs2 rs3 (word := word) (die := die) (n := n)
    obtain ⟨hrest, hcore, hregs⟩ := hX hfr rfl (fun _ => hout) rfl rfl
    refine ⟨hrest, ?_, hregs⟩
    rw [show d.yxstat = (c.sticky 2 b).yxstat by rw [hcore]]
    exact hcore
  · obtain ⟨hft, hfit, hz⟩ := hfr
    obtain ⟨sat, nan', hout⟩ := coreExec_limitF (hft.keeps h) (word := word) (rd := rd) hfs hnan
    have hnext := hft.register_next (by cases b <;> rfl) hout hfit hz
    have hd : d = c.retired (t.coreClock die n + 2) (writesF b rd
        (Float.limit (Float.fmtOf b) (c.opF b rs1) (c.opF b rs2) (c.opF b rs3)) sat nan') := by
      unfold d
      rw [hnext, coreRetire_core (by rwa [(hft.keeps h).cores]), (hft.keeps h).core]
    exact ⟨hft.register_rest h hs hnext, Core.retired_writesF_frame hfl hd⟩

end Sys2Proof.Machine
end

section
/-! SUPPORT.  The standard instructions of a word core: upper immediates, jumps, branches, accesses of its die's banks, atomics, CSRs
and environment calls (R140, R148, R152, R164). -/

open Sys2Proof Sys2Proof.Machine Sys2Proof.Bits
namespace Sys2Proof.Machine
set_option Elab.async false

/-! ### Instructions that start from the core's pc -/

section
variable {s t : State} {die n word : Nat} (hk : ReadKeeps s t)
include hk

theorem coreExec_jal (rd imm : Nat) : coreExec t die n word (.jal rd imm) =
    coreJump t (((s.core die n).pc + imm) % 2 ^ 32) 2 fun c => c.setX rd (c.pc + 4) := by
  rw [← hk.core]
  rfl

theorem coreExec_jalr (rd rs1 imm : Nat) : coreExec t die n word (.jalr rd rs1 imm) =
    coreJump t (((s.core die n).getX rs1 + imm) % 2 ^ 32 / 2 * 2) 2 fun c => c.setX rd (c.pc + 4) := by
  rw [← hk.core]
  rfl

theorem coreExec_branch (br : BrOp) (rs1 rs2 imm : Nat) : coreExec t die n word (.branch br rs1 rs2 imm) =
    if brTaken br ((s.core die n).getX rs1) ((s.core die n).getX rs2)
      then coreJump t (((s.core die n).pc + imm) % 2 ^ 32) 2 id else .done t (some 1) Core.seq := by
  rw [← hk.core]
  rfl

end

/-! ### How a standard instruction shows -/

/-- A core that retires shows its instruction's effect at its own registers only. -/
theorem Core.retired_congr {c : Core} {clock : Nat} {f g : Core → Core}
    (h : f { c with clock := clock } = g { c with clock := clock }) : c.retired clock f = c.retired clock g := by
  rw [Core.retired, Core.retired, h]

/-- What every standard instruction that retires shows: of its core, of the memory of the state that its effect leaves. -/
theorem State.fetches.completes_standard {s t u : State} {die n word j k : Nat} {op : CoreOp} {upd : Core → Core}
    {P : State → Prop} (hf : s.fetches die n t word op) (hout : coreExec t die n word op = .done u (some j) upd)
    (hfit : s.coreFits die n k = true) (hjk : j ≤ k) (hsort : SMap.sorted u.cores = true)
    (hP : ∀ clock z, z.core die n = (u.core die n).retired clock upd → z.mem = u.mem → P z)
    (hrow : op.row = .standard := by rfl) (hend : (op == .slotend) = false := by rfl)
    (hw : op.writesBits = false := by rfl) : Completes (.riscvInstruction die n) s P :=
  hf.completes (by rw [hrow]; rfl) hout hfit hjk hsort hP hend hw

/-- An instruction that writes an integer register and leaves the memory alone. -/
theorem State.fetches.completes_writesX {s t u : State} {die n word j k rd v : Nat} {op : CoreOp} {upd : Core → Core}
    (hf : s.fetches die n t word op) (h : s.Sane) (hs : SMap.sorted s.cores = true) (hx : SMap.sorted (s.core die n).x = true)
    (hu : ReadKeeps t u) (hout : coreExec t die n word op = .done u (some j) upd)
    (hfit : s.coreFits die n k = true) (hjk : j ≤ k)
    (hupd : ∀ clock, upd { s.core die n with clock := clock } = writesX rd v 0 false { s.core die n with clock := clock } := by
      intro; rfl) (hrow : op.row = .standard := by rfl)
    (hend : (op == .slotend) = false := by rfl) (hw : op.writesBits = false := by rfl) :
    Completes (.riscvInstruction die n) s fun z => ((z.core die n).getX rd = if rd = 0 then 0 else v % 2 ^ 32) ∧
      (z.core die n).pc = ((s.core die n).pc + 4) % 2 ^ 32 ∧ z.mem = s.mem := by
  have hsu := (hf.keeps h).trans hu
  refine hf.completes_standard hout hfit hjk (by rwa [hsu.cores]) (fun clock z hcore hmem => ?_) hrow hend hw
  rw [hcore, hsu.core, Core.retired_congr (hupd clock)]
  exact ⟨Core.retired_writesX hx clock rd v 0 false, writesX_pc .., hmem.trans hsu.mem⟩

/-- A jump to an aligned target. -/
theorem State.fetches.completes_jump {s t : State} {die n word j k rd target : Nat} {op : CoreOp}
    (hf : s.fetches die n t word op) (h : s.Sane) (hs : SMap.sorted s.cores = true) (hx : SMap.sorted (s.core die n).x = true)
    (hal : target % 4 = 0) (hout : coreExec t die n word op = coreJump t target j fun c => c.setX rd (c.pc + 4))
    (hfit : s.coreFits die n k = true) (hjk : j ≤ k) (hrow : op.row = .standard := by rfl)
    (hend : (op == .slotend) = false := by rfl) (hw : op.writesBits = false := by rfl) :
    Completes (.riscvInstruction die n) s fun z =>
      ((z.core die n).getX rd = if rd = 0 then 0 else ((s.core die n).pc + 4) % 2 ^ 32) ∧
      (z.core die n).pc = target ∧ z.mem = s.mem := by
  have hk := hf.keeps h
  have hjump : coreExec t die n word op = .done t (some j) fun c => { c.setX rd (c.pc + 4) with pc := target } := by
    rw [hout, coreJump, if_neg (not_not_intro hal)]
  refine hf.completes_standard hjump hfit hjk (by rwa [hk.cores]) (fun clock z hcore hmem => ?_) hrow hend hw
  rw [hcore, hk.core]
  exact ⟨Core.getX_setX_same (c := { s.core die n with clock := clock }) hx rd _, rfl, hmem.trans hk.mem⟩

/-! ### Accesses of the banks -/

/-- An access of a core to the banks C0 to C3 takes at most four cycles (R148). -/
theorem accessCost_banks {n a : Nat} (ha : a < 0x400000) (w : Bool) : ∃ j, j ≤ 4 ∧ accessCost n a w = some j := by
  unfold accessCost
  rw [if_pos (by omega)]
  split
  · exact ⟨_, by cases w <;> decide, rfl⟩
  · rw [if_neg (by omega)]
    exact ⟨_, by cases w <;> decide, rfl⟩

/-- The memory after a store of `size` bytes at an address of a die. -/
def Stored (s z : State) (die a size v : Nat) : Prop :=
  z.load (phys die a) size = v % 2 ^ (8 * size) ∧
    ∀ b, (b < phys die a ∨ phys die a + size ≤ b) → z.loadByte b = s.loadByte b

/-- A store shows in every state that keeps its memory, against every state from whose memory it started. -/
theorem StoreKeeps.shows {die n a size v : Nat} {s t u z : State} (k : StoreKeeps die n a size v t u) (hz : z.mem = u.mem)
    (hs : t.mem = s.mem) : Stored s z die a size v :=
  ⟨(State.load_congr hz ..).trans k.stored, fun b hb =>
    (State.loadByte_congr hz b).trans ((k.bytes b hb).trans (State.loadByte_congr hs b))⟩

/-- A core's access, allowed by its protection, to an aligned address of a bank On of its die. -/
structure OwnAccess (s : State) (die n perm a size : Nat) : Prop where
  aligned : a % size = 0
  inBanks : a < 0x400000
  allowed : (s.core die n).pmpAllows (s.core die n).dataM perm a size = true
  bankOn : s.bankOn die a = true

section
variable {s t : State} {die n word : Nat} {op : CoreOp} (hf : s.fetches die n t word op) (h : s.Sane)
include hf h

theorem State.fetches.loads {a size : Nat} (ho : OwnAccess s die n 0 a size) (he : s.eccAt (phys die a) = 0) :
    ∃ u, ReadKeeps t u ∧ ∀ cont, coreLoad t die n a size cont = cont u (s.load (phys die a) size) := by
  have hk := hf.keeps h
  rw [← hk.load]
  exact (hf.access h ho.inBanks ho.bankOn).coreLoad ho.aligned (by rw [hk.core]; exact ho.allowed) ((hk.eccAt _).trans he)

/-- A store after the fetch, and after a read that followed it. -/
theorem State.fetches.stores {u : State} (hu : ReadKeeps t u) (hs : SMap.sorted s.cores = true) {a size : Nat} (v : Nat)
    (ho : OwnAccess s die n 1 a size) :
    ∃ y, StoreKeeps die n a size v u y ∧ ∀ cont, coreStore u die n a size v cont = cont y := by
  have hk := (hf.keeps h).trans hu
  exact (hu.access (hf.access h ho.inBanks ho.bankOn)).coreStore (by rwa [hk.cores]) v ho.aligned
    (by rw [hk.core]; exact ho.allowed)

/-- The read of an atomic instruction (R140). -/
theorem State.fetches.amo_loads {a : Nat} (ho : OwnAccess s die n 0 a 4) (hown : a / 0x100000 = n)
    (he : s.eccAt (phys die a) = 0) (lr : Bool) :
    ∃ u, ReadKeeps t u ∧ ∀ j upd y cont, cont u (s.load (phys die a) 4) = .done y (some j) upd →
      coreAmo t die n a lr cont = .done y (some j) upd := by
  obtain ⟨u, hu, hload⟩ := hf.loads h ho he
  refine ⟨u, hu, fun j upd y cont hcont => ?_⟩
  rw [coreAmo, if_neg (not_not_intro ho.aligned), if_neg (not_not_intro hown), hload, hcont]

end

/-! ### The commands -/

section
variable {s t : State} {die n word : Nat} {op : CoreOp} (h : s.Sane) (hs : SMap.sorted s.cores = true)
include h hs

theorem branch_acts {br : BrOp} {rs1 rs2 imm : Nat} (hf : s.fetches die n t word (.branch br rs1 rs2 imm))
    (hal : ((s.core die n).pc + imm) % 2 ^ 32 % 4 = 0) (hfit : s.coreFits die n 2 = true) :
    Completes (.riscvInstruction die n) s fun z => (z.core die n).x = (s.core die n).x ∧ z.mem = s.mem ∧
      if brTaken br ((s.core die n).getX rs1) ((s.core die n).getX rs2)
        then (z.core die n).pc = ((s.core die n).pc + imm) % 2 ^ 32
        else (z.core die n).pc = ((s.core die n).pc + 4) % 2 ^ 32 := by
  have hk := hf.keeps h
  have hsort : SMap.sorted t.cores = true := by rwa [hk.cores]
  have hexec := coreExec_branch hk br rs1 rs2 imm (die := die) (n := n) (word := word)
  cases htaken : brTaken br ((s.core die n).getX rs1) ((s.core die n).getX rs2)
  · rw [htaken] at hexec
    refine hf.completes_standard hexec hfit (by decide) hsort fun clock z hcore hmem => ?_
    rw [hcore, hk.core]
    exact ⟨rfl, hmem.trans hk.mem, rfl⟩
  · rw [htaken, if_pos rfl, coreJump, if_neg (not_not_intro hal)] at hexec
    refine hf.completes_standard hexec hfit (by decide) hsort fun clock z hcore hmem => ?_
    rw [hcore, hk.core]
    exact ⟨rfl, hmem.trans hk.mem, rfl⟩

theorem load_acts {size rd rs1 imm : Nat} {uns : Bool} (hx : SMap.sorted (s.core die n).x = true)
    (hf : s.fetches die n t word (.load size uns rd rs1 imm)) (hfit : s.coreFits die n 4 = true)
    (ho : OwnAccess s die n 0 (((s.core die n).getX rs1 + imm) % 2 ^ 32) size)
    (he : s.eccAt (phys die (((s.core die n).getX rs1 + imm) % 2 ^ 32)) = 0) :
    let v := s.load (phys die (((s.core die n).getX rs1 + imm) % 2 ^ 32)) size
    Completes (.riscvInstruction die n) s fun z =>
      ((z.core die n).getX rd = if rd = 0 then 0 else (if uns then v else sext (8 * size) v) % 2 ^ 32) ∧
      (z.core die n).pc = ((s.core die n).pc + 4) % 2 ^ 32 ∧ z.mem = s.mem := by
  intro v
  obtain ⟨u, hu, hload⟩ := hf.loads h ho he
  obtain ⟨j, hj, hcost⟩ := accessCost_banks (n := n) ho.inBanks false
  have hout : coreExec t die n word (.load size uns rd rs1 imm) =
      .done u (some j) (writesX rd (if uns then v else sext (8 * size) v) 0 false) := by
    unfold v
    rw [← hcost]
    rw [← (hf.keeps h).core] at hload ⊢
    exact hload _
  exact hf.completes_writesX h hs hx hu hout hfit hj

theorem store_acts {size rs1 rs2 imm : Nat} (hf : s.fetches die n t word (.store size rs1 rs2 imm))
    (hfit : s.coreFits die n 4 = true) (ho : OwnAccess s die n 1 (((s.core die n).getX rs1 + imm) % 2 ^ 32) size) :
    Completes (.riscvInstruction die n) s fun z => (z.core die n).x = (s.core die n).x ∧
      (z.core die n).pc = ((s.core die n).pc + 4) % 2 ^ 32 ∧
      Stored s z die (((s.core die n).getX rs1 + imm) % 2 ^ 32) size ((s.core die n).getX rs2) := by
  have hk := hf.keeps h
  obtain ⟨y, hy, hstore⟩ := hf.stores h (.refl t) hs ((s.core die n).getX rs2 % 2 ^ (8 * size)) ho
  obtain ⟨j, hj, hcost⟩ := accessCost_banks (n := n) ho.inBanks true
  have hout : coreExec t die n word (.store size rs1 rs2 imm) = .done y (some j) Core.seq := by
    rw [← hcost]
    rw [← hk.core] at hstore ⊢
    exact hstore _
  refine hf.completes_standard hout hfit hj (hy.coresSorted (by rwa [hk.cores])) fun clock z hcore hmem => ?_
  have hshow := hy.shows hmem hk.mem
  rw [Stored, Nat.mod_mod] at hshow
  rw [hcore, hy.core, hk.core]
  exact ⟨rfl, rfl, hshow⟩

theorem lr_acts {rd rs1 : Nat} (hx : SMap.sorted (s.core die n).x = true) (hf : s.fetches die n t word (.lr rd rs1))
    (hfit : s.coreFits die n 2 = true) (ho : OwnAccess s die n 0 ((s.core die n).getX rs1) 4)
    (hown : (s.core die n).getX rs1 / 0x100000 = n) (he : s.eccAt (phys die ((s.core die n).getX rs1)) = 0) :
    Completes (.riscvInstruction die n) s fun z =>
      ((z.core die n).getX rd = if rd = 0 then 0 else s.load (phys die ((s.core die n).getX rs1)) 4 % 2 ^ 32) ∧
      (z.core die n).pc = ((s.core die n).pc + 4) % 2 ^ 32 ∧
      (z.core die n).reserved = some ((s.core die n).getX rs1) ∧ z.mem = s.mem := by
  have hk := hf.keeps h
  obtain ⟨u, hu, hload⟩ := hf.amo_loads h ho hown he true
  have hsu := hk.trans hu
  have hout : coreExec t die n word (.lr rd rs1) = .done u (some 2) fun c =>
      ({ c with reserved := some ((s.core die n).getX rs1) }.setX rd
        (s.load (phys die ((s.core die n).getX rs1)) 4)).seq := by
    rw [← hk.core] at hload ⊢
    exact hload _ _ _ _ rfl
  refine hf.completes_standard hout hfit (Nat.le_refl 2) (by rwa [hsu.cores]) fun clock z hcore hmem => ?_
  rw [hcore, hsu.core]
  refine ⟨?_, by simp, by simp, hmem.trans hsu.mem⟩
  exact Core.getX_setX_same (c := { s.core die n with clock := clock, reserved := _ }) hx ..

theorem sc_acts {rd rs1 rs2 : Nat} (hx : SMap.sorted (s.core die n).x = true) (hf : s.fetches die n t word (.sc rd rs1 rs2))
    (hfit : s.coreFits die n 2 = true) (hr : OwnAccess s die n 0 ((s.core die n).getX rs1) 4)
    (hw : OwnAccess s die n 1 ((s.core die n).getX rs1) 4) (hown : (s.core die n).getX rs1 / 0x100000 = n)
    (he : s.eccAt (phys die ((s.core die n).getX rs1)) = 0) :
    Completes (.riscvInstruction die n) s fun z => (z.core die n).pc = ((s.core die n).pc + 4) % 2 ^ 32 ∧
      (z.core die n).reserved = none ∧
      ((s.core die n).reserved = some ((s.core die n).getX rs1) →
        ((z.core die n).getX rd = if rd = 0 then 0 else 0 % 2 ^ 32) ∧
        Stored s z die ((s.core die n).getX rs1) 4 ((s.core die n).getX rs2)) ∧
      ((s.core die n).reserved ≠ some ((s.core die n).getX rs1) →
        ((z.core die n).getX rd = if rd = 0 then 0 else 1 % 2 ^ 32) ∧ z.mem = s.mem) := by
  have hk := hf.keeps h
  obtain ⟨u, hu, hload⟩ := hf.amo_loads h hr hown he false
  have hsu := hk.trans hu
  obtain ⟨y, hy, hstore⟩ := hf.stores h hu hs ((s.core die n).getX rs2) hw
  have hregs (clock v : Nat) : (({ s.core die n with clock := clock, reserved := none }).setX rd v).getX rd =
      if rd = 0 then 0 else v % 2 ^ 32 := Core.getX_setX_same (c := { s.core die n with clock := clock, reserved := none }) hx ..
  by_cases hres : (s.core die n).reserved = some ((s.core die n).getX rs1)
  · have hout : coreExec t die n word (.sc rd rs1 rs2) = .done y (some 2) fun c =>
        ({ c with reserved := none }.setX rd 0).seq := by
      rw [← hk.core] at hload hstore hres
      refine hload _ _ _ _ ?_
      rw [if_pos hres]
      exact hstore _
    refine hf.completes_standard hout hfit (Nat.le_refl 2) (hy.coresSorted (by rwa [hsu.cores])) fun clock z hcore hmem => ?_
    rw [hcore, hy.core, hsu.core]
    exact ⟨by simp, by simp, fun _ => ⟨hregs clock 0, hy.shows hmem hsu.mem⟩, fun hne => absurd hres hne⟩
  · have hout : coreExec t die n word (.sc rd rs1 rs2) = .done u (some 2) fun c =>
        ({ c with reserved := none }.setX rd 1).seq := by
      rw [← hk.core] at hload hres
      exact hload _ _ _ _ (if_neg hres)
    refine hf.completes_standard hout hfit (Nat.le_refl 2) (by rwa [hsu.cores]) fun clock z hcore hmem => ?_
    rw [hcore, hsu.core]
    exact ⟨by simp, by simp, fun hin => absurd hin hres, fun _ => ⟨hregs clock 1, hmem.trans hsu.mem⟩⟩

theorem amo_acts {amo : AmoOp} {rd rs1 rs2 : Nat} (hx : SMap.sorted (s.core die n).x = true)
    (hf : s.fetches die n t word (.amo amo rd rs1 rs2))
    (hfit : s.coreFits die n 3 = true) (hr : OwnAccess s die n 0 ((s.core die n).getX rs1) 4)
    (hw : OwnAccess s die n 1 ((s.core die n).getX rs1) 4) (hown : (s.core die n).getX rs1 / 0x100000 = n)
    (he : s.eccAt (phys die ((s.core die n).getX rs1)) = 0) :
    let old := s.load (phys die ((s.core die n).getX rs1)) 4
    Completes (.riscvInstruction die n) s fun z =>
      ((z.core die n).getX rd = if rd = 0 then 0 else old % 2 ^ 32) ∧
      (z.core die n).pc = ((s.core die n).pc + 4) % 2 ^ 32 ∧
      Stored s z die ((s.core die n).getX rs1) 4 (amoResult amo old ((s.core die n).getX rs2)) := by
  intro old
  have hk := hf.keeps h
  obtain ⟨u, hu, hload⟩ := hf.amo_loads h hr hown he false
  have hsu := hk.trans hu
  obtain ⟨y, hy, hstore⟩ := hf.stores h hu hs (amoResult amo old ((s.core die n).getX rs2)) hw
  have hout : coreExec t die n word (.amo amo rd rs1 rs2) = .done y (some 3) (writesX rd old 0 false) := by
    unfold old at hstore ⊢
    rw [← hk.core] at hload hstore ⊢
    exact hload _ _ _ _ (hstore _)
  refine hf.completes_standard hout hfit (Nat.le_refl 3) (hy.coresSorted (by rwa [hsu.cores])) fun clock z hcore hmem => ?_
  rw [hcore, hy.core, hsu.core]
  exact ⟨Core.retired_writesX hx clock rd old 0 false, writesX_pc .., hy.shows hmem hsu.mem⟩

/-- A CSR instruction that only reads (R164). -/
theorem csr_reads {f3 rd num old : Nat} (hx : SMap.sorted (s.core die n).x = true)
    (hf : s.fetches die n t word (.csr f3 rd 0 num)) (hf3 : f3 ∈ [2, 3]) (hold : csrRead t die n num = some old)
    (hfit : s.coreFits die n 1 = true) :
    Completes (.riscvInstruction die n) s fun z => ((z.core die n).getX rd = if rd = 0 then 0 else old % 2 ^ 32) ∧
      (z.core die n).pc = ((s.core die n).pc + 4) % 2 ^ 32 ∧ z.mem = s.mem := by
  have hreads : (f3 % 4 == 1 || (0 : Nat) != 0) = false := by fin_cases hf3 <;> rfl
  have hout : coreExec t die n word (.csr f3 rd 0 num) = .done t (some 1) (writesX rd old 0 false) := by
    show coreCsr t die n word f3 rd 0 num = _
    unfold coreCsr
    simp only [hold, hreads, Bool.false_and, Bool.false_eq_true, if_false]
    rfl
  exact hf.completes_writesX h hs hx (.refl t) hout hfit (Nat.le_refl 1)

theorem mscratch_acts {rd rs1 : Nat} (hx : SMap.sorted (s.core die n).x = true)
    (hf : s.fetches die n t word (.csr 1 rd rs1 0x340)) (hm : (s.core die n).mmode = true)
    (hfit : s.coreFits die n 1 = true) :
    Completes (.riscvInstruction die n) s fun z =>
      ((z.core die n).getX rd = if rd = 0 then 0 else (s.core die n).mscratch % 2 ^ 32) ∧
      (z.core die n).pc = ((s.core die n).pc + 4) % 2 ^ 32 ∧ (z.core die n).mscratch = (s.core die n).getX rs1 := by
  have hk := hf.keeps h
  have hread : csrRead t die n 0x340 = some (s.core die n).mscratch := by
    rw [show csrRead t die n 0x340 = if (t.core die n).mmode then some (t.core die n).mscratch else none from rfl, hk.core, hm]
    rfl
  have hout : coreExec t die n word (.csr 1 rd rs1 0x340) = .done t (some 1) fun c =>
      ({ c with mscratch := (s.core die n).getX rs1 }.setX rd (s.core die n).mscratch).seq := by
    show coreCsr t die n word 1 rd rs1 0x340 = _
    unfold coreCsr
    rw [hread, hk.core]
    rfl
  refine hf.completes_standard hout hfit (Nat.le_refl 1) (by rwa [hk.cores]) fun clock z hcore _ => ?_
  rw [hcore, hk.core]
  refine ⟨?_, by simp, by simp⟩
  exact Core.getX_setX_same (c := { s.core die n with clock := clock, mscratch := _ }) hx ..

omit hs in
/-- ECALL and EBREAK enter the trap handler (R152). -/
theorem environmentCall_acts {cause tval : Nat} (hf : s.fetches die n t word op)
    (hout : coreExec t die n word op = .trap t cause tval) (hfit : s.coreFits die n 12 = true) :
    Completes (.trapEntry die n) s fun z =>
      (z.core die n).mcause = cause ∧ (z.core die n).mepc = (s.core die n).pc / 4 * 4 ∧
      (z.core die n).mppM = (s.core die n).mmode ∧ (z.core die n).mpie = (s.core die n).mie ∧
      (z.core die n).mie = false ∧ (z.core die n).mmode = true ∧ z.mem = s.mem := by
  have hk := hf.keeps h
  refine ⟨t.enterTrap die n cause tval (s.core die n).pc (s.core die n).mmode, ?_, ?_⟩
  · show execTrapEntry die n s = _
    rw [execTrapEntry, if_pos hf.1, hf.coreOut_eq, hout]
    exact congrArg _ (if_pos hfit)
  · beta_reduce
    rw [State.enterTrap_core, hk.core]
    exact ⟨rfl, rfl, rfl, rfl, rfl, rfl, ((State.enterTrap_moves_any ..).part .mem).trans hk.mem⟩

end

/-- Settles O29: each group of the standard instructions by what it shows when it retires. -/
theorem coreStandardInstructionsAct : Obligations.CoreStandardInstructionsAct := by
  intro s die n h hs hx c x isX next runs own stored
  have access {perm a size : Nat} (ho : own perm a size) : OwnAccess s die n perm a size := by
    obtain ⟨hal, hbanks, hpmp, hon⟩ := ho
    exact ⟨hal, hbanks, hpmp, hon⟩
  refine ⟨fun rd imm t word hf hfit => hf.completes_writesX h hs hx (.refl t) rfl hfit (Nat.le_refl 1),
    fun rd imm t word hf hfit => hf.completes_writesX h hs hx (.refl t) rfl hfit (Nat.le_refl 1),
    fun op rd rs1 imm t word hf hfit => hf.completes_writesX h hs hx (.refl t) (coreExec_aluImm (hf.keeps h) ..) hfit (Nat.le_refl 1),
    fun rd imm hal t word hf hfit =>
      hf.completes_jump h hs hx hal (coreExec_jal (hf.keeps h) ..) hfit (Nat.le_refl 2),
    fun rd rs1 imm hal t word hf hfit =>
      hf.completes_jump h hs hx hal (coreExec_jalr (hf.keeps h) ..) hfit (Nat.le_refl 2),
    fun op rs1 rs2 imm hal t word hf hfit => branch_acts h hs hf hal hfit,
    fun size uns rd rs1 imm _ ho he t word hf hfit => load_acts h hs hx hf hfit (access ho) he,
    fun size rs1 rs2 imm _ ho t word hf hfit => store_acts h hs hf hfit (access ho),
    fun rd rs1 ho hown he t word hf hfit => lr_acts h hs hx hf hfit (access ho) hown he,
    fun rd rs1 rs2 hr hw hown he =>
      ⟨fun t word hf hfit => sc_acts h hs hx hf hfit (access hr) (access hw) hown he,
        fun op t word hf hfit => amo_acts h hs hx hf hfit (access hr) (access hw) hown he⟩,
    fun f3 rd num old t word hf hf3 hold hfit => csr_reads h hs hx hf hf3 hold hfit,
    fun rd rs1 hm t word hf hfit => mscratch_acts h hs hx hf hm hfit, fun op t word hop hf hfit => ?_⟩
  obtain rfl | rfl := hop
  · refine environmentCall_acts h hf (cause := if c.mmode then 11 else 8) (tval := 0) ?_ hfit
    unfold c
    rw [← (hf.keeps h).core]
    rfl
  · exact environmentCall_acts h hf (cause := 3) rfl hfit

end Sys2Proof.Machine
end

section
/-! SUPPORT.  Tokens: what their masks and owners show after a grant, a release and a return by the hardware (R163, R350, R351). -/

open Sys2Proof Sys2Proof.Machine Sys2Proof.Bits
namespace Sys2Proof.Machine
set_option Elab.async false

/-! ### Masks over two registers -/

theorem bit_setBit (m i j : Nat) (b : Bool) : bit (setBit m i b) j = if j = i then b else bit m j := by
  rw [bit_eq_testBit, setBit, testBit_setField, bit_eq_testBit]
  by_cases hj : j = i
  · rw [if_pos (by omega), if_pos hj, hj, Nat.sub_self]
    cases b <;> rfl
  · rw [if_neg (by omega), if_neg hj]

section
variable {s : State} (h : s.Sane) {lo hi : FieldDef}
include h

/-- Two words written together read back as the low 64 bits. -/
theorem State.rd2_wr2 (hlo : lo.width = 32) (hhi : hi.width = 32) (ha : apart lo hi) (die v : Nat) :
    (s.wr2 die lo hi v).rd2 die lo hi = v % 2 ^ 64 := by
  rw [State.rd2, State.wr2, State.rd_wr_same (h.wr ..), State.rd_wr_other (h.wr ..) _ ha, State.rd_wr_same h, hlo, hhi]
  omega

theorem State.wr2_rd {f : FieldDef} (hl : apart f lo) (hh : apart f hi) (die v e : Nat) :
    (s.wr2 die lo hi v).rd e f = s.rd e f := by
  rw [State.wr2, State.rd_wr_other (h.wr ..) _ hh, State.rd_wr_other h _ hl]

theorem State.Sane.wr2 (die v : Nat) : (s.wr2 die lo hi v).Sane := (h.wr ..).wr ..

/-- One bit of a mask of 64 is set, the others stay. -/
theorem State.bit_setTokenBit (hlo : lo.width = 32) (hhi : hi.width = 32) (ha : apart lo hi) (t : Nat) (b : Bool) {k : Nat}
    (hk : k < 64) : bit ((s.setTokenBit lo hi t b).rd2 0 lo hi) k = if k = t then b else bit (s.rd2 0 lo hi) k := by
  rw [State.setTokenBit, State.rd2_wr2 h hlo hhi ha, ← bit_setBit, bit_eq_testBit, bit_eq_testBit, Nat.testBit_mod_two_pow,
    decide_eq_true hk, Bool.true_and]

end

/-! ### HELD, BROKEN and the owner -/

/-- The registers that show Token `k`: HELD, BROKEN and its owner. -/
def tokenFields (k : Nat) : List FieldDef :=
  [Reg.TOKEN_HELD_LO_TOKENS, Reg.TOKEN_HELD_HI_TOKENS, Reg.TOKEN_BROKEN_LO_TOKENS, Reg.TOKEN_BROKEN_HI_TOKENS,
   Reg.TOKEN_OWNER_MASTER.w k]

/-- The offsets of those registers on their page. -/
def tokenOffsets : List Nat := [0x10C, 0x110, 0x114, 0x118, 0x128]

theorem tokenFields_place {k : Nat} {f : FieldDef} (hf : f ∈ tokenFields k) :
    f.code = 9 ∧ tokenOffsets.contains (f.off % 4096) = true := by
  simp only [tokenFields, List.mem_cons, List.not_mem_nil, or_false] at hf
  rcases hf with rfl | rfl | rfl | rfl | rfl <;> exact ⟨rfl, rfl⟩

theorem tokenFields_off {k off : Nat} {f : FieldDef} (hf : f ∈ tokenFields k) (ho : tokenOffsets.contains off = false) :
    f.off % 4096 ≠ off := by
  rintro rfl
  rw [(tokenFields_place hf).2] at ho
  cases ho

theorem tokenFields_apart {k : Nat} {f g : FieldDef} (hf : f ∈ tokenFields k)
    (hg : tokenOffsets.contains (g.off % 4096) = false := by rfl) : apart f g := .inr (.inl (tokenFields_off hf hg))

/-- The owners of the Tokens stand in a register of their own. -/
theorem apart_tokenOwner {f : FieldDef} (k : Nat) (hf : f.off % 4096 ≠ 0x128) : apart (Reg.TOKEN_OWNER_MASTER.w k) f :=
  .inr (.inl hf.symm)

/-- What the Token page shows of Token `k`. -/
structure TokenShows (s : State) (k : Nat) (held broken : Bool) (owner : Nat) : Prop where
  sane : s.Sane
  held : s.tokenHeld k = held
  broken : s.tokenBroken k = broken
  owner : s.tokenOwner k = owner

theorem TokenShows.of {s : State} (h : s.Sane) (k : Nat) : TokenShows s k (s.tokenHeld k) (s.tokenBroken k) (s.tokenOwner k) :=
  ⟨h, rfl, rfl, rfl⟩

/-- Tokens show the same where the registers of their masks and their owner do. -/
theorem TokenShows.congr {s t : State} {k o : Nat} {hd br : Bool} (h : TokenShows s k hd br o) (ht : t.Sane)
    (hl : ∀ f ∈ tokenFields k, t.rd 0 f = s.rd 0 f) : TokenShows t k hd br o := by
  simp only [tokenFields, List.forall_mem_cons, List.not_mem_nil, false_imp_iff, implies_true, and_true] at hl
  obtain ⟨h1, h2, h3, h4, h5⟩ := hl
  refine ⟨ht, ?_, ?_, h5.trans h.owner⟩
  · rw [State.tokenHeld, State.rd2, h1, h2]
    exact h.held
  · rw [State.tokenBroken, State.rd2, h3, h4]
    exact h.broken

/-- A move that leaves the Token page leaves every Token. -/
theorem TokenShows.moves {s t : State} {k o F : Nat} {hd br : Bool} (h : TokenShows s k hd br o) (hm : Moves F s t)
    (hF : F.testBit (64 + 9) = false := by rfl) : TokenShows t k hd br o :=
  h.congr (hm.sane h.sane) fun f hf => hm.rd h.sane 0 f (by rw [(tokenFields_place hf).1]; exact hF)

section
variable {s : State} {k o : Nat} {hd br : Bool} (h : TokenShows s k hd br o) (hk : k < 64) (t : Nat) (b : Bool)
include h

theorem TokenShows.setHeldover : TokenShows (s.setHeldover t b) k hd br o :=
  h.congr ((State.setHeldover_moves ..).sane h.sane) fun _ hf =>
    State.wr2_rd h.sane (tokenFields_apart hf) (tokenFields_apart hf) ..

include hk

theorem TokenShows.setHeld : TokenShows (s.setHeld t b) k (if k = t then b else hd) br o where
  sane := (State.setHeld_moves ..).sane h.sane
  held := (State.bit_setTokenBit h.sane rfl rfl (by decide) t b hk).trans (by rw [← h.held]; rfl)
  broken := by
    rw [State.tokenBroken, State.rd2, State.setHeld, State.setTokenBit, State.wr2_rd h.sane (by decide) (by decide),
      State.wr2_rd h.sane (by decide) (by decide)]
    exact h.broken
  owner := (State.wr2_rd h.sane (apart_tokenOwner _ (by decide)) (apart_tokenOwner _ (by decide)) ..).trans h.owner

theorem TokenShows.setBroken : TokenShows (s.setBroken t b) k hd (if k = t then b else br) o where
  sane := (State.setBroken_moves ..).sane h.sane
  held := by
    rw [State.tokenHeld, State.rd2, State.setBroken, State.setTokenBit, State.wr2_rd h.sane (by decide) (by decide),
      State.wr2_rd h.sane (by decide) (by decide)]
    exact h.held
  broken := (State.bit_setTokenBit h.sane rfl rfl (by decide) t b hk).trans (by rw [← h.broken]; rfl)
  owner := (State.wr2_rd h.sane (apart_tokenOwner _ (by decide)) (apart_tokenOwner _ (by decide)) ..).trans h.owner

end

/-! ### Grants, releases and returns -/

section
variable {s : State} (h : s.Sane) {k : Nat} (hk : k < 64)
include h hk

/-- A free Token is granted, with BROKEN once if the mark stood (R163, R351). -/
theorem State.acquireToken_free (who : Nat) (hfree : s.tokenHeld k = false) :
    TokenShows (s.acquireToken who k).1 k true false (who % 256) ∧ (s.acquireToken who k).2 = ofBool (s.tokenBroken k) := by
  have hmarks := (((TokenShows.of h k).setHeld hk k true).setBroken hk k false)
  simp only [if_true] at hmarks
  have heq : s.acquireToken who k =
      (((s.setHeld k true).setBroken k false).wr 0 (Reg.TOKEN_OWNER_MASTER.w k) who, ofBool (s.tokenBroken k)) := by
    rw [State.acquireToken, if_neg (by rw [hfree]; decide)]
    rfl
  have hmask {f : FieldDef} (hf : f.off % 4096 ≠ 0x128) :
      (((s.setHeld k true).setBroken k false).wr 0 (Reg.TOKEN_OWNER_MASTER.w k) who).rd 0 f =
        ((s.setHeld k true).setBroken k false).rd 0 f := State.rd_wr_other hmarks.sane _ (.inr (.inl hf))
  rw [heq]
  refine ⟨⟨hmarks.sane.wr .., ?_, ?_, State.rd_wr_same hmarks.sane ..⟩, rfl⟩
  · rw [State.tokenHeld, State.rd2, hmask (by decide), hmask (by decide)]
    exact hmarks.held
  · rw [State.tokenBroken, State.rd2, hmask (by decide), hmask (by decide)]
    exact hmarks.broken

omit h hk in
/-- A held Token stays as it is. -/
theorem State.acquireToken_held (who : Nat) (hheld : s.tokenHeld k = true) :
    s.acquireToken who k = (s, if s.tokenOwner k = who then 3 else 2) := if_pos hheld

/-- The owner returns its Token (R163). -/
theorem State.releaseToken_owner (hheld : s.tokenHeld k = true) :
    TokenShows (s.releaseToken (s.tokenOwner k) k).1 k false (s.tokenBroken k) (s.tokenOwner k) ∧
      (s.releaseToken (s.tokenOwner k) k).2 = 0 := by
  have hmarks := (((TokenShows.of h k).setHeld hk k false).setHeldover k false)
  rw [if_pos rfl] at hmarks
  have heq : s.releaseToken (s.tokenOwner k) k = ((s.setHeld k false).setHeldover k false, 0) := by
    rw [State.releaseToken, if_pos (by rw [hheld, beq_self_eq_true]; rfl)]
  rw [heq]
  exact ⟨hmarks, rfl⟩

omit h hk in
/-- Nobody else returns a Token. -/
theorem State.releaseToken_refused {who : Nat} (hne : ¬(s.tokenHeld k = true ∧ s.tokenOwner k = who)) :
    s.releaseToken who k = (s, 4) := by
  rw [State.releaseToken, if_neg fun hc => hne (by rwa [Bool.and_eq_true, beq_iff_eq] at hc)]

end

/-- The hardware returns Token `t`: it is free and marked broken, and no other Token changes (R351). -/
theorem TokenShows.returnToken {s : State} {k o : Nat} {hd br : Bool} (h : TokenShows s k hd br o) (hk : k < 64) (t : Nat) :
    TokenShows (s.returnToken t) k (if k = t then false else hd) (if k = t then true else br) o := by
  have hmarks := ((h.setHeld hk t false).setBroken hk t true).setHeldover t false
  have hirq : TokenShows ((((s.setHeld t false).setBroken t true).setHeldover t false).irq 0 0x09 0) k
      (if k = t then false else hd) (if k = t then true else br) o :=
    hmarks.congr ((State.irq_moves_any ..).sane hmarks.sane) fun _ hf => State.irq_rd hmarks.sane (tokenFields_apart hf)
  have hinc := hirq.congr ((State.inc_moves_any _ 0 Reg.TOKEN_RETURNS_COUNT).sane hirq.sane) fun _ hf => State.inc_rd hirq.sane
    (tokenFields_apart hf)
  exact hinc.moves (State.archive_moves ..)

end Sys2Proof.Machine
end

section
/-! SUPPORT.  Instructions of a word core that reach the bit store, the queues and the Tokens (R150, R158, R160, R162, R163). -/

open Sys2Proof Sys2Proof.Machine Sys2Proof.Bits
namespace Sys2Proof.Machine
set_option Elab.async false

/-! ### Words of the bit store (R158) -/

theorem refOf_bounds {base off sp w lane : Nat} (h : refOf base off = some (sp, w, lane)) : sp < 8 ∧ w < 2 ^ 14 := by
  simp only [refOf, Option.ite_none_right_eq_some, Option.some.injEq, Prod.mk.injEq] at h
  obtain ⟨-, rfl, rfl, -⟩ := h
  exact ⟨field_lt _ _ 3, field_lt _ _ 14⟩

/-- Where a word of the bit store stands, and that its place names it. -/
theorem bitOwn_place {sp w : Nat} (hsp : sp < 8) (hw : w < 2 ^ 14) :
    0x800000 ≤ bitOwn sp w ∧ bitOwn sp w % 8 = 0 ∧ field (bitOwn sp w) 17 3 = sp ∧ field (bitOwn sp w) 3 14 = w := by
  simp only [bitOwn, field, Nat.shiftRight_eq_div_pow]
  omega

/-- A word of the bit store that a core may access for `cause` and that is not marked. -/
structure BitAccess (s : State) (die n cause sp w : Nat) : Prop where
  scan : isScan die = true
  space : sp < 8
  word : w < 2 ^ 14
  allowed : (s.core die n).pmpAllows (s.core die n).dataM (if cause = 5 then 0 else 1) (bitOwn sp w) 8 = true
  bankOn : s.bankOn die (bitOwn sp w) = true
  clean : s.eccAt (phys die (bitOwn sp w)) ≠ 2

theorem ReadKeeps.bitAccess {s t : State} (hk : ReadKeeps s t) {die n cause sp w : Nat} (b : BitAccess s die n cause sp w) :
    BitAccess t die n cause sp w where
  scan := b.scan
  space := b.space
  word := b.word
  allowed := by rw [hk.core]; exact b.allowed
  bankOn := (hk.bankOn ..).trans b.bankOn
  clean := by rw [hk.eccAt]; exact b.clean

/-- A reader sees the words of the bit store at their places. -/
theorem State.peek_bits (s : State) {die sp w : Nat} (hd : isScan die = true) (hsp : sp < 8) (hw : w < 2 ^ 14) :
    s.peek die (bitOwn sp w) 8 = (bitWord s die sp w).toNat := by
  obtain ⟨hlow, hal, hspace, hword⟩ := bitOwn_place hsp hw
  have hscan := isScan_iff.mp hd
  have hr : s.ringEntry die (bitOwn sp w) = none := by
    rw [State.ringEntry, State.ringPlace, if_neg (by omega), if_neg (by omega)]
    rfl
  have hl : s.lineFrame die (bitOwn sp w) = none := by rw [State.lineFrame, if_neg (by omega)]
  unfold State.peek
  simp only [hr, hl, hd, decide_eq_true hlow, hspace, hword, hal, Bool.true_and, if_true]
  exact Nat.mod_eq_of_lt (bitWord s die sp w).isLt

/-- A read of a word of the bit store for a core (R145, R339). -/
theorem BitAccess.reads {s : State} (h : s.Sane) {die n cause sp w : Nat} (b : BitAccess s die n cause sp w) :
    ∃ u, ReadKeeps s u ∧ ∀ lane cont, coreBits s die n cause (some (sp, w, lane)) cont =
      cont u sp w lane (bitWord s die sp w).toNat := by
  have hk := State.noteEcc_keeps h die (bitOwn sp w) (die * 32 + n)
  have hread : s.readOwn (die * 32 + n) die (bitOwn sp w) 8 false =
      (s.noteEcc die (bitOwn sp w) (die * 32 + n), .ok (bitWord s die sp w).toNat) := by
    unfold State.readOwn
    simp only [b.bankOn, State.peek_bits _ b.scan b.space b.word, hk.bitWord]
    exact if_neg b.clean
  refine ⟨_, hk, fun lane cont => ?_⟩
  unfold coreBits
  simp only [b.allowed, hread]
  rfl

/-- A store of a core to a word of the bit store that bus masters may write (R146). -/
theorem BitAccess.stores {s : State} {die n cause sp w : Nat} (b : BitAccess s die n cause sp w) (hsp : sp ∈ [1, 2, 5])
    (hready : s.on die Reg.PLAT_STAT_READY = false) (v : Nat) (cont : State → CoreOut) :
    coreBitsStore s die n sp w v cont = cont (s.store (phys die (bitOwn sp w)) 8 v) := by
  obtain ⟨hlow, -, hspace, -⟩ := bitOwn_place b.space b.word
  have hplat (x : Who) : s.platRefuses x die (bitOwn sp w) = false := by
    unfold State.platRefuses
    rw [decide_eq_false (show ¬ bitOwn sp w < 0x700000 by omega)]
    simp only [Bool.and_false, Bool.false_and]
  have hafter (x : Who) : s.afterReady x die (bitOwn sp w) = false := by
    rw [State.afterReady, hready, Bool.and_false, Bool.false_and]
  have hallows (x : Who) : State.bitStoreAllows x die (bitOwn sp w) = some true := by
    unfold State.bitStoreAllows
    rw [hspace]
    fin_cases hsp <;> rfl
  have hwrite : s.writeOwn (coreWho s die n) die (bitOwn sp w) 8 v = (s.store (phys die (bitOwn sp w)) 8 v, .ok 0) := by
    unfold State.writeOwn
    rw [if_neg (by rw [b.bankOn]; decide), if_neg (by rw [hplat]; decide), if_neg (by rw [hafter]; decide),
      if_pos (by rw [b.scan, decide_eq_true hlow]; rfl), hallows]
  rw [coreBitsStore, hwrite]

/-- A stored word of the bit store reads back. -/
theorem bitWord_store {s : State} (h : s.Sane) (die : Nat) {sp w : Nat} (hsp : sp ∈ [1, 2, 5]) (v : Nat) :
    bitWord (s.store (phys die (bitOwn sp w)) 8 v) die sp w = BitVec.ofNat 64 v := by
  obtain ⟨h4, h6, h7⟩ : sp ≠ 4 ∧ sp ≠ 6 ∧ sp ≠ 7 := by fin_cases hsp <;> decide
  simp only [bitWord, h4, h6, h7, false_and, if_false]
  rw [show bitAddr die sp w = phys die (bitOwn sp w) from rfl, State.load_store_same h]
  exact BitVec.eq_of_toNat_eq (by simp)

/-! ### Instructions that write the bit store (R93, R150) -/

/-- An instruction that writes the bit store takes its cycles, or one more beside a row of the Signal Box. -/
theorem coreCollide_cost (s : State) (die k : Nat) (op : CoreOp) :
    (coreCollide s die k op).2 ≤ if s.rowRunning die 0 then k + 1 else k := by
  unfold coreCollide
  cases hrow : s.rowRunning die 0
  · rw [Bool.and_false]
    exact Nat.le_refl k
  · dsimp only
    rw [apply_ite Prod.snd, apply_ite Prod.snd, if_pos rfl]
    split
    · split <;> omega
    · omega

/-- A read-modify-write of the bit store that retires: its core, and the word that it stored. -/
theorem State.fetches.completes_bitWrite {s t u : State} {die n word j sp w v : Nat} {op : CoreOp} {cmd : Instr}
    {upd : Core → Core} {P : Core → Prop} (hf : s.fetches die n t word op) (h : s.Sane) (hs : SMap.sorted s.cores = true)
    (hcmd : exec cmd s = .next (coreInstr op.row die n s)) (hu : ReadKeeps t u) (hsp : sp ∈ [1, 2, 5])
    (hout : coreExec t die n word op = .done (u.store (phys die (bitOwn sp w)) 8 v) (some j) upd)
    (hfit : s.coreFits die n (if s.rowRunning die 0 then j + 1 else j) = true)
    (hP : ∀ clock, P ((s.core die n).retired clock upd)) (hend : (op == .slotend) = false := by rfl) :
    Completes cmd s fun z => P (z.core die n) ∧ bitWord z die sp w = BitVec.ofNat 64 v := by
  have hsu := (hf.keeps h).trans hu
  let a := u.store (phys die (bitOwn sp w)) 8 v
  let y := coreCollide a die j op
  have ha : Moves 0x80000000028 u a := (State.store_moves ..).sub
  have hy : Moves 0x4000000080000000014 a y.1 := coreCollide_moves ..
  have hrow : a.rowRunning die 0 = s.rowRunning die 0 :=
    (State.rowRunning_congr (ha.part .slots) die 0).trans (hsu.rowRunning die 0)
  have hcost : y.2 ≤ if s.rowRunning die 0 then j + 1 else j := hrow ▸ coreCollide_cost a die j op
  have hcores : y.1.cores = s.cores := (hy.part .cores).trans ((ha.part .cores).trans hsu.cores)
  have hsp4 : sp ≠ 4 := by fin_cases hsp <;> decide
  refine ⟨coreRetire y.1 die n y.2 false upd, ?_, ?_, ?_⟩
  · rw [hcmd, hf.coreInstr_eq hout, if_pos (State.coreFits_mono hfit hcost), hend]
  · rw [coreRetire_core (by rwa [hcores]), State.core_congr hcores]
    exact hP _
  · rw [bitWord_congr_mem (((coreRetire_register_moves ..).part .mem).trans (hy.part .mem)) die hsp4,
      bitWord_store (hsu.sane h) die hsp]

/-! ### Entries that a master sends (R162, R331) -/

theorem State.credits_setCredits {s : State} (h : s.Sane) (src die q n : Nat) :
    (s.setCredits src die q n).credits src die q = n % 2 ^ 11 := State.rd_wr_same h ..

section
variable {s : State} {who : Nat} (hfree : (isScan (whoDie who) && s.fenced (whoDie who)) = false)
include hfree

/-- A master of no fenced die sends its entry against a credit. -/
theorem State.putEntry_sends (h : s.Sane) {die q : Nat} (hst : s.putStatus (whoDie who) die q = 0) (tag lo : Nat) :
    (s.putEntry who die q tag lo).2 = 0 ∧
    (s.putEntry who die q tag lo).1.flights = s.flights ++ [⟨die, q, lo % 2 ^ 32, entryHi who tag, false⟩] ∧
    (s.putEntry who die q tag lo).1.credits (whoDie who) die q = (s.credits (whoDie who) die q - 1) % 2 ^ 11 := by
  unfold State.putEntry
  rw [if_neg (by rw [hfree]; decide), if_pos hst]
  exact ⟨rfl, rfl, (State.rd_congr rfl ..).trans (State.credits_setCredits h ..)⟩

/-- Without a credit, or to a die that takes none, nothing is sent. -/
theorem State.putEntry_refuses {die q : Nat} (hst : s.putStatus (whoDie who) die q ≠ 0) (tag lo : Nat) :
    s.putEntry who die q tag lo = (s, s.putStatus (whoDie who) die q) := by
  unfold State.putEntry
  rw [if_neg (by rw [hfree]; decide)]
  exact if_neg hst

end

section
variable {s t : State} {die n word : Nat} (h : s.Sane) (hs : SMap.sorted s.cores = true)
  (hx : SMap.sorted (s.core die n).x = true)
include h hs

theorem bdep_acts {rs1 rs2 imm sp w lane : Nat} (hf : s.fetches die n t word (.bdep rs1 rs2 imm))
    (hfit : s.coreFits die n (if s.rowRunning die 0 then 2 else 1) = true)
    (href : refOf ((s.core die n).getX rs1) imm = some (sp, w, lane)) (b : BitAccess s die n 7 sp w) (hsp : sp ∈ [1, 2, 5])
    (hready : s.on die Reg.PLAT_STAT_READY = false) :
    Completes (.bdep die n) s fun z => bitWord z die sp w =
        BitVec.ofNat 64 (setBit (bitWord s die sp w).toNat lane (bit ((s.core die n).getX rs2) 0)) ∧
      (z.core die n).pc = ((s.core die n).pc + 4) % 2 ^ 32 := by
  have hk := hf.keeps h
  obtain ⟨u, hu, hread⟩ := (hk.bitAccess b).reads (hk.sane h)
  have hsu := hk.trans hu
  rw [hk.bitWord] at hread
  have hstore := (hsu.bitAccess b).stores hsp ((hsu.on h die Reg.PLAT_STAT_READY).trans hready)
  have hout : coreExec t die n word (.bdep rs1 rs2 imm) = .done (u.store (phys die (bitOwn sp w)) 8
      (setBit (bitWord s die sp w).toNat lane (bit ((s.core die n).getX rs2) 0))) (some 1) Core.seq := by
    rw [← hk.core] at href ⊢
    show coreBits t die n 7 (refOf ((t.core die n).getX rs1) imm) _ = _
    rw [href, hread, hstore]
  obtain ⟨z, hz, hpc, hbit⟩ := hf.completes_bitWrite (cmd := .bdep die n)
    (P := fun c => c.pc = ((s.core die n).pc + 4) % 2 ^ 32) h hs rfl hu hsp hout hfit fun _ => rfl
  exact ⟨z, hz, hbit, hpc⟩

include hx

theorem bmask_acts {clear : Bool} {rd rs1 rs2 sp w lane : Nat} (hf : s.fetches die n t word (.bmask clear rd rs1 rs2))
    (hfit : s.coreFits die n (if s.rowRunning die 0 then 3 else 2) = true)
    (href : refOf ((s.core die n).getX rs1) 0 = some (sp, w, lane)) (hlane : lane % 32 = 0) (b : BitAccess s die n 7 sp w)
    (hsp : sp ∈ [1, 2, 5]) (hready : s.on die Reg.PLAT_STAT_READY = false) :
    let old := field (bitWord s die sp w).toNat lane 32
    let x2 := (s.core die n).getX rs2
    Completes (if clear then .bclrm die n else .bsetm die n) s fun z =>
      ((z.core die n).getX rd = if rd = 0 then 0 else old % 2 ^ 32) ∧ (z.core die n).pc = ((s.core die n).pc + 4) % 2 ^ 32 ∧
      bitWord z die sp w = BitVec.ofNat 64
        (setField (bitWord s die sp w).toNat lane 32 (if clear then minus 32 old x2 else old ||| x2)) := by
  intro old x2
  have hk := hf.keeps h
  obtain ⟨u, hu, hread⟩ := (hk.bitAccess b).reads (hk.sane h)
  have hsu := hk.trans hu
  rw [hk.bitWord] at hread
  have hstore := (hsu.bitAccess b).stores hsp ((hsu.on h die Reg.PLAT_STAT_READY).trans hready)
  have hout : coreExec t die n word (.bmask clear rd rs1 rs2) = .done (u.store (phys die (bitOwn sp w)) 8
      (setField (bitWord s die sp w).toNat lane 32 (if clear then minus 32 old x2 else old ||| x2))) (some 2)
      (writesX rd old 0 false) := by
    unfold coreExec x2
    rw [← hk.core] at href ⊢
    simp only [href]
    rw [if_neg (not_not_intro hlane), hread, hstore]
    rfl
  obtain ⟨z, hz, ⟨hreg, hpc⟩, hbit⟩ := hf.completes_bitWrite (cmd := if clear then .bclrm die n else .bsetm die n)
    (P := fun c => (c.getX rd = if rd = 0 then 0 else old % 2 ^ 32) ∧ c.pc = ((s.core die n).pc + 4) % 2 ^ 32) h hs
    (by cases clear <;> rfl) hu hsp hout hfit fun clock => ⟨Core.retired_writesX hx clock rd old 0 false, writesX_pc ..⟩
  exact ⟨z, hz, hreg, hpc, hbit⟩

/-! ### Instructions that read the bit store -/

theorem bext_acts {rd rs1 imm sp w lane : Nat} (hf : s.fetches die n t word (.bext rd rs1 imm))
    (hfit : s.coreFits die n 2 = true) (href : refOf ((s.core die n).getX rs1) imm = some (sp, w, lane))
    (b : BitAccess s die n 5 sp w) :
    let v := ofBool (bit (bitWord s die sp w).toNat lane)
    Completes (.bext die n) s fun z => ((z.core die n).getX rd = if rd = 0 then 0 else v % 2 ^ 32) ∧
      (z.core die n).pc = ((s.core die n).pc + 4) % 2 ^ 32 ∧ z.mem = s.mem := by
  intro v
  have hk := hf.keeps h
  obtain ⟨u, hu, hread⟩ := (hk.bitAccess b).reads (hk.sane h)
  rw [hk.bitWord] at hread
  have hout : coreExec t die n word (.bext rd rs1 imm) = .done u (some 2) (writesX rd v 0 false) := by
    rw [← hk.core] at href
    show coreBits t die n 5 (refOf ((t.core die n).getX rs1) imm) _ = _
    rw [href, hread]
    rfl
  rw [← hk.mem]
  exact hf.completes_register (P := fun c => c.getX rd = if rd = 0 then 0 else v % 2 ^ 32) h hs rfl hu hout hfit
    (writesX_pc _ _ _ _) fun clock => Core.retired_writesX hx clock rd v 0 false

theorem bedge_acts {op : EdgeOp} {cmd : Instr} {rd rs1 w lane : Nat} (hf : s.fetches die n t word (.bedge op rd rs1 0))
    (hcmd : exec cmd s = .next (coreInstr (CoreOp.bedge op rd rs1 0).row die n s)) (hfit : s.coreFits die n 2 = true)
    (href : refOf ((s.core die n).getX rs1) 0 = some (0, w, lane)) (b : BitAccess s die n 5 0 w) (b3 : BitAccess s die n 5 3 w) :
    let v := ofBool (edgeResult op (bit (bitWord s die 0 w).toNat lane) (bit (bitWord s die 3 w).toNat lane))
    Completes cmd s fun z => ((z.core die n).getX rd = if rd = 0 then 0 else v % 2 ^ 32) ∧
      (z.core die n).pc = ((s.core die n).pc + 4) % 2 ^ 32 ∧ z.mem = t.mem := by
  intro v
  have hk := hf.keeps h
  obtain ⟨u, hu, hread⟩ := (hk.bitAccess b).reads (hk.sane h)
  have hsu := hk.trans hu
  obtain ⟨y, hy, hread3⟩ := (hsu.bitAccess b3).reads (hsu.sane h)
  rw [hk.bitWord] at hread
  rw [hsu.bitWord] at hread3
  have hout : coreExec t die n word (.bedge op rd rs1 0) = .done y (some 2) (writesX rd v 0 false) := by
    rw [← hk.core] at href
    show coreBits t die n 5 (refOf ((t.core die n).getX rs1) 0) _ = _
    rw [href, hread]
    simp only [if_true, ne_eq, not_true_eq_false, if_false, hread3]
    rfl
  exact hf.completes_register (P := fun c => c.getX rd = if rd = 0 then 0 else v % 2 ^ 32) h hs hcmd (hu.trans hy) hout hfit
    (writesX_pc _ _ _ _) fun clock => Core.retired_writesX hx clock rd v 0 false

/-! ### Queues (R162) -/

theorem qput_acts {rd rs1 rs2 : Nat} (hf : s.fetches die n t word (.qput rd rs1 rs2)) (hfit : s.coreFits die n 2 = true)
    (hm : (s.core die n).mmode = true) (hzero : field ((s.core die n).getX rs1) 7 9 = 0)
    (hname : field ((s.core die n).getX rs1) 4 3 ≠ 1)
    (hfence : (isScan (whoDie (die * 32 + n)) && t.fenced (whoDie (die * 32 + n))) = false)
    (hst : t.putStatus (whoDie (die * 32 + n)) (t.destDie (die * 32 + n) (field ((s.core die n).getX rs1) 4 3))
      ((s.core die n).getX rs1 % 16) = 0) :
    Completes (.qput die n) s fun z => ((z.core die n).getX rd = if rd = 0 then 0 else 0 % 2 ^ 32) ∧
      (z.core die n).pc = ((s.core die n).pc + 4) % 2 ^ 32 ∧
      z.flights = s.flights ++ [⟨t.destDie (die * 32 + n) (field ((s.core die n).getX rs1) 4 3),
        (s.core die n).getX rs1 % 16, (s.core die n).getX rs2 % 2 ^ 32,
        entryHi (die * 32 + n) (field ((s.core die n).getX rs1) 16 16), false⟩] := by
  have hk := hf.keeps h
  let x1 := (s.core die n).getX rs1
  let dest := t.destDie (die * 32 + n) (field x1 4 3)
  let r := t.putEntry (die * 32 + n) dest (x1 % 16) (field x1 16 16) ((s.core die n).getX rs2)
  obtain ⟨hcode, hflights, -⟩ := State.putEntry_sends hfence (hk.sane h) hst (field x1 16 16) ((s.core die n).getX rs2)
  have hcores : r.1.cores = s.cores := ((State.putEntry_moves ..).part .cores).trans hk.cores
  have hout : coreExec t die n word (.qput rd rs1 rs2) = .done r.1 (some 2) (writesX rd r.2 0 false) := by
    unfold coreExec r dest x1
    simp only [hk.core, hm, hzero, hname, ne_eq, not_true_eq_false, or_self, if_false, Bool.not_true, Bool.false_and,
      Bool.false_eq_true]
    rfl
  refine hf.completes_moves rfl hout hfit (Nat.le_refl 2) (by rwa [hcores]) fun clock z hcore hz => ?_
  rw [hcore, State.core_congr hcores, show r.2 = 0 from hcode]
  refine ⟨Core.retired_writesX hx clock rd 0 0 false, writesX_pc .., ?_⟩
  rw [show z.flights = r.1.flights from hz.part .flights, show r.1.flights = _ from hflights, hk.flights]

theorem qget_acts {rd rs1 : Nat} {e : QEntry} {rest : List QEntry} (hq : SMap.sorted s.queues = true)
    (hf : s.fetches die n t word (.qget rd rs1)) (hfit : s.coreFits die n 2 = true) (hm : (s.core die n).mmode = true)
    (hring : t.ring die ((s.core die n).getX rs1 % 16) = e :: rest) :
    Completes (.qget die n) s fun z => ((z.core die n).getX rd = if rd = 0 then 0 else e.lo % 2 ^ 32) ∧
      (z.core die n).pc = ((s.core die n).pc + 4) % 2 ^ 32 ∧ (z.core die n).yqtag = e.hi ∧
      z.ring die ((s.core die n).getX rs1 % 16) = rest := by
  have hk := hf.keeps h
  let q := (s.core die n).getX rs1 % 16
  let u : State := { t.setRing die q rest with
    creditsDue := t.creditsDue ++ [⟨entrySource e.hi, die, q⟩], dirty := t.markSlot die q e.slot }
  have hpop : t.popQueue die q = (u, some e) := by
    unfold State.popQueue
    rw [hring]
  have hcores : u.cores = s.cores := hk.cores
  have hout : coreExec t die n word (.qget rd rs1) = .done u (some 2) fun c => ({ c with yqtag := e.hi }.setX rd e.lo).seq := by
    unfold coreExec
    simp only [hk.core, hm, Bool.not_true, Bool.false_and, Bool.false_eq_true, if_false]
    rw [show field ((s.core die n).getX rs1) 0 4 = q from rfl, hpop]
    rfl
  refine hf.completes_moves rfl hout hfit (Nat.le_refl 2) (by rwa [hcores]) fun clock z hcore hz => ?_
  rw [hcore, State.core_congr hcores]
  refine ⟨?_, by simp, by simp, ?_⟩
  · exact Core.getX_setX_same (c := { s.core die n with clock := clock, yqtag := e.hi }) hx ..
  · rw [State.ring, show z.queues = u.queues from hz.part .queues]
    exact SMap.get_put_same _ _ (hk.queues hq)

/-! ### Tokens (R163) -/

omit h hs hx in
/-- A Token instruction outside a slot takes a free number of cycles and retires (R148). -/
theorem State.fetches.completes_open {u : State} {op : CoreOp} {cmd : Instr} {upd : Core → Core} {P : State → Prop}
    (hf : s.fetches die n t word op) (hcmd : exec cmd s = .next (coreInstr op.row die n s))
    (hout : coreExec t die n word op = .done u none upd) (hbg : s.coreInSlot die n = false) (hsort : SMap.sorted u.cores = true)
    (hP : ∀ clock z, z.core die n = (u.core die n).retired clock upd → Moves 0x200000080000022014 u z → P z) :
    Completes cmd s P := by
  let least := State.traversal (junctionTarget s die n op)
  let k := least + Config.freeValue u.freeCtr % (2049 - least)
  let y := u.drawFree.2.noteLatency (die * 32 + n) k
  have hy : Moves 0x200000080000000014 u y := (State.drawFree_moves u).sub.step (State.noteLatency_moves ..)
  have hinstr : coreInstr op.row die n s = coreRetire y die n k false upd := by
    unfold coreInstr
    rw [hf.coreOut_eq, hout, if_pos hf.1]
    dsimp only
    rw [if_pos rfl]
    exact if_pos (State.coreFits_background hbg k)
  have hcores : y.cores = u.cores := hy.part .cores
  refine ⟨_, hcmd.trans (congrArg _ hinstr), hP (y.coreClock die n + k) _ ?_ (hy.sub.step (coreRetire_register_moves ..))⟩
  rw [coreRetire_core (by rwa [hcores]), State.core_congr hcores]

omit h hs hx in
/-- An instruction that writes an integer register and sets no sticky bit. -/
theorem writesX_plain (rd v : Nat) : writesX rd v 0 false = fun c => (c.setX rd v).seq := rfl

omit h hs hx in
theorem coreExec_tokenAcq {rd rs1 : Nat} (hk : ReadKeeps s t) (hm : (s.core die n).mmode = true)
    (hk64 : (s.core die n).getX rs1 < 64) (hfence : s.fenced die = false) :
    coreExec t die n word (.tokenAcq rd rs1) = .done (t.acquireToken (die * 32 + n) ((s.core die n).getX rs1)).1 none
      fun c => (c.setX rd (t.acquireToken (die * 32 + n) ((s.core die n).getX rs1)).2).seq := by
  unfold coreExec
  rw [hk.core]
  dsimp only
  rw [if_neg (by rw [hm]; exact Bool.false_ne_true), if_neg (by rw [Nat.div_eq_of_lt hk64]; decide),
    if_neg (by rw [hk.fenced, hfence]; decide)]

omit h hs hx in
theorem coreExec_tokenRel {rd rs1 : Nat} (hk : ReadKeeps s t) (hm : (s.core die n).mmode = true)
    (hk64 : (s.core die n).getX rs1 < 64) (hfence : s.fenced die = false) :
    coreExec t die n word (.tokenRel rd rs1) = .done (t.releaseToken (die * 32 + n) ((s.core die n).getX rs1)).1 none
      fun c => (c.setX rd (t.releaseToken (die * 32 + n) ((s.core die n).getX rs1)).2).seq := by
  unfold coreExec
  rw [hk.core]
  dsimp only
  rw [if_neg (by rw [hm]; exact Bool.false_ne_true), if_neg (by rw [Nat.div_eq_of_lt hk64]; decide),
    if_neg (by rw [hk.fenced, hfence]; decide)]

theorem tokenAcq_acts {rd rs1 : Nat} (hf : s.fetches die n t word (.tokenAcq rd rs1)) (hbg : s.coreInSlot die n = false)
    (hm : (s.core die n).mmode = true) (hk64 : (s.core die n).getX rs1 < 64) (hfence : s.fenced die = false)
    (hfree : s.tokenHeld ((s.core die n).getX rs1) = false) :
    Completes (.tokenAcq die n) s fun z => ((z.core die n).getX rd = if rd = 0 then 0 else
        (if s.tokenBroken ((s.core die n).getX rs1) then 1 else 0) % 2 ^ 32) ∧
      (z.core die n).pc = ((s.core die n).pc + 4) % 2 ^ 32 ∧ z.tokenHeld ((s.core die n).getX rs1) = true ∧
      z.tokenOwner ((s.core die n).getX rs1) = (die * 32 + n) % 256 := by
  have hk := hf.keeps h
  have hshow := (TokenShows.of h ((s.core die n).getX rs1)).moves hk.moves
  obtain ⟨hgrant, hcode⟩ := State.acquireToken_free hshow.sane hk64 (die * 32 + n) (hshow.held.trans hfree)
  rw [hshow.broken] at hcode
  have hcores := ((State.acquireToken_moves t (die * 32 + n) ((s.core die n).getX rs1)).part .cores).trans hk.cores
  have hout := coreExec_tokenAcq (word := word) (rd := rd) hk hm hk64 hfence
  rw [hcode, ← writesX_plain] at hout
  refine hf.completes_open rfl hout hbg (by rwa [hcores]) fun clock z hcore hz => ?_
  have hfinal := hgrant.moves hz
  rw [hcore, State.core_congr hcores]
  exact ⟨Core.retired_writesX hx clock rd _ 0 false, writesX_pc .., hfinal.held, hfinal.owner⟩

theorem tokenRel_acts {rd rs1 : Nat} (hf : s.fetches die n t word (.tokenRel rd rs1)) (hbg : s.coreInSlot die n = false)
    (hm : (s.core die n).mmode = true) (hk64 : (s.core die n).getX rs1 < 64) (hfence : s.fenced die = false)
    (hheld : s.tokenHeld ((s.core die n).getX rs1) = true) (howner : s.tokenOwner ((s.core die n).getX rs1) = die * 32 + n) :
    Completes (.tokenRel die n) s fun z => ((z.core die n).getX rd = if rd = 0 then 0 else 0 % 2 ^ 32) ∧
      (z.core die n).pc = ((s.core die n).pc + 4) % 2 ^ 32 ∧ z.tokenHeld ((s.core die n).getX rs1) = false := by
  have hk := hf.keeps h
  have hshow := (TokenShows.of h ((s.core die n).getX rs1)).moves hk.moves
  obtain ⟨hback, hcode⟩ := State.releaseToken_owner hshow.sane hk64 (hshow.held.trans hheld)
  rw [hshow.owner, howner] at hback hcode
  have hcores := ((State.releaseToken_moves t (die * 32 + n) ((s.core die n).getX rs1)).part .cores).trans hk.cores
  have hout := coreExec_tokenRel (word := word) (rd := rd) hk hm hk64 hfence
  rw [hcode, ← writesX_plain] at hout
  refine hf.completes_open rfl hout hbg (by rwa [hcores]) fun clock z hcore hz => ?_
  rw [hcore, State.core_congr hcores]
  exact ⟨Core.retired_writesX hx clock rd 0 0 false, writesX_pc .., (hback.moves hz).held⟩

end

/-- Settles O31: the bit-store instructions, the queue instructions and the Token instructions in turn. -/
theorem coreBitQueueAndTokenInstructionsAct : Obligations.CoreBitQueueAndTokenInstructionsAct := by
  intro s die n h hs hx hq c x isX next reads v
  have access {t : State} {word cause sp w lane base off : Nat} {op : CoreOp} (hf : s.fetches die n t word op)
      (href : refOf base off = some (sp, w, lane)) (hr : reads cause sp w) : BitAccess s die n cause sp w := by
    obtain ⟨hpmp, hon, hecc⟩ := hr
    obtain ⟨hsp, hw⟩ := refOf_bounds href
    exact ⟨hf.place.1, hsp, hw, hpmp, hon, hecc⟩
  refine ⟨fun t word rd rs1 imm sp w lane hf hfit href hr => bext_acts h hs hx hf hfit href (access hf href hr),
    fun t word rs1 rs2 imm sp w lane hf hfit href hr hsp hready =>
      bdep_acts h hs hf hfit href (access hf href hr) hsp hready,
    fun clear t word rd rs1 rs2 sp w lane hf hfit href hlane hr hsp hready =>
      bmask_acts h hs hx hf hfit href hlane (access hf href hr) hsp hready,
    fun op t word rd rs1 w lane hf hfit href hr hr3 => ?_,
    fun t word rd rs1 rs2 hf hfit hm hzero hname hfence hst => qput_acts h hs hx hf hfit hm hzero hname hfence hst,
    fun t word rd rs1 e rest hf hfit hm hring => qget_acts h hs hx hq hf hfit hm hring,
    fun t word rd rs1 hf hbg hm hk hfence hfree => tokenAcq_acts h hs hx hf hbg hm hk hfence hfree,
    fun t word rd rs1 hf hbg hm hk hfence hheld howner => tokenRel_acts h hs hx hf hbg hm hk hfence hheld howner⟩
  have b := access hf href hr
  obtain ⟨hpmp, hon, hecc⟩ := hr3
  have b3 : BitAccess s die n 5 3 w := ⟨b.scan, by decide, b.word, hpmp, hon, hecc⟩
  cases op <;> exact (bedge_acts h hs hx hf rfl hfit href b b3).imp fun z ⟨hz, hreg, hpc, _⟩ => ⟨hz, hreg, hpc⟩

end Sys2Proof.Machine
end

section
/-! SUPPORT.  Traps, interrupts, the start of a core, its soft interrupts and router, and the debug module's halts (R144, R152, R155,
R165, R166, R168, R169). -/

open Sys2Proof Sys2Proof.Machine Sys2Proof.Bits
namespace Sys2Proof.Machine
set_option Elab.async false

/-! ### Traps and interrupts -/

theorem trapEntry_acts {s t : State} {die n cause tval : Nat} {o : Option CoreOp} (hrun : coreRuns s die n = true)
    (hout : coreOut s die n = (o, .trap t cause tval)) (hfit : s.coreFits die n 12 = true) :
    Completes (.trapEntry die n) s fun z => z.core die n =
      (t.core die n).trapped (t.coreClock die n + 12) cause tval (s.core die n).pc (s.core die n).mmode := by
  refine ⟨t.enterTrap die n cause tval (s.core die n).pc (s.core die n).mmode, ?_, State.enterTrap_core ..⟩
  show execTrapEntry die n s = _
  rw [execTrapEntry, if_pos hrun, hout]
  exact congrArg _ (if_pos hfit)

theorem interruptTaken_acts {s : State} {die n : Nat} (hn : n < 4) (hd : isScan die = true) (hp : s.powered die = true)
    (hheld : s.coreHeld die n = false) (hhalt : (s.core die n).halted = false) (hstill : s.coreStill die n = false)
    (htakes : s.coreTakes die n = true) (hbest : (s.routerBest die n).isSome = true) (hthr : s.coreThreshold die n < 8)
    (hfit : s.coreFits die n 12 = true) :
    Completes (.interruptTaken die n) s fun z => z.core die n =
      (s.core die n).trapped (s.coreClock die n + 12) 0x8000000B 0
        (if (s.core die n).idle then (s.core die n).idlePc else (s.core die n).pc)
        (if (s.core die n).idle then (s.core die n).idleM else (s.core die n).mmode) := by
  refine ⟨_, ?_, State.enterTrap_core ..⟩
  show execInterruptTaken die n s = _
  rw [execInterruptTaken, hd, hp, hheld, hhalt, hstill, htakes, hbest, hfit, decide_eq_true hn, decide_eq_true hthr]
  rfl

/-! ### The start of a core (R144) -/

/-- The control register of a core holds its field HOLD and is seen without a window. -/
theorem coreCtl_register : ∀ d ∈ scanDies, ∀ n < 4, unwindowed d (0x0E + n) 0x100 = true ∧
    Reg.COREn_CTL_HOLD.p n ∈ regFields d (0x0E + n) 0x100 := by decide +kernel

theorem coreStart_acts {s : State} {w : Who} {die n word : Nat} (h : s.Sane) (hs : SMap.sorted s.cores = true) (hn : n < 4)
    (hd : isScan die = true) (ht : s.takes w die (0x0E + n) = true)
    (hf : s.fits w die (0x0E + n) 0x100 (word / 2 * 2) = true) (hheld : s.coreHeld die n = true) :
    Completes (.coreStart w die n word) s fun z => z.coreHeld die n = false ∧
      (z.core die n).pc = s.rd die (Reg.COREn_BOOT_ADDR.p n) ∧ (z.core die n).mmode = true ∧ (z.core die n).x = [] := by
  obtain ⟨hwin, hmem⟩ := coreCtl_register die (mem_scanDies hd) n hn
  let u := written s w die (0x0E + n) 0x100 (word / 2 * 2)
  let c : Core := { Core.start with
    cycleOff := (u.core die n).cycleOff, instret := (u.core die n).instret, clock := max u.cycle (u.core die n).clock
    pc := u.rd die (Reg.COREn_BOOT_ADDR.p n) }
  have hcores : u.cores = s.cores := written_changes s w die (0x0E + n) 0x100 (word / 2 * 2) .cores rfl
  have hfree : u.coreHeld die n = false := by
    have hget : u.rd die (Reg.COREn_CTL_HOLD.p n) = (word / 2 * 2) >>> 0 % 2 ^ 1 := written_get h w hwin hmem rfl
    rw [State.coreHeld, State.on, hget, Nat.shiftRight_zero]
    exact beq_false_of_ne (by omega)
  have hboot : u.rd die (Reg.COREn_BOOT_ADDR.p n) = s.rd die (Reg.COREn_BOOT_ADDR.p n) :=
    written_rd h w die (.inr (show 0x104 % 4096 ≠ 0x100 % 4096 by decide))
  have hexec : exec (.coreStart w die n word) s = .next (u.setCore die n c) := by
    show execCoreStart w die n word s = _
    rw [execCoreStart, if_pos (by rw [hd, decide_eq_true hn]; rfl), writeWith_fits ht hf (by omega)]
    unfold State.coreCtl
    rw [hheld, hfree]
  refine ⟨_, hexec, hfree, ?_⟩
  rw [State.core_setCore (by rwa [hcores])]
  exact ⟨hboot, rfl, rfl⟩

/-! ### Soft interrupts and the router (R165, R166) -/

theorem bit_or_self (m k : Nat) : bit (m ||| 1 <<< k) k = true := by
  rw [bit_eq_testBit, Nat.testBit_or, Nat.one_shiftLeft, Nat.testBit_two_pow_self, Bool.or_true]

/-- An edge of a source is latched in every core of the die. -/
theorem State.routerEdge_latches {s : State} (h : SMap.sorted s.latches = true) (die src : Nat) {m : Nat} (hm : m < 4) :
    bit (SMap.get 0 (s.routerEdge die src).latches (die * 4 + m)) src = true := by
  have hall : SMap.sorted (s.routerEdge die src).latches = true ∧
      bit (SMap.get 0 (s.routerEdge die src).latches (die * 4 + m)) src = true := by
    refine foldl_reaches (P := fun t : State => SMap.sorted t.latches = true) (a := m)
      (Q := fun t : State => SMap.sorted t.latches = true ∧ bit (SMap.get 0 t.latches (die * 4 + m)) src = true)
      (List.mem_range.mpr hm) List.nodup_range (fun t e _ _ ht => SMap.sorted_put _ _ _ ht) (fun t ht => ?_)
      (fun t e _ hne ht => ?_) h
    · refine ⟨SMap.sorted_put _ _ _ ht, ?_⟩
      rw [SMap.get_put_same _ _ ht]
      exact bit_or_self ..
    · obtain ⟨hsort, hbit⟩ := ht
      refine ⟨SMap.sorted_put _ _ _ hsort, ?_⟩
      rw [SMap.get_put_ne _ hsort (by omega)]
      exact hbit
  exact hall.2

theorem softRegister : ∀ d ∈ scanDies, ∀ n < 4, plainRegister d (0x0E + n) 0x114 1 = true := by decide +kernel

theorem softSet_acts {s : State} {w : Who} {die n : Nat} (hl : SMap.sorted s.latches = true) (hn : n < 4)
    (hd : isScan die = true) (ht : s.takes w die (0x0E + n) = true) :
    Completes (.softSet w die n 1) s fun z =>
      ∀ m, m < 4 → bit (SMap.get 0 z.latches (die * 4 + m)) (38 + n) = true := by
  let u := written s w die (0x0E + n) 0x114 1
  have hlatches : u.latches = s.latches := written_changes s w die (0x0E + n) 0x114 1 .latches rfl
  refine ⟨u.routerEdge die (38 + n), ?_, fun m hm => State.routerEdge_latches (by rwa [hlatches]) die (38 + n) hm⟩
  show execSoftSet w die n 1 s = _
  rw [execSoftSet, if_pos (by rw [hd, decide_eq_true hn]; rfl), writeThen_plain ht (softRegister die (mem_scanDies hd) n hn)]
  rfl

theorem routerClear_acts {s : State} {w : Who} {hi : Bool} {die n word : Nat} (hl : SMap.sorted s.latches = true) (hn : n < 4)
    (hd : isScan die = true) (ht : s.takes w die (0x0E + n) = true)
    (hf : s.fits w die (0x0E + n) (if hi then 0x144 else 0x140) word = true) :
    Completes (.routerClear w die n hi word) s fun z => SMap.get 0 z.latches (die * 4 + n) =
      minus 64 (SMap.get 0 s.latches (die * 4 + n)) ((word <<< (32 * ofBool hi)) &&& edgeSources) := by
  let u := written s w die (0x0E + n) (if hi then 0x144 else 0x140) word
  have hlatches : u.latches = s.latches := written_changes s w die (0x0E + n) _ word .latches rfl
  refine ⟨u.routerClr die n (ofBool hi) word, ?_, ?_⟩
  · show execRouterClear w die n hi word s = _
    rw [execRouterClear, if_pos (by rw [hd, decide_eq_true hn]; rfl), writeThen_fits ht hf]
  · rw [← hlatches]
    exact SMap.get_put_same _ _ (by rwa [hlatches])

/-! ### The debug module (R169) -/

theorem bit_minus_self {n k : Nat} (hk : k < n) (m : Nat) : bit (minus n m (1 <<< k)) k = false := by
  rw [bit_eq_testBit, minus, Nat.testBit_and, Nat.testBit_xor, Nat.testBit_two_pow_sub_one, Nat.testBit_mod_two_pow,
    Nat.one_shiftLeft, Nat.testBit_two_pow_self, decide_eq_true hk]
  exact Bool.and_false _

/-- The state in which the debug module has counted a halt. -/
def State.haltCounted (s : State) : State := ((s.debugActive).inc 0 Reg.DBG_HALTS_COUNT).irq 0 0x26 0

theorem State.haltCounted_moves (s : State) : Moves 0x40000000000000080000000010 s s.haltCounted :=
  ((State.debugActive_moves s).sub.step (State.inc_moves ..) (Moves.at 38 rfl)).step (State.irq_moves ..) (Moves.at 38 rfl)

section
variable {s : State} {hart : Nat} (h : s.Sane) (hs : SMap.sorted s.cores = true) (ha : s.hartAllowed hart = true)
include h hs ha

theorem debugHalt_acts (hh : s.hartHalted hart = false) :
    Completes (.debugHalt hart) s fun z => z.hartHalted hart = true := by
  have hexec : exec (.debugHalt hart) s = execDebugHalt hart s := rfl
  have hcount : s.haltCounted.Sane := s.haltCounted_moves.sane h
  have hcores : s.haltCounted.cores = s.cores := s.haltCounted_moves.part .cores
  rw [execDebugHalt, if_pos (by rw [ha, hh]; rfl)] at hexec
  refine ⟨_, hexec, ?_⟩
  beta_reduce
  by_cases hk : hart < 2
  · rw [if_pos hk, State.hartHalted, if_pos hk]
    show bit ((s.haltCounted.setBits 0 Reg.DBG_STAT_KEEPER_HALTED (1 <<< hart)).rd 0 Reg.DBG_STAT_KEEPER_HALTED) hart = true
    rw [State.setBits, State.rd_wr_same hcount, bit_eq_testBit, Nat.testBit_mod_two_pow, ← bit_eq_testBit, bit_or_self,
      decide_eq_true (show hart < Reg.DBG_STAT_KEEPER_HALTED.width from hk)]
    rfl
  · rw [if_neg hk, State.hartHalted, if_neg hk]
    let x := s.haltCounted.setCore (hart / 4) (hart % 4) { s.haltCounted.core (hart / 4) (hart % 4) with halted := true }
    have hkeep : ((x.inc (hart / 4) Reg.S_DBG_HALTS_COUNT).irq (hart / 4) 0x12 0).core (hart / 4) (hart % 4) =
        x.core (hart / 4) (hart % 4) :=
      State.core_congr (((State.irq_moves_any ..).part .cores).trans ((State.inc_moves_any ..).part .cores)) ..
    exact congrArg Core.halted (hkeep.trans (State.core_setCore (by rwa [hcores]) ..))

theorem debugResume_acts (hh : s.hartHalted hart = true) :
    Completes (.debugResume hart) s fun z => z.hartHalted hart = false := by
  have hexec : exec (.debugResume hart) s = execDebugResume hart s := rfl
  rw [execDebugResume, if_pos (by rw [ha, hh]; rfl)] at hexec
  refine ⟨_, hexec, ?_⟩
  beta_reduce
  by_cases hk : hart < 2
  · rw [if_pos hk, State.hartHalted, if_pos hk, State.clearBits, State.rd_wr_same h, bit_eq_testBit, Nat.testBit_mod_two_pow,
      ← bit_eq_testBit, bit_minus_self (show hart < Reg.DBG_STAT_KEEPER_HALTED.width from hk), Bool.and_false]
  · rw [if_neg hk, State.hartHalted, if_neg hk, State.core_setCore hs]

end

/-- Settles O32: traps and interrupts by the core that enters its handler, the other commands one by one. -/
theorem coreTrapsStartAndDebugAct : Obligations.CoreTrapsStartAndDebugAct := by
  refine fun s h hs hl => ⟨fun die n hn => ⟨fun o t cause tval hrun hout hfit => ?_,
    fun hd hp hheld hhalt hstill htakes hbest hthr hfit => ?_,
    fun w word hd ht hf hheld => coreStart_acts h hs hn hd ht hf hheld, fun w hd ht => softSet_acts hl hn hd ht,
    fun w hi word hd ht hf => routerClear_acts hl hn hd ht hf⟩,
    fun hart ha => ⟨fun hh => debugHalt_acts h hs ha hh, fun hh => debugResume_acts h hs ha hh⟩⟩
  · obtain ⟨z, hz, hcore⟩ := trapEntry_acts hrun hout hfit
    refine ⟨z, hz, ?_⟩
    simp only [hcore, Core.trapped, true_and]
    intro heven
    rw [if_neg (by omega)]
  · obtain ⟨z, hz, hcore⟩ := interruptTaken_acts hn hd hp hheld hhalt hstill htakes hbest hthr hfit
    refine ⟨z, hz, ?_⟩
    simp only [hcore, Core.trapped, true_and]

end Sys2Proof.Machine
end

section
/-! SUPPORT.  Fences of the Scan dies and the Tokens they break, the credits and rings of the queues, and the pages of both (R162,
R329, R331 to R334, R350, R351). -/

open Sys2Proof Sys2Proof.Machine Sys2Proof.Bits
namespace Sys2Proof.Machine
set_option Elab.async false

/-! ### Fences (R329) -/

theorem State.fenced_raiseFences {s : State} (h : s.Sane) {l : List Nat} (hl : ∀ d ∈ l, isScan d = true) (e : Nat) :
    (l.foldl State.raiseFence s).fenced e = (s.fenced e || l.contains e) := by
  induction l generalizing s with
  | nil => exact (Bool.or_false _).symm
  | cons d l ih =>
    rw [List.foldl_cons, ih ((State.raiseFence_moves ..).sane h) fun x hx => hl x (List.mem_cons_of_mem d hx),
      State.fenced_raiseFence h (hl d List.mem_cons_self), List.contains_cons, Bool.or_assoc]

theorem State.fenced_dropFence {s : State} (h : s.Sane) {d : Nat} (hd : isScan d = true) (e : Nat) :
    (s.setFence d false).fenced e = (s.fenced e && e != d) := by
  have hd' := isScan_iff.mp hd
  have hclear : (s.clearBits 0 Reg.FAB_STAT_FENCED (dieBit d)).Sane := (State.clearBits_moves ..).sane h
  have hown : ((s.clearBits 0 Reg.FAB_STAT_FENCED (dieBit d)).wr d Reg.FAB_STAT_FENCED (ofBool false)).Sane := hclear.wr ..
  rw [State.fenced, State.setFence, if_neg Bool.false_ne_true, State.irq_rd ((State.irq_moves ..).sane hown) (by decide),
    State.irq_rd hown (by decide),
    State.rd_wr_ne hclear _ (by unfold FieldDef.key; simp only [Reg.FAB_STAT_FENCED]; omega), State.inDies_clearBits h 0 rfl hd]
  rfl

theorem State.fenced_dropFences {s : State} (h : s.Sane) {l : List Nat} (hl : ∀ d ∈ l, isScan d = true) (e : Nat) :
    (l.foldl (fun s d => s.setFence d false) s).fenced e = (s.fenced e && !l.contains e) := by
  induction l generalizing s with
  | nil => exact (Bool.and_true _).symm
  | cons d l ih =>
    rw [List.foldl_cons, ih ((State.setFence_moves ..).sane h) fun x hx => hl x (List.mem_cons_of_mem d hx),
      State.fenced_dropFence h (hl d List.mem_cons_self), List.contains_cons, Bool.not_or, Bool.and_assoc]
    rfl

theorem contains_filter_scanDies {p : Nat → Bool} {d : Nat} (hd : d ∈ scanDies) : (scanDies.filter p).contains d = p d := by
  rw [Bool.eq_iff_iff, List.contains_iff_mem, List.mem_filter]
  exact and_iff_right hd

theorem filter_scanDies_scan (p : Nat → Bool) : ∀ d ∈ scanDies.filter p, isScan d = true :=
  fun _ hd => mem_scanDies_iff.mp (List.mem_of_mem_filter hd)

/-! ### Tokens of a fenced die (R351) -/

section
variable {s : State} {k o : Nat} {hd br : Bool} (h : TokenShows s k hd br o) (hk : k < 64)
include h hk

/-- The hardware returns Token `k` when it is held and its owner is lost. -/
theorem TokenShows.returnTokens (p : Nat → Bool) :
    TokenShows (s.returnTokens p) k (if hd && p o then false else hd) (if hd && p o then true else br) o := by
  unfold State.returnTokens
  refine foldl_reaches (P := fun t => TokenShows t k hd br o) (a := k)
    (Q := fun t => TokenShows t k (if hd && p o then false else hd) (if hd && p o then true else br) o)
    (List.mem_range.mpr hk) List.nodup_range
    (fun t e _ hne ht => ?_) (fun t ht => ?_) (fun t e _ hne ht => ?_) h
  · split
    · have hback := ht.returnToken hk e
      rwa [if_neg (Ne.symm hne), if_neg (Ne.symm hne)] at hback
    · exact ht
  · rw [ht.held, ht.owner]
    split
    · have hback := ht.returnToken hk k
      rwa [if_pos rfl, if_pos rfl] at hback
    · exact ht
  · split
    · have hback := ht.returnToken hk e
      rwa [if_neg (Ne.symm hne), if_neg (Ne.symm hne)] at hback
    · exact ht

/-- A fence breaks the Tokens held from its die, and no others. -/
theorem TokenShows.raiseFence {d : Nat} (hf : s.fenced d = false) : TokenShows (s.raiseFence d) k
    (if hd && whoDie o == d then false else hd) (if hd && whoDie o == d then true else br) o := by
  unfold State.raiseFence
  rw [if_neg (by rw [hf]; decide)]
  refine TokenShows.returnTokens ?_ hk _
  exact List.foldlRecOn (motive := fun t => TokenShows t k hd br o) _ _ (h.moves (State.setFence_moves ..)) fun _ ht _ _ =>
    ht.moves (State.fenceRequest_moves ..)

/-- The fence of another die leaves a Token; so does any fence one that is free. -/
theorem TokenShows.raiseFence_other {d : Nat} (hne : hd = false ∨ whoDie o ≠ d) : TokenShows (s.raiseFence d) k hd br o := by
  cases hf : s.fenced d
  · have hshow := h.raiseFence hk hf
    have hoff : (hd && whoDie o == d) = false := by
      obtain rfl | hdie := hne
      · rfl
      · rw [beq_false_of_ne hdie, Bool.and_false]
    rwa [hoff, if_neg Bool.false_ne_true, if_neg Bool.false_ne_true] at hshow
  · rw [State.raiseFence, if_pos hf]
    exact h

end

theorem TokenShows.raiseFences {s : State} {k o : Nat} {br : Bool} (h : TokenShows s k true br o) (hk : k < 64) {l : List Nat}
    (hl : ∀ d ∈ l, isScan d = true) (hn : l.Nodup) (ho : whoDie o ∈ l) (hf : s.fenced (whoDie o) = false) :
    TokenShows (l.foldl State.raiseFence s) k false true o := by
  refine foldl_reaches (P := fun t => TokenShows t k true br o ∧ t.fenced (whoDie o) = false)
    (Q := fun t => TokenShows t k false true o) ho hn (fun t d hd hne ht => ?_) (fun t ht => ?_) (fun t d _ _ ht => ?_) ⟨h, hf⟩
  · obtain ⟨hshow, hfree⟩ := ht
    refine ⟨hshow.raiseFence_other hk (.inr (Ne.symm hne)), ?_⟩
    rw [State.fenced_raiseFence hshow.sane (hl d hd), hfree, beq_false_of_ne (Ne.symm hne)]
    rfl
  · obtain ⟨hshow, hfree⟩ := ht
    have hbroken := hshow.raiseFence hk hfree
    rwa [beq_self_eq_true, Bool.and_self, if_pos rfl, if_pos rfl] at hbroken
  · exact ht.raiseFence_other hk (.inl rfl)

/-- A write to another register of a page leaves what the Tokens show. -/
theorem TokenShows.written {s : State} {k o : Nat} {hd br : Bool} (h : TokenShows s k hd br o) (w : Who)
    {die code off word : Nat} (hc : code % 64 ≠ 9 ∨ tokenOffsets.contains (off % 4096) = false) :
    TokenShows (written s w die code off word) k hd br o :=
  h.congr (written_sane h.sane ..) fun f hf => written_rd h.sane w die <|
    hc.imp (fun hc => by rw [(tokenFields_place hf).1]; exact Ne.symm hc) (tokenFields_off hf)

theorem fenceRegister : ∀ word < 64, plainRegister 0 0x05 0x104 word = true := by decide +kernel

section
variable {s : State} {w : Who} {word : Nat} (h : s.Sane) (ht : s.takes w 0 5 = true)
include h ht

theorem fabFence_acts (hw : word < 64) : Completes (.fabFence w word) s fun t =>
    (∀ d ∈ scanDies, t.fenced d = (s.fenced d || inDies word d)) ∧
    ∀ k, k < 64 → s.tokenHeld k = true → inDies word (whoDie (s.tokenOwner k)) = true →
      s.fenced (whoDie (s.tokenOwner k)) = false → t.tokenHeld k = false ∧ t.tokenBroken k = true := by
  let u := written s w 0 5 0x104 word
  have hu : u.Sane := written_sane h ..
  have hfence (d : Nat) : u.fenced d = s.fenced d := congrArg (inDies · d) (written_rd h w 0 (by decide))
  have hexec : exec (.fabFence w word) s = .next ((scanDies.filter (inDies word)).foldl State.raiseFence u) :=
    congrArg Host.Outcome.next (writeThen_plain ht (fenceRegister word hw))
  refine ⟨_, hexec, fun d hd => ?_, fun k hk hheld howner hfree => ?_⟩
  · rw [State.fenced_raiseFences hu (filter_scanDies_scan _), hfence, contains_filter_scanDies hd]
  · have hshow := (TokenShows.of h k).written w (die := 0) (code := 5) (off := 0x104) (word := word) (.inl (by decide))
    rw [hheld] at hshow
    have hbroken := hshow.raiseFences hk (filter_scanDies_scan (inDies word)) (scanDies_nodup.filter _)
      (List.mem_filter.mpr ⟨mem_scanDies (isScan_of_inDies howner), howner⟩) ((hfence _).trans hfree)
    exact ⟨hbroken.held, hbroken.broken⟩

theorem fabUnfence_acts (hf : s.fits w 0 5 0x108 word = true) : Completes (.fabUnfence w word) s fun t =>
    ∀ d ∈ scanDies, t.fenced d = (s.fenced d && !inDies word d) := by
  let u := written s w 0 5 0x108 word
  have hfence (d : Nat) : u.fenced d = s.fenced d := congrArg (inDies · d) (written_rd h w 0 (by decide))
  have hexec : exec (.fabUnfence w word) s =
      .next ((scanDies.filter fun d => inDies word d && u.fenced d).foldl (fun s d => s.setFence d false) u) :=
    congrArg Host.Outcome.next (writeThen_fits ht hf)
  refine ⟨_, hexec, fun d hd => ?_⟩
  rw [State.fenced_dropFences (written_sane h ..) (filter_scanDies_scan _), contains_filter_scanDies hd, hfence]
  cases s.fenced d <;> cases inDies word d <;> rfl

end

/-! ### Credits (R331) -/

section
variable {s : State} (h : s.Sane)
include h

theorem State.setCredits_rd (src die q n e : Nat) {f : FieldDef} (hf : f.off % 4096 ≠ 0x104) :
    (s.setCredits src die q n).rd e f = s.rd e f := State.rd_wr_other h _ (.inr (.inl hf))

/-- The ports hold their credits in registers of their own. -/
theorem State.credits_setCredits_other {src e die q n : Nat} (hne : src % 8 ≠ e % 8) :
    (s.setCredits e die q n).credits src die q = s.credits src die q :=
  State.rd_wr_die h _ _ n hne

/-- Credits set for every port, each to what the state then gives: what they are in the end, and that no other register
changes. -/
theorem State.foldl_setCredits (die q : Nat) {g : State → Nat → Nat} :
    let t := (List.range 8).foldl (fun t e => t.setCredits e die q (g t e)) s
    (∀ e (f : FieldDef), f.off % 4096 ≠ 0x104 → t.rd e f = s.rd e f) ∧
    ∀ src v, src < 8 → (∀ t : State, (∀ e (f : FieldDef), f.off % 4096 ≠ 0x104 → t.rd e f = s.rd e f) → g t src = v) →
      t.credits src die q = v % 2 ^ 11 := by
  intro t
  have hkeep (b : State) (e : Nat) (hb : b.Sane ∧ ∀ d (f : FieldDef), f.off % 4096 ≠ 0x104 → b.rd d f = s.rd d f) :
      (b.setCredits e die q (g b e)).Sane ∧
        ∀ d (f : FieldDef), f.off % 4096 ≠ 0x104 → (b.setCredits e die q (g b e)).rd d f = s.rd d f :=
    ⟨hb.1.wr .., fun d f hf => (State.setCredits_rd hb.1 _ _ _ _ d hf).trans (hb.2 d f hf)⟩
  refine ⟨(List.foldlRecOn (motive := fun b : State => b.Sane ∧ ∀ d (f : FieldDef), f.off % 4096 ≠ 0x104 → b.rd d f = s.rd d f)
    (List.range 8) _ ⟨h, fun _ _ _ => rfl⟩ fun b hb e _ => hkeep b e hb).2, fun src v hsrc hg => ?_⟩
  have hreach : t.Sane ∧ t.credits src die q = v % 2 ^ 11 := by
    refine foldl_reaches (a := src)
      (P := fun b : State => b.Sane ∧ ∀ d (f : FieldDef), f.off % 4096 ≠ 0x104 → b.rd d f = s.rd d f)
      (Q := fun b : State => b.Sane ∧ b.credits src die q = v % 2 ^ 11) (List.mem_range.mpr hsrc) List.nodup_range
      (fun b e _ _ hb => hkeep b e hb) (fun b hb => ?_) (fun b e he hne hb => ?_) ⟨h, fun _ _ _ => rfl⟩
    · obtain ⟨hsane, hrd⟩ := hb
      exact ⟨hsane.wr .., by rw [State.credits_setCredits hsane, hg b hrd]⟩
    · obtain ⟨hsane, hcredits⟩ := hb
      have he8 := List.mem_range.mp he
      exact ⟨hsane.wr .., (State.credits_setCredits_other hsane (by omega)).trans hcredits⟩
  exact hreach.2

end

/-- The state in which no port has credits for a queue. -/
def State.uncredited (s : State) (die q : Nat) : State := (List.range 8).foldl (fun s src => s.setCredits src die q 0) s

theorem State.uncredited_moves (s : State) (die q : Nat) : Moves 0x400000080000000010 s (s.uncredited die q) :=
  Moves.foldl (fun _ _ => State.setCredits_moves ..) .refl

theorem State.uncredited_shows {s : State} (h : s.Sane) (die q : Nat) :
    (∀ e (f : FieldDef), f.off % 4096 ≠ 0x104 → (s.uncredited die q).rd e f = s.rd e f) ∧
    ∀ src, src < 8 → (s.uncredited die q).credits src die q = 0 := by
  obtain ⟨hkeep, hcredits⟩ := State.foldl_setCredits h die q (g := fun _ _ => 0)
  exact ⟨hkeep, fun src hsrc => (hcredits src 0 hsrc fun _ _ => rfl).trans (Nat.zero_mod _)⟩

section
variable (s : State) (die q : Nat)

theorem State.emptyQueue_regs : (s.emptyQueue die q).regs = ((s.setRing die q []).uncredited die q).regs := by
  rw [State.emptyQueue, State.uncredited]

theorem State.emptyQueue_queues : (s.emptyQueue die q).queues = ((s.setRing die q []).uncredited die q).queues := by
  rw [State.emptyQueue, State.uncredited]

theorem State.emptyQueue_creditsDue : (s.emptyQueue die q).creditsDue =
    ((s.setRing die q []).uncredited die q).creditsDue.filter fun c => !(c.dst == die && c.queue == q) := by
  rw [State.emptyQueue, State.uncredited]

theorem State.emptyQueue_flights : (s.emptyQueue die q).flights = ((s.setRing die q []).uncredited die q).flights.map fun f =>
    if f.die = die ∧ f.queue = q then { f with recalled := true } else f := by
  rw [State.emptyQueue, State.uncredited]

end

/-- A disabled queue: its ring is empty, its credits are recalled, and the entries on their way are marked (R334). -/
theorem State.emptyQueue_shows {s : State} (h : s.Sane) (hs : SMap.sorted s.queues = true) (die q : Nat) :
    (∀ e (f : FieldDef), f.off % 4096 ≠ 0x104 → (s.emptyQueue die q).rd e f = s.rd e f) ∧ (s.emptyQueue die q).ring die q = [] ∧
    (∀ src, src < 8 → (s.emptyQueue die q).credits src die q = 0) ∧
    (s.emptyQueue die q).creditsDue = (s.creditsDue.filter fun c => !(c.dst == die && c.queue == q)) ∧
    (s.emptyQueue die q).flights = s.flights.map fun f =>
      if f.die = die ∧ f.queue = q then { f with recalled := true } else f := by
  obtain ⟨hkeep, hcredits⟩ := State.uncredited_shows (s := s.setRing die q []) h die q
  have hm := (s.setRing die q []).uncredited_moves die q
  have hring : SMap.get [] (s.setRing die q []).queues (die * 16 + q) = [] :=
    SMap.get_put_same (d := []) (m := s.queues) (die * 16 + q) [] hs
  refine ⟨fun e f hf => (State.rd_congr (s.emptyQueue_regs die q) e f).trans (hkeep e f hf), ?_,
    fun src hsrc => (State.rd_congr (s.emptyQueue_regs die q) ..).trans (hcredits src hsrc), ?_, ?_⟩
  · rw [State.ring, State.emptyQueue_queues, show ((s.setRing die q []).uncredited die q).queues = _ from hm.part .queues, hring]
  · rw [State.emptyQueue_creditsDue]
    exact congrArg (List.filter _) (hm.part .creditsDue)
  · rw [State.emptyQueue_flights]
    exact congrArg (List.map _) (hm.part .flights)

/-! ### The configuration of a queue (R331, R334) -/

theorem hasQueues_mem {die : Nat} (h : hasQueues die = true) : die ∈ 0 :: scanDies := by
  rw [hasQueues, Bool.or_eq_true, beq_iff_eq] at h
  exact h.elim (fun h0 => h0 ▸ List.mem_cons_self) fun hd => List.mem_cons_of_mem _ (mem_scanDies hd)

/-- The configuration of a queue holds its fields EN and DEPTH and is seen without a window. -/
theorem queueCfg_register : ∀ d ∈ 0 :: scanDies, ∀ q < 16, unwindowed d 6 (0x200 + 0x20 * q) = true ∧
    Reg.QUE_Qq_CFG_EN.i q ∈ regFields d 6 (0x200 + 0x20 * q) ∧
    Reg.QUE_Qq_CFG_DEPTH.i q ∈ regFields d 6 (0x200 + 0x20 * q) := by decide +kernel

theorem queuePop_register : ∀ d ∈ 0 :: scanDies, ∀ q < 16, plainRegister d 6 (0x20C + 0x20 * q) 1 = true := by decide +kernel

/-- The allotment of a port in a queue. -/
def queueAllot (q src : Nat) : FieldDef :=
  if src < 4 then (Reg.QUE_Qq_ALLOT_LO_SRCs.i q).j src else (Reg.QUE_Qq_ALLOT_HI_SRCs.i q).j (src - 4)

theorem queueAllot_off (q src : Nat) :
    (queueAllot q src).off = 0x204 + q * 32 ∨ (queueAllot q src).off = 0x208 + q * 32 := by
  unfold queueAllot
  split
  · exact .inl rfl
  · exact .inr rfl

section
variable {s : State} {w : Who} {die q word : Nat} (h : s.Sane) (hdie : hasQueues die = true) (hq : q < 16)
  (ht : s.takes w die 6 = true)
include h hdie hq ht

theorem queueEnable_acts (hf : s.fits w die 6 (0x200 + 0x20 * q) (word ||| 1) = true) :
    Completes (.queueEnable w die q word) s fun t => t.qEnabled die q = true ∧
      t.rd die (Reg.QUE_Qq_CFG_DEPTH.i q) = field (word ||| 1) 1 3 ∧ t.rd die (Reg.QUE_Qq_STAT_DROPS.i q) = 0 ∧
      t.rd die (Reg.QUE_Qq_STAT_DISCARDS.i q) = 0 ∧
      (s.qEnabled die q = false → ∀ src, src < 8 → t.credits src die q = s.rd die (queueAllot q src) % 2 ^ 11) := by
  obtain ⟨hwin, hen, hdepth⟩ := queueCfg_register die (hasQueues_mem hdie) q hq
  have hodd : bit (word ||| 1) 0 = true := bit_or_self word 0
  let u := written s w die 6 (0x200 + 0x20 * q) (word ||| 1)
  let y := (u.wr die (Reg.QUE_Qq_STAT_DROPS.i q) 0).wr die (Reg.QUE_Qq_STAT_DISCARDS.i q) 0
  have hu : u.Sane := written_sane h ..
  have hy : y.Sane := (hu.wr ..).wr ..
  have hyu {f : FieldDef} (hfo : f.off % 4096 ≠ (0x210 + q * 32) % 4096) : y.rd die f = u.rd die f :=
    (State.rd_wr_other (hu.wr ..) _ (.inr (.inl hfo))).trans (State.rd_wr_other hu _ (.inr (.inl hfo)))
  have hexec : exec (.queueEnable w die q word) s = .next (if s.qEnabled die q then y else y.grantCredits die q) := by
    show execQueueEnable w die q word s = _
    rw [execQueueEnable, if_pos (by rw [hdie, decide_eq_true hq]; rfl), writeWith_fits ht hf (by omega), State.queueCfg,
      if_pos hodd]
  obtain ⟨hkeep, hcredits⟩ := State.foldl_setCredits hy die q (g := fun t e => t.rd die (queueAllot q e))
  have hrd (f : FieldDef) (hfo : f.off % 4096 ≠ 0x104) :
      (if s.qEnabled die q then y else y.grantCredits die q).rd die f = y.rd die f := by
    split
    · rfl
    · exact hkeep die f hfo
  refine ⟨_, hexec, ?_, ?_, ?_, ?_, fun hoff src hsrc => ?_⟩
  · have hget : (Reg.QUE_Qq_CFG_EN.i q).get (word ||| 1) = 1 := by
      have hbit : (word ||| 1) >>> 0 % 2 = 1 := beq_iff_eq.mp hodd
      exact hbit
    rw [State.qEnabled, State.on, hrd _ (show (0x200 + q * 32) % 4096 ≠ 0x104 by omega),
      hyu (show (0x200 + q * 32) % 4096 ≠ _ by omega), written_get h w hwin hen rfl, hget]
    rfl
  · rw [hrd _ (show (0x200 + q * 32) % 4096 ≠ 0x104 by omega), hyu (show (0x200 + q * 32) % 4096 ≠ _ by omega),
      written_get h w hwin hdepth rfl]
    rfl
  · rw [hrd _ (show (0x210 + q * 32) % 4096 ≠ 0x104 by omega)]
    exact (State.rd_wr_other (hu.wr ..) _ (.inr (.inr (show (11 : Nat) % 32 ≠ 21 % 32 by decide)))).trans
      ((State.rd_wr_same hu ..).trans (Nat.zero_mod _))
  · rw [hrd _ (show (0x210 + q * 32) % 4096 ≠ 0x104 by omega)]
    exact (State.rd_wr_same (hu.wr ..) ..).trans (Nat.zero_mod _)
  · have hoffs := queueAllot_off q src
    rw [if_neg (by rw [hoff]; decide)]
    refine hcredits src _ hsrc fun t hrt => ?_
    rw [hrt die _ (by omega), hyu (by omega)]
    exact written_rd h w die (.inr (by omega))

theorem queueDisable_acts (hs : SMap.sorted s.queues = true) (hf : s.fits w die 6 (0x200 + 0x20 * q) (word / 2 * 2) = true) :
    Completes (.queueDisable w die q word) s fun t => t.qEnabled die q = false ∧ t.ring die q = [] ∧
      (∀ src, src < 8 → t.credits src die q = 0) ∧
      t.creditsDue = (s.creditsDue.filter fun c => !(c.dst == die && c.queue == q)) ∧
      t.flights = s.flights.map fun f => if f.die = die ∧ f.queue = q then { f with recalled := true } else f := by
  obtain ⟨hwin, hen, -⟩ := queueCfg_register die (hasQueues_mem hdie) q hq
  have heven : bit (word / 2 * 2) 0 = false := by
    rw [bit, Nat.shiftRight_zero]
    exact beq_false_of_ne (by omega)
  have hget : (Reg.QUE_Qq_CFG_EN.i q).get (word / 2 * 2) = word / 2 * 2 % 2 := rfl
  have hexec : exec (.queueDisable w die q word) s =
      .next ((written s w die 6 (0x200 + 0x20 * q) (word / 2 * 2)).emptyQueue die q) := by
    show execQueueDisable w die q word s = _
    rw [execQueueDisable, if_pos (by rw [hdie, decide_eq_true hq]; rfl), writeWith_fits ht hf (by omega), State.queueCfg,
      if_neg (by rw [heven]; decide)]
  have hchanges := written_changes s w die 6 (0x200 + 0x20 * q) (word / 2 * 2)
  have hu := written_sane h w die 6 (0x200 + 0x20 * q) (word / 2 * 2)
  have hoff := written_get h w (word := word / 2 * 2) hwin hen rfl
  generalize written s w die 6 (0x200 + 0x20 * q) (word / 2 * 2) = u at hexec hchanges hu hoff
  have hqueues : u.queues = s.queues := hchanges .queues rfl
  obtain ⟨hrd, hring, hcredits, hdue, hflights⟩ := State.emptyQueue_shows hu (by rwa [hqueues]) die q
  refine ⟨_, hexec, ?_, hring, hcredits, ?_, ?_⟩
  · rw [State.qEnabled, State.on, hrd _ _ (show (0x200 + q * 32) % 4096 ≠ 0x104 by omega), hoff, hget]
    exact beq_false_of_ne (by omega)
  · rw [hdue, show u.creditsDue = s.creditsDue from hchanges .creditsDue rfl]
  · rw [hflights, show u.flights = s.flights from hchanges .flights rfl]

omit h in
theorem queuePop_acts (hs : SMap.sorted s.queues = true) {e : QEntry} {rest : List QEntry} (hr : s.ring die q = e :: rest) :
    Completes (.queuePop w die q 1) s fun t =>
      t.ring die q = rest ∧ t.creditsDue = s.creditsDue ++ [⟨entrySource e.hi, die, q⟩] := by
  let u := written s w die 6 (0x20C + 0x20 * q) 1
  have hchanges := written_changes s w die 6 (0x20C + 0x20 * q) 1
  have hqueues : u.queues = s.queues := hchanges .queues rfl
  have hdue : u.creditsDue = s.creditsDue := hchanges .creditsDue rfl
  have hring : u.ring die q = e :: rest := (congrArg (SMap.get [] · (die * 16 + q)) hqueues).trans hr
  have hexec : exec (.queuePop w die q 1) s = .next ({ u.setRing die q rest with
      creditsDue := u.creditsDue ++ [⟨entrySource e.hi, die, q⟩], dirty := u.markSlot die q e.slot }) := by
    show execQueuePop w die q 1 s = _
    rw [execQueuePop, if_pos (by rw [hdie, decide_eq_true hq]; rfl),
      writeThen_plain ht (queuePop_register die (hasQueues_mem hdie) q hq) (.inl (by omega)), quePop, if_pos (by decide)]
    unfold State.popQueue
    rw [hring]
  exact ⟨_, hexec, SMap.get_put_same _ _ (by rwa [hqueues]), congrArg (· ++ _) hdue⟩

end

/-! ### Entries of a queue (R162, R331 to R334) -/

theorem State.putStatus_lt (s : State) (port die q : Nat) : s.putStatus port die q < 4 := by
  unfold State.putStatus
  split
  · decide
  · split
    · decide
    · split <;> decide

theorem State.takes_unfenced {s : State} {w : Who} {die code : Nat} (ht : s.takes w die code = true) :
    (isScan (whoDie w.code) && s.fenced (whoDie w.code)) = false := by
  unfold State.takes State.reaches at ht
  simp only [Bool.and_eq_true, Bool.not_eq_true'] at ht
  exact ht.1.1.1.1

theorem queuePush_acts {s : State} {w : Who} {die word : Nat} (h : s.Sane) (hdie : hasQueues die = true)
    (ht : s.takes w die 6 = true) (hf : s.fits w die 6 0x10C word = true) :
    let to' := s.destDie w.code (field word 4 3)
    let q := field word 0 4
    let st := s.putStatus (whoDie w.code) to' q
    Completes (.queuePush w die word) s fun t => t.rd die (Reg.QUE_PUSH_STAT_STATUS.w w.code) = st ∧
      (st = 0 → t.flights = s.flights ++
          [⟨to', q, s.rd die Reg.QUE_PUSH_LO_DATA % 2 ^ 32, entryHi w.code (field word 16 16), false⟩] ∧
        t.credits (whoDie w.code) to' q = (s.credits (whoDie w.code) to' q - 1) % 2 ^ 11) ∧
      (st ≠ 0 → t.flights = s.flights) := by
  intro to' q st
  let u := written s w die 6 0x10C word
  have hu : u.Sane := written_sane h ..
  have hflights : u.flights = s.flights := written_changes s w die 6 0x10C word .flights rfl
  have hrd (e : Nat) {f : FieldDef} (hfo : f.code % 64 ≠ 6 % 64 ∨ f.off % 4096 ≠ 0x10C % 4096) : u.rd e f = s.rd e f :=
    written_rd h w die hfo
  have hto : u.destDie w.code (field word 4 3) = to' := by
    unfold to' State.destDie State.dieOf
    rw [hrd 0 (by decide)]
  have hcredits : u.credits (whoDie w.code) to' q = s.credits (whoDie w.code) to' q :=
    hrd _ (.inr (show 0x104 % 4096 ≠ 0x10C % 4096 by decide))
  have hfenced (d : Nat) : u.fenced d = s.fenced d := congrArg (inDies · d) (hrd 0 (by decide))
  have hpowered (d : Nat) : u.powered d = s.powered d := State.powered_congr (hrd 0 (by decide)) d
  have hstatus : u.putStatus (whoDie w.code) to' q = st := by
    unfold st State.putStatus State.absentDie
    rw [hcredits, hfenced, hpowered]
  have hfree : (isScan (whoDie w.code) && u.fenced (whoDie w.code)) = false := by
    rw [hfenced]
    exact State.takes_unfenced ht
  let r := u.putEntry w.code to' q (field word 16 16) (s.rd die Reg.QUE_PUSH_LO_DATA)
  have hexec : exec (.queuePush w die word) s = .next (r.1.wr die (Reg.QUE_PUSH_STAT_STATUS.w w.code) r.2) := by
    show execQueuePush w die word s = _
    rw [execQueuePush, if_pos hdie, writeThen_fits ht hf (.inl (by omega)), quePush, hto, hrd die (by decide)]
  refine ⟨_, hexec, ?_⟩
  beta_reduce
  have hr1 : r.1.Sane := (State.putEntry_moves ..).sane hu
  have hshown : (r.1.wr die (Reg.QUE_PUSH_STAT_STATUS.w w.code) r.2).rd die (Reg.QUE_PUSH_STAT_STATUS.w w.code) = r.2 % 2 ^ 2 :=
    State.rd_wr_same hr1 ..
  rw [hshown, State.wr_flights]
  by_cases hst : st = 0
  · obtain ⟨hcode, hsent, hleft⟩ := State.putEntry_sends hfree hu (hstatus.trans hst) (field word 16 16)
      (s.rd die Reg.QUE_PUSH_LO_DATA)
    refine ⟨by rw [show r.2 = 0 from hcode, hst]; rfl, fun _ => ⟨by rw [← hflights]; exact hsent, ?_⟩, fun hne => absurd hst hne⟩
    rw [← hcredits]
    exact (State.rd_wr_other hr1 _ (.inr (.inl (show 0x104 % 4096 ≠ 0x110 % 4096 by decide)))).trans hleft
  · have hr : r = (u, st) := by
      rw [← hstatus]
      exact State.putEntry_refuses hfree (by rwa [hstatus]) ..
    rw [hr]
    refine ⟨Nat.mod_eq_of_lt ?_, fun h0 => absurd h0 hst, fun _ => hflights⟩
    rw [← hstatus]
    exact State.putStatus_lt ..

theorem queueEntryArrival_acts {s : State} {sender die queue : Nat} {f : Flight} {rest : List Flight} (h : s.Sane)
    (hs : SMap.sorted s.queues = true)
    (hf : takeFirst (fun f : Flight => f.hi / 2 ^ 24 == sender && f.die == die && f.queue == queue) s.flights = some (f, rest)) :
    Completes (.queueEntryArrival sender die queue) s fun t => t.flights = rest ∧
      (s.absentDie die = true → t.creditsDue = s.creditsDue ++ [⟨entrySource f.hi, die, queue⟩]) ∧
      (s.absentDie die = false → s.qEnabled die queue = true → f.recalled = false →
        t.ring die queue = s.ring die queue ++ [⟨f.lo, f.hi, s.time, s.nextSlot die queue⟩]) ∧
      (s.absentDie die = false → (s.qEnabled die queue = false ∨ f.recalled = true) →
        t.queues = s.queues ∧ t.rd die (Reg.QUE_Qq_STAT_DISCARDS.i queue) =
          satAdd 10 (s.rd die (Reg.QUE_Qq_STAT_DISCARDS.i queue)) 1) := by
  have hexec : exec (.queueEntryArrival sender die queue) s = execQueueEntryArrival sender die queue s := rfl
  unfold execQueueEntryArrival at hexec
  rw [hf] at hexec
  dsimp only at hexec
  let u : State := { s with flights := rest }
  have hu : u.Sane := h
  have habsent : u.absentDie die = s.absentDie die := rfl
  have hen : u.qEnabled die queue = s.qEnabled die queue := rfl
  rw [show ({ s with flights := rest } : State) = u from rfl, habsent, hen] at hexec
  cases ha : s.absentDie die
  · rw [ha, if_neg Bool.false_ne_true] at hexec
    by_cases hin : (s.qEnabled die queue && !f.recalled) = true
    · rw [if_pos hin] at hexec
      refine ⟨_, hexec, rfl, fun hc => absurd hc Bool.false_ne_true, fun _ _ _ => SMap.get_put_same _ _ hs, fun _ hout => ?_⟩
      rw [Bool.and_eq_true, Bool.not_eq_true'] at hin
      obtain ⟨hon, hnot⟩ := hin
      rcases hout with h0 | h1
      · rw [hon] at h0; cases h0
      · rw [hnot] at h1; cases h1
    · rw [if_neg hin] at hexec
      refine ⟨_, hexec, ?_, fun hc => absurd hc Bool.false_ne_true,
        fun _ hon hnot => absurd (by rw [hon, hnot]; rfl) hin, fun _ _ => ⟨?_, ?_⟩⟩
      · rw [State.irq, State.setBits, State.wr_flights, State.inc, State.add, State.wr_flights]
      · rw [State.irq, State.setBits, State.wr_queues, State.inc, State.add, State.wr_queues]
      · exact (State.irq_rd (hu.wr ..) (.inr (.inr (show (21 : Nat) % 32 ≠ 0 % 32 by decide)))).trans
          (State.inc_rd_same hu die (Reg.QUE_Qq_STAT_DISCARDS.i queue))
  · rw [ha, if_pos rfl] at hexec
    let y : State := { u with creditsDue := s.creditsDue ++ [⟨entrySource f.hi, die, queue⟩] }
    let z := (y.inc 0 Reg.FAB_LOST_COUNT).fabricError .lostEntry sender 0
    have hflights : z.flights = y.flights :=
      ((State.fabricError_moves ..).part .flights).trans ((State.inc_moves ..).part .flights)
    have hdue : z.creditsDue = y.creditsDue :=
      ((State.fabricError_moves ..).part .creditsDue).trans ((State.inc_moves ..).part .creditsDue)
    exact ⟨z, hexec, hflights, fun _ => hdue, fun hc => absurd hc.symm Bool.false_ne_true,
      fun hc => absurd hc.symm Bool.false_ne_true⟩

theorem creditReturn_acts {s : State} {src die queue : Nat} {c : CreditDue} {rest : List CreditDue} (h : s.Sane)
    (hc : takeFirst (fun c : CreditDue => c.src == src && c.dst == die && c.queue == queue) s.creditsDue = some (c, rest)) :
    Completes (.creditReturn src die queue) s fun t =>
      t.credits src die queue = (s.credits src die queue + 1) % 2 ^ 11 ∧ t.creditsDue = rest := by
  have hexec : exec (.creditReturn src die queue) s = execCreditReturn src die queue s := rfl
  unfold execCreditReturn at hexec
  rw [hc] at hexec
  exact ⟨_, hexec, State.credits_setCredits h .., rfl⟩

/-! ### The Token page (R350) -/

theorem tokenRegisters : ∀ k < 64, plainRegister 0 9 0x100 k = true ∧ plainRegister 0 9 0x104 k = true := by decide +kernel

/-- The result of a Token command stands apart from what the Tokens show. -/
theorem TokenShows.result {s : State} {k o : Nat} {hd br : Bool} (h : TokenShows s k hd br o) (m code : Nat) :
    TokenShows (s.wr 0 (Reg.TOKEN_RESULT_CODE.w m) code) k hd br o ∧
      (s.wr 0 (Reg.TOKEN_RESULT_CODE.w m) code).rd 0 (Reg.TOKEN_RESULT_CODE.w m) = code % 2 ^ 3 :=
  ⟨h.congr (h.sane.wr ..) fun _ hf => State.rd_wr_other h.sane _ (tokenFields_apart hf), State.rd_wr_same h.sane ..⟩

section
variable {s : State} {w : Who} {k : Nat} (h : s.Sane) (hk : k < 64) (ht : s.takes w 0 9 = true)
include h hk ht

omit h in
theorem exec_tokenPageAcq : exec (.tokenPageAcq w k) s = .next (tokenAcqWrite w (written s w 0 9 0x100 k) k) :=
  congrArg Host.Outcome.next (writeThen_plain ht (tokenRegisters k hk).1)

omit h in
theorem exec_tokenPageRel : exec (.tokenPageRel w k) s = .next (tokenRelWrite w (written s w 0 9 0x104 k) k) :=
  congrArg Host.Outcome.next (writeThen_plain ht (tokenRegisters k hk).2)

omit h ht in
theorem tokenAcqWrite_eq (u : State) : tokenAcqWrite w u k =
    (u.acquireToken w.code k).1.wr 0 (Reg.TOKEN_RESULT_CODE.w w.code) (u.acquireToken w.code k).2 := by
  rw [tokenAcqWrite, Nat.mod_eq_of_lt hk]

omit h ht in
theorem tokenRelWrite_eq (u : State) : tokenRelWrite w u k =
    (u.releaseToken w.code k).1.wr 0 (Reg.TOKEN_RESULT_CODE.w w.code) (u.releaseToken w.code k).2 := by
  rw [tokenRelWrite, Nat.mod_eq_of_lt hk]

theorem tokenPageAcq_acts : Completes (.tokenPageAcq w k) s fun t => t.tokenHeld k = true ∧
    (s.tokenHeld k = false → t.tokenOwner k = w.code % 256 ∧ t.tokenBroken k = false ∧
      t.rd 0 (Reg.TOKEN_RESULT_CODE.w w.code) = ofBool (s.tokenBroken k)) ∧
    (s.tokenHeld k = true → t.tokenOwner k = s.tokenOwner k ∧
      t.rd 0 (Reg.TOKEN_RESULT_CODE.w w.code) = if s.tokenOwner k = w.code then 3 else 2) := by
  have hexec := exec_tokenPageAcq hk ht
  have hu := (TokenShows.of h k).written w (die := 0) (code := 9) (off := 0x100) (word := k) (.inr rfl)
  generalize written s w 0 9 0x100 k = u at hexec hu
  rw [tokenAcqWrite_eq hk] at hexec
  refine ⟨_, hexec, ?_⟩
  cases hheld : s.tokenHeld k
  · obtain ⟨hgrant, hcode⟩ := State.acquireToken_free hu.sane hk w.code (hu.held.trans hheld)
    obtain ⟨hshow, hres⟩ := hgrant.result w.code (u.acquireToken w.code k).2
    refine ⟨hshow.held, fun _ => ⟨hshow.owner, hshow.broken, hres.trans ?_⟩, fun hc => absurd hc Bool.false_ne_true⟩
    rw [hcode, hu.broken]
    cases s.tokenBroken k <;> rfl
  · rw [State.acquireToken_held w.code (hu.held.trans hheld), hu.owner]
    obtain ⟨hshow, hres⟩ := hu.result w.code (if s.tokenOwner k = w.code then 3 else 2)
    refine ⟨hshow.held.trans hheld, fun hc => absurd hc.symm Bool.false_ne_true, fun _ => ⟨hshow.owner, hres.trans ?_⟩⟩
    split <;> rfl

theorem tokenPageRel_acts : Completes (.tokenPageRel w k) s fun t =>
    (s.tokenHeld k = true → s.tokenOwner k = w.code →
      t.tokenHeld k = false ∧ t.rd 0 (Reg.TOKEN_RESULT_CODE.w w.code) = 0) ∧
    (¬(s.tokenHeld k = true ∧ s.tokenOwner k = w.code) →
      t.tokenHeld k = s.tokenHeld k ∧ t.rd 0 (Reg.TOKEN_RESULT_CODE.w w.code) = 4) := by
  have hexec := exec_tokenPageRel hk ht
  have hu := (TokenShows.of h k).written w (die := 0) (code := 9) (off := 0x104) (word := k) (.inr rfl)
  generalize written s w 0 9 0x104 k = u at hexec hu
  rw [tokenRelWrite_eq hk] at hexec
  refine ⟨_, hexec, ?_⟩
  by_cases hmine : s.tokenHeld k = true ∧ s.tokenOwner k = w.code
  · obtain ⟨hheld, howner⟩ := hmine
    obtain ⟨hback, hcode⟩ := State.releaseToken_owner hu.sane hk (hu.held.trans hheld)
    rw [hu.owner, howner] at hback hcode
    obtain ⟨hshow, hres⟩ := hback.result w.code (u.releaseToken w.code k).2
    rw [hcode] at hres hshow ⊢
    exact ⟨fun _ _ => ⟨hshow.held, hres⟩, fun hne => absurd ⟨hheld, howner⟩ hne⟩
  · rw [State.releaseToken_refused (by rwa [hu.held, hu.owner])]
    obtain ⟨hshow, hres⟩ := hu.result w.code 4
    exact ⟨fun h1 h2 => absurd ⟨h1, h2⟩ hmine, fun _ => ⟨hshow.held, hres⟩⟩

end

/-- Settles O36: fences, queues, entries, credits and the Token page in turn. -/
theorem fencesQueuesAndTokensAct : Obligations.FencesQueuesAndTokensAct :=
  fun _ _ h hs => ⟨fun _ hw ht => fabFence_acts h ht hw, fun _ ht hf => fabUnfence_acts h ht hf,
    fun _ _ hdie hq ht => ⟨fun _ hf => queueEnable_acts h hdie hq ht hf, fun _ hf => queueDisable_acts h hdie hq ht hs hf,
      fun _ _ hr => queuePop_acts hdie hq ht hs hr⟩,
    fun _ _ hdie ht hf => queuePush_acts h hdie ht hf, fun _ _ _ _ _ hf => queueEntryArrival_acts h hs hf,
    fun _ _ _ _ _ hc => creditReturn_acts h hc, fun _ hk ht => ⟨tokenPageAcq_acts h hk ht, tokenPageRel_acts h hk ht⟩⟩

end Sys2Proof.Machine
end

section
/-! SUPPORT.  Requests of `MODE.REQ`, the end of a start's preparation, the request after power-up, and the staged Safe image
(R191 to R193, R197, R204). -/

open Sys2Proof Sys2Proof.Machine Sys2Proof.Bits
namespace Sys2Proof.SMap

variable {α : Type}

theorem find?_eq_some_iff {m : SMap α} (hs : sorted m = true) {k : Nat} {v : α} : find? m k = some v ↔ (k, v) ∈ m := by
  induction m with
  | nil => simp
  | cons e m ih =>
    obtain ⟨ha, hm⟩ := sorted_cons.mp hs
    have hlow : k ≤ e.1 → (k, v) ∉ m := fun hle hmem => Nat.not_lt.mpr hle (ha _ hmem)
    rw [find?, List.mem_cons, Prod.ext_iff]
    split
    · rename_i hk
      simp [hk, hlow (Nat.le_of_eq hk.symm), eq_comm]
    · rename_i hne
      split
      · rename_i hlt
        simp [Ne.symm hne, hlow (Nat.le_of_lt hlt)]
      · rw [ih hm]
        simp [Ne.symm hne]

/-- What a copied key reads as. -/
theorem get_copy_inside {d : α} {m : SMap α} (hs : sorted m = true) (src dst : Nat) {n i : Nat} (hi : i < n) :
    get d (copy m src dst n) (dst + i) = get d m (src + i) := by
  have hmem : ∀ v, (dst + i, v) ∈ copy m src dst n ↔ (src + i, v) ∈ m := by
    intro v
    simp only [copy, splice, slice, List.mem_append, List.mem_filter, List.mem_map, decide_eq_true_eq, Bool.and_eq_true,
      Prod.ext_iff, Prod.exists]
    constructor
    · rintro ((⟨-, hlt⟩ | ⟨k, x, ⟨hx, hlo, -⟩, hk, rfl⟩) | ⟨-, hge⟩)
      · omega
      · rwa [show src + i = k by omega]
      · omega
    · exact fun hv => .inl (.inr ⟨src + i, v, ⟨hv, by omega, by omega⟩, by omega, rfl⟩)
  have hfind : find? (copy m src dst n) (dst + i) = find? m (src + i) :=
    Option.ext fun v => by rw [find?_eq_some_iff (sorted_copy src dst n hs), find?_eq_some_iff hs, hmem]
  rw [get, get, hfind]

end Sys2Proof.SMap

namespace Sys2Proof.Machine
set_option Elab.async false

/-- A byte of a copy is the byte it was copied from. -/
theorem State.loadByte_copyMem {s : State} (h : s.Sane) (src dst : Nat) {n i : Nat} (hi : i < n) :
    (s.copyMem src dst n).loadByte (dst + i) = s.loadByte (src + i) := SMap.get_copy_inside h.mem_sorted src dst hi

/-- A one-bit field written from a truth value. -/
theorem State.on_wrB {s : State} (h : s.Sane) (die : Nat) {f : FieldDef} (hf : f.width = 1) (b : Bool) :
    (s.wrB die f b).on die f = b := by
  cases b
  · exact State.on_wr_zero h die f
  · exact State.on_wr_one h die hf

/-! ### States that refuse alike -/

/-- Two states in which the same program stands: the same registers, memory and check bits, Catalogue half and load fault. -/
structure State.SameProgram (s t : State) : Prop where
  regs : t.regs = s.regs
  mem : t.mem = s.mem
  ecc : t.ecc = s.ecc
  catActive : t.catActive = s.catActive
  failed : t.prog.failed = s.prog.failed

namespace State.SameProgram
variable {s t : State} (h : s.SameProgram t)
include h

theorem rd : t.rd = s.rd := funext fun die => funext fun f => State.rd_congr h.regs die f

theorem on : t.on = s.on := by
  funext die f
  rw [State.on, State.on, h.rd]

theorem mode : t.mode = s.mode := State.rd_congr h.regs ..

theorem listed : t.listed = s.listed := by
  funext die f
  rw [State.listed, State.listed, h.regs]

theorem live : t.live = s.live := by
  funext d
  rw [State.live, State.live, State.role, State.role, h.rd]

theorem standby : t.standby = s.standby := State.standby_congr (State.rd_congr h.regs ..)

theorem activeBank : t.activeBank = s.activeBank := by
  funext d
  rw [State.activeBank, State.activeBank, h.rd]

theorem rowField : t.rowField = s.rowField := by
  funext die bank row f
  rw [State.rowField, State.rowField, h.rd]

theorem validRows : t.validRows = s.validRows := by
  funext die bank
  rw [State.validRows, State.validRows, h.listed]

theorem rowsMeet : t.rowsMeet = s.rowsMeet := by
  funext die bank a b
  simp only [State.rowsMeet, State.rowSelected, State.rowValid, h.rd, h.rowField]

theorem checkBank : t.checkBank = s.checkBank := by
  funext die bank
  simp only [State.checkBank, State.rowReasons, State.spansOverlap, h.rd, h.rowField, h.validRows, h.rowsMeet]

theorem frameConfigOk : t.frameConfigOk = s.frameConfigOk := by
  rw [State.frameConfigOk, State.frameConfigOk, commitAtMax, commitAtMax, h.rd]

theorem usable : t.usable = s.usable := by
  funext d
  rw [State.usable, State.usable, h.live, h.rd]

theorem usedTasks : t.usedTasks = s.usedTasks := by
  rw [State.usedTasks, State.usedTasks, h.listed]

theorem diesOk : t.diesOk = s.diesOk := by
  simp only [State.diesOk, h.usedTasks, h.usable, h.rd]

theorem tasksOk : t.tasksOk = s.tasksOk := by
  simp only [State.tasksOk, State.rowsOfTask, State.taskType, h.usedTasks, h.validRows, h.activeBank, h.rowField, h.rd]

theorem ownersOk : t.ownersOk = s.ownersOk := by
  simp only [State.ownersOk, State.catValid, h.catActive, h.listed, h.live, h.rd]

theorem retSize : t.retSize = s.retSize := by
  simp only [State.retSize, h.rd]

theorem loadBytes : t.loadBytes = s.loadBytes := by
  funext a n
  exact State.loadBytes_congr fun i _ _ => State.loadByte_congr h.mem i

theorem stk : t.stk = s.stk := by
  funext off n
  exact State.load_congr h.mem ..

theorem anyPoison : t.anyPoison = s.anyPoison := by
  funext off n
  rw [State.anyPoison, State.anyPoison, h.ecc]

theorem listDigest : t.listDigest = s.listDigest := by
  rw [State.listDigest, State.listDigest, h.rd]

theorem twinValid : t.twinValid = s.twinValid := by
  funext n b
  rw [State.twinValid, State.twinValid, State.recordValid, State.recordValid, h.stk, h.loadBytes, h.anyPoison]

theorem retValid : t.retValid = s.retValid := by
  funext b
  rw [State.retValid, State.retValid, h.twinValid, h.loadBytes, h.listDigest]

theorem graceMax : t.graceMax = s.graceMax := by
  rw [State.graceMax, State.graceMax, h.retSize]

theorem startRefusal : t.startRefusal = s.startRefusal := by
  funext k
  rw [State.startRefusal, State.startRefusal, h.failed, h.frameConfigOk, h.diesOk, h.live, h.checkBank, h.activeBank, h.tasksOk,
    h.ownersOk, h.on, h.rd, h.retValid, h.retSize, h.graceMax, h.standby]

/-- They refuse the same requests for the same reason. -/
theorem refusal : t.refusal = s.refusal := by
  funext c kind
  rw [State.refusal, State.refusal, h.on, h.mode, h.startRefusal, h.standby]

end State.SameProgram
/-! ### What a request leaves (R191, R193) -/

/-- The state that an admitted request writes, its registers first. -/
theorem State.modeRequest_admitted {s : State} {cmd kind : Nat} (hc : cmd ≠ 0) (hr : s.refusal cmd kind = none) :
    s.modeRequest cmd kind =
      { ((s.wr 0 Reg.MODE_STAT_PENDING 1).wr 0 Reg.MODE_STAT_PENDING_CMD cmd).wrB 0 Reg.MODE_STAT_PREPARING (s.mode == 0) with
        prog := { s.prog with accept := s.cycle, prepEnd := none, kind := if s.mode == 0 then kind else s.prog.kind } } := by
  rw [State.modeRequest, if_neg hc, hr]
  rfl

theorem State.modeRequest_refused {s : State} {cmd kind c : Nat} (hc : cmd ≠ 0) (hr : s.refusal cmd kind = some c) :
    s.modeRequest cmd kind = (((s.wr 0 Reg.MODE_REASON_REFUSE c).wr 0 Reg.MODE_REASON_REFUSED_CMD cmd).inc 0
      Reg.MODE_REFUSALS_COUNT).irq 0 0x27 1 := by
  rw [State.modeRequest, if_neg hc, hr]

/-- An admitted request: pending with its command and instant, from Stop with preparation. -/
theorem State.modeRequest_pends {s : State} (h : s.Sane) {cmd kind : Nat} (hc : cmd ∈ [1, 2, 3, 4])
    (hr : s.refusal cmd kind = none) :
    (s.modeRequest cmd kind).on 0 Reg.MODE_STAT_PENDING = true ∧
      (s.modeRequest cmd kind).rd 0 Reg.MODE_STAT_PENDING_CMD = cmd ∧ (s.modeRequest cmd kind).prog.accept = s.cycle ∧
      (s.modeRequest cmd kind).on 0 Reg.MODE_STAT_PREPARING = (s.mode == 0) ∧
      (s.mode = 0 → (s.modeRequest cmd kind).prog.kind = kind) := by
  have hpend := h.wr 0 Reg.MODE_STAT_PENDING 1
  have hcmd := hpend.wr 0 Reg.MODE_STAT_PENDING_CMD cmd
  have hrange : cmd ≠ 0 ∧ cmd < 8 := by fin_cases hc <;> decide
  obtain ⟨hne, hlt⟩ := hrange
  rw [State.modeRequest_admitted hne hr]
  refine ⟨?_, ?_, rfl, ?_, fun hm => if_pos (beq_iff_eq.mpr hm)⟩
  · exact (State.on_wr_other hcmd _).trans ((State.on_wr_other hpend cmd).trans (State.on_wr_one h 0 rfl))
  · exact (State.rd_wr_other hcmd _).trans ((State.rd_wr_same hpend ..).trans (Nat.mod_eq_of_lt hlt))
  · exact State.on_wrB hcmd 0 rfl _

/-- A refused request shows its command and code, and leaves the program alone. -/
theorem State.modeRequest_shows_refusal {s : State} (h : s.Sane) {cmd kind c : Nat} (hc : cmd ∈ [1, 2, 3, 4])
    (hr : s.refusal cmd kind = some c) :
    (s.modeRequest cmd kind).rd 0 Reg.MODE_REASON_REFUSE = c % 16 ∧
      (s.modeRequest cmd kind).rd 0 Reg.MODE_REASON_REFUSED_CMD = cmd ∧ (s.modeRequest cmd kind).prog = s.prog ∧
      (s.modeRequest cmd kind).on 0 Reg.MODE_STAT_PENDING = s.on 0 Reg.MODE_STAT_PENDING := by
  have hcode := h.wr 0 Reg.MODE_REASON_REFUSE c
  have hcmd := hcode.wr 0 Reg.MODE_REASON_REFUSED_CMD cmd
  have hcount := (State.inc_moves _ 0 Reg.MODE_REFUSALS_COUNT).sane hcmd
  have hrange : cmd ≠ 0 ∧ cmd < 8 := by fin_cases hc <;> decide
  obtain ⟨hne, hlt⟩ := hrange
  have hkeep : ∀ g : FieldDef, apart g (IRQ_RAW_SRC 0x27) → apart g Reg.MODE_REFUSALS_COUNT →
      (s.modeRequest cmd kind).rd 0 g =
        ((s.wr 0 Reg.MODE_REASON_REFUSE c).wr 0 Reg.MODE_REASON_REFUSED_CMD cmd).rd 0 g := fun g h1 h2 => by
    rw [State.modeRequest_refused hne hr, State.irq_rd hcount h1, State.inc_rd hcmd h2]
  refine ⟨?_, ?_, ?_, ?_⟩
  · rw [hkeep _ (by decide) (by decide), State.rd_wr_other hcode, State.rd_wr_same h]
    rfl
  · rw [hkeep _ (by decide) (by decide), State.rd_wr_same hcode]
    exact Nat.mod_eq_of_lt hlt
  · rw [State.modeRequest_refused hne hr]
    rfl
  · rw [State.on, hkeep _ (by decide) (by decide), State.rd_wr_other hcode, State.rd_wr_other h]
    rfl

/-! ### Writes to `MODE.REQ` -/

/-- The start kind that a request carries: STOP and STEP carry none. -/
def requestKind (c start : Nat) : Nat := if c = 2 ∨ c = 3 then start else 0

/-- The command of a request: 1 STOP, 2 RUN, 3 HOLD, 4 STEP. -/
def requestInstr (w : Who) (c start : Nat) : Instr :=
  if c = 1 then Instr.modeStop w else if c = 2 then .modeRun w start else if c = 3 then .modeHold w start else .modeStep w

/-- The word of `MODE.REQ` that makes a request. -/
def requestWord (c start : Nat) : Nat := c + 8 * requestKind c start

theorem requestWord_plain : ∀ c ∈ [1, 2, 3, 4], ∀ start < 3, plainRegister 0 0x27 0x100 (requestWord c start) = true := by
  decide +kernel

theorem requestWord_fields : ∀ c ∈ [1, 2, 3, 4], ∀ start < 3,
    requestWord c start % 8 = c ∧ requestWord c start / 8 % 4 = requestKind c start := by decide

theorem regFields_modeReq : regFields 0 0x27 0x100 = [Reg.MODE_REQ_CMD, Reg.MODE_REQ_START] := by decide +kernel

theorem exec_request (w : Who) {c start : Nat} (hc : c ∈ [1, 2, 3, 4]) (hs : start < 3) (s : State) :
    exec (requestInstr w c start) s = .next (writeThen w 0 0x27 0x100 (requestWord c start) s modeReq) := by
  have hmod : start % 4 = start := Nat.mod_eq_of_lt (by omega)
  fin_cases hc
  · rfl
  · show execModeRun w start s = _
    rw [execModeRun, hmod]
    rfl
  · show execModeHold w start s = _
    rw [execModeHold, hmod]
    rfl
  · rfl

/-- The reasons to refuse a request do not lie in a page's arming. -/
theorem State.refusal_takeArming (s : State) (die code who c kind : Nat) :
    (takeArming s die code who).2.refusal c kind = s.refusal c kind := by
  have hsame : s.SameProgram (takeArming s die code who).2 := ⟨rfl, rfl, rfl, rfl, rfl⟩
  rw [hsame.refusal]

section
variable {s : State} (h : s.Sane) {w : Who} (ht : s.takes w 0 0x27 = true) {c start : Nat} (hc : c ∈ [1, 2, 3, 4]) (hs : start < 3)
include ht hc hs

theorem exec_request_taken : exec (requestInstr w c start) s =
    .next ((takeArming s 0 0x27 w.code).2.modeRequest c (requestKind c start)) := by
  obtain ⟨hcmd, hkind⟩ := requestWord_fields c hc start hs
  rw [exec_request w hc hs, writeThen_command ht (requestWord_plain c hc start hs) (by rw [regFields_modeReq]; rfl), modeReq,
    hcmd, hkind]

include h

theorem request_admitted (hr : s.refusal c (requestKind c start) = none) :
    Completes (requestInstr w c start) s fun t =>
      t.on 0 Reg.MODE_STAT_PENDING = true ∧ t.rd 0 Reg.MODE_STAT_PENDING_CMD = c ∧ t.prog.accept = s.cycle ∧
      t.on 0 Reg.MODE_STAT_PREPARING = (s.mode == 0) ∧ (s.mode = 0 → t.prog.kind = requestKind c start) :=
  ⟨_, exec_request_taken ht hc hs, State.modeRequest_pends ((takeArming_moves ..).sane h) hc
    ((State.refusal_takeArming ..).trans hr)⟩

theorem request_refused {r : Nat} (hr : s.refusal c (requestKind c start) = some r) :
    Completes (requestInstr w c start) s fun t =>
      t.rd 0 Reg.MODE_REASON_REFUSE = r % 16 ∧ t.rd 0 Reg.MODE_REASON_REFUSED_CMD = c ∧ t.prog = s.prog ∧
      t.on 0 Reg.MODE_STAT_PENDING = s.on 0 Reg.MODE_STAT_PENDING :=
  ⟨_, exec_request_taken ht hc hs, State.modeRequest_shows_refusal ((takeArming_moves ..).sane h) hc
    ((State.refusal_takeArming ..).trans hr)⟩

end

/-! ### Preparation, power-up and the staged Safe image (R192, R197, R204) -/

/-- The preparation of the pending start has ended. -/
def State.startPrepared (s : State) : State :=
  { (s.prepare s.prog.kind).wr 0 Reg.MODE_STAT_PREPARING 0 with
    prog := { (s.prepare s.prog.kind).prog with prepEnd := some (s.prepare s.prog.kind).cycle } }

theorem exec_startPreparationEnd {s : State} (hp : s.on 0 Reg.MODE_STAT_PREPARING = true) :
    exec .startPreparationEnd s = .next s.startPrepared := by
  show execStartPreparationEnd s = _
  rw [execStartPreparationEnd, if_pos hp]
  rfl

theorem startPreparationEnd_acts {s : State} (h : s.Sane) (hp : s.on 0 Reg.MODE_STAT_PREPARING = true) :
    Completes .startPreparationEnd s fun t =>
      t.on 0 Reg.MODE_STAT_PREPARING = false ∧ t.prog.prepEnd = some s.cycle := by
  have hprepare := State.prepare_moves s s.prog.kind
  have hcycle : (s.prepare s.prog.kind).cycle = s.cycle := hprepare.part .cycle
  exact ⟨_, exec_startPreparationEnd hp, State.on_wr_zero (hprepare.sane h) 0 _, congrArg some hcycle⟩

/-- The request after power-up has been made. -/
def State.askedOnce (s : State) : State := { s with prog := { s.prog with askedPowerup := true } }

theorem State.refusal_askedOnce (s : State) (c kind : Nat) : s.askedOnce.refusal c kind = s.refusal c kind := by
  have hsame : s.SameProgram s.askedOnce := ⟨rfl, rfl, rfl, rfl, rfl⟩
  rw [hsame.refusal]

/-- A request does not forget that one was made after power-up. -/
theorem State.modeRequest_askedPowerup (s : State) (cmd kind : Nat) :
    (s.modeRequest cmd kind).prog.askedPowerup = s.prog.askedPowerup := by
  unfold State.modeRequest
  split
  · rfl
  · split <;> rfl

/-- The start kind of the request after power-up. -/
def State.powerupKind (s : State) : Nat := if s.rd 0 Reg.MODE_CFG_POWERUP = 1 then 1 else 0

section
variable {s : State} (hf : s.firmware = true) (hv : s.on 0 Reg.IMG_STAT_SAFE_VALID = true) (ha : s.prog.askedPowerup = false)
include hf hv ha

theorem exec_powerupRunRequest_none (h0 : s.rd 0 Reg.MODE_CFG_POWERUP = 0) : exec .powerupRunRequest s = .next s.askedOnce := by
  show execPowerupRunRequest s = _
  rw [execPowerupRunRequest, if_pos (by rw [hf, hv, ha]; rfl), if_pos h0]
  rfl

theorem exec_powerupRunRequest_admitted (h0 : s.rd 0 Reg.MODE_CFG_POWERUP ≠ 0) (hr : s.refusal 2 s.powerupKind = none) :
    exec .powerupRunRequest s = .next (s.askedOnce.modeRequest 2 s.powerupKind) := by
  rw [← s.refusal_askedOnce] at hr
  unfold State.askedOnce State.powerupKind at hr
  show execPowerupRunRequest s = _
  rw [execPowerupRunRequest, if_pos (by rw [hf, hv, ha]; rfl), if_neg h0]
  dsimp only
  rw [hr]
  rfl

theorem exec_powerupRunRequest_refused (h0 : s.rd 0 Reg.MODE_CFG_POWERUP ≠ 0) {c : Nat}
    (hr : s.refusal 2 s.powerupKind = some c) : exec .powerupRunRequest s =
      .next ((s.askedOnce.modeRequest 2 s.powerupKind).archive 0x27 1 .info [c, 2]) := by
  rw [← s.refusal_askedOnce] at hr
  unfold State.askedOnce State.powerupKind at hr
  show execPowerupRunRequest s = _
  rw [execPowerupRunRequest, if_pos (by rw [hf, hv, ha]; rfl), if_neg h0]
  dsimp only
  rw [hr]
  rfl

end

theorem powerupRunRequest_acts {s : State} (h : s.Sane) (hf : s.firmware = true) (hv : s.on 0 Reg.IMG_STAT_SAFE_VALID = true)
    (ha : s.prog.askedPowerup = false) :
    Completes .powerupRunRequest s fun t => t.prog.askedPowerup = true ∧
      (s.rd 0 Reg.MODE_CFG_POWERUP = 1 → s.refusal 2 1 = none →
        t.on 0 Reg.MODE_STAT_PENDING = true ∧ t.rd 0 Reg.MODE_STAT_PENDING_CMD = 2) := by
  by_cases h0 : s.rd 0 Reg.MODE_CFG_POWERUP = 0
  · exact ⟨_, exec_powerupRunRequest_none hf hv ha h0, rfl, fun h1 => absurd (h0.symm.trans h1) (by decide)⟩
  · have hkind : s.rd 0 Reg.MODE_CFG_POWERUP = 1 → s.powerupKind = 1 := fun h1 => if_pos h1
    have hasked := State.modeRequest_askedPowerup s.askedOnce 2 s.powerupKind
    cases hr : s.refusal 2 s.powerupKind with
    | none =>
      obtain ⟨hpend, hcmd, -⟩ := State.modeRequest_pends (s := s.askedOnce) h (cmd := 2) (by decide)
        ((s.refusal_askedOnce ..).trans hr)
      exact ⟨_, exec_powerupRunRequest_admitted hf hv ha h0 hr, hasked, fun _ _ => ⟨hpend, hcmd⟩⟩
    | some c =>
      refine ⟨_, exec_powerupRunRequest_refused hf hv ha h0 hr,
        (congrArg Prog.askedPowerup ((State.archive_moves ..).part .prog)).trans hasked, fun h1 hn => ?_⟩
      rw [hkind h1, hn] at hr
      exact nomatch hr

/-- The staged image stands in K-IMAGE and is shown as valid, with its checksum. -/
def State.safeTaken (s : State) : State :=
  ((s.copyMem (K_DEPOT + safeStage) (K_IMAGE + 0x78000) imageBytes).wr 0 Reg.IMG_STAT_SAFE_LOADING 0).wr 0
    Reg.IMG_STAT_SAFE_VALID 1

/-- The checksum of the image that was taken is shown. -/
def State.safeChecked (s : State) (crc : Nat) : State := (s.safeTaken.wr 0 Reg.IMG_SAFE_CRC_CRC crc).irq 0 0x29 1

theorem State.safeChecked_shows {s : State} (h : s.Sane) (crc : Nat) :
    (s.safeChecked crc).on 0 Reg.IMG_STAT_SAFE_VALID = true ∧ (s.safeChecked crc).on 0 Reg.IMG_STAT_SAFE_LOADING = false ∧
      ∀ i, i < imageBytes → (s.safeChecked crc).loadByte (K_IMAGE + 0x78000 + i) = s.loadByte (K_DEPOT + safeStage + i) := by
  have hcopy := (State.copyMem_moves s (K_DEPOT + safeStage) (K_IMAGE + 0x78000) imageBytes).sane h
  have hidle := hcopy.wr 0 Reg.IMG_STAT_SAFE_LOADING 0
  have htaken : s.safeTaken.Sane := hidle.wr 0 Reg.IMG_STAT_SAFE_VALID 1
  have hcrc := htaken.wr 0 Reg.IMG_SAFE_CRC_CRC crc
  refine ⟨?_, ?_, fun i hi => ?_⟩
  · exact (State.on_wr_other hcrc _).trans ((State.on_wr_other htaken crc).trans (State.on_wr_one hidle 0 rfl))
  · exact (State.on_wr_other hcrc _).trans ((State.on_wr_other htaken crc).trans ((State.on_wr_other hidle 1).trans
      (State.on_wr_zero hcopy 0 _)))
  · exact State.loadByte_copyMem h (K_DEPOT + safeStage) (K_IMAGE + 0x78000) hi

theorem exec_safeImageLoaded {s : State} (hl : s.on 0 Reg.IMG_STAT_SAFE_LOADING = true) : exec .safeImageLoaded s =
    .next (s.safeChecked (crc32c (s.safeTaken.loadBytes (K_IMAGE + 0x78000) imageBytes))) := by
  show execSafeImageLoaded s = _
  rw [execSafeImageLoaded, if_pos hl]
  rfl

theorem safeImageLoaded_acts {s : State} (h : s.Sane) (hl : s.on 0 Reg.IMG_STAT_SAFE_LOADING = true) :
    Completes .safeImageLoaded s fun t =>
      t.on 0 Reg.IMG_STAT_SAFE_VALID = true ∧ t.on 0 Reg.IMG_STAT_SAFE_LOADING = false ∧
      ∀ i, i < 163840 → t.loadByte (K_IMAGE + 0x78000 + i) = s.loadByte (K_DEPOT + safeStage + i) :=
  ⟨_, exec_safeImageLoaded hl, State.safeChecked_shows h _⟩

/-- Settles O19: a request by what its write leaves when the refusal rules admit it and when they refuse it; the preparation, the
request after power-up and the copy of the staged image each by its command. -/
theorem modeRequestsAct : Obligations.ModeRequestsAct :=
  fun _ _ h => ⟨fun ht _ hs _ hc => ⟨request_admitted h ht hc hs, fun _ hr => request_refused h ht hc hs hr⟩,
    startPreparationEnd_acts h, powerupRunRequest_acts h, safeImageLoaded_acts h⟩

end Sys2Proof.Machine
end
section
/-! SUPPORT.  The hold-up sequence of a power failure, the return of power, Quiescent sleep, and the temperature sample (R203, R433,
R463 to R465, R532). -/

open Sys2Proof Sys2Proof.Machine Sys2Proof.Bits
namespace Sys2Proof.Machine
set_option Elab.async false

/-! ### The power failure (R203) -/

/-- The hold-up begins at the instant of the failure: commit, release and output frames are dropped. -/
theorem State.startHoldup_shows {s : State} (h0 : s.aon.holdup = 0) (hheld : s.aon.held = none) :
    s.startHoldup.aon.holdup = 1 ∧ s.startHoldup.aon.failAt = s.time ∧ s.startHoldup.frame.gather = false ∧
      s.startHoldup.frame.safeCopy = false ∧ s.startHoldup.frame.build = false ∧ s.startHoldup.frame.built = false ∧
      s.startHoldup.exch.txPorts = [] := by
  have htime : s.startHoldup.time = s.time := (State.startHoldup_moves s).part .time
  rw [← htime, State.startHoldup, if_neg (by rw [h0, hheld]; simp)]
  exact ⟨rfl, rfl, rfl, rfl, rfl, rfl, rfl⟩

theorem powerFail_acts {s : State} (hpf : s.on 0 Reg.PWR_STAT_PF = false) (h0 : s.aon.holdup = 0) (hheld : s.aon.held = none)
    (ha : s.aon.asleep = false) :
    Completes .powerFail s fun t =>
      t.aon.holdup = 1 ∧ t.aon.failAt = s.time ∧ t.frame.gather = false ∧ t.frame.safeCopy = false ∧
      t.frame.build = false ∧ t.frame.built = false ∧ t.exch.txPorts = [] := by
  have hexec : exec .powerFail s = .next ((s.wr 0 Reg.PWR_STAT_PF 1).irq 0 0x02 0).startHoldup := by
    show execPowerFail s = _
    rw [execPowerFail, if_neg (Bool.eq_false_iff.mp hpf)]
    exact congrArg Host.Outcome.next (if_neg (Bool.eq_false_iff.mp ha))
  exact ⟨_, hexec, State.startHoldup_shows (s := (s.wr 0 Reg.PWR_STAT_PF 1).irq 0 0x02 0) h0 hheld⟩

/-! ### The saves (R202, R203, R433, R463) -/

/-- The tasks that the failure tore apart are noted. -/
def State.tornNoted (s : State) : State :=
  if s.aon.holdup = 1 then { s with aon := { s.aon with torn := s.tornTasks } } else s

/-- The twins of the retained save are written: the Retain records and the record of the program. -/
def State.retainedWritten (s : State) : State :=
  let record := (s.wr2 0 Reg.TICK_FRAME_LO_N Reg.TICK_FRAME_HI_N s.aon.failFrame).retRecord s.aon.torn
  let s := s.twinWriteBeside s.savedBeside 32 record
  s.twinWrite 2 (if s.changeCarrying then s.recordAfter else s.recordNow)

/-- The save is counted in frame `n`, and what was written before no longer counts for a hot start. -/
def State.retainedCounted (s : State) (n : Nat) : State :=
  let s := ((s.wr2 0 Reg.TICK_FRAME_LO_N Reg.TICK_FRAME_HI_N n).wr 0 Reg.IMG_SAVE_TIME_US (s.saveTime / 1000)).inc 0
    Reg.IMG_SAVES_COUNT
  (s.irq 0 0x29 0).hotLost

/-- The hold-up is at stage `k`. -/
def State.heldUpAt (s : State) (k : Nat) : State := { s with aon := { s.aon with holdup := k } }

theorem State.heldUpAt_holdup (s : State) (k : Nat) : (s.heldUpAt k).aon.holdup = k := rfl
theorem State.heldUpAt_rd (s : State) (k die : Nat) (f : FieldDef) : (s.heldUpAt k).rd die f = s.rd die f := rfl
theorem State.heldUpAt_on (s : State) (k die : Nat) (f : FieldDef) : (s.heldUpAt k).on die f = s.on die f := rfl

theorem State.saveRetained_eq (s : State) :
    s.saveRetained = (s.tornNoted.retainedWritten.retainedCounted s.tornNoted.frameNo).heldUpAt 3 := by
  simp only [State.saveRetained, State.retainedCounted, State.heldUpAt, State.retainedWritten, State.tornNoted]

theorem State.tornNoted_moves (s : State) : Moves 0x8000000000000 s s.tornNoted := Moves.ite (Moves.set_51 .refl) .refl

theorem State.retainedWritten_moves (s : State) : Moves 0x80000000080000000038 s s.retainedWritten :=
  (State.twinWriteBeside_moves ..).trans (State.twinWrite_moves ..)

theorem State.retainedCounted_shows {s : State} (h : s.Sane) (n : Nat) :
    (s.retainedCounted n).on 0 Reg.MODE_STAT_HOT_OK = false ∧
      (s.retainedCounted n).rd 0 Reg.IMG_SAVES_COUNT = satAdd 32 (s.rd 0 Reg.IMG_SAVES_COUNT) 1 := by
  unfold State.retainedCounted
  extract_lets counted
  have hshown : (s.wr2 0 Reg.TICK_FRAME_LO_N Reg.TICK_FRAME_HI_N n).Sane := State.Sane.wr2 h 0 n
  have htime := hshown.wr 0 Reg.IMG_SAVE_TIME_US (s.saveTime / 1000)
  have hcount : counted.rd 0 Reg.IMG_SAVES_COUNT = satAdd 32 (s.rd 0 Reg.IMG_SAVES_COUNT) 1 := by
    refine (State.inc_rd_same htime 0 Reg.IMG_SAVES_COUNT).trans ?_
    rw [State.rd_wr_other hshown, State.wr2_rd h (by decide) (by decide)]
    rfl
  have hcsane : counted.Sane := (State.inc_moves ..).sane htime
  clear_value counted
  have hirq := (State.irq_moves counted 0 0x29 0).sane hcsane
  have hlost : (counted.irq 0 0x29 0).hotLost.rd 0 Reg.IMG_SAVES_COUNT = counted.rd 0 Reg.IMG_SAVES_COUNT :=
    (State.rd_wr_other (f := Reg.MODE_STAT_HOT_OK) hirq 0).trans (State.irq_rd hcsane (by decide))
  exact ⟨State.on_wr_zero hirq 0 Reg.MODE_STAT_HOT_OK, hlost.trans hcount⟩

/-- The retained save is counted, and what was written before no longer counts for a hot start. -/
theorem State.saveRetained_shows {s : State} (h : s.Sane) :
    s.saveRetained.aon.holdup = 3 ∧ s.saveRetained.on 0 Reg.MODE_STAT_HOT_OK = false ∧
      s.saveRetained.rd 0 Reg.IMG_SAVES_COUNT = satAdd 32 (s.rd 0 Reg.IMG_SAVES_COUNT) 1 := by
  have hwritten : Moves 0x80000008080000000038 s s.tornNoted.retainedWritten :=
    (State.tornNoted_moves s).sub.step (State.retainedWritten_moves _)
  obtain ⟨hhot, hcount⟩ := State.retainedCounted_shows (hwritten.sane h) s.tornNoted.frameNo
  rw [hwritten.rd h 0 Reg.IMG_SAVES_COUNT] at hcount
  rw [State.saveRetained_eq, State.heldUpAt_on, State.heldUpAt_rd]
  exact ⟨State.heldUpAt_holdup .., hhot, hcount⟩

theorem retainedSaveEnd_acts {s : State} (h : s.Sane) (hh : s.aon.holdup = 1 ∨ s.aon.holdup = 2) (hr : s.rowsStill = true) :
    Completes .retainedSaveEnd s fun t =>
      t.aon.holdup = 3 ∧ t.on 0 Reg.MODE_STAT_HOT_OK = false ∧
      t.rd 0 Reg.IMG_SAVES_COUNT = satAdd 32 (s.rd 0 Reg.IMG_SAVES_COUNT) 1 := by
  refine ⟨_, congrArg Host.Outcome.next (if_pos ⟨hh, hr⟩), ?_⟩
  exact State.saveRetained_shows (s := (s.advanceTo s.aon.stillAt).advanceTime _) h

theorem State.startFlush_failed {s : State} (h : s.Sane) :
    s.startFlush.on 0 Reg.ARCH_STAT_FAILED = s.on 0 Reg.ARCH_STAT_FAILED := by
  unfold State.startFlush
  split
  · rfl
  · split
    · rfl
    · exact State.on_wr_other (f := Reg.ARCH_STAT_FLUSHING) (g := Reg.ARCH_STAT_FAILED) h 1

/-- A flush runs once it has been started, unless the Archive's memory has failed. -/
theorem State.startFlush_flushing {s : State} (h : s.Sane) (hf : s.on 0 Reg.ARCH_STAT_FAILED = false) :
    s.startFlush.on 0 Reg.ARCH_STAT_FLUSHING = true := by
  unfold State.startFlush
  split
  · assumption
  · rw [if_neg (Bool.eq_false_iff.mp hf)]
    exact State.on_wr_one h 0 rfl

/-- A record that enters the reading room is no failure. -/
theorem State.takeRecord_failed {s : State} (h : s.Sane) (sender code time : Nat) (payload : List Byte) :
    (s.takeRecord sender code time payload).on 0 Reg.ARCH_STAT_FAILED = s.on 0 Reg.ARCH_STAT_FAILED := by
  unfold State.takeRecord
  extract_lets rseq raised b gap tail marked off stored numbered filled arch entered
  have hraised : Moves 0x80000000028 s raised := Moves.ite (State.setCell_moves ..) .refl
  clear_value raised
  have hmarked : Moves 0x80000000028 s marked := Moves.ite hraised (hraised.step (State.storeByte_moves ..))
  clear_value marked
  have hstored : Moves 0x80000000028 s stored := hmarked.step (State.storeBytes_moves ..)
  clear_value stored
  have h1 := hstored.sane h
  have h2 : (stored.wr 0 Reg.ARCH_RR_TAIL_OFFSET ((off + b.length) % 0x20000)).Sane := h1.wr ..
  have h3 : numbered.Sane := h2.wr ..
  have hfilled : filled.Sane := h3.wr 0 Reg.ARCH_STAT_FILL _
  have hkeep : filled.on 0 Reg.ARCH_STAT_FAILED = s.on 0 Reg.ARCH_STAT_FAILED :=
    calc filled.on 0 Reg.ARCH_STAT_FAILED
      _ = numbered.on 0 Reg.ARCH_STAT_FAILED := State.on_wr_other (f := Reg.ARCH_STAT_FILL) h3 _
      _ = stored.on 0 Reg.ARCH_STAT_FAILED :=
        (State.on_wr_other (f := Reg.ARCH_RSEQ_NEXT) h2 _).trans (State.on_wr_other (f := Reg.ARCH_RR_TAIL_OFFSET) h1 _)
      _ = s.on 0 Reg.ARCH_STAT_FAILED := hstored.on h 0 _
  clear_value filled
  have hentered : entered.Sane := ⟨hfilled.1, hfilled.2⟩
  have hsame : entered.on 0 Reg.ARCH_STAT_FAILED = filled.on 0 Reg.ARCH_STAT_FAILED := rfl
  rw [← hsame] at hkeep
  clear_value entered
  split
  · exact (State.startFlush_failed hentered).trans hkeep
  · exact hkeep

/-- The run counters are saved, and the Archive has its power-fail record or counts it as lost or dropped. -/
def State.runSaved (s : State) : State :=
  let s := s.twinWrite 35 s.runBytes
  if s.on 0 Reg.ARCH_STAT_FAILED then s.inc 0 Reg.ARCH_LOST_COUNT
  else if s.roomFits 24 then s.takeRecord archiveSender (ownCode .fault 0x02 0) s.time [] else s.inc 0 Reg.ARCH_DROPS_COUNT

theorem State.runSaved_shows {s : State} (h : s.Sane) :
    s.runSaved.Sane ∧ s.runSaved.on 0 Reg.ARCH_STAT_FAILED = s.on 0 Reg.ARCH_STAT_FAILED := by
  unfold State.runSaved
  extract_lets u
  have hm : Moves 0x80000000080000000038 s u := State.twinWrite_moves ..
  have hu := hm.sane h
  have hkeep := hm.on h 0 Reg.ARCH_STAT_FAILED
  clear_value u
  split
  · exact ⟨(State.inc_moves ..).sane hu, (State.on_wr_other (f := Reg.ARCH_LOST_COUNT) hu _).trans hkeep⟩
  · split
    · exact ⟨(State.takeRecord_moves ..).sane hu, (State.takeRecord_failed hu ..).trans hkeep⟩
    · exact ⟨(State.inc_moves ..).sane hu, (State.on_wr_other (f := Reg.ARCH_DROPS_COUNT) hu _).trans hkeep⟩

/-- The last flush of the hold-up: the Archive admits no more. -/
def State.lastFlush (s : State) : State :=
  { s.startFlush with arch := { s.startFlush.arch with stopped := true }, aon := { s.aon with holdup := 4 } }

/-- While the last flush runs the sequence waits for it. -/
theorem State.holdupNext_waits {s : State} (h4 : s.aon.holdup = 4) (hf : s.on 0 Reg.ARCH_STAT_FLUSHING = true) :
    s.holdupNext = s := by
  have hrun : ¬ (s.aon.holdup = 4 ∧ s.on 0 Reg.ARCH_STAT_FLUSHING = false) := by rw [hf]; simp
  have h5 : ¬ (s.aon.holdup = 5 ∧ (s.arch.snapping = false ∨ s.on 0 Reg.ARCH_STAT_FAILED = true)) := by rw [h4]; simp
  unfold State.holdupNext
  rw [if_neg hrun]
  exact if_neg h5

/-- The last flush runs unless the Archive's memory has failed. -/
theorem State.lastFlush_shows {s : State} (h : s.Sane) (hf : s.on 0 Reg.ARCH_STAT_FAILED = false) :
    s.lastFlush.aon.holdup = 4 ∧ s.lastFlush.arch.stopped = true ∧ s.lastFlush.on 0 Reg.ARCH_STAT_FLUSHING = true :=
  ⟨rfl, rfl, State.startFlush_flushing h hf⟩

theorem runCounterSaveEnd_exec {s : State} (h3 : s.aon.holdup = 3) :
    exec .runCounterSaveEnd s = .next s.runSaved.lastFlush.holdupNext := by
  show execRunCounterSaveEnd s = _
  rw [execRunCounterSaveEnd, if_pos h3]
  unfold State.runSaved State.lastFlush
  rfl

theorem runCounterSaveEnd_acts {s : State} (h : s.Sane) (h3 : s.aon.holdup = 3) (hf : s.on 0 Reg.ARCH_STAT_FAILED = false) :
    Completes .runCounterSaveEnd s fun t =>
      t.aon.holdup = 4 ∧ t.arch.stopped = true ∧ t.on 0 Reg.ARCH_STAT_FLUSHING = true := by
  obtain ⟨hsaved, hkeep⟩ := State.runSaved_shows h
  have hlast := State.lastFlush_shows hsaved (hkeep.trans hf)
  refine ⟨_, runCounterSaveEnd_exec h3, ?_⟩
  rwa [State.holdupNext_waits hlast.1 hlast.2.2]

/-! ### The return of power (R463) -/

/-- What a power-on reset leaves of its cause, the hold-up and the board's inputs (R458). -/
theorem State.powerOnReset_shows {s : State} (h : s.Sane) (cause : Nat) :
    (s.powerOnReset cause).aon.held = some cause ∧ (s.powerOnReset cause).aon.holdup = 0 ∧
      (s.powerOnReset cause).on 0 Reg.PWR_STAT_PF = s.on 0 Reg.PWR_STAT_PF ∧
      (s.powerOnReset cause).rd 0 Reg.RST_CAUSE_CAUSE = cause % 16 := by
  unfold State.powerOnReset
  extract_lets torn regs exch aon kept auth keyed
  have htorn : Moves 0x8000000002c s torn := Moves.foldl (fun _ _ => State.tornWord_moves ..) (State.breakSave_moves ..).sub
  have htsane := htorn.sane h
  have hpf : keyed.on 0 Reg.PWR_STAT_PF = s.on 0 Reg.PWR_STAT_PF := by
    rw [State.on, State.rd_keep (p := State.keptField) htsane rfl (by decide), htorn.rd h 0 _, State.on]
  have hkeyed : keyed.Sane := ⟨SMap.canonical_filter _ htsane.1, SMap.sorted_keep _ htsane.2⟩
  have hheld : keyed.aon.held = some cause ∧ keyed.aon.holdup = 0 := ⟨rfl, rfl⟩
  clear_value keyed
  have hcause := hkeyed.wr 0 Reg.RST_CAUSE_CAUSE cause
  have hblock := hcause.wr 0 Reg.ARCH_ROLL_HEAD_BLOCK 287
  refine ⟨hheld.1, hheld.2, ?_, ?_⟩
  · exact (State.on_wr_other hblock _).trans ((State.on_wr_other hcause _).trans ((State.on_wr_other hkeyed _).trans hpf))
  · exact (State.rd_wr_other hblock _).trans ((State.rd_wr_other hcause _).trans (State.rd_wr_same hkeyed ..))

theorem powerReturn_acts {s : State} (h : s.Sane) (h6 : s.aon.holdup = 6) :
    Completes .powerReturn s fun t =>
      t.aon.held = some 1 ∧ t.aon.holdup = 0 ∧ t.on 0 Reg.PWR_STAT_PF = false ∧ t.rd 0 Reg.RST_CAUSE_CAUSE = 1 := by
  obtain ⟨hheld, hholdup, hpf, hcause⟩ := State.powerOnReset_shows (h.wr 0 Reg.PWR_STAT_PF 0) 1
  exact ⟨_, congrArg Host.Outcome.next (if_pos h6), hheld, hholdup, hpf.trans (State.on_wr_zero h ..), hcause⟩

/-! ### Quiescent sleep (R464, R465) -/

theorem State.endRow_asleep (s : State) (die e : Nat) : (s.endRow die e).aon.asleep = s.aon.asleep := by
  unfold State.endRow
  split
  · rename_i x hx
    split
    · extract_lets u v c aon z
      have hu : u.aon = s.aon := (Moves.ite (State.endSboxRow_moves ..) .refl : Moves 0x8000000080000000010 s u).part .aon
      clear_value u
      have hz : z.aon.asleep = u.aon.asleep := rfl
      clear_value z
      calc (z.raiseReady die c).aon.asleep
        _ = z.aon.asleep := congrArg Aon.asleep ((State.raiseReady_moves ..).part .aon)
        _ = s.aon.asleep := hz.trans (congrArg Aon.asleep hu)
    · rfl
  · rfl

/-- A row that is cut off puts the part neither to sleep nor awake. -/
theorem State.cutQuiet_asleep (s : State) (d e : Nat) : (s.cutQuiet d e).aon.asleep = s.aon.asleep := by
  unfold State.cutQuiet
  split
  · split
    · rfl
    · split
      · split
        · rfl
        · exact State.endRow_asleep ..
      · split
        · split
          rename_i v free hfree
          extract_lets entry
          have haon : free.aon = s.aon := (Moves.snd (F := 0x4) (s := s) hfree (State.drawFree_moves s)).part .aon
          clear_value entry
          exact (congrArg Aon.asleep ((State.dmaResume_moves ..).part .aon)).trans ((State.endRow_asleep ..).trans
            (congrArg Aon.asleep (((dmaChain_moves ..).part .aon).trans haon)))
        · split
          · exact (congrArg Aon.asleep ((State.coreCut_moves_any ..).part .aon)).trans (State.endRow_asleep ..)
          · exact State.endRow_asleep ..
  · rfl

theorem State.startHoldup_asleep (s : State) : s.startHoldup.aon.asleep = s.aon.asleep := by
  unfold State.startHoldup
  split
  · rfl
  · extract_lets yielded shunted left still cutRows
    have hyield : yielded.aon = s.aon := (Moves.ite (State.yieldNow_moves ..) .refl : Moves _ s yielded).part .aon
    have hshunt : shunted.aon = yielded.aon := (Moves.ite .refl (State.abandonShunt_moves ..) : Moves _ yielded shunted).part .aon
    clear_value yielded shunted
    have hcut : cutRows.aon.asleep = shunted.aon.asleep := by
      refine foldl_keeps (g := fun t : State => t.aon.asleep) (fun t d => ?_) _ _
      refine foldl_keeps (g := fun t : State => t.aon.asleep) (fun t e => ?_) _ _
      split
      · exact State.cutQuiet_asleep t d e
      · rfl
    calc cutRows.aon.asleep
      _ = shunted.aon.asleep := hcut
      _ = s.aon.asleep := congrArg Aon.asleep (hshunt.trans hyield)

theorem State.stepTime_asleep (s : State) (t : Nat) : (s.stepTime t).aon.asleep = s.aon.asleep := rfl

theorem State.timeFromRtc_asleep (s : State) : s.timeFromRtc.aon.asleep = s.aon.asleep := by
  unfold State.timeFromRtc
  split
  · exact (congrArg Aon.asleep ((State.archive_moves ..).part .aon)).trans (State.stepTime_asleep s 0)
  · exact State.stepTime_asleep ..

theorem State.timeFromRtc_firmware (s : State) : s.timeFromRtc.firmware = s.firmware :=
  (State.timeFromRtc_moves s).part .firmware

/-- A part that wakes runs its firmware, awake. -/
theorem State.wakeUp_shows (s : State) (cause : Nat) : (s.wakeUp cause).aon.asleep = false ∧ (s.wakeUp cause).firmware = true := by
  unfold State.wakeUp
  extract_lets aon awake locked
  split
  rename_i n free hfree
  extract_lets core started noted retained timed
  have hawake : awake.aon.asleep = false ∧ awake.firmware = true := ⟨rfl, rfl⟩
  clear_value awake
  have hlocked : Moves 0xfffffffffffffffffff7fff7ffffffff awake locked :=
    (State.wr_moves ..).sub (Moves.at 1 rfl) |>.step (State.wr_moves ..) (Moves.at 1 rfl)
  have hfree : Moves 0xfffffffffffffffffff7fff7ffffffff awake free :=
    Moves.snd hfree (hlocked.step (State.drawFree_moves ..))
  have hstarted : Moves 0xfffffffffffffffffff7fff7ffffffff awake started := hfree.step (State.setCore_moves ..)
  have hnoted : Moves 0xfffffffffffffffffff7fff7ffffffff awake noted :=
    (hstarted.step (State.wr_moves ..) (Moves.at 2 rfl)).step (State.irq_moves ..) (Moves.at 2 rfl)
  have hretained : Moves 0xfffffffffffffffffff7fff7ffffffff awake retained :=
    Moves.foldl (fun _ _ => Moves.sub (State.retainDie_moves ..)) (hnoted.step (State.retainKeeper_moves ..))
  clear_value retained
  have hlinks : Moves 0xfffffffffffffffffff7fff7ffffffff awake ((List.range 4).foldl State.showLink retained) :=
    Moves.foldl (fun _ _ => Moves.sub (State.showLink_moves_any ..)) hretained
  have hasleep : timed.aon.asleep = false :=
    (State.timeFromRtc_asleep _).trans ((congrArg Aon.asleep (hlinks.part .aon)).trans hawake.1)
  have hfirmware : timed.firmware = true :=
    (State.timeFromRtc_firmware _).trans ((hlinks.part .firmware).trans hawake.2)
  clear_value timed
  split
  · exact ⟨(State.startHoldup_asleep timed).trans hasleep, ((State.startHoldup_moves timed).part .firmware).trans hfirmware⟩
  · exact ⟨hasleep, hfirmware⟩

theorem wake_acts {s : State} {c : Nat} (hc : (List.range 9).find? (bit s.aon.wakes ·) = some c) (ha : s.aon.asleep = true)
    (hr : s.refGood 0 = true ∨ s.refGood 1 = true) :
    Completes (.wake false) s fun t => t.aon.asleep = false ∧ t.firmware = true := by
  have hexec : exec (.wake false) s = .next (s.wakeUp c) := by
    show execWake false s = _
    rw [execWake, if_pos ⟨ha, hr⟩]
    dsimp only
    rw [if_neg (by simp), Nat.or_zero, hc]
  exact ⟨_, hexec, s.wakeUp_shows c⟩

/-- The entry at the head of Q13 is taken when it has the tag. -/
theorem State.serviceEntry_takes {s : State} {e : QEntry} {rest : List QEntry} {tag : Nat} (hq : s.ring 0 13 = e :: rest)
    (hf : s.firmware = true) (ht : e.hi % 2 ^ 16 = tag) (act : State → QEntry → State) :
    s.serviceEntry tag act = act (s.popQueue 0 13).1 e := by
  rw [State.serviceEntry, hq]
  exact if_pos ⟨hf, ht⟩

theorem State.maySleep_congr {s t : State} (h : t.regs = s.regs) : t.maySleep = s.maySleep := by
  rw [State.maySleep, State.maySleep, State.mode, State.mode, State.on, State.on, State.on, State.on, State.rd_congr h,
    State.rd_congr h, State.rd_congr h]

theorem sleepRequest_acts {s : State} {e : QEntry} {rest : List QEntry} (hq : s.ring 0 13 = e :: rest) (hf : s.firmware = true)
    (ht : e.hi % 2 ^ 16 = 0xC010) (hm : s.maySleep = true) (blocks tallies : List Nat) :
    Completes (.sleepRequest blocks tallies) s fun t => t.aon.asleep = true ∧ t.firmware = false ∧ t.aon.wakes = 0 := by
  have hregs : (s.popQueue 0 13).1.regs = s.regs := (State.popQueue_moves s 0 13).part .regs
  have hexec : exec (.sleepRequest blocks tallies) s = .next ((s.popQueue 0 13).1.fallAsleep blocks tallies) := by
    show execSleepRequest blocks tallies s = _
    rw [execSleepRequest, State.serviceEntry_takes hq hf ht, if_pos ((State.maySleep_congr hregs).trans hm)]
  exact ⟨_, hexec, rfl, rfl, rfl⟩

/-! ### Temperatures (R532) -/

theorem temperatureSample_acts {s : State} (h : Int) (rest : List Int) (hf : s.firmware = true) :
    Completes (.temperatureSample (h :: rest)) s fun t => t.aon.seconds = s.aon.seconds + 1 :=
  ⟨_, congrArg Host.Outcome.next (if_pos hf), rfl⟩

/-- Settles O20: the stages of the hold-up one by one, then sleep, wake and the temperatures. -/
theorem powerFailureIsHeldUp : Obligations.PowerFailureIsHeldUp :=
  fun _ h => ⟨powerFail_acts, retainedSaveEnd_acts h, runCounterSaveEnd_acts h, powerReturn_acts h, fun _ => wake_acts,
    fun _ _ blocks tallies hq hf ht hm => sleepRequest_acts hq hf ht hm blocks tallies,
    fun x rest hf => temperatureSample_acts x rest hf⟩

end Sys2Proof.Machine
end
section
/-! SUPPORT.  What the reply to an accepted command leaves (R482, R483). -/

open Sys2Proof Sys2Proof.Machine Sys2Proof.Bits
namespace Sys2Proof.Machine
set_option Elab.async false

theorem State.accepts.params {s : State} {f : AuthFrame} {op : Nat} {roles : Nat → List Byte → Bool} {format : List Byte → Bool}
    (h : s.accepts f [] op roles format) : format (frameParams f) = true := by
  obtain ⟨-, -, -, -, -, -, -, hform⟩ := h
  exact hform

/-- `t` is the state that a command came to, after its reply. -/
structure AuthDone.Replied (d : AuthDone) (t : State) : Prop where
  moves : Moves 0x1210040060000008f000000614 d.st t
  result : t.rd 0 Reg.AUTH_STAT_RESULT = d.result.code
  code : t.rd 0 Reg.AUTH_STAT_CODE = d.st.rd 0 Reg.AUTH_STAT_CODE

/-- The reply leaves `AUTH.STAT.CODE`. -/
theorem State.code_finishFrame {s : State} (h : s.Sane) (f : AuthFrame) (r : AuthResult) (detail : Nat) (key : List Byte) :
    (s.finishFrame f r detail key).rd 0 Reg.AUTH_STAT_CODE = s.rd 0 Reg.AUTH_STAT_CODE := by
  have hresult := h.wr 0 Reg.AUTH_STAT_RESULT r.code
  have hop := hresult.wr 0 Reg.AUTH_STAT_OP (frameOp f)
  have hslot := hop.wr 0 Reg.AUTH_STAT_SLOT (byteAt f.bytes 2)
  rw [State.finishFrame_rd, (State.sendReply_moves ..).rd (hslot.wr 0 Reg.AUTH_STAT_SOURCE f.source) 0 Reg.AUTH_STAT_CODE,
    State.rd_wr_other hslot, State.rd_wr_other hop, State.rd_wr_other hresult, State.rd_wr_other h]

/-- An accepted command runs to its reply. -/
theorem command_replies {c : Instr} {s : State} {f : AuthFrame} {op : Nat} {roles : Nat → List Byte → Bool}
    {format : List Byte → Bool} {act : State → AuthFrame → List Byte → AuthDone} {d : AuthDone}
    (hexec : exec c s = .next (s.authCommand op roles format act)) (ha : s.accepts f [] op roles format)
    (hact : act (s.accepted f []) f (frameParams f) = d) (hsane : d.st.Sane) (hauth : d.st.auth = (s.accepted f []).auth) :
    ∃ t, exec c s = .next t ∧ d.Replied t := by
  obtain ⟨key, heq⟩ := State.authCommand_accepts ha hact hauth
  exact ⟨_, hexec.trans (congrArg _ heq), State.finishFrame_moves .., State.result_finishFrame hsane f d.result d.detail key,
    State.code_finishFrame hsane f d.result d.detail key⟩

end Sys2Proof.Machine
end
section
/-! SUPPORT.  Program images and the program record, the load of a Safe image, and the operations of the xSPI port (R204, R213,
R238). -/

open Sys2Proof Sys2Proof.Machine Sys2Proof.Bits
namespace Sys2Proof.Machine
set_option Elab.async false

/-! ### The program that the record names (R213) -/

theorem exec_programImageLoad {s : State} {r : List Byte} (hf : s.firmware = true) (hm : s.mode = 0)
    (hr : s.twinData? 2 = some r) (hn : leAt r 0 8 ≠ 0) (directory image safe : List Byte) :
    exec (.programImageLoad directory image safe) s = .next (s.loadProgram r image safe) := by
  show execProgramImageLoad directory image safe s = _
  rw [execProgramImageLoad, if_pos ⟨hf, hm⟩, hr]
  dsimp only
  rw [if_neg hn]

/-- Rewriting the status block leaves the program that runs. -/
theorem State.showChange_running (s : State) : s.showChange.change.running = s.change.running := by
  unfold State.showChange
  extract_lets change counted c
  have hcounted : counted.change.running = s.change.running := rfl
  clear_value counted
  exact (congrArg Change.running ((State.storeBytes_moves ..).part .change)).trans hcounted

/-- An image that agrees with the record becomes the running program. -/
theorem State.loadProgram_runs (s : State) {r image : List Byte} (hok : programOk image r = true) (safe : List Byte) :
    (s.loadProgram r image safe).prog.failed = false ∧ (s.loadProgram r image safe).change.running = cut r 8 32 := by
  rw [State.loadProgram, if_pos hok]
  exact ⟨congrArg Prog.failed ((State.showChange_moves _).part .prog), State.showChange_running _⟩

/-- Another image is marked as failed. -/
theorem State.loadProgram_fails (s : State) {r image : List Byte} (hbad : programOk image r = false) (safe : List Byte) :
    (s.loadProgram r image safe).prog.failed = true := by
  rw [State.loadProgram, if_neg (Bool.not_eq_true _ ▸ hbad), State.failProgram]
  exact congrArg Prog.failed ((State.archive_moves ..).part .prog)

theorem programImageLoad_acts {s : State} {r : List Byte} (hf : s.firmware = true) (hm : s.mode = 0)
    (hr : s.twinData? 2 = some r) (hn : leAt r 0 8 ≠ 0) (directory image safe : List Byte) :
    ∃ t, exec (.programImageLoad directory image safe) s = .next t ∧
      ((programOk image r = true → t.prog.failed = false ∧ t.change.running = cut r 8 32) ∧
      (programOk image r = false → t.prog.failed = true)) :=
  ⟨_, exec_programImageLoad hf hm hr hn directory image safe, fun hok => s.loadProgram_runs hok safe,
    fun hbad => s.loadProgram_fails hbad safe⟩

/-! ### SAFE_IMAGE_LOAD (R204) -/

/-- The parameters of SAFE_IMAGE_LOAD: an address, the length of an image, a digest. -/
def safeParams (p : List Byte) : Bool := p.length == 40 && ofBE (cut p 4 4) == imageBytes

/-- Whether an image has the length and the digest that the parameters name. -/
def safeRight (image p : List Byte) : Bool := image.length == imageBytes && Sha.sha256 image == cut p 8 32

/-- The program record that names a Safe image in the Repository. -/
def State.safeRecord (s : State) (p : List Byte) : List Byte :=
  s.recordNow.take 40 ++ toLE 4 (ofBE (cut p 0 4)) ++ toLE 4 imageBytes ++ cut p 8 32 ++ s.recordNow.drop 80

/-- What SAFE_IMAGE_LOAD leaves: the record `r`, and the image when it is the right one. -/
def State.safeLoaded (s : State) (image r : List Byte) (right : Bool) : State :=
  if right then (s.twinWrite 2 r).stageSafe image else s.twinWrite 2 r

/-- What SAFE_IMAGE_LOAD comes to. -/
def safeLoadAct (image : List Byte) (s : State) (_ : AuthFrame) (p : List Byte) : AuthDone :=
  if s.on 0 Reg.IMG_STAT_SAFE_LOADING then ⟨s, .refused, 1⟩
  else
    ⟨if image.length = imageBytes ∧ Sha.sha256 image = cut p 8 32 then (s.twinWrite 2 (s.safeRecord p)).stageSafe image
      else s.twinWrite 2 (s.safeRecord p), .started, 0⟩

theorem exec_safeImageLoad (image : List Byte) (s : State) :
    exec (.safeImageLoad image) s = .next (s.authCommand 0x10 rolesEW safeParams (safeLoadAct image)) := rfl

/-- With no load under way the record is written, and the right image staged. -/
theorem safeLoadAct_idle {s : State} (hidle : s.on 0 Reg.IMG_STAT_SAFE_LOADING = false) (image : List Byte) (f : AuthFrame)
    (p : List Byte) : safeLoadAct image s f p = ⟨s.safeLoaded image (s.safeRecord p) (safeRight image p), .started, 0⟩ := by
  have hright : safeRight image p = true ↔ image.length = imageBytes ∧ Sha.sha256 image = cut p 8 32 := by
    rw [safeRight, Bool.and_eq_true, beq_iff_eq, beq_iff_eq]
  rw [safeLoadAct, if_neg (Bool.eq_false_iff.mp hidle), State.safeLoaded]
  simp only [hright]

theorem State.safeLoaded_moves (s : State) (image r : List Byte) (right : Bool) :
    Moves 0x200000080000000080000000038 s (s.safeLoaded image r right) := by
  have hrecord : Moves 0x200000080000000080000000038 s (s.twinWrite 2 r) := (State.twinWrite_moves ..).sub
  exact Moves.ite (hrecord.step (State.stageSafe_moves ..)) hrecord

/-- A load is under way when the image was the right one. -/
theorem State.safeLoaded_loading {s : State} (h : s.Sane) (hidle : s.on 0 Reg.IMG_STAT_SAFE_LOADING = false)
    (image r : List Byte) (right : Bool) : (s.safeLoaded image r right).on 0 Reg.IMG_STAT_SAFE_LOADING = right := by
  have hrecord := State.twinWrite_moves s 2 r
  cases right with
  | false => exact (hrecord.on h 0 Reg.IMG_STAT_SAFE_LOADING).trans hidle
  | true => exact State.on_wr_one ((State.storeBytes_moves ..).sane (hrecord.sane h)) 0 rfl

theorem safeImageLoad_acts {s : State} (h : s.Sane) {f : AuthFrame} {image : List Byte}
    (ha : s.accepts f [] 0x10 rolesEW safeParams) (hl : s.on 0 Reg.IMG_STAT_SAFE_LOADING = false) :
    ∃ t, exec (.safeImageLoad image) s = .next t ∧ (t.rd 0 Reg.AUTH_STAT_RESULT = 1 ∧
      t.on 0 Reg.IMG_STAT_SAFE_LOADING = safeRight image (frameParams f)) := by
  have hu := State.accepted_sane h f
  have hidle : (s.accepted f []).on 0 Reg.IMG_STAT_SAFE_LOADING = false := ((s.accepted_moves f []).on h 0 _).trans hl
  have hmoves := (s.accepted f []).safeLoaded_moves image ((s.accepted f []).safeRecord (frameParams f))
    (safeRight image (frameParams f))
  obtain ⟨t, hexec, ht⟩ := command_replies (exec_safeImageLoad image s) ha (safeLoadAct_idle hidle image f _) (hmoves.sane hu)
    (hmoves.part .auth)
  exact ⟨t, hexec, ht.result, (ht.moves.on (hmoves.sane hu) 0 Reg.IMG_STAT_SAFE_LOADING).trans
    (State.safeLoaded_loading hu hidle ..)⟩

/-! ### The xSPI port (R238) -/

theorem exec_xspiGo {s : State} {w : Who} {word : Nat} (ht : s.takes w 0 0x23 = true)
    (hf : s.fits w 0 0x23 0x10C (word ||| 2 ^ 24) = true) :
    exec (.xspiGo w word) s =
      .next (xspiCmd (written s w 0 0x23 0x10C (word ||| 2 ^ 24)) (word ||| 2 ^ 24)) :=
  congrArg Host.Outcome.next (writeThen_fits ht hf)

/-- Whether an operation runs past the end of the device. -/
def State.xspiTooFar (s : State) : Bool :=
  decide (2 ^ s.rd 0 Reg.XSPI_CFG_SIZE < s.rd 0 Reg.XSPI_ADDR_ADDR + s.rd 0 Reg.XSPI_LEN_BYTES)

/-- An operation that is commanded, before its extent is looked at. -/
def State.xspiFresh (s : State) : State := (s.wr 0 Reg.XSPI_STAT_ERROR 0).wr 0 Reg.XSPI_DONE_BYTES 0

theorem State.xspiFresh_rd {s : State} (h : s.Sane) {g : FieldDef} (h1 : apart g Reg.XSPI_STAT_ERROR)
    (h2 : apart g Reg.XSPI_DONE_BYTES) : s.xspiFresh.rd 0 g = s.rd 0 g := by
  rw [State.xspiFresh, State.rd_wr_other (h.wr ..) _ h2, State.rd_wr_other h _ h1]

theorem State.xspiFresh_tooFar {s : State} (h : s.Sane) : s.xspiFresh.xspiTooFar = s.xspiTooFar := by
  rw [State.xspiTooFar, State.xspiFresh_rd h (by decide) (by decide), State.xspiFresh_rd h (by decide) (by decide),
    State.xspiFresh_rd h (by decide) (by decide), State.xspiTooFar]

/-- A command with GO set, by whether it runs past the end of the device. -/
theorem xspiCmd_go {v : Nat} (hgo : bit v 24 = true) (s : State) : xspiCmd s v =
    if s.xspiFresh.xspiTooFar then s.xspiFresh.wr 0 Reg.XSPI_STAT_RANGE 1
    else (s.xspiFresh.wr 0 Reg.XSPI_STAT_RANGE 0).wr 0 Reg.XSPI_STAT_BUSY 1 := by
  rw [xspiCmd, hgo, State.xspiTooFar]
  simp only [decide_eq_true_eq]
  rfl

theorem xspiCmd_shows {s : State} (h : s.Sane) {v : Nat} (hgo : bit v 24 = true) :
    (xspiCmd s v).on 0 Reg.XSPI_STAT_RANGE = s.xspiTooFar ∧ (xspiCmd s v).on 0 Reg.XSPI_STAT_ERROR = false ∧
      (xspiCmd s v).rd 0 Reg.XSPI_DONE_BYTES = 0 ∧
      (s.xspiTooFar = false → (xspiCmd s v).on 0 Reg.XSPI_STAT_BUSY = true) := by
  have herror := h.wr 0 Reg.XSPI_STAT_ERROR 0
  have hfresh : s.xspiFresh.Sane := herror.wr ..
  have hnoError : s.xspiFresh.on 0 Reg.XSPI_STAT_ERROR = false := (State.on_wr_other herror 0).trans (State.on_wr_zero h ..)
  have hnoBytes : s.xspiFresh.rd 0 Reg.XSPI_DONE_BYTES = 0 := State.rd_wr_same herror ..
  rw [xspiCmd_go hgo, State.xspiFresh_tooFar h]
  cases s.xspiTooFar
  · have hrange := hfresh.wr 0 Reg.XSPI_STAT_RANGE 0
    exact ⟨(State.on_wr_other hrange 1).trans (State.on_wr_zero hfresh ..),
      ((State.on_wr_other hrange 1).trans (State.on_wr_other hfresh 0)).trans hnoError,
      ((State.rd_wr_other hrange 1).trans (State.rd_wr_other hfresh 0)).trans hnoBytes,
      fun _ => State.on_wr_one hrange 0 rfl⟩
  · exact ⟨State.on_wr_one hfresh 0 rfl, (State.on_wr_other hfresh 1).trans hnoError,
      (State.rd_wr_other hfresh 1).trans hnoBytes, fun hc => nomatch hc⟩

theorem xspiGo_acts {s : State} (h : s.Sane) {w : Who} {word : Nat} (ht : s.takes w 0 0x23 = true)
    (hf : s.fits w 0 0x23 0x10C (word ||| 2 ^ 24) = true) :
    ∃ t, exec (.xspiGo w word) s = .next t ∧
      (t.on 0 Reg.XSPI_STAT_RANGE = s.xspiTooFar ∧ t.on 0 Reg.XSPI_STAT_ERROR = false ∧ t.rd 0 Reg.XSPI_DONE_BYTES = 0 ∧
      (s.xspiTooFar = false → t.on 0 Reg.XSPI_STAT_BUSY = true)) := by
  have hgo : bit (word ||| 2 ^ 24) 24 = true := by
    rw [bit_eq_testBit, Nat.testBit_or, Nat.testBit_two_pow_self, Bool.or_true]
  have hfar : (written s w 0 0x23 0x10C (word ||| 2 ^ 24)).xspiTooFar = s.xspiTooFar := by
    rw [State.xspiTooFar, written_rd h, written_rd h, written_rd h, State.xspiTooFar]
  refine ⟨_, exec_xspiGo ht hf, ?_⟩
  rw [← hfar]
  exact xspiCmd_shows (written_sane h ..) hgo

/-- An operation ends with a number of bytes. -/
def State.xspiOver (s : State) (n : Nat) : State := ((s.wr 0 Reg.XSPI_STAT_BUSY 0).wr 0 Reg.XSPI_DONE_BYTES n).irq 0 0x23 0

theorem State.xspiOver_shows {s : State} (h : s.Sane) (n : Nat) :
    (s.xspiOver n).on 0 Reg.XSPI_STAT_BUSY = false ∧ (s.xspiOver n).rd 0 Reg.XSPI_DONE_BYTES = n % 2 ^ 25 ∧
      bit ((s.xspiOver n).rd 0 (IRQ_RAW_SRC 0x23)) 0 = true := by
  have hidle := h.wr 0 Reg.XSPI_STAT_BUSY 0
  have hbytes := hidle.wr 0 Reg.XSPI_DONE_BYTES n
  exact ⟨(State.on_wr_other hbytes _).trans ((State.on_wr_other hidle n).trans (State.on_wr_zero h ..)),
    (State.irq_rd hbytes (by decide)).trans (State.rd_wr_same hidle ..), State.bit_irq hbytes 0 0x23 (by decide)⟩

/-- The end of an operation: a write has no data to store, a read stores as many bytes as it was to take. -/
theorem exec_xspiDone {s : State} {data : List Byte} (hb : s.on 0 Reg.XSPI_STAT_BUSY = true)
    (hd : s.on 0 Reg.XSPI_XCMD_DIR = true ∨ data.length = s.rd 0 Reg.XSPI_LEN_BYTES) :
    exec (.xspiDone data) s = .next ((if s.on 0 Reg.XSPI_XCMD_DIR then s else xspiStore s data).xspiOver
      (s.rd 0 Reg.XSPI_LEN_BYTES)) := by
  show execXspiDone data s = _
  rw [execXspiDone, if_pos hb]
  by_cases hw : s.on 0 Reg.XSPI_XCMD_DIR = true
  · rw [if_pos hw, if_pos hw]
    rfl
  · rw [if_neg hw, if_neg hw, if_pos (hd.resolve_left hw)]
    rfl

theorem xspiDone_acts {s : State} (h : s.Sane) {data : List Byte} (hb : s.on 0 Reg.XSPI_STAT_BUSY = true)
    (hd : s.on 0 Reg.XSPI_XCMD_DIR = true ∨ data.length = s.rd 0 Reg.XSPI_LEN_BYTES) :
    ∃ t, exec (.xspiDone data) s = .next t ∧
      (t.on 0 Reg.XSPI_STAT_BUSY = false ∧ t.rd 0 Reg.XSPI_DONE_BYTES = s.rd 0 Reg.XSPI_LEN_BYTES % 2 ^ 25 ∧
      bit (t.rd 0 (IRQ_RAW_SRC 0x23)) 0 = true) := by
  refine ⟨_, exec_xspiDone hb hd, State.xspiOver_shows ?_ _⟩
  split
  · exact h
  · exact (xspiStore_moves ..).sane h

theorem xspiDqsTimeout_acts {s : State} (h : s.Sane) (hb : s.on 0 Reg.XSPI_STAT_BUSY = true)
    (hd : s.on 0 Reg.XSPI_XCMD_DIR = false) :
    ∃ t, exec .xspiDqsTimeout s = .next t ∧
      (t.on 0 Reg.XSPI_STAT_BUSY = false ∧ t.on 0 Reg.XSPI_STAT_ERROR = true ∧
      t.rd 0 Reg.XSPI_ERRORS_COUNT = satAdd 32 (s.rd 0 Reg.XSPI_ERRORS_COUNT) 1) := by
  have hidle := h.wr 0 Reg.XSPI_STAT_BUSY 0
  have herror := hidle.wr 0 Reg.XSPI_STAT_ERROR 1
  have hcount := (State.inc_moves _ 0 Reg.XSPI_ERRORS_COUNT).sane herror
  refine ⟨_, congrArg Host.Outcome.next (if_pos (by rw [hb, hd]; rfl)), ?_, ?_, ?_⟩
  · exact (State.on_wr_other hcount _).trans ((State.on_wr_other herror _).trans ((State.on_wr_other hidle _).trans
      (State.on_wr_zero h ..)))
  · exact (State.on_wr_other hcount _).trans ((State.on_wr_other herror _).trans (State.on_wr_one hidle 0 rfl))
  · rw [State.irq_rd hcount (by decide), State.inc_rd_same herror, State.rd_wr_other hidle, State.rd_wr_other h]
    rfl

/-- Settles O35: program images, then SAFE_IMAGE_LOAD, then the start, the end and the timeout of an xSPI operation. -/
theorem imagesAndXspiAct : Obligations.ImagesAndXspiAct :=
  fun _ _ h => ⟨fun directory image safe _ hf hm hr hn => programImageLoad_acts hf hm hr hn directory image safe,
    fun _ _ ha hl => safeImageLoad_acts h ha hl, fun _ ht hf => xspiGo_acts h ht hf, fun _ hb hd => xspiDone_acts h hb hd,
    fun hb hd => xspiDqsTimeout_acts h hb hd⟩

end Sys2Proof.Machine
end
section
/-! SUPPORT.  Critical commands on the mode, the time, block protect, the trim and the keys (R190, R401, R417, R450, R483, R485, R487). -/

open Sys2Proof Sys2Proof.Machine Sys2Proof.Bits
namespace Sys2Proof.Machine
set_option Elab.async false

/-! ### MODE_SET (R190) -/

/-- The parameters of MODE_SET: a request, a start kind, two zero bytes. -/
def modeSetParams (p : List Byte) : Bool :=
  p.length == 4 && decide (1 ≤ byteAt p 0) && decide (byteAt p 0 ≤ 4) && decide (byteAt p 1 ≤ 2) && zeroAt p 2 2

/-- What MODE_SET comes to. -/
def modeSetAct (s : State) (_ : AuthFrame) (p : List Byte) : AuthDone :=
  match s.refusal (byteAt p 0) (byteAt p 1) with
  | some c => ⟨s.modeRequest (byteAt p 0) (byteAt p 1), .refused, c⟩
  | none => ⟨s.modeRequest (byteAt p 0) (byteAt p 1), .done, 0⟩

theorem modeSetAct_admitted {s : State} {p : List Byte} (hr : s.refusal (byteAt p 0) (byteAt p 1) = none) (f : AuthFrame) :
    modeSetAct s f p = ⟨s.modeRequest (byteAt p 0) (byteAt p 1), .done, 0⟩ := by rw [modeSetAct, hr]

theorem modeSetAct_refused {s : State} {p : List Byte} {c : Nat} (hr : s.refusal (byteAt p 0) (byteAt p 1) = some c)
    (f : AuthFrame) : modeSetAct s f p = ⟨s.modeRequest (byteAt p 0) (byteAt p 1), .refused, c⟩ := by rw [modeSetAct, hr]

theorem exec_modeSet (s : State) : exec .modeSet s = .next (s.authCommand 0x01 rolesOEW modeSetParams modeSetAct) := rfl

theorem request_of_modeSetParams {p : List Byte} (h : modeSetParams p = true) : byteAt p 0 ∈ [1, 2, 3, 4] := by
  simp only [modeSetParams, Bool.and_eq_true, decide_eq_true_eq] at h
  obtain ⟨⟨⟨⟨-, hlow⟩, hhigh⟩, -⟩, -⟩ := h
  simp only [List.mem_cons, List.not_mem_nil, or_false]
  omega

section
variable {s : State} (h : s.Sane) {f : AuthFrame} (ha : s.accepts f [] 0x01 rolesOEW modeSetParams)
include h ha

theorem modeSet_admitted (hr : (s.accepted f []).refusal (byteAt (frameParams f) 0) (byteAt (frameParams f) 1) = none) :
    ∃ t, exec .modeSet s = .next t ∧
      (t.rd 0 Reg.AUTH_STAT_RESULT = 0 ∧ t.on 0 Reg.MODE_STAT_PENDING = true ∧
      t.rd 0 Reg.MODE_STAT_PENDING_CMD = byteAt (frameParams f) 0 ∧ t.prog.accept = s.cycle) := by
  have hu := State.accepted_sane h f
  have hcycle : (s.accepted f []).cycle = s.cycle := (s.accepted_moves f []).part .cycle
  obtain ⟨hpend, hcmd, haccept, -, -⟩ := State.modeRequest_pends hu (request_of_modeSetParams ha.params) hr
  have hm := State.modeRequest_moves (s.accepted f []) (byteAt (frameParams f) 0) (byteAt (frameParams f) 1)
  obtain ⟨t, hexec, ht⟩ := command_replies (exec_modeSet s) ha (modeSetAct_admitted hr f) (hm.sane hu) (hm.part .auth)
  exact ⟨t, hexec, ht.result, (ht.moves.on (hm.sane hu) 0 Reg.MODE_STAT_PENDING).trans hpend,
    (ht.moves.rd (hm.sane hu) 0 Reg.MODE_STAT_PENDING_CMD).trans hcmd,
    (congrArg Prog.accept (ht.moves.part .prog)).trans (haccept.trans hcycle)⟩

theorem modeSet_refused {c : Nat}
    (hr : (s.accepted f []).refusal (byteAt (frameParams f) 0) (byteAt (frameParams f) 1) = some c) :
    ∃ t, exec .modeSet s = .next t ∧
      (t.rd 0 Reg.AUTH_STAT_RESULT = 2 ∧ t.rd 0 Reg.MODE_REASON_REFUSE = c % 16 ∧ t.prog = s.prog) := by
  have hu := State.accepted_sane h f
  have hprog : (s.accepted f []).prog = s.prog := (s.accepted_moves f []).part .prog
  obtain ⟨hcode, -, hkeep, -⟩ := State.modeRequest_shows_refusal hu (request_of_modeSetParams ha.params) hr
  have hm := State.modeRequest_moves (s.accepted f []) (byteAt (frameParams f) 0) (byteAt (frameParams f) 1)
  obtain ⟨t, hexec, ht⟩ := command_replies (exec_modeSet s) ha (modeSetAct_refused hr f) (hm.sane hu) (hm.part .auth)
  exact ⟨t, hexec, ht.result, (ht.moves.rd (hm.sane hu) 0 Reg.MODE_REASON_REFUSE).trans hcode,
    (ht.moves.part .prog).trans (hkeep.trans hprog)⟩

end

/-! ### TIME_SET (R450) -/

def timeSetParams (p : List Byte) : Bool := p.length == 8

/-- Global time is to go on from the seconds `v`. -/
def State.setToSeconds (s : State) (v : Nat) : State := { s with aon := { s.aon with setTo := v } }

theorem State.setToSeconds_setTo (s : State) (v : Nat) : (s.setToSeconds v).aon.setTo = v := rfl
theorem State.setToSeconds_load (s : State) (v : Nat) : (s.setToSeconds v).aon.load = s.aon.load := rfl
theorem State.setToSeconds_on (s : State) (v die : Nat) (g : FieldDef) : (s.setToSeconds v).on die g = s.on die g := rfl
theorem State.setToSeconds_rtcStaged (s : State) (v : Nat) : (s.setToSeconds v).rtcStaged = s.rtcStaged := rfl

/-- The clock is to be loaded with the seconds `v` of global time. -/
def State.timeStaged (s : State) (v : Nat) : State := ((s.rtcStage (v - rtcOrigin)).rtcPend 3).setToSeconds v

/-- What TIME_SET comes to. -/
def timeSetAct (s : State) (_ : AuthFrame) (p : List Byte) : AuthDone :=
  if s.mode ≠ 0 ∨ s.aon.load.isSome = true then ⟨s, .refused, 0⟩ else ⟨s.timeStaged (ofBE p), .done, 0⟩

theorem exec_timeSet (s : State) : exec .timeSet s = .next (s.authCommand 0x0E rolesEW timeSetParams timeSetAct) := rfl

theorem timeSetAct_free {s : State} (hm : s.mode = 0) (hl : s.aon.load = none) (f : AuthFrame) (p : List Byte) :
    timeSetAct s f p = ⟨s.timeStaged (ofBE p), .done, 0⟩ :=
  if_neg (by rw [hm, hl]; decide)

theorem timeSetAct_taken {s : State} (hn : s.mode ≠ 0 ∨ s.aon.load.isSome = true) (f : AuthFrame) (p : List Byte) :
    timeSetAct s f p = ⟨s, .refused, 0⟩ :=
  if_pos hn

theorem State.rtcStaged_congr {s t : State} (hlo : t.rd 0 Reg.RTC_STAGE_LO_SEC = s.rd 0 Reg.RTC_STAGE_LO_SEC)
    (hhi : t.rd 0 Reg.RTC_STAGE_HI_SEC = s.rd 0 Reg.RTC_STAGE_HI_SEC) : t.rtcStaged = s.rtcStaged := by
  rw [State.rtcStaged, State.rtcStaged, State.rd2, State.rd2, hlo, hhi]

/-- Staged seconds read back, cut to the RTC's range. -/
theorem State.rtcStaged_rtcStage {s : State} (h : s.Sane) (v : Nat) : (s.rtcStage v).rtcStaged = min lastSecond v := by
  have hrange : min lastSecond v ≤ 12622780799 := Nat.min_le_left ..
  rw [State.rtcStage, State.rtcStaged, State.rd2, State.wr2, State.rd_wr_same (h.wr ..), State.rd_wr_other (h.wr ..),
    State.rd_wr_same h]
  show min lastSecond v % 2 ^ 32 % 2 ^ 32 + min lastSecond v / 2 ^ 32 % 2 ^ 2 * 2 ^ 32 = _
  omega

/-- A load that is commanded waits for its instant; the staged seconds stay. -/
theorem State.rtcPend_shows {s : State} (h : s.Sane) (kind : Nat) :
    (s.rtcPend kind).aon.load = some (kind, s.time) ∧ (s.rtcPend kind).rtcStaged = s.rtcStaged ∧
      (s.rtcPend kind).on 0 Reg.RTC_STAT_LOAD_PENDING = true :=
  ⟨rfl, State.rtcStaged_congr (State.rd_wr_other (f := Reg.RTC_STAT_LOAD_PENDING) h 1)
    (State.rd_wr_other (f := Reg.RTC_STAT_LOAD_PENDING) h 1), State.on_wr_one h 0 rfl⟩

theorem State.timeStaged_moves (s : State) (v : Nat) : Moves 0x40000008080000000010 s (s.timeStaged v) :=
  Moves.set_51 ((State.rtcStage_moves ..).sub.step (State.rtcPend_moves ..))

theorem State.timeStaged_shows {s : State} (h : s.Sane) (v : Nat) :
    (s.timeStaged v).aon.load = some (3, s.time) ∧ (s.timeStaged v).aon.setTo = v ∧
      (s.timeStaged v).rtcStaged = min lastSecond (v - rtcOrigin) ∧
      (s.timeStaged v).on 0 Reg.RTC_STAT_LOAD_PENDING = true := by
  have hstage := State.rtcStage_moves s (v - rtcOrigin)
  obtain ⟨hload, hstaged, hpend⟩ := State.rtcPend_shows (hstage.sane h) 3
  rw [State.rtcStaged_rtcStage h] at hstaged
  rw [hstage.part .time] at hload
  rw [State.timeStaged, State.setToSeconds_load, State.setToSeconds_setTo, State.setToSeconds_rtcStaged, State.setToSeconds_on]
  exact ⟨hload, rfl, hstaged, hpend⟩

section
variable {s : State} (h : s.Sane) {f : AuthFrame} (ha : s.accepts f [] 0x0E rolesEW timeSetParams)
include h ha

theorem timeSet_stages (hm : s.mode = 0) (hl : s.aon.load = none) :
    ∃ t, exec .timeSet s = .next t ∧
      (t.rd 0 Reg.AUTH_STAT_RESULT = 0 ∧ t.aon.load = some (3, s.time) ∧ t.aon.setTo = ofBE (frameParams f) ∧
      t.rtcStaged = min lastSecond (ofBE (frameParams f) - rtcOrigin) ∧ t.on 0 Reg.RTC_STAT_LOAD_PENDING = true) := by
  have hacc := s.accepted_moves f []
  have hu := hacc.sane h
  have hmode : (s.accepted f []).mode = 0 := (hacc.rd h 0 Reg.MODE_STAT_MODE).trans hm
  have haon : (s.accepted f []).aon = s.aon := hacc.part .aon
  have hfree : (s.accepted f []).aon.load = none := (congrArg Aon.load haon).trans hl
  have htime : (s.accepted f []).time = s.time := hacc.part .time
  have hmv := State.timeStaged_moves (s.accepted f []) (ofBE (frameParams f))
  have hsane := hmv.sane hu
  obtain ⟨hload, hset, hstaged, hpend⟩ := State.timeStaged_shows hu (ofBE (frameParams f))
  obtain ⟨t, hexec, ht⟩ := command_replies (exec_timeSet s) ha (timeSetAct_free hmode hfree f _) hsane (hmv.part .auth)
  have htaon := ht.moves.part .aon
  have htstaged := State.rtcStaged_congr (ht.moves.rd hsane 0 Reg.RTC_STAGE_LO_SEC) (ht.moves.rd hsane 0 Reg.RTC_STAGE_HI_SEC)
  exact ⟨t, hexec, ht.result, (congrArg Aon.load htaon).trans (htime ▸ hload), (congrArg Aon.setTo htaon).trans hset,
    htstaged.trans hstaged, (ht.moves.on hsane 0 Reg.RTC_STAT_LOAD_PENDING).trans hpend⟩

theorem timeSet_refused (hn : s.mode ≠ 0 ∨ s.aon.load.isSome = true) :
    ∃ t, exec .timeSet s = .next t ∧ (t.rd 0 Reg.AUTH_STAT_RESULT = 2 ∧ t.aon = s.aon) := by
  have hacc := s.accepted_moves f []
  have hmode : (s.accepted f []).mode = s.mode := hacc.rd h 0 Reg.MODE_STAT_MODE
  have haon : (s.accepted f []).aon = s.aon := hacc.part .aon
  obtain ⟨t, hexec, ht⟩ := command_replies (exec_timeSet s) ha (timeSetAct_taken (by rwa [hmode, haon]) f _) (hacc.sane h) rfl
  exact ⟨t, hexec, ht.result, (ht.moves.part .aon).trans haon⟩

end

/-! ### NV_PROTECT (R417) -/

/-- The parameters of NV_PROTECT: a block-protect level, three zero bytes. -/
def nvProtectParams (p : List Byte) : Bool := p.length == 4 && decide (byteAt p 0 ≤ 3) && zeroAt p 1 3

/-- The block-protect level `bp` is set, and twin 0 written with it. -/
def State.protectedAt (s : State) (bp : Nat) : State :=
  let s := s.wr 0 Reg.NVP_BP_BP bp
  s.twinWrite 0 s.identityBytes

/-- What NV_PROTECT comes to. -/
def nvProtectAct (s : State) (_ : AuthFrame) (p : List Byte) : AuthDone := ⟨s.protectedAt (byteAt p 0), .done, 0⟩

theorem exec_nvProtect (s : State) : exec .nvProtect s = .next (s.authCommand 0x0C rolesW nvProtectParams nvProtectAct) := rfl

theorem level_of_nvProtectParams {p : List Byte} (h : nvProtectParams p = true) : byteAt p 0 ≤ 3 := by
  simp only [nvProtectParams, Bool.and_eq_true, decide_eq_true_eq] at h
  obtain ⟨⟨-, hlevel⟩, -⟩ := h
  exact hlevel

theorem State.protectedAt_moves (s : State) (bp : Nat) : Moves 0x180000000080000000038 s (s.protectedAt bp) :=
  ((State.wr_moves ..).sub (Moves.at 16 rfl)).step (State.twinWrite_moves ..)

theorem State.protectedAt_level {s : State} (h : s.Sane) {bp : Nat} (hbp : bp ≤ 3) :
    (s.protectedAt bp).rd 0 Reg.NVP_BP_BP = bp := by
  have htwin := (State.twinWrite_moves (s.wr 0 Reg.NVP_BP_BP bp) 0 (s.wr 0 Reg.NVP_BP_BP bp).identityBytes).rd (h.wr ..) 0
    Reg.NVP_BP_BP
  exact htwin.trans ((State.rd_wr_same h ..).trans (Nat.mod_eq_of_lt (show bp < 4 by omega)))

theorem nvProtect_acts {s : State} (h : s.Sane) {f : AuthFrame} (ha : s.accepts f [] 0x0C rolesW nvProtectParams) :
    ∃ t, exec .nvProtect s = .next t ∧
      (t.rd 0 Reg.AUTH_STAT_RESULT = 0 ∧ t.rd 0 Reg.NVP_BP_BP = byteAt (frameParams f) 0 ∧
      t.mem = ((s.accepted f []).protectedAt (byteAt (frameParams f) 0)).mem) := by
  have hu := State.accepted_sane h f
  have hm := (s.accepted f []).protectedAt_moves (byteAt (frameParams f) 0)
  obtain ⟨t, hexec, ht⟩ := command_replies (act := nvProtectAct) (exec_nvProtect s) ha rfl (hm.sane hu) (hm.part .auth)
  exact ⟨t, hexec, ht.result, (ht.moves.rd (hm.sane hu) 0 Reg.NVP_BP_BP).trans
    (State.protectedAt_level hu (level_of_nvProtectParams ha.params)), ht.moves.part .mem⟩

/-! ### TRIM_COMMIT (R401) -/

/-- The four fields of the trim as twin 1 stores them. -/
def State.trimUnits (s : State) : List Byte :=
  let unit (g : FieldDef) : List Byte := toLE 4 (ofInt 32 (toInt 12 (s.rd 1 g)))
  unit (Reg.F_FAO_ZEROk_UNITS.i 0) ++ unit (Reg.F_FAO_SPANk_UNITS.i 0) ++ unit (Reg.F_FAO_ZEROk_UNITS.i 1) ++
    unit (Reg.F_FAO_SPANk_UNITS.i 1)

theorem State.trimUnits_congr {s t : State}
    (hz : t.rd 1 (Reg.F_FAO_ZEROk_UNITS.i 0) = s.rd 1 (Reg.F_FAO_ZEROk_UNITS.i 0))
    (hs : t.rd 1 (Reg.F_FAO_SPANk_UNITS.i 0) = s.rd 1 (Reg.F_FAO_SPANk_UNITS.i 0))
    (hz' : t.rd 1 (Reg.F_FAO_ZEROk_UNITS.i 1) = s.rd 1 (Reg.F_FAO_ZEROk_UNITS.i 1))
    (hs' : t.rd 1 (Reg.F_FAO_SPANk_UNITS.i 1) = s.rd 1 (Reg.F_FAO_SPANk_UNITS.i 1)) : t.trimUnits = s.trimUnits := by
  simp only [State.trimUnits, hz, hs, hz', hs']

/-- What TRIM_COMMIT comes to. -/
def trimCommitAct (s : State) (_ : AuthFrame) (_ : List Byte) : AuthDone :=
  if s.trimming then ⟨s, .refused, 0⟩ else ⟨(s.twinWrite 1 s.trimUnits).setTrim 0, .done, 0⟩

theorem exec_trimCommit (s : State) : exec .trimCommit s = .next (s.authCommand 0x0F rolesOEW List.isEmpty trimCommitAct) := rfl

theorem trimCommitAct_over {s : State} (hn : s.trimming = false) (f : AuthFrame) (p : List Byte) :
    trimCommitAct s f p = ⟨(s.twinWrite 1 s.trimUnits).setTrim 0, .done, 0⟩ :=
  if_neg (Bool.eq_false_iff.mp hn)

theorem trimCommitAct_trimming {s : State} (ht : s.trimming = true) (f : AuthFrame) (p : List Byte) :
    trimCommitAct s f p = ⟨s, .refused, 0⟩ :=
  if_pos ht

section
variable {s : State} (h : s.Sane) {f : AuthFrame} (ha : s.accepts f [] 0x0F rolesOEW List.isEmpty)
include h

theorem State.accepted_trimming (f : AuthFrame) : (s.accepted f []).trimming = s.trimming := by
  rw [State.trimming, State.trimming, (s.accepted_moves f []).rd h 1 Reg.F_FAO_TRIM_STAT_STATE]

theorem State.accepted_trimUnits (f : AuthFrame) : (s.accepted f []).trimUnits = s.trimUnits :=
  let hacc := s.accepted_moves f []
  State.trimUnits_congr (hacc.rd h 1 _) (hacc.rd h 1 _) (hacc.rd h 1 _) (hacc.rd h 1 _)

include ha

theorem trimCommit_stores (hn : s.trimming = false) :
    ∃ t, exec .trimCommit s = .next t ∧
      (t.rd 0 Reg.AUTH_STAT_RESULT = 0 ∧ t.rd 1 Reg.F_FAO_TRIM_STAT_STATE = 0 ∧
      t.mem = ((s.accepted f []).twinWrite 1 s.trimUnits).mem) := by
  have hu := State.accepted_sane h f
  have hover := (State.accepted_trimming h f).trans hn
  have hmem := State.twinWrite_moves (s.accepted f []) 1 (s.accepted f []).trimUnits
  have hset := State.setTrim_moves ((s.accepted f []).twinWrite 1 (s.accepted f []).trimUnits) 0
  have hsane := hset.sane (hmem.sane hu)
  obtain ⟨t, hexec, ht⟩ := command_replies (exec_trimCommit s) ha (trimCommitAct_over hover f _) hsane
    ((hset.part .auth).trans (hmem.part .auth))
  rw [← State.accepted_trimUnits h f]
  exact ⟨t, hexec, ht.result, (ht.moves.rd hsane 1 Reg.F_FAO_TRIM_STAT_STATE).trans
    (State.setTrim_state (hmem.sane hu) (by decide)), (ht.moves.part .mem).trans (hset.part .mem)⟩

theorem trimCommit_refused (ht : s.trimming = true) :
    ∃ t, exec .trimCommit s = .next t ∧ (t.rd 0 Reg.AUTH_STAT_RESULT = 2 ∧ t.mem = (s.accepted f []).mem) := by
  obtain ⟨t, hexec, hreply⟩ := command_replies (exec_trimCommit s) ha
    (trimCommitAct_trimming ((State.accepted_trimming h f).trans ht) f _) (State.accepted_sane h f) rfl
  exact ⟨t, hexec, hreply.result, hreply.moves.part .mem⟩

end

/-! ### KEY_ROTATE (R485, R487) -/

/-- The parameters of KEY_ROTATE: a target, a role, two zero bytes, and as much as the two ask for. -/
def keyRotateParams (p : List Byte) : Bool :=
  decide (byteAt p 0 ≤ 17) && decide (byteAt p 1 ≤ 6) && zeroAt p 2 2 && p.length == rotateLength (byteAt p 0) (byteAt p 1)

/-- The roles that may send KEY_ROTATE. -/
def rotateRoles (r : Nat) (_ : List Byte) : Bool := r == 2 || r == 3 || r == 4

/-- The key store has changed. -/
def keyChanged (s : State) : AuthDone := ⟨s.irq 0 0x12 2, .done, 0⟩

/-- A key for a slot is unwrapped with the issuer's key, and stored under the device key. -/
def keyStored (s : State) (f : AuthFrame) (p : List Byte) : AuthDone :=
  match Crypto.keyUnwrap (s.slotKey (byteAt f.bytes 2)) (p.drop 4) with
  | some k => keyChanged (s.keyWrite (byteAt p 0) (byteAt p 1) ((Crypto.keyWrap Config.deviceKey k).take 40))
  | none => ⟨s, .format, 0⟩

/-- What KEY_ROTATE comes to. -/
def keyRotateAct (s : State) (f : AuthFrame) (p : List Byte) : AuthDone :=
  if !mayRotate s (s.keyRole (byteAt f.bytes 2)) (byteAt p 0) (byteAt p 1) then ⟨s, .role, 0⟩
  else if byteAt p 0 = 17 then keyChanged (s.setCell 22 1)
  else if byteAt p 0 = 16 then keyChanged (s.keyWrite 16 0 (p.drop 4))
  else if s.keyRole (byteAt p 0) = 3 ∧ byteAt p 1 ≠ 3 ∧ !((List.range 16).any fun k => k != byteAt p 0 && s.keyRole k == 3) then
    ⟨s.wr 0 Reg.AUTH_STAT_CODE 1, .refused, 1⟩
  else if byteAt p 1 = 0 then keyChanged (s.keyWrite (byteAt p 0) 0 (List.replicate 40 0))
  else keyStored s f p

theorem exec_keyRotate (s : State) :
    exec .keyRotate s = .next (s.authCommand 0x0D rotateRoles keyRotateParams keyRotateAct) := rfl

/-- Slot `target` holds the only key of an owner, and would no longer. -/
def State.LastOwner (s : State) (target role : Nat) : Prop :=
  s.keyRole target = 3 ∧ role ≠ 3 ∧ ∀ k, k < 16 → k ≠ target → s.keyRole k ≠ 3

theorem State.lastOwner_iff {s : State} {target role : Nat} :
    s.LastOwner target role ↔
      s.keyRole target = 3 ∧ role ≠ 3 ∧ (!((List.range 16).any fun k => k != target && s.keyRole k == 3)) = true := by
  simp [State.LastOwner]

theorem keyRotateAct_moves (s : State) (f : AuthFrame) (p : List Byte) :
    Moves 0x400000000080000000038 s (keyRotateAct s f p).st := by
  unfold keyRotateAct
  have hchanged (t : State) : Moves 0x400000000080000000038 t (keyChanged t).st := (State.irq_moves ..).sub (Moves.at 18 rfl)
  refine Moves.iteF (g := AuthDone.st) .refl (Moves.iteF (g := AuthDone.st) ?_ (Moves.iteF (g := AuthDone.st) ?_
    (Moves.iteF (g := AuthDone.st) ?_ (Moves.iteF (g := AuthDone.st) ?_ ?_))))
  · exact (State.setCell_moves ..).sub.trans (hchanged _)
  · exact (State.keyWrite_moves ..).sub.trans (hchanged _)
  · exact (State.wr_moves ..).sub (Moves.at 18 rfl)
  · exact (State.keyWrite_moves ..).sub.trans (hchanged _)
  · unfold keyStored
    split
    · exact (State.keyWrite_moves ..).sub.trans (hchanged _)
    · exact .refl

section
variable {s : State} {f : AuthFrame} {p : List Byte}

theorem keyRotateAct_barred (hmay : mayRotate s (s.keyRole (byteAt f.bytes 2)) (byteAt p 0) (byteAt p 1) = false) :
    keyRotateAct s f p = ⟨s, .role, 0⟩ :=
  if_pos (by rw [hmay]; rfl)

variable (hmay : mayRotate s (s.keyRole (byteAt f.bytes 2)) (byteAt p 0) (byteAt p 1) = true)
include hmay

theorem keyRotateAct_lock (ht : byteAt p 0 = 17) : keyRotateAct s f p = keyChanged (s.setCell 22 1) := by
  rw [keyRotateAct, hmay, if_neg (by decide), if_pos ht]

theorem keyRotateAct_sealing (ht : byteAt p 0 = 16) : keyRotateAct s f p = keyChanged (s.keyWrite 16 0 (p.drop 4)) := by
  rw [keyRotateAct, hmay, if_neg (by decide), if_neg (by omega), if_pos ht]

variable (ht : byteAt p 0 < 16)
include ht

theorem keyRotateAct_lastOwner (hlast : s.LastOwner (byteAt p 0) (byteAt p 1)) :
    keyRotateAct s f p = ⟨s.wr 0 Reg.AUTH_STAT_CODE 1, .refused, 1⟩ := by
  rw [keyRotateAct, hmay, if_neg (by decide), if_neg (by omega), if_neg (by omega), if_pos (State.lastOwner_iff.mp hlast)]

variable (hlast : ¬ s.LastOwner (byteAt p 0) (byteAt p 1))
include hlast

theorem keyRotateAct_erase (hrole : byteAt p 1 = 0) :
    keyRotateAct s f p = keyChanged (s.keyWrite (byteAt p 0) 0 (List.replicate 40 0)) := by
  rw [keyRotateAct, hmay, if_neg (by decide), if_neg (by omega), if_neg (by omega), if_neg (hlast ∘ State.lastOwner_iff.mpr),
    if_pos hrole]

theorem keyRotateAct_store (hrole : byteAt p 1 ≠ 0) : keyRotateAct s f p = keyStored s f p := by
  rw [keyRotateAct, hmay, if_neg (by decide), if_neg (by omega), if_neg (by omega), if_neg (hlast ∘ State.lastOwner_iff.mpr),
    if_neg hrole]

theorem keyRotateAct_unwrapped (hrole : byteAt p 1 ≠ 0) {k : List Byte}
    (hk : Crypto.keyUnwrap (s.slotKey (byteAt f.bytes 2)) (p.drop 4) = some k) :
    keyRotateAct s f p = keyChanged (s.keyWrite (byteAt p 0) (byteAt p 1) ((Crypto.keyWrap Config.deviceKey k).take 40)) := by
  rw [keyRotateAct_store hmay ht hlast hrole, keyStored, hk]

theorem keyRotateAct_malformed (hrole : byteAt p 1 ≠ 0)
    (hk : Crypto.keyUnwrap (s.slotKey (byteAt f.bytes 2)) (p.drop 4) = none) : keyRotateAct s f p = ⟨s, .format, 0⟩ := by
  rw [keyRotateAct_store hmay ht hlast hrole, keyStored, hk]

end

/-- A command whose act raised the interrupt of the key store is done, with the memory of that act. -/
theorem AuthDone.Replied.keyChanged {d : AuthDone} {t x : State} (ht : d.Replied t) (hd : d = Machine.keyChanged x) :
    t.rd 0 Reg.AUTH_STAT_RESULT = 0 ∧ t.mem = x.mem := by
  subst hd
  exact ⟨ht.result, ht.moves.part .mem⟩

/-- A command that answers `r` and leaves the state keeps the memory. -/
theorem AuthDone.Replied.kept {d : AuthDone} {t x : State} {r : AuthResult} {n : Nat} (ht : d.Replied t) (hd : d = ⟨x, r, n⟩) :
    t.rd 0 Reg.AUTH_STAT_RESULT = r.code ∧ t.mem = x.mem := by
  subst hd
  exact ⟨ht.result, ht.moves.part .mem⟩

/-- The last owner's key stays, and the code says why. -/
theorem AuthDone.Replied.lastOwner {d : AuthDone} {t x : State} (ht : d.Replied t) (hx : x.Sane)
    (hd : d = ⟨x.wr 0 Reg.AUTH_STAT_CODE 1, .refused, 1⟩) :
    t.rd 0 Reg.AUTH_STAT_RESULT = 2 ∧ t.rd 0 Reg.AUTH_STAT_CODE = 1 ∧ t.mem = x.mem := by
  subst hd
  exact ⟨ht.result, ht.code.trans (State.rd_wr_same hx ..), ht.moves.part .mem⟩

theorem keyRotate_replies {s : State} (h : s.Sane) {f : AuthFrame} (ha : s.accepts f [] 0x0D rotateRoles keyRotateParams) :
    ∃ t, exec .keyRotate s = .next t ∧ (keyRotateAct (s.accepted f []) f (frameParams f)).Replied t := by
  have hm := keyRotateAct_moves (s.accepted f []) f (frameParams f)
  exact command_replies (exec_keyRotate s) ha rfl (hm.sane (State.accepted_sane h f)) (hm.part .auth)

theorem keyRotate_acts {s : State} (h : s.Sane) {f : AuthFrame} (ha : s.accepts f [] 0x0D rotateRoles keyRotateParams) :
    let p := frameParams f
    let u := s.accepted f []
    let may := mayRotate u (u.keyRole (byteAt f.bytes 2)) (byteAt p 0) (byteAt p 1)
    let lastOwner := u.LastOwner (byteAt p 0) (byteAt p 1)
    ∃ t, exec .keyRotate s = .next t ∧
      ((may = false → t.rd 0 Reg.AUTH_STAT_RESULT = 5 ∧ t.mem = u.mem) ∧
      (may = true → byteAt p 0 = 17 → t.rd 0 Reg.AUTH_STAT_RESULT = 0 ∧ t.mem = (u.setCell 22 1).mem) ∧
      (may = true → byteAt p 0 = 16 → t.rd 0 Reg.AUTH_STAT_RESULT = 0 ∧ t.mem = (u.keyWrite 16 0 (p.drop 4)).mem) ∧
      (may = true → byteAt p 0 < 16 → lastOwner →
        t.rd 0 Reg.AUTH_STAT_RESULT = 2 ∧ t.rd 0 Reg.AUTH_STAT_CODE = 1 ∧ t.mem = u.mem) ∧
      (may = true → byteAt p 0 < 16 → ¬lastOwner → byteAt p 1 = 0 →
        t.rd 0 Reg.AUTH_STAT_RESULT = 0 ∧ t.mem = (u.keyWrite (byteAt p 0) 0 (List.replicate 40 0)).mem) ∧
      (may = true → byteAt p 0 < 16 → ¬lastOwner → byteAt p 1 ≠ 0 →
        (∀ k, Crypto.keyUnwrap (u.slotKey (byteAt f.bytes 2)) (p.drop 4) = some k →
          t.rd 0 Reg.AUTH_STAT_RESULT = 0 ∧
          t.mem = (u.keyWrite (byteAt p 0) (byteAt p 1) ((Crypto.keyWrap Config.deviceKey k).take 40)).mem) ∧
        (Crypto.keyUnwrap (u.slotKey (byteAt f.bytes 2)) (p.drop 4) = none →
          t.rd 0 Reg.AUTH_STAT_RESULT = 6 ∧ t.mem = u.mem))) := by
  obtain ⟨t, hexec, ht⟩ := keyRotate_replies h ha
  have hu := State.accepted_sane h f
  exact ⟨t, hexec, fun hmay => ht.kept (keyRotateAct_barred hmay), fun hmay h17 => ht.keyChanged (keyRotateAct_lock hmay h17),
    fun hmay h16 => ht.keyChanged (keyRotateAct_sealing hmay h16),
    fun hmay hslot hlast => ht.lastOwner hu (keyRotateAct_lastOwner hmay hslot hlast),
    fun hmay hslot hlast hrole => ht.keyChanged (keyRotateAct_erase hmay hslot hlast hrole),
    fun hmay hslot hlast hrole => ⟨fun _ hk => ht.keyChanged (keyRotateAct_unwrapped hmay hslot hlast hrole hk),
      fun hk => ht.kept (keyRotateAct_malformed hmay hslot hlast hrole hk)⟩⟩

/-- Settles O54: the five commands, each by what it comes to in the state in which its frame was accepted. -/
theorem criticalCommandsActWhenAccepted : Obligations.CriticalCommandsActWhenAccepted :=
  fun _ _ h => ⟨fun ha => ⟨modeSet_admitted h ha, fun _ => modeSet_refused h ha⟩,
    fun ha => ⟨timeSet_stages h ha, timeSet_refused h ha⟩, nvProtect_acts h,
    fun ha => ⟨trimCommit_stores h ha, trimCommit_refused h ha⟩, keyRotate_acts h⟩

end Sys2Proof.Machine
end
